-- ==== Sys2Proof/Word.lean ====
section
/-! DEFINITION. The word types of the K8: a register is 32 bits (R15), memories are addressed by the byte. -/

namespace Sys2Proof

/-- A 32-bit register, register field group or lane of a cell vector (R15). -/
abbrev Word := BitVec 32

/-- One byte of a memory, a frame or a payload. -/
abbrev Byte := BitVec 8

end Sys2Proof
end

