-- ==== Sys2Proof/Syntax.lean ====
section
/-! DEFINITION. The commands of the K8 (one constructor per row of spec/opcode_table.json) and the data they carry. -/

namespace Sys2Proof

/-- The path a register access arrives on (R724): a function's BAR0, the console, SMBus or the TAP. -/
inductive Path where
  | fn (f : Nat)
  | console
  | smbus
  | tap
  deriving DecidableEq, Repr

/-- The common header of a taken descriptor (R564) and what the DMA read found: which queue it came from, its flags,
whether the read succeeded (R563), whether every reserved field and byte is 0 (R566), and whether PCIe takes the write of its
completion (R579). DESIGN CHOICE: log 13. -/
structure Desc where
  fn    : Nat
  sq    : Nat
  cid   : Nat
  fence : Bool
  quiet : Bool
  rdOk  : Bool
  rsvOk : Bool
  cplOk : Bool
  deriving DecidableEq, Repr

/-- The header and payload of a KFP packet (R163, R164). -/
structure Pkt where
  ver   : Nat
  kind  : Nat
  sched : Bool
  vc    : Nat
  ce    : Bool
  kflag : Bool
  pav   : Nat
  hops  : Nat
  len   : Nat
  dst   : Nat
  src   : Nat
  seq   : Nat
  tag   : Nat
  payload : List Byte
  deriving DecidableEq, Repr

/-- A packet as it arrives on a link: the packet, its trailer, whether its terminate character came at the wrong place (R169,
R171), and whether an error control block or an uncorrectable codeword came with it (R457). -/
structure RxPkt where
  pkt     : Pkt
  trailer : Nat
  lenErr  : Bool
  lineErr : Bool
  deriving DecidableEq, Repr

/-- What a packet's last flit has left: an egress, or the buffer a consuming unit has read (R228). -/
inductive TxRef where
  | egress (egr : Nat)
  | unit (id : Nat)
  deriving DecidableEq, Repr

/-- Where a packet for a unit of the switch comes from: a sub-port, or the K8 itself. -/
inductive RxSrc where
  | link (port sub : Nat) (rx : RxPkt) (arrival : Nat)
  | own
  deriving DecidableEq, Repr

/-! ## An image, section by section (R501–R509) -/

/-- A bandstand action (R503). -/
structure Action where
  rel    : Nat
  offset : Nat
  xs     : Bool
  pav    : Nat
  kind   : Nat
  arg    : Nat
  deriving DecidableEq, Repr

/-- A cell launch: a launch record (R505), or the launch a landing entry triggers (R314, R343). -/
structure Launch where
  rowLo : Nat
  rowHi : Nat
  colLo : Nat
  colHi : Nat
  entry : Nat
  nlines : Nat
  pav   : Nat
  gate  : Option Nat      -- GATE_ENTRY where GATED is 1
  tag   : Nat
  ring  : Nat
  params : List Word      -- parameter words 0–6
  deriving DecidableEq, Repr

/-- A landing entry of a cluster (R343). -/
structure Landing where
  cluster : Nat
  index   : Nat
  pav     : Nat
  row     : Nat
  addr    : Nat
  len     : Nat
  expect  : Nat
  trigger : Bool
  launch  : Launch
  deriving DecidableEq, Repr

/-- A prefetch record (R507). -/
structure PfRec where
  src  : Nat
  tier : Nat
  unit : Nat
  dest : Nat
  len  : Nat
  deriving DecidableEq, Repr

/-- A region of the image as the Herwald runtime placed it (R502, R511): base and size in 4 KiB units. -/
structure RegionSec where
  kind : Nat
  die  : Nat
  pav  : Nat
  base : Nat
  size : Nat
  deriving DecidableEq, Repr

/-- A run of TENSOR_DATA: bytes for a region. -/
structure TensorRun where
  region : Nat
  offset : Nat
  bytes  : List Byte
  deriving DecidableEq, Repr

/-- A calendar run (R262). -/
structure CalRun where
  offset : Nat
  len    : Nat
  egr    : Nat
  deriving DecidableEq, Repr

/-- A run of the CALENDAR section, with its PAVILION (R502, R591). -/
structure CalSec where
  pav : Nat
  run : CalRun
  deriving DecidableEq, Repr

/-- An entry of the ROUTE section: a switch (1) or site (2) entry's SEGR and SEGR_VALID, or an endpoint (0) entry's EGR. -/
structure RouteEnt where
  table : Nat
  index : Nat
  egr   : Nat
  valid : Bool
  deriving DecidableEq, Repr

/-- A PLACE range (R496): tier 0 cell SRAM of the cell (`where1` row, `where2` virtual column), 1 scheduled region of die
`where1` in flits × 64, 2 Ember store of die `where1`, 3 operand SRAM of unit `where1`; base and size in bytes. -/
structure PlaceEnt where
  tier   : Nat
  where1 : Nat
  where2 : Nat
  pav    : Nat
  base   : Nat
  size   : Nat
  deriving DecidableEq, Repr

/-- A phase of the schedule period (R498): REL_SLOT range and token count per pavilion. -/
structure Phase where
  lo : Nat
  hi : Nat
  counts : List (Nat × Nat)
  deriving DecidableEq, Repr

/-- An image as the K8 reads it from host memory: the host address and the length that IMAGE_LOAD names, the bytes there, and
`dmaOk`, whether PCIe served the read. The header and the sections whose entries the spec lays out are read from the bytes (R501,
R502); the other sections stand here as their entries. LAYOUT is a list of register offsets and values (column modes, BPM
layout, Ember windows) and of gather windows by index with DATA0 and DATA1. -/
structure Image where
  addr  : Nat
  len   : Nat
  dmaOk : Bool
  bytes : List Byte
  fwMin : Nat
  fports : Nat
  lports : Nat
  sports : Nat
  tokens : Nat
  hbm0 : Nat
  hbm1 : Nat
  period : Nat
  guard : Nat
  hyst : Nat
  id : Nat
  instr : List (Nat × Nat × List Byte)   -- cluster, line, 64 bytes
  landing : List Landing
  cellRec : List Launch
  actions0 : List Action
  actions1 : List Action
  mxu : List (List Nat)                  -- 32 words each (R506)
  pf : List PfRec
  tmpl : List (List Byte)                -- 16 B headers (R509)
  wset : List Nat
  region : List RegionSec
  data : List TensorRun
  cal : List CalSec
  route : List RouteEnt
  layout : List (Nat × Word)
  gwin : List (Nat × Nat × Nat)
  place : List PlaceEnt
  phases : List Phase
  deps : List (Nat × Nat)
  deriving DecidableEq, Repr

/-- The commands the K8 block takes, in the order of the table of operations and events, those without operands last (the
compiled form of an inductive gives no constructor with operands an index above 244). -/
inductive Instr where
  /-- COLD_RESET_ASSERT (R616). RST_N or PWR_OK goes low and the K8 enters cold reset, with every lane and the host port driving electrical idle. -/
  | coldResetAssert (pwrOk rstN : Bool)
  /-- COLD_RESET_RELEASE (R618). RST_N rises with PWR_OK high and the boot ROM starts the stage sequence at CLOCKS. -/
  | coldResetRelease (refclk : Bool)
  /-- PERST_RELEASE (R621). PERST_N rises and the host port starts link training, answering configuration requests with Retry Status until READY. -/
  | perstRelease (flit : Bool) (rate width numVf : Nat)
  /-- CFG_RESET_COLD (R643). A write of COLD with KEY 0x5A5A to CFG_RESET causes a cold reset. -/
  | cfgResetCold (path : Path) (v : Word)
  /-- CFG_RESET_WARM (R643). A write of WARM with KEY 0x5A5A to CFG_RESET causes a warm reset. -/
  | cfgResetWarm (path : Path) (v : Word)
  /-- FLASH_READ (R638). GO with OP 0 in CFG_FL_CMD starts a 256 B flash read into the page buffer. -/
  | flashRead (path : Path) (v : Word)
  /-- FLASH_PROGRAM (R638). GO with OP 1 in CFG_FL_CMD starts programming one 256 B page from the page buffer. -/
  | flashProgram (path : Path) (v : Word)
  /-- FLASH_ERASE (R638). GO with OP 2 in CFG_FL_CMD starts erasing a 64 KiB sector. -/
  | flashErase (path : Path) (v : Word)
  /-- FUSE_PROG (R642). GO with KEY 0x4F57 in CFG_FUSE_PROG starts programming the owner fuse from the staged value, if allowed. -/
  | fuseProg (path : Path) (v : Word)
  /-- PKG_LINK_RETRY (R26). A package link retries a flit at link layer, which is counted and, for a scheduled flit, sets PKG_RETRY. -/
  | pkgLinkRetry (link : Nat) (sched : Bool)
  /-- PKG_LINK_FAIL (R659). A flit fails 16 consecutive retries on a package link, which is fatal cause PKG_LINK. -/
  | pkgLinkFail (link pair : Nat)
  /-- SLOT_START (R90). At each slot start the time unit samples ROOT, reselects the source, sets WITHHOLD and sends the slot number to both bandstands. -/
  | slotStart (fault0 fault1 : Bool)
  /-- PPS_IN_PULSE (R76). A rising edge on PPS_IN is timestamped, checked against its window and, if accepted, increments TIM_PPS_SEC. -/
  | ppsInPulse (arrival high : Nat)
  /-- STC_MARK_RX (R68). A time mark is received on an STC lane, timestamped and used in the offset and delay computation. -/
  | stcMarkRx (lane : Nat) (syms : List Nat) (arrival : Nat)
  /-- STC_MARK_MISS (R79). An expected STC mark is missing; LOSS_COUNT consecutive misses make the source invalid. -/
  | stcMarkMiss (lane : Nat)
  /-- TIME_PACKET_RX (R73). A TIME packet is received on an L-port, timestamped and used to compute offset and path delay. -/
  | timePacketRx (lport : Nat) (rx : RxPkt) (arrival : Nat)
  /-- TIME_PACKET_MISS (R79). An expected TIME packet is missing; LOSS_COUNT consecutive misses make the L-port source invalid. -/
  | timePacketMiss (lport : Nat)
  /-- TIM_NOW_LO_READ (R56). A read of TIM_NOW_LO returns the low bits and latches the upper 32 bits into TIM_NOW_HI for that path. -/
  | timNowLoRead (path : Path)
  /-- ACTION_REFILL (R516). The refill engine appends the next action with its absolute slot to a bandstand queue that holds fewer than 64. -/
  | actionRefill (die : Nat)
  /-- CELL_LAUNCH (R318). A CELL_LAUNCH action fires, is checked and copies its program into the rectangle's instruction buffers. -/
  | cellLaunch (die : Nat)
  /-- MXU_LAUNCH (R403). An MXU_LAUNCH action fires, is checked and reserves the unit's power token. -/
  | mxuLaunch (die : Nat)
  /-- STREAM_SEND (R435). A STREAM_SEND action quantises step STEP and sends its residual chunks and raw slots. -/
  | streamSend (die : Nat)
  /-- STREAM_DECODE (R436). A STREAM_DECODE action gates on the step, checks digests and rebuilds the chunks in order. -/
  | streamDecode (die : Nat)
  /-- STREAM_UPDATE (R418). A STREAM_UPDATE action starts the predictor update of step STEP and advances STEP. -/
  | streamUpdate (die : Nat)
  /-- PREFETCH (R475). A PREFETCH action is checked and queued on its die's prefetch engine. -/
  | prefetch (die : Nat)
  /-- COL_START (R363). A COL_START action starts the next instance of a scheduled group stage. -/
  | colStart (die : Nat)
  /-- COL_LAUNCH (R376). A COL_LAUNCH action gates the stage program on member counts, starting it or completing MEMBER_LATE. -/
  | colLaunch (die : Nat)
  /-- COL_UP (R377). A COL_UP action sends the stage's up stream, or a failure notice in its place. -/
  | colUp (die : Nat)
  /-- COL_DOWN (R372). A COL_DOWN action sends the down stream or notices to child stages and RESULT data to endpoints. -/
  | colDown (die : Nat)
  /-- PORT_REST (R135). A PORT_REST action finishes any packet in progress and sends REST_COMMIT with ARG 1 for a scheduled window. -/
  | portRest (die : Nat)
  /-- PRT_CTRL_WRITE (R117). A write to PRT_CTRL sets mode, reach and enable, starting training when ENABLE goes from 0 to 1. -/
  | prtCtrlWrite (path : Path) (port : Nat) (v : Word)
  /-- PCS_LOCK (R122). A sub-port in TRAINING reaches PCS and FEC lock and enters HELLO. -/
  | pcsLock (port sub : Nat)
  /-- TRAIN_FAIL (R122). A sub-port has not reached HELLO within TRAIN_MS, enters DOWN and sets TRAIN_FAIL. -/
  | trainFail (port sub : Nat)
  /-- HELLO_SEND (R123). Once per microsecond a sub-port in HELLO sends HELLO_ID and HELLO_PORT. -/
  | helloSend (port sub : Nat)
  /-- HELLO_ID_RX (R124). A HELLO_ID ordered set is received from the peer sub-port. -/
  | helloIdRx (port sub arg : Nat)
  /-- HELLO_PORT_RX (R124). A HELLO_PORT is received and compared for MODE, sending HELLO_ACK or setting HELLO_MISMATCH. -/
  | helloPortRx (port sub arg : Nat)
  /-- HELLO_ACK_RX (R123). The peer's HELLO_ACK is received and, with its own ACK sent, the sub-port enters UP and records the peer. -/
  | helloAckRx (port sub : Nat)
  /-- HELLO_TIMEOUT (R124). No HELLO_ID arrives within 10 ms of entering HELLO and the sub-port enters DOWN. -/
  | helloTimeout (port sub : Nat)
  /-- RETRY_TIMEOUT (R125). RETRY_MS in DOWN expires and the sub-port retrains. -/
  | retryTimeout (port sub : Nat)
  /-- OS_UNKNOWN (R128). A K8 ordered set with an unknown KIND is received, discarded and counted. -/
  | osUnknown (port sub kind : Nat)
  /-- LINK_DOWN (R130). A loss condition holds on a sub-port, which enters DOWN, leaves route selection and is reported to time selection. -/
  | linkDown (port sub cause lost : Nat)
  /-- IDLE_REST_TIMEOUT (R136). IDLE_SLOTS idle slots pass with idle entry enabled and the end sends REST_REQ. -/
  | idleRestTimeout (port sub : Nat)
  /-- REST_REQ_RX (R137). A REST_REQ is answered with REST_ACK and REST_COMMIT, or with REST_NAK and a reason. -/
  | restReqRx (port sub : Nat)
  /-- REST_ACK_RX (R137). An initiator receives REST_ACK and sends REST_COMMIT with ARG 0 unless it has abandoned. -/
  | restAckRx (port sub : Nat)
  /-- REST_NAK_RX (R137). An initiator receives REST_NAK, stays UP and restarts its idle count. -/
  | restNakRx (port sub reason : Nat)
  /-- REST_COMMIT_RX (R146). The peer's REST_COMMIT is received and the receive direction rests. -/
  | restCommitRx (port sub arg : Nat)
  /-- REST_ABORT_RX (R143). A REST_ABORT from the peer is received as a wake request. -/
  | restAbortRx (port sub : Nat)
  /-- WAKE_RX (R146). A WAKE is received and the resting receive direction leaves rest. -/
  | wakeRx (port sub : Nat)
  /-- REST_ENTRY_DONE (R141). 600 ns after REST_COMMIT the direction is RESTING, and exit begins at once if a wake request is held. -/
  | restEntryDone (port sub : Nat)
  /-- REST_EXIT_DONE (R141). 1,400 ns after exit begins the end sends WAKE and is UP. -/
  | restExitDone (port sub : Nat)
  /-- REST_WINDOW_EXIT (R144). At CCLK 0 of slot SLOT + W - 2 the scheduled rest window begins its exit. -/
  | restWindowExit (port sub : Nat)
  /-- TIME_WINDOW_WAKE (R145). An L-port begins exit by CCLK 0 of slot 1,024m - 2 so it is UP for the TIME window. -/
  | timeWindowWake (port sub : Nat)
  /-- RX_SIGNAL_RETURN (R146). Signal returns on a resting receive direction, which is a wake request and starts CDR, block and FEC relock. -/
  | rxSignalReturn (port sub : Nat)
  /-- PRT_REST_WAKE (R143). A write of 1 to PRT_REST_CTRL.WAKE raises a wake request on every sub-port. -/
  | prtRestWake (path : Path) (port : Nat) (v : Word)
  /-- STC_LANE_UP (R156). Three K28.5 at one alignment and an error-free time mark bring an STC lane up. -/
  | stcLaneUp (lane : Nat)
  /-- STC_LANE_DOWN (R156). No comma for 1,024 ns or 4 errored symbols takes an STC lane down, and it starts to reacquire. -/
  | stcLaneDown (lane : Nat) (codeErrs dispErrs : Nat)
  /-- STC_FRAME_TX (R153). An STC control frame is started only if it ends at least 8 symbol times before the next slot start. -/
  | stcFrameTx (lane type : Nat) (payload : List Byte) (withdrawn : Option Nat)
  /-- STC_FRAME_RX (R155). A control frame is received and checked for CRC, LEN and TYPE. -/
  | stcFrameRx (lane : Nat) (syms : List Nat)
  /-- LNE_TEST_MODE_WRITE (R161). Enabling a pattern generator, checker or loopback on a lane puts its sub-port in TEST or takes the STC lane down. -/
  | lneTestModeWrite (path : Path) (off : Nat) (v : Word)
  /-- LNE_INJECT_FIRE (R159). A write of FIRE inverts one bit or a burst of bits at the serializer input. -/
  | lneInjectFire (path : Path) (lane : Nat) (v : Word)
  /-- INJECT_RATE_EXPIRE (R159). In rate mode, each 2^RATE_EXP bits one bit is inverted. -/
  | injectRateExpire (lane : Nat)
  /-- CHECKER_LOCK (R158). The pattern checker sees 64 consecutive error-free bits and reports lock. -/
  | checkerLock (lane : Nat) (bits : List Bool)
  /-- CHECKER_LOCK_LOST (R158). More than 64 of 1,024 bits are in error, so the checker drops lock and searches again. -/
  | checkerLockLost (lane : Nat) (bits : List Bool)
  /-- LNE_PATCHK_CLEAR (R158). A write of CLEAR to LNE_PATCHK clears the checked-bit and error counters. -/
  | lnePatchkClear (path : Path) (lane : Nat) (v : Word)
  /-- ROUTED_PACKET_RX (R178). A routed KFP packet arrives, is checked, policed, buffered and looked up for delivery or forwarding. -/
  | routedPacketRx (port sub : Nat) (rx : RxPkt) (arrival : Nat)
  /-- SPRAY_SELECT (R185). An unscheduled packet selects a candidate egress with enough credit, or waits and repeats on credit or link change. -/
  | spraySelect (id time : Nat)
  /-- CREDIT_SEND (R197). A CREDIT packet becomes ready within its bounds after an advance, or as an 8 us refresh. -/
  | creditSend (port sub time : Nat)
  /-- CREDIT_RX (R198). A CREDIT packet is received and each CUMv ahead of the sender's view is accepted. -/
  | creditRx (port sub : Nat) (rx : RxPkt)
  /-- PACKET_AGED (R199). An unscheduled packet's residence reaches MAX_RES_US and it is discarded under AGED. -/
  | packetAged (id : Nat)
  /-- PACKET_TX_DONE (R228). A packet's last flit leaves its egress, so it leaves the queue depth and its buffer is freed. -/
  | packetTxDone (ref : TxRef)
  /-- RTE_TBL_READ (R208). GO with OP 0 in RTE_TBL_CMD reads a route table entry into DATA0-DATA3. -/
  | rteTblRead (path : Path) (v : Word)
  /-- RTE_TBL_WRITE (R208). GO with OP 1 in RTE_TBL_CMD writes one route table entry atomically. -/
  | rteTblWrite (path : Path) (v : Word)
  /-- BPM_ENABLE_WRITE (R218). A write of 1 to BPM_CTRL.ENABLE checks the layout and starts filling the free rings. -/
  | bpmEnableWrite (path : Path) (die : Nat) (v : Word)
  /-- BPM_RING_FILL_DONE (R219). The rings are filled, holdings cleared and READY is set. -/
  | bpmRingFillDone (die : Nat)
  /-- HANDLE_CACHE_REFILL (R233). A port cache holding fewer than 8 handles takes 8 from the ring head. -/
  | handleCacheRefill (die aport pool : Nat) (bad : List Nat)
  /-- BPM_OWN_READ (R238). GO with OP 0 in BPM_OWN_CMD reads an owner entry. -/
  | bpmOwnRead (path : Path) (die : Nat) (v : Word)
  /-- BPM_OWN_WRITE (R238). GO with OP 1 in BPM_OWN_CMD writes an owner entry, subject to the pool and pavilion caps. -/
  | bpmOwnWrite (path : Path) (die : Nat) (v : Word)
  /-- EGRESS_SELECT (R245). An idle UP egress chooses a due scheduled packet, a link-local packet or a fitting queued packet. -/
  | egressSelect (egr time : Nat)
  /-- SCHED_STAGE (R248). A scheduled or TIME packet is staged at its egress 32 PCLK before its due cycle. -/
  | schedStage (egr : Nat)
  /-- S_FRAME_RX (R115). An Ethernet frame is received on an S-port and checked for FCS and length. -/
  | sFrameRx (sport : Nat) (bytes : List Byte) (fcsOk : Bool) (arrival : Nat)
  /-- PAUSE_RX (R273). A PAUSE frame in MODE 1 sets the link pause timer. -/
  | pauseRx (sport : Nat) (bytes : List Byte) (fcsOk : Bool) (arrival : Nat)
  /-- PFC_RX (R272). A PFC frame in MODE 2 sets the timers of enabled priorities. -/
  | pfcRx (sport : Nat) (bytes : List Byte) (fcsOk : Bool) (arrival : Nat)
  /-- MAC_CONTROL_IGNORED (R272). A MAC Control frame not acted on in the current mode is consumed and counted in CTRL_IGNORED. -/
  | macControlIgnored (sport : Nat) (bytes : List Byte) (fcsOk : Bool) (arrival : Nat)
  /-- PAUSE_TIMER_EXPIRE (R273). A pause timer reaches zero and its queues may be served again. -/
  | pauseTimerExpire (sport pri : Nat)
  /-- PAUSE_REFRESH (R276). While held buffers stay above XON, the pause frame is repeated every REFRESH_QUANTA. -/
  | pauseRefresh (sport pri : Nat)
  /-- SCH_CAL_READ (R208). GO with OP 0 in SCH_CAL_CMD reads a calendar run. -/
  | schCalRead (path : Path) (v : Word)
  /-- SCH_CAL_WRITE (R263). GO with OP 1 in SCH_CAL_CMD writes a calendar run, ignored while a schedule runs. -/
  | schCalWrite (path : Path) (v : Word)
  /-- SCH_POL_READ (R208). GO with OP 0 in SCH_POL_CMD reads a policer entry. -/
  | schPolRead (path : Path) (v : Word)
  /-- SCH_POL_WRITE (R270). GO with OP 1 in SCH_POL_CMD writes a policer entry, filling both buckets when enabled. -/
  | schPolWrite (path : Path) (v : Word)
  /-- TRIGGER_LAUNCH (R315). A TRIGGER landing entry reaches EXPECT and fires its launch, or queues it if a cell is running. -/
  | triggerLaunch (entry : Nat)
  /-- QUEUED_TRIGGER_START (R346). A trigger waiting in the cluster launch queue starts when its cells are free. -/
  | queuedTriggerStart (cluster : Nat)
  /-- GATEWAY_DEPOSIT (R344). The gateway writes a payload into a landing entry of cell SRAM and updates COUNT. -/
  | gatewayDeposit (cluster : Nat)
  /-- NOP (R325). The cell issues an instruction that does nothing. -/
  | nop (cell : Nat)
  /-- SADD (R325). Scalar add of two SX registers. -/
  | sadd (cell : Nat)
  /-- SSUB (R325). Scalar subtract of two SX registers. -/
  | ssub (cell : Nat)
  /-- SMUL (R325). Scalar multiply of two SX registers with latency 2. -/
  | smul (cell : Nat)
  /-- SAND (R325). Scalar bitwise AND. -/
  | sand (cell : Nat)
  /-- SOR (R325). Scalar bitwise OR. -/
  | sor (cell : Nat)
  /-- SXOR (R325). Scalar bitwise XOR. -/
  | sxor (cell : Nat)
  /-- SSHL (R325). Scalar shift left. -/
  | sshl (cell : Nat)
  /-- SSHR (R325). Scalar shift right. -/
  | sshr (cell : Nat)
  /-- SLI (R325). Loads an immediate into a scalar register. -/
  | sli (cell : Nat)
  /-- SADDI (R325). Adds an immediate to a scalar register. -/
  | saddi (cell : Nat)
  /-- SLD (R334). Loads a 32-bit word from cell SRAM into a scalar register. -/
  | sld (cell : Nat)
  /-- SST (R334). Stores a scalar register to a word of cell SRAM. -/
  | sst (cell : Nat)
  /-- VADD (R325). Lane-wise FP32 add. -/
  | vadd (cell : Nat)
  /-- VSUB (R325). Lane-wise FP32 subtract. -/
  | vsub (cell : Nat)
  /-- VMUL (R325). Lane-wise FP32 multiply. -/
  | vmul (cell : Nat)
  /-- VFMA (R325). Lane-wise FP32 fused multiply-add into the destination. -/
  | vfma (cell : Nat)
  /-- VMAX (R292). Lane-wise maximum with NaN and signed-zero ordering. -/
  | vmax (cell : Nat)
  /-- VMIN (R292). Lane-wise minimum with NaN and signed-zero ordering. -/
  | vmin (cell : Nat)
  /-- VRCP (R291). Lane-wise correctly rounded reciprocal. -/
  | vrcp (cell : Nat)
  /-- VDIV (R291). Lane-wise correctly rounded divide. -/
  | vdiv (cell : Nat)
  /-- VRSUM (R286). Pairwise-tree sum of 16 lanes into lane 0. -/
  | vrsum (cell : Nat)
  /-- VTSUM (R301). One compensated-pair step adding a vector to a register pair. -/
  | vtsum (cell : Nat)
  /-- VPWL (R310). Evaluates the GATE or SHAPE PWL table on each lane. -/
  | vpwl (cell : Nat)
  /-- VIADD (R288). Lane-wise saturating INT32 add. -/
  | viadd (cell : Nat)
  /-- VIMUL (R288). Lane-wise saturating INT32 multiply. -/
  | vimul (cell : Nat)
  /-- VAND (R325). Lane-wise bitwise AND. -/
  | vand (cell : Nat)
  /-- VOR (R325). Lane-wise bitwise OR. -/
  | vor (cell : Nat)
  /-- VXOR (R325). Lane-wise bitwise XOR. -/
  | vxor (cell : Nat)
  /-- VSHL (R325). Lane-wise shift left. -/
  | vshl (cell : Nat)
  /-- VSHR (R325). Lane-wise shift right. -/
  | vshr (cell : Nat)
  /-- VCMP (R326). Lane-wise compare that writes a mask register. -/
  | vcmp (cell : Nat)
  /-- VSEL (R325). Lane-wise select between two vectors by a mask. -/
  | vsel (cell : Nat)
  /-- VCVT (R325). Rounds FP32 lanes onto a format grid, optionally after block scaling. -/
  | vcvt (cell : Nat)
  /-- VBSCALE (R299). Computes the block scale of 32 values into a scalar register. -/
  | vbscale (cell : Nat)
  /-- VLD (R334). Loads 16 elements of a format from cell SRAM and widens them. -/
  | vld (cell : Nat)
  /-- VST (R325). Rounds a vector to a format and stores it to cell SRAM. -/
  | vst (cell : Nat)
  /-- VLDX (R335). Gathers one word per lane at indexed addresses. -/
  | vldx (cell : Nat)
  /-- VSTX (R335). Scatters one word per lane, the highest lane winning on conflicts. -/
  | vstx (cell : Nat)
  /-- VADDX (R335). Adds each lane into its indexed word in ascending lane order. -/
  | vaddx (cell : Nat)
  /-- VHASH (R327). Computes the counter hash with DOMAIN 4 for each lane. -/
  | vhash (cell : Nat)
  /-- SEND (R337). Injects a vector register into the mesh toward a virtual cell. -/
  | send (cell : Nat)
  /-- RECV (R341). Takes the oldest flit of the input queue, stalling while it is empty. -/
  | recv (cell : Nat)
  /-- GPOST_EMIT_SCHED (R347). Posts a gateway command that emits a scheduled packet from a template and cell SRAM. -/
  | gpostEmitSched (cell : Nat)
  /-- GPOST_EMIT_UNSCHED (R347). Posts a gateway command that emits an unscheduled packet through allocator port 13. -/
  | gpostEmitUnsched (cell : Nat)
  /-- GPOST_FETCH (R508). Posts a gateway command that copies flits from operand SRAM into cell SRAM. -/
  | gpostFetch (cell : Nat)
  /-- GPOST_PUT (R508). Posts a gateway command that copies flits from cell SRAM into operand SRAM. -/
  | gpostPut (cell : Nat)
  /-- LOOP (R329). Repeats the next instructions a count of times, up to four levels deep. -/
  | loop (cell : Nat)
  /-- WAITC (R331). Issues nothing further until a compiled cycle of the launch slot. -/
  | waitc (cell : Nat)
  /-- IFILL (R321). Copies instruction-store lines into the cell's instruction buffer. -/
  | ifill (cell : Nat)
  /-- HALT (R319). Ends the cell's program; the last HALT of a launch completes it. -/
  | halt (cell : Nat) (ok : Bool)
  /-- RECV_TIMEOUT (R341). A RECV stall reaches RECV_LIMIT cycles and the cell raises RECV_TIMEOUT. -/
  | recvTimeout (cell : Nat)
  /-- LAUNCH_FAULT_HALT (R350). Within 64 CCLK of a fault every other cell of the launch halts and it completes CELL_FAULT. -/
  | launchFaultHalt (run : Nat) (ok : Bool)
  /-- GROUP_CREATE (R357). The group-create command checks and creates a collective stage entry. -/
  | groupCreate (d : Desc) (g : Nat) (blk : List Byte) (blkOk : Bool)
  /-- GROUP_DESTROY (R358). The group-destroy command frees a stage entry, completing any instance with GROUP_DESTROYED. -/
  | groupDestroy (d : Desc) (g : Nat)
  /-- CONTRIB_UP_RX (R365). A CONTRIB packet with PHASE 0 is counted and placed or held for its member. -/
  | contribUpRx (src : RxSrc)
  /-- CONTRIB_DOWN_RX (R372). A CONTRIB packet with PHASE 1 is forwarded down to children or as RESULT to endpoints. -/
  | contribDownRx (src : RxSrc)
  /-- FAILURE_NOTICE_RX (R377). A failure notice makes the stage fail with its status and forward the notice. -/
  | failureNoticeRx (src : RxSrc)
  /-- SEGSUM_RX (R381). A SEGSUM stream from an endpoint is counted and placed at a segment-sum leaf. -/
  | segsumRx (src : RxSrc)
  /-- COL_DEADLINE (R376). Slot START + DEADLINE begins on an untriggered unscheduled stage and short members make it MEMBER_LATE. -/
  | colDeadline (g : Nat)
  /-- COL_DOWN_DEADLINE (R378). A non-root stage lacking its down stream at START + DOWN_DEADLINE completes RESULT_LOST. -/
  | colDownDeadline (g : Nat)
  /-- COL_STAGE_DONE (R375). A stage finishes sending and completes the instance, posting to COMP_RING and advancing STEP. -/
  | colStageDone (g : Nat) (ok : Bool)
  /-- COL_LAG_CLR (R382). A write of CLEAR clears the viewed group's lag store. -/
  | colLagClr (path : Path) (v : Word)
  /-- MXU_START (R404). The matrix unit starts at MCLK T0 after its firing. -/
  | mxuStart (unit : Nat)
  /-- MXU_COMPLETE (R405). The launch completes at T0 + I + Lp, posts its completion and releases its token. -/
  | mxuComplete (unit : Nat) (ok : Bool)
  /-- MXU_GATHER_STALL (R394). An HBM gather row misses its due cycle and the array stalls. -/
  | mxuGatherStall (unit : Nat) (cycles : Nat)
  /-- MXU_ECC_FAULT (R409). An uncorrectable operand or accumulator word ends the launch with ECC_FAULT. -/
  | mxuEccFault (unit : Nat) (row : Nat) (time : Nat)
  /-- STREAM_OPEN (R415). The stream-open command checks and copies a stream entry to take effect at AT_SLOT. -/
  | streamOpen (d : Desc) (stream atSlot step0 : Nat) (blk : List Byte) (blkOk : Bool)
  /-- STREAM_PAUSE (R442). The stream-pause command is accepted to take effect at AT_SLOT. -/
  | streamPause (d : Desc) (stream atSlot : Nat)
  /-- STREAM_RESUME (R442). The stream-resume command is accepted to take effect at AT_SLOT. -/
  | streamResume (d : Desc) (stream atSlot : Nat)
  /-- STREAM_RESET (R445). The stream-reset command is accepted to take effect at AT_SLOT. -/
  | streamReset (d : Desc) (stream atSlot : Nat)
  /-- STREAM_CLOSE (R443). The stream-close command is accepted to take effect at AT_SLOT. -/
  | streamClose (d : Desc) (stream atSlot : Nat)
  /-- STREAM_CMD_EFFECT (R439). At the start of AT_SLOT an accepted stream command takes effect and posts its completion. -/
  | streamCmdEffect (stream : Nat) (ok : Bool)
  /-- RESIDUAL_RX (R432). A RESIDUAL packet is checked and accepted as a chunk of the current step. -/
  | residualRx (src : RxSrc)
  /-- RAW_CHUNK_RX (R452). A RAW_CHUNK is placed at an earlier step and re-emitted, or discarded as late. -/
  | rawChunkRx (src : RxSrc)
  /-- UPDATE_NEXT_LAUNCH (R418). 8 MCLK after a predictor launch completes, the next update launch starts. -/
  | updateNextLaunch (stream : Nat)
  /-- VEC_LAUNCH_FIRE (R419). In VEC mode, the cell launch VEC_LAUNCH fires the cycle after launch 2 completes. -/
  | vecLaunchFire (stream : Nat)
  /-- LINK_ACK_SEND (R458). An ACK, NAK or RESET_REQ LINK_ACK becomes ready within its bound and is sent. -/
  | linkAckSend (lport kind : Nat)
  /-- ACK_RX (R455). An ACK releases acknowledged copies from the replay store. -/
  | ackRx (lport : Nat) (rx : RxPkt)
  /-- NAK_RX (R459). A NAK makes the sender send REPLAY and resend from the named LSEQ. -/
  | nakRx (lport : Nat) (rx : RxPkt) (bad : List Nat)
  /-- REPLAY_RX (R457). A REPLAY discards duplicates or records a gap and resumes accepting. -/
  | replayRx (lport : Nat) (rx : RxPkt)
  /-- RESET_REQ_RX (R445). A RESET_REQ moves the sender to RESET_PENDING and queues lost chunks for raw resend. -/
  | resetReqRx (lport : Nat) (rx : RxPkt)
  /-- REPLAY_TIMEOUT (R459). No ACK advance for TIMEOUT_US with packets outstanding makes the sender replay. -/
  | replayTimeout (lport : Nat) (bad : List Nat)
  /-- PREFETCH_DONE (R475). A prefetch finishes writing its destination and the next queued prefetch starts. -/
  | prefetchDone (die time : Nat)
  /-- EMBER_PAGE_IN_DONE (R481). A page-in of h into a unit's Ember window ends. -/
  | emberPageInDone (die : Nat)
  /-- EMBER_WRITEBACK_DONE (R483). A write-back of h' to the Ember store ends. -/
  | emberWritebackDone (die : Nat)
  /-- GATHER_REQ_RX (R490). A GATHER_REQ is checked and queued on its die's gather service. -/
  | gatherReqRx (src : RxSrc)
  /-- GATHER_SERVE (R491). An idle in-service engine takes a queued request and sends its rows as GATHER_RESP packets. -/
  | gatherServe (engine time : Nat)
  /-- MEM_RGN_READ (R208). GO with OP 0 in MEM_RGN_CMD reads a region entry. -/
  | memRgnRead (path : Path) (v : Word)
  /-- MEM_RGN_WRITE (R466). GO with OP 1 in MEM_RGN_CMD writes a region entry, refusing overlaps and bad ranges. -/
  | memRgnWrite (path : Path) (v : Word)
  /-- MEM_GTBL_READ (R208). GO with OP 0 in MEM_GTBL_CMD reads a gather-table entry. -/
  | memGtblRead (path : Path) (v : Word)
  /-- MEM_GTBL_WRITE (R488). GO with OP 1 in MEM_GTBL_CMD writes a gather-table entry after checking its region. -/
  | memGtblWrite (path : Path) (v : Word)
  /-- MEM_GWIN_READ (R208). GO with OP 0 in MEM_GWIN_CMD reads a gather window. -/
  | memGwinRead (path : Path) (v : Word)
  /-- MEM_GWIN_WRITE (R486). GO with OP 1 in MEM_GWIN_CMD writes a gather window. -/
  | memGwinWrite (path : Path) (v : Word)
  /-- GSVC_EN_WRITE (R500). A write to MEM_CTRL.GSVC_EN turns gather service on if tokens allow, or off. -/
  | gsvcEnWrite (path : Path) (v : Word)
  /-- IMAGE_LOAD (R512). The image-load command checks the whole image and then commits it or refuses it. -/
  | imageLoad (d : Desc) (img : Image)
  /-- SCHED_LAUNCH (R515). The schedule-launch command checks and starts the schedule at START for ITERS iterations. -/
  | schedLaunch (d : Desc) (start iters : Nat)
  /-- SCHED_STOP (R517). The schedule-stop command stops firing at STOP_SLOT. -/
  | schedStop (d : Desc) (stopSlot : Nat)
  /-- CAPTURE_START (R535). The capture-start command starts capture with its destination and mode. -/
  | captureStart (d : Desc) (dest : Nat) (arm full egress trigger : Bool) (sport : Nat)
  /-- CAPTURE_STOP (R535). The capture-stop command ends capture after the record in progress with a CAPTURE_STOP mark. -/
  | captureStop (d : Desc)
  /-- CAPTURE_TRIGGER (R536). A write to DET_CAP_TRIGGER triggers armed capture and writes a TRIGGER mark. -/
  | captureTrigger (path : Path) (v : Word)
  /-- REPLAY_INJECT (R539). At a record's mapped instant the replay engine injects its packet at the recorded sub-port. -/
  | replayInject (rec : List Byte) (staged : Bool)
  /-- DIGEST_START (R544). GO in DET_DIG_CMD starts a CRC-32C over a range, or sets ERR. -/
  | digestStart (path : Path) (v : Word)
  /-- SQ_DOORBELL (R555). A write to an SQ tail doorbell is checked and sets the tail. -/
  | sqDoorbell (fn page off width v : Nat)
  /-- CQ_DOORBELL (R556). A write to a CQ head doorbell is checked and frees completion entries. -/
  | cqDoorbell (fn page off width v : Nat)
  /-- SQ_CTRL_WRITE (R551). A write to SQ_CTRL configures or enables or disables a submission queue. -/
  | sqCtrlWrite (fn idx : Nat) (v : Word)
  /-- CQ_CTRL_WRITE (R551). A write to CQ_CTRL configures or enables or disables a completion queue. -/
  | cqCtrlWrite (fn j : Nat) (v : Word)
  /-- COUNTER_SNAPSHOT (R570). The counter-snapshot command copies a register range to host memory at one SCLK edge. -/
  | counterSnapshot (d : Desc) (off len addr : Nat) (ok : Bool)
  /-- LOG_DRAIN (R571). The log-drain command copies the oldest undrained log entries to host memory. -/
  | logDrain (d : Desc) (limit addr : Nat) (ok : Bool)
  /-- TIME_ARM (R568). The time-arm command writes TIM_STEP.ARM. -/
  | timeArm (d : Desc) (arm : Bool)
  /-- CMD_COMPLETION_RESUME (R577). A command completion waiting for CQ space is posted when space returns. -/
  | cmdCompletionResume (fn cq : Nat) (ok : Bool)
  /-- OVERFLOW_RECORD (R577). An OVERFLOW record carrying the lost count is written when a CQ has room. -/
  | overflowRecord (fn cq : Nat)
  /-- IRQ_MODERATION_TIMEOUT (R581). TIME_US after the first pending entry the CQ raises its MSI-X vector. -/
  | irqModerationTimeout (fn cq : Nat)
  /-- HIF_OCC_CLR (R585). GO in HIF_OCC_CLR clears every occurrence counter of a block. -/
  | hifOccClr (path : Path) (v : Word)
  /-- FLR (R586). A Function Level Reset disables the function's rings and discards its untaken commands. -/
  | flr (fn : Nat)
  /-- PAV_PROPOSE (R607). The operator's signed proposal is checked and becomes pending with its window started. -/
  | pavPropose (d : Desc) (blk : List Byte) (blkOk : Bool)
  /-- PAV_APPROVE (R610). The custodian's approval is checked and commits the pavilion table change. -/
  | pavApprove (d : Desc) (blk : List Byte) (blkOk : Bool)
  /-- LOG_DRAIN_ADV (R666). A write of COUNT to LOG_DRAIN_ADV marks entries drained. -/
  | logDrainAdv (path : Path) (v : Word)
  /-- CREDIT_STALL (R655). A packet waits STALL_US for credit on one sub-port and VC and a CREDIT_STALL entry is written. -/
  | creditStall (egr vc : Nat)
  /-- TABLE_ECC_FAULT (R658). An uncorrectable word in a table or store is counted and handled per structure. -/
  | tableEccFault (structure_ index die : Nat)
  /-- UART_BYTE_RX (R676). The UART receives one byte into the console line, or counts a framing error or overrun. The operand is
  the level of UART_RX at each tick from the one that detects the start edge. -/
  | uartByteRx (levels : List Bool)
  /-- CONSOLE_RD (R679). The rd console command reads a register. -/
  | consoleRd (relayed : Bool)
  /-- CONSOLE_WR (R679). The wr console command writes a register under R671. -/
  | consoleWr (relayed : Bool)
  /-- CONSOLE_SENSORS (R679). The sensors console command lists every sensor reading. -/
  | consoleSensors (relayed : Bool)
  /-- CONSOLE_LOG (R679). The log console command shows one event-log entry. -/
  | consoleLog (relayed : Bool)
  /-- CONSOLE_DRAIN (R679). The drain console command writes LOG_DRAIN_ADV. -/
  | consoleDrain (relayed : Bool)
  /-- CONSOLE_APPROVE (R680). The approve console command submits a 160 B approval as PAV_APPROVE. -/
  | consoleApprove (relayed : Bool)
  /-- CONSOLE_WRESET (R679). The wreset console command causes a warm reset with cause 5. -/
  | consoleWreset (relayed : Bool)
  /-- CONSOLE_RELAY (R685). The relay console command opens a relay session on an STC lane. -/
  | consoleRelay (relayed : Bool)
  /-- CONSOLE_OPEN_RX (R686). A CONSOLE_OPEN relay frame opens a session, or is dropped if one is open. -/
  | consoleOpenRx (lane : Nat)
  /-- CONSOLE_DATA_RX (R685). A CONSOLE_DATA relay frame feeds its bytes to the console or returns output. -/
  | consoleDataRx (lane : Nat) (bytes : List Byte)
  /-- CONSOLE_CLOSE_RX (R685). A CONSOLE_CLOSE relay frame closes the session. -/
  | consoleCloseRx (lane : Nat)
  /-- SMB_REG_READ (R682). The SMBus REG_READ command reads a register. -/
  | smbRegRead (off : Nat)
  /-- SMB_REG_WRITE (R682). The SMBus REG_WRITE command writes a register under R671. -/
  | smbRegWrite (off : Nat) (v : Word) (pec : Option Bool)
  /-- SMB_SENSOR (R682). The SMBus SENSOR command returns one sensor register. -/
  | smbSensor (index : Nat)
  /-- SMB_WRESET (R682). The SMBus WRESET command causes a warm reset with cause 5. -/
  | smbWreset (pec : Option Bool)
  /-- SMB_APPROVE (R682). The SMBus APPROVE command submits a 160 B approval. -/
  | smbApprove (blk : List Byte) (pec : Option Bool)
  /-- JTAG_MGT_ACCESS (R687). The MGT_ACCESS instruction performs a register read or write under R671. -/
  | jtagMgtAccess (write : Bool) (off : Nat) (v : Word)
  /-- SENSOR_SAMPLE (R690). Every 1 ms the sensors renew their readings and warning, voltage and trip conditions are evaluated. -/
  | sensorSample (temps volts : List Int)
  /-- MGT_TRIP_REC_CLEAR (R692). A clear of MGT_TRIP_REC.VALID while every sensor is below WARN releases the trip. -/
  | mgtTripRecClear (path : Path) (v : Word)
  /-- LATCHED_PAIR_READ (R724). A read of the low word of a 64-bit pair latches the high word for that path. -/
  | latchedPairRead (path : Path) (off be : Nat)
  /-- REGISTER_WRITE (R723). A write to a register with no row of its own takes effect at one SCLK edge or is ignored by its block's rule. -/
  | registerWrite (path : Path) (bar off : Nat) (v : Word) (be : Nat)
  /-- IMAGE_LOAD_DONE (R513). The host-DMA writing of an accepted image ends, LOADED is set and the IMAGE_LOAD completion is posted. -/
  | imageLoadDone (ok : Bool)
  /-- FREQ_IN_RESTORED (R713). FREQ_IN_OK rises again and the frequency correction follows FREQ_IN while FREQ_IN_EN is 1. -/
  | freqInRestored (corr : Int)
  /-- ILLEGAL_OPCODE (R325). A cell issues an instruction whose opcode is not listed and raises an ILLEGAL fault. -/
  | illegalOpcode (cell : Nat)
  /-- OPCODE_REFUSED (R566). A taken descriptor with an unknown OPCODE completes with status OPCODE. -/
  | opcodeRefused (d : Desc)
  /-- STR_TBL_WRITE (R415). GO with OP 1 in STR_TBL_CMD writes a stream entry, ignored unless the entry is CLOSED. -/
  | strTblWrite (path : Path) (v : Word)
  /-- STR_TBL_READ (R208). GO with OP 0 in STR_TBL_CMD reads a stream entry into STR_TBL_DATA0-DATA7. -/
  | strTblRead (path : Path) (v : Word)
  /-- POWER_ON (R643). VSB rises and the management island starts while the rest of the K8 stays in cold reset. -/
  | powerOn
  /-- ROOT_PLL_LOCK (R619). The root PLL locks, ROOT_LOCK becomes 1 and the fabric-time counter starts at 0 in FREERUN. -/
  | rootPllLock
  /-- CLOCKS_TIMEOUT (R620). REFCLK is absent, or the root has not locked after 200 us, so the stage stays at CLOCKS with ERROR NO_REFCLK or PLL. -/
  | clocksTimeout
  /-- FUSE_READ_DONE (R31). The fuse read and CRC check end, the GLB fuse fields load and FUSE_DONE becomes 1. -/
  | fuseReadDone
  /-- COPY_SELECTED (R633). Stage FLASH ends: the valid copy with the highest SEQ is taken, or the stage becomes RECOVERY. -/
  | copySelected
  /-- CLEAR_DONE (R618). Stage CLEAR ends with the firmware started, every tier and all HBM zeroed, HBM trained and the log cleared. -/
  | clearDone
  /-- CONFIG_APPLIED (R631). The CONFIG entries are written in order, ignored writes are counted, and the stage becomes READY. -/
  | configApplied
  /-- WRST_ASSERT (R643). WRST_N is held low for at least 1 us, which causes a warm reset with cause 3. -/
  | wrstAssert
  /-- WATCHDOG_FAULT (R643). The host-die watchdog detects a firmware fault and causes a warm reset. -/
  | watchdogFault
  /-- WARM_RESET_DONE (R644). A warm reset reaches READY within 20 ms, having applied the block effects of R645 and logged a RESET entry. -/
  | warmResetDone
  /-- FLASH_OP_DONE (R638). The flash reports the operation done and BUSY falls. -/
  | flashOpDone
  /-- FUSE_PROG_DONE (R642). Owner-fuse programming ends within 50 ms and PROGRAMMED becomes 1. -/
  | fuseProgDone
  /-- VSB_LOSS (R701). VSB leaves tolerance while other rails are up, and the K8 enters cold reset at once and loses the trip record. -/
  | vsbLoss
  /-- REFCLK_LOSS (R711). REFCLK is lost, REFCLK_OK falls within 1 us and the root PLL loses lock. -/
  | refclkLoss
  /-- ROOT_LOCK_LOSS (R51). The root PLL loses lock, so bandstands stop, units are held in reset, the counter holds and fatal cause CLOCK applies. -/
  | rootLockLoss
  /-- FORWARD_STEP (R99). At an epoch boundary with ARM set, LOCKED and the source more than 10 us ahead, the counter jumps forward and ARM clears. -/
  | forwardStep
  /-- INITIAL_LOAD (R102). In FREERUN after acquisition, the counter is loaded with the source time at the next alignment boundary. -/
  | initialLoad
  /-- HOLDOVER_EXPIRE (R86). Holdover uncertainty exceeds TIM_HOLD_LIMIT and the state becomes FREERUN. -/
  | holdoverExpire
  /-- PPS_OUT_RISE (R103). Fabric time reaches a whole second plus the offset and PPS_OUT rises. -/
  | ppsOutRise
  /-- PPS_OUT_FALL (R103). PPS_OUT falls after WIDTH us high. -/
  | ppsOutFall
  /-- PPS_IN_MISS (R77). An expected PPS_IN pulse does not arrive; three in a row make the source invalid. -/
  | ppsInMiss
  /-- FREQ_IN_LOSS (R78). FREQ_IN_OK falls and frequency is taken from successive PPS pulses with no re-acquisition. -/
  | freqInLoss
  /-- MESH_FLIT_ARRIVE (R337). A mesh flit reaches its destination input queue, or overflows a hop or input queue. -/
  | meshFlitArrive (parity : Bool)
  /-- SCHED_STOP_DONE (R517). Every launch fired before STOP_SLOT has completed and the schedule ends. -/
  | schedStopDone
  /-- SCHED_ITERS_END (R517). A schedule with ITERS > 0 reaches START + ITERS x PERIOD and ends. -/
  | schedItersEnd
  /-- CAPTURE_POST_DONE (R536). DET_CAP_POST KiB have followed the trigger and capture stops. -/
  | capturePostDone
  /-- CAPTURE_LOSS_RECORD (R532). When staging space returns after losses, one LOSS record is written. -/
  | captureLossRecord
  /-- CAPTURE_STREAM_SEND (R534). The S-port streamer sends window contents as one Ethernet frame. -/
  | captureStreamSend
  /-- DIGEST_DONE (R544). The digest ends, its result is written and BUSY falls. -/
  | digestDone
  /-- HOST_LINK_DOWN (R587). The host link goes down and R586 applies to every function. -/
  | hostLinkDown
  /-- HOT_RESET (R587). A PCIe hot reset applies R586 to every function. -/
  | hotReset
  /-- PAV_WINDOW_EXPIRE (R608). The 10 s window ends and the pending proposal is discarded with a new NONCE. -/
  | pavWindowExpire
  /-- PAV_SCRUB_DONE (R611). The last scrub ends and every moved resource passes to its new owner. -/
  | pavScrubDone
  /-- LOG_WRITE (R663). The log writer writes the queue head to the ring and increments LOG_WR_SEQ. -/
  | logWrite
  /-- UART_BREAK (R677). UART_RX low for 20 bit times discards the line being typed and counts a break. -/
  | uartBreak
  /-- SMB_LAST_STATUS (R682). The SMBus LAST_STATUS command returns the status of the last write, reset or approval. -/
  | smbLastStatus
  /-- SMB_SUMMARY (R682). The SMBus SUMMARY command returns stage, fatal, warning, trip and hottest reading. -/
  | smbSummary
  /-- SMB_ALERT_RESPONSE (R684). The target answers the Alert Response Address and releases SMBALERT_N. -/
  | smbAlertResponse
  /-- TAP_RESET (R687). TRST_N low holds the TAP in Test-Logic-Reset with IDCODE loaded. -/
  | tapReset
  /-- JTAG_EXTEST (R689). The EXTEST instruction drives boundary cells, if allowed. -/
  | jtagExtest
  /-- JTAG_SAMPLE_PRELOAD (R687). The SAMPLE/PRELOAD instruction samples or preloads boundary cells. -/
  | jtagSamplePreload
  /-- JTAG_IDCODE (R687). The IDCODE instruction selects the 32-bit identification register. -/
  | jtagIdcode
  /-- JTAG_CLAMP (R689). The CLAMP instruction holds outputs from the boundary register, if allowed. -/
  | jtagClamp
  /-- JTAG_HIGHZ (R689). The HIGHZ instruction floats outputs, if allowed. -/
  | jtagHighz
  /-- JTAG_EXTEST_PULSE (R689). The IEEE 1149.6 EXTEST_PULSE instruction tests AC-coupled lanes, if allowed. -/
  | jtagExtestPulse
  /-- JTAG_EXTEST_TRAIN (R689). The IEEE 1149.6 EXTEST_TRAIN instruction tests AC-coupled lanes, if allowed. -/
  | jtagExtestTrain
  /-- JTAG_BYPASS (R687). The BYPASS instruction, or any unlisted opcode, selects the 1-bit bypass path. -/
  | jtagBypass
  /-- CAPTURE_STOP_DONE (R535). The last staged capture record reaches the window and the CAPTURE_STOP command completes. -/
  | captureStopDone
  /-- VID_PINS_VALID (R696). 1 ms after VSB enters tolerance the K8 starts driving the VCORE VID pins from its fuse row. -/
  | vidPinsValid
  deriving DecidableEq, Repr

end Sys2Proof
end

