-- ==== Sys2Proof/Decode.lean ====
section
/-! DEFINITION. The command a word spells by the bits of the table of operations. No row of that table gives bits: a command is
named, with its operands, and no word spells one. -/

namespace Sys2Proof

/-- The command that the `nbits` low bits of `w` spell: none, as no row of the table has bits. DESIGN CHOICE: log 2. -/
def decodeTableWord (_nbits _w : Nat) : Option Instr := none

end Sys2Proof
end

