-- ==== Sys2Proof/Machine/Sparse.lean ====
section
/-! DEFINITION. Sparse plain data by key: tables (registers, route entries, cells …) and byte memories, each a list of
(key, value) pairs with rising keys; a key that is not listed holds the default the reader names. -/

namespace Sys2Proof.Machine

/-- What a table holds at key `k`; `d` gives the value of a key that is not listed. -/
def tblGet {α : Type} (d : Nat → α) : List (Nat × α) → Nat → α
  | [], k => d k
  | (a, x) :: t, k => if k < a then d k else if k = a then x else tblGet d t k

/-- The table with `v` at key `k`. -/
def tblSet {α : Type} : List (Nat × α) → Nat → α → List (Nat × α)
  | [], k, v => [(k, v)]
  | (a, x) :: t, k, v =>
    if k < a then (k, v) :: (a, x) :: t else if k = a then (k, v) :: t else (a, x) :: tblSet t k v

/-- The table with every key outside `keep` back at the default `d`. -/
def tblKeep {α : Type} (keep : Nat → Bool) (d : Nat → α) (t : List (Nat × α)) : List (Nat × α) :=
  t.map fun e => if keep e.1 then e else (e.1, d e.1)

/-- The byte a sparse memory holds at address `a`: 0 where nothing is listed. -/
def memGet : List (Nat × BitVec 8) → Nat → BitVec 8
  | [], _ => 0
  | (b, x) :: t, a => if a < b then 0 else if a = b then x else memGet t a

/-- The memory with byte `v` at address `a`, in canonical form: an entry equal to 0 is not listed. -/
def memSet : List (Nat × BitVec 8) → Nat → BitVec 8 → List (Nat × BitVec 8)
  | [], a, v => if v = 0 then [] else [(a, v)]
  | (b, x) :: t, a, v =>
    if a < b then (if v = 0 then (b, x) :: t else (a, v) :: (b, x) :: t)
    else if a = b then (if v = 0 then t else (a, v) :: t)
    else (b, x) :: memSet t a v

/-- The canonical form of a sparse memory: every listed address is above `lo`, addresses rise strictly, and no listed
byte is 0. -/
def memWfFrom : Nat → List (Nat × BitVec 8) → Bool
  | _, [] => true
  | lo, (b, x) :: t => decide (lo ≤ b) && decide (x ≠ 0) && memWfFrom (b + 1) t

/-- A sparse memory is in its canonical form. -/
def memWf (m : List (Nat × BitVec 8)) : Bool := memWfFrom 0 m

/-- The `n` bytes from address `a`, lowest address first. DESIGN CHOICE: log 7. -/
def memRead (m : List (Nat × BitVec 8)) (a : Nat) : Nat → List (BitVec 8)
  | 0 => []
  | n + 1 => memGet m a :: memRead m (a + 1) n

/-- The memory with the bytes `bs` stored from address `a`, lowest address first. -/
def memWrite (m : List (Nat × BitVec 8)) : Nat → List (BitVec 8) → List (Nat × BitVec 8)
  | _, [] => m
  | a, b :: bs => memWrite (memSet m a b) (a + 1) bs

/-- The memory with every byte from `lo` up to, but not including, `hi` made 0 (taken out of the list). -/
def memClear (m : List (Nat × BitVec 8)) (lo hi : Nat) : List (Nat × BitVec 8) :=
  m.filter fun c => decide (c.1 < lo) || decide (hi ≤ c.1)

/-- A little-endian number of bytes (R11). -/
def leNat : List (BitVec 8) → Nat
  | [] => 0
  | b :: bs => b.toNat + 256 * leNat bs

/-- The `n` little-endian bytes of a number (R11). -/
def natLe : Nat → Nat → List (BitVec 8)
  | 0, _ => []
  | n + 1, x => BitVec.ofNat 8 x :: natLe n (x / 256)

/-- A big-endian number of bytes (R12). -/
def beNat (bs : List (BitVec 8)) : Nat := bs.foldl (fun a b => a * 256 + b.toNat) 0

/-- The `n` big-endian bytes of a number (R12). -/
def natBe (n x : Nat) : List (BitVec 8) := (natLe n x).reverse

/-- Bits `hi` down to `lo` of a number. -/
def bitsOf (x hi lo : Nat) : Nat := (x >>> lo) % 2 ^ (hi + 1 - lo)

/-- Bit `i` of a number, as 0 or 1 (false or true). -/
def bitOf (x i : Nat) : Bool := x.testBit i

/-- `v` put at bit `lo`. -/
def atBit (lo v : Nat) : Nat := v <<< lo

/-- A truth value as a bit. -/
def b2n (b : Bool) : Nat := if b then 1 else 0

end Sys2Proof.Machine
end

