-- ==== Sys2Proof/Machine/Crypto.lean ====
section
/-! DEFINITION. SHA-384 (FIPS 180-4) and ECDSA verification on curve P-384 (FIPS 186-5), as R602 asks. -/

namespace Sys2Proof.Machine

/-- A 64-bit word of the hash. -/
abbrev HWord := BitVec 64

/-- Round constants 0 to 9 of FIPS 180-4. -/
def shaK0 : List HWord := [
  0x428a2f98d728ae22, 0x7137449123ef65cd, 0xb5c0fbcfec4d3b2f, 0xe9b5dba58189dbbc, 0x3956c25bf348b538,
  0x59f111f1b605d019, 0x923f82a4af194f9b, 0xab1c5ed5da6d8118, 0xd807aa98a3030242, 0x12835b0145706fbe]

/-- Round constants 10 to 19 of FIPS 180-4. -/
def shaK1 : List HWord := [
  0x243185be4ee4b28c, 0x550c7dc3d5ffb4e2, 0x72be5d74f27b896f, 0x80deb1fe3b1696b1, 0x9bdc06a725c71235,
  0xc19bf174cf692694, 0xe49b69c19ef14ad2, 0xefbe4786384f25e3, 0x0fc19dc68b8cd5b5, 0x240ca1cc77ac9c65]

/-- Round constants 20 to 29 of FIPS 180-4. -/
def shaK2 : List HWord := [
  0x2de92c6f592b0275, 0x4a7484aa6ea6e483, 0x5cb0a9dcbd41fbd4, 0x76f988da831153b5, 0x983e5152ee66dfab,
  0xa831c66d2db43210, 0xb00327c898fb213f, 0xbf597fc7beef0ee4, 0xc6e00bf33da88fc2, 0xd5a79147930aa725]

/-- Round constants 30 to 39 of FIPS 180-4. -/
def shaK3 : List HWord := [
  0x06ca6351e003826f, 0x142929670a0e6e70, 0x27b70a8546d22ffc, 0x2e1b21385c26c926, 0x4d2c6dfc5ac42aed,
  0x53380d139d95b3df, 0x650a73548baf63de, 0x766a0abb3c77b2a8, 0x81c2c92e47edaee6, 0x92722c851482353b]

/-- Round constants 40 to 49 of FIPS 180-4. -/
def shaK4 : List HWord := [
  0xa2bfe8a14cf10364, 0xa81a664bbc423001, 0xc24b8b70d0f89791, 0xc76c51a30654be30, 0xd192e819d6ef5218,
  0xd69906245565a910, 0xf40e35855771202a, 0x106aa07032bbd1b8, 0x19a4c116b8d2d0c8, 0x1e376c085141ab53]

/-- Round constants 50 to 59 of FIPS 180-4. -/
def shaK5 : List HWord := [
  0x2748774cdf8eeb99, 0x34b0bcb5e19b48a8, 0x391c0cb3c5c95a63, 0x4ed8aa4ae3418acb, 0x5b9cca4f7763e373,
  0x682e6ff3d6b2b8a3, 0x748f82ee5defb2fc, 0x78a5636f43172f60, 0x84c87814a1f0ab72, 0x8cc702081a6439ec]

/-- Round constants 60 to 69 of FIPS 180-4. -/
def shaK6 : List HWord := [
  0x90befffa23631e28, 0xa4506cebde82bde9, 0xbef9a3f7b2c67915, 0xc67178f2e372532b, 0xca273eceea26619c,
  0xd186b8c721c0c207, 0xeada7dd6cde0eb1e, 0xf57d4f7fee6ed178, 0x06f067aa72176fba, 0x0a637dc5a2c898a6]

/-- Round constants 70 to 79 of FIPS 180-4. -/
def shaK7 : List HWord := [
  0x113f9804bef90dae, 0x1b710b35131c471b, 0x28db77f523047d84, 0x32caab7b40c72493, 0x3c9ebe0a15c9bebc,
  0x431d67c49c100d4c, 0x4cc5d4becb3e42b6, 0x597f299cfc657e2a, 0x5fcb6fab3ad6faec, 0x6c44198c4a475817]

/-- The 80 round constants. -/
def shaK : List HWord := shaK0 ++ shaK1 ++ shaK2 ++ shaK3 ++ shaK4 ++ shaK5 ++ shaK6 ++ shaK7

/-- The initial hash value of SHA-384. -/
def shaInit : List HWord := [
  0xcbbb9d5dc1059ed8, 0x629a292a367cd507, 0x9159015a3070dd17, 0x152fecd8f70e5939,
  0x67332667ffc00b31, 0x8eb44a8768581511, 0xdb0c2e0d64f98fa7, 0x47b5481dbefa4fa4]

/-- Rotation right. -/
def ror (x : HWord) (n : Nat) : HWord := x.rotateRight n

/-- One more word of the message schedule, which is kept newest first. -/
def shaNext (w : List HWord) : List HWord :=
  let a := w.getD 14 0
  let b := w.getD 1 0
  let s0 := ror a 1 ^^^ ror a 8 ^^^ (a >>> 7)
  let s1 := ror b 19 ^^^ ror b 61 ^^^ (b >>> 6)
  (w.getD 15 0 + s0 + w.getD 6 0 + s1) :: w

/-- The schedule of a block with `n` words added, newest first. -/
def shaSchedule : Nat → List HWord → List HWord
  | 0, w => w
  | n + 1, w => shaSchedule n (shaNext w)

/-- One round on the eight working variables. -/
def shaRound (v : List HWord) (kw : HWord × HWord) : List HWord :=
  match v with
  | [a, b, c, d, e, f, g, h] =>
    let t1 := h + (ror e 14 ^^^ ror e 18 ^^^ ror e 41) + ((e &&& f) ^^^ (~~~e &&& g)) + kw.1 + kw.2
    let t2 := (ror a 28 ^^^ ror a 34 ^^^ ror a 39) + ((a &&& b) ^^^ (a &&& c) ^^^ (b &&& c))
    [t1 + t2, a, b, c, d + t1, e, f, g]
  | _ => v

/-- One block of 128 bytes. -/
def shaBlock (h : List HWord) (bs : List (BitVec 8)) : List HWord :=
  let w := (List.range 16).map fun i => BitVec.ofNat 64 (beNat ((bs.drop (8 * i)).take 8))
  let v := (shaK.zip (shaSchedule 64 w.reverse).reverse).foldl shaRound h
  List.zipWith (· + ·) h v

/-- `n` blocks of a padded message. -/
def shaBlocks : Nat → List HWord → List (BitVec 8) → List HWord
  | 0, h, _ => h
  | n + 1, h, bs => shaBlocks n (shaBlock h (bs.take 128)) (bs.drop 128)

/-- The message with its padding: 0x80, zeros, and its length in bits in 16 bytes. -/
def shaPad (m : List (BitVec 8)) : List (BitVec 8) :=
  m ++ [0x80] ++ List.replicate ((239 - m.length % 128) % 128) 0 ++ natBe 16 (8 * m.length)

/-- The 48 bytes of SHA-384. -/
def sha384 (m : List (BitVec 8)) : List (BitVec 8) :=
  let p := shaPad m
  ((shaBlocks (p.length / 128) shaInit p).flatMap fun x => natBe 8 x.toNat).take 48

/-! ## P-384 -/

/-- The field prime. -/
def p384 : Nat := 2 ^ 384 - 2 ^ 128 - 2 ^ 96 + 2 ^ 32 - 1

/-- The group order. -/
def n384 : Nat := 0xffffffffffffffffffffffffffffffffffffffffffffffffc7634d81f4372ddf581a0db248b0a77aecec196accc52973

/-- The curve constant b. -/
def b384 : Nat := 0xb3312fa7e23ee7e4988e056be3f82d19181d9c6efe8141120314088f5013875ac656398d8a2ed19d2a85c8edd3ec2aef

/-- The base point. -/
def g384 : Nat × Nat :=
  (0xaa87ca22be8b05378eb1c71ef320ad746e1d3b628ba79b9859f741e082542a385502f25dbf55296c3a545e3872760ab7,
   0x3617de4a96262c6f5d9e98bf9292dc29f8f41dbd289a147ce9da3113b5f0b8c00a60b1ce1d7e819d7a431d7c90ea0e5f)

/-- x^e modulo m, for an exponent of at most `k` bits. -/
def powMod (m x : Nat) : Nat → Nat → Nat
  | 0, _ => 1 % m
  | k + 1, e =>
    let h := powMod m x k (e / 2)
    if e % 2 = 1 then h * h % m * x % m else h * h % m

/-- The inverse modulo a prime. -/
def invMod (m x : Nat) : Nat := powMod m (x % m) 384 (m - 2)

/-- A point in Jacobian coordinates; z = 0 is the point at infinity. -/
structure Point where
  x : Nat
  y : Nat
  z : Nat
  deriving DecidableEq, Repr

/-- a − b in the field. -/
def subP (a b : Nat) : Nat := (a + (p384 - b % p384)) % p384

/-- 2P. -/
def Point.dbl (a : Point) : Point :=
  let zz := a.z * a.z % p384
  let yy := a.y * a.y % p384
  let m := 3 * (subP a.x zz * ((a.x + zz) % p384) % p384) % p384
  let t := 4 * (a.x * yy % p384) % p384
  let x := subP (m * m % p384) (2 * t)
  ⟨x, subP (m * subP t x) (8 * (yy * yy % p384)), 2 * (a.y * a.z % p384) % p384⟩

/-- P + Q. -/
def Point.add (a b : Point) : Point :=
  if a.z = 0 then b
  else if b.z = 0 then a
  else
    let za := a.z * a.z % p384
    let zb := b.z * b.z % p384
    let u1 := a.x * zb % p384
    let u2 := b.x * za % p384
    let s1 := a.y * (zb * b.z % p384) % p384
    let s2 := b.y * (za * a.z % p384) % p384
    if u1 = u2 then (if s1 = s2 then a.dbl else ⟨1, 1, 0⟩)
    else
      let h := subP u2 u1
      let r := subP s2 s1
      let hh := h * h % p384
      let hhh := h * hh % p384
      let v := u1 * hh % p384
      let x := subP (r * r) (hhh + 2 * v)
      ⟨x, subP (r * subP v x) (s1 * hhh), a.z * b.z % p384 * h % p384⟩

/-- k·P for a k of at most `n` bits. -/
def Point.mul (a : Point) : Nat → Nat → Point
  | 0, _ => ⟨1, 1, 0⟩
  | n + 1, k =>
    let d := (a.mul n (k / 2)).dbl
    if k % 2 = 1 then d.add a else d

/-- The point of a 49-byte compressed SEC1 key, given as a big-endian number; none where it names no point. -/
def keyPoint (key : Nat) : Option Point :=
  let x := key % 2 ^ 384
  let sign := key / 2 ^ 384
  let yy := (powMod p384 x 2 3 + subP b384 (3 * x)) % p384
  let y := powMod p384 yy 384 ((p384 + 1) / 4)
  if (sign = 2 ∨ sign = 3) ∧ x < p384 ∧ y * y % p384 = yy then
    some ⟨x, if y % 2 = sign % 2 then y else (p384 - y) % p384, 1⟩
  else none

/-- The signature `sig` (96 B: r and s) over `msg` verifies under a key (R602). -/
def verifies (key : Nat) (msg sig : List (BitVec 8)) : Bool :=
  let r := beNat (sig.take 48)
  let t := beNat (sig.drop 48)
  match keyPoint key with
  | none => false
  | some q =>
    if sig.length ≠ 96 ∨ r = 0 ∨ n384 ≤ r ∨ t = 0 ∨ n384 ≤ t then false
    else
      let w := invMod n384 t
      let e := beNat (sha384 msg)
      let g : Point := ⟨g384.1, g384.2, 1⟩
      let a := (g.mul 384 (e * w % n384)).add (q.mul 384 (r * w % n384))
      if a.z = 0 then false
      else
        let zi := invMod p384 a.z
        decide (a.x * (zi * zi % p384) % p384 % n384 = r)

/-- The 49 bytes of a key. -/
def keyBytes (key : Nat) : List (BitVec 8) := natBe 49 key

/-- The SHA-384 of a key as a big-endian number: the form the owner fuse and the fingerprints use. -/
def keyHash (key : Nat) : Nat := beNat (sha384 (keyBytes key))

end Sys2Proof.Machine
end

