-- ==== Sys2Proof/Machine/Fp.lean ====
section
/-! DEFINITION. Number formats and arithmetic (chapter 07): exact dyadic values, one rounding, the flag word, block scales,
compensated pairs, the Yelsoura hash and the PWL gates. -/

namespace Sys2Proof.Machine

/-! ## Flags (R294) -/

/-- INVALID. -/
def fInvalid : Nat := 1
/-- DIVZERO. -/
def fDivZero : Nat := 2
/-- OVERFLOW. -/
def fOverflow : Nat := 4
/-- UNDERFLOW. -/
def fUnderflow : Nat := 8
/-- INEXACT. -/
def fInexact : Nat := 16
/-- SATURATE. -/
def fSaturate : Nat := 32
/-- FLUSH. -/
def fFlush : Nat := 64
/-- NAN_IN. -/
def fNanIn : Nat := 128

/-! ## Formats (R279) -/

/-- A floating-point format: exponent and fraction widths, bias, whether it has infinities, and whether subnormal results are
flushed (R289). -/
structure Fmt where
  ebits : Nat
  mbits : Nat
  bias  : Nat
  inf   : Bool
  flush : Bool
  deriving DecidableEq, Repr

/-- binary32. -/
def fp32 : Fmt := ⟨8, 23, 127, true, false⟩
/-- binary64. -/
def fp64 : Fmt := ⟨11, 52, 1023, true, false⟩
/-- BF16. -/
def bf16 : Fmt := ⟨8, 7, 127, true, true⟩
/-- binary16. -/
def fp16 : Fmt := ⟨5, 10, 15, true, false⟩
/-- FP8 E4M3. -/
def e4m3 : Fmt := ⟨4, 3, 7, false, true⟩
/-- FP8 E5M2. -/
def e5m2 : Fmt := ⟨5, 2, 15, true, true⟩

/-- A value: NaN, an infinity, or ±`m` × 2^`e` exactly (a zero has `m` = 0 and keeps its sign). -/
inductive Fv where
  | nan
  | inf (neg : Bool)
  | fin (neg : Bool) (m : Nat) (e : Int)
  deriving DecidableEq, Repr

/-- The value a code has; subnormal codes at their exact value (R290), E4M3 without infinities (R279). -/
def decodeF (f : Fmt) (x : Nat) : Fv :=
  let s := bitOf x (f.ebits + f.mbits)
  let ex := bitsOf x (f.ebits + f.mbits - 1) f.mbits
  let m := x % 2 ^ f.mbits
  let top := 2 ^ f.ebits - 1
  if f.inf ∧ ex = top then (if m = 0 then .inf s else .nan)
  else if ¬ f.inf ∧ ex = top ∧ m = 2 ^ f.mbits - 1 then .nan
  else if ex = 0 then .fin s m (1 - (f.bias : Int) - f.mbits)
  else .fin s (2 ^ f.mbits + m) ((ex : Int) - f.bias - f.mbits)

/-- The canonical quiet NaN of a format (R279, R291). -/
def nanCode (f : Fmt) : Nat :=
  if f.inf then (2 ^ f.ebits - 1) * 2 ^ f.mbits + 2 ^ (f.mbits - 1) else 2 ^ (f.ebits + f.mbits) - 1

/-- A sign at its place. -/
def signBit (f : Fmt) (neg : Bool) : Nat := b2n neg * 2 ^ (f.ebits + f.mbits)

/-- The infinity of a format. -/
def infCode (f : Fmt) (neg : Bool) : Nat := signBit f neg + (2 ^ f.ebits - 1) * 2 ^ f.mbits

/-- The largest finite code, without sign. -/
def maxCode (f : Fmt) : Nat :=
  if f.inf then (2 ^ f.ebits - 1) * 2 ^ f.mbits - 1 else 2 ^ (f.ebits + f.mbits) - 2

/-- The code of ±`n` × 2^`q`, where `q` is the format's quantum for that magnitude (`n` may be the power of two a carry
reached). -/
def packF (f : Fmt) (neg : Bool) (n : Nat) (q : Int) : Nat :=
  let q0 : Int := 1 - (f.bias : Int) - f.mbits
  signBit f neg + ((q - q0).toNat * 2 ^ f.mbits + n)

/-! ## Rounding -/

/-- `m` × 2^`e` rounded to a multiple of 2^`q`: the multiple and whether the value changed. `sr` holds the 16 random bits of a
stochastic rounding (R297); without them it is to nearest, ties to even (R296). DEDUCED: log 52. -/
def roundQ (m : Nat) (e q : Int) (sr : Option Nat) : Nat × Bool :=
  if q ≤ e then (m <<< (e - q).toNat, false)
  else
    let k := (q - e).toNat
    let lo := m >>> k
    let rem := m - (lo <<< k)
    let up := match sr with
      | some rnd => decide (rnd < (rem * 65536) >>> k)
      | none => decide (2 ^ k < 2 * rem) || (decide (2 * rem = 2 ^ k) && decide (lo % 2 = 1))
    (if up then lo + 1 else lo, decide (rem ≠ 0))

/-- Floor of log2 of `m` × 2^`e`, for `m` ≠ 0. -/
def expOf (m : Nat) (e : Int) : Int := e + (Nat.log2 m : Int)

/-- `a` × 2^`x` < `b` × 2^`y`. -/
def dyLt (a : Nat) (x : Int) (b : Nat) (y : Int) : Bool :=
  if x ≤ y then decide (a < b <<< (y - x).toNat) else decide (a <<< (x - y).toNat < b)

/-- A finite non-zero result whose magnitude is above the largest finite (R293). -/
def overflowF (f : Fmt) (neg : Bool) : Nat × Nat :=
  if f.inf then (infCode f neg, fOverflow + fInexact)
  else (signBit f neg + maxCode f, fOverflow + fSaturate + fInexact)

/-- The largest finite magnitude as `n` × 2^`q`. -/
def maxMag (f : Fmt) : Nat × Int :=
  let top : Int := (2 ^ f.ebits - 1 : Nat)
  if f.inf then (2 ^ (f.mbits + 1) - 1, top - 1 - f.bias - f.mbits)
  else (2 ^ (f.mbits + 1) - 2, top - f.bias - f.mbits)

/-- A value written in a format: the code and the flags (R289, R291, R293, R295–R297). -/
def writeF (f : Fmt) (sr : Option Nat) (v : Fv) : Nat × Nat :=
  match v with
  | .nan => (nanCode f, 0)
  | .inf neg => if f.inf then (infCode f neg, 0) else (signBit f neg + maxCode f, fSaturate)
  | .fin neg m e =>
    if m = 0 then (signBit f neg, 0)
    else
      let emin : Int := 1 - (f.bias : Int)
      let ex := expOf m e
      let q := max ex emin - f.mbits
      let r := roundQ m e q sr
      let free := roundQ m e (ex - f.mbits) sr
      let tiny := decide (ex < emin) && dyLt free.1 (ex - f.mbits) 1 emin
      let mm := maxMag f
      if dyLt mm.1 mm.2 r.1 q then overflowF f neg
      else if f.flush && decide (r.1 ≠ 0) && dyLt r.1 q 1 emin then (signBit f neg, fFlush + fUnderflow + fInexact)
      else (packF f neg r.1 q, (if r.2 then fInexact else 0) + (if r.2 && tiny then fUnderflow else 0))

/-- A value written as an integer from −`bot` to `top` counted in units of 2^`u` (R283, R288, R291, R293): its two's-complement
value and the flags. DEDUCED: log 52. -/
def writeI (top bot : Nat) (u : Int) (sr : Option Nat) (v : Fv) : Int × Nat :=
  match v with
  | .nan => (0, fNanIn + fInvalid)
  | .inf neg => (if neg then -(bot : Int) else top, fSaturate)
  | .fin neg m e =>
    let r := roundQ m e u sr
    let lim := if neg then bot else top
    let n := min r.1 lim
    let fl := if lim < r.1 then fSaturate + fInexact else if r.2 then fInexact else 0
    (if neg then -(n : Int) else n, fl)

/-! ## FP32 operations (R284, R287, R291) -/

/-- NAN_IN where an operand is NaN. -/
def nanFlag (vs : List Fv) : Nat := if vs.contains .nan then fNanIn else 0

/-- The signed integer of a finite value at exponent `q`, for `q` not above its own. -/
def atExp (neg : Bool) (m : Nat) (e q : Int) : Int :=
  let n : Int := (m <<< (e - q).toNat : Nat)
  if neg then -n else n

/-- The exact sum of two values; opposite infinities give NaN. A zero sum of unlike signs is +0. -/
def addV (a b : Fv) : Fv :=
  match a, b with
  | .nan, _ => .nan
  | _, .nan => .nan
  | .inf x, .inf y => if x = y then .inf x else .nan
  | .inf x, _ => .inf x
  | _, .inf y => .inf y
  | .fin x m e, .fin y n g =>
    let q := min e g
    let t := atExp x m e q + atExp y n g q
    if t = 0 then .fin (x && y) 0 q else .fin (decide (t < 0)) t.natAbs q

/-- The exact product; 0 × ∞ gives NaN. -/
def mulV (a b : Fv) : Fv :=
  match a, b with
  | .nan, _ => .nan
  | _, .nan => .nan
  | .inf x, .inf y => .inf (x != y)
  | .inf x, .fin y m _ => if m = 0 then .nan else .inf (x != y)
  | .fin x m _, .inf y => if m = 0 then .nan else .inf (x != y)
  | .fin x m e, .fin y n g => .fin (x != y) (m * n) (e + g)

/-- INVALID where an operation on operands made a NaN of its own. -/
def invFlag (made : Fv) (vs : List Fv) : Nat := if made = .nan ∧ ¬ vs.contains .nan then fInvalid else 0

/-- Flags of two steps. -/
def orF (a b : Nat) : Nat := a ||| b

/-- A value written as FP32 with further flags. -/
def toFp32 (v : Fv) (fl : Nat) : Nat × Nat := let r := writeF fp32 none v; (r.1, orF r.2 fl)

/-- FP32 addition: code and flags. -/
def fadd (a b : Nat) : Nat × Nat :=
  let x := decodeF fp32 a
  let y := decodeF fp32 b
  let v := addV x y
  toFp32 v (orF (nanFlag [x, y]) (invFlag v [x, y]))

/-- The negative of an FP32 code. -/
def fneg (a : Nat) : Nat := a ^^^ 0x80000000

/-- FP32 subtraction; a NaN operand stays one. -/
def fsub (a b : Nat) : Nat × Nat := fadd a (fneg b)

/-- FP32 multiplication. -/
def fmul (a b : Nat) : Nat × Nat :=
  let x := decodeF fp32 a
  let y := decodeF fp32 b
  let v := mulV x y
  toFp32 v (orF (nanFlag [x, y]) (invFlag v [x, y]))

/-- a × b + c on values, one rounding. -/
def fmaV (x y z : Fv) : Nat × Nat :=
  let p := mulV x y
  let v := addV p z
  toFp32 v (orF (nanFlag [x, y, z]) (orF (invFlag p [x, y]) (invFlag v [p, z])))

/-- FP32 fused multiply-add. -/
def ffma (a b c : Nat) : Nat × Nat := fmaV (decodeF fp32 a) (decodeF fp32 b) (decodeF fp32 c)

/-- FP32 division, correctly rounded (R291): the quotient to 30 bits and more with the remainder kept as a lowest bit. -/
def fdiv (a b : Nat) : Nat × Nat :=
  match decodeF fp32 a, decodeF fp32 b with
  | .nan, _ => (nanCode fp32, fNanIn)
  | _, .nan => (nanCode fp32, fNanIn)
  | .inf _, .inf _ => (nanCode fp32, fInvalid)
  | .inf x, .fin y _ _ => (infCode fp32 (x != y), 0)
  | .fin x _ _, .inf y => (signBit fp32 (x != y), 0)
  | .fin x m e, .fin y n g =>
    if n = 0 then (if m = 0 then (nanCode fp32, fInvalid) else (infCode fp32 (x != y), fDivZero))
    else
      let k := 30 + Nat.log2 n
      let q := (m <<< k) / n
      let r := (m <<< k) % n
      toFp32 (.fin (x != y) (2 * q + (if r = 0 then 0 else 1)) (e - g - k - 1)) 0

/-- 1.0. -/
def fone : Nat := 0x3F800000

/-- FP32 reciprocal, correctly rounded. -/
def frcp (a : Nat) : Nat × Nat := fdiv fone a

/-- A key that orders values that are not NaN, −0 below +0 (R292), for equal comparison with `zeroEq` both zeros alike. -/
def ltV (a b : Fv) : Bool :=
  match a, b with
  | .nan, _ => false
  | _, .nan => false
  | .inf x, .inf y => x && !y
  | .inf x, _ => x
  | _, .inf y => !y
  | .fin x m e, .fin y n g =>
    let q := min e g
    decide (atExp x m e q < atExp y n g q)

/-- Zero, of either sign. -/
def isZeroV : Fv → Bool
  | .fin _ 0 _ => true
  | _ => false

/-- `a` before `b` in the order of R292: −0 below +0. -/
def below (a b : Nat) : Bool :=
  let x := decodeF fp32 a
  let y := decodeF fp32 b
  if isZeroV x && isZeroV y then bitOf a 31 && !bitOf b 31 else ltV x y

/-- The larger of two FP32 codes (R292). -/
def fmax (a b : Nat) : Nat × Nat :=
  if decodeF fp32 a = .nan ∨ decodeF fp32 b = .nan then (nanCode fp32, fNanIn) else (if below a b then b else a, 0)

/-- The smaller of two FP32 codes (R292). -/
def fmin (a b : Nat) : Nat × Nat :=
  if decodeF fp32 a = .nan ∨ decodeF fp32 b = .nan then (nanCode fp32, fNanIn) else (if below b a then b else a, 0)

/-! ## Integers (R288) -/

/-- The signed value of a 32-bit word. -/
def i32 (x : Nat) : Int := if 2 ^ 31 ≤ x % 2 ^ 32 then (x % 2 ^ 32 : Int) - 2 ^ 32 else (x % 2 ^ 32 : Int)

/-- An integer as an INT32 word, saturating: the word and SATURATE. -/
def satI32 (x : Int) : Nat × Nat :=
  if 2147483647 < x then (0x7FFFFFFF, fSaturate) else if x < -2147483648 then (0x80000000, fSaturate)
  else ((x % 2 ^ 32).toNat, 0)

/-- INT32 addition. -/
def iadd (a b : Nat) : Nat × Nat := satI32 (i32 a + i32 b)

/-- INT32 multiplication. -/
def imul (a b : Nat) : Nat × Nat := satI32 (i32 a * i32 b)

/-! ## Sums (R285, R286) -/

/-- Neighbours added in pairs: one level of the tree. -/
def pairUp (op : Nat → Nat → Nat × Nat) : List Nat → List Nat × Nat
  | a :: b :: l => let r := op a b; let t := pairUp op l; (r.1 :: t.1, orF r.2 t.2)
  | l => (l, 0)

/-- The pairwise tree of `n` levels: its sum and flags. -/
def treeSum (op : Nat → Nat → Nat × Nat) : Nat → List Nat → Nat × Nat
  | 0, l => (l.getD 0 0, 0)
  | n + 1, l => let r := pairUp op l; let t := treeSum op n r.1; (t.1, orF r.2 t.2)

/-- A list in blocks of `n`. -/
def blocksOf {α : Type} (n : Nat) (l : List α) : List (List α) :=
  (List.range ((l.length + n - 1) / max 1 n)).map fun i => (l.drop (i * n)).take n

/-- Products added to an accumulator in blocks of 256, the last padded with zeros (R286). -/
def dotSum (op : Nat → Nat → Nat × Nat) (acc : Nat) (ps : List Nat) : Nat × Nat :=
  (blocksOf 256 ps).foldl (fun a b =>
    let t := treeSum op 8 (b ++ List.replicate (256 - b.length) 0)
    let r := op a.1 t.1
    (r.1, orF a.2 (orF t.2 r.2))) (acc, 0)

/-- A sum in rank order (R285). -/
def rankSum (op : Nat → Nat → Nat × Nat) : List Nat → Nat × Nat
  | [] => (0, 0)
  | c :: cs => cs.foldl (fun a x => let r := op a.1 x; (r.1, orF a.2 r.2)) (c, 0)

/-! ## Compensated pairs (R301–R303) -/

/-- The FP32 code is finite. -/
def isFin (a : Nat) : Bool := match decodeF fp32 a with | .fin _ _ _ => true | _ => false

/-- One step: the pair (hi, lo) takes contribution `x`; a pair that is not finite takes it into `hi` alone (R302). -/
def compStep (hi lo x : Nat) : Nat × Nat × Nat :=
  let s := fadd hi x
  if !isFin hi || !isFin s.1 then (s.1, 0, s.2)
  else
    let bb := fsub s.1 hi
    let a := fsub s.1 bb.1
    let b := fsub hi a.1
    let c := fsub x bb.1
    let e := fadd b.1 c.1
    let t := fadd lo e.1
    let h := fadd s.1 t.1
    let fl := [s.2, bb.2, a.2, b.2, c.2, e.2, t.2, h.2].foldl orF 0
    if !isFin h.1 then (h.1, 0, fl)
    else
      let d := fsub h.1 s.1
      let l := fsub t.1 d.1
      (h.1, l.1, orF fl (orF d.2 l.2))

/-- The exact value of a pair. -/
def pairV (hi lo : Nat) : Fv := if isFin hi then addV (decodeF fp32 hi) (decodeF fp32 lo) else decodeF fp32 hi

/-- The FP32 output of a pair: the FP32 sum of the two (R303). -/
def pairFp32 (hi lo : Nat) : Nat × Nat := fadd hi lo

/-- The FP64 output of a pair. DEDUCED: log 52. -/
def pairFp64 (hi lo : Nat) : Nat × Nat := writeF fp64 none (pairV hi lo)

/-! ## Split operands (R304) -/

/-- An FP32 code truncated to its upper half. -/
def truncBf (a : Nat) : Nat := a - a % 65536

/-- The pieces hi, mid and lo of an FP32 code, each an FP32 code. -/
def splitF (a : Nat) : Nat × Nat × Nat :=
  if !isFin a then (a, 0, 0)
  else
    let hi := truncBf a
    let r := (fsub a hi).1
    let mid := truncBf r
    (hi, mid, truncBf (fsub r mid).1)

/-! ## The Yelsoura hash (R306–R308) -/

/-- One word mixed in. -/
def hashStep (h w : Nat) : Nat :=
  let x := ((h ^^^ w) * 0xa3c59f274e1bd6ad) % 2 ^ 64
  x ^^^ (x >>> 31)

/-- The counter hash. -/
def yelHash (seed domain step id chunk elem : Nat) : Nat :=
  [seed % 2 ^ 64, domain % 16 * 2 ^ 48 + step % 2 ^ 48, id % 2 ^ 32 * 2 ^ 32 + chunk % 2 ^ 32, elem % 2 ^ 32].foldl hashStep
    0x5b1ec7a03f942d68

/-- RND: bits 63–48. -/
def hashRnd (h : Nat) : Nat := h / 2 ^ 48 % 65536

/-! ## Block scales (R299, R300) -/

/-- Number formats of a descriptor or instruction by the codes of R324. EMAX of a block format, none for the rest. -/
def emaxOf (fmt : Nat) : Option Int :=
  if fmt = 3 ∨ fmt = 9 then some 8 else if fmt = 4 ∨ fmt = 10 then some 15 else if fmt = 5 then some 6
  else if fmt = 11 then some 0 else if fmt = 7 then some 2 else none

/-- Floor of log2 of the largest finite magnitude of a list, none where all are zero. -/
def topExp (vs : List Fv) : Option Int :=
  vs.foldl (fun m v => match v with
    | .fin _ 0 _ => m
    | .fin _ n e => some (match m with | none => expOf n e | some x => max x (expOf n e))
    | _ => m) none

/-- The block scale over FP32 codes for an EMAX, and INVALID for a block with a NaN or an infinity. DEDUCED: log 52. -/
def blockScale (emax : Int) (xs : List Nat) : Nat × Nat :=
  if xs.any fun x => !isFin x then
    (255, orF fInvalid (if xs.any fun x => decodeF fp32 x = .nan then fNanIn else 0))
  else match topExp (xs.map (decodeF fp32)) with
    | none => (0, 0)
    | some e => ((max 0 (min 254 (e - emax + 127))).toNat, 0)

/-- A value divided by 2^(S − 127), exactly. -/
def unscale (S : Nat) (v : Fv) : Fv :=
  match v with
  | .fin s m e => .fin s m (e - ((S : Int) - 127))
  | v => v

/-- A value multiplied by 2^(S − 127); the scale code 0xFF makes it NaN (R281). -/
def scaled (S : Nat) (v : Fv) : Fv :=
  if S = 255 then .nan else match v with
    | .fin s m e => .fin s m (e + ((S : Int) - 127))
    | v => v

/-! ## Elements -/

/-- A two's-complement number of `n` bits as a value in units of 2^`u`. -/
def intV (n : Nat) (u : Int) (x : Nat) : Fv :=
  let y := x % 2 ^ n
  if 2 ^ (n - 1) ≤ y then .fin true (2 ^ n - y) u else .fin false y u

/-- The value of an element by its format code (R279–R283), before any block scale. -/
def elemV (fmt x : Nat) : Fv :=
  if fmt = 0 then decodeF fp32 x else if fmt = 1 then decodeF bf16 x else if fmt = 2 then decodeF fp16 x
  else if fmt = 3 ∨ fmt = 9 then decodeF e4m3 x else if fmt = 4 ∨ fmt = 10 then decodeF e5m2 x
  else if fmt = 5 then intV 8 0 x else if fmt = 7 then intV 4 0 x else if fmt = 11 then intV 8 (-6) x else intV 32 0 x

/-- A value written as an element of a format: the code in its own width and the flags. FP32 and INT32, which are not narrow
outputs, take no random bits, and a value written as the FP32 it already is meets no operation: NAN_IN is the reader's to set
(R284, R291, R298). -/
def writeElem (fmt : Nat) (sr : Option Nat) (v : Fv) : Nat × Nat :=
  let int := fun (n top bot : Nat) (u : Int) (sr : Option Nat) =>
    let r := writeI top bot u sr v; ((r.1 % (2 ^ n : Nat)).toNat, r.2)
  let flt := fun (f : Fmt) (sr : Option Nat) => let r := writeF f sr v; (r.1, orF r.2 (if v = .nan then fNanIn else 0))
  if fmt = 0 then writeF fp32 none v else if fmt = 1 then flt bf16 sr else if fmt = 2 then flt fp16 sr
  else if fmt = 3 ∨ fmt = 9 then flt e4m3 sr else if fmt = 4 ∨ fmt = 10 then flt e5m2 sr
  else if fmt = 5 then int 8 127 127 0 sr else if fmt = 7 then int 4 7 7 0 sr else if fmt = 11 then int 8 127 127 (-6) sr
  else int 32 2147483647 2147483648 0 none

/-- The FP32 code of an element's value, and INVALID where a block scale of 0xFF made it NaN (R291). -/
def widen (fmt : Nat) (scale : Option Nat) (x : Nat) : Nat × Nat :=
  match scale with
  | none => toFp32 (elemV fmt x) 0
  | some S => toFp32 (scaled S (elemV fmt x)) (if S = 255 then fInvalid else 0)

/-- Bytes of an element by format code (R324, R569). -/
def elemBytes (f : Nat) : Nat :=
  if f = 0 ∨ f = 6 then 4 else if f = 1 ∨ f = 2 then 2 else if f = 8 ∨ f = 12 then 8 else 1

/-! ## PWL gates (R310, R311) -/

/-- The GATE table: breakpoints in quarters, and Y. -/
def gateTable : List (Int × Int) :=
  [(-32, 0), (-24, 162), (-16, 1179), (-12, 3108), (-8, 7812), (-6, 11955), (-4, 17625), (-2, 24743), (0, 32768), (2, 40793),
   (4, 47911), (6, 53581), (8, 57724), (12, 62428), (16, 64357), (24, 65374), (32, 65536)]

/-- The SHAPE table. -/
def shapeTable : List (Int × Int) :=
  [(-16, -65536), (-12, -65212), (-8, -63179), (-6, -59320), (-4, -49912), (-3, -41625), (-2, -30285), (-1, -16051), (0, 0),
   (1, 16051), (2, 30285), (3, 41625), (4, 49912), (6, 59320), (8, 63179), (12, 65212), (16, 65536)]

/-- An integer in units of 2^`u` as a value. -/
def fixV (x u : Int) : Fv := .fin (decide (x < 0)) x.natAbs u

/-- The segment of a value: its two table rows, or the end row it is clamped to. -/
def segment (v : Fv) : List (Int × Int) → Sum (Int × Int) ((Int × Int) × (Int × Int))
  | [] => .inl (0, 0)
  | [p] => .inl p
  | p :: q :: t => if ltV v (fixV q.1 (-2)) then .inr (p, q) else segment v (q :: t)

/-- The gate at an FP32 code: the FP32 code and the flags. -/
def pwl (tab : List (Int × Int)) (a : Nat) : Nat × Nat :=
  let x := decodeF fp32 a
  if x = .nan then (nanCode fp32, fNanIn)
  else
    let b0 := tab.getD 0 (0, 0)
    if ltV x (fixV b0.1 (-2)) then toFp32 (fixV b0.2 (-16)) 0
    else match segment x tab with
      | .inl p => toFp32 (fixV p.2 (-16)) 0
      | .inr (p, q) =>
        let t := toFp32 (addV x (fixV (-p.1) (-2))) 0
        let slope := fixV (q.2 - p.2) (-14 - (Nat.log2 (q.1 - p.1).toNat : Int))
        let r := fmaV slope (decodeF fp32 t.1) (fixV p.2 (-16))
        (r.1, orF t.2 r.2)

end Sys2Proof.Machine
end

