-- ==== Sys2Proof/Config.lean ====
section
/-! DEFINITION. What an implementation fixes and the spec leaves open: constants with no body, so that no proof can see their
values. -/

namespace Sys2Proof.Config

/-- The `n`-th free 32-bit value: a value the spec leaves open and the block still produces. DESIGN CHOICE: log 16. -/
opaque freeWord : Nat → BitVec 32

/-- The `n`-th free 64-bit value. DESIGN CHOICE: log 16. -/
opaque freeLong : Nat → BitVec 64

/-- Which way a register that shows a whole number of units rounds a value between two of them: up where true.
DESIGN CHOICE: log 18. -/
opaque roundUp : Int → Bool

/-- CFG_ROM_VER: the boot ROM's version. DESIGN CHOICE: log 19. -/
opaque romVersion : BitVec 32

/-- CFG_FL_JEDEC: the ID of the flash device on the board. DESIGN CHOICE: log 19. -/
opaque jedecId : BitVec 24

/-- The SMB_ADDR1 and SMB_ADDR0 straps. DESIGN CHOICE: log 19. -/
opaque smbStraps : BitVec 2

/-- The Yelsoura firmware key that the boot ROM holds (R629): a compressed SEC1 key of 49 bytes, big-endian.
DESIGN CHOICE: log 19. -/
opaque firmwareKey : BitVec 392

/-- The time the `n`-th table operation takes, of which R208 gives only the limit of 256 ns. DESIGN CHOICE: log 107. -/
opaque tableTime : Nat → Nat

/-- Whether PCIe takes the write of entry `entry` of the CQ at `key` at root time `clk`, where no command says (R579).
DESIGN CHOICE: log 13. -/
opaque pcieTakes (clk key entry : Nat) : Bool

end Sys2Proof.Config
end

