-- ==== Sys2Proof/Machine/RegAddr.lean ====
section
/-! DEFINITION. The BAR0 offsets of the registers, by name, as functions of their indices (R720). -/

namespace Sys2Proof.Machine

/-- The function page of function `f`: the PF's lies in its BAR0; a VF's is keyed from 0x1000_0000 (R548, R720). -/
def fnPage (f : Nat) : Nat := if f = 0 then 0x38000 else 0x10000000 + 0x8000 * f

def aGLB_IDENT : Nat := 0x0
def aGLB_REV : Nat := 0x4
def aGLB_GRADE : Nat := 0x8
def aGLB_DIEMASK : Nat := 0xC
def aGLB_RESOURCE : Nat := 0x10
def aGLB_HBM : Nat := 0x14
def aGLB_FUSE_STATUS : Nat := 0x18
def aGLB_C0_COLMAP (i : Nat) : Nat := 0x20 + 0x4 * i
def aGLB_C1_COLMAP (i : Nat) : Nat := 0x40 + 0x4 * i
def aGLB_MAPDIGEST : Nat := 0x64
def aGLB_SERIAL_LO : Nat := 0x68
def aGLB_SERIAL_HI : Nat := 0x6C
def aGLB_FWVER : Nat := 0x70
def aCLK_STATUS : Nat := 0x10000
def aCLK_CTRL : Nat := 0x10004
def aCLK_FREQ_CORR : Nat := 0x10008
def aCLK_TRIM : Nat := 0x1000C
def aTIM_CTRL : Nat := 0x20000
def aTIM_QUALITY : Nat := 0x20004
def aTIM_NOW_LO : Nat := 0x20008
def aTIM_NOW_HI : Nat := 0x2000C
def aTIM_UNCERT : Nat := 0x20010
def aTIM_OFFSET : Nat := 0x20014
def aTIM_SRC_VIEW : Nat := 0x20018
def aTIM_SRC_OFFSET : Nat := 0x2001C
def aTIM_SRC_DELAY : Nat := 0x20020
def aTIM_HOLD : Nat := 0x20024
def aTIM_HOLD_LIMIT : Nat := 0x20028
def aTIM_XGUARD : Nat := 0x2002C
def aTIM_LOCK : Nat := 0x20030
def aTIM_STEP : Nat := 0x20034
def aTIM_STEP_SIZE_LO : Nat := 0x20038
def aTIM_STEP_SIZE_HI : Nat := 0x2003C
def aTIM_STEP_EPOCH : Nat := 0x20040
def aTIM_PPS : Nat := 0x20044
def aTIM_PPS_SEC : Nat := 0x20048
def aTIM_PPS_IN_DELAY : Nat := 0x2004C
def aTIM_PPS_OUT_OFFSET : Nat := 0x20050
def aTIM_WITHHELD_SLOTS : Nat := 0x20054
def aTIM_WITHHELD_ACTIONS : Nat := 0x20058
def aTIM_SKIPPED_SLOTS : Nat := 0x2005C
def aTIM_SKIPPED_ACTIONS : Nat := 0x20060
def aTIM_MARK_ERR : Nat := 0x20064
def aTIM_PPS_MISS : Nat := 0x20068
def aTIM_BST_LATE : Nat := 0x2006C
def aTIM_BST_SLIP : Nat := 0x20070
def aTIM_EVENT : Nat := 0x20074
def aTIM_EVENT_CNT0 : Nat := 0x20078
def aTIM_EVENT_CNT1 : Nat := 0x2007C
def aTIM_SRC_PRIO0_1 (i : Nat) : Nat := 0x20080 + 0x4 * i
def aTIM_SRC_PRIO2_3 (i : Nat) : Nat := 0x20088 + 0x4 * i
def aTIM_SRC_PRIO4 : Nat := 0x20090
def aTIM_STC_ASYM (i : Nat) : Nat := 0x200C0 + 0x4 * i
def aTIM_LASYM (i : Nat) : Nat := 0x20100 + 0x4 * i
def aHIF_LINK : Nat := 0x30000
def aHIF_NUMVF : Nat := 0x30004
def aHIF_BLK_IRQ_EN : Nat := 0x30008
def aHIF_BLK_IRQ_PEND : Nat := 0x3000C
def aHIF_OCC_CLR : Nat := 0x30010
def aHIF_CMD_TAKEN : Nat := 0x30020
def aHIF_CMD_REFUSED : Nat := 0x30024
def aHIF_CPL_LOST : Nat := 0x30028
def aHIF_DB_INVALID : Nat := 0x3002C
def aHIF_FN_ID (f : Nat) : Nat := fnPage f + 0x0
def aHIF_FN_EVENT (f : Nat) : Nat := fnPage f + 0x10
def aHIF_FN_EVENT_CNT0 (f : Nat) : Nat := fnPage f + 0x14
def aHIF_FN_EVENT_CNT1 (f : Nat) : Nat := fnPage f + 0x18
def aHIF_FN_EVT_VEC (f : Nat) : Nat := fnPage f + 0x20
def aHIF_FN_LOST (f : Nat) : Nat := fnPage f + 0x24
def aSQ_BASE_LO (f : Nat) (i : Nat) : Nat := fnPage f + 0x1000 + 0x20 * i
def aSQ_BASE_HI (f : Nat) (i : Nat) : Nat := fnPage f + 0x1004 + 0x20 * i
def aSQ_CTRL (f : Nat) (i : Nat) : Nat := fnPage f + 0x1008 + 0x20 * i
def aSQ_PTR (f : Nat) (i : Nat) : Nat := fnPage f + 0x100C + 0x20 * i
def aSQ_STATUS (f : Nat) (i : Nat) : Nat := fnPage f + 0x1010 + 0x20 * i
def aCQ_BASE_LO (f : Nat) (i : Nat) : Nat := fnPage f + 0x3000 + 0x20 * i
def aCQ_BASE_HI (f : Nat) (i : Nat) : Nat := fnPage f + 0x3004 + 0x20 * i
def aCQ_CTRL (f : Nat) (i : Nat) : Nat := fnPage f + 0x3008 + 0x20 * i
def aCQ_PTR (f : Nat) (i : Nat) : Nat := fnPage f + 0x300C + 0x20 * i
def aCQ_MODER (f : Nat) (i : Nat) : Nat := fnPage f + 0x3010 + 0x20 * i
def aCQ_STATUS (f : Nat) (i : Nat) : Nat := fnPage f + 0x3014 + 0x20 * i
def aCQ_LOST (f : Nat) (i : Nat) : Nat := fnPage f + 0x3018 + 0x20 * i
def aPAV_STATUS : Nat := 0x40000
def aPAV_SEQ : Nat := 0x40004
def aPAV_NONCE_LO : Nat := 0x40008
def aPAV_NONCE_HI : Nat := 0x4000C
def aPAV_WINDOW : Nat := 0x40010
def aPAV_CUST : Nat := 0x40014
def aPAV_OPKEY_FP_LO : Nat := 0x40018
def aPAV_OPKEY_FP_HI : Nat := 0x4001C
def aPAV_CUKEY_FP_LO : Nat := 0x40020
def aPAV_CUKEY_FP_HI : Nat := 0x40024
def aPAV_PEND_DIG_LO : Nat := 0x40028
def aPAV_PEND_DIG_HI : Nat := 0x4002C
def aPAV_LAST : Nat := 0x40030
def aPAV_VIEW : Nat := 0x40040
def aPAV_TBL_ID : Nat := 0x40044
def aPAV_TBL_UNITS : Nat := 0x40048
def aPAV_TBL_COL (i : Nat) : Nat := 0x40050 + 0x4 * i
def aPAV_TBL_PORT (i : Nat) : Nat := 0x40070 + 0x4 * i
def aPAV_TBL_STREAMS (i : Nat) : Nat := 0x40080 + 0x4 * i
def aPAV_TBL_GROUPS : Nat := 0x40088
def aPAV_TBL_HBM (i : Nat) (j : Nat) : Nat := 0x40090 + 0x8 * i + 0x4 * j
def aPAV_TBL_EMBER (i : Nat) (j : Nat) : Nat := 0x400A0 + 0x8 * i + 0x4 * j
def aPAV_TBL_SBUF (i : Nat) (j : Nat) : Nat := 0x400B0 + 0x8 * i + 0x4 * j
def aPAV_TBL_RSV (i : Nat) : Nat := 0x400C0 + 0x4 * i
def aPAV_EVENT : Nat := 0x40100
def aPAV_EVENT_CNT0 : Nat := 0x40104
def aPAV_EVENT_CNT1 : Nat := 0x40108
def aPAV_PROPOSALS : Nat := 0x40110
def aPAV_COMMITS : Nat := 0x40114
def aPAV_EXPIRIES : Nat := 0x40118
def aPAV_REFUSALS : Nat := 0x4011C
def aPAV_SCHED_ADMIT : Nat := 0x40120
def aCFG_BOOT : Nat := 0x50000
def aCFG_RESET_CAUSE : Nat := 0x50004
def aCFG_WARM_COUNT : Nat := 0x50008
def aCFG_RESET : Nat := 0x5000C
def aCFG_ROM_VER : Nat := 0x50010
def aCFG_CONFIG_IGNORED : Nat := 0x50014
def aCFG_COPY_A : Nat := 0x50020
def aCFG_COPY_A_SEQ : Nat := 0x50024
def aCFG_COPY_A_FWVER : Nat := 0x50028
def aCFG_COPY_B : Nat := 0x50030
def aCFG_COPY_B_SEQ : Nat := 0x50034
def aCFG_COPY_B_FWVER : Nat := 0x50038
def aCFG_ROOT_STATE : Nat := 0x50050
def aCFG_ROOT_FP (i : Nat) : Nat := 0x50060 + 0x4 * i
def aCFG_ROOT_STAGE (i : Nat) : Nat := 0x50090 + 0x4 * i
def aCFG_FUSE_PROG : Nat := 0x500C0
def aCFG_FL_CMD : Nat := 0x50100
def aCFG_FL_ADDR : Nat := 0x50104
def aCFG_FL_JEDEC : Nat := 0x50108
def aCFG_EVENT : Nat := 0x50180
def aCFG_EVENT_CNT0 : Nat := 0x50184
def aCFG_EVENT_CNT1 : Nat := 0x50188
def aCFG_FL_DATA (i : Nat) : Nat := 0x50200 + 0x4 * i
def aLOG_CTRL : Nat := 0x60000
def aLOG_STATUS : Nat := 0x60004
def aLOG_WR_SEQ : Nat := 0x60008
def aLOG_DRAIN_SEQ : Nat := 0x6000C
def aLOG_VIEW : Nat := 0x60010
def aLOG_DRAIN_ADV : Nat := 0x60014
def aLOG_THRESH : Nat := 0x60018
def aLOG_ENTRY (i : Nat) : Nat := 0x60020 + 0x4 * i
def aLOG_EVENT : Nat := 0x60080
def aLOG_EVENT_CNT0 : Nat := 0x60084
def aLOG_EVENT_CNT1 : Nat := 0x60088
def aLOG_ENTRIES : Nat := 0x60100
def aLOG_DROPPED : Nat := 0x60104
def aLOG_OVERWRITTEN : Nat := 0x60108
def aLOG_STALLS : Nat := 0x6010C
def aLOG_TBL_CORR : Nat := 0x60110
def aLOG_TBL_UNCORR : Nat := 0x60114
def aMGT_UART_CFG : Nat := 0x70000
def aMGT_SMB_CFG : Nat := 0x70004
def aMGT_RELAY : Nat := 0x70008
def aMGT_TEMP_LIMITS : Nat := 0x70010
def aMGT_TEMP (i : Nat) : Nat := 0x70040 + 0x4 * i
def aMGT_VOLT (i : Nat) : Nat := 0x70080 + 0x4 * i
def aMGT_VOLT_WIN16_17 (i : Nat) : Nat := 0x700C0 + 0x4 * i
def aMGT_VOLT_WIN18 : Nat := 0x700C8
def aMGT_VOLT_WIN19 : Nat := 0x700CC
def aMGT_VOLT_WIN20 : Nat := 0x700D0
def aMGT_VOLT_WIN21 : Nat := 0x700D4
def aMGT_EVENT : Nat := 0x70100
def aMGT_EVENT_CNT0 : Nat := 0x70104
def aMGT_EVENT_CNT1 : Nat := 0x70108
def aMGT_UART_FRAMING : Nat := 0x70140
def aMGT_UART_BREAKS : Nat := 0x70144
def aMGT_UART_OVERRUN : Nat := 0x70148
def aMGT_SMB_PEC_ERR : Nat := 0x7014C
def aMGT_RELAY_DROP : Nat := 0x70150
def aMGT_TRIP_REC : Nat := 0x70180
def aLNE_CTRL (i : Nat) : Nat := 0x100000 + 0x400 * i
def aLNE_STATUS (i : Nat) : Nat := 0x100004 + 0x400 * i
def aLNE_PATGEN (i : Nat) : Nat := 0x100010 + 0x400 * i
def aLNE_PATCHK (i : Nat) : Nat := 0x100014 + 0x400 * i
def aLNE_USER_LO (i : Nat) : Nat := 0x100018 + 0x400 * i
def aLNE_USER_HI (i : Nat) : Nat := 0x10001C + 0x400 * i
def aLNE_INJECT (i : Nat) : Nat := 0x100020 + 0x400 * i
def aLNE_CHK_BITS_LO (i : Nat) : Nat := 0x100030 + 0x400 * i
def aLNE_CHK_BITS_HI (i : Nat) : Nat := 0x100034 + 0x400 * i
def aLNE_CHK_ERR_LO (i : Nat) : Nat := 0x100038 + 0x400 * i
def aLNE_CHK_ERR_HI (i : Nat) : Nat := 0x10003C + 0x400 * i
def aLNE_INJ_COUNT (i : Nat) : Nat := 0x100040 + 0x400 * i
def aLNE_EVENT (i : Nat) : Nat := 0x100080 + 0x400 * i
def aLNE_EVENT_CNT (i : Nat) : Nat := 0x100084 + 0x400 * i
def aLNE_STC_CODE_ERR (i : Nat) : Nat := 0x1C0100 + 0x400 * i
def aLNE_STC_DISP_ERR (i : Nat) : Nat := 0x1C0104 + 0x400 * i
def aLNE_STC_MARKS (i : Nat) : Nat := 0x1C0108 + 0x400 * i
def aLNE_STC_FRAMES (i : Nat) : Nat := 0x1C010C + 0x400 * i
def aLNE_STC_FRAME_ERR (i : Nat) : Nat := 0x1C0110 + 0x400 * i
def aLNE_STC_ABORTS (i : Nat) : Nat := 0x1C0114 + 0x400 * i
def aLNE_STC_LOSS (i : Nat) : Nat := 0x1C0118 + 0x400 * i
def aPRT_CTRL (i : Nat) : Nat := 0x200000 + 0x1000 * i
def aPRT_STATUS (i : Nat) : Nat := 0x200004 + 0x1000 * i
def aPRT_RXREST (i : Nat) : Nat := 0x200008 + 0x1000 * i
def aPRT_VIEW (i : Nat) : Nat := 0x20000C + 0x1000 * i
def aPRT_PEER (i : Nat) : Nat := 0x200010 + 0x1000 * i
def aPRT_REST_CTRL (i : Nat) : Nat := 0x200014 + 0x1000 * i
def aPRT_LOSS_CFG (i : Nat) : Nat := 0x200018 + 0x1000 * i
def aPRT_RETRY (i : Nat) : Nat := 0x20001C + 0x1000 * i
def aPRT_TXEQ (i : Nat) : Nat := 0x200020 + 0x1000 * i
def aPRT_S_MAXFRAME (i : Nat) : Nat := 0x200024 + 0x1000 * i
def aPRT_EVENT (i : Nat) : Nat := 0x200030 + 0x1000 * i
def aPRT_EVENT_CNT0 (i : Nat) : Nat := 0x200034 + 0x1000 * i
def aPRT_EVENT_CNT1 (i : Nat) : Nat := 0x200038 + 0x1000 * i
def aFEC_CORR_CW_LO (i : Nat) (j : Nat) : Nat := 0x200100 + 0x1000 * i + 0x80 * j
def aFEC_CORR_CW_HI (i : Nat) (j : Nat) : Nat := 0x200104 + 0x1000 * i + 0x80 * j
def aFEC_UNCORR_CW_LO (i : Nat) (j : Nat) : Nat := 0x200108 + 0x1000 * i + 0x80 * j
def aFEC_UNCORR_CW_HI (i : Nat) (j : Nat) : Nat := 0x20010C + 0x1000 * i + 0x80 * j
def aFEC_SYM_ERR_LO (i : Nat) (j : Nat) : Nat := 0x200110 + 0x1000 * i + 0x80 * j
def aFEC_SYM_ERR_HI (i : Nat) (j : Nat) : Nat := 0x200114 + 0x1000 * i + 0x80 * j
def aLINK_DOWNS (i : Nat) (j : Nat) : Nat := 0x200118 + 0x1000 * i + 0x80 * j
def aREST_COMMITS (i : Nat) (j : Nat) : Nat := 0x20011C + 0x1000 * i + 0x80 * j
def aREST_ABORTS (i : Nat) (j : Nat) : Nat := 0x200120 + 0x1000 * i + 0x80 * j
def aWAKES_AFTER_COMMIT (i : Nat) (j : Nat) : Nat := 0x200124 + 0x1000 * i + 0x80 * j
def aWAKE_MAX_NS (i : Nat) (j : Nat) : Nat := 0x200128 + 0x1000 * i + 0x80 * j
def aOS_UNKNOWN (i : Nat) (j : Nat) : Nat := 0x20012C + 0x1000 * i + 0x80 * j
def aSCHED_IN_REST (i : Nat) (j : Nat) : Nat := 0x200130 + 0x1000 * i + 0x80 * j
def aSCHED_DROP (i : Nat) (j : Nat) : Nat := 0x200134 + 0x1000 * i + 0x80 * j
def aPRT_S_RX_OK_LO (i : Nat) : Nat := 0x250600 + 0x1000 * i
def aPRT_S_RX_OK_HI (i : Nat) : Nat := 0x250604 + 0x1000 * i
def aPRT_S_TX_LO (i : Nat) : Nat := 0x250608 + 0x1000 * i
def aPRT_S_TX_HI (i : Nat) : Nat := 0x25060C + 0x1000 * i
def aPRT_S_RX_FCS (i : Nat) : Nat := 0x250610 + 0x1000 * i
def aPRT_S_RX_SHORT (i : Nat) : Nat := 0x250614 + 0x1000 * i
def aPRT_S_RX_LONG (i : Nat) : Nat := 0x250618 + 0x1000 * i
def aRTE_CTRL : Nat := 0x300000
def aRTE_ID : Nat := 0x300004
def aRTE_TBL_CMD : Nat := 0x300010
def aRTE_TBL_DATA0 : Nat := 0x300014
def aRTE_TBL_DATA1 (i : Nat) : Nat := 0x300018 + 0x4 * i
def aRTE_VC_ALLOW_F : Nat := 0x300030
def aRTE_VC_ALLOW_L : Nat := 0x300034
def aRTE_CRED_VIEW : Nat := 0x300038
def aRTE_CRED_AVAIL : Nat := 0x30003C
def aRTE_EVENT : Nat := 0x300040
def aRTE_EVENT_CNT : Nat := 0x300044
def aRTE_LASTDROP0 : Nat := 0x300050
def aRTE_LASTDROP1 : Nat := 0x300054
def aRTE_LASTDROP2 : Nat := 0x300058
def aRTE_FWD_SCHED_LO : Nat := 0x300080
def aRTE_FWD_SCHED_HI : Nat := 0x300084
def aRTE_FWD_UNSCHED_LO : Nat := 0x300088
def aRTE_FWD_UNSCHED_HI : Nat := 0x30008C
def aRTE_CREDIT_TX : Nat := 0x300090
def aRTE_CREDIT_RX : Nat := 0x300094
def aRTE_DROP (i : Nat) : Nat := 0x300100 + 0x4 * i
def aBPM_CTRL (i : Nat) : Nat := 0x310000 + 0x4000 * i
def aBPM_STATUS (i : Nat) : Nat := 0x310004 + 0x4000 * i
def aBPM_SCHED_BASE (i : Nat) : Nat := 0x310008 + 0x4000 * i
def aBPM_SCHED_SIZE (i : Nat) : Nat := 0x31000C + 0x4000 * i
def aBPM_RING_BASE (i : Nat) : Nat := 0x310010 + 0x4000 * i
def aBPM_POOL_BASE (i : Nat) (j : Nat) : Nat := 0x310100 + 0x4000 * i + 0x40 * j
def aBPM_POOL_COUNT (i : Nat) (j : Nat) : Nat := 0x310104 + 0x4000 * i + 0x40 * j
def aBPM_POOL_FREE (i : Nat) (j : Nat) : Nat := 0x310108 + 0x4000 * i + 0x40 * j
def aBPM_POOL_SHARED (i : Nat) (j : Nat) : Nat := 0x31010C + 0x4000 * i + 0x40 * j
def aBPM_POOL_INUSE (i : Nat) (j : Nat) : Nat := 0x310110 + 0x4000 * i + 0x40 * j
def aBPM_POOL_LOWFREE (i : Nat) (j : Nat) : Nat := 0x310114 + 0x4000 * i + 0x40 * j
def aBPM_POOL_NOBUF (i : Nat) (j : Nat) : Nat := 0x310118 + 0x4000 * i + 0x40 * j
def aBPM_POOL_ALLOC_LO (i : Nat) (j : Nat) : Nat := 0x31011C + 0x4000 * i + 0x40 * j
def aBPM_POOL_ALLOC_HI (i : Nat) (j : Nat) : Nat := 0x310120 + 0x4000 * i + 0x40 * j
def aBPM_POOL_RSV_SUM (i : Nat) (j : Nat) : Nat := 0x310124 + 0x4000 * i + 0x40 * j
def aBPM_OWN_CMD (i : Nat) : Nat := 0x310200 + 0x4000 * i
def aBPM_OWN_DATA0 (i : Nat) : Nat := 0x310204 + 0x4000 * i
def aBPM_OWN_DATA1 (i : Nat) : Nat := 0x310208 + 0x4000 * i
def aBPM_OWN_DATA2 (i : Nat) : Nat := 0x31020C + 0x4000 * i
def aBPM_OWN_DATA3 (i : Nat) : Nat := 0x310210 + 0x4000 * i
def aBPM_EVENT (i : Nat) : Nat := 0x310300 + 0x4000 * i
def aBPM_EVENT_CNT (i : Nat) : Nat := 0x310304 + 0x4000 * i
def aBPM_HANDLE_DUP (i : Nat) : Nat := 0x310310 + 0x4000 * i
def aBPM_DOUBLE_FREE (i : Nat) : Nat := 0x310314 + 0x4000 * i
def aBPM_CACHE_STEAL (i : Nat) : Nat := 0x310318 + 0x4000 * i
def aBPM_NO_POOL (i : Nat) : Nat := 0x31031C + 0x4000 * i
def aSCH_CAL_PERIOD : Nat := 0x320000
def aSCH_CAL_COUNT : Nat := 0x320004
def aSCH_CAL_CMD : Nat := 0x320008
def aSCH_CAL_DATA0 : Nat := 0x32000C
def aSCH_CAL_DATA1 : Nat := 0x320010
def aSCH_POL_CMD : Nat := 0x320020
def aSCH_POL_DATA0 : Nat := 0x320024
def aSCH_POL_DATA1 : Nat := 0x320028
def aSCH_POL_DATA2 : Nat := 0x32002C
def aSCH_POL_VIEW : Nat := 0x320030
def aSCH_POL_GREEN : Nat := 0x320034
def aSCH_POL_YELLOW : Nat := 0x320038
def aSCH_POL_RED : Nat := 0x32003C
def aSCH_POL_RED_TOTAL_LO : Nat := 0x320040
def aSCH_POL_RED_TOTAL_HI : Nat := 0x320044
def aSCH_EVENT : Nat := 0x320050
def aSCH_EVENT_CNT0 : Nat := 0x320054
def aSCH_EVENT_CNT1 : Nat := 0x320058
def aSCH_PORT_CFG (i : Nat) : Nat := 0x330000 + 0x2000 * i
def aSCH_QMAP (i : Nat) : Nat := 0x330004 + 0x2000 * i
def aSCH_PAUSE_CTRL (i : Nat) : Nat := 0x330010 + 0x2000 * i
def aSCH_PAUSE_TIME (i : Nat) : Nat := 0x330014 + 0x2000 * i
def aSCH_PAUSE_XOFF (i : Nat) : Nat := 0x330018 + 0x2000 * i
def aSCH_PAUSE_XON (i : Nat) : Nat := 0x33001C + 0x2000 * i
def aSCH_PAUSE_STATE (i : Nat) : Nat := 0x330020 + 0x2000 * i
def aSCH_Q_SHAPE_CAP (i : Nat) (j : Nat) (k : Nat) : Nat := 0x330100 + 0x2000 * i + 0x200 * j + 0x10 * k
def aSCH_Q_SHAPE_WEIGHT (i : Nat) (j : Nat) (k : Nat) : Nat := 0x330130 + 0x2000 * i + 0x200 * j + 0x10 * k
def aSCH_Q_BURST_CAP (i : Nat) (j : Nat) (k : Nat) : Nat := 0x330104 + 0x2000 * i + 0x200 * j + 0x10 * k
def aSCH_Q_BURST_DRR (i : Nat) (j : Nat) (k : Nat) : Nat := 0x330134 + 0x2000 * i + 0x200 * j + 0x10 * k
def aSCH_Q_MARK (i : Nat) (j : Nat) (k : Nat) : Nat := 0x330108 + 0x2000 * i + 0x200 * j + 0x10 * k
def aSCH_Q_LIMIT (i : Nat) (j : Nat) (k : Nat) : Nat := 0x33010C + 0x2000 * i + 0x200 * j + 0x10 * k
def aSCH_Q_TX_BYTES_LO (i : Nat) (j : Nat) (k : Nat) : Nat := 0x330180 + 0x2000 * i + 0x200 * j + 0x10 * k
def aSCH_Q_TX_BYTES_HI (i : Nat) (j : Nat) (k : Nat) : Nat := 0x330184 + 0x2000 * i + 0x200 * j + 0x10 * k
def aSCH_Q_TX_PKTS (i : Nat) (j : Nat) (k : Nat) : Nat := 0x330188 + 0x2000 * i + 0x200 * j + 0x10 * k
def aSCH_Q_MARKED (i : Nat) (j : Nat) (k : Nat) : Nat := 0x33018C + 0x2000 * i + 0x200 * j + 0x10 * k
def aSCH_Q_DEPTH (i : Nat) (j : Nat) (k : Nat) : Nat := 0x330200 + 0x2000 * i + 0x200 * j + 0x8 * k
def aSCH_Q_DEPTH_MAX (i : Nat) (j : Nat) (k : Nat) : Nat := 0x330204 + 0x2000 * i + 0x200 * j + 0x8 * k
def aSCH_SCHED_UNRESV (i : Nat) (j : Nat) : Nat := 0x330280 + 0x2000 * i + 0x200 * j
def aSCH_SP_STATUS (i : Nat) (j : Nat) : Nat := 0x330284 + 0x2000 * i + 0x200 * j
def aPAUSE_RX_FRAMES (i : Nat) : Nat := 0x3D0040 + 0x2000 * i
def aPFC_RX_FRAMES (i : Nat) : Nat := 0x3D0044 + 0x2000 * i
def aPAUSE_TX_FRAMES (i : Nat) : Nat := 0x3D0048 + 0x2000 * i
def aCTRL_IGNORED (i : Nat) : Nat := 0x3D004C + 0x2000 * i
def aPAUSED_QUANTA_LO (i : Nat) : Nat := 0x3D0050 + 0x2000 * i
def aPAUSED_QUANTA_HI (i : Nat) : Nat := 0x3D0054 + 0x2000 * i
def aCEL_CTRL : Nat := 0x400000
def aCEL_STATUS : Nat := 0x400004
def aCEL_FPFLAGS : Nat := 0x400010
def aCEL_FPFLAGS_CNT0 : Nat := 0x400014
def aCEL_FPFLAGS_CNT1 : Nat := 0x400018
def aCEL_EVENT : Nat := 0x400020
def aCEL_EVENT_CNT0 : Nat := 0x400024
def aCEL_EVENT_CNT1 : Nat := 0x400028
def aCEL_FAULT_REC0 : Nat := 0x400030
def aCEL_FAULT_REC1 : Nat := 0x400034
def aCEL_FAULT_REC2 : Nat := 0x400038
def aCEL_FAULT_REC3 : Nat := 0x40003C
def aCEL_LAUNCHES : Nat := 0x400040
def aCEL_LAUNCH_REFUSED : Nat := 0x400044
def aCEL_FAULTS : Nat := 0x400048
def aCEL_ECC_CORR : Nat := 0x40004C
def aCEL_WAITC_LATE : Nat := 0x400050
def aCEL_RECV_STALL : Nat := 0x400054
def aCEL_MESH_WAIT : Nat := 0x400058
def aCEL_LANDING_OVER : Nat := 0x40005C
def aCEL_XLAT (i : Nat) : Nat := 0x400100 + 0x4 * i
def aCEL_COLMODE (i : Nat) : Nat := 0x400200 + 0x4 * i
def aCEL_COLOWN (i : Nat) : Nat := 0x400300 + 0x4 * i
def aCOL_CTRL : Nat := 0x410000
def aCOL_VIEW : Nat := 0x410004
def aCOL_GRP_STATE : Nat := 0x410008
def aCOL_GRP_STEP_LO : Nat := 0x41000C
def aCOL_GRP_STEP_HI : Nat := 0x410010
def aCOL_LATE_MAP_LO : Nat := 0x410014
def aCOL_LATE_MAP_HI : Nat := 0x410018
def aCOL_LAST_FAIL : Nat := 0x41001C
def aCOL_SLOW : Nat := 0x410020
def aCOL_MEM_LAG_LO : Nat := 0x410024
def aCOL_MEM_LAG_HI : Nat := 0x410028
def aCOL_LAG_CLR : Nat := 0x41002C
def aCOL_LAG_HIST (i : Nat) : Nat := 0x410040 + 0x4 * i
def aCOL_FPFLAGS : Nat := 0x410080
def aCOL_FPFLAGS_CNT0 : Nat := 0x410084
def aCOL_FPFLAGS_CNT1 : Nat := 0x410088
def aCOL_EVENT : Nat := 0x410090
def aCOL_EVENT_CNT0 : Nat := 0x410094
def aCOL_EVENT_CNT1 : Nat := 0x410098
def aCOL_INST_OK : Nat := 0x410100
def aCOL_INST_FAIL : Nat := 0x410104
def aCOL_DROP_NOGROUP : Nat := 0x410108
def aCOL_DROP_MEMBER : Nat := 0x41010C
def aCOL_DROP_CLASS : Nat := 0x410110
def aCOL_DROP_STALE : Nat := 0x410114
def aCOL_OVER : Nat := 0x410118
def aCOL_SEG_RANGE : Nat := 0x41011C
def aCOL_GROUPS_USED : Nat := 0x410120
def aMXU_FPFLAGS : Nat := 0x420000
def aMXU_FPFLAGS_CNT0 : Nat := 0x420004
def aMXU_FPFLAGS_CNT1 : Nat := 0x420008
def aMXU_EVENT : Nat := 0x420010
def aMXU_EVENT_CNT0 : Nat := 0x420014
def aMXU_EVENT_CNT1 : Nat := 0x420018
def aMXU_STATUS (i : Nat) : Nat := 0x420100 + 0x100 * i
def aMXU_LAST (i : Nat) : Nat := 0x420104 + 0x100 * i
def aMXU_LAUNCHES (i : Nat) : Nat := 0x420108 + 0x100 * i
def aMXU_REFUSED (i : Nat) : Nat := 0x42010C + 0x100 * i
def aMXU_ACTIVE_LO (i : Nat) : Nat := 0x420110 + 0x100 * i
def aMXU_ACTIVE_HI (i : Nat) : Nat := 0x420114 + 0x100 * i
def aMXU_GATHER_STALL (i : Nat) : Nat := 0x420118 + 0x100 * i
def aMXU_GATHER_RANGE (i : Nat) : Nat := 0x42011C + 0x100 * i
def aMXU_ECC_CORR (i : Nat) : Nat := 0x420120 + 0x100 * i
def aMXU_FAULT_REC0 (i : Nat) : Nat := 0x420124 + 0x100 * i
def aMXU_FAULT_REC1 (i : Nat) : Nat := 0x420128 + 0x100 * i
def aMXU_FAULT_REC2 (i : Nat) : Nat := 0x42012C + 0x100 * i
def aSTR_TBL_CMD : Nat := 0x430000
def aSTR_TBL_DATA0 : Nat := 0x430004
def aSTR_TBL_DATA1 : Nat := 0x430008
def aSTR_TBL_DATA2 : Nat := 0x43000C
def aSTR_TBL_DATA3 : Nat := 0x430010
def aSTR_TBL_DATA4 : Nat := 0x430014
def aSTR_TBL_DATA5 : Nat := 0x430018
def aSTR_TBL_DATA6 : Nat := 0x43001C
def aSTR_TBL_DATA7 : Nat := 0x430020
def aSTR_VIEW : Nat := 0x430040
def aSTR_STATE : Nat := 0x430044
def aSTR_STEP_LO : Nat := 0x430048
def aSTR_STEP_HI : Nat := 0x43004C
def aSTR_LAST_RESET_LO : Nat := 0x430050
def aSTR_LAST_RESET_HI : Nat := 0x430054
def aSTR_DIGEST : Nat := 0x430058
def aSTR_FPFLAGS : Nat := 0x430080
def aSTR_FPFLAGS_CNT0 : Nat := 0x430084
def aSTR_FPFLAGS_CNT1 : Nat := 0x430088
def aSTR_EVENT : Nat := 0x430090
def aSTR_EVENT_CNT0 : Nat := 0x430094
def aSTR_EVENT_CNT1 : Nat := 0x430098
def aSTR_STEPS_OK : Nat := 0x430100
def aSTR_STEPS_FAIL : Nat := 0x430104
def aSTR_RESETS : Nat := 0x430108
def aSTR_RAW_SENT : Nat := 0x43010C
def aSTR_RAW_ABANDONED : Nat := 0x430110
def aSTR_RBIT_MISMATCH : Nat := 0x430114
def aSTR_DROP_NOSTREAM : Nat := 0x430118
def aSTR_DROP_PAV : Nat := 0x43011C
def aSTR_DROP_LEN : Nat := 0x430120
def aSTR_DROP_LATE : Nat := 0x430124
def aSTR_DROP_STEP : Nat := 0x430128
def aRPL_BASE_LO (i : Nat) : Nat := 0x431000 + 0x100 * i
def aRPL_BASE_HI (i : Nat) : Nat := 0x431004 + 0x100 * i
def aRPL_SIZE (i : Nat) : Nat := 0x431008 + 0x100 * i
def aRPL_CTRL (i : Nat) : Nat := 0x43100C + 0x100 * i
def aRPL_UNACKED (i : Nat) : Nat := 0x431010 + 0x100 * i
def aRPL_NAK_TX (i : Nat) : Nat := 0x431014 + 0x100 * i
def aRPL_NAK_RX (i : Nat) : Nat := 0x431018 + 0x100 * i
def aRPL_REPLAYED (i : Nat) : Nat := 0x43101C + 0x100 * i
def aRPL_GAP (i : Nat) : Nat := 0x431020 + 0x100 * i
def aRPL_EVICTED (i : Nat) : Nat := 0x431024 + 0x100 * i
def aRPL_SCHED_LATE (i : Nat) : Nat := 0x431028 + 0x100 * i
def aRPL_RECOVER_DISCARD (i : Nat) : Nat := 0x43102C + 0x100 * i
def aMEM_CTRL : Nat := 0x440000
def aMEM_GSVC : Nat := 0x440004
def aMEM_RGN_CMD : Nat := 0x440010
def aMEM_RGN_DATA0 : Nat := 0x440014
def aMEM_RGN_DATA1 : Nat := 0x440018
def aMEM_RGN_DATA2 : Nat := 0x44001C
def aMEM_GTBL_CMD : Nat := 0x440020
def aMEM_GTBL_DATA0 : Nat := 0x440024
def aMEM_GTBL_DATA1 : Nat := 0x440028
def aMEM_GTBL_DATA2 : Nat := 0x44002C
def aMEM_GWIN_CMD : Nat := 0x440030
def aMEM_GWIN_DATA0 : Nat := 0x440034
def aMEM_GWIN_DATA1 : Nat := 0x440038
def aMEM_EWIN_BASE (i : Nat) : Nat := 0x440040 + 0x8 * i
def aMEM_EWIN_SIZE (i : Nat) : Nat := 0x440044 + 0x8 * i
def aMEM_EVENT : Nat := 0x440080
def aMEM_EVENT_CNT0 : Nat := 0x440084
def aMEM_EVENT_CNT1 : Nat := 0x440088
def aMEM_PF_BYTES_LO : Nat := 0x440100
def aMEM_PF_BYTES_HI : Nat := 0x440104
def aMEM_PF_COUNT : Nat := 0x440108
def aMEM_PF_REFUSED : Nat := 0x44010C
def aMEM_PF_OVF : Nat := 0x440110
def aMEM_PAGE_LATE : Nat := 0x440114
def aMEM_GREQ_RX : Nat := 0x440118
def aMEM_GREQ_DROP : Nat := 0x44011C
def aMEM_GATHER_RANGE : Nat := 0x440120
def aMEM_ACCESS_DENIED : Nat := 0x440124
def aMEM_HBM_CORR : Nat := 0x440128
def aMEM_HBM_UNCORR : Nat := 0x44012C
def aMEM_HBM_STATUS (i : Nat) : Nat := 0x440140 + 0x4 * i
def aDET_CAP_CFG : Nat := 0x450000
def aDET_CAP_POST : Nat := 0x450004
def aDET_CAP_WR_LO : Nat := 0x450008
def aDET_CAP_WR_HI : Nat := 0x45000C
def aDET_CAP_OLDEST_LO : Nat := 0x450010
def aDET_CAP_OLDEST_HI : Nat := 0x450014
def aDET_CAP_RECSEQ : Nat := 0x450018
def aDET_CAP_TRIGGER : Nat := 0x45001C
def aDET_CAP_DMAC_LO : Nat := 0x450020
def aDET_CAP_DMAC_HI : Nat := 0x450024
def aDET_CAP_SMAC_LO : Nat := 0x450028
def aDET_CAP_SMAC_HI : Nat := 0x45002C
def aDET_RPL_CTRL : Nat := 0x450040
def aDET_RPL_BASE_LO : Nat := 0x450044
def aDET_RPL_BASE_HI : Nat := 0x450048
def aDET_RPL_LEN_LO : Nat := 0x45004C
def aDET_RPL_LEN_HI : Nat := 0x450050
def aDET_RPL_CAP_START_LO : Nat := 0x450054
def aDET_RPL_CAP_START_HI : Nat := 0x450058
def aDET_RPL_STATUS : Nat := 0x45005C
def aDET_RPL_POS : Nat := 0x450060
def aDET_DIG_CMD : Nat := 0x450080
def aDET_DIG_ADDR_LO : Nat := 0x450084
def aDET_DIG_ADDR_HI : Nat := 0x450088
def aDET_DIG_LEN : Nat := 0x45008C
def aDET_DIG_RESULT : Nat := 0x450090
def aDET_HAZARD : Nat := 0x4500A0
def aDET_EVENT : Nat := 0x4500B0
def aDET_EVENT_CNT0 : Nat := 0x4500B4
def aDET_EVENT_CNT1 : Nat := 0x4500B8
def aDET_CAP_RECORDS_LO : Nat := 0x450100
def aDET_CAP_RECORDS_HI : Nat := 0x450104
def aDET_CAP_LOST : Nat := 0x450108
def aDET_CAP_TRIG_EXTRA : Nat := 0x45010C
def aDET_RPL_INJECTED : Nat := 0x450110
def aDET_RPL_WIRE_DROP : Nat := 0x450114
def aPWR_BUDGET : Nat := 0x460000
def aPWR_INUSE : Nat := 0x460004
def aPWR_PEAK : Nat := 0x460008
def aPWR_PAV_VIEW : Nat := 0x46000C
def aPWR_PAV_TOKENS : Nat := 0x460010
def aPWR_IMG_STATE : Nat := 0x460020
def aPWR_IMG_ID_LO : Nat := 0x460024
def aPWR_IMG_ID_HI : Nat := 0x460028
def aPWR_START_LO : Nat := 0x46002C
def aPWR_START_HI : Nat := 0x460030
def aPWR_ITER_LO : Nat := 0x460034
def aPWR_ITER_HI : Nat := 0x460038
def aPWR_LAST_REFUSAL : Nat := 0x46003C
def aPWR_EVENT : Nat := 0x460040
def aPWR_EVENT_CNT0 : Nat := 0x460044
def aPWR_EVENT_CNT1 : Nat := 0x460048
def aPWR_TOKEN_REFUSED : Nat := 0x460100
def aPWR_SCHED_OVF : Nat := 0x460104
def aPWR_GW_SLIP : Nat := 0x460108
def aPWR_TOKEN_CYCLES_LO : Nat := 0x46010C
def aPWR_TOKEN_CYCLES_HI : Nat := 0x460110

end Sys2Proof.Machine
end

