-- ==== Sys2Proof/Machine/RegMap.lean ====
section
/-! DEFINITION. The register map of BAR0 (R720): one row per register of the tables of chapters 01–20, with its offset,
its strides, which bits software writes (RW), clears by writing 1 (W1C) and its value after a cold reset (R726). -/

namespace Sys2Proof.Machine

/-- One row of the register tables. `dims` lists (count, stride), outermost first. `pair` marks the low word of a pair
that is read "low word first" (R724). A VF's function page is keyed from 0x1000_0000 + 0x8000 × function. -/
structure RegRow where
  name  : String
  base  : Nat
  dims  : List (Nat × Nat)
  rw    : Nat
  w1c   : Nat
  reset : Nat
  pair  : Bool
  deriving DecidableEq, Repr

/-- Registers of the GLB block. -/
def regRowsGlb : List RegRow := [
  ⟨"GLB_IDENT", 0x0, [], 0x0, 0x0, 0x59E14B08, false⟩,
  ⟨"GLB_REV", 0x4, [], 0x0, 0x0, 0x0, false⟩,
  ⟨"GLB_GRADE", 0x8, [], 0x0, 0x0, 0x0, false⟩,
  ⟨"GLB_DIEMASK", 0xC, [], 0x0, 0x0, 0x0, false⟩,
  ⟨"GLB_RESOURCE", 0x10, [], 0x0, 0x0, 0x0, false⟩,
  ⟨"GLB_HBM", 0x14, [], 0x0, 0x0, 0x0, false⟩,
  ⟨"GLB_FUSE_STATUS", 0x18, [], 0x0, 0x0, 0x0, false⟩,
  ⟨"GLB_C0_COLMAP", 0x20, [(5, 0x4)], 0x0, 0x0, 0x0, false⟩,
  ⟨"GLB_C1_COLMAP", 0x40, [(5, 0x4)], 0x0, 0x0, 0x0, false⟩,
  ⟨"GLB_MAPDIGEST", 0x64, [], 0x0, 0x0, 0x0, false⟩,
  ⟨"GLB_SERIAL_LO", 0x68, [], 0x0, 0x0, 0x0, false⟩,
  ⟨"GLB_SERIAL_HI", 0x6C, [], 0x0, 0x0, 0x0, false⟩,
  ⟨"GLB_FWVER", 0x70, [], 0x0, 0x0, 0x0, false⟩]

/-- Registers of the CLK block. -/
def regRowsClk : List RegRow := [
  ⟨"CLK_STATUS", 0x10000, [], 0x0, 0x0, 0x0, false⟩,
  ⟨"CLK_CTRL", 0x10004, [], 0x1, 0x0, 0x0, false⟩,
  ⟨"CLK_FREQ_CORR", 0x10008, [], 0x0, 0x0, 0x0, false⟩,
  ⟨"CLK_TRIM", 0x1000C, [], 0x0, 0x0, 0x0, false⟩]

/-- Registers of the TIM block. -/
def regRowsTim0 : List RegRow := [
  ⟨"TIM_CTRL", 0x20000, [], 0x3, 0x0, 0x2, false⟩,
  ⟨"TIM_QUALITY", 0x20004, [], 0x0, 0x0, 0x3F1F08, false⟩,
  ⟨"TIM_NOW_LO", 0x20008, [], 0x0, 0x0, 0x0, true⟩,
  ⟨"TIM_NOW_HI", 0x2000C, [], 0x0, 0x0, 0x0, false⟩,
  ⟨"TIM_UNCERT", 0x20010, [], 0x0, 0x0, 0xFFFFFFFF, false⟩,
  ⟨"TIM_OFFSET", 0x20014, [], 0x0, 0x0, 0x0, false⟩,
  ⟨"TIM_SRC_VIEW", 0x20018, [], 0x3F, 0x0, 0x0, false⟩,
  ⟨"TIM_SRC_OFFSET", 0x2001C, [], 0x0, 0x0, 0x0, false⟩,
  ⟨"TIM_SRC_DELAY", 0x20020, [], 0x0, 0x0, 0x0, false⟩,
  ⟨"TIM_HOLD", 0x20024, [], 0xFFFF, 0x0, 0x64, false⟩,
  ⟨"TIM_HOLD_LIMIT", 0x20028, [], 0xFFFFFFFF, 0x0, 0xF4240, false⟩,
  ⟨"TIM_XGUARD", 0x2002C, [], 0xFFFFFFFF, 0x0, 0x320190, false⟩,
  ⟨"TIM_LOCK", 0x20030, [], 0xFFFFFFFF, 0x0, 0x4400032, false⟩,
  ⟨"TIM_STEP", 0x20034, [], 0x1, 0x0, 0x0, false⟩,
  ⟨"TIM_STEP_SIZE_LO", 0x20038, [], 0x0, 0x0, 0x0, true⟩,
  ⟨"TIM_STEP_SIZE_HI", 0x2003C, [], 0x0, 0x0, 0x0, false⟩,
  ⟨"TIM_STEP_EPOCH", 0x20040, [], 0x0, 0x0, 0x0, false⟩,
  ⟨"TIM_PPS", 0x20044, [], 0xFF01, 0x0, 0xA00, false⟩,
  ⟨"TIM_PPS_SEC", 0x20048, [], 0xFFFFFFFF, 0x0, 0x0, false⟩,
  ⟨"TIM_PPS_IN_DELAY", 0x2004C, [], 0xFFFF, 0x0, 0x0, false⟩,
  ⟨"TIM_PPS_OUT_OFFSET", 0x20050, [], 0xFFFFFFFF, 0x0, 0x0, false⟩,
  ⟨"TIM_WITHHELD_SLOTS", 0x20054, [], 0x0, 0x0, 0x0, false⟩,
  ⟨"TIM_WITHHELD_ACTIONS", 0x20058, [], 0x0, 0x0, 0x0, false⟩,
  ⟨"TIM_SKIPPED_SLOTS", 0x2005C, [], 0x0, 0x0, 0x0, false⟩]

/-- Registers of the TIM block. -/
def regRowsTim1 : List RegRow := [
  ⟨"TIM_SKIPPED_ACTIONS", 0x20060, [], 0x0, 0x0, 0x0, false⟩,
  ⟨"TIM_MARK_ERR", 0x20064, [], 0x0, 0x0, 0x0, false⟩,
  ⟨"TIM_PPS_MISS", 0x20068, [], 0x0, 0x0, 0x0, false⟩,
  ⟨"TIM_BST_LATE", 0x2006C, [], 0x0, 0x0, 0x0, false⟩,
  ⟨"TIM_BST_SLIP", 0x20070, [], 0x0, 0x0, 0x0, false⟩,
  ⟨"TIM_EVENT", 0x20074, [], 0x0, 0xFF, 0x0, false⟩,
  ⟨"TIM_EVENT_CNT0", 0x20078, [], 0x0, 0x0, 0x0, false⟩,
  ⟨"TIM_EVENT_CNT1", 0x2007C, [], 0x0, 0x0, 0x0, false⟩,
  ⟨"TIM_SRC_PRIO0_1", 0x20080, [(2, 0x4)], 0xFFFFFFFF, 0x0, 0x88888888, false⟩,
  ⟨"TIM_SRC_PRIO2_3", 0x20088, [(2, 0x4)], 0xFFFFFFFF, 0x0, 0xCCCCCCCC, false⟩,
  ⟨"TIM_SRC_PRIO4", 0x20090, [], 0xF, 0x0, 0x0, false⟩,
  ⟨"TIM_STC_ASYM", 0x200C0, [(16, 0x4)], 0xFFFF, 0x0, 0x0, false⟩,
  ⟨"TIM_LASYM", 0x20100, [(16, 0x4)], 0xFFFFFFFF, 0x0, 0x0, false⟩]

/-- All registers of the TIM block. -/
def regRowsTim : List RegRow := regRowsTim0 ++ regRowsTim1

/-- Registers of the HIF block. -/
def regRowsHif0 : List RegRow := [
  ⟨"HIF_LINK", 0x30000, [], 0x0, 0x0, 0x0, false⟩,
  ⟨"HIF_NUMVF", 0x30004, [], 0x0, 0x0, 0x0, false⟩,
  ⟨"HIF_BLK_IRQ_EN", 0x30008, [], 0xFFFFF, 0x0, 0x0, false⟩,
  ⟨"HIF_BLK_IRQ_PEND", 0x3000C, [], 0x0, 0x0, 0x0, false⟩,
  ⟨"HIF_OCC_CLR", 0x30010, [], 0xFF, 0x0, 0x0, false⟩,
  ⟨"HIF_CMD_TAKEN", 0x30020, [], 0x0, 0x0, 0x0, false⟩,
  ⟨"HIF_CMD_REFUSED", 0x30024, [], 0x0, 0x0, 0x0, false⟩,
  ⟨"HIF_CPL_LOST", 0x30028, [], 0x0, 0x0, 0x0, false⟩,
  ⟨"HIF_DB_INVALID", 0x3002C, [], 0x0, 0x0, 0x0, false⟩,
  ⟨"HIF_FN_ID", 0x38000, [], 0x0, 0x0, 0x0, false⟩,
  ⟨"HIF_FN_EVENT", 0x38010, [], 0x0, 0xFF, 0x0, false⟩,
  ⟨"HIF_FN_EVENT_CNT0", 0x38014, [], 0x0, 0x0, 0x0, false⟩,
  ⟨"HIF_FN_EVENT_CNT1", 0x38018, [], 0x0, 0x0, 0x0, false⟩,
  ⟨"HIF_FN_EVT_VEC", 0x38020, [], 0x800007FF, 0x0, 0x0, false⟩,
  ⟨"HIF_FN_LOST", 0x38024, [], 0x0, 0x0, 0x0, false⟩,
  ⟨"SQ_BASE_LO", 0x39000, [(256, 0x20)], 0xFFFFF000, 0x0, 0x0, false⟩,
  ⟨"SQ_BASE_HI", 0x39004, [(256, 0x20)], 0xFFFFFFFF, 0x0, 0x0, false⟩,
  ⟨"SQ_CTRL", 0x39008, [(256, 0x20)], 0xFF01F1, 0x0, 0x40, false⟩,
  ⟨"SQ_PTR", 0x3900C, [(256, 0x20)], 0x0, 0x0, 0x0, false⟩,
  ⟨"SQ_STATUS", 0x39010, [(256, 0x20)], 0x0, 0x0, 0x0, false⟩,
  ⟨"CQ_BASE_LO", 0x3B000, [(256, 0x20)], 0xFFFFF000, 0x0, 0x0, false⟩,
  ⟨"CQ_BASE_HI", 0x3B004, [(256, 0x20)], 0xFFFFFFFF, 0x0, 0x0, false⟩,
  ⟨"CQ_CTRL", 0x3B008, [(256, 0x20)], 0x7FF01F3, 0x0, 0x40, false⟩,
  ⟨"CQ_PTR", 0x3B00C, [(256, 0x20)], 0x0, 0x0, 0x0, false⟩]

/-- Registers of the HIF block. -/
def regRowsHif1 : List RegRow := [
  ⟨"CQ_MODER", 0x3B010, [(256, 0x20)], 0xFFFF00FF, 0x0, 0x1, false⟩,
  ⟨"CQ_STATUS", 0x3B014, [(256, 0x20)], 0x0, 0x0, 0x0, false⟩,
  ⟨"CQ_LOST", 0x3B018, [(256, 0x20)], 0x0, 0x0, 0x0, false⟩,
  ⟨"HIF_FN_ID", 0x10008000, [(63, 0x8000)], 0x0, 0x0, 0x0, false⟩,
  ⟨"HIF_FN_EVENT", 0x10008010, [(63, 0x8000)], 0x0, 0xFF, 0x0, false⟩,
  ⟨"HIF_FN_EVENT_CNT0", 0x10008014, [(63, 0x8000)], 0x0, 0x0, 0x0, false⟩,
  ⟨"HIF_FN_EVENT_CNT1", 0x10008018, [(63, 0x8000)], 0x0, 0x0, 0x0, false⟩,
  ⟨"HIF_FN_EVT_VEC", 0x10008020, [(63, 0x8000)], 0x800007FF, 0x0, 0x0, false⟩,
  ⟨"HIF_FN_LOST", 0x10008024, [(63, 0x8000)], 0x0, 0x0, 0x0, false⟩,
  ⟨"SQ_BASE_LO", 0x10009000, [(63, 0x8000), (256, 0x20)], 0xFFFFF000, 0x0, 0x0, false⟩,
  ⟨"SQ_BASE_HI", 0x10009004, [(63, 0x8000), (256, 0x20)], 0xFFFFFFFF, 0x0, 0x0, false⟩,
  ⟨"SQ_CTRL", 0x10009008, [(63, 0x8000), (256, 0x20)], 0xFF01F1, 0x0, 0x40, false⟩,
  ⟨"SQ_PTR", 0x1000900C, [(63, 0x8000), (256, 0x20)], 0x0, 0x0, 0x0, false⟩,
  ⟨"SQ_STATUS", 0x10009010, [(63, 0x8000), (256, 0x20)], 0x0, 0x0, 0x0, false⟩,
  ⟨"CQ_BASE_LO", 0x1000B000, [(63, 0x8000), (256, 0x20)], 0xFFFFF000, 0x0, 0x0, false⟩,
  ⟨"CQ_BASE_HI", 0x1000B004, [(63, 0x8000), (256, 0x20)], 0xFFFFFFFF, 0x0, 0x0, false⟩,
  ⟨"CQ_CTRL", 0x1000B008, [(63, 0x8000), (256, 0x20)], 0x7FF01F3, 0x0, 0x40, false⟩,
  ⟨"CQ_PTR", 0x1000B00C, [(63, 0x8000), (256, 0x20)], 0x0, 0x0, 0x0, false⟩,
  ⟨"CQ_MODER", 0x1000B010, [(63, 0x8000), (256, 0x20)], 0xFFFF00FF, 0x0, 0x1, false⟩,
  ⟨"CQ_STATUS", 0x1000B014, [(63, 0x8000), (256, 0x20)], 0x0, 0x0, 0x0, false⟩,
  ⟨"CQ_LOST", 0x1000B018, [(63, 0x8000), (256, 0x20)], 0x0, 0x0, 0x0, false⟩]

/-- All registers of the HIF block. -/
def regRowsHif : List RegRow := regRowsHif0 ++ regRowsHif1

/-- Registers of the PAV block. -/
def regRowsPav0 : List RegRow := [
  ⟨"PAV_STATUS", 0x40000, [], 0x0, 0x0, 0x0, false⟩,
  ⟨"PAV_SEQ", 0x40004, [], 0x0, 0x0, 0x0, false⟩,
  ⟨"PAV_NONCE_LO", 0x40008, [], 0x0, 0x0, 0x0, true⟩,
  ⟨"PAV_NONCE_HI", 0x4000C, [], 0x0, 0x0, 0x0, false⟩,
  ⟨"PAV_WINDOW", 0x40010, [], 0x0, 0x0, 0x0, false⟩,
  ⟨"PAV_CUST", 0x40014, [], 0x0, 0x0, 0x0, false⟩,
  ⟨"PAV_OPKEY_FP_LO", 0x40018, [], 0x0, 0x0, 0x0, true⟩,
  ⟨"PAV_OPKEY_FP_HI", 0x4001C, [], 0x0, 0x0, 0x0, false⟩,
  ⟨"PAV_CUKEY_FP_LO", 0x40020, [], 0x0, 0x0, 0x0, true⟩,
  ⟨"PAV_CUKEY_FP_HI", 0x40024, [], 0x0, 0x0, 0x0, false⟩,
  ⟨"PAV_PEND_DIG_LO", 0x40028, [], 0x0, 0x0, 0x0, true⟩,
  ⟨"PAV_PEND_DIG_HI", 0x4002C, [], 0x0, 0x0, 0x0, false⟩,
  ⟨"PAV_LAST", 0x40030, [], 0x0, 0x0, 0x0, false⟩,
  ⟨"PAV_VIEW", 0x40040, [], 0x3F, 0x0, 0x0, false⟩,
  ⟨"PAV_TBL_ID", 0x40044, [], 0x0, 0x0, 0x0, false⟩,
  ⟨"PAV_TBL_UNITS", 0x40048, [], 0x0, 0x0, 0x0, false⟩,
  ⟨"PAV_TBL_COL", 0x40050, [(8, 0x4)], 0x0, 0x0, 0x0, false⟩,
  ⟨"PAV_TBL_PORT", 0x40070, [(3, 0x4)], 0x0, 0x0, 0x0, false⟩,
  ⟨"PAV_TBL_STREAMS", 0x40080, [(2, 0x4)], 0x0, 0x0, 0x0, false⟩,
  ⟨"PAV_TBL_GROUPS", 0x40088, [], 0x0, 0x0, 0x0, false⟩,
  ⟨"PAV_TBL_HBM", 0x40090, [(2, 0x8), (2, 0x4)], 0x0, 0x0, 0x0, false⟩,
  ⟨"PAV_TBL_EMBER", 0x400A0, [(2, 0x8), (2, 0x4)], 0x0, 0x0, 0x0, false⟩,
  ⟨"PAV_TBL_SBUF", 0x400B0, [(2, 0x8), (2, 0x4)], 0x0, 0x0, 0x0, false⟩,
  ⟨"PAV_TBL_RSV", 0x400C0, [(8, 0x4)], 0x0, 0x0, 0x0, false⟩]

/-- Registers of the PAV block. -/
def regRowsPav1 : List RegRow := [
  ⟨"PAV_EVENT", 0x40100, [], 0x0, 0x3F, 0x0, false⟩,
  ⟨"PAV_EVENT_CNT0", 0x40104, [], 0x0, 0x0, 0x0, false⟩,
  ⟨"PAV_EVENT_CNT1", 0x40108, [], 0x0, 0x0, 0x0, false⟩,
  ⟨"PAV_PROPOSALS", 0x40110, [], 0x0, 0x0, 0x0, false⟩,
  ⟨"PAV_COMMITS", 0x40114, [], 0x0, 0x0, 0x0, false⟩,
  ⟨"PAV_EXPIRIES", 0x40118, [], 0x0, 0x0, 0x0, false⟩,
  ⟨"PAV_REFUSALS", 0x4011C, [], 0x0, 0x0, 0x0, false⟩,
  ⟨"PAV_SCHED_ADMIT", 0x40120, [], 0x0, 0x0, 0x0, false⟩]

/-- All registers of the PAV block. -/
def regRowsPav : List RegRow := regRowsPav0 ++ regRowsPav1

/-- Registers of the CFG block. -/
def regRowsCfg : List RegRow := [
  ⟨"CFG_BOOT", 0x50000, [], 0x0, 0x0, 0x0, false⟩,
  ⟨"CFG_RESET_CAUSE", 0x50004, [], 0x0, 0x0, 0x0, false⟩,
  ⟨"CFG_WARM_COUNT", 0x50008, [], 0x0, 0x0, 0x0, false⟩,
  ⟨"CFG_RESET", 0x5000C, [], 0x0, 0x0, 0x0, false⟩,
  ⟨"CFG_ROM_VER", 0x50010, [], 0x0, 0x0, 0x0, false⟩,
  ⟨"CFG_CONFIG_IGNORED", 0x50014, [], 0x0, 0x0, 0x0, false⟩,
  ⟨"CFG_COPY_A", 0x50020, [], 0x0, 0x0, 0x0, false⟩,
  ⟨"CFG_COPY_A_SEQ", 0x50024, [], 0x0, 0x0, 0x0, false⟩,
  ⟨"CFG_COPY_A_FWVER", 0x50028, [], 0x0, 0x0, 0x0, false⟩,
  ⟨"CFG_COPY_B", 0x50030, [], 0x0, 0x0, 0x0, false⟩,
  ⟨"CFG_COPY_B_SEQ", 0x50034, [], 0x0, 0x0, 0x0, false⟩,
  ⟨"CFG_COPY_B_FWVER", 0x50038, [], 0x0, 0x0, 0x0, false⟩,
  ⟨"CFG_ROOT_STATE", 0x50050, [], 0x0, 0x0, 0x0, false⟩,
  ⟨"CFG_ROOT_FP", 0x50060, [(12, 0x4)], 0x0, 0x0, 0x0, false⟩,
  ⟨"CFG_ROOT_STAGE", 0x50090, [(12, 0x4)], 0xFFFFFFFF, 0x0, 0x0, false⟩,
  ⟨"CFG_FUSE_PROG", 0x500C0, [], 0x0, 0x0, 0x0, false⟩,
  ⟨"CFG_FL_CMD", 0x50100, [], 0x300000, 0x0, 0x0, false⟩,
  ⟨"CFG_FL_ADDR", 0x50104, [], 0x1FFFFFF, 0x0, 0x0, false⟩,
  ⟨"CFG_FL_JEDEC", 0x50108, [], 0x0, 0x0, 0x0, false⟩,
  ⟨"CFG_EVENT", 0x50180, [], 0x0, 0x1F, 0x0, false⟩,
  ⟨"CFG_EVENT_CNT0", 0x50184, [], 0x0, 0x0, 0x0, false⟩,
  ⟨"CFG_EVENT_CNT1", 0x50188, [], 0x0, 0x0, 0x0, false⟩,
  ⟨"CFG_FL_DATA", 0x50200, [(64, 0x4)], 0xFFFFFFFF, 0x0, 0x0, false⟩]

/-- Registers of the LOG block. -/
def regRowsLog : List RegRow := [
  ⟨"LOG_CTRL", 0x60000, [], 0xFFFF0001, 0x0, 0x320001, false⟩,
  ⟨"LOG_STATUS", 0x60004, [], 0x0, 0x0, 0x0, false⟩,
  ⟨"LOG_WR_SEQ", 0x60008, [], 0x0, 0x0, 0x0, false⟩,
  ⟨"LOG_DRAIN_SEQ", 0x6000C, [], 0x0, 0x0, 0x0, false⟩,
  ⟨"LOG_VIEW", 0x60010, [], 0xFFFFFFFF, 0x0, 0x0, false⟩,
  ⟨"LOG_DRAIN_ADV", 0x60014, [], 0x0, 0x0, 0x0, false⟩,
  ⟨"LOG_THRESH", 0x60018, [], 0x3FFF, 0x0, 0x1800, false⟩,
  ⟨"LOG_ENTRY", 0x60020, [(8, 0x4)], 0x0, 0x0, 0x0, false⟩,
  ⟨"LOG_EVENT", 0x60080, [], 0x0, 0x3F, 0x0, false⟩,
  ⟨"LOG_EVENT_CNT0", 0x60084, [], 0x0, 0x0, 0x0, false⟩,
  ⟨"LOG_EVENT_CNT1", 0x60088, [], 0x0, 0x0, 0x0, false⟩,
  ⟨"LOG_ENTRIES", 0x60100, [], 0x0, 0x0, 0x0, false⟩,
  ⟨"LOG_DROPPED", 0x60104, [], 0x0, 0x0, 0x0, false⟩,
  ⟨"LOG_OVERWRITTEN", 0x60108, [], 0x0, 0x0, 0x0, false⟩,
  ⟨"LOG_STALLS", 0x6010C, [], 0x0, 0x0, 0x0, false⟩,
  ⟨"LOG_TBL_CORR", 0x60110, [], 0x0, 0x0, 0x0, false⟩,
  ⟨"LOG_TBL_UNCORR", 0x60114, [], 0x0, 0x0, 0x0, false⟩]

/-- Registers of the MGT block. -/
def regRowsMgt : List RegRow := [
  ⟨"MGT_UART_CFG", 0x70000, [], 0x3FFFFF, 0x0, 0x1C200, false⟩,
  ⟨"MGT_SMB_CFG", 0x70004, [], 0xFF04, 0x0, 0x3E00, false⟩,
  ⟨"MGT_RELAY", 0x70008, [], 0x0, 0x0, 0x0, false⟩,
  ⟨"MGT_TEMP_LIMITS", 0x70010, [], 0xFFFFFF, 0x0, 0x3702F8, false⟩,
  ⟨"MGT_TEMP", 0x70040, [(16, 0x4)], 0x0, 0x0, 0x8000, false⟩,
  ⟨"MGT_VOLT", 0x70080, [(6, 0x4)], 0x0, 0x0, 0x0, false⟩,
  ⟨"MGT_VOLT_WIN16_17", 0x700C0, [(2, 0x4)], 0xFFFFFFFF, 0x0, 0x6270591, false⟩,
  ⟨"MGT_VOLT_WIN18", 0x700C8, [], 0xFFFFFFFF, 0x0, 0x69005F0, false⟩,
  ⟨"MGT_VOLT_WIN19", 0x700CC, [], 0xFFFFFFFF, 0x0, 0x906082A, false⟩,
  ⟨"MGT_VOLT_WIN20", 0x700D0, [], 0xFFFFFFFF, 0x0, 0xEC40D5C, false⟩,
  ⟨"MGT_VOLT_WIN21", 0x700D4, [], 0xFFFFFFFF, 0x0, 0x1B12187E, false⟩,
  ⟨"MGT_EVENT", 0x70100, [], 0x0, 0x7F, 0x0, false⟩,
  ⟨"MGT_EVENT_CNT0", 0x70104, [], 0x0, 0x0, 0x0, false⟩,
  ⟨"MGT_EVENT_CNT1", 0x70108, [], 0x0, 0x0, 0x0, false⟩,
  ⟨"MGT_UART_FRAMING", 0x70140, [], 0x0, 0x0, 0x0, false⟩,
  ⟨"MGT_UART_BREAKS", 0x70144, [], 0x0, 0x0, 0x0, false⟩,
  ⟨"MGT_UART_OVERRUN", 0x70148, [], 0x0, 0x0, 0x0, false⟩,
  ⟨"MGT_SMB_PEC_ERR", 0x7014C, [], 0x0, 0x0, 0x0, false⟩,
  ⟨"MGT_RELAY_DROP", 0x70150, [], 0x0, 0x0, 0x0, false⟩,
  ⟨"MGT_TRIP_REC", 0x70180, [], 0x0, 0x80000000, 0x0, false⟩]

/-- Registers of the LNE block. -/
def regRowsLne0 : List RegRow := [
  ⟨"LNE_CTRL", 0x100000, [(512, 0x400)], 0x1F, 0x0, 0x0, false⟩,
  ⟨"LNE_STATUS", 0x100004, [(512, 0x400)], 0x0, 0x0, 0x0, false⟩,
  ⟨"LNE_PATGEN", 0x100010, [(512, 0x400)], 0xF, 0x0, 0x0, false⟩,
  ⟨"LNE_PATCHK", 0x100014, [(512, 0x400)], 0xF, 0x0, 0x0, false⟩,
  ⟨"LNE_USER_LO", 0x100018, [(512, 0x400)], 0xFFFFFFFF, 0x0, 0x0, false⟩,
  ⟨"LNE_USER_HI", 0x10001C, [(512, 0x400)], 0xFFFFFFFF, 0x0, 0x0, false⟩,
  ⟨"LNE_INJECT", 0x100020, [(512, 0x400)], 0x3FFF03, 0x0, 0x140100, false⟩,
  ⟨"LNE_CHK_BITS_LO", 0x100030, [(512, 0x400)], 0x0, 0x0, 0x0, true⟩,
  ⟨"LNE_CHK_BITS_HI", 0x100034, [(512, 0x400)], 0x0, 0x0, 0x0, false⟩,
  ⟨"LNE_CHK_ERR_LO", 0x100038, [(512, 0x400)], 0x0, 0x0, 0x0, true⟩,
  ⟨"LNE_CHK_ERR_HI", 0x10003C, [(512, 0x400)], 0x0, 0x0, 0x0, false⟩,
  ⟨"LNE_INJ_COUNT", 0x100040, [(512, 0x400)], 0x0, 0x0, 0x0, false⟩,
  ⟨"LNE_EVENT", 0x100080, [(512, 0x400)], 0x0, 0xF, 0x0, false⟩,
  ⟨"LNE_EVENT_CNT", 0x100084, [(512, 0x400)], 0x0, 0x0, 0x0, false⟩,
  ⟨"LNE_CTRL", 0x180000, [(128, 0x400)], 0x1F, 0x0, 0x0, false⟩,
  ⟨"LNE_STATUS", 0x180004, [(128, 0x400)], 0x0, 0x0, 0x100, false⟩,
  ⟨"LNE_PATGEN", 0x180010, [(128, 0x400)], 0xF, 0x0, 0x0, false⟩,
  ⟨"LNE_PATCHK", 0x180014, [(128, 0x400)], 0xF, 0x0, 0x0, false⟩,
  ⟨"LNE_USER_LO", 0x180018, [(128, 0x400)], 0xFFFFFFFF, 0x0, 0x0, false⟩,
  ⟨"LNE_USER_HI", 0x18001C, [(128, 0x400)], 0xFFFFFFFF, 0x0, 0x0, false⟩,
  ⟨"LNE_INJECT", 0x180020, [(128, 0x400)], 0x3FFF03, 0x0, 0x140100, false⟩,
  ⟨"LNE_CHK_BITS_LO", 0x180030, [(128, 0x400)], 0x0, 0x0, 0x0, true⟩,
  ⟨"LNE_CHK_BITS_HI", 0x180034, [(128, 0x400)], 0x0, 0x0, 0x0, false⟩,
  ⟨"LNE_CHK_ERR_LO", 0x180038, [(128, 0x400)], 0x0, 0x0, 0x0, true⟩]

/-- Registers of the LNE block. -/
def regRowsLne1 : List RegRow := [
  ⟨"LNE_CHK_ERR_HI", 0x18003C, [(128, 0x400)], 0x0, 0x0, 0x0, false⟩,
  ⟨"LNE_INJ_COUNT", 0x180040, [(128, 0x400)], 0x0, 0x0, 0x0, false⟩,
  ⟨"LNE_EVENT", 0x180080, [(128, 0x400)], 0x0, 0xF, 0x0, false⟩,
  ⟨"LNE_EVENT_CNT", 0x180084, [(128, 0x400)], 0x0, 0x0, 0x0, false⟩,
  ⟨"LNE_CTRL", 0x1A0000, [(16, 0x400)], 0x1F, 0x0, 0x0, false⟩,
  ⟨"LNE_STATUS", 0x1A0004, [(16, 0x400)], 0x0, 0x0, 0x200, false⟩,
  ⟨"LNE_PATGEN", 0x1A0010, [(16, 0x400)], 0xF, 0x0, 0x0, false⟩,
  ⟨"LNE_PATCHK", 0x1A0014, [(16, 0x400)], 0xF, 0x0, 0x0, false⟩,
  ⟨"LNE_USER_LO", 0x1A0018, [(16, 0x400)], 0xFFFFFFFF, 0x0, 0x0, false⟩,
  ⟨"LNE_USER_HI", 0x1A001C, [(16, 0x400)], 0xFFFFFFFF, 0x0, 0x0, false⟩,
  ⟨"LNE_INJECT", 0x1A0020, [(16, 0x400)], 0x3FFF03, 0x0, 0x140100, false⟩,
  ⟨"LNE_CHK_BITS_LO", 0x1A0030, [(16, 0x400)], 0x0, 0x0, 0x0, true⟩,
  ⟨"LNE_CHK_BITS_HI", 0x1A0034, [(16, 0x400)], 0x0, 0x0, 0x0, false⟩,
  ⟨"LNE_CHK_ERR_LO", 0x1A0038, [(16, 0x400)], 0x0, 0x0, 0x0, true⟩,
  ⟨"LNE_CHK_ERR_HI", 0x1A003C, [(16, 0x400)], 0x0, 0x0, 0x0, false⟩,
  ⟨"LNE_INJ_COUNT", 0x1A0040, [(16, 0x400)], 0x0, 0x0, 0x0, false⟩,
  ⟨"LNE_EVENT", 0x1A0080, [(16, 0x400)], 0x0, 0xF, 0x0, false⟩,
  ⟨"LNE_EVENT_CNT", 0x1A0084, [(16, 0x400)], 0x0, 0x0, 0x0, false⟩,
  ⟨"LNE_CTRL", 0x1C0000, [(16, 0x400)], 0xFF, 0x0, 0x0, false⟩,
  ⟨"LNE_STATUS", 0x1C0004, [(16, 0x400)], 0x0, 0x0, 0x300, false⟩,
  ⟨"LNE_PATGEN", 0x1C0010, [(16, 0x400)], 0xF, 0x0, 0x0, false⟩,
  ⟨"LNE_PATCHK", 0x1C0014, [(16, 0x400)], 0xF, 0x0, 0x0, false⟩,
  ⟨"LNE_USER_LO", 0x1C0018, [(16, 0x400)], 0xFFFFFFFF, 0x0, 0x0, false⟩,
  ⟨"LNE_USER_HI", 0x1C001C, [(16, 0x400)], 0xFFFFFFFF, 0x0, 0x0, false⟩]

/-- Registers of the LNE block. -/
def regRowsLne2 : List RegRow := [
  ⟨"LNE_INJECT", 0x1C0020, [(16, 0x400)], 0x3FFF03, 0x0, 0x140100, false⟩,
  ⟨"LNE_CHK_BITS_LO", 0x1C0030, [(16, 0x400)], 0x0, 0x0, 0x0, true⟩,
  ⟨"LNE_CHK_BITS_HI", 0x1C0034, [(16, 0x400)], 0x0, 0x0, 0x0, false⟩,
  ⟨"LNE_CHK_ERR_LO", 0x1C0038, [(16, 0x400)], 0x0, 0x0, 0x0, true⟩,
  ⟨"LNE_CHK_ERR_HI", 0x1C003C, [(16, 0x400)], 0x0, 0x0, 0x0, false⟩,
  ⟨"LNE_INJ_COUNT", 0x1C0040, [(16, 0x400)], 0x0, 0x0, 0x0, false⟩,
  ⟨"LNE_EVENT", 0x1C0080, [(16, 0x400)], 0x0, 0xF, 0x0, false⟩,
  ⟨"LNE_EVENT_CNT", 0x1C0084, [(16, 0x400)], 0x0, 0x0, 0x0, false⟩,
  ⟨"LNE_STC_CODE_ERR", 0x1C0100, [(16, 0x400)], 0x0, 0x0, 0x0, false⟩,
  ⟨"LNE_STC_DISP_ERR", 0x1C0104, [(16, 0x400)], 0x0, 0x0, 0x0, false⟩,
  ⟨"LNE_STC_MARKS", 0x1C0108, [(16, 0x400)], 0x0, 0x0, 0x0, false⟩,
  ⟨"LNE_STC_FRAMES", 0x1C010C, [(16, 0x400)], 0x0, 0x0, 0x0, false⟩,
  ⟨"LNE_STC_FRAME_ERR", 0x1C0110, [(16, 0x400)], 0x0, 0x0, 0x0, false⟩,
  ⟨"LNE_STC_ABORTS", 0x1C0114, [(16, 0x400)], 0x0, 0x0, 0x0, false⟩,
  ⟨"LNE_STC_LOSS", 0x1C0118, [(16, 0x400)], 0x0, 0x0, 0x0, false⟩]

/-- All registers of the LNE block. -/
def regRowsLne : List RegRow := regRowsLne0 ++ regRowsLne1 ++ regRowsLne2

/-- Registers of the PRT block. -/
def regRowsPrt0 : List RegRow := [
  ⟨"PRT_CTRL", 0x200000, [(64, 0x1000)], 0xFF, 0x0, 0x80, false⟩,
  ⟨"PRT_STATUS", 0x200004, [(64, 0x1000)], 0x0, 0x0, 0x0, false⟩,
  ⟨"PRT_RXREST", 0x200008, [(64, 0x1000)], 0x0, 0x0, 0x0, false⟩,
  ⟨"PRT_VIEW", 0x20000C, [(64, 0x1000)], 0x7, 0x0, 0x0, false⟩,
  ⟨"PRT_PEER", 0x200010, [(64, 0x1000)], 0x0, 0x0, 0x0, false⟩,
  ⟨"PRT_REST_CTRL", 0x200014, [(64, 0x1000)], 0xFFFF, 0x0, 0x40, false⟩,
  ⟨"PRT_LOSS_CFG", 0x200018, [(64, 0x1000)], 0xFF, 0x0, 0x10, false⟩,
  ⟨"PRT_RETRY", 0x20001C, [(64, 0x1000)], 0xFFFFFFFF, 0x0, 0x1F4000A, false⟩,
  ⟨"PRT_TXEQ", 0x200020, [(64, 0x1000)], 0xF, 0x0, 0x0, false⟩,
  ⟨"PRT_S_MAXFRAME", 0x200024, [(64, 0x1000)], 0x0, 0x0, 0x0, false⟩,
  ⟨"PRT_EVENT", 0x200030, [(64, 0x1000)], 0x0, 0xFF, 0x0, false⟩,
  ⟨"PRT_EVENT_CNT0", 0x200034, [(64, 0x1000)], 0x0, 0x0, 0x0, false⟩,
  ⟨"PRT_EVENT_CNT1", 0x200038, [(64, 0x1000)], 0x0, 0x0, 0x0, false⟩,
  ⟨"FEC_CORR_CW_LO", 0x200100, [(64, 0x1000), (8, 0x80)], 0x0, 0x0, 0x0, true⟩,
  ⟨"FEC_CORR_CW_HI", 0x200104, [(64, 0x1000), (8, 0x80)], 0x0, 0x0, 0x0, false⟩,
  ⟨"FEC_UNCORR_CW_LO", 0x200108, [(64, 0x1000), (8, 0x80)], 0x0, 0x0, 0x0, true⟩,
  ⟨"FEC_UNCORR_CW_HI", 0x20010C, [(64, 0x1000), (8, 0x80)], 0x0, 0x0, 0x0, false⟩,
  ⟨"FEC_SYM_ERR_LO", 0x200110, [(64, 0x1000), (8, 0x80)], 0x0, 0x0, 0x0, true⟩,
  ⟨"FEC_SYM_ERR_HI", 0x200114, [(64, 0x1000), (8, 0x80)], 0x0, 0x0, 0x0, false⟩,
  ⟨"LINK_DOWNS", 0x200118, [(64, 0x1000), (8, 0x80)], 0x0, 0x0, 0x0, false⟩,
  ⟨"REST_COMMITS", 0x20011C, [(64, 0x1000), (8, 0x80)], 0x0, 0x0, 0x0, false⟩,
  ⟨"REST_ABORTS", 0x200120, [(64, 0x1000), (8, 0x80)], 0x0, 0x0, 0x0, false⟩,
  ⟨"WAKES_AFTER_COMMIT", 0x200124, [(64, 0x1000), (8, 0x80)], 0x0, 0x0, 0x0, false⟩,
  ⟨"WAKE_MAX_NS", 0x200128, [(64, 0x1000), (8, 0x80)], 0x0, 0x0, 0x0, false⟩]

/-- Registers of the PRT block. -/
def regRowsPrt1 : List RegRow := [
  ⟨"OS_UNKNOWN", 0x20012C, [(64, 0x1000), (8, 0x80)], 0x0, 0x0, 0x0, false⟩,
  ⟨"SCHED_IN_REST", 0x200130, [(64, 0x1000), (8, 0x80)], 0x0, 0x0, 0x0, false⟩,
  ⟨"SCHED_DROP", 0x200134, [(64, 0x1000), (8, 0x80)], 0x0, 0x0, 0x0, false⟩,
  ⟨"PRT_CTRL", 0x240000, [(16, 0x1000)], 0xFF, 0x0, 0xA0, false⟩,
  ⟨"PRT_STATUS", 0x240004, [(16, 0x1000)], 0x0, 0x0, 0x0, false⟩,
  ⟨"PRT_RXREST", 0x240008, [(16, 0x1000)], 0x0, 0x0, 0x0, false⟩,
  ⟨"PRT_VIEW", 0x24000C, [(16, 0x1000)], 0x7, 0x0, 0x0, false⟩,
  ⟨"PRT_PEER", 0x240010, [(16, 0x1000)], 0x0, 0x0, 0x0, false⟩,
  ⟨"PRT_REST_CTRL", 0x240014, [(16, 0x1000)], 0xFFFF, 0x0, 0x40, false⟩,
  ⟨"PRT_LOSS_CFG", 0x240018, [(16, 0x1000)], 0xFF, 0x0, 0x10, false⟩,
  ⟨"PRT_RETRY", 0x24001C, [(16, 0x1000)], 0xFFFFFFFF, 0x0, 0x1F4000A, false⟩,
  ⟨"PRT_TXEQ", 0x240020, [(16, 0x1000)], 0xF, 0x0, 0x0, false⟩,
  ⟨"PRT_S_MAXFRAME", 0x240024, [(16, 0x1000)], 0x0, 0x0, 0x0, false⟩,
  ⟨"PRT_EVENT", 0x240030, [(16, 0x1000)], 0x0, 0xFF, 0x0, false⟩,
  ⟨"PRT_EVENT_CNT0", 0x240034, [(16, 0x1000)], 0x0, 0x0, 0x0, false⟩,
  ⟨"PRT_EVENT_CNT1", 0x240038, [(16, 0x1000)], 0x0, 0x0, 0x0, false⟩,
  ⟨"FEC_CORR_CW_LO", 0x240100, [(16, 0x1000), (8, 0x80)], 0x0, 0x0, 0x0, true⟩,
  ⟨"FEC_CORR_CW_HI", 0x240104, [(16, 0x1000), (8, 0x80)], 0x0, 0x0, 0x0, false⟩,
  ⟨"FEC_UNCORR_CW_LO", 0x240108, [(16, 0x1000), (8, 0x80)], 0x0, 0x0, 0x0, true⟩,
  ⟨"FEC_UNCORR_CW_HI", 0x24010C, [(16, 0x1000), (8, 0x80)], 0x0, 0x0, 0x0, false⟩,
  ⟨"FEC_SYM_ERR_LO", 0x240110, [(16, 0x1000), (8, 0x80)], 0x0, 0x0, 0x0, true⟩,
  ⟨"FEC_SYM_ERR_HI", 0x240114, [(16, 0x1000), (8, 0x80)], 0x0, 0x0, 0x0, false⟩,
  ⟨"LINK_DOWNS", 0x240118, [(16, 0x1000), (8, 0x80)], 0x0, 0x0, 0x0, false⟩,
  ⟨"REST_COMMITS", 0x24011C, [(16, 0x1000), (8, 0x80)], 0x0, 0x0, 0x0, false⟩]

/-- Registers of the PRT block. -/
def regRowsPrt2 : List RegRow := [
  ⟨"REST_ABORTS", 0x240120, [(16, 0x1000), (8, 0x80)], 0x0, 0x0, 0x0, false⟩,
  ⟨"WAKES_AFTER_COMMIT", 0x240124, [(16, 0x1000), (8, 0x80)], 0x0, 0x0, 0x0, false⟩,
  ⟨"WAKE_MAX_NS", 0x240128, [(16, 0x1000), (8, 0x80)], 0x0, 0x0, 0x0, false⟩,
  ⟨"OS_UNKNOWN", 0x24012C, [(16, 0x1000), (8, 0x80)], 0x0, 0x0, 0x0, false⟩,
  ⟨"SCHED_IN_REST", 0x240130, [(16, 0x1000), (8, 0x80)], 0x0, 0x0, 0x0, false⟩,
  ⟨"SCHED_DROP", 0x240134, [(16, 0x1000), (8, 0x80)], 0x0, 0x0, 0x0, false⟩,
  ⟨"PRT_CTRL", 0x250000, [(4, 0x1000)], 0xFF, 0x0, 0x80, false⟩,
  ⟨"PRT_STATUS", 0x250004, [(4, 0x1000)], 0x0, 0x0, 0x0, false⟩,
  ⟨"PRT_RXREST", 0x250008, [(4, 0x1000)], 0x0, 0x0, 0x0, false⟩,
  ⟨"PRT_VIEW", 0x25000C, [(4, 0x1000)], 0x7, 0x0, 0x0, false⟩,
  ⟨"PRT_PEER", 0x250010, [(4, 0x1000)], 0x0, 0x0, 0x0, false⟩,
  ⟨"PRT_REST_CTRL", 0x250014, [(4, 0x1000)], 0xFFFF, 0x0, 0x40, false⟩,
  ⟨"PRT_LOSS_CFG", 0x250018, [(4, 0x1000)], 0xFF, 0x0, 0x10, false⟩,
  ⟨"PRT_RETRY", 0x25001C, [(4, 0x1000)], 0xFFFFFFFF, 0x0, 0x1F4000A, false⟩,
  ⟨"PRT_TXEQ", 0x250020, [(4, 0x1000)], 0xF, 0x0, 0x0, false⟩,
  ⟨"PRT_S_MAXFRAME", 0x250024, [(4, 0x1000)], 0x3FFF, 0x0, 0x2400, false⟩,
  ⟨"PRT_EVENT", 0x250030, [(4, 0x1000)], 0x0, 0xFF, 0x0, false⟩,
  ⟨"PRT_EVENT_CNT0", 0x250034, [(4, 0x1000)], 0x0, 0x0, 0x0, false⟩,
  ⟨"PRT_EVENT_CNT1", 0x250038, [(4, 0x1000)], 0x0, 0x0, 0x0, false⟩,
  ⟨"FEC_CORR_CW_LO", 0x250100, [(4, 0x1000), (8, 0x80)], 0x0, 0x0, 0x0, true⟩,
  ⟨"FEC_CORR_CW_HI", 0x250104, [(4, 0x1000), (8, 0x80)], 0x0, 0x0, 0x0, false⟩,
  ⟨"FEC_UNCORR_CW_LO", 0x250108, [(4, 0x1000), (8, 0x80)], 0x0, 0x0, 0x0, true⟩,
  ⟨"FEC_UNCORR_CW_HI", 0x25010C, [(4, 0x1000), (8, 0x80)], 0x0, 0x0, 0x0, false⟩,
  ⟨"FEC_SYM_ERR_LO", 0x250110, [(4, 0x1000), (8, 0x80)], 0x0, 0x0, 0x0, true⟩]

/-- Registers of the PRT block. -/
def regRowsPrt3 : List RegRow := [
  ⟨"FEC_SYM_ERR_HI", 0x250114, [(4, 0x1000), (8, 0x80)], 0x0, 0x0, 0x0, false⟩,
  ⟨"LINK_DOWNS", 0x250118, [(4, 0x1000), (8, 0x80)], 0x0, 0x0, 0x0, false⟩,
  ⟨"REST_COMMITS", 0x25011C, [(4, 0x1000), (8, 0x80)], 0x0, 0x0, 0x0, false⟩,
  ⟨"REST_ABORTS", 0x250120, [(4, 0x1000), (8, 0x80)], 0x0, 0x0, 0x0, false⟩,
  ⟨"WAKES_AFTER_COMMIT", 0x250124, [(4, 0x1000), (8, 0x80)], 0x0, 0x0, 0x0, false⟩,
  ⟨"WAKE_MAX_NS", 0x250128, [(4, 0x1000), (8, 0x80)], 0x0, 0x0, 0x0, false⟩,
  ⟨"OS_UNKNOWN", 0x25012C, [(4, 0x1000), (8, 0x80)], 0x0, 0x0, 0x0, false⟩,
  ⟨"SCHED_IN_REST", 0x250130, [(4, 0x1000), (8, 0x80)], 0x0, 0x0, 0x0, false⟩,
  ⟨"SCHED_DROP", 0x250134, [(4, 0x1000), (8, 0x80)], 0x0, 0x0, 0x0, false⟩,
  ⟨"PRT_S_RX_OK_LO", 0x250600, [(4, 0x1000)], 0x0, 0x0, 0x0, true⟩,
  ⟨"PRT_S_RX_OK_HI", 0x250604, [(4, 0x1000)], 0x0, 0x0, 0x0, false⟩,
  ⟨"PRT_S_TX_LO", 0x250608, [(4, 0x1000)], 0x0, 0x0, 0x0, true⟩,
  ⟨"PRT_S_TX_HI", 0x25060C, [(4, 0x1000)], 0x0, 0x0, 0x0, false⟩,
  ⟨"PRT_S_RX_FCS", 0x250610, [(4, 0x1000)], 0x0, 0x0, 0x0, false⟩,
  ⟨"PRT_S_RX_SHORT", 0x250614, [(4, 0x1000)], 0x0, 0x0, 0x0, false⟩,
  ⟨"PRT_S_RX_LONG", 0x250618, [(4, 0x1000)], 0x0, 0x0, 0x0, false⟩]

/-- All registers of the PRT block. -/
def regRowsPrt : List RegRow := regRowsPrt0 ++ regRowsPrt1 ++ regRowsPrt2 ++ regRowsPrt3

/-- Registers of the RTE block. -/
def regRowsRte : List RegRow := [
  ⟨"RTE_CTRL", 0x300000, [], 0xFFFF1F01, 0x0, 0x640C00, false⟩,
  ⟨"RTE_ID", 0x300004, [], 0x1FFF, 0x0, 0x0, false⟩,
  ⟨"RTE_TBL_CMD", 0x300010, [], 0x710FFFF, 0x0, 0x0, false⟩,
  ⟨"RTE_TBL_DATA0", 0x300014, [], 0xFFFFFFFF, 0x0, 0x0, false⟩,
  ⟨"RTE_TBL_DATA1", 0x300018, [(3, 0x4)], 0x0, 0x0, 0x0, false⟩,
  ⟨"RTE_VC_ALLOW_F", 0x300030, [], 0xFFFF, 0x0, 0x40, false⟩,
  ⟨"RTE_VC_ALLOW_L", 0x300034, [], 0xFFFF, 0x0, 0x400, false⟩,
  ⟨"RTE_CRED_VIEW", 0x300038, [], 0x7FE7, 0x0, 0x0, false⟩,
  ⟨"RTE_CRED_AVAIL", 0x30003C, [], 0x0, 0x0, 0x0, false⟩,
  ⟨"RTE_EVENT", 0x300040, [], 0x0, 0x1F, 0x0, false⟩,
  ⟨"RTE_EVENT_CNT", 0x300044, [], 0x0, 0x0, 0x0, false⟩,
  ⟨"RTE_LASTDROP0", 0x300050, [], 0x0, 0x0, 0x0, false⟩,
  ⟨"RTE_LASTDROP1", 0x300054, [], 0x0, 0x0, 0x0, false⟩,
  ⟨"RTE_LASTDROP2", 0x300058, [], 0x0, 0x0, 0x0, false⟩,
  ⟨"RTE_FWD_SCHED_LO", 0x300080, [], 0x0, 0x0, 0x0, true⟩,
  ⟨"RTE_FWD_SCHED_HI", 0x300084, [], 0x0, 0x0, 0x0, false⟩,
  ⟨"RTE_FWD_UNSCHED_LO", 0x300088, [], 0x0, 0x0, 0x0, true⟩,
  ⟨"RTE_FWD_UNSCHED_HI", 0x30008C, [], 0x0, 0x0, 0x0, false⟩,
  ⟨"RTE_CREDIT_TX", 0x300090, [], 0x0, 0x0, 0x0, false⟩,
  ⟨"RTE_CREDIT_RX", 0x300094, [], 0x0, 0x0, 0x0, false⟩,
  ⟨"RTE_DROP", 0x300100, [(13, 0x4)], 0x0, 0x0, 0x0, false⟩]

/-- Registers of the BPM block. -/
def regRowsBpm0 : List RegRow := [
  ⟨"BPM_CTRL", 0x310000, [(2, 0x4000)], 0x1, 0x0, 0x0, false⟩,
  ⟨"BPM_STATUS", 0x310004, [(2, 0x4000)], 0x0, 0x0, 0x0, false⟩,
  ⟨"BPM_SCHED_BASE", 0x310008, [(2, 0x4000)], 0x1FFFFF, 0x0, 0x0, false⟩,
  ⟨"BPM_SCHED_SIZE", 0x31000C, [(2, 0x4000)], 0x3FFFFF, 0x0, 0x0, false⟩,
  ⟨"BPM_RING_BASE", 0x310010, [(2, 0x4000)], 0x1FFFFF, 0x0, 0x0, false⟩,
  ⟨"BPM_POOL_BASE", 0x310100, [(2, 0x4000), (4, 0x40)], 0x1FFFFF, 0x0, 0x0, false⟩,
  ⟨"BPM_POOL_COUNT", 0x310104, [(2, 0x4000), (4, 0x40)], 0xFFFFF, 0x0, 0x0, false⟩,
  ⟨"BPM_POOL_FREE", 0x310108, [(2, 0x4000), (4, 0x40)], 0x0, 0x0, 0x0, false⟩,
  ⟨"BPM_POOL_SHARED", 0x31010C, [(2, 0x4000), (4, 0x40)], 0x0, 0x0, 0x0, false⟩,
  ⟨"BPM_POOL_INUSE", 0x310110, [(2, 0x4000), (4, 0x40)], 0x0, 0x0, 0x0, false⟩,
  ⟨"BPM_POOL_LOWFREE", 0x310114, [(2, 0x4000), (4, 0x40)], 0xFFFFF, 0x0, 0x0, false⟩,
  ⟨"BPM_POOL_NOBUF", 0x310118, [(2, 0x4000), (4, 0x40)], 0x0, 0x0, 0x0, false⟩,
  ⟨"BPM_POOL_ALLOC_LO", 0x31011C, [(2, 0x4000), (4, 0x40)], 0x0, 0x0, 0x0, true⟩,
  ⟨"BPM_POOL_ALLOC_HI", 0x310120, [(2, 0x4000), (4, 0x40)], 0x0, 0x0, 0x0, false⟩,
  ⟨"BPM_POOL_RSV_SUM", 0x310124, [(2, 0x4000), (4, 0x40)], 0x0, 0x0, 0x0, false⟩,
  ⟨"BPM_OWN_CMD", 0x310200, [(2, 0x4000)], 0x1007FF, 0x0, 0x0, false⟩,
  ⟨"BPM_OWN_DATA0", 0x310204, [(2, 0x4000)], 0xFFFF, 0x0, 0x0, false⟩,
  ⟨"BPM_OWN_DATA1", 0x310208, [(2, 0x4000)], 0xFFFFF, 0x0, 0x0, false⟩,
  ⟨"BPM_OWN_DATA2", 0x31020C, [(2, 0x4000)], 0x0, 0x0, 0x0, false⟩,
  ⟨"BPM_OWN_DATA3", 0x310210, [(2, 0x4000)], 0x0, 0x0, 0x0, false⟩,
  ⟨"BPM_EVENT", 0x310300, [(2, 0x4000)], 0x0, 0xF, 0x0, false⟩,
  ⟨"BPM_EVENT_CNT", 0x310304, [(2, 0x4000)], 0x0, 0x0, 0x0, false⟩,
  ⟨"BPM_HANDLE_DUP", 0x310310, [(2, 0x4000)], 0x0, 0x0, 0x0, false⟩,
  ⟨"BPM_DOUBLE_FREE", 0x310314, [(2, 0x4000)], 0x0, 0x0, 0x0, false⟩]

/-- Registers of the BPM block. -/
def regRowsBpm1 : List RegRow := [
  ⟨"BPM_CACHE_STEAL", 0x310318, [(2, 0x4000)], 0x0, 0x0, 0x0, false⟩,
  ⟨"BPM_NO_POOL", 0x31031C, [(2, 0x4000)], 0x0, 0x0, 0x0, false⟩]

/-- All registers of the BPM block. -/
def regRowsBpm : List RegRow := regRowsBpm0 ++ regRowsBpm1

/-- Registers of the SCH block. -/
def regRowsSch0 : List RegRow := [
  ⟨"SCH_CAL_PERIOD", 0x320000, [], 0xFFFFFF, 0x0, 0x1, false⟩,
  ⟨"SCH_CAL_COUNT", 0x320004, [], 0x1FFFF, 0x0, 0x0, false⟩,
  ⟨"SCH_CAL_CMD", 0x320008, [], 0x10FFFF, 0x0, 0x0, false⟩,
  ⟨"SCH_CAL_DATA0", 0x32000C, [], 0xFFFFFF, 0x0, 0x0, false⟩,
  ⟨"SCH_CAL_DATA1", 0x320010, [], 0xFFFF03FF, 0x0, 0x0, false⟩,
  ⟨"SCH_POL_CMD", 0x320020, [], 0x101FFF, 0x0, 0x0, false⟩,
  ⟨"SCH_POL_DATA0", 0x320024, [], 0xE00FFFFF, 0x0, 0x0, false⟩,
  ⟨"SCH_POL_DATA1", 0x320028, [], 0xFFFFFF, 0x0, 0x0, false⟩,
  ⟨"SCH_POL_DATA2", 0x32002C, [], 0xFFFFFF, 0x0, 0x0, false⟩,
  ⟨"SCH_POL_VIEW", 0x320030, [], 0x1FFF, 0x0, 0x0, false⟩,
  ⟨"SCH_POL_GREEN", 0x320034, [], 0x0, 0x0, 0x0, false⟩,
  ⟨"SCH_POL_YELLOW", 0x320038, [], 0x0, 0x0, 0x0, false⟩,
  ⟨"SCH_POL_RED", 0x32003C, [], 0x0, 0x0, 0x0, false⟩,
  ⟨"SCH_POL_RED_TOTAL_LO", 0x320040, [], 0x0, 0x0, 0x0, true⟩,
  ⟨"SCH_POL_RED_TOTAL_HI", 0x320044, [], 0x0, 0x0, 0x0, false⟩,
  ⟨"SCH_EVENT", 0x320050, [], 0x0, 0x3F, 0x0, false⟩,
  ⟨"SCH_EVENT_CNT0", 0x320054, [], 0x0, 0x0, 0x0, false⟩,
  ⟨"SCH_EVENT_CNT1", 0x320058, [], 0x0, 0x0, 0x0, false⟩,
  ⟨"SCH_PORT_CFG", 0x330000, [(64, 0x2000)], 0x3F, 0x0, 0x0, false⟩,
  ⟨"SCH_QMAP", 0x330004, [(64, 0x2000)], 0xFFFFFF, 0x0, 0xD63D63, false⟩,
  ⟨"SCH_PAUSE_CTRL", 0x330010, [(64, 0x2000)], 0x0, 0x0, 0x0, false⟩,
  ⟨"SCH_PAUSE_TIME", 0x330014, [(64, 0x2000)], 0x0, 0x0, 0x0, false⟩,
  ⟨"SCH_PAUSE_XOFF", 0x330018, [(64, 0x2000)], 0x0, 0x0, 0x0, false⟩,
  ⟨"SCH_PAUSE_XON", 0x33001C, [(64, 0x2000)], 0x0, 0x0, 0x0, false⟩]

/-- Registers of the SCH block. -/
def regRowsSch1 : List RegRow := [
  ⟨"SCH_PAUSE_STATE", 0x330020, [(64, 0x2000)], 0x0, 0x0, 0x0, false⟩,
  ⟨"SCH_Q_SHAPE_CAP", 0x330100, [(64, 0x2000), (8, 0x200), (3, 0x10)], 0xFFFFF, 0x0, 0x0, false⟩,
  ⟨"SCH_Q_SHAPE_WEIGHT", 0x330130, [(64, 0x2000), (8, 0x200), (5, 0x10)], 0xFF, 0x0, 0x1, false⟩,
  ⟨"SCH_Q_BURST_CAP", 0x330104, [(64, 0x2000), (8, 0x200), (3, 0x10)], 0xFFFFFF, 0x0, 0x4000, false⟩,
  ⟨"SCH_Q_BURST_DRR", 0x330134, [(64, 0x2000), (8, 0x200), (5, 0x10)], 0x0, 0x0, 0x0, false⟩,
  ⟨"SCH_Q_MARK", 0x330108, [(64, 0x2000), (8, 0x200), (8, 0x10)], 0xFFFFFF, 0x0, 0xFFFFFF, false⟩,
  ⟨"SCH_Q_LIMIT", 0x33010C, [(64, 0x2000), (8, 0x200), (8, 0x10)], 0x0, 0x0, 0x0, false⟩,
  ⟨"SCH_Q_TX_BYTES_LO", 0x330180, [(64, 0x2000), (8, 0x200), (8, 0x10)], 0x0, 0x0, 0x0, true⟩,
  ⟨"SCH_Q_TX_BYTES_HI", 0x330184, [(64, 0x2000), (8, 0x200), (8, 0x10)], 0x0, 0x0, 0x0, false⟩,
  ⟨"SCH_Q_TX_PKTS", 0x330188, [(64, 0x2000), (8, 0x200), (8, 0x10)], 0x0, 0x0, 0x0, false⟩,
  ⟨"SCH_Q_MARKED", 0x33018C, [(64, 0x2000), (8, 0x200), (8, 0x10)], 0x0, 0x0, 0x0, false⟩,
  ⟨"SCH_Q_DEPTH", 0x330200, [(64, 0x2000), (8, 0x200), (8, 0x8)], 0x0, 0x0, 0x0, false⟩,
  ⟨"SCH_Q_DEPTH_MAX", 0x330204, [(64, 0x2000), (8, 0x200), (8, 0x8)], 0xFFFFFF, 0x0, 0x0, false⟩,
  ⟨"SCH_SCHED_UNRESV", 0x330280, [(64, 0x2000), (8, 0x200)], 0x0, 0x0, 0x0, false⟩,
  ⟨"SCH_SP_STATUS", 0x330284, [(64, 0x2000), (8, 0x200)], 0x0, 0x0, 0x0, false⟩,
  ⟨"SCH_PORT_CFG", 0x3B0000, [(16, 0x2000)], 0x3F, 0x0, 0x0, false⟩,
  ⟨"SCH_QMAP", 0x3B0004, [(16, 0x2000)], 0xFFFFFF, 0x0, 0xD63D63, false⟩,
  ⟨"SCH_PAUSE_CTRL", 0x3B0010, [(16, 0x2000)], 0x0, 0x0, 0x0, false⟩,
  ⟨"SCH_PAUSE_TIME", 0x3B0014, [(16, 0x2000)], 0x0, 0x0, 0x0, false⟩,
  ⟨"SCH_PAUSE_XOFF", 0x3B0018, [(16, 0x2000)], 0x0, 0x0, 0x0, false⟩,
  ⟨"SCH_PAUSE_XON", 0x3B001C, [(16, 0x2000)], 0x0, 0x0, 0x0, false⟩,
  ⟨"SCH_PAUSE_STATE", 0x3B0020, [(16, 0x2000)], 0x0, 0x0, 0x0, false⟩,
  ⟨"SCH_Q_SHAPE_CAP", 0x3B0100, [(16, 0x2000), (8, 0x200), (3, 0x10)], 0xFFFFF, 0x0, 0x0, false⟩,
  ⟨"SCH_Q_SHAPE_WEIGHT", 0x3B0130, [(16, 0x2000), (8, 0x200), (5, 0x10)], 0xFF, 0x0, 0x1, false⟩]

/-- Registers of the SCH block. -/
def regRowsSch2 : List RegRow := [
  ⟨"SCH_Q_BURST_CAP", 0x3B0104, [(16, 0x2000), (8, 0x200), (3, 0x10)], 0xFFFFFF, 0x0, 0x4000, false⟩,
  ⟨"SCH_Q_BURST_DRR", 0x3B0134, [(16, 0x2000), (8, 0x200), (5, 0x10)], 0x0, 0x0, 0x0, false⟩,
  ⟨"SCH_Q_MARK", 0x3B0108, [(16, 0x2000), (8, 0x200), (8, 0x10)], 0xFFFFFF, 0x0, 0xFFFFFF, false⟩,
  ⟨"SCH_Q_LIMIT", 0x3B010C, [(16, 0x2000), (8, 0x200), (8, 0x10)], 0x0, 0x0, 0x0, false⟩,
  ⟨"SCH_Q_TX_BYTES_LO", 0x3B0180, [(16, 0x2000), (8, 0x200), (8, 0x10)], 0x0, 0x0, 0x0, true⟩,
  ⟨"SCH_Q_TX_BYTES_HI", 0x3B0184, [(16, 0x2000), (8, 0x200), (8, 0x10)], 0x0, 0x0, 0x0, false⟩,
  ⟨"SCH_Q_TX_PKTS", 0x3B0188, [(16, 0x2000), (8, 0x200), (8, 0x10)], 0x0, 0x0, 0x0, false⟩,
  ⟨"SCH_Q_MARKED", 0x3B018C, [(16, 0x2000), (8, 0x200), (8, 0x10)], 0x0, 0x0, 0x0, false⟩,
  ⟨"SCH_Q_DEPTH", 0x3B0200, [(16, 0x2000), (8, 0x200), (8, 0x8)], 0x0, 0x0, 0x0, false⟩,
  ⟨"SCH_Q_DEPTH_MAX", 0x3B0204, [(16, 0x2000), (8, 0x200), (8, 0x8)], 0xFFFFFF, 0x0, 0x0, false⟩,
  ⟨"SCH_SCHED_UNRESV", 0x3B0280, [(16, 0x2000), (8, 0x200)], 0x0, 0x0, 0x0, false⟩,
  ⟨"SCH_SP_STATUS", 0x3B0284, [(16, 0x2000), (8, 0x200)], 0x0, 0x0, 0x0, false⟩,
  ⟨"SCH_PORT_CFG", 0x3D0000, [(4, 0x2000)], 0x3F, 0x0, 0x14, false⟩,
  ⟨"SCH_QMAP", 0x3D0004, [(4, 0x2000)], 0xFFFFFF, 0x0, 0x53977, false⟩,
  ⟨"SCH_PAUSE_CTRL", 0x3D0010, [(4, 0x2000)], 0xFF07, 0x0, 0xFF00, false⟩,
  ⟨"SCH_PAUSE_TIME", 0x3D0014, [(4, 0x2000)], 0xFFFFFFFF, 0x0, 0x8000FFFF, false⟩,
  ⟨"SCH_PAUSE_XOFF", 0x3D0018, [(4, 0x2000)], 0xFFFFF, 0x0, 0x100, false⟩,
  ⟨"SCH_PAUSE_XON", 0x3D001C, [(4, 0x2000)], 0xFFFFF, 0x0, 0x80, false⟩,
  ⟨"SCH_PAUSE_STATE", 0x3D0020, [(4, 0x2000)], 0x0, 0x0, 0x0, false⟩,
  ⟨"PAUSE_RX_FRAMES", 0x3D0040, [(4, 0x2000)], 0x0, 0x0, 0x0, false⟩,
  ⟨"PFC_RX_FRAMES", 0x3D0044, [(4, 0x2000)], 0x0, 0x0, 0x0, false⟩,
  ⟨"PAUSE_TX_FRAMES", 0x3D0048, [(4, 0x2000)], 0x0, 0x0, 0x0, false⟩,
  ⟨"CTRL_IGNORED", 0x3D004C, [(4, 0x2000)], 0x0, 0x0, 0x0, false⟩,
  ⟨"PAUSED_QUANTA_LO", 0x3D0050, [(4, 0x2000)], 0x0, 0x0, 0x0, true⟩]

/-- Registers of the SCH block. -/
def regRowsSch3 : List RegRow := [
  ⟨"PAUSED_QUANTA_HI", 0x3D0054, [(4, 0x2000)], 0x0, 0x0, 0x0, false⟩,
  ⟨"SCH_Q_SHAPE_CAP", 0x3D0100, [(4, 0x2000), (1, 0x200), (3, 0x10)], 0xFFFFF, 0x0, 0x0, false⟩,
  ⟨"SCH_Q_SHAPE_WEIGHT", 0x3D0130, [(4, 0x2000), (1, 0x200), (5, 0x10)], 0xFF, 0x0, 0x1, false⟩,
  ⟨"SCH_Q_BURST_CAP", 0x3D0104, [(4, 0x2000), (1, 0x200), (3, 0x10)], 0xFFFFFF, 0x0, 0x4000, false⟩,
  ⟨"SCH_Q_BURST_DRR", 0x3D0134, [(4, 0x2000), (1, 0x200), (5, 0x10)], 0x0, 0x0, 0x0, false⟩,
  ⟨"SCH_Q_MARK", 0x3D0108, [(4, 0x2000), (1, 0x200), (8, 0x10)], 0xFFFFFF, 0x0, 0xFFFFFF, false⟩,
  ⟨"SCH_Q_LIMIT", 0x3D010C, [(4, 0x2000), (1, 0x200), (8, 0x10)], 0xFFFFFF, 0x0, 0x100000, false⟩,
  ⟨"SCH_Q_TX_BYTES_LO", 0x3D0180, [(4, 0x2000), (1, 0x200), (8, 0x10)], 0x0, 0x0, 0x0, true⟩,
  ⟨"SCH_Q_TX_BYTES_HI", 0x3D0184, [(4, 0x2000), (1, 0x200), (8, 0x10)], 0x0, 0x0, 0x0, false⟩,
  ⟨"SCH_Q_TX_PKTS", 0x3D0188, [(4, 0x2000), (1, 0x200), (8, 0x10)], 0x0, 0x0, 0x0, false⟩,
  ⟨"SCH_Q_MARKED", 0x3D018C, [(4, 0x2000), (1, 0x200), (8, 0x10)], 0x0, 0x0, 0x0, false⟩,
  ⟨"SCH_Q_DEPTH", 0x3D0200, [(4, 0x2000), (1, 0x200), (8, 0x8)], 0x0, 0x0, 0x0, false⟩,
  ⟨"SCH_Q_DEPTH_MAX", 0x3D0204, [(4, 0x2000), (1, 0x200), (8, 0x8)], 0xFFFFFF, 0x0, 0x0, false⟩,
  ⟨"SCH_SCHED_UNRESV", 0x3D0280, [(4, 0x2000), (1, 0x200)], 0x0, 0x0, 0x0, false⟩,
  ⟨"SCH_SP_STATUS", 0x3D0284, [(4, 0x2000), (1, 0x200)], 0x0, 0x0, 0x0, false⟩]

/-- All registers of the SCH block. -/
def regRowsSch : List RegRow := regRowsSch0 ++ regRowsSch1 ++ regRowsSch2 ++ regRowsSch3

/-- Registers of the CEL block. -/
def regRowsCel : List RegRow := [
  ⟨"CEL_CTRL", 0x400000, [], 0xFFFF0000, 0x0, 0x10000000, false⟩,
  ⟨"CEL_STATUS", 0x400004, [], 0x0, 0x0, 0x0, false⟩,
  ⟨"CEL_FPFLAGS", 0x400010, [], 0x0, 0xFF, 0x0, false⟩,
  ⟨"CEL_FPFLAGS_CNT0", 0x400014, [], 0x0, 0x0, 0x0, false⟩,
  ⟨"CEL_FPFLAGS_CNT1", 0x400018, [], 0x0, 0x0, 0x0, false⟩,
  ⟨"CEL_EVENT", 0x400020, [], 0x0, 0x3F, 0x0, false⟩,
  ⟨"CEL_EVENT_CNT0", 0x400024, [], 0x0, 0x0, 0x0, false⟩,
  ⟨"CEL_EVENT_CNT1", 0x400028, [], 0x0, 0x0, 0x0, false⟩,
  ⟨"CEL_FAULT_REC0", 0x400030, [], 0x0, 0x0, 0x0, false⟩,
  ⟨"CEL_FAULT_REC1", 0x400034, [], 0x0, 0x0, 0x0, false⟩,
  ⟨"CEL_FAULT_REC2", 0x400038, [], 0x0, 0x0, 0x0, false⟩,
  ⟨"CEL_FAULT_REC3", 0x40003C, [], 0x0, 0x1, 0x0, false⟩,
  ⟨"CEL_LAUNCHES", 0x400040, [], 0x0, 0x0, 0x0, false⟩,
  ⟨"CEL_LAUNCH_REFUSED", 0x400044, [], 0x0, 0x0, 0x0, false⟩,
  ⟨"CEL_FAULTS", 0x400048, [], 0x0, 0x0, 0x0, false⟩,
  ⟨"CEL_ECC_CORR", 0x40004C, [], 0x0, 0x0, 0x0, false⟩,
  ⟨"CEL_WAITC_LATE", 0x400050, [], 0x0, 0x0, 0x0, false⟩,
  ⟨"CEL_RECV_STALL", 0x400054, [], 0x0, 0x0, 0x0, false⟩,
  ⟨"CEL_MESH_WAIT", 0x400058, [], 0x0, 0x0, 0x0, false⟩,
  ⟨"CEL_LANDING_OVER", 0x40005C, [], 0x0, 0x0, 0x0, false⟩,
  ⟨"CEL_XLAT", 0x400100, [(64, 0x4)], 0xFFFFFFFF, 0x0, 0x0, false⟩,
  ⟨"CEL_COLMODE", 0x400200, [(8, 0x4)], 0xFFFFFFFF, 0x0, 0x0, false⟩,
  ⟨"CEL_COLOWN", 0x400300, [(64, 0x4)], 0x0, 0x0, 0x0, false⟩]

/-- Registers of the COL block. -/
def regRowsCol0 : List RegRow := [
  ⟨"COL_CTRL", 0x410000, [], 0xFFFF, 0x0, 0x20, false⟩,
  ⟨"COL_VIEW", 0x410004, [], 0x3F0FFF, 0x0, 0x0, false⟩,
  ⟨"COL_GRP_STATE", 0x410008, [], 0x0, 0x0, 0x0, false⟩,
  ⟨"COL_GRP_STEP_LO", 0x41000C, [], 0x0, 0x0, 0x0, true⟩,
  ⟨"COL_GRP_STEP_HI", 0x410010, [], 0x0, 0x0, 0x0, false⟩,
  ⟨"COL_LATE_MAP_LO", 0x410014, [], 0x0, 0x0, 0x0, true⟩,
  ⟨"COL_LATE_MAP_HI", 0x410018, [], 0x0, 0x0, 0x0, false⟩,
  ⟨"COL_LAST_FAIL", 0x41001C, [], 0x0, 0x0, 0x0, false⟩,
  ⟨"COL_SLOW", 0x410020, [], 0x0, 0x0, 0x0, false⟩,
  ⟨"COL_MEM_LAG_LO", 0x410024, [], 0x0, 0x0, 0x0, true⟩,
  ⟨"COL_MEM_LAG_HI", 0x410028, [], 0x0, 0x0, 0x0, false⟩,
  ⟨"COL_LAG_CLR", 0x41002C, [], 0x0, 0x0, 0x0, false⟩,
  ⟨"COL_LAG_HIST", 0x410040, [(8, 0x4)], 0x0, 0x0, 0x0, false⟩,
  ⟨"COL_FPFLAGS", 0x410080, [], 0x0, 0xFF, 0x0, false⟩,
  ⟨"COL_FPFLAGS_CNT0", 0x410084, [], 0x0, 0x0, 0x0, false⟩,
  ⟨"COL_FPFLAGS_CNT1", 0x410088, [], 0x0, 0x0, 0x0, false⟩,
  ⟨"COL_EVENT", 0x410090, [], 0x0, 0x3F, 0x0, false⟩,
  ⟨"COL_EVENT_CNT0", 0x410094, [], 0x0, 0x0, 0x0, false⟩,
  ⟨"COL_EVENT_CNT1", 0x410098, [], 0x0, 0x0, 0x0, false⟩,
  ⟨"COL_INST_OK", 0x410100, [], 0x0, 0x0, 0x0, false⟩,
  ⟨"COL_INST_FAIL", 0x410104, [], 0x0, 0x0, 0x0, false⟩,
  ⟨"COL_DROP_NOGROUP", 0x410108, [], 0x0, 0x0, 0x0, false⟩,
  ⟨"COL_DROP_MEMBER", 0x41010C, [], 0x0, 0x0, 0x0, false⟩,
  ⟨"COL_DROP_CLASS", 0x410110, [], 0x0, 0x0, 0x0, false⟩]

/-- Registers of the COL block. -/
def regRowsCol1 : List RegRow := [
  ⟨"COL_DROP_STALE", 0x410114, [], 0x0, 0x0, 0x0, false⟩,
  ⟨"COL_OVER", 0x410118, [], 0x0, 0x0, 0x0, false⟩,
  ⟨"COL_SEG_RANGE", 0x41011C, [], 0x0, 0x0, 0x0, false⟩,
  ⟨"COL_GROUPS_USED", 0x410120, [], 0x0, 0x0, 0x0, false⟩]

/-- All registers of the COL block. -/
def regRowsCol : List RegRow := regRowsCol0 ++ regRowsCol1

/-- Registers of the MXU block. -/
def regRowsMxu : List RegRow := [
  ⟨"MXU_FPFLAGS", 0x420000, [], 0x0, 0xFF, 0x0, false⟩,
  ⟨"MXU_FPFLAGS_CNT0", 0x420004, [], 0x0, 0x0, 0x0, false⟩,
  ⟨"MXU_FPFLAGS_CNT1", 0x420008, [], 0x0, 0x0, 0x0, false⟩,
  ⟨"MXU_EVENT", 0x420010, [], 0x0, 0x1F, 0x0, false⟩,
  ⟨"MXU_EVENT_CNT0", 0x420014, [], 0x0, 0x0, 0x0, false⟩,
  ⟨"MXU_EVENT_CNT1", 0x420018, [], 0x0, 0x0, 0x0, false⟩,
  ⟨"MXU_STATUS", 0x420100, [(8, 0x100)], 0x0, 0x0, 0x0, false⟩,
  ⟨"MXU_LAST", 0x420104, [(8, 0x100)], 0x0, 0x0, 0x0, false⟩,
  ⟨"MXU_LAUNCHES", 0x420108, [(8, 0x100)], 0x0, 0x0, 0x0, false⟩,
  ⟨"MXU_REFUSED", 0x42010C, [(8, 0x100)], 0x0, 0x0, 0x0, false⟩,
  ⟨"MXU_ACTIVE_LO", 0x420110, [(8, 0x100)], 0x0, 0x0, 0x0, true⟩,
  ⟨"MXU_ACTIVE_HI", 0x420114, [(8, 0x100)], 0x0, 0x0, 0x0, false⟩,
  ⟨"MXU_GATHER_STALL", 0x420118, [(8, 0x100)], 0x0, 0x0, 0x0, false⟩,
  ⟨"MXU_GATHER_RANGE", 0x42011C, [(8, 0x100)], 0x0, 0x0, 0x0, false⟩,
  ⟨"MXU_ECC_CORR", 0x420120, [(8, 0x100)], 0x0, 0x0, 0x0, false⟩,
  ⟨"MXU_FAULT_REC0", 0x420124, [(8, 0x100)], 0x0, 0x0, 0x0, false⟩,
  ⟨"MXU_FAULT_REC1", 0x420128, [(8, 0x100)], 0x0, 0x0, 0x0, false⟩,
  ⟨"MXU_FAULT_REC2", 0x42012C, [(8, 0x100)], 0x0, 0x1, 0x0, false⟩]

/-- Registers of the STR block. -/
def regRowsStr0 : List RegRow := [
  ⟨"STR_TBL_CMD", 0x430000, [], 0x10FFFF, 0x0, 0x0, false⟩,
  ⟨"STR_TBL_DATA0", 0x430004, [], 0xFFFFFFFE, 0x0, 0x0, false⟩,
  ⟨"STR_TBL_DATA1", 0x430008, [], 0xFFF7FFFF, 0x0, 0x0, false⟩,
  ⟨"STR_TBL_DATA2", 0x43000C, [], 0xFFFFFFFF, 0x0, 0x0, false⟩,
  ⟨"STR_TBL_DATA3", 0x430010, [], 0xFFFFFFFF, 0x0, 0x0, false⟩,
  ⟨"STR_TBL_DATA4", 0x430014, [], 0xFFFFFFFF, 0x0, 0x0, false⟩,
  ⟨"STR_TBL_DATA5", 0x430018, [], 0xFFFFF, 0x0, 0x0, false⟩,
  ⟨"STR_TBL_DATA6", 0x43001C, [], 0xFFFFFFFF, 0x0, 0x0, false⟩,
  ⟨"STR_TBL_DATA7", 0x430020, [], 0xFFFF, 0x0, 0x0, false⟩,
  ⟨"STR_VIEW", 0x430040, [], 0xFFFF, 0x0, 0x0, false⟩,
  ⟨"STR_STATE", 0x430044, [], 0x0, 0x0, 0x0, false⟩,
  ⟨"STR_STEP_LO", 0x430048, [], 0x0, 0x0, 0x0, true⟩,
  ⟨"STR_STEP_HI", 0x43004C, [], 0x0, 0x0, 0x0, false⟩,
  ⟨"STR_LAST_RESET_LO", 0x430050, [], 0x0, 0x0, 0x0, true⟩,
  ⟨"STR_LAST_RESET_HI", 0x430054, [], 0x0, 0x0, 0x0, false⟩,
  ⟨"STR_DIGEST", 0x430058, [], 0x0, 0x0, 0x0, false⟩,
  ⟨"STR_FPFLAGS", 0x430080, [], 0x0, 0xFF, 0x0, false⟩,
  ⟨"STR_FPFLAGS_CNT0", 0x430084, [], 0x0, 0x0, 0x0, false⟩,
  ⟨"STR_FPFLAGS_CNT1", 0x430088, [], 0x0, 0x0, 0x0, false⟩,
  ⟨"STR_EVENT", 0x430090, [], 0x0, 0x3F, 0x0, false⟩,
  ⟨"STR_EVENT_CNT0", 0x430094, [], 0x0, 0x0, 0x0, false⟩,
  ⟨"STR_EVENT_CNT1", 0x430098, [], 0x0, 0x0, 0x0, false⟩,
  ⟨"STR_STEPS_OK", 0x430100, [], 0x0, 0x0, 0x0, false⟩,
  ⟨"STR_STEPS_FAIL", 0x430104, [], 0x0, 0x0, 0x0, false⟩]

/-- Registers of the STR block. -/
def regRowsStr1 : List RegRow := [
  ⟨"STR_RESETS", 0x430108, [], 0x0, 0x0, 0x0, false⟩,
  ⟨"STR_RAW_SENT", 0x43010C, [], 0x0, 0x0, 0x0, false⟩,
  ⟨"STR_RAW_ABANDONED", 0x430110, [], 0x0, 0x0, 0x0, false⟩,
  ⟨"STR_RBIT_MISMATCH", 0x430114, [], 0x0, 0x0, 0x0, false⟩,
  ⟨"STR_DROP_NOSTREAM", 0x430118, [], 0x0, 0x0, 0x0, false⟩,
  ⟨"STR_DROP_PAV", 0x43011C, [], 0x0, 0x0, 0x0, false⟩,
  ⟨"STR_DROP_LEN", 0x430120, [], 0x0, 0x0, 0x0, false⟩,
  ⟨"STR_DROP_LATE", 0x430124, [], 0x0, 0x0, 0x0, false⟩,
  ⟨"STR_DROP_STEP", 0x430128, [], 0x0, 0x0, 0x0, false⟩,
  ⟨"RPL_BASE_LO", 0x431000, [(16, 0x100)], 0xFFFFFFFF, 0x0, 0x0, false⟩,
  ⟨"RPL_BASE_HI", 0x431004, [(16, 0x100)], 0xFFFFFFFF, 0x0, 0x0, false⟩,
  ⟨"RPL_SIZE", 0x431008, [(16, 0x100)], 0xFFFF, 0x0, 0x0, false⟩,
  ⟨"RPL_CTRL", 0x43100C, [(16, 0x100)], 0xFFFF, 0x0, 0x7D0, false⟩,
  ⟨"RPL_UNACKED", 0x431010, [(16, 0x100)], 0x0, 0x0, 0x0, false⟩,
  ⟨"RPL_NAK_TX", 0x431014, [(16, 0x100)], 0x0, 0x0, 0x0, false⟩,
  ⟨"RPL_NAK_RX", 0x431018, [(16, 0x100)], 0x0, 0x0, 0x0, false⟩,
  ⟨"RPL_REPLAYED", 0x43101C, [(16, 0x100)], 0x0, 0x0, 0x0, false⟩,
  ⟨"RPL_GAP", 0x431020, [(16, 0x100)], 0x0, 0x0, 0x0, false⟩,
  ⟨"RPL_EVICTED", 0x431024, [(16, 0x100)], 0x0, 0x0, 0x0, false⟩,
  ⟨"RPL_SCHED_LATE", 0x431028, [(16, 0x100)], 0x0, 0x0, 0x0, false⟩,
  ⟨"RPL_RECOVER_DISCARD", 0x43102C, [(16, 0x100)], 0x0, 0x0, 0x0, false⟩]

/-- All registers of the STR block. -/
def regRowsStr : List RegRow := regRowsStr0 ++ regRowsStr1

/-- Registers of the MEM block. -/
def regRowsMem0 : List RegRow := [
  ⟨"MEM_CTRL", 0x440000, [], 0x1, 0x0, 0x0, false⟩,
  ⟨"MEM_GSVC", 0x440004, [], 0xFF, 0x0, 0x0, false⟩,
  ⟨"MEM_RGN_CMD", 0x440010, [], 0x1000FF, 0x0, 0x0, false⟩,
  ⟨"MEM_RGN_DATA0", 0x440014, [], 0xEF3F0001, 0x0, 0x0, false⟩,
  ⟨"MEM_RGN_DATA1", 0x440018, [], 0x7FFFFFF, 0x0, 0x0, false⟩,
  ⟨"MEM_RGN_DATA2", 0x44001C, [], 0x7FFFFFF, 0x0, 0x0, false⟩,
  ⟨"MEM_GTBL_CMD", 0x440020, [], 0x1001FF, 0x0, 0x0, false⟩,
  ⟨"MEM_GTBL_DATA0", 0x440024, [], 0xBF80007F, 0x0, 0x0, false⟩,
  ⟨"MEM_GTBL_DATA1", 0x440028, [], 0x7FFFFFF, 0x0, 0x0, false⟩,
  ⟨"MEM_GTBL_DATA2", 0x44002C, [], 0xFFFFFFFF, 0x0, 0x0, false⟩,
  ⟨"MEM_GWIN_CMD", 0x440030, [], 0x1000FF, 0x0, 0x0, false⟩,
  ⟨"MEM_GWIN_DATA0", 0x440034, [], 0xFFFFFF, 0x0, 0x0, false⟩,
  ⟨"MEM_GWIN_DATA1", 0x440038, [], 0xFFFF01FF, 0x0, 0x0, false⟩,
  ⟨"MEM_EWIN_BASE", 0x440040, [(8, 0x8)], 0x3FFFF, 0x0, 0x0, false⟩,
  ⟨"MEM_EWIN_SIZE", 0x440044, [(8, 0x8)], 0x7FFFF, 0x0, 0x0, false⟩,
  ⟨"MEM_EVENT", 0x440080, [], 0x0, 0x1FF, 0x0, false⟩,
  ⟨"MEM_EVENT_CNT0", 0x440084, [], 0x0, 0x0, 0x0, false⟩,
  ⟨"MEM_EVENT_CNT1", 0x440088, [], 0x0, 0x0, 0x0, false⟩,
  ⟨"MEM_PF_BYTES_LO", 0x440100, [], 0x0, 0x0, 0x0, true⟩,
  ⟨"MEM_PF_BYTES_HI", 0x440104, [], 0x0, 0x0, 0x0, false⟩,
  ⟨"MEM_PF_COUNT", 0x440108, [], 0x0, 0x0, 0x0, false⟩,
  ⟨"MEM_PF_REFUSED", 0x44010C, [], 0x0, 0x0, 0x0, false⟩,
  ⟨"MEM_PF_OVF", 0x440110, [], 0x0, 0x0, 0x0, false⟩,
  ⟨"MEM_PAGE_LATE", 0x440114, [], 0x0, 0x0, 0x0, false⟩]

/-- Registers of the MEM block. -/
def regRowsMem1 : List RegRow := [
  ⟨"MEM_GREQ_RX", 0x440118, [], 0x0, 0x0, 0x0, false⟩,
  ⟨"MEM_GREQ_DROP", 0x44011C, [], 0x0, 0x0, 0x0, false⟩,
  ⟨"MEM_GATHER_RANGE", 0x440120, [], 0x0, 0x0, 0x0, false⟩,
  ⟨"MEM_ACCESS_DENIED", 0x440124, [], 0x0, 0x0, 0x0, false⟩,
  ⟨"MEM_HBM_CORR", 0x440128, [], 0x0, 0x0, 0x0, false⟩,
  ⟨"MEM_HBM_UNCORR", 0x44012C, [], 0x0, 0x0, 0x0, false⟩,
  ⟨"MEM_HBM_STATUS", 0x440140, [(8, 0x4)], 0x0, 0x0, 0x0, false⟩]

/-- All registers of the MEM block. -/
def regRowsMem : List RegRow := regRowsMem0 ++ regRowsMem1

/-- Registers of the DET block. -/
def regRowsDet0 : List RegRow := [
  ⟨"DET_CAP_CFG", 0x450000, [], 0x0, 0x0, 0x0, false⟩,
  ⟨"DET_CAP_POST", 0x450004, [], 0xFFFFFF, 0x0, 0x0, false⟩,
  ⟨"DET_CAP_WR_LO", 0x450008, [], 0x0, 0x0, 0x0, true⟩,
  ⟨"DET_CAP_WR_HI", 0x45000C, [], 0x0, 0x0, 0x0, false⟩,
  ⟨"DET_CAP_OLDEST_LO", 0x450010, [], 0x0, 0x0, 0x0, true⟩,
  ⟨"DET_CAP_OLDEST_HI", 0x450014, [], 0x0, 0x0, 0x0, false⟩,
  ⟨"DET_CAP_RECSEQ", 0x450018, [], 0x0, 0x0, 0x0, false⟩,
  ⟨"DET_CAP_TRIGGER", 0x45001C, [], 0x0, 0x0, 0x0, false⟩,
  ⟨"DET_CAP_DMAC_LO", 0x450020, [], 0xFFFFFFFF, 0x0, 0x0, false⟩,
  ⟨"DET_CAP_DMAC_HI", 0x450024, [], 0xFFFF, 0x0, 0x0, false⟩,
  ⟨"DET_CAP_SMAC_LO", 0x450028, [], 0xFFFFFFFF, 0x0, 0x0, false⟩,
  ⟨"DET_CAP_SMAC_HI", 0x45002C, [], 0xFFFF, 0x0, 0x0, false⟩,
  ⟨"DET_RPL_CTRL", 0x450040, [], 0xFFFF0001, 0x0, 0x4000000, false⟩,
  ⟨"DET_RPL_BASE_LO", 0x450044, [], 0xFFFFFFFF, 0x0, 0x0, false⟩,
  ⟨"DET_RPL_BASE_HI", 0x450048, [], 0xFFFFFFFF, 0x0, 0x0, false⟩,
  ⟨"DET_RPL_LEN_LO", 0x45004C, [], 0xFFFFFFFF, 0x0, 0x0, false⟩,
  ⟨"DET_RPL_LEN_HI", 0x450050, [], 0xFFFFFFFF, 0x0, 0x0, false⟩,
  ⟨"DET_RPL_CAP_START_LO", 0x450054, [], 0xFFFFFFFF, 0x0, 0x0, false⟩,
  ⟨"DET_RPL_CAP_START_HI", 0x450058, [], 0xFFFFFFFF, 0x0, 0x0, false⟩,
  ⟨"DET_RPL_STATUS", 0x45005C, [], 0x0, 0x0, 0x0, false⟩,
  ⟨"DET_RPL_POS", 0x450060, [], 0x0, 0x0, 0x0, false⟩,
  ⟨"DET_DIG_CMD", 0x450080, [], 0x3FFC, 0x0, 0x0, false⟩,
  ⟨"DET_DIG_ADDR_LO", 0x450084, [], 0xFFFFFFFF, 0x0, 0x0, false⟩,
  ⟨"DET_DIG_ADDR_HI", 0x450088, [], 0xFF, 0x0, 0x0, false⟩]

/-- Registers of the DET block. -/
def regRowsDet1 : List RegRow := [
  ⟨"DET_DIG_LEN", 0x45008C, [], 0xFFFFFFFF, 0x0, 0x0, false⟩,
  ⟨"DET_DIG_RESULT", 0x450090, [], 0x0, 0x0, 0x0, false⟩,
  ⟨"DET_HAZARD", 0x4500A0, [], 0x0, 0x7F, 0x0, false⟩,
  ⟨"DET_EVENT", 0x4500B0, [], 0x0, 0x3F, 0x0, false⟩,
  ⟨"DET_EVENT_CNT0", 0x4500B4, [], 0x0, 0x0, 0x0, false⟩,
  ⟨"DET_EVENT_CNT1", 0x4500B8, [], 0x0, 0x0, 0x0, false⟩,
  ⟨"DET_CAP_RECORDS_LO", 0x450100, [], 0x0, 0x0, 0x0, true⟩,
  ⟨"DET_CAP_RECORDS_HI", 0x450104, [], 0x0, 0x0, 0x0, false⟩,
  ⟨"DET_CAP_LOST", 0x450108, [], 0x0, 0x0, 0x0, false⟩,
  ⟨"DET_CAP_TRIG_EXTRA", 0x45010C, [], 0x0, 0x0, 0x0, false⟩,
  ⟨"DET_RPL_INJECTED", 0x450110, [], 0x0, 0x0, 0x0, false⟩,
  ⟨"DET_RPL_WIRE_DROP", 0x450114, [], 0x0, 0x0, 0x0, false⟩]

/-- All registers of the DET block. -/
def regRowsDet : List RegRow := regRowsDet0 ++ regRowsDet1

/-- Registers of the PWR block. -/
def regRowsPwr : List RegRow := [
  ⟨"PWR_BUDGET", 0x460000, [], 0x0, 0x0, 0x0, false⟩,
  ⟨"PWR_INUSE", 0x460004, [], 0x0, 0x0, 0x0, false⟩,
  ⟨"PWR_PEAK", 0x460008, [], 0xFF, 0x0, 0x0, false⟩,
  ⟨"PWR_PAV_VIEW", 0x46000C, [], 0x3F, 0x0, 0x0, false⟩,
  ⟨"PWR_PAV_TOKENS", 0x460010, [], 0x0, 0x0, 0x0, false⟩,
  ⟨"PWR_IMG_STATE", 0x460020, [], 0x0, 0x0, 0x0, false⟩,
  ⟨"PWR_IMG_ID_LO", 0x460024, [], 0x0, 0x0, 0x0, true⟩,
  ⟨"PWR_IMG_ID_HI", 0x460028, [], 0x0, 0x0, 0x0, false⟩,
  ⟨"PWR_START_LO", 0x46002C, [], 0x0, 0x0, 0x0, true⟩,
  ⟨"PWR_START_HI", 0x460030, [], 0x0, 0x0, 0x0, false⟩,
  ⟨"PWR_ITER_LO", 0x460034, [], 0x0, 0x0, 0x0, true⟩,
  ⟨"PWR_ITER_HI", 0x460038, [], 0x0, 0x0, 0x0, false⟩,
  ⟨"PWR_LAST_REFUSAL", 0x46003C, [], 0x0, 0x0, 0x0, false⟩,
  ⟨"PWR_EVENT", 0x460040, [], 0x0, 0x1F, 0x0, false⟩,
  ⟨"PWR_EVENT_CNT0", 0x460044, [], 0x0, 0x0, 0x0, false⟩,
  ⟨"PWR_EVENT_CNT1", 0x460048, [], 0x0, 0x0, 0x0, false⟩,
  ⟨"PWR_TOKEN_REFUSED", 0x460100, [], 0x0, 0x0, 0x0, false⟩,
  ⟨"PWR_SCHED_OVF", 0x460104, [], 0x0, 0x0, 0x0, false⟩,
  ⟨"PWR_GW_SLIP", 0x460108, [], 0x0, 0x0, 0x0, false⟩,
  ⟨"PWR_TOKEN_CYCLES_LO", 0x46010C, [], 0x0, 0x0, 0x0, true⟩,
  ⟨"PWR_TOKEN_CYCLES_HI", 0x460110, [], 0x0, 0x0, 0x0, false⟩]

/-- The rows of the block that offset `o` lies in (R720). -/
def regRowsAt (o : Nat) : List RegRow :=
  if 0x10000000 ≤ o then regRowsHif
  else if 0x460000 ≤ o then regRowsPwr else if 0x450000 ≤ o then regRowsDet else if 0x440000 ≤ o then regRowsMem
  else if 0x430000 ≤ o then regRowsStr else if 0x420000 ≤ o then regRowsMxu else if 0x410000 ≤ o then regRowsCol
  else if 0x400000 ≤ o then regRowsCel else if 0x320000 ≤ o then regRowsSch else if 0x310000 ≤ o then regRowsBpm
  else if 0x300000 ≤ o then regRowsRte else if 0x200000 ≤ o then regRowsPrt else if 0x100000 ≤ o then regRowsLne
  else if 0x70000 ≤ o then regRowsMgt else if 0x60000 ≤ o then regRowsLog else if 0x50000 ≤ o then regRowsCfg
  else if 0x40000 ≤ o then regRowsPav else if 0x30000 ≤ o then regRowsHif else if 0x20000 ≤ o then regRowsTim
  else if 0x10000 ≤ o then regRowsClk else regRowsGlb

/-- Offset `o`, counted from a row's base, is one of the row's registers. -/
def inDims : List (Nat × Nat) → Nat → Bool
  | [], o => o == 0
  | (c, st) :: ds, o => decide (o / st < c) && inDims ds (o % st)

/-- The row of the register at offset `o`; none where the offset is unmapped (R721). DESIGN CHOICE: log 5. -/
def regRow (o : Nat) : Option RegRow :=
  (regRowsAt o).find? fun r => decide (r.base ≤ o) && inDims r.dims (o - r.base)

/-- The value of the register at offset `o` after a cold reset (R726). -/
def regReset (o : Nat) : BitVec 32 :=
  match regRow o with
  | some r => BitVec.ofNat 32 r.reset
  | none => 0

end Sys2Proof.Machine
end

