-- ==== Sys2Proof/Machine/State.lean ====
section
/-! DEFINITION. The state of the K8 as plain data, the reasons a step can stop, and the state at cold reset. -/

namespace Sys2Proof.Machine

/-! ## Fuses, boot and resets (chapters 01 and 17) -/

/-- The part as assembled (R22), and its fuse array (R28, R31–R33, R628): what the factory wrote, and the owner fuse.
DESIGN CHOICE: log 4. -/
structure Fuse where
  asm     : Nat      -- the grade as assembled (R1, R22), which places the dies and stacks: 0 K8-S, 1 K8-L, 2 K8-G
  grade   : Nat      -- GLB_GRADE.GRADE as the record has it
  mask0   : Nat      -- disabled columns of C0, bit p = physical column p (132 bits)
  mask1   : Nat      -- disabled columns of C1
  crcOk   : Bool     -- the CRC-32C stored beside the record matches it
  format  : Nat      -- FUSE_FORMAT
  rev     : Nat      -- GLB_REV: ASSY_REV, STEP_MAJOR, STEP_MINOR
  dieMask : Nat      -- GLB_DIEMASK
  resrc   : Nat      -- GLB_RESOURCE
  hbm     : Nat      -- GLB_HBM
  serial  : Nat      -- 64-bit serial number
  vid0    : Nat      -- VCORE setpoint codes of C0 and C1 (R695)
  vid1    : Nat
  owner   : Nat      -- owner fuse, 48 bytes as a little-endian number; 0 is unprogrammed
  deriving DecidableEq, Repr

/-- The outcome of one configuration copy (R634): CFG_COPY_x, _SEQ and _FWVER. -/
structure CopyStat where
  status : Nat
  seq    : Nat
  fwver  : Nat
  deriving DecidableEq, Repr

/-- The stages, the reset pins and the causes (R616–R650), and the flash controller (R638). -/
structure Boot where
  vsb       : Bool            -- VSB within tolerance
  pwrOk     : Bool            -- the PWR_OK pin
  rstN      : Bool            -- the RST_N pin
  perstN    : Bool            -- the PERST_N pin
  stage     : Nat             -- R618: 0 RESET … 5 READY, 6 RECOVERY
  error     : Nat             -- CFG_BOOT.ERROR
  copy      : Option Nat      -- the copy taken: 0 A, 1 B
  cause     : Nat             -- CFG_RESET_CAUSE
  warmCount : Nat
  warm      : Bool            -- a warm reset is under way (R644)
  warmAt    : Nat             -- the SCLK cycle of its cause (R646)
  fuseDone  : Bool            -- GLB_FUSE_STATUS.FUSE_DONE
  fuseOk    : Bool
  copyA     : CopyStat
  copyB     : CopyStat
  fwver     : Nat             -- GLB_FWVER
  config    : List (Nat × Nat) -- CONFIG entries of the copy taken: offset and value
  ignored   : Nat             -- CFG_CONFIG_IGNORED
  flBusy    : Option (Nat × Nat) -- flash operation in progress: OP and address
  flErr     : Bool
  flAt      : Nat             -- the SCLK cycle, counted from 1, in which a command was last started (R638)
  flPf      : Bool            -- the PF started it
  fpBusy    : Option Nat      -- owner-fuse programming in progress: the value
  fpErr     : Bool
  vidDriven : Bool            -- the VCORE VID pins are driven from the fuse row (R696)
  deriving DecidableEq, Repr

/-! ## Fabric time (chapter 02) -/

/-- What the time unit knows of one source (R65, R73, R79). Offsets are in half units of 0.125 ns. -/
structure TimeSrc where
  up      : Bool        -- its lane or port is up
  heard   : Bool        -- an exchange has been accepted
  missed  : Nat         -- consecutive misses
  state   : Nat         -- advertised STATE: 0 FREERUN, 1 HOLDOVER, 2 LOCKED
  root    : Bool
  hops    : Nat
  unc     : Nat         -- advertised UNC field
  samples : List Int    -- the last measurements of twice the offset, newest first (R73)
  delay2  : Int         -- d_AB + d_BA of the last exchange
  delta   : Int         -- arrival minus send time of the last exchange received (sent back as PEER_DELTA)
  lastClk : Nat         -- root time of the last exchange accepted (R87)
  okAt    : Bool        -- the source has been valid since that exchange, with no miss after it (R87)
  slewAt  : Int         -- slew applied up to that exchange, fine units (R83)
  deriving DecidableEq, Repr

/-- Frequency acquisition (R87): the source, the exchanges counted, and the offset and root time of the first. -/
structure Facq where
  src    : Nat
  count  : Nat
  off0   : Int
  clk0   : Nat
  deriving DecidableEq, Repr

/-- The time unit (R46–R105). `now` is fabric time in units of 0.125 ns; `clk` counts root cycles since lock. -/
structure Tim where
  lock      : Bool              -- CLK_STATUS.ROOT_LOCK
  refclkOk  : Bool              -- CLK_STATUS.REFCLK_OK
  freqInOk  : Bool              -- CLK_STATUS.FREQ_IN_OK
  freqIn    : Int               -- correction FREQ_IN asks for, 0.001 ppm
  lost      : Bool              -- root lock was lost: held until a cold reset (R51)
  now       : Nat
  clk       : Nat
  slot      : Nat               -- slots started so far: the number of the next slot to start
  state     : Nat               -- 0 FREERUN, 1 HOLDOVER, 2 LOCKED
  rootMode  : Bool              -- ROOT as sampled at the last slot start (R81)
  sel       : Nat               -- selected source index (R65), 63 none
  advHops   : Nat               -- advertised HOPS
  withhold  : Bool
  held      : Bool              -- WITHHOLD of the last slot start, as the records give it during replay (R530, R541)
  corr      : Int               -- frequency correction, 0.001 ppm
  resid0    : Int               -- filtered offset at the last measurement, fine units (R83)
  residClk  : Nat               -- root time of that measurement
  slewTot   : Int               -- slew applied up to that time, fine units (R83)
  holdUnc   : Nat               -- uncertainty at HOLDOVER entry, fine units
  holdClk   : Nat               -- root time of HOLDOVER entry
  srcs      : List (Nat × TimeSrc)
  facq      : Option Facq
  loadPend  : Bool              -- an initial load is due at the next alignment boundary (R102)
  rep0      : Nat               -- the bandstands' replica counters: last slot started, C0 and C1 (R57)
  rep1      : Nat
  ppsPrev   : Option Nat        -- fabric time (0.125 ns) of the last accepted PPS_IN pulse (R77)
  ppsOut    : Bool              -- the PPS_OUT pin
  ppsLast   : Option Nat        -- root time of the last PPS_OUT edge (R105)
  ppsFall   : Nat               -- root time at which PPS_OUT falls (R103)
  ppsNext   : Nat               -- number of the next whole second PPS_OUT may mark
  ltSeq     : List (Nat × Nat)  -- next TIME packet SEQ per L-port (R72)
  deriving DecidableEq, Repr

/-! ## Host rings (chapter 15) -/

/-- A completion (R572). -/
structure Cpl where
  id : Nat
  type : Nat
  status : Nat
  sub : Nat
  flags : Nat
  aux : Nat
  value : Nat
  slot : Nat
  cycle : Nat
  detail : Nat
  sq : Nat
  deriving DecidableEq, Repr

/-- A submission queue (R555): head, tail, the error of R563, and whether its next command waits under FENCE (R560). -/
structure SqState where
  head : Nat
  tail : Nat
  error : Bool
  fenced : Bool
  deriving DecidableEq, Repr

/-- What hardware has set in SCLK cycle `at_` (R583, R584): W1C bits by register, and the faults that found their record held, by
the register of the record's VALID bit, with the words they would have recorded; and the registers that software wrote in it and
hardware also updates, each with its value before and after (R725). -/
structure Recent where
  at_  : Nat
  bits : List (Nat × Nat)
  held : List (Nat × List (Nat × Word))
  sw   : List (Nat × Word × Word)
  deriving DecidableEq, Repr

/-- A completion queue (R556, R577, R581); `first` is the root time of the first entry since the last interrupt. -/
structure CqState where
  head    : Nat
  tail    : Nat
  phase   : Bool
  error   : Bool
  pend    : Nat          -- entries since the last interrupt
  first   : Nat
  lost    : Nat          -- completions lost and not yet reported
  was     : Nat          -- the head before the doorbells of SCLK cycle `wasAt` (R576)
  wasAt   : Nat
  deriving DecidableEq, Repr

/-- A command taken and not yet completed (R562). `orphan`: its function was reset, so its completion is discarded. `no` is the
model's own name for it while it runs, since two commands may carry one CID. -/
structure Taken where
  no : Nat
  fn : Nat
  sq : Nat
  cq : Nat
  cid : Nat
  quiet : Bool
  orphan : Bool
  cplOk : Bool           -- PCIe takes the write of its completion (R579)
  cpl : Option Cpl       -- the completion that waits for CQ space (R577)
  deriving DecidableEq, Repr

/-- The host interface (R545–R587). Rings are keyed 256 × function + index. PRESUMED: log 22. -/
structure Hif where
  linkUp  : Bool
  flit    : Bool
  rate    : Nat
  width   : Nat
  training : Bool              -- link training has been started (R621)
  numVf   : Nat
  sqs     : List (Nat × SqState)
  cqs     : List (Nat × CqState)
  taken   : List Taken         -- oldest first
  msixOpen : List Nat          -- unmasked vectors, 2048 × function + vector (R580)
  msixPend : List Nat          -- pending bits
  nextTake : Nat               -- root time from which the next command may be taken (R558)
  turnFn   : Nat               -- the function whose turn it is
  turnSq   : List (Nat × Nat)  -- the SQ whose turn it is, by function
  deriving DecidableEq, Repr

/-! ## The event log (chapter 18) -/

/-- A log entry (R669). `pav` is byte 15. -/
structure LogEntry where
  time : Nat
  seq  : Nat
  cls  : Nat
  sub  : Nat
  src  : Nat
  pav  : Nat
  d0 : Nat
  d1 : Nat
  d2 : Nat
  d3 : Nat
  deriving DecidableEq, Repr

/-- The log queue, ring and fatal state (R659–R669), and the error counters of the package links (R26). -/
structure LogState where
  queue    : List LogEntry         -- offer order; CLASS 0x12 is the LOST marker (R662)
  ring     : List (Nat × LogEntry) -- by ring index
  bad      : List Nat              -- ring indices that hold an uncorrectable word
  wrSeq    : Nat
  drainSeq : Nat
  fatal    : Bool
  cause    : Nat
  stalled  : List Nat              -- 8 × egress + VC with a CREDIT_STALL standing (R655)
  retries  : List (Nat × Nat)      -- the error counters of the package links: retries by link (R26)
  nextWrite : Nat                  -- root time from which the writer takes the next entry (R663)
  drainAt  : Nat                   -- the SCLK cycle, counted from 1, in which a LOG_DRAIN last ended (R666)
  drainWas : Nat                   -- LOG_DRAIN_SEQ without that end
  drainTo  : Nat                   -- the SEQ that end moves it to
  deriving DecidableEq, Repr

/-! ## Pavilions (chapter 16) -/

/-- A contiguous range: its first unit and how many. -/
structure Range where
  base : Nat
  size : Nat
  deriving DecidableEq, Repr

/-- One entry of the pavilion table (R588–R594, R605), with the codes and units of the change records. -/
structure PavEntry where
  valid    : Bool
  function : Nat
  columns  : Nat      -- bit v = virtual column v (256 bits)
  units    : Nat      -- bit u = matrix unit u
  engines  : Nat      -- bit k = gather engine of HBMk
  ports    : Nat      -- bit b = port index b
  hbm0 : Range        -- 4 KiB units, C0
  hbm1 : Range        -- C1
  ember0 : Range      -- 64 B units
  ember1 : Range
  sbuf0 : Range       -- flits
  sbuf1 : Range
  streams : Range
  groups : Range
  reserve : List Nat  -- cap by 4 × die + pool, 8 entries
  tokens : Nat
  deriving DecidableEq, Repr

/-- A change record (R605). -/
structure PavRec where
  pav : Nat
  field : Nat
  index : Nat
  value : Nat
  deriving DecidableEq, Repr

/-- A proposal that waits for its approval (R607): its SEQ, its records, PROPOSAL_DIGEST as a big-endian number, and
fabric root time left in its window in SCLK cycles. -/
structure Proposal where
  seq : Nat
  recs : List PavRec
  digest : Nat
  clk : Nat           -- root time (0.125 ns) at which it was taken
  deriving DecidableEq, Repr

/-- Who waits for an approval's response until every scrub has ended (R610). -/
inductive Approver where
  | host (no : Nat)
  | console
  | smbus
  deriving DecidableEq, Repr

/-- The table, key store, proposal holder and scrubber (R588–R613). While scrubs run `table` is what each pavilion may
use and `next` what the commit made; keys are 49-byte compressed SEC1 points, big-endian, 0 for none. -/
structure PavState where
  table   : List (Nat × PavEntry)
  next    : Option (List (Nat × PavEntry))
  scrubs  : List Nat            -- scrubs still running, by code (R611)
  scrubFor : Nat                -- how long they take, in root cycles
  scrubAt  : Nat                -- root time at which the last of them ends
  waiter  : Option Approver
  cust    : Nat
  opKey   : Nat
  cuKey   : Nat
  seq     : Nat
  nonce   : Nat
  pend    : Option Proposal
  deriving DecidableEq, Repr

/-- An entry that owns nothing. -/
def PavEntry.empty : PavEntry :=
  { valid := false, function := 0, columns := 0, units := 0, engines := 0, ports := 0, hbm0 := ⟨0, 0⟩, hbm1 := ⟨0, 0⟩,
    ember0 := ⟨0, 0⟩, ember1 := ⟨0, 0⟩, sbuf0 := ⟨0, 0⟩, sbuf1 := ⟨0, 0⟩, streams := ⟨0, 0⟩, groups := ⟨0, 0⟩,
    reserve := [0, 0, 0, 0, 0, 0, 0, 0], tokens := 0 }

/-! ## Ports, sub-ports and lanes (chapter 03) -/

/-- A sub-port (R121–R147). -/
structure SubPort where
  state   : Nat            -- R121: 0 DISABLED … 8 TEST
  rxRest  : Bool           -- the receive direction rests (R146)
  idRx    : Option Nat     -- ARG of the peer's HELLO_ID in this HELLO
  portRx  : Option Nat     -- ARG of the peer's HELLO_PORT, once its MODE agrees
  ackTx   : Bool
  ackRx   : Bool
  misSeen : Bool           -- HELLO_MISMATCH set in this entry to HELLO (R124)
  peer    : Nat            -- PRT_PEER
  reqSent : Bool           -- REST_REQ sent, neither committed nor abandoned
  wake    : Bool           -- a wake request is held (R147)
  wakeAt  : Nat            -- root time of that request
  sched   : Bool           -- the entry was a scheduled rest action's (R135)
  winEnd  : Nat            -- its SLOT + W
  since   : Nat            -- root time at which ENTERING or EXITING began (R141)
  idle    : Nat            -- slot in which the idle count started over (R136, R137)
  pend    : Option Nat     -- a scheduled rest that waits for the packet in progress: its SLOT + W (R135)
  deriving DecidableEq, Repr

/-- A serial lane (R108, R149–R161). -/
structure Lane where
  sigDet  : Bool
  cdr     : Bool
  sym     : Bool
  chkLock : Bool
  up      : Bool           -- STC lane up (R156)
  peer    : Nat            -- last IDENT received: switch [9:0], site [12:10], lane [19:16]
  acq     : Bool           -- an STC lane that is down has had three K28.5 and then an error-free mark (R156)
  rd      : Bool           -- an STC lane's transmit running disparity, positive where true (R149)
  txBit   : Nat            -- bits of the lane's bit clock that are sent, or taken by what is being sent (R151, R157)
  late    : Nat            -- 0.125 ns by which the last mark began after its slot start (R151)
  gen     : List Bool      -- what the pattern generator sent last, newest first (R157)
  phase   : Nat            -- bits of the user pattern sent since MODE was written (R157)
  hist    : List Bool      -- what the checker took last, newest first (R158)
  run     : Nat            -- bits without error since it searches
  win     : List Bool      -- errors among the last 1,024 bits since it locked
  inj     : Nat            -- bits still to invert in what the lane sends next (R159)
  injAt   : Nat            -- bit of the lane's bit clock that rate mode inverted last, or its start (R159)
  deriving DecidableEq, Repr

/-! ## Streams and L-port replay (chapter 11) -/

/-- A copy the replay engine keeps, or resends (R455, R459). -/
structure Copy where
  lseq    : Nat
  pkt     : Pkt
  stomped : Bool
  ingress : Nat          -- egress number of the sub-port it came in through
  deriving DecidableEq, Repr

/-- The replay engine of one L-port, both directions (R455–R461). DESIGN CHOICE: log 74. -/
structure LRep where
  next    : Nat          -- LSEQ of the next packet started
  acked   : Nat          -- last ACC the peer acknowledged
  copies  : List Copy    -- unacknowledged, oldest first
  acc     : Nat
  recover : Bool
  skip    : Nat          -- duplicates still to discard after a REPLAY
  nak     : Bool         -- a NAK is owed
  reqs    : List (List Byte) -- RESET_REQ payloads that are owed (R458)
  since   : Nat          -- root time from which the wait of R459 counts: an ACK advanced, or the first copy was made
  deriving DecidableEq, Repr

/-- An accepted stream command that waits for its slot (R439): 0 open, 1 pause, 2 resume, 3 reset, 4 close. -/
structure StrCmd where
  stream : Nat
  kind   : Nat
  slot   : Nat
  step0  : Nat
  data   : List Nat       -- the parameter block of an open, by DATA word
  no     : Nat            -- the command, by its number among those taken
  deriving DecidableEq, Repr

/-- A stream entry (R412, R440–R454). -/
structure Stream where
  data    : List Nat           -- STR_TBL_DATA0–DATA7
  state   : Nat                -- 0 CLOSED, 1 RUN, 2 RESET_PENDING, 3 PAUSED, 4 AWAIT_RESET, 5 DIVERGED
  resume  : Nat                -- state to return to from PAUSED
  step    : Nat
  kc      : Nat
  lastReset : Nat
  lastStatus : Nat
  digest  : Nat
  flags   : Nat                -- flag word of the current step (R427)
  status  : Nat                -- status of the current step so far
  noUpd   : Bool               -- the current step's update is skipped
  acted   : Bool               -- the current step's SEND or DECODE has fired
  got     : List (Nat × Pkt × Nat) -- chunks of the current step accepted: index, packet and fabric time
  rbit    : Bool               -- an accepted packet of the current step carried R = 1
  missing : List (Nat × List Nat) -- chunks missing at the DECODE of earlier steps (R452)
  detect  : Option (Nat × Nat × List Nat) -- step, cause and chunks of the first detection (R441)
  hist    : List Nat           -- steps in the raw history, newest first (R451)
  rawQ    : List (Nat × Nat)   -- raw queue: step and chunk
  rawSent : List (Nat × Nat)   -- raw chunks queued or sent, of steps still in the history
  fired   : Nat                -- CCLK cycle in which the latest action of the stream fired
  reqAt   : Option Nat         -- CCLK cycle in which a RESET_REQ took a sender from RUN to RESET_PENDING
  uFired  : Nat                -- CCLK cycle in which the action of the update in progress fired (R573)
  uFlags  : Nat                -- flag word of its step so far (R427)
  wset    : Nat                -- weight-set address of the update in progress, 64 B units
  uStep   : Nat                -- its step
  upd     : Nat                -- 0 no update; 1–3 that launch is under way, 4 the VEC launch; 10 + n: it has completed
  updAt   : Nat                -- MCLK cycle in which it completed
  pageIn  : Option Nat         -- MCLK cycle in which the page-in of the current step ends or ended
  wbDone  : Bool               -- write-back complete
  l3Done  : Bool               -- launch 3 complete
  deriving DecidableEq, Repr

/-- A page move of the Ember pager (R481, R483). -/
structure PageMove where
  stream : Nat
  out    : Bool                -- write-back, else page-in
  reset  : Bool                -- page-in of a reset step writes +0
  from_  : Nat                 -- MCLK cycle from which it may start
  stop   : Nat                 -- MCLK cycle in which it ends
  tail   : Option Nat          -- a write-back whose stream has begun its next update: the flag word of the update it ends (R484)
  deriving DecidableEq, Repr

/-! ## The packet path (chapters 04–06) -/

/-- An owner entry of one pool (R214, R221, R238). -/
structure Owner where
  rmin  : Nat
  smax  : Nat
  hrsv  : Nat
  hshr  : Nat
  nobuf : Nat
  deriving DecidableEq, Repr

/-- A buffer pool of one core die: its free ring (head first), the handle caches by allocator port, the in-use map, the
buffers out of circulation (R236), the handles whose stored copy fails its parity (R657), and FREE (R221). Handles are buffer
indices. -/
structure Pool where
  ring    : List Nat
  caches  : List (Nat × List Nat)
  inUse   : List Nat
  removed : List Nat
  bad     : List Nat
  free    : Nat
  deriving DecidableEq, Repr

/-- Where a waiting unscheduled packet may go: the members of a path group, or one egress (R178). -/
inductive Hop where
  | group (pg : Nat)
  | egr (e : Nat)
  | unit
  deriving DecidableEq, Repr

/-- An unscheduled packet, or S-port frame, held in pool buffers. Times are root times of 0.125 ns.
DESIGN CHOICE: log 14. -/
structure Held where
  id      : Nat
  pkt     : Pkt
  eth     : List Byte      -- an S-port frame's bytes, else empty
  ingress : Nat            -- as RTE_LASTDROP0.INGRESS
  die     : Nat
  pool    : Nat
  handles : List Nat
  owner   : Nat
  vcIn    : Nat            -- VC on its ingress link, whose credits return
  born    : Nat
  endAt   : Nat            -- end of the packet on its ingress link
  rate    : Nat            -- ingress rate in Gb/s, 0 where a unit of the K8 made it
  ready   : Nat            -- once granted: when its first flit reaches the egress
  damaged : Bool           -- its trailer will leave stomped (R170)
  cause   : Nat            -- the code of R201 it was damaged with on arrival, counted when it has left; else 0
  hop     : Hop
  deriving DecidableEq, Repr

/-- A scheduled packet on its way to, or staged at, an egress (R205, R248): its due instant in root time. -/
structure Staged where
  pkt     : Pkt
  egr     : Nat
  due     : Nat
  stomped : Bool
  cause   : Nat            -- as Held.cause
  ingress : Nat
  deriving DecidableEq, Repr

/-- What an egress is sending. -/
inductive Sending where
  | sched (p : Staged)
  | link (p : Pkt)
  | queued (q : Nat) (h : Held)
  | resent (c : Copy)
  | mac
  deriving DecidableEq, Repr

/-- One egress sub-port (R185–R198, R245–R254). -/
structure Egress where
  queues  : List (List Held)       -- Q0–Q7, head first
  tokens  : List Int               -- Q0–Q2, units of 1/12,800 B
  tokClk  : Nat                    -- PCLK cycle (root time / 5) to which the tokens are counted
  ptr     : Nat                    -- the round pointer, 3–7
  deficit : List Nat               -- Q3–Q7
  visited : List Bool              -- Q3–Q7
  sending : Option (Sending × Nat) -- and the root time at which its last bit leaves
  freeAt  : Nat                    -- root time from which the next packet may start: 8 B of idle after the last (R114)
  idle    : Nat                    -- slot in which the last packet ended (R136)
  staged  : List Staged            -- in order of due cycle
  ready   : List Pkt               -- link-local packets ready to leave (R266)
  resend  : List Copy              -- packets an L-port replays, in order (R459)
  cum     : List Nat               -- the sender's view of CUM0–CUM7
  sent    : List Nat               -- SENT0–SENT7
  rxCum   : List Nat               -- as receiver: CUM0–CUM7
  rxSent  : List Nat               -- as receiver: the values of the last CREDIT packet sent
  owed    : List (Nat × Nat × Nat) -- as receiver: VC, credits and root time of a return to come (R195)
  deriving DecidableEq, Repr

/-- A policer entry (R268–R271); buckets in 1/65,536 B, counted to PCLK cycle `clk`. -/
structure Policer where
  enable : Bool
  ymark  : Bool
  rmark  : Bool
  cir    : Nat
  cbs    : Nat
  ebs    : Nat
  c      : Nat
  e      : Nat
  clk    : Nat
  green  : Nat
  yellow : Nat
  red    : Nat
  deriving DecidableEq, Repr

/-- Pause on one S-port (R272–R277). Instants are in 1/25 of a root time unit; a quanta is 256 of them. -/
structure Pause where
  ends   : List Nat          -- by priority: when its pause ends, 0 where it is not paused
  held   : Option Nat        -- since when a queue has been held, for PAUSED_QUANTA
  part   : Nat               -- 1/256 quanta left over from PAUSED_QUANTA
  txXoff : Nat               -- priorities this port is pausing
  txLast : List Nat          -- when the pause of each priority was last sent
  ctrl   : List (List Byte)  -- MAC Control frames ready to leave
  deriving DecidableEq, Repr

/-- A buffer freed in PCLK cycle `cyc`, which no grant of that cycle sees (R227). -/
structure Freed where
  die    : Nat
  pool   : Nat
  owner  : Nat
  handle : Nat
  cyc    : Nat
  deriving DecidableEq, Repr

/-- What the pool and egress arbiters have done in PCLK cycle `cyc` of fabric time (R187, R222–R224): the allocator ports
(16 × die + port) that have presented a request, the rank served last by 4 × die + pool, the ports that have presented a
selection, the selection served last (2 × rank, and 1 more on C0), and the packets granted, each with its egress. -/
structure Service where
  cyc     : Nat
  asked   : List Nat
  ranks   : List (Nat × Nat)
  picked  : List Nat
  last    : Option Nat
  granted : List (Nat × Held)
  was     : List (Nat × Nat)   -- route entries and queue maps that this cycle has changed, as they stood at its start (R189, R242)
  deriving DecidableEq, Repr

/-- The packet path. Tables and BPM registers that software reads are registers or entries here. -/
structure Route where
  endpoint : List (Nat × Nat)      -- DATA0 of each endpoint entry (R178)
  switch   : List (Nat × Nat)
  site     : List (Nat × Nat)
  group    : List (Nat × Nat)      -- path-group members
  dir      : List (Nat × Nat)      -- port directions
  pgPtr    : List (Nat × Nat)      -- rotating pointers (R185)
  wait     : List Held             -- packets that wait for an egress, oldest first
  units    : List Held             -- packets a unit of the K8 or the host die has yet to read (R228)
  own      : List (Pkt × Option Held) -- packets the K8 has sent to a unit of its own
  transit  : List Staged           -- scheduled packets not yet staged
  egress   : List (Nat × Egress)   -- by egress reference
  flows    : List (Nat × Nat)      -- next SEQ of the K8's own flows (R200)
  nextId   : Nat
  pools    : List (Nat × Pool)     -- by 4 × die + pool
  frees    : List Freed            -- frees not yet applied (R227)
  service  : Service
  turns    : List (Nat × Nat)      -- the ingress an allocator port (16 × die + port) presented last (R187, R223)
  owners   : List (Nat × Owner)    -- by 2,048 × die + 4 × owner + pool
  pol      : List (Nat × Policer)
  cal      : List (Nat × Nat)      -- calendar runs by index: OFFSET + 2^24 × LEN + 2^40 × EGR
  pause    : List (Nat × Pause)    -- by S-port
  deriving DecidableEq, Repr

/-! ## Schedule (chapter 13) -/

/-- An action in a bandstand queue, with its absolute slot, its iteration, and whether it was appended after its firing
cycle (R61). DEDUCED: log 46. -/
structure QAction where
  act  : Action
  slot : Nat
  iter : Nat
  late : Bool
  deriving DecidableEq, Repr

/-- The schedule of the loaded image (R515–R517) and the bandstands (R58–R61). -/
structure Sched where
  launched : Bool
  start    : Nat
  iters    : Nat              -- 0: until stopped
  stop     : Option Nat       -- STOP_SLOT of an accepted stop
  stoppers : List Nat         -- the stop commands that wait, by their numbers
  desync   : Bool
  q0 : List QAction           -- C0's bandstand queue
  q1 : List QAction
  pos0 : Nat                  -- actions the refill engine has taken from C0's list, over all iterations
  pos1 : Nat
  fired0 : Nat                -- CCLK cycle after the last firing (absolute)
  fired1 : Nat
  fill0  : Nat                -- CCLK cycle of the refill engine's next append on C0 at the earliest (R516)
  fill1  : Nat
  skips  : List (Nat × Nat)   -- slots a step skipped: from, up to
  unload : Bool               -- the image is unloaded when the schedule has ended (R658)
  deriving DecidableEq, Repr

/-! ## Capture, replay and digest (chapter 14) -/

/-- A capture record as it was written, but for its RECSEQ, with the instant it sorts by (R529, R531). -/
structure CapRec where
  slot  : Nat
  cyc   : Nat
  type  : Nat
  port  : Nat
  bytes : List Byte
  trig  : Bool                -- the TRIGGER mark (R536)
  deriving DecidableEq, Repr

/-- The capture engine (R527–R537). -/
structure Cap where
  active    : Bool
  dest      : Nat
  full      : Bool
  egress    : Bool
  sport     : Nat
  armed     : Bool
  triggered : Bool
  pav       : Nat             -- owner of the CAPTURE region
  base      : Nat             -- 40-bit HBM address of the window
  size      : Nat
  wr        : Nat             -- bytes written to the window, over all wraps
  oldest    : Nat             -- the same count for the oldest whole record held
  recs      : List (Nat × Nat) -- records held: position and length in bytes, oldest first
  seq       : Nat             -- next RECSEQ
  level     : Nat             -- bytes in the staging, in 1/5 B
  levelClk  : Nat
  lostRecs  : Nat             -- lost since the last LOSS record
  lostBytes : Nat
  post      : Option Nat      -- bytes that may still follow the trigger
  ending    : Bool            -- recording has ended: nothing but what is staged goes to the window
  filled    : Bool            -- it ended because the window of DEST STOP was full (R533)
  stoppers  : List Nat        -- the capture-stop commands that wait, by their numbers
  frameSeq  : Nat
  group     : List CapRec     -- the records written in SCLK cycle `groupAt`, in order (R531, R537)
  groupAt   : Nat
  groupPos  : Nat             -- `wr` before the first of them
  groupPost : Option Nat      -- `post` before the first of them
  trigEvt   : Bool            -- DET_EVENT.CAP_TRIGGER before the trigger
  deriving DecidableEq, Repr

/-- A digest in progress (R544): its first byte's key, its length and owner, and when it began (`Tim.clk`). -/
structure Digest where
  key   : Nat
  len   : Nat
  pav   : Nat
  start : Nat
  deriving DecidableEq, Repr

/-- The replay engine (R538–R542). -/
structure Replay where
  active   : Bool
  withhold : Bool
  deriving DecidableEq, Repr

/-! ## Compute cells (chapter 08). Cycles are absolute CCLK cycles of fabric time. -/

/-- A compute cell (R312–R341). Cells are keyed 256 × virtual row + virtual column. -/
structure Cell where
  sx    : List Word            -- SX0–SX31
  vx    : List (List Word)     -- VX0–VX15, 16 lanes each
  mask  : List Nat             -- MK0–MK3, bit per lane
  run   : Option Nat           -- the launch it runs
  pos   : Nat                  -- instructions from instruction 0; the program counter is this modulo 256 (R320)
  next  : Nat                  -- cycle from which the next instruction may issue
  avail : List (Nat × Nat)     -- cycle from which a register can be read: SX 0–31, VX 32–47, MK 48–51 (R330)
  last  : List (Nat × Nat)     -- cycle of the last issue, by opcode (R330)
  loops : List (Nat × Nat × Nat) -- innermost first: first position, end position, repeats left (R329)
  inq   : List (Nat × List Word) -- input queue, head first: cycle of entry and lanes
  deriving DecidableEq, Repr

/-- A launch that has started and not completed (R314, R319). -/
structure Run where
  id      : Nat
  l       : Launch
  word7   : Nat                -- iteration index, SX31 (R504)
  sched   : Bool               -- fired by a bandstand
  stream  : Option Nat         -- the stream whose VEC_LAUNCH it is (R419)
  stage   : Option (Nat × Nat) -- the group and the step whose stage program it is (R365, R376)
  slot0   : Nat                -- cycle 0 of its launch slot
  cells   : List Nat           -- cells that have neither halted nor faulted
  flags   : Nat
  fault   : Option (Nat × Nat × Nat × Nat) -- cause, cell, program counter, cycle
  dropped : Nat                -- emissions dropped under R347
  last    : Nat                -- cycle of the last HALT
  deriving DecidableEq, Repr

/-- A flit in the static mesh (R337–R339): the cell it is at, the input it came by (0 injected, 1 from the west, 2 from the
east, 3 from the north, 4 from the south), and whether it waits at the die edge for the bridge. -/
structure Flit where
  dst  : Nat
  at_  : Nat                   -- cell it is at
  dir  : Nat
  edge : Bool
  cyc  : Nat                   -- cycle from which it may move on
  pav  : Nat
  data : List Word
  deriving DecidableEq, Repr

/-- Bytes on their way into a memory: what reads it once fabric time has reached `at_`, the end of the cycle of the write,
finds them, and what reads it before that finds it as it was (R336, R344, R401, R405). Of writes that end together the one of
the higher rank remains: 0 a PUT, 1 the prefetch engine, 2 + `u` matrix unit `u` (R401, R519). A cell's gateway has rank 0. -/
structure Write where
  at_   : Nat
  rank  : Nat
  key   : Nat
  bytes : List Byte
  bad   : List Nat             -- uncorrectable words it brings, by key / 8
  deriving DecidableEq, Repr

/-- A payload on its way through a gateway to a landing entry (R343, R344). -/
structure Deposit where
  cluster : Nat                -- 4 × virtual column + virtual row / 32
  entry   : Nat
  off     : Nat
  bytes   : List Byte
  sched   : Bool
  at_     : Nat                -- cycle at the gateway input
  deriving DecidableEq, Repr

/-- The cells' shared state. Landing entries are keyed 64 × cluster + entry. -/
structure Cel where
  runs    : List Run
  nextRun : Nat
  mesh    : List Flit          -- in order of arrival at their present input
  meshCyc : Nat                -- mesh cycles simulated so far
  counts  : List (Nat × List (Nat × Nat)) -- lines deposited since an entry was armed: cycle and bytes; COUNT is their sum
  pend    : List (Nat × Nat)   -- landing entries whose trigger is pending, and the cycle of the trigger
  queue   : List (Nat × Nat)   -- triggers in the clusters' launch queues (R346), in order
  full    : List Nat           -- landing entries whose pending trigger found its launch queue full, oldest first (R346)
  deps    : List Deposit
  gwTaken : List (Nat × Nat × Nat) -- gateway write cycles: cluster, cycle, and 0 scheduled, 1 unscheduled, 2 FETCH (R344, R519)
  gwFree  : List (Nat × Nat)   -- by cluster: cycle from which the post queue's head can start
  posts   : List (Nat × Nat)   -- posted commands: cluster and the cycle in which each starts
  first   : Option (Nat × Nat × Nat) -- the recorded fault: cycle, column, row (R351)
  deriving DecidableEq, Repr


/-! ## Collectives (chapter 09) -/

/-- A local member of a stage (R354). -/
structure Member where
  child : Bool
  id    : Nat             -- endpoint ID, or the child's switch ID
  grp   : Nat             -- the child's group index
  lo    : Nat             -- RANK_FIRST
  hi    : Nat             -- RANK_LAST
  count : Nat             -- elements contributed per rank, as listed (R357)
  scale : Nat             -- SCALE, FP32
  deriving DecidableEq, Repr

/-- Bytes of a member's stream a stage has accepted, and the buffer that holds them in an unscheduled group (R365). -/
structure Part where
  m     : Nat
  off   : Nat
  bytes : List Byte
  held  : Option Held
  at_   : Nat             -- fabric time (0.125 ns) of acceptance
  first : Nat             -- fabric time of the packet's first header bit (R205)
  deriving DecidableEq, Repr

/-- What decided a failed instance (R373, R376, R377). -/
structure Failure where
  status : Nat
  step   : Nat
  member : Nat
  rank   : Nat            -- ORIGIN_RANK
  switch : Nat            -- ORIGIN_SWITCH
  from_  : Nat            -- the neighbour whose notice it was: 0 none, 1 the parent, 2 + member a child
  flags  : Nat            -- the stage's flag word in that instance
  late   : Nat            -- the members that were late, a bit each
  launch : Bool           -- a scheduled stage's launch action for it is still to come
  up     : Bool           -- its up-send action
  down   : Bool           -- its down-send action
  owed   : Bool           -- its status records are still to be sent
  deriving DecidableEq, Repr

/-- A stage entry and its current instance (R354, R362). -/
structure Group where
  pav : Nat
  unsched : Bool          -- MODE 1
  op : Nat
  reduce : Nat
  inF : Nat
  outF : Nat
  rm : Nat
  bcast : Bool
  seed : Nat
  elems : Nat
  n : Nat
  rankLo : Nat
  rankHi : Nat
  level : Nat
  parent : Option (Nat × Nat)
  srcRank : Nat
  slice : Nat
  segments : Nat
  width : Nat
  rows : Nat
  rowLo : Nat
  rowHi : Nat
  colLo : Nat
  colHi : Nat
  deadline : Nat
  downDeadline : Nat
  msgBase : Nat
  ring : Nat
  members : List Member
  step : Nat              -- step of the current instance
  live : Bool             -- the current instance has started and not completed
  start : Nat             -- its START (R363)
  state : Nat             -- 1 collecting, 2 reducing, 3 sending down, 4 awaiting the down stream
  early : Nat             -- instances that completed before their start action fired
  nextStart : Option Nat  -- the start slot of the next instance, whose start action fired while this one is in progress
  nextMiss : List (Nat × Nat) -- the stage actions of the next instance that were not fired: status and KIND
  prevEnd : Nat           -- slot in which the last instance completed
  cur : List Part         -- in order of acceptance
  nxt : List Part         -- the next instance's (R362)
  nxtFail : Option Failure -- a notice for the next instance
  reached : List Nat      -- members whose lag has been taken in this instance
  result : Option (List Byte) -- the stage's partial; at the root the rounded result
  flags : Nat
  downFired : Bool
  down : List Host.Cell   -- down stream received
  got : List (Nat × Nat)  -- its byte ranges, from and to, in rising order and apart
  gotAt : Nat             -- fabric time of acceptance of the last packet that brought new bytes of it
  nxtDown : List Host.Cell -- the next instance's (R362)
  nxtGot : List (Nat × Nat)
  nxtGotAt : Nat
  sent : List (Nat × List (Nat × Nat)) -- by member, the byte ranges of its part sent to it
  outBy : List (Nat × Nat) -- by endpoint member, the root cycle by which its last RESULT packet is out (R373)
  fails : List Failure    -- the instances that failed and whose actions are still to come, oldest first (R377)
  lastStatus : Nat
  lateMap : Nat
  lastFail : Nat          -- COL_LAST_FAIL
  lag : List (Nat × Nat)  -- cumulative lag by member (R382)
  hist : List (Nat × Nat) -- by 16 × member + bin
  deriving DecidableEq, Repr


/-! ## Matrix units, tokens and HBM engines (chapters 10, 12 and 13). MCLK cycles are absolute. -/

/-- A launch on a matrix unit, from its firing to its completion (R402–R409). -/
structure MxuRun where
  desc    : List Nat           -- the 32 words of its descriptor (R506)
  step    : Nat                -- STEP it uses (R504)
  stream  : Option (Nat × Nat) -- the stream whose update it is, and launch 1–3 (R418)
  t0      : Nat                -- MCLK cycle of its start (R404)
  started : Bool
  stall   : Nat                -- HBM stall cycles so far (R394)
  engine  : Option Nat         -- the HBM gather engine of its prologue
  bound   : Option Nat         -- the stall cycles its rows may cause in all, where a gather window bounds them (R486, R487)
  rows    : List (List (Nat × Nat × List Byte)) -- from its start: by output row, the tile, key and bytes of each write
  stats   : List (Nat × List Byte) -- and the statistics record of each row
  rowFl   : List Nat           -- and its flags
  bad     : Bool               -- a word it reads is uncorrectable (R409)
  acc     : List (List Nat)    -- accumulators it keeps (R389)
  deriving DecidableEq, Repr

/-- A matrix unit: its launch, and held accumulators with their M and N (R389, R390). -/
structure Mxu where
  run  : Option MxuRun
  held : Option (Nat × Nat × List (List Nat))
  deriving DecidableEq, Repr

/-- A power token held (R497): by unit or gather engine `unit`, from CCLK cycle `since`; `until_` is the fabric time from which a
released one is available again (R499). -/
structure Token where
  pav    : Nat
  unit   : Nat
  engine : Bool
  since  : Nat
  until_ : Option Nat
  deriving DecidableEq, Repr

/-- A prefetch in a die's queue (R472–R475). -/
structure PfJob where
  rec_  : PfRec
  pav   : Nat
  bound : Nat                  -- MCLK cycle of its completion bound
  deriving DecidableEq, Repr

/-- A gather request in a die's queue (R489–R491). -/
structure GReq where
  table : Nat
  msg   : Nat
  src   : Nat
  rows  : List Nat
  deriving DecidableEq, Repr


/-! ## The management port (chapter 19) -/

/-- The management island (R671–R693). -/
structure Mgt where
  fifo      : List Byte          -- the 64 B receive FIFO (R678)
  line      : List Byte          -- the console line being typed, with its CR or LF once it is complete
  relayLine : List Byte          -- the line a relayed session feeds
  relay     : Option (Nat × Bool) -- relay session: its STC lane, and whether it was opened here
  relayOut  : List (Nat × Nat × List Byte) -- relay frames that wait to be sent: STC lane, TYPE, payload
  smbStatus : Nat                -- LAST_STATUS (R682)
  approving : Bool               -- an approval from the management port is outstanding (R680)
  alertSeen : Nat                -- MGT_EVENT bits that stood when the Alert Response Address was answered (R684)
  tapIr     : Nat                -- TAP instruction register
  hot       : List Nat           -- sensors whose last reading was at or above TRIP, monitors whose last one was outside its window
  warn      : Bool               -- a temperature warning stands (R691)
  warned    : List Nat           -- sensors whose last reading was at or above WARN
  lastWr    : Nat × Nat × Nat    -- the last register write of a management path: register, root time, place in R673's order
  deriving DecidableEq, Repr

/-! ## What the block sends out -/

/-- The output pins the model shows. -/
inductive Pin where
  | ppsOut | thermTripN | smbAlertN | vid
  deriving DecidableEq, Repr

/-- What the transmitter of a lane drives (R121, R126, R132, R141, R157, R160, R689). -/
inductive LaneTx where
  | electricalIdle | remoteFault | training | idle | mission | pattern | peer | boundary
  deriving DecidableEq, Repr

/-- One thing the block sends to the outside. DESIGN CHOICE: log 15. -/
inductive Emit where
  /-- a K8 ordered set on a sub-port: its KIND and 56-bit body (R127, R128) -/
  | os (port sub kind body : Nat)
  /-- bits inverted at a lane's serializer input (R159) -/
  | invert (lane bits : Nat)
  /-- K28.5 fill of an STC lane from bit `at_` of its bit clock on, of which the first `inv` bits are inverted (R150, R151, R159) -/
  | fill (lane at_ bits inv : Nat)
  /-- a time mark on an STC lane: the 14-byte phase word, the bit of the lane's bit clock at which K28.1 begins, and the symbols
  that leave, a K28.5 after them (R67, R150, R151, R153) -/
  | mark (lane at_ : Nat) (word : List Byte) (codes : List Nat)
  /-- an STC control frame, likewise (R152) -/
  | frame (lane at_ : Nat) (bytes : List Byte) (codes : List Nat)
  /-- an STC frame ended by K30.7, likewise (R154) -/
  | frameAbort (lane at_ : Nat) (codes : List Nat)
  /-- `bits` bits of a pattern that follow `hist` and `phase`, each flipped where `flip`, the first `inv` inverted (R157, R159) -/
  | pattern (lane at_ mode user : Nat) (hist : List Bool) (phase bits : Nat) (flip : Bool) (inv : Nat)
  /-- received bits sent on by a far-end loopback (R160) -/
  | retimed (lane : Nat) (bits : List Bool)
  /-- a KFP packet on an egress reference; `stomped` tells how its trailer leaves (R169, R170) -/
  | pkt (egr : Nat) (p : Pkt) (stomped : Bool)
  /-- an Ethernet frame on an S-port, without preamble and FCS (R115) -/
  | eth (port : Nat) (bytes : List Byte)
  /-- a completion or OVERFLOW record written to entry `idx` of a CQ, at the host address `addr` (R549, R572, R574) -/
  | cqe (fn cq idx addr : Nat) (bytes : List Byte)
  /-- entry `idx` of an SQ read at the host address `addr` (R549, R557) -/
  | fetch (fn sq idx addr : Nat)
  /-- bytes written to host memory by DMA -/
  | dma (addr : Nat) (bytes : List Byte)
  /-- an MSI-X message: the address and the data of the vector's table entry (R580) -/
  | msix (fn vec addr : Nat) (data : Word)
  /-- an output pin driven -/
  | pin (p : Pin) (v : Nat)
  /-- bytes sent on the UART -/
  | uart (bytes : List Byte)
  /-- what an SMBus read returns, or none for a NACK -/
  | smbus (bytes : Option (List Byte))
  /-- the data register shifted out of the TAP -/
  | tap (value : Nat)
  /-- the value a register read returns on a path -/
  | regRead (p : Path) (off : Nat) (v : Word)
  deriving DecidableEq, Repr

/-- No command of this block stops with a fault: the spec gives every command an effect, so the type has no member.
DEDUCED: log 17. -/
inductive Fault where
  deriving DecidableEq, Repr

/-- Why a command is refused by the model. DEDUCED: log 17. -/
inductive Refusal where
  /-- Raised only by the dispatcher, for a command that has no meaning yet; safe: the run stops. -/
  | notModelled (mnemonic : String)
  deriving DecidableEq, Repr

/-- The whole state of the block: what the spec gives it, the queue of waiting commands, and two fields of the model's
own: `free` numbers the free values taken so far, and `out` lists what the block has sent out, newest first. -/
structure State where
  /-- Registers by BAR0 offset (a VF's page from 0x1000_0000); one not listed holds its reset value. -/
  regs : List (Nat × Word)
  /-- High-word latches by 2^32 × path + offset of the low word (R724). -/
  latch : List (Nat × Word)
  /-- Root time at which the operation of a table's CMD register ends and its BUSY falls, by offset (R208). -/
  busy : List (Nat × Nat)
  recent : Recent
  fuse : Fuse
  boot : Boot
  /-- The serial flash (R623, R624): 32 MiB by byte address. -/
  flash : List Host.Cell
  tim  : Tim
  hif  : Hif
  log  : LogState
  pav  : PavState
  /-- Sub-ports by 8 × port index + sub-port. -/
  subs : List (Nat × SubPort)
  /-- Lanes by lane index (R108). -/
  lanes : List (Nat × Lane)
  /-- Replay engines by L-port. -/
  lrep : List (Nat × LRep)
  streams : List (Nat × Stream)
  strCmds : List StrCmd
  /-- Ember pager queues of C0 and C1, head in progress. -/
  pager0 : List PageMove
  pager1 : List PageMove
  rte  : Route
  sched : Sched
  cap  : Cap
  rpl  : Replay
  /-- A digest in progress (R544). -/
  digest : Option Digest
  cells : List (Nat × Cell)
  cel  : Cel
  /-- Valid group entries by index. -/
  groups : List (Nat × Group)
  mxu  : List (Nat × Mxu)
  tokens : List Token
  /-- Prefetch queues of C0 and C1, head in progress. -/
  pf0 : List PfJob
  pf1 : List PfJob
  /-- Gather request queues of C0 and C1. -/
  greq0 : List GReq
  greq1 : List GReq
  /-- By gather engine, the request it serves (R491). -/
  gheld : List (Nat × GReq)
  /-- Gather table: DATA0, DATA1 and DATA2 of an entry as one number (R488). -/
  gtbl : List (Nat × Nat)
  /-- Gather windows: DATA0 and DATA1 as one number (R486). -/
  gwin : List (Nat × Nat)
  /-- The loaded image: its stores of actions, launch records, descriptors, prefetch records, templates, weight sets and
  PLACE ranges (R502, R513). -/
  img : Option Image
  /-- An image load that has passed its checks and is being written (R513). -/
  loading : Option (Nat × Image)
  /-- The on-chip and HBM memories (R462) as one sparse memory, by `tierKey`. -/
  mem : List Host.Cell
  /-- Writes that have not ended, in the order in which they end (R336, R401, R405). -/
  writes : List Write
  /-- 64-bit words that hold an uncorrectable pattern (R492, R657), by key / 8. -/
  poison : List Nat
  /-- 64-bit words that hold a single-bit error (R349, R409, R492, R657), by key / 8. -/
  soft : List Nat
  /-- The MEM region table: by index, DATA0, DATA1 and DATA2 as one number (R466). -/
  regions : List (Nat × Nat)
  mgt : Mgt
  /-- What the block has sent to the outside, newest first (the model's own record). -/
  out : List Emit
  /-- How many free values have been taken (the model's own counter). -/
  free : Nat
  /-- The commands that wait, first in, first out. -/
  pending : List Instr
  deriving DecidableEq, Repr

/-- The machine in cold reset, before COLD_RESET_RELEASE (R616, R726). DESIGN CHOICE: log 3, 4, 5, 6. -/
def State.reset : State := {
  regs := [], latch := [], busy := [], recent := ⟨0, [], [], []⟩,
  fuse := { asm := 0, grade := 0, mask0 := 0, mask1 := 0, crcOk := true, format := 1, rev := 0, dieMask := 0x33017F,
            resrc := 0x06020840, hbm := 0x00600004, serial := 0, vid0 := 10, vid1 := 10, owner := 0 },
  boot := { vsb := true, pwrOk := false, rstN := false, perstN := false, stage := 0, error := 0, copy := none, cause := 0,
            warmCount := 0, warm := false, warmAt := 0, fuseDone := false, fuseOk := false, copyA := ⟨0, 0, 0⟩, copyB := ⟨0, 0, 0⟩,
            fwver := 0, config := [], ignored := 0, flBusy := none, flErr := false, flAt := 0, flPf := false, fpBusy := none, fpErr := false,
            vidDriven := false },
  flash := [],
  tim := { lock := false, refclkOk := false, freqInOk := false, freqIn := 0, lost := false, now := 0, clk := 0, slot := 0,
           state := 0, rootMode := false, sel := 63, advHops := 31, withhold := true, held := true, corr := 0, resid0 := 0,
           residClk := 0, slewTot := 0, holdUnc := 0, holdClk := 0, srcs := [], facq := none, loadPend := false,
           rep0 := 0, rep1 := 0, ppsPrev := none, ppsOut := false, ppsLast := none, ppsFall := 0,
           ppsNext := 0, ltSeq := [] },
  hif := { linkUp := false, flit := false, rate := 0, width := 0, training := false, numVf := 0, sqs := [], cqs := [],
           taken := [], msixOpen := [], msixPend := [], nextTake := 0, turnFn := 0, turnSq := [] },
  log := { queue := [], ring := [], bad := [], wrSeq := 0, drainSeq := 0, fatal := false, cause := 0, stalled := [], retries := [],
           nextWrite := 0, drainAt := 0, drainWas := 0, drainTo := 0 },
  pav := { table := [(0, { PavEntry.empty with valid := true })], next := none, scrubs := [], scrubFor := 0, scrubAt := 0, waiter := none, cust := 0,
           opKey := 0, cuKey := 0, seq := 0, nonce := 0, pend := none },
  subs := [], lanes := [],
  lrep := [], streams := [], strCmds := [], pager0 := [], pager1 := [],
  rte := { endpoint := [], switch := [], site := [], group := [], dir := [], pgPtr := [], wait := [], units := [],
           own := [], transit := [], egress := [], flows := [], nextId := 0, pools := [], frees := [],
           service := ⟨0, [], [], [], none, [], []⟩, turns := [], owners := [], pol := [], cal := [],
           pause := [] },
  sched := { launched := false, start := 0, iters := 0, stop := none, stoppers := [], desync := false, q0 := [], q1 := [],
             pos0 := 0, pos1 := 0, fired0 := 0, fired1 := 0, fill0 := 0, fill1 := 0, skips := [], unload := false },
  cap := { active := false, dest := 0, full := false, egress := false, sport := 0, armed := false, triggered := false,
           pav := 0, base := 0, size := 0, wr := 0, oldest := 0, recs := [], seq := 0, level := 0, levelClk := 0,
           lostRecs := 0, lostBytes := 0, post := none, ending := false, filled := false, stoppers := [], frameSeq := 0,
           group := [], groupAt := 0, groupPos := 0, groupPost := none, trigEvt := false },
  rpl := { active := false, withhold := false },
  digest := none,
  cells := [],
  cel := { runs := [], nextRun := 0, mesh := [], meshCyc := 0, counts := [], pend := [], queue := [], full := [], deps := [], gwTaken := [],
           gwFree := [], posts := [], first := none },
  groups := [],
  mxu := [], tokens := [], pf0 := [], pf1 := [], greq0 := [], greq1 := [], gheld := [], gtbl := [], gwin := [],
  img := none, loading := none, mem := [], writes := [], poison := [], soft := [], regions := [],
  mgt := { fifo := [], line := [], relayLine := [], relay := none, relayOut := [], smbStatus := 0, approving := false, alertSeen := 0,
           tapIr := 0x02, hot := [], warn := false, warned := [], lastWr := (0, 0, 0) },
  out := [], free := 0, pending := [] }

end Sys2Proof.Machine
end

