-- ==== Sys2Proof/Machine/Ops.lean ====
section
/-! DEFINITION. The named operations every family shares: registers, counters, event bits, the event log, host
completions and what is sent out. -/

namespace Sys2Proof.Machine

/-! ## Registers and counters -/

/-- The stored value of the register at BAR0 offset `o`. -/
def State.reg (s : State) (o : Nat) : Word := tblGet regReset s.regs o

/-- The state with `v` stored in the register at offset `o`. -/
def State.setReg (s : State) (o : Nat) (v : Word) : State := { s with regs := tblSet s.regs o v }

/-- Bits `hi` to `lo` of the register at offset `o`, as a number. -/
def State.fld (s : State) (o hi lo : Nat) : Nat := bitsOf (s.reg o).toNat hi lo

/-- Bit `i` of the register at offset `o`. -/
def State.bit (s : State) (o i : Nat) : Bool := bitOf (s.reg o).toNat i

/-- Bits `hi` to `lo` of the register at offset `o` replaced by `v`. -/
def State.setFld (s : State) (o hi lo v : Nat) : State :=
  let x := (s.reg o).toNat
  let m := (2 ^ (hi + 1 - lo) - 1) <<< lo
  s.setReg o (BitVec.ofNat 32 ((x - (x &&& m)) + ((v % 2 ^ (hi + 1 - lo)) <<< lo)))

/-- A 32-bit saturating counter raised by `n`. -/
def State.bump (s : State) (o n : Nat) : State :=
  s.setReg o (BitVec.ofNat 32 (min 0xFFFFFFFF ((s.reg o).toNat + n)))

/-- A 64-bit saturating counter (low word at `o`, high word at `o` + 4) raised by `n`. -/
def State.bump64 (s : State) (o n : Nat) : State :=
  let x := min 0xFFFFFFFFFFFFFFFF ((s.reg o).toNat + (s.reg (o + 4)).toNat * 2 ^ 32 + n)
  (s.setReg o (BitVec.ofNat 32 x)).setReg (o + 4) (BitVec.ofNat 32 (x / 2 ^ 32))

/-- The 16-bit half `h` (0 low, 1 high) of a saturating counter register raised by `n`. -/
def State.bump16 (s : State) (o h n : Nat) : State :=
  let v := min 0xFFFF (s.fld o (16 * h + 15) (16 * h) + n)
  s.setFld o (16 * h + 15) (16 * h) v

/-! ## Time -/

/-- Units of `Tim.now` in a slot: 960 ns of 0.125 ns (R7). DEDUCED: log 10. -/
def slotUnits : Nat := 7680

/-- Fabric time in whole nanoseconds (R6). -/
def State.ns (s : State) : Nat := s.tim.now / 8

/-- The slot fabric time lies in (R7). -/
def State.curSlot (s : State) : Nat := s.tim.now / slotUnits

/-- The CCLK cycle within the slot (R8). -/
def State.curCclk (s : State) : Nat := s.tim.now % slotUnits / 4

/-- Time moved on to `t` (0.125 ns units) where it has not reached it: `clk` counts the root cycles that pass. Without
root lock the counter does not count (R51, R619). DESIGN CHOICE: log 9. -/
def State.advTo (s : State) (t : Nat) : State :=
  if s.tim.lock then
    { s with tim := { s.tim with now := max s.tim.now t, clk := s.tim.clk + (t - s.tim.now) } }
  else s

/-- The root clock is locked and no fatal cause has struck: bandstands, cells and matrix units work (R51, R660). -/
def State.running (s : State) : Bool := s.tim.lock && !s.log.fatal

/-- The host reaches the K8's BARs: after the stages, or in RECOVERY (R621, R635). -/
def State.hostServed (s : State) : Bool := s.boot.stage == 5 || s.boot.stage == 6

/-- The stage is READY: the data path and the command processor run (R618). -/
def State.ready (s : State) : Bool := s.boot.stage == 5

/-- Something is sent out. DESIGN CHOICE: log 15. -/
def State.emit (s : State) (e : Emit) : State := { s with out := e :: s.out }

/-! ## Free values -/

/-- A free value, and the state that has taken it: the spec states no value here. DESIGN CHOICE: log 16. -/
def State.freeWord (s : State) : Word × State := (Config.freeWord s.free, { s with free := s.free + 1 })

/-- A free 64-bit value, and the state that has taken it. DESIGN CHOICE: log 16. -/
def State.freeLong (s : State) : BitVec 64 × State := (Config.freeLong s.free, { s with free := s.free + 1 })

/-! ## Event bits (R16, R582–R584) -/

/-- The key of a dword of a function's MSI-X table, beyond every BAR0 offset. -/
def msixKey (f off : Nat) : Nat := 0x20000000 + 0x10000 * f + off

/-- The message of a vector, with the address and the data of its table entry (R547, R580). PRESUMED: log 22. -/
def State.sendMsix (s : State) (f vec : Nat) : State :=
  let at_ := fun i => s.reg (msixKey f (16 * vec + i))
  s.emit (.msix f vec ((at_ 0).toNat + (at_ 4).toNat * 2 ^ 32) (at_ 8))

/-- An MSI-X vector of a function is raised: a message, or the pending bit where it is masked (R580). -/
def State.raiseVec (s : State) (f vec : Nat) : State :=
  if s.hif.msixOpen.contains (2048 * f + vec) then s.sendMsix f vec
  else { s with hif := { s.hif with msixPend := (2048 * f + vec) :: s.hif.msixPend.filter (· != 2048 * f + vec) } }

/-- Occurrence byte `bit` of the counters at `cnt` raised by 1, saturating at 255 (R584). -/
def State.occur (s : State) (cnt bit : Nat) : State :=
  let o := cnt + 4 * (bit / 4)
  let lo := 8 * (bit % 4)
  s.setFld o (lo + 7) lo (min 255 (s.fld o (lo + 7) lo + 1))

/-- The mark of what happens in one SCLK cycle while the root clock does not count: no cycle of root time bears it. -/
def openCycle : Nat := 2 ^ 64

/-- What hardware has set in the present SCLK cycle, 4 ns of root time (R48). DESIGN CHOICE: log 114. -/
def State.now4 (s : State) : Recent :=
  if (s.tim.lock && s.recent.at_ == s.tim.clk / 32) || s.recent.at_ == openCycle then s.recent else ⟨s.tim.clk / 32, [], [], []⟩

/-- What `f` does, in one SCLK cycle: without root lock SCLK runs on REFCLK, which the model does not count (R51, R620), so the cycle
is that of `f` alone. DESIGN CHOICE: log 114. -/
def State.oneCycle (s : State) (f : State → State) : State :=
  if s.tim.lock || s.recent.at_ == openCycle then f s
  else { f { s with recent := ⟨openCycle, [], [], []⟩ } with recent := s.recent }

/-- Bit `bit` of the W1C register at `ev` has been set in the present SCLK cycle. -/
def State.justSet (s : State) (ev bit : Nat) : Bool := s.now4.bits.contains (ev, bit)

/-- Hardware sets bit `bit` of the W1C register at `ev` in the present SCLK cycle. -/
def State.noteSet (s : State) (ev bit : Nat) : State :=
  if s.justSet ev bit then s else { s with recent := { s.now4 with bits := (ev, bit) :: s.now4.bits } }

/-- Bit `bit` of the W1C register at `ev` set by hardware, and its occurrence counter, where it has one, raised once in a cycle
(R584). -/
def State.setW1c (s : State) (ev bit limit : Nat) : State :=
  let again := s.justSet ev bit
  let s := (s.setReg ev (s.reg ev ||| BitVec.ofNat 32 (2 ^ bit))).noteSet ev bit
  if bit < limit ∧ again = false then s.occur (ev + 4) bit else s

/-- What software has written to the register at `o` in the present SCLK cycle: the values before and after (R725). -/
def State.swWrote (s : State) (o : Nat) : Option (Word × Word) := (s.now4.sw.find? fun x => x.1 == o).map (·.2)

/-- Software has written the register at `o`, whose value was `old`; the first of a cycle's writes keeps its old value. -/
def State.noteSw (s : State) (o : Nat) (old : Word) : State :=
  let was := match s.swWrote o with | some w => w.1 | none => old
  { s with recent := { s.now4 with sw := (o, was, s.reg o) :: s.now4.sw.filter (·.1 != o) } }

/-- Hardware sets the register at `o` to `v`; what software has written in the same SCLK cycle remains (R725). -/
def State.hwReg (s : State) (o : Nat) (v : Word) : State := if (s.swWrote o).isSome then s else s.setReg o v

/-- A fault record of the registers and words `ws`, whose VALID is bit 0 of the register at `o`: `free` records it, else it is kept
for a clear of VALID in the same SCLK cycle (R583). -/
def State.recordFault (s : State) (o : Nat) (free : Bool) (ws : List (Nat × Word)) : State :=
  if free then ((ws.foldl (fun s w => s.setReg w.1 w.2) s).setReg o 1).noteSet o 0
  else { s with recent := { s.now4 with held := s.now4.held ++ [(o, ws)] } }

/-- A bit of HIF_FN_EVENT set on function `f`: it raises the event vector when it goes from 0 to 1, once in a cycle (R582). -/
def State.fnEvt1 (s : State) (f bit : Nat) : State :=
  let o := aHIF_FN_EVENT f
  let was := s.bit o bit
  let s := s.setW1c o bit 8
  if !was && s.bit (aHIF_FN_EVT_VEC f) 31 && !s.justSet o 32 then (s.raiseVec f (s.fld (aHIF_FN_EVT_VEC f) 10 0)).noteSet o 32 else s

/-- HIF_FN_EVENT.BLOCK_EVENT of the PF where block `blk` is enabled in HIF_BLK_IRQ_EN (R582). DEDUCED: log 85. -/
def State.blockEvent (s : State) (blk : Nat) : State :=
  if s.bit aHIF_BLK_IRQ_EN blk then s.fnEvt1 0 7 else s

/-- A bit of a function's HIF_FN_EVENT; HIF is block 3. -/
def State.fnEvt (s : State) (f bit : Nat) : State := s.oneCycle fun s => (s.fnEvt1 f bit).blockEvent 3

/-- How many bits of a block's EVENT registers have an occurrence counter: LNE, RTE and BPM have one counter word. -/
def evtLimit (blk : Nat) : Nat := if blk = 8 ∨ blk = 10 ∨ blk = 11 then 4 else 8

/-- Hardware sets bit `bit` of the EVENT register at `ev` of block `blk` (R582 numbers the blocks). DEDUCED: log 85. -/
def State.evt (s : State) (blk ev bit : Nat) : State := (s.setW1c ev bit (evtLimit blk)).blockEvent blk

/-- A flag word ORed into a sticky FPFLAGS register, each flag with its occurrence counter (R294). -/
def State.orFlags (s : State) (ev flags : Nat) : State :=
  (List.range 8).foldl (fun s k => if bitOf flags k then s.setW1c ev k 8 else s) s

/-! ## The event log (R661–R664) -/

/-- Source die codes of a log entry (R669). DEDUCED: log 94. -/
def dieH : Nat := 8

/-- The port's die as a log source: port dies 2–5, long-haul dies 6 and 7 (R669). DEDUCED: log 94. -/
def portDie (p : Nat) : Nat := if p < 64 then 2 + p / 16 else if p < 80 then 6 + (p - 64) / 8 else 6 + (p - 80) / 2

/-- How many places of the log queue sources have filled: the LOST marker has the 64th place to itself (R662). -/
def queueUsed (q : List LogEntry) : Nat := (q.filter fun e => e.cls != 0x12).length

/-- One more drop counted in a LOST marker that is still queued, or a new marker in the reserved place (R662). -/
def markLost : List LogEntry → Nat → List LogEntry
  | [], t => [⟨t, 0, 0x12, 0, dieH, 0x80, 1, 0, 0, 0⟩]
  | e :: q, t => if e.cls = 0x12 then { e with d0 := e.d0 + 1 } :: q else e :: markLost q t

/-- Where a source stands in the order of one SCLK cycle (R661): its die, then its unit; cells by column and row. The LOST marker is
last. DEDUCED: log 94. -/
def LogEntry.rank (e : LogEntry) : Nat :=
  if e.cls = 0x12 then 2 ^ 64
  else
    let die := if e.src = dieH then 0 else e.src + 1
    let unit := if e.cls = 0x08 then e.d0 % 2 ^ 8 * 2 ^ 16 + e.d0 / 2 ^ 16 % 2 ^ 8
      else if e.cls = 0x06 ∨ e.cls = 0x09 then e.d0 else 0
    die * 2 ^ 33 + unit

/-- An entry offered: of those of one SCLK cycle, which share its TIME, it takes its place by R661; `lock` is whether SCLK counts. -/
def putEntry (lock : Bool) (e : LogEntry) : List LogEntry → List LogEntry
  | [] => [e]
  | x :: q => if lock && x.time == e.time && decide (e.rank < x.rank) then e :: x :: q else x :: putEntry lock e q

/-- The queue without its last entry but for a LOST marker. -/
def dropOffer (q : List LogEntry) : List LogEntry :=
  match q.reverse with
  | [] => []
  | x :: r => if x.cls = 0x12 then (r.drop 1).reverse ++ [x] else r.reverse

/-- Fabric time in ns at the SCLK edge of the present cycle (R663). -/
def State.edgeNs (s : State) : Nat := (s.tim.now - s.tim.clk % 32) / 8

/-- An entry is offered to the log queue; with its 63 places full the last of the cycle's order is dropped and counted (R661–R663).
DEDUCED: log 94. -/
def State.offer (s : State) (cls sub src pav d0 d1 d2 d3 : Nat) : State :=
  let e : LogEntry := ⟨s.edgeNs, 0, cls, sub, src, pav, d0 % 2 ^ 32, d1 % 2 ^ 32, d2 % 2 ^ 32, d3 % 2 ^ 32⟩
  let q := putEntry s.tim.lock e s.log.queue
  if queueUsed s.log.queue < 63 then { s with log := { s.log with queue := q } }
  else
    (({ s with log := { s.log with queue := markLost (dropOffer q) s.edgeNs } }).bump aLOG_DROPPED 1).evt 6 aLOG_EVENT 1

/-- A timing hazard bit of DET_HAZARD is set (R524); DET_EVENT records one that was 0. DEDUCED: log 43. -/
def State.hazard (s : State) (bit : Nat) : State :=
  let was := s.bit aDET_HAZARD bit
  let s := s.setW1c aDET_HAZARD bit 0
  if was then s else s.evt 18 aDET_EVENT 0

/-! ## Completions (R572–R581) -/

/-- A CQ that has not been enabled. -/
def cqInit : CqState := ⟨0, 0, false, false, 0, 0, 0, 0, 0⟩

/-- The CQ at key 256 × function + index. -/
def State.cq (s : State) (f j : Nat) : CqState := tblGet (fun _ => cqInit) s.hif.cqs (256 * f + j)

/-- The state with a CQ replaced. -/
def State.setCq (s : State) (f j : Nat) (c : CqState) : State :=
  { s with hif := { s.hif with cqs := tblSet s.hif.cqs (256 * f + j) c } }

/-- The SQ at key 256 × function + index. -/
def State.sq (s : State) (f i : Nat) : SqState := tblGet (fun _ => ⟨0, 0, false, false⟩) s.hif.sqs (256 * f + i)

/-- The state with an SQ replaced. -/
def State.setSq (s : State) (f i : Nat) (q : SqState) : State :=
  { s with hif := { s.hif with sqs := tblSet s.hif.sqs (256 * f + i) q } }

/-- Entries of a ring whose control register is at `o`: 2^LOG2SIZE (R549). -/
def State.ringSize (s : State) (o : Nat) : Nat := 2 ^ s.fld o 8 4

/-- The host address of a ring, whose BASE registers are at `lo` and the next dword (R549). -/
def State.ringBase (s : State) (lo : Nat) : Nat := (s.reg lo).toNat + (s.reg (lo + 4)).toNat * 2 ^ 32

/-- The CQ is enabled. -/
def State.cqOn (s : State) (f j : Nat) : Bool := s.bit (aCQ_CTRL f j) 0

/-- The head of a CQ as it stood at the start of the SCLK cycle (R576). -/
def State.cqHead (s : State) (f j : Nat) : Nat :=
  let c := s.cq f j
  if s.tim.lock && c.wasAt == s.tim.clk / 32 + 1 then c.was else c.head

/-- Free entries of a CQ (R576). -/
def State.cqFree (s : State) (f j : Nat) : Nat :=
  let sz := s.ringSize (aCQ_CTRL f j)
  sz - 1 - ((s.cq f j).tail + sz - s.cqHead f j) % sz

/-- The CQ raises its vector and clears PENDING and the timer (R581). -/
def State.cqRaise (s : State) (f j : Nat) : State :=
  (s.setCq f j { s.cq f j with pend := 0 }).raiseVec f (s.fld (aCQ_CTRL f j) 26 16)

/-- A CQ whose PENDING has reached COUNT raises its vector; a COUNT of 0 acts as 1 (R581). -/
def State.cqCount (s : State) (f j : Nat) : State :=
  let pend := (s.cq f j).pend
  if s.bit (aCQ_CTRL f j) 1 && decide (pend ≠ 0) && decide (max 1 (s.fld (aCQ_MODER f j) 7 0) ≤ pend) then s.cqRaise f j else s

/-- The 32 little-endian bytes of a completion (R11, R572). -/
def Cpl.bytes (c : Cpl) (phase : Bool) : List Byte :=
  natLe 2 c.id ++ natLe 1 c.type ++ natLe 1 c.status ++ natLe 1 c.sub ++ natLe 1 c.flags ++ natLe 2 c.aux ++ natLe 8 c.value
    ++ natLe 7 c.slot ++ [0] ++ natLe 2 c.cycle ++ natLe 4 c.detail ++ natLe 1 c.sq ++ [if phase then 1 else 0]

/-- One entry written to a CQ: the phase bit, the wrap (R574) and the moderation count (R581). -/
def State.cqWrite (s : State) (f j : Nat) (c : Cpl) : State :=
  let q := s.cq f j
  let sz := s.ringSize (aCQ_CTRL f j)
  let wrap := q.tail + 1 == sz
  let s := s.emit (.cqe f j q.tail (s.ringBase (aCQ_BASE_LO f j) + 32 * q.tail) (c.bytes q.phase))
  let irq := s.bit (aCQ_CTRL f j) 1
  let pend := if irq then min 255 (q.pend + 1) else q.pend
  let first := if irq && q.pend == 0 then s.tim.clk else q.first
  (s.setCq f j { q with tail := if wrap then 0 else q.tail + 1, phase := q.phase != wrap, pend := pend, first := first }).cqCount f j

/-- A write to a CQ failed at PCIe: the CQ is in error until it is disabled and enabled again (R579).
DESIGN CHOICE: log 13. -/
def State.cqFail (s : State) (f j : Nat) : State := (s.setCq f j { s.cq f j with error := true }).fnEvt f 3

/-- PCIe takes the next write to a CQ, where no command says so (R579). DESIGN CHOICE: log 13. -/
def State.cqTakes (s : State) (f j : Nat) : Bool := Config.pcieTakes s.tim.clk (256 * f + j) (s.cq f j).tail

/-- The OVERFLOW record of a CQ that has lost completions and has room (R577, R579). -/
def State.cqOverflow (s : State) (f j : Nat) : State :=
  let q := s.cq f j
  if s.cqOn f j && !q.error && decide (q.lost ≠ 0) && decide (1 ≤ s.cqFree f j) then
    if s.cqTakes f j then
      let s := s.cqWrite f j ⟨0, 5, 0, 0, 0, 0, q.lost, s.curSlot, s.curCclk, 0, 0⟩
      (s.setCq f j { s.cq f j with lost := 0 }).fnEvt f 2
    else s.cqFail f j
  else s

/-- A data-path completion is lost and counted (R577). DEDUCED: log 83. -/
def State.cqLose (s : State) (f j : Nat) : State :=
  let s := s.setCq f j { s.cq f j with lost := (s.cq f j).lost + 1 }
  (((s.bump (aCQ_LOST f j) 1).bump aHIF_CPL_LOST 1).bump (aHIF_FN_LOST f) 1).fnEvt f 5

/-- A CQ can take a completion of TYPE 0–4: enabled, not in error, and two entries free (R576). -/
def State.cqRoom (s : State) (f j : Nat) : Bool := s.cqOn f j && !(s.cq f j).error && decide (2 ≤ s.cqFree f j)

/-- A completion of TYPE 1–4 is posted to the ring COMP_RING names; 0xFFFF asks for none (R575–R577). `ok` is whether
PCIe took the write. -/
def State.postData (s : State) (ring : Nat) (c : Cpl) (ok : Bool) : State :=
  if ring = 0xFFFF then s
  else
    let f := ring / 256 % 64
    let j := ring % 256
    let s := s.cqOverflow f j
    if s.cqRoom f j then (if ok then s.cqWrite f j c else s.cqFail f j) else s.cqLose f j

/-- PCIe takes the next write to the CQ that a COMP_RING names, where no command says so. -/
def State.ringTakes (s : State) (ring : Nat) : Bool := s.cqTakes (ring / 256 % 64) (ring % 256)

/-- A completion of TYPE 1–4 whose write no command speaks of. DESIGN CHOICE: log 13. -/
def State.postFree (s : State) (ring : Nat) (c : Cpl) : State := s.postData ring c (s.ringTakes ring)

/-- The entry is that of one command (function, SQ and CID). -/
def isTaken (f i cid : Nat) (t : Taken) : Bool := t.fn == f && t.sq == i && t.cid == cid

/-- A number that no command taken and not yet completed bears. -/
def State.freshNo (s : State) : Nat := s.hif.taken.foldl (fun m t => max m (t.no + 1)) 1

/-- The number of the command that a descriptor names: of several with its CID, that taken last; 0, which no command bears, where
there is none. -/
def State.noOf (s : State) (d : Desc) : Nat :=
  match s.hif.taken.reverse.find? (isTaken d.fn d.sq d.cid) with | some t => t.no | none => 0

/-- The completion of TYPE 0 for a taken command, as it stands now (R573). -/
def State.cmdCpl (s : State) (t : Taken) (status sub value : Nat) : Cpl :=
  ⟨t.cid, 0, status, sub, 0, (s.sq t.fn t.sq).head, value, s.curSlot, s.curCclk, 0, t.sq⟩

/-- A taken command is completed and gone. -/
def State.dropTaken (s : State) (no : Nat) : State :=
  { s with hif := { s.hif with taken := s.hif.taken.filter fun t => t.no != no } }

/-- The completion of a taken command waits. -/
def State.holdTaken (s : State) (no : Nat) (c : Cpl) : State :=
  { s with hif := { s.hif with taken := s.hif.taken.map fun t => if t.no = no then { t with cpl := some c } else t } }

/-- A taken command completes (R561, R568, R577, R579): a refusal is counted; QUIET drops an OK; a CQ without room, disabled or in
error makes it wait, since it is never lost. `ok` is whether PCIe takes the write. DEDUCED: log 82. -/
def State.cmdDone (s : State) (no status sub value : Nat) (ok : Bool) : State :=
  match s.hif.taken.find? (fun t => t.no == no) with
  | none => s
  | some t =>
    let s := if status = 0 then s else s.bump aHIF_CMD_REFUSED 1
    if t.orphan || (t.quiet && decide (status = 0)) then s.dropTaken no
    else
      let c := s.cmdCpl t status sub value
      let s := s.cqOverflow t.fn t.cq
      if s.cqRoom t.fn t.cq then
        let s := s.dropTaken no
        if ok && t.cplOk then s.cqWrite t.fn t.cq c else s.cqFail t.fn t.cq
      else s.holdTaken no c

/-- A command of the SQ has been taken and has not posted its completion (R560). -/
def State.outstanding (s : State) (f i : Nat) : Bool := s.hif.taken.any fun t => t.fn == f && t.sq == i && !t.orphan

/-- The SQ has a command that could be taken now, as far as is known before its descriptor is read (R553, R555, R559–R563, R577):
FENCED is known of a command that has been found waiting. -/
def State.sqReady (s : State) (f i : Nat) : Bool :=
  let q := s.sq f i
  let cqi := s.fld (aSQ_CTRL f i) 23 16
  s.bit (aSQ_CTRL f i) 0 && !q.error && decide (q.head ≠ q.tail)
    && decide ((s.hif.taken.filter fun t => t.fn == f).length < 64)
    && !(q.fenced && s.outstanding f i)
    && !(s.hif.taken.any fun t => t.fn == f && t.cq == cqi && t.cpl.isSome)

/-- How far the SQ at key `k` is from its turn: functions first, then the SQs of a function (R558). -/
def State.turnKey (s : State) (k : Nat) : Nat :=
  let f := k / 256
  (f + 64 - s.hif.turnFn) % 64 * 256 + (k % 256 + 256 - tblGet (fun _ => 0) s.hif.turnSq f) % 256

/-- The SQ whose command the processor takes next (R558), by its key. -/
def State.turn (s : State) : Option Nat :=
  ((s.hif.sqs.map (·.1)).filter fun k => s.sqReady (k / 256) (k % 256)).foldl
    (fun m k => match m with | none => some k | some b => if s.turnKey k < s.turnKey b then some k else some b) none

/-- A command of this SQ is the next to be taken (R558–R560). DESIGN CHOICE: log 8. -/
def State.takeable (s : State) (d : Desc) : Bool :=
  s.ready && s.sqReady d.fn d.sq && s.turn == some (256 * d.fn + d.sq) && !(d.fence && s.outstanding d.fn d.sq)

/-- Fabric time at which root time reaches `c`. -/
def State.nowAt (s : State) (c : Nat) : Nat := s.tim.now + (c - s.tim.clk)

/-- The descriptor at the head of an SQ is read, from its place in host memory (R549, R557). -/
def State.fetchDesc (s : State) (f i : Nat) : State :=
  s.emit (.fetch f i (s.sq f i).head (s.ringBase (aSQ_BASE_LO f i) + 64 * (s.sq f i).head))

/-- The command at the head of an SQ is taken, 256 ns after the one before it at the earliest (R555, R558, R562).
DESIGN CHOICE: log 12. DEDUCED: log 83. -/
def State.take (s : State) (d : Desc) : State :=
  let s := s.advTo (s.nowAt s.hif.nextTake)
  let s := { s with hif := { s.hif with nextTake := s.tim.clk + 2048, turnFn := (d.fn + 1) % 64,
                                        turnSq := tblSet s.hif.turnSq d.fn ((d.sq + 1) % 256) } }
  let q := s.sq d.fn d.sq
  let sz := s.ringSize (aSQ_CTRL d.fn d.sq)
  let cqi := s.fld (aSQ_CTRL d.fn d.sq) 23 16
  let s := (s.fetchDesc d.fn d.sq).setSq d.fn d.sq { q with head := (q.head + 1) % sz, fenced := false }
  let t : Taken := ⟨s.freshNo, d.fn, d.sq, cqi, d.cid, d.quiet, false, d.cplOk, none⟩
  ({ s with hif := { s.hif with taken := s.hif.taken ++ [t] } }).bump aHIF_CMD_TAKEN 1

/-- A descriptor or parameter-block read failed at PCIe: the SQ stops (R563). -/
def State.sqStop (s : State) (f i : Nat) : State := (s.setSq f i { s.sq f i with error := true }).fnEvt f 1

/-- The command just taken completes with a status and nothing more. -/
def State.cmdEnd (s : State) (d : Desc) (status sub value : Nat) : State := s.cmdDone (s.noOf d) status sub value true

/-- Commands that have waited, by their numbers, complete. -/
def State.cmdsEnd (s : State) (nos : List Nat) : State := nos.foldl (fun s no => s.cmdDone no 0 0 0 true) s

/-- A command that cannot be taken now stays in its queue; one that waits under FENCE shows in SQ_STATUS (R560). -/
def State.untaken (s : State) (d : Desc) : State :=
  if d.fence && s.bit (aSQ_CTRL d.fn d.sq) 0 && s.outstanding d.fn d.sq then
    s.setSq d.fn d.sq { s.sq d.fn d.sq with fenced := true }
  else s

/-- The frame of every host command: it is taken, and the generic statuses are checked before `body` (R563, R566).
`permitted` is the answer of R546 for this command and function. DESIGN CHOICE: log 12. DEDUCED: log 83. -/
def State.hostCmd (s : State) (d : Desc) (permitted : Bool) (body : State → State) : State :=
  if !s.takeable d then s.untaken d
  else if !d.rdOk then (s.fetchDesc d.fn d.sq).sqStop d.fn d.sq
  else
    let t := s.take d
    if !d.rsvOk then t.cmdEnd d 0xF0 0 0
    else if !permitted then t.cmdEnd d 0xF1 0 0
    else body t

/-- WITHHOLD of the present slot: the time unit's, or the records' while replay is active (R541). -/
def State.withheld (s : State) : Bool := if s.rpl.active then s.rpl.withhold else s.tim.withhold

/-- A whole number of units `u` near `x`: exact where `x` is a whole number of them; between two it is a free choice.
DESIGN CHOICE: log 18. -/
def toUnits (x : Int) (u : Nat) : Int := if x % (u : Int) = 0 then x / u else x / u + b2n (Config.roundUp x)

end Sys2Proof.Machine
end

