-- ==== Sys2Proof/Machine/Regs.lean ====
section
/-! DEFINITION. Which accesses reach a register: the units a grade places (R19, R22, R106), the paths' rights (R548, R671,
R672), and the plain write of RW and W1C fields (R16, R18, R583). -/

namespace Sys2Proof.Machine

/-- Sub-ports of a port in its MODE (R111): F-ports 1, 2, 4 or 8; L- and S-ports 1. -/
def subCount (port mode : Nat) : Nat := if port < 64 then 2 ^ min mode 3 else 1

/-- The grade places the port (R106): K8-L has F-ports 0–47, L-ports 0–15 and S-ports 0–3. -/
def portPlaced (grade port : Nat) : Bool :=
  if grade = 1 then decide (port < 48) || (decide (64 ≤ port) && decide (port < 84))
  else decide (port < 64) || (decide (64 ≤ port) && decide (port < 72)) || (decide (80 ≤ port) && decide (port < 82))

/-- The port exists on this part. -/
def State.hasPort (s : State) (port : Nat) : Bool := portPlaced s.fuse.asm port

/-- The port a lane index belongs to, and the lane's number within it; STC lanes have none (R108). -/
def lanePort (i : Nat) : Option (Nat × Nat) :=
  if i < 512 then some (i / 8, i % 8) else if i < 640 then some (64 + (i - 512) / 8, i % 8)
  else if i < 656 then some (80 + (i - 640) / 4, i % 4) else none

/-- The lane exists on this part. -/
def State.hasLane (s : State) (i : Nat) : Bool :=
  match lanePort i with
  | some (p, _) => s.hasPort p
  | none => decide (768 ≤ i) && decide (i < 784)

/-- The L-port exists on this part. -/
def State.hasL (s : State) (l : Nat) : Bool := s.hasPort (64 + l) && decide (l < 16)

/-- HBM stacks placed, as GLB_DIEMASK [23:16] gives them by grade (R22). -/
def hbmPlaced (grade k : Nat) : Bool :=
  if grade = 1 then bitOf 0x77 k else if grade = 2 then bitOf 0xFF k else bitOf 0x33 k

/-- The block of R582's numbering that a BAR0 offset lies in (R720). -/
def blockOf (o : Nat) : Nat :=
  if 0x10000000 ≤ o then 3 else if 0x470000 ≤ o then 20 else if 0x460000 ≤ o then 19 else if 0x450000 ≤ o then 18
  else if 0x440000 ≤ o then 17 else if 0x430000 ≤ o then 16 else if 0x420000 ≤ o then 15 else if 0x410000 ≤ o then 14
  else if 0x400000 ≤ o then 13 else if 0x320000 ≤ o then 12 else if 0x310000 ≤ o then 11 else if 0x300000 ≤ o then 10
  else if 0x200000 ≤ o then 9 else if 0x100000 ≤ o then 8 else if 0x80000 ≤ o then 20 else if 0x70000 ≤ o then 7
  else if 0x60000 ≤ o then 6 else if 0x50000 ≤ o then 5 else if 0x40000 ≤ o then 4 else if 0x30000 ≤ o then 3
  else if 0x20000 ≤ o then 2 else if 0x10000 ≤ o then 1 else 0

/-- The register belongs to a die the grade does not place (R19). -/
def State.absent (s : State) (o : Nat) : Bool :=
  if 0x10000000 ≤ o then false
  else if 0x330000 ≤ o ∧ o < 0x3D8000 then !s.hasPort ((o - 0x330000) / 0x2000)
  else if 0x200000 ≤ o ∧ o < 0x254000 then !s.hasPort ((o - 0x200000) / 0x1000)
  else if 0x100000 ≤ o ∧ o < 0x1C4000 then !s.hasLane ((o - 0x100000) / 0x400)
  else if 0x431000 ≤ o ∧ o < 0x432000 then !s.hasL ((o - 0x431000) / 0x100)
  else if 0x20100 ≤ o ∧ o < 0x20140 then !s.hasL ((o - 0x20100) / 4)
  else if 0x440140 ≤ o ∧ o < 0x440160 then !hbmPlaced s.fuse.asm ((o - 0x440140) / 4)
  else false

/-- The key of the register an access names: a VF's offset lies in its own function page (R548). DEDUCED: log 95. -/
def regKey (p : Path) (off : Nat) : Option Nat :=
  match p with
  | .fn 0 => if off < 0x800000 then some off else none
  | .fn f => if off < 0x8000 ∧ f < 64 then some (fnPage f + off) else none
  | _ => some off

/-- How an access is answered: served, served as an unmapped register, or refused to a management path. -/
inductive Access where
  | served | blank | denied | unpowered
  deriving DecidableEq, Repr

/-- The blocks a management path reads (R671). -/
def mgtReads (o : Nat) : Bool := let b := blockOf o; decide (b ≤ 9) && b != 3

/-- What a management path writes (R671). -/
def mgtWrites (o : Nat) : Bool :=
  blockOf o == 7 || o == aCFG_RESET || o == aCFG_FL_CMD || o == aCFG_FL_ADDR
    || (decide (aCFG_FL_DATA 0 ≤ o) && decide (o ≤ aCFG_FL_DATA 63)) || o == aLOG_VIEW || o == aLOG_DRAIN_ADV

/-- The rights of a path at an offset (a VF has its function page only), with the stage's limits (R548, R635, R644, R671, R672).
DEDUCED: log 32. -/
def State.access (s : State) (p : Path) (o : Nat) (write : Bool) : Access :=
  match p with
  | .fn f =>
    let b := blockOf o
    if 64 ≤ f ∨ (f ≠ 0 ∧ (o < fnPage f ∨ fnPage f + 0x8000 ≤ o)) then .blank
    else if s.boot.stage = 6 then (if b = 0 ∨ b = 1 ∨ b = 5 ∨ b = 7 then .served else .blank)
    else if s.ready then .served
    else if s.boot.warm then (if b ≤ 10 ∨ b = 12 then .served else .blank)
    else .blank
  | _ =>
    if !(if write then mgtWrites o else mgtReads o) then .denied
    else if s.boot.stage = 0 && decide (blockOf o ≠ 7) && decide (blockOf o ≠ 5) then .unpowered
    else .served

/-- An access of path `p` to the register at `o` is served, and the register exists on this part. -/
def State.mayWrite (s : State) (p : Path) (o : Nat) : Bool :=
  decide (s.access p o true = .served) && !s.absent o

/-- The bits of the register at `o` that hardware has set in the present SCLK cycle. -/
def State.setNow (s : State) (o : Nat) : Word :=
  (s.now4.bits.filter fun x => x.1 == o && decide (x.2 < 32)).foldl (fun w x => w ||| BitVec.ofNat 32 (2 ^ x.2)) 0

/-- A register whose bit 0 is the VALID of a fault record that software clears: CEL_FAULT_REC3 and MXU_FAULT_REC2. -/
def faultRecord (o : Nat) : Bool := o == aCEL_FAULT_REC3 || (List.range 8).any fun u => o == aMXU_FAULT_REC2 u

/-- The fault of the present SCLK cycle that found its record held takes it, where a write clears VALID (R583). -/
def State.takeHeld (s : State) (o : Nat) (v : Word) : State :=
  match s.now4.held.find? fun x => faultRecord o && x.1 == o with
  | some x => if bitOf v.toNat 0 && !s.justSet o 0 then s.recordFault o true x.2 else s
  | none => s

/-- A TAP instruction is in effect that takes the lanes from mission control: EXTEST, CLAMP, HIGHZ, EXTEST_PULSE or EXTEST_TRAIN
(R687, R689). -/
def State.tapDrives (s : State) : Bool := [0x00, 0x03, 0x04, 0x05, 0x06].contains s.mgt.tapIr

/-- SMBALERT_N is driven low (R684): an enabled bit of MGT_EVENT is 1 that was not yet 1 at the last alert response. -/
def State.alertLow (s : State) : Bool :=
  ((s.reg aMGT_EVENT).toNat &&& s.fld aMGT_SMB_CFG 15 8) &&& (255 - s.mgt.alertSeen % 256) != 0

/-- The SMBALERT_N pin follows: `was` is whether it was low before. -/
def State.alertPin (s : State) (was : Bool) : State :=
  if was == s.alertLow then s else s.emit (.pin .smbAlertN (b2n was))

/-- An event bit of MGT. -/
def State.mgtEvt (s : State) (bit : Nat) : State := (s.evt 7 aMGT_EVENT bit).alertPin s.alertLow

/-- A launch, or PWR_OK going low, ends an instruction that takes effect only without them: the TAP selects BYPASS (R689).
DEDUCED: log 89. -/
def State.tapLapse (s : State) : State :=
  if s.tapDrives then ({ s with mgt := { s.mgt with tapIr := 0xFF } }).mgtEvt 2 else s

/-- The plain effect of a write: RW bits stored, W1C bits cleared where 1 is written and hardware has not set them in the same
cycle, nothing else (R16, R18, R583). -/
def State.plainWrite (s : State) (o : Nat) (v : Word) : State :=
  match regRow o with
  | none => s
  | some r =>
    let rw := BitVec.ofNat 32 r.rw
    let w1 := BitVec.ofNat 32 r.w1c &&& ~~~s.setNow o
    let old := s.reg o
    (s.setReg o ((old &&& ~~~rw &&& ~~~(w1 &&& v)) ||| (v &&& rw))).takeHeld o v

/-! ## Tables behind a CMD register (R208) -/

/-- BUSY of the table whose CMD register is at `cmd`. -/
def State.tblBusy (s : State) (cmd : Nat) : Bool := decide (s.tim.clk < tblGet (fun _ => 0) s.busy cmd)

/-- An operation of a table: it is done at once, and BUSY stays for a time of at most 256 ns. DESIGN CHOICE: log 107. -/
def State.tblStart (s : State) (cmd : Nat) : State :=
  { s with busy := tblSet s.busy cmd (s.tim.clk + Config.tableTime s.free % 2049), free := s.free + 1 }

/-- A write to a table's CMD register at `cmd`: ignored while BUSY is 1, else stored; with GO and an OP of `op` the operation `go`
follows. -/
def State.tblOp (s : State) (path : Path) (cmd : Nat) (v : Word) (op : Bool) (ignored go : State → State) : State :=
  if !s.mayWrite path cmd then s
  else if s.tblBusy cmd then ignored s
  else
    let s := s.plainWrite cmd v
    if bitOf v.toNat 16 && bitOf v.toNat 20 == op then (go s).tblStart cmd else s

end Sys2Proof.Machine
end

