-- ==== Sys2Proof/Machine/Clock.lean ====
section
/-! DEFINITION. What the time unit computes: sources and their ranking, offsets, uncertainty (R65, R73, R79–R88).
Offsets and uncertainties are held exactly: a fine unit is 1/11,531,520 ns, so that the mean of up to 16 half units of
0.125 ns is whole; an uncertainty unit is 1/(8 × 10^10) of that. -/

namespace Sys2Proof.Machine

/-- Fine units in a nanosecond. -/
def fineNs : Nat := 11531520

/-- Uncertainty units in a fine unit (R84: 0.1 ns/s per 0.125 ns of time). -/
def uncScale : Nat := 80000000000

/-- A signed number of `n` bits (two's complement). -/
def signed (n x : Nat) : Int := if 2 ^ (n - 1) ≤ x % 2 ^ n then (x % 2 ^ n : Int) - 2 ^ n else (x % 2 ^ n : Int)

/-- The `n` low bits of an integer, as a number. -/
def unsigned (n : Nat) (x : Int) : Nat := (x % (2 ^ n : Int)).toNat

/-- A source of which nothing is known. DESIGN CHOICE: log 6. -/
def srcInit : TimeSrc :=
  { up := false, heard := false, missed := 0, state := 0, root := false, hops := 31, unc := 255, samples := [], delay2 := 0,
    delta := 0, lastClk := 0, okAt := false, slewAt := 0 }

/-- The time source of index `i` (R65). -/
def State.src (s : State) (i : Nat) : TimeSrc := tblGet (fun _ => srcInit) s.tim.srcs i

/-- The state with a source replaced. -/
def State.setSrc (s : State) (i : Nat) (x : TimeSrc) : State :=
  { s with tim := { s.tim with srcs := tblSet s.tim.srcs i x } }

/-- A source's lane or port is reported up or down (R79): down, it must be heard again. What it advertised last and its last
measurements (R73) stand. -/
def State.setSrcUp (s : State) (i : Nat) (b : Bool) : State :=
  let x := s.src i
  let s := s.setSrc i (if b then { x with up := true } else { x with up := false, heard := false, missed := 0, okAt := false })
  if b then s
  else match s.tim.facq with
    | some f => if f.src = i then { s with tim := { s.tim with facq := none } } else s
    | none => s

/-- TIM_SRC_PRIO of source `i`. -/
def State.srcPrio (s : State) (i : Nat) : Nat :=
  if i < 32 then s.fld (0x20080 + 4 * (i / 8)) (4 * (i % 8) + 3) (4 * (i % 8)) else s.fld aTIM_SRC_PRIO4 3 0

/-- Misses that make a source invalid (R77, R79). -/
def State.lossCount (s : State) (i : Nat) : Nat := if i = 32 then 3 else s.fld aTIM_LOCK 31 24

/-- A source is valid (R79). -/
def State.srcValid (s : State) (i : Nat) : Bool :=
  let x := s.src i
  (if i = 32 then s.bit aTIM_PPS 0 else x.up) && x.heard && decide (x.missed < s.lossCount i)
    && (x.state == 1 || x.state == 2) && decide (x.hops < 31) && decide (s.srcPrio i ≠ 15)

/-- The ranking key of R80, lowest first, as one number: priority, state, HOPS, UNC, index. -/
def State.srcKey (s : State) (i : Nat) : Nat :=
  let x := s.src i
  (((s.srcPrio i * 2 + (if x.state = 2 then 0 else 1)) * 32 + x.hops) * 256 + x.unc) * 64 + i

/-- The valid source that ranks lowest; 63 where there is none (R80). -/
def State.bestSrc (s : State) : Nat :=
  (List.range 33).foldl (fun b i =>
    if s.srcValid i && (b == 63 || decide (s.srcKey i < s.srcKey b)) then i else b) 63

/-- How many measurements the filtered offset of a source takes (R73); PPS_IN takes the last. -/
def filterLen (i : Nat) : Nat := if i < 16 then 16 else if i < 32 then 8 else 1

/-- The filtered offset of a source in fine units: the mean of its last measurements (R73). DEDUCED: log 41. -/
def State.filtered (s : State) (i : Nat) : Int :=
  let xs := (s.src i).samples
  if xs.length = 0 then 0 else xs.foldl (· + ·) 0 * 720720 / (xs.length : Int)

/-- The slew applied over `d` root cycles at 50 ppm, in fine units (R49, R97). DEDUCED: log 41. -/
def slewed (d : Nat) : Nat := d * 72072 / 1000

/-- The residual offset: the last filtered offset minus the slew applied since (R83); none is left in any state but
LOCKED (R89) nor on a designated root (R81). -/
def State.residual (s : State) : Int :=
  if s.tim.state ≠ 2 ∨ s.tim.rootMode then 0
  else
    let f := s.tim.resid0
    let w := slewed (s.tim.clk - s.tim.residClk)
    if f.natAbs ≤ w then 0 else if 0 < f then f - w else f + w

/-- Slew applied so far, in fine units (R83, R97). -/
def State.slewTotal (s : State) : Int :=
  if s.tim.state ≠ 2 ∨ s.tim.rootMode then s.tim.slewTot else s.tim.slewTot + (s.tim.resid0 - s.residual)

/-- The slew applied so far written down, and the residual offset restarted from what is left of it (R83). -/
def State.settleSlew (s : State) : State :=
  { s with tim := { s.tim with slewTot := s.slewTotal, resid0 := s.residual, residClk := s.tim.clk } }

/-- The residual offset of source `i`: its filtered offset minus the slew applied since its last measurement (R83). -/
def State.follow (s : State) (i : Nat) : State :=
  let s := s.settleSlew
  { s with tim := { s.tim with resid0 := s.filtered i - (s.tim.slewTot - (s.src i).slewAt) } }

/-- The noise floor of a source kind in ns (R65). -/
def noiseFloor (i : Nat) : Nat := if i < 16 then 2 else if i < 32 then 16 else if i = 32 then 8 else 0

/-- Uncertainty in uncertainty units (R83, R84); FREERUN has none to give (R85). -/
def State.unc (s : State) : Nat :=
  if s.tim.state = 2 then
    (if s.tim.rootMode then 0
     else (((s.src s.tim.sel).unc * 4 + noiseFloor s.tim.sel) * fineNs + s.residual.natAbs) * uncScale)
  else
    s.tim.holdUnc * uncScale + s.fld aTIM_HOLD 15 0 * (s.tim.clk - s.tim.holdClk) * fineNs

/-- Uncertainty rounded up to a whole number of `k` ns. -/
def State.uncUp (s : State) (k : Nat) : Nat :=
  let u := k * fineNs * uncScale
  (s.unc + (u - 1)) / u

/-- TIM_UNCERT (R83, R85). -/
def State.uncert (s : State) : Nat := if s.tim.state = 0 then 0xFFFFFFFF else min 0xFFFFFFFE (s.uncUp 1)

/-- The UNC field sent (R67). -/
def State.uncField (s : State) : Nat := if s.tim.state = 0 then 255 else min 255 (s.uncUp 4)

/-- SLEWING (R88): LOCK_THR is in ns. -/
def State.slewing (s : State) : Bool :=
  s.tim.state == 2 && decide (s.fld aTIM_LOCK 15 0 * fineNs < s.residual.natAbs)

/-- PPS_IN is valid and selected: the switch is a PPS primary (R81). -/
def State.ppsPrimary (s : State) : Bool := s.tim.sel == 32 && s.srcValid 32

/-- The switch advertises ROOT (R81). -/
def State.advRoot (s : State) : Bool := s.tim.rootMode || s.ppsPrimary

/-- HOPS the switch advertises (R80, R81). DEDUCED: log 102. -/
def State.hopsOut (s : State) : Nat := if s.ppsPrimary then 0 else s.tim.advHops

/-- TIM_QUALITY. -/
def State.quality (s : State) : Nat :=
  s.tim.sel * 2 ^ 16 + s.hopsOut * 2 ^ 8 + b2n (s.bit aTIM_STEP 0) * 16 + b2n s.withheld * 8
    + b2n s.slewing * 4 + s.tim.state

/-- An entry of class TIME with the source and the uncertainty (R670). -/
def State.logTime (s : State) (sub : Nat) : State := s.offer 0x05 sub dieH 0x80 s.tim.sel s.uncert 0 0

/-- An event bit of TIM. -/
def State.timEvt (s : State) (bit : Nat) : State := s.evt 2 aTIM_EVENT bit

/-- Entry to HOLDOVER with an uncertainty in fine units (R84, R86). -/
def State.toHoldover (s : State) (unc : Nat) : State :=
  let s := s.settleSlew
  let s := { s with tim := { s.tim with state := 1, holdUnc := unc, holdClk := s.tim.clk, facq := none,
                                        loadPend := false } }
  (s.timEvt 1).logTime 3

/-- HOLDOVER at once where no source is valid any more (R79, R86). DEDUCED: log 102. -/
def State.noSource (s : State) : State :=
  if s.tim.state = 2 ∧ ¬s.tim.rootMode ∧ s.bestSrc = 63 then s.toHoldover (s.unc / uncScale) else s

/-- The latch key of a path for a register pair whose low word is at `o` (R724). -/
def latchKey (p : Path) (o : Nat) : Nat :=
  (match p with | .fn f => f | .console => 64 | .smbus => 65 | .tap => 66) * 2 ^ 32 + o

end Sys2Proof.Machine
end

