-- ==== Sys2Proof/Machine/Pav.lean ====
section
/-! DEFINITION. Who owns what: the pavilion table as the units read it (R588–R592, R611). -/

namespace Sys2Proof.Machine

/-- The entry of a pavilion. -/
def pavEntryOf (t : List (Nat × PavEntry)) (p : Nat) : PavEntry := tblGet (fun _ => PavEntry.empty) t p

/-- The entry of a pavilion as the units see it: a resource under scrub is in none (R610). -/
def State.pavEntry (s : State) (p : Nat) : PavEntry := pavEntryOf s.pav.table p

/-- The pavilion whose valid entry satisfies `f`; none where no pavilion does. -/
def State.pavWho (s : State) (f : PavEntry → Bool) : Option Nat :=
  (s.pav.table.find? fun e => e.2.valid && f e.2).map (·.1)

/-- The owner of port index `p`, with all its sub-ports. -/
def State.portPav (s : State) (p : Nat) : Option Nat := s.pavWho fun e => bitOf e.ports p

/-- The owner of a virtual column. -/
def State.columnPav (s : State) (c : Nat) : Option Nat := s.pavWho fun e => bitOf e.columns c

/-- The owner of a matrix unit. -/
def State.unitPav (s : State) (u : Nat) : Option Nat := s.pavWho fun e => bitOf e.units u

/-- The owner of the gather engine of HBM stack `k`. -/
def State.enginePav (s : State) (k : Nat) : Option Nat := s.pavWho fun e => bitOf e.engines k

/-- The pavilion bound to a function: pavilion 0 to the PF (R546, R588). -/
def State.fnPav (s : State) (f : Nat) : Option Nat :=
  if f = 0 then some 0 else s.pavWho fun e => e.function == f

/-- `[a, a + n)` lies within a range counted in units of `u` bytes. -/
def Range.holds (r : Range) (u a n : Nat) : Bool := decide (r.base * u ≤ a) && decide (a + n ≤ (r.base + r.size) * u)

/-- A pavilion owns HBM bytes of a die. -/
def State.ownsHbm (s : State) (p die off n : Nat) : Bool :=
  let e := s.pavEntry p
  e.valid && (if die = 0 then e.hbm0 else e.hbm1).holds 4096 off n

/-- A pavilion owns Ember store bytes of a die. -/
def State.ownsEmber (s : State) (p die a n : Nat) : Bool :=
  let e := s.pavEntry p
  e.valid && (if die = 0 then e.ember0 else e.ember1).holds 64 a n

/-- A pavilion owns scheduled-region bytes of a die. -/
def State.ownsSbuf (s : State) (p die a n : Nat) : Bool :=
  let e := s.pavEntry p
  e.valid && (if die = 0 then e.sbuf0 else e.sbuf1).holds 64 a n

/-- A stream entry is in a pavilion's run. -/
def State.ownsStream (s : State) (p i : Nat) : Bool := (s.pavEntry p).valid && (s.pavEntry p).streams.holds 1 i 1

/-- A group entry is in a pavilion's run. -/
def State.ownsGroup (s : State) (p g : Nat) : Bool := (s.pavEntry p).valid && (s.pavEntry p).groups.holds 1 g 1

/-- A completion ring (256 × function + CQ) belongs to a pavilion (R575); 0xFFFF names none. -/
def State.ownsRing (s : State) (p ring : Nat) : Bool := ring == 0xFFFF || s.fnPav (ring / 256) == some p

end Sys2Proof.Machine
end

