-- ==== Sys2Proof/Machine/Mem.lean ====
section
/-! DEFINITION. The memory tiers (R462), the region table (R464–R468) and uncorrectable words (R492, R657). -/

namespace Sys2Proof.Machine

/-- Keys of the memories: HBM by its 40-bit address, then operand SRAM, Ember store, shared packet buffer, cell SRAM,
instruction stores, instruction buffers and accumulators. -/
def opKey (u a : Nat) : Nat := 2 ^ 40 + u * 2 ^ 24 + a
/-- Ember store of a die (64 MiB). -/
def emberKey (die a : Nat) : Nat := 2 ^ 41 + die * 2 ^ 26 + a
/-- Shared packet buffer of a die (128 MiB). -/
def sbufKey (die a : Nat) : Nat := 2 ^ 42 + die * 2 ^ 27 + a
/-- Data SRAM of a cell (16 KiB); cells are numbered 256 × row + column. -/
def cellKey (cell a : Nat) : Nat := 2 ^ 43 + cell * 2 ^ 14 + a
/-- Instruction store of a cluster (1,024 lines). -/
def istoreKey (cl a : Nat) : Nat := 2 ^ 44 + cl * 2 ^ 16 + a
/-- Instruction buffer of a cell (256 instructions). -/
def ibufKey (cell a : Nat) : Nat := 2 ^ 45 + cell * 2 ^ 11 + a

/-- Accumulators of a matrix unit, as R409 protects them. -/
def accKey (u : Nat) : Nat := 2 ^ 46 + u * 2 ^ 24

/-- Words outside those that the bytes `[k, k + n)` lie in. -/
def outside (k n : Nat) (ws : List Nat) : List Nat := ws.filter fun w => decide (w < k / 8) || decide ((k + n + 7) / 8 ≤ w)

/-- A write ends: the words its bytes lie in are whole again, but for those it brings as uncorrectable. -/
def State.land (s : State) (w : Write) : State :=
  { s with mem := memWrite s.mem w.key w.bytes, poison := w.bad ++ outside w.key w.bytes.length s.poison
           soft := outside w.key w.bytes.length s.soft }

/-- The memories at the present instant: every write that has ended by now has landed (R336, R401). -/
def State.due (s : State) : State :=
  if s.writes.isEmpty then s
  else (s.writes.filter fun w => decide (w.at_ ≤ s.tim.now)).foldl State.land
    { s with writes := s.writes.filter fun w => decide (s.tim.now < w.at_) }

/-- A write put among the others, behind those that end earlier, and those of no higher rank that end with it. -/
def addWrite (w : Write) : List Write → List Write
  | [] => [w]
  | v :: ws =>
    if v.at_ < w.at_ ∨ (v.at_ = w.at_ ∧ v.rank ≤ w.rank) then v :: addWrite w ws else w :: v :: ws

/-- The end of the MCLK cycle that fabric time `t` lies in. -/
def mclkEnd (t : Nat) : Nat := 6 * (t / 6 + 1)

/-- A write that ends at fabric time `at_`. -/
def State.sendWrite (s : State) (at_ rank key : Nat) (bytes : List Byte) (bad : List Nat) : State :=
  { s with writes := addWrite ⟨at_, rank, key, bytes, bad⟩ s.writes }

/-- `n` bytes of a memory, as it stands now. DESIGN CHOICE: log 7. -/
def State.rd (s : State) (k n : Nat) : List Byte := memRead s.due.mem k n

/-- Bytes written to a memory: the words they lie in are whole again. -/
def State.wr (s : State) (k : Nat) (bs : List Byte) : State := s.due.land ⟨0, 0, k, bs, []⟩

/-- The bytes `[lo, hi)` zeroed, with valid check bits (R611). -/
def State.zero (s : State) (lo hi : Nat) : State :=
  let s := s.due
  { s with mem := memClear s.mem lo hi, poison := outside lo (hi - lo) s.poison, soft := outside lo (hi - lo) s.soft }

/-- A word of `[k, k + n)` is uncorrectable. -/
def State.poisoned (s : State) (k n : Nat) : Bool :=
  s.due.poison.any fun w => decide (k / 8 ≤ w) && decide (8 * w < k + n)

/-- The uncorrectable words of `[k, k + n)`. -/
def State.badWords (s : State) (k n : Nat) : List Nat :=
  s.due.poison.filter fun w => decide (k / 8 ≤ w) && decide (8 * w < k + n)

/-- The words of `[k, k + n)` are given an uncorrectable pattern. -/
def State.poisonIt (s : State) (k n : Nat) : State :=
  let s := s.due
  { s with poison := (List.range ((k + n + 7) / 8 - k / 8)).foldl (fun l i =>
      if l.contains (k / 8 + i) then l else (k / 8 + i) :: l) s.poison }

/-- The word at key `k` is given a single-bit error. -/
def State.soften (s : State) (k : Nat) : State :=
  let s := s.due
  { s with soft := if s.soft.contains (k / 8) then s.soft else k / 8 :: s.soft }

/-- How many words of `[k, k + n)` hold a single-bit error. -/
def State.softCount (s : State) (k n : Nat) : Nat :=
  (s.due.soft.filter fun w => decide (k / 8 ≤ w) && decide (8 * w < k + n)).length

/-- The bytes `[k, k + n)` are read: every single-bit error in them is corrected, without added cycles, and counted in the
register of its memory: MEM_HBM_CORR (R492), the unit's MXU_ECC_CORR (R409), CEL_ECC_CORR (R349), or LOG_TBL_CORR for the
structures of R658. DESIGN CHOICE: log 108. -/
def State.correct (s : State) (k n : Nat) : State :=
  let c := s.softCount k n
  if c = 0 then s
  else
    let s := s.due
    let s := { s with soft := outside k n s.soft }
    if k < 2 ^ 40 then s.bump aMEM_HBM_CORR c
    else if k < 2 ^ 41 then (s.bump (aMXU_ECC_CORR ((k - 2 ^ 40) / 2 ^ 24)) c).evt 15 aMXU_EVENT 1
    else if k < 2 ^ 43 then s.bump aLOG_TBL_CORR c
    else if 2 ^ 46 ≤ k then (s.bump (aMXU_ECC_CORR ((k - 2 ^ 46) / 2 ^ 24)) c).evt 15 aMXU_EVENT 1
    else (s.bump aCEL_ECC_CORR c).evt 13 aCEL_EVENT 3

/-- `n` bytes copied from `src` to `dst`, uncorrectable words with them. -/
def State.copyMem (s : State) (src dst n : Nat) : State :=
  let bad := (s.badWords src n).map fun w => dst / 8 + (w - src / 8)
  let t := (s.correct src n).wr dst (s.rd src n)
  if bad.isEmpty then t else { t with poison := bad ++ t.poison }

/-- Bytes of HBM a core die has: 24 GiB for each stack the grade places on it (R464). -/
def hbmBytes (grade : Nat) : Nat := (if grade = 1 then 72 else if grade = 2 then 96 else 48) * 2 ^ 30

/-- Where byte `off` of a die's HBM lies, on a die with `n` stacks: which of them, lowest first, and the byte in it (R464). -/
def hbmStack (n off : Nat) : Nat × Nat := (off / 256 % n, 256 * (off / 256 / n) + off % 256)

/-- One entry of the region table (R466). -/
structure Region where
  valid : Bool
  kind  : Nat
  lport : Nat
  pav   : Nat
  die   : Nat
  base  : Nat
  size  : Nat
  deriving DecidableEq, Repr

/-- The entry that DATA0, DATA1 and DATA2 spell. -/
def regionOf (x : Nat) : Region :=
  ⟨bitOf x 31, bitsOf x 30 29, bitsOf x 27 24, bitsOf x 21 16, bitsOf x 0 0, bitsOf x 58 32, bitsOf x 90 64⟩

/-- DATA0–DATA2 of a region entry. -/
def regionWord (r : RegionSec) : Nat :=
  r.die + r.pav * 2 ^ 16 + r.kind * 2 ^ 29 + 2 ^ 31 + r.base * 2 ^ 32 + r.size * 2 ^ 64

/-- Region entry `i`. -/
def State.region (s : State) (i : Nat) : Region := regionOf (tblGet (fun _ => 0) s.regions i)

/-- `[off, off + n)` of a die lies in this region. -/
def Region.covers (r : Region) (die off n : Nat) : Bool :=
  r.valid && r.die == die && decide (r.base * 4096 ≤ off) && decide (off + n ≤ (r.base + r.size) * 4096)

/-- The region entry of a kind that holds `[off, off + n)` of a die. -/
def State.regionAt (s : State) (kind die off n : Nat) : Option Region :=
  (s.regions.map fun e => regionOf e.2).find? fun r => r.kind == kind && r.covers die off n

/-- A pavilion may read HBM bytes as a TENSOR region it owns (R467, R468, R611). -/
def State.tensorOk (s : State) (p addr n : Nat) : Bool :=
  let die := addr / 2 ^ 39 % 2
  let off := addr % 2 ^ 39
  match s.regionAt 0 die off n with
  | some r => r.pav == p && s.ownsHbm p die off n
  | none => false

/-- A refused memory access is counted and logged with its 40-bit address and reader (R468, R670). -/
def State.memDenied (s : State) (sub addr reader pav : Nat) : State :=
  ((s.bump aMEM_ACCESS_DENIED 1).evt 17 aMEM_EVENT 2).offer 0x0B sub (addr / 2 ^ 39 % 2) pav addr (addr / 2 ^ 32) reader 0

/-- An uncorrectable HBM word is counted and logged (R492). -/
def State.hbmUncorr (s : State) (addr reader pav : Nat) : State :=
  ((s.bump aMEM_HBM_UNCORR 1).evt 17 aMEM_EVENT 7).offer 0x0B 4 (addr / 2 ^ 39 % 2) pav addr (addr / 2 ^ 32) reader 0

/-- Every uncorrectable word of `n` bytes of HBM from `addr` that a reader meets (R492). -/
def State.hbmBad (s : State) (addr n reader pav : Nat) : State :=
  (s.badWords addr n).foldl (fun s w => s.hbmUncorr (8 * w) reader pav) s

/-- Die codes of the log: core die `d` (R669). DEDUCED: log 75. -/
def State.tblFault (s : State) (sub die index addrDie : Nat) : State :=
  ((s.bump aLOG_TBL_UNCORR 1).evt 6 aLOG_EVENT 5).offer 0x10 sub die 0x80 index addrDie 0 0

end Sys2Proof.Machine
end

