-- ==== Sys2Proof/Machine/Calendar.lean ====
section
/-! DEFINITION. The running schedule as the rest of the K8 sees it: when it runs, its iteration, and the reserved slots of
an egress (R262–R265, R516, R517). -/

namespace Sys2Proof.Machine

/-- A schedule runs: it has been launched and fabric time has reached its start slot (R262, R515). -/
def State.schedRunning (s : State) : Bool := s.sched.launched && decide (s.sched.start ≤ s.curSlot)

/-- Slots in a period of the calendar (R262). DEDUCED: log 44. -/
def State.calPeriod (s : State) : Nat := max 1 (s.fld aSCH_CAL_PERIOD 23 0)

/-- Slots in a period of the loaded image (R501, R504). -/
def State.period (s : State) : Nat := match s.img with | some i => max 1 i.period | none => s.calPeriod

/-- The first slot that is no longer the schedule's: STOP_SLOT, or START + ITERS × PERIOD (R517). -/
def State.schedEnd (s : State) : Option Nat :=
  let byIters := if s.sched.iters = 0 then none else some (s.sched.start + s.sched.iters * s.period)
  match s.sched.stop, byIters with
  | some a, some b => some (min a b)
  | some a, none => some a
  | none, b => b

/-- Slot `n` belongs to the schedule. -/
def State.inSchedule (s : State) (n : Nat) : Bool :=
  s.sched.launched && decide (s.sched.start ≤ n) && (match s.schedEnd with | some e => decide (n < e) | none => true)

/-- Iteration index of slot `n` (R504). -/
def State.iterOf (s : State) (n : Nat) : Nat := if s.inSchedule n then (n - s.sched.start) / s.period else 0

/-- The runs of the calendar in use, with their index. DEDUCED: log 44. -/
def State.calRuns (s : State) : List CalRun :=
  let n := min 65536 (s.fld aSCH_CAL_COUNT 16 0)
  (s.rte.cal.filter fun e => decide (e.1 < n)).map fun e => ⟨bitsOf e.2 23 0, bitsOf e.2 39 24, bitsOf e.2 49 40⟩

/-- Slot `n` is reserved on an egress (R262). -/
def State.reserved (s : State) (egr n : Nat) : Bool :=
  s.inSchedule n && (s.calRuns.any fun r =>
    let ph := (n - s.sched.start) % s.calPeriod
    r.egr == egr && decide (r.offset ≤ ph) && decide (ph < r.offset + r.len))

/-- The first reserved slot of one run at or after slot `n`. -/
def State.runNext (s : State) (r : CalRun) (n : Nat) : Nat :=
  if n < s.sched.start then s.sched.start + r.offset
  else
    let ph := (n - s.sched.start) % s.calPeriod
    if ph < r.offset then n + (r.offset - ph) else if ph < r.offset + r.len then n else n + s.calPeriod - ph + r.offset

/-- The first reserved slot of an egress at or after slot `n`, if the schedule reaches one. -/
def State.nextReserved (s : State) (egr n : Nat) : Option Nat :=
  if !s.sched.launched then none
  else
    let c := ((s.calRuns.filter fun r => r.egr == egr && decide (r.len ≠ 0)).map fun r => s.runNext r n).foldl
      (fun m x => match m with | none => some x | some y => some (min x y)) none
    match c with
    | some x => if s.inSchedule x then some x else none
    | none => none

/-- HBM gather engine `k` is masked in a gather window that slot `n` lies in (R486): windows recur as calendar runs do. -/
def State.gwinHas (s : State) (k n : Nat) : Bool :=
  s.inSchedule n && (s.gwin.any fun e =>
    let ph := (n - s.sched.start) % s.calPeriod
    bitOf e.2 (32 + k) && bitsOf e.2 40 40 == k / 4 && decide (bitsOf e.2 23 0 ≤ ph)
      && decide (ph < bitsOf e.2 23 0 + bitsOf e.2 63 48))

end Sys2Proof.Machine
end

