-- ==== Sys2Proof/Machine/Crc.lean ====
section
/-! DEFINITION. The checks of the wires and the flash: CRC-32C (R166) and CRC-8 (R67). -/

namespace Sys2Proof.Machine

/-- One bit of the reflected CRC-32C with polynomial 0x1EDC_6F41 (reflected 0x82F6_3B78). -/
def crcBit (c : Nat) : Nat := if c % 2 = 1 then c / 2 ^^^ 0x82F63B78 else c / 2

/-- One byte of the CRC-32C register. -/
def crcByte (c : Nat) (b : Byte) : Nat :=
  let c := c ^^^ b.toNat
  crcBit (crcBit (crcBit (crcBit (crcBit (crcBit (crcBit (crcBit c)))))))

/-- CRC-32C over bytes in order: initial value and final XOR all ones (R166). -/
def crc32c (bs : List Byte) : Nat := bs.foldl crcByte 0xFFFFFFFF ^^^ 0xFFFFFFFF

/-- One bit of the CRC-8 with polynomial 0x07. -/
def crc8Bit (c : Nat) : Nat := if 128 ≤ c then (2 * c) % 256 ^^^ 0x07 else 2 * c

/-- CRC-8 over bytes, initial value 0 (R67). -/
def crc8 (bs : List Byte) : Nat :=
  bs.foldl (fun c b =>
    let c := c ^^^ b.toNat
    crc8Bit (crc8Bit (crc8Bit (crc8Bit (crc8Bit (crc8Bit (crc8Bit (crc8Bit c)))))))) 0

end Sys2Proof.Machine
end

