-- ==== Sys2Proof/Machine/CapRec.lean ====
section
/-! DEFINITION. Capture records (R527–R533, R536): what the packet path and the time unit hand to the capture engine. -/

namespace Sys2Proof.Machine

/-- The 16 header bytes of a packet in wire order (R164). -/
def hdrBytes (p : Pkt) : List Byte :=
  natBe 16 (((((((((((((p.ver % 4 * 64 + p.kind % 64) * 2 + b2n p.sched) * 8 + p.vc % 8) * 2 + b2n p.ce) * 2 + b2n p.kflag)
    * 64 + p.pav % 64) * 32 + p.hops % 32) * 128 + p.len % 128) * 65536 + p.dst % 65536) * 65536 + p.src % 65536)
    * 2 ^ 32 + p.seq % 2 ^ 32) * 2 ^ 32 + p.tag % 2 ^ 32))

/-- The trailer a packet should carry (R166). -/
def pktCrc (p : Pkt) : Nat := crc32c (hdrBytes p ++ p.payload)

/-- The 64 header bytes of a capture record (R529). -/
def recBytes (type flags len port slot cyc : Nat) (body : List Byte) (pcrc trailer seq iter : Nat) : List Byte :=
  natLe 1 type ++ natLe 1 flags ++ natLe 2 len ++ natLe 2 port ++ natLe 2 cyc ++ natLe 8 slot ++ body
    ++ natLe 4 pcrc ++ natLe 4 trailer ++ natLe 4 seq ++ natLe 4 iter ++ List.replicate 16 0

/-- The 16 bytes 16–31 of a MARK or LOSS record (R530). -/
def markBody (a b : Nat) : List Byte := natLe 4 a ++ natLe 4 0 ++ natLe 8 b

/-- The window as a whole number of bytes; 0 before capture starts. -/
def State.capPos (s : State) : Nat := s.cap.wr % max 64 s.cap.size

/-- Oldest records whose bytes the window no longer holds are given up (R533). -/
def dropOld (size wr : Nat) : List (Nat × Nat) → List (Nat × Nat)
  | [] => []
  | (p, n) :: l => if p + size < wr then dropOld size wr l else (p, n) :: l

/-- Bytes put at the write position as one record; a full window gives up its oldest records (R531, R533). -/
def State.capStore (s : State) (bs : List Byte) : State :=
  let s' := s.wr (s.cap.base + s.capPos) bs
  let w := s.cap.wr + bs.length
  let recs := dropOld s.cap.size w (s.cap.recs ++ [(s.cap.wr, bs.length)])
  let old := match recs with | [] => w | (p, _) :: _ => p
  ({ s' with cap := { s'.cap with wr := w, recs := recs, oldest := old, seq := (s.cap.seq + 1) % 2 ^ 32 } }).bump64
    aDET_CAP_RECORDS_LO 1

/-- Bytes left before the end of the window. -/
def State.capRoom (s : State) : Nat := max 64 s.cap.size - s.capPos

/-- A PAD record where `n` bytes do not fit before the end of the window (R533). -/
def State.capPad (s : State) (n : Nat) : State :=
  let r := s.capRoom
  if n ≤ r then s
  else s.capStore (recBytes 0 0 (r / 64) 0 s.curSlot s.curCclk (markBody 0 0) 0 0 s.cap.seq (s.iterOf s.curSlot) ++ List.replicate (r - 64) 0)

/-- Bytes a record of `n` bytes takes, a PAD record included. -/
def State.capNeed (s : State) (n : Nat) : Nat := if n ≤ s.capRoom then n else s.capRoom + n

/-- The record fits where DEST keeps it: a ring always takes it; STOP keeps 64 B for its last mark; a FIFO is as full as
what the streamer has not sent (R533). -/
def State.capFits (s : State) (n : Nat) : Bool :=
  if s.cap.dest = 0 then true
  else if s.cap.dest = 1 then decide (s.cap.wr + n + 64 ≤ s.cap.size)
  else decide (s.cap.wr - s.cap.oldest + s.capNeed n ≤ s.cap.size)

/-- Staging capacity, in 1/5 B: 1 MiB (R532). -/
def stagingMax : Nat := 5 * 2 ^ 20

/-- The staging drained to the present at 409.6 GB/s: 256/5 B in 0.125 ns (R532). DEDUCED: log 79. -/
def State.capDrain (s : State) : State :=
  { s with cap := { s.cap with level := s.cap.level - 256 * (s.tim.clk - s.cap.levelClk), levelClk := s.tim.clk } }

/-- One record lost (R532). -/
def State.capLose (s : State) (n : Nat) : State :=
  (({ s with cap := { s.cap with lostRecs := s.cap.lostRecs + 1, lostBytes := s.cap.lostBytes + n } }).bump
    aDET_CAP_LOST 1).evt 18 aDET_EVENT 1

/-- The order of records (R531): slot, cycle, type and port; a MARK and a LOSS come before an INGRESS of their instant. -/
def CapRec.rank (r : CapRec) : Nat := ((r.slot * 1920 + r.cyc) * 4 + (if r.type < 3 then r.type else 0)) * 1024 + r.port

/-- A record put in its place among those of its SCLK cycle. -/
def insertRec (r : CapRec) : List CapRec → List CapRec
  | [] => [r]
  | x :: l => if r.rank < x.rank then r :: x :: l else x :: insertRec r l

/-- A record written at the write position with the next RECSEQ; the trigger's mark starts the count of DET_CAP_POST (R536). -/
def State.capRaw (s : State) (r : CapRec) : State :=
  let n := r.bytes.length
  let s := s.capPad n
  let s := s.capStore (r.bytes.take 40 ++ natLe 4 s.cap.seq ++ r.bytes.drop 44)
  { s with cap := { s.cap with post := if r.trig then some (1024 * (s.reg aDET_CAP_POST).toNat) else s.cap.post.map (· - n) } }

/-- The write position taken back to before the records of the present SCLK cycle. -/
def State.capRewind (s : State) : State :=
  let keep := s.cap.recs.filter fun r => decide (r.1 < s.cap.groupPos)
  let k := s.cap.recs.length - keep.length
  let w := (s.reg aDET_CAP_RECORDS_LO).toNat + (s.reg (aDET_CAP_RECORDS_LO + 4)).toNat * 2 ^ 32 - k
  let s := (s.setReg aDET_CAP_RECORDS_LO (BitVec.ofNat 32 w)).setReg (aDET_CAP_RECORDS_LO + 4) (BitVec.ofNat 32 (w / 2 ^ 32))
  { s with cap := { s.cap with wr := s.cap.groupPos, recs := keep, seq := (s.cap.seq + 2 ^ 32 - k) % 2 ^ 32,
                               post := s.cap.groupPost } }

/-- A record written in its place among those of the present SCLK cycle (R531). DEDUCED: log 79. -/
def State.capWrite (s : State) (r : CapRec) : State :=
  let now := s.tim.clk / 32
  let old := if s.cap.groupAt = now then s.cap.group else []
  let s := { s with cap := { s.cap with level := s.cap.level + 5 * r.bytes.length, groupAt := now, group := insertRec r old,
                                        groupPos := if old.isEmpty then s.cap.wr else s.cap.groupPos,
                                        groupPost := if old.isEmpty then s.cap.post else s.cap.groupPost } }
  if old.any fun x => decide (r.rank < x.rank) then s.cap.group.foldl State.capRaw s.capRewind else s.capRaw r

/-- A MARK (3) or LOSS (4) record at the present instant (R530). -/
def State.markRec (s : State) (type a b : Nat) : CapRec :=
  { slot := s.curSlot, cyc := s.curCclk, type := type, port := 0, trig := type == 3 && a == 5,
    bytes := recBytes type 0 1 0 s.curSlot s.curCclk (markBody a b) 0 0 0 (s.iterOf s.curSlot) }

/-- The LOSS record owed for what was lost (R532). DEDUCED: log 79. -/
def State.capLossRec (s : State) : State :=
  if s.cap.lostRecs = 0 then s
  else
    let r := s.cap.lostRecs
    let b := s.cap.lostBytes
    let s := { s with cap := { s.cap with lostRecs := 0, lostBytes := 0 } }
    s.capWrite (s.markRec 4 r b)

/-- The staging and the window have room for a record of `n` bytes, with the LOSS record that is owed before it (R532, R533). -/
def State.capTakes (s : State) (n : Nat) : Bool :=
  let n := n + (if s.cap.lostRecs = 0 then 0 else 64)
  decide (s.capDrain.cap.level + 5 * n ≤ stagingMax) && s.capFits n

/-- The CAPTURE_STOP mark, after every other record, and the end of recording: behind the LOSS record that is owed, lost as any record
is where there is no room, and in the space that DEST STOP holds back for it (R532, R533, R535). DEDUCED: log 79. -/
def State.capEnd (s : State) : State :=
  if !s.cap.active || s.cap.ending then s
  else
    let room := s.capTakes 64
    let s := if room then s.capDrain.capLossRec else s.capDrain
    let s :=
      if room || s.cap.dest == 1 then
        let t := s.capRaw (s.markRec 3 6 0)
        { t with cap := { t.cap with level := t.cap.level + 320 } }
      else s.capLose 64
    ({ s with cap := { s.cap with ending := true, post := none, group := [] } }).evt 18 aDET_EVENT 3

/-- A trigger of the SCLK cycle in which a capture-stop is taken (R537): its mark is not written, and it has set nothing. -/
def State.capUntrigger (s : State) : State :=
  if s.cap.groupAt = s.tim.clk / 32 ∧ s.cap.group.any (·.trig) = true then
    let c := s.fld aDET_EVENT_CNT0 23 16
    let s := if s.cap.trigEvt then s else s.setFld aDET_EVENT 2 2 0
    let s := s.setFld aDET_EVENT_CNT0 23 16 (c - 1)
    let s := s.capRewind
    let s := { s with cap := { s.cap with group := s.cap.group.filter fun r => !r.trig, triggered := false, level := s.cap.level - 320 } }
    s.cap.group.foldl State.capRaw s
  else s

/-- A record offered to the capture engine (R532, R533): after the end of recording it is no record, but a window of DEST STOP that
was full loses every later one. -/
def State.capPut (s : State) (r : CapRec) : State :=
  if !s.cap.active || decide (s.cap.post = some 0) || (s.cap.ending && !s.cap.filled) then s
  else
    let n := r.bytes.length
    let s := s.capDrain
    if s.cap.ending then s.capLose n
    else if s.capTakes n then s.capLossRec.capWrite r
    else if s.cap.dest = 1 ∧ s.capFits (n + (if s.cap.lostRecs = 0 then 0 else 64)) = false then
      let s := s.capEnd.capLose n
      { s with cap := { s.cap with filled := true } }
    else s.capLose n

/-- A MARK record at the present instant (R530). -/
def State.capMark (s : State) (code val : Nat) : State :=
  s.capPut (s.markRec 3 code val)

/-- A trigger of armed capture (R536): 1 command, 2 register, 3 DIVERGED. One that finds capture stopped has no effect (R537). -/
def State.capTrigger (s : State) (code : Nat) : State :=
  if !s.cap.active || !s.cap.armed then s
  else if s.cap.triggered then s.bump aDET_CAP_TRIG_EXTRA 1
  else if s.cap.ending then s
  else
    let was := s.bit aDET_EVENT 2
    let s := s.capMark 5 code
    let post := match s.cap.post with | some n => n | none => 1024 * (s.reg aDET_CAP_POST).toNat
    ({ s with cap := { s.cap with triggered := true, post := some post, trigEvt := was } }).evt 18 aDET_EVENT 2

/-- A scheduled packet recorded at instant `t`: `type` 1 arriving, 2 leaving (R527–R529). `unknown` is a length error that
leaves the payload length unknown. -/
def State.capPkt (s : State) (type port t : Nat) (p : Pkt) (trailer : Nat) (stomped bad injected unknown : Bool) : State :=
  if !s.cap.active || !p.sched || decide (p.pav ≠ s.cap.pav) || (type == 2 && !s.cap.egress) then s
  else
    let full := s.cap.full && !unknown
    let n := if full then 64 + p.payload.length else 64
    let flags := b2n full + 2 * b2n stomped + 4 * b2n bad + 8 * b2n injected
    let slot := t / slotUnits
    let cyc := t % slotUnits / 4
    s.capPut
      { slot := slot, cyc := cyc, type := type, port := port, trig := false,
        bytes := recBytes type flags (n / 64) port slot cyc (hdrBytes p) (crc32c p.payload) trailer 0 (s.iterOf slot)
          ++ (if full then p.payload else []) }

end Sys2Proof.Machine
end

