-- ==== Sys2Proof/Machine/Bpm.lean ====
section
/-! DEFINITION. The buffer pool manager (chapter 05): pools, owners, handles, and the BPM commands. -/

namespace Sys2Proof.Machine

/-- Flits in a buffer of pool `k` (R210). -/
def poolFlits (k : Nat) : Nat := if k = 0 then 4 else if k = 1 then 16 else if k = 2 then 64 else 130

/-- An owner entry at reset (R238). -/
def ownerInit : Owner := ⟨0, 0, 0, 0, 0⟩

/-- A pool out of service. DESIGN CHOICE: log 6. -/
def poolInit : Pool := { ring := [], caches := [], inUse := [], removed := [], bad := [], free := 0 }

/-- Owner entry of a die: `i` is 4 × owner + pool. -/
def State.owner (s : State) (die i : Nat) : Owner := tblGet (fun _ => ownerInit) s.rte.owners (2048 * die + i)

/-- The state with an owner entry replaced. -/
def State.setOwner (s : State) (die i : Nat) (o : Owner) : State :=
  { s with rte := { s.rte with owners := tblSet s.rte.owners (2048 * die + i) o } }

/-- Pool `k` of a die. -/
def State.pool (s : State) (die k : Nat) : Pool := tblGet (fun _ => poolInit) s.rte.pools (4 * die + k)

/-- The state with a pool replaced. -/
def State.setPool (s : State) (die k : Nat) (p : Pool) : State :=
  { s with rte := { s.rte with pools := tblSet s.rte.pools (4 * die + k) p } }

/-- BPM_POOLk_COUNT. -/
def State.poolCount (s : State) (die k : Nat) : Nat := s.fld (aBPM_POOL_COUNT die k) 19 0

/-- BPM_STATUS.READY (R219). -/
def State.bpmReady (s : State) (die : Nat) : Bool := s.bit (aBPM_STATUS die) 0

/-- The owner entries of one die and pool. -/
def State.poolOwners (s : State) (die k : Nat) : List Owner :=
  (s.rte.owners.filter fun e => e.1 / 2048 == die && e.1 % 4 == k).map (·.2)

/-- Sum of RESERVE_MIN over owners. -/
def State.rsvSum (s : State) (die k : Nat) : Nat := ((s.poolOwners die k).map (·.rmin)).foldl (· + ·) 0

/-- SET_ASIDE (R221). -/
def State.setAside (s : State) (die k : Nat) : Nat := ((s.poolOwners die k).map fun o => o.rmin - o.hrsv).foldl (· + ·) 0

/-- AVAIL, signed (R221). DEDUCED: log 76. -/
def State.avail (s : State) (die k : Nat) : Int := (s.pool die k).free - s.setAside die k

/-- An event bit of a die's BPM. -/
def State.bpmEvt (s : State) (die bit : Nat) : State := s.evt 11 (aBPM_EVENT die) bit

/-- A handle (R232). -/
def handleOf (die k i : Nat) : Nat := k * 2 ^ 30 + die * 2 ^ 29 + i

/-- A handle fault: the event and its BPM_FAULT entry (R236, R237, R670). -/
def State.bpmFault (s : State) (sub die k i port : Nat) : State :=
  (s.bpmEvt die 3).offer 0x07 sub die 0x80 (handleOf die k i) port 0 0

/-! ## PCLK cycles and service ranks (R222–R224) -/

/-- The PCLK cycle of fabric time. -/
def State.pclk (s : State) : Nat := s.tim.now / 5

/-- The service index: the cycle within its alignment period of 96, modulo 16 (R222). -/
def State.svcIndex (s : State) : Nat := s.tim.now % 480 / 5 % 16

/-- The service rank of allocator port `a` in this cycle (R222). -/
def State.svcRank (s : State) (a : Nat) : Nat := (a + s.svcIndex) % 16

/-- What the arbiters have done in this cycle. -/
def State.svc (s : State) : Service :=
  if s.rte.service.cyc = s.pclk then s.rte.service else ⟨s.pclk, [], [], [], none, [], []⟩

/-- The state with the arbiters' record replaced. -/
def State.setSvc (s : State) (v : Service) : State := { s with rte := { s.rte with service := v } }

/-- A table value, or a queue map, about to change: how it stood at the start of the cycle is kept (R189, R242). -/
def State.noteWas (s : State) (key old : Nat) : State :=
  let v := s.svc
  if !s.tim.lock || v.was.any fun x => x.1 == key then s else s.setSvc { v with was := (key, old) :: v.was }

/-- The key of an entry of route table `t`, and of a port's queue map. -/
def rteKey (t i : Nat) : Nat := 65536 * t + i
/-- A queue map. -/
def qmapKey (p : Nat) : Nat := 65536 * 8 + p

/-- Time moved on to the next PCLK cycle. -/
def State.nextPclk (s : State) : State := s.advTo ((s.pclk + 1) * 5)

/-- A port's request has to wait for the next cycle: the port has presented one, or the pool's accounting unit has already
served this rank or a lower one (R223, R224). -/
def State.askLate (s : State) (die k a : Nat) : Bool :=
  let v := s.svc
  v.asked.contains (16 * die + a) || (match v.ranks.find? fun r => r.1 == 4 * die + k with
    | some r => decide (r.2 ≤ s.svcRank a) | none => false)

/-- Allocator port `a` presents a request to pool `k`: one in a cycle, and in descending rank (R222–R224). DEDUCED: log 11. -/
def State.ask (s : State) (die k a : Nat) : State :=
  let s := if s.askLate die k a then s.nextPclk else s
  let v := s.svc
  s.setSvc { v with asked := (16 * die + a) :: v.asked, ranks := tblSet v.ranks (4 * die + k) (s.svcRank a) }

/-! ## Frees (R226–R228, R236, R237) -/

/-- A free applied: the owner's holding falls, and the handle goes to the ring tail unless it is out of circulation
(R226, R236). -/
def State.applyFree (s : State) (f : Freed) : State :=
  let p := s.pool f.die f.pool
  let i := 4 * f.owner + f.pool
  let ow := s.owner f.die i
  let ow := if 0 < ow.hrsv then { ow with hrsv := ow.hrsv - 1 } else { ow with hshr := ow.hshr - 1 }
  let p := { p with inUse := p.inUse.filter (· != f.handle) }
  let p := if p.removed.contains f.handle then p else { p with ring := p.ring ++ [f.handle], free := p.free + 1 }
  (s.setPool f.die f.pool p).setOwner f.die i ow

/-- The frees of earlier PCLK cycles applied (R227). -/
def State.settleFrees (s : State) : State :=
  let old := s.rte.frees.filter fun f => f.cyc != s.pclk
  old.foldl State.applyFree { s with rte := { s.rte with frees := s.rte.frees.filter fun f => f.cyc == s.pclk } }

/-- A buffer freed: applied after the grants of this cycle (R227); a handle that is not in use, or is freed already, changes
nothing (R237). -/
def State.freeBuf (s : State) (die k o h : Nat) : State :=
  if !(s.pool die k).inUse.contains h || (s.rte.frees.any fun f => f.die == die && f.pool == k && f.handle == h) then
    (s.bump (aBPM_DOUBLE_FREE die) 1).bpmFault 2 die k h 0xFFFFFFFF
  else { s with rte := { s.rte with frees := s.rte.frees ++ [⟨die, k, o, h, s.pclk⟩] } }

/-- The buffers of a held packet freed (R228). -/
def State.freeHeld (s : State) (h : Held) : State :=
  h.handles.foldl (fun s i => s.freeBuf h.die h.pool h.owner i) s

/-! ## Grants -/

/-- The pool for `need` flits: the smallest with a COUNT whose buffers hold them (R210); none where R211 applies. -/
def State.choosePool (s : State) (die need : Nat) : Option Nat :=
  (List.range 4).find? fun k => decide (s.poolCount die k ≠ 0) && decide (need ≤ poolFlits k)

/-- The owner's holdings after a grant of `n` buffers, or none (R213, R224). -/
def grantTo (avail : Int) (o : Owner) (n : Nat) : Option Owner :=
  if decide ((n : Int) ≤ avail) && decide (o.hshr + n ≤ o.smax) then some { o with hshr := o.hshr + n }
  else if o.hrsv + n ≤ o.rmin then some { o with hrsv := o.hrsv + n }
  else none

/-- The next handle for allocator port `a`, with where it lies: its own cache, the ring, or the lowest-numbered port that
holds one (R234). -/
def nextHandle (p : Pool) (a : Nat) : Option (Nat × Nat × Pool) :=
  match tblGet (fun _ => []) p.caches a with
  | h :: t => some (h, 0, { p with caches := tblSet p.caches a t })
  | [] =>
    match p.ring with
    | h :: t => some (h, 1, { p with ring := t })
    | [] =>
      match p.caches.find? fun e => !e.2.isEmpty with
      | some (b, h :: t) => some (h, 2 + b, { p with caches := tblSet p.caches b t })
      | _ => none

/-- A handle out of circulation (R236): `src` is where it lay, the ring (1) or the cache of a port, which the entry names (R670). A
second copy of a buffer in use, or of one already removed, never counted in FREE; one that fails its parity did (R657). -/
def State.dropHandle (s : State) (die k h src : Nat) (p : Pool) : State :=
  let port := if src = 1 then 0xFFFFFFFF else if src = 0 then 0xFFFFFFFF else src - 2
  if p.inUse.contains h || p.removed.contains h then
    ((s.setPool die k { p with removed := h :: p.removed }).bump (aBPM_HANDLE_DUP die) 1).bpmFault 1 die k h port
  else
    (s.setPool die k { p with removed := h :: p.removed, bad := p.bad.filter (· != h), free := p.free - 1 }).bpmFault 3 die k h
      port

/-- The handle may be issued: it is not in use, not out of circulation, and its parity is right (R236, R657). -/
def handleOk (p : Pool) (h : Nat) : Bool := !p.inUse.contains h && !p.removed.contains h && !p.bad.contains h

/-- A handle taken for a grant, with where it lay: one that must not be issued leaves circulation and the next is tried
(R234–R236). `fuel` bounds the tries by the handles there are. -/
def State.takeHandle (s : State) (die k a : Nat) : Nat → Option (Nat × Nat) × State
  | 0 => (none, s)
  | fuel + 1 =>
    match nextHandle (s.pool die k) a with
    | none => (none, s)
    | some (h, src, p) =>
      if handleOk p h then (some (h, src), s.setPool die k { p with inUse := h :: p.inUse })
      else (s.dropHandle die k h (if src = 0 then 2 + a else src) p).takeHandle die k a fuel

/-- A handle put back where it lay, for a grant that is undone (R235). -/
def Pool.putBack (p : Pool) (a h src : Nat) : Pool :=
  let p := { p with inUse := p.inUse.filter (· != h) }
  let c := if src = 0 then a else src - 2
  if src = 1 then { p with ring := h :: p.ring } else { p with caches := tblSet p.caches c (h :: tblGet (fun _ => []) p.caches c) }

/-- Handles in the ring and the caches of a pool. -/
def poolHandles (p : Pool) : Nat := p.ring.length + (p.caches.map (·.2.length)).foldl (· + ·) 0

/-- `n` handles taken, with where each lay; or none, and the counts as before (R213, R235). -/
def State.takeHandles (s : State) (die k a : Nat) : Nat → Option (List (Nat × Nat)) × State
  | 0 => (some [], s)
  | n + 1 =>
    match s.takeHandle die k a (poolHandles (s.pool die k) + 1) with
    | (none, s) => (none, s)
    | (some h, s) =>
      match s.takeHandles die k a n with
      | (some hs, s) => (some (h :: hs), s)
      | (none, s) => (none, s.setPool die k ((s.pool die k).putBack a h.1 h.2))

/-- NOBUF of an owner entry, saturating at its 16 bits. -/
def State.noBufOwner (s : State) (die i : Nat) : State :=
  let o := s.owner die i
  s.setOwner die i { o with nobuf := min 0xFFFF (o.nobuf + 1) }

/-- BPM_POOLk_LOWFREE follows FREE, while the rings are ready. -/
def State.lowFree (s : State) (die k : Nat) : State :=
  let free := (s.pool die k).free
  if s.bpmReady die && decide (free < s.fld (aBPM_POOL_LOWFREE die k) 19 0) then s.setFld (aBPM_POOL_LOWFREE die k) 19 0 free else s

/-- A request of `need` flits by owner `o` through allocator port `a`, as `n` buffers of one pool (R210–R213, R219, R224,
R229, R234, R235): the pool and handles, or none with the drop counted. DEDUCED: log 76. -/
def State.alloc (s : State) (die a o need : Nat) : Option (Nat × List Nat) × State :=
  let n := if 130 < need then 2 else 1
  match s.choosePool die (if 130 < need then 130 else need) with
  | none => (none, ((s.bump (aBPM_NO_POOL die) 1).noBufOwner die (4 * o + 3)).bpmEvt die 1)
  | some k =>
    let no := fun (s : State) => ((s.bump (aBPM_POOL_NOBUF die k) 1).noBufOwner die (4 * o + k)).bpmEvt die 1
    let s := (s.ask die k a).settleFrees
    if !s.bpmReady die then (none, no s)
    else
      let av := s.avail die k
      match grantTo av (s.owner die (4 * o + k)) n with
      | none => (none, no s)
      | some ow =>
        match s.takeHandles die k a n with
        | (none, s) => (none, no s)
        | (some hs, s) =>
          let s := s.bump (aBPM_CACHE_STEAL die) (hs.filter fun h => decide (2 ≤ h.2)).length
          let p := s.pool die k
          let free := p.free - n
          let s := (s.setPool die k { p with free := free }).setOwner die (4 * o + k) ow
          let s := s.bump64 (aBPM_POOL_ALLOC_LO die k) 1
          let s := s.lowFree die k
          let s := if decide (0 < av) && decide (s.avail die k ≤ 0) then s.bpmEvt die 2 else s
          (some (k, hs.map (·.1)), s)

/-! ## Layout, rings and caches -/

/-- The regions of a layout as (base, size) in flits: scheduled, rings, pools (R216, R217). -/
def State.bpmRegions (s : State) (die : Nat) : List (Nat × Nat) :=
  let rings := ((List.range 4).map fun k => (4 * s.poolCount die k + 63) / 64).foldl (· + ·) 0
  [(s.fld (aBPM_SCHED_BASE die) 20 0, s.fld (aBPM_SCHED_SIZE die) 21 0), (s.fld (aBPM_RING_BASE die) 20 0, rings)]
    ++ (List.range 4).map fun k => (s.fld (aBPM_POOL_BASE die k) 20 0, s.poolCount die k * poolFlits k)

/-- No two regions of a list share a flit. -/
def disjoint : List (Nat × Nat) → Bool
  | [] => true
  | (b, n) :: l => (l.all fun r => decide (b + n ≤ r.1) || decide (r.1 + r.2 ≤ b) || n == 0 || r.2 == 0) && disjoint l

/-- The layout check of R218. -/
def State.layoutOk (s : State) (die : Nat) : Bool :=
  let rs := s.bpmRegions die
  (rs.all fun r => decide (r.1 + r.2 ≤ 2097152)) && disjoint rs
    && ((List.range 4).all fun k => decide (s.rsvSum die k ≤ s.poolCount die k))

/-- No buffer of the die is held, as this cycle's frees are still to be applied (R220, R227). -/
def State.noneHeld (s : State) (die : Nat) : Bool := (List.range 4).all fun k => (s.settleFrees.pool die k).inUse.isEmpty

/-- The effect of a write to BPM_CTRL (R218–R220). -/
def State.bpmEnable (s : State) (die : Nat) (v : Word) : State :=
  let on := s.bit (aBPM_CTRL die) 0
  if bitOf v.toNat 0 then
    if on then s
    else if s.layoutOk die then (s.setReg (aBPM_CTRL die) 1).setFld (aBPM_STATUS die) 1 1 0
    else s.setFld (aBPM_STATUS die) 1 1 1
  else if !s.bit aRTE_CTRL 0 && s.noneHeld die then (s.settleFrees.setReg (aBPM_CTRL die) 0).setFld (aBPM_STATUS die) 0 0 0
  else s.bpmEvt die 0

/-- BPM_ENABLE_WRITE (R218). -/
def execBpmEnableWrite (path : Path) (die : Nat) (v : Word) (s : State) : Host.Outcome State Fault Refusal :=
  .next (if s.mayWrite path (aBPM_CTRL die) && decide (die < 2) then s.bpmEnable die v else s)

/-- The rings filled and the holdings cleared (R219). -/
def State.ringFill (s : State) (die : Nat) : State :=
  let s := (List.range 4).foldl (fun s k =>
    let n := s.poolCount die k
    s.setPool die k { ring := List.range n, caches := [], inUse := [], removed := [], bad := [], free := n }) s
  let owners := s.rte.owners.map fun e => if e.1 / 2048 = die then (e.1, { e.2 with hrsv := 0, hshr := 0 }) else e
  ({ s with rte := { s.rte with owners := owners, frees := s.rte.frees.filter fun f => f.die != die } }).setFld
    (aBPM_STATUS die) 0 0 1

/-- BPM_RING_FILL_DONE (R219). -/
def execBpmRingFillDone (die : Nat) (s : State) : Host.Outcome State Fault Refusal :=
  .next (if decide (die < 2) && s.bit (aBPM_CTRL die) 0 && !s.bpmReady die then s.ringFill die else s)

/-- `n` handles moved from the ring head into a cache: one that must not be issued leaves circulation and the next follows
(R233, R236, R657). `fuel` bounds the tries by the handles there are. -/
def State.refillCache (s : State) (die k a : Nat) : Nat → Nat → State
  | 0, _ => s
  | _, 0 => s
  | fuel + 1, n + 1 =>
    let p := s.pool die k
    match p.ring with
    | [] => s
    | h :: t =>
      let q := { p with ring := t }
      if handleOk q h then
        (s.setPool die k { q with caches := tblSet p.caches a (tblGet (fun _ => []) p.caches a ++ [h]) }).refillCache die k a fuel n
      else (s.dropHandle die k h 1 q).refillCache die k a fuel (n + 1)

/-- HANDLE_CACHE_REFILL (R233): 8 handles from the ring head; `bad` names handles of the ring or the caches whose stored copy now
fails its parity, which are found when they are yielded (R236, R657). -/
def execHandleCacheRefill (die a k : Nat) (bad : List Nat) (s : State) : Host.Outcome State Fault Refusal :=
  .next (if decide (die < 2) && decide (a < 16) && decide (k < 4) && s.bpmReady die then
      let s := s.settleFrees
      let p := s.pool die k
      let there := fun h => p.ring.contains h || p.caches.any fun e => e.2.contains h
      let s := s.setPool die k { p with bad := p.bad ++ bad.filter there }
      if decide ((tblGet (fun _ => []) p.caches a).length < 8) && decide (8 ≤ p.ring.length) then
        s.refillCache die k a (p.ring.length + 1) 8
      else s
    else s)

/-! ## Owner table -/

/-- The four DATA words of an owner entry (R238). -/
def State.ownRead (s : State) (die i : Nat) : State :=
  let o := s.owner die i
  let s := (s.setReg (aBPM_OWN_DATA0 die) (BitVec.ofNat 32 o.rmin)).setReg (aBPM_OWN_DATA1 die) (BitVec.ofNat 32 o.smax)
  (s.setReg (aBPM_OWN_DATA2 die) (BitVec.ofNat 32 o.hshr)).setReg (aBPM_OWN_DATA3 die)
    (BitVec.ofNat 32 (o.nobuf * 2 ^ 16 + o.hrsv % 2 ^ 16))

/-- BPM_OWN_READ (R238). -/
def execBpmOwnRead (path : Path) (die : Nat) (v : Word) (s : State) : Host.Outcome State Fault Refusal :=
  .next (if die < 2 then
      s.tblOp path (aBPM_OWN_CMD die) v false (fun s => s.bpmEvt die 0) fun s => s.settleFrees.ownRead die (bitsOf v.toNat 10 0)
    else s)

/-- Sum of RESERVE_MIN of a pavilion's owners in a pool. -/
def State.pavRsv (s : State) (die k pav : Nat) : Nat :=
  ((List.range 8).map fun v => (s.owner die (4 * (8 * pav + v) + k)).rmin).foldl (· + ·) 0

/-- RESERVE cap of a pavilion for a die and pool (R594). DEDUCED: log 25. -/
def State.rsvCap (s : State) (die k pav : Nat) : Nat := (s.pavEntry pav).reserve.getD (4 * die + k) 0

/-- The new holdings where RESERVE_MIN falls below HELD_RSV (R240). -/
def ownerWritten (o : Owner) (rmin smax : Nat) : Owner :=
  { o with rmin := rmin, smax := smax, hrsv := min o.hrsv rmin, hshr := o.hshr + (o.hrsv - rmin) }

/-- One owner entry written, or refused with OWN_ERR (R238–R240, R594). -/
def State.ownWrite (s : State) (die i : Nat) : State :=
  let k := i % 4
  let o := s.owner die i
  let rmin := s.fld (aBPM_OWN_DATA0 die) 15 0
  let smax := s.fld (aBPM_OWN_DATA1 die) 19 0
  let bad := decide (s.poolCount die k < s.rsvSum die k - o.rmin + rmin)
    || decide (s.rsvCap die k (i / 32) < s.pavRsv die k (i / 32) - o.rmin + rmin)
  if bad then s.setFld (aBPM_OWN_CMD die) 30 30 1
  else (s.setOwner die i (ownerWritten o rmin smax)).setFld (aBPM_OWN_CMD die) 30 30 0

/-- BPM_OWN_WRITE (R238, R239, R594). -/
def execBpmOwnWrite (path : Path) (die : Nat) (v : Word) (s : State) : Host.Outcome State Fault Refusal :=
  .next (if die < 2 then
      s.tblOp path (aBPM_OWN_CMD die) v true (fun s => s.bpmEvt die 0) fun s => s.settleFrees.ownWrite die (bitsOf v.toNat 10 0)
    else s)

end Sys2Proof.Machine
end

