-- ==== Sys2Proof/Machine/Sub.lean ====
section
/-! DEFINITION. Sub-ports as every unit uses them: their state, wake requests and ordered sets (R121–R147). -/

namespace Sys2Proof.Machine

/-- A sub-port as it is before anything happens to it. DESIGN CHOICE: log 6. -/
def subInit : SubPort :=
  { state := 0, rxRest := false, idRx := none, portRx := none, ackTx := false, ackRx := false, misSeen := false, peer := 0,
    reqSent := false, wake := false, wakeAt := 0, sched := false, winEnd := 0, since := 0, idle := 0, pend := none }

/-- The sub-port `k` of port `p`. -/
def State.sub (s : State) (p k : Nat) : SubPort := tblGet (fun _ => subInit) s.subs (8 * p + k)

/-- The state with a sub-port replaced. -/
def State.setSub (s : State) (p k : Nat) (x : SubPort) : State := { s with subs := tblSet s.subs (8 * p + k) x }

/-- PRT_CTRL.MODE of a port. -/
def State.portMode (s : State) (p : Nat) : Nat := s.fld (aPRT_CTRL p) 3 1

/-- PRT_CTRL.ENABLE of a port. -/
def State.portOn (s : State) (p : Nat) : Bool := s.bit (aPRT_CTRL p) 0

/-- The sub-port exists: its port is placed and has it in the present MODE (R106, R111). -/
def State.hasSub (s : State) (p k : Nat) : Bool := s.hasPort p && decide (k < subCount p (s.portMode p))

/-- An event bit of a port. -/
def State.prtEvt (s : State) (p bit : Nat) : State := s.evt 9 (aPRT_EVENT p) bit

/-- The sub-port's transmit direction carries traffic. -/
def State.isUp (s : State) (p k : Nat) : Bool := (s.sub p k).state == 4

/-- The transmit state is ENTERING, RESTING or EXITING. -/
def resting (st : Nat) : Bool := decide (5 ≤ st) && decide (st ≤ 7)

/-- A K8 ordered set is sent (R127, R128); `body` is its ARG. -/
def State.sendOs (s : State) (p k kind arg : Nat) : State := s.emit (.os p k kind arg)

/-- A lane with nothing received and nothing running. DESIGN CHOICE: log 6. -/
def laneInit : Lane :=
  { sigDet := false, cdr := false, sym := false, chkLock := false, up := false, peer := 0, acq := false, rd := false, txBit := 0,
    late := 0, gen := [], phase := 0, hist := [], run := 0, win := [], inj := 0, injAt := 0 }

/-- The lane of lane index `i` (R108). -/
def State.lane (s : State) (i : Nat) : Lane := tblGet (fun _ => laneInit) s.lanes i

/-- The state with a lane replaced. -/
def State.setLane (s : State) (i : Nat) (x : Lane) : State := { s with lanes := tblSet s.lanes i x }

/-- A generator, a loopback or a checker mode is set on the lane (R161). A LOOPBACK code of 4–7, which names no path, puts the lane
in test too, and loops nothing back. DESIGN CHOICE: log 105. -/
def State.laneTest (s : State) (i : Nat) : Bool :=
  decide (s.fld (aLNE_PATGEN i) 2 0 ≠ 0) || decide (s.fld (aLNE_CTRL i) 4 2 ≠ 0) || decide (s.fld (aLNE_PATCHK i) 2 0 ≠ 0)

/-- An event bit of a lane. -/
def State.lneEvt (s : State) (i bit : Nat) : State := s.evt 8 (aLNE_EVENT i) bit

/-- The sub-port a lane of a port serves in its MODE (R112, R116); none for the idle lanes of 400ZR half. -/
def laneSub (p lane mode : Nat) : Option Nat :=
  if p < 64 then some (lane * subCount p mode / 8)
  else if p < 80 then (if mode = 1 ∧ 4 ≤ lane then none else some 0)
  else some 0

/-- The lane indices of a port (R108). -/
def portLanes (p : Nat) : List Nat :=
  if p < 64 then (List.range 8).map (8 * p + ·) else if p < 80 then (List.range 8).map (512 + 8 * (p - 64) + ·)
  else (List.range 4).map (640 + 4 * (p - 80) + ·)

/-- The lane indices of a sub-port (R108, R112). -/
def State.subLanes (s : State) (p k : Nat) : List Nat :=
  (portLanes p).filter fun i => match lanePort i with | some (_, l) => laneSub p l (s.portMode p) == some k | none => false

/-- A lane of the sub-port is in a test (R121, R161). -/
def State.subTest (s : State) (p k : Nat) : Bool := (s.subLanes p k).any s.laneTest

/-- What the receivers of a sub-port's lanes report: signal, recovered clock and PCS lane lock (LNE_STATUS).
DEDUCED: log 106. -/
def State.laneRx (s : State) (p k : Nat) (sig cdr sym : Bool) : State :=
  (s.subLanes p k).foldl (fun s i => s.setLane i { s.lane i with sigDet := sig, cdr := cdr, sym := sym }) s

/-- The sub-port enters `st` afresh: HELLO and rest bookkeeping start over, and PRT_PEER is cleared but in TRAINING and HELLO.
DESIGN CHOICE: log 105. -/
def State.enter (s : State) (p k st : Nat) : State :=
  let x := s.sub p k
  s.setSub p k { subInit with state := st, peer := if st = 2 ∨ st = 3 then x.peer else 0 }

/-- REST_COMMIT is sent: the direction is ENTERING for 600 ns (R134, R141). -/
def State.commit (s : State) (p k arg : Nat) : State :=
  let s := s.sendOs p k 0x13 arg
  let s := s.setSub p k { s.sub p k with state := 5, reqSent := false, wake := false, sched := decide (arg = 1),
                                         since := s.tim.clk, pend := none }
  s.bump (aREST_COMMITS p k) 1

/-- Root time of an entry to rest and of an exit (R141): 600 ns and 1,400 ns. -/
def restIn : Nat := 4800
/-- 1,400 ns. -/
def restOut : Nat := 11200

/-- The entry of a sub-port has run its 600 ns (R141). -/
def State.entered (s : State) (x : SubPort) : Bool := x.state == 6 || (x.state == 5 && decide (x.since + restIn ≤ s.tim.clk))

/-- An entry that has not committed is under way: REST_REQ is sent, or a scheduled rest waits for the packet in progress (R135,
R136). -/
def SubPort.asked (x : SubPort) : Bool := x.reqSent || x.pend.isSome

/-- The end abandons its entry before commit (R139). -/
def State.abandon (s : State) (p k : Nat) : State :=
  let s := s.sendOs p k 0x14 0
  let s := s.setSub p k { s.sub p k with reqSent := false, pend := none, idle := s.curSlot }
  (s.bump (aREST_ABORTS p k) 1).prtEvt p 5

/-- A wake request (R139, R140, R143, R147). One after REST_COMMIT is counted, whether the entry still runs or has ended (R140). -/
def State.wakeReq (s : State) (p k : Nat) : State :=
  let x := s.sub p k
  let x' := if x.wake then x else { x with wake := true, wakeAt := s.tim.clk }
  if x.state = 4 then (if x.asked then s.abandon p k else s)
  else if x.state = 5 ∨ x.state = 6 then
    if x.wake then s
    else
      let y := if s.entered x then { x' with state := 7, since := s.tim.clk } else x'
      ((s.setSub p k y).bump (aWAKES_AFTER_COMMIT p k) 1).prtEvt p 6
  else if x.state = 7 then s.setSub p k x'
  else s

/-- A scheduled window has begun on the sub-port: it rests, or waits for the packet in progress (R135, R143). -/
def SubPort.window (x : SubPort) : Bool := (x.sched && resting x.state) || x.pend.isSome

/-- A queued packet or credit return asks for the sub-port: held during a scheduled window (R143). -/
def State.wakeQueued (s : State) (p k : Nat) : State := if (s.sub p k).window then s else s.wakeReq p k

/-- A bandstand action sends on the sub-port: a wake request, counted in a scheduled window (R143). -/
def State.wakeAction (s : State) (p k : Nat) : State :=
  let s' := if (s.sub p k).window then (s.bump (aSCHED_IN_REST p k) 1).prtEvt p 7 else s
  s'.wakeReq p k

end Sys2Proof.Machine
end

