-- ==== Sys2Proof/Machine/LRep.lean ====
section
/-! DEFINITION. The L-port replay engine's state: numbering, copies and acknowledgement (R455–R461). -/

namespace Sys2Proof.Machine

/-- A replay engine as its sub-port enters UP (R455, R461). DESIGN CHOICE: log 6. -/
def lrepInit : LRep := { next := 0, acked := 0, copies := [], acc := 0, recover := false, skip := 0, nak := false, reqs := [], since := 0 }

/-- The replay engine of L-port `l`. -/
def State.lr (s : State) (l : Nat) : LRep := tblGet (fun _ => lrepInit) s.lrep l

/-- The state with a replay engine replaced. -/
def State.setLr (s : State) (l : Nat) (x : LRep) : State := { s with lrep := tblSet s.lrep l x }

/-- Bytes of a copy in the store: header, payload and trailer. -/
def copyBytes (c : Copy) : Nat := 84 + 64 * c.pkt.len

/-- Bytes held in a store. -/
def storeBytes (cs : List Copy) : Nat := (cs.map copyBytes).foldl (· + ·) 0

/-- `a` is ahead of `b` as a serial number (R461). -/
def ahead (a b : Nat) : Bool :=
  let d := (a + 2 ^ 32 - b) % 2 ^ 32
  decide (1 ≤ d) && decide (d < 2 ^ 31)

/-- The oldest copies evicted until `n` more bytes fit in the store (R460): the copies kept and how many went.
DESIGN CHOICE: log 74. -/
def evict (size n : Nat) : List Copy → List Copy × Nat
  | [] => ([], 0)
  | c :: cs => if storeBytes (c :: cs) + n ≤ size then (c :: cs, 0) else let r := evict size n cs; (r.1, r.2 + 1)

/-- RPL_UNACKED as the store stands. -/
def State.setUnacked (s : State) (l : Nat) : State :=
  s.setReg (aRPL_UNACKED l) (BitVec.ofNat 32 (storeBytes (s.lr l).copies))

/-- A packet started on an L-port is numbered and copied (R455, R460); no other port numbers packets.
DESIGN CHOICE: log 74. -/
def State.number (s : State) (e : Nat) (p : Pkt) (stomped : Bool) (ingress : Nat) : State :=
  if e < 512 ∨ 640 ≤ e then s
  else
    let l := e / 8 - 64
    let x := s.lr l
    let r := evict (s.fld (aRPL_SIZE l) 15 0 * 2 ^ 20) (84 + 64 * p.len) x.copies
    let since := if x.copies.isEmpty then s.tim.clk else x.since
    let s := s.setLr l { x with next := (x.next + 1) % 2 ^ 32, copies := r.1 ++ [⟨x.next, p, stomped, ingress⟩], since := since }
    (if r.2 = 0 then s else s.bump (aRPL_EVICTED l) r.2).setUnacked l

/-- The direction's sub-port enters DOWN: every copy is discarded and counted, and the receiver leaves RECOVER (R461). -/
def State.replayFlush (s : State) (l : Nat) : State :=
  let n := (s.lr l).copies.length
  let s := s.setLr l lrepInit
  (if n = 0 then s else s.bump (aRPL_EVICTED l) n).setUnacked l

/-- The next numbered packet on an L-port: whether it is accepted (R457). `broken` is a fresh CRC error, a length error or a
line error. -/
def State.accept (s : State) (l : Nat) (broken : Bool) : Bool × State :=
  let x := s.lr l
  if x.recover then (false, s.bump (aRPL_RECOVER_DISCARD l) 1)
  else if broken then (false, s.setLr l { x with recover := true, nak := true })
  else if 0 < x.skip then (false, (s.setLr l { x with skip := x.skip - 1 }).bump (aRPL_RECOVER_DISCARD l) 1)
  else (true, s.setLr l { x with acc := (x.acc + 1) % 2 ^ 32 })

end Sys2Proof.Machine
end

