-- ==== Sys2Proof/Machine/Queues.lean ====
section
/-! DEFINITION. Egress sub-ports: queues, shapers, the weighted group, staging and the egress selector (R241–R261,
R515–R518), and the calendar's commands. -/

namespace Sys2Proof.Machine

/-- An egress on which nothing has happened; a bucket starts full at the reset BURST (R250). DESIGN CHOICE: log 6. -/
def egressInit : Egress :=
  { queues := List.replicate 8 [], tokens := List.replicate 3 (16384 * 12800), tokClk := 0, ptr := 3,
    deficit := List.replicate 5 0, visited := List.replicate 5 false, sending := none, freeAt := 0, idle := 0, staged := [],
    ready := [], resend := [], cum := List.replicate 8 0, sent := List.replicate 8 0, rxCum := List.replicate 8 0,
    rxSent := List.replicate 8 0, owed := [] }

/-- The egress of a reference (R179). -/
def State.egr (s : State) (e : Nat) : Egress := tblGet (fun _ => egressInit) s.rte.egress e

/-- The state with an egress replaced. -/
def State.setEgr (s : State) (e : Nat) (x : Egress) : State :=
  { s with rte := { s.rte with egress := tblSet s.rte.egress e x } }

/-- Rate of a sub-port in Gb/s (R111). -/
def State.rate (s : State) (e : Nat) : Nat :=
  let p := e / 8
  if p < 64 then 800 / 2 ^ s.portMode p else if p < 80 then (if s.portMode p = 0 then 800 else 400) else 400

/-- Root time units that `bytes` take on a sub-port, rounded up (0.125 ns at R Gb/s: 64 units a byte over R).
DESIGN CHOICE: log 100. -/
def State.wireTime (s : State) (e bytes : Nat) : Nat := (bytes * 64 + s.rate e - 1) / max 1 (s.rate e)

/-- The reference names an F- or L-port sub-port that exists (R179). -/
def State.egrOk (s : State) (e : Nat) : Bool := decide (e < 640) && s.hasSub (e / 8) (e % 8)

/-- The sub-port of a reference is UP. -/
def State.egrUp (s : State) (e : Nat) : Bool := s.isUp (e / 8) (e % 8)

/-- REST_COMMIT of a scheduled rest whose window ends before slot `win` (R135). -/
def State.restSched (s : State) (e win : Nat) : State :=
  let s := s.commit (e / 8) (e % 8) 1
  s.setSub (e / 8) (e % 8) { s.sub (e / 8) (e % 8) with winEnd := win }

/-- A scheduled rest that waited for the packet in progress begins (R135). -/
def State.restPend (s : State) (e : Nat) : State :=
  match (s.sub (e / 8) (e % 8)).pend with
  | some win => if s.egrUp e then s.restSched e win else s
  | none => s

/-- The end has asked to rest, or a scheduled rest waits: it starts no new packet (R135, R136). -/
def State.restHolds (s : State) (e : Nat) : Bool := (s.sub (e / 8) (e % 8)).asked

/-- Bytes of a packet between start and terminate (R163), or of a frame with its FCS. -/
def Held.bytes (h : Held) : Nat := if h.eth.isEmpty then 84 + 64 * h.pkt.len else h.eth.length + 4

/-- Counted length on the port of an egress (R243). -/
def State.counted (s : State) (e : Nat) (h : Held) : Nat := h.bytes + s.fld (aSCH_PORT_CFG (e / 8)) 5 0

/-- Flits, and so credits, of a packet (R165). -/
def pktFlits (p : Pkt) : Nat := p.len + 3

/-- The queue for VC or priority `v` (R241). -/
def State.qmap (s : State) (e v : Nat) : Nat := s.fld (aSCH_QMAP (e / 8)) (3 * v + 2) (3 * v)

/-- The queue map as it stood at the start of the PCLK cycle, which a packet granted in the cycle takes (R242). -/
def State.qmapAt (s : State) (e v : Nat) : Nat :=
  match s.svc.was.find? fun x => x.1 == qmapKey (e / 8) with
  | some x => bitsOf x.2 (3 * v + 2) (3 * v)
  | none => s.qmap e v

/-- Priority of a frame: its 802.1Q code point, 0 for an untagged one (R214, R241). -/
def framePcp (bs : List Byte) : Nat :=
  match bs.drop 12 with
  | a :: b :: c :: _ => if a = 0x81 ∧ b = 0 then c.toNat / 32 else 0
  | _ => 0

/-- Depth of a queue: the counted lengths in it, the packet being sent included (R244). -/
def State.depth (s : State) (e q : Nat) : Nat :=
  let x := s.egr e
  let inQ := ((x.queues.getD q []).map fun h => s.counted e h).foldl (· + ·) 0
  match x.sending with
  | some (.queued q' h, _) => if q' = q then inQ + s.counted e h else inQ
  | _ => inQ

/-- The queue a held packet takes on an egress. -/
def State.queueOf (s : State) (e : Nat) (h : Held) : Nat :=
  s.qmapAt e (if h.eth.isEmpty then h.pkt.vc else framePcp h.eth)

/-- SCH_Q_DEPTH_MAX follows the depth of queue `q`. -/
def State.depthMax (s : State) (e q : Nat) : State :=
  let o := aSCH_Q_DEPTH_MAX (e / 8) (e % 8) q
  let d := s.depth e q
  if s.fld o 23 0 < d then s.setFld o 23 0 (min d 0xFFFFFF) else s

/-- A packet enters its queue: marked at or above the threshold (R257, R259), the largest depth kept. -/
def State.enqueue (s : State) (e : Nat) (h : Held) : State :=
  let q := s.queueOf e h
  let p := e / 8
  let k := e % 8
  let mark := decide (s.fld (aSCH_Q_MARK p k q) 23 0 ≤ s.depth e q)
  let h := if mark && h.eth.isEmpty then { h with pkt := { h.pkt with ce := true } } else h
  let s := if mark then s.bump (aSCH_Q_MARKED p k q) 1 else s
  let x := s.egr e
  (s.setEgr e { x with queues := x.queues.set q (x.queues.getD q [] ++ [h]) }).depthMax e q

/-! ## Shapers and the weighted group -/

/-- The strict queues' tokens counted to the present PCLK cycle (R250, R251); one unit of CAP adds one 1/12,800 B.
DEDUCED: log 76. -/
def State.settle (s : State) (e : Nat) : State :=
  let x := s.egr e
  let n := s.tim.clk / 5
  let grow := fun (q : Nat) =>
    let cap := s.fld (aSCH_Q_SHAPE_CAP (e / 8) (e % 8) q) 19 0
    let burst : Int := s.fld (aSCH_Q_BURST_CAP (e / 8) (e % 8) q) 23 0 * 12800
    min burst (x.tokens.getD q 0 + cap * (n - x.tokClk))
  s.setEgr e { x with tokens := [grow 0, grow 1, grow 2], tokClk := n }

/-- Pause of an S-port. -/
def State.pause (s : State) (i : Nat) : Pause :=
  tblGet (fun _ => ⟨List.replicate 8 0, none, 0, 0, List.replicate 8 0, []⟩) s.rte.pause i

/-- The state with an S-port's pause replaced. -/
def State.setPause (s : State) (i : Nat) (x : Pause) : State :=
  { s with rte := { s.rte with pause := tblSet s.rte.pause i x } }

/-- Priority `p` of an S-port is paused by the peer now (R273–R275). -/
def State.priPaused (s : State) (i p : Nat) : Bool := decide (25 * s.tim.clk < (s.pause i).ends.getD p 0)

/-- Queue `q` of an S-port is paused by the peer: a pause of the whole link stops every queue in MODE 1, and one of a priority the
queue it is mapped to (R272, R275). -/
def State.peerPaused (s : State) (i q : Nat) : Bool :=
  (s.fld (aSCH_PAUSE_CTRL (80 + i)) 1 0 == 1 && (List.range 8).all fun p => s.priPaused i p)
    || (List.range 8).any fun p => s.qmap (8 * (80 + i)) p == q && s.priPaused i p

/-- A queue of an S-port waits for the end of a pause (R275). -/
def State.pauseHolds (s : State) (i : Nat) : Bool :=
  (List.range 8).any fun q => !((s.egr (8 * (80 + i))).queues.getD q []).isEmpty && s.peerPaused i q

/-- PAUSED_QUANTA up to the present: a quanta is 256/25 root units (R273). The count starts at a frame boundary at which a
pause holds a queue, and ends when none does or the last timer has run out (R275). DEDUCED: log 78. -/
def State.holdSettle (s : State) (i : Nat) : State :=
  let x := s.pause i
  let now := 25 * s.tim.clk
  let holds := s.pauseHolds i
  match x.held with
  | none => if holds && (s.egr (8 * (80 + i))).sending.isNone then s.setPause i { x with held := some now } else s
  | some t =>
    if holds then s
    else
      let n := x.part + (min now (max t (x.ends.foldl max 0)) - t)
      (s.setPause i { x with held := none, part := n % 256 }).bump64 (aPAUSED_QUANTA_LO i) (n / 256)

/-- Queue `q` of an egress is paused: its peer's pause on an S-port (R275), or a head packet whose first flit has not yet
reached the egress (R245, R247). -/
def State.qPaused (s : State) (e q : Nat) : Bool :=
  let pfc := decide (640 ≤ e) && s.peerPaused (e / 8 - 80) q
  let late := match (s.egr e).queues.getD q [] with | h :: _ => decide (s.tim.clk < h.ready) | [] => false
  pfc || late

/-- Strict queue `q` is eligible (R250, R252). -/
def State.eligible (s : State) (e q : Nat) : Bool :=
  let x := s.egr e
  !(x.queues.getD q []).isEmpty && !s.qPaused e q && decide (s.fld (aSCH_Q_SHAPE_CAP (e / 8) (e % 8) q) 19 0 ≠ 0)
    && decide (0 < x.tokens.getD q 0)

/-- The queue after `q` in the round of Q3–Q7. -/
def nextQ (q : Nat) : Nat := if q = 7 then 3 else q + 1

/-- The search of R254: the queue whose head is the group's next packet, and the state the search leaves. Each turn of the
loop takes one unit of fuel; a backlogged queue gains at least 512 B a round, so the fuel does not run out on packets the
sub-ports carry. -/
def State.drr (s : State) (e : Nat) : Nat → Option Nat × State
  | 0 => (none, s)
  | fuel + 1 =>
    let x := s.egr e
    let q := x.ptr
    match x.queues.getD q [] with
    | [] => (s.setEgr e { x with deficit := x.deficit.set (q - 3) 0, ptr := nextQ q }).drr e fuel
    | h :: _ =>
      if s.qPaused e q then (s.setEgr e { x with ptr := nextQ q }).drr e fuel
      else
        let w := s.fld (aSCH_Q_SHAPE_WEIGHT (e / 8) (e % 8) (q - 3)) 7 0
        let seen := x.visited.getD (q - 3) false
        let d := if seen then x.deficit.getD (q - 3) 0 else x.deficit.getD (q - 3) 0 + 512 * w
        let x := { x with deficit := x.deficit.set (q - 3) d, visited := x.visited.set (q - 3) true }
        if s.counted e h ≤ d then (some q, s.setEgr e x)
        else (s.setEgr e { x with visited := x.visited.set (q - 3) false, ptr := nextQ q }).drr e fuel

/-- The group has a queue that is non-empty and not paused (R254). -/
def State.groupBusy (s : State) (e : Nat) : Bool :=
  [3, 4, 5, 6, 7].any fun q => !((s.egr e).queues.getD q []).isEmpty && !s.qPaused e q

/-- The empty queues of the group lose their deficits, where the group has no next packet (R254). DEDUCED: log 76. -/
def State.drrIdle (s : State) (e : Nat) : State :=
  let x := s.egr e
  s.setEgr e { x with deficit := (List.range 5).map fun j => if (x.queues.getD (j + 3) []).isEmpty then 0 else x.deficit.getD j 0 }

/-- The candidate of the queues: the first eligible strict queue, else the weighted group's (R245). -/
def State.candidate (s : State) (e : Nat) : Option Nat × State :=
  match [0, 1, 2].find? fun q => s.eligible e q with
  | some q => (some q, s)
  | none => if s.groupBusy e then s.drr e 2000 else (none, s.drrIdle e)

/-! ## The selector -/

/-- Root time left until the earliest instant a packet must have ended by (R246); none where there is none. A staged packet that
waits behind a replay (R459) sets none. -/
def State.limit (s : State) (e : Nat) : Option Nat :=
  let cur := s.curSlot
  let a := (s.nextReserved e (cur + 1)).map fun n => n * slotUnits - s.tim.now
  let b := if 512 ≤ e ∧ e < 640 then some ((cur / 1024 + 1) * 1024 * slotUnits - s.tim.now) else none
  let c := if (s.egr e).resend.isEmpty then (s.egr e).staged.map fun p => p.due - s.tim.clk else []
  (a.toList ++ b.toList ++ c).foldl (fun m x => match m with | none => some x | some y => some (min x y)) none

/-- A packet of `bytes` fits (R246): its end, 8 B of idle and 4 PCLK come no later. -/
def State.fits (s : State) (e bytes : Nat) : Bool :=
  match s.limit e with
  | none => true
  | some t => decide ((bytes + 8) * 64 + 20 * s.rate e ≤ t * s.rate e)

/-- The egress starts to send; on an F- or L-port the next packet starts 8 B of idle after its end at the earliest (R114). -/
def State.startSend (s : State) (e bytes : Nat) (x : Sending) : State :=
  let gap := if e < 640 then 8 else 0
  s.setEgr e { s.egr e with sending := some (x, s.tim.clk + s.wireTime e bytes), freeAt := s.tim.clk + s.wireTime e (bytes + gap) }

/-- Credits an egress has left on a VC (R196). -/
def State.credits (s : State) (e v : Nat) : Nat :=
  ((s.egr e).cum.getD v 0 + 2 ^ 32 - (s.egr e).sent.getD v 0) % 2 ^ 32

/-- SENTv of an egress moved by `n` (R196), which is negative where a granted packet does not start. -/
def State.useCredit (s : State) (e v : Nat) (n : Int) : State :=
  let x := s.egr e
  s.setEgr e { x with sent := x.sent.set v (((x.sent.getD v 0 : Int) + n) % 2 ^ 32).toNat }

/-- CUMv of an egress grows by `n` (R195). -/
def Egress.creditBack (x : Egress) (v n : Nat) : Egress := { x with rxCum := x.rxCum.set v ((x.rxCum.getD v 0 + n) % 2 ^ 32) }

/-- Credits of a packet received on a link's VC return, at root time `at_`, the end of the packet on its link, or now where that
has passed (R195). A packet the K8 made itself came on none. -/
def State.returnCredit (s : State) (ingress v n at_ : Nat) : State :=
  if 640 ≤ ingress then s
  else
    let x := s.egr ingress
    s.setEgr ingress (if at_ ≤ s.tim.clk then x.creditBack v n else { x with owed := x.owed ++ [(v, n, at_)] })

/-- The credits whose packets have ended on their link have returned (R195). -/
def State.creditSettle (s : State) (e : Nat) : State :=
  let x := s.egr e
  let due := x.owed.filter fun o => decide (o.2.2 ≤ s.tim.clk)
  s.setEgr e { due.foldl (fun x o => x.creditBack o.1 o.2.1) x with owed := x.owed.filter fun o => decide (s.tim.clk < o.2.2) }

/-- The last-discard record and the counter of a cause (R201). -/
def State.drop (s : State) (code ingress : Nat) (p : Pkt) : State :=
  let w := code * 2 ^ 28 + ingress % 1024 * 2 ^ 16 + p.kind % 64 * 2 ^ 8 + p.pav % 64
  let s := s.bump (aRTE_DROP (code - 1)) 1
  let s := (s.setReg aRTE_LASTDROP0 (BitVec.ofNat 32 w)).setReg aRTE_LASTDROP1 (BitVec.ofNat 32 (p.dst * 2 ^ 16 + p.src))
  let s := (s.setReg aRTE_LASTDROP2 (BitVec.ofNat 32 s.ns)).evt 10 aRTE_EVENT 0
  if code = 7 then s.evt 10 aRTE_EVENT 4 else if code = 11 then s.evt 10 aRTE_EVENT 3
  else if code = 13 then s.evt 10 aRTE_EVENT 2 else s

/-- A held packet has left, or is discarded: its buffers are freed and its credits return (R195, R228). -/
def State.release (s : State) (h : Held) : State :=
  let s := s.freeHeld h
  if h.eth.isEmpty then s.returnCredit h.ingress h.vcIn (pktFlits h.pkt) h.endAt else s

/-- A packet that was damaged on arrival has left, stomped: its cause is counted, and nothing is discarded (R170, R201). -/
def State.countCause (s : State) (code : Nat) : State := if code = 0 then s else s.bump (aRTE_DROP (code - 1)) 1

/-- A scheduled packet is lost or discarded on the scheduled path: the cause is counted and the hazard recorded
(R182, R188, R524). -/
def State.schedDrop (s : State) (code ingress : Nat) (p : Pkt) : State := (s.drop code ingress p).hazard 4

/-- A scheduled packet that finds its egress not UP, or in test (R162, R182). -/
def State.schedNotUp (s : State) (p : Staged) : State :=
  if (s.sub (p.egr / 8) (p.egr % 8)).state = 8 then (s.bump (aSCHED_DROP (p.egr / 8) (p.egr % 8)) 1).hazard 4
  else s.schedDrop 13 p.ingress p.pkt

/-- A staged TIME packet (R248): until its slot starts it is without its payload. -/
def Staged.isTime (p : Staged) : Bool := p.pkt.kind == 0x3D

/-- A due TIME packet sent (R70, R248). -/
def State.sendTimePkt (s : State) (e : Nat) (p : Staged) : State :=
  let s := s.setEgr e { s.egr e with staged := (s.egr e).staged.drop 1 }
  (s.emit (.pkt e p.pkt false)).startSend e 84 (.link p.pkt)

/-- Due scheduled packet sent (R245, R249): a slot that is not reserved is counted and a hazard. -/
def State.sendSched (s : State) (e : Nat) (p : Staged) : State :=
  let s := if s.reserved e s.curSlot then s
    else ((s.bump (aSCH_SCHED_UNRESV (e / 8) (e % 8)) 1).evt 12 aSCH_EVENT 2).hazard 3
  let x := s.egr e
  let s := s.setEgr e { x with staged := x.staged.drop 1 }
  let crc := pktCrc p.pkt
  let tr := if p.stomped then crc ^^^ 0xFFFFFFFF else crc
  let s := s.capPkt 2 e s.tim.now p.pkt tr p.stomped false false false
  ((s.number e p.pkt p.stomped p.ingress).emit (.pkt e p.pkt p.stomped)).startSend e (84 + 64 * p.pkt.len) (.sched p)

/-- A ready link-local packet sent (R245, R266). -/
def State.sendLink (s : State) (e : Nat) (p : Pkt) : State :=
  let x := s.egr e
  let s := s.setEgr e { x with ready := x.ready.drop 1 }
  let s := if p.kind = 0x3E then s.bump aRTE_CREDIT_TX 1 else s
  (s.emit (.pkt e p false)).startSend e 84 (.link p)

/-- The packet at the head of queue `q` leaves the queue: tokens or deficit pay for it (R250, R254). -/
def State.popQueue (s : State) (e q : Nat) (h : Held) : State :=
  let x := s.egr e
  let l := s.counted e h
  let x := { x with queues := x.queues.set q ((x.queues.getD q []).drop 1) }
  s.setEgr e (if q < 3 then { x with tokens := x.tokens.set q (x.tokens.getD q 0 - 12800 * l) }
    else { x with deficit := x.deficit.set (q - 3) (x.deficit.getD (q - 3) 0 - l) })

/-- The packet was found damaged at its end on its link, which has passed (R170). -/
def State.overBad (s : State) (h : Held) : Bool := h.damaged && decide (h.endAt ≤ s.tim.clk)

/-- A damaged packet that has not begun to leave is discarded, under the cause it was found damaged with (R170, R201). -/
def State.dropBad (s : State) (h : Held) : State := (if h.cause = 0 then s else s.drop h.cause h.ingress h.pkt).release h

/-- The damaged packets in the queues of an egress whose end has passed are discarded, and the credits they were granted return. -/
def State.endQueued (s : State) (e : Nat) : State :=
  let x := s.egr e
  let bad := x.queues.flatten.filter s.overBad
  if bad.isEmpty then s
  else
    let s' := s.setEgr e { x with queues := x.queues.map fun q => q.filter fun h => !s.overBad h }
    bad.foldl (fun s h => (s.useCredit e h.pkt.vc (-(pktFlits h.pkt : Int))).dropBad h) s'

/-- Every damaged packet that waits, or lies in a queue, at its end on its link is discarded there: it has not begun to leave (R170).
DEDUCED: log 14. -/
def State.endDamaged (s : State) : State :=
  let bad := s.rte.wait.filter s.overBad
  let s' := bad.foldl State.dropBad { s with rte := { s.rte with wait := s.rte.wait.filter fun h => !s.overBad h } }
  (s'.rte.egress.map (·.1)).foldl State.endQueued s'

/-- A queued packet sent. -/
def State.sendQueued (s : State) (e q : Nat) (h : Held) : State :=
  let s := s.popQueue e q h
  if h.eth.isEmpty then ((s.number e h.pkt h.damaged h.ingress).emit (.pkt e h.pkt h.damaged)).startSend e h.bytes (.queued q h)
  else (s.emit (.eth (e / 8 - 80) h.eth)).startSend e (s.counted e h) (.queued q h)

/-- The next packet an L-port replays (R459): a scheduled one leaves late, and is recorded as one that leaves (R527); an unscheduled one
keeps out of reserved slots and must fit. -/
def State.sendAgain (s : State) (e : Nat) (c : Copy) (rest : List Copy) : State :=
  let n := 84 + 64 * c.pkt.len
  if !c.pkt.sched && (s.reserved e s.curSlot || !s.fits e n) then s
  else
    let s := s.setEgr e { s.egr e with resend := rest }
    let s := s.bump (aRPL_REPLAYED (e / 8 - 64)) 1
    let s := if c.pkt.sched then (s.bump (aRPL_SCHED_LATE (e / 8 - 64)) 1).hazard 1 else s
    let crc := pktCrc c.pkt
    let s := s.capPkt 2 e s.tim.now c.pkt (if c.stomped then crc ^^^ 0xFFFFFFFF else crc) c.stomped false false false
    (s.emit (.pkt e c.pkt c.stomped)).startSend e n (.resent c)

/-- A REPLAY packet: what a replay resends follows it (R456, R459). -/
def isReplay (p : Pkt) : Bool := p.kind == 0x3C && bitsOf p.tag 31 24 == 3

/-- CCLK cycles 0–63 of a slot in which an L-port sends its TIME packet and nothing else (R71). -/
def State.timeWindow (s : State) (e : Nat) : Bool :=
  decide (512 ≤ e) && decide (e < 640) && decide (s.curSlot % 1024 = 0) && decide (s.curCclk < 64)

/-- What the selector chooses where no scheduled packet is due (R71, R245, R277); what an L-port replays goes ahead of what was not
sent yet (R459). -/
def State.selectRest (s : State) (e : Nat) : State :=
  let x := s.egr e
  let i := e / 8 - 80
  match (if 640 ≤ e then (s.pause i).ctrl else []) with
  | f :: fs =>
    let s := s.setPause i { s.pause i with ctrl := fs }
    (s.emit (.eth i f)).startSend e (f.length + 4 + s.fld (aSCH_PORT_CFG (e / 8)) 5 0) .mac
  | [] =>
    if s.timeWindow e then s
    else
      match x.ready.find? fun _ => s.fits e 84 with
      | some p => s.sendLink e p
      | none =>
        match x.resend with
        | c :: cs => if x.ready.any isReplay then s else s.sendAgain e c cs
        | [] =>
          if s.reserved e s.curSlot then s
          else
            match s.candidate e with
            | (none, s) => s
            | (some q, s) =>
              match (s.egr e).queues.getD q [] with
              | h :: _ => if s.fits e h.bytes then s.sendQueued e q h else s
              | [] => s

/-- One decision of the selector of an idle egress that is UP (R245, R277). A due scheduled packet follows what an L-port replays
(R459); a TIME packet does not, and one whose slot a step has skipped is gone. -/
def State.select (s : State) (e : Nat) : State :=
  let s := s.settle e
  let s := if 640 ≤ e then s.holdSettle (e / 8 - 80) else s
  let s := s.setEgr e { s.egr e with staged := (s.egr e).staged.filter fun p =>
    !(p.isTime && p.pkt.payload.isEmpty && decide (p.due < s.tim.clk)) }
  match (s.egr e).staged with
  | p :: _ =>
    if s.tim.clk < p.due then s.selectRest e
    else if p.isTime then (if p.pkt.payload.isEmpty then s else s.sendTimePkt e p)
    else if (s.egr e).resend.isEmpty then s.sendSched e p
    else s.selectRest e
  | [] => s.selectRest e

/-- The staged packets of an egress that a rest has taken from UP: each that is due is discarded (R182). -/
def State.stagedLate (s : State) (e : Nat) : State :=
  let late := (s.egr e).staged.filter fun p => decide (p.due ≤ s.tim.clk)
  let s := s.setEgr e { s.egr e with staged := (s.egr e).staged.filter fun p => decide (s.tim.clk < p.due) }
  (late.filter fun p => !p.isTime).foldl State.schedNotUp s

/-- EGRESS_SELECT (R245): the selector of one egress at fabric time `time` (0.125 ns); an end that has asked to rest starts nothing
(R136). DESIGN CHOICE: log 96. -/
def execEgressSelect (e time : Nat) (s : State) : Host.Outcome State Fault Refusal :=
  .next (if decide (e < 672) && s.hasSub (e / 8) (e % 8) then
      let s := (s.advTo time).endDamaged
      if !s.egrUp e then s.stagedLate e
      else if (s.egr e).sending.isNone && decide ((s.egr e).freeAt ≤ s.tim.clk) && !s.restHolds e then s.select e
      else s
    else s)

/-! ## Staging -/

/-- A scheduled packet reaches staging: a fifth is discarded (R248, R518); an egress that is not UP takes none (R162, R182). -/
def State.stage (s : State) (p : Staged) : State :=
  let x := s.egr p.egr
  if !s.egrUp p.egr then s.schedNotUp p
  else if (x.staged.filter fun q => !q.isTime).length < 4 then s.setEgr p.egr { x with staged := x.staged ++ [p] }
  else ((((s.bump aPWR_SCHED_OVF 1).evt 19 aPWR_EVENT 2).offer 0x0C 1 (portDie (p.egr / 8)) p.pkt.pav p.egr s.curSlot 0
    0)).hazard 4

/-- The scheduled packet on its way to an egress that is due first; of two, the one that set out first. -/
def State.nextDue (s : State) (e : Nat) : Option Staged :=
  (s.rte.transit.filter fun p => p.egr == e).foldl (fun m p => match m with
    | none => some p
    | some q => if p.due < q.due then some p else some q) none

/-- The TIME packet that an L-port which is UP stages next, due at CCLK cycle 0 of the next slot that is a multiple of 1,024 (R70);
none where it is staged already. -/
def State.nextTime (s : State) (e : Nat) : Option Staged :=
  let slot := (s.tim.slot + 1023) / 1024 * 1024
  if decide (512 ≤ e) && decide (e < 640) && s.egrUp e && !((s.egr e).staged.any Staged.isTime) then
    some ⟨{ ver := 1, kind := 0x3D, sched := true, vc := 0, ce := false, kflag := false, pav := 0, hops := 0, len := 0, dst := 0xFFFF,
            src := 0xFFFF, seq := 0, tag := 0, payload := [] }, e, s.tim.clk + (slot * slotUnits - s.tim.now), false, 0, 0⟩
  else none

/-- SCHED_STAGE (R248): the scheduled packet, or the TIME packet, that an egress is due to send first is staged, 32 PCLK before its
due cycle. -/
def execSchedStage (e : Nat) (s : State) : Host.Outcome State Fault Refusal :=
  .next (
    let put := fun (p : Staged) =>
      let s := s.advTo (s.tim.now + ((p.due - 160) - s.tim.clk))
      if p.isTime then s.setEgr e { s.egr e with staged := (s.egr e).staged ++ [p] }
      else ({ s with rte := { s.rte with transit := s.rte.transit.erase p } }).stage p
    match s.nextDue e, s.nextTime e with
    | some p, some t => put (if p.due ≤ t.due then p else t)
    | some p, none => put p
    | none, some t => put t
    | none, none => s)

/-! ## Link loss -/

/-- A packet selected for an egress and not yet started is selected again (R188). The frames of an S-port, which carry captured
records, stay in their queues: they are never dropped by a rule (R534). -/
def State.reselectAll (s : State) (e : Nat) : State :=
  let x := s.egr e
  let hs := x.queues.flatten
  let s := s.setEgr e { x with queues := x.queues.map (·.filter fun h => !h.eth.isEmpty), deficit := List.replicate 5 0, visited := List.replicate 5 false,
                               ptr := 3 }
  let back := hs.filter fun h => h.eth.isEmpty
  { s with rte := { s.rte with wait := s.rte.wait ++ back } }

/-- The packet being sent is lost (R188, R201), one that an L-port replays too. -/
def State.loseSending (s : State) (e : Nat) : State :=
  match (s.egr e).sending with
  | none => s
  | some (x, _) =>
    let s := s.setEgr e { s.egr e with sending := none }
    match x with
    | .sched p => s.schedDrop 12 p.ingress p.pkt
    | .queued _ h => if h.eth.isEmpty then (s.drop 12 h.ingress h.pkt).release h else s.release h
    | .resent c => if c.pkt.sched then s.schedDrop 12 c.ingress c.pkt else s.drop 12 c.ingress c.pkt
    | _ => s

/-- What the packet path loses when a sub-port leaves UP: the packet being sent, staged scheduled packets, ready link-local
packets; queued packets are selected again (R162, R182, R188, R266). -/
def State.egressLost (s : State) (e : Nat) : State :=
  let s := s.loseSending e
  let st := (s.egr e).staged.filter fun p => !p.isTime
  let s := s.setEgr e { s.egr e with staged := [], ready := [], resend := [] }
  (st.foldl State.schedNotUp s).reselectAll e

/-- Credit state at entry to UP (R195). -/
def State.egressUp (s : State) (e : Nat) : State :=
  let a := 16 * (if e < 512 then s.fld aRTE_VC_ALLOW_F 15 0 else s.fld aRTE_VC_ALLOW_L 15 0)
  s.setEgr e { s.egr e with cum := List.replicate 8 0, sent := List.replicate 8 0, rxCum := List.replicate 8 a,
                            rxSent := List.replicate 8 0, owed := [] }

/-- A packet is queued, being sent or replayed, staged or on its way to an egress (R136, R137). -/
def State.egressBusy (s : State) (e : Nat) : Bool :=
  let x := s.egr e
  !(x.queues.all fun q => q.isEmpty) || x.sending.isSome || !x.staged.isEmpty || !x.ready.isEmpty || !x.resend.isEmpty
    || (s.rte.transit.any fun p => p.egr == e)

/-! ## Calendar access -/

/-- SCH_CAL_READ (R208). -/
def execSchCalRead (path : Path) (v : Word) (s : State) : Host.Outcome State Fault Refusal :=
  .next (s.tblOp path aSCH_CAL_CMD v false (fun s => s.evt 12 aSCH_EVENT 0) fun s =>
    let x := tblGet (fun _ => 0) s.rte.cal (bitsOf v.toNat 15 0)
    ((s.setReg aSCH_CAL_DATA0 (BitVec.ofNat 32 (bitsOf x 23 0))).setReg aSCH_CAL_DATA1
      (BitVec.ofNat 32 (bitsOf x 39 24 * 2 ^ 16 + bitsOf x 49 40))).setFld aSCH_CAL_CMD 30 30 0)

/-- SCH_CAL_WRITE (R263): ignored while a schedule runs. -/
def execSchCalWrite (path : Path) (v : Word) (s : State) : Host.Outcome State Fault Refusal :=
  .next (s.tblOp path aSCH_CAL_CMD v true (fun s => s.evt 12 aSCH_EVENT 0) fun s =>
    if s.schedRunning then s.evt 12 aSCH_EVENT 0
    else
      let d1 := (s.reg aSCH_CAL_DATA1).toNat
      let x := s.fld aSCH_CAL_DATA0 23 0 + 2 ^ 24 * bitsOf d1 31 16 + 2 ^ 40 * bitsOf d1 9 0
      ({ s with rte := { s.rte with cal := tblSet s.rte.cal (bitsOf v.toNat 15 0) x } }).setFld aSCH_CAL_CMD 30 30 0)

end Sys2Proof.Machine
end

