-- ==== Sys2Proof/Machine/Links.lean ====
section
/-! DEFINITION. What the rest of the K8 does when a link, an STC lane, a slot or the schedule changes: streams, replay, time
selection, relay, capture and the bandstand queues. -/

namespace Sys2Proof.Machine

/-! ## Streams and links -/

/-- An entry of which nothing was written. DESIGN CHOICE: log 6. -/
def streamInit : Stream :=
  { data := [0, 0, 0, 0, 0, 0, 0, 0], state := 0, resume := 0, step := 0, kc := 0, lastReset := 0, lastStatus := 0, digest := 0,
    flags := 0, status := 0, noUpd := false, acted := false, got := [], rbit := false, missing := [], detect := none,
    hist := [], rawQ := [], rawSent := [], fired := 0, reqAt := none, uFired := 0, uFlags := 0, wset := 0, uStep := 0, upd := 0, updAt := 0, pageIn := none, wbDone := false,
    l3Done := false }

/-- Stream entry `i`. -/
def State.stream (s : State) (i : Nat) : Stream := tblGet (fun _ => streamInit) s.streams i

/-- The state with a stream entry replaced. -/
def State.setStream (s : State) (i : Nat) (x : Stream) : State := { s with streams := tblSet s.streams i x }

/-- ROLE: 1 sender, 2 receiver. -/
def Stream.role (x : Stream) : Nat := bitsOf (x.data.getD 0 0) 31 30

/-- LPORT of an entry. -/
def Stream.lport (x : Stream) : Nat := bitsOf (x.data.getD 0 0) 23 20

/-- The entry moves to state `st`; a PAUSED entry stays paused and moves at its resume (R440–R442). -/
def Stream.moveTo (x : Stream) (st : Nat) : Stream :=
  if x.state = 0 then x else if x.state = 3 then { x with resume := st } else { x with state := st }

/-- The entry's L-port enters DOWN (R453). -/
def Stream.portDown (x : Stream) : Stream := if x.role = 1 then x.moveTo 2 else x.moveTo 4

/-- An L-port whose sub-port carries traffic. -/
def State.lUp (s : State) (l : Nat) : Bool :=
  s.hasL l && decide (4 ≤ (s.sub (64 + l) 0).state) && decide ((s.sub (64 + l) 0).state ≤ 7)

/-- Every open stream of an L-port whose port enters DOWN (R453). -/
def State.streamsDown (s : State) (l : Nat) : State :=
  { s with streams := s.streams.map fun e => if e.2.lport = l then (e.1, e.2.portDown) else e }

/-- A sub-port leaves UP: what is lost with the link (R130, R188, R453, R461). -/
def State.linkLost (s : State) (p k : Nat) : State :=
  let s := s.egressLost (8 * p + k)
  if 64 ≤ p ∧ p < 80 then (((s.replayFlush (p - 64)).streamsDown (p - 64)).setSrcUp (16 + (p - 64)) false).noSource else s

/-- A sub-port enters UP: fresh credit and replay state (R195, R461). -/
def State.linkUp (s : State) (p k : Nat) : State :=
  let s := s.egressUp (8 * p + k)
  if 64 ≤ p ∧ p < 80 then (s.setLr (p - 64) lrepInit).setSrcUp (16 + (p - 64)) true else s

/-- Packets are queued for a sub-port, or wait for it (R136, R137). -/
def State.queuedFor (s : State) (p k : Nat) : Bool := s.egressBusy (8 * p + k)

/-- The loaded image names a port: in its calendar, its routes or a PORT_REST action (R117). -/
def State.portInSchedule (s : State) (p : Nat) : Bool :=
  match s.img with
  | none => false
  | some i =>
    (i.cal.any fun r => r.run.egr / 8 == p) || (i.route.any fun r => r.valid && r.egr / 8 == p)
      || ((i.actions0 ++ i.actions1).any fun a => a.kind == 0x10 && bitsOf a.arg 9 3 == p)

/-- RPL_BASE of an L-port. -/
def State.rplBase (s : State) (l : Nat) : Nat := (s.reg (aRPL_BASE_LO l)).toNat + (s.reg (aRPL_BASE_HI l)).toNat * 2 ^ 32

/-- The replay store lies wholly inside a REPLAY region for its L-port (R470). -/
def State.replayRangeOk (s : State) (l : Nat) : Bool :=
  let n := s.fld (aRPL_SIZE l) 15 0 * 2 ^ 20
  let b := s.rplBase l
  decide (b < 2 ^ 40) && decide (1 ≤ n) &&
    ((s.regions.map fun e => regionOf e.2).any fun r =>
      r.kind == 2 && r.lport == l && r.covers (b / 2 ^ 39) (b % 2 ^ 39) n)

/-- The relay session on an STC lane ends from afar: what was typed into it of a line is forgotten (R685). -/
def State.relayEnd (s : State) (lane : Nat) : State :=
  match s.mgt.relay with
  | some (l, here) =>
    if l = lane then { s with mgt := { s.mgt with relay := none, relayLine := [], line := if here then [] else s.mgt.line } } else s
  | none => s

/-- A relay session on an STC lane closes with the lane (R685); its frames that wait are lost. -/
def State.relayClose (s : State) (lane : Nat) : State :=
  ({ s with mgt := { s.mgt with relayOut := s.mgt.relayOut.filter fun x => x.1 != lane } }).relayEnd lane

/-! ## Schedule -/

/-- The schedule stops in the present slot on both dies (R57): as by a schedule-stop at this slot. -/
def State.schedStop (s : State) : State :=
  if s.sched.launched then
    { s with sched := { s.sched with desync := true, stop := some (match s.sched.stop with
        | some e => min e s.curSlot | none => s.curSlot) } }
  else s

/-- The capture engine at a slot start: a mark where WITHHOLD changed to `now` (R530). -/
def State.captureHold (s : State) (was now : Bool) : State :=
  if was == now then s else s.capMark (if now then 1 else 2) 0

/-- WITHHOLD at a slot start against that of the one before, replay or none (R90, R530, R541). -/
def State.holdEdge (s : State) : State :=
  let was := s.tim.held
  let now := s.withheld
  let s := { s with tim := { s.tim with held := now } }
  let s := if now && !was then (s.timEvt 3).logTime 6 else if !now && was then s.logTime 7 else s
  s.captureHold was now

end Sys2Proof.Machine
end

