-- ==== Sys2Proof/Machine/Ports.lean ====
section
/-! DEFINITION. Ports and sub-ports: bring-up, HELLO, loss and link rest (R111–R147). -/

namespace Sys2Proof.Machine

/-- Entry to DOWN with the records of R130; `cause` is the log's code (R670). -/
def State.down (s : State) (p k cause : Nat) : State :=
  let s := (s.linkLost p k).enter p k 1
  let s := (s.prtEvt p 1).bump (aLINK_DOWNS p k) 1
  if s.bit aLOG_CTRL 0 then s.offer 0x06 1 (portDie p) 0x80 (8 * p + k) cause 0 0 else s

/-! ## Bring-up -/

/-- A PRT_CTRL value that R117, R119 and R470 let through, by its MODE and REACH and the port's kind. -/
def State.prtCtrlOk (s : State) (p : Nat) (v : Word) : Bool :=
  let m := bitsOf v.toNat 3 1
  let modeOk := if p < 64 then decide (m ≤ 3) else if p < 80 then decide (m ≤ 1) else decide (m = 0)
  let changeOk := decide (m = s.portMode p) || (!s.portOn p && !s.portInSchedule p)
  let reachOk := decide (p < 64) || decide (80 ≤ p) || decide (bitsOf v.toNat 5 4 = 2)
  modeOk && changeOk && reachOk

/-- R470: an L-port enables only with a replay store. -/
def State.enableOk (s : State) (p : Nat) (v : Word) : Bool :=
  !(bitOf v.toNat 0) || decide (p < 64) || decide (80 ≤ p) || s.replayRangeOk (p - 64)

/-- The state a sub-port takes where its link is not up: TEST while a lane of it is in a test, else TRAINING or DISABLED by
ENABLE (R121, R122, R161). DEDUCED: log 34. -/
def State.restartState (s : State) (p k : Nat) : Nat := if s.subTest p k then 8 else if s.portOn p then 2 else 0

/-- The sub-port starts over without its link. -/
def State.restart (s : State) (p k : Nat) : State := (s.enter p k (s.restartState p k)).laneRx p k false false false

/-- ENABLE changes: 0 to 1 puts each sub-port into TRAINING (R122), 1 to 0 disables each; one with a lane in a test is in
TEST (R161). A MODE written while ENABLE is 0 gives the sub-ports other lanes (R112), and a sub-port that the MODE does not have
shows DISABLED in PRT_STATUS. DESIGN CHOICE: log 105. -/
def State.prtEnable (s : State) (p : Nat) (was now : Bool) : State :=
  let ks := List.range (subCount p (s.portMode p))
  let s := (List.range 8).foldl (fun s k => if k < subCount p (s.portMode p) then s else s.setSub p k subInit) s
  if was && now then s
  else if was then ks.foldl (fun s k => (s.linkLost p k).restart p k) s
  else ks.foldl (fun s k => s.restart p k) s

/-- The effect of a write to PRT_CTRL (R117, R119, R122, R470). The REACH code 3 names no class and is stored as written.
DESIGN CHOICE: log 105. -/
def State.prtCtrl (s : State) (p : Nat) (v : Word) : State :=
  if !s.prtCtrlOk p v then s.prtEvt p 4
  else if !s.enableOk p v then (s.prtEvt p 4).evt 17 aMEM_EVENT 1
  else
    let was := s.portOn p
    let s := s.plainWrite (aPRT_CTRL p) v
    s.prtEnable p was (s.portOn p)

/-- PRT_CTRL_WRITE (R117). -/
def execPrtCtrlWrite (path : Path) (p : Nat) (v : Word) (s : State) : Host.Outcome State Fault Refusal :=
  .next (if s.mayWrite path (aPRT_CTRL p) && decide (p < 84) then s.prtCtrl p v else s)

/-- PCS_LOCK (R122): TRAINING reaches lock and HELLO begins. -/
def execPcsLock (p k : Nat) (s : State) : Host.Outcome State Fault Refusal :=
  .next (if s.hasSub p k && (s.sub p k).state == 2 && !s.tapDrives then
      (s.setSub p k { subInit with state := 3 }).laneRx p k true true true else s)

/-- TRAIN_FAIL (R122, R453): DOWN, recorded by TRAIN_FAIL only; the streams of an L-port see it go DOWN. -/
def execTrainFail (p k : Nat) (s : State) : Host.Outcome State Fault Refusal :=
  .next (if s.hasSub p k && (s.sub p k).state == 2 then
      let s := if 64 ≤ p ∧ p < 80 then s.streamsDown (p - 64) else s
      (s.enter p k 1).prtEvt p 2
    else s)

/-- ARG of this end's HELLO_ID: site and switch of RTE_ID (R128, R177). -/
def State.helloId (s : State) : Nat := s.fld aRTE_ID 12 0

/-- ARG of this end's HELLO_PORT (R128). -/
def State.helloPort (s : State) (p k : Nat) : Nat := p + 2 ^ 8 * k + 2 ^ 11 * s.portMode p

/-- HELLO_SEND (R123). -/
def execHelloSend (p k : Nat) (s : State) : Host.Outcome State Fault Refusal :=
  .next (if s.hasSub p k && (s.sub p k).state == 3 then
      (s.sendOs p k 0x01 s.helloId).sendOs p k 0x02 (s.helloPort p k) else s)

/-- The sub-port enters UP and records its peer (R123, PRT_PEER). -/
def State.enterUp (s : State) (p k : Nat) : State :=
  let x := s.sub p k
  let id := x.idRx.getD 0
  let pt := x.portRx.getD 0
  let peer := 2 ^ 31 + bitsOf pt 13 11 * 2 ^ 27 + bitsOf pt 10 8 * 2 ^ 24 + bitsOf pt 7 0 * 2 ^ 16 + bitsOf id 12 0
  let s := s.setSub p k { subInit with state := 4, peer := peer }
  (s.prtEvt p 0).linkUp p k

/-- HELLO_ACK once both of the peer's sets agree, and UP once both acknowledgements have passed (R123). -/
def State.helloStep (s : State) (p k : Nat) : State :=
  let x := s.sub p k
  let both := x.idRx.isSome && x.portRx.isSome
  let s := if both && !x.ackTx then (s.setSub p k { x with ackTx := true }).sendOs p k 0x03 0 else s
  let x := s.sub p k
  if x.ackTx && x.ackRx then s.enterUp p k else s

/-- HELLO_ID_RX (R124). -/
def execHelloIdRx (p k arg : Nat) (s : State) : Host.Outcome State Fault Refusal :=
  .next (if s.hasSub p k && (s.sub p k).state == 3 then
      (s.setSub p k { s.sub p k with idRx := some arg }).helloStep p k else s)

/-- HELLO_PORT_RX (R123, R124): a differing MODE sets HELLO_MISMATCH once per entry to HELLO. -/
def execHelloPortRx (p k arg : Nat) (s : State) : Host.Outcome State Fault Refusal :=
  .next (if s.hasSub p k && (s.sub p k).state == 3 then
      if bitsOf arg 13 11 = s.portMode p then (s.setSub p k { s.sub p k with portRx := some arg }).helloStep p k
      else if (s.sub p k).misSeen then s
      else (s.setSub p k { s.sub p k with misSeen := true }).prtEvt p 3
    else s)

/-- HELLO_ACK_RX (R123). -/
def execHelloAckRx (p k : Nat) (s : State) : Host.Outcome State Fault Refusal :=
  .next (if s.hasSub p k && (s.sub p k).state == 3 then
      (s.setSub p k { s.sub p k with ackRx := true }).helloStep p k else s)

/-- HELLO_TIMEOUT (R124, R130): DOWN with cause 5. -/
def execHelloTimeout (p k : Nat) (s : State) : Host.Outcome State Fault Refusal :=
  .next (if s.hasSub p k && (s.sub p k).state == 3 && (s.sub p k).idRx.isNone then s.down p k 5 else s)

/-- RETRY_TIMEOUT (R125, R161): TRAINING, or TEST while a lane of it is in a test. DEDUCED: log 35. -/
def execRetryTimeout (p k : Nat) (s : State) : Host.Outcome State Fault Refusal :=
  .next (if s.hasSub p k && (s.sub p k).state == 1 && s.portOn p && !s.log.fatal then s.enter p k (s.restartState p k) else s)

/-- The KINDs of R128. -/
def osKnown (kind : Nat) : Bool := [0x01, 0x02, 0x03, 0x10, 0x11, 0x12, 0x13, 0x14, 0x15].contains kind

/-- OS_UNKNOWN (R128). -/
def execOsUnknown (p k kind : Nat) (s : State) : Host.Outcome State Fault Refusal :=
  .next (if s.hasSub p k && !osKnown kind then s.bump (aOS_UNKNOWN p k) 1 else s)

/-- What the receivers show when the link is lost: signal detect has fallen on the lanes `lost` (SIG_LOSS), or a lock is gone,
or UNCORR_LIMIT codewords were uncorrectable (R129). DEDUCED: log 106. -/
def State.lossSeen (s : State) (p k cause lost : Nat) : State :=
  if cause = 1 then
    (s.subLanes p k).foldl (fun s i =>
      if bitOf lost (i % 8) && (s.lane i).sigDet then
        (s.setLane i { s.lane i with sigDet := false, cdr := false, sym := false }).lneEvt i 0
      else s.setLane i { s.lane i with sym := false }) s
  else if cause = 2 then s.laneRx p k true true false
  else if cause = 3 then s.bump64 (aFEC_UNCORR_CW_LO p k) (s.fld (aPRT_LOSS_CFG p) 7 0)
  else s

/-- Electrical idle on the lanes `lost` of a resting receive direction: signal and locks go, and no loss is declared (R131). -/
def State.idleSeen (s : State) (p k lost : Nat) : State :=
  (s.subLanes p k).foldl (fun s i =>
    if bitOf lost (i % 8) then s.setLane i { s.lane i with sigDet := false, cdr := false, sym := false } else s) s

/-- Every lane of the sub-port detects signal. -/
def State.allSignal (s : State) (p k : Nat) : Bool := (s.subLanes p k).all fun i => (s.lane i).sigDet

/-- LINK_DOWN (R129–R131) by cause 1 signal, on the lanes `lost`, 2 lock, 3 FEC or 4 fault sets. On a resting receive direction
absent signal is electrical idle, and lock and FEC are lost to it until every lane has its signal back. DEDUCED: log 106. -/
def execLinkDown (p k cause lost : Nat) (s : State) : Host.Outcome State Fault Refusal :=
  .next (
    let x := s.sub p k
    let can := x.state == 3 || x.state == 4 || x.state == 5 || x.state == 7
    if !s.hasSub p k || !decide (1 ≤ cause) || !decide (cause ≤ 4) then s
    else if x.rxRest && decide (cause = 1) then s.idleSeen p k lost
    else if can && !(x.rxRest && decide (cause ≤ 3) && !s.allSignal p k) then (s.lossSeen p k cause lost).down p k cause
    else s)

/-! ## Link rest -/

/-- The slot is one in which an L-port starts no idle entry (R145). DEDUCED: log 99. -/
def nearTimeWindow (slot : Nat) : Bool := let r := slot % 1024; decide (1020 ≤ r) || decide (r = 0)

/-- IDLE_REST_TIMEOUT (R136, R145): IDLE_SLOTS slots after the slot in which the last packet ended or the count started over.
DEDUCED: log 99. -/
def execIdleRestTimeout (p k : Nat) (s : State) : Host.Outcome State Fault Refusal :=
  .next (
    let x := s.sub p k
    if s.hasSub p k && decide (p < 80) && x.state == 4 && !x.reqSent && x.pend.isNone && s.bit (aPRT_CTRL p) 6
        && !s.queuedFor p k then
      let s := s.advTo ((max x.idle (s.egr (8 * p + k)).idle + s.fld (aPRT_REST_CTRL p) 15 0) * slotUnits)
      if decide (64 ≤ p) && nearTimeWindow s.curSlot then s
      else (s.sendOs p k 0x10 0).setSub p k { x with reqSent := true }
    else s)

/-- Why a REST_REQ is answered with REST_NAK: 1 queued, 2 ALLOW_PEER 0, 3 TIME window near, 0 it is not (R137, R145).
DESIGN CHOICE: log 33. -/
def State.restNak (s : State) (p k : Nat) : Nat :=
  if s.queuedFor p k then 1 else if !s.bit (aPRT_CTRL p) 7 then 2
  else if decide (64 ≤ p) && nearTimeWindow s.curSlot then 3 else 0

/-- REST_REQ_RX (R137, R138). DESIGN CHOICE: log 33. -/
def execRestReqRx (p k : Nat) (s : State) : Host.Outcome State Fault Refusal :=
  .next (
    let x := s.sub p k
    if s.hasSub p k && decide (p < 80) && x.state == 4 then
      let why := s.restNak p k
      if why = 0 then (s.sendOs p k 0x11 0).commit p k 0
      else
        let s := s.sendOs p k 0x12 why
        if why = 1 ∧ x.reqSent then s.abandon p k else s
    else s)

/-- REST_ACK_RX (R137, R138). Where a TIME window has come near since the request, the entry is abandoned (R139, R145).
DEDUCED: log 99. -/
def execRestAckRx (p k : Nat) (s : State) : Host.Outcome State Fault Refusal :=
  .next (if s.hasSub p k && (s.sub p k).state == 4 && (s.sub p k).reqSent then
      if decide (64 ≤ p) && nearTimeWindow s.curSlot then s.abandon p k else s.commit p k 0
    else s)

/-- REST_NAK_RX (R137): the initiator stays UP; its reason changes nothing. -/
def execRestNakRx (p k _reason : Nat) (s : State) : Host.Outcome State Fault Refusal :=
  .next (if s.hasSub p k && (s.sub p k).state == 4 && (s.sub p k).reqSent then
      s.setSub p k { s.sub p k with reqSent := false, idle := s.curSlot } else s)

/-- REST_COMMIT_RX (R146): the receive direction rests, whichever entry the ARG names; signal and locks go later, with the peer's
electrical idle (LINK_DOWN, R131). -/
def execRestCommitRx (p k _arg : Nat) (s : State) : Host.Outcome State Fault Refusal :=
  .next (if s.hasSub p k && decide (p < 80) && decide (4 ≤ (s.sub p k).state) && decide ((s.sub p k).state ≤ 7) then
      s.setSub p k { s.sub p k with rxRest := true } else s)

/-- REST_ABORT_RX (R143). -/
def execRestAbortRx (p k : Nat) (s : State) : Host.Outcome State Fault Refusal :=
  .next (if s.hasSub p k then s.wakeReq p k else s)

/-- WAKE_RX (R143, R146): a resting receive direction leaves rest, its locks regained. -/
def execWakeRx (p k : Nat) (s : State) : Host.Outcome State Fault Refusal :=
  .next (if s.hasSub p k then
      (if (s.sub p k).rxRest then (s.setSub p k { s.sub p k with rxRest := false }).laneRx p k true true true else s).wakeReq p k
    else s)

/-- REST_ENTRY_DONE (R140, R141): the entry ends 600 ns after REST_COMMIT, and with a wake request held exit begins at that
instant. -/
def execRestEntryDone (p k : Nat) (s : State) : Host.Outcome State Fault Refusal :=
  .next (
    let x := s.sub p k
    if s.hasSub p k && x.state == 5 then
      (s.advTo (s.tim.now + (x.since + restIn - s.tim.clk))).setSub p k
        { x with state := if x.wake then 7 else 6, since := x.since + restIn }
    else s)

/-- The largest wake latency seen, in ns, rounded as `toUnits` does (WAKE_MAX_NS). DEDUCED: log 99. -/
def State.wakeMax (s : State) (p k ns : Nat) : State :=
  s.setReg (aWAKE_MAX_NS p k) (BitVec.ofNat 32 (max (s.reg (aWAKE_MAX_NS p k)).toNat ns))

/-- REST_EXIT_DONE (R141, R142): exit ends 1,400 ns after it began, WAKE is sent and the direction is UP. -/
def execRestExitDone (p k : Nat) (s : State) : Host.Outcome State Fault Refusal :=
  .next (
    let x := s.sub p k
    if s.hasSub p k && x.state == 7 then
      let s := s.advTo (s.tim.now + (x.since + restOut - s.tim.clk))
      let s := s.setSub p k { x with state := 4, wake := false, sched := false, idle := s.curSlot }
      let s := if x.wake then s.wakeMax p k (toUnits ((x.since + restOut : Nat) - (x.wakeAt : Int)) 8).toNat else s
      s.sendOs p k 0x15 0
    else s)

/-- REST_WINDOW_EXIT (R144): at CCLK 0 of slot SLOT + W − 2. DEDUCED: log 99. -/
def execRestWindowExit (p k : Nat) (s : State) : Host.Outcome State Fault Refusal :=
  .next (
    let x := s.sub p k
    if s.hasSub p k && x.sched && (x.state == 6 || x.state == 5) && !x.wake then
      let s := s.advTo ((x.winEnd - 2) * slotUnits)
      if s.entered x then s.setSub p k { x with state := 7, since := s.tim.clk } else s
    else s)

/-- The first slot 1,024 m − 2 whose start is not before fabric time `t` (R145). -/
def windowSlot (t : Nat) : Nat :=
  let n := (t + slotUnits - 1) / slotUnits
  (n + 2 + 1023) / 1024 * 1024 - 2

/-- TIME_WINDOW_WAKE (R145): at CCLK cycle 0 of slot 1,024 m − 2 an L-port that rests begins exit for the TIME window, and one
that has begun an entry and not committed abandons it. -/
def execTimeWindowWake (p k : Nat) (s : State) : Host.Outcome State Fault Refusal :=
  .next (if s.hasSub p k && decide (64 ≤ p) && decide (p < 80) && (resting (s.sub p k).state || (s.sub p k).asked) then
      (s.advTo (windowSlot s.tim.now * slotUnits)).wakeReq p k else s)

/-- RX_SIGNAL_RETURN (R143, R146): signal detect, kept powered, sees the peer's exit, and the locks are regained, at the latest
1,000 ns after it. The model has them at once. DEDUCED: log 106. -/
def execRxSignalReturn (p k : Nat) (s : State) : Host.Outcome State Fault Refusal :=
  .next (if s.hasSub p k && (s.sub p k).rxRest then (s.laneRx p k true true true).wakeReq p k else s)

/-- The effect of a write to PRT_REST_CTRL: IDLE_SLOTS stored, and WAKE a wake request on every sub-port (R143). -/
def State.prtRestCtrl (s : State) (p : Nat) (v : Word) : State :=
  let s := s.plainWrite (aPRT_REST_CTRL p) v
  if bitOf v.toNat 16 then (List.range (subCount p (s.portMode p))).foldl (fun s k => s.wakeReq p k) s else s

/-- PRT_REST_WAKE (R143). -/
def execPrtRestWake (path : Path) (p : Nat) (v : Word) (s : State) : Host.Outcome State Fault Refusal :=
  .next (if s.mayWrite path (aPRT_REST_CTRL p) && decide (p < 84) then s.prtRestCtrl p v else s)

end Sys2Proof.Machine
end

