-- ==== Sys2Proof/Machine/Routing.lean ====
section
/-! DEFINITION. Packets: checks on arrival, lookup, policing, buffering, spraying, credits, aging and the route tables
(R163–R208, R268–R271, R599). -/

namespace Sys2Proof.Machine

/-! ## Tables (R178, R208) -/

/-- A bit of RTE_EVENT. -/
def State.rteEvt (s : State) (bit : Nat) : State := s.evt 10 aRTE_EVENT bit

/-- Entries in a table, 0 for a reserved TABLE value. -/
def rteSize (t : Nat) : Nat :=
  if t = 0 then 16384 else if t = 1 then 1024 else if t = 2 then 8 else if t = 3 then 32768 else if t = 4 then 640 else 0

/-- The bits of DATA0 that a table's entries hold. -/
def rteMask (t : Nat) : Nat :=
  if t = 0 then 0xBF3FF3FF else if t = 1 then 0xF3FF83FF else if t = 2 then 0x83FF83FF else if t = 3 then 0x800003FF else 1

/-- A route table by its TABLE value. -/
def Route.table (r : Route) (t : Nat) : List (Nat × Nat) :=
  if t = 0 then r.endpoint else if t = 1 then r.switch else if t = 2 then r.site else if t = 3 then r.group else r.dir

/-- An entry of a route table. -/
def State.rteGet (s : State) (t i : Nat) : Nat := tblGet (fun _ => 0) (s.rte.table t) i

/-- An entry as it stood at the start of the PCLK cycle, which a lookup or selection of the cycle uses (R189). -/
def State.rteAt (s : State) (t i : Nat) : Nat :=
  match s.svc.was.find? fun x => x.1 == rteKey t i with
  | some x => x.2
  | none => s.rteGet t i

/-- An entry of a route table replaced. -/
def State.rteSet (s : State) (t i v : Nat) : State :=
  let s := s.noteWas (rteKey t i) (s.rteGet t i)
  let r := s.rte
  { s with rte :=
    if t = 0 then { r with endpoint := tblSet r.endpoint i v } else if t = 1 then { r with switch := tblSet r.switch i v }
    else if t = 2 then { r with site := tblSet r.site i v } else if t = 3 then { r with group := tblSet r.group i v }
    else { r with dir := tblSet r.dir i v } }

/-- The fields of R183 that the image owns: SEGR and SEGR_VALID, or the endpoint's EGR. -/
def imageField (t v : Nat) : Nat := if t = 0 then bitsOf v 21 12 else if t = 1 ∨ t = 2 then bitsOf v 25 15 else 0

/-- R595: a valid endpoint entry names a sub-port of another pavilion's port. -/
def State.foreignEp (s : State) (t v : Nat) : Bool :=
  t == 0 && bitOf v 31 && (match s.portPav (bitsOf v 21 12 / 8) with
    | some p => decide (p ≠ bitsOf v 29 24)
    | none => false)

/-- The write of one entry (R183, R208, R595). -/
def State.rteWrite (s : State) (t i : Nat) : State :=
  let v := (s.reg aRTE_TBL_DATA0).toNat &&& rteMask t
  if rteSize t ≤ i then s.setFld aRTE_TBL_CMD 30 30 1
  else
    let s := s.setFld aRTE_TBL_CMD 30 30 0
    if s.schedRunning && decide (imageField t v ≠ imageField t (s.rteGet t i)) then s.rteEvt 1
    else if s.foreignEp t v then s.rteEvt 1
    else s.rteSet t i v

/-- RTE_TBL_READ (R208). -/
def execRteTblRead (path : Path) (v : Word) (s : State) : Host.Outcome State Fault Refusal :=
  .next (s.tblOp path aRTE_TBL_CMD v false (fun s => s.rteEvt 1) fun s =>
    let t := bitsOf v.toNat 26 24
    let i := bitsOf v.toNat 15 0
    if rteSize t ≤ i then s.setFld aRTE_TBL_CMD 30 30 1
    else (s.setReg aRTE_TBL_DATA0 (BitVec.ofNat 32 (s.rteGet t i))).setFld aRTE_TBL_CMD 30 30 0)

/-- RTE_TBL_WRITE (R208). -/
def execRteTblWrite (path : Path) (v : Word) (s : State) : Host.Outcome State Fault Refusal :=
  .next (s.tblOp path aRTE_TBL_CMD v true (fun s => s.rteEvt 1) fun s =>
    s.rteWrite (bitsOf v.toNat 26 24) (bitsOf v.toNat 15 0))

/-! ## Classification -/

/-- How a receiver classes a packet by its trailer and length (R169, R171). -/
inductive Rx where
  | good | stomped | crc | len
  deriving DecidableEq, Repr

/-- The class of an arriving packet: `lenErr` is a terminate character out of place, and so is a payload of a length that LEN does not
give (R171). -/
def classify (r : RxPkt) : Rx :=
  let c := pktCrc r.pkt
  if r.lenErr || decide (r.pkt.payload.length ≠ 64 * (r.pkt.len + 1)) then .len else if r.trailer = c then .good else if r.trailer = c ^^^ 0xFFFFFFFF then .stomped else .crc

/-- The cause of R201 for a class that is not good. -/
def Rx.code : Rx → Nat
  | .good => 0
  | .stomped => 2
  | .crc => 1
  | .len => 3

/-- The kinds of R173 that are link-local. -/
def linkKind (k : Nat) : Bool := k == 0x3C || k == 0x3D || k == 0x3E

/-- The kinds routed to a switch. -/
def switchKind (k : Nat) : Bool := k == 0x02 || k == 0x04 || k == 0x08 || k == 0x09 || k == 0x0C

/-- The kinds routed to an endpoint. -/
def epKind (k : Nat) : Bool := k == 0x01 || k == 0x03 || k == 0x0D

/-- The class a kind allows (R173). -/
def schedOk (k : Nat) (sched : Bool) : Bool :=
  if k = 0x08 ∨ k = 0x09 then sched else if k = 0x0C ∨ k = 0x0D then !sched else true

/-- The packet breaks R175 on a port. -/
def kindErr (port : Nat) (p : Pkt) : Bool :=
  if linkKind p.kind then
    !(if p.kind = 0x3E then decide (port < 80) else decide (64 ≤ port) && decide (port < 80))
      || decide (p.dst ≠ 0xFFFF) || decide (p.src ≠ 0xFFFF) || decide (p.pav ≠ 0) || decide (p.hops ≠ 0)
      || decide (p.vc ≠ 0) || decide (p.len ≠ 0) || (p.sched != (p.kind == 0x3D))
  else
    !(switchKind p.kind || epKind p.kind) || !schedOk p.kind p.sched
      || (epKind p.kind && decide (0xC000 ≤ p.dst) && decide (p.dst ≤ 0xC3FF))
      || (switchKind p.kind && decide (p.dst ≤ 0x3FFF))

/-- The code of the first check that a link-local packet fails, or 0 (R201). -/
def linkCause (port : Nat) (r : RxPkt) : Nat := if r.pkt.ver ≠ 1 then 4 else if kindErr port r.pkt then 5 else (classify r).code

/-- A fresh CRC error, a length error, an error control block or an uncorrectable codeword came with the packet (R457). -/
def rxBroken (r : RxPkt) : Bool := classify r == .crc || classify r == .len || r.lineErr

/-- What came broken on an L-port, link-local or not, puts its receiver in RECOVER (R457). -/
def State.lineBad (s : State) (port : Nat) (r : RxPkt) : State :=
  if decide (64 ≤ port) && decide (port < 80) && rxBroken r && !(s.lr (port - 64)).recover then
    s.setLr (port - 64) { s.lr (port - 64) with recover := true, nak := true }
  else s

/-- The sub-port takes packets of its link: it is UP, or its transmit direction rests. -/
def State.rxLive (s : State) (port sub : Nat) : Bool :=
  s.hasSub port sub && decide (port < 80) && decide (4 ≤ (s.sub port sub).state) && decide ((s.sub port sub).state ≤ 7)

/-- A link-local packet that is consumed at its port: it acts only where it is good and passes its checks; otherwise the
first cause is counted (R172, R201). -/
def State.linkRx (s : State) (port sub kind : Nat) (r : RxPkt) (act : State → State) : State :=
  if !(s.rxLive port sub && r.pkt.kind == kind) then s
  else
    let c := linkCause port r
    let s := s.lineBad port r
    if c = 0 then act s else s.drop c (8 * port + sub) r.pkt

/-! ## Lookup (R178) -/

/-- What the lookup of R178 answers. -/
inductive Found where
  | drop (code : Nat)
  | local (egr pav : Nat)
  | unit
  | forward (entry : Nat)
  deriving DecidableEq, Repr

/-- A switch or site entry is valid: one that uses an invalid reference acts as not valid (R179). -/
def State.hopOk (s : State) (f : Nat) : Bool := bitOf f 31 && (!bitOf f 15 || s.egrOk (bitsOf f 25 16))

/-- The switch entry, or the site entry it leads to, or no route. -/
def State.viaSwitch (s : State) (sw hops : Nat) : Found :=
  let e := s.rteAt 1 sw
  if !s.hopOk e then .drop 7
  else
    let f := if bitsOf e 30 28 ≠ s.fld aRTE_ID 12 10 then s.rteAt 2 (bitsOf e 30 28) else e
    if !s.hopOk f then .drop 7 else if hops = 0 then .drop 9 else .forward f

/-- The lookup of R178; with FWD_EN at 0 there is no route (R180). -/
def State.lookup (s : State) (dst hops : Nat) : Found :=
  let own := s.fld aRTE_ID 9 0
  if dst ≤ 0x3FFF then
    if !s.bit aRTE_CTRL 0 then .drop 7
    else
      let e := s.rteAt 0 dst
      if !bitOf e 31 then .drop 7
      else if bitsOf e 9 0 = own then
        if s.egrOk (bitsOf e 21 12) then .local (bitsOf e 21 12) (bitsOf e 29 24) else .drop 7
      else s.viaSwitch (bitsOf e 9 0) hops
  else if 0xC000 ≤ dst ∧ dst ≤ 0xC3FF then
    if !s.bit aRTE_CTRL 0 then .drop 7 else if dst % 1024 = own then .unit else s.viaSwitch (dst % 1024) hops
  else .drop 6

/-! ## Policers (R268–R271) -/

/-- A policer entry that is disabled. DESIGN CHOICE: log 6. -/
def polInit : Policer := ⟨false, false, false, 0, 0, 0, 0, 0, 0, 0, 0, 0⟩

/-- Policer entry `i`. -/
def State.policer (s : State) (i : Nat) : Policer := tblGet (fun _ => polInit) s.rte.pol i

/-- The state with a policer entry replaced. -/
def State.setPolicer (s : State) (i : Nat) (p : Policer) : State := { s with rte := { s.rte with pol := tblSet s.rte.pol i p } }

/-- The buckets after `n` PCLK cycles: each adds CIR × 0.625 ns / 8, kept to 16 fractional bits, to the committed bucket
while it is below CBS, else to the excess bucket (R270). DEDUCED: log 76. -/
def Policer.grow (p : Policer) (n : Nat) : Policer :=
  let inc := p.cir * 128 / 25
  let cmax := p.cbs * 65536
  let k := if inc = 0 then 0 else (cmax - p.c + inc - 1) / inc
  let a := min n k
  { p with c := min cmax (p.c + a * inc), e := min (p.ebs * 65536) (p.e + (n - a) * inc), clk := p.clk + n }

/-- The marker of R270 on a counted length: 0 green, 1 yellow, 2 red. DEDUCED: log 76. -/
def Policer.colour (p : Policer) (l : Nat) : Nat × Policer :=
  if l * 65536 ≤ p.c then (0, { p with c := p.c - l * 65536, green := min 0xFFFFFFFF (p.green + 1) })
  else if l * 65536 ≤ p.e then (1, { p with e := p.e - l * 65536, yellow := min 0xFFFFFFFF (p.yellow + 1) })
  else (2, { p with red := min 0xFFFFFFFF (p.red + 1) })

/-- The policer of ingress `e` and VC or priority `v` acts on a packet of counted length `l` (R268–R271): whether it passes,
and whether CE is set. -/
def State.police (s : State) (e v l : Nat) : Bool × Bool × State :=
  let i := 8 * e + v
  let p := s.policer i
  if !p.enable then (true, false, s.setPolicer i { p with green := min 0xFFFFFFFF (p.green + 1) })
  else
    let r := (p.grow (s.tim.clk / 5 - p.clk)).colour l
    let s := s.setPolicer i r.2
    if r.1 = 0 then (true, false, s)
    else if r.1 = 1 then (true, p.ymark, s)
    else
      let s := s.evt 12 aSCH_EVENT 1
      if p.rmark then (true, true, s) else (false, false, s.bump64 aSCH_POL_RED_TOTAL_LO 1)

/-- SCH_POL_READ (R208). -/
def execSchPolRead (path : Path) (v : Word) (s : State) : Host.Outcome State Fault Refusal :=
  .next (s.tblOp path aSCH_POL_CMD v false (fun s => s.evt 12 aSCH_EVENT 0) fun s =>
    let i := bitsOf v.toNat 12 0
    if 5376 ≤ i then s.setFld aSCH_POL_CMD 30 30 1
    else
      let p := s.policer i
      let d := b2n p.enable * 2 ^ 31 + b2n p.ymark * 2 ^ 30 + b2n p.rmark * 2 ^ 29 + p.cir
      (((s.setReg aSCH_POL_DATA0 (BitVec.ofNat 32 d)).setReg aSCH_POL_DATA1 (BitVec.ofNat 32 p.cbs)).setReg
        aSCH_POL_DATA2 (BitVec.ofNat 32 p.ebs)).setFld aSCH_POL_CMD 30 30 0)

/-- SCH_POL_WRITE (R270): both buckets are full when the entry is enabled; one that stays enabled keeps its tokens, up to the new
sizes. -/
def execSchPolWrite (path : Path) (v : Word) (s : State) : Host.Outcome State Fault Refusal :=
  .next (s.tblOp path aSCH_POL_CMD v true (fun s => s.evt 12 aSCH_EVENT 0) fun s =>
    let i := bitsOf v.toNat 12 0
    if 5376 ≤ i then s.setFld aSCH_POL_CMD 30 30 1
    else
      let d := (s.reg aSCH_POL_DATA0).toNat
      let cbs := s.fld aSCH_POL_DATA1 23 0
      let ebs := s.fld aSCH_POL_DATA2 23 0
      let was := s.policer i
      let fill := bitOf d 31 && !was.enable
      let old := was.grow (s.tim.clk / 5 - was.clk)
      let p := { old with
        enable := bitOf d 31, ymark := bitOf d 30, rmark := bitOf d 29, cir := bitsOf d 19 0, cbs := cbs, ebs := ebs
        c := if fill then cbs * 65536 else min old.c (cbs * 65536)
        e := if fill then ebs * 65536 else min old.e (ebs * 65536)
        clk := s.tim.clk / 5 }
      (s.setPolicer i p).setFld aSCH_POL_CMD 30 30 0)

/-! ## Arrival -/

/-- The core die and allocator port that serve an ingress port (R209). -/
def allocPort (port : Nat) : Nat × Nat :=
  if port < 64 then (port / 32, port % 32 / 4)
  else if port < 80 then let l := port - 64; (l / 4 % 2, 8 + l % 4)
  else ((port - 80) % 2, 12)

/-- Root time of a scheduled forwarding, of the shortest cut-through and of the least stay of an originated packet (R205). -/
def schedLat : Nat := 1360
/-- 190 ns. -/
def unschedLat : Nat := 1520

/-- Credits of an unscheduled packet that never took a buffer return at the end of the packet on its link (R195). -/
def State.giveBack (s : State) (e : Nat) (p : Pkt) : State :=
  if p.sched then s else s.returnCredit e p.vc (pktFlits p) (s.tim.clk + s.wireTime e (84 + 64 * p.len))

/-- An arriving packet discarded for a cause of R201. -/
def State.dropRx (s : State) (code e : Nat) (p : Pkt) : State := (s.drop code e p).giveBack e p

/-- A scheduled packet put on its way to an egress, which it reaches when it is staged (R181, R182, R599). `owned` is whether its
ingress is owned; `wire` its time on the ingress link. A damaged packet that has begun to leave ends stomped; otherwise it is
discarded (R170). -/
def State.forwardSched (s : State) (e egr : Nat) (p : Pkt) (c : Rx) (wire : Nat) (owned : Bool) : State :=
  if owned && !s.reserved egr ((s.tim.now + schedLat) / slotUnits) then
    (s.bump aPAV_SCHED_ADMIT 1).evt 4 aPAV_EVENT 5
  else if decide (c = .good) || decide (schedLat < wire) then
    { s with rte := { s.rte with transit := s.rte.transit ++
        [⟨p, egr, s.tim.clk + schedLat, decide (c ≠ .good), c.code, e⟩] } }
  else s.drop c.code e p

/-- An unscheduled packet stored (R210–R214, R229): none where no buffer was to be had. -/
def State.store (s : State) (e : Nat) (p : Pkt) (c : Rx) (hop : Hop) : Option Held × State :=
  let (die, a) := allocPort (e / 8)
  let o := 8 * p.pav + p.vc
  let born := s.tim.clk
  let (r, s) := s.alloc die a o (pktFlits p)
  match r with
  | none => (none, s.giveBack e p)
  | some (k, hs) =>
    let h : Held :=
      { id := s.rte.nextId, pkt := p, eth := [], ingress := e, die := die, pool := k, handles := hs, owner := o, vcIn := p.vc,
        born := born, endAt := born + s.wireTime e (84 + 64 * p.len), rate := s.rate e, ready := 0,
        damaged := decide (c ≠ .good), cause := c.code, hop := hop }
    (some h, { s with rte := { s.rte with nextId := s.rte.nextId + 1 } })

/-- An unscheduled packet put to wait for an egress: a damaged one that cannot have begun to leave by its end is discarded
(R170, R205). -/
def State.waitFor (s : State) (e : Nat) (p : Pkt) (c : Rx) (hop : Hop) : State :=
  match s.store e p c hop with
  | (none, s) => s
  | (some h, s) =>
    if decide (c = .good) || decide (h.born + unschedLat < h.endAt) then
      { s with rte := { s.rte with wait := s.rte.wait ++ [h] } }
    else (s.drop c.code e p).release h

/-- A good packet that a unit of this switch takes: the packet, its buffer where it is unscheduled, its ingress, the fabric time of
its first header bit (R205), that at which its trailer shows it good (R172), and that at which it stands at the input of a cluster
gateway: 120 ns after its first header bit, and not before its trailer (R365, R495). -/
structure ForUnit where
  pkt   : Pkt
  held  : Option Held
  ingress : Nat
  first : Nat
  at_   : Nat
  gw    : Nat
  deriving DecidableEq, Repr

/-- A good packet for a unit, whose first header bit is here now. -/
def State.forUnit (s : State) (e : Nat) (p : Pkt) (held : Option Held) : ForUnit :=
  let stop := s.tim.now + s.wireTime e (84 + 64 * p.len)
  ⟨p, held, e, s.tim.now, stop, max stop (s.tim.now + 960)⟩

/-- A packet that its lookup has answered: it is forwarded, or answered for a unit. -/
def State.routeTo (s : State) (e : Nat) (p : Pkt) (c : Rx) (owned : Bool) (f : Found) : Option ForUnit × State :=
  let wire := s.wireTime e (84 + 64 * p.len)
  match f with
  | .drop code => (none, s.dropRx code e p)
  | .local egr _ =>
    (none, if p.sched then s.forwardSched e egr p c wire owned else s.waitFor e p c (.egr egr))
  | .forward f =>
    let p' := { p with hops := p.hops - 1 }
    (none, if !p.sched then s.waitFor e p' c (.group (bitsOf f 9 0))
      else if bitOf f 15 then s.forwardSched e (bitsOf f 25 16) p' c wire owned
      else s.drop 7 e p)
  | .unit =>
    if p.sched then (if c = .good then (some (s.forUnit e p none), s) else (none, s.drop c.code e p))
    else
      match s.store e p c .unit with
      | (none, s) => (none, s)
      | (some h, s) => if c = .good then (some (s.forUnit e p (some h)), s) else (none, (s.drop c.code e p).release h)

/-- What remains of arrival once a packet has passed VER, KIND and the PAV_DROP check of its port: that of its endpoint (R207), its
policer where it is unscheduled (R269, R271), and its lookup. DESIGN CHOICE: log 14. DEDUCED: log 77. -/
def State.route (s : State) (e : Nat) (p : Pkt) (c : Rx) (owned : Bool) : Option ForUnit × State :=
  if (p.kind = 0x08 ∨ p.kind = 0x09) ∧ 512 ≤ e then
    if c = .good then (some (s.forUnit e p none), s) else (none, s.drop c.code e p)
  else
    let f := s.lookup p.dst p.hops
    let foreign := match f with | .local _ pav => decide (pav ≠ p.pav) | _ => false
    if foreign then (none, s.dropRx 11 e p)
    else if p.sched then s.routeTo e p c owned f
    else
      match s.police e p.vc (84 + 64 * p.len + s.fld (aSCH_PORT_CFG (e / 8)) 5 0) with
      | (false, _, s) => (none, s.giveBack e p)
      | (true, ce, s) => s.routeTo e { p with ce := p.ce || ce } c owned f

/-- A length error leaves the payload length unknown: what came is no whole number of flits that a record can name (R529).
DEDUCED: log 14. -/
def rxUnknown (r : RxPkt) : Bool :=
  classify r == .len && (decide (r.pkt.payload.length % 64 ≠ 0) || decide (r.pkt.payload.length = 0) || decide (8192 < r.pkt.payload.length))

/-- A routed packet arrives on a sub-port (R178, R201, R207, R457, R527, R540): what is for a unit of this switch comes back.
`injected` marks a packet of the replay engine, which needs no link (R539). One that an L-port's receiver discards never enters the
ingress buffer, so it returns no credit; its error, or that it was stomped, is counted all the same (R170), and a scheduled one that
comes while replay is active counts as discarded for that (R540). A link-local packet that fails no check is for its own command.
DESIGN CHOICE: log 14. -/
def State.arrive (s : State) (port sub : Nat) (r : RxPkt) (arrival : Nat) (injected : Bool) : Option ForUnit × State :=
  let p := r.pkt
  let e := 8 * port + sub
  if !(if injected then s.hasSub port sub && decide (port < 80) else s.rxLive port sub) then (none, s)
  else if linkKind p.kind then
    let c := linkCause port r
    (none, if c = 0 then s else ((s.advTo arrival).drop c e p).lineBad port r)
  else
    let s := (s.advTo arrival).endDamaged
    let c := classify r
    let s := s.capPkt 1 e s.tim.now p r.trailer (c == .stomped) (c == .crc || c == .len) injected (rxUnknown r)
    let wire := s.rpl.active && p.sched && !injected
    let s := if wire then s.bump aDET_RPL_WIRE_DROP 1 else s
    let (ok, s) := if 64 ≤ port ∧ !injected then s.accept (port - 64) (rxBroken r) else (true, s)
    if !ok then (none, if c = .good then s else s.drop c.code e p)
    else if wire then (none, s)
    else if p.ver ≠ 1 then (none, s.dropRx 4 e p)
    else if kindErr port p then (none, s.dropRx 5 e p)
    else
      let own := s.portPav port
      if own.isSome && own != some p.pav then (none, s.dropRx 11 e p) else s.route e p c own.isSome

/-! ## Selection -/

/-- The VC a packet leaves on: VC[2] becomes 1 on a down-labelled egress (R191). -/
def State.vcOut (s : State) (e vc : Nat) : Nat := if s.rteAt 4 e % 2 = 0 ∧ vc < 4 then vc + 4 else vc

/-- The egress and position of each valid member of a path group (R179, R184). -/
def State.members (s : State) (pg : Nat) : List (Nat × Nat) :=
  ((List.range 32).map fun m => (m, s.rteAt 3 (32 * pg + m))).filterMap fun x =>
    if bitOf x.2 31 && s.egrOk (bitsOf x.2 9 0) then some (x.1, bitsOf x.2 9 0) else none

/-- The candidates of a packet (R178, R184), or the cause of its discard. -/
def State.candidates (s : State) (h : Held) : Sum Nat (List (Nat × Nat)) :=
  match h.hop with
  | .group pg =>
    let ms := s.members pg
    let ok := fun (x : Nat × Nat) => decide (h.vcIn < 4) || s.rteAt 4 x.2 % 2 == 0
    let up := ms.filter fun x => s.egrUp x.2
    let good := up.filter ok
    let rest := (ms.filter ok).filter fun x => resting (s.sub (x.2 / 8) (x.2 % 8)).state
    if !good.isEmpty then .inr good else if !rest.isEmpty then .inr rest else .inl (if up.isEmpty then 7 else 8)
  | .egr e => if s.egrUp e || resting (s.sub (e / 8) (e % 8)).state then .inr [(0, e)] else .inl 7
  | .unit => .inr []

/-- What the selections of this PCLK cycle that fall on an egress add up to, by `size`. -/
def State.grantedSum (s : State) (e : Nat) (size : Held → Nat) : Nat :=
  ((s.svc.granted.filter fun g => g.1 == e).map fun g => size g.2).foldl (· + ·) 0

/-- Credits of an egress and VC as they stood at the start of the PCLK cycle (R187). -/
def State.creditsAt (s : State) (e v : Nat) : Nat :=
  s.credits e v + s.grantedSum e fun h => if s.vcOut e h.vcIn = v then pktFlits h.pkt else 0

/-- Depth of a queue as it stood at the start of the PCLK cycle (R185, R189). -/
def State.depthAt (s : State) (e q : Nat) : Nat :=
  s.depth e q - s.grantedSum e fun h => if s.qmapAt e (s.vcOut e h.vcIn) = q then s.counted e h else 0

/-- The member chosen (R185): enough credit, then the fewest queued bytes, then the first at or after the pointer. -/
def State.choose (s : State) (h : Held) (ptr : Nat) (ms : List (Nat × Nat)) : Option (Nat × Nat) :=
  let able := ms.filter fun x => decide (pktFlits h.pkt ≤ s.creditsAt x.2 (s.vcOut x.2 h.vcIn))
  let key := fun (x : Nat × Nat) => s.depthAt x.2 (s.qmapAt x.2 (s.vcOut x.2 h.vcIn)) * 32 + (x.1 + 32 - ptr) % 32
  able.foldl (fun m x => match m with | none => some x | some y => if key x < key y then some x else some y) none

/-- A packet granted an egress: its credit is taken, it joins its queue, and its first flit reaches the egress when R205 and
R206 let it, in the next PCLK cycle at the earliest (R245). DEDUCED: log 76. -/
def State.grant (s : State) (h : Held) (e : Nat) : State :=
  let vc := s.vcOut e h.vcIn
  let cut := decide (s.depth e (s.qmapAt e vc) = 0) && decide (h.rate ≠ 0) && decide (s.rate e ≤ h.rate)
  let first := if cut || decide (h.rate = 0) then h.born + unschedLat
    else h.born + unschedLat + (h.endAt - h.born)
  let s := { s with rte := { s.rte with wait := s.rte.wait.filter fun x => x.id != h.id } }
  let s := s.useCredit e vc (pktFlits h.pkt)
  let s := s.enqueue e { h with pkt := { h.pkt with vc := vc }, ready := max first ((s.tim.clk / 5 + 1) * 5) }
  let s := s.setSvc { s.svc with granted := (e, h) :: s.svc.granted }
  s.wakeQueued (e / 8) (e % 8)

/-- The allocator port of an ingress, with its core die (R209). -/
def allocOf (ingress : Nat) : Nat × Nat :=
  if ingress < 672 then allocPort (ingress / 8) else (ingress / 8 - 126, ingress % 8 + 8)

/-- The order of a selection within its PCLK cycle, highest first: by service rank, and of one rank that on C0 (R187). -/
def State.pickKey (s : State) (h : Held) : Nat :=
  2 * s.svcRank (allocOf h.ingress).2 + (if (allocOf h.ingress).1 = 0 then 1 else 0)

/-- A selection has to wait for the next cycle: its allocator port has presented a packet in this one, or a selection of this rank or
a lower one has been made (R187, R223). -/
def State.pickLate (s : State) (h : Held) : Bool :=
  let (die, a) := allocOf h.ingress
  s.svc.picked.contains (16 * die + a) || (match s.svc.last with | some k => decide (k ≤ s.pickKey h) | none => false)

/-- A packet presented to selection in its PCLK cycle, which is its ingress's turn (R187). DEDUCED: log 11. -/
def State.present (s : State) (h : Held) : State :=
  let s := if s.pickLate h then s.nextPclk else s
  let (die, a) := allocOf h.ingress
  let s := { s with rte := { s.rte with turns := tblSet s.rte.turns (16 * die + a) h.ingress } }
  s.setSvc { s.svc with picked := (16 * die + a) :: s.svc.picked, last := some (s.pickKey h) }

/-- What a selection comes to (R184, R185): the cause of a discard, or the member chosen and its egress, or a wait for credit
(R186). -/
def State.pick (s : State) (h : Held) : Sum Nat (Option (Nat × Nat)) :=
  match s.candidates h with
  | .inl code => .inl code
  | .inr ms => .inr (s.choose h (tblGet (fun _ => 0) s.rte.pgPtr (match h.hop with | .group g => g | _ => 0)) ms)

/-- What a selection comes to, done: the rotating pointer moves to the member after the one chosen (R185). -/
def State.picked (s : State) (h : Held) : Sum Nat (Option (Nat × Nat)) → State
  | .inl code =>
    ({ s with rte := { s.rte with wait := s.rte.wait.filter fun x => x.id != h.id } }.drop code h.ingress h.pkt).release h
  | .inr none => s
  | .inr (some (m, e)) =>
    let s := match h.hop with
      | .group g => { s with rte := { s.rte with pgPtr := tblSet s.rte.pgPtr g ((m + 1) % 32) } }
      | _ => s
    s.grant h e

/-- One selection of a waiting packet (R184–R187). On an egress that has granted one in this cycle the packet loses, and selects
again in the next, with the credits the winner left. -/
def State.spray (s : State) (h : Held) : State :=
  let r := s.pick h
  let loses := match r with | .inr (some (_, e)) => s.svc.granted.any fun g => g.1 == e | _ => false
  if loses then
    let s := s.nextPclk.present h
    s.picked h (s.pick h)
  else s.picked h r

/-- How far an ingress is from its turn at its allocator port: in ascending order after the one presented last (R223). -/
def State.turnOf (s : State) (ingress : Nat) : Nat :=
  let (die, a) := allocOf ingress
  (ingress + 2048 - (tblGet (fun _ => 2047) s.rte.turns (16 * die + a) + 1)) % 2048

/-- The waiting packet of another ingress of the same allocator port whose turn comes first before that of `h`: one that its
selection would grant or discard (R187, R223). -/
def State.firstTurn (s : State) (h : Held) : Option Held :=
  let able := s.rte.wait.filter fun g => allocOf g.ingress == allocOf h.ingress && decide (s.turnOf g.ingress < s.turnOf h.ingress)
    && (match s.pick g with | .inr none => false | _ => true)
  able.foldl (fun m g => match m with
    | none => some g
    | some x => if s.turnOf g.ingress < s.turnOf x.ingress then some g else some x) none

/-- The selections whose turns come before that of `h`, one ingress in a PCLK cycle. An allocator port serves at most 64 ingresses. -/
def State.turnsTo (s : State) (h : Held) : Nat → State
  | 0 => s
  | n + 1 => match s.firstTurn h with
    | none => s
    | some g => ((s.present g).spray g).turnsTo h n

/-- SPRAY_SELECT (R185, R187, R223): one selection of the waiting packet `id` at fabric time `time`, or in the first PCLK cycle after
it in which its turn comes; the ingresses that are before it in turn make theirs first. -/
def execSpraySelect (id time : Nat) (s : State) : Host.Outcome State Fault Refusal :=
  .next (
    let s := if s.rte.wait.any fun h => h.id == id then (s.advTo time).endDamaged else s
    match s.rte.wait.find? fun h => h.id == id with
    | none => s
    | some h => ((s.turnsTo h 64).present h).spray h)

/-- The packet `id` where it waits for an egress, lies in a queue or has yet to be taken by a unit of the K8. -/
def State.ageing (s : State) (id : Nat) : Option Held :=
  match s.rte.wait.find? fun h => h.id == id with
  | some h => some h
  | none =>
    match s.rte.own.find? fun x => x.2.any fun h => h.id == id with
    | some x => x.2
    | none => (s.rte.egress.flatMap fun x => x.2.queues.flatten).find? fun h => h.id == id && h.eth.isEmpty

/-- A packet out of wherever it waits, with the credit it was granted back. -/
def State.takeOut (s : State) (h : Held) : State :=
  let s := { s with rte := { s.rte with wait := s.rte.wait.filter fun x => x.id != h.id,
                                        own := s.rte.own.filter fun x => !(x.2.any fun (g : Held) => g.id == h.id) } }
  match s.rte.egress.find? fun x => x.2.queues.any fun q => q.any fun (g : Held) => g.id == h.id with
  | none => s
  | some (e, x) =>
    (s.setEgr e { x with queues := x.queues.map fun q => q.filter fun (g : Held) => g.id != h.id }).useCredit e h.pkt.vc (-(pktFlits h.pkt : Int))

/-- PACKET_AGED (R199): the stay of a packet that waits for an egress, lies in its queue or has yet to be taken by a unit of the K8
reaches MAX_RES_US, which moves time there. One found damaged before that is discarded for it (R170). -/
def execPacketAged (id : Nat) (s : State) : Host.Outcome State Fault Refusal :=
  .next (match s.ageing id with
    | none => s
    | some h =>
      let s := (s.advTo (s.tim.now + (h.born + s.fld aRTE_CTRL 31 16 * 8000 - s.tim.clk))).endDamaged
      match s.ageing id with
      | none => s
      | some h => ((s.takeOut h).drop 10 h.ingress h.pkt).release h)

/-! ## Leaving -/

/-- Counted bytes and packets of a queue (SCH_Q_TX). -/
def State.countTx (s : State) (e q : Nat) (h : Held) : State :=
  (s.bump64 (aSCH_Q_TX_BYTES_LO (e / 8) (e % 8) q) (s.counted e h)).bump (aSCH_Q_TX_PKTS (e / 8) (e % 8) q) 1

/-- Buffers that hold frames of an S-port, of one priority in MODE 2 or all of them (R276). -/
def State.heldFrames (s : State) (i p : Nat) : Nat :=
  let mine := s.rte.units.filter fun h => !h.eth.isEmpty && h.ingress / 8 == 80 + i
    && (s.fld (aSCH_PAUSE_CTRL (80 + i)) 1 0 != 2 || framePcp h.eth == p)
  (mine.map fun h => h.handles.length).foldl (· + ·) 0

/-- A pause frame for priority `p`, or for the link in MODE 1 (R273, R276): its address, EtherType, opcode and times. -/
def pauseFrame (mode p t : Nat) : List Byte :=
  let head := [0x01, 0x80, 0xC2, 0x00, 0x00, 0x01] ++ List.replicate 6 0 ++ [0x88, 0x08]
  let body := if mode = 2 then natBe 2 0x0101 ++ natBe 2 (2 ^ p) ++ (List.range 8).flatMap fun i =>
      natBe 2 (if i = p then t else 0)
    else natBe 2 0x0001 ++ natBe 2 t
  let f := head ++ body
  f ++ List.replicate (60 - f.length) 0

/-- A pause frame made ready (R276, R277). -/
def State.sendPause (s : State) (i p t : Nat) : State :=
  let x := s.pause i
  let mode := s.fld (aSCH_PAUSE_CTRL (80 + i)) 1 0
  let bit := if mode = 2 then 2 ^ p else 0xFF
  let off := if t = 0 then x.txXoff - (x.txXoff &&& bit) else x.txXoff ||| bit
  let s := s.setPause i { x with ctrl := x.ctrl ++ [pauseFrame mode p t], txXoff := off,
                                 txLast := x.txLast.set p (25 * s.tim.clk) }
  let s := s.bump (aPAUSE_TX_FRAMES i) 1
  if t = 0 then s else s.evt 12 aSCH_EVENT 4

/-- The pause an S-port owes after a count of held buffers changed (R276): XOFF when it reaches the threshold, time 0 once
when it falls to XON. -/
def State.pauseCheck (s : State) (i p : Nat) : State :=
  let port := 80 + i
  let mode := s.fld (aSCH_PAUSE_CTRL port) 1 0
  let q := if mode = 2 then p else 0
  let n := s.heldFrames i p
  let on := bitOf (s.pause i).txXoff q
  if mode = 0 || decide (mode = 3) || !s.bit (aSCH_PAUSE_CTRL port) 2 then s
  else if !on && decide (s.fld (aSCH_PAUSE_XOFF port) 19 0 ≤ n) then s.sendPause i q (s.fld (aSCH_PAUSE_TIME port) 15 0)
  else if on && decide (n ≤ s.fld (aSCH_PAUSE_XON port) 19 0) then s.sendPause i q 0
  else s

/-- The effect of the last flit leaving an egress (R228, R244). -/
def State.txDone (s : State) (e : Nat) : State :=
  match (s.egr e).sending with
  | none => s
  | some (x, t) =>
    let s := (s.advTo (s.tim.now + (t - s.tim.clk))).endDamaged
    let s := match x with
      | .queued q h => s.countTx e q h
      | _ => s
    let s := (s.setEgr e { s.egr e with sending := none, idle := s.curSlot }).restPend e
    let s := if 640 ≤ e then s.holdSettle (e / 8 - 80) else s
    match x with
    | .queued _ h =>
      if h.eth.isEmpty then ((s.bump64 aRTE_FWD_UNSCHED_LO 1).countCause h.cause).release h
      else (s.bump64 (aPRT_S_TX_LO (e / 8 - 80)) 1).release h
    | .mac => s.bump64 (aPRT_S_TX_LO (e / 8 - 80)) 1
    | .sched p => (s.bump64 aRTE_FWD_SCHED_LO 1).countCause p.cause
    | _ => s

/-- PACKET_TX_DONE (R228): the last flit has left an egress, or a unit has read it. -/
def execPacketTxDone (ref : TxRef) (s : State) : Host.Outcome State Fault Refusal :=
  .next (match ref with
    | .egress e => s.txDone e
    | .unit id =>
      match s.rte.units.find? fun h => h.id == id with
      | none => s
      | some h =>
        let s := ({ s with rte := { s.rte with units := s.rte.units.filter fun x => x.id != id } }).release h
        if h.eth.isEmpty then s else s.pauseCheck (h.ingress / 8 - 80) (framePcp h.eth))

/-! ## Credits -/

/-- The payload of a CREDIT packet (R197). -/
def State.creditPayload (s : State) (e : Nat) : List Byte :=
  (s.egr e).rxCum.flatMap (natBe 4) ++ List.replicate 32 0

/-- A link-local packet (R174). -/
def linkPkt (kind : Nat) (sched : Bool) (tag : Nat) (payload : List Byte) : Pkt :=
  { ver := 1, kind := kind, sched := sched, vc := 0, ce := false, kflag := false, pav := 0, hops := 0, len := 0,
    dst := 0xFFFF, src := 0xFFFF, seq := 0, tag := tag, payload := payload }

/-- A link-local packet becomes ready on a sub-port (R266): a sub-port that rests, or has asked to, is woken (R143). -/
def State.makeReady (s : State) (e : Nat) (p : Pkt) : State :=
  (s.setEgr e { s.egr e with ready := (s.egr e).ready ++ [p] }).wakeQueued (e / 8) (e % 8)

/-- CREDIT_SEND (R197): a CREDIT packet becomes ready on a sub-port whose link is up. -/
def execCreditSend (port sub time : Nat) (s : State) : Host.Outcome State Fault Refusal :=
  let e := 8 * port + sub
  .next (if s.hasSub port sub && decide (port < 80) && (s.isUp port sub || resting (s.sub port sub).state) then
      let s := (s.advTo time).endDamaged.creditSettle e
      let s := s.makeReady e (linkPkt 0x3E false 0 (s.creditPayload e))
      s.setEgr e { s.egr e with rxSent := (s.egr e).rxCum }
    else s)

/-- One CUMv accepted where it lies ahead of the view (R198); credit that arrives ends a stall (R655). -/
def State.creditIn (s : State) (e v new : Nat) : State :=
  let x := s.egr e
  let d := (new + 2 ^ 32 - x.cum.getD v 0) % 2 ^ 32
  if d < 2 ^ 31 then
    let s := s.setEgr e { x with cum := x.cum.set v new }
    if d = 0 then s else { s with log := { s.log with stalled := s.log.stalled.filter (· != 8 * e + v) } }
  else s

/-- A received CUMv lies ahead of the view of it (R198). -/
def State.creditAhead (s : State) (e v new : Nat) : Bool := decide ((new + 2 ^ 32 - (s.egr e).cum.getD v 0) % 2 ^ 32 < 2 ^ 31)

/-- CUMv of a CREDIT packet's payload (R197). -/
def payloadCum (w : List Byte) (v : Nat) : Nat := beNat ((w.drop (4 * v)).take 4)

/-- CREDIT_RX (R198): the packet is counted where a value of it is accepted (R197). -/
def execCreditRx (port sub : Nat) (rx : RxPkt) (s : State) : Host.Outcome State Fault Refusal :=
  .next (s.linkRx port sub 0x3E rx fun s =>
    let e := 8 * port + sub
    let w := rx.pkt.payload
    let s' := if (List.range 8).any fun v => s.creditAhead e v (payloadCum w v) then s.bump aRTE_CREDIT_RX 1 else s
    (List.range 8).foldl (fun s v => s.creditIn e v (payloadCum w v)) s')

/-- Packets that wait for credit on an egress and VC, oldest first. -/
def State.creditWaiters (s : State) (e vc : Nat) : List Held :=
  s.rte.wait.filter fun h => match s.candidates h with
    | .inr ms => ms.any fun x => x.2 == e && s.vcOut e h.vcIn == vc && decide (s.credits e vc < pktFlits h.pkt)
    | .inl _ => false

/-- How many packets wait for credit on an egress and VC. -/
def State.waiting (s : State) (e vc : Nat) : Nat := (s.creditWaiters e vc).length

/-- Root time before which none of them has waited LOG_CTRL.STALL_US (R655). -/
def State.stallAt (s : State) (e vc : Nat) : Nat :=
  match s.creditWaiters e vc with
  | h :: _ => h.born + 8000 * s.fld aLOG_CTRL 31 16
  | [] => 0

/-- CREDIT_STALL (R655): a packet has waited for credit on one egress and VC for STALL_US, so no sooner than that after the
oldest one came. -/
def execCreditStall (e vc : Nat) (s : State) : Host.Outcome State Fault Refusal :=
  .next (if decide (e < 640) && decide (vc < 8) && !s.log.stalled.contains (8 * e + vc) && decide (0 < s.waiting e vc) then
      let n := s.waiting e vc
      let s := s.advTo (s.nowAt (s.stallAt e vc))
      let s := { s with log := { s.log with stalled := (8 * e + vc) :: s.log.stalled } }
      ((s.bump aLOG_STALLS 1).evt 6 aLOG_EVENT 3).offer 0x11 0 (portDie (e / 8)) 0x80 (e + vc * 2 ^ 16) n 0 0
    else s)

/-! ## Packets the K8 originates -/

/-- SEQ of the next packet of a flow, and the flow moved on (R200). -/
def State.nextSeq (s : State) (src dst : Nat) (sched : Bool) : Nat × State :=
  let k := (src * 65536 + dst) * 2 + b2n sched
  let q := tblGet (fun _ => 0) s.rte.flows k
  (q, { s with rte := { s.rte with flows := tblSet s.rte.flows k ((q + 1) % 2 ^ 32) } })

/-- The ingress code of a packet that the K8 originated on a core die through an allocator port (RTE_LASTDROP0). -/
def ownIngress (die a : Nat) : Nat := (126 + die) * 8 + (a - 8)

/-- HOP_INIT of RTE_CTRL. DEDUCED: log 77. -/
def State.hopInit (s : State) : Nat := s.fld aRTE_CTRL 12 8

/-- A scheduled packet the K8 originates, due at its egress `lat` root units from now (R178, R181, R509): the action that sends it
asks a resting sub-port to wake (R143). -/
def State.originateSched (s : State) (die a : Nat) (p : Pkt) (lat : Nat) (stomped : Bool) : State :=
  let i := ownIngress die a
  let go := fun (s : State) (egr : Nat) (p : Pkt) =>
    let s := s.wakeAction (egr / 8) (egr % 8)
    { s with rte := { s.rte with transit := s.rte.transit ++ [⟨p, egr, s.tim.clk + lat, stomped, 0, i⟩] } }
  match s.lookup p.dst p.hops with
  | .drop code => s.drop code i p
  | .local egr pav => if pav ≠ p.pav then s.drop 11 i p else go s egr p
  | .forward f =>
    if bitOf f 15 then go s (bitsOf f 25 16) { p with hops := p.hops - 1 } else s.drop 7 i p
  | .unit => { s with rte := { s.rte with own := s.rte.own ++ [(p, none)] } }

/-- An unscheduled packet the K8 originates through an allocator port, written into its buffer `wait` root units from now (R205, R209,
R229): whether it got a buffer. DEDUCED: log 77. -/
def State.originateAt (s : State) (die a : Nat) (p : Pkt) (stomped : Bool) (wait : Nat) : Bool × State :=
  let i := ownIngress die a
  let o := 8 * p.pav + p.vc
  let put := fun (s : State) (p : Pkt) (hop : Option Hop) =>
    match s.alloc die a o (pktFlits p) with
    | (none, s) => (false, s)
    | (some (k, hs), s) =>
      let h : Held :=
        { id := s.rte.nextId, pkt := p, eth := [], ingress := i, die := die, pool := k, handles := hs, owner := o, vcIn := p.vc,
          born := s.tim.clk + wait, endAt := if stomped then s.tim.clk + 2 ^ 60 else s.tim.clk + wait, rate := 0, ready := 0,
          damaged := stomped, cause := 0, hop := hop.getD .unit }
      let s := { s with rte := { s.rte with nextId := s.rte.nextId + 1 } }
      match hop with
      | some _ => (true, { s with rte := { s.rte with wait := s.rte.wait ++ [h] } })
      | none => (true, { s with rte := { s.rte with own := s.rte.own ++ [(p, some h)] } })
  match s.lookup p.dst p.hops with
  | .drop code => (true, s.drop code i p)
  | .local egr pav => if pav ≠ p.pav then (true, s.drop 11 i p) else put s p (some (.egr egr))
  | .forward f => put s { p with hops := p.hops - 1 } (some (.group (bitsOf f 9 0)))
  | .unit => put s p none

/-- An unscheduled packet the K8 originates and writes into its buffer at once. -/
def State.originate (s : State) (die a : Nat) (p : Pkt) (stomped : Bool) : Bool × State := s.originateAt die a p stomped 0

end Sys2Proof.Machine
end

