-- ==== Sys2Proof/Machine/Power.lean ====
section
/-! DEFINITION. The token meter (R497–R500). -/

namespace Sys2Proof.Machine

/-- A token counts at fabric time `t`: it is held, or its release is not yet available (R499). -/
def Token.counts (k : Token) (t : Nat) : Bool := match k.until_ with | none => true | some u => decide (t < u)

/-- Tokens counted at fabric time `t`. -/
def State.tokensAt (s : State) (t : Nat) : List Token := s.tokens.filter fun k => k.counts t

/-- Tokens of a pavilion counted at fabric time `t`. -/
def State.pavTokens (s : State) (p t : Nat) : Nat := ((s.tokensAt t).filter fun k => k.pav == p).length

/-- PWR_BUDGET: GLB_RESOURCE.TOKENS, which no unit uses while FUSE_OK is 0 (R33, R497). DEDUCED: log 103. -/
def State.budget (s : State) : Nat := if s.boot.fuseOk then bitsOf s.fuse.resrc 31 24 else 0

/-- `n` more tokens for a pavilion stay within its allotment and the budget, as of the start of CCLK cycle `c` (R499). -/
def State.tokensOk (s : State) (p n c : Nat) : Bool :=
  decide (s.pavTokens p (4 * c) + n ≤ (s.pavEntry p).tokens) && decide ((s.tokensAt (4 * c)).length + n ≤ s.budget)

/-- PWR_PEAK follows PWR_INUSE. -/
def State.peak (s : State) : State :=
  let n := (s.tokensAt s.tim.now).length
  if s.fld aPWR_PEAK 7 0 < n then s.setFld aPWR_PEAK 7 0 (min 255 n) else s

/-- A token reserved in CCLK cycle `c`. -/
def State.takeToken (s : State) (p unit : Nat) (engine : Bool) (c : Nat) : State :=
  ({ s with tokens := s.tokensAt s.tim.now ++ [(⟨p, unit, engine, c, none⟩ : Token)] }).peak

/-- The token of a unit or engine released: available again from fabric time `t`; the cycles it was held are counted. -/
def State.dropToken (s : State) (unit : Nat) (engine : Bool) (t : Nat) : State :=
  match s.tokens.find? fun k => k.unit == unit && k.engine == engine && k.until_.isNone with
  | none => s
  | some k =>
    let s := { s with tokens := s.tokens.map fun x => if x = k then { x with until_ := some t } else x }
    s.bump64 aPWR_TOKEN_CYCLES_LO ((t + 3) / 4 - k.since)

/-- A token refusal (R500): `svc` for gather service. -/
def State.tokenRefused (s : State) (p unit : Nat) (svc : Bool) : State :=
  let s := s.bump aPWR_TOKEN_REFUSED 1
  let s := s.setReg aPWR_LAST_REFUSAL
    (BitVec.ofNat 32 (p * 2 ^ 26 + unit * 2 ^ 23 + b2n svc * 2 ^ 22 + s.curSlot % 65536))
  s.evt 19 aPWR_EVENT (if svc then 1 else 0)

end Sys2Proof.Machine
end

