-- ==== Sys2Proof/Machine/StreamBase.lean ====
section
/-! DEFINITION. Streams as the matrix units and cells see them: an entry's fields (R412), how a step ends, RESET_REQ, the Ember
pager (R479–R483) and the stages of an update (R418–R421). -/

namespace Sys2Proof.Machine

/-! ## The entry (R412) -/

/-- DATA word `i` of an entry. -/
def Stream.w (x : Stream) (i : Nat) : Nat := x.data.getD i 0
/-- PAVILION. -/
def Stream.pav (x : Stream) : Nat := bitsOf (x.w 0) 29 24
/-- UNIT. -/
def Stream.unit (x : Stream) : Nat := bitsOf (x.w 0) 19 17
/-- GATE_MODE is VEC. -/
def Stream.vec (x : Stream) : Bool := bitOf (x.w 0) 16
/-- Elements of a chunk. -/
def Stream.chunkLen (x : Stream) : Nat := 256 * 2 ^ bitsOf (x.w 0) 15 13
/-- ACT_FMT as a format code: 1 BF16, 2 FP16. -/
def Stream.act (x : Stream) : Nat := 1 + bitsOf (x.w 0) 12 12
/-- RFMT. -/
def Stream.rfmt (x : Stream) : Nat := bitsOf (x.w 0) 11 10
/-- EF, at a sender. -/
def Stream.ef (x : Stream) : Bool := bitOf (x.w 0) 5
/-- OUT_MODE. -/
def Stream.reEmit (x : Stream) : Bool := bitOf (x.w 0) 4
/-- CHUNKS. -/
def Stream.chunks (x : Stream) : Nat := bitsOf (x.w 1) 31 20 + 1
/-- RAW_HIST. -/
def Stream.rawHist (x : Stream) : Nat := bitsOf (x.w 1) 18 16
/-- CHECK. -/
def Stream.check (x : Stream) : Nat := bitsOf (x.w 1) 15 0
/-- SEED. -/
def Stream.seed (x : Stream) : Nat := x.w 2 + x.w 3 * 2 ^ 32
/-- COMP_RING. -/
def Stream.ring (x : Stream) : Nat := bitsOf (x.w 4) 31 16
/-- Elements of a step (R413). -/
def Stream.elems (x : Stream) : Nat := x.chunks * x.chunkLen
/-- EF counts at a sender only. -/
def Stream.efOn (x : Stream) : Bool := x.ef && x.role == 1
/-- Offset of the raw history in the Ember state (R414). -/
def Stream.rawBase (x : Stream) : Nat := (if x.efOn then 10 else 6) * x.elems
/-- Bytes of the Ember state (R414). -/
def Stream.emberSize (x : Stream) : Nat := x.rawBase + (if x.role = 1 then 2 * x.elems * x.rawHist else 0)
/-- The core die of UNIT, which holds the Ember state. -/
def Stream.die (x : Stream) : Nat := x.unit / 4
/-- Key of byte `o` of the Ember state (R414). -/
def Stream.ember (x : Stream) (o : Nat) : Nat := emberKey x.die (64 * bitsOf (x.w 5) 19 0 + o)
/-- Key of byte `o` of the input or output region (R413), on the die of UNIT. -/
def Stream.io (x : Stream) (o : Nat) : Nat := sbufKey x.die (64 * bitsOf (x.w 6) 20 0 + o)
/-- Key of byte `o` of the unit's Ember window (R479). -/
def State.window (s : State) (u o : Nat) : Nat := opKey u (64 * s.fld (aMEM_EWIN_BASE u) 17 0 + o)

/-- The input or output region lies in what the stream's pavilion owns of the scheduled region (R21, R468, R591). -/
def State.ioOk (s : State) (x : Stream) : Bool := s.ownsSbuf x.pav x.die (64 * bitsOf (x.w 6) 20 0) (2 * x.elems)

/-- The unit's Ember window lies in its operand SRAM, and the unit is the stream's pavilion's (R21, R468, R479). -/
def State.winOk (s : State) (x : Stream) : Bool :=
  s.unitPav x.unit == some x.pav
    && decide (64 * s.fld (aMEM_EWIN_BASE x.unit) 17 0 + (if x.vec then 14 else 10) * x.elems ≤ 2 ^ 24)

/-- An access of the codec or the pager outside what the stream's pavilion owns: refused and counted (R468). -/
def State.strDenied (s : State) (x : Stream) (off : Nat) : State := s.memDenied 1 (x.die * 2 ^ 39 + off) 6 x.pav

/-- A write of a stream to its window at offset `o`. -/
def State.wrWin (s : State) (x : Stream) (o : Nat) (bs : List Byte) : State :=
  if s.winOk x then s.wr (s.window x.unit o) bs else s.strDenied x o

/-- Fabric time at root time `c`. -/
def State.fabricAt (s : State) (c : Nat) : Nat := s.tim.now + (c - s.tim.clk)

/-- A write of the codec that is complete at root time `c` (R435, R436). -/
def State.codecWrite (s : State) (c key : Nat) (bs : List Byte) : State := s.sendWrite (s.fabricAt c) 1 key bs []

/-- x̂ of a chunk at offset `o` of the window, for an update that starts at root time `c` or later (R435, R436). -/
def State.xhatWrite (s : State) (x : Stream) (c o : Nat) (bs : List Byte) : State :=
  if s.winOk x then s.codecWrite c (s.window x.unit o) bs else s.strDenied x o

/-- An event bit of STR. -/
def State.strEvt (s : State) (bit : Nat) : State := s.evt 16 aSTR_EVENT bit

/-! ## How a step ends -/

/-- The flag word of a step in STR_FPFLAGS (R427). -/
def State.strFlags (s : State) (fl : Nat) : State := s.orFlags aSTR_FPFLAGS fl

/-- A step ends with a status other than OK, decided by an action that fired in CCLK cycle `c`: its completion, with the step's flag
word (R427, R573). -/
def State.stepEnd (s : State) (i step status detail flags c : Nat) : State :=
  let x := s.stream i
  let s := ((s.setStream i { x with lastStatus := status }).bump aSTR_STEPS_FAIL 1).strFlags flags
  s.postFree x.ring ⟨i, 3, status, 0, flags, x.role, step, c / 1920, c % 1920, detail, 0⟩

/-- A step ends by the latest action of the stream. -/
def State.stepFail (s : State) (i step status detail : Nat) : State :=
  s.stepEnd i step status detail (s.stream i).flags (s.stream i).fired

/-- A RESET_REQ is owed on the entry's L-port (R456, R458): causes 1 LOST, 2 DIVERGED, 3 WITHHELD, 4 UPDATE, 5 HOST. -/
def State.resetReq (s : State) (i step cause : Nat) (chunks : List Nat) : State :=
  let l := (s.stream i).lport
  let cs := chunks.take 8
  let b := natBe 2 i ++ natBe 6 step ++ natBe 1 cause ++ natBe 1 cs.length ++ cs.flatMap (natBe 2)
  s.setLr l { s.lr l with reqs := (s.lr l).reqs ++ [b ++ List.replicate (64 - b.length) 0] }

/-- A receiver asks for a reset (R441): the first detection is kept, to be named again. -/
def State.askReset (s : State) (i step cause : Nat) (chunks : List Nat) (st : Nat) : State :=
  let x := (s.stream i).moveTo st
  let s := s.setStream i { x with detect := match x.detect with | some d => some d | none => some (step, cause, chunks) }
  s.resetReq i step cause chunks

/-- An update fails (R421): the step is UPDATE_FAIL, its unit is free and its token is released. -/
def State.updateFail (s : State) (i : Nat) : State :=
  let x := s.stream i
  let s := s.stepEnd i x.uStep 6 0 x.uFlags x.uFired
  let s := s.setStream i { s.stream i with upd := 0 }
  let s := if x.upd = 0 then s else s.dropToken x.unit false s.tim.now
  if x.role = 1 then s.setStream i ((s.stream i).moveTo 2) else s.askReset i x.uStep 4 [] 4

/-! ## The Ember pager (R481–R483) -/

/-- MCLK cycle of fabric time now. -/
def State.mclk (s : State) : Nat := s.tim.now / 6

/-- The first MCLK cycle at or after CCLK cycle `c`. -/
def mclkFrom (c : Nat) : Nat := (2 * c + 2) / 3

/-- A die's pager queue. -/
def State.pager (s : State) (die : Nat) : List PageMove := if die = 0 then s.pager0 else s.pager1

/-- A die's pager queue replaced. -/
def State.setPager (s : State) (die : Nat) (q : List PageMove) : State :=
  if die = 0 then { s with pager0 := q } else { s with pager1 := q }

/-- MCLK cycles of a page move of a stream (R481, R483). -/
def Stream.pageLen (x : Stream) : Nat := 16 + (2 * x.elems + 255) / 256

/-- A move put among those of its die by the cycle from which it may start: the pager serves them in the order they start. -/
def addMove (p : PageMove) : List PageMove → List PageMove
  | [] => [p]
  | q :: qs => if q.from_ ≤ p.from_ then q :: addMove p qs else p :: q :: qs

/-- Moves served one at a time, the first from MCLK cycle `free` on: each one's end. -/
def State.timed (s : State) (free : Nat) : List PageMove → List PageMove
  | [] => []
  | p :: ps =>
    let stop := max p.from_ free + (s.stream p.stream).pageLen
    { p with stop := stop } :: s.timed stop ps

/-- The page-ins that wait, each with the cycle in which it ends. -/
def State.pageIns (s : State) (q : List PageMove) : State :=
  q.foldl (fun s p => if p.out then s else s.setStream p.stream { s.stream p.stream with pageIn := some p.stop }) s

/-- A move asked for, to start in MCLK cycle `m` at the earliest: whether the queue of 16 takes it. DEDUCED: log 68. -/
def State.pageMove (s : State) (i : Nat) (out reset : Bool) (m : Nat) : Bool × State :=
  let x := s.stream i
  let q := s.pager x.die
  if 16 ≤ q.length then (false, s)
  else
    let r := s.timed 0 (addMove ⟨i, out, reset, m, 0, none⟩ q)
    (true, (s.setPager x.die r).pageIns r)

/-- A step ends OK with its flag word (R427). -/
def State.stepOk (s : State) (i flags : Nat) : State :=
  ((s.setStream i { s.stream i with lastStatus := 0 }).bump aSTR_STEPS_OK 1).strFlags flags

/-- The update is complete once launch 3 and the write-back are (R483): the step is OK. -/
def State.updateEnd (s : State) (i : Nat) : State :=
  let x := s.stream i
  if x.upd = 13 && x.wbDone && x.l3Done then (s.setStream i { x with upd := 0 }).stepOk i x.uFlags else s

/-- A stream's next update begins while the write-back of the one before is still to end: that one ends with it (R483, R484). -/
def State.leaveTail (s : State) (i : Nat) : State :=
  let x := s.stream i
  if x.upd = 13 && x.l3Done then
    s.setPager x.die ((s.pager x.die).map fun p =>
      if p.stream == i && p.out && p.tail.isNone then { p with tail := some x.uFlags } else p)
  else s

/-- One move's effect. -/
def State.pageDone (s : State) (p : PageMove) : State :=
  let x := s.stream p.stream
  let n := 2 * x.elems
  if p.out then
    let s := if s.winOk x then s.copyMem (s.window x.unit (4 * x.elems)) (x.ember 0) n else s.strDenied x 0
    match p.tail with
    | some fl => s.stepOk p.stream fl
    | none => (s.setStream p.stream { x with wbDone := true }).updateEnd p.stream
  else if p.reset then s.wrWin x n (List.replicate n 0)
  else if s.winOk x then s.copyMem (x.ember 0) (s.window x.unit n) n
  else s.strDenied x n

/-- Every move of a die that ends by MCLK cycle `m` has its effect. -/
def State.pagerTo (s : State) (die m : Nat) : State :=
  (s.pager die).foldl (fun s p => if p.stop ≤ m then (s.setPager die ((s.pager die).erase p)).pageDone p else s) s

/-- The head of a die's pager queue ends. -/
def State.pagerHead (s : State) (die : Nat) (out : Bool) : State :=
  match s.pager die with
  | p :: q => if p.out == out then ((s.setPager die q).advTo (6 * p.stop)).pageDone p else s
  | [] => s

/-! ## Stages of an update -/

/-- An update fails for its page move (R482, R493). -/
def State.pageFail (s : State) (i : Nat) : State := ((s.bump aMEM_PAGE_LATE 1).evt 17 aMEM_EVENT 5).updateFail i

/-- h′ stands in the window: its write-back starts in MCLK cycle `m`, or cannot (R483, R493). -/
def State.writeBack (s : State) (i m : Nat) : State :=
  match s.pageMove i true false m with
  | (true, s) => s
  | (false, s) => s.pageFail i

/-- The cells of VEC_LAUNCH have halted, the last one in MCLK cycle `m`: the write-back starts in the MCLK after it (R419, R483).
DEDUCED: log 65. -/
def State.cellStage (s : State) (i m : Nat) : State :=
  (s.setStream i { s.stream i with upd := 14, updAt := m }).writeBack i (m + 1)

end Sys2Proof.Machine
end

