-- ==== Sys2Proof/Machine/Cells.lean ====
section
/-! DEFINITION. What every cell instruction shares: the cell, its instruction, the cycle in which it issues, faults, and how a
launch starts and completes (R312–R333, R343–R351). -/

namespace Sys2Proof.Machine

/-! ## Cells, launches and cycles -/

/-- A cell after a cold reset's clearing (R313). DESIGN CHOICE: log 6. -/
def cellInit : Cell :=
  { sx := List.replicate 32 0, vx := List.replicate 16 (List.replicate 16 0), mask := [0, 0, 0, 0], run := none, pos := 0,
    next := 0, avail := [], last := [], loops := [], inq := [] }

/-- A cell. -/
def State.cell (s : State) (c : Nat) : Cell := tblGet (fun _ => cellInit) s.cells c

/-- The state with a cell replaced. -/
def State.setCell (s : State) (c : Nat) (x : Cell) : State := { s with cells := tblSet s.cells c x }

/-- Virtual row, column and cluster of a cell. -/
def cellRow (c : Nat) : Nat := c / 256
/-- Virtual column. -/
def cellCol (c : Nat) : Nat := c % 256
/-- Virtual cluster: 4 × column + row / 32. DEDUCED: log 54. -/
def cellCluster (c : Nat) : Nat := 4 * (c % 256) + c / 8192
/-- Core die of a cell: virtual columns 0–127 lie on C0. -/
def cellDie (c : Nat) : Nat := c % 256 / 128

/-- The CCLK cycle of fabric time now. -/
def State.cyc (s : State) : Nat := s.tim.now / 4

/-- CCLK cycles in a slot (R8). -/
def slotCycles : Nat := 1920

/-- Time moved on to CCLK cycle `c`. -/
def State.toCyc (s : State) (c : Nat) : State := s.advTo (4 * c)

/-- A launch in progress. -/
def State.runOf (s : State) (id : Nat) : Option Run := s.cel.runs.find? fun r => r.id == id

/-- The state with a launch in progress replaced. -/
def State.setRun (s : State) (r : Run) : State :=
  { s with cel := { s.cel with runs := s.cel.runs.map fun x => if x.id = r.id then r else x } }

/-- An event bit of CEL. -/
def State.celEvt (s : State) (bit : Nat) : State := s.evt 13 aCEL_EVENT bit

/-- Cells of a rectangle. -/
def rectCells (l : Launch) : List Nat :=
  (List.range (l.colHi + 1 - l.colLo)).flatMap fun c =>
    (List.range (l.rowHi + 1 - l.rowLo)).map fun r => 256 * (l.rowLo + r) + (l.colLo + c)

/-- Clusters of a rectangle. -/
def rectClusters (l : Launch) : List Nat :=
  (List.range (l.colHi + 1 - l.colLo)).flatMap fun c =>
    (List.range (l.rowHi / 32 + 1 - l.rowLo / 32)).map fun r => 4 * (l.colLo + c) + (l.rowLo / 32 + r)

/-! ## Landing entries (R343–R345) -/

/-- A landing entry of the loaded image, by 64 × cluster + entry. -/
def State.landing (s : State) (k : Nat) : Option Landing :=
  match s.img with
  | none => none
  | some i => i.landing.find? fun e => e.cluster == k / 64 && e.index == k % 64

/-- The deposits of an entry since it was armed. -/
def State.deposits (s : State) (k : Nat) : List (Nat × Nat) := tblGet (fun _ => []) s.cel.counts k

/-- COUNT of a landing entry. -/
def State.landCount (s : State) (k : Nat) : Nat := ((s.deposits k).map (·.2)).foldl (· + ·) 0

/-- COUNT as it stands at the start of cycle `c`: the bytes of a cycle count from the next (R317, R344). -/
def State.landCountAt (s : State) (k c : Nat) : Nat :=
  (((s.deposits k).filter fun d => decide (d.1 < c)).map (·.2)).foldl (· + ·) 0

/-- An entry armed at cycle `c`: what is written in that cycle or later counts toward the next use (R345). -/
def State.arm (s : State) (k c : Nat) : State :=
  { s with cel := { s.cel with counts := tblSet s.cel.counts k ((s.deposits k).filter fun d => decide (c ≤ d.1)) } }

/-- The gating entries of a launch record (R505). -/
def gates (l : Launch) : List Nat :=
  match l.gate with
  | none => []
  | some g => (rectClusters l).map fun c => 64 * c + g

/-! ## Completion (R319) -/

/-- A CELL completion at cycle `c` (R573). -/
def cellCpl (l : Launch) (status sub flags pc dropped c detail : Nat) : Cpl :=
  ⟨l.tag % 65536, 1, status, sub, flags, pc, dropped, c / slotCycles, c % slotCycles, detail, 0⟩

/-- The fault word: [31:24] CAUSE, [22:16] ROW, [7:0] COL. -/
def faultWord (cause cell : Nat) : Nat := cause * 2 ^ 24 + cellRow cell * 2 ^ 16 + cellCol cell

/-- A launch that did not start completes with a status (R61, R92, R316, R317). -/
def State.cellNotRun (s : State) (l : Launch) (status sub : Nat) : State :=
  let s := s.postFree l.ring (cellCpl l status sub 0 0 0 s.cyc 0)
  if status = 1 ∨ status = 3 then s.hazard 6 else s

/-- A stream's update takes the end of its VEC_LAUNCH, whose last cell halted in cycle `c`, and its flags (R294, R419, R421,
R427, R483). -/
def State.vecDone (s : State) (r : Run) (ok : Bool) (c : Nat) : State :=
  match r.stream with
  | some i =>
    let s := s.setStream i { s.stream i with uFlags := orF (s.stream i).uFlags r.flags }
    if ok then s.cellStage i ((4 * c + 3) / 6) else s.updateFail i
  | none => s

/-- A launch completes: its completion, its flags in CEL_FPFLAGS (R294, R319, R350). `ok` is whether PCIe took the write. -/
def State.finish (s : State) (r : Run) (ok : Bool) : State :=
  let (status, pc, detail, c) := match r.fault with
    | some (cause, cell, pc, c) => (5, pc, faultWord cause cell, max c r.last)
    | none => (0, 0, 0, r.last)
  let s := { s with cel := { s.cel with runs := s.cel.runs.filter fun x => x.id != r.id } }
  let s := s.orFlags aCEL_FPFLAGS r.flags
  let s := if status = 0 then s else s.hazard 6
  (s.postData r.l.ring (cellCpl r.l status 0 r.flags pc r.dropped c detail) ok).vecDone r (status == 0) c

/-! ## Starting a launch -/

/-- CEL_COLMODE of a virtual column. -/
def State.colMode (s : State) (v : Nat) : Bool := s.bit (aCEL_COLMODE (v / 32)) (v % 32)

/-- A cell of the rectangle is running. -/
def State.rectBusy (s : State) (l : Launch) : Bool := (rectCells l).any fun c => (s.cell c).run.isSome

/-- The sub-status of R316 for a launch, none where it may start: 2 PAVILION, 3 COLMODE, 4 RANGE, 1 CELL_BUSY.
DEDUCED: log 54. -/
def State.launchBad (s : State) (l : Launch) (sched : Bool) : Option Nat :=
  let cols := (List.range (l.colHi + 1 - l.colLo)).map (l.colLo + ·)
  if cols.any fun v => decide (s.columnPav v ≠ some l.pav) then some 2
  else if cols.any fun v => s.colMode v == sched then some 3
  else if 1024 < l.entry + l.nlines then some 4
  else if s.rectBusy l then some 1
  else none

/-- The first cycle at or after `c` that is the turn of row `row`: the cycle modulo 32 equals the row modulo 32.
DEDUCED: log 54. -/
def turnFrom (c row : Nat) : Nat := c + (row % 32 + 32 - c % 32) % 32

/-- Store lines copied into a cell's instruction buffer, with any uncorrectable word (R318, R321, R349). -/
def State.fillLines (s : State) (cell sline bline n : Nat) : State :=
  s.copyMem (istoreKey (cellCluster cell) (64 * sline)) (ibufKey cell (64 * bline)) (64 * n)

/-- One cell starts (R312, R318): its identity, parameters and first issue cycle; what it kept stays (R313). -/
def State.startCell (s : State) (r : Run) (fire cell : Nat) : State :=
  let x := s.cell cell
  let par := (List.range 7).map fun i => r.l.params.getD i 0
  let sx := ([0, BitVec.ofNat 32 (cellRow cell), BitVec.ofNat 32 (cellCol cell), BitVec.ofNat 32 r.l.tag]
    ++ (x.sx.drop 4).take 20 ++ par ++ [BitVec.ofNat 32 r.word7])
  let first := turnFrom (fire + 24) (cellRow cell) + 32 * (r.l.nlines - 1) + 2
  (s.fillLines cell r.l.entry 0 r.l.nlines).setCell cell
    { x with sx := sx, run := some r.id, pos := 0, next := first, avail := [], last := [], loops := [] }

/-- A launch that passes its checks starts: every cell of its rectangle, fired at cycle `fire` (R318), for a stream or for a
group's stage where it is theirs. -/
def State.startLaunch (s : State) (l : Launch) (word7 fire : Nat) (sched : Bool) (stream : Option Nat)
    (stage : Option (Nat × Nat)) : State :=
  let r : Run := { id := s.cel.nextRun, l := l, word7 := word7, sched := sched, stream := stream, stage := stage,
                   slot0 := fire / slotCycles * slotCycles, cells := rectCells l, flags := 0, fault := none, dropped := 0,
                   last := fire }
  let s := { s with cel := { s.cel with runs := s.cel.runs ++ [r], nextRun := s.cel.nextRun + 1 } }
  (rectCells l).foldl (fun s c => s.startCell r fire c) (s.bump aCEL_LAUNCHES 1)

/-- A launch is refused (R316). -/
def State.refuseLaunch (s : State) (l : Launch) (sub : Nat) : State :=
  ((s.bump aCEL_LAUNCH_REFUSED 1).celEvt 2).cellNotRun l 1 sub

/-- A launch fired by a bandstand, or by a stream, at cycle `fire` with its gates (R316–R318, R345). -/
def State.fireLaunch (s : State) (l : Launch) (word7 fire : Nat) (stream : Option Nat) : State :=
  let armAll := fun (s : State) => (gates l).foldl (fun s k => s.arm k fire) s
  match s.launchBad l true with
  | some sub => armAll (s.refuseLaunch l sub)
  | none =>
    let short := (gates l).any fun k => match s.landing k with
      | some e => decide (s.landCountAt k fire < e.expect)
      | none => false
    if short then armAll (s.cellNotRun l 4 0) else armAll (s.startLaunch l word7 fire true stream none)

/-! ## Instructions (R323) -/

/-- The fields of an instruction. -/
structure Ins where
  op   : Nat
  pred : Nat
  dst  : Nat
  a    : Nat
  b    : Nat
  fmt  : Nat
  rm   : Nat
  imm  : Nat
  deriving DecidableEq, Repr

/-- The instruction a 64-bit word holds. -/
def insOf (w : Nat) : Ins :=
  ⟨bitsOf w 63 56, bitsOf w 55 53, bitsOf w 52 48, bitsOf w 47 43, bitsOf w 42 38, bitsOf w 37 34, bitsOf w 33 32, w % 2 ^ 32⟩

/-- The instruction buffer's word at the cell's program counter. -/
def State.fetch (s : State) (cell : Nat) : Ins := insOf (leNat (s.rd (ibufKey cell (8 * ((s.cell cell).pos % 256))) 8))

/-- Register codes of the scoreboard. -/
def sxR (i : Nat) : Nat := i
/-- VX register. DEDUCED: log 50. -/
def vxR (i : Nat) : Nat := 32 + i
/-- MK register. DEDUCED: log 50. -/
def mkR (i : Nat) : Nat := 48 + i

/-- The cycle from which registers `rs` can be read (R330). -/
def Cell.readyAt (x : Cell) (rs : List Nat) : Nat := rs.foldl (fun m r => max m (tblGet (fun _ => 0) x.avail r)) 0

/-- The position after the instruction at `p` has run, with the loops that end there (R329). -/
def loopStep : List (Nat × Nat × Nat) → Nat → Nat × List (Nat × Nat × Nat)
  | [], p => (p, [])
  | (first, stop, left) :: ls, p =>
    if p < stop then (p, (first, stop, left) :: ls)
    else if left = 0 then loopStep ls p
    else (first, (first, stop, left - 1) :: ls)

/-- The cell goes on to position `p`, its next issue no earlier than `next`. -/
def Cell.goTo (x : Cell) (p next : Nat) : Cell :=
  let r := loopStep x.loops p
  { x with pos := r.1, loops := r.2, next := next }

/-- A register that is written at cycle `c` with latency `l` can be read from `c + l` (R325, R330). -/
def Cell.wrote (x : Cell) (r c l : Nat) : Cell := { x with avail := tblSet x.avail r (c + l) }

/-! ## Faults (R348–R351) -/

/-- The first of two faults in one cycle, by column and then row. -/
def faultFirst (a b : Nat) : Bool := decide (cellCol a * 128 + cellRow a < cellCol b * 128 + cellRow b)

/-- The first fault since VALID was cleared is recorded, of those of one cycle the first by column and row (R348). -/
def State.cellRecord (s : State) (cell c r0 r1 : Nat) : State :=
  let held := s.bit aCEL_FAULT_REC3 0
  let mine := match s.cel.first with
    | some (c', col, row) => !held || (decide (c' = c) && faultFirst cell (256 * row + col))
    | none => !held
  let s := s.recordFault aCEL_FAULT_REC3 mine [(aCEL_FAULT_REC0, BitVec.ofNat 32 r0), (aCEL_FAULT_REC1, BitVec.ofNat 32 r1),
    (aCEL_FAULT_REC2, BitVec.ofNat 32 s.ns)]
  if mine then { s with cel := { s.cel with first := some (c, cellCol cell, cellRow cell) } } else s

/-- A fault at a cell in cycle `c` (R350, R351): it is counted, recorded and logged, and the cell stops. -/
def State.cellFault (s : State) (cell cause c : Nat) : State :=
  let s := s.toCyc c
  let x := s.cell cell
  let pc := x.pos % 256
  let run := match x.run with | some id => s.runOf id | none => none
  let tag := match run with | some r => r.l.tag % 65536 | none => 0
  let pav := match run with | some r => r.l.pav | none => 0x80
  let r0 := faultWord cause cell
  let r1 := tag * 2 ^ 16 + pc
  let s := (s.bump aCEL_FAULTS 1).celEvt 1
  let s := s.offer 0x08 0 (cellDie cell) pav r0 r1 0 0
  let s := s.cellRecord cell c r0 r1
  let s := s.setCell cell { s.cell cell with run := none }
  match run with
  | none => s
  | some r =>
    let f := match r.fault with
      | some (k, c', p, n) => if n = c ∧ faultFirst cell c' then (cause, cell, pc, c) else (k, c', p, n)
      | none => (cause, cell, pc, c)
    s.setRun { r with fault := some f, cells := r.cells.filter (· != cell) }

/-! ## Issue -/

/-- Issue interval of an opcode (R325). -/
def interval (op : Nat) : Nat :=
  if op = 0x46 ∨ op = 0x49 then 4 else if op = 0x47 then 8 else if op = 0x61 ∨ op = 0x78 then 2
  else if op = 0x72 ∨ op = 0x73 then 16 else if op = 0x74 then 20 else 1

/-- Opcodes that take PRED = 0 only (R328). -/
def noPred (op : Nat) : Bool :=
  op == 0x80 || op == 0x81 || op == 0x88 || op == 0x48 || op == 0x49 || op == 0x61 || decide (0xF0 ≤ op)

/-- A reserved PRED, RM or FMT, or a PRED the opcode does not take, is ILLEGAL (R324, R325, R328). DEDUCED: log 50. -/
def Ins.bad (i : Ins) : Bool :=
  decide (5 ≤ i.pred) || decide (2 ≤ i.rm) || decide (12 ≤ i.fmt) || (noPred i.op && decide (i.pred ≠ 0))

/-- The cycle in which the instruction of a cell issues, where it reads registers `rs` (R330, R332). -/
def Cell.issueAt (x : Cell) (cell : Nat) (i : Ins) (rs : List Nat) : Nat :=
  let prev := match x.last.find? fun e => e.1 == i.op with
    | some e => e.2 + interval i.op
    | none => 0
  let rs := if i.pred = 0 then rs else mkR (i.pred - 1) :: rs
  let c := max (max x.next (x.readyAt rs)) prev
  if i.op = 0x88 then turnFrom c (cellRow cell) else c

/-- Cycle `n` lies past the 64 cycles after a launch's fault within which every cell of it halts (R350). -/
def Run.halted (r : Run) (n : Nat) : Bool := match r.fault with | some (_, _, _, c) => decide (c + 64 < n) | none => false

/-- One cell issues the instruction at its program counter where `want` takes it (its opcode, and a GPOST's command): `rs`
names the registers it reads, and `body` has its effect in its cycle. No instruction of a launch that has faulted issues more
than 64 cycles after the fault (R350); an uncorrectable instruction word is ECC_INSTR (R348), and a single-bit error in it is
corrected (R349). -/
def State.issue (s : State) (cell : Nat) (want : Ins → Bool) (rs : Ins → List Nat)
    (body : Ins → Run → Nat → State → State) : State :=
  let x := s.cell cell
  match x.run with
  | none => s
  | some id =>
    match s.runOf id with
    | none => s
    | some r =>
      let at_ := ibufKey cell (8 * (x.pos % 256))
      if r.halted x.next || !s.running then s
      else if s.poisoned at_ 8 then s.cellFault cell 5 x.next
      else
        let i := s.fetch cell
        let c := x.issueAt cell i (rs i)
        if !want i || r.halted c then s
        else
          let s := (s.toCyc c).correct at_ 8
          if i.bad then s.cellFault cell 1 c
          else
            let x := s.cell cell
            body i r c (s.setCell cell { x with last := tblSet x.last i.op c })

/-- The cell goes on to the next instruction in the next cycle. -/
def State.step1 (s : State) (cell c : Nat) : State :=
  let x := s.cell cell
  s.setCell cell (x.goTo (x.pos + 1) (c + 1))

/-- Flags of a cell's launch. DEDUCED: log 56. -/
def State.runFlags (s : State) (r : Run) (fl : Nat) : State :=
  if fl = 0 then s
  else match s.runOf r.id with
    | some q => s.setRun { q with flags := orF q.flags fl }
    | none => s

/-! ## Registers -/

/-- A scalar register. -/
def Cell.getSx (x : Cell) (i : Nat) : Nat := if i = 0 then 0 else (x.sx.getD i 0).toNat

/-- A vector register's lane. -/
def Cell.lane (x : Cell) (i j : Nat) : Nat := ((x.vx.getD i []).getD j 0).toNat

/-- The lanes an instruction acts on (R328). -/
def Cell.active (x : Cell) (i : Ins) (j : Nat) : Bool := i.pred == 0 || bitOf (x.mask.getD (i.pred - 1) 0) j

/-- A scalar register written with latency `l`: SX0 ignores it; SX1–SX3 and SX24–SX31 are read-only and the write is ILLEGAL
(R312). -/
def State.wrSx (s : State) (cell c i v l : Nat) : State :=
  if (1 ≤ i ∧ i ≤ 3) ∨ 24 ≤ i then s.cellFault cell 1 c
  else if i = 0 then s.step1 cell c
  else
    let x := s.cell cell
    (s.setCell cell ({ x with sx := x.sx.set i (BitVec.ofNat 32 v) }.wrote (sxR i) c l)).step1 cell c

/-- The active lanes of a vector register written with latency `l`. -/
def State.wrVx (s : State) (cell c : Nat) (i : Ins) (d l : Nat) (f : Nat → Nat) : State :=
  let x := s.cell cell
  let v := (List.range 16).map fun j => if x.active i j then BitVec.ofNat 32 (f j) else (x.vx.getD d []).getD j 0
  (s.setCell cell ({ x with vx := x.vx.set d v }.wrote (vxR d) c l)).step1 cell c

/-- The flags of the active lanes. -/
def Cell.laneFlags (x : Cell) (i : Ins) (f : Nat → Nat) : Nat :=
  (List.range 16).foldl (fun a j => if x.active i j then orF a (f j) else a) 0

end Sys2Proof.Machine
end

