-- ==== Sys2Proof/Machine/MxuMath.lean ====
section
/-! DEFINITION. What a matrix-unit launch computes (R383–R400): its descriptor, operands, products, the fused chain, statistics
and the bytes each output row writes. -/

namespace Sys2Proof.Machine

/-! ## The descriptor (R506) -/

/-- Bits `hi` to `lo` of word `i`. -/
def dw (d : List Nat) (i hi lo : Nat) : Nat := bitsOf (d.getD i 0) hi lo
/-- UNIT. -/
def dUnit (d : List Nat) : Nat := dw d 0 31 29
/-- PAVILION. -/
def dPav (d : List Nat) : Nat := dw d 0 28 23
/-- MODE: 0 16-bit, 1 FP8, 2 MX, 3 INT8, 4 Split-2, 5 Split-3. -/
def dMode (d : List Nat) : Nat := dw d 0 22 20
/-- A_FMT. -/
def dAF (d : List Nat) : Nat := dw d 0 19 16
/-- B_FMT. -/
def dBF (d : List Nat) : Nat := dw d 0 15 12
/-- OUT_FMT. -/
def dOF (d : List Nat) : Nat := dw d 0 11 8
/-- RM. -/
def dSR (d : List Nat) : Bool := bitOf (d.getD 0 0) 7
/-- Products. -/
def dQ (d : List Nat) : Nat := dw d 0 6 6 + 1
/-- TA. -/
def dTA (d : List Nat) : Bool := bitOf (d.getD 0 0) 5
/-- TB. -/
def dTB (d : List Nat) : Bool := bitOf (d.getD 0 0) 4
/-- ACC_IN: 0 ZERO, 1 TENSOR, 2 HELD. -/
def dAccIn (d : List Nat) : Nat := dw d 0 3 2
/-- ACC_KEEP. -/
def dKeep (d : List Nat) : Bool := bitOf (d.getD 0 0) 1
/-- STATS. -/
def dStats (d : List Nat) : Bool := bitOf (d.getD 0 0) 0
/-- TAG. -/
def dTag (d : List Nat) : Nat := dw d 1 31 16
/-- COMP_RING. -/
def dRing (d : List Nat) : Nat := dw d 1 15 0
/-- SEED. -/
def dSeed (d : List Nat) : Nat := d.getD 3 0 + d.getD 4 0 * 2 ^ 32
/-- STEP. -/
def dStep (d : List Nat) : Nat := d.getD 5 0 + dw d 6 15 0 * 2 ^ 32
/-- M. -/
def dM (d : List Nat) : Nat := dw d 6 31 16 + 1
/-- N. -/
def dN (d : List Nat) : Nat := dw d 7 15 0 + 1
/-- K of product `q`. -/
def dK (d : List Nat) (q : Nat) : Nat := (if q = 0 then dw d 7 31 16 else dw d 8 15 0) + 1
/-- BIAS: 0 none, 1 FP32 (INT32 in the INT8 mode), 2 BF16, 3 FP16. -/
def dBias (d : List Nat) : Nat := dw d 8 17 16
/-- GATE. -/
def dGate (d : List Nat) : Nat := dw d 8 19 18
/-- COMB. -/
def dComb (d : List Nat) : Nat := dw d 8 22 20
/-- Format of E1, coded as BIAS. -/
def dE1 (d : List Nat) : Nat := dw d 8 24 23
/-- Format of E2. -/
def dE2 (d : List Nat) : Nat := dw d 8 26 25
/-- Output tier: 0 own operand SRAM, 1 that of OUT_UNIT, 2 Ember store, 3 scheduled region. -/
def dTier (d : List Nat) : Nat := dw d 8 28 27
/-- OUT_UNIT. -/
def dOutUnit (d : List Nat) : Nat := dw d 8 31 29
/-- An address word in bytes. -/
def dAddr (d : List Nat) (i : Nat) : Nat := 64 * d.getD i 0
/-- GSRC: 0 none, 1 operand SRAM, 2 Ember store, 3 shared buffer, 4 HBM. -/
def dGsrc (d : List Nat) : Nat := dw d 19 2 0
/-- GATHER_LEAD. -/
def dLead (d : List Nat) : Nat := dw d 19 31 16
/-- TROWS. -/
def dTrows (d : List Nat) : Nat := d.getD 21 0

/-- Bytes of `n` elements of a format, at a row pitch of whole 64 B lines: the pitch of tensors whose descriptor names none.
DEDUCED: log 63. -/
def packPitch (n f : Nat) : Nat := (n * elemBytes f + 63) / 64 * 64

/-- Format code of a BIAS-coded field. -/
def sideFmt (c : Nat) : Nat := c - 1

/-! ## Operands -/

/-- An element and its block scale. -/
abbrev Elem := Nat × Option Nat

/-- Base and pitch in bytes of A (`w` 9 for product 0, 13 for product 1) or of B (11, 15). -/
def matAddr (d : List Nat) (w r c eb : Nat) : Nat := dAddr d w + dAddr d (w + 1) * r + c * eb

/-- Address of a gather table row in its source: an on-chip byte address, or an HBM address of the unit's die. -/
def gatherKey (d : List Nat) (row : Nat) : Nat :=
  let die := dUnit d / 4
  let off := dAddr d 22 * row
  if dGsrc d = 1 then opKey (dUnit d) (dAddr d 20 + off)
  else if dGsrc d = 2 then emberKey die (dAddr d 20 + off)
  else if dGsrc d = 3 then sbufKey die (dAddr d 20 + off)
  else die * 2 ^ 39 + dw d 20 27 0 * 4096 + off

/-- The scale array of one operand: `lines` rows of `n` scales each, packed in whole lines; product 1's follows product 0's.
DEDUCED: log 63. -/
def scaleAt (base q lines0 n0 n line k : Nat) : Nat :=
  base + (if q = 0 then 0 else lines0 * ((n0 + 63) / 64 * 64)) + line * ((n + 63) / 64 * 64) + k

/-- Address of the scale of A's row `i`, block `b`. DEDUCED: log 63. -/
def aScale (d : List Nat) (q i b : Nat) : Nat :=
  if dTA d then scaleAt (dAddr d 17) q (dK d 0 / 32) (dM d) (dM d) b i
  else scaleAt (dAddr d 17) q (dM d) (dK d 0 / 32) (dK d q / 32) i b

/-- Address of the scale of B's column `j`, block `b`. DEDUCED: log 63. -/
def bScale (d : List Nat) (q b j : Nat) : Nat :=
  if dTB d then scaleAt (dAddr d 18) q (dN d) (dK d 0 / 32) (dK d q / 32) j b
  else scaleAt (dAddr d 18) q (dK d 0 / 32) (dN d) (dN d) b j

/-- An element of a format at a key. -/
def State.elemK (s : State) (k f : Nat) : Nat := leNat (s.rd k (elemBytes f))

/-- The row of the source table that row `i` of A names (R392). -/
def State.gatherIdx (s : State) (d : List Nat) (i : Nat) : Nat := leNat (s.rd (opKey (dUnit d) (dAddr d 9 + 4 * i)) 4)

/-- Row `i` of A of product `q`. -/
def State.aRow (s : State) (d : List Nat) (q i : Nat) : List Elem :=
  let u := dUnit d
  let eb := elemBytes (dAF d)
  let ks := List.range (dK d q)
  let code := fun k =>
    if q = 0 ∧ dGsrc d ≠ 0 then
      let r := s.gatherIdx d i
      if dTrows d ≤ r then 0 else s.elemK (gatherKey d r + k * eb) (dAF d)
    else
      let w := if q = 0 then 9 else 13
      s.elemK (opKey u (if dTA d then matAddr d w k i eb else matAddr d w i k eb)) (dAF d)
  ks.map fun k => (code k, if dMode d = 2 then some (s.rd (opKey u (aScale d q i (k / 32))) 1 |> leNat) else none)

/-- Column `j` of B of product `q`. -/
def State.bCol (s : State) (d : List Nat) (q j : Nat) : List Elem :=
  let u := dUnit d
  let eb := elemBytes (dBF d)
  let w := if q = 0 then 11 else 15
  (List.range (dK d q)).map fun k =>
    (s.elemK (opKey u (if dTB d then matAddr d w j k eb else matAddr d w k j eb)) (dBF d),
     if dMode d = 2 then some (s.rd (opKey u (bScale d q (k / 32) j)) 1 |> leNat) else none)

/-! ## Products and accumulation (R383, R384, R388) -/

/-- Passes of a mode, as pieces of A and B: 0 hi (or the whole operand), 1 mid, 2 lo (R305). -/
def passesOf (mode : Nat) : List (Nat × Nat) :=
  if mode = 4 then [(1, 0), (0, 1), (0, 0)]
  else if mode = 5 then [(1, 1), (2, 0), (0, 2), (1, 0), (0, 1), (0, 0)]
  else [(0, 0)]

/-- A piece of an FP32 code. -/
def pieceOf (w x : Nat) : Nat := let p := splitF x; if w = 0 then p.1 else if w = 1 then p.2.1 else p.2.2

/-- An element's value with its scale, and INVALID for a scale of 0xFF. -/
def elemVal (f : Nat) (x : Elem) : Fv × Nat :=
  match x.2 with
  | none => (elemV f x.1, 0)
  | some S => (scaled S (elemV f x.1), if S = 255 then fInvalid else 0)

/-- The product of two values, rounded to FP32 (R287, R384). -/
def prodV (x y : Fv) : Nat × Nat :=
  let v := mulV x y
  toFp32 v (orF (nanFlag [x, y]) (invFlag v [x, y]))

/-- A two's-complement byte as an INT32 code. -/
def byteI32 (x : Nat) : Nat := if 128 ≤ x % 256 then 2 ^ 32 - 256 + x % 256 else x % 256

/-- One product of a launch. -/
def elemProd (d : List Nat) (pass : Nat × Nat) (x y : Elem) : Nat × Nat :=
  if dMode d = 3 then imul (byteI32 x.1) (byteI32 y.1)
  else if 4 ≤ dMode d then prodV (decodeF fp32 (pieceOf pass.1 x.1)) (decodeF fp32 (pieceOf pass.2 y.1))
  else
    let a := elemVal (dAF d) x
    let b := elemVal (dBF d) y
    let p := prodV a.1 b.1
    (p.1, orF p.2 (orF a.2 b.2))

/-- Products of one pass added to an accumulator, block by block. -/
def passSum (d : List Nat) (pass : Nat × Nat) (xs ys : List Elem) (acc : Nat × Nat) : Nat × Nat :=
  let ps := (xs.zip ys).map fun p => elemProd d pass p.1 p.2
  let r := dotSum (if dMode d = 3 then iadd else fadd) acc.1 (ps.map (·.1))
  (r.1, orF acc.2 (ps.foldl (fun f p => orF f p.2) r.2))

/-- The accumulator of one output element: its products over the passes and K blocks (R388). -/
def accElem (d : List Nat) (as bs : List (List Elem)) (init : Nat) : Nat × Nat :=
  (as.zip bs).foldl (fun acc ab => (passesOf (dMode d)).foldl (fun acc p => passSum d p ab.1 ab.2 acc) acc) (init, 0)

/-- The initial value of accumulator (i, j) (R389). -/
def State.accInit (s : State) (d : List Nat) (held : List (List Nat)) (i j : Nat) : Nat :=
  if dAccIn d = 1 then s.elemK (opKey (dUnit d) (dAddr d 23 + packPitch (dN d) 0 * i + 4 * j)) 0
  else if dAccIn d = 2 then (held.getD i []).getD j 0
  else 0

/-! ## The chain (R395) -/

/-- A side operand widened to FP32, with NAN_IN where it is NaN only once it is used. -/
def State.side (s : State) (d : List Nat) (w c i j : Nat) : Nat :=
  let f := sideFmt c
  (widen f none (s.elemK (opKey (dUnit d) (dAddr d w + packPitch (dN d) f * i + elemBytes f * j)) f)).1

/-- Bias, gate and combine of one element. -/
def State.chain (s : State) (d : List Nat) (i j y : Nat) : Nat × Nat :=
  if dMode d = 3 then
    (if dBias d = 0 then (y, 0) else iadd y (s.elemK (opKey (dUnit d) (dAddr d 24 + 4 * j)) 6))
  else
    let a := if dBias d = 0 then (y, 0) else fadd y (s.side d 24 (dBias d) 0 j)
    let g := if dGate d = 0 then (a.1, 0) else pwl (if dGate d = 1 then gateTable else shapeTable) a.1
    let e1 := fun (_ : Unit) => s.side d 25 (dE1 d) i j
    let e2 := fun (_ : Unit) => s.side d 26 (dE2 d) i j
    let c := if dComb d = 1 then fadd g.1 (e1 ()) else if dComb d = 2 then fmul g.1 (e1 ())
      else if dComb d = 3 then ffma g.1 (e1 ()) (e2 ())
      else if dComb d = 4 then
        let df := fsub (e1 ()) (e2 ())
        let r := ffma g.1 df.1 (e2 ())
        (r.1, orF df.2 r.2)
      else (g.1, 0)
    (c.1, orF a.2 (orF g.2 c.2))

/-! ## Statistics (R397, R398) -/

/-- A statistics tuple: n, mean, M2, mx, and the flags so far. -/
structure Stat where
  n    : Nat
  mean : Nat
  m2   : Nat
  mx   : Nat
  fl   : Nat
  deriving DecidableEq, Repr

/-- The quotient of two whole numbers, rounded once to FP32. -/
def quotF (p q : Nat) : Nat × Nat :=
  let x := p * 2 ^ 64 / q
  toFp32 (.fin false (2 * x + (if p * 2 ^ 64 % q = 0 then 0 else 1)) (-65)) 0

/-- The combining step. DEDUCED: log 64. -/
def statJoin (a b : Stat) : Stat :=
  if b.n = 0 then { a with fl := orF a.fl b.fl }
  else if a.n = 0 then { b with fl := orF a.fl b.fl }
  else
    let n := a.n + b.n
    let d := fsub b.mean a.mean
    let r := quotF b.n n
    let w := quotF (a.n * b.n) n
    let mean := ffma d.1 r.1 a.mean
    let t := fadd a.m2 b.m2
    let dd := fmul d.1 d.1
    let u := fmul dd.1 w.1
    let m2 := fadd t.1 u.1
    let mx := fmax a.mx b.mx
    ⟨n, mean.1, m2.1, mx.1, [a.fl, b.fl, d.2, r.2, w.2, mean.2, t.2, dd.2, u.2, m2.2, mx.2].foldl orF 0⟩

/-- Neighbours joined, level by level. -/
def statTree : Nat → List Stat → Stat
  | 0, l => l.getD 0 ⟨0, 0, 0, 0, 0⟩
  | n + 1, l => statTree n ((List.range (l.length / 2)).map fun j =>
      statJoin (l.getD (2 * j) ⟨0, 0, 0, 0, 0⟩) (l.getD (2 * j + 1) ⟨0, 0, 0, 0, 0⟩))

/-- The statistics of a row's values. DEDUCED: log 64. -/
def rowStat (ys : List Nat) : Stat :=
  let tile := fun (t : List Nat) => statTree 8
    ((t.map fun y => (⟨1, y, 0, y % 2 ^ 31, 0⟩ : Stat)) ++ List.replicate (256 - t.length) ⟨0, 0, 0, 0, 0⟩)
  let r := (blocksOf 256 ys).foldl (fun a t => statJoin a (tile t)) ⟨0, 0, 0, 0, 0⟩
  if ys.any fun y => decodeF fp32 y = .nan then
    { r with mean := nanCode fp32, m2 := nanCode fp32, mx := nanCode fp32, fl := orF r.fl fNanIn }
  else r

/-- The 16 B record (R399). -/
def Stat.bytes (x : Stat) : List Byte := natLe 4 x.n ++ natLe 4 x.mean ++ natLe 4 x.m2 ++ natLe 4 x.mx

/-! ## Output (R396, R400) -/

/-- Key of byte `a` of the output tier. -/
def outKey (d : List Nat) (a : Nat) : Nat :=
  let die := dUnit d / 4
  if dTier d = 0 then opKey (dUnit d) a else if dTier d = 1 then opKey (dOutUnit d) a
  else if dTier d = 2 then emberKey die a else sbufKey die a

/-- The random bits of output (i, j), where RM selects stochastic rounding. -/
def outRnd (d : List Nat) (step i j : Nat) : Option Nat :=
  if dSR d then some (hashRnd (yelHash (dSeed d) 2 step (d.getD 2 0) i j)) else none

/-- A block-scaled format. -/
def scaledFmt (f : Nat) : Bool := f == 9 || f == 10 || f == 11

/-- The bytes `bs` of a row, `n` to a column tile, from key `k`: a write for each tile (R405). -/
def tileWrites (n k : Nat) (bs : List Byte) : List (Nat × Nat × List Byte) :=
  let ts := blocksOf n bs
  ((List.range ts.length).zip ts).map fun p => (p.1, k + n * p.1, p.2)

/-- What row `i` of outputs writes: the tile, key and bytes of each write, and the flags. -/
def outRow (d : List Nat) (step i : Nat) (ys : List Nat) : List (Nat × Nat × List Byte) × Nat :=
  let f := dOF d
  let at_ := outKey d (dAddr d 28 + dAddr d 29 * i)
  if dMode d = 3 then (tileWrites 1024 at_ (ys.flatMap (natLe 4)), 0)
  else if scaledFmt f then
    let bl := (blocksOf 32 ys).map fun b => (b, blockScale ((emaxOf f).getD 0) b)
    let es := ((List.range bl.length).zip bl).map fun p =>
      ((List.range p.2.1.length).zip p.2.1).map fun e =>
        if p.2.2.1 = 255 then ((0 : Nat), (0 : Nat))
        else writeElem f (outRnd d step i (32 * p.1 + e.1)) (unscale p.2.2.1 (decodeF fp32 e.2))
    let fl := (bl.map fun b => b.2.2).foldl orF ((es.flatMap fun l => l.map (·.2)).foldl orF 0)
    (tileWrites 256 at_ (es.flatMap fun l => l.flatMap fun e => natLe 1 e.1)
      ++ tileWrites 8 (outKey d (dAddr d 30 + packPitch ((dN d + 31) / 32) 5 * i)) (bl.flatMap fun b => natLe 1 b.2.1), fl)
  else
    let es := ((List.range ys.length).zip ys).map fun e => writeElem f (outRnd d step i e.1) (decodeF fp32 e.2)
    (tileWrites (256 * elemBytes f) at_ (es.flatMap fun e => natLe (elemBytes f) e.1), (es.map (·.2)).foldl orF 0)

/-- Everything a launch computes: the writes of each row, the statistics records, each row's flags and the accumulators. -/
structure MxuOut where
  rows  : List (List (Nat × Nat × List Byte))
  stats : List (Nat × List Byte)
  rowFl : List Nat
  acc   : List (List Nat)

/-- The launch's result from the memories as they stand. -/
def State.mxuResult (s : State) (d : List Nat) (step : Nat) (held : List (List Nat)) : MxuOut :=
  let qs := List.range (dQ d)
  let js := List.range (dN d)
  let bs := js.map fun j => qs.map fun q => s.bCol d q j
  let rows := (List.range (dM d)).map fun i =>
    let as := qs.map fun q => s.aRow d q i
    let acc := (js.zip bs).map fun p => accElem d as p.2 (s.accInit d held i p.1)
    let ys := (js.zip acc).map fun p => s.chain d i p.1 p.2.1
    let st := rowStat (ys.map (·.1))
    let o := outRow d step i (ys.map (·.1))
    (o.1, (outKey d (dAddr d 27 + 16 * i), st.bytes),
      orF ((acc.map (·.2)).foldl orF 0) (orF ((ys.map (·.2)).foldl orF 0) (orF o.2 (if dStats d then st.fl else 0))),
      acc.map (·.1))
  { rows := rows.map (·.1)
    stats := if dStats d then rows.map (·.2.1) else []
    rowFl := rows.map (·.2.2.1)
    acc := rows.map (·.2.2.2) }

/-! ## What a launch touches -/

/-- Rows of memory: key of the first, pitch, how many, bytes of each. -/
structure Span where
  key   : Nat
  pitch : Nat
  rows  : Nat
  len   : Nat
  deriving DecidableEq, Repr

/-- A word of the span is uncorrectable. -/
def State.spanBad (s : State) (x : Span) : Bool := (List.range x.rows).any fun r => s.poisoned (x.key + x.pitch * r) x.len

/-- One past the last byte, counted from the first. -/
def Span.extent (x : Span) : Nat := x.pitch * (x.rows - 1) + x.len

/-- The operand spans in the unit's own operand SRAM, by byte address. -/
def opSpans (d : List Nat) : List Span :=
  let qs := List.range (dQ d)
  let a := qs.flatMap fun q =>
    let w := if q = 0 then 9 else 13
    if q = 0 ∧ dGsrc d ≠ 0 then [(⟨dAddr d 9, 0, 1, 4 * dM d⟩ : Span)]
    else if dTA d then [⟨dAddr d w, dAddr d (w + 1), dK d q, dM d * elemBytes (dAF d)⟩]
    else [⟨dAddr d w, dAddr d (w + 1), dM d, dK d q * elemBytes (dAF d)⟩]
  let b := qs.flatMap fun q =>
    let w := if q = 0 then 11 else 15
    if dTB d then [(⟨dAddr d w, dAddr d (w + 1), dN d, dK d q * elemBytes (dBF d)⟩ : Span)]
    else [⟨dAddr d w, dAddr d (w + 1), dK d q, dN d * elemBytes (dBF d)⟩]
  let sc := if dMode d = 2 then qs.flatMap fun q =>
      [(⟨aScale d q 0 0, 0, 1, aScale d q (dM d - 1) (dK d q / 32 - 1) + 1 - aScale d q 0 0⟩ : Span),
       ⟨bScale d q 0 0, 0, 1, bScale d q (dK d q / 32 - 1) (dN d - 1) + 1 - bScale d q 0 0⟩] else []
  let acc := if dAccIn d = 1 then [(⟨dAddr d 23, packPitch (dN d) 0, dM d, 4 * dN d⟩ : Span)] else []
  let bias := if dBias d = 0 then [] else
    [(⟨dAddr d 24, 0, 1, dN d * elemBytes (if dMode d = 3 then 6 else sideFmt (dBias d))⟩ : Span)]
  let e1 := if dComb d = 0 then [] else
    [(⟨dAddr d 25, packPitch (dN d) (sideFmt (dE1 d)), dM d, dN d * elemBytes (sideFmt (dE1 d))⟩ : Span)]
  let e2 := if dComb d = 3 ∨ dComb d = 4 then
    [(⟨dAddr d 26, packPitch (dN d) (sideFmt (dE2 d)), dM d, dN d * elemBytes (sideFmt (dE2 d))⟩ : Span)] else []
  a ++ b ++ sc ++ acc ++ bias ++ e1 ++ e2

/-- The output spans, by byte address within the output tier. DEDUCED: log 63. -/
def outSpans (d : List Nat) : List Span :=
  let eb := if dMode d = 3 then 4 else elemBytes (dOF d)
  [⟨dAddr d 28, dAddr d 29, dM d, dN d * eb⟩]
    ++ (if scaledFmt (dOF d) then [(⟨dAddr d 30, packPitch ((dN d + 31) / 32) 5, dM d, (dN d + 31) / 32⟩ : Span)] else [])
    ++ (if dStats d then [(⟨dAddr d 27, 16, dM d, 16⟩ : Span)] else [])

/-- Bytes of a gathered row. -/
def rowBytes (d : List Nat) : Nat := dK d 0 * elemBytes (dAF d)

/-- Row numbers the index list names within the table, and how many lie beyond it (R393). -/
def State.gatherRows (s : State) (d : List Nat) : List Nat × Nat :=
  if dGsrc d = 0 then ([], 0)
  else
    let ix := (List.range (dM d)).map (s.gatherIdx d)
    (ix.filter (· < dTrows d), (ix.filter (dTrows d ≤ ·)).length)

/-- Bytes of the accumulators a launch leaves or starts from. -/
def accBytes (d : List Nat) : Nat := 4 * dM d * dN d

/-- A word the launch reads is uncorrectable: an operand, a held accumulator or a gathered row (R409, R492). -/
def State.mxuBad (s : State) (d : List Nat) : Bool :=
  !s.poison.isEmpty &&
    ((dAccIn d == 2 && s.poisoned (accKey (dUnit d)) (accBytes d))
      || (opSpans d).any (fun x => s.spanBad { x with key := opKey (dUnit d) x.key })
      || (s.gatherRows d).1.any fun r => s.poisoned (gatherKey d r) (rowBytes d))

end Sys2Proof.Machine
end

