-- ==== Sys2Proof/Machine/Prefetch.lean ====
section
/-! DEFINITION. The prefetch queues, and the end of a prefetch (R474–R476, R492). -/

namespace Sys2Proof.Machine

/-- A die's prefetch queue. -/
def State.pf (s : State) (die : Nat) : List PfJob := if die = 0 then s.pf0 else s.pf1

/-- A die's prefetch queue replaced. -/
def State.setPf (s : State) (die : Nat) (q : List PfJob) : State := if die = 0 then { s with pf0 := q } else { s with pf1 := q }

/-- The key of a prefetch's first destination byte. -/
def pfKey (r : PfRec) (die : Nat) : Nat :=
  if r.tier = 0 then opKey r.unit r.dest else if r.tier = 1 then emberKey die r.dest else sbufKey die r.dest

/-- The destination words that a prefetch gives the uncorrectable pattern: every line that holds a bad source word (R492). -/
def State.pfBad (s : State) (r : PfRec) (die : Nat) : List Nat :=
  let dst := pfKey r die
  (s.badWords r.src r.len).flatMap fun w => (List.range 8).map (dst / 8 + (w - r.src / 8) / 8 * 8 + ·)

/-- The bytes of a prefetch on their way: they are all written by its bound (R475). DEDUCED: log 70. -/
def State.pfSend (s : State) (j : PfJob) (die : Nat) : State :=
  s.sendWrite (6 * j.bound) 1 (pfKey j.rec_ die) (s.rd j.rec_.src j.rec_.len) (s.pfBad j.rec_ die)

/-- The bytes of a prefetch that ends before its bound land at the end of the present MCLK cycle (R401, R475). -/
def State.pfSooner (s : State) (j : PfJob) (die : Nat) : State :=
  let at_ := mclkEnd s.tim.now
  let mine : Write → Bool := fun w => w.at_ == 6 * j.bound && w.rank == 1 && w.key == pfKey j.rec_ die
  if 6 * j.bound ≤ at_ then s
  else { s with writes := (s.writes.filter mine).foldl (fun l w => addWrite { w with at_ := at_ } l)
                            (s.writes.filter fun w => !mine w) }

/-- A prefetch ends: its source words are corrected and the bad ones logged, and it is counted (R475, R492). -/
def State.pfEnd (s : State) (j : PfJob) (die : Nat) : State :=
  let s := (s.pfSooner j die).correct j.rec_.src j.rec_.len
  ((s.hbmBad j.rec_.src j.rec_.len 1 j.pav).bump64 aMEM_PF_BYTES_LO j.rec_.len).bump aMEM_PF_COUNT 1

/-- Every prefetch of a die whose bound lies no later than MCLK cycle `m` has ended (R475). -/
def State.pfTo (s : State) (die m : Nat) : State :=
  (s.pf die).foldl (fun s j => if j.bound ≤ m then (s.setPf die ((s.pf die).erase j)).pfEnd j die else s) s

end Sys2Proof.Machine
end

