-- ==== Sys2Proof/Machine/Mxu.lean ====
section
/-! DEFINITION. Matrix-unit launches: checks, start, completion, stalls and faults (R402–R409), and the launches of a predictor
update (R416–R421). -/

namespace Sys2Proof.Machine

/-! ## Units -/

/-- A matrix unit. -/
def State.mx (s : State) (u : Nat) : Mxu := tblGet (fun _ => ⟨none, none⟩) s.mxu u

/-- The state with a matrix unit replaced. -/
def State.setMx (s : State) (u : Nat) (x : Mxu) : State := { s with mxu := tblSet s.mxu u x }

/-- An event bit of MXU. -/
def State.mxuEvt (s : State) (bit : Nat) : State := s.evt 15 aMXU_EVENT bit

/-- The unit runs a launch, or an update whose launch 3 has not completed; a write-back that is still to end occupies the pager,
not the unit (R484). DEDUCED: log 61. -/
def State.unitBusy (s : State) (u : Nat) : Bool :=
  (s.mx u).run.isSome || s.streams.any fun e => e.2.upd != 0 && !e.2.l3Done && e.2.unit == u

/-! ## Cycle counts (R405) -/

/-- Accumulate steps of one column tile of one pass over row block `mb`. -/
def mxuPer (d : List Nat) (mb : Nat) : Nat :=
  let rho := if dMode d = 0 ∨ 4 ≤ dMode d then 1 else 2
  max 256 ((min 1024 (dM d - 1024 * mb) + rho - 1) / rho)

/-- Passes over a row block for one column tile: products, passes and K blocks. -/
def mxuDepth (d : List Nat) : Nat :=
  (passesOf (dMode d)).length * ((List.range (dQ d)).map fun q => (dK d q + 255) / 256).foldl (· + ·) 0

/-- Accumulate steps of a launch's first `nb` row blocks, in MCLK. -/
def mxuStepsTo (d : List Nat) (nb : Nat) : Nat :=
  256 + (((List.range nb).map (mxuPer d)).foldl (· + ·) 0) * ((dN d + 255) / 256) * mxuDepth d

/-- Accumulate steps of a launch, in MCLK. -/
def mxuSteps (d : List Nat) : Nat := mxuStepsTo d ((dM d + 1023) / 1024)

/-- Stage latencies of a launch, in MCLK. DEDUCED: log 64. -/
def mxuTail (d : List Nat) : Nat :=
  let pro := (if dTA d || dTB d then 8 else 0) + (if dGsrc d = 0 then 0 else if dGsrc d = 4 then dLead d else 32)
  32 + pro + (if dBias d = 0 then 0 else 4) + (if dGate d = 0 then 0 else 6)
    + (if dComb d = 0 then 0 else if dComb d = 4 then 8 else 4) + (if scaledFmt (dOF d) then 10 else 2) + 16

/-! ## Checks (R403) -/

/-- Mode, formats and stages hold with R383–R386. DEDUCED: log 62. -/
def mxuFmtOk (d : List Nat) : Bool :=
  let m := dMode d
  let ins := if m = 0 then [1, 2] else if m = 1 then [3, 4] else if m = 2 then [9, 10, 11] else if m = 3 then [5]
    else if m ≤ 5 then [0] else []
  let plain := dGate d == 0 && dComb d == 0 && !dStats d
  ins.contains (dAF d) && ins.contains (dBF d) && decide (dGate d ≤ 2) && decide (dComb d ≤ 4) && decide (dAccIn d ≤ 2)
    && decide (dGsrc d ≤ 4) && (dComb d == 0 || dE1 d != 0) && (decide (dComb d < 3) || dE2 d != 0)
    && (m != 2 || (List.range (dQ d)).all fun q => dK d q % 32 == 0)
    && (if m = 3 then dOF d == 6 && plain && !dSR d && decide (dBias d ≤ 1)
        else [0, 1, 2, 3, 4, 9, 10, 11].contains (dOF d) && !(dSR d && dOF d == 0))

/-- The accumulators a launch asks for are there (R389, R390). DEDUCED: log 62. -/
def State.accOk (s : State) (d : List Nat) : Bool :=
  let small := decide (dM d ≤ 1024) && decide (dN d ≤ 256)
  (small || !(dKeep d || dAccIn d == 2))
    && (dAccIn d != 2 || (match (s.mx (dUnit d)).held with | some (m, n, _) => m == dM d && n == dN d | none => false))

/-- A gather engine that MEM_GSVC may place in service: placed on this part and owned (R22, R596). DEDUCED: log 71. -/
def State.mayServe (s : State) (k : Nat) : Bool :=
  s.bit aMEM_GSVC k && hbmPlaced s.fuse.asm k && (s.enginePav k).isSome

/-- A prologue holds gather engine `k`. -/
def State.proHas (s : State) (k : Nat) : Bool :=
  s.mxu.any fun e => match e.2.run with | some r => r.engine == some k | none => false

/-- A gather engine is in service (R485); one that a prologue still holds is not, until the launch has ended. -/
def State.inService (s : State) (k : Nat) : Bool := s.bit aMEM_CTRL 0 && s.mayServe k && !s.proHas k

/-- A prologue of a pavilion may use engine `k`: it is placed and owned, MEM_GSVC keeps it for prologues, and it is free
(R485, R596). -/
def State.proMay (s : State) (p k : Nat) : Bool :=
  hbmPlaced s.fuse.asm k && s.enginePav k == some p && !s.bit aMEM_GSVC k && !s.proHas k

/-- Some slot of `[n, n + len)` lies in a gather window that masks engine `k` (R486). -/
def State.gwinMeets (s : State) (k n len : Nat) : Bool :=
  s.gwinHas k n || s.gwin.any fun e =>
    let ph := (n - s.sched.start) % s.calPeriod
    let wait := (bitsOf e.2 23 0 % s.calPeriod + s.calPeriod - ph) % s.calPeriod
    decide (wait < len) && s.gwinHas k (n + wait)

/-- The engine that a prologue of a pavilion on a die uses for a launch fired in slot `n` that takes `len` slots: the lowest-numbered
one that a window of the slot masks, or else the lowest-numbered one that no window masks while the launch runs (R486, R487).
DEDUCED: log 64. -/
def State.engineFor (s : State) (p die n len : Nat) : Option Nat :=
  let ks := ((List.range 4).map (4 * die + ·)).filter (s.proMay p)
  match ks.find? fun k => s.gwinHas k n with
  | some k => some k
  | none => ks.find? fun k => !s.gwinMeets k n len

/-- Bytes of the gather table. -/
def tableBytes (d : List Nat) : Nat := if dTrows d = 0 then 0 else dAddr d 22 * (dTrows d - 1) + rowBytes d

/-- The gather source is within its memory and owned (R392, R468). -/
def State.gatherOk (s : State) (d : List Nat) : Bool :=
  let die := dUnit d / 4
  let n := tableBytes d
  if dGsrc d = 0 ∨ n = 0 then true
  else if dGsrc d = 1 then decide (dAddr d 20 + n ≤ 2 ^ 24)
  else if dGsrc d = 2 then s.ownsEmber (dPav d) die (dAddr d 20) n
  else if dGsrc d = 3 then s.ownsSbuf (dPav d) die (dAddr d 20) n
  else s.tensorOk (dPav d) (die * 2 ^ 39 + dw d 20 27 0 * 4096) n

/-- The engine of a launch that gathers from HBM and fires in slot `n`. -/
def State.gatherEngine (s : State) (d : List Nat) (n : Nat) : Option Nat :=
  s.engineFor (dPav d) (dUnit d / 4) n ((8 + mxuSteps d + mxuTail d) / 1280 + 2)

/-- Every operand and output lies within its memory and what the pavilion owns, and a gather from HBM has an engine, for a launch
fired in slot `n` (R394, R400). -/
def State.boundsOk (s : State) (d : List Nat) (n : Nat) : Bool :=
  let die := dUnit d / 4
  ((opSpans d).all fun x => decide (x.key + x.extent ≤ 2 ^ 24))
    && ((outSpans d).all fun x =>
      if dTier d = 0 then decide (x.key + x.extent ≤ 2 ^ 24)
      else if dTier d = 1 then decide (x.key + x.extent ≤ 2 ^ 24) && dOutUnit d / 4 == die
        && s.unitPav (dOutUnit d) == some (dPav d)
      else if dTier d = 2 then s.ownsEmber (dPav d) die x.key x.extent
      else s.ownsSbuf (dPav d) die x.key x.extent)
    && (dGsrc d != 4 || (s.gatherEngine d n).isSome)

/-- The first sub-status of R403 that fails, 0 where none does; `c` is the firing cycle. DEDUCED: log 62. -/
def State.mxuCheck (s : State) (d : List Nat) (c : Nat) : Nat :=
  if s.unitBusy (dUnit d) then 1
  else if s.unitPav (dUnit d) ≠ some (dPav d) then 2
  else if !mxuFmtOk d then 3
  else if !s.accOk d then 4
  else if !(s.boundsOk d (c / slotCycles) && s.gatherOk d) then 5
  else if !s.tokensOk (dPav d) (if dGsrc d = 4 then 2 else 1) c then 6
  else 0

/-! ## Completion (R405, R408) -/

/-- A TYPE-2 completion at CCLK cycle `c`. -/
def mxuCpl (d : List Nat) (status sub flags c row : Nat) : Cpl :=
  ⟨dTag d, 2, status, sub, flags, dUnit d, 0, c / 1920, c % 1920, row * 2 ^ 16, 0⟩

/-- STATUS, and for a refusal SUB, of MXU_LAST. -/
def State.mxuLast (s : State) (u status sub : Nat) : State :=
  let s := s.setFld (aMXU_LAST u) 31 28 status
  if status = 1 then s.setFld (aMXU_LAST u) 27 24 sub else s

/-- A launch did not run: one that asks for HELD after it finds no accumulators, since the previous one did not end OK (R390); a
running launch keeps its own. DEDUCED: log 61. -/
def State.mxuUnheld (s : State) (u : Nat) : State :=
  if (s.mx u).run.isNone then s.setMx u { s.mx u with held := none } else s

/-- A launch that did not run completes: refused, withheld or late. DEDUCED: log 61. -/
def State.mxuNotRun (s : State) (d : List Nat) (status sub : Nat) : State :=
  let u := dUnit d
  let s := s.mxuUnheld u
  let s := (s.mxuLast u status sub).postFree (dRing d) (mxuCpl d status sub 0 s.cyc 0)
  if status = 1 ∨ status = 3 then s.hazard 6 else s

/-- A launch is refused (R403, R468, R500). DEDUCED: log 61. -/
def State.mxuRefuse (s : State) (d : List Nat) (sub : Nat) : State :=
  let u := dUnit d
  let s := (s.bump (aMXU_REFUSED u) 1).mxuEvt 0
  let s := if sub = 6 then s.tokenRefused (dPav d) u false
    else if sub = 5 && dGsrc d == 4 && !s.gatherOk d then
      s.memDenied 1 (u / 4 * 2 ^ 39 + dw d 20 27 0 * 4096) 2 (dPav d)
    else s
  s.mxuNotRun d 1 sub

/-- The MCLK cycle in which a launch completes. -/
def MxuRun.stop (r : MxuRun) : Nat := r.t0 + mxuSteps r.desc + mxuTail r.desc + r.stall

/-! ## Firing and start -/

/-- The stall cycles that the rows of a prologue on engine `k` may cause in all, for a launch fired in slot `n`: in a window that masks
the engine a row is 640 + ceil(R / 256) MCLK behind its request at most, so it is that much less GATHER_LEAD late at most, and
never late in a conforming launch; outside a window there is no bound (R394, R486, R487). -/
def State.gatherBound (s : State) (d : List Nat) (k n : Nat) : Option Nat :=
  if s.gwinHas k n then some (640 + (rowBytes d + 255) / 256 - dLead d) else none

/-- A launch accepted in CCLK cycle `c`: its tokens are reserved (R404, R406, R497). -/
def State.mxuAccept (s : State) (d : List Nat) (step c : Nat) : State :=
  let u := dUnit d
  let e := if dGsrc d = 4 then s.gatherEngine d (c / slotCycles) else none
  let r : MxuRun := { desc := d, step := step, stream := none, t0 := mclkFrom c + 8, started := false, stall := 0, engine := e,
                      bound := (match e with | some k => s.gatherBound d k (c / slotCycles) | none => some 0)
                      rows := [], stats := [], rowFl := [], bad := false, acc := [] }
  let s := (s.setMx u { s.mx u with run := some r }).takeToken (dPav d) u false c
  match e with
  | some k => s.takeToken (dPav d) k true c
  | none => s

/-- A launch fired in CCLK cycle `c` (R402, R403). -/
def State.fireMxu (s : State) (d : List Nat) (step c : Nat) : State :=
  match s.mxuCheck d c with
  | 0 => s.mxuAccept d step c
  | sub => s.mxuRefuse d sub

/-- The words that a launch reads, its held accumulators among them: single-bit errors in them are corrected (R409, R492). -/
def State.mxuCorrect (s : State) (d : List Nat) : State :=
  if s.soft.isEmpty then s
  else
    let s := (opSpans d).foldl (fun s x =>
      (List.range x.rows).foldl (fun s r => s.correct (opKey (dUnit d) x.key + x.pitch * r) x.len) s) s
    let s := if dAccIn d = 2 then s.correct (accKey (dUnit d)) (accBytes d) else s
    (s.gatherRows d).1.foldl (fun s i => s.correct (gatherKey d i) (rowBytes d)) s

/-- The MCLK cycle in which tile `nt` of row `i` leaves the fused chain: the rows of a pass follow one another over its steps, so that
the last tile of the last row leaves in the completion cycle, four cycles earlier where its statistics follow (R405).
DEDUCED: log 66. -/
def MxuRun.tileAt (r : MxuRun) (i nt : Nat) : Nat :=
  let d := r.desc
  let mb := i / 1024
  let rows := min 1024 (dM d - 1024 * mb)
  r.t0 + mxuStepsTo d mb + mxuPer d mb * (mxuDepth d * (nt + 1) - 1) + ((i % 1024 + 1) * mxuPer d mb + rows - 1) / rows
    + mxuTail d - (if dStats d then 4 else 0) + r.stall

/-- The MCLK cycle in which the last tile of row `i` is written. -/
def MxuRun.rowAt (r : MxuRun) (i : Nat) : Nat := r.tileAt i ((dN r.desc - 1) / 256)

/-- The MCLK cycle in which the statistics of row `i` are written: 4 after its last tile (R405). DEDUCED: log 66. -/
def MxuRun.statAt (r : MxuRun) (i : Nat) : Nat := r.rowAt i + 4

/-- The flag word of the first `n` rows (R294, R408). -/
def MxuRun.flagsTo (r : MxuRun) (n : Nat) : Nat := (r.rowFl.take n).foldl orF 0

/-- What a started launch writes, each write in its cycle (R401, R405). -/
def State.mxuWrites (s : State) (u : Nat) (r : MxuRun) : State :=
  let s := ((List.range r.rows.length).zip r.rows).foldl (fun (s : State) p =>
    p.2.foldl (fun (s : State) w => s.sendWrite (6 * (r.tileAt p.1 w.1 + 1)) (2 + u) w.2.1 w.2.2 []) s) s
  ((List.range r.stats.length).zip r.stats).foldl (fun (s : State) p =>
    s.sendWrite (6 * (r.statAt p.1 + 1)) (2 + u) p.2.1 p.2.2 []) s

/-- The unit starts: time is at its start cycle, every page move and prefetch that has ended has its effect, and the operands are read
(R389–R393, R404); what it writes is on its way (R405). A launch that does not hold accumulators discards them.
DEDUCED: log 61. -/
def State.startMxu (s : State) (u : Nat) (r : MxuRun) : State :=
  let s := ((s.advTo (6 * r.t0)).pagerTo (u / 4) r.t0).pfTo (u / 4) r.t0
  let held := match (s.mx u).held with | some (_, _, a) => a | none => []
  let o := s.mxuResult r.desc r.step held
  let g := s.gatherRows r.desc
  let bad := s.mxuBad r.desc
  let s := (s.bump (aMXU_LAUNCHES u) 1).setFld (aMXU_STATUS u) 15 0 (dTag r.desc)
  let s := if g.2 = 0 then s else (s.bump (aMXU_GATHER_RANGE u) g.2).mxuEvt 4
  let s := if dGsrc r.desc = 4 then
      g.1.foldl (fun s i => s.hbmBad (gatherKey r.desc i) (rowBytes r.desc) 2 (dPav r.desc)) s
    else s
  let r := { r with started := true, rows := o.rows, stats := o.stats, rowFl := o.rowFl, bad := bad,
                    acc := if dKeep r.desc then o.acc else [] }
  (((s.mxuCorrect r.desc).zero (accKey u) (accKey (u + 1))).mxuWrites u r).setMx u { run := some r, held := none }

/-- The page-in of the step whose update starts has not completed by launch 1's start cycle (R482). -/
def State.pageLate (s : State) (r : MxuRun) : Option Nat :=
  match r.stream with
  | some (i, 1) => if (match (s.stream i).pageIn with | some e => decide (e ≤ r.t0) | none => false) then none else some i
  | _ => none

/-- MXU_START (R404): launch 1 of an update whose page-in has not completed does not run (R482). -/
def execMxuStart (u : Nat) (s : State) : Host.Outcome State Fault Refusal :=
  .next (match (s.mx u).run with
    | some r =>
      if r.started || !s.running then s
      else match s.pageLate r with
        | some i => ((s.advTo (6 * r.t0)).setMx u { s.mx u with run := none }).pageFail i
        | none => s.startMxu u r
    | none => s)

/-! ## Predictor updates (R416–R421) -/

/-- The descriptor of launch `n` of a stream's update; addresses in 64 B units. -/
def State.updDesc (s : State) (x : Stream) (n : Nat) : List Nat :=
  let u := x.unit
  let e := x.elems / 64
  let win := s.fld (aMEM_EWIN_BASE u) 17 0
  let w := x.wset
  let vec := x.vec
  let out := if n = 1 ∨ (n = 2 ∧ vec) then 0 else if n = 2 then x.act else 0
  let q := if n = 3 then 0 else 1
  let w0 := u * 2 ^ 29 + x.pav * 2 ^ 23 + x.act * 2 ^ 16 + x.act * 2 ^ 12 + out * 2 ^ 8 + q * 2 ^ 6
  let gate := if n = 3 ∨ vec then 0 else if n = 1 then 2 else 1
  let comb := if n = 2 ∧ !vec then 4 else 0
  let bias := if n = 3 then 0 else 1
  let tier := if n = 3 then 2 else 0
  let w8 := 255 + bias * 2 ^ 16 + gate * 2 ^ 18 + comb * 2 ^ 20 + (x.act + 1) * 2 ^ 23 + 2 ^ 25 + tier * 2 ^ 27
  let base := fun m => w + 2048 * m
  let (a0, b0, a1, b1) := if n = 1 then (win, base 2, win + 2 * e, base 3)
    else if n = 2 then (win, base 0, win + 2 * e, base 1) else (win + 4 * e, base 4, 0, 0)
  let bAt := w + 10240 + (if n = 1 then 16 else 0)
  let o := if n = 1 then win + 6 * e else if n = 2 then (if vec then win + 10 * e else win + 4 * e)
    else bitsOf (x.w 5) 19 0 + 2 * e
  [w0, 0xFFFF, 0, 0, 0, 0, (x.elems / 256 - 1) * 2 ^ 16, 255 * 2 ^ 16 + 255, w8, a0, 8, b0, 8, a1, 8, b1, 8, 0, 0, 0, 0, 0, 0, 0,
   bAt, win + 2 * e, win + 6 * e, 0, o, if out = 0 then 16 else 8, 0, 0]

/-- Launch `n` of a stream's update, to start in MCLK cycle `t0`. DEDUCED: log 65. -/
def State.updRun (s : State) (i n t0 : Nat) : MxuRun :=
  let x := s.stream i
  { desc := s.updDesc x n, step := x.uStep, stream := some (i, n), t0 := t0, started := false, stall := 0, engine := none, bound := some 0,
    rows := [], stats := [], rowFl := [], bad := false, acc := [] }

/-- A launch of an update completed in MCLK cycle `m` (R418, R419, R483, R497). -/
def State.updStage (s : State) (i n m : Nat) : State :=
  let x := s.stream i
  let s := s.setStream i { x with upd := 10 + n, updAt := m, l3Done := x.l3Done || n == 3 }
  if n = 2 && !x.vec then s.writeBack i (m + 1)
  else if n = 3 then (s.dropToken x.unit false (6 * (m + 1))).updateEnd i
  else s

/-- The sub-status of R403 that a launch of an update has, 0 where it passes: the unit is the stream's pavilion's, and every
operand and output lies within its memory and what the pavilion owns (R21, R403). -/
def State.updCheck (s : State) (x : Stream) (n : Nat) : Nat :=
  if s.unitPav x.unit ≠ some x.pav then 2 else if !s.boundsOk (s.updDesc x n) 0 then 5 else 0

/-- A launch of an update is refused (R390, R403). -/
def State.updRefuse (s : State) (u sub : Nat) : State :=
  ((((s.bump (aMXU_REFUSED u) 1).mxuEvt 0).mxuUnheld u).mxuLast u 1 sub).hazard 6

/-- UPDATE_NEXT_LAUNCH (R418, R419): the next launch starts 8 MCLK after the one before, or after VEC_LAUNCH; one that is refused
fails the update (R403, R421). -/
def execUpdateNextLaunch (i : Nat) (s : State) : Host.Outcome State Fault Refusal :=
  let x := s.stream i
  let n := if x.upd = 11 then 2 else if (x.upd = 12 ∧ !x.vec) ∨ x.upd = 14 then 3 else 0
  .next (if n = 0 || (s.mx x.unit).run.isSome || !s.running then s
    else match s.updCheck x n with
      | 0 =>
        let s := s.setStream i { x with upd := n }
        s.startMxu x.unit (s.updRun i n (x.updAt + 8))
      | sub => (s.updRefuse x.unit sub).updateFail i)

/-- VEC_LAUNCH_FIRE (R419): the cell launch fires in the CCLK cycle after launch 2 completes. Parameter word 7 is open. A launch
that does not start fails the update. A record of another pavilion than the stream's is never launched (R597). DEDUCED: log 65. -/
def execVecLaunchFire (i : Nat) (s : State) : Host.Outcome State Fault Refusal :=
  let x := s.stream i
  .next (if x.upd = 12 ∧ x.vec then
      let c := (6 * (x.updAt + 1) + 3) / 4
      let s := s.toCyc c
      let s := s.setStream i { x with upd := 4 }
      match s.img with
      | none => s.updateFail i
      | some img =>
        match img.cellRec[bitsOf (x.w 7) 15 0]? with
        | none => s.updateFail i
        | some l =>
          if l.pav ≠ x.pav then s.updateFail i
          else
            let f := s.freeWord
            let t := f.2.fireLaunch l f.1.toNat c (some i)
            if t.cel.runs.any fun r => r.stream == some i then t else t.updateFail i
    else s)

/-! ## Ends -/

/-- The unit is free again: active cycles counted, the engine's and, for a launch of the image, the unit's token released. -/
def State.mxuFree (s : State) (u : Nat) (r : MxuRun) (m : Nat) (held : Option (Nat × Nat × List (List Nat))) : State :=
  let s := (s.setMx u { run := none, held := held }).bump64 (aMXU_ACTIVE_LO u) (m + 1 - r.t0)
  let s := match r.engine with | some k => s.dropToken k true (6 * (m + 1)) | none => s
  if r.stream.isNone then s.dropToken u false (6 * (m + 1)) else s

/-- Row writes made. -/
def State.writeRows (s : State) (ws : List (Nat × List Byte)) : State := ws.foldl (fun s w => s.wr w.1 w.2) s

/-- The writes of unit `u` that have not ended are not made (R409). -/
def State.dropWrites (s : State) (u : Nat) : State :=
  let s := s.due
  { s with writes := s.writes.filter fun w => w.rank != 2 + u }

/-- Flags of a launch in MXU_FPFLAGS (R408). DEDUCED: log 65. -/
def State.mxuFlags (s : State) (fl : Nat) : State := s.orFlags aMXU_FPFLAGS fl

/-- MXU_COMPLETE (R405, R408): the last outputs are written in this cycle, as the start has set down, and the completion is
posted; `ok` is whether PCIe took it. DEDUCED: log 61. -/
def execMxuComplete (u : Nat) (ok : Bool) (s : State) : Host.Outcome State Fault Refusal :=
  .next (match (s.mx u).run with
    | none => s
    | some r =>
      if !r.started || r.bad then s
      else
        let m := r.stop
        let s := s.advTo (6 * m)
        let held := if dKeep r.desc then some (dM r.desc, dN r.desc, r.acc) else none
        let fl := r.flagsTo r.rowFl.length
        let s := (s.mxuFree u r m held).mxuFlags fl
        match r.stream with
        | some (i, n) => (s.setStream i { s.stream i with uFlags := orF (s.stream i).uFlags fl }).updStage i n m
        | none => (s.mxuLast u 0 0).postData (dRing r.desc) (mxuCpl r.desc 0 0 fl (6 * m / 4) 0) ok)

/-- Every later write of unit `u` moves by `cycles` MCLK (R394). -/
def State.stallWrites (s : State) (u cycles : Nat) : State :=
  let s := s.due
  let later := fun (w : Write) => if w.rank = 2 + u then { w with at_ := w.at_ + 6 * cycles } else w
  { s with writes := (s.writes.map later).foldl (fun l w => addWrite w l) [] }

/-- MXU_GATHER_STALL (R394, R486, R487, R524): a late row stalls the array for `cycles`, within what a window of R486 leaves; a
conforming launch never stalls. DESIGN CHOICE: log 66. -/
def execMxuGatherStall (u cycles : Nat) (s : State) : Host.Outcome State Fault Refusal :=
  .next (match (s.mx u).run with
    | some r =>
      let cycles := match r.bound with | some b => min cycles (b - r.stall) | none => cycles
      if r.started && r.engine.isSome && decide (cycles ≠ 0) then
        ((((s.stallWrites u cycles).setMx u { s.mx u with run := some { r with stall := r.stall + cycles } }).bump
          (aMXU_GATHER_STALL u) cycles).mxuEvt 3).hazard 2
      else s
    | none => s)

/-- Output rows of a launch whose writes have ended by MCLK cycle `m`. -/
def MxuRun.rowsBy (r : MxuRun) (m : Nat) : Nat := ((List.range r.rows.length).filter fun i => decide (r.rowAt i < m)).length

/-- MXU_ECC_FAULT (R409): an uncorrectable operand or accumulator word ends the launch at fabric time `time`; `row` is the first
row whose writes had not completed, no earlier than the rows that have left whole. DESIGN CHOICE: log 66. -/
def execMxuEccFault (u row time : Nat) (s : State) : Host.Outcome State Fault Refusal :=
  .next (match (s.mx u).run with
    | none => s
    | some r =>
      if !r.started || decide (dM r.desc ≤ row) || decide (r.stop < time / 6) then s
      else
        let s := s.advTo time
        let d := r.desc
        let row := max row (r.rowsBy s.mclk)
        let fl := r.flagsTo row
        let s := ((s.dropWrites u).writeRows ((r.rows.take row).flatMap fun l => l.map (·.2))).writeRows (r.stats.take row)
        let s := (s.mxuFree u r (max r.t0 s.mclk) none).mxuEvt 2
        let rec0 := row * 2 ^ 16 + dTag d
        let s := s.recordFault (aMXU_FAULT_REC2 u) (!s.bit (aMXU_FAULT_REC2 u) 0)
          [(aMXU_FAULT_REC0 u, BitVec.ofNat 32 rec0), (aMXU_FAULT_REC1 u, BitVec.ofNat 32 s.ns)]
        let s := (s.offer 0x09 0 (u / 4) (dPav d) u rec0 0 0).mxuFlags fl
        let s := s.hazard 6
        match r.stream with
        | some (i, _) => (s.setStream i { s.stream i with uFlags := orF (s.stream i).uFlags fl }).updateFail i
        | none => (s.mxuLast u 4 0).postFree (dRing d) (mxuCpl d 4 0 fl s.cyc row))

end Sys2Proof.Machine
end

