-- ==== Sys2Proof/Machine/CellScalar.lean ====
section
/-! DEFINITION. Scalar cell instructions (R312, R325, R334). -/

namespace Sys2Proof.Machine

/-- A scalar instruction of opcode `op` that reads SX[SRCA] and SX[SRCB], with latency `l` and result `f`. -/
def State.scalarOp (s : State) (cell op l : Nat) (f : Nat → Nat → Nat) : State :=
  s.issue cell (fun i => i.op == op) (fun i => [sxR i.a, sxR i.b]) fun i _ c s =>
    let x := s.cell cell
    s.wrSx cell c i.dst (f (x.getSx i.a) (x.getSx i.b) % 2 ^ 32) l

/-- A shift of a word by `n`. The spec states no value for an amount of 32 or more, nor the bits that enter a right shift of a
word whose top bit is 1: those are free. DEDUCED: log 48. -/
def State.shiftOp (s : State) (x n : Nat) (left : Bool) : Nat × State :=
  if 32 ≤ n then let r := s.freeWord; (r.1.toNat, r.2)
  else if left then (x <<< n % 2 ^ 32, s)
  else if !bitOf x 31 || decide (n = 0) then (x >>> n, s)
  else let r := s.freeWord; (x >>> n + r.1.toNat >>> (32 - n) <<< (32 - n), r.2)

/-- A scalar shift of opcode `op`. -/
def State.scalarShift (s : State) (cell op : Nat) (left : Bool) : State :=
  s.issue cell (fun i => i.op == op) (fun i => [sxR i.a, sxR i.b]) fun i _ c s =>
    let x := s.cell cell
    let r := s.shiftOp (x.getSx i.a) (x.getSx i.b) left
    r.2.wrSx cell c i.dst r.1 1

/-- NOP (R325). -/
def execNop (cell : Nat) (s : State) : Host.Outcome State Fault Refusal :=
  .next (s.issue cell (fun i => i.op == 0x00) (fun _ => []) fun _ _ c s => s.step1 cell c)

/-- SADD (R325): the sum modulo 2^32. -/
def execSadd (cell : Nat) (s : State) : Host.Outcome State Fault Refusal := .next (s.scalarOp cell 0x01 1 (· + ·))

/-- SSUB (R325). -/
def execSsub (cell : Nat) (s : State) : Host.Outcome State Fault Refusal :=
  .next (s.scalarOp cell 0x02 1 fun a b => a + 2 ^ 32 - b)

/-- SMUL (R325): the low 32 bits of the product. -/
def execSmul (cell : Nat) (s : State) : Host.Outcome State Fault Refusal := .next (s.scalarOp cell 0x03 2 (· * ·))

/-- SAND (R325). -/
def execSand (cell : Nat) (s : State) : Host.Outcome State Fault Refusal := .next (s.scalarOp cell 0x04 1 (· &&& ·))

/-- SOR (R325). -/
def execSor (cell : Nat) (s : State) : Host.Outcome State Fault Refusal := .next (s.scalarOp cell 0x05 1 (· ||| ·))

/-- SXOR (R325). -/
def execSxor (cell : Nat) (s : State) : Host.Outcome State Fault Refusal := .next (s.scalarOp cell 0x06 1 (· ^^^ ·))

/-- SSHL (R325). -/
def execSshl (cell : Nat) (s : State) : Host.Outcome State Fault Refusal := .next (s.scalarShift cell 0x07 true)

/-- SSHR (R325). -/
def execSshr (cell : Nat) (s : State) : Host.Outcome State Fault Refusal := .next (s.scalarShift cell 0x08 false)

/-- SLI (R325). -/
def execSli (cell : Nat) (s : State) : Host.Outcome State Fault Refusal :=
  .next (s.issue cell (fun i => i.op == 0x09) (fun _ => []) fun i _ c s => s.wrSx cell c i.dst i.imm 1)

/-- SADDI (R325). -/
def execSaddi (cell : Nat) (s : State) : Host.Outcome State Fault Refusal :=
  .next (s.issue cell (fun i => i.op == 0x0A) (fun i => [sxR i.a]) fun i _ c s =>
    s.wrSx cell c i.dst (((s.cell cell).getSx i.a + i.imm) % 2 ^ 32) 1)

/-- The fault of an access of `n` bytes at `a` to a cell's SRAM: 2 ALIGN, 3 BOUNDS (R334), 4 ECC_DATA for a read of an
uncorrectable word (R348); none where it goes through. -/
def State.sramFault (s : State) (cell a n : Nat) (read : Bool) : Option Nat :=
  if a % n ≠ 0 then some 2 else if 16384 < a + n then some 3
  else if read && s.poisoned (cellKey cell a) n then some 4 else none

/-- Address SX[SRCA] + IMM. -/
def Cell.addr (x : Cell) (i : Ins) : Nat := (x.getSx i.a + i.imm) % 2 ^ 32

/-- SLD (R325, R334, R349). -/
def execSld (cell : Nat) (s : State) : Host.Outcome State Fault Refusal :=
  .next (s.issue cell (fun i => i.op == 0x10) (fun i => [sxR i.a]) fun i _ c s =>
    let a := (s.cell cell).addr i
    match s.sramFault cell a 4 true with
    | some f => s.cellFault cell f c
    | none => (s.correct (cellKey cell a) 4).wrSx cell c i.dst (leNat (s.rd (cellKey cell a) 4)) 2)

/-- SST (R325, R334). -/
def execSst (cell : Nat) (s : State) : Host.Outcome State Fault Refusal :=
  .next (s.issue cell (fun i => i.op == 0x11) (fun i => [sxR i.a, sxR i.b]) fun i _ c s =>
    let x := s.cell cell
    let a := x.addr i
    match s.sramFault cell a 4 false with
    | some f => s.cellFault cell f c
    | none => (s.wr (cellKey cell a) (natLe 4 (x.getSx i.b))).step1 cell c)

end Sys2Proof.Machine
end

