-- ==== Sys2Proof/Machine/CellVector.lean ====
section
/-! DEFINITION. Vector cell instructions on registers (R325–R328). A vector or mask register number the files do not have is
an ILLEGAL fault. -/

namespace Sys2Proof.Machine

/-- Vector register numbers that exist. DEDUCED: log 50. -/
def vxOk (rs : List Nat) : Bool := rs.all fun r => decide (r < 16)

/-- A lane-wise instruction of opcode `op` and latency `l`: lane `j` becomes `f i x j` with its flags. `srcs` names the VX
registers read. -/
def State.laneOp (s : State) (cell op l : Nat) (srcs : Ins → List Nat) (f : Ins → Cell → Nat → Nat × Nat) : State :=
  s.issue cell (fun i => i.op == op) (fun i => (srcs i).map vxR) fun i r c s =>
    if !vxOk (i.dst :: srcs i) then s.cellFault cell 1 c
    else
      let x := s.cell cell
      (s.runFlags r (x.laneFlags i fun j => (f i x j).2)).wrVx cell c i i.dst l fun j => (f i x j).1

/-- The sources of a two-operand instruction. -/
def srcAB (i : Ins) : List Nat := [i.a, i.b]

/-- A lane-wise instruction on VX[SRCA] and VX[SRCB]. -/
def State.laneOp2 (s : State) (cell op l : Nat) (f : Nat → Nat → Nat × Nat) : State :=
  s.laneOp cell op l srcAB fun i x j => f (x.lane i.a j) (x.lane i.b j)

/-- VADD (R325). -/
def execVadd (cell : Nat) (s : State) : Host.Outcome State Fault Refusal := .next (s.laneOp2 cell 0x40 4 fadd)

/-- VSUB (R325). -/
def execVsub (cell : Nat) (s : State) : Host.Outcome State Fault Refusal := .next (s.laneOp2 cell 0x41 4 fsub)

/-- VMUL (R325). -/
def execVmul (cell : Nat) (s : State) : Host.Outcome State Fault Refusal := .next (s.laneOp2 cell 0x42 4 fmul)

/-- VFMA (R325): the addend is the destination. -/
def execVfma (cell : Nat) (s : State) : Host.Outcome State Fault Refusal :=
  .next (s.laneOp cell 0x43 4 (fun i => [i.a, i.b, i.dst]) fun i x j =>
    ffma (x.lane i.a j) (x.lane i.b j) (x.lane i.dst j))

/-- VMAX (R292). -/
def execVmax (cell : Nat) (s : State) : Host.Outcome State Fault Refusal := .next (s.laneOp2 cell 0x44 2 fmax)

/-- VMIN (R292). -/
def execVmin (cell : Nat) (s : State) : Host.Outcome State Fault Refusal := .next (s.laneOp2 cell 0x45 2 fmin)

/-- VRCP (R291). -/
def execVrcp (cell : Nat) (s : State) : Host.Outcome State Fault Refusal :=
  .next (s.laneOp cell 0x46 12 (fun i => [i.a]) fun i x j => frcp (x.lane i.a j))

/-- VDIV (R291). -/
def execVdiv (cell : Nat) (s : State) : Host.Outcome State Fault Refusal := .next (s.laneOp2 cell 0x47 16 fdiv)

/-- The 16 lanes of a register. -/
def Cell.lanes (x : Cell) (r : Nat) : List Nat := (List.range 16).map (x.lane r)

/-- VRSUM (R286): the tree of 16 lanes into lane 0, +0 elsewhere. -/
def execVrsum (cell : Nat) (s : State) : Host.Outcome State Fault Refusal :=
  .next (s.issue cell (fun i => i.op == 0x48) (fun i => [vxR i.a]) fun i r c s =>
    if !vxOk [i.dst, i.a] then s.cellFault cell 1 c
    else
      let t := treeSum fadd 4 ((s.cell cell).lanes i.a)
      (s.runFlags r t.2).wrVx cell c i i.dst 8 fun j => if j = 0 then t.1 else 0)

/-- VTSUM (R301): the pair (VX[DST], VX[DST + 1]) takes VX[SRCA], lane by lane. -/
def execVtsum (cell : Nat) (s : State) : Host.Outcome State Fault Refusal :=
  .next (s.issue cell (fun i => i.op == 0x49) (fun i => [vxR i.a, vxR i.dst, vxR (i.dst + 1)]) fun i r c s =>
    if !vxOk [i.dst + 1, i.a] then s.cellFault cell 1 c
    else
      let x := s.cell cell
      let f := fun j => compStep (x.lane i.dst j) (x.lane (i.dst + 1) j) (x.lane i.a j)
      let s := s.runFlags r (x.laneFlags i fun j => (f j).2.2)
      let lo := (List.range 16).map fun j => BitVec.ofNat 32 (f j).2.1
      let s := s.setCell cell ({ x with vx := x.vx.set (i.dst + 1) lo }.wrote (vxR (i.dst + 1)) c 12)
      s.wrVx cell c i i.dst 12 fun j => (f j).1)

/-- VPWL (R310): IMM[0] selects the table. -/
def execVpwl (cell : Nat) (s : State) : Host.Outcome State Fault Refusal :=
  .next (s.laneOp cell 0x4A 6 (fun i => [i.a]) fun i x j =>
    pwl (if bitOf i.imm 0 then shapeTable else gateTable) (x.lane i.a j))

/-- VIADD (R288). -/
def execViadd (cell : Nat) (s : State) : Host.Outcome State Fault Refusal := .next (s.laneOp2 cell 0x50 2 iadd)

/-- VIMUL (R288). -/
def execVimul (cell : Nat) (s : State) : Host.Outcome State Fault Refusal := .next (s.laneOp2 cell 0x51 4 imul)

/-- VAND (R325). -/
def execVand (cell : Nat) (s : State) : Host.Outcome State Fault Refusal :=
  .next (s.laneOp2 cell 0x52 2 fun a b => (a &&& b, 0))

/-- VOR (R325). -/
def execVor (cell : Nat) (s : State) : Host.Outcome State Fault Refusal :=
  .next (s.laneOp2 cell 0x53 2 fun a b => (a ||| b, 0))

/-- VXOR (R325). -/
def execVxor (cell : Nat) (s : State) : Host.Outcome State Fault Refusal :=
  .next (s.laneOp2 cell 0x54 2 fun a b => (a ^^^ b, 0))

/-- The lanes of a shift, each with the free value it takes where the spec states none. DEDUCED: log 48. -/
def State.shiftLanes (s : State) (x : Cell) (i : Ins) (left : Bool) : List Nat × State :=
  (List.range 16).foldl (fun a j =>
    let r := a.2.shiftOp (x.lane i.a j) (x.lane i.b j) left
    (a.1 ++ [r.1], r.2)) ([], s)

/-- A lane-wise shift. -/
def State.vecShift (s : State) (cell op : Nat) (left : Bool) : State :=
  s.issue cell (fun i => i.op == op) (fun i => (srcAB i).map vxR) fun i _ c s =>
    if !vxOk [i.dst, i.a, i.b] then s.cellFault cell 1 c
    else
      let r := s.shiftLanes (s.cell cell) i left
      r.2.wrVx cell c i i.dst 2 fun j => r.1.getD j 0

/-- VSHL (R325). -/
def execVshl (cell : Nat) (s : State) : Host.Outcome State Fault Refusal := .next (s.vecShift cell 0x55 true)

/-- VSHR (R325). -/
def execVshr (cell : Nat) (s : State) : Host.Outcome State Fault Refusal := .next (s.vecShift cell 0x56 false)

/-- Equal as numbers: both zeros are equal, a NaN equals nothing. -/
def eqV (a b : Fv) : Bool := decide (a ≠ .nan) && decide (b ≠ .nan) && !ltV a b && !ltV b a

/-- A condition of VCMP (R326). DEDUCED: log 52. -/
def cmpV (cond : Nat) (a b : Fv) : Bool :=
  let un := decide (a = .nan) || decide (b = .nan)
  if cond = 0 then eqV a b else if cond = 1 then un || !eqV a b else if cond = 2 then ltV a b
  else if cond = 3 then ltV a b || eqV a b else if cond = 4 then ltV b a
  else if cond = 5 then ltV b a || eqV a b else un

/-- VCMP (R326): the active lanes' bits of MK[DST]. Condition 7 is reserved and ILLEGAL. DEDUCED: log 50, 52. -/
def execVcmp (cell : Nat) (s : State) : Host.Outcome State Fault Refusal :=
  .next (s.issue cell (fun i => i.op == 0x58) (fun i => (srcAB i).map vxR) fun i r c s =>
    if !vxOk [i.a, i.b] || decide (4 ≤ i.dst) || decide (i.imm % 8 = 7) then s.cellFault cell 1 c
    else
      let x := s.cell cell
      let v := fun (n j : Nat) => decodeF fp32 (x.lane n j)
      let old := x.mask.getD i.dst 0
      let m := ((List.range 16).map fun j =>
        b2n (if x.active i j then cmpV (i.imm % 8) (v i.a j) (v i.b j) else bitOf old j) * 2 ^ j).foldl (· + ·) 0
      let s := s.runFlags r (x.laneFlags i fun j => nanFlag [v i.a j, v i.b j])
      (s.setCell cell ({ x with mask := x.mask.set i.dst m }.wrote (mkR i.dst) c 2)).step1 cell c)

/-- VSEL (R325). -/
def execVsel (cell : Nat) (s : State) : Host.Outcome State Fault Refusal :=
  .next (s.issue cell (fun i => i.op == 0x59) (fun i => mkR (i.imm % 4) :: (srcAB i).map vxR) fun i _ c s =>
    if !vxOk [i.dst, i.a, i.b] then s.cellFault cell 1 c
    else
      let x := s.cell cell
      s.wrVx cell c i i.dst 2 fun j => if bitOf (x.mask.getD (i.imm % 4) 0) j then x.lane i.a j else x.lane i.b j)

/-- SEED and STEP of a cell program's hash (R327). -/
def Cell.seed (x : Cell) : Nat := x.getSx 17 * 2 ^ 32 + x.getSx 16
/-- STEP. -/
def Cell.hashStep (x : Cell) : Nat := x.getSx 19 % 65536 * 2 ^ 32 + x.getSx 18

/-- The random bits of a stochastic rounding in VCVT and VST, none under RM = 0 (R327). -/
def Cell.rnd (x : Cell) (i : Ins) (chunk j : Nat) : Option Nat :=
  if i.rm = 1 then some (hashRnd (yelHash x.seed 4 x.hashStep (x.getSx i.a) chunk (i.imm % 65536 + j))) else none

/-- The scoreboard registers a stochastic rounding reads. -/
def rndRegs (i : Ins) : List Nat := if i.rm = 1 then [sxR 16, sxR 17, sxR 18, sxR 19, sxR i.a] else []

/-- The formats VCVT divides by a block scale first. -/
def blockFmt (f : Nat) : Bool := f == 7 || f == 9 || f == 10 || f == 11

/-- One lane of VCVT: its value on the grid of FMT and back in FP32 form, and its flags (R325); a NaN sets NAN_IN (R291). A scale
from 1,023 up divides every FP32 value to less than any grid can tell. The spec states no value for the clamped INT32 2^31 − 1,
which FP32 cannot hold: none. DEDUCED: log 49. -/
def cvtLane (x : Cell) (i : Ins) (j : Nat) : Option Nat × Nat :=
  let v := decodeF fp32 (x.lane i.a j)
  let S := x.getSx i.b
  let fmt := if i.fmt = 8 then 0 else i.fmt
  let r := writeElem fmt (x.rnd i (x.getSx i.b) j) (if blockFmt i.fmt then unscale (min S 1023) v else v)
  (if i.fmt = 6 ∧ r.1 = 0x7FFFFFFF then none else some (widen fmt none r.1).1, orF r.2 (if v = .nan then fNanIn else 0))

/-- VCVT (R325, R327). DEDUCED: log 49. -/
def execVcvt (cell : Nat) (s : State) : Host.Outcome State Fault Refusal :=
  .next (s.issue cell (fun i => i.op == 0x60)
    (fun i => vxR i.a :: (if blockFmt i.fmt || decide (i.rm = 1) then [sxR i.b] else []) ++ rndRegs i) fun i r c s =>
    if !vxOk [i.dst, i.a] then s.cellFault cell 1 c
    else
      let x := s.cell cell
      let res := (List.range 16).foldl (fun (a : List (Nat × Nat) × State) j =>
        let v := cvtLane x i j
        match v.1 with
        | some w => (a.1 ++ [(w, v.2)], a.2)
        | none => let f := a.2.freeWord; (a.1 ++ [(f.1.toNat, v.2)], f.2)) ([], s)
      (res.2.runFlags r (x.laneFlags i fun j => (res.1.getD j (0, 0)).2)).wrVx cell c i i.dst 4
        fun j => (res.1.getD j (0, 0)).1)

/-- VBSCALE (R299, R300): the scale of 32 values for a block format; for another FMT the spec states no value.
DEDUCED: log 49. -/
def execVbscale (cell : Nat) (s : State) : Host.Outcome State Fault Refusal :=
  .next (s.issue cell (fun i => i.op == 0x61) (fun i => [vxR i.a, vxR (i.a + 1)]) fun i r c s =>
    if !vxOk [i.a + 1] then s.cellFault cell 1 c
    else
      let x := s.cell cell
      match emaxOf i.fmt with
      | some e =>
        let b := blockScale e (x.lanes i.a ++ x.lanes (i.a + 1))
        (s.runFlags r b.2).wrSx cell c i.dst b.1 6
      | none => let f := s.freeWord; f.2.wrSx cell c i.dst f.1.toNat 6)

/-- VHASH (R327). -/
def execVhash (cell : Nat) (s : State) : Host.Outcome State Fault Refusal :=
  .next (s.issue cell (fun i => i.op == 0x78) (fun i => [sxR 16, sxR 17, sxR 18, sxR 19, sxR i.a, sxR i.b]) fun i _ c s =>
    if !vxOk [i.dst] then s.cellFault cell 1 c
    else
      let x := s.cell cell
      s.wrVx cell c i i.dst 10 fun j =>
        yelHash x.seed 4 x.hashStep (x.getSx i.a) (x.getSx i.b) (i.imm + j) / 2 ^ 32)

end Sys2Proof.Machine
end

