-- ==== Sys2Proof/Machine/CellMemory.lean ====
section
/-! DEFINITION. Vector cell instructions on the data SRAM (R324, R325, R327, R328, R334, R335). -/

namespace Sys2Proof.Machine

/-- Bytes of 16 elements of a format (R324). -/
def fmtBytes (f : Nat) : Nat :=
  if f = 0 ∨ f = 6 ∨ f = 8 then 64 else if f = 1 ∨ f = 2 then 32 else if f = 7 then 8 else 16

/-- Element `j` of packed bytes in a format: its code. DEDUCED: log 51. -/
def elemAt (f : Nat) (bs : List Byte) (j : Nat) : Nat :=
  if f = 7 then (bs.getD (j / 2) 0).toNat / 16 ^ (j % 2) % 16
  else let w := fmtBytes f / 16; leNat ((bs.drop (w * j)).take w)

/-- A loaded element in a lane: FP32 for the float formats and MXINT8, INT32 for the integer formats, the raw word for FP32,
INT32 and the halves of an FP64. -/
def loadLane (f x : Nat) : Nat :=
  if f = 0 ∨ f = 6 ∨ f = 8 then x
  else if f = 5 then (if 128 ≤ x then x + 2 ^ 32 - 256 else x)
  else if f = 7 then (if 8 ≤ x then x + 2 ^ 32 - 16 else x)
  else (widen f none x).1

/-- VLD (R325, R334, R349). DEDUCED: log 51. -/
def execVld (cell : Nat) (s : State) : Host.Outcome State Fault Refusal :=
  .next (s.issue cell (fun i => i.op == 0x70) (fun i => [sxR i.a]) fun i _ c s =>
    if !vxOk [i.dst] then s.cellFault cell 1 c
    else
      let a := (s.cell cell).addr i
      match s.sramFault cell a (fmtBytes i.fmt) true with
      | some f => s.cellFault cell f c
      | none =>
        let bs := s.rd (cellKey cell a) (fmtBytes i.fmt)
        (s.correct (cellKey cell a) (fmtBytes i.fmt)).wrVx cell c i i.dst 3 fun j => loadLane i.fmt (elemAt i.fmt bs j))

/-- A lane stored in a format: its code and flags; words go as they are. -/
def storeLane (f : Nat) (sr : Option Nat) (x : Nat) : Nat × Nat :=
  if f = 0 ∨ f = 6 ∨ f = 8 then (x, 0) else writeElem f sr (decodeF fp32 x)

/-- Element codes packed as bytes. DEDUCED: log 51. -/
def packElems (f : Nat) (es : List Nat) : List Byte :=
  if f = 7 then (List.range (es.length / 2)).map fun j => BitVec.ofNat 8 (es.getD (2 * j) 0 + 16 * es.getD (2 * j + 1) 0)
  else es.flatMap fun e => natLe (fmtBytes f / 16) e

/-- VST (R325, R327, R328): lanes that are masked off leave their bytes, or their half of a byte, as they were.
DEDUCED: log 51. -/
def execVst (cell : Nat) (s : State) : Host.Outcome State Fault Refusal :=
  .next (s.issue cell (fun i => i.op == 0x71) (fun i => sxR i.a :: vxR i.b :: rndRegs i) fun i r c s =>
    if !vxOk [i.b] then s.cellFault cell 1 c
    else
      let x := s.cell cell
      let a := x.addr i
      match s.sramFault cell a (fmtBytes i.fmt) false with
      | some f => s.cellFault cell f c
      | none =>
        let old := s.rd (cellKey cell a) (fmtBytes i.fmt)
        let e := fun j => storeLane i.fmt (x.rnd i 0 j) (x.lane i.b j)
        let bs := packElems i.fmt ((List.range 16).map fun j => if x.active i j then (e j).1 else elemAt i.fmt old j)
        ((s.runFlags r (x.laneFlags i fun j => (e j).2)).wr (cellKey cell a) bs).step1 cell c)

/-- Lane address SX[SRCA] + lane `j` of VX[SRCB]. -/
def Cell.laneAddr (x : Cell) (i : Ins) (j : Nat) : Nat := (x.getSx i.a + x.lane i.b j) % 2 ^ 32

/-- The fault of the first active lane whose word cannot be accessed (R334, R335). DEDUCED: log 51. -/
def State.laneFault (s : State) (x : Cell) (i : Ins) (cell : Nat) (read : Bool) : Option Nat :=
  (List.range 16).foldl (fun m j =>
    match m with
    | some f => some f
    | none => if x.active i j then s.sramFault cell (x.laneAddr i j) 4 read else none) none

/-- The words of the active lanes are read: single-bit errors in them are corrected (R349). -/
def State.correctLanes (s : State) (x : Cell) (i : Ins) (cell : Nat) : State :=
  (List.range 16).foldl (fun s j => if x.active i j then s.correct (cellKey cell (x.laneAddr i j)) 4 else s) s

/-- VLDX (R335, R349). -/
def execVldx (cell : Nat) (s : State) : Host.Outcome State Fault Refusal :=
  .next (s.issue cell (fun i => i.op == 0x72) (fun i => [sxR i.a, vxR i.b]) fun i _ c s =>
    let x := s.cell cell
    if !vxOk [i.dst, i.b] then s.cellFault cell 1 c
    else match s.laneFault x i cell true with
      | some f => s.cellFault cell f c
      | none =>
        (s.correctLanes x i cell).wrVx cell c i i.dst 16 fun j => leNat (s.rd (cellKey cell (x.laneAddr i j)) 4))

/-- VSTX (R335): ascending lanes, so the highest wins. -/
def execVstx (cell : Nat) (s : State) : Host.Outcome State Fault Refusal :=
  .next (s.issue cell (fun i => i.op == 0x73) (fun i => [sxR i.a, vxR i.b, vxR i.dst]) fun i _ c s =>
    let x := s.cell cell
    if !vxOk [i.dst, i.b] then s.cellFault cell 1 c
    else match s.laneFault x i cell false with
      | some f => s.cellFault cell f c
      | none =>
        let s := (List.range 16).foldl (fun s j =>
          if x.active i j then s.wr (cellKey cell (x.laneAddr i j)) (natLe 4 (x.lane i.dst j)) else s) s
        s.step1 cell c)

/-- VADDX (R335): ascending lanes, each addition rounded (FMT 0) or saturated (FMT 6); another FMT is ILLEGAL.
DEDUCED: log 50. -/
def execVaddx (cell : Nat) (s : State) : Host.Outcome State Fault Refusal :=
  .next (s.issue cell (fun i => i.op == 0x74) (fun i => [sxR i.a, vxR i.b, vxR i.dst]) fun i r c s =>
    let x := s.cell cell
    if !vxOk [i.dst, i.b] || decide (i.fmt ≠ 0 ∧ i.fmt ≠ 6) then s.cellFault cell 1 c
    else match s.laneFault x i cell true with
      | some f => s.cellFault cell f c
      | none =>
        let s := (List.range 16).foldl (fun (s : State) j =>
          if x.active i j then
            let k := cellKey cell (x.laneAddr i j)
            let v := (if i.fmt = 0 then fadd else iadd) (leNat (s.rd k 4)) (x.lane i.dst j)
            (s.runFlags r v.2).wr k (natLe 4 v.1)
          else s) (s.correctLanes x i cell)
        s.step1 cell c)

end Sys2Proof.Machine
end

