-- ==== Sys2Proof/Machine/Mesh.lean ====
section
/-! DEFINITION. The static mesh, SEND and RECV (R41, R337–R342). -/

namespace Sys2Proof.Machine

/-! ## Links -/

/-- Physical column on its die of a virtual column (CEL_XLAT). -/
def State.physCol (s : State) (v : Nat) : Nat := s.fld (aCEL_XLAT (v / 4)) (8 * (v % 4) + 7) (8 * (v % 4))

/-- Outputs of a mesh stop: 0 its cell, 1 east, 2 west, 3 south, 4 north. -/
def outOf (f : Flit) : Nat :=
  if cellCol f.at_ < cellCol f.dst then 1 else if cellCol f.dst < cellCol f.at_ then 2
  else if cellRow f.at_ < cellRow f.dst then 3 else if cellRow f.dst < cellRow f.at_ then 4 else 0

/-- Who goes first at an output (R339): straight on, then turning, the west input before the east, then injected. At its cell:
from the north, the south, the west, the east, then the cell itself. -/
def mayGo (f : Flit) : Nat :=
  if outOf f = 0 then (match f.dir with | 3 => 0 | 4 => 1 | 1 => 2 | 2 => 3 | _ => 4)
  else if f.dir = 0 then 4
  else if f.dir = outOf f then 0 else if f.dir = 1 then 1 else 2

/-- The bridge's edge lies beyond this stop in the flit's direction (R338). -/
def toBridge (f : Flit) : Bool :=
  (outOf f == 1 && cellCol f.at_ == 127) || (outOf f == 2 && cellCol f.at_ == 128)

/-- The stop a flit reaches next on its output. -/
def nextStop (f : Flit) : Nat :=
  match outOf f with | 1 => f.at_ + 1 | 2 => f.at_ - 1 | 3 => f.at_ + 256 | 4 => f.at_ - 256 | _ => f.at_

/-- Bypass cycles up to a die's edge from its outermost mapped column: on C0 to the bridge, on C1 from it (R41). -/
def State.edgeBypass (s : State) (die : Nat) : Nat := if die = 0 then 131 - s.physCol 127 else s.physCol 128

/-- Cycles from a stop to the next, bypassed columns included (R41, R337). -/
def State.hopCycles (s : State) (f : Flit) : Nat :=
  match outOf f with
  | 1 => s.physCol (cellCol f.at_ + 1) - s.physCol (cellCol f.at_)
  | 2 => s.physCol (cellCol f.at_) - s.physCol (cellCol f.at_ - 1)
  | _ => 1

/-- The flit moves over the output it has won in cycle `c`: to the die edge, over the bridge in 6 cycles, or to the next
stop. -/
def State.moveFlit (s : State) (f : Flit) (c : Nat) : Flit :=
  let die := cellDie f.at_
  if f.edge then { f with at_ := nextStop f, dir := outOf f, edge := false, cyc := c + 6 + s.edgeBypass (1 - die) }
  else if toBridge f then { f with dir := outOf f, edge := true, cyc := c + 1 + s.edgeBypass die }
  else { f with at_ := nextStop f, dir := outOf f, cyc := c + s.hopCycles f }

/-- A flit at the edge crosses only in the cycles its row has (R338). -/
def bridgeTurn (f : Flit) (c : Nat) : Bool := !f.edge || decide (c % 8 = cellRow f.at_ % 8)

/-- Two flits wait in one hop queue. -/
def sameQueue (a b : Flit) : Bool := a.at_ == b.at_ && a.dir == b.dir && a.edge == b.edge

/-- Two flits want one output. -/
def sameOut (a b : Flit) : Bool := a.at_ == b.at_ && outOf a == outOf b && a.edge == b.edge

/-- The flits at the head of their hop queues in cycle `c`, in order. -/
def heads (c : Nat) : List Flit → List Flit → List Flit
  | _, [] => []
  | seen, f :: fs =>
    if f.cyc ≤ c then
      (if seen.any (sameQueue f) then heads c seen fs else f :: heads c (f :: seen) fs)
    else heads c seen fs

/-- The flits that win an output in cycle `c` (R339). -/
def winners (c : Nat) (fs : List Flit) : List Flit :=
  let hs := (heads c [] fs).filter fun f => bridgeTurn f c
  hs.filter fun f => hs.all fun g => !sameOut f g || f == g || decide (mayGo f < mayGo g)

/-! ## Arrival -/

/-- A flit enters a cell's input queue at cycle `c`; a ninth is QUEUE_OVF (R340). -/
def State.enterCell (s : State) (f : Flit) (c : Nat) : State :=
  let x := s.cell f.dst
  if 8 ≤ x.inq.length then s.cellFault f.dst 6 c
  else (s.toCyc c).setCell f.dst { x with inq := x.inq ++ [(c, f.data)] }

/-- How many flits stand in a flit's hop queue in cycle `c`. -/
def queueLen (c : Nat) (fs : List Flit) (f : Flit) : Nat :=
  (fs.filter fun g => sameQueue f g && decide (g.cyc ≤ c)).length

/-- A flit that found its hop queue full in cycle `c`: the last of a queue of more than 4 (R340). Injected flits stand in no
hop queue. -/
def overflow (c : Nat) (fs : List Flit) : Option Flit :=
  fs.find? fun f => f.dir != 0 && f.cyc == c && decide (4 < queueLen c fs f)

/-- One cycle of the mesh: whether a flit reached its cell or was lost, and the state after. Flits that could move and did not
are counted in CEL_MESH_WAIT. DESIGN CHOICE: log 55. -/
def State.meshCycle (s : State) (c : Nat) : Bool × State :=
  let fs := s.cel.mesh
  match overflow c fs with
  | some f => (true, ({ s with cel := { s.cel with mesh := fs.erase f } }).cellFault f.at_ 7 c)
  | none =>
    let ws := winners c fs
    let waits := (fs.filter fun f => decide (f.cyc ≤ c) && !ws.contains f).length
    let stay := fs.filter fun f => !ws.contains f
    let out := ws.filter fun f => outOf f == 0
    let move := (ws.filter fun f => outOf f != 0).map fun f => s.moveFlit f c
    let s := { s with cel := { s.cel with mesh := stay ++ move, meshCyc := c + 1 } }
    let s := if waits = 0 then s else s.bump aCEL_MESH_WAIT waits
    (!out.isEmpty, out.foldl (fun s f => s.enterCell f (c + 2)) s)

/-- Mesh cycles run from `c` until a flit reaches its cell or is lost. DESIGN CHOICE: log 55. -/
def State.meshRun (s : State) : Nat → Nat → State
  | 0, _ => s
  | n + 1, c => let r := s.meshCycle c; if r.1 then r.2 else r.2.meshRun n (c + 1)

/-- The first cycle in which a flit of the mesh can move, no earlier than the cycles already run. -/
def State.meshFrom (s : State) : Nat :=
  max s.cel.meshCyc (match s.cel.mesh with
    | [] => 0
    | f :: fs => fs.foldl (fun m g => min m g.cyc) f.cyc)

/-- A parity error on a mesh lane: the first flit that crosses a link is lost, and the cell at its far end has the MESH_OVF
fault (R348, R657). DESIGN CHOICE: log 110. -/
def State.meshParity (s : State) : State :=
  let c := s.meshFrom
  match (winners c s.cel.mesh).find? fun f => outOf f != 0 with
  | none => s
  | some f =>
    let g := s.moveFlit f c
    ({ s with cel := { s.cel with mesh := s.cel.mesh.erase f } }).cellFault g.at_ 7 g.cyc

/-- MESH_FLIT_ARRIVE (R337, R348): the mesh runs up to the next cycle in which a flit reaches its destination's input queue, or
overflows a queue; where `parity` says so the next flit on a link is damaged. A way across the mesh takes fewer than 1,024
cycles and its waits. DESIGN CHOICE: log 55, 110. -/
def execMeshFlitArrive (parity : Bool) (s : State) : Host.Outcome State Fault Refusal :=
  .next (if s.cel.mesh.isEmpty then s else if parity then s.meshParity else s.meshRun 4096 s.meshFrom)

/-- SEND (R337, R342): toward another pavilion's column it is a PAV_TAG fault. -/
def execSend (cell : Nat) (s : State) : Host.Outcome State Fault Refusal :=
  .next (s.issue cell (fun i => i.op == 0x80) (fun i => [vxR i.a]) fun i r c s =>
    let col := bitsOf i.imm 7 0
    if !vxOk [i.a] then s.cellFault cell 1 c
    else if s.columnPav col ≠ some r.l.pav then s.cellFault cell 9 c
    else
      let f : Flit := { dst := 256 * bitsOf i.imm 14 8 + col, at_ := cell, dir := 0, edge := false, cyc := c + 2, pav := r.l.pav,
                        data := (s.cell cell).vx.getD i.a [] }
      ({ s with cel := { s.cel with mesh := s.cel.mesh ++ [f] } }).step1 cell c)

/-- Stall cycles of a RECV counted (R341). -/
def State.recvStall (s : State) (n : Nat) : State := if n = 0 then s else (s.bump aCEL_RECV_STALL n).celEvt 5

/-- RECV_LIMIT. -/
def State.recvLimit (s : State) : Nat := s.fld aCEL_CTRL 31 16

/-- RECV (R341): it stalls while the queue is empty, so an empty queue leaves the cell as it is; a flit that came after the
limit finds the RECV_TIMEOUT fault instead. A cell that its launch's fault halts while it stalls does neither (R350). -/
def execRecv (cell : Nat) (s : State) : Host.Outcome State Fault Refusal :=
  .next (if (s.cell cell).inq.isEmpty then s
    else s.issue cell (fun i => i.op == 0x81) (fun _ => []) fun i r c s =>
      let x := s.cell cell
      if !vxOk [i.dst] then s.cellFault cell 1 c
      else match x.inq with
        | [] => s
        | (t, d) :: q =>
          if r.halted (min (max c t) (c + s.recvLimit)) then s
          else if s.recvLimit ≤ t - c then (s.recvStall s.recvLimit).cellFault cell 8 (c + s.recvLimit)
          else
            let c' := max c t
            let s := (s.recvStall (t - c)).toCyc c'
            let s := s.setCell cell { x with inq := q }
            s.wrVx cell c' i i.dst 1 fun j => (d.getD j 0).toNat)

/-- RECV_TIMEOUT (R341): a cell at RECV with an empty queue has stalled for the limit. -/
def execRecvTimeout (cell : Nat) (s : State) : Host.Outcome State Fault Refusal :=
  .next (if (s.cell cell).inq.isEmpty then
      s.issue cell (fun i => i.op == 0x81) (fun _ => []) fun _ r c s =>
        if r.halted (c + s.recvLimit) then s else (s.recvStall s.recvLimit).cellFault cell 8 (c + s.recvLimit)
    else s)

end Sys2Proof.Machine
end

