-- ==== Sys2Proof/Machine/GwPort.lean ====
section
/-! DEFINITION. The write port of a cluster's gateway: which CCLK cycle each 64 B line has (R344, R519). -/

namespace Sys2Proof.Machine

/-- The first cycle from `c` on that is not taken; `fuel` bounds the search. -/
def nextFree (taken : List Nat) : Nat → Nat → Nat
  | 0, c => c
  | f + 1, c => if taken.contains c then nextFree taken f (c + 1) else c

/-- `n` lines from cycle `c` on, each in the next cycle that is not taken. -/
def gwPlace (taken : List Nat) : Nat → Nat → List Nat
  | 0, _ => []
  | n + 1, c => let e := nextFree taken taken.length c; e :: gwPlace taken n (e + 1)

/-- Lines with cycles of their own move, in order, to cycles that are not taken: from each cycle to its new one. -/
def gwMove (taken : List Nat) : Nat → List Nat → List (Nat × Nat)
  | _, [] => []
  | lo, c :: cs => let e := nextFree taken taken.length (max lo c); (c, e) :: gwMove taken (e + 1) cs

/-- A cycle among others in rising order. -/
def addCycle (c : Nat) : List Nat → List Nat
  | [] => [c]
  | d :: ds => if c ≤ d then c :: d :: ds else d :: addCycle c ds

/-- A cluster's line cycles that are still to come. -/
def State.gwMine (s : State) (cl : Nat) : List (Nat × Nat) :=
  (s.cel.gwTaken.filter fun g => g.1 == cl && decide (s.cyc ≤ g.2.1)).map (·.2)

/-- Lines of an unscheduled deposit (`kind` 1) or of a FETCH (2) take the cycles that are free (R344, R519).
DESIGN CHOICE: log 109. -/
def State.gwTake (s : State) (cl kind want n : Nat) : List Nat × State :=
  let mine := s.gwMine cl
  let cs := gwPlace (mine.map (·.1)) n want
  (cs, { s with cel := { s.cel with
    gwTaken := (s.cel.gwTaken.filter fun g => decide (s.cyc ≤ g.2.1)) ++ cs.map fun c => (cl, c, kind) } })

/-- Cycles by which FETCH flits are delayed, counted (R519). -/
def State.gwSlip (s : State) (n : Nat) : State := if n = 0 then s else (s.bump aPWR_GW_SLIP n).evt 19 aPWR_EVENT 4

/-- The cluster whose cell SRAM holds a key. -/
def keyCluster (k : Nat) : Nat := cellCluster ((k - 2 ^ 43) / 2 ^ 14)

/-- The lines of a cluster that move: their writes, their place in COUNT and the triggers that wait for them. -/
def State.gwShift (s : State) (cl : Nat) (mv : List (Nat × Nat)) : State :=
  let dest := fun (c : Nat) => match mv.find? fun m => m.1 == c with | some m => m.2 | none => c
  let move := fun (w : Write) =>
    if decide (2 ^ 43 ≤ w.key) && decide (w.key < 2 ^ 44) && keyCluster w.key == cl then { w with at_ := 4 * (dest (w.at_ / 4 - 1) + 1) }
    else w
  { s with
    writes := (s.writes.map move).foldl (fun l w => addWrite w l) []
    cel := { s.cel with
      counts := s.cel.counts.map fun e => if e.1 / 64 = cl then (e.1, e.2.map fun d => (dest d.1, d.2)) else e
      pend := s.cel.pend.map fun p => if p.1 / 64 = cl then (p.1, dest (p.2 - 1) + 1) else p } }

/-- Lines of a scheduled deposit: no other line but a scheduled one stands in their way; those that do move to the next free
cycles, and each cycle in which a FETCH flit has to wait is counted (R344, R519). -/
def State.gwSched (s : State) (cl want n : Nat) : List Nat × State :=
  let mine := s.gwMine cl
  let sch := (mine.filter fun g => g.2 == 0).map (·.1)
  let cs := gwPlace sch n want
  let slow := mine.filter fun g => g.2 != 0 && decide (want ≤ g.1)
  let mv := if slow.any fun g => cs.contains g.1 then gwMove (sch ++ cs) 0 (slow.foldl (fun l g => addCycle g.1 l) []) else []
  let late := fun (t : Nat) => mv.any fun m => slow.contains (m.1, 2) && decide (m.1 ≤ t) && decide (t < m.2)
  let dest := fun (c : Nat) => match mv.find? fun m => m.1 == c with | some m => m.2 | none => c
  let taken := (s.cel.gwTaken.filter fun g => decide (s.cyc ≤ g.2.1)).map fun g =>
    if g.1 = cl ∧ g.2.2 ≠ 0 then (g.1, dest g.2.1, g.2.2) else g
  let s := { s with cel := { s.cel with gwTaken := taken ++ cs.map fun c => (cl, c, 0) } }
  let s := if mv.isEmpty then s else s.gwShift cl mv
  (cs, s.gwSlip (cs.filter late).length)

end Sys2Proof.Machine
end

