-- ==== Sys2Proof/Machine/CellControl.lean ====
section
/-! DEFINITION. Control instructions of the cells and GPOST (R319, R321, R325, R329, R331, R332, R347, R508, R509). -/

namespace Sys2Proof.Machine

/-- LOOP (R329). DEDUCED: log 53. -/
def execLoop (cell : Nat) (s : State) : Host.Outcome State Fault Refusal :=
  .next (s.issue cell (fun i => i.op == 0xF0) (fun i => if i.a = 0 then [] else [sxR i.a]) fun i _ c s =>
    let x := s.cell cell
    if i.a ≠ 0 ∧ i.a < 24 then s.cellFault cell 1 c
    else
      let n := if i.a = 0 then i.imm % 65536 else x.getSx i.a
      let len := i.imm / 65536
      if 4 ≤ x.loops.length then s.cellFault cell 11 c
      else if n = 0 then s.setCell cell (x.goTo (x.pos + 1 + len) (c + 1))
      else if len = 0 then s.step1 cell c
      else s.setCell cell ({ x with loops := (x.pos + 1, x.pos + 1 + len, n - 1) :: x.loops }.goTo (x.pos + 1) (c + 1)))

/-- WAITC (R331): nothing further issues before cycle IMM of the launch slot; a cycle that has passed is counted.
DEDUCED: log 53. -/
def execWaitc (cell : Nat) (s : State) : Host.Outcome State Fault Refusal :=
  .next (s.issue cell (fun i => i.op == 0xF1) (fun _ => []) fun i r c s =>
    let t := r.slot0 + i.imm
    let s := if t < c then (s.bump aCEL_WAITC_LATE 1).celEvt 4 else s
    let x := s.cell cell
    s.setCell cell (x.goTo (x.pos + 1) (max (c + 1) t)))

/-- IFILL (R321): one line per turn of the cell; a range beyond the store or the buffer is IFILL_RANGE. DEDUCED: log 53. -/
def execIfill (cell : Nat) (s : State) : Host.Outcome State Fault Refusal :=
  .next (s.issue cell (fun i => i.op == 0xF2) (fun _ => []) fun i _ c s =>
    let sl := bitsOf i.imm 9 0
    let bl := bitsOf i.imm 20 16
    let n := bitsOf i.imm 26 22 + 1
    if 1024 < sl + n ∨ 32 < bl + n then s.cellFault cell 10 c
    else
      let s := s.fillLines cell sl bl n
      let x := s.cell cell
      s.setCell cell (x.goTo (x.pos + 1) (turnFrom (c + 1) (cellRow cell) + 32 * (n - 1) + 2)))

/-- HALT (R319): the last HALT of a launch that has no fault completes it; `ok` is whether PCIe took the completion (R579). -/
def execHalt (cell : Nat) (ok : Bool) (s : State) : Host.Outcome State Fault Refusal :=
  .next (s.issue cell (fun i => i.op == 0xFF) (fun _ => []) fun _ r c s =>
    let s := s.setCell cell { s.cell cell with run := none }
    let r := { r with cells := r.cells.filter (· != cell), last := max r.last c }
    let s := s.setRun r
    if r.cells.isEmpty && r.fault.isNone then s.finish r ok else s)

/-- Opcodes of R325. -/
def opListed (op : Nat) : Bool :=
  decide (op ≤ 0x0A) || op == 0x10 || op == 0x11 || (decide (0x40 ≤ op) && decide (op ≤ 0x4A))
    || (decide (0x50 ≤ op) && decide (op ≤ 0x56)) || op == 0x58 || op == 0x59 || op == 0x60 || op == 0x61
    || (decide (0x70 ≤ op) && decide (op ≤ 0x74)) || op == 0x78 || op == 0x80 || op == 0x81 || op == 0x88
    || op == 0xF0 || op == 0xF1 || op == 0xF2 || op == 0xFF

/-- ILLEGAL_OPCODE (R325, R508): an opcode that is not listed, or a GPOST whose command is not. -/
def execIllegalOpcode (cell : Nat) (s : State) : Host.Outcome State Fault Refusal :=
  .next (s.issue cell
    (fun i => !opListed i.op || (i.op == 0x88 && (i.imm % 256 == 0 || decide (4 < i.imm % 256)))) (fun _ => [])
    fun _ _ c s => s.cellFault cell 1 c)

/-! ## GPOST -/

/-- A command of `n` flits is posted in cycle `c` to a cluster's gateway, which starts one command after another, a flit a
cycle: the cycle in which it starts; none where 8 commands wait already (R347). DEDUCED: log 56. -/
def State.post (s : State) (cl n c : Nat) : Option (Nat × State) :=
  let waiting := (s.cel.posts.filter fun p => p.1 == cl && decide (c < p.2)).length
  if 8 ≤ waiting then none
  else
    let start := max c (tblGet (fun _ => 0) s.cel.gwFree cl)
    some (start, { s with cel := { s.cel with
      gwFree := tblSet s.cel.gwFree cl (start + n)
      posts := (s.cel.posts.filter fun p => decide (c < p.2)) ++ [(cl, start)] } })

/-- The memories as a command that starts in cycle `st` at its gateway finds them, 40 cycles on: what the commands before it write
is there (R347, R495). DEDUCED: log 56. -/
def State.atPost (s : State) (st : Nat) : State := s.toCyc (st + 40)

/-- GPOST of one command (R508): its range faults, the post queue, then its effect on `n` flits, from the cycle in which its gateway
starts it. A word it reads from the cell's SRAM is corrected or is ECC_DATA (R348, R349). DEDUCED: log 56. -/
def State.gpost (s : State) (cell cmd : Nat) (body : Ins → Run → Nat → Nat → State → State) : State :=
  s.issue cell (fun i => i.op == 0x88 && i.imm % 256 == cmd) (fun i => [sxR i.a, sxR i.b]) fun i r c s =>
    let x := s.cell cell
    let n := bitsOf i.imm 14 8 + 1
    let first := x.getSx i.a % 256
    if 256 < first + n then s.cellFault cell 3 c
    else if 3 ≤ cmd ∧ 262144 < x.getSx i.b + n then s.cellFault cell 3 c
    else if 3 ≤ cmd ∧ (bitsOf i.imm 18 16 / 4 ≠ cellDie cell ∨ s.unitPav (bitsOf i.imm 18 16) ≠ some r.l.pav) then
      s.cellFault cell 9 c
    else match s.post (cellCluster cell) n c with
      | none => s.cellFault cell 12 c
      | some (st, t) =>
        if cmd ≠ 3 ∧ (s.atPost st).poisoned (cellKey cell (64 * first)) (64 * n) then s.cellFault cell 4 c
        else (body i r st n (if cmd = 3 then t else t.correct (cellKey cell (64 * first)) (64 * n))).step1 cell c

/-- The packet a template and a cell's flits make (R509): LEN, HOPS, SEQ and TAG replaced. A template the image does not hold
reads 0. DEDUCED: log 56. -/
def State.emission (s : State) (tmpl tagOr : Nat) (payload : List Byte) : Pkt × State :=
  let w := beNat ((match s.img with | some i => i.tmpl.getD tmpl [] | none => []))
  let src := bitsOf w 79 64
  let dst := bitsOf w 95 80
  let sched := bitOf w 119
  let q := s.nextSeq src dst sched
  ({ ver := bitsOf w 127 126, kind := bitsOf w 125 120, sched := sched, vc := bitsOf w 118 116, ce := bitOf w 115,
     kflag := bitOf w 114, pav := bitsOf w 113 108, hops := s.hopInit, len := payload.length / 64 - 1, dst := dst, src := src,
     seq := q.1, tag := bitsOf w 31 0 ||| tagOr, payload := payload }, q.2)

/-- The flits a GPOST that starts in cycle `st` names in its cell. -/
def State.postFlits (s : State) (cell : Nat) (i : Ins) (st n : Nat) : List Byte :=
  (s.atPost st).rd (cellKey cell (64 * ((s.cell cell).getSx i.a % 256))) (64 * n)

/-- How much later than its issue a command that starts in cycle `st` acts, in root units (R347). -/
def State.postWait (s : State) (st : Nat) : Nat := 4 * (st - s.cyc)

/-- GPOST_EMIT_SCHED (R347, R495): the header reaches the egress 340 CCLK after the command starts. A template of another pavilion
than the launch's gives a packet that is discarded under PAV_DROP (R597, DEDUCED: log 115). -/
def execGpostEmitSched (cell : Nat) (s : State) : Host.Outcome State Fault Refusal :=
  .next (s.gpost cell 1 fun i r st n s =>
    let x := s.cell cell
    let e := s.emission (bitsOf (x.getSx i.a) 18 8) (x.getSx i.b) (s.postFlits cell i st n)
    if e.1.pav ≠ r.l.pav then s.drop 11 (ownIngress (cellDie cell) 13) e.1
    else e.2.originateSched (cellDie cell) 13 e.1 (1360 + s.postWait st) false)

/-- GPOST_EMIT_UNSCHED (R347): through allocator port 13; without a buffer it is dropped and the launch counts it. A template of
another pavilion gives a packet that is discarded (R597, DEDUCED: log 115). -/
def execGpostEmitUnsched (cell : Nat) (s : State) : Host.Outcome State Fault Refusal :=
  .next (s.gpost cell 2 fun i r st n s =>
    let x := s.cell cell
    let e := s.emission (bitsOf (x.getSx i.a) 18 8) (x.getSx i.b) (s.postFlits cell i st n)
    if e.1.pav ≠ r.l.pav then s.drop 11 (ownIngress (cellDie cell) 13) e.1
    else
      let o := e.2.originateAt (cellDie cell) 13 e.1 false (s.postWait st)
      if o.1 then o.2
      else match o.2.runOf r.id with
        | some q => o.2.setRun { q with dropped := q.dropped + 1 }
        | none => o.2)

/-- GPOST_FETCH (R347, R495, R508, R519): flits from operand SRAM into cell SRAM, uncorrectable words with them, one a cycle from 40
CCLK after the command starts in the cycles that the cluster's gateway has free. -/
def execGpostFetch (cell : Nat) (s : State) : Host.Outcome State Fault Refusal :=
  .next (s.gpost cell 3 fun i _ st n s =>
    let x := s.cell cell
    let cl := cellCluster cell
    let dst := cellKey cell (64 * (x.getSx i.a % 256))
    let src := opKey (bitsOf i.imm 18 16) (64 * x.getSx i.b)
    let s := s.pfTo (bitsOf i.imm 18 18) (s.tim.now / 6)
    let g := s.gwTake cl 2 (st + 40) n
    let blocked := (s.gwMine cl).filter fun t => t.2 == 0 && decide (st + 40 ≤ t.1) && g.1.any fun e => decide (t.1 < e)
    let s := (g.2.correct src (64 * n)).gwSlip blocked.length
    ((List.range n).zip g.1).foldl (fun s e =>
      s.sendWrite (4 * (e.2 + 1)) 0 (dst + 64 * e.1) ((s.toCyc (e.2 + 1)).rd (src + 64 * e.1) 64)
        (((s.toCyc (e.2 + 1)).badWords (src + 64 * e.1) 64).map fun w => (dst / 8) + (w - src / 8))) s)

/-- GPOST_PUT (R347, R495, R508): flits from cell SRAM into operand SRAM; the last is written 40 + `n` CCLK after the command starts,
below the prefetch engine (R519). -/
def execGpostPut (cell : Nat) (s : State) : Host.Outcome State Fault Refusal :=
  .next (s.gpost cell 4 fun i _ st n s =>
    let bs := s.postFlits cell i st n
    (List.range n).foldl (fun s j =>
      s.sendWrite (mclkEnd (4 * (st + 41 + j) - 1)) 0 (opKey (bitsOf i.imm 18 16) (64 * (s.cell cell).getSx i.b) + 64 * j)
        ((bs.drop (64 * j)).take 64) []) s)

end Sys2Proof.Machine
end

