-- ==== Sys2Proof/Machine/Gateway.lean ====
section
/-! DEFINITION. Gateways and triggered launches (R315, R344–R346, R519), and the launch that a bandstand fires (R316–R318). -/

namespace Sys2Proof.Machine

/-- A payload handed to a gateway, at its input in CCLK cycle `c`. -/
def State.handDeposit (s : State) (cl entry off : Nat) (bs : List Byte) (sched : Bool) (c : Nat) : State :=
  { s with cel := { s.cel with deps := s.cel.deps ++ [⟨cl, entry, off, bs, sched, c⟩] } }

/-- A deposit written to its landing entry, a line in each of the cycles `cs`: bytes beyond EXPECT are not written and are
counted; an entry that reaches EXPECT and has TRIGGER set has its trigger pending (R336, R343, R344, R346). -/
def State.deposit (s : State) (d : Deposit) (cs : List Nat) : State :=
  let k := 64 * d.cluster + d.entry
  match s.landing k with
  | none => s
  | some e =>
    let n := min d.bytes.length (e.expect - s.landCount k)
    let excess := d.bytes.length - n
    let cell := 256 * (32 * (d.cluster % 4) + e.row) + d.cluster / 4
    let lines := (List.range ((n + 63) / 64)).zip cs
    let size := fun (j : Nat) => min 64 (n - 64 * j)
    let s := lines.foldl (fun (s : State) l =>
      s.sendWrite (4 * (l.2 + 1)) 0 (cellKey cell (e.addr + d.off + 64 * l.1)) ((d.bytes.drop (64 * l.1)).take (size l.1)) []) s
    let s := if excess = 0 then s else s.bump aCEL_LANDING_OVER excess
    let before := s.landCount k
    let s := { s with cel := { s.cel with
      counts := tblSet s.cel.counts k (s.deposits k ++ lines.map fun l => (l.2, size l.1)) } }
    if e.trigger && decide (before < e.expect) && decide (before + n = e.expect) then
      { s with cel := { s.cel with pend := s.cel.pend ++ [(k, (match lines.getLast? with | some l => l.2 | none => s.cyc) + 1)] } }
    else s

/-- GATEWAY_DEPOSIT (R344, R519): the cluster's oldest scheduled deposit, 12 CCLK after the gateway input, or where it has none
its oldest unscheduled one, in the cycles that scheduled ones leave free; 64 B in each. DESIGN CHOICE: log 109. -/
def execGatewayDeposit (cl : Nat) (s : State) : Host.Outcome State Fault Refusal :=
  let mine := s.cel.deps.filter fun d => d.cluster == cl
  let lines := fun (d : Deposit) => (d.bytes.length + 63) / 64
  .next (match mine.find? fun d => d.sched with
    | some d =>
      let g := ({ s with cel := { s.cel with deps := s.cel.deps.erase d } }).gwSched cl (d.at_ + 12) (lines d)
      (g.2.deposit d g.1).toCyc (g.1.headD 0)
    | none =>
      match mine with
      | d :: _ =>
        let g := ({ s with cel := { s.cel with deps := s.cel.deps.erase d } }).gwTake cl 1 (max (d.at_ + 12) s.cyc) (lines d)
        (g.2.deposit d g.1).toCyc (g.1.headD 0)
      | [] => s)

/-- A landing entry is one that holds a group's contributions for the instance of step `inst` (R364). -/
def Group.lands (x : Group) (k inst : Nat) : Bool :=
  let row := 32 * (k / 64 % 4) + k % 32
  decide (x.colLo ≤ k / 256) && decide (k / 256 ≤ x.colHi) && decide (x.rowLo ≤ row) && decide (row ≤ x.rowHi)
    && decide (k % 64 / 32 = inst % 2)

/-- The unscheduled group, and its step, whose stage program a landing entry's trigger starts (R365). -/
def State.stageOf (s : State) (k : Nat) : Option (Nat × Nat) :=
  (s.groups.find? fun e => e.2.unsched && e.2.live && decide (e.2.state = 2) && e.2.lands k e.2.step).map fun e => (e.1, e.2.step)

/-- A launch of a stage program is refused: the stage has no result. DESIGN CHOICE: log 116. -/
def State.stageBad (s : State) (k : Nat) : State :=
  match s.stageOf k with
  | some (g, _) => { s with groups := s.groups.map fun e => if e.1 = g then (e.1, { e.2 with result := none }) else e }
  | none => s

/-- A trigger fires its launch at cycle `f`, or the launch is refused; either arms the entry (R316, R318, R345).
DEDUCED: log 54. -/
def State.fireTrigger (s : State) (k : Nat) (l : Launch) (f : Nat) : State :=
  let s := s.toCyc f
  match s.launchBad l false with
  | some sub => ((s.refuseLaunch l sub).stageBad k).arm k f
  | none => (s.startLaunch l 0 f false none (s.stageOf k)).arm k f

/-- A trigger of landing entry `k`'s cluster that waits already, in the launch queue or for a place in it, is for a cell of this
launch: the launch comes behind it (R346). DEDUCED: log 54. -/
def State.waitsBefore (s : State) (k : Nat) (l : Launch) : Bool :=
  ((s.cel.queue.map (·.1)) ++ s.cel.full).any fun q => q != k && q / 64 == k / 64 && (match s.landing q with
    | some e => (rectCells e.launch).any fun c => (rectCells l).contains c
    | none => false)

/-- A cluster's launch queue has a place. -/
def State.queueRoom (s : State) (cl : Nat) : Bool := decide ((s.cel.queue.filter fun q => q.1 / 64 == cl).length < 8)

/-- TRIGGER_LAUNCH (R315, R346): a pending trigger fires in the cycle after it, or takes a place in the cluster's launch queue
while a cell of its rectangle runs; where the queue is full it stays pending until a place frees. -/
def execTriggerLaunch (k : Nat) (s : State) : Host.Outcome State Fault Refusal :=
  .next (match s.cel.pend.find? fun p => p.1 == k, s.landing k with
    | some p, some e =>
      let gone := { s with cel := { s.cel with pend := s.cel.pend.erase p } }
      if s.cel.full.contains k then s
      else if s.rectBusy e.launch || s.waitsBefore k e.launch then
        if s.queueRoom (k / 64) then { gone with cel := { gone.cel with queue := s.cel.queue ++ [p] } }
        else { s with cel := { s.cel with full := s.cel.full ++ [k] } }
      else gone.fireTrigger k e.launch (max (p.2 + 1) s.cyc)
    | _, _ => s)

/-- A place of a cluster's launch queue frees: the oldest trigger that found the queue full enters it (R346). -/
def State.enterQueue (s : State) (cl : Nat) : State :=
  match s.cel.full.find? fun k => k / 64 == cl with
  | none => s
  | some k => { s with cel := { s.cel with full := s.cel.full.erase k, pend := s.cel.pend.filter fun p => p.1 != k
                                           queue := s.cel.queue ++ s.cel.pend.filter fun p => p.1 == k } }

/-- QUEUED_TRIGGER_START (R346): the head of a cluster's launch queue starts when its cells are free. -/
def execQueuedTriggerStart (cl : Nat) (s : State) : Host.Outcome State Fault Refusal :=
  .next (match s.cel.queue.find? fun q => q.1 / 64 == cl with
    | none => s
    | some q =>
      match s.landing q.1 with
      | none => s
      | some e =>
        if s.rectBusy e.launch then s
        else (({ s with cel := { s.cel with queue := s.cel.queue.erase q } }).enterQueue cl).fireTrigger q.1 e.launch
          (max (q.2 + 1) (s.cyc + 1)))

/-- The cells of a launch that faulted halt, and it completes CELL_FAULT (R350). -/
def State.haltLaunch (s : State) (r : Run) (ok : Bool) : State :=
  let s := r.cells.foldl (fun s c => s.setCell c { s.cell c with run := none }) s
  let s := match r.fault with | some (_, _, _, c) => s.toCyc c | none => s
  s.finish { r with cells := [] } ok

end Sys2Proof.Machine
end

