-- ==== Sys2Proof/Machine/Collectives.lean ====
section
/-! DEFINITION. Collectives (chapter 09): stages, contributions, reduction, results, failure. -/

namespace Sys2Proof.Machine

/-! ## Entries, sizes and shares -/

/-- A valid group entry. -/
def State.grp (s : State) (g : Nat) : Option Group := (s.groups.find? fun e => e.1 == g).map (·.2)

/-- The state with a group entry written. -/
def State.setGrp (s : State) (g : Nat) (x : Group) : State := { s with groups := tblSet s.groups g x }

/-- An event bit of COL. -/
def State.colEvt (s : State) (bit : Nat) : State := s.evt 14 aCOL_EVENT bit

/-- The switch's own ID (RTE_ID). -/
def State.ownSwitch (s : State) : Nat := s.fld aRTE_ID 9 0

/-- The inter-stage format (R367). -/
def Group.midF (x : Group) : Nat :=
  if x.op = 3 then 0 else if x.op = 1 then x.inF
  else if x.reduce = 3 then 12 else if x.reduce = 1 ∨ x.reduce = 2 then x.inF else if x.inF = 6 then 6 else 0

/-- Format of a member's stream. -/
def Group.streamF (x : Group) (m : Member) : Nat := if m.child then x.midF else x.inF

/-- Bytes of a segment-sum index array (R381). -/
def Group.indexBytes (x : Group) : Nat := (4 * x.rows + 1023) / 1024 * 1024

/-- Expected bytes of a member's stream (R364, R371, R381). -/
def Group.expect (x : Group) (m : Member) : Nat :=
  if x.op = 1 then
    (if x.bcast then (if m.lo ≤ x.srcRank ∧ x.srcRank ≤ m.hi then x.elems * elemBytes x.inF else 0)
     else (m.hi + 1 - m.lo) * x.elems * elemBytes x.inF)
  else if x.op = 3 then
    (if m.child then 4 * x.segments * x.width else x.indexBytes + x.rows * x.width * elemBytes x.inF)
  else x.elems * elemBytes (x.streamF m)

/-- The root has no parent. -/
def Group.isRoot (x : Group) : Bool := x.parent.isNone

/-- A leaf's members are endpoints. -/
def Group.isLeaf (x : Group) : Bool := x.members.all fun m => !m.child

/-- Format of the result. -/
def Group.resF (x : Group) : Nat := if x.op = 1 then x.inF else x.outF

/-- Chunks of 256 elements, or segments, before rank `r` (R371). -/
def Group.before (x : Group) (r : Nat) : Nat := r * (if x.op = 3 then x.segments else x.elems / 256) / max 1 x.n

/-- Bytes of one chunk or segment of the result. -/
def Group.unitBytes (x : Group) : Nat := (if x.op = 3 then x.width else 256) * elemBytes x.resF

/-- The down stream that ranks `lo` to `hi` receive, as a range of the full result in bytes (R371). -/
def Group.share (x : Group) (lo hi : Nat) : Nat × Nat :=
  if x.op = 0 ∨ x.op = 3 then (x.before lo * x.unitBytes, x.before (hi + 1) * x.unitBytes)
  else if x.op = 2 then (0, x.elems * elemBytes x.resF)
  else (0, (if x.bcast then 1 else x.n) * x.elems * elemBytes x.resF)

/-- The stage's own down stream within the full result. -/
def Group.own (x : Group) : Nat × Nat := x.share x.rankLo x.rankHi

/-- Bytes of the stage's down stream. -/
def Group.downBytes (x : Group) : Nat := x.own.2 - x.own.1

/-! ## Counts -/

/-- A member's count in the current instance. -/
def Group.count (x : Group) (m : Nat) : Nat := ((x.cur.filter fun p => p.m == m).map fun p => p.bytes.length).foldl (· + ·) 0

/-- The count as it stands at fabric time `t`: a packet counts from the PCLK cycle after its acceptance (R366). -/
def Group.countAt (x : Group) (m t : Nat) : Nat :=
  ((x.cur.filter fun p => p.m == m && decide ((p.at_ / 5 + 1) * 5 ≤ t)).map fun p => p.bytes.length).foldl (· + ·) 0

/-- The indexes and entries of the members. -/
def Group.indexed (x : Group) : List (Nat × Member) := (List.range x.members.length).zip x.members

/-- The members whose count is short at fabric time `t`, lowest first. -/
def Group.short (x : Group) (t : Nat) : List (Nat × Member) :=
  x.indexed.filter fun e => decide (x.countAt e.1 t < x.expect e.2)

/-- A part put among the others in the order of acceptance. -/
def addPart (p : Part) : List Part → List Part
  | [] => [p]
  | q :: qs => if q.at_ ≤ p.at_ then q :: addPart p qs else p :: q :: qs

/-- The fabric time from which member `m`'s count is `n` or more: the start of the PCLK cycle after the acceptance of the
packet that takes it there (R366); `have_` bytes before `ps`. -/
def reachedAt (m n : Nat) : List Part → Nat → Option Nat
  | [], _ => none
  | p :: ps, have_ =>
    if p.m ≠ m then reachedAt m n ps have_
    else if n ≤ have_ + p.bytes.length then some ((p.at_ / 5 + 1) * 5) else reachedAt m n ps (have_ + p.bytes.length)

/-- The fabric time from which a member is complete; a member of whom nothing is expected is from START (R371). -/
def Group.doneAt (x : Group) (e : Nat × Member) : Option Nat :=
  if x.expect e.2 = 0 then some (x.start * slotUnits) else reachedAt e.1 (x.expect e.2) x.cur 0

/-- The fabric time from which every member is complete. -/
def Group.fullAt (x : Group) : Option Nat :=
  x.indexed.foldl (fun a e => match a, x.doneAt e with | some t, some u => some (max t u) | _, _ => none) (some 0)

/-- A member's stream as it was placed. -/
def Group.stream (x : Group) (m n : Nat) : List Byte :=
  memRead ((x.cur.filter fun p => p.m == m).foldl (fun mem p => memWrite mem p.off p.bytes) []) 0 n

/-- Every count was complete by fabric time `t`, and by the deadline (R365, R376, R380). -/
def Group.ripe (x : Group) (t : Nat) : Bool :=
  match x.fullAt with
  | some u => decide (u ≤ t) && decide (u ≤ (x.start + x.deadline) * slotUnits)
  | none => false

/-! ## Lag (R382) -/

/-- One lag added to a member's store. -/
def Group.addLag (x : Group) (m lag bin : Nat) : Group :=
  let k := 16 * m + bin
  { x with lag := tblSet x.lag m ((tblGet (fun _ => 0) x.lag m + lag) % 2 ^ 48)
           hist := tblSet x.hist k (min 0xFFFF (tblGet (fun _ => 0) x.hist k + 1))
           reached := m :: x.reached }

/-- The lag of the members that are complete at fabric time `t` and whose lag has not been taken: the slot in which the count
reached its expected count, less START. DEDUCED: log 58. -/
def State.takeLag (s : State) (x : Group) (t : Nat) : Group :=
  if !x.live then x
  else x.indexed.foldl (fun x e =>
    match x.doneAt e with
    | some u =>
      if u ≤ t && !x.reached.contains e.1 then
        let lag := min 65535 (u / slotUnits - x.start)
        x.addLag e.1 lag (min 15 (lag / max 1 (s.fld aCOL_CTRL 15 0)))
      else x
    | none => x) x

/-! ## Reduction (R285, R286, R368, R369, R381) -/

/-- Little-endian words of `n` bytes. -/
def wordsOf (n : Nat) (bs : List Byte) : List Nat := (List.range (bs.length / max 1 n)).map fun i => leNat ((bs.drop (n * i)).take n)

/-- A stream's elements as FP32 codes, or INT32 words. -/
def asLanes (f : Nat) (bs : List Byte) : List Nat := (wordsOf (elemBytes f) bs).map fun x =>
  if f = 0 ∨ f = 6 then x else (widen f none x).1

/-- Two element lists combined, with flags. -/
def zipOp (op : Nat → Nat → Nat × Nat) (a b : List Nat) : List Nat × Nat :=
  let r := (a.zip b).map fun p => op p.1 p.2
  (r.map (·.1), r.foldl (fun f x => orF f x.2) 0)

/-- A combination in member order, from the first member's values. -/
def combine (op : Nat → Nat → Nat × Nat) : List (List Nat) → List Nat × Nat
  | [] => ([], 0)
  | v :: vs => vs.foldl (fun a x => let r := zipOp op a.1 x; (r.1, orF a.2 r.2)) (v, 0)

/-- The larger or smaller of two INT32 words. -/
def imax (a b : Nat) : Nat × Nat := (if i32 a < i32 b then b else a, 0)
/-- The smaller. -/
def imin (a b : Nat) : Nat × Nat := (if i32 b < i32 a then b else a, 0)

/-- The pairs of FP32 codes of a compensated partial. -/
def pairsOf (bs : List Byte) : List (Nat × Nat) := (wordsOf 8 bs).map fun x => (x % 2 ^ 32, x / 2 ^ 32)

/-- A compensated sum of the members' values, element by element (R301): each contribution is one value, or hi and lo. -/
def compensate (vs : List (List (List Nat))) (n : Nat) : List (Nat × Nat) × Nat :=
  let r := (List.range n).map fun e =>
    (vs.flatMap fun v => v.getD e []).foldl (fun (a : Nat × Nat × Nat) x =>
      let t := compStep a.1 a.2.1 x
      (t.1, t.2.1, orF a.2.2 t.2.2)) (0, 0, 0)
  (r.map fun t => (t.1, t.2.1), r.foldl (fun f t => orF f t.2.2) 0)

/-- A leaf's table after one member's rows (R381): each row added to its segment; rows out of range counted. -/
def segAdd (x : Group) (tab : List Nat) (bs : List Byte) : List Nat × Nat × Nat :=
  (List.range x.rows).foldl (fun (a : List Nat × Nat × Nat) r =>
    let seg := beNat ((bs.drop (4 * r)).take 4)
    if x.segments ≤ seg then (a.1, a.2.1, a.2.2 + 1)
    else
      let base := x.indexBytes + r * x.width * elemBytes x.inF
      let row := asLanes x.inF ((bs.drop base).take (x.width * elemBytes x.inF))
      let old := (a.1.drop (seg * x.width)).take x.width
      let z := zipOp fadd old row
      (a.1.take (seg * x.width) ++ z.1 ++ a.1.drop (seg * x.width + x.width), orF a.2.1 z.2, a.2.2)) (tab, 0, 0)

/-- The random bits of the root's rounding of element `e` (R369). -/
def Group.rnd (x : Group) (g e : Nat) : Option Nat :=
  if x.rm = 1 then some (hashRnd (yelHash x.seed 3 x.step g (e / 256) (e % 256))) else none

/-- Elements written in a format, with flags. -/
def elemsOut (f : Nat) (rnd : Nat → Option Nat) (es : List Nat) : List Byte × Nat :=
  let r := ((List.range es.length).zip es).map fun p => writeElem f (rnd p.1) (decodeF fp32 p.2)
  (r.flatMap fun (t : Nat × Nat) => natLe (elemBytes f) t.1, r.foldl (fun a (t : Nat × Nat) => orF a t.2) 0)

/-- FP32 codes as the root's output (R369), or unrounded. -/
def Group.roundOut (x : Group) (g : Nat) (es : List Nat) : List Byte × Nat :=
  if x.isRoot then elemsOut x.outF (x.rnd g) es else elemsOut 0 (fun _ => none) es

/-- A compensated pair as the root's output (R303), or as it is. -/
def Group.pairOut (x : Group) (ps : List (Nat × Nat)) : List Byte × Nat :=
  if !x.isRoot || decide (x.outF = 12) then (ps.flatMap fun p => natLe 4 p.1 ++ natLe 4 p.2, 0)
  else
    let r := ps.map fun p => if x.outF = 8 then pairFp64 p.1 p.2 else pairFp32 p.1 p.2
    (r.flatMap fun t => natLe (elemBytes x.outF) t.1, r.foldl (fun f t => orF f t.2) 0)

/-- Scale-then-sum in member order (R368): each member's scale and values. -/
def scaleSum : List (Nat × List Nat) → List Nat × Nat
  | [] => ([], 0)
  | (a, v) :: ts =>
    let first := v.map fun y => fmul a y
    ts.foldl (fun (acc : List Nat × Nat) (t : Nat × List Nat) =>
      let z := zipOp (fun p q => ffma t.1 q p) acc.1 t.2
      (z.1, orF acc.2 z.2)) (first.map (·.1), first.foldl (fun f y => orF f y.2) 0)

/-- What the stage's program makes of the members' streams (R368, R369, R381): the bytes, the flags and the rows skipped.
DEDUCED: log 57. -/
def Group.program (x : Group) (g : Nat) : List Byte × Nat × Nat :=
  let raw := x.indexed.map fun e => (e.2, x.stream e.1 (x.expect e.2))
  let lanes := raw.map fun p => asLanes (x.streamF p.1) p.2
  if x.op = 1 then (raw.flatMap (·.2), 0, 0)
  else if x.op = 3 then
    let r := if x.isLeaf then
        raw.foldl (fun (a : List Nat × Nat × Nat) p => let t := segAdd x a.1 p.2; (t.1, orF a.2.1 t.2.1, a.2.2 + t.2.2))
          (List.replicate (x.segments * x.width) 0, 0, 0)
      else let c := combine fadd lanes; (c.1, c.2, 0)
    let o := x.roundOut g r.1
    (o.1, orF r.2.1 o.2, r.2.2)
  else if x.reduce = 3 then
    let vs := raw.map fun p => if p.1.child then (pairsOf p.2).map fun q => [q.1, q.2]
      else (asLanes x.inF p.2).map fun v => [v]
    let c := compensate vs x.elems
    let o := x.pairOut c.1
    (o.1, orF c.2 o.2, 0)
  else if x.reduce = 1 ∨ x.reduce = 2 then
    let op := if x.inF = 6 then (if x.reduce = 1 then imax else imin) else if x.reduce = 1 then fmax else fmin
    let c := combine op lanes
    if x.inF = 6 then (c.1.flatMap (natLe 4), c.2, 0)
    else
      let o := elemsOut x.inF (fun _ => none) c.1
      (o.1, orF c.2 o.2, 0)
  else if x.inF = 6 then let c := combine iadd lanes; (c.1.flatMap (natLe 4), c.2, 0)
  else if x.reduce = 4 then
    let terms : List (Nat × List Nat) := (raw.map fun p => p.1.scale).zip lanes
    let c := scaleSum terms
    let o := x.roundOut g c.1
    (o.1, orF c.2 o.2, 0)
  else
    let c := combine fadd lanes
    let o := x.roundOut g c.1
    (o.1, orF c.2 o.2, 0)

/-! ## Placement (R364, R365) -/

/-- Landing entry of a cell of the rectangle for an instance, by 64 × cluster + entry. -/
def landKey (cell inst : Nat) : Nat := 64 * cellCluster cell + (cellRow cell % 32 + 32 * (inst % 2))

/-- The cell of slice `sl`. -/
def Group.sliceCell (x : Group) (sl : Nat) : Nat :=
  let h := x.rowHi + 1 - x.rowLo
  256 * (x.rowLo + sl % max 1 h) + (x.colLo + sl / max 1 h)

/-- Bytes of a member's stream handed to the gateways, slice by slice, in CCLK cycle `c`. -/
def State.place (s : State) (x : Group) (inst m off : Nat) (bs : List Byte) (sched : Bool) (c : Nat) : State :=
  match x.members[m]? with
  | none => s
  | some mem =>
    let sb := x.slice * elemBytes (x.streamF mem)
    let first := off / max 1 sb
    let last := (off + bs.length - 1) / max 1 sb
    if bs.isEmpty then s
    else (List.range (last + 1 - first)).foldl (fun s i =>
      let sl := first + i
      let a := max off (sl * sb)
      let b := min (off + bs.length) ((sl + 1) * sb)
      let k := landKey (x.sliceCell sl) inst
      s.handDeposit (k / 64) (k % 64) (m * sb + a % max 1 sb) ((bs.drop (a - off)).take (b - a)) sched c) s

/-- The landing entries of an instance are armed (R358, R376). -/
def State.armGroup (s : State) (x : Group) (inst : Nat) : State :=
  let cells := (List.range (x.colHi + 1 - x.colLo)).flatMap fun c =>
    (List.range (x.rowHi + 1 - x.rowLo)).map fun r => 256 * (x.rowLo + r) + (x.colLo + c)
  cells.foldl (fun s c => s.arm (landKey c inst) s.cyc) s

/-- The buffers of parts are freed. -/
def State.freeParts (s : State) (ps : List Part) : State :=
  ps.foldl (fun s p => match p.held with | some h => s.release h | none => s) s

/-! ## Packets a stage sends (R359, R372, R373) -/

/-- Free bytes: what fills a flit beyond the data, which the spec does not state. -/
def State.freeBytes (s : State) : Nat → List Byte × State
  | 0 => ([], s)
  | n + 1 =>
    let r := s.freeWord
    let t := r.2.freeBytes n
    (BitVec.ofNat 8 r.1.toNat :: t.1, t.2)

/-- Bytes filled to whole flits. DEDUCED: log 59. -/
def State.toFlits (s : State) (bs : List Byte) : List Byte × State :=
  let r := s.freeBytes ((64 - bs.length % 64) % 64)
  (bs ++ r.1, r.2)

/-- A packet of a group: class 0 for CONTRIB, class 1 for RESULT, scheduled or not (R190); SEQ of its flow. -/
def State.groupPkt (s : State) (x : Group) (kind dst tag : Nat) (payload : List Byte) : Pkt × State :=
  let src := 0xC000 + s.ownSwitch
  let q := s.nextSeq src dst (!x.unsched)
  ({ ver := 1, kind := kind, sched := !x.unsched, vc := if kind = 3 then 1 else 0, ce := false, kflag := false,
     pav := x.pav, hops := s.hopInit, len := payload.length / 64 - 1, dst := dst, src := src, seq := q.1, tag := tag,
     payload := payload }, q.2)

/-- The egress a scheduled packet will take. DEDUCED: log 57. -/
def State.schedEgress (s : State) (dst : Nat) : Option Nat :=
  match s.lookup dst s.hopInit with
  | .local e _ => some e
  | .forward f => some (bitsOf f 25 16)
  | _ => none

/-- One packet of a group sent, a scheduled one with its header `lat` from now, and the next one behind it; an unscheduled one goes
through the core die's allocator port 13. DEDUCED: log 57. -/
def State.sendGroup (s : State) (g : Nat) (x : Group) (kind dst tag : Nat) (payload : List Byte) (lat : Nat) : Nat × State :=
  let f := s.toFlits payload
  let p := f.2.groupPkt x kind dst tag f.1
  let die := g / 2048
  if x.unsched then (lat, (p.2.originate die 13 p.1 false).2)
  else
    let wire := match p.2.schedEgress dst with | some e => p.2.wireTime e (84 + f.1.length + 8) | none => 0
    (lat + wire, p.2.originateSched die 13 p.1 lat false)

/-- TAG of a packet between stages. -/
def stageTag (g phase inst offKib : Nat) : Nat := g % 4096 * 2 ^ 20 + phase * 2 ^ 18 + inst % 4 * 2 ^ 16 + offKib % 65536

/-- When a scheduled stage's own result begins: 230 ns after the first header bit of the last contribution (R205); a send action
that fires after that instant sends as every scheduled send does, 170 ns on. DEDUCED: log 57. -/
def State.resultLat (s : State) (x : Group) : Nat :=
  let due := x.cur.foldl (fun m p => max m p.first) 0 + 1840
  if !x.unsched && decide (s.tim.now < due) then due - s.tim.now else schedLat

/-- A stream sent to another stage from byte `off` of it, in packets of up to 8 KiB (R361), from `lat` on; when it is out. -/
def State.sendStream (s : State) (g : Nat) (x : Group) (sw grp phase off lat : Nat) (bs : List Byte) : Nat × State :=
  (List.range ((bs.length + 8191) / 8192)).foldl (fun (a : Nat × State) i =>
    a.2.sendGroup g x 2 (0xC000 + sw) (stageTag grp phase x.step ((off + 8192 * i) / 1024)) ((bs.drop (8192 * i)).take 8192) a.1)
    (lat, s)

/-- RESULT bytes sent to an endpoint from byte `off` of its part, from `lat` on; when they are out. DEDUCED: log 57. -/
def State.sendResult (s : State) (g : Nat) (x : Group) (ep off lat : Nat) (bs : List Byte) : Nat × State :=
  let msg := (x.msgBase + x.step % 4) % 4096
  (List.range ((bs.length + 8191) / 8192)).foldl (fun (a : Nat × State) i =>
    a.2.sendGroup g x 3 ep (msg * 2 ^ 20 + (off + 8192 * i) / 64) ((bs.drop (8192 * i)).take 8192) a.1) (lat, s)

/-- The 64 B of a status record or a notice (R373). -/
def statusRec (status flags step rank sw bytes : Nat) : List Byte :=
  natBe 1 status ++ natBe 1 flags ++ natBe 6 step ++ natBe 2 rank ++ natBe 2 sw ++ natBe 4 bytes ++ List.replicate 48 0

/-- The status record of one endpoint member, `lat` from now. -/
def State.sendRecord (s : State) (g : Nat) (x : Group) (step : Nat) (m : Member) (rec : List Byte) (lat : Nat) : State :=
  if m.child then s
  else (s.sendGroup g x 3 m.id ((x.msgBase + 4 + step % 4) % 4096 * 2 ^ 20) rec lat).2

/-- The status records of a leaf for an instance that failed. -/
def State.failRecords (s : State) (g : Nat) (x : Group) (f : Failure) : State :=
  x.members.foldl (fun s m => s.sendRecord g x f.step m (statusRec f.status f.flags f.step f.rank f.switch 0) schedLat) s

/-- A failure notice to one neighbour. -/
def State.sendNotice (s : State) (g : Nat) (x : Group) (sw grp : Nat) (f : Failure) : State :=
  (s.sendGroup g x 2 (0xC000 + sw) (stageTag grp 2 f.step 0) (statusRec f.status 0 f.step f.rank f.switch 0) schedLat).2

/-- A notice to the parent, where it is not the one it came from (R377). -/
def State.noticeUp (s : State) (g : Nat) (x : Group) (f : Failure) : State :=
  match x.parent with
  | some (sw, grp) => if f.from_ = 1 then s else s.sendNotice g x sw grp f
  | none => s

/-- Notices to every child stage but the one it came from. -/
def State.noticeDown (s : State) (g : Nat) (x : Group) (f : Failure) : State :=
  x.indexed.foldl (fun s e => if e.2.child && f.from_ != 2 + e.1 then s.sendNotice g x e.2.id e.2.grp f else s) s

/-! ## Down stream (R371, R372) -/

/-- A byte range joined to ranges in rising order and apart. -/
def addRange (r : Nat × Nat) : List (Nat × Nat) → List (Nat × Nat)
  | [] => [r]
  | q :: qs =>
    if r.2 < q.1 then r :: q :: qs
    else if q.2 < r.1 then q :: addRange r qs
    else addRange (min r.1 q.1, max r.2 q.2) qs

/-- The bytes from `a` to `b` lie in one of the ranges. -/
def hasRange (rs : List (Nat × Nat)) (a b : Nat) : Bool := rs.any fun q => decide (q.1 ≤ a) && decide (b ≤ q.2)

/-- The bytes of the ranges. -/
def rangeBytes (rs : List (Nat × Nat)) : Nat := (rs.map fun q => q.2 - q.1).foldl (· + ·) 0

/-- The byte ranges of a member's part, `n` bytes from byte `a` of the stage's own down stream, that can go out: the units of
it, 1 KiB to a child stage and 64 B to an endpoint, that have come whole and have not been sent. -/
def partReady (unit a n : Nat) (got sent : List (Nat × Nat)) : List (Nat × Nat) :=
  ((List.range ((n + unit - 1) / unit)).filter fun i =>
    let lo := unit * i
    let hi := min n (unit * i + unit)
    hasRange got (a + lo) (a + hi) && !hasRange sent lo hi).foldl (fun l i => addRange (unit * i, min n (unit * i + unit)) l) []

/-- Of the down stream `bs`, what has come (`got`) and has not been sent goes out to every member, as it arrives, whatever
comes before it (R372), from `lat` on. DEDUCED: log 58. -/
def State.passDown (s : State) (g : Nat) (got : List (Nat × Nat)) (bs : List Byte) (lat : Nat) : State :=
  match s.grp g with
  | none => s
  | some x => x.indexed.foldl (fun s e =>
    match s.grp g with
    | none => s
    | some y =>
      let sh := y.share e.2.lo e.2.hi
      let a := sh.1 - y.own.1
      let old := tblGet (fun _ => []) y.sent e.1
      let new := partReady (if e.2.child then 1024 else 64) a (sh.2 - sh.1) got old
      let o := new.foldl (fun (o : Nat × State) r =>
        let piece := (bs.drop (a + r.1)).take (r.2 - r.1)
        if e.2.child then o.2.sendStream g y e.2.id e.2.grp 1 r.1 o.1 piece else o.2.sendResult g y e.2.id r.1 o.1 piece) (lat, s)
      o.2.setGrp g { y with sent := tblSet y.sent e.1 (new.foldl (fun l r => addRange r l) old)
                            outBy := if new.isEmpty then y.outBy else tblSet y.outBy e.1 (s.tim.clk + o.1) }) s

/-! ## Completion and failure (R374–R380) -/

/-- A COLLECTIVE completion (R573). -/
def State.colPost (s : State) (g : Nat) (x : Group) (status member rank sw : Nat) (ok : Bool) : State :=
  s.postData x.ring ⟨g, 4, status, 0, x.flags, member, x.step, s.curSlot, s.curCclk, rank * 2 ^ 16 + sw, 0⟩ ok

/-- The next instance becomes current (R362), with its packets. An unscheduled one that holds data starts at once (R363), and
a scheduled one whose start action has fired has its START. -/
def State.advance (s : State) (x : Group) : Group :=
  let y := { x with step := (x.step + 1) % 2 ^ 48, live := false, state := 0, prevEnd := s.curSlot, cur := x.nxt, nxt := [],
                    reached := [], result := none, flags := 0, downFired := false, down := x.nxtDown, got := x.nxtGot,
                    gotAt := x.nxtGotAt, nxtDown := [], nxtGot := [], nxtGotAt := 0, sent := [], outBy := [], nextStart := none }
  if y.unsched then
    (if y.cur.isEmpty && y.got.isEmpty then y else { y with live := true, state := 1, start := s.curSlot })
  else match x.nextStart with
    | some slot => { y with live := true, state := 1, start := slot }
    | none => y

/-- The stage completes its current instance (R374): its completion, its lags, its flags, its counters. What an unscheduled stage
has of the next instance's down stream goes on at once (R372). -/
def State.colComplete (s : State) (g : Nat) (x : Group) (status member rank sw : Nat) (ok : Bool) : State :=
  let x := s.takeLag x s.tim.now
  let s := s.colPost g x status member rank sw ok
  let s := s.orFlags aCOL_FPFLAGS x.flags
  let s := if status = 0 then s.bump aCOL_INST_OK 1 else s.bump aCOL_INST_FAIL 1
  let s := if status = 1 then s.colEvt 0 else if status = 2 then s.colEvt 1 else s
  let y := s.advance { x with lastStatus := status }
  let s := s.setGrp g y
  if y.unsched && !y.got.isEmpty then s.passDown g y.got (memRead y.down 0 y.downBytes) schedLat else s

/-- The parts of an unscheduled instance that is complete by now: they are deposited in ascending member index and offset, which
fires the program, and their buffers are freed (R365). -/
def State.colTrigger (s : State) (g : Nat) : State :=
  match s.grp g with
  | none => s
  | some x =>
    if !(x.unsched && x.live && decide (x.state = 1) && x.ripe s.tim.now) then s
    else
      let x := s.takeLag x s.tim.now
      let ordered := x.indexed.flatMap fun e =>
        (x.cur.filter fun p => p.m == e.1).mergeSort fun p q => decide (p.off ≤ q.off)
      let s := ordered.foldl (fun s p => s.place x x.step p.m p.off p.bytes false s.cyc) s
      let s := s.freeParts x.cur
      let x := { x with cur := x.cur.map fun (p : Part) => { p with held := none } }
      let r := x.program g
      let s := if r.2.2 = 0 then s else (s.bump aCOL_SEG_RANGE r.2.2).colEvt 4
      s.setGrp g { x with state := 2, result := some r.1, flags := orF x.flags r.2.1 }

/-- What a failing stage sends at once: an unscheduled group its notices, to every neighbour but the one its own came from; a root
whose down-send action waited for its program its notices down; a leaf its records, where no send action is still to carry them or
its down stream was lost (R373, R377, R378, R379). DEDUCED: log 58. -/
def State.colTell (s : State) (g : Nat) (x : Group) (f : Failure) : State :=
  let s := if x.unsched then (s.noticeUp g x f).noticeDown g x f
    else if x.isRoot && x.downFired && decide (x.state = 2) then s.noticeDown g x f else s
  if x.isLeaf && (f.status == 6 || !f.up && !f.down) then s.failRecords g x f else s

/-- A stage fails (R376, R377): buffers are freed, entries armed, its neighbours told, and the instance completes. -/
def State.colFail (s : State) (g : Nat) (x : Group) (f : Failure) : State :=
  let x := s.takeLag x s.tim.now
  let s := (s.freeParts x.cur).armGroup x x.step
  let up := !x.unsched && x.parent.isSome && decide (x.state ≠ 4)
  let down := !x.unsched && !x.downFired
  let f := { f with flags := x.flags, launch := !x.unsched && decide (x.state ≤ 1), up := up, down := down
                    owed := x.isLeaf && f.status != 6 && (up || down) }
  let x := { x with lastFail := f.status * 2 ^ 28 + f.member % 64 * 2 ^ 16 + f.rank % 16384
                    lateMap := f.late
                    fails := if f.launch || f.up || f.down then x.fails ++ [f] else x.fails
                    early := if x.live || x.unsched then x.early else x.early + 1 }
  (s.colTell g x f).colComplete g x f.status f.member f.rank f.switch (s.ringTakes x.ring)

/-- The stage's failure for a cause of its own; `late` names the members that were late. -/
def State.colFailOwn (s : State) (g : Nat) (x : Group) (status member rank late : Nat) : State :=
  s.colFail g x ⟨status, x.step, member, rank, s.ownSwitch, 0, 0, late, false, false, false, false⟩

/-- A failure that no member decided: the member and the rank it names are open. DEDUCED: log 59. -/
def State.colFailFree (s : State) (g : Nat) (x : Group) (status : Nat) : State :=
  let a := s.freeWord
  let b := a.2.freeWord
  b.2.colFailOwn g x status (a.1.toNat % 64) (b.1.toNat % 16384) 0

/-- An instance ends whose start action will not come: it is not counted as ended before it. -/
def State.unstarted (s : State) (g : Nat) (x : Group) : State :=
  if x.live then s
  else match s.grp g with
    | some y => s.setGrp g { y with early := y.early - 1 }
    | none => s

/-- An instance whose actions of the KINDs `ks` were not fired: they are not still to come. -/
def Group.without (x : Group) (ks : List Nat) : Group :=
  { x with state := if ks.contains 0xA then 4 else if ks.contains 9 then max 2 x.state else x.state
           downFired := x.downFired || ks.contains 0xB }

/-- What waited for the instance that is now current takes effect: a notice that came early, or a stage action of it that was
not fired. DEDUCED: log 58. DESIGN CHOICE: log 112. -/
def State.colEarly (s : State) (g : Nat) : State :=
  match s.grp g with
  | some x =>
    let y := { x.without (x.nextMiss.map (·.2)) with nxtFail := none, nextMiss := [] }
    let end_ := fun (s : State) => if x.nextMiss.any fun m => m.2 == 8 then s.unstarted g x else s
    match x.nxtFail, x.nextMiss with
    | some f, _ => if f.step ≠ x.step then s else end_ (s.colFail g y f)
    | none, (st, _) :: _ => end_ (s.colFailFree g y st)
    | none, [] => s
  | none => s

/-- Members late at fabric time `t` (R376, R382): the lags, and the failure that names the lowest, with the map. -/
def State.colLate (s : State) (g : Nat) (x : Group) (t deadline : Nat) : State :=
  let x := s.takeLag x t
  match x.short t with
  | [] => s
  | (m, e) :: rest =>
    let all := (m, e) :: rest
    let map := all.foldl (fun a p => a ||| 2 ^ p.1) 0
    let x := all.foldl (fun x p => x.addLag p.1 (min 65535 (deadline - x.start)) 15) x
    (s.colFailOwn g x 1 m e.lo map).colEarly g

/-! ## Packets a stage receives (R360, R366) -/

/-- A discard of R360. -/
def State.colDrop (s : State) (reg : Nat) (held : Option Held) : State :=
  let s := (s.bump reg 1).colEvt 3
  match held with | some h => s.release h | none => s

/-- The member a sender is, by index. -/
def Group.sender (x : Group) (src : Nat) : Option Nat :=
  (x.indexed.find? fun e => if e.2.child then decide (src = 0xC000 + e.2.id) else decide (src = e.2.id)).map (·.1)

/-- The sender is the parent. -/
def Group.fromParent (x : Group) (src : Nat) : Bool :=
  match x.parent with | some (sw, _) => decide (src = 0xC000 + sw) | none => false

/-- The first cause of R360 that a packet meets: the counter to raise; none where it is accepted. -/
def State.colCause (s : State) (p : Pkt) : Option Nat :=
  match s.grp (bitsOf p.tag 31 20) with
  | none => some aCOL_DROP_NOGROUP
  | some x =>
    let ph := bitsOf p.tag 19 18
    let known := if ph = 0 then (x.sender p.src).isSome else if ph = 1 then x.fromParent p.src
      else if ph = 2 then (x.sender p.src).isSome || x.fromParent p.src else false
    let inst := bitsOf p.tag 17 16
    if p.sched == x.unsched then some aCOL_DROP_CLASS
    else if p.pav ≠ x.pav || !known then some aCOL_DROP_MEMBER
    else if inst ≠ x.step % 4 ∧ inst ≠ (x.step + 1) % 4 then some aCOL_DROP_STALE
    else none

/-- The first bytes of an unscheduled instance start it (R363). DEDUCED: log 58. -/
def State.begin_ (s : State) (x : Group) : Group :=
  if x.unsched && !x.live then { x with live := true, state := 1, start := max s.curSlot x.prevEnd } else x

/-- A contribution of member `m`, its first header bit here at fabric time `first`, accepted at `at_`, and at the gateways at `gw`
(R362–R366). -/
def State.contrib (s : State) (g : Nat) (x : Group) (m : Nat) (p : Pkt) (held : Option Held) (first at_ gw : Nat) : State :=
  let off := 1024 * bitsOf p.tag 15 0
  let now := bitsOf p.tag 17 16 = x.step % 4
  let ps := if now then x.cur else x.nxt
  let have_ := ((ps.filter fun q => q.m == m).map fun q => q.bytes.length).foldl (· + ·) 0
  let exp := match x.members[m]? with | some e => x.expect e | none => 0
  let n := min p.payload.length (exp - have_)
  let excess := p.payload.length - n
  let s := if excess = 0 then s else (s.bump aCOL_OVER excess).colEvt 5
  let bs := p.payload.take n
  let keep := x.unsched && decide (n ≠ 0)
  let s := if keep then s else match held with | some h => s.release h | none => s
  let part : Part := ⟨m, off, bs, if keep then held else none, at_, first⟩
  let s := if x.unsched then s else s.place x (if now then x.step else x.step + 1) m off bs true ((gw + 3) / 4)
  if now then
    let x := s.begin_ x
    s.setGrp g { x with cur := addPart part x.cur }
  else s.setGrp g { x with nxt := addPart part x.nxt }

/-- Bytes of the down stream accepted at fabric time `at_` (R372): those of the next instance are kept apart (R362); an unscheduled stage, or one
whose COL_DOWN has fired, passes the others on as they arrive. -/
def State.contribDown (s : State) (g : Nat) (x : Group) (p : Pkt) (held : Option Held) (at_ : Nat) : State :=
  let s := match held with | some h => s.release h | none => s
  let off := 1024 * bitsOf p.tag 15 0
  let n := min p.payload.length (x.downBytes - off)
  let excess := p.payload.length - n
  let s := if excess = 0 then s else (s.bump aCOL_OVER excess).colEvt 5
  let bs := p.payload.take n
  let add := fun (l : List (Nat × Nat)) => if n = 0 then l else addRange (off, off + n) l
  let by_ := fun (l : List (Nat × Nat)) (t : Nat) => if rangeBytes l < rangeBytes (add l) then max t at_ else t
  if bitsOf p.tag 17 16 ≠ x.step % 4 then
    s.setGrp g { x with nxtDown := memWrite x.nxtDown off bs, nxtGot := add x.nxtGot, nxtGotAt := by_ x.nxtGot x.nxtGotAt }
  else
    let x := s.begin_ x
    let x := { x with down := memWrite x.down off bs, got := add x.got, gotAt := by_ x.got x.gotAt }
    let s := s.setGrp g x
    if x.unsched || x.downFired then s.passDown g x.got (memRead x.down 0 x.downBytes) schedLat else s

/-- A failure notice accepted (R377): the sending neighbour is named; from the parent, no member is, and the field is open.
One for the next instance waits for it. DEDUCED: log 59. -/
def State.notice (s : State) (g : Nat) (x : Group) (p : Pkt) (held : Option Held) : State :=
  let s := match held with | some h => s.release h | none => s
  let s := s.colEvt 2
  let (m, from_, s) := match x.sender p.src with
    | some m => (m, 2 + m, s)
    | none => let r := s.freeWord; (r.1.toNat % 64, 1, r.2)
  let now := bitsOf p.tag 17 16 = x.step % 4
  let f : Failure := ⟨beNat (p.payload.take 1), if now then x.step else (x.step + 1) % 2 ^ 48, m, beNat ((p.payload.drop 8).take 2),
    beNat ((p.payload.drop 10).take 2), from_, 0, 0, false, false, false, false⟩
  if now then (s.colFail g x f).colEarly g else s.setGrp g { x with nxtFail := some f }

/-- A group packet for this switch (R360): a CONTRIB of phase 0, 1 or 2, or a SEGSUM. An unscheduled instance that was complete
before it came is deposited first (R365, R366). -/
def State.groupRx (s : State) (p : Pkt) (held : Option Held) (first at_ gw : Nat) : State :=
  let g := bitsOf p.tag 31 20
  let s := s.colTrigger g
  match s.colCause p, s.grp g with
  | some reg, _ => s.colDrop reg held
  | none, none => s
  | none, some x =>
    let ph := bitsOf p.tag 19 18
    if ph = 0 then
      match x.sender p.src with
      | some m => s.contrib g x m p held first at_ gw
      | none => s
    else if ph = 1 then s.contribDown g x p held at_
    else s.notice g x p held

/-! ## Deadlines and completion -/

/-- COL_DEADLINE (R376): slot START + DEADLINE begins on an unscheduled stage that has not been triggered; one whose counts are
complete by then is. -/
def execColDeadline (g : Nat) (s : State) : Host.Outcome State Fault Refusal :=
  .next (match s.grp g with
    | some x =>
      if x.unsched && x.live && decide (x.state = 1) then
        let t := (x.start + x.deadline) * slotUnits
        let s := s.advTo t
        if (x.short t).isEmpty then s.colTrigger g else s.colLate g x t (x.start + x.deadline)
      else s
    | none => s)

/-- The whole down stream has been received and passed on. -/
def Group.downDone (x : Group) : Bool :=
  x.indexed.all fun e =>
    let sh := x.share e.2.lo e.2.hi
    decide (sh.2 ≤ sh.1) || hasRange (tblGet (fun _ => []) x.sent e.1) 0 (sh.2 - sh.1)

/-- The stage's whole down stream has been accepted by the start of slot START + DOWN_DEADLINE (R378). -/
def Group.downInTime (x : Group) : Bool :=
  decide (x.downBytes ≤ rangeBytes x.got) && decide (x.gotAt ≤ (x.start + x.downDeadline) * slotUnits)

/-- COL_DOWN_DEADLINE (R378): slot START + DOWN_DEADLINE begins on a non-root stage that lacks its down stream: it completes
RESULT_LOST, and a leaf sends its status records. -/
def execColDownDeadline (g : Nat) (s : State) : Host.Outcome State Fault Refusal :=
  .next (match s.grp g with
    | some x =>
      if x.live && !x.isRoot && !x.downInTime then
        ((s.advTo ((x.start + x.downDeadline) * slotUnits)).colFailFree g x 6).colEarly g
      else s
    | none => s)

/-- The records of a leaf for an instance that succeeded, each behind its endpoint's last RESULT byte (R373). -/
def State.okRecords (s : State) (g : Nat) (x : Group) : State :=
  x.indexed.foldl (fun s e =>
    let sh := x.share e.2.lo e.2.hi
    s.sendRecord g x x.step e.2 (statusRec 0 x.flags x.step 0xFFFF 0xFFFF (sh.2 - sh.1))
      (max schedLat (tblGet (fun _ => 0) x.outBy e.1 - s.tim.clk))) s

/-- The stage's program has not ended: a launch of it runs, or has yet to start behind its deposits (R365, R379). -/
def State.stageBusy (s : State) (g : Nat) (x : Group) : Bool :=
  (s.cel.runs.any fun r => r.stage == some (g, x.step)) || x.unsched && (
    (s.cel.pend.any fun p => x.lands p.1 x.step) || (s.cel.queue.any fun p => x.lands p.1 x.step)
    || s.cel.deps.any fun d => x.lands (64 * d.cluster + d.entry) x.step)

/-- The result goes down from the root (R379). -/
def State.rootDown (s : State) (g : Nat) (x : Group) (bs : List Byte) : State :=
  (s.setGrp g { x with state := 3, downFired := true }).passDown g [(0, x.downBytes)] bs (s.resultLat x)

/-- The partial goes up, and the stage awaits its down stream. -/
def State.stageUp (s : State) (g : Nat) (x : Group) (bs : List Byte) : State :=
  match x.parent with
  | some (sw, grp) => (s.sendStream g x sw grp 0 0 (s.resultLat x) bs).2.setGrp g { x with state := 4 }
  | none => s

/-- COL_STAGE_DONE (R375): the next thing a stage finishes. An unscheduled stage whose counts are complete has its program
fired by their deposit (R365); one whose program has ended sends its stream, up or, at the root, down, and so does a scheduled root
whose down-send action came first (R379); one whose program was refused fails; and a stage that has sent and passed on everything
completes OK, a leaf with its status records. DEDUCED: log 58. DESIGN CHOICE: log 116. -/
def execColStageDone (g : Nat) (ok : Bool) (s : State) : Host.Outcome State Fault Refusal :=
  .next (match s.grp g with
    | none => s
    | some x =>
      if !x.live then s
      else if x.unsched && decide (x.state = 1) then
        (match x.fullAt with
         | some t => if x.ripe t then (s.advTo t).colTrigger g else s
         | none => s)
      else if decide (x.state = 2) && (x.unsched || x.isRoot && x.downFired) then
        if s.stageBusy g x then s
        else
          (match x.result with
           | some bs => if x.isRoot then s.rootDown g x bs else s.stageUp g x bs
           | none => (s.colFailFree g x 3).colEarly g)
      else if (x.state = 3 ∨ x.state = 4) && x.downDone && (x.isRoot || x.downInTime) then
        let s := s.advTo x.gotAt
        let s := if x.isLeaf then s.okRecords g x else s
        (s.colComplete g x 0 0 0xFFFF 0xFFFF ok).colEarly g
      else s)

/-- COL_LAG_CLR (R382): the viewed group's lag store is cleared. -/
def execColLagClr (path : Path) (v : Word) (s : State) : Host.Outcome State Fault Refusal :=
  .next (if s.mayWrite path aCOL_LAG_CLR && bitOf v.toNat 0 then
      let g := s.fld aCOL_VIEW 11 0
      match s.grp g with
      | some x => s.setGrp g { s.takeLag x s.tim.now with lag := [], hist := [] }
      | none => s
    else s)

/-! ## Stage actions of a scheduled group (R363, R376, R377, R379) -/

/-- A failed instance still awaits the stage action of this KIND. -/
def Failure.awaits (f : Failure) (kind : Nat) : Bool := if kind = 9 then f.launch else if kind = 0xA then f.up else f.down

/-- The stage action of this KIND has fired, or will not. -/
def Failure.spent (f : Failure) (kind : Nat) : Failure :=
  if kind = 9 then { f with launch := false } else if kind = 0xA then { f with up := false } else { f with down := false }

/-- The oldest failed instance whose action of this KIND is still to come: the next one that comes is its (R377). -/
def Group.unsent (x : Group) (kind : Nat) : Option Failure := x.fails.find? (·.awaits kind)

/-- What is known of a failed instance replaced, and forgotten once nothing of it is still to come. -/
def Group.settle (x : Group) (f : Failure) : Group :=
  { x with fails := (x.fails.map fun e => if e.step = f.step then f else e).filter fun e => e.launch || e.up || e.down }

/-- A stage action of a failed instance is spent; a leaf's records go out with the last send action that could carry them. -/
def State.spend (s : State) (g : Nat) (x : Group) (f : Failure) (kind : Nat) : State :=
  let f := f.spent kind
  let now := f.owed && !f.up && !f.down
  (if now then s.failRecords g x f else s).setGrp g (x.settle { f with owed := f.owed && !now })

/-- A send action of an instance that failed: the notice in the place of its data, and the records a leaf still owes.
DEDUCED: log 58. -/
def State.sendFailed (s : State) (g : Nat) (x : Group) (f : Failure) (kind : Nat) : State :=
  let s := if kind = 0xA then s.noticeUp g x f else s.noticeDown g x f
  let s := if f.owed then s.failRecords g x f else s
  s.setGrp g (x.settle { f.spent kind with owed := false })

/-- The status records that a leaf still owes for instances that failed, where no send action carried them. -/
def State.sendOwed (s : State) (g : Nat) (x : Group) : State :=
  x.fails.foldl (fun s f => if f.owed then s.failRecords g x f else s) s

/-- COL_START (R363): the next instance starts in the action's slot; an instance that a notice has already ended starts
nothing, and while one is in progress the START is the next one's. DESIGN CHOICE: log 112. -/
def State.colStart (s : State) (g slot : Nat) : State :=
  match s.grp g with
  | none => s
  | some x =>
    if x.live then (if x.nextStart.isSome then s else s.setGrp g { x with nextStart := some slot })
    else if 0 < x.early then s.setGrp g { x with early := x.early - 1 }
    else
      (s.setGrp g { x with live := true, state := 1, start := slot }).colEarly g

/-- The launches that the landing entries of a stage's cells name for an instance, each once. -/
def State.stageLaunches (s : State) (x : Group) : List Launch :=
  let cells := (List.range (x.colHi + 1 - x.colLo)).flatMap fun c =>
    (List.range (x.rowHi + 1 - x.rowLo)).map fun r => 256 * (x.rowLo + r) + (x.colLo + c)
  cells.foldl (fun l c => match s.landing (landKey c x.step) with
    | some e => if l.contains e.launch then l else l ++ [e.launch]
    | none => l) []

/-- The stage program started at cycle `fire`: the launches of its cells, and whether R316 refused none of them.
DEDUCED: log 57. -/
def State.startStage (s : State) (g : Nat) (x : Group) (iter fire : Nat) : Bool × State :=
  (s.stageLaunches x).foldl (fun (a : Bool × State) l =>
    match a.2.launchBad l true with
    | some sub => (false, a.2.refuseLaunch l sub)
    | none => (a.1, a.2.startLaunch l iter fire true none (some (g, x.step)))) (true, s)

/-- COL_LAUNCH (R376), fired at cycle `fire`: every count complete at the start of that cycle starts the program and arms the
landing entries (R345); a short one ends the instance. One for an instance that has completed starts no cell (R377). A program
that R316 refuses ends the instance too. DESIGN CHOICE: log 116. -/
def State.colLaunch (s : State) (g iter fire : Nat) : State :=
  match s.grp g with
  | none => s
  | some x =>
    match x.unsent 9 with
    | some f => s.spend g x f 9
    | none =>
      if !x.live || decide (x.state ≠ 1) then s
      else if (x.short s.tim.now).isEmpty then
        let x := s.takeLag x s.tim.now
        let r := x.program g
        let s := if r.2.2 = 0 then s else (s.bump aCOL_SEG_RANGE r.2.2).colEvt 4
        let o := s.startStage g x iter fire
        let s := o.2.armGroup x x.step
        let x := { x with state := 2, result := some r.1, flags := orF x.flags r.2.1 }
        if o.1 then s.setGrp g x else (s.colFailFree g x 3).colEarly g
      else s.colLate g (x.without [9]) s.tim.now s.curSlot

/-- COL_UP (R377): the up stream, or the notice in its place. -/
def State.colUp (s : State) (g : Nat) : State :=
  match s.grp g with
  | none => s
  | some x =>
    match x.unsent 0xA, x.result with
    | some f, _ => s.sendFailed g x f 0xA
    | none, some bs => if x.live && decide (x.state = 2) then s.stageUp g x bs else s
    | none, none => s

/-- COL_DOWN (R372, R379): the root's result, which waits for the end of its program where that still runs, what has come of the
down stream, or notices in their place. DEDUCED: log 58. -/
def State.colDown (s : State) (g : Nat) : State :=
  match s.grp g with
  | none => s
  | some x =>
    match x.unsent 0xB, x.result with
    | some f, _ => s.sendFailed g x f 0xB
    | none, some bs =>
      if !x.live then s
      else if !x.isRoot then (s.setGrp g { x with downFired := true }).passDown g x.got (memRead x.down 0 x.downBytes) schedLat
      else if x.state ≠ 2 then s
      else if s.stageBusy g x then s.setGrp g { x with downFired := true }
      else s.rootDown g x bs
    | none, none => s

/-- The current instance still awaits a stage action of this kind. -/
def Group.awaits (x : Group) (kind : Nat) : Bool :=
  if kind = 9 then x.state == 1 else if kind = 0xA then decide (x.state ≤ 2) else !x.downFired

/-- A stage action that did not fire (R61, R94, R101): the instance it belongs to completes with that status; a start action's
is the one it would have started. DESIGN CHOICE: log 112. -/
def State.colMissed (s : State) (g kind status : Nat) : State :=
  match s.grp g with
  | none => s
  | some x =>
    match (if kind = 8 then none else x.unsent kind) with
    | some f => s.spend g x f kind
    | none =>
      if x.live then
        (if kind ≠ 8 && x.awaits kind then (s.colFailFree g (x.without [kind]) status).colEarly g
         else if kind = 8 || x.nextStart.isSome then s.setGrp g { x with nextMiss := x.nextMiss ++ [(status, kind)] }
         else s)
      else if kind = 8 ∧ x.early = 0 then ((s.colFailFree g x status).unstarted g x).colEarly g
      else if kind = 8 then s.setGrp g { x with early := x.early - 1 }
      else s

/-- Instances in progress when the schedule ends complete with LAUNCH_LATE (R517), and the status records that leaves still owe
go out. -/
def State.colStopAll (s : State) : State :=
  s.groups.foldl (fun s e => match s.grp e.1 with
    | some x =>
      if x.unsched then s
      else
        let s := if x.live then s.colFailFree e.1 { x with nextStart := none, nextMiss := [] } 4 else s
        match s.grp e.1 with
        | some y => (s.sendOwed e.1 y).setGrp e.1 { y with fails := [] }
        | none => s
    | none => s) s

/-- A fault in a stage program: the launch that ended in it was that of a group's current instance (R350, R374). -/
def State.colCellFault (s : State) (r : Run) : State :=
  match r.stage with
  | none => s
  | some (g, step) =>
    match s.grp g with
    | some x => if x.live && decide (x.step = step) && decide (2 ≤ x.state) then (s.colFailFree g x 3).colEarly g else s
    | none => s

/-- LAUNCH_FAULT_HALT (R350): the other cells of a launch that faulted halt, and it completes CELL_FAULT, and so does the group
instance whose program it is. -/
def execLaunchFaultHalt (run : Nat) (ok : Bool) (s : State) : Host.Outcome State Fault Refusal :=
  .next (match s.runOf run with
    | some r => if r.fault.isSome then (s.haltLaunch r ok).colCellFault r else s
    | none => s)

end Sys2Proof.Machine
end

