-- ==== Sys2Proof/Machine/GroupCmds.lean ====
section
/-! DEFINITION. The group-create and group-destroy commands (R353–R358, R364, R367, R569). -/

namespace Sys2Proof.Machine

/-- `n` little-endian bytes of a block from byte `a`. -/
def leAt (b : List Byte) (a n : Nat) : Nat := leNat ((b.drop a).take n)

/-- Member record `m` of a parameter block (R569). -/
def memberAt (b : List Byte) (m : Nat) : Member :=
  let o := 128 + 32 * m
  { child := leAt b o 1 == 1, id := leAt b (o + 2) 2, grp := leAt b (o + 4) 2, lo := leAt b (o + 6) 2, hi := leAt b (o + 8) 2,
    count := leAt b (o + 12) 4, scale := leAt b (o + 16) 4 }

/-- The group entry a parameter block describes (R569). -/
def groupOf (b : List Byte) : Group :=
  { pav := leAt b 3 1, unsched := leAt b 2 1 == 1, op := leAt b 0 1, reduce := leAt b 1 1, inF := leAt b 4 1,
    outF := leAt b 5 1, rm := leAt b 6 1, bcast := leAt b 7 1 == 1, seed := leAt b 8 8, elems := leAt b 16 4,
    n := leAt b 20 2 + 1, rankLo := leAt b 22 2, rankHi := leAt b 24 2, level := leAt b 26 1,
    parent := if leAt b 28 2 = 0xFFFF then none else some (leAt b 28 2, leAt b 30 2), srcRank := leAt b 32 2,
    slice := leAt b 34 2, segments := leAt b 36 4, width := leAt b 40 2, rows := leAt b 44 4, rowLo := leAt b 48 1,
    rowHi := leAt b 49 1, colLo := leAt b 50 1, colHi := leAt b 51 1, deadline := leAt b 52 2, downDeadline := leAt b 54 2,
    msgBase := leAt b 62 2, ring := leAt b 64 2, members := (List.range (leAt b 27 1 + 1)).map (memberAt b),
    step := leAt b 56 6, live := false, start := 0, state := 0, early := 0, nextStart := none, nextMiss := [], prevEnd := 0, cur := [], nxt := [], nxtFail := none,
    reached := [], result := none, flags := 0, downFired := false, down := [], got := [], gotAt := 0, nxtDown := [], nxtGot := [],
    nxtGotAt := 0, sent := [], outBy := [], fails := [], lastStatus := 0, lateMap := 0, lastFail := 0, lag := [], hist := [] }

/-- A reserved byte of the block is not 0 (R569). -/
def blockRsv (b : List Byte) : Bool :=
  leAt b 42 2 != 0 || leAt b 66 62 != 0
    || (List.range (leAt b 27 1 + 1)).any fun m =>
      let o := 128 + 32 * m
      leAt b (o + 1) 1 != 0 || leAt b (o + 10) 2 != 0 || leAt b (o + 20) 12 != 0

/-- A field holds a value R354 and R569 do not list, and no status of R357 speaks of it (R566). DEDUCED: log 60. -/
def blockBad (b : List Byte) (x : Group) : Bool :=
  decide (3 < x.op) || decide (4 < x.reduce) || decide (1 < leAt b 2 1) || decide (63 < x.pav) || decide (12 < x.inF)
    || decide (12 < x.outF) || decide (1 < x.rm) || decide (1 < leAt b 7 1) || decide (16777216 < x.elems) || decide (7 < x.level)
    || !([32, 64, 128, 256].contains x.slice) || decide (x.deadline = 0) || decide (x.downDeadline = 0)
    || decide (4095 < x.msgBase) || decide (16383 < x.srcRank)
    || (x.op == 3 && (!([16, 32, 64, 128, 256].contains x.width) || decide (x.segments = 0) || decide (1048576 < x.segments)
        || decide (x.rows = 0) || decide (1048576 < x.rows)))
    || (List.range x.members.length).any fun m => decide (1 < leAt b (128 + 32 * m) 1)

/-- The element count a member should list for each of its ranks (R357). -/
def Group.perRank (x : Group) (m : Member) : Nat :=
  if x.op = 3 then x.rows * x.width
  else if x.bcast && x.op == 1 then (if m.lo ≤ x.srcRank ∧ x.srcRank ≤ m.hi then x.elems else 0)
  else x.elems

/-- The members cover RANK_LO to RANK_HI in order (R355). -/
def ranksFrom : List Member → Nat → Nat → Bool
  | [], next, hi => next == hi + 1
  | m :: ms, next, hi => m.lo == next && decide (m.lo ≤ m.hi) && (m.child || m.lo == m.hi) && ranksFrom ms (m.hi + 1) hi

/-- N, NLOCAL and the ranks hold with R354 and R355. -/
def Group.membersOk (x : Group) : Bool :=
  decide (x.n ≤ 16384) && decide (x.members.length ≤ 64) && decide (x.rankHi < x.n) && ranksFrom x.members x.rankLo x.rankHi
    && (x.members.all (fun m => m.child) || x.members.all (fun m => !m.child))
    && (!x.isRoot || (x.rankLo == 0 && x.rankHi + 1 == x.n))

/-- The combination stands in the format table (R367). -/
def Group.formatOk (x : Group) : Bool :=
  let fl := [0, 1, 2]
  let sr := x.rm == 0 || x.outF == 1 || x.outF == 2
  sr && (if x.op = 1 then decide (x.inF < 12) && x.inF != 7 && x.outF == x.inF
    else if x.op = 3 then fl.contains x.inF && fl.contains x.outF
    else if x.reduce = 3 then fl.contains x.inF && [12, 0, 8].contains x.outF
    else if x.reduce = 1 ∨ x.reduce = 2 then [0, 1, 2, 6].contains x.inF && x.outF == x.inF
    else if x.inF = 6 then x.reduce == 0 && x.outF == 6
    else fl.contains x.inF && fl.contains x.outF)

/-- Bytes of SLICE elements of a member's stream. -/
def Group.sliceBytes (x : Group) (m : Member) : Nat := x.slice * elemBytes (x.streamF m)

/-- The sizes hold: streams and results within 64 MiB, and the placement of R364 within the rectangle and its landing entries.
DEDUCED: log 60. -/
def Group.sizeOk (x : Group) : Bool :=
  let cells := (x.rowHi + 1 - x.rowLo) * (x.colHi + 1 - x.colLo)
  x.members.all fun m =>
    let e := x.expect m
    let sh := x.share m.lo m.hi
    decide (e ≤ 64 * 2 ^ 20) && decide (sh.2 - sh.1 ≤ 64 * 2 ^ 20) && decide (x.members.length * x.sliceBytes m ≤ 8192)
      && decide ((e + x.sliceBytes m - 1) / x.sliceBytes m ≤ cells)

/-- Clusters of the rectangle: whole ones, by 4 × column + row / 32. -/
def Group.clusters (x : Group) : List Nat :=
  (List.range (x.colHi + 1 - x.colLo)).flatMap fun c =>
    (List.range (x.rowHi / 32 + 1 - x.rowLo / 32)).map fun r => 4 * (x.colLo + c) + (x.rowLo / 32 + r)

/-- The rectangle is whole clusters of the serving die, owned, of one column mode, and shared with no other group (R357). -/
def State.cellsOk (s : State) (g : Nat) (x : Group) : Bool :=
  let cols := (List.range (x.colHi + 1 - x.colLo)).map (x.colLo + ·)
  decide (x.rowLo % 32 = 0) && decide (x.rowHi % 32 = 31) && decide (x.rowLo ≤ x.rowHi) && decide (x.rowHi < 128)
    && decide (x.colLo ≤ x.colHi) && decide (x.colLo / 128 = g / 2048) && decide (x.colHi / 128 = g / 2048)
    && (cols.all fun v => s.columnPav v == some x.pav && s.colMode v == x.unsched)
    && !(s.groups.any fun e => e.2.clusters.any fun c => x.clusters.contains c)

/-- A child of this switch has a lower LEVEL; of another switch this one knows nothing. DEDUCED: log 58. -/
def State.levelOk (s : State) (x : Group) : Bool :=
  x.members.all fun m => !m.child || m.id != s.ownSwitch
    || (match s.grp m.grp with | some y => decide (y.level < x.level) | none => true)

/-- The issuing function is bound to PAVILION, which owns the entry and the ring, and no endpoint member is another's.
DEDUCED: log 60. -/
def State.groupPavOk (s : State) (fn g : Nat) (x : Group) : Bool :=
  s.fnPav fn == some x.pav && s.ownsGroup x.pav g && s.ownsRing x.pav x.ring
    && x.members.all fun m => m.child ||
      (let e := s.rteGet 0 m.id
       !bitOf e 31 || bitsOf e 29 24 == x.pav)

/-- The first status of R357 that fails, 0 where none does. DEDUCED: log 60. -/
def State.groupStatus (s : State) (fn g : Nat) (x : Group) : Nat :=
  if (s.grp g).isSome then 1
  else if !s.groupPavOk fn g x then 2
  else if decide (x.elems = 0) || decide (x.elems % 256 ≠ 0) || (x.op == 3 && decide (x.rows * x.width % 256 ≠ 0)) then 3
  else if x.members.any fun m => m.count != x.perRank m then 4
  else if !x.membersOk then 5
  else if !s.levelOk x then 6
  else if !x.formatOk then 7
  else if !x.sizeOk then 8
  else if !s.cellsOk g x then 9
  else 0

/-- COL_GROUPS_USED as the table stands. -/
def State.groupsUsed (s : State) : State := s.setReg aCOL_GROUPS_USED (BitVec.ofNat 32 s.groups.length)

/-- GROUP_CREATE (R357, R569): `blkOk` is whether PCIe served the read of the block. -/
def execGroupCreate (d : Desc) (g : Nat) (blk : List Byte) (blkOk : Bool) (s : State) : Host.Outcome State Fault Refusal :=
  .next (s.hostCmd d ((s.fnPav d.fn).isSome) fun s =>
    if !blkOk then (s.sqStop d.fn d.sq).cmdEnd d 0xF2 0 0
    else
      let x := groupOf blk
      if 4095 < g then s.cmdEnd d 0xF0 0 0
      else if blk.length < 128 ∨ blk.length ≠ 128 + 32 * x.members.length then s.cmdEnd d 5 0 0
      else if blockRsv blk || blockBad blk x then s.cmdEnd d 0xF0 0 0
      else
        let st := s.groupStatus d.fn g x
        if st = 0 then ((s.setGrp g x).groupsUsed).cmdEnd d 0 0 0 else s.cmdEnd d st 0 0)

/-- A running schedule names a group. -/
def State.groupInUse (s : State) (g : Nat) : Bool :=
  s.schedRunning && (match s.img with
    | none => false
    | some i => (i.actions0 ++ i.actions1).any fun a =>
        decide (8 ≤ a.kind) && decide (a.kind ≤ 11) && bitsOf a.arg 11 0 == g)

/-- The entry is freed (R358): an instance in progress completes GROUP_DESTROYED, an unscheduled group telling its neighbours
and a leaf its endpoints (R373, R377), buffers are freed and landing entries armed. DEDUCED: log 59. -/
def State.destroyGroup (s : State) (g : Nat) (x : Group) : State :=
  let s := s.freeParts (x.cur ++ x.nxt)
  let s := ((s.armGroup x x.step).armGroup x (x.step + 1)).sendOwed g x
  let a := s.freeWord
  let b := a.2.freeWord
  let f : Failure := ⟨5, x.step, a.1.toNat % 64, b.1.toNat % 16384, s.ownSwitch, 0, x.flags, 0, false, false, false, false⟩
  let s := if x.live then
      (b.2.colTell g x f).colComplete g { x with nxtGot := [] } f.status f.member f.rank f.switch (s.ringTakes x.ring)
    else s
  ({ s with groups := s.groups.filter fun e => e.1 != g }).groupsUsed

/-- GROUP_DESTROY (R358). -/
def execGroupDestroy (d : Desc) (g : Nat) (s : State) : Host.Outcome State Fault Refusal :=
  .next (s.hostCmd d ((s.fnPav d.fn).isSome) fun s =>
    if 4095 < g then s.cmdEnd d 0xF0 0 0
    else
      let owned := match s.fnPav d.fn with | some p => s.ownsGroup p g | none => false
      if !owned then s.cmdEnd d 2 0 0
      else match s.grp g with
        | none => s.cmdEnd d 11 0 0
        | some x => if s.groupInUse g then s.cmdEnd d 10 0 0 else (s.destroyGroup g x).cmdEnd d 0 0 0)

end Sys2Proof.Machine
end

