-- ==== Sys2Proof/Machine/StreamMath.lean ====
section
/-! DEFINITION. The arithmetic and the packets of a stream's codec (R413–R417, R422–R431, R447, R448). -/

namespace Sys2Proof.Machine

/-! ## Further fields of an entry (R412) -/

/-- CLOG2. -/
def Stream.clog2 (x : Stream) : Nat := bitsOf (x.w 0) 15 13
/-- KINDLING. -/
def Stream.kindling (x : Stream) : Nat := bitsOf (x.w 0) 9 6
/-- RAW_SLOTS. -/
def Stream.rawSlots (x : Stream) : Nat := bitsOf (x.w 0) 3 1
/-- WSET. -/
def Stream.wsetId (x : Stream) : Nat := bitsOf (x.w 4) 15 0
/-- TEMPLATE. -/
def Stream.tmpl (x : Stream) : Nat := bitsOf (x.w 6) 31 21
/-- The format code of residual elements. -/
def Stream.resFmt (x : Stream) : Nat := if x.rfmt = 0 then 5 else if x.rfmt = 1 then 7 else 3

/-! ## Quantising and rebuilding -/

/-- One 32-element block quantised (R299, R300, R423): its scale, its codes and the flags. `rnd` gives an element's random bits. -/
def quantBlock (fmt : Nat) (rnd : Nat → Nat) (base : Nat) (rs : List Nat) : Nat × List Nat × Nat :=
  let sc := blockScale ((emaxOf fmt).getD 0) rs
  if sc.1 = 255 then (255, rs.map fun _ => 0, sc.2)
  else
    let es := ((List.range rs.length).zip rs).map fun p =>
      writeElem fmt (some (rnd (base + p.1))) (unscale sc.1 (decodeF fp32 p.2))
    (sc.1, es.map (·.1), es.foldl (fun f (e : Nat × Nat) => orF f e.2) sc.2)

/-- One chunk quantised: scales, codes and flags. -/
def quantChunk (fmt : Nat) (rnd : Nat → Nat) (rs : List Nat) : List Nat × List Nat × Nat :=
  let bs := blocksOf 32 rs
  let qs := ((List.range bs.length).zip bs).map fun p => quantBlock fmt rnd (32 * p.1) p.2
  (qs.map (·.1), qs.flatMap (·.2.1), qs.foldl (fun f (q : Nat × List Nat × Nat) => orF f q.2.2) 0)

/-- One element rebuilt (R424): its code in ACT_FMT and the flags. -/
def rebuildElem (act fmt p S code : Nat) : Nat × Nat :=
  let d := widen fmt (some S) code
  let y := fadd p d.1
  let o := writeElem act none (decodeF fp32 y.1)
  (o.1, orF (orF d.2 y.2) o.2)

/-- One chunk rebuilt from its predictions, scales and codes. -/
def rebuildChunk (act fmt : Nat) (ps scales codes : List Nat) : List Nat × Nat :=
  let es := (List.range codes.length).map fun j =>
    rebuildElem act fmt (ps.getD j 0) (scales.getD (j / 32) 0) (codes.getD j 0)
  (es.map (·.1), es.foldl (fun f (e : Nat × Nat) => orF f e.2) 0)

/-- What a sender makes of one chunk (R422–R426): the scales, the codes, x̂ in ACT_FMT, the new error feedback and the flags. -/
structure ChunkOut where
  scales : List Nat
  codes  : List Nat
  xs     : List Nat
  es     : List Nat
  flags  : Nat
  deriving DecidableEq, Repr

/-- One chunk at the sender from its input codes, error feedback (`ef`: it is kept) and predictions. -/
def sendChunk (act fmt : Nat) (ef : Bool) (rnd : Nat → Nat) (gs es ps : List Nat) : ChunkOut :=
  let ge := (List.range gs.length).map fun j => fadd (widen act none (gs.getD j 0)).1 (es.getD j 0)
  let rs := (List.range gs.length).map fun j => fsub (ge.getD j (0, 0)).1 (ps.getD j 0)
  let q := quantChunk fmt rnd (rs.map (·.1))
  let x := rebuildChunk act fmt ps q.1 q.2.1
  let ne := (List.range gs.length).map fun j => fsub (ge.getD j (0, 0)).1 (widen act none (x.1.getD j 0)).1
  let fl := fun (l : List (Nat × Nat)) => l.foldl (fun f e => orF f e.2) 0
  ⟨q.1, q.2.1, x.1, ne.map (·.1), orF (orF (fl ge) (fl rs)) (orF q.2.2 (orF x.2 (if ef then fl ne else 0)))⟩

/-- Elements of `f` as bytes. -/
def elemsBytes (f : Nat) (xs : List Nat) : List Byte := xs.flatMap (natLe (elemBytes f))

/-- An element code of a format is not finite. -/
def notFinite (f x : Nat) : Bool := match elemV f x with | .fin _ _ _ => false | _ => true

/-! ## Packets -/

/-- Bytes filled with zeros to a multiple of 64. -/
def pad64 (bs : List Byte) : List Byte := bs ++ List.replicate ((64 - bs.length % 64) % 64) 0

/-- Residual codes as bytes: INT4 two to a byte, the even element in the low half (R282). -/
def packCodes (rfmt : Nat) (cs : List Nat) : List Byte :=
  if rfmt = 1 then (blocksOf 2 cs).map fun p => BitVec.ofNat 8 (p.getD 0 0 % 16 + 16 * (p.getD 1 0 % 16))
  else cs.map (BitVec.ofNat 8)

/-- The residual codes of `n` elements. -/
def unpackCodes (rfmt n : Nat) (bs : List Byte) : List Nat :=
  (List.range n).map fun j =>
    if rfmt = 1 then (bs.getD (j / 2) 0).toNat / (if j % 2 = 0 then 1 else 16) % 16 else (bs.getD j 0).toNat

/-- Where the elements of a RESIDUAL payload start (R429). -/
def Stream.e0 (x : Stream) : Nat := 64 * ((16 + x.chunkLen / 32 + 63) / 64)

/-- Bytes of a RESIDUAL payload (R429). -/
def Stream.resLen (x : Stream) : Nat :=
  (x.e0 + (if x.rfmt = 1 then x.chunkLen / 2 else x.chunkLen) + 63) / 64 * 64

/-- The payload of a RESIDUAL packet (R429). -/
def Stream.resPayload (x : Stream) (k : Nat) (dig par : Option Nat) (scales codes : List Nat) : List Byte :=
  let head := natBe 6 k ++ natBe 1 (b2n dig.isSome + 2 * b2n par.isSome) ++ natBe 1 x.rfmt ++ natBe 4 (dig.getD 0)
    ++ natBe 4 (par.getD 0) ++ scales.map (BitVec.ofNat 8)
  pad64 (pad64 head ++ packCodes x.rfmt codes)

/-- PDIGEST (R448). -/
def Stream.pdigest (x : Stream) : Nat :=
  crc32c (natBe 1 (b2n x.vec) ++ natBe 1 x.clog2 ++ natBe 2 x.chunks ++ natBe 1 (x.act - 1) ++ natBe 1 x.rfmt
    ++ natBe 1 x.kindling ++ natBe 1 0 ++ natBe 2 x.check ++ natBe 2 x.wsetId ++ natBe 8 x.seed)

/-- TAG of a stream packet (R428). -/
def strTag (i k c : Nat) : Nat := i % 65536 * 65536 + k % 16 * 4096 + c % 4096

/-- A packet of stream `i` to the peer switch of its L-port (R428, R431). DEDUCED: log 68. -/
def State.strPkt (s : State) (i kind : Nat) (r : Bool) (tag : Nat) (payload : List Byte) : Pkt × State :=
  let x := s.stream i
  let src := 0xC000 + s.ownSwitch
  let dst := 0xC000 + (s.sub (64 + x.lport) 0).peer % 1024
  let q := s.nextSeq src dst true
  ({ ver := 1, kind := kind, sched := true, vc := 0, ce := false, kflag := r, pav := x.pav, hops := s.hopInit,
     len := payload.length / 64 - 1, dst := dst, src := src, seq := q.1, tag := tag, payload := payload }, q.2)

/-- A scheduled packet of the codec set on its way to its L-port, to leave at root time `due` (R143, R428, R435). -/
def State.strPut (s : State) (l : Nat) (p : Pkt) (due : Nat) (stomped : Bool) : State :=
  let s := s.wakeAction (64 + l) 0
  { s with rte := { s.rte with transit := s.rte.transit ++
      [⟨p, 8 * (64 + l), due, stomped, 0, ownIngress (l / 4 % 2) (8 + l % 4)⟩] } }

/-- A packet built from an entry's TEMPLATE: its TAG with OFFSET `off`, LEN, HOPS and SEQ replaced (R436, R452, R509). -/
def State.strOut (s : State) (i : Nat) (sched : Bool) (off : Nat) (payload : List Byte) : Pkt × State :=
  let w := beNat (match s.img with | some m => m.tmpl.getD (s.stream i).tmpl [] | none => [])
  let src := bitsOf w 79 64
  let dst := bitsOf w 95 80
  let q := s.nextSeq src dst sched
  ({ ver := bitsOf w 127 126, kind := bitsOf w 125 120, sched := sched, vc := bitsOf w 118 116, ce := bitOf w 115,
     kflag := bitOf w 114, pav := bitsOf w 113 108, hops := s.hopInit, len := payload.length / 64 - 1, dst := dst, src := src,
     seq := q.1, tag := bitsOf w 31 20 * 2 ^ 20 + off % 2 ^ 20, payload := payload }, q.2)

end Sys2Proof.Machine
end

