-- ==== Sys2Proof/Machine/Streams.lean ====
section
/-! DEFINITION. Streams: the step actions, loss and reset, raw resend, what a receiver accepts, and the host's stream commands
(R415, R432–R454, R479–R483, R567). -/

namespace Sys2Proof.Machine

/-! ## A step's memory -/

/-- `n` elements of format `f` from key `k`. -/
def State.elemsAt (s : State) (k f n : Nat) : List Nat := wordsOf (elemBytes f) (s.rd k (n * elemBytes f))

/-- h and p of the Ember state zeroed, and e where it is kept (R444, R446). -/
def State.zeroEmber (s : State) (x : Stream) : State :=
  let e := x.elems
  let s := s.wr (x.ember 0) (List.replicate (2 * e) 0)
  let s := s.wr (x.ember (2 * e)) (List.replicate (4 * e) 0)
  if x.efOn then s.wr (x.ember (6 * e)) (List.replicate (4 * e) 0) else s

/-- The predictions a step uses (R425, R434). -/
def State.predict (s : State) (x : Stream) (zero : Bool) : List Nat :=
  if zero || decide (0 < x.kc) then List.replicate x.elems 0 else s.elemsAt (x.ember (2 * x.elems)) 0 x.elems

/-- The state check of a step (R447): h, then the predictions. -/
def State.stateDigest (s : State) (x : Stream) (ps : List Nat) : Nat :=
  crc32c (s.rd (x.ember 0) (2 * x.elems) ++ elemsBytes 0 ps)

/-- Step `k` is a check step. -/
def Stream.checkStep (x : Stream) (k : Nat) : Bool := x.check != 0 && k % x.check == 0

/-- The page-in of a step starts (R481). DEDUCED: log 68. -/
def State.pageStart (s : State) (i : Nat) (reset : Bool) (c : Nat) : State :=
  ((s.setStream i { s.stream i with pageIn := none }).pageMove i false reset (mclkFrom c + 8)).2

/-- STR_EVENT.NONFINITE where an input or the state is not finite (R454). -/
def State.nonFinite (s : State) (b : Bool) : State := if b then s.strEvt 5 else s

/-- Root time of the first PCLK edge at or after now. -/
def State.pclkEdge (s : State) : Nat := (s.tim.clk + 4) / 5 * 5

/-- PCLK cycles of a chunk at the codec (R435). -/
def Stream.fCyc (x : Stream) : Nat := x.chunkLen * 2 / 64

/-- PCLK cycles between chunks on the L-port. -/
def State.gCyc (s : State) (x : Stream) : Nat := if s.portMode (64 + x.lport) = 1 then 2 * x.fCyc else x.fCyc

/-! ## SEND (R422–R431, R435, R444, R451) -/

/-- The raw slots of a step filled from the head of the queue, each sent two chunks' time after the one before.
DEDUCED: log 67. -/
def State.sendRaw (s : State) (i : Nat) (r : Bool) (edge f g : Nat) : Nat → Nat → State
  | 0, _ => s
  | n + 1, slot =>
    let x := s.stream i
    match x.rawQ with
    | [] => s
    | (k, c) :: q =>
      let key := x.ember (x.rawBase + 2 * x.elems * (k % max 1 x.rawHist) + 2 * x.chunkLen * c)
      let p := s.strPkt i 9 r (strTag i k c) (s.rd key (2 * x.chunkLen))
      let bad := s.poisoned key (2 * x.chunkLen)
      let s := (p.2.strPut x.lport p.1 (edge + 5 * (f + 40 + (x.chunks + 2 * slot) * g)) bad).bump aSTR_RAW_SENT 1
      (s.setStream i { s.stream i with rawQ := q, rawSent := (k, c) :: x.rawSent }).sendRaw i r edge f g n (slot + 1)

/-- The step's input copied into the raw history; queued chunks of the step that leaves it are given up (R451).
DEDUCED: log 67. -/
def State.keepRaw (s : State) (i k : Nat) : State :=
  let x := s.stream i
  if x.rawHist = 0 then s
  else
    let at_ := k % x.rawHist
    let s := if s.ioOk x then s.copyMem (x.io 0) (x.ember (x.rawBase + 2 * x.elems * at_)) (2 * x.elems)
      else s.wr (x.ember (x.rawBase + 2 * x.elems * at_)) (List.replicate (2 * x.elems) 0)
    let keep := fun (j : Nat) => j % x.rawHist != at_
    let gone := (x.rawQ.filter fun e => !keep e.1).length
    let s := s.setStream i { x with hist := k :: x.hist.filter keep, rawQ := x.rawQ.filter fun e => keep e.1,
                                    rawSent := x.rawSent.filter fun e => keep e.1 }
    if gone = 0 then s else s.bump aSTR_RAW_ABANDONED gone

/-- The elements of a step's input from element `o`; a region that is not the pavilion's returns nothing, taken as zeros (R413,
R468). DESIGN CHOICE: log 111. -/
def State.ioElems (s : State) (x : Stream) (o n : Nat) : List Nat :=
  if s.ioOk x then s.elemsAt (x.io (2 * o)) x.act n else List.replicate n 0

/-- One chunk of a step sent. -/
def State.sendOne (s : State) (i k c : Nat) (r bad : Bool) (payload : List Byte) (due : Nat) : State :=
  let p := s.strPkt i 8 r (strTag i k c) payload
  p.2.strPut (s.stream i).lport p.1 due bad

/-- The chunks of a step quantised and sent, x̂ put into the unit's window with its packet and e into the Ember store (R426, R435,
R479). -/
def State.sendChunks (s : State) (i k : Nat) (r : Bool) (ps : List Nat) (dig : Option Nat) (edge : Nat) : State :=
  let x := s.stream i
  let n := x.chunkLen
  let par := if r then some x.pdigest else none
  (List.range x.chunks).foldl (fun s c =>
    let gs := s.ioElems x (n * c) n
    let es := if x.efOn then s.elemsAt (x.ember (6 * x.elems + 4 * n * c)) 0 n else []
    let o := sendChunk x.act x.resFmt x.efOn (fun j => hashRnd (yelHash x.seed 1 k i c j)) gs es ((ps.drop (n * c)).take n)
    let first := decide (c = 0)
    let due := edge + 5 * (x.fCyc + 40 + c * s.gCyc x)
    let pay := x.resPayload k (if first then dig else none) (if first then par else none) o.scales o.codes
    let s := s.xhatWrite x due (2 * n * c) (elemsBytes x.act o.xs)
    let s := if x.efOn then s.wr (x.ember (6 * x.elems + 4 * n * c)) (elemsBytes 0 o.es) else s
    let s := s.setStream i { s.stream i with flags := orF (s.stream i).flags o.flags }
    s.sendOne i k c r false pay due) s

/-- The codec reads an uncorrectable word in a step (R658): a sender's input, the stored predictions where the step uses
them (`zero`: a reset step), the error feedback, and h on a check step. -/
def State.codecBad (s : State) (x : Stream) (zero : Bool) : Bool :=
  (x.role == 1 && s.ioOk x && s.poisoned (x.io 0) (2 * x.elems))
    || (!(zero || decide (0 < x.kc)) && s.poisoned (x.ember (2 * x.elems)) (4 * x.elems))
    || (x.efOn && s.poisoned (x.ember (6 * x.elems)) (4 * x.elems))
    || (x.checkStep x.step && s.poisoned (x.ember 0) (2 * x.elems))

/-- Single-bit errors in what the codec reads in a step are corrected (R657). -/
def State.codecCorrect (s : State) (x : Stream) : State :=
  if s.soft.isEmpty then s
  else
    let s := if x.role = 1 ∧ s.ioOk x = true then s.correct (x.io 0) (2 * x.elems) else s
    s.correct (x.ember 0) (if x.efOn then 10 * x.elems else 6 * x.elems)

/-- A step whose codec read an uncorrectable word: every chunk leaves stomped with open bytes, and the step fails (R421, R658).
DEDUCED: log 68. -/
def State.sendBad (s : State) (i k : Nat) (r : Bool) (edge : Nat) : State :=
  let x := s.stream i
  let s := (List.range x.chunks).foldl (fun s c =>
    let f := s.freeBytes x.resLen
    f.2.sendOne i k c r true f.1 (edge + 5 * (x.fCyc + 40 + c * s.gCyc x))) s
  let s := s.stepFail i k 6 0
  s.setStream i { (s.stream i).moveTo 2 with noUpd := true }

/-- An action of pavilion `pav` drives entry `i` at the end `role`: the entry is open, unpaused and of that pavilion. -/
def State.strAct (s : State) (i role pav : Nat) : Bool :=
  let x := s.stream i
  x.state != 0 && x.state != 3 && x.pav == pav && (role == 0 || x.role == role)

/-- STREAM_SEND of step STEP in CCLK cycle `c` (R433, R435, R440); the state at the start of the cycle decides whether it is a
reset step (R444). DEDUCED: log 67. -/
def State.strSend (s : State) (i c : Nat) : State :=
  let x := s.stream i
  let s := s.pagerTo x.die s.mclk
  let x := s.stream i
  let k := x.step
  let old := x.reqAt == some c
  let r := decide (x.state = 2) && !old
  let s := if r then (s.zeroEmber x).bump aSTR_RESETS 1 else s
  let x := if r then { x with state := 1, kc := x.kindling, lastReset := k } else x
  let s := s.setStream i { x with acted := true, noUpd := false, flags := 0, fired := c, reqAt := none }
  let s := s.pageStart i r c
  let edge := s.pclkEdge
  let f := x.fCyc
  let g := s.gCyc x
  let bad := s.codecBad x r
  let ps := s.predict x r
  let d := s.stateDigest x ps
  let s := if x.checkStep k && !bad then s.setStream i { s.stream i with digest := d } else s
  let s := if s.ioOk x then s else s.strDenied x (64 * bitsOf (x.w 6) 20 0)
  let nf := (s.ioElems x 0 x.elems).any (notFinite x.act) || ps.any (notFinite 0)
    || (s.elemsAt (x.ember 0) x.act x.elems).any (notFinite x.act)
    || (x.efOn && (s.elemsAt (x.ember (6 * x.elems)) 0 x.elems).any (notFinite 0))
  let s := (s.nonFinite (nf && !bad)).codecCorrect x
  let s := if bad then s.sendBad i k r edge
    else s.sendChunks i k r ps (if x.checkStep k then some d else none) edge
  (s.sendRaw i r edge f g x.rawSlots 0).keepRaw i k

/-! ## What a receiver accepts (R432, R446, R452) -/

/-- A stream packet discarded under one of the counters of R432. -/
def State.strDrop (s : State) (reg : Nat) : State := s.bump reg 1

/-- A RESIDUAL packet at its L-port, accepted at fabric time `at_` (R432, R436, R446). -/
def State.residualIn (s : State) (l : Nat) (p : Pkt) (at_ : Nat) : State :=
  let i := bitsOf p.tag 31 16
  let c := bitsOf p.tag 11 0
  let x := s.stream i
  let k := beNat (p.payload.take 6)
  if x.state = 0 || x.role != 2 || x.lport != l then s.strDrop aSTR_DROP_NOSTREAM
  else if p.pav ≠ x.pav then s.strDrop aSTR_DROP_PAV
  else if p.payload.length ≠ x.resLen then s.strDrop aSTR_DROP_LEN
  else if k < x.step then s.strDrop aSTR_DROP_LATE
  else if x.step < k ∨ bitsOf p.tag 15 12 ≠ k % 16 ∨ x.chunks ≤ c ∨ x.got.any fun g => g.1 == c then
    s.strDrop aSTR_DROP_STEP
  else
    let s := s.setStream i { x with got := x.got ++ [(c, p, at_)], rbit := x.rbit || p.kflag }
    if x.rbit && !p.kflag then s.bump aSTR_RBIT_MISMATCH 1
    else if p.kflag && !x.rbit then s.bump aSTR_RBIT_MISMATCH ((x.got.filter fun g => !g.2.1.kflag).length)
    else s

/-- The step a RAW_CHUNK packet belongs to: the latest below STEP with its STEP4, at most 4 back (R452). DEDUCED: log 69. -/
def Stream.rawStep (x : Stream) (step4 : Nat) : Option Nat :=
  ([1, 2, 3, 4].filter fun b => decide (b ≤ x.step) && decide ((x.step - b) % 16 = step4)).head?.map fun b => x.step - b

/-- A RAW_CHUNK packet at its L-port: placed and re-emitted, or late (R452). -/
def State.rawChunkIn (s : State) (l : Nat) (p : Pkt) : State :=
  let i := bitsOf p.tag 31 16
  let c := bitsOf p.tag 11 0
  let x := s.stream i
  if x.state = 0 || x.role != 2 || x.lport != l then s.strDrop aSTR_DROP_NOSTREAM
  else if p.pav ≠ x.pav then s.strDrop aSTR_DROP_PAV
  else if p.payload.length ≠ 2 * x.chunkLen then s.strDrop aSTR_DROP_LEN
  else
    let o := s.strOut i false (2 * x.chunkLen * c / 64) p.payload
    let kindOk := o.1.kind == 1 || o.1.kind == 3
    match x.rawStep (bitsOf p.tag 15 12) with
    | none => s.strDrop aSTR_DROP_LATE
    | some m =>
      let lost := x.missing.any fun e => e.1 == m && e.2.contains c
      if !lost || !x.reEmit || !kindOk then s.strDrop aSTR_DROP_LATE
      else if o.1.pav ≠ x.pav then s.drop 11 (ownIngress (l / 4 % 2) (8 + l % 4)) o.1
      else
        let s := o.2.setStream i { x with missing := x.missing.map fun e =>
          if e.1 = m then (e.1, e.2.filter (· != c)) else e }
        (s.originate (l / 4 % 2) (8 + l % 4) o.1 false).2

/-! ## DECODE (R433, R436, R441, R446–R449) -/

/-- A chunk rebuilt, put into the window and delivered, F + 24 + *c* × F PCLK cycles after the edge; its flags and whether a scale
of it is 0xFF (R424, R436). -/
def State.decodeOne (s : State) (i c : Nat) (p : Pkt) (ps : List Nat) (edge : Nat) : State :=
  let x := s.stream i
  let n := x.chunkLen
  let scales := ((p.payload.drop 16).take (n / 32)).map (·.toNat)
  let codes := unpackCodes x.rfmt n (p.payload.drop x.e0)
  let o := rebuildChunk x.act x.resFmt ((ps.drop (n * c)).take n) scales codes
  let bs := elemsBytes x.act o.1
  let due := edge + 5 * (x.fCyc + 24 + c * x.fCyc)
  let s := s.xhatWrite x due (2 * n * c) bs
  let s := s.setStream i { s.stream i with flags := orF (s.stream i).flags o.2 }
  let s := s.nonFinite (scales.contains 255)
  if x.reEmit then
    let q := s.strOut i true (2 * n * c / 64) bs
    if q.1.pav ≠ x.pav then s.drop 11 (ownIngress (x.lport / 4 % 2) (8 + x.lport % 4)) q.1
    else q.2.originateSched (x.lport / 4 % 2) (8 + x.lport % 4) q.1 (due + schedLat - q.2.tim.clk) false
  else if s.ioOk x then s.codecWrite due (x.io (2 * n * c)) bs
  else s.strDenied x (64 * bitsOf (x.w 6) 20 0 + 2 * n * c)

/-- A decode ends with a status other than OK and the DETAIL of its completion (R573); its update is skipped. -/
def State.decodeFail (s : State) (i status detail : Nat) : State :=
  let s := s.stepFail i (s.stream i).step status detail
  s.setStream i { s.stream i with noUpd := true }

/-- A DIVERGED step (R447): `theirs` and `own` are the two digests. -/
def State.diverged (s : State) (i theirs own : Nat) : State :=
  let x := s.stream i
  let s := (s.decodeFail i 3 0).askReset i x.step 2 [] 5
  let s := (s.strEvt 1).offer 0x0A 0 (portDie (64 + x.lport)) x.pav (i + x.role * 2 ^ 16) x.step theirs own
  if x.pav = s.cap.pav then s.capTrigger 3 else s

/-- The chunks of the current step that have not been accepted by the start of CCLK cycle `c`. -/
def Stream.lack (x : Stream) (c : Nat) : List Nat :=
  (List.range x.chunks).filter fun j => !(x.got.any fun g => g.1 == j && decide (g.2.2 ≤ 4 * c))

/-- A step that lacks chunks ends CHUNK_LOST, and its reset is asked for (R441, R449). -/
def State.chunkLost (s : State) (i : Nat) (lost : List Nat) : State :=
  ((s.decodeFail i 1 (lost.length % 65536)).askReset i (s.stream i).step 1 lost 4).strEvt 2

/-- The step is rebuilt, what is complete of it (R436, R449). DEDUCED: log 68. -/
def State.rebuild (s : State) (i c : Nat) (ps : List Nat) : State :=
  let x := s.stream i
  let lost := x.lack c
  let edge := s.pclkEdge
  let s := (List.range x.chunks).foldl (fun s j =>
    if lost.contains j then s
    else match x.got.find? fun g => g.1 == j with
      | some g => s.decodeOne i j g.2.1 ps edge
      | none => s) s
  if lost.isEmpty then s else s.chunkLost i lost

/-- A decode of a step that may be rebuilt: state, digest, then chunks. `r` is a reset step. -/
def State.decodeStep (s : State) (i c : Nat) (r : Bool) : State :=
  let x := s.stream i
  let k := x.step
  let head := x.got.find? fun g => g.1 == 0 && decide (g.2.2 ≤ 4 * c)
  let flag := match head with | some g => (g.2.1.payload.getD 6 0).toNat | none => 0
  let word := fun (o : Nat) => match head with | some g => beNat ((g.2.1.payload.drop o).take 4) | none => 0
  if r && bitOf flag 1 && decide (word 12 ≠ x.pdigest) then
    let s := (s.decodeFail i 5 0).strEvt 3
    s.setStream i ({ s.stream i with kc := x.kindling : Stream }.moveTo 4)
  else
    let s := if r then
        (s.setStream i { x with state := 1, detect := none, kc := x.kindling, lastReset := k }).bump aSTR_RESETS 1
      else s
    let x := s.stream i
    let ps := s.predict x r
    let d := s.stateDigest x ps
    let s := if x.checkStep k then s.setStream i { x with digest := d } else s
    let s := s.nonFinite (ps.any (notFinite 0) || (s.elemsAt (x.ember 0) x.act x.elems).any (notFinite x.act))
    if x.checkStep k && bitOf flag 0 && decide (word 8 ≠ d) then s.diverged i (word 8) d
    else s.rebuild i c ps

/-- STREAM_DECODE of step STEP in CCLK cycle `c` (R433, R436, R441): one that falls due while the L-port is down, with chunks lacking,
is lost under R449 (R453). DEDUCED: log 67. -/
def State.strDecode (s : State) (i c : Nat) : State :=
  let s := s.pagerTo (s.stream i).die s.mclk
  let x := s.stream i
  let r := x.rbit
  let lost := x.lack c
  let s := s.setStream i { x with acted := true, noUpd := false, flags := 0, fired := c,
                                  missing := ((x.step, lost) :: x.missing).take 5 }
  let s := s.pageStart i r c
  let s := if r then s.zeroEmber x else s
  if r || x.state == 1 then
    let bad := s.codecBad x r
    let s := s.codecCorrect x
    if bad then (s.decodeFail i 6 0).askReset i x.step 4 [] 4 else s.decodeStep i c r
  else if !s.lUp x.lport && !lost.isEmpty then s.chunkLost i lost
  else
    let s := s.decodeFail i 4 0
    match (s.stream i).detect with
    | some (k, cause, cs) => s.resetReq i k cause cs
    | none => s

/-! ## UPDATE (R417, R418, R433, R482, R500) -/

/-- The update of step `k` does not start (R421). -/
def State.updateNot (s : State) (i k : Nat) : State :=
  let s := s.stepFail i k 6 0
  if (s.stream i).role = 1 then s.setStream i ((s.stream i).moveTo 2) else s.askReset i k 4 [] 4

/-- The update of step `k` starts, with its weight set at `wset`, or fails. DEDUCED: log 68. -/
def State.updateStart (s : State) (i k wset c : Nat) : State :=
  let x := s.stream i
  let t0 := mclkFrom c + 8
  let sub := if s.unitBusy x.unit then 1 else s.updCheck { x with wset := wset } 1
  if sub ≠ 0 then (s.updRefuse x.unit sub).updateNot i k
  else if !s.tokensOk x.pav 1 c then ((s.tokenRefused x.pav x.unit false).hazard 6).updateNot i k
  else if !(match x.pageIn with | some e => decide (e ≤ t0) | none => false) then
    ((s.bump aMEM_PAGE_LATE 1).evt 17 aMEM_EVENT 5).updateNot i k
  else
    let s := (s.leaveTail i).takeToken x.pav x.unit false c
    let s := s.setStream i { x with wset := wset, uStep := k, upd := 1, wbDone := false, l3Done := false, uFired := c,
                                    uFlags := x.flags }
    s.setMx x.unit { s.mx x.unit with run := some (s.updRun i 1 t0) }

/-- STREAM_UPDATE in CCLK cycle `c` (R433, R434): STEP advances, and the update runs unless the step skips it. -/
def State.strUpdate (s : State) (i wset c : Nat) : State :=
  let x := s.stream i
  let run := x.acted && !x.noUpd
  let s := s.setStream i { x with step := (x.step + 1) % 2 ^ 48, kc := x.kc - 1, got := [], rbit := false, acted := false,
                                  noUpd := false, fired := c }
  if run then s.updateStart i x.step wset c else s

/-! ## Actions that did not fire (R61, R92, R450) -/

/-- A step action that was withheld (status 2) or late (7), at CCLK cycle `c`. DEDUCED: log 45. -/
def State.strMissed (s : State) (i kind status c : Nat) : State :=
  let x := s.stream i
  let s := s.setStream i { x with fired := c, flags := if kind = 5 then x.flags else 0 }
  let s := s.stepFail i x.step status 0
  if kind = 5 then s
  else
    let s := s.setStream i { s.stream i with acted := true, noUpd := true }
    if kind = 3 then s.setStream i ((s.stream i).moveTo 2) else s.askReset i x.step 3 [] 4

/-! ## RESET_REQ at the sender (R445, R451) -/

/-- Raw chunks in queue order: oldest step first, then ascending chunk. -/
def rawLe (a b : Nat × Nat) : Bool := decide (a.1 < b.1) || (a.1 == b.1 && decide (a.2 ≤ b.2))

/-- A RESET_REQ accepted on L-port `l` (R445, R451). DEDUCED: log 69. -/
def State.resetReqIn (s : State) (l : Nat) (w : List Byte) : State :=
  let i := beNat (w.take 2)
  let k := beNat ((w.drop 2).take 6)
  let cause := beNat ((w.drop 8).take 1)
  let n := min 8 (beNat ((w.drop 9).take 1))
  let cs := (List.range n).map fun j => beNat ((w.drop (10 + 2 * j)).take 2)
  let x := s.stream i
  if x.state = 0 || x.role != 1 || x.lport != l || decide (k < x.lastReset) then s
  else
    let new := if cause = 1 ∧ x.hist.contains k then
        (cs.filter fun c => decide (c < x.chunks) && !(x.rawQ.contains (k, c)) && !(x.rawSent.contains (k, c))).eraseDups
      else []
    let x := { x.moveTo 2 with reqAt := if x.state = 1 then some s.cyc else x.reqAt }
    s.setStream i { x with rawQ := ((x.rawQ ++ new.map fun c => (k, c)).mergeSort rawLe) }

/-! ## The host's stream commands (R415, R439, R442–R445, R567) -/

/-- An accepted command of a stream waits. -/
def State.strPending (s : State) (i : Nat) : Bool := s.strCmds.any fun c => c.stream == i

/-- The stream's index belongs to the function's pavilion. -/
def State.strMine (s : State) (fn i : Nat) : Bool := match s.fnPav fn with | some p => s.ownsStream p i | none => false

/-- AT_SLOT is less than 1,024 slots ahead. -/
def State.tooLate (s : State) (at_ : Nat) : Bool := decide (at_ < s.curSlot + 1024)

/-- A command accepted: it waits for its slot. -/
def State.strAccept (s : State) (c : StrCmd) : State := { s with strCmds := s.strCmds ++ [c] }

/-- Bits of each DATA word that hold fields (STR_TBL_DATA0–DATA7). -/
def strMask : List Nat := [0xFFFFFFFE, 0xFFF7FFFF, 0xFFFFFFFF, 0xFFFFFFFF, 0xFFFFFFFF, 0xFFFFF, 0xFFFFFFFF, 0xFFFF]

/-- The entry a 32 B parameter block describes (R565). -/
def strData (blk : List Byte) : List Nat :=
  (List.range 8).map fun j => leNat ((blk.drop (4 * j)).take 4) &&& strMask.getD j 0

/-- A reserved bit of a parameter block is not 0 (R566). -/
def strRsv (blk : List Byte) : Bool :=
  (List.range 8).any fun j => leNat ((blk.drop (4 * j)).take 4) != leNat ((blk.drop (4 * j)).take 4) &&& strMask.getD j 0

/-- R415: the L-port, the unit and the Ember range are the pavilion's; an L-port that no pavilion owns serves every one (R592).
DEDUCED: log 69. -/
def State.openPav (s : State) (fn : Nat) (x : Stream) : Bool :=
  let a := 64 * bitsOf (x.w 5) 19 0
  s.fnPav fn == some x.pav && (match s.portPav (64 + x.lport) with | some p => p == x.pav | none => true)
    && s.unitPav x.unit == some x.pav && s.ownsEmber x.pav x.die a (min x.emberSize (2 ^ 26 - a))

/-- R412: every field lies in its range; a ring names function 0–63 (R575). DEDUCED: log 69. -/
def State.openParam (s : State) (x : Stream) : Bool :=
  (x.role == 1 || x.role == 2) && decide (x.clog2 ≤ 4) && decide (x.rfmt ≤ 2) && s.hasL x.lport
    && (x.ring == 0xFFFF || decide (x.ring / 256 ≤ 63))
    && (x.role != 1 || (decide (x.rawSlots ≤ 4) && decide (x.rawHist ≤ 4) && (x.rawSlots == 0 || x.rawHist != 0)))

/-- Two Ember states share a byte. -/
def emberMeet (x y : Stream) : Bool :=
  let a := 64 * bitsOf (x.w 5) 19 0
  let b := 64 * bitsOf (y.w 5) 19 0
  x.die == y.die && decide (a < b + y.emberSize) && decide (b < a + x.emberSize)

/-- R415, R479, R567: the state lies in the Ember store apart from every other, and the unit's window is large enough. -/
def State.openRange (s : State) (x : Stream) : Bool :=
  decide (64 * bitsOf (x.w 5) 19 0 + x.emberSize ≤ 2 ^ 26)
    && !(s.streams.any fun e => e.2.state != 0 && emberMeet x e.2)
    && !(s.strCmds.any fun c => c.kind == 0 && emberMeet x { streamInit with data := c.data })
    && decide ((if x.vec then 14 else 10) * x.elems ≤ 64 * s.fld (aMEM_EWIN_SIZE x.unit) 18 0)

/-- The first status of R565 that fails for STREAM_OPEN, 0 where none does. -/
def State.openStatus (s : State) (fn i at_ : Nat) (x : Stream) : Nat :=
  if !s.strMine fn i || !s.openPav fn x then 2
  else if s.strPending i then 7
  else if (s.stream i).state ≠ 0 then 6
  else if s.tooLate at_ then 1
  else if !s.openParam x then 3
  else if !s.openRange x then 4
  else if (match s.img with | some m => decide (m.wset.length ≤ x.wsetId) | none => true) then 5
  else 0

/-- STREAM_OPEN (R415, R439, R567): `blk` is the 32 B parameter block, `blkOk` whether PCIe served its read. -/
def execStreamOpen (d : Desc) (i at_ step0 : Nat) (blk : List Byte) (blkOk : Bool) (s : State) :
    Host.Outcome State Fault Refusal :=
  .next (s.hostCmd d ((s.fnPav d.fn).isSome) fun s =>
    if !blkOk then (s.sqStop d.fn d.sq).cmdEnd d 0xF2 0 0
    else if strRsv blk then s.cmdEnd d 0xF0 0 0
    else
      let data := strData blk
      let st := s.openStatus d.fn i at_ { streamInit with data := data }
      if st = 0 then s.strAccept ⟨i, 0, at_, step0 % 2 ^ 48, data, s.noOf d⟩ else s.cmdEnd d st 0 0)

/-- Pause, resume, reset and close of an open stream: `bad` are the states that refuse the command (R565, R567). -/
def State.strCmd (s : State) (d : Desc) (kind i at_ : Nat) (bad : Nat → Bool) : State :=
  s.hostCmd d ((s.fnPav d.fn).isSome) fun s =>
    if !s.strMine d.fn i then s.cmdEnd d 2 0 0
    else if s.strPending i then s.cmdEnd d 7 0 0
    else if bad (s.stream i).state then s.cmdEnd d 6 0 0
    else if s.tooLate at_ then s.cmdEnd d 1 0 0
    else s.strAccept ⟨i, kind, at_, 0, [], s.noOf d⟩

/-- STREAM_PAUSE (R442, R567). -/
def execStreamPause (d : Desc) (i at_ : Nat) (s : State) : Host.Outcome State Fault Refusal :=
  .next (s.strCmd d 1 i at_ fun st => st == 0 || st == 3)

/-- STREAM_RESUME (R442, R567). -/
def execStreamResume (d : Desc) (i at_ : Nat) (s : State) : Host.Outcome State Fault Refusal :=
  .next (s.strCmd d 2 i at_ fun st => st != 3)

/-- STREAM_RESET (R445, R567). -/
def execStreamReset (d : Desc) (i at_ : Nat) (s : State) : Host.Outcome State Fault Refusal :=
  .next (s.strCmd d 3 i at_ fun st => st == 0 || st == 3)

/-- STREAM_CLOSE (R443, R567). -/
def execStreamClose (d : Desc) (i at_ : Nat) (s : State) : Host.Outcome State Fault Refusal :=
  .next (s.strCmd d 4 i at_ fun st => st == 0)

/-- An entry closed: nothing of its steps is kept, its Ember state stays (R443). DEDUCED: log 68. -/
def Stream.closed (x : Stream) : Stream :=
  { x with state := 0, resume := 0, got := [], rbit := false, acted := false, noUpd := false, missing := [], detect := none,
           hist := [], rawQ := [], rawSent := [], reqAt := none }

/-- A command's effect on its entry (R440–R445). -/
def State.strEffect (s : State) (c : StrCmd) : State :=
  let x := s.stream c.stream
  if c.kind = 0 then
    s.setStream c.stream { x.closed with
      data := c.data, state := if bitsOf (c.data.getD 0 0) 31 30 = 1 then 2 else 4, step := c.step0, kc := 0, lastReset := 0,
      lastStatus := 0, digest := 0, flags := 0, pageIn := none }
  else if x.state = 0 then s
  else if c.kind = 1 then s.setStream c.stream { x with state := 3, resume := x.state }
  else if c.kind = 2 then s.setStream c.stream { x with state := x.resume }
  else if c.kind = 3 then
    (if x.role = 1 then s.setStream c.stream (x.moveTo 2) else s.askReset c.stream x.step 5 [] 4)
  else s.setStream c.stream x.closed

/-- A waiting command takes effect and completes; `ok` is whether PCIe took the completion (R439, R567, R579). -/
def State.strApply (s : State) (c : StrCmd) (ok : Bool) : State :=
  let s := { s with strCmds := s.strCmds.erase c }
  (s.strEffect c).cmdDone c.no 0 0 0 ok

/-- STREAM_CMD_EFFECT (R439): at the start of AT_SLOT. -/
def execStreamCmdEffect (i : Nat) (ok : Bool) (s : State) : Host.Outcome State Fault Refusal :=
  .next (match s.strCmds.find? fun c => c.stream == i with
    | none => s
    | some c => if s.tim.lock then (s.advTo (c.slot * slotUnits)).strApply c ok else s)

/-- Every command of a stream that is due by the present slot has its effect before an action of the stream (R439). -/
def State.strDue (s : State) (i : Nat) : State :=
  (s.strCmds.filter fun c => c.stream == i && decide (c.slot ≤ s.curSlot)).foldl (fun s c => s.strApply c true) s

/-! ## Table access (R208, R415) -/

/-- DATA word `j` of the table access. -/
def aStrData (j : Nat) : Nat := aSTR_TBL_DATA0 + 4 * j

/-- STR_TBL_READ (R208). -/
def execStrTblRead (path : Path) (v : Word) (s : State) : Host.Outcome State Fault Refusal :=
  .next (s.tblOp path aSTR_TBL_CMD v false (fun s => s.strEvt 0) fun s =>
    let x := s.stream (bitsOf v.toNat 15 0)
    ((List.range 8).foldl (fun s j => s.setReg (aStrData j) (BitVec.ofNat 32 (x.w j))) s).setFld aSTR_TBL_CMD 30 30 0)

/-- STR_TBL_WRITE (R415): ignored, with CFG_IGNORED, unless the entry is CLOSED. -/
def execStrTblWrite (path : Path) (v : Word) (s : State) : Host.Outcome State Fault Refusal :=
  .next (s.tblOp path aSTR_TBL_CMD v true (fun s => s.strEvt 0) fun s =>
    let i := bitsOf v.toNat 15 0
    if (s.stream i).state ≠ 0 then s.strEvt 0
    else
      let data := (List.range 8).map fun j => (s.reg (aStrData j)).toNat &&& strMask.getD j 0
      (s.setStream i { s.stream i with data := data }).setFld aSTR_TBL_CMD 30 30 0)

end Sys2Proof.Machine
end

