-- ==== Sys2Proof/Machine/Replays.lean ====
section
/-! DEFINITION. The L-port replay engine's commands: LINK_ACK packets sent and received, and replays (R455–R461, R492). -/

namespace Sys2Proof.Machine

/-- A LINK_ACK made ready on an L-port (R174, R266, R456). -/
def State.linkAck (s : State) (l kind : Nat) (w : List Byte) : State :=
  s.makeReady (8 * (64 + l)) (linkPkt 0x3C false (kind * 2 ^ 24) (w ++ List.replicate (64 - w.length) 0))

/-- LINK_ACK_SEND (R458): an ACK (1), the NAK that is owed (2), or a RESET_REQ that is owed (0x10) becomes ready.
DESIGN CHOICE: log 96. -/
def execLinkAckSend (l kind : Nat) (s : State) : Host.Outcome State Fault Refusal :=
  .next (if !s.lUp l then s
    else
      let x := s.lr l
      if kind = 1 then s.linkAck l 1 (natBe 4 x.acc)
      else if kind = 2 && x.nak then
        ((s.setLr l { x with nak := false }).bump (aRPL_NAK_TX l) 1).linkAck l 2 (natBe 4 x.acc)
      else if kind = 0x10 then
        (match x.reqs with
          | w :: ws => (s.setLr l { x with reqs := ws }).linkAck l 0x10 w
          | [] => s)
      else s)

/-- A LINK_ACK of one subtype is received: its payload is handed on. -/
def State.linkAckRx (s : State) (l subtype : Nat) (rx : RxPkt) (f : State → List Byte → State) : State :=
  if s.hasL l && bitsOf rx.pkt.tag 31 24 == subtype then
    s.linkRx (64 + l) 0 0x3C rx fun s => f s rx.pkt.payload
  else s

/-- An acknowledged LSEQ: every copy below it is released (R455, R461). -/
def State.acked (s : State) (l n : Nat) : State :=
  let x := s.lr l
  if ahead n x.acked then
    (s.setLr l { x with acked := n, copies := x.copies.filter fun c => !(ahead n c.lseq), since := s.tim.clk }).setUnacked l
  else s

/-- ACK_RX (R455). -/
def execAckRx (l : Nat) (rx : RxPkt) (s : State) : Host.Outcome State Fault Refusal :=
  .next (s.linkAckRx l 1 rx fun s w => s.acked l (beNat (w.take 4)))

/-- Copies read back from the store, `bad` naming the copy of each uncorrectable word among them: every such word is counted and
logged; where in the store a copy lies is open, so its address there is a free value (R460, R492). DESIGN CHOICE: log 74. -/
def State.copiesRead (s : State) (l : Nat) (cs : List Copy) (bad : List Nat) : State :=
  bad.foldl (fun s n =>
    match cs.find? fun c => c.lseq == n with
    | none => s
    | some c =>
      let f := s.freeWord
      f.2.hbmUncorr (f.2.rplBase l + 8 * (f.1.toNat % (2 ^ 17 * max 1 (s.fld (aRPL_SIZE l) 15 0)))) 5 c.pkt.pav) s

/-- The sender replays from LSEQ `n`: REPLAY names the first copy sent, then the copies follow in order; one of `bad` reads
back uncorrectable and leaves stomped (R459, R460, R492). -/
def State.replayFrom (s : State) (l n : Nat) (bad : List Nat) : State :=
  let x := s.lr l
  let cs := x.copies.filter fun c => !(ahead n c.lseq)
  let first := match cs with | c :: _ => c.lseq | [] => n
  let s := s.copiesRead l cs bad
  let s := (s.setLr l { s.lr l with since := s.tim.clk }).linkAck l 3 (natBe 4 first)
  let e := 8 * (64 + l)
  s.setEgr e { s.egr e with resend := cs.map fun c => { c with stomped := c.stomped || bad.contains c.lseq } }

/-- NAK_RX (R459, R460). -/
def execNakRx (l : Nat) (rx : RxPkt) (bad : List Nat) (s : State) : Host.Outcome State Fault Refusal :=
  .next (s.linkAckRx l 2 rx fun s w =>
    (s.bump (aRPL_NAK_RX l) 1).replayFrom l (beNat (w.take 4)) bad)

/-- REPLAY_RX (R457): the next packets are duplicates, or those before it are lost. -/
def execReplayRx (l : Nat) (rx : RxPkt) (s : State) : Host.Outcome State Fault Refusal :=
  .next (s.linkAckRx l 3 rx fun s w =>
    let n := beNat (w.take 4)
    let x := s.lr l
    let back := (x.acc + 2 ^ 32 - n) % 2 ^ 32
    if back < 2 ^ 31 then s.setLr l { x with recover := false, nak := false, skip := back }
    else
      let gap := (n + 2 ^ 32 - x.acc) % 2 ^ 32
      let s := s.setLr l { x with recover := false, nak := false, skip := 0, acc := n }
      (s.bump (aRPL_GAP l) gap).strEvt 4)

/-- RESET_REQ_RX (R445, R451). -/
def execResetReqRx (l : Nat) (rx : RxPkt) (s : State) : Host.Outcome State Fault Refusal :=
  .next (s.linkAckRx l 0x10 rx fun s w => s.resetReqIn l w)

/-- REPLAY_TIMEOUT (R459): no ACK has advanced for TIMEOUT_US while packets are unacknowledged; time is at the end of that wait. -/
def execReplayTimeout (l : Nat) (bad : List Nat) (s : State) : Host.Outcome State Fault Refusal :=
  .next (if s.lUp l && !(s.lr l).copies.isEmpty then
      (s.advTo (s.fabricAt ((s.lr l).since + 8000 * s.fld (aRPL_CTRL l) 15 0))).replayFrom l (s.lr l).acked bad
    else s)

end Sys2Proof.Machine
end

