-- ==== Sys2Proof/Machine/Memory.lean ====
section
/-! DEFINITION. Prefetch, the Ember pager's ends, gather service and the memory tables (R464–R475, R481–R492, R500). -/

namespace Sys2Proof.Machine

/-! ## Prefetch (R472–R476, R492) -/

/-- R473: source and destination lie in memory that the pavilion owns, on the bandstand's die. DEDUCED: log 70. -/
def State.pfOk (s : State) (r : PfRec) (pav die : Nat) : Bool :=
  decide (r.src / 2 ^ 39 = die) && s.tensorOk pav r.src r.len && decide (64 ≤ r.len) && decide (r.len ≤ 2 ^ 24)
    && decide (r.len % 64 = 0)
    && (if r.tier = 0 then decide (r.unit / 4 = die) && s.unitPav r.unit == some pav && decide (r.dest + r.len ≤ 2 ^ 24)
        else if r.tier = 1 then s.ownsEmber pav die r.dest r.len
        else if r.tier = 2 then s.ownsSbuf pav die r.dest r.len
        else false)

/-- A prefetch that does not run is logged with its source (R670). -/
def State.pfLog (s : State) (sub : Nat) (r : PfRec) (pav : Nat) : State :=
  s.offer 0x0B sub (r.src / 2 ^ 39) pav r.src (r.src / 2 ^ 32) 1 0

/-- A PREFETCH fired in CCLK cycle `c` (R473–R475). DEDUCED: log 70. -/
def State.firePf (s : State) (r : PfRec) (pav die c : Nat) : State :=
  let s := s.pfTo die (s.tim.now / 6)
  let q := s.pf die
  if !s.pfOk r pav die then
    (((((s.bump aMEM_PF_REFUSED 1).evt 17 aMEM_EVENT 3).bump aMEM_ACCESS_DENIED 1).evt 17 aMEM_EVENT 2)).pfLog 2 r pav
  else if 16 ≤ q.length then ((s.bump aMEM_PF_OVF 1).evt 17 aMEM_EVENT 4).pfLog 3 r pav
  else
    let t := mclkFrom c + 8
    let from_ := match q.getLast? with | some j => max t j.bound | none => t
    let j : PfJob := ⟨r, pav, from_ + 600 + (r.len + 255) / 256⟩
    (s.setPf die (q ++ [j])).pfSend j die

/-- PREFETCH_DONE (R475): the head of a die's queue ends at fabric time `time`, no later than its bound.
DESIGN CHOICE: log 66. -/
def execPrefetchDone (die time : Nat) (s : State) : Host.Outcome State Fault Refusal :=
  .next (match s.pf die with
    | [] => s
    | j :: q =>
      if !s.running || decide (1 < die) then s
      else
        let s := (s.advTo (min time (6 * j.bound))).setPf die q
        s.pfEnd j die)

/-! ## The Ember pager (R481, R483) -/

/-- EMBER_PAGE_IN_DONE (R481). -/
def execEmberPageInDone (die : Nat) (s : State) : Host.Outcome State Fault Refusal :=
  .next (if decide (die < 2) && s.running then s.pagerHead die false else s)

/-- EMBER_WRITEBACK_DONE (R483). -/
def execEmberWritebackDone (die : Nat) (s : State) : Host.Outcome State Fault Refusal :=
  .next (if decide (die < 2) && s.running then s.pagerHead die true else s)

/-! ## Gather service (R488–R491) -/

/-- An entry of the gather table. -/
structure GTab where
  valid : Bool
  pav   : Nat
  die   : Nat
  row   : Nat     -- bytes of a row
  base  : Nat     -- byte offset on its die
  rows  : Nat
  deriving DecidableEq, Repr

/-- The entry that DATA0, DATA1 and DATA2 spell. -/
def gtabOf (x : Nat) : GTab :=
  ⟨bitOf x 31, bitsOf x 29 24, bitsOf x 23 23, 64 * (bitsOf x 6 0 + 1), 4096 * bitsOf x 58 32, bitsOf x 95 64⟩

/-- Gather-table entry `i`. -/
def State.gtab (s : State) (i : Nat) : GTab := gtabOf (tblGet (fun _ => 0) s.gtbl i)

/-- A die's request queue. -/
def State.greq (s : State) (die : Nat) : List GReq := if die = 0 then s.greq0 else s.greq1

/-- A die's request queue replaced. -/
def State.setGreq (s : State) (die : Nat) (q : List GReq) : State :=
  if die = 0 then { s with greq0 := q } else { s with greq1 := q }

/-- An engine in service on a die serves a pavilion (R485, R596). -/
def State.serves (s : State) (k p : Nat) : Bool := s.inService k && s.enginePav k == some p

/-- The gather engine of a die that takes a request of pavilion `p` in slot `n`: the lowest-numbered one in service that is idle and
that no window masks (R486, R491, R596). -/
def State.idleEngine (s : State) (die p n : Nat) : Option Nat :=
  ((List.range 4).map (4 * die + ·)).find? fun k =>
    s.serves k p && !(s.gheld.any fun e => e.1 == k) && !s.gwinHas k n

/-- The requests of a die in arrival order, each taken by the engine that R491 gives it. DESIGN CHOICE: log 96. -/
def State.gatherTake (s : State) (die : Nat) : State :=
  (s.greq die).foldl (fun s q =>
    match s.idleEngine die (s.gtab q.table).pav s.curSlot with
    | some k => { s.setGreq die ((s.greq die).erase q) with gheld := s.gheld ++ [(k, q)] }
    | none => s) s

/-- A GATHER_REQ for this switch (R489, R490): queued, or discarded. DEDUCED: log 71. -/
def State.gatherIn (s : State) (p : Pkt) (held : Option Held) : State :=
  let s := match held with | some h => s.release h | none => s
  let i := bitsOf p.tag 19 11
  let n := bitsOf p.tag 10 0 + 1
  let t := s.gtab i
  let any := ((List.range 4).map (4 * t.die + ·)).any fun k => s.serves k t.pav
  if !t.valid || decide (p.pav ≠ t.pav) || decide (16 * (p.len + 1) < n) || !any || decide (64 ≤ (s.greq t.die).length) then
    (s.bump aMEM_GREQ_DROP 1).evt 17 aMEM_EVENT 6
  else
    let rows := (List.range n).map fun j => beNat ((p.payload.drop (4 * j)).take 4)
    ((s.setGreq t.die (s.greq t.die ++ [⟨i, bitsOf p.tag 31 20, p.src, rows⟩])).bump aMEM_GREQ_RX 1).gatherTake t.die

/-- HBM key of a row. -/
def GTab.key (t : GTab) (i : Nat) : Nat := t.die * 2 ^ 39 + t.base + i * t.row

/-- One row of a response: zeros beyond ROWS. -/
def State.gatherRow (s : State) (t : GTab) (i : Nat) : List Byte :=
  if t.rows ≤ i then List.replicate t.row 0 else s.rd (t.key i) t.row

/-- One packet of a response, from byte `off` of it (R491, R492). -/
def State.gatherResp (s : State) (t : GTab) (q : GReq) (all : List Byte) (off : Nat) : State :=
  let n := min 8192 (all.length - off)
  let first := off / t.row
  let hit := (List.range ((off + n - 1) / t.row + 1 - first)).any fun j =>
    let r := q.rows.getD (first + j) 0
    decide (r < t.rows) && s.poisoned (t.key r) t.row
  let src := 0xC000 + s.ownSwitch
  let sq := s.nextSeq src q.src false
  let p : Pkt := { ver := 1, kind := 0x0D, sched := false, vc := 1, ce := false, kflag := false, pav := t.pav,
                   hops := s.hopInit, len := n / 64 - 1, dst := q.src, src := src, seq := sq.1,
                   tag := q.msg * 2 ^ 20 + off / 64, payload := (all.drop off).take n }
  (sq.2.originate t.die 14 p hit).2

/-- A request served: its rows sent as GATHER_RESP packets. DEDUCED: log 71. -/
def State.gatherServe (s : State) (q : GReq) : State :=
  let t := s.gtab q.table
  match q.rows.find? fun r => !t.valid || (decide (r < t.rows) && !s.tensorOk t.pav (t.key r) t.row) with
  | some r => s.memDenied 1 (t.key r) 3 t.pav
  | none =>
    let excess := (q.rows.filter fun r => decide (t.rows ≤ r)).length
    let s := if excess = 0 then s else s.bump aMEM_GATHER_RANGE excess
    let s := q.rows.foldl (fun s r =>
      if t.rows ≤ r then s else (s.correct (t.key r) t.row).hbmBad (t.key r) t.row 3 t.pav) s
    let all := q.rows.flatMap (s.gatherRow t)
    (List.range ((all.length + 8191) / 8192)).foldl (fun s j => s.gatherResp t q all (8192 * j)) s

/-- GATHER_SERVE (R486, R491): engine `k` ends the request it holds at fabric time `time`, outside every window that masks it, and
is idle again. DESIGN CHOICE: log 96. -/
def execGatherServe (k time : Nat) (s : State) : Host.Outcome State Fault Refusal :=
  .next (if decide (k < 8) && s.running && !s.gwinHas k (max s.tim.now time / slotUnits) then
      let s := (s.advTo time).gatherTake (k / 4)
      match s.gheld.find? fun e => e.1 == k with
      | none => s
      | some e => ({ s with gheld := s.gheld.erase e }.gatherServe e.2).gatherTake (k / 4)
    else s)

/-! ## Region, gather and window tables (R208, R466, R486, R488) -/

/-- A write of a memory table's CMD register at `o` (R208). -/
def State.memTbl (s : State) (path : Path) (o : Nat) (v : Word) (op : Bool) (f : State → State) : State :=
  s.tblOp path o v op (fun s => s.evt 17 aMEM_EVENT 8) f

/-- Three data registers from `o` as one number. -/
def State.data3 (s : State) (o : Nat) : Nat :=
  (s.reg o).toNat + (s.reg (o + 4)).toNat * 2 ^ 32 + (s.reg (o + 8)).toNat * 2 ^ 64

/-- Data registers from `o` loaded. -/
def State.setData3 (s : State) (o x : Nat) : State :=
  ((s.setReg o (BitVec.ofNat 32 x)).setReg (o + 4) (BitVec.ofNat 32 (x / 2 ^ 32))).setReg (o + 8) (BitVec.ofNat 32 (x / 2 ^ 64))

/-- MEM_RGN_READ (R208). -/
def execMemRgnRead (path : Path) (v : Word) (s : State) : Host.Outcome State Fault Refusal :=
  .next (s.memTbl path aMEM_RGN_CMD v false fun s =>
    (s.setData3 aMEM_RGN_DATA0 (tblGet (fun _ => 0) s.regions (bitsOf v.toNat 7 0))).setFld aMEM_RGN_CMD 30 30 0)

/-- R466: an entry may be written at an index. DEDUCED: log 72. -/
def State.regionOk (s : State) (i : Nat) (r : Region) : Bool :=
  let others := (s.regions.filter fun e => e.1 != i).map fun e => regionOf e.2
  !r.valid
    || (decide (r.size ≠ 0) && decide ((r.base + r.size) * 4096 ≤ hbmBytes s.fuse.asm) && decide (r.kind ≠ 3)
        && (r.kind != 2 || s.hasL r.lport) && !(r.kind == 1 && others.any fun o => o.valid && o.kind == 1)
        && !(others.any fun o => o.valid && o.die == r.die && decide (o.base < r.base + r.size)
          && decide (r.base < o.base + o.size)))

/-- MEM_RGN_WRITE (R466). -/
def execMemRgnWrite (path : Path) (v : Word) (s : State) : Host.Outcome State Fault Refusal :=
  .next (s.memTbl path aMEM_RGN_CMD v true fun s =>
    let i := bitsOf v.toNat 7 0
    let x := s.data3 aMEM_RGN_DATA0 &&& 0x07FFFFFF07FFFFFFEF3F0001
    if s.regionOk i (regionOf x) then
      ({ s with regions := tblSet s.regions i x }).setFld aMEM_RGN_CMD 30 30 0
    else s.setFld aMEM_RGN_CMD 30 30 1)

/-- MEM_GTBL_READ (R208). -/
def execMemGtblRead (path : Path) (v : Word) (s : State) : Host.Outcome State Fault Refusal :=
  .next (s.memTbl path aMEM_GTBL_CMD v false fun s =>
    (s.setData3 aMEM_GTBL_DATA0 (tblGet (fun _ => 0) s.gtbl (bitsOf v.toNat 8 0))).setFld aMEM_GTBL_CMD 30 30 0)

/-- MEM_GTBL_WRITE (R488). -/
def execMemGtblWrite (path : Path) (v : Word) (s : State) : Host.Outcome State Fault Refusal :=
  .next (s.memTbl path aMEM_GTBL_CMD v true fun s =>
    let x := s.data3 aMEM_GTBL_DATA0 &&& 0xFFFFFFFF07FFFFFFBF80007F
    let t := gtabOf x
    if !t.valid || (decide (t.rows ≠ 0) && s.tensorOk t.pav (t.key 0) (t.rows * t.row)) then
      ({ s with gtbl := tblSet s.gtbl (bitsOf v.toNat 8 0) x }).setFld aMEM_GTBL_CMD 30 30 0
    else s.setFld aMEM_GTBL_CMD 30 30 1)

/-- MEM_GWIN_READ (R208). -/
def execMemGwinRead (path : Path) (v : Word) (s : State) : Host.Outcome State Fault Refusal :=
  .next (s.memTbl path aMEM_GWIN_CMD v false fun s =>
    let x := tblGet (fun _ => 0) s.gwin (bitsOf v.toNat 7 0)
    ((s.setReg aMEM_GWIN_DATA0 (BitVec.ofNat 32 x)).setReg aMEM_GWIN_DATA1 (BitVec.ofNat 32 (x / 2 ^ 32))).setFld
      aMEM_GWIN_CMD 30 30 0)

/-- MEM_GWIN_WRITE (R486): ignored while a schedule runs. DEDUCED: log 71. -/
def execMemGwinWrite (path : Path) (v : Word) (s : State) : Host.Outcome State Fault Refusal :=
  .next (s.memTbl path aMEM_GWIN_CMD v true fun s =>
    if s.schedRunning then s.evt 17 aMEM_EVENT 8
    else
      let x := s.fld aMEM_GWIN_DATA0 23 0 + ((s.reg aMEM_GWIN_DATA1).toNat &&& 0xFFFF01FF) * 2 ^ 32
      ({ s with gwin := tblSet s.gwin (bitsOf v.toNat 7 0) x }).setFld aMEM_GWIN_CMD 30 30 0)

/-! ## GSVC_EN (R485, R497–R500) -/

/-- The engines that GSVC_EN puts in service. -/
def State.engines (s : State) : List Nat := (List.range 8).filter s.mayServe

/-- Tokens for every engine taken one by one, or the first engine that is refused. -/
def State.serveTokens (s : State) : List Nat → Sum Nat State
  | [] => .inr s
  | k :: ks =>
    let p := (s.enginePav k).getD 0
    if s.tokensOk p 1 (s.tim.now / 4) then (s.takeToken p k true (s.tim.now / 4)).serveTokens ks else .inl k

/-- GSVC_EN_WRITE (R500): a write of MEM_CTRL. -/
def execGsvcEnWrite (path : Path) (v : Word) (s : State) : Host.Outcome State Fault Refusal :=
  .next (if s.mayWrite path aMEM_CTRL then
      let was := s.bit aMEM_CTRL 0
      let now := bitOf v.toNat 0
      if now && !was then
        match s.serveTokens s.engines with
        | .inr t => ((t.plainWrite aMEM_CTRL v).gatherTake 0).gatherTake 1
        | .inl k => s.tokenRefused ((s.enginePav k).getD 0) k true
      else if was && !now then
        (s.engines.foldl (fun s k => s.dropToken k true s.tim.now) s).plainWrite aMEM_CTRL v
      else s.plainWrite aMEM_CTRL v
    else s)

end Sys2Proof.Machine
end

