-- ==== Sys2Proof/Machine/Deliver.lean ====
section
/-! DEFINITION. Routed packets that arrive (R178), and the units of this switch that take them: group stages (R360–R377), streams
(R432, R452) and the gather engines (R489, R490). -/

namespace Sys2Proof.Machine

/-- A good packet for a unit of this switch handed to it by its KIND. `ingress` is the sub-port it came by; a stream packet that
did not come by an L-port names no stream. -/
def State.hand (s : State) (u : ForUnit) : State :=
  let p := u.pkt
  let s := if p.sched then s.bump64 aRTE_FWD_SCHED_LO 1 else s.bump64 aRTE_FWD_UNSCHED_LO 1
  if p.kind = 0x02 ∨ p.kind = 0x04 then s.groupRx p u.held u.first u.at_ u.gw
  else if p.kind = 0x0C then s.gatherIn p u.held
  else
    let s := match u.held with | some h => s.release h | none => s
    if 512 ≤ u.ingress ∧ u.ingress < 640 then
      (if p.kind = 0x08 then s.residualIn (u.ingress / 8 - 64) p u.at_ else s.rawChunkIn (u.ingress / 8 - 64) p)
    else s.strDrop aSTR_DROP_NOSTREAM

/-- A packet that arrives on a link, and is handed on where it is for a unit of this switch. -/
def State.rxLink (s : State) (port sub : Nat) (rx : RxPkt) (arrival : Nat) (injected : Bool) : State :=
  match s.arrive port sub rx arrival injected with
  | (some u, s) => s.hand u
  | (none, s) => s

/-- The oldest packet that the K8 has sent to a unit of its own, of the kind `want`, reaches it. -/
def State.rxOwn (s : State) (want : Pkt → Bool) : State :=
  match s.rte.own.find? fun x => want x.1 with
  | none => s
  | some (p, h) =>
    ({ s with rte := { s.rte with own := s.rte.own.erase (p, h) } }).hand ⟨p, h, 1008, s.tim.now, s.tim.now, s.tim.now⟩

/-- A packet of the kind `want`, from a link or from the K8 itself. -/
def State.rxUnit (s : State) (want : Pkt → Bool) (src : RxSrc) : State :=
  match src with
  | .link port sub rx arrival => if want rx.pkt then s.rxLink port sub rx arrival false else s
  | .own => s.rxOwn want

/-- ROUTED_PACKET_RX (R178): any routed packet on a sub-port. -/
def execRoutedPacketRx (port sub : Nat) (rx : RxPkt) (arrival : Nat) (s : State) : Host.Outcome State Fault Refusal :=
  .next (s.rxLink port sub rx arrival false)

/-- CONTRIB_UP_RX (R360, R365). -/
def execContribUpRx (src : RxSrc) (s : State) : Host.Outcome State Fault Refusal :=
  .next (s.rxUnit (fun p => p.kind == 0x02 && bitsOf p.tag 19 18 == 0) src)

/-- CONTRIB_DOWN_RX (R360, R372). -/
def execContribDownRx (src : RxSrc) (s : State) : Host.Outcome State Fault Refusal :=
  .next (s.rxUnit (fun p => p.kind == 0x02 && bitsOf p.tag 19 18 == 1) src)

/-- FAILURE_NOTICE_RX (R360, R377). -/
def execFailureNoticeRx (src : RxSrc) (s : State) : Host.Outcome State Fault Refusal :=
  .next (s.rxUnit (fun p => p.kind == 0x02 && bitsOf p.tag 19 18 == 2) src)

/-- SEGSUM_RX (R360, R380). -/
def execSegsumRx (src : RxSrc) (s : State) : Host.Outcome State Fault Refusal :=
  .next (s.rxUnit (fun p => p.kind == 0x04) src)

/-- RESIDUAL_RX (R432). -/
def execResidualRx (src : RxSrc) (s : State) : Host.Outcome State Fault Refusal :=
  .next (s.rxUnit (fun p => p.kind == 0x08) src)

/-- RAW_CHUNK_RX (R452). -/
def execRawChunkRx (src : RxSrc) (s : State) : Host.Outcome State Fault Refusal :=
  .next (s.rxUnit (fun p => p.kind == 0x09) src)

/-- GATHER_REQ_RX (R489, R490). -/
def execGatherReqRx (src : RxSrc) (s : State) : Host.Outcome State Fault Refusal :=
  .next (s.rxUnit (fun p => p.kind == 0x0C) src)

end Sys2Proof.Machine
end

