-- ==== Sys2Proof/Machine/Log.lean ====
section
/-! DEFINITION. The event log's commands (R663–R667) and the time-arm command (R568). -/

namespace Sys2Proof.Machine

/-- Entries not yet drained (R664). -/
def State.undrained (s : State) : Nat := s.log.wrSeq - s.log.drainSeq

/-- The 32 bytes of an entry (R669). -/
def entryBytes (e : LogEntry) : List Byte :=
  natLe 8 e.time ++ natLe 4 e.seq ++ natLe 1 e.cls ++ natLe 1 e.sub ++ natLe 1 e.src ++ natLe 1 e.pav
    ++ natLe 4 e.d0 ++ natLe 4 e.d1 ++ natLe 4 e.d2 ++ natLe 4 e.d3

/-- An entry given up: CLASS 0, its SEQ, every other byte 0 (R665, R667). -/
def givenUp (seq : Nat) : LogEntry := ⟨0, seq, 0, 0, 0, 0, 0, 0, 0, 0⟩

/-- The entry the ring shows for a SEQ of 32 bits: none where the ring no longer, or not yet, holds it (R667). -/
def State.ringEntry (s : State) (seq : Nat) : Option LogEntry :=
  let back := (s.log.wrSeq + 2 ^ 32 - 1 - seq % 2 ^ 32) % 2 ^ 32
  let i := (s.log.wrSeq - 1 - back) % 8192
  let e := tblGet (fun _ => givenUp 0) s.log.ring i
  if decide (back < min 8192 s.log.wrSeq) && decide (e.seq % 2 ^ 32 = seq % 2 ^ 32) then
    some (if s.log.bad.contains i then givenUp e.seq else e)
  else none

/-- The writer writes the queue's head to the ring (R663, R664). -/
def State.logWrite1 (s : State) : State :=
  match s.log.queue with
  | [] => s
  | e :: q =>
    let w := s.log.wrSeq
    let full := decide (8192 ≤ s.undrained)
    let s := { s with log := { s.log with
      queue := q
      ring := tblSet s.log.ring (w % 8192) { e with seq := w }
      bad := s.log.bad.filter (· != w % 8192)
      wrSeq := w + 1
      drainSeq := if full then s.log.drainSeq + 1 else s.log.drainSeq } }
    let s := s.bump aLOG_ENTRIES 1
    let s := if full then (s.bump aLOG_OVERWRITTEN 1).evt 6 aLOG_EVENT 2 else s
    if !full && decide (s.undrained = s.fld aLOG_THRESH 13 0) then s.evt 6 aLOG_EVENT 0 else s

/-- LOG_WRITE (R663): one entry in an SCLK cycle, after the cycle of its offer. -/
def execLogWrite (s : State) : Host.Outcome State Fault Refusal :=
  .next (match s.log.queue with
    | [] => s
    | e :: _ =>
      let next := if e.time < s.edgeNs then s.log.nextWrite else max s.log.nextWrite ((s.tim.clk / 32 + 1) * 32)
      let s := s.advTo (s.nowAt next)
      ({ s with log := { s.log with nextWrite := (s.tim.clk / 32 + 1) * 32 } }).logWrite1)

/-- LOG_DRAIN_SEQ moved on by `n`, never past LOG_WR_SEQ; a write counts before the end of a LOG_DRAIN in the same SCLK cycle
(R666). -/
def State.drainAdv (s : State) (n : Nat) : State :=
  let l := s.log
  if s.tim.lock ∧ l.drainAt = s.tim.clk / 32 + 1 then
    let was := min l.wrSeq (l.drainWas + n)
    { s with log := { l with drainWas := was, drainSeq := max was l.drainTo } }
  else { s with log := { l with drainSeq := min l.wrSeq (l.drainSeq + n) } }

/-- The entries a LOG_DRAIN copies from SEQ `q`: at most `n`, stopping where the ring holds another entry (R665).
DEDUCED: log 84. -/
def State.drainCopy (s : State) : Nat → Nat → List LogEntry
  | 0, _ => []
  | n + 1, q =>
    match s.ringEntry q with
    | none => []
    | some e => e :: s.drainCopy n (q + 1)

/-- Each entry given up in a drain is counted and logged with SUB 19 (R658, R665). DEDUCED: log 84. -/
def State.drainBad (s : State) (es : List LogEntry) : State :=
  es.foldl (fun s e =>
    if e.cls = 0 then
      ((s.bump aLOG_TBL_UNCORR 1).evt 6 aLOG_EVENT 5).offer 0x10 19 dieH 0x80 e.seq 8 0 0
    else s) s

/-- LOG_DRAIN (R571, R665): `limit` and the host address; `ok` is whether PCIe took the writes. -/
def execLogDrain (d : Desc) (limit addr : Nat) (ok : Bool) (s : State) : Host.Outcome State Fault Refusal :=
  .next (s.hostCmd d (decide (d.fn = 0)) fun s =>
    if !ok then s.cmdEnd d 0xF2 0 0
    else
      let start := s.log.drainSeq
      let es := s.drainCopy (min limit s.undrained) start
      let s := s.emit (.dma addr (es.flatMap entryBytes))
      let s := { s with log := { s.log with drainSeq := max start (start + es.length), drainAt := s.tim.clk / 32 + 1,
                                            drainWas := start, drainTo := start + es.length } }
      let s := s.drainBad es
      s.cmdEnd d 0 0 (es.length + s.undrained * 2 ^ 32))

end Sys2Proof.Machine
end

