-- ==== Sys2Proof/Machine/ImageBytes.lean ====
section
/-! DEFINITION. An image as bytes (R501, R502): its header and section table, the records whose layout the spec gives (R503,
R505–R507), and whether its form holds. DESIGN CHOICE: log 113. -/

namespace Sys2Proof.Machine

/-! ## Records -/

/-- What an image's length names of its bytes. -/
def imageFile (img : Image) : List Byte := img.bytes.take img.len

/-- A section-table entry: KIND, DIE, COUNT, and OFFSET and LENGTH in bytes (R502). -/
def sectionAt (b : List Byte) (i : Nat) : Nat × Nat × Nat × Nat × Nat :=
  let o := 64 + 16 * i
  (leAt b o 2, leAt b (o + 2) 1, leAt b (o + 4) 4, 64 * leAt b (o + 8) 4, 64 * leAt b (o + 12) 4)

/-- The header's fields in an image (R501). -/
def imageHead (b : List Byte) (img : Image) : Image :=
  { img with fwMin := leAt b 8 4, fports := leAt b 16 1, lports := leAt b 17 1, sports := leAt b 18 1, tokens := leAt b 19 1,
             hbm0 := leAt b 20 4, hbm1 := leAt b 24 4, period := leAt b 28 4, guard := leAt b 32 2, hyst := leAt b 34 2,
             id := leAt b 40 8 }

/-- An action of 16 bytes (R503). -/
def actionOf (b : List Byte) : Action :=
  let w := leAt b 0 16
  { rel := bitsOf w 127 104, offset := bitsOf w 103 93, xs := bitOf w 92, pav := bitsOf w 91 86, kind := bitsOf w 85 80,
    arg := bitsOf w 79 0 }

/-- A launch record of 48 bytes (R505). -/
def launchOf (b : List Byte) : Launch :=
  let r := leAt b 0 4
  let e := leAt b 4 4
  { rowLo := bitsOf r 6 0, rowHi := bitsOf r 14 8, colLo := bitsOf r 23 16, colHi := bitsOf r 31 24, entry := bitsOf e 9 0,
    nlines := bitsOf e 14 10 + 1, pav := bitsOf e 21 16, gate := if bitOf e 22 then some (bitsOf e 29 24) else none,
    tag := leAt b 8 4, ring := leAt b 12 2, params := (List.range 7).map fun i => BitVec.ofNat 32 (leAt b (16 + 4 * i) 4) }

/-- The 32 words of a matrix-unit descriptor (R506). -/
def mxuWords (b : List Byte) : List Nat := (List.range 32).map fun i => leAt b (4 * i) 4

/-- A prefetch record of 16 bytes (R507). -/
def pfOf (b : List Byte) : PfRec :=
  { src := leAt b 0 5, tier := leAt b 5 1 % 4, unit := leAt b 5 1 / 4 % 8, dest := leAt b 8 4, len := leAt b 12 4 }

/-- A weight set: its HBM address (R502). -/
def wsetOf (b : List Byte) : Nat := leAt b 0 5

/-- The entries of a section of an image, `n` bytes each. -/
def entriesOf (b : List Byte) (off n count : Nat) : List (List Byte) :=
  (List.range count).map fun i => (b.drop (off + n * i)).take n

/-- The sections of one kind in an image's bytes on the dies that `at_` names, as entries of `n` bytes. -/
def sectionOf (b : List Byte) (kind n : Nat) (at_ : Nat → Bool) : List (List Byte) :=
  (List.range (leAt b 6 2)).flatMap fun i =>
    let e := sectionAt b i
    if e.1 = kind ∧ at_ e.2.1 = true then entriesOf b e.2.2.2.1 n e.2.2.1 else []

/-- The image as the K8 uses it: what the spec lays out is read from the bytes. -/
def imageRead (img : Image) : Image :=
  let b := imageFile img
  let any := fun (_ : Nat) => true
  { imageHead b img with
    cellRec := (sectionOf b 3 48 any).map launchOf
    actions0 := (sectionOf b 4 16 (· == 0)).map actionOf
    actions1 := (sectionOf b 4 16 (· == 1)).map actionOf
    mxu := (sectionOf b 5 128 any).map mxuWords
    pf := (sectionOf b 6 16 any).map pfOf
    tmpl := sectionOf b 7 16 any
    wset := (sectionOf b 8 8 any).map wsetOf }

/-! ## The form of an image (R501, R502, R512 status 1) -/

/-- Bytes of an entry of a section whose entries have one stated size; 0 where they have none. -/
def entrySize (kind : Nat) : Nat :=
  if kind = 1 then 64 else if kind = 2 then 32 else if kind = 3 then 48 else if kind = 5 then 128
  else if kind = 4 ∨ kind = 6 ∨ kind = 7 ∨ kind = 9 ∨ kind = 0xE ∨ kind = 0x11 then 16
  else if kind = 8 ∨ kind = 0xB ∨ kind = 0xC ∨ kind = 0x10 then 8 else 0

/-- Entry `i` of the section table holds: a KIND of R502, a DIE of 0, 1 or none, and one of the two for ACTIONS, zero in byte 3, and a
section inside the image that is long enough for its entries. DEDUCED: log 113. -/
def sectionForm (b : List Byte) (i : Nat) : Bool :=
  let (kind, die, count, off, len) := sectionAt b i
  decide (1 ≤ kind) && decide (kind ≤ 0x11) && (decide (die ≤ 1) || (die == 0xFF && kind != 4)) && leAt b (67 + 16 * i) 1 == 0
    && decide (off + len ≤ b.length) && decide (entrySize kind * count ≤ len)

/-- No two sections have one KIND and one DIE. -/
def sectionsApart : List (Nat × Nat) → Bool
  | [] => true
  | x :: l => !l.contains x && sectionsApart l

/-- The CRC of an image: over all of it, with the CRC field taken as 0. -/
def imageCrc (b : List Byte) : Nat := crc32c (b.take 12 ++ List.replicate 4 0 ++ b.drop 16)

/-- MAGIC, FORMAT, CRC, the reserved zeros, PERIOD and the section table hold. DEDUCED: log 113. -/
def imageForm (b : List Byte) : Bool :=
  let n := leAt b 6 2
  leAt b 0 4 == 0x4938574B && leAt b 4 2 == 1 && decide (64 + 16 * n ≤ b.length) && leAt b 36 4 == 0 && leAt b 48 16 == 0
    && decide (1 ≤ leAt b 28 4) && decide (leAt b 28 4 ≤ 16777215) && leAt b 12 4 == imageCrc b
    && ((List.range n).all (sectionForm b))
    && sectionsApart ((List.range n).map fun i => ((sectionAt b i).1, (sectionAt b i).2.1))

end Sys2Proof.Machine
end

