-- ==== Sys2Proof/Machine/Image.lean ====
section
/-! DEFINITION. Loading an image (R501–R513): the checks of R512 in their order, and the commit of R513. -/

namespace Sys2Proof.Machine

/-! ## Sizes (R502) -/

/-- A register the LAYOUT section may write: column modes, the BPM layout and the Ember windows (R502). -/
def layoutReg (o : Nat) : Bool :=
  ((List.range 8).any fun i => o == aCEL_COLMODE i)
    || ((List.range 2).any fun d => o == aBPM_SCHED_BASE d || o == aBPM_SCHED_SIZE d || o == aBPM_RING_BASE d
        || (List.range 4).any fun k => o == aBPM_POOL_BASE d k || o == aBPM_POOL_COUNT d k)
    || ((List.range 8).any fun u => o == aMEM_EWIN_BASE u || o == aMEM_EWIN_SIZE u)

/-- Landing entries of one cluster. -/
def landingsOf (img : Image) (c : Nat) : Nat := (img.landing.filter fun e => e.cluster == c).length

/-- A section exceeds its capacity, an index lies beyond its table, a run leaves its region, or a cluster has more than 64
landing entries (R502, R512 status 8). -/
def tooLarge (s : State) (img : Image) : Bool :=
  let replays := (s.regions.filter fun e => (regionOf e.2).valid && (regionOf e.2).kind == 2).length
  (img.instr.any fun e => decide (1024 ≤ e.1) || decide (1024 ≤ e.2.1))
    || (img.landing.any fun e => decide (1024 ≤ e.cluster) || decide (64 ≤ e.index) || decide (64 < landingsOf img e.cluster))
    || decide (65536 < img.cellRec.length) || decide (131072 < img.actions0.length) || decide (131072 < img.actions1.length)
    || decide (16384 < img.mxu.length) || decide (65536 < img.pf.length) || decide (2048 < img.tmpl.length)
    || decide (65536 < img.wset.length) || decide (256 < img.region.length + replays) || decide (65536 < img.cal.length)
    || decide (4096 < img.place.length) || decide (4096 < img.phases.length) || decide (65536 < img.deps.length)
    || (img.data.any fun r => match img.region[r.region]? with
      | some g => decide (g.size * 4096 < r.offset + r.bytes.length)
      | none => true)
    || (img.route.any fun r => decide (2 < r.table) || decide (rteSize r.table ≤ r.index))
    || (img.layout.any fun e => !layoutReg e.1) || (img.gwin.any fun e => decide (256 ≤ e.1))

/-! ## The column map (R35, R36) -/

/-- The surviving physical columns of a die, lowest first. -/
def survivors (mask : Nat) : List Nat := (List.range 132).filter fun p => !bitOf mask p

/-- Physical column of virtual column `v` by the procedure of R35. DEDUCED: log 98. -/
def State.mapOf (s : State) (v : Nat) : Nat :=
  (survivors (if v < 128 then s.fuse.mask0 else s.fuse.mask1)).getD (v % 128) 0

/-- The translation table passes R36. DEDUCED: log 98. -/
def State.xlatOk (s : State) : Bool := (List.range 256).all fun v => s.physCol v == s.mapOf v

/-! ## Records that are not there

A reference to a record beyond a section finds the cleared store of R513. -/

/-- The launch record of a cleared store. -/
def zeroLaunch : Launch :=
  { rowLo := 0, rowHi := 0, colLo := 0, colHi := 0, entry := 0, nlines := 1, pav := 0, gate := none, tag := 0, ring := 0,
    params := [] }

/-- Launch record `i`. DEDUCED: log 47. -/
def imgRec (img : Image) (i : Nat) : Launch := img.cellRec.getD i zeroLaunch

/-- Descriptor `i`. DEDUCED: log 47. -/
def imgDesc (img : Image) (i : Nat) : List Nat := img.mxu.getD i (List.replicate 32 0)

/-- Prefetch record `i`. DEDUCED: log 47. -/
def imgPf (img : Image) (i : Nat) : PfRec := img.pf.getD i ⟨0, 0, 0, 0, 0⟩

/-! ## Ownership (R512 status 10) -/

/-- Every column of a launch and its ring belong to its pavilion. -/
def State.launchOwned (s : State) (l : Launch) : Bool :=
  ((List.range (l.colHi + 1 - l.colLo)).all fun i => s.columnPav (l.colLo + i) == some l.pav) && s.ownsRing l.pav l.ring

/-- The group an action names is its pavilion's run. -/
def colKind (k : Nat) : Bool := k == 8 || k == 9 || k == 0xA || k == 0xB

/-- `n` bytes of HBM from `addr` lie in a TENSOR region of the image that a pavilion owns. -/
def imgTensor (img : Image) (p addr n : Nat) : Bool :=
  img.region.any fun r => r.kind == 0 && r.pav == p && r.die == addr / 2 ^ 39 && decide (4096 * r.base ≤ addr % 2 ^ 39)
    && decide (addr % 2 ^ 39 + n ≤ 4096 * (r.base + r.size))

/-- What an action names belongs to its pavilion. DEDUCED: log 47. -/
def State.actionOwned (s : State) (img : Image) (a : Action) : Bool :=
  if a.kind = 1 then (imgRec img (bitsOf a.arg 15 0)).pav == a.pav
  else if a.kind = 2 then dPav (imgDesc img (bitsOf a.arg 13 0)) == a.pav
  else if a.kind = 3 ∨ a.kind = 4 ∨ a.kind = 5 then s.ownsStream a.pav (bitsOf a.arg 15 0)
  else if a.kind = 6 then
    let r := imgPf img (bitsOf a.arg 15 0)
    (r.tier != 0 || s.unitPav r.unit == some a.pav) && imgTensor img a.pav r.src r.len
  else if colKind a.kind then s.ownsGroup a.pav (bitsOf a.arg 11 0)
  else s.portPav (bitsOf a.arg 9 3) == some a.pav

/-- A descriptor's units, ring and HBM source belong to its pavilion. -/
def State.descOwned (s : State) (img : Image) (d : List Nat) : Bool :=
  s.unitPav (dUnit d) == some (dPav d) && s.ownsRing (dPav d) (dRing d)
    && (dTier d != 1 || s.unitPav (dOutUnit d) == some (dPav d))
    && (dGsrc d != 4 || tableBytes d == 0
      || imgTensor img (dPav d) (dUnit d / 4 * 2 ^ 39 + dw d 20 27 0 * 4096) (tableBytes d))

/-- A port of the image is its pavilion's, or no pavilion's (R592). -/
def State.portServes (s : State) (p egr : Nat) : Bool := (match s.portPav (egr / 8) with | some q => q == p | none => true)

/-- The PAVILION of a template (R164, R509). -/
def tmplPav (w : List Byte) : Nat := bitsOf (beNat w) 113 108

/-- What a ROUTE entry leaves in its table: only the fields that R183 gives the image change. -/
def State.routed (s : State) (r : RouteEnt) : Nat :=
  let old := s.rteGet r.table r.index
  if r.table = 0 then old - bitsOf old 21 12 * 2 ^ 12 + r.egr % 1024 * 2 ^ 12
  else old - bitsOf old 25 15 * 2 ^ 15 + (b2n r.valid + 2 * (r.egr % 1024)) * 2 ^ 15

/-- A ROUTE entry does not take a valid endpoint entry to another pavilion's port (R595). -/
def State.routeOwned (s : State) (r : RouteEnt) : Bool := r.table != 0 || !s.foreignEp 0 (s.routed r)

/-- Every entry names only what its pavilion owns; a template, launch record or calendar run names a pavilion of the table (R591).
A switch or site entry of ROUTE has no pavilion. DEDUCED: log 47. -/
def State.imageOwned (s : State) (img : Image) : Bool :=
  (img.landing.all fun e => s.columnPav (e.cluster / 4) == some e.pav && (!e.trigger || s.launchOwned e.launch))
    && (img.cellRec.all s.launchOwned) && (img.mxu.all (s.descOwned img))
    && (img.region.all fun r => s.ownsHbm r.pav r.die (r.base * 4096) (r.size * 4096))
    && ((img.actions0 ++ img.actions1).all (s.actionOwned img))
    && (img.tmpl.all fun w => (s.pavEntry (tmplPav w)).valid)
    && (img.cal.all fun r => (s.pavEntry r.pav).valid && s.portServes r.pav r.run.egr) && (img.route.all s.routeOwned)
    && (img.place.all fun p =>
      if p.tier = 0 then s.columnPav p.where2 == some p.pav
      else if p.tier = 3 then s.unitPav p.where1 == some p.pav
      else true)

/-! ## Placement (R496, R512 status 11) -/

/-- A LAYOUT register's value after the load. -/
def State.layoutVal (s : State) (img : Image) (o : Nat) : Nat :=
  match img.layout.reverse.find? fun e => e.1 == o with
  | some e => e.2.toNat
  | none => (s.reg o).toNat

/-- A PLACE range lies in its tier, and for a shared tier in what its pavilion owns. DEDUCED: log 72. -/
def State.placeFits (s : State) (img : Image) (p : PlaceEnt) : Bool :=
  if p.tier = 0 then decide (p.where1 < 128) && decide (p.where2 < 256) && decide (p.base + p.size ≤ 16384)
  else if p.tier = 1 then
    let b := 64 * bitsOf (s.layoutVal img (aBPM_SCHED_BASE p.where1)) 20 0
    let n := 64 * bitsOf (s.layoutVal img (aBPM_SCHED_SIZE p.where1)) 21 0
    decide (p.where1 < 2) && decide (b ≤ p.base) && decide (p.base + p.size ≤ b + n)
      && s.ownsSbuf p.pav p.where1 p.base p.size
  else if p.tier = 2 then decide (p.where1 < 2) && decide (p.base + p.size ≤ 2 ^ 26) && s.ownsEmber p.pav p.where1 p.base p.size
  else decide (p.tier = 3) && decide (p.where1 < 8) && decide (p.base + p.size ≤ 2 ^ 24)

/-- Two ranges of one memory share a byte. -/
def placeMeet (p q : PlaceEnt) : Bool :=
  p.tier == q.tier && p.where1 == q.where1 && (p.tier != 0 || p.where2 == q.where2)
    && decide (p.base < q.base + q.size) && decide (q.base < p.base + p.size)

/-- `n` bytes from `a` lie in one PLACE range of the pavilion. -/
def imgPlaced (img : Image) (tier w1 w2 pav a n : Nat) : Bool :=
  img.place.any fun p => p.tier == tier && p.where1 == w1 && (tier != 0 || p.where2 == w2) && p.pav == pav
    && decide (p.base ≤ a) && decide (a + n ≤ p.base + p.size)

/-- A span of a descriptor lies in a PLACE range. -/
def spanPlaced (img : Image) (tier w1 pav : Nat) (x : Span) : Bool := imgPlaced img tier w1 0 pav x.key x.extent

/-- A descriptor's addresses are placed. -/
def descPlaced (img : Image) (d : List Nat) : Bool :=
  let die := dUnit d / 4
  let p := dPav d
  ((opSpans d).all (spanPlaced img 3 (dUnit d) p))
    && ((outSpans d).all (if dTier d = 0 then spanPlaced img 3 (dUnit d) p else if dTier d = 1 then spanPlaced img 3 (dOutUnit d) p
      else if dTier d = 2 then spanPlaced img 2 die p else spanPlaced img 1 die p))
    && (dGsrc d == 0 || dGsrc d == 4 || tableBytes d == 0
      || imgPlaced img (if dGsrc d = 1 then 3 else if dGsrc d = 2 then 2 else 1) (if dGsrc d = 1 then dUnit d else die) 0 p
        (dAddr d 20) (tableBytes d))

/-- The destination of a prefetch record lies in some PLACE range of its tier: the record itself names neither a pavilion nor a die
(R496, R507). DEDUCED: log 72. -/
def recPlaced (img : Image) (r : PfRec) : Bool :=
  img.place.any fun p => p.tier == (if r.tier = 0 then 3 else if r.tier = 1 then 2 else 1) && (r.tier != 0 || p.where1 == r.unit)
    && decide (p.base ≤ r.dest) && decide (r.dest + r.len ≤ p.base + p.size)

/-- A prefetch that an action of a die names writes a placed range of the action's pavilion. -/
def pfPlaced (img : Image) (die : Nat) (a : Action) : Bool :=
  if a.kind = 6 then
    let r := imgPf img (bitsOf a.arg 15 0)
    imgPlaced img (if r.tier = 0 then 3 else if r.tier = 1 then 2 else 1) (if r.tier = 0 then r.unit else die) 0 a.pav r.dest r.len
  else true

/-- Regions lie in HBM, are not empty, share no byte with each other or with a REPLAY region, and one at most is CAPTURE
(R466). -/
def State.regionsFit (s : State) (rs : List RegionSec) : Bool :=
  let keep := (s.regions.map fun e => regionOf e.2).filter fun r => r.valid && r.kind == 2
  let meet := fun (r : RegionSec) (die base size : Nat) =>
    r.die == die && decide (r.base < base + size) && decide (base < r.base + r.size)
  let rec go : List RegionSec → Bool
    | [] => true
    | r :: l => decide (r.size ≠ 0) && decide (r.kind ≤ 1) && decide (r.die < 2)
        && decide ((r.base + r.size) * 4096 ≤ hbmBytes s.fuse.asm)
        && !(keep.any fun k => meet r k.die k.base k.size)
        && !(l.any fun q => meet r q.die q.base q.size || (r.kind == 1 && q.kind == 1)) && go l
  go rs

/-- Every PLACE range and every named address passes R496. DEDUCED: log 72. -/
def State.imagePlaced (s : State) (img : Image) : Bool :=
  s.regionsFit img.region && (img.place.all (s.placeFits img))
    && (img.place.all fun p => !(img.place.any fun q => decide (q.pav ≠ p.pav) && placeMeet p q))
    && (img.landing.all fun e => imgPlaced img 0 (32 * (e.cluster % 4) + e.row) (e.cluster / 4) e.pav e.addr e.len)
    && (img.mxu.all (descPlaced img)) && (img.pf.all (recPlaced img)) && (img.actions0.all (pfPlaced img 0)) && (img.actions1.all (pfPlaced img 1))
    && ((List.range 8).all fun u =>
      let n := 64 * bitsOf (s.layoutVal img (aMEM_EWIN_SIZE u)) 18 0
      n == 0 || !(img.layout.any fun e => e.1 == aMEM_EWIN_BASE u || e.1 == aMEM_EWIN_SIZE u)
        || (match s.unitPav u with
          | some p => imgPlaced img 3 u 0 p (64 * bitsOf (s.layoutVal img (aMEM_EWIN_BASE u)) 17 0) n
          | none => false))

/-! ## The rest of R512 -/

/-- Edges whose head waits on nothing are taken away, until none is left or a cycle is: one pass for each unit of fuel. -/
def acyclic : Nat → List (Nat × Nat) → Bool
  | _, [] => true
  | 0, _ => false
  | n + 1, es => acyclic n (es.filter fun e => es.any fun f => f.1 == e.2)

/-- Every declared count is within its allotment and every phase total within the budget (R498). -/
def State.phasesOk (s : State) (img : Image) : Bool :=
  img.phases.all fun p => (p.counts.all fun c => decide (c.2 ≤ (s.pavEntry c.1).tokens))
    && decide ((p.counts.map (·.2)).foldl (· + ·) 0 ≤ s.budget)

/-- A list in ascending order of (REL_SLOT, OFFSET), inside the period (R503). -/
def ordered (period : Nat) : List Action → Bool
  | [] => true
  | a :: l => decide (a.rel < period) && decide (a.offset ≤ 1919)
    && (match l with
      | b :: _ => decide (a.rel < b.rel) || (a.rel == b.rel && decide (a.offset ≤ b.offset))
      | [] => true) && ordered period l

/-- KIND values that R503 lists, and *W* of a PORT_REST (R135). -/
def actionForm (a : Action) : Bool :=
  ((decide (1 ≤ a.kind) && decide (a.kind ≤ 6)) || colKind a.kind
    || (a.kind == 0x10 && decide (4 ≤ bitsOf a.arg 31 16)))

/-- The header requirement that first exceeds the part (R512 status 4): 1 F-ports, 2 L-ports, 3 S-ports, 4 HBM, 5 tokens. -/
def State.resource (s : State) (img : Image) : Nat :=
  let r := s.fuse.resrc
  if bitsOf r 7 0 < img.fports then 1
  else if bitsOf r 15 8 < img.lports then 2
  else if bitsOf r 23 16 < img.sports then 3
  else if hbmBytes s.fuse.asm < img.hbm0 * 2 ^ 20 ∨ hbmBytes s.fuse.asm < img.hbm1 * 2 ^ 20 then 4
  else if s.budget < img.tokens then 5
  else 0

/-- The first status of R512 that fails, and its DETAIL; 0 where all pass. -/
def State.loadStatus (s : State) (img : Image) : Nat × Nat :=
  if !imageForm (imageFile img) || !((img.actions0 ++ img.actions1).all actionForm) then (1, 0)
  else if s.boot.fwver < img.fwMin then (2, 0)
  else if !s.boot.fuseOk then (3, 0)
  else if s.resource img ≠ 0 then (4, s.resource img)
  else if s.sched.launched || s.bit aMEM_CTRL 0 || s.loading.isSome then (5, 0)
  else if tooLarge s img then (8, 0)
  else if !s.xlatOk then (9, 0)
  else if !s.imageOwned img then (10, 0)
  else if !s.imagePlaced img then (11, 0)
  else if !acyclic img.deps.length img.deps then (12, 0)
  else if !s.phasesOk img then (13, 0)
  else if !(ordered img.period img.actions0 && ordered img.period img.actions1) then (14, 0)
  else (0, 0)

/-! ## Commit (R513) -/

/-- LAST_LOAD_STATUS and DETAIL; a refusal sets LOAD_REFUSED. -/
def State.loadRecord (s : State) (status detail : Nat) : State :=
  let s := (s.setFld aPWR_IMG_STATE 15 8 status).setFld aPWR_IMG_STATE 23 16 detail
  if status = 0 then s else s.evt 19 aPWR_EVENT 3

/-- The loaded image is discarded: its stores, the instruction stores among them, are cleared, and its TENSOR and CAPTURE regions
removed (R513). -/
def State.unload (s : State) : State :=
  let s := s.zero (istoreKey 0 0) (istoreKey 1024 0)
  { s with img := none, regions := s.regions.filter fun e => (regionOf e.2).kind == 2
           cel := { s.cel with counts := [], pend := [], queue := [], full := [] } }

/-- A TENSOR region is locked while a schedule is launched, whose image names it, and while GSVC_EN is 1 and a valid gather-table entry
names it (R469). -/
def State.rgnLocked (s : State) (r : Region) : Bool :=
  r.valid && r.kind == 0 && (s.sched.launched || (s.bit aMEM_CTRL 0 && s.gtbl.any fun e =>
    let t := gtabOf e.2
    t.valid && t.die == r.die && decide (t.base < 4096 * (r.base + r.size)) && decide (4096 * r.base < t.base + t.rows * t.row)))

/-- The data of an image goes to bytes of a locked region (R469). -/
def State.dataLocked (s : State) (img : Image) : Bool :=
  img.data.any fun x => match img.region[x.region]? with
    | some g => s.regions.any fun e =>
      let r := regionOf e.2
      s.rgnLocked r && r.die == g.die && decide (g.base * 4096 + x.offset < 4096 * (r.base + r.size))
        && decide (4096 * r.base < g.base * 4096 + x.offset + x.bytes.length)
    | none => false

/-- The lowest region index with nothing valid in it. -/
def State.freeRegion (s : State) : Option Nat := (List.range 256).find? fun i => !(s.region i).valid

/-- The image's regions entered, lowest free indices first; R512's status 8 has left room for every one. DEDUCED: log 72. -/
def State.putRegions (s : State) (rs : List RegionSec) : State :=
  rs.foldl (fun s r => match s.freeRegion with
    | some i => { s with regions := tblSet s.regions i (regionWord r) }
    | none => s) s

/-- IMAGE_LOAD (R512, R566): refused, or the image of before is discarded, the regions are entered, and the host-DMA writing of the
sections begins. A load refused BUSY whose data goes to a locked region shows in MEM_EVENT (R469). DEDUCED: log 72. -/
def execImageLoad (d : Desc) (img : Image) (s : State) : Host.Outcome State Fault Refusal :=
  .next (s.hostCmd d (decide (d.fn = 0)) fun s =>
    if !img.dmaOk || decide (img.addr % 64 ≠ 0) then s.cmdEnd d 0xF2 0 0
    else
      let img := imageRead img
      let r := s.loadStatus img
      let s := if r.1 = 0 ∨ 9 ≤ r.1 then s.setFld aCEL_STATUS 1 1 (b2n (r.1 != 9)) else s
      let s := if r.1 = 5 ∧ s.dataLocked img = true then s.evt 17 aMEM_EVENT 0 else s
      if r.1 ≠ 0 then (s.loadRecord r.1 r.2).cmdEnd d r.1 r.2 0
      else { s.unload.putRegions img.region with loading := some (s.noOf d, img) })

/-- A run of TENSOR_DATA written by host DMA: into a TENSOR region that holds it, or else refused (R467, R468). -/
def State.dataWrite (s : State) (img : Image) (x : TensorRun) : State :=
  match img.region[x.region]? with
  | some g =>
    let off := g.base * 4096 + x.offset
    match s.regionAt 0 g.die off x.bytes.length with
    | some _ => s.wr (g.die * 2 ^ 39 + off) x.bytes
    | none => s.memDenied 1 (g.die * 2 ^ 39 + off) 0 g.pav
  | none => s

/-- One LAYOUT register written: a BPM layout register only while its die's BPM is not enabled (R220), and CEL_COLMODE only while
no launch runs (R352). DEDUCED: log 72. -/
def State.layoutWrite (s : State) (o : Nat) (v : Word) : State :=
  let die := o / 0x4000 % 2
  if blockOf o = 11 && s.bit (aBPM_CTRL die) 0 then s.bpmEvt die 0
  else if blockOf o = 13 && decide (s.cel.runs ≠ []) then s.celEvt 0
  else s.plainWrite o v

/-- One ROUTE entry written; one that R595 forbids is ignored. -/
def State.routeWrite (s : State) (r : RouteEnt) : State :=
  if s.routeOwned r then s.rteSet r.table r.index (s.routed r) else s.rteEvt 1

/-- The sections written (R513); the K8's own flows start at 0 (R200). DEDUCED: log 72. -/
def State.commitImage (s : State) (img : Image) : State :=
  let s := img.instr.foldl (fun s e => s.wr (istoreKey e.1 (64 * e.2.1)) (e.2.2.take 64)) s
  let s := img.data.foldl (fun s x => s.dataWrite img x) s
  let runs := (List.range img.cal.length).zip (img.cal.map fun r => r.run.offset + r.run.len * 2 ^ 24 + r.run.egr * 2 ^ 40)
  let s := { s with rte := { s.rte with cal := runs } }
  let s := (s.setFld aSCH_CAL_COUNT 16 0 img.cal.length).setFld aSCH_CAL_PERIOD 23 0 img.period
  let s := img.route.foldl State.routeWrite s
  let s := img.layout.foldl (fun s e => s.layoutWrite e.1 e.2) s
  let s := { s with gwin := img.gwin.foldl (fun (t : List (Nat × Nat)) (e : Nat × Nat × Nat) =>
    tblSet t e.1 (e.2.1 % 2 ^ 24 + (e.2.2 &&& 0xFFFF01FF) * 2 ^ 32)) [] }
  let s := s.setReg aTIM_XGUARD (BitVec.ofNat 32 (img.guard % 65536 + img.hyst % 65536 * 65536))
  let s := (s.setReg aPWR_IMG_ID_LO (BitVec.ofNat 32 img.id)).setReg aPWR_IMG_ID_HI (BitVec.ofNat 32 (img.id / 2 ^ 32))
  { s with img := some img, loading := none, rte := { s.rte with flows := [] } }

/-- IMAGE_LOAD_DONE (R513): the writing ends and the command completes; `ok` is whether PCIe took the completion.
DEDUCED: log 73. -/
def execImageLoadDone (ok : Bool) (s : State) : Host.Outcome State Fault Refusal :=
  .next (match s.loading with
    | none => s
    | some (no, img) => ((s.commitImage img).loadRecord 0 0).cmdDone no 0 0 0 ok)

end Sys2Proof.Machine
end

