-- ==== Sys2Proof/Machine/Actions.lean ====
section
/-! DEFINITION. The schedule's commands (R515–R517) and the bandstands: refill, firing, withheld, late and skipped actions
(R58–R64, R92–R94, R101, R503, R504). -/

namespace Sys2Proof.Machine

/-! ## Replay of a capture as the schedule sees it (R539, R542) -/

/-- Replay ends with a status; one other than DONE sets RPL_END (R542). -/
def State.replayEnd (s : State) (code : Nat) : State :=
  if !s.rpl.active then s
  else
    let s := { s with rpl := { s.rpl with active := false } }
    let s := (s.setFld aDET_RPL_STATUS 3 0 code).setFld aDET_RPL_STATUS 31 31 0
    if code = 1 then s else s.evt 18 aDET_EVENT 4

/-- Replay starts with an accepted schedule launch where it is enabled (R539); until the CAPTURE_START mark is read, WITHHOLD is
a free value. DEDUCED: log 80. -/
def State.replayStart (s : State) : State :=
  if s.bit aDET_RPL_CTRL 0 then
    let f := s.freeWord
    let t := { f.2 with rpl := { active := true, withhold := f.1.toNat.testBit 0 } }
    ((t.setReg aDET_RPL_POS 0).setFld aDET_RPL_STATUS 3 0 0).setFld aDET_RPL_STATUS 31 31 1
  else s

/-! ## Launch and stop -/

/-- Two runs of one egress overlap. -/
def runsMeet (a b : CalRun) : Bool := a.egr == b.egr && decide (a.offset < b.offset + b.len) && decide (b.offset < a.offset + a.len)

/-- The calendar check of R264. -/
def State.calOk (s : State) : Bool :=
  let rs := s.calRuns
  let rec go : List CalRun → Bool
    | [] => true
    | r :: l => decide (1 ≤ r.len) && decide (r.offset + r.len ≤ s.calPeriod) && s.egrOk r.egr
        && (match l with | q :: _ => decide (r.offset ≤ q.offset) | [] => true)
        && !(l.any (runsMeet r)) && go l
  decide (s.fld aSCH_CAL_COUNT 16 0 ≤ 65536) && decide (rs.length = s.fld aSCH_CAL_COUNT 16 0) && go rs

/-- Every stage action names a valid scheduled group of its pavilion (R515). -/
def State.groupsOk (s : State) (img : Image) : Bool :=
  (img.actions0 ++ img.actions1).all fun a => !colKind a.kind
    || (match s.grp (bitsOf a.arg 11 0) with | some x => !x.unsched && x.pav == a.pav | none => false)

/-- Host DMA is writing the data of an image into TENSOR regions (R469). -/
def State.dataComing (s : State) : Bool := match s.loading with | some (_, img) => !img.data.isEmpty | none => false

/-- The first status of R515 that fails; 0 where none does. While an image's data is being written, that image is the one a launch
names, and its regions are busy (R469). DEDUCED: log 44. -/
def State.launchStatus (s : State) (start : Nat) : Nat :=
  match s.img with
  | none =>
    if !s.dataComing then 1
    else if s.tooLate start then 3
    else if !s.calOk then 4
    else 5
  | some img =>
    if s.sched.launched then 2
    else if s.tooLate start then 3
    else if !s.calOk then 4
    else if !s.groupsOk img then 6
    else 0

/-- A schedule launched: both queues empty, both lists from their start (R515, R516). DEDUCED: log 44. -/
def State.launchAt (s : State) (start iters : Nat) : State :=
  let s := { s with sched := { launched := true, start := start, iters := iters, stop := none, stoppers := [], desync := false,
                               q0 := [], q1 := [], pos0 := 0, pos1 := 0, fired0 := 0, fired1 := 0,
                               fill0 := s.cyc, fill1 := s.cyc, skips := [], unload := false } }
  ((s.setReg aPWR_START_LO (BitVec.ofNat 32 start)).setReg aPWR_START_HI (BitVec.ofNat 32 (start / 2 ^ 32))).replayStart

/-- SCHED_LAUNCH (R515). -/
def execSchedLaunch (d : Desc) (start iters : Nat) (s : State) : Host.Outcome State Fault Refusal :=
  .next (s.hostCmd d (decide (d.fn = 0)) fun s =>
    let r := s.launchStatus start
    let s := if r = 4 then s.evt 12 aSCH_EVENT 5 else if r = 5 then s.evt 17 aMEM_EVENT 0 else s
    (if r = 0 then (s.launchAt start iters).tapLapse else s).cmdEnd d r 0 0)

/-- SCHED_STOP (R517): the command waits for the schedule's end; a stop later than an earlier end changes nothing.
DEDUCED: log 44. -/
def execSchedStop (d : Desc) (stopSlot : Nat) (s : State) : Host.Outcome State Fault Refusal :=
  .next (s.hostCmd d (decide (d.fn = 0)) fun s =>
    if !s.sched.launched then s.cmdEnd d 7 0 0
    else if s.tooLate stopSlot then s.cmdEnd d 3 0 0
    else
      let e := match s.sched.stop with | some x => min x stopSlot | none => stopSlot
      { s with sched := { s.sched with stop := some e, stoppers := s.sched.stoppers ++ [s.noOf d] } })

/-! ## Refill (R516) -/

/-- A die's action list. -/
def State.actions (s : State) (die : Nat) : List Action :=
  match s.img with | some i => if die = 0 then i.actions0 else i.actions1 | none => []

/-- A die's queue. -/
def State.queue (s : State) (die : Nat) : List QAction := if die = 0 then s.sched.q0 else s.sched.q1

/-- A die's queue replaced. -/
def State.setQueue (s : State) (die : Nat) (q : List QAction) : State :=
  { s with sched := if die = 0 then { s.sched with q0 := q } else { s.sched with q1 := q } }

/-- Actions taken from a die's list. -/
def State.qpos (s : State) (die : Nat) : Nat := if die = 0 then s.sched.pos0 else s.sched.pos1

/-- The CCLK cycle an action fires in by R59. -/
def QAction.nominal (a : QAction) : Nat := a.slot * slotCycles + a.act.offset

/-- The CCLK cycle in which a die's refill engine makes its next append: one in every second cycle (R516). -/
def State.fillCycle (s : State) (die : Nat) : Nat := max s.cyc (if die = 0 then s.sched.fill0 else s.sched.fill1)

/-- The next action of a die's list, while it lies before the schedule's end (R504, R517); one whose cycle has passed when it is
appended is late (R61). DEDUCED: log 46. -/
def State.nextAct (s : State) (die : Nat) : Option QAction :=
  let l := s.actions die
  let pos := s.qpos die
  match l[pos % max 1 l.length]? with
  | none => none
  | some a =>
    let m := pos / l.length
    let slot := s.sched.start + m * s.period + a.rel
    if s.inSchedule slot then
      let q : QAction := ⟨a, slot, m, false⟩
      some { q with late := decide (q.nominal < s.fillCycle die) }
    else none

/-- ACTION_REFILL (R516). -/
def execActionRefill (die : Nat) (s : State) : Host.Outcome State Fault Refusal :=
  .next (if s.sched.launched && !s.sched.desync && decide ((s.queue die).length < 64) && s.running then
      match s.nextAct die with
      | none => s
      | some a =>
        let s := s.setQueue die (s.queue die ++ [a])
        let c := s.fillCycle die + 2
        { s with sched := if die = 0 then { s.sched with pos0 := s.sched.pos0 + 1, fill0 := c }
                          else { s.sched with pos1 := s.sched.pos1 + 1, fill1 := c } }
    else s)

/-! ## Firing (R59–R64, R92) -/

/-- Cycle after a die's last firing. -/
def State.firedAt (s : State) (die : Nat) : Nat := if die = 0 then s.sched.fired0 else s.sched.fired1

/-- The cycle in which the head of a die's queue fires: its own, or the one after the last firing (R59, R60). -/
def State.fireCycle (s : State) (die : Nat) (a : QAction) : Nat := max a.nominal (s.firedAt die)

/-- Neither die's head comes before this one: in one cycle C0's action is first (R499). -/
def State.firstFires (s : State) (die : Nat) (a : QAction) : Bool :=
  match s.queue (1 - die) with
  | [] => true
  | b :: _ =>
    if b.late then false
    else if die = 0 then decide (s.fireCycle 0 a ≤ s.fireCycle 1 b) else decide (s.fireCycle 1 a < s.fireCycle 0 b)

/-- A forward step has skipped the slot (R101). -/
def State.skipped (s : State) (slot : Nat) : Bool := s.sched.skips.any fun r => decide (r.1 ≤ slot) && decide (slot < r.2)

/-- The head leaves its die's queue. -/
def State.dropHead (s : State) (die : Nat) : State := s.setQueue die ((s.queue die).drop 1)

/-- The head of a die's queue is taken where it has this KIND: it fires in its cycle; a withheld one (XS in a slot with WITHHOLD,
R92), a late one (R61) and one in a slot that a step skipped (R101) are counted, and `missed` gives what they leave, told whether the
action was late.
DEDUCED: log 45. -/
def State.takeHead (s : State) (die kind : Nat) (act : State → QAction → Nat → State)
    (missed : State → QAction → Bool → State) : State :=
  match s.queue die with
  | [] => s
  | a :: _ =>
    if decide (a.act.kind ≠ kind) || s.sched.desync || !s.running || !(a.late || s.firstFires die a) then s
    else if !s.inSchedule a.slot then s.dropHead die
    else if s.skipped a.slot then missed ((s.dropHead die).bump aTIM_SKIPPED_ACTIONS 1) a false
    else if a.late then
      ((missed ((s.dropHead die).bump16 aTIM_BST_LATE die 1) a true)).hazard 6
    else
      let c := s.fireCycle die a
      let s := (s.dropHead die).toCyc c
      let s := { s with sched := if die = 0 then { s.sched with fired0 := c + 1 } else { s.sched with fired1 := c + 1 } }
      let s := if c = a.nominal then s else s.bump16 aTIM_BST_SLIP die (c - a.nominal)
      if a.act.xs && s.withheld then missed (s.bump aTIM_WITHHELD_ACTIONS 1) a false else act s a c

/-! ## What each KIND does -/

/-- The image, or one with nothing in it. -/
def State.image (s : State) (f : Image → State) : State := match s.img with | some i => f i | none => s

/-- A cell launch that was withheld (2) or late (3). -/
def State.cellMissed (s : State) (a : QAction) (late : Bool) : State :=
  s.image fun i => s.cellNotRun (imgRec i (bitsOf a.act.arg 15 0)) (if late then 3 else 2) 0

/-- A matrix-unit launch that was withheld or late. -/
def State.mxuMissed (s : State) (a : QAction) (late : Bool) : State :=
  s.image fun i => s.mxuNotRun (imgDesc i (bitsOf a.act.arg 13 0)) (if late then 3 else 2) 0

/-- A stream action that was withheld or late (R61, R450). -/
def State.streamMissed (s : State) (role : Nat) (a : QAction) (late : Bool) : State :=
  let i := bitsOf a.act.arg 15 0
  let s := s.strDue i
  if s.strAct i role a.act.pav then s.strMissed i a.act.kind (if late then 7 else 2) s.cyc else s

/-- A stream action that fires, after every stream command due by then. -/
def State.streamFire (s : State) (role : Nat) (a : QAction) (f : State → Nat → State) : State :=
  let i := bitsOf a.act.arg 15 0
  let s := s.strDue i
  if s.strAct i role a.act.pav then f s i else s

/-- The group of a stage action is valid, scheduled and of the action's pavilion (R515). -/
def State.groupFire (s : State) (a : QAction) (f : State → Nat → State) : State :=
  let g := bitsOf a.act.arg 11 0
  match s.grp g with
  | some x => if !x.unsched && x.pav == a.act.pav then f s g else s
  | none => s

/-- A stage action that was withheld or late. -/
def State.groupMissed (s : State) (a : QAction) (late : Bool) : State :=
  s.groupFire a fun s g => s.colMissed g a.act.kind (if late then 4 else 2)

/-- CELL_LAUNCH (R316–R318, R504). -/
def execCellLaunch (die : Nat) (s : State) : Host.Outcome State Fault Refusal :=
  .next (s.takeHead die 1 (fun s a c => s.image fun i => s.fireLaunch (imgRec i (bitsOf a.act.arg 15 0)) a.iter c none)
    State.cellMissed)

/-- MXU_LAUNCH (R402–R404, R504). -/
def execMxuLaunch (die : Nat) (s : State) : Host.Outcome State Fault Refusal :=
  .next (s.takeHead die 2 (fun s a c => s.image fun i =>
      let d := imgDesc i (bitsOf a.act.arg 13 0)
      s.fireMxu d (dStep d + a.iter) c)
    State.mxuMissed)

/-- STREAM_SEND (R435). -/
def execStreamSend (die : Nat) (s : State) : Host.Outcome State Fault Refusal :=
  .next (s.takeHead die 3 (fun s a c => s.streamFire 1 a fun s i => s.strSend i c) (fun s a l => s.streamMissed 1 a l))

/-- STREAM_DECODE (R436). -/
def execStreamDecode (die : Nat) (s : State) : Host.Outcome State Fault Refusal :=
  .next (s.takeHead die 4 (fun s a c => s.streamFire 2 a fun s i => s.strDecode i c) (fun s a l => s.streamMissed 2 a l))

/-- STREAM_UPDATE (R418). -/
def execStreamUpdate (die : Nat) (s : State) : Host.Outcome State Fault Refusal :=
  .next (s.takeHead die 5 (fun s a c => s.streamFire 0 a fun s i => s.strUpdate i (bitsOf a.act.arg 33 16) c)
    (fun s a l => s.streamMissed 0 a l))

/-- PREFETCH (R473–R475). One that is withheld or late moves nothing. -/
def execPrefetch (die : Nat) (s : State) : Host.Outcome State Fault Refusal :=
  .next (s.takeHead die 6 (fun s a c => s.image fun i => s.firePf (imgPf i (bitsOf a.act.arg 15 0)) a.act.pav die c)
    (fun s _ _ => s))

/-- COL_START (R363). -/
def execColStart (die : Nat) (s : State) : Host.Outcome State Fault Refusal :=
  .next (s.takeHead die 8 (fun s a _ => s.groupFire a fun s g => s.colStart g a.slot) State.groupMissed)

/-- COL_LAUNCH (R376). -/
def execColLaunch (die : Nat) (s : State) : Host.Outcome State Fault Refusal :=
  .next (s.takeHead die 9 (fun s a c => s.groupFire a fun s g => s.colLaunch g a.iter c) State.groupMissed)

/-- COL_UP (R377). -/
def execColUp (die : Nat) (s : State) : Host.Outcome State Fault Refusal :=
  .next (s.takeHead die 0xA (fun s a _ => s.groupFire a fun s g => s.colUp g) State.groupMissed)

/-- COL_DOWN (R372). -/
def execColDown (die : Nat) (s : State) : Host.Outcome State Fault Refusal :=
  .next (s.takeHead die 0xB (fun s a _ => s.groupFire a fun s g => s.colDown g) State.groupMissed)

/-- A scheduled rest begins on an F- or L-port sub-port that is UP, after the packet in progress (R133, R135).
DEDUCED: log 47. -/
def State.restAt (s : State) (a : QAction) : State :=
  let e := bitsOf a.act.arg 9 0
  let win := a.slot + bitsOf a.act.arg 31 16
  if s.egrOk e && s.egrUp e then
    if (s.egr e).sending.isSome then s.setSub (e / 8) (e % 8) { s.sub (e / 8) (e % 8) with pend := some win }
    else s.restSched e win
  else s

/-- PORT_REST (R135). One that is withheld or late rests nothing. -/
def execPortRest (die : Nat) (s : State) : Host.Outcome State Fault Refusal :=
  .next (s.takeHead die 0x10 (fun s a _ => s.restAt a) (fun s _ _ => s))

/-! ## Skipped slots (R101) -/

/-- What an action that is not fired leaves, as for a withheld one. DEDUCED: log 45. -/
def State.missedAct (s : State) (a : QAction) : State :=
  let k := a.act.kind
  if k = 1 then s.cellMissed a false
  else if k = 2 then s.mxuMissed a false
  else if k = 3 then s.streamMissed 1 a false
  else if k = 4 then s.streamMissed 2 a false
  else if k = 5 then s.streamMissed 0 a false
  else if colKind k then s.groupMissed a false
  else s

/-- The queued actions of a die whose slots a step skipped leave its queue unfired, wherever they stand in it. -/
def State.skipQueued (s : State) (die first stop : Nat) : State :=
  let gone : QAction → Bool := fun a => decide (first ≤ a.slot) && decide (a.slot < stop)
  ((s.queue die).filter gone).foldl (fun s a => (s.bump aTIM_SKIPPED_ACTIONS 1).missedAct a)
    (s.setQueue die ((s.queue die).filter fun a => !gone a))

/-- The next actions of a die's list whose slots a step skipped are taken from it unfired: `n` of them at most. -/
def State.skipListed (s : State) (die first stop : Nat) : Nat → State
  | 0 => s
  | n + 1 =>
    match s.nextAct die with
    | some a =>
      if first ≤ a.slot ∧ a.slot < stop then
        let s := { s with sched := if die = 0 then { s.sched with pos0 := s.sched.pos0 + 1 }
                                   else { s.sched with pos1 := s.sched.pos1 + 1 } }
        ((s.bump aTIM_SKIPPED_ACTIONS 1).missedAct a).skipListed die first stop n
      else s
    | none => s

/-- Actions of the slots `[first, stop)` in a die's list, at most (R101). -/
def State.skipBound (s : State) (die first stop : Nat) : Nat := (s.actions die).length * ((stop - first) / s.period + 2)

/-- The actions of one die whose slots a step skipped. -/
def State.skipDie (s : State) (die first stop : Nat) : State :=
  (s.skipQueued die first stop).skipListed die first stop (s.skipBound die first stop)

/-- The actions whose slots a step skipped, on both dies (R101); one that the refill engine appends after it is skipped as it reaches
the head. DEDUCED: log 45. -/
def State.skipActions (s : State) (first stop : Nat) : State :=
  if s.sched.launched then
    let s := { s with sched := { s.sched with skips := s.sched.skips ++ [(first, stop)] } }
    (s.skipDie 0 first stop).skipDie 1 first stop
  else s

/-! ## The end of a schedule (R517) -/

/-- No action before the schedule's end has still to fire on a die. -/
def State.drained (s : State) (die : Nat) : Bool :=
  s.sched.desync || (!((s.queue die).any fun a => s.inSchedule a.slot) && (s.nextAct die).isNone)

/-- Nothing fired by the schedule still runs: launches on cells and units, and stream updates (R517). -/
def State.quiet (s : State) : Bool :=
  !(s.cel.runs.any fun r => r.sched) && !(s.mxu.any fun e => e.2.run.isSome)
    && !(s.streams.any fun e => e.2.upd != 0)

/-- The schedule ends at slot `e`: what is in progress at a stage completes LAUNCH_LATE, replay stops, the waiting stop commands
complete, and the PF hears of a schedule with ITERS > 0 (R517, R542). DEDUCED: log 43. -/
def State.endSched (s : State) (e : Nat) : State :=
  let s := (s.advTo (e * slotUnits)).colStopAll.replayEnd 7
  let ds := s.sched.stoppers
  let iters := s.sched.iters
  let gone := s.sched.unload
  let s := { s with sched := { s.sched with launched := false, unload := false, stop := none, stoppers := [], desync := false, q0 := [], q1 := [] } }
  let s := s.cmdsEnd ds
  let s := if gone then s.unload else s
  if iters = 0 then s else s.fnEvt 0 6

/-- The schedule may end now: its end is by STOP_SLOT (`byStop`) or by ITERS. -/
def State.schedDone (s : State) (byStop : Bool) : State :=
  match s.schedEnd with
  | none => s
  | some e =>
    let stopped := match s.sched.stop with | some x => decide (x = e) | none => false
    if s.sched.launched && stopped == byStop && s.drained 0 && s.drained 1 && s.quiet && s.running then s.endSched e else s

/-- SCHED_STOP_DONE (R517). -/
def execSchedStopDone (s : State) : Host.Outcome State Fault Refusal := .next (s.schedDone true)

/-- SCHED_ITERS_END (R517). -/
def execSchedItersEnd (s : State) : Host.Outcome State Fault Refusal := .next (s.schedDone false)

end Sys2Proof.Machine
end

