-- ==== Sys2Proof/Machine/Patterns.lean ====
section
/-! DEFINITION. The pattern generator and checker of a lane, bit by bit (R157, R158). Histories are newest first. -/

namespace Sys2Proof.Machine

/-- Bits a pattern looks back: the degree of its polynomial, or the 64 bits of the user pattern (R157). -/
def patLen (mode : Nat) : Nat :=
  if mode = 1 then 7 else if mode = 2 then 15 else if mode = 3 then 23 else if mode = 4 then 31 else 64

/-- The second tap of a PRBS polynomial (R157). -/
def patTap (mode : Nat) : Nat := if mode = 1 then 6 else if mode = 2 then 14 else if mode = 3 then 18 else 28

/-- The bit of a pattern after a history of at least `patLen` bits (R157). MODE 6 and 7 are not in the list of R157: they run a
sequence of their own. DESIGN CHOICE: log 105. -/
def patNext (mode : Nat) (h : List Bool) : Bool :=
  if mode = 5 then h.getD 63 false else (h.getD (patLen mode - 1) false) != (h.getD (patTap mode - 1) false)

/-- The history from which a generator starts: a PRBS from ones, the user pattern from its bit 63. The spec gives no start of a
PRBS, and a checker finds any. DESIGN CHOICE: log 105. -/
def patStart (mode : Nat) (user : Nat) : List Bool :=
  if mode = 5 then (List.range 64).map user.testBit else List.replicate (patLen mode) true

/-- The bit a generator sends after its history and `phase` bits of the user pattern, whose bit 63 is first (R157). -/
def genNext (mode user phase : Nat) (h : List Bool) : Bool :=
  if mode = 5 then user.testBit (63 - phase % 64) else patNext mode h

/-- The next `n` bits of a generator, oldest first, and its history after them. -/
def genBits (mode user phase : Nat) (h : List Bool) : Nat → List Bool × List Bool
  | 0 => ([], h)
  | n + 1 =>
    let b := genNext mode user phase h
    let r := genBits mode user (phase + 1) ((b :: h).take 64) n
    (b :: r.1, r.2)

/-- A locked checker's history of the user pattern, where the pattern becomes another: the same turn of it (R157).
DESIGN CHOICE: log 105. -/
def userTurn (old new : Nat) (h : List Bool) : List Bool :=
  let u := patStart 5 old
  let v := patStart 5 new
  match (List.range 64).find? fun k => u.drop k ++ u.take k == h.take 64 with
  | some k => v.drop k ++ v.take k
  | none => h

/-- The history is one the pattern has: not all zeros of a PRBS, a turn of the user pattern. -/
def seedOk (mode user : Nat) (h : List Bool) : Bool :=
  if mode = 5 then
    let u := patStart 5 user
    (List.range 64).any fun k => u.drop k ++ u.take k == h.take 64
  else (h.take (patLen mode)).any id

/-- A checker after one received bit: while it searches, 64 error-free bits in a row lock it; while it is locked it counts the
bit, and more than 64 errors in 1,024 bits unlock it (R158). The three numbers are bits checked, bits in error and losses of
lock. -/
def Lane.check (mode user : Nat) (l : Lane) (b : Bool) : Lane × Nat × Nat × Nat :=
  if l.chkLock then
    let e := patNext mode l.hist != b
    let win := (e :: l.win).take 1024
    let n := (win.filter id).length
    if 64 < n then ({ l with chkLock := false, hist := [], run := 0, win := [] }, 1, if e then 1 else 0, 1)
    else ({ l with hist := (patNext mode l.hist :: l.hist).take 64, win := win }, 1, if e then 1 else 0, 0)
  else
    let fits := decide (patLen mode ≤ l.hist.length) && seedOk mode user l.hist && patNext mode l.hist == b
    let run := if fits then l.run + 1 else 0
    let l := { l with hist := (b :: l.hist).take 64, run := run }
    if 64 ≤ run then ({ l with chkLock := true, run := 0, win := [] }, 0, 0, 0) else (l, 0, 0, 0)

/-- A checker after a run of received bits. -/
def Lane.checkAll (mode user : Nat) (l : Lane) : List Bool → Lane × Nat × Nat × Nat
  | [] => (l, 0, 0, 0)
  | b :: bs =>
    let r := l.check mode user b
    let q := r.1.checkAll mode user bs
    (q.1, r.2.1 + q.2.1, r.2.2.1 + q.2.2.1, r.2.2.2 + q.2.2.2)

end Sys2Proof.Machine
end

