-- ==== Sys2Proof/Machine/Symbols.lean ====
section
/-! DEFINITION. The 8b/10b code of the STC lanes (R149, R150): the code table of IEEE 802.3 clause 36, running disparity, and
what a receiver makes of a run of symbols. A symbol is a 10-bit number whose most significant bit is sent first. The table
itself is not in the spec. PRESUMED: log 105. -/

namespace Sys2Proof.Machine

/-- A decoded symbol: a data byte, or a special one. -/
structure StcSym where
  special : Bool
  byte    : Nat
  deriving DecidableEq, Repr

/-- The 5b/6b codes of D0–D31 at negative running disparity. -/
def sixTable : List Nat :=
  [0x27, 0x1D, 0x2D, 0x31, 0x35, 0x29, 0x19, 0x38, 0x39, 0x25, 0x15, 0x34, 0x0D, 0x2C, 0x1C, 0x17,
   0x1B, 0x23, 0x13, 0x32, 0x0B, 0x2A, 0x1A, 0x3A, 0x33, 0x26, 0x16, 0x36, 0x0E, 0x2E, 0x1E, 0x2B]

/-- The 3b/4b codes of x.0–x.7 at negative running disparity. -/
def fourTable : List Nat := [0xB, 0x9, 0x5, 0xC, 0xD, 0xA, 0x6, 0xE]

/-- The special symbols of R150 with their codes at negative running disparity: K28.5, K28.1, K27.7, K29.7, K30.7. -/
def specialTable : List (Nat × Nat) := [(0xBC, 0x0FA), (0x3C, 0x0F9), (0xFB, 0x368), (0xFD, 0x2E8), (0xFE, 0x1E8)]

/-- Ones among the `n` low bits. -/
def onesOf (n x : Nat) : Nat := ((List.range n).filter fun i => x.testBit i).length

/-- Running disparity after `n` bits: positive with more ones than zeros, negative with fewer, else as it was. -/
def rdAfter (rd : Bool) (n x : Nat) : Bool := if 2 * onesOf n x = n then rd else decide (n < 2 * onesOf n x)

/-- The 6-bit code of D`d` at a running disparity (positive where true). -/
def enc6 (rd : Bool) (d : Nat) : Nat :=
  let c := sixTable.getD d 0
  if rd && (decide (onesOf 6 c ≠ 3) || decide (d = 7)) then 0x3F - c else c

/-- The 4-bit code of `y` at a running disparity, after D`d`: the alternate code of x.7 avoids five equal bits. -/
def enc4 (rd : Bool) (d y : Nat) : Nat :=
  if y = 7 ∧ ((rd = false ∧ d ∈ [17, 18, 20]) ∨ (rd = true ∧ d ∈ [11, 13, 14])) then (if rd then 0x8 else 0x7)
  else
    let c := fourTable.getD y 0
    if rd && (decide (onesOf 4 c ≠ 2) || decide (y = 3)) then 0xF - c else c

/-- The 10-bit code of a symbol at a running disparity. -/
def encSym (rd : Bool) (x : StcSym) : Nat :=
  if x.special then
    let c := ((specialTable.find? fun e => e.1 == x.byte).map (·.2)).getD 0
    if rd then 0x3FF - c else c
  else
    let six := enc6 rd (x.byte % 32)
    six * 16 + enc4 (rdAfter rd 6 six) (x.byte % 32) (x.byte / 32)

/-- Symbols as a transmitter whose running disparity is `rd` sends them (R149). -/
def encSyms (rd : Bool) : List StcSym → List Nat
  | [] => []
  | x :: xs => let c := encSym rd x; c :: encSyms (rdAfter rd 10 c) xs

/-- The symbol a code stands for at a running disparity; none where the table has no such code there. -/
def decSym (rd : Bool) (c : Nat) : Option StcSym :=
  match specialTable.find? fun e => (if rd then 0x3FF - e.2 else e.2) == c with
  | some e => some ⟨true, e.1⟩
  | none =>
    match (List.range 32).find? fun d => enc6 rd d == c / 16 with
    | none => none
    | some d => ((List.range 8).find? fun y => enc4 (rdAfter rd 6 (c / 16)) d y == c % 16).map fun y => ⟨false, 32 * y + d⟩

/-- What the receiver makes of one symbol (R149, R150): good; a code of the other running disparity; or no code. -/
inductive RxSym where
  | good (x : StcSym)
  | disp (x : StcSym)
  | code
  deriving DecidableEq, Repr

/-- Symbols received at a running disparity. -/
def decSyms (rd : Bool) : List Nat → List RxSym
  | [] => []
  | c :: cs =>
    (match decSym rd c, decSym (!rd) c with
      | some x, _ => .good x
      | none, some x => .disp x
      | none, none => .code) :: decSyms (rdAfter rd 10 c) cs

/-- What the receiver makes of a run of symbols: the first of them tells the running disparity they are received at. A run is
what comes between fill without error, and may begin or end with fill. DESIGN CHOICE: log 105. -/
def recvSyms : List Nat → List RxSym
  | [] => []
  | c :: cs => decSyms (decSym false c).isNone (c :: cs)

/-- The symbol is special symbol `k`, by whatever running disparity. -/
def RxSym.isK (k : Nat) : RxSym → Bool
  | .good x => x == ⟨true, k⟩
  | .disp x => x == ⟨true, k⟩
  | .code => false

/-- The run from its first special symbol `k` on; none where it has none. -/
def startsWith (k : Nat) : List RxSym → Option (List RxSym)
  | [] => none
  | x :: xs => if x.isK k then some (x :: xs) else startsWith k xs

/-- The symbol has a code or disparity error (R149). -/
def RxSym.bad : RxSym → Bool
  | .good _ => false
  | _ => true

/-- Four consecutive symbols with errors (R156), `n` of them already. -/
def fourBad (n : Nat) : List RxSym → Bool
  | [] => decide (4 ≤ n)
  | x :: xs => decide (4 ≤ n) || fourBad (if x.bad then n + 1 else 0) xs

/-- A 10-bit symbol with its bits `k` to `k + n - 1` in sending order inverted. -/
def flipSym (k n c : Nat) : Nat :=
  (List.range 10).foldl (fun c j => if k ≤ j ∧ j < k + n then c ^^^ 2 ^ (9 - j) else c) c

/-- A run of symbols with its bits `k` to `k + n - 1` inverted (R159). -/
def flipSyms (k n : Nat) : List Nat → List Nat
  | [] => []
  | c :: cs => flipSym k n c :: flipSyms (k - 10) (n - (10 - k)) cs

/-- Running disparity after a run of symbols. -/
def rdRun (rd : Bool) (cs : List Nat) : Bool := cs.foldl (fun rd c => rdAfter rd 10 c) rd

/-- Symbols with code errors. -/
def codeErrs (xs : List RxSym) : Nat := (xs.filter fun x => x == .code).length

/-- Symbols with disparity errors. -/
def dispErrs (xs : List RxSym) : Nat := (xs.filter fun x => match x with | .disp _ => true | _ => false).length

/-- The bytes of symbols that are all good data; none where one of them is not. -/
def symBytes : List RxSym → Option (List Byte)
  | [] => some []
  | .good ⟨false, b⟩ :: xs => (symBytes xs).map (BitVec.ofNat 8 b :: ·)
  | _ :: _ => none

/-- The special symbols' bytes. -/
def kComma : Nat := 0xBC
/-- K28.1. -/
def kMark : Nat := 0x3C
/-- K27.7. -/
def kStart : Nat := 0xFB
/-- K29.7. -/
def kEnd : Nat := 0xFD
/-- K30.7. -/
def kAbort : Nat := 0xFE

/-- Data symbols for bytes. -/
def dataSyms (bs : List Byte) : List StcSym := bs.map fun b => ⟨false, b.toNat⟩

end Sys2Proof.Machine
end

