-- ==== Sys2Proof/Machine/Lanes.lean ====
section
/-! DEFINITION. Serial lanes: STC lanes and their control frames, pattern checkers, injection and loopbacks
(R149–R162). -/

namespace Sys2Proof.Machine

/-- The lane index of STC lane `n`. -/
def stcIdx (n : Nat) : Nat := 768 + n

/-! ## Bit clocks -/

/-- Bits of a lane in 4 ns: 106.25 Gb/s, or 6.25 Gb/s on an STC lane (R107, R149). -/
def laneRate (i : Nat) : Nat := if i < 768 then 425 else 25

/-- The first bit boundary of lane `i` at or after root time `clk`: its bits are counted from root time 0, and the trim does not
move them (R50, R151). -/
def lineBit (i clk : Nat) : Nat := (clk * laneRate i + 31) / 32

/-- Root time, rounded up, at which bit `k` of lane `i` begins. -/
def bitTime (i k : Nat) : Nat := (32 * k + laneRate i - 1) / laneRate i

/-- The STC lane's transmitter sends symbols on its pins: it is enabled, and neither a test nor a fatal state nor the TAP has them. -/
def State.stcSends (s : State) (i : Nat) : Bool :=
  s.bit (aLNE_CTRL i) 7 && decide (s.fld (aLNE_PATGEN i) 2 0 = 0) && !decide (s.fld (aLNE_CTRL i) 4 2 ∈ [1, 2, 3]) && !s.log.fatal
    && !s.tapDrives

/-- The lane's generator sends on its pins (R157, R160). -/
def State.patSends (s : State) (i : Nat) : Bool :=
  decide (s.fld (aLNE_PATGEN i) 2 0 ≠ 0) && !decide (s.fld (aLNE_CTRL i) 4 2 ∈ [1, 2, 3]) && !s.log.fatal && !s.tapDrives

/-- The user pattern (R157). -/
def State.userPat (s : State) (i : Nat) : Nat := (s.reg (aLNE_USER_LO i)).toNat + (s.reg (aLNE_USER_HI i)).toNat * 2 ^ 32

/-- Polarity of what a generator sends: PATGEN.INVERT and TX_INV. -/
def State.patFlip (s : State) (i : Nat) : Bool := s.bit (aLNE_PATGEN i) 3 != s.bit (aLNE_CTRL i) 1

/-- What lane `i` sends up to bit `k` of its bit clock, where nothing else has those bits: K28.5 fill on an STC lane, whole symbols
and, before a mark, the first bits of one; or the generator's pattern (R150, R151, R157). How the fill before a mark is cut is the
model's choice. DESIGN CHOICE: log 105. -/
def State.sendTo (s : State) (i k : Nat) : State :=
  let l := s.lane i
  let n := k - l.txBit
  if n = 0 then s
  else if s.patSends i then
    let m := s.fld (aLNE_PATGEN i) 2 0
    (s.setLane i { l with txBit := k, gen := (genBits m (s.userPat i) l.phase l.gen n).2, phase := (l.phase + n) % 64, inj := l.inj - n
      }).emit (.pattern i l.txBit m (s.userPat i) l.gen l.phase n (s.patFlip i) (min l.inj n))
  else if decide (768 ≤ i) && s.stcSends i then
    (s.setLane i { l with txBit := k, rd := l.rd != decide (n / 10 % 2 = 1), inj := l.inj - n }).emit
      (.fill i l.txBit n (min l.inj n))
  else s.setLane i { l with txBit := k }

/-- What lane `i` has sent by now. -/
def State.sendNow (s : State) (i : Nat) : State := s.sendTo i (lineBit i s.tim.clk)

/-! ## STC lanes -/

/-- An STC lane comes up (R156): it becomes a lane the time unit may use. -/
def State.stcUp (s : State) (n : Nat) : State :=
  let i := stcIdx n
  ((s.setLane i { s.lane i with sigDet := true, cdr := true, sym := true, up := true, acq := false }).lneEvt i 2).setSrcUp n true

/-- An STC lane goes down and starts to reacquire: its frame in progress is lost, its source is invalid, a relay session
on it closes (R79, R130, R156, R685). -/
def State.stcDown (s : State) (n cause : Nat) : State :=
  let i := stcIdx n
  let s := s.setLane i { s.lane i with up := false, sym := false, acq := false }
  let s := ((s.lneEvt i 1).bump (aLNE_STC_LOSS n) 1).setSrcUp n false
  let s := if s.bit aLOG_CTRL 0 then s.offer 0x06 2 dieH 0x80 n cause 0 0 else s
  (s.relayClose n).noSource

/-- STC_LANE_UP (R156): an enabled lane outside tests that has had its three K28.5 and an error-free mark. -/
def execStcLaneUp (n : Nat) (s : State) : Host.Outcome State Fault Refusal :=
  .next (
    let i := stcIdx n
    if decide (n < 16) && s.bit (aLNE_CTRL i) 7 && !(s.lane i).up && (s.lane i).acq && !s.laneTest i && !s.log.fatal && !s.tapDrives
      then s.stcUp n else s)

/-- Error counts of an STC lane (R149). -/
def State.stcCount (s : State) (n codes disps : Nat) : State :=
  (s.bump (aLNE_STC_CODE_ERR n) codes).bump (aLNE_STC_DISP_ERR n) disps

/-- STC_LANE_DOWN (R156): no comma for 1,024 ns, or 4 consecutive errored symbols, which are counted; fewer are counted and take no
lane down. DEDUCED: log 97. -/
def execStcLaneDown (n codeErrs dispErrs : Nat) (s : State) : Host.Outcome State Fault Refusal :=
  .next (
    if decide (n < 16) && (s.lane (stcIdx n)).up then
      let s := s.stcCount n codeErrs dispErrs
      if codeErrs + dispErrs = 0 then s.stcDown n 1 else if 4 ≤ codeErrs + dispErrs then s.stcDown n 2 else s
    else s)

/-- The bytes of a control frame between K27.7 and K29.7 (R152). -/
def frameBytes (type : Nat) (payload : List Byte) : List Byte :=
  let body := natLe 1 type ++ natLe 1 payload.length ++ payload
  body ++ natBe 4 (crc32c body)

/-- The symbols of a time mark (R67, R150). -/
def markSeq (word : List Byte) : List StcSym := ⟨true, kMark⟩ :: dataSyms word
/-- Those of a control frame (R152). -/
def frameSeq (bytes : List Byte) : List StcSym := ⟨true, kStart⟩ :: dataSyms bytes ++ [⟨true, kEnd⟩]

/-- A time mark and a control frame as a transmitter at running disparity `rd` sends them (R149). -/
def markSyms (rd : Bool) (word : List Byte) : List Nat := encSyms rd (markSeq word)
/-- A control frame. -/
def frameSyms (rd : Bool) (bytes : List Byte) : List Nat := encSyms rd (frameSeq bytes)

/-- The codes of symbols that begin at bit `k` of STC lane `n`, a K28.5 after them, with the bits that injection inverts (R149,
R153, R159). -/
def State.stcCodes (s : State) (n k : Nat) (xs : List StcSym) : List Nat :=
  let l := (s.sendTo (stcIdx n) k).lane (stcIdx n)
  flipSyms 0 l.inj (encSyms l.rd (xs ++ [⟨true, kComma⟩]))

/-- STC lane `n` is taken from bit `k` on by symbols and the K28.5 after them. -/
def State.stcTake (s : State) (n k : Nat) (xs : List StcSym) : State :=
  let i := stcIdx n
  let s := s.sendTo i k
  let l := s.lane i
  let m := 10 * (xs.length + 1)
  s.setLane i { l with txBit := k + m, rd := rdRun l.rd (encSyms l.rd (xs ++ [⟨true, kComma⟩])), inj := l.inj - m }

/-- A time mark at the slot start that is now: it begins at the first bit boundary at or after it, and that instant is its send time
(R67, R151). -/
def State.sendMark (s : State) (n : Nat) (word : List Byte) : State :=
  let k := lineBit (stcIdx n) s.tim.clk
  let t := s.stcTake n k (markSeq word)
  (t.setLane (stcIdx n) { t.lane (stcIdx n) with late := 32 * k / 25 - s.tim.clk }).emit (.mark n k word (s.stcCodes n k (markSeq word)))

/-- The bit at which a control frame may start: the first symbol boundary from now on that nothing before it has taken (R153). -/
def State.frameAt (s : State) (n : Nat) : Nat :=
  let l := s.lane (stcIdx n)
  l.txBit + (lineBit (stcIdx n) s.tim.clk - l.txBit + 9) / 10 * 10

/-- Bit at which the next slot starts. -/
def State.slotEnd (s : State) (n : Nat) : Nat := lineBit (stcIdx n) (s.tim.clk + (slotUnits - s.tim.now % slotUnits))

/-- A control frame of `m` payload bytes may start now on STC lane `n`: what was sent before it, with its K28.5, is over, and the
frame ends at least 8 symbol times before the next slot start (R153). -/
def State.frameFits (s : State) (n m : Nat) : Bool :=
  decide (s.frameAt n < lineBit (stcIdx n) s.tim.clk + 10) && decide (s.frameAt n + 10 * (m + 8) + 80 ≤ s.slotEnd n)

/-- A control frame is sent: K27.7, the bytes, K29.7, and a K28.5 after it (R152, R153). -/
def State.sendFrame (s : State) (n type : Nat) (payload : List Byte) : State :=
  let k := s.frameAt n
  let xs := frameSeq (frameBytes type payload)
  (s.stcTake n k xs).emit (.frame n k (frameBytes type payload) (s.stcCodes n k xs))

/-- A control frame whose source is withdrawn after `j` of its symbols: K30.7 in place of the rest (R154). -/
def State.abortFrame (s : State) (n type : Nat) (payload : List Byte) (j : Nat) : State :=
  let k := s.frameAt n
  let xs := ⟨true, kStart⟩ :: (dataSyms (frameBytes type payload)).take (j - 1) ++ [⟨true, kAbort⟩]
  (s.stcTake n k xs).emit (.frameAbort n k (s.stcCodes n k xs))

/-- Code and disparity errors of received symbols counted (R149, R150). -/
def State.stcErrs (s : State) (n : Nat) (xs : List RxSym) : State := s.stcCount n (codeErrs xs) (dispErrs xs)

/-- Four consecutive symbols with errors take the lane down (R156). -/
def State.stcBad (s : State) (n : Nat) (xs : List RxSym) : State :=
  if fourBad 0 xs && (s.lane (stcIdx n)).up then s.stcDown n 2 else s

/-- The next relay frame that waits for STC lane `n` (R685): its TYPE and payload. -/
def State.relayNext (s : State) (n : Nat) : Option (Nat × List Byte) := (s.mgt.relayOut.find? fun x => x.1 == n).map (·.2)

/-- STC_FRAME_TX (R153, R154): the frame that has waited longest for its lane; `withdrawn` tells after how many of its symbols its
source is withdrawn or underruns. IDENT frames leave by themselves at their slot start (R155), and the K8 sends no other TYPE. -/
def execStcFrameTx (n type : Nat) (payload : List Byte) (withdrawn : Option Nat) (s : State) :
    Host.Outcome State Fault Refusal :=
  .next (
    if decide (n < 16) && (s.lane (stcIdx n)).up && s.frameFits n payload.length && decide (payload.length ≤ 56)
        && s.relayNext n == some (type, payload) then
      let s := { s with mgt := { s.mgt with relayOut := s.mgt.relayOut.erase (n, type, payload) } }
      match withdrawn with
      | some j => s.abortFrame n type payload j
      | none => s.sendFrame n type payload
    else s)

/-- A received control frame is accepted: LEN at most 56 and as long as the frame, a TYPE that is not reserved (IDENT, or a
relay's 0x80 to 0x82), and a right CRC (R152, R155, R685). -/
def frameOk (bytes : List Byte) : Bool :=
  let body := bytes.take (bytes.length - 4)
  let ty := (bytes.getD 0 0).toNat
  let ln := (bytes.getD 1 0).toNat
  decide (ln ≤ 56) && decide (bytes.length = ln + 6) && (decide (ty = 1) || (decide (128 ≤ ty) && decide (ty ≤ 130)))
    && decide (beNat (bytes.drop (bytes.length - 4)) = crc32c body)

/-- The IDENT a frame carries: switch [9:0], site [12:10], lane [19:16] (R155). -/
def identOf (bytes : List Byte) : Nat :=
  beNat ((bytes.drop 2).take 2) % 1024 + 2 ^ 10 * ((bytes.getD 4 0).toNat % 8) + 2 ^ 16 * ((bytes.getD 5 0).toNat % 16)

/-- What ends a frame: K29.7 or K30.7. -/
def RxSym.ends (x : RxSym) : Bool := x.isK kEnd || x.isK kAbort

/-- The frame ends in K30.7 (R154). -/
def aborted (xs : List RxSym) : Bool :=
  match (xs.dropWhile fun x => !x.ends).head? with | some x => x.isK kAbort | none => false

/-- The bytes of a frame from its K27.7 on that ends in K29.7 and is accepted; none where it is discarded (R152, R155). -/
def frameBody (xs : List RxSym) : Option (List Byte) :=
  if xs.head? = some (.good ⟨true, kStart⟩) ∧ (xs.dropWhile fun x => !x.ends).head? = some (.good ⟨true, kEnd⟩) then
    match symBytes (xs.tail.takeWhile fun x => !x.ends) with
    | some bs => if frameOk bs then some bs else none
    | none => none
  else none

/-- STC_FRAME_RX (R149, R150, R154–R156): a run of symbols that holds a frame, every one of them checked. -/
def execStcFrameRx (n : Nat) (syms : List Nat) (s : State) : Host.Outcome State Fault Refusal :=
  .next (
    let i := stcIdx n
    if decide (n < 16) && (s.lane i).up then
      let xs := recvSyms syms
      let s := s.stcErrs n xs
      let t := match startsWith kStart xs with
        | none => s
        | some xs =>
          if aborted xs then s.bump (aLNE_STC_ABORTS n) 1
          else match frameBody xs with
            | none => s.bump (aLNE_STC_FRAME_ERR n) 1
            | some bytes =>
              let s := s.bump (aLNE_STC_FRAMES n) 1
              if (bytes.getD 0 0).toNat = 1 then s.setLane i { s.lane i with peer := identOf bytes } else s
      t.stcBad n xs
    else s)

/-! ## Lane tests -/

/-- The lane is put into, or comes out of, a test: its sub-port enters TEST or leaves it, its STC lane goes down (R161).
DEDUCED: log 34. -/
def State.testChange (s : State) (i : Nat) (was now : Bool) : State :=
  match lanePort i with
  | none => if now && (s.lane i).up then s.stcDown (i - 768) 2 else s
  | some (p, l) =>
    match laneSub p l (s.portMode p) with
    | none => s
    | some k =>
      if now then
        (if (s.sub p k).state = 8 then s
         else ((s.setSub p k { s.sub p k with state := 8 }).linkLost p k).restart p k)
      else if was && (s.sub p k).state == 8 && !s.subTest p k then s.restart p k
      else s

/-- The generator and the checker of a lane start over where their MODE was written: a checker searches again, and one that is off
is not locked (R157, R158). -/
def State.patRestart (s : State) (i o : Nat) : State :=
  if o = aLNE_PATGEN i then s.setLane i { s.lane i with gen := patStart (s.fld (aLNE_PATGEN i) 2 0) (s.userPat i), phase := 0, inj := 0 }
  else if o = aLNE_PATCHK i then s.setLane i { s.lane i with chkLock := false, hist := [], run := 0, win := [] }
  else s

/-- A write to LNE_CTRL, LNE_PATGEN or LNE_PATCHK of lane `i` with the effects of R156–R158 and R161; a transmitter that ENABLE
starts begins at negative running disparity (R149). -/
def State.lneModeWrite (s : State) (i o : Nat) (v : Word) : State :=
  let s := s.sendNow i
  let was := s.laneTest i
  let on := s.bit (aLNE_CTRL i) 7
  let mode := s.fld o 3 0
  let s := s.plainWrite o v
  let s := if s.fld o 3 0 = mode then s else s.patRestart i o
  let s := if !on && s.bit (aLNE_CTRL i) 7 then s.setLane i { s.lane i with rd := false } else s
  let s := if decide (768 ≤ i) && !s.bit (aLNE_CTRL i) 7 && (s.lane i).up then s.stcDown (i - 768) 1 else s
  s.testChange i was (s.laneTest i)

/-- A write to LNE_USER_LO or LNE_USER_HI: a generator, and a checker in MODE 5, go on with the new pattern (R157). -/
def State.lneUser (s : State) (i o : Nat) (v : Word) : State :=
  let s := s.sendNow i
  let old := s.userPat i
  let s := s.plainWrite o v
  let l := s.lane i
  if s.fld (aLNE_PATCHK i) 2 0 = 5 ∧ l.chkLock = true then s.setLane i { l with hist := userTurn old (s.userPat i) l.hist } else s

/-- LNE_TEST_MODE_WRITE (R161): `off` is the offset of one of the three registers. -/
def execLneTestModeWrite (path : Path) (off : Nat) (v : Word) (s : State) : Host.Outcome State Fault Refusal :=
  .next (
    let i := (off - 0x100000) / 0x400
    if s.mayWrite path off && decide (0x100000 ≤ off) && (off == aLNE_CTRL i || off == aLNE_PATGEN i || off == aLNE_PATCHK i)
      then s.lneModeWrite i off v else s)

/-- Bits a write of FIRE inverts: one, or BURST_LEN (R159); a BURST_LEN of 0, which lies outside 1–255, inverts none.
DESIGN CHOICE: log 105. -/
def State.fireBits (s : State) (i : Nat) : Nat :=
  if s.fld (aLNE_INJECT i) 1 0 = 1 then 1 else if s.fld (aLNE_INJECT i) 1 0 = 2 then s.fld (aLNE_INJECT i) 15 8 else 0

/-- A run of symbols already on its way when bits `k` to `k + n - 1` of its lane are inverted. -/
def Emit.flipped (i k n : Nat) (e : Emit) : Emit :=
  let cut (a : Nat) (cs : List Nat) := flipSyms (k - a) (n - (a - k)) cs
  match e with
  | .mark l a w cs => if stcIdx l = i then .mark l a w (cut a cs) else e
  | .frame l a b cs => if stcIdx l = i then .frame l a b (cut a cs) else e
  | .frameAbort l a cs => if stcIdx l = i then .frameAbort l a (cut a cs) else e
  | e => e

/-- Bits inverted at the serializer input from bit `k` on (R159): in the mark or frame that is on its way, and in what the lane
sends next; in a near-end parallel loopback nothing passes the serializer. They are counted. -/
def State.invertAt (s : State) (i k n : Nat) : State :=
  if n = 0 then s
  else
    let s := s.sendTo i k
    let l := s.lane i
    let s := { s with out := s.out.map (Emit.flipped i k n) }
    let s := if s.fld (aLNE_CTRL i) 4 2 = 2 then s else s.setLane i { l with inj := l.inj + (n - (l.txBit - k)) }
    (s.bump (aLNE_INJ_COUNT i) n).emit (.invert i n)

/-- The effect of a write to LNE_INJECT (R159): rate mode counts its interval from the write that selects it. -/
def State.lneInject (s : State) (i : Nat) (v : Word) : State :=
  let was := s.fld (aLNE_INJECT i) 1 0
  let s := s.plainWrite (aLNE_INJECT i) v
  let k := lineBit i s.tim.clk
  let s := if was ≠ 3 ∧ s.fld (aLNE_INJECT i) 1 0 = 3 then s.setLane i { s.lane i with injAt := k } else s
  if bitOf v.toNat 2 then s.invertAt i k (s.fireBits i) else s

/-- LNE_INJECT_FIRE (R159). -/
def execLneInjectFire (path : Path) (i : Nat) (v : Word) (s : State) : Host.Outcome State Fault Refusal :=
  .next (if s.mayWrite path (aLNE_INJECT i) && decide (i < 784) then s.lneInject i v else s)

/-- Bits between two that rate mode inverts (R159). RATE_EXP is held to 4–40. DESIGN CHOICE: log 105. -/
def State.rateBits (s : State) (i : Nat) : Nat := 2 ^ max 4 (min 40 (s.fld (aLNE_INJECT i) 21 16))

/-- INJECT_RATE_EXPIRE (R159): rate mode inverts one bit every 2^RATE_EXP bits. -/
def execInjectRateExpire (i : Nat) (s : State) : Host.Outcome State Fault Refusal :=
  .next (if s.hasLane i && decide (s.fld (aLNE_INJECT i) 1 0 = 3) then
      let due := (s.lane i).injAt + s.rateBits i
      let s := s.advTo (s.tim.now + (bitTime i due - s.tim.clk))
      let s := s.setLane i { s.lane i with injAt := due }
      s.invertAt i due 1
    else s)

/-- A 48-bit counter pair raised by `n`, saturating (R158). -/
def State.bump48 (s : State) (o n : Nat) : State :=
  let x := min 0xFFFFFFFFFFFF ((s.reg o).toNat + (s.reg (o + 4)).toNat * 2 ^ 32 + n)
  (s.setReg o (BitVec.ofNat 32 x)).setReg (o + 4) (BitVec.ofNat 32 (x / 2 ^ 32))

/-- The lane's receiver takes its own transmitter's bits (R160). -/
def State.nearLoop (s : State) (i : Nat) : Bool := s.fld (aLNE_CTRL i) 4 2 == 1 || s.fld (aLNE_CTRL i) 4 2 == 2

/-- `n` bits a lane's transmitter gives where its generator is off: fill on an STC lane (R150); on a PAM4 lane, whose sub-port is in
TEST, bits that the spec does not state. DESIGN CHOICE: log 16. -/
def State.ownBits (s : State) (i n : Nat) : List Bool × State :=
  if 768 ≤ i then
    ((List.range n).map fun j => (encSym ((s.lane i).rd != decide (j / 10 % 2 = 1)) ⟨true, kComma⟩).testBit (9 - j % 10), s)
  else
    ((List.range n).map fun j => (Config.freeLong (s.free + j / 64)).toNat.testBit (j % 64), { s with free := s.free + (n + 63) / 64 })

/-- What the lane's transmitter gives its own receiver in a near-end loopback, as many bits as `n`: the generator's, or without it
what the lane sends else (R157, R160). Injection inverts bits before the serializer, and TX_INV lies after it: a parallel loopback
passes neither, and RX_INV applies in both. DESIGN CHOICE: log 105. -/
def State.loopBits (s : State) (i n : Nat) : List Bool × State :=
  let l := s.lane i
  let mode := s.fld (aLNE_PATGEN i) 2 0
  let serial := decide (s.fld (aLNE_CTRL i) 4 2 = 1)
  let g := genBits mode (s.userPat i) l.phase l.gen n
  let r : List Bool × State := if mode = 0 then s.ownBits i n
    else (g.1.map fun b => b != s.bit (aLNE_PATGEN i) 3, s.setLane i { l with gen := g.2, phase := (l.phase + n) % 64 })
  let s := r.2.setLane i { r.2.lane i with inj := l.inj - n }
  ((r.1.zip (List.range n)).map fun x => x.1 != (serial && (s.bit (aLNE_CTRL i) 1 != decide (x.2 < l.inj))), s)

/-- The bits the checker of a lane receives, as it compares them: those of the wire, or in a near-end loopback its own transmitter's
(R157, R159, R160); polarity and INVERT applied. -/
def State.rxBits (s : State) (i : Nat) (bs : List Bool) : List Bool × State :=
  let flip := s.bit (aLNE_CTRL i) 0 != s.bit (aLNE_PATCHK i) 3
  let r := if s.nearLoop i then s.loopBits i bs.length else (bs, s)
  (r.1.map fun b => b != flip, r.2)

/-- A far-end loopback sends received bits on, both polarities applied and injection's bits inverted (R159, R160).
DESIGN CHOICE: log 105. -/
def State.retime (s : State) (i : Nat) (bs : List Bool) : State :=
  if s.fld (aLNE_CTRL i) 4 2 = 3 then
    let l := s.lane i
    let flip := s.bit (aLNE_CTRL i) 0 != s.bit (aLNE_CTRL i) 1
    (s.setLane i { l with inj := l.inj - bs.length }).emit
      (.retimed i ((bs.zip (List.range bs.length)).map fun x => x.1 != (flip != decide (x.2 < l.inj))))
  else s

/-- The checker of a lane takes received bits: what it checked and found in error is counted (R158). -/
def State.checkBits (s : State) (i : Nat) (bs : List Bool) : State :=
  let r := s.rxBits i bs
  let s := r.2
  let q := (s.lane i).checkAll (s.fld (aLNE_PATCHK i) 2 0) (s.userPat i) r.1
  let s := ((s.setLane i q.1).bump48 (aLNE_CHK_BITS_LO i) q.2.1).bump48 (aLNE_CHK_ERR_LO i) q.2.2.1
  if q.2.2.2 = 0 then s else s.lneEvt i 3

/-- CHECKER_LOCK (R158): the bits a searching checker receives. -/
def execCheckerLock (i : Nat) (bits : List Bool) (s : State) : Host.Outcome State Fault Refusal :=
  .next (if s.hasLane i && !(s.lane i).chkLock then
      let s := s.retime i bits
      if s.fld (aLNE_PATCHK i) 2 0 = 0 then s else s.checkBits i bits
    else s)

/-- CHECKER_LOCK_LOST (R158): the bits a locked checker receives. -/
def execCheckerLockLost (i : Nat) (bits : List Bool) (s : State) : Host.Outcome State Fault Refusal :=
  .next (if s.hasLane i && decide (s.fld (aLNE_PATCHK i) 2 0 ≠ 0) && (s.lane i).chkLock then (s.retime i bits).checkBits i bits else s)

/-- The effect of a write to LNE_PATCHK: its fields, and CLEAR clears the counters (R158). DEDUCED: log 97. -/
def State.lnePatchk (s : State) (i : Nat) (v : Word) : State :=
  let s := s.lneModeWrite i (aLNE_PATCHK i) v
  if bitOf v.toNat 4 then
    (((s.setReg (aLNE_CHK_BITS_LO i) 0).setReg (aLNE_CHK_BITS_HI i) 0).setReg (aLNE_CHK_ERR_LO i) 0).setReg (aLNE_CHK_ERR_HI i) 0
  else s

/-- LNE_PATCHK_CLEAR (R158). -/
def execLnePatchkClear (path : Path) (i : Nat) (v : Word) (s : State) : Host.Outcome State Fault Refusal :=
  .next (if s.mayWrite path (aLNE_PATCHK i) && decide (i < 784) then s.lnePatchk i v else s)

/-! ## What a lane drives -/

/-- What the transmitter of lane `i` drives. A lane in a test drives what its loopback or generator says (R157, R160); every other
lane what its sub-port's state and REACH say (R116, R121, R126, R132, R141, R660). For the 1 ms of a warm reset every enabled
sub-port's lanes are in electrical idle (R645), and while a TAP instruction drives the pins the boundary register has every lane
(R689). DEDUCED: log 106. -/
def State.laneTx (s : State) (i : Nat) : LaneTx :=
  let loop := s.fld (aLNE_CTRL i) 4 2
  if s.log.fatal then .electricalIdle
  else if s.tapDrives then .boundary
  else if s.boot.warm ∧ i < 768 then .electricalIdle
  else if loop = 1 ∨ loop = 2 then .electricalIdle
  else if loop = 3 then .peer
  else if s.fld (aLNE_PATGEN i) 2 0 ≠ 0 then .pattern
  else match lanePort i with
    | none => if s.bit (aLNE_CTRL i) 7 then .mission else .electricalIdle
    | some (p, l) =>
      match laneSub p l (s.portMode p) with
      | none => .electricalIdle
      | some k =>
        let x := s.sub p k
        if x.state = 0 then .electricalIdle
        else if x.state = 1 then .remoteFault
        else if x.state = 2 then (if s.fld (aPRT_CTRL p) 5 4 = 1 then .training else .idle)
        else if x.state = 3 ∨ x.state = 4 then .mission
        else if x.state = 6 ∨ (x.state = 7 ∧ s.tim.clk < x.since + 1600) then .electricalIdle
        else .idle

end Sys2Proof.Machine
end

