-- ==== Sys2Proof/Machine/Time.lean ====
section
/-! DEFINITION. Fabric time: slot starts, sources, steps, the initial load and PPS (R51–R105). -/

namespace Sys2Proof.Machine

/-! ## States -/

/-- Entry to FREERUN (R86). A frequency acquisition goes on: only a missed exchange restarts it (R87). -/
def State.toFreerun (s : State) : State :=
  let s := { s with tim := { s.tim with state := 0, advHops := 31 } }
  (s.timEvt 2).logTime 4

/-- Entry to LOCKED (R86). -/
def State.toLocked (s : State) : State :=
  let s := { s with tim := { s.tim with state := 2, facq := none } }
  s.logTime 5

/-- ROOT sampled at a slot start (R81). -/
def State.sampleRoot (s : State) : State :=
  let r := s.bit aTIM_CTRL 0
  if r && !s.tim.rootMode then
    let s := s.settleSlew
    let t := ({ s with tim := { s.tim with rootMode := true, sel := 33, resid0 := 0, loadPend := false } }).timEvt 0
    if s.tim.state = 2 then { t with tim := { t.tim with facq := none } } else t.toLocked
  else if !r && s.tim.rootMode then
    ({ s with tim := { s.tim with rootMode := false } }).toHoldover 0
  else s

/-- A frequency correction kept within ±100 ppm, in 0.001 ppm (R49). -/
def clampCorr (c : Int) : Int := max (-100000) (min 100000 c)

/-- The correction acquisition adds: the change of offset (half units of 0.125 ns) over the root cycles it took.
DEDUCED: log 40. -/
def acqCorr (off0 off1 : Int) (d : Nat) : Int := if d = 0 then 0 else (off1 - off0) * 500000000 / (d : Int)

/-- FREQ_IN gives the frequency (R78, R87). -/
def State.freqByPin (s : State) : Bool := s.bit aCLK_CTRL 0 && s.tim.freqInOk

/-- The frequency correction raised by `c`, or what FREQ_IN asks for where it gives the frequency (R49, R78). -/
def State.newCorr (s : State) (c : Int) : Int := if s.freqByPin then s.tim.freqIn else clampCorr (s.tim.corr + c)

/-- Acquisition completes: the correction is applied and the switch enters LOCKED (R87, R96), with an initial load
due where R102 asks for one. DEDUCED: log 40. -/
def State.acquired (s : State) (c : Int) : State :=
  let load := s.tim.state == 0 && s.bit aTIM_CTRL 1 && !s.schedRunning
  let s := s.follow s.tim.sel
  let s := { s with tim := { s.tim with corr := s.newCorr c, loadPend := load } }
  s.toLocked

/-- Frequency acquisition starts at the last exchange accepted from the source selected, where the source has been valid since
and has missed none, else at the next; FREQ_IN, or a FACQ_COUNT of 0, needs no interval (R78, R87). DEDUCED: log 102. -/
def State.startFacq (s : State) (i : Nat) : State :=
  if !(s.src i).okAt then s
  else if (i = 32 ∧ s.freqByPin) ∨ s.fld aTIM_LOCK 23 16 = 0 then s.acquired 0
  else { s with tim := { s.tim with facq := some ⟨i, 1, (s.src i).samples.headD 0, (s.src i).lastClk⟩ } }

/-- The selection of R80 at a slot start; HOLDOVER where no source is valid (R86); a source newly selected outside LOCKED
begins its frequency acquisition (R87, R96). -/
def State.reselect (s : State) : State :=
  if s.tim.rootMode then s
  else
    let b := s.bestSrc
    let s1 := if b = s.tim.sel then s
      else
        let t := s.follow b
        ({ t with tim := { t.tim with sel := b, facq := none } }).timEvt 0
    if b = 63 ∧ s.tim.state = 2 then s1.toHoldover (s.unc / uncScale)
    else if b = 63 ∨ b = s.tim.sel ∨ s.tim.state = 2 then s1
    else s1.startFacq b

/-- HOLDOVER has lasted beyond TIM_HOLD_LIMIT (R86). -/
def State.holdOver (s : State) : Bool :=
  s.tim.state == 1 && decide ((s.reg aTIM_HOLD_LIMIT).toNat * fineNs * uncScale < s.unc)

/-- HOPS advertised from this slot start on (R80, R81). -/
def State.hopsNow (s : State) : Nat :=
  if s.tim.state = 0 then 31
  else if s.tim.state = 1 then s.tim.advHops
  else if s.tim.rootMode ∨ s.tim.sel = 32 then 0
  else min 31 ((s.src s.tim.sel).hops + 1)

/-- WITHHOLD from this slot start on (R90). -/
def State.withholdNow (s : State) : Bool :=
  let one := fineNs * uncScale
  let guard := s.fld aTIM_XGUARD 15 0
  let hyst := s.fld aTIM_XGUARD 31 16
  if s.tim.state = 0 then true
  else if guard * one < 2 * s.unc then true
  else if 2 * (s.unc + hyst * one) ≤ guard * one then false
  else s.tim.withhold

/-- The first two bytes of a phase word or TIME payload: STATE, ROOT, HOPS and UNC (R67, R72). -/
def State.phaseHead (s : State) : List Byte :=
  natBe 1 (s.tim.state * 64 + b2n s.advRoot * 32 + s.hopsOut) ++ natBe 1 s.uncField

/-- The 14-byte phase word for STC lane `n` at slot `slot` (R67). The lane's asymmetry is added to PEER_DELTA.
DESIGN CHOICE: log 104. -/
def State.phaseWord (s : State) (n slot : Nat) : List Byte :=
  let d := (s.src n).delta + signed 16 (s.fld (aTIM_STC_ASYM n) 15 0)
  let w := s.phaseHead ++ natBe 7 slot ++ natBe 4 (unsigned 32 d)
  w ++ natBe 1 (crc8 w)

/-- The payload of a TIME packet for L-port `l` at slot `slot` (R72). -/
def State.timePayload (s : State) (l slot : Nat) : List Byte :=
  let w := s.phaseHead ++ natBe 7 slot ++ natBe 4 (unsigned 32 (s.src (16 + l)).delta)
    ++ natBe 1 (s.fld aRTE_ID 12 10) ++ natBe 2 (s.fld aRTE_ID 9 0) ++ natBe 4 (tblGet (fun _ => 0) s.tim.ltSeq l)
  w ++ natBe 4 (crc32c w) ++ List.replicate 40 0

/-- The TIME packet of one L-port that is up is due (R70): it leaves at once, or as soon as the packet in progress has
(R248, R249). -/
def State.sendTime (s : State) (l slot : Nat) : State :=
  if s.hasL l && s.isUp (64 + l) 0 then
    let e := 8 * (64 + l)
    let q := tblGet (fun _ => 0) s.tim.ltSeq l
    let p : Staged := ⟨linkPkt 0x3D true q (s.timePayload l slot), e, s.tim.clk, false, 0, 0⟩
    let s := s.setEgr e { s.egr e with staged := p :: (s.egr e).staged.filter fun p => !p.isTime }
    let s := { s with tim := { s.tim with ltSeq := tblSet s.tim.ltSeq l ((q + 1) % 2 ^ 32) } }
    if (s.egr e).sending.isNone && decide ((s.egr e).freeAt ≤ s.tim.clk) && !s.restHolds e then s.sendTimePkt e p else s
  else s

/-- What goes out at a slot start: a mark on every STC lane that is up, TIME packets every 1,024 slots, and IDENT in the
slot after (R67, R70, R155). -/
def State.slotSends (s : State) (slot : Nat) : State :=
  let s := (List.range 16).foldl (fun s n =>
    if (s.lane (stcIdx n)).up then
      let s := s.sendMark n (s.phaseWord n slot)
      if slot % 1024 = 1 then
        s.sendFrame n 1 (natBe 2 (s.fld aRTE_ID 9 0) ++ natBe 1 (s.fld aRTE_ID 12 10) ++ natBe 1 n)
      else s
    else s) s
  if slot % 1024 = 0 then (List.range 16).foldl (fun s l => s.sendTime l slot) s else s

/-- A replica counter that differs stops its bandstand and the schedule on both dies (R57). -/
def State.checkReplica (s : State) (die slot : Nat) (rep : Nat) : State :=
  if rep = slot then s
  else (((s.schedStop).timEvt 6).offer 0x05 1 die 0x80 die slot 0 0)

/-- SLOT_START (R90): `fault0` and `fault1` are a hardware fault in a bandstand's replica counter (R57). -/
def State.slotStart1 (s : State) (fault0 fault1 : Bool) : State :=
  let slot := s.tim.slot
  let s := s.advTo (slot * slotUnits)
  let r0 := if fault0 then slot + 1 else slot
  let r1 := if fault1 then slot + 1 else slot
  let s := { s with tim := { s.tim with slot := slot + 1, rep0 := r0, rep1 := r1 } }
  let s := (s.checkReplica 0 slot r0).checkReplica 1 slot r1
  let s := s.sampleRoot.reselect
  let s := if s.holdOver then s.toFreerun else s
  let s := { s with tim := { s.tim with advHops := s.hopsNow } }
  let s := { s with tim := { s.tim with withhold := s.withholdNow } }
  let s := if s.withheld then s.bump aTIM_WITHHELD_SLOTS 1 else s
  let s := if s.tim.withhold && !s.rpl.active then s.hazard 5 else s
  s.holdEdge.slotSends slot

/-- SLOT_START (R90). DEDUCED: log 42. -/
def execSlotStart (fault0 fault1 : Bool) (s : State) : Host.Outcome State Fault Refusal :=
  .next (if s.tim.lock then s.slotStart1 fault0 fault1 else s)

/-! ## Steps and the initial load -/

/-- Every measurement and expectation moved with a jump of the counter by `j` units. -/
def State.jumped (s : State) (j : Nat) : State :=
  { s with tim := { s.tim with
      srcs := s.tim.srcs.map fun x => (x.1, { x.2 with samples := x.2.samples.map (· - 2 * (j : Int)) })
      ppsPrev := s.tim.ppsPrev.map (· + j)
      now := s.tim.now + j } }

/-- The step size a forward step would take: the filtered offset rounded down to a slot, in slots (R99). -/
def State.stepSlots (s : State) : Nat := (s.filtered s.tim.sel).toNat / (960 * fineNs)

/-- TIM_STEP.ARM as the present SCLK cycle found it: a write in the cycle of a step arms the next one (R725). -/
def State.stepArmed (s : State) : Bool :=
  match s.swWrote aTIM_STEP with | some w => bitOf w.1.toNat 0 | none => s.bit aTIM_STEP 0

/-- FORWARD_STEP's conditions at the next slot start, an epoch boundary (R98). -/
def State.stepDue (s : State) : Bool :=
  s.tim.lock && s.tim.slot % 2 ^ 20 == 0 && (s.advTo (s.tim.slot * slotUnits)).stepArmed && s.tim.state == 2 && !s.tim.rootMode
    && decide ((10000 * fineNs : Int) < s.filtered s.tim.sel)

/-- FORWARD_STEP (R98–R101). DEDUCED: log 42. -/
def execForwardStep (s : State) : Host.Outcome State Fault Refusal :=
  .next (
    if s.stepDue then
      let k := s.stepSlots
      let e := s.tim.slot / 2 ^ 20
      let first := s.tim.slot
      let s := (s.advTo (first * slotUnits)).jumped (k * slotUnits)
      let s := ({ s with tim := { s.tim with slot := first + k } }).follow s.tim.sel
      let ns := k * 960
      let s := ((s.setReg aTIM_STEP_SIZE_LO (BitVec.ofNat 32 ns)).setReg aTIM_STEP_SIZE_HI
        (BitVec.ofNat 32 (ns / 2 ^ 32))).setReg aTIM_STEP_EPOCH (BitVec.ofNat 32 e)
      let s := (s.hwReg aTIM_STEP 0).timEvt 5
      let s := s.offer 0x05 2 dieH 0x80 ns (ns / 2 ^ 32) e 0
      let s := (s.bump aTIM_SKIPPED_SLOTS k).skipActions first (first + k)
      let s := if s.rpl.active then s else s.hazard 5
      s.capMark 3 ns
    else s)

/-- INITIAL_LOAD (R102): at the next alignment boundary, where the source's time is ahead. A load that lands exactly on a slot
start performs no slot start there. DESIGN CHOICE: log 104. -/
def execInitialLoad (s : State) : Host.Outcome State Fault Refusal :=
  .next (
    if s.tim.lock && s.tim.loadPend && s.schedRunning then { s with tim := { s.tim with loadPend := false } }
    else if s.tim.lock && s.tim.loadPend then
      let t0 := (s.tim.now + 479) / 480 * 480
      let s := s.advTo t0
      let u : Int := 480 * 1441440
      let v := ((t0 * 1441440 + s.filtered s.tim.sel + (u - 1)) / u).toNat * 480
      let s := { s with tim := { s.tim with loadPend := false } }
      let s := if t0 < v then
          let s := s.jumped (v - t0)
          { s with tim := { s.tim with slot := v / slotUnits + 1, rep0 := v / slotUnits, rep1 := v / slotUnits } }
        else s
      s.follow s.tim.sel
    else s)

/-- HOLDOVER_EXPIRE (R86). -/
def execHoldoverExpire (s : State) : Host.Outcome State Fault Refusal :=
  .next (if s.holdOver then s.toFreerun else s)

/-! ## Exchanges -/

/-- Acquisition goes on with one accepted exchange of the selected source (R87). -/
def State.acquire (s : State) (i : Nat) (off : Int) : State :=
  if i = 32 ∧ s.freqByPin then s.acquired 0
  else
    let f : Facq := match s.tim.facq with
      | some f => if f.src = i then { f with count := f.count + 1 } else ⟨i, 1, off, s.tim.clk⟩
      | none => ⟨i, 1, off, s.tim.clk⟩
    let s := { s with tim := { s.tim with facq := some f } }
    if s.fld aTIM_LOCK 23 16 + 1 ≤ f.count then s.acquired (acqCorr f.off0 off (s.tim.clk - f.clk0)) else s

/-- The frequency two successive pulses show while the switch follows them: the change of offset, and the slew applied
between them, over the root cycles they are apart (R78). DEDUCED: log 104. -/
def pulseCorr (x : TimeSrc) (off2 slew : Int) (clk : Nat) : Int :=
  match x.samples with
  | [] => 0
  | p :: _ => if clk ≤ x.lastClk then 0
    else ((off2 - p) * 720720 + (slew - x.slewAt)) * 1000000000 / (((clk - x.lastClk) * 1441440 : Nat) : Int)

/-- One accepted exchange with source `i`: twice the offset joins the filter (R73), and the servo takes it; PPS_IN without
FREQ_IN also gives the frequency (R78). DEDUCED: log 40. -/
def State.exchange (s : State) (i : Nat) (x : TimeSrc) (off2 : Int) : State :=
  let s := s.settleSlew
  let s := s.setSrc i { x with heard := true, missed := 0, lastClk := s.tim.clk, slewAt := s.tim.slewTot,
                               samples := (off2 :: x.samples).take (filterLen i) }
  let s := s.setSrc i { s.src i with okAt := s.srcValid i }
  if s.tim.rootMode ∨ s.tim.sel ≠ i then s
  else if s.tim.state = 2 then
    let s := s.follow i
    if i = 32 ∧ !s.freqByPin then
      { s with tim := { s.tim with corr := clampCorr (s.tim.corr + pulseCorr x off2 s.tim.slewTot s.tim.clk) } }
    else s
  else if s.srcValid i then s.acquire i off2 else s

/-- A missed exchange (R79); acquisition with that source starts over (R87). -/
def State.missed (s : State) (i : Nat) : State :=
  let x := s.src i
  let s := s.setSrc i { x with missed := x.missed + 1, okAt := false }
  let s := match s.tim.facq with
    | some f => if f.src = i then { s with tim := { s.tim with facq := none } } else s
    | none => s
  s.noSource

/-- What an advertisement says: STATE, ROOT, HOPS and UNC of the first two bytes (R67, R72). DEDUCED: log 41. -/
def advert (x : TimeSrc) (w : List Byte) : TimeSrc :=
  let b := (w.getD 0 0).toNat
  { x with state := b / 64, root := bitOf b 5, hops := b % 32, unc := (w.getD 1 0).toNat }

/-- The offset and delay of R73 from a received word: SLOT at bytes 2–8, PEER_DELTA at 9–12. The peer takes this end's marks as sent
at their slot starts: `late` is by how much the last of them was sent after it (R151), so it leaves d_ab. DEDUCED: log 41. -/
def State.measure (s : State) (i : Nat) (w : List Byte) (arrival : Nat) (asym : Int) (late : Nat) : State :=
  let slot := beNat ((w.drop 2).take 7)
  let dab := signed 32 (beNat ((w.drop 9).take 4)) - (late : Int)
  let dba : Int := (arrival : Int) - (slot * slotUnits : Nat)
  let x := advert (s.src i) w
  s.exchange i { x with delay2 := dab + dba, delta := dba } (dab - dba - asym)

/-- The phase word of a mark, from its K28.1 on, whose 15 symbols are good and whose CRC is right (R67, R69); none where it is
discarded. -/
def markWord (xs : List RxSym) : Option (List Byte) :=
  if xs.head? = some (.good ⟨true, kMark⟩) then
    match symBytes (xs.tail.take 14) with
    | some w => if w.length = 14 ∧ crc8 (w.take 13) = (w.getD 13 0).toNat then some w else none
    | none => none
  else none

/-- Three consecutive K28.5 at one alignment and then an error-free mark bring a lane up (R156). -/
def acquires (xs : List RxSym) : Bool :=
  (xs.take 3 == List.replicate 3 (.good ⟨true, kComma⟩)) &&
    (match startsWith kMark xs with | some ys => (markWord ys).isSome | none => false) && !(xs.any RxSym.bad)

/-- STC_MARK_RX (R68, R69, R73, R149, R156): a run of symbols that holds a mark, and the arrival time stamp of its K28.1. An enabled
lane that is down looks in it for what brings it up. -/
def execStcMarkRx (n : Nat) (syms : List Nat) (arrival : Nat) (s : State) : Host.Outcome State Fault Refusal :=
  .next (
    let xs := recvSyms syms
    let i := stcIdx n
    if s.tim.lock && decide (n < 16) && (s.lane i).up then
      let s := (s.advTo arrival).stcErrs n xs
      let t := match startsWith kMark xs with
        | none => s
        | some xs =>
          match markWord xs with
          | none => (s.bump aTIM_MARK_ERR 1).missed n
          | some w => (s.bump (aLNE_STC_MARKS n) 1).measure n w arrival (signed 16 (s.fld (aTIM_STC_ASYM n) 15 0)) (s.lane i).late
      t.stcBad n xs
    else if decide (n < 16) && s.bit (aLNE_CTRL i) 7 then s.setLane i { s.lane i with acq := acquires xs }
    else s)

/-- STC_MARK_MISS (R79). -/
def execStcMarkMiss (n : Nat) (s : State) : Host.Outcome State Fault Refusal :=
  .next (if s.tim.lock && decide (n < 16) && (s.lane (stcIdx n)).up then s.missed n else s)

/-- A TIME packet that is discarded counts as a mark that is, and is missing (R69, R79). DEDUCED: log 41. -/
def State.timeBad (s : State) (l : Nat) : State := (s.bump aTIM_MARK_ERR 1).missed (16 + l)

/-- TIME_PACKET_RX (R70–R74): the packet as it arrives, and the time stamp of its start. One that fails a check of its port is counted
there as well (R175, R201). -/
def execTimePacketRx (l : Nat) (rx : RxPkt) (arrival : Nat) (s : State) : Host.Outcome State Fault Refusal :=
  .next (
    if s.tim.lock && s.hasL l && s.rxLive (64 + l) 0 && rx.pkt.kind == 0x3D then
      let s := s.advTo arrival
      let w := rx.pkt.payload
      let c := linkCause (64 + l) rx
      let s := s.lineBad (64 + l) rx
      if c ≠ 0 then (s.drop c (8 * (64 + l)) rx.pkt).timeBad l
      else if crc32c (w.take 20) ≠ beNat ((w.drop 20).take 4) then s.timeBad l
      else s.measure (16 + l) w arrival (signed 32 (s.reg (aTIM_LASYM l)).toNat) 0
    else s)

/-- TIME_PACKET_MISS (R79). -/
def execTimePacketMiss (l : Nat) (s : State) : Host.Outcome State Fault Refusal :=
  .next (if s.tim.lock && s.hasL l && s.isUp (64 + l) 0 then s.missed (16 + l) else s)

/-! ## PPS and FREQ_IN -/

/-- Fabric time a PPS_IN pulse marks, in 0.125 ns (R76). -/
def State.ppsMark (s : State) : Nat := ((s.reg aTIM_PPS_SEC).toNat * 1000000000 + s.fld aTIM_PPS_IN_DELAY 15 0) * 8

/-- The pulse lies within 1 µs of its expected fabric time (R77). Locked on PPS_IN it is expected at its mark; before, one
second after the pulse before it. DESIGN CHOICE: log 104. -/
def State.ppsInWindow (s : State) (arrival : Nat) : Bool :=
  let near (e : Nat) : Bool := decide (arrival ≤ e + 8000) && decide (e ≤ arrival + 8000)
  if s.tim.state = 2 ∧ s.tim.sel = 32 then near s.ppsMark
  else match s.tim.ppsPrev with
    | some p => near (p + 8000000000)
    | none => true

/-- A missing or discarded pulse (R77): three in a row make the source invalid, and the next pulse sets the expectation.
DESIGN CHOICE: log 104. -/
def State.ppsMissed (s : State) : State :=
  let s := (s.bump aTIM_PPS_MISS 1).missed 32
  let s := { s with tim := { s.tim with ppsPrev := s.tim.ppsPrev.map (· + 8000000000) } }
  if (s.src 32).missed = 3 ∧ (s.src 32).heard then
    ({ s with tim := { s.tim with ppsPrev := none } }).timEvt 4
  else s

/-- PPS_IN_PULSE (R76, R77): the time stamp of a rising edge; a pulse high for less than 50 ns is ignored (R714). -/
def execPpsInPulse (arrival high : Nat) (s : State) : Host.Outcome State Fault Refusal :=
  .next (
    if s.tim.lock && s.bit aTIM_PPS 0 && decide (50 ≤ high) then
      let s := s.advTo arrival
      if s.ppsInWindow arrival then
        let off2 : Int := 2 * ((s.ppsMark : Int) - arrival)
        let s := s.hwReg aTIM_PPS_SEC (s.reg aTIM_PPS_SEC + 1)
        let s := { s with tim := { s.tim with ppsPrev := some arrival } }
        s.exchange 32 { s.src 32 with up := true, state := 2, root := true, hops := 0, unc := 0 } off2
      else if s.tim.state = 2 ∧ s.tim.sel = 32 then s.ppsMissed
      else s
    else s)

/-- PPS_IN_MISS (R77). -/
def execPpsInMiss (s : State) : Host.Outcome State Fault Refusal :=
  .next (if s.tim.lock && s.bit aTIM_PPS 0 then s.ppsMissed else s)

/-- FREQ_IN_LOSS (R78, R713). -/
def execFreqInLoss (s : State) : Host.Outcome State Fault Refusal :=
  .next { s with tim := { s.tim with freqInOk := false } }

/-- FREQ_IN_RESTORED (R78, R713): the correction FREQ_IN asks for, in 0.001 ppm. It holds on a designated root too.
DESIGN CHOICE: log 104. -/
def execFreqInRestored (corr : Int) (s : State) : Host.Outcome State Fault Refusal :=
  .next (
    let s := { s with tim := { s.tim with freqInOk := true, freqIn := clampCorr corr } }
    if s.bit aCLK_CTRL 0 then { s with tim := { s.tim with corr := clampCorr corr } } else s)

/-- Fabric time of the PPS_OUT edge of second `k`, in 0.125 ns (R103). -/
def State.ppsEdge (s : State) (k : Nat) : Nat :=
  (((k * 1000000000 : Nat) : Int) + signed 32 (s.reg aTIM_PPS_OUT_OFFSET).toNat).toNat * 8

/-- The first second whose edge has not been passed: from `k` on, or from the present time after a jump. -/
def State.ppsDue (s : State) (k : Nat) : Nat :=
  let off := signed 32 (s.reg aTIM_PPS_OUT_OFFSET).toNat
  max k ((((s.ns : Int) - off + 999999999) / 1000000000).toNat)

/-- PPS_OUT_RISE (R103–R105): the edge is skipped where fewer than 10^9 TCLK cycles have passed since the last one. A change
of TIM_PPS_OUT_OFFSET is taken as a jump is. DESIGN CHOICE: log 104. -/
def execPpsOutRise (s : State) : Host.Outcome State Fault Refusal :=
  .next (
    if s.tim.lock then
      let k := s.ppsDue s.tim.ppsNext
      let s := s.advTo (s.ppsEdge k)
      let s := { s with tim := { s.tim with ppsNext := k + 1 } }
      let early := match s.tim.ppsLast with
        | some c => decide (s.tim.clk < c + 8000000000)
        | none => false
      if early then s
      else
        let s := { s with tim := { s.tim with ppsOut := true, ppsLast := some s.tim.clk,
                                              ppsFall := s.tim.clk + s.fld aTIM_PPS 15 8 * 8000 } }
        s.emit (.pin .ppsOut 1)
    else s)

/-- PPS_OUT_FALL (R103). -/
def execPpsOutFall (s : State) : Host.Outcome State Fault Refusal :=
  .next (
    if s.tim.ppsOut then
      let s := s.advTo (s.tim.now + (s.tim.ppsFall - s.tim.clk))
      ({ s with tim := { s.tim with ppsOut := false } }).emit (.pin .ppsOut 0)
    else s)

/-! ## Register access of its own -/

/-- TIM_NOW_LO_READ (R56, R724): the low word is returned and the high word latched for the path. -/
def execTimNowLoRead (p : Path) (s : State) : Host.Outcome State Fault Refusal :=
  .next (
    if decide (s.access p aTIM_NOW_LO false = .served) && decide (regKey p aTIM_NOW_LO = some aTIM_NOW_LO) then
      let s' := { s with latch := tblSet s.latch (latchKey p aTIM_NOW_LO) (BitVec.ofNat 32 (s.ns / 2 ^ 32)) }
      s'.emit (.regRead p aTIM_NOW_LO (BitVec.ofNat 32 s.ns))
    else s)

/-- TIME_ARM (R100, R568): the effect of a write of ARM to TIM_STEP.ARM. -/
def execTimeArm (d : Desc) (arm : Bool) (s : State) : Host.Outcome State Fault Refusal :=
  .next (s.hostCmd d (decide (d.fn = 0)) fun s =>
    ((s.setFld aTIM_STEP 0 0 (b2n arm)).noteSw aTIM_STEP (s.reg aTIM_STEP)).cmdEnd d 0 0 0)

end Sys2Proof.Machine
end

