-- ==== Sys2Proof/Machine/RegRead.lean ====
section
/-! DEFINITION. What a read of a register returns (R16, R19, R721, R724): the stored value, or the value the block has at that
moment for the fields that show its state. -/

namespace Sys2Proof.Machine

/-- A read-only value, cut to 32 bits. -/
def ro (n : Nat) : Option Word := some (BitVec.ofNat 32 n)

/-- Bits 31–0, or 63–32, of a 64-bit value: `hi` is whether the high word is read. -/
def half (n : Nat) (hi : Bool) : Option Word := ro (if hi then n / 2 ^ 32 else n)

/-! ## Package, clocks and time -/

/-- Disabled columns of a mask, saturating at 15 (R33). -/
def disabledCount (mask : Nat) : Nat := min 15 ((List.range 132).filter (bitOf mask)).length

/-- The 40 bytes of the ten COLMAP registers. -/
def State.colmapBytes (s : State) : List Byte := natLe 20 (s.fuse.mask0 % 2 ^ 132) ++ natLe 20 (s.fuse.mask1 % 2 ^ 132)

/-- Word `w` of the five COLMAP registers of a die (R28): bit `b` is physical column 32 × w + b. -/
def colmapWord (mask w : Nat) : Nat := ((mask % 2 ^ 132) >>> (32 * w)) % 2 ^ 32

/-- GLB: every register reads 0 before the fuse read has ended (R31, R32). -/
def State.peekGlb (s : State) (o : Nat) : Option Word :=
  let f := s.fuse
  if !s.boot.fuseDone then ro 0
  else if o = aGLB_FWVER then ro s.boot.fwver
  else if o = aGLB_IDENT then none
  else if o = aGLB_REV then ro f.rev
  else if o = aGLB_GRADE then ro f.grade
  else if o = aGLB_DIEMASK then ro f.dieMask
  else if o = aGLB_RESOURCE then ro f.resrc
  else if o = aGLB_HBM then ro f.hbm
  else if o = aGLB_FUSE_STATUS then
    ro (disabledCount f.mask1 * 2 ^ 12 + disabledCount f.mask0 * 2 ^ 8 + f.format * 2 ^ 4 + b2n s.boot.fuseOk * 2 + 1)
  else if aGLB_C0_COLMAP 0 ≤ o ∧ o ≤ aGLB_C0_COLMAP 4 then ro (colmapWord f.mask0 ((o - aGLB_C0_COLMAP 0) / 4))
  else if aGLB_C1_COLMAP 0 ≤ o ∧ o ≤ aGLB_C1_COLMAP 4 then ro (colmapWord f.mask1 ((o - aGLB_C1_COLMAP 0) / 4))
  else if o = aGLB_MAPDIGEST then ro (crc32c s.colmapBytes)
  else if o = aGLB_SERIAL_LO then ro f.serial
  else if o = aGLB_SERIAL_HI then ro (f.serial / 2 ^ 32)
  else none

/-- The slew being applied, in 0.001 ppm (R49, R97). -/
def State.slewNow (s : State) : Int :=
  if s.residual = 0 then 0 else if 0 < s.residual then 50000 else -50000

/-- CLK. -/
def State.peekClk (s : State) (o : Nat) : Option Word :=
  if o = aCLK_STATUS then ro (b2n s.tim.freqInOk * 4 + b2n s.tim.refclkOk * 2 + b2n s.tim.lock)
  else if o = aCLK_FREQ_CORR then ro (unsigned 32 s.tim.corr)
  else if o = aCLK_TRIM then ro (unsigned 32 (s.tim.corr + s.slewNow))
  else none

/-- Fine units in 0.125 ns. -/
def fineEighth : Nat := fineNs / 8

/-- TIM. -/
def State.peekTim (s : State) (o : Nat) : Option Word :=
  let v := s.fld aTIM_SRC_VIEW 5 0
  if o = aTIM_QUALITY then ro s.quality
  else if o = aTIM_NOW_LO then half s.ns false
  else if o = aTIM_NOW_HI then half s.ns true
  else if o = aTIM_UNCERT then ro s.uncert
  else if o = aTIM_OFFSET then ro (unsigned 32 (toUnits s.residual fineEighth))
  else if o = aTIM_SRC_OFFSET then ro (if v < 33 then unsigned 32 (toUnits (s.filtered v) fineEighth) else 0)
  else if o = aTIM_SRC_DELAY then ro (if v < 33 then unsigned 32 (toUnits (s.src v).delay2 2) else 0)
  else none

/-! ## Host interface, pavilions, configuration, log, management -/

/-- Some bit of an EVENT register is 1. -/
def State.anyEvt (s : State) (o : Nat) : Bool := decide (s.reg o ≠ 0)

/-- Some EVENT bit of block `b` is 1 (R582). -/
def State.blockPend (s : State) (b : Nat) : Bool :=
  match b with
  | 2 => s.anyEvt aTIM_EVENT
  | 3 => (List.range 64).any fun f => s.anyEvt (aHIF_FN_EVENT f)
  | 4 => s.anyEvt aPAV_EVENT
  | 5 => s.anyEvt aCFG_EVENT
  | 6 => s.anyEvt aLOG_EVENT
  | 7 => s.anyEvt aMGT_EVENT
  | 8 => (List.range 784).any fun i => s.anyEvt (aLNE_EVENT i)
  | 9 => (List.range 84).any fun p => s.anyEvt (aPRT_EVENT p)
  | 10 => s.anyEvt aRTE_EVENT
  | 11 => s.anyEvt (aBPM_EVENT 0) || s.anyEvt (aBPM_EVENT 1)
  | 12 => s.anyEvt aSCH_EVENT
  | 13 => s.anyEvt aCEL_EVENT
  | 14 => s.anyEvt aCOL_EVENT
  | 15 => s.anyEvt aMXU_EVENT
  | 16 => s.anyEvt aSTR_EVENT
  | 17 => s.anyEvt aMEM_EVENT
  | 18 => s.anyEvt aDET_EVENT
  | 19 => s.anyEvt aPWR_EVENT
  | _ => false

/-- The function page registers of function `f`, at offset `o` of the page (R548–R556). -/
def State.peekFn (s : State) (f o : Nat) : Option Word :=
  if o = 0 then
    ro (b2n (decide (f = 0)) * 2 ^ 16 + f * 2 ^ 8 + (match s.fnPav f with | some p => 2 ^ 6 + p | none => 0))
  else if 0x1000 ≤ o ∧ o < 0x3000 then
    let i := (o - 0x1000) / 0x20
    let q := s.sq f i
    if o % 0x20 = 0xC then ro (q.tail * 2 ^ 16 + q.head)
    else if o % 0x20 = 0x10 then
      ro (b2n (q.fenced && s.outstanding f i) * 4 + b2n q.error * 2 + b2n (s.bit (aSQ_CTRL f i) 0 || s.outstanding f i))
    else none
  else if 0x3000 ≤ o ∧ o < 0x5000 then
    let j := (o - 0x3000) / 0x20
    let q := s.cq f j
    if o % 0x20 = 0xC then ro (q.head * 2 ^ 16 + q.tail)
    else if o % 0x20 = 0x14 then
      ro (q.pend * 2 ^ 8 + b2n q.phase * 4 + b2n q.error * 2 + b2n (s.cqOn f j))
    else none
  else none

/-- HIF. DEDUCED: log 86. -/
def State.peekHif (s : State) (o : Nat) : Option Word :=
  if 0x10000000 ≤ o then s.peekFn ((o - 0x10000000) / 0x8000) (o % 0x8000)
  else if 0x38000 ≤ o then s.peekFn 0 (o % 0x8000)
  else if o = aHIF_LINK then
    ro (if s.hif.linkUp then 2 ^ 9 + b2n s.hif.flit * 2 ^ 8 + s.hif.rate % 16 * 2 ^ 4 + s.hif.width % 16 else 0)
  else if o = aHIF_NUMVF then ro s.hif.numVf
  else if o = aHIF_BLK_IRQ_PEND then ro (((List.range 20).map fun b => b2n (s.blockPend b) * 2 ^ b).foldl (· + ·) 0)
  else none

/-- SCLK cycles in an approval window (R608). -/
def windowSclk : Nat := 2500000000

/-- A range entry's BASE or SIZE. -/
def rangeWord (r : Range) (size : Bool) : Option Word := ro (if size then r.size else r.base)

/-- A RESERVE cap by 4 × die + pool: an entry that owns the whole pool (R590) has all of its buffers. -/
def State.capOf (s : State) (e : PavEntry) (i : Nat) : Nat :=
  let c := e.reserve.getD i 0
  if c < 2 ^ 20 then c else s.poolCount (i / 4) (i % 4)

/-- PAV_TBL registers, of the viewed entry. DEDUCED: log 86. -/
def State.peekPavTbl (s : State) (o : Nat) : Option Word :=
  let e := s.pavEntry (s.fld aPAV_VIEW 5 0)
  if o = aPAV_TBL_ID then ro (b2n e.valid * 2 ^ 31 + e.function * 2 ^ 16 + e.tokens)
  else if o = aPAV_TBL_UNITS then ro (e.engines * 2 ^ 8 + e.units)
  else if aPAV_TBL_COL 0 ≤ o ∧ o ≤ aPAV_TBL_COL 7 then ro (e.columns >>> (8 * (o - aPAV_TBL_COL 0)))
  else if aPAV_TBL_PORT 0 ≤ o ∧ o ≤ aPAV_TBL_PORT 2 then ro (e.ports >>> (8 * (o - aPAV_TBL_PORT 0)))
  else if o = aPAV_TBL_STREAMS 0 then ro e.streams.base
  else if o = aPAV_TBL_STREAMS 1 then ro e.streams.size
  else if o = aPAV_TBL_GROUPS then ro (e.groups.size * 2 ^ 16 + e.groups.base)
  else if o < aPAV_TBL_EMBER 0 0 then rangeWord (if o < aPAV_TBL_HBM 1 0 then e.hbm0 else e.hbm1) (o % 8 == 4)
  else if o < aPAV_TBL_SBUF 0 0 then rangeWord (if o < aPAV_TBL_EMBER 1 0 then e.ember0 else e.ember1) (o % 8 == 4)
  else if o < aPAV_TBL_RSV 0 then rangeWord (if o < aPAV_TBL_SBUF 1 0 then e.sbuf0 else e.sbuf1) (o % 8 == 4)
  else let i := (o - aPAV_TBL_RSV 0) / 4; ro (s.capOf e i)

/-- Bytes 0–7 of a hash, as a little-endian number; 0 for a key that is not loaded. DEDUCED: log 88. -/
def keyFp (key : Nat) : Nat := if key = 0 then 0 else leNat ((sha384 (keyBytes key)).take 8)

/-- PROPOSAL_DIGEST bytes 0–7 of the pending proposal, as a little-endian number. -/
def State.pendDigest (s : State) : Nat :=
  match s.pav.pend with | some p => leNat ((natBe 48 p.digest).take 8) | none => 0

/-- PAV. -/
def State.peekPav (s : State) (o : Nat) : Option Word :=
  if o = aPAV_STATUS then
    ro (b2n (decide (s.pav.scrubs ≠ [])) * 4 + b2n s.pav.pend.isSome * 2 + b2n (decide (s.pav.opKey ≠ 0 ∧ s.pav.cuKey ≠ 0)))
  else if o = aPAV_SEQ then ro s.pav.seq
  else if o = aPAV_NONCE_LO ∨ o = aPAV_NONCE_HI then half s.pav.nonce (o == aPAV_NONCE_HI)
  else if o = aPAV_WINDOW then
    ro (match s.pav.pend with
      | some p => (toUnits ((windowSclk * 32 - (s.tim.clk - p.clk) : Nat) : Int) 8000000).toNat
      | none => 0)
  else if o = aPAV_CUST then ro s.pav.cust
  else if o = aPAV_OPKEY_FP_LO ∨ o = aPAV_OPKEY_FP_HI then half (keyFp s.pav.opKey) (o == aPAV_OPKEY_FP_HI)
  else if o = aPAV_CUKEY_FP_LO ∨ o = aPAV_CUKEY_FP_HI then half (keyFp s.pav.cuKey) (o == aPAV_CUKEY_FP_HI)
  else if o = aPAV_PEND_DIG_LO ∨ o = aPAV_PEND_DIG_HI then half s.pendDigest (o == aPAV_PEND_DIG_HI)
  else if aPAV_TBL_ID ≤ o ∧ o < aPAV_EVENT then s.peekPavTbl o
  else none

/-- CFG. -/
def State.peekCfg (s : State) (o : Nat) : Option Word :=
  let b := s.boot
  if o = aCFG_BOOT then
    ro (b2n (b.fuseDone && s.fuse.owner == 0) * 2 ^ 9 + b2n (b.copy == some 1) * 2 ^ 8 + b.error * 2 ^ 4 + b.stage)
  else if o = aCFG_RESET_CAUSE then ro b.cause
  else if o = aCFG_WARM_COUNT then ro b.warmCount
  else if o = aCFG_ROM_VER then some Config.romVersion
  else if o = aCFG_CONFIG_IGNORED then ro b.ignored
  else if o = aCFG_COPY_A then ro b.copyA.status
  else if o = aCFG_COPY_A_SEQ then ro b.copyA.seq
  else if o = aCFG_COPY_A_FWVER then ro b.copyA.fwver
  else if o = aCFG_COPY_B then ro b.copyB.status
  else if o = aCFG_COPY_B_SEQ then ro b.copyB.seq
  else if o = aCFG_COPY_B_FWVER then ro b.copyB.fwver
  else if o = aCFG_ROOT_STATE then ro (b2n (b.fuseDone && s.fuse.owner != 0))
  else if aCFG_ROOT_FP 0 ≤ o ∧ o ≤ aCFG_ROOT_FP 11 then
    ro (if b.fuseDone then s.fuse.owner >>> (8 * (o - aCFG_ROOT_FP 0)) else 0)
  else if o = aCFG_FUSE_PROG then ro (b2n b.fpErr * 4 + b2n b.fpBusy.isSome * 2)
  else if o = aCFG_FL_CMD then
    ro ((s.reg o).toNat % 2 ^ 30 + b2n b.flBusy.isSome * 2 ^ 31 + b2n b.flErr * 2 ^ 30)
  else if o = aCFG_FL_JEDEC then ro (if 3 ≤ b.stage then Config.jedecId.toNat else 0)
  else none

/-- Word `i` of the entry that LOG_VIEW names (R667). -/
def State.viewWord (s : State) (i : Nat) : Nat :=
  match s.ringEntry (s.reg aLOG_VIEW).toNat with
  | some e => leNat (((entryBytes e).drop (4 * i)).take 4)
  | none => 0

/-- LOG. -/
def State.peekLog (s : State) (o : Nat) : Option Word :=
  if o = aLOG_STATUS then ro (b2n s.log.fatal * 2 ^ 31 + s.log.cause * 2 ^ 24 + s.undrained)
  else if o = aLOG_WR_SEQ then ro s.log.wrSeq
  else if o = aLOG_DRAIN_SEQ then ro s.log.drainSeq
  else if aLOG_ENTRY 0 ≤ o ∧ o ≤ aLOG_ENTRY 7 then ro (s.viewWord ((o - aLOG_ENTRY 0) / 4))
  else none

/-- MGT. -/
def State.peekMgt (s : State) (o : Nat) : Option Word :=
  if o = aMGT_SMB_CFG then ro ((s.reg o).toNat / 4 * 4 + Config.smbStraps.toNat)
  else if o = aMGT_RELAY then ro (match s.mgt.relay with | some (l, _) => 2 ^ 31 + l | none => 0)
  else none

/-! ## Lanes, ports, routing, buffers, queues -/

/-- KIND of a lane: 0 F, 1 L, 2 S, 3 STC. -/
def laneKind (i : Nat) : Nat := if i < 512 then 0 else if i < 640 then 1 else if i < 656 then 2 else 3

/-- LNE. -/
def State.peekLne (s : State) (o : Nat) : Option Word :=
  let i := (o - 0x100000) / 0x400
  let x := s.lane i
  if o % 0x400 = 4 then
    ro (laneKind i * 2 ^ 8 + b2n (s.laneTest i) * 2 ^ 5 + b2n x.chkLock * 2 ^ 4 + b2n (x.up && laneKind i == 3) * 2 ^ 3
      + b2n x.sym * 4 + b2n x.cdr * 2 + b2n x.sigDet)
  else none

/-- PRT. -/
def State.peekPrt (s : State) (o : Nat) : Option Word :=
  let p := (o - 0x200000) / 0x1000
  let r := o % 0x1000
  if r = 4 then ro (((List.range 8).map fun k => (s.sub p k).state * 2 ^ (4 * k)).foldl (· + ·) 0)
  else if r = 8 then ro (((List.range 8).map fun k => b2n (s.sub p k).rxRest * 2 ^ k).foldl (· + ·) 0)
  else if r = 0x10 then ro (s.sub p (s.fld (aPRT_VIEW p) 2 0)).peer
  else none

/-- RTE. -/
def State.peekRte (s : State) (o : Nat) : Option Word :=
  if o = aRTE_CRED_AVAIL then
    let e := s.fld aRTE_CRED_VIEW 14 5
    ro (if s.egrOk e then s.credits e (s.fld aRTE_CRED_VIEW 2 0) else 0)
  else none

/-- BPM. -/
def State.peekBpm (s : State) (o : Nat) : Option Word :=
  let die := (o - 0x310000) / 0x4000
  let r := o % 0x4000
  if r < 0x100 ∨ 0x200 ≤ r then none
  else
    let k := (r - 0x100) / 0x40
    let s := s.settleFrees
    let on := s.bpmReady die
    if r % 0x40 = 8 then ro (if on then (s.pool die k).free else 0)
    else if r % 0x40 = 0xC then ro (if on then (s.avail die k).toNat else 0)
    else if r % 0x40 = 0x10 then ro (if on then s.poolCount die k - (s.pool die k).free else 0)
    else if r % 0x40 = 0x24 then ro (s.rsvSum die k % 2 ^ 20)
    else none

/-- SCH. -/
def State.peekSch (s : State) (o : Nat) : Option Word :=
  if o < 0x330000 then
    let p := s.policer (s.fld aSCH_POL_VIEW 12 0)
    if o = aSCH_POL_GREEN then ro p.green
    else if o = aSCH_POL_YELLOW then ro p.yellow
    else if o = aSCH_POL_RED then ro p.red
    else none
  else
    let p := (o - 0x330000) / 0x2000
    let r := o % 0x2000
    if r = 0x20 then
      ro (if 80 ≤ p then (s.pause (p - 80)).txXoff * 2 ^ 8
            + ((List.range 8).map fun k => b2n (s.priPaused (p - 80) k) * 2 ^ k).foldl (· + ·) 0
          else 0)
    else if r < 0x100 then none
    else
      let e := 8 * p + (r - 0x100) / 0x200
      let t := (r - 0x100) % 0x200
      if 0x100 ≤ t ∧ t < 0x140 ∧ t % 8 = 0 then ro (min 0xFFFFFF (s.depth e ((t - 0x100) / 8)))
      else if t = 0x184 then ro (b2n (s.egrOk e && s.reserved e s.curSlot))
      else none

/-! ## Cells, collectives, units, streams, memory -/

/-- One byte of CEL_COLOWN: UNOWNED, or the owner (R592). -/
def State.colOwn (s : State) (v : Nat) : Nat := match s.columnPav v with | some p => p | none => 128

/-- CEL. -/
def State.peekCel (s : State) (o : Nat) : Option Word :=
  if o = aCEL_STATUS then
    ro ((s.reg o).toNat / 2 * 2 + b2n (decide (s.cel.runs ≠ [])))
  else if aCEL_COLOWN 0 ≤ o ∧ o ≤ aCEL_COLOWN 63 then
    ro (((List.range 4).map fun j => s.colOwn (o - aCEL_COLOWN 0 + j) * 2 ^ (8 * j)).foldl (· + ·) 0)
  else none

/-- The slowest member of a group (R382): the largest cumulative lag, the lower index on a tie. -/
def Group.slowest (x : Group) : Nat :=
  (List.range x.members.length).foldl (fun b m =>
    if tblGet (fun _ => 0) x.lag b < tblGet (fun _ => 0) x.lag m then m else b) 0

/-- The per-group and per-member registers of COL. -/
def State.peekGrp (s : State) (x : Group) (o : Nat) : Option Word :=
  let m := s.fld aCOL_VIEW 21 16
  if o = aCOL_GRP_STATE then
    ro (2 ^ 31 + (if x.live then x.state else 0) * 2 ^ 24 + x.step % 4 * 2 ^ 16 + x.lastStatus * 2 ^ 8 + x.pav)
  else if o = aCOL_GRP_STEP_LO ∨ o = aCOL_GRP_STEP_HI then half x.step (o == aCOL_GRP_STEP_HI)
  else if o = aCOL_LATE_MAP_LO ∨ o = aCOL_LATE_MAP_HI then half x.lateMap (o == aCOL_LATE_MAP_HI)
  else if o = aCOL_LAST_FAIL then ro x.lastFail
  else if o = aCOL_SLOW then ro (if x.lag = [] then 0 else 2 ^ 31 + x.slowest)
  else if o = aCOL_MEM_LAG_LO ∨ o = aCOL_MEM_LAG_HI then half (tblGet (fun _ => 0) x.lag m) (o == aCOL_MEM_LAG_HI)
  else
    let b := (o - aCOL_LAG_HIST 0) / 2
    ro (tblGet (fun _ => 0) x.hist (16 * m + b + 1) * 2 ^ 16 + tblGet (fun _ => 0) x.hist (16 * m + b))

/-- COL. DEDUCED: log 86. -/
def State.peekCol (s : State) (o : Nat) : Option Word :=
  if aCOL_GRP_STATE ≤ o ∧ o ≤ aCOL_LAG_HIST 7 ∧ o ≠ aCOL_LAG_CLR then
    (match s.grp (s.fld aCOL_VIEW 11 0) with
     | some x => s.peekGrp (s.takeLag x s.tim.now) o
     | none => ro 0)
  else none

/-- MXU. -/
def State.peekMxu (s : State) (o : Nat) : Option Word :=
  let u := (o - aMXU_STATUS 0) / 0x100
  if aMXU_STATUS 0 ≤ o ∧ o % 0x100 = 0 then
    ro (b2n (match (s.mx u).run with | some r => r.started | none => false) * 2 ^ 31 + b2n (s.mx u).held.isSome * 2 ^ 30
      + (match s.unitPav u with | some p => p * 2 ^ 24 | none => 2 ^ 23) + (s.reg o).toNat % 2 ^ 16)
  else none

/-- STR. -/
def State.peekStr (s : State) (o : Nat) : Option Word :=
  let x := s.stream (s.fld aSTR_VIEW 15 0)
  if o = aSTR_STATE then ro (x.state * 2 ^ 29 + x.kc % 16 * 2 ^ 24 + x.lastStatus % 16 * 2 ^ 20)
  else if o = aSTR_STEP_LO ∨ o = aSTR_STEP_HI then half x.step (o == aSTR_STEP_HI)
  else if o = aSTR_LAST_RESET_LO ∨ o = aSTR_LAST_RESET_HI then half x.lastReset (o == aSTR_LAST_RESET_HI)
  else if o = aSTR_DIGEST then ro x.digest
  else none

/-- The gather engine of stack `k` is active: a prologue uses it, or it serves a request (R485). DEDUCED: log 86. -/
def State.engineBusy (s : State) (k : Nat) : Bool :=
  (s.mxu.any fun e => match e.2.run with | some r => r.engine == some k && r.started | none => false)
    || (s.gheld.any fun e => e.1 == k)

/-- MEM. -/
def State.peekMem (s : State) (o : Nat) : Option Word :=
  if aMEM_HBM_STATUS 0 ≤ o then
    let k := (o - aMEM_HBM_STATUS 0) / 4
    ro (b2n (s.engineBusy k) * 4 + (s.reg o).toNat % 4 / 2 * 2 + b2n (hbmPlaced s.fuse.asm k))
  else none

/-! ## Capture, replay, power -/

/-- DET. DEDUCED: log 86. -/
def State.peekDet (s : State) (o : Nat) : Option Word :=
  let c := s.cap
  if o = aDET_CAP_CFG then
    ro (b2n c.active * 2 ^ 31 + b2n c.armed * 2 ^ 30 + b2n c.triggered * 2 ^ 29 + c.dest * 2 ^ 27 + b2n c.full * 2 ^ 26
      + b2n c.egress * 2 ^ 25 + c.sport * 2 ^ 16)
  else if o = aDET_CAP_WR_LO ∨ o = aDET_CAP_WR_HI then half s.capPos (o == aDET_CAP_WR_HI)
  else if o = aDET_CAP_OLDEST_LO ∨ o = aDET_CAP_OLDEST_HI then half (c.oldest % max 64 c.size) (o == aDET_CAP_OLDEST_HI)
  else if o = aDET_CAP_RECSEQ then ro c.seq
  else if o = aDET_DIG_CMD then ro ((s.reg o).toNat % 2 ^ 31 + b2n s.digest.isSome * 2 ^ 31)
  else none

/-- PWR. -/
def State.peekPwr (s : State) (o : Nat) : Option Word :=
  let now := s.tim.now
  if o = aPWR_BUDGET then ro s.budget
  else if o = aPWR_INUSE then ro (min 255 (s.tokensAt now).length)
  else if o = aPWR_PAV_TOKENS then
    let p := s.fld aPWR_PAV_VIEW 5 0
    ro ((s.pavEntry p).tokens * 2 ^ 8 + min 255 (s.pavTokens p now))
  else if o = aPWR_IMG_STATE then
    ro ((s.reg o).toNat / 8 * 8 + b2n (s.sched.launched && decide (s.sched.start ≤ s.curSlot)) * 4 + b2n s.sched.launched * 2
      + b2n s.img.isSome)
  else if o = aPWR_TOKEN_CYCLES_LO ∨ o = aPWR_TOKEN_CYCLES_HI then
    let done := (s.reg aPWR_TOKEN_CYCLES_LO).toNat + (s.reg aPWR_TOKEN_CYCLES_HI).toNat * 2 ^ 32
    let held := ((s.tokens.filter fun k => k.until_.isNone).map fun k => s.cyc - k.since).foldl (· + ·) 0
    half (min (2 ^ 64 - 1) (done + held)) (o == aPWR_TOKEN_CYCLES_HI)
  else if o = aPWR_ITER_LO ∨ o = aPWR_ITER_HI then half (s.iterOf s.curSlot) (o == aPWR_ITER_HI)
  else none

/-- The value a field shows that is not stored, by block (R582 numbers the blocks). -/
def State.shown (s : State) (o : Nat) : Option Word :=
  match blockOf o with
  | 0 => s.peekGlb o
  | 1 => s.peekClk o
  | 2 => s.peekTim o
  | 3 => s.peekHif o
  | 4 => s.peekPav o
  | 5 => s.peekCfg o
  | 6 => s.peekLog o
  | 7 => s.peekMgt o
  | 8 => s.peekLne o
  | 9 => s.peekPrt o
  | 10 => s.peekRte o
  | 11 => s.peekBpm o
  | 12 => s.peekSch o
  | 13 => s.peekCel o
  | 14 => s.peekCol o
  | 15 => s.peekMxu o
  | 16 => s.peekStr o
  | 17 => s.peekMem o
  | 18 => s.peekDet o
  | 19 => s.peekPwr o
  | _ => none

/-- The value of the register at `o`, with no side effect: 0 where none lies there (R721) or its die is absent (R19). BUSY is bit 31 of
a table's CMD register (R208). -/
def State.peek (s : State) (o : Nat) : Word :=
  if (regRow o).isNone || s.absent o then 0
  else match s.shown o, s.swWrote o with
    | some v, _ => v
    | none, some w => w.2
    | none, none => if s.tblBusy o then s.reg o ||| 0x80000000 else s.reg o

/-- The register at `o` is the low word of a pair read "low word first" (R724). -/
def isPairLow (o : Nat) : Bool := match regRow o with | some r => r.pair | none => false

/-- The register at `o` is the high word of such a pair. -/
def isPairHigh (o : Nat) : Bool := decide (4 ≤ o) && isPairLow (o - 4)

/-- A served read on a path and its value: a low word latches its high word for the path, a high word returns the latch
(R56, R724). -/
def State.read (s : State) (p : Path) (o : Nat) : Word × State :=
  if s.absent o then (0, s)
  else if isPairHigh o then (tblGet (fun _ => 0) s.latch (latchKey p (o - 4)), s)
  else if isPairLow o then
    (s.peek o, { s with latch := tblSet s.latch (latchKey p o) (s.peek (o + 4)) })
  else (s.peek o, s)

/-- The bytes of a word that `be` enables (R722). -/
def enabled (be : Nat) (v : Word) : Word :=
  v &&& BitVec.ofNat 32 (((List.range 4).map fun i => if bitOf be i then 255 * 2 ^ (8 * i) else 0).foldl (· + ·) 0)

/-- A dword of a function's BAR4: its MSI-X table, or its pending-bit array (R547, R580). -/
def State.bar4Read (s : State) (f off : Nat) : Word :=
  if 0x8000 ≤ off then
    BitVec.ofNat 32 (((List.range 32).map fun b =>
      b2n (s.hif.msixPend.contains (2048 * f + (off - 0x8000) * 8 + b)) * 2 ^ b).foldl (· + ·) 0)
  else if off % 16 = 12 then (if s.hif.msixOpen.contains (2048 * f + off / 16) then 0 else 1)
  else s.reg (msixKey f off)

/-- Where a read's offset lies in BAR4, whose offsets begin at 0x2000_0000 in a read command; none in BAR0. DESIGN CHOICE: log 22. -/
def bar4Off (off : Nat) : Option Nat := if 0x20000000 ≤ off ∧ off < 0x20010000 then some (off - 0x20000000) else none

/-- LATCHED_PAIR_READ (R722, R724): a read of any register on a path, whole whichever bytes are enabled; what is not served reads 0
(R635, R644, R721), and a management path's refused read returns nothing (R671). -/
def execLatchedPairRead (p : Path) (off be : Nat) (s : State) : Host.Outcome State Fault Refusal :=
  .next (
    match p, bar4Off off with
    | .fn f, some o => s.emit (.regRead p off (if s.hostServed ∧ f < 64 ∧ o < 0x8100 ∧ o % 4 = 0 then enabled be (s.bar4Read f o) else 0))
    | _, _ =>
      match regKey p off with
      | none => s.emit (.regRead p off 0)
      | some o =>
        match s.access p o false with
        | .served =>
          let r := s.read p o
          r.2.emit (.regRead p off (enabled be r.1))
        | .blank => s.emit (.regRead p off 0)
        | _ => s)

end Sys2Proof.Machine
end

