-- ==== Sys2Proof/Machine/Host.lean ====
section
/-! DEFINITION. The host's rings: doorbells, ring control, waiting completions, moderation, counter snapshots, function resets and
the loss of the host link (R549–R587). -/

namespace Sys2Proof.Machine

/-! ## Doorbells (R554–R556) -/

/-- A rejected doorbell (R554). -/
def State.dbInvalid (s : State) (f : Nat) : State := (s.bump aHIF_DB_INVALID 1).fnEvt f 0

/-- A doorbell value moves an index from `t` towards `lim`, modulo the ring's size (R555, R556). -/
def dbOk (sz lim t v : Nat) : Bool := decide (v < sz) && decide ((v + sz - t) % sz ≤ (lim + sz - t) % sz)

/-- SQ_DOORBELL (R554, R555): function, doorbell page, offset in the page, width in bytes and value. -/
def execSqDoorbell (f i off width v : Nat) (s : State) : Host.Outcome State Fault Refusal :=
  .next (
    if !s.hostServed || decide (64 ≤ f) then s
    else
      let q := s.sq f i
      let sz := s.ringSize (aSQ_CTRL f i)
      if decide (i < 256) && decide (off = 0) && decide (width = 4) && s.bit (aSQ_CTRL f i) 0
          && dbOk sz (q.head + sz - 1) q.tail v then
        s.setSq f i { q with tail := v }
      else s.dbInvalid f)

/-- CQ_DOORBELL (R554, R556). -/
def execCqDoorbell (f j off width v : Nat) (s : State) : Host.Outcome State Fault Refusal :=
  .next (
    if !s.hostServed || decide (64 ≤ f) then s
    else
      let q := s.cq f j
      if decide (j < 256) && decide (off = 0) && decide (width = 4) && s.cqOn f j
          && dbOk (s.ringSize (aCQ_CTRL f j)) q.tail q.head v then
        s.setCq f j { q with head := v, was := s.cqHead f j, wasAt := s.tim.clk / 32 + 1 }
      else s.dbInvalid f)

/-! ## Ring control (R549–R553) -/

/-- A ring write is ignored (R550, R551). -/
def State.ringIgnored (s : State) (f : Nat) : State := s.fnEvt f 4

/-- LOG2SIZE of a control word is one R549 allows. -/
def sizeOk (v : Nat) : Bool := decide (4 ≤ bitsOf v 8 4) && decide (bitsOf v 8 4 ≤ 16)

/-- The fields of `keep` in `v` are those of the present value. DEDUCED: log 82. -/
def keepFields (old v keep : Word) : Word := (v &&& ~~~keep) ||| (old &&& keep)

/-- A write to SQ_CTRL (R550, R551, R553): CQ and LOG2SIZE change only while ENABLE is 0; enabling needs an enabled CQ.
DEDUCED: log 82. -/
def State.sqCtrl (s : State) (f i : Nat) (v : Word) : State :=
  let o := aSQ_CTRL f i
  let on := s.bit o 0
  let w := if on then keepFields (s.reg o) v 0x00FF01F0 else v
  let s := if on && (s.reg o ^^^ v) &&& 0x00FF01F0 != 0 then s.ringIgnored f else s
  let up := bitOf w.toNat 0
  if !on && up then
    if sizeOk w.toNat && s.cqOn f (bitsOf w.toNat 23 16) then
      (s.plainWrite o w).setSq f i ⟨0, 0, false, false⟩
    else s.ringIgnored f
  else
    let s := s.plainWrite o w
    if on && !up then s.setSq f i { s.sq f i with fenced := false } else s

/-- SQ_CTRL_WRITE: a function writes its SQ `i`'s control register. -/
def execSqCtrlWrite (f i : Nat) (v : Word) (s : State) : Host.Outcome State Fault Refusal :=
  .next (if decide (f < 64) && decide (i < 256) && s.mayWrite (.fn f) (aSQ_CTRL f i) then s.oneCycle (·.sqCtrl f i v) else s)

/-- An enabled SQ of the function names the CQ. -/
def State.cqNamed (s : State) (f j : Nat) : Bool :=
  (List.range 256).any fun i => s.bit (aSQ_CTRL f i) 0 && s.fld (aSQ_CTRL f i) 23 16 == j

/-- A write to CQ_CTRL (R550, R551). DEDUCED: log 82. -/
def State.cqCtrl (s : State) (f j : Nat) (v : Word) : State :=
  let o := aCQ_CTRL f j
  let on := s.bit o 0
  let w := if on then keepFields (s.reg o) v 0x000001F0 else v
  let s := if on && (s.reg o ^^^ v) &&& 0x000001F0 != 0 then s.ringIgnored f else s
  let up := bitOf w.toNat 0
  if !on && up then
    if sizeOk w.toNat then
      (s.plainWrite o w).setCq f j { s.cq f j with head := 0, tail := 0, phase := true, error := false, pend := 0, wasAt := 0 }
    else s.ringIgnored f
  else if on && !up then
    if s.cqNamed f j then s.ringIgnored f
    else (s.plainWrite o w).setCq f j { s.cq f j with pend := 0 }
  else s.plainWrite o w

/-- CQ_CTRL_WRITE: a function writes its CQ `j`'s control register. -/
def execCqCtrlWrite (f j : Nat) (v : Word) (s : State) : Host.Outcome State Fault Refusal :=
  .next (if decide (f < 64) && decide (j < 256) && s.mayWrite (.fn f) (aCQ_CTRL f j) then s.oneCycle (·.cqCtrl f j v) else s)

/-! ## Completions that wait, overflow and moderation (R577, R581) -/

/-- The oldest completion of a command that waits for a CQ. -/
def State.waiting1 (s : State) (f j : Nat) : Option Taken :=
  s.hif.taken.find? fun t => t.fn == f && t.cq == j && t.cpl.isSome

/-- CMD_COMPLETION_RESUME (R560, R577): with space back, a waiting completion is written; `ok` is whether PCIe took it. -/
def execCmdCompletionResume (f j : Nat) (ok : Bool) (s : State) : Host.Outcome State Fault Refusal :=
  .next (
    match s.waiting1 f j with
    | none => s
    | some t =>
      match t.cpl with
      | none => s
      | some c =>
        let s1 := s.cqOverflow f j
        if s1.cqRoom f j then
          let s2 := s1.dropTaken t.no
          if ok then s2.cqWrite f j { c with aux := (s2.sq f t.sq).head, slot := s2.curSlot, cycle := s2.curCclk }
          else s2.cqFail f j
        else s1)

/-- OVERFLOW_RECORD (R577). -/
def execOverflowRecord (f j : Nat) (s : State) : Host.Outcome State Fault Refusal := .next (s.cqOverflow f j)

/-- IRQ_MODERATION_TIMEOUT (R581): TIME_US has passed since the first pending entry. -/
def execIrqModerationTimeout (f j : Nat) (s : State) : Host.Outcome State Fault Refusal :=
  .next (
    let us := s.fld (aCQ_MODER f j) 31 16
    let q := s.cq f j
    if s.cqOn f j && s.bit (aCQ_CTRL f j) 1 && decide (us ≠ 0) && decide (q.pend ≠ 0) then
      (s.advTo (s.nowAt (q.first + 8000 * us))).cqRaise f j
    else s)

/-! ## MSI-X table (R547, R580) -/

/-- A write to BAR4: address and data words are kept; the mask bit of vector control opens or closes the vector, and a
pending message leaves when it opens. The pending-bit array is read only. PRESUMED: log 22. -/
def State.bar4Write (s : State) (f off : Nat) (v : Word) : State :=
  if 0x8000 ≤ off then s
  else if off % 16 = 12 then
    let k := 2048 * f + off / 16
    if bitOf v.toNat 0 then { s with hif := { s.hif with msixOpen := s.hif.msixOpen.filter (· != k) } }
    else
      let was := s.hif.msixPend.contains k
      let s := { s with hif := { s.hif with msixOpen := k :: s.hif.msixOpen.filter (· != k),
                                            msixPend := s.hif.msixPend.filter (· != k) } }
      if was then s.sendMsix f (off / 16) else s
  else s.setReg (msixKey f off) v

/-! ## Counter snapshots (R570) -/

/-- The offset lies in a block of R720. -/
def inBlock (o : Nat) : Bool :=
  decide (o < 0x80000) || (decide (0x100000 ≤ o) && decide (o < 0x1C4000)) || (decide (0x200000 ≤ o) && decide (o < 0x254000))
    || (decide (0x300000 ≤ o) && decide (o < 0x318000)) || (decide (0x320000 ≤ o) && decide (o < 0x3D8000))
    || (decide (0x400000 ≤ o) && decide (o < 0x470000))

/-- The range of a snapshot is one R570 allows. -/
def snapRange (off len : Nat) : Bool :=
  off % 4 == 0 && len % 4 == 0 && decide (4 ≤ len) && decide (len ≤ 4096) && decide (off / 0x10000 = (off + len - 4) / 0x10000)
    && inBlock off && inBlock (off + len - 4)

/-- The port whose PRT or SCH page an offset lies in. -/
def pagePort (o : Nat) : Option Nat :=
  if 0x200000 ≤ o ∧ o < 0x254000 then some ((o - 0x200000) / 0x1000)
  else if 0x330000 ≤ o ∧ o < 0x3D8000 then some ((o - 0x330000) / 0x2000)
  else none

/-- Every register of the range lies in a page of a port that a VF's pavilion owns. -/
def State.snapOwned (s : State) (f off len : Nat) : Bool :=
  f == 0 || (List.range (len / 4)).all fun i =>
    match pagePort (off + 4 * i) with
    | some p => (s.portPav p).isSome && s.portPav p == s.fnPav f
    | none => false

/-- COUNTER_SNAPSHOT (R565, R570): `ok` is whether PCIe took the writes. -/
def execCounterSnapshot (d : Desc) (off len addr : Nat) (ok : Bool) (s : State) : Host.Outcome State Fault Refusal :=
  .next (s.hostCmd d (s.fnPav d.fn).isSome fun s =>
    if !snapRange off len then s.cmdEnd d 1 0 0
    else if !s.snapOwned d.fn off len then s.cmdEnd d 2 0 0
    else if !ok then s.cmdEnd d 0xF2 0 0
    else
      let bs := (List.range (len / 4)).flatMap fun i => natLe 4 (s.peek (off + 4 * i)).toNat
      (s.emit (.dma addr bs)).cmdEnd d 0 0 0)

/-- OPCODE_REFUSED (R566): an unknown OPCODE completes with OPCODE. -/
def execOpcodeRefused (d : Desc) (s : State) : Host.Outcome State Fault Refusal :=
  .next (s.hostCmd { d with rsvOk := false } true id)

/-! ## Occurrence counters (R585) -/

/-- The register at `o` holds occurrence counters. -/
def isOcc (o : Nat) : Bool :=
  if 0x100000 ≤ o ∧ o < 0x1C4000 then o % 0x400 == 0x84
  else if 0x200000 ≤ o ∧ o < 0x254000 then o % 0x1000 == 0x34 || o % 0x1000 == 0x38
  else if 0x310000 ≤ o ∧ o < 0x318000 then o % 0x4000 == 0x304
  else
    [aTIM_EVENT_CNT0, aTIM_EVENT_CNT1, aHIF_FN_EVENT_CNT0 0, aHIF_FN_EVENT_CNT1 0, aPAV_EVENT_CNT0, aPAV_EVENT_CNT1,
     aCFG_EVENT_CNT0, aCFG_EVENT_CNT1, aLOG_EVENT_CNT0, aLOG_EVENT_CNT1, aMGT_EVENT_CNT0, aMGT_EVENT_CNT1, aRTE_EVENT_CNT,
     aSCH_EVENT_CNT0, aSCH_EVENT_CNT1, aCEL_FPFLAGS_CNT0, aCEL_FPFLAGS_CNT1, aCEL_EVENT_CNT0, aCEL_EVENT_CNT1,
     aCOL_FPFLAGS_CNT0, aCOL_FPFLAGS_CNT1, aCOL_EVENT_CNT0, aCOL_EVENT_CNT1, aMXU_FPFLAGS_CNT0, aMXU_FPFLAGS_CNT1,
     aMXU_EVENT_CNT0, aMXU_EVENT_CNT1, aSTR_FPFLAGS_CNT0, aSTR_FPFLAGS_CNT1, aSTR_EVENT_CNT0, aSTR_EVENT_CNT1,
     aMEM_EVENT_CNT0, aMEM_EVENT_CNT1, aDET_EVENT_CNT0, aDET_EVENT_CNT1, aPWR_EVENT_CNT0, aPWR_EVENT_CNT1].contains o

/-- A write to HIF_OCC_CLR: BLOCK is stored, and GO clears the counters of the 64 KiB it names; a setting in the cycle of the clear is
counted after it. -/
def State.occClr (s : State) (v : Word) : State :=
  let s := s.plainWrite aHIF_OCC_CLR v
  if bitOf v.toNat 31 then
    let b := s.fld aHIF_OCC_CLR 7 0
    let t := { s with regs := tblKeep (fun o => !(o / 0x10000 == b && isOcc o)) regReset s.regs }
    s.now4.bits.foldl (fun t x =>
      let o := x.1 + 4 + 4 * (x.2 / 4)
      if o / 0x10000 = b ∧ isOcc o = true then t.occur (x.1 + 4) x.2 else t) t
  else s

/-- HIF_OCC_CLR (R585). -/
def execHifOccClr (p : Path) (v : Word) (s : State) : Host.Outcome State Fault Refusal :=
  .next (if p = .fn 0 ∧ s.mayWrite p aHIF_OCC_CLR = true then s.occClr v else s)

/-! ## Function reset and host loss (R586, R587) -/

/-- Every register of a function's page back at its reset value. -/
def State.pageReset (s : State) (f : Nat) : State :=
  { s with regs := tblKeep (fun o => decide (o < fnPage f) || decide (fnPage f + 0x8000 ≤ o)) regReset s.regs }

/-- Rings, pointers, vectors and waiting completions of a function are gone; what it has taken runs on unheard.
DEDUCED: log 82. -/
def State.ringsReset (s : State) (f : Nat) : State :=
  { s with hif := { s.hif with
      sqs := tblKeep (fun k => k / 256 != f) (fun _ => ⟨0, 0, false, false⟩) s.hif.sqs
      cqs := tblKeep (fun k => k / 256 != f) (fun _ => cqInit) s.hif.cqs
      taken := (s.hif.taken.filter fun t => !(t.fn == f && t.cpl.isSome)).map fun t =>
        if t.fn = f then { t with orphan := true } else t
      msixOpen := s.hif.msixOpen.filter fun k => k / 2048 != f
      msixPend := s.hif.msixPend.filter fun k => k / 2048 != f } }

/-- A function is reset: `sub` is the HOST_ABORT SUB, none where no entry is written (R586, R670). DEDUCED: log 73. -/
def State.fnReset (s : State) (f : Nat) (sub : Option Nat) : State :=
  let s := (s.pageReset f).ringsReset f
  match s.loading with
  | some (no, img) =>
    if f = 0 then
      let gone := img.region.map regionWord
      let s := ({ s with loading := none, regions := s.regions.filter fun e => !gone.contains e.2 }).dropTaken no
      match sub with
      | some k => s.offer 0x0E k dieH 0x80 f 0 0 0
      | none => s
    else s
  | none => s

/-- R586 applied to every function. -/
def State.allReset (s : State) (sub : Option Nat) : State := (List.range 64).foldl (fun s f => s.fnReset f sub) s

/-- FLR (R586): a warm reset keeps the host link (R645). -/
def execFlr (f : Nat) (s : State) : Host.Outcome State Fault Refusal :=
  .next (if decide (f < 64) && (s.hostServed || s.boot.warm) then s.fnReset f (some 1) else s)

/-- HOST_LINK_DOWN (R587). -/
def execHostLinkDown (s : State) : Host.Outcome State Fault Refusal :=
  .next (
    let s := { s with hif := { s.hif with linkUp := false } }
    s.allReset (some 2))

/-- HOT_RESET (R587): the link trains again. -/
def execHotReset (s : State) : Host.Outcome State Fault Refusal := .next (s.allReset (some 3))

end Sys2Proof.Machine
end

