-- ==== Sys2Proof/Machine/Capture.lean ====
section
/-! DEFINITION. Capture, replay and digests (R526–R544): the commands and what the engines do. Capture records are built in
CapRec. -/

namespace Sys2Proof.Machine

/-! ## Capture (R533–R537) -/

/-- The CAPTURE region (R466): there is at most one. -/
def State.captureRegion (s : State) : Option Region := (s.regions.map fun e => regionOf e.2).find? fun r => r.valid && r.kind == 1

/-- The status of a capture-start (R535). -/
def State.captureStatus (s : State) (fn dest : Nat) (full : Bool) (sport : Nat) : Nat :=
  if s.cap.active then 1
  else match s.captureRegion with
    | none => 2
    | some r =>
      if s.fnPav fn ≠ some r.pav ∨ (dest = 2 ∧ s.portPav (80 + sport) ≠ some r.pav) then 3
      else if dest = 2 ∧ full = true ∧ s.fld (aPRT_S_MAXFRAME (80 + sport)) 13 0 < 8320 then 4
      else 0

/-- The CAPTURE_START mark's value (R530): WITHHOLD of the slot (R541), and START with its low bit cut while a schedule runs. -/
def State.captureStartVal (s : State) : Nat :=
  b2n s.withheld + (if s.schedRunning then s.sched.start / 2 * 2 else 0)

/-- Capture starts in the CAPTURE region with its CAPTURE_START mark, which has RECSEQ 0 (R531); ARM is in RING mode (R536). -/
def State.captureBegin (s : State) (r : Region) (dest : Nat) (arm full egress : Bool) (sport : Nat) : State :=
  let s := { s with cap :=
    { active := true, dest := if arm then 0 else dest, full := full, egress := egress, sport := sport, armed := arm,
      triggered := false, pav := r.pav, base := r.die * 2 ^ 39 + r.base * 4096, size := r.size * 4096, wr := 0, oldest := 0,
      recs := [], seq := 0, level := 0, levelClk := s.tim.clk, lostRecs := 0, lostBytes := 0, post := none, ending := false, filled := false,
      stoppers := [], frameSeq := 0, group := [], groupAt := 0, groupPos := 0, groupPost := none, trigEvt := false } }
  s.capMark 4 s.captureStartVal

/-- CAPTURE_START (R535, R536, R568): DEST 3 is reserved. DEDUCED: log 83. -/
def execCaptureStart (d : Desc) (dest : Nat) (arm full egress trigger : Bool) (sport : Nat) (s : State) :
    Host.Outcome State Fault Refusal :=
  .next (s.hostCmd { d with rsvOk := d.rsvOk && decide (dest < 3) } (s.fnPav d.fn).isSome fun s =>
    let st := s.captureStatus d.fn dest full sport
    if st ≠ 0 then s.cmdEnd d st 0 0
    else match s.captureRegion with
      | none => s
      | some r =>
        let s := s.captureBegin r dest arm full egress sport
        (if trigger then s.capTrigger 1 else s).cmdEnd d 0 0 0)

/-- CAPTURE_STOP (R535, R568): the command waits for CAPTURE_STOP_DONE. -/
def execCaptureStop (d : Desc) (s : State) : Host.Outcome State Fault Refusal :=
  .next (s.hostCmd d (s.fnPav d.fn).isSome fun s =>
    if !s.cap.active then s.cmdEnd d 5 0 0
    else if s.fnPav d.fn ≠ some s.cap.pav then s.cmdEnd d 3 0 0
    else
      let s := s.capUntrigger.capEnd
      { s with cap := { s.cap with stoppers := s.cap.stoppers ++ [s.noOf d] } })

/-- CAPTURE_TRIGGER (R536): a write of DET_CAP_TRIGGER. -/
def execCaptureTrigger (p : Path) (v : Word) (s : State) : Host.Outcome State Fault Refusal :=
  .next (if p = .fn 0 ∧ s.mayWrite p aDET_CAP_TRIGGER = true ∧ bitOf v.toNat 0 = true then s.capTrigger 2 else s)

/-- CAPTURE_POST_DONE (R536): DET_CAP_POST KiB have followed the trigger. -/
def execCapturePostDone (s : State) : Host.Outcome State Fault Refusal :=
  .next (if s.cap.active ∧ s.cap.post = some 0 then s.capEnd else s)

/-- CAPTURE_STOP_DONE (R535): the staging drains into the window, capture is no longer active, and the stop commands complete. -/
def execCaptureStopDone (s : State) : Host.Outcome State Fault Refusal :=
  .next (
    if s.cap.active && s.cap.ending then
      let s := s.capDrain
      let s := s.advTo (s.tim.now + (s.cap.level + 255) / 256)
      let ds := s.cap.stoppers
      let s := { s with cap := { s.cap with active := false, stoppers := [], level := 0 } }
      s.cmdsEnd ds
    else s)

/-- CAPTURE_LOSS_RECORD (R532): a CAPTURE_STOP mark that was lost is among what it counts. -/
def execCaptureLossRecord (s : State) : Host.Outcome State Fault Refusal :=
  .next (
    let s' := s.capDrain
    if s.cap.active && decide (s.cap.lostRecs ≠ 0) && decide (s'.cap.level + 5 * 64 ≤ stagingMax)
        && s'.capFits 64 then s'.capLossRec
    else s)

/-- The oldest whole records that fit in `room` bytes, and the records that are left. -/
def fitRecs : Nat → List (Nat × Nat) → List (Nat × Nat) × List (Nat × Nat)
  | _, [] => ([], [])
  | room, (p, n) :: l =>
    if n ≤ room then
      let r := fitRecs (room - n) l
      ((p, n) :: r.1, r.2)
    else ([], (p, n) :: l)

/-- A MAC address of two registers, first byte first: LO holds its low 32 bits (R11). DEDUCED: log 80. -/
def State.macOf (s : State) (lo hi : Nat) : List Byte := natBe 6 ((s.reg lo).toNat + s.fld hi 15 0 * 2 ^ 32)

/-- The frame of the streamer over some records, without its FCS (R534). -/
def State.streamFrame (s : State) (rs : List (Nat × Nat)) : List Byte :=
  let body := rs.flatMap fun (r : Nat × Nat) => s.rd (s.cap.base + r.1 % max 64 s.cap.size) r.2
  s.macOf aDET_CAP_DMAC_LO aDET_CAP_DMAC_HI ++ s.macOf aDET_CAP_SMAC_LO aDET_CAP_SMAC_HI ++ natBe 2 0x88B5
    ++ natBe 4 s.cap.frameSeq ++ natBe 4 body.length ++ body

/-- CAPTURE_STREAM_SEND (R261, R534): one frame enters its queue on the S-port, where that is below its limit.
DEDUCED: log 79. -/
def execCaptureStreamSend (s : State) : Host.Outcome State Fault Refusal :=
  .next (
    let port := 80 + s.cap.sport
    let e := 8 * port
    let q := s.qmap e 0
    let r := fitRecs (s.fld (aPRT_S_MAXFRAME port) 13 0 - 26) s.cap.recs
    if decide (s.cap.dest = 2) && !r.1.isEmpty && decide (s.depth e q < s.fld (aSCH_Q_LIMIT port 0 q) 23 0) then
      let h : Held :=
        { id := s.rte.nextId, pkt := linkPkt 0 false 0 [], eth := s.streamFrame r.1, ingress := 1008, die := 0, pool := 0,
          handles := [], owner := 8 * s.cap.pav, vcIn := 0, born := s.tim.clk, endAt := s.tim.clk, rate := 0, ready := (s.tim.clk / 5 + 1) * 5,
          damaged := false, cause := 0, hop := .egr e }
      let s := { s with rte := { s.rte with nextId := s.rte.nextId + 1 } }
      let old := match r.2 with | [] => s.cap.wr | (p, _) :: _ => p
      let s := { s with cap := { s.cap with recs := r.2, oldest := old, frameSeq := (s.cap.frameSeq + 1) % 2 ^ 32, group := [] } }
      s.enqueue e h
    else s)

/-! ## Replay (R539–R542) -/

/-- The header that 16 bytes in wire order spell (R164), with its payload. -/
def pktOf (h : List Byte) (payload : List Byte) : Pkt :=
  let x := beNat h
  { ver := bitsOf x 127 126, kind := bitsOf x 125 120, sched := bitOf x 119, vc := bitsOf x 118 116, ce := bitOf x 115,
    kflag := bitOf x 114, pav := bitsOf x 113 108, hops := bitsOf x 107 103, len := bitsOf x 102 96, dst := bitsOf x 95 80,
    src := bitsOf x 79 64, seq := bitsOf x 63 32, tag := bitsOf x 31 0, payload := payload }

/-- A little-endian field of a record. -/
def recField (r : List Byte) (at_ n : Nat) : Nat := leNat ((r.drop at_).take n)

/-- Fabric time (0.125 ns) of a record's mapped instant (R539); none where it lies before slot 0. -/
def State.mapped (s : State) (r : List Byte) : Option Nat :=
  let cap := (s.reg aDET_RPL_CAP_START_LO).toNat + (s.reg aDET_RPL_CAP_START_HI).toNat * 2 ^ 32
  let slot := recField r 8 8 + s.sched.start
  if slot < cap then none else some ((slot - cap) * slotUnits + recField r 6 2 * 4)

/-- Bytes of the replay buffer (R538). -/
def State.rplLen (s : State) : Nat := (s.reg aDET_RPL_LEN_LO).toNat + (s.reg aDET_RPL_LEN_HI).toNat * 2 ^ 32

/-- The present offset in the buffer, in bytes. -/
def State.rplPos (s : State) : Nat := (s.reg aDET_RPL_POS).toNat * 64

/-- An INGRESS record is injected at its mapped instant (R539). -/
def State.inject (s : State) (r : List Byte) (t : Nat) : State :=
  let payload := (r.drop 64).take (recField r 2 2 * 64 - 64)
  let p := pktOf ((r.drop 16).take 16) payload
  let egr := recField r 4 2 % 1024
  let s := s.bump aDET_RPL_INJECTED 1
  s.rxLink (egr / 8) (egr % 8) ⟨p, recField r 36 4, decide (payload.length ≠ 64 * (p.len + 1)), false⟩ t true

/-- The records give WITHHOLD from the present slot on (R541). A slot whose SLOT_START has come before the mark is counted as the mark
has it. DEDUCED: log 80. -/
def State.rplHold (s : State) (on : Bool) : State :=
  let was := s.rpl.withhold
  let s := { s with rpl := { s.rpl with withhold := on } }
  if on == was || decide (s.tim.slot ≤ s.curSlot) then s
  else
    let n := aTIM_WITHHELD_SLOTS
    (if on then s.bump n 1 else s.setReg n (s.reg n - 1)).holdEdge

/-- A MARK record with mapped instant `t` while replaying (R541): the engine passes over those it does not name (R539).
DEDUCED: log 80. -/
def State.rplMark (s : State) (r : List Byte) (t : Nat) : State :=
  let code := recField r 16 4
  if code = 4 then { s with rpl := { s.rpl with withhold := recField r 24 8 % 2 == 1 } }
  else if code = 1 ∨ code = 2 then (s.advTo t).rplHold (decide (code = 1))
  else s

/-- One record of the buffer is processed (R539–R542); `staged` is whether it had been staged at its mapped instant. A record of
any type that is not staged in time, or read after its instant, ends replay. DEDUCED: log 80. -/
def State.rplRecord (s : State) (r : List Byte) (staged : Bool) : State :=
  let type := recField r 0 1
  if type = 4 then s.replayEnd 5
  else if type = 3 ∧ recField r 16 4 = 3 then s.replayEnd 6
  else if type = 1 ∧ recField r 1 1 % 2 = 0 then s.replayEnd 4
  else if !staged then s.replayEnd 2
  else match s.mapped r with
    | none => s.replayEnd 3
    | some t =>
      if t < s.tim.now then s.replayEnd 3
      else if type = 3 then s.rplMark r t
      else if type = 1 then s.inject r t
      else s

/-- REPLAY_INJECT (R539, R542): the next record of the buffer; replay is DONE after the last. -/
def execReplayInject (r : List Byte) (staged : Bool) (s : State) : Host.Outcome State Fault Refusal :=
  .next (
    if !s.rpl.active then s
    else if s.rplLen ≤ s.rplPos then s.replayEnd 1
    else
      let s := s.rplRecord r staged
      if !s.rpl.active then s
      else
        let s := s.setReg aDET_RPL_POS (s.reg aDET_RPL_POS + BitVec.ofNat 32 (max 1 (recField r 2 2)))
        if s.rplLen ≤ s.rplPos then s.replayEnd 1 else s)

/-! ## Digests (R544) -/

/-- The memory key of the first byte that the digest registers name. -/
def State.digKey (s : State) : Nat :=
  let v := (s.reg aDET_DIG_CMD).toNat
  let a := (s.reg aDET_DIG_ADDR_LO).toNat + s.fld aDET_DIG_ADDR_HI 7 0 * 2 ^ 32
  let die := bitsOf v 7 7
  match bitsOf v 3 2 with
  | 0 => opKey (bitsOf v 6 4) a
  | 1 => emberKey die a
  | 2 => sbufKey die a
  | _ => a

/-- The length in bytes that the digest registers name. -/
def State.digLen (s : State) : Nat := (s.reg aDET_DIG_LEN).toNat

/-- A digest of HBM outside a region that PAVILION owns is a refused access of reader 7 (R468, R544, R670). -/
def State.digDenied (s : State) : State :=
  let v := (s.reg aDET_DIG_CMD).toNat
  if bitsOf v 3 2 = 3 then
    s.memDenied 1 ((s.reg aDET_DIG_ADDR_LO).toNat + s.fld aDET_DIG_ADDR_HI 7 0 * 2 ^ 32) 7 (bitsOf v 13 8)
  else s

/-- The range lies within a single region or PLACE range that PAVILION owns, and so within its memory (R544).
DEDUCED: log 81. -/
def State.digOwned (s : State) : Bool :=
  let v := (s.reg aDET_DIG_CMD).toNat
  let a := (s.reg aDET_DIG_ADDR_LO).toNat + s.fld aDET_DIG_ADDR_HI 7 0 * 2 ^ 32
  let n := s.digLen
  let p := bitsOf v 13 8
  let die := bitsOf v 7 7
  let place := fun tier w => match s.img with | some img => imgPlaced img tier w 0 p a n | none => false
  match bitsOf v 3 2 with
  | 0 => place 3 (bitsOf v 6 4)
  | 1 => place 2 die
  | 2 => place 1 die
  | _ =>
    let off := a % 2 ^ 39
    (s.regions.any fun e => let r := regionOf e.2; r.pav == p && r.covers (a / 2 ^ 39) off n) && s.ownsHbm p (a / 2 ^ 39) off n

/-- A write to DET_DIG_CMD (R544): ignored while a digest is in progress; GO starts one or sets ERR. DEDUCED: log 81. -/
def State.digCmd (s : State) (v : Word) : State :=
  if s.digest.isSome then s
  else
    let s := s.plainWrite aDET_DIG_CMD v
    if bitOf v.toNat 16 then
      if s.sched.launched then s.setFld aDET_DIG_CMD 30 30 1
      else if !s.digOwned then s.digDenied.setFld aDET_DIG_CMD 30 30 1
      else { s.setFld aDET_DIG_CMD 30 30 0 with
        digest := some { key := s.digKey, len := s.digLen, pav := s.fld aDET_DIG_CMD 13 8, start := s.tim.clk } }
    else s

/-- DIGEST_START (R544). -/
def execDigestStart (p : Path) (v : Word) (s : State) : Host.Outcome State Fault Refusal :=
  .next (if p = .fn 0 ∧ s.mayWrite p aDET_DIG_CMD = true then s.digCmd v else s)

/-- DIGEST_DONE (R544): no sooner than the engine has read 64 B in each SCLK cycle, the CRC-32C of the range as it is then; over an
uncorrectable word the result is a free value (R492, R658). DEDUCED: log 81. -/
def execDigestDone (s : State) : Host.Outcome State Fault Refusal :=
  .next (
    match s.digest with
    | none => s
    | some d =>
      let s := { s.advTo (s.tim.now + (d.start + (d.len + 63) / 64 * 32 - s.tim.clk)) with digest := none }
      if s.poisoned d.key d.len then
        let s := if d.key < 2 ^ 40 then s.hbmBad d.key d.len 7 d.pav else s
        let f := s.freeWord
        f.2.setReg aDET_DIG_RESULT f.1
      else (s.correct d.key d.len).setReg aDET_DIG_RESULT (BitVec.ofNat 32 (crc32c (s.rd d.key d.len))))

end Sys2Proof.Machine
end

