-- ==== Sys2Proof/Machine/HostBytes.lean ====
section
/-! DEFINITION. What the host lays out in its memory, as bytes (R11): descriptors as commands (R564, R565, R569). The commands of
the table take the fields that these readings give. DESIGN CHOICE: log 113. -/

namespace Sys2Proof.Machine

/-! ## Descriptors (R564, R565) -/

/-- A bit of a byte of a descriptor. -/
def bitAt (b : List Byte) (a i : Nat) : Bool := bitOf (leAt b a 1) i

/-- The argument bytes of an opcode: which of bytes 8–63 it lists (R565). -/
def argBytes (op : Nat) : List (Nat × Nat) :=
  if op = 0x01 then [(8, 8), (16, 8)] else if op = 0x02 then [(8, 8), (16, 4)] else if op = 0x03 then [(8, 8)]
  else if op = 0x10 then [(8, 2), (16, 8), (24, 6), (32, 8)]
  else if 0x11 ≤ op ∧ op ≤ 0x14 then [(8, 2), (16, 8)]
  else if op = 0x20 then [(8, 2), (16, 8), (24, 4)] else if op = 0x21 then [(8, 2)] else if op = 0x30 then [(8, 2)]
  else if op = 0x40 then [(8, 4), (12, 4), (16, 8)] else if op = 0x41 then [(8, 4), (16, 8)] else if op = 0x50 then [(8, 1)]
  else if op = 0x60 ∨ op = 0x61 then [(8, 8), (16, 4)] else []

/-- Every reserved bit and byte of a descriptor is 0 (R564, R566). -/
def descRsvOk (b : List Byte) : Bool :=
  let op := leAt b 0 1
  decide (leAt b 1 1 < 4) && leAt b 4 4 == 0
    && ((List.range 56).all fun i => (argBytes op).any (fun r => decide (r.1 ≤ 8 + i) && decide (8 + i < r.1 + r.2)) || leAt b (8 + i) 1 == 0)
    && (op != 0x30 || (decide (leAt b 8 1 < 64) && decide (leAt b 9 1 < 4)))
    && (op != 0x50 || decide (leAt b 8 1 < 2))

/-- The common header of a descriptor that a function's SQ holds (R564). -/
def descOf (fn sq : Nat) (b : List Byte) (rdOk cplOk : Bool) : Desc :=
  { fn := fn, sq := sq, cid := leAt b 2 2, fence := bitAt b 1 0, quiet := bitAt b 1 1, rdOk := rdOk, rsvOk := descRsvOk b, cplOk := cplOk }

/-- The command that the 64 bytes of a descriptor spell (R565); `img`, `blk` and `ok` are what the reads of host memory at its
addresses give, and `cplOk` what the write of the completion gives: `img` the image at the address and of the length that it names. -/
def cmdOf (fn sq : Nat) (b : List Byte) (rdOk cplOk : Bool) (img : Image) (blk : List Byte) (ok : Bool) : Instr :=
  let d := descOf fn sq b rdOk cplOk
  let op := leAt b 0 1
  if op = 0x01 then .imageLoad d { img with addr := leAt b 8 8, len := leAt b 16 8 }
  else if op = 0x02 then .schedLaunch d (leAt b 8 8) (leAt b 16 4)
  else if op = 0x03 then .schedStop d (leAt b 8 8)
  else if op = 0x10 then .streamOpen d (leAt b 8 2) (leAt b 16 8) (leAt b 24 6) blk ok
  else if op = 0x11 then .streamPause d (leAt b 8 2) (leAt b 16 8)
  else if op = 0x12 then .streamResume d (leAt b 8 2) (leAt b 16 8)
  else if op = 0x13 then .streamReset d (leAt b 8 2) (leAt b 16 8)
  else if op = 0x14 then .streamClose d (leAt b 8 2) (leAt b 16 8)
  else if op = 0x20 then .groupCreate d (leAt b 8 2) (blk.take (leAt b 24 4)) ok
  else if op = 0x21 then .groupDestroy d (leAt b 8 2)
  else if op = 0x30 then .captureStart d (leAt b 8 1 % 4) (bitAt b 8 2) (bitAt b 8 3) (bitAt b 8 4) (bitAt b 8 5) (leAt b 9 1 % 4)
  else if op = 0x31 then .captureStop d
  else if op = 0x40 then .counterSnapshot d (leAt b 8 4) (leAt b 12 4) (leAt b 16 8) ok
  else if op = 0x41 then .logDrain d (leAt b 8 4) (leAt b 16 8) ok
  else if op = 0x50 then .timeArm d (bitAt b 8 0)
  else if op = 0x60 then .pavPropose d (blk.take (leAt b 16 4)) ok
  else if op = 0x61 then .pavApprove d (blk.take (leAt b 16 4)) ok
  else .opcodeRefused d

end Sys2Proof.Machine
end

