-- ==== Sys2Proof/Machine/MgtBase.lean ====
section
/-! DEFINITION. What the management paths share: the console's answers (R679, R685). -/

namespace Sys2Proof.Machine

/-- One hexadecimal digit as text. -/
def hexDigit (x : Nat) : Byte := BitVec.ofNat 8 (if x < 10 then 0x30 + x else 0x37 + x)

/-- `n` hexadecimal digits of a number. -/
def hexText : Nat → Nat → List Byte
  | 0, _ => []
  | n + 1, x => hexText n (x / 16) ++ [hexDigit (x % 16)]

/-- "OK". -/
def txtOk : List Byte := [0x4F, 0x4B]
/-- "ERR". -/
def txtErr : List Byte := [0x45, 0x52, 0x52]
/-- " PAV". -/
def txtPav : List Byte := [0x20, 0x50, 0x41, 0x56]

/-- A list of bytes in runs of at most 56, for CONSOLE_DATA frames (R685); the first argument bounds their number. -/
def runs56 : Nat → List Byte → List (List Byte)
  | 0, _ => []
  | n + 1, bs => if bs.isEmpty then [] else bs.take 56 :: runs56 n (bs.drop 56)

/-- A relay frame put to wait for its STC lane. -/
def State.relayPut (s : State) (lane type : Nat) (payload : List Byte) : State :=
  { s with mgt := { s.mgt with relayOut := s.mgt.relayOut ++ [(lane, type, payload)] } }

/-- Console output: on the UART, or as CONSOLE_DATA frames of the relayed session (R678, R685). DESIGN CHOICE: log 90. -/
def State.say (s : State) (relayed : Bool) (bs : List Byte) : State :=
  let bs := bs ++ [0x0D, 0x0A]
  if relayed then
    match s.mgt.relay with
    | some (lane, _) => (runs56 bs.length bs).foldl (fun s r => s.relayPut lane 0x81 r) s
    | none => s
  else s.emit (.uart bs)

/-- The answer OK, with its values: each is a number of hexadecimal digits and a value (R679). DESIGN CHOICE: log 90. -/
def State.sayOk (s : State) (relayed : Bool) (vs : List (Nat × Nat)) : State :=
  s.say relayed (txtOk ++ vs.flatMap fun v => 0x20 :: hexText v.1 v.2)

/-- The answer ERR with a code: 1 SYNTAX, 2 DENIED, 3 UNPOWERED, 4 BUSY (R679). DESIGN CHOICE: log 90. -/
def State.sayErr (s : State) (relayed : Bool) (code : Nat) : State := s.say relayed (txtErr ++ 0x20 :: hexText 1 code)

/-- The console's answer to an approval: OK, or ERR PAV and the status code of R607. DESIGN CHOICE: log 90. -/
def State.sayPav (s : State) (code : Nat) : State :=
  if code = 0 then s.sayOk false [] else s.say false (txtErr ++ txtPav ++ 0x20 :: hexText 2 code)

end Sys2Proof.Machine
end

