-- ==== Sys2Proof/Machine/Pavilions.lean ====
section
/-! DEFINITION. The two-party protocol that changes the pavilion table (R588–R613): records, checks, commit, scrubs and the window. -/

namespace Sys2Proof.Machine

/-! ## Records (R604–R606) -/

/-- The table with the custodian function and both keys: what the records change. -/
structure PavSet where
  table : List (Nat × PavEntry)
  cust  : Nat
  opKey : Nat
  cuKey : Nat
  deriving DecidableEq, Repr

/-- A 16-byte change record; OP is checked apart. -/
def recOf (b : List Byte) : PavRec := ⟨recField b 1 1, recField b 2 2, recField b 4 4, recField b 8 8⟩

/-- The records of `n` × 16 bytes. -/
def recsOf : Nat → List Byte → List PavRec
  | 0, _ => []
  | n + 1, b => recOf (b.take 16) :: recsOf n (b.drop 16)

/-- The bits of VALUE that a field lists (R605), for one INDEX. -/
def valueMask (field index : Nat) : Nat :=
  match field with
  | 0x01 => 1
  | 0x02 => 0x3F
  | 0x03 => 2 ^ 64 - 1
  | 0x04 => 0xFF
  | 0x05 => 0xFF
  | 0x06 => if index = 0 then 2 ^ 64 - 1 else 0xFFFFF
  | 0x07 => 2 ^ 27 - 1 + (2 ^ 27 - 1) * 2 ^ 32
  | 0x08 => 2 ^ 20 - 1 + (2 ^ 20 - 1) * 2 ^ 32
  | 0x09 => 2 ^ 21 - 1 + (2 ^ 21 - 1) * 2 ^ 32
  | 0x0A => 2 ^ 16 - 1 + (2 ^ 17 - 1) * 2 ^ 32
  | 0x0B => 2 ^ 12 - 1 + (2 ^ 13 - 1) * 2 ^ 32
  | 0x0C => 2 ^ 20 - 1
  | 0x0D => 0xFF
  | 0x10 => 0x3F
  | 0x11 => if index = 6 then 0xFF else 2 ^ 64 - 1
  | 0x12 => if index = 6 then 0xFF else 2 ^ 64 - 1
  | _ => 0

/-- The field is one of R605 and the INDEX one it lists; a die that does not exist is a matter of RANGE. -/
def fieldOk (field index : Nat) : Bool :=
  match field with
  | 0x01 | 0x02 | 0x04 | 0x05 | 0x0A | 0x0B | 0x0D | 0x10 => index == 0
  | 0x03 => decide (index < 4)
  | 0x06 => decide (index < 2)
  | 0x07 | 0x08 | 0x09 | 0x0C => true
  | 0x11 | 0x12 => decide (index < 7)
  | _ => false

/-- A record's form (R605). DEDUCED: log 88. -/
def recForm (b : List Byte) : Bool :=
  let r := recOf b
  recField b 0 1 == 1 && fieldOk r.field r.index && decide (r.value &&& valueMask r.field r.index = r.value)
    && (if 0x10 ≤ r.field then r.pav == 0 else decide (r.pav < 64))

/-- The forms of `n` records. -/
def recForms : Nat → List Byte → Bool
  | 0, _ => true
  | n + 1, b => recForm (b.take 16) && recForms n (b.drop 16)

/-- Bits 64 × w and up of a bit set replaced. -/
def setWord (x w v : Nat) : Nat := x - bitsOf x (64 * w + 63) (64 * w) * 2 ^ (64 * w) + v * 2 ^ (64 * w)

/-- A BASE and SIZE, or FIRST and COUNT, as VALUE spells them. -/
def rangeOf (v : Nat) : Range := ⟨v % 2 ^ 32, v / 2 ^ 32⟩

/-- A record applied to its pavilion's entry. -/
def applyEntry (e : PavEntry) (r : PavRec) : PavEntry :=
  match r.field with
  | 0x01 => { e with valid := r.value == 1 }
  | 0x02 => { e with function := r.value }
  | 0x03 => { e with columns := setWord e.columns r.index r.value }
  | 0x04 => { e with units := r.value }
  | 0x05 => { e with engines := r.value }
  | 0x06 => { e with ports := setWord e.ports r.index r.value }
  | 0x07 => if r.index = 0 then { e with hbm0 := rangeOf r.value } else { e with hbm1 := rangeOf r.value }
  | 0x08 => if r.index = 0 then { e with ember0 := rangeOf r.value } else { e with ember1 := rangeOf r.value }
  | 0x09 => if r.index = 0 then { e with sbuf0 := rangeOf r.value } else { e with sbuf1 := rangeOf r.value }
  | 0x0A => { e with streams := rangeOf r.value }
  | 0x0B => { e with groups := rangeOf r.value }
  | 0x0C => { e with reserve := e.reserve.set r.index r.value }
  | 0x0D => { e with tokens := r.value }
  | _ => e

/-- The value of the last record for one chunk of a key. -/
def chunkOf (rs : List PavRec) (field c : Nat) : Option Nat :=
  (rs.reverse.find? fun r => r.field == field && r.index == c).map (·.value)

/-- The key that all 7 chunks spell; none where one is missing (R605). -/
def keyOf (rs : List PavRec) (field : Nat) : Option Nat :=
  if (List.range 7).all fun c => (chunkOf rs field c).isSome then
    some (beNat ((List.range 7).flatMap fun c => natLe (if c = 6 then 1 else 8) ((chunkOf rs field c).getD 0)))
  else none

/-- The records applied, in order (R607, R632). -/
def PavSet.apply (t : PavSet) (rs : List PavRec) : PavSet :=
  let tab := rs.foldl (fun t r =>
    if 0x10 ≤ r.field then t else tblSet t r.pav (applyEntry (pavEntryOf t r.pav) r)) t.table
  { table := tab
    cust := rs.foldl (fun c r => if r.field = 0x10 then r.value else c) t.cust
    opKey := (keyOf rs 0x11).getD t.opKey
    cuKey := (keyOf rs 0x12).getD t.cuKey }

/-! ## Checks on the result (codes 9–13 of R607) -/

/-- The valid entries. -/
def PavSet.valid (t : PavSet) : List (Nat × PavEntry) := t.table.filter fun e => e.2.valid

/-- R588, R589 and R603 hold. -/
def PavSet.fixedOk (t : PavSet) : Bool :=
  let e0 := pavEntryOf t.table 0
  let fns := (t.table.map fun e => e.2.function).filter (· != 0)
  e0.valid && e0.function == 0 && fns.all (fun f => (fns.filter (· == f)).length == 1)
    && (t.cust == 0 || !fns.contains t.cust)

/-- The bits that are set all name something this part has. -/
def bitsOk (x n : Nat) (f : Nat → Bool) : Bool := (List.range n).all fun i => !bitOf x i || f i

/-- A range ends within `lim` units; of SIZE 0 it is nothing, wherever its BASE lies (R605). -/
def Range.within (r : Range) (lim : Nat) : Bool := decide (r.size = 0) || decide (r.base + r.size ≤ lim)

/-- An entry names nothing absent and exceeds no memory. -/
def PavEntry.rangeOk (e : PavEntry) (grade : Nat) : Bool :=
  bitsOk e.engines 8 (hbmPlaced grade) && bitsOk e.ports 84 (portPlaced grade)
    && e.hbm0.within (hbmBytes grade / 4096) && e.hbm1.within (hbmBytes grade / 4096)
    && e.ember0.within (2 ^ 20) && e.ember1.within (2 ^ 20) && e.sbuf0.within (2 ^ 21) && e.sbuf1.within (2 ^ 21)
    && e.streams.within 65536 && e.groups.within 4096

/-- A record names a die that exists. -/
def recDie (r : PavRec) : Bool :=
  match r.field with
  | 0x07 | 0x08 | 0x09 => decide (r.index < 2)
  | 0x0C => decide (r.index < 8)
  | _ => true

/-- Two ranges share a unit; one of SIZE 0 shares none (R605). -/
def Range.meets (a b : Range) : Bool :=
  decide (a.size ≠ 0) && decide (b.size ≠ 0) && decide (a.base < b.base + b.size) && decide (b.base < a.base + a.size)

/-- Two entries share a resource. -/
def PavEntry.meets (a b : PavEntry) : Bool :=
  (a.columns &&& b.columns) != 0 || (a.units &&& b.units) != 0 || (a.engines &&& b.engines) != 0 || (a.ports &&& b.ports) != 0
    || a.hbm0.meets b.hbm0 || a.hbm1.meets b.hbm1 || a.ember0.meets b.ember0 || a.ember1.meets b.ember1
    || a.sbuf0.meets b.sbuf0 || a.sbuf1.meets b.sbuf1 || a.streams.meets b.streams || a.groups.meets b.groups

/-- Some two valid entries share a resource (R592). -/
def PavSet.overlap (t : PavSet) : Bool :=
  t.valid.any fun a => t.valid.any fun b => decide (a.1 < b.1) && a.2.meets b.2

/-- R593 holds. DEDUCED: log 25. -/
def State.budgetOk (s : State) (t : PavSet) : Bool :=
  decide ((t.valid.map fun e => e.2.tokens).foldl (· + ·) 0 ≤ s.budget)
    && (List.range 8).all fun i =>
      decide ((t.valid.map fun e => s.capOf e.2 i).foldl (· + ·) 0 ≤ s.poolCount (i / 4) (i % 4))

/-! ## In use (R609) -/

/-- `[a, b)` lies, in part, in what is in `old` and not in `new`; all in units of `u` bytes for the ranges. -/
def removedMeets (old new : Range) (u a b : Nat) : Bool :=
  let lo := old.base * u
  let hi := (old.base + old.size) * u
  let nlo := new.base * u
  let nhi := if new.size = 0 then nlo else (new.base + new.size) * u
  let cut := fun x y => decide (max a x < min b y)
  if new.size = 0 ∨ nhi ≤ lo ∨ hi ≤ nlo then cut lo hi else cut lo nlo || cut nhi hi

/-- The bits a change takes away. -/
def gone (old new : Nat) : Nat := old - (old &&& new)

/-- The loaded image names a virtual column. -/
def imgColumn (img : Image) (v : Nat) : Bool :=
  let rect := fun (l : Launch) => decide (l.colLo ≤ v) && decide (v ≤ l.colHi)
  img.cellRec.any rect || (img.landing.any fun e => e.cluster / 4 == v || (e.trigger && rect e.launch))
    || (img.instr.any fun e => e.1 / 4 == v) || (img.place.any fun p => p.tier == 0 && p.where2 == v)

/-- The loaded image names a matrix unit. -/
def imgUnit (img : Image) (u : Nat) : Bool :=
  (img.mxu.any fun d => dUnit d == u || (dTier d == 1 && dOutUnit d == u)) || (img.pf.any fun r => r.tier == 0 && r.unit == u)
    || (img.place.any fun p => p.tier == 3 && p.where1 == u)

/-- A gather window of the loaded image masks an engine (R486): ENGINES is bits 7–0 of the window's DATA1. -/
def imgEngine (img : Image) (k : Nat) : Bool := img.gwin.any fun w => bitOf (w.2.2 % 256) k

/-- Tokens that a pavilion's largest phase asks for. -/
def imgTokens (img : Image) (p : Nat) : Nat :=
  img.phases.foldl (fun m ph => (ph.counts.filter fun c => c.1 == p).foldl (fun m c => max m c.2) m) 0

/-- Some image is loaded and satisfies `f`. -/
def State.imgAny (s : State) (f : Image → Bool) : Bool := match s.img with | some i => f i | none => false

/-- A region entry of pavilion `p` lies in the removed part of its HBM range on a die. -/
def State.hbmInUse (s : State) (p die : Nat) (old new : Range) : Bool :=
  s.regions.any fun e =>
    let r := regionOf e.2
    r.valid && r.pav == p && r.die == die && removedMeets old new 4096 (r.base * 4096) ((r.base + r.size) * 4096)

/-- The Ember state of an open stream of `p` lies in the removed part on a die. -/
def State.emberInUse (s : State) (p die : Nat) (old new : Range) : Bool :=
  s.streams.any fun e =>
    let x := e.2
    let a := 64 * bitsOf (x.w 5) 19 0
    x.state != 0 && x.pav == p && x.die == die && removedMeets old new 64 a (a + x.emberSize)

/-- A PLACE range of `p` lies in the removed part of its scheduled region on a die. -/
def State.sbufInUse (s : State) (p die : Nat) (old new : Range) : Bool :=
  s.imgAny fun i => i.place.any fun q =>
    q.tier == 1 && q.where1 == die && q.pav == p && removedMeets old new 64 q.base (q.base + q.size)

/-- Streams of a removed run are open or have a command pending. -/
def State.streamsInUse (s : State) (old new : Range) : Bool :=
  (s.streams.any fun e => e.2.state != 0 && removedMeets old new 1 e.1 (e.1 + 1))
    || s.strCmds.any fun c => removedMeets old new 1 c.stream (c.stream + 1)

/-- Groups of a removed run are valid. -/
def State.groupsInUse (s : State) (old new : Range) : Bool := s.groups.any fun e => removedMeets old new 1 e.1 (e.1 + 1)

/-- A function has an enabled ring or a taken command. -/
def State.fnInUse (s : State) (f : Nat) : Bool :=
  (s.hif.taken.any fun t => t.fn == f)
    || (List.range 256).any fun i => s.bit (aSQ_CTRL f i) 0 || s.bit (aCQ_CTRL f i) 0

/-- An entry owns something. -/
def PavEntry.owns (e : PavEntry) : Bool :=
  e.columns != 0 || e.units != 0 || e.engines != 0 || e.ports != 0
    || [e.hbm0, e.hbm1, e.ember0, e.ember1, e.sbuf0, e.sbuf1, e.streams, e.groups].any (fun r => r.size != 0)
    || e.reserve.any (· != 0) || e.tokens != 0

/-- A change of one pavilion's entry removes something that is in use (R609). -/
def State.inUse (s : State) (p : Nat) (old new : PavEntry) : Bool :=
  let cols := gone old.columns new.columns
  let units := gone old.units new.units
  let engs := gone old.engines new.engines
  let ports := gone old.ports new.ports
  ((List.range 256).any fun v => bitOf cols v &&
      (s.imgAny (imgColumn · v) || s.cells.any fun c => cellCol c.1 == v && c.2.run.isSome))
    || ((List.range 8).any fun u => bitOf units u && (s.imgAny (imgUnit · u) || s.unitBusy u || (s.mx u).held.isSome))
    || ((List.range 8).any fun k => bitOf engs k && (s.inService k || s.imgAny (imgEngine · k)))
    || ((List.range 84).any fun b => bitOf ports b && (s.portOn b || s.portInSchedule b))
    || s.hbmInUse p 0 old.hbm0 new.hbm0 || s.hbmInUse p 1 old.hbm1 new.hbm1
    || s.emberInUse p 0 old.ember0 new.ember0 || s.emberInUse p 1 old.ember1 new.ember1
    || s.sbufInUse p 0 old.sbuf0 new.sbuf0 || s.sbufInUse p 1 old.sbuf1 new.sbuf1
    || s.streamsInUse old.streams new.streams || s.groupsInUse old.groups new.groups
    || ((List.range 8).any fun i => decide (new.reserve.getD i 0 < old.reserve.getD i 0) && decide (s.capOf new i < s.pavRsv (i / 4) (i % 4) p))
    || (decide (new.tokens < old.tokens) && (decide (new.tokens < s.pavTokens p s.tim.now)
        || s.imgAny fun i => decide (new.tokens < imgTokens i p)))
    || (old.function != 0 && old.function != new.function && s.fnInUse old.function)

/-- Some record removes a resource that is in use, or clears VALID of a pavilion that still owns something. -/
def State.changeInUse (s : State) (t : PavSet) (rs : List PavRec) : Bool :=
  rs.any fun r => decide (r.field < 0x10) &&
    (let new := pavEntryOf t.table r.pav
     s.inUse r.pav (s.pavEntry r.pav) new || (!new.valid && new.owns && r.field == 0x01))

/-- The state's table, custodian function and keys. -/
def State.pavSet (s : State) : PavSet := ⟨s.pav.table, s.pav.cust, s.pav.opKey, s.pav.cuKey⟩

/-- Checks 13, 9, 10 and 11 on a table, in the order of R607: the code, 0 where they pass. DEDUCED: log 88. -/
def State.tableCheck (s : State) (t : PavSet) (rs : List PavRec) : Nat :=
  if !t.fixedOk then 13
  else if !(rs.all recDie && t.table.all fun e => e.2.rangeOk s.fuse.asm) then 9
  else if t.overlap then 10
  else if !s.budgetOk t then 11
  else 0

/-- All checks on the result of the records. -/
def State.changeCheck (s : State) (rs : List PavRec) : Nat :=
  let t := s.pavSet.apply rs
  let c := s.tableCheck t rs
  if c ≠ 0 then c else if s.changeInUse t rs then 12 else 0

/-! ## Audit (R613) -/

/-- PAV_AUDIT, with the principal's key (0 for none) and the digest as a big-endian number. DEDUCED: log 88. -/
def State.audit (s : State) (kind status seq key digest : Nat) : State :=
  let d := leNat ((natBe 48 digest).take 8)
  s.offer 0x0D (kind * 16 + status) dieH 0x80 seq (keyFp key) d (d / 2 ^ 32)

/-- PAV_LAST. -/
def State.pavLast (s : State) (status kind seq : Nat) : State :=
  s.setReg aPAV_LAST (BitVec.ofNat 32 (status * 2 ^ 24 + kind * 2 ^ 16 + seq % 2 ^ 16))

/-- An event bit of PAV. -/
def State.pavEvt (s : State) (bit : Nat) : State := s.evt 4 aPAV_EVENT bit

/-- A new NONCE: a free value. DEDUCED: log 20. -/
def State.newNonce (s : State) : State :=
  let f := s.freeLong
  { f.2 with pav := { f.2.pav with nonce := f.1.toNat } }

/-- A proposal or approval is refused. DEDUCED: log 88. -/
def State.pavRefuse (s : State) (kind status seq key digest : Nat) : State :=
  (((s.bump aPAV_REFUSALS 1).pavEvt 2).pavLast status kind seq).audit 4 status seq key digest

/-! ## Proposals (R607) -/

/-- A proposal's format (R604). -/
def proposalForm (b : List Byte) : Bool :=
  let n := recField b 6 2
  recField b 0 4 == 0x5050384B && recField b 4 2 == 1 && decide (1 ≤ n) && decide (n ≤ 248) && decide (b.length = 128 + 16 * n)
    && recField b 12 4 == 0 && recField b 24 8 == 0 && recForms n (b.drop 32)

/-- The status of a proposal, by the propose column of R607. -/
def State.proposeCheck (s : State) (b : List Byte) : Nat :=
  if !proposalForm b then 1
  else if s.pav.pend.isSome || !s.pav.scrubs.isEmpty then 2
  else if recField b 8 4 ≠ s.pav.seq + 1 then 3
  else if recField b 16 8 ≠ s.pav.nonce then 4
  else if !verifies s.pav.opKey (b.take (b.length - 96)) (b.drop (b.length - 96)) then 5
  else s.changeCheck (recsOf (recField b 6 2) (b.drop 32))

/-- PAV_PROPOSE (R601, R607): `blk` is the proposal of the stated length, `blkOk` whether PCIe served its read. -/
def execPavPropose (d : Desc) (blk : List Byte) (blkOk : Bool) (s : State) : Host.Outcome State Fault Refusal :=
  .next (s.hostCmd { d with rsvOk := d.rsvOk && decide (blk.length ≤ 4096) } (decide (d.fn = 0)) fun s =>
    if !blkOk then (s.sqStop d.fn d.sq).cmdEnd d 0xF2 0 0
    else
      let st := s.proposeCheck blk
      let seq := recField blk 8 4
      let dig := beNat (sha384 blk)
      if st ≠ 0 then (s.pavRefuse 0 st seq s.pav.opKey dig).cmdEnd d st 0 0
      else
        let pr : Proposal := ⟨seq, recsOf (recField blk 6 2) (blk.drop 32), dig, s.tim.clk⟩
        let s := { s with pav := { s.pav with pend := some pr } }
        let s := (((s.bump aPAV_PROPOSALS 1).pavEvt 0).pavLast 0 0 seq).audit 0 0 seq s.pav.opKey dig
        s.cmdEnd d 0 0 (seq + leNat ((natBe 48 dig).take 4) * 2 ^ 32))

/-! ## Commit and scrubs (R610, R611) -/

/-- What two ranges have in common. -/
def Range.inter (a b : Range) : Range :=
  let lo := max a.base b.base
  let hi := min (a.base + a.size) (b.base + b.size)
  if lo < hi then ⟨lo, hi - lo⟩ else ⟨0, 0⟩

/-- What a valid entry owns; an entry that is not valid owns nothing. -/
def PavEntry.live (e : PavEntry) : PavEntry := if e.valid then e else PavEntry.empty

/-- The new entry with only those resources that the pavilion had before as well: the rest is under scrub (R610). -/
def PavEntry.kept (old new : PavEntry) : PavEntry :=
  let o := old.live
  { new with
    columns := o.columns &&& new.columns, units := o.units &&& new.units, engines := o.engines &&& new.engines,
    ports := o.ports &&& new.ports, hbm0 := o.hbm0.inter new.hbm0, hbm1 := o.hbm1.inter new.hbm1,
    ember0 := o.ember0.inter new.ember0, ember1 := o.ember1.inter new.ember1, sbuf0 := o.sbuf0.inter new.sbuf0,
    sbuf1 := o.sbuf1.inter new.sbuf1, streams := o.streams.inter new.streams, groups := o.groups.inter new.groups }

/-- The table while scrubs run. DEDUCED: log 87. -/
def keptTable (old new : List (Nat × PavEntry)) : List (Nat × PavEntry) :=
  new.map fun e => (e.1, (pavEntryOf old e.1).kept e.2)

/-- A field differs, for some pavilion, between what the valid entries of two tables own. -/
def moved {α : Type} [DecidableEq α] (old new : List (Nat × PavEntry)) (f : PavEntry → α) : Bool :=
  (List.range 64).any fun p => decide (f (pavEntryOf old p).live ≠ f (pavEntryOf new p).live)

/-- The scrubs a commit starts, by resource: one code for each kind and die of R611. DEDUCED: log 87. -/
def scrubsOf (old new : List (Nat × PavEntry)) : List Nat :=
  ([(0x30, moved old new (·.columns)), (0x40, moved old new (·.units)), (0x60, moved old new (·.ports)),
    (0x70, moved old new (·.hbm0)), (0x71, moved old new (·.hbm1)), (0x80, moved old new (·.ember0)),
    (0x81, moved old new (·.ember1)), (0x90, moved old new (·.sbuf0)), (0x91, moved old new (·.sbuf1)),
    (0xA0, moved old new (·.streams))].filter (·.2)).map (·.1)

/-- Units that the valid entries of two tables give to different pavilions, of the ranges that `f` reads. -/
def movedUnits (old new : List (Nat × PavEntry)) (f : PavEntry → Range) : Nat :=
  let all := fun (t : List (Nat × PavEntry)) => (t.filter (·.2.valid)).map fun e => (e.1, f e.2)
  let sum := fun (l : List Nat) => l.foldl (· + ·) 0
  let both := (all old).flatMap fun a => (all new).map fun b => (a.1 == b.1, (a.2.inter b.2).size)
  sum ((all old ++ all new).map (·.2.size)) - sum (both.map (·.2)) - sum ((both.filter (·.1)).map (·.2))

/-- Root cycles that the scrubs of a commit take at the rates of R611: each memory's at its own, all together. DEDUCED: log 87. -/
def State.scrubTime (s : State) (old new : List (Nat × PavEntry)) : Nat :=
  let up := fun (n d : Nat) => (n + d - 1) / d
  let per := fun (die : Nat) => 150 * max 1 ((List.range 4).filter fun k => hbmPlaced s.fuse.asm (4 * die + k)).length
  let units := if moved old new (·.units) then up (2 ^ 24 + 2 ^ 20) 512 else 0
  [up (4096 * movedUnits old new (·.hbm0)) (per 0), up (4096 * movedUnits old new (·.hbm1)) (per 1),
   up (64 * 6 * movedUnits old new (·.ember0)) 2048, up (64 * 6 * movedUnits old new (·.ember1)) 2048,
   up (64 * movedUnits old new (·.sbuf0)) 2048, up (64 * movedUnits old new (·.sbuf1)) 2048, units].foldl max 0

/-- The pavilion of a table that owns something. -/
def ownerIn (t : List (Nat × PavEntry)) (f : PavEntry → Bool) : Option Nat := (t.find? fun e => e.2.valid && f e.2).map (·.1)

/-- An entry owns the memory byte with this key. -/
def PavEntry.ownsKey (e : PavEntry) (k : Nat) : Bool :=
  if k < 2 ^ 40 then (if k / 2 ^ 39 = 0 then e.hbm0 else e.hbm1).holds 4096 (k % 2 ^ 39) 1
  else if k < 2 ^ 41 then bitOf e.units ((k - 2 ^ 40) / 2 ^ 24)
  else if k < 2 ^ 42 then (if (k - 2 ^ 41) / 2 ^ 26 = 0 then e.ember0 else e.ember1).holds 64 ((k - 2 ^ 41) % 2 ^ 26) 1
  else if k < 2 ^ 43 then (if (k - 2 ^ 42) / 2 ^ 27 = 0 then e.sbuf0 else e.sbuf1).holds 64 ((k - 2 ^ 42) % 2 ^ 27) 1
  else if k < 2 ^ 44 then bitOf e.columns ((k - 2 ^ 43) / 2 ^ 14 % 256)
  else false

/-- Every byte whose key satisfies `f` reads 0 with valid check bits. -/
def State.zeroWhere (s : State) (f : Nat → Bool) : State :=
  let s := s.due
  { s with mem := s.mem.filter fun c => !f c.1, poison := s.poison.filter fun w => !f (8 * w)
           soft := s.soft.filter fun w => !f (8 * w), writes := s.writes.filter fun w => !f w.key }

/-- Every register from `lo` up to `hi` that no write reaches, a counter, is 0 again. -/
def State.countersReset (s : State) (lo hi : Nat) : State :=
  { s with regs := tblKeep (fun o => decide (o < lo) || decide (hi ≤ o)
      || (match regRow o with | some r => r.rw != 0 || r.w1c != 0 | none => true)) regReset s.regs }

/-- The PRT and SCH counters and the policer entries of a port reset. -/
def State.portScrub (s : State) (p : Nat) : State :=
  let s := (s.countersReset (0x200000 + 0x1000 * p) (0x201000 + 0x1000 * p)).countersReset (0x330000 + 0x2000 * p)
    (0x332000 + 0x2000 * p)
  { s with rte := { s.rte with pol := tblKeep (fun k => k / 64 != p) (fun _ => polInit) s.rte.pol } }

/-- The scrub of everything whose owner changes: a column's cells keep nothing, and no flit and no deposit is on its way to one of
them (R313, R597, R611). DEDUCED: log 87. -/
def State.scrubAll (s : State) (old new : List (Nat × PavEntry)) : State :=
  let diff := fun (f : PavEntry → Bool) => decide (ownerIn old f ≠ ownerIn new f)
  let col := fun (v : Nat) => diff fun e => bitOf e.columns v
  let s := s.zeroWhere fun k => diff (·.ownsKey k)
  let s := { s with
    cells := s.cells.map fun c => if col (cellCol c.1) then
      (c.1, { c.2 with sx := cellInit.sx, vx := cellInit.vx, mask := cellInit.mask, inq := [] }) else c
    cel := { s.cel with mesh := s.cel.mesh.filter fun f => !col (cellCol f.dst) && !col (cellCol f.at_)
                        deps := s.cel.deps.filter fun d => !col (d.cluster / 4) }
    mxu := s.mxu.map fun u => if diff fun e => bitOf e.units u.1 then (u.1, { u.2 with held := none }) else u
    streams := tblKeep (fun i => !diff fun e => e.streams.holds 1 i 1) (fun _ => streamInit) s.streams }
  (List.range 84).foldl (fun s p => if diff fun e => bitOf e.ports p then s.portScrub p else s) s

/-- The approval's answer: the command completes, or the management path answers (R610, R680, R682). -/
def State.approvalEnd (s : State) (who : Approver) (status : Nat) : State :=
  match who with
  | .host no => s.cmdDone no status 0 0 true
  | .console => ({ s with mgt := { s.mgt with approving := false } }).sayPav status
  | .smbus => { s with mgt := { s.mgt with approving := false, smbStatus := if status = 0 then 0 else 0x80 + status } }

/-- The last scrub ends: every moved resource passes to its new owner, and the approval is answered (R610, R611).
DEDUCED: log 87. -/
def State.scrubEnd (s : State) : State :=
  match s.pav.next with
  | none => s
  | some t =>
    let codes := s.pav.scrubs
    let who := s.pav.waiter
    let s := { s with pav := { s.pav with table := t, next := none, scrubs := [], waiter := none } }
    let s := codes.foldl (fun s _ => s.audit 5 0 s.pav.seq s.pav.cuKey 0) s
    let s := s.pavEvt 4
    match who with
    | some w => s.approvalEnd w 0
    | none => s

/-- The change is committed (R610). DEDUCED: log 87. -/
def State.pavCommit (s : State) (p : Proposal) (who : Approver) : State :=
  let old := s.pav.table
  let key := s.pav.cuKey
  let t := s.pavSet.apply p.recs
  let codes := scrubsOf old t.table
  let s := (s.audit 1 0 p.seq key p.digest).audit 3 0 p.seq key p.digest
  let s := s.scrubAll old t.table
  let s := { s with pav := { s.pav with
    table := if codes = [] then t.table else keptTable old t.table
    next := if codes = [] then none else some t.table
    scrubs := codes, scrubFor := s.scrubTime old t.table, scrubAt := s.tim.clk + s.scrubTime old t.table, waiter := some who, cust := t.cust, opKey := t.opKey, cuKey := t.cuKey, seq := p.seq, pend := none } }
  let s := ((s.newNonce.bump aPAV_COMMITS 1).pavEvt 1).pavLast 0 3 p.seq
  if codes = [] then ({ s with pav := { s.pav with waiter := none } }).approvalEnd who 0 else s

/-! ## Approvals (R606–R610) -/

/-- An approval's format (R606). -/
def approvalForm (b : List Byte) : Bool :=
  decide (b.length = 160) && recField b 0 4 == 0x5041384B && recField b 4 2 == 1 && recField b 6 2 == 0 && recField b 12 4 == 0

/-- The window has reached its last SCLK cycle (R608). -/
def State.windowOver (s : State) (p : Proposal) : Bool := decide (p.clk / 32 + windowSclk ≤ s.tim.clk / 32 + 1)

/-- The status of an approval, by the approve column of R607. -/
def State.approveCheck (s : State) (b : List Byte) : Nat :=
  if !approvalForm b then 1
  else match s.pav.pend with
    | none => 6
    | some p =>
      if recField b 8 4 ≠ s.pav.seq + 1 then 3
      else if beNat ((b.drop 16).take 48) ≠ p.digest then 7
      else if s.windowOver p then 8
      else if !verifies s.pav.cuKey (b.take 64) (b.drop 64) then 5
      else s.changeCheck p.recs

/-- An approval is taken (R610): a refusal by one of codes 9–13 discards the proposal. -/
def State.approve (s : State) (b : List Byte) (who : Approver) : State :=
  let st := s.approveCheck b
  let seq := recField b 8 4
  if st ≠ 0 then
    let s := s.pavRefuse 1 st seq s.pav.cuKey (beNat ((b.drop 16).take 48))
    let s := if 9 ≤ st then ({ s with pav := { s.pav with pend := none } }).newNonce else s
    s.approvalEnd who st
  else match s.pav.pend with
    | some p => s.pavCommit p who
    | none => s

/-- PAV_APPROVE (R601, R603, R610): from the custodian function alone. -/
def execPavApprove (d : Desc) (blk : List Byte) (blkOk : Bool) (s : State) : Host.Outcome State Fault Refusal :=
  .next (s.hostCmd { d with rsvOk := d.rsvOk && decide (blk.length ≤ 4096) }
      (decide (s.pav.cust ≠ 0) && decide (d.fn = s.pav.cust)) fun s =>
    if !blkOk then (s.sqStop d.fn d.sq).cmdEnd d 0xF2 0 0 else s.approve blk (.host (s.noOf d)))

/-- An approval from the management port (R680), taken in one sequence with the host's commands (R612): BUSY while another is
outstanding. -/
def State.mgtApprove (s : State) (b : List Byte) (who : Approver) : State :=
  let s := s.advTo (s.nowAt s.hif.nextTake)
  let s := { s with hif := { s.hif with nextTake := s.tim.clk + 2048 } }
  ({ s with mgt := { s.mgt with approving := true, smbStatus := if who = Approver.smbus then 0x7F else s.mgt.smbStatus } }).approve b who

/-- PAV_WINDOW_EXPIRE (R608). -/
def execPavWindowExpire (s : State) : Host.Outcome State Fault Refusal :=
  .next (match s.pav.pend with
    | none => s
    | some p =>
      let s := s.advTo (s.nowAt ((p.clk / 32 + windowSclk) * 32))
      let s := ({ s with pav := { s.pav with pend := none } }).newNonce
      (((s.bump aPAV_EXPIRIES 1).pavEvt 3).pavLast 8 2 p.seq).audit 2 8 p.seq 0 p.digest)

/-- PAV_SCRUB_DONE (R611): no sooner than the scrubs' rates let the last one end; none ends in a warm reset, after which they begin
anew (R590). -/
def execPavScrubDone (s : State) : Host.Outcome State Fault Refusal :=
  .next (match s.pav.next with
    | none => s
    | some _ => if s.boot.warm then s else (s.advTo (s.nowAt s.pav.scrubAt)).scrubEnd)

end Sys2Proof.Machine
end

