-- ==== Sys2Proof/Machine/Resets.lean ====
section
/-! DEFINITION. Power, cold and warm resets, the stages up to CLEAR, the configuration copies, the flash and the owner fuse
(R31–R34, R614–R650, R696, R701). The CONFIG stage is in Boot. -/

namespace Sys2Proof.Machine

/-! ## Cold reset (R616, R643, R645) -/

/-- A CFG event bit. -/
def State.cfgEvt (s : State) (bit : Nat) : State := s.evt 5 aCFG_EVENT bit

/-- A register that a cold reset keeps while VSB stays: the trip record (R692) and the flash controller's (R641).
DEDUCED: log 31. -/
def coldKeeps (o : Nat) : Bool :=
  o == aMGT_TRIP_REC || (decide (aCFG_FL_CMD ≤ o) && decide (o ≤ aCFG_FL_ADDR))
    || (decide (aCFG_FL_DATA 0 ≤ o) && decide (o ≤ aCFG_FL_DATA 63))

/-- Everything at its reset value but the fuses, the flash, the pins, and what the management island keeps under VSB.
DEDUCED: log 31. -/
def State.coldReset (s : State) (cause : Nat) : State :=
  let r := State.reset
  let b := s.boot
  { r with
    regs := tblKeep coldKeeps regReset s.regs
    fuse := s.fuse, flash := s.flash
    boot := { r.boot with vsb := b.vsb, pwrOk := b.pwrOk, rstN := b.rstN, perstN := b.perstN, cause := cause,
                          flBusy := b.flBusy, flErr := b.flErr, fpBusy := b.fpBusy, vidDriven := b.vidDriven }
    tim := { r.tim with refclkOk := s.tim.refclkOk, freqInOk := s.tim.freqInOk, freqIn := s.tim.freqIn }
    hif := { r.hif with flit := s.hif.flit, rate := s.hif.rate, width := s.hif.width }
    mgt := { r.mgt with fifo := s.mgt.fifo, line := s.mgt.line, smbStatus := s.mgt.smbStatus, tapIr := s.mgt.tapIr,
                        hot := s.mgt.hot }
    out := let o := if s.tim.ppsOut then .pin .ppsOut 0 :: s.out else s.out
           if s.alertLow then .pin .smbAlertN 1 :: o else o
    free := s.free, pending := s.pending }

/-- The stages start where RST_N and PWR_OK are high (R618). -/
def State.coldStart (s : State) : State :=
  if s.boot.rstN && s.boot.pwrOk then { s with boot := { s.boot with stage := 1 } } else s

/-- POWER_ON (R617, R643): VSB rises; nothing of the management island's state from before is there. -/
def execPowerOn (s : State) : Host.Outcome State Fault Refusal :=
  .next (
    let t := s.coldReset 0
    let r := State.reset
    { t with regs := [], mgt := r.mgt
             boot := { r.boot with vsb := true, cause := 0 }
             tim := r.tim })

/-- COLD_RESET_ASSERT (R616): the levels PWR_OK and RST_N now have, at least one of them low. -/
def execColdResetAssert (pwrOk rstN : Bool) (s : State) : Host.Outcome State Fault Refusal :=
  .next (
    if pwrOk && rstN then s
    else
      let t := s.coldReset 1
      let t := { t with boot := { t.boot with pwrOk := pwrOk, rstN := rstN } }
      if pwrOk then t else t.tapLapse)

/-- COLD_RESET_RELEASE (R615, R618): RST_N rises with PWR_OK high; `refclk` is whether REFCLK runs. -/
def execColdResetRelease (refclk : Bool) (s : State) : Host.Outcome State Fault Refusal :=
  .next (
    if s.boot.vsb && s.boot.stage == 0 then
      { s with boot := { s.boot with pwrOk := true, rstN := true, stage := 1 }
               tim := { s.tim with refclkOk := refclk } }
    else s)

/-- VSB_LOSS (R701): the trip record and everything the island held are lost. -/
def execVsbLoss (s : State) : Host.Outcome State Fault Refusal :=
  .next (
    let t := s.coldReset s.boot.cause
    let r := State.reset
    let low := s.bit aMGT_TRIP_REC 31
    let t := { t with regs := [], mgt := r.mgt, boot := { r.boot with vsb := false, cause := s.boot.cause } }
    if low then t.emit (.pin .thermTripN 1) else t)

/-- VID_PINS_VALID (R695, R696): C0's code on the low five pins, C1's on the next five. -/
def execVidPinsValid (s : State) : Host.Outcome State Fault Refusal :=
  .next (
    if s.boot.vsb && !s.boot.vidDriven then
      ({ s with boot := { s.boot with vidDriven := true } }).emit (.pin .vid (s.fuse.vid0 + 32 * s.fuse.vid1))
    else s)

/-! ## CLOCKS (R31, R33, R619, R620) and the host port (R621) -/

/-- A rate code from 2.5 to 64 GT/s and a width of x1, x4, x8 or x16: what the host port links at (R110). -/
def linkable (rate width : Nat) : Bool := decide (1 ≤ rate) && decide (rate ≤ 6) && [1, 4, 8, 16].contains width

/-- The host port trains where PERST_N is high and the stage is at least FLASH (R621). DESIGN CHOICE: log 23. -/
def State.hostTrain (s : State) : State :=
  if s.boot.perstN && decide (2 ≤ s.boot.stage) && linkable s.hif.rate s.hif.width then
    { s with hif := { s.hif with training := true, linkUp := true } }
  else s

/-- Stage CLOCKS ends with the root locked and the fuses read (R618). -/
def State.clocksDone (s : State) : State :=
  if s.boot.stage == 1 && s.tim.lock && s.boot.fuseDone && s.boot.error == 0 then
    ({ s with boot := { s.boot with stage := 2 } }).hostTrain
  else s

/-- ROOT_PLL_LOCK (R46, R55, R619): fabric time starts at 0. -/
def execRootPllLock (s : State) : Host.Outcome State Fault Refusal :=
  .next (
    if s.boot.stage == 1 && s.tim.refclkOk && !s.tim.lock && !s.tim.lost then
      ({ s with tim := { s.tim with lock := true, now := 0, clk := 0, slot := 0 } }).clocksDone
    else s)

/-- CLOCKS_TIMEOUT (R620): 1 NO_REFCLK, 2 PLL. -/
def execClocksTimeout (s : State) : Host.Outcome State Fault Refusal :=
  .next (
    if s.boot.stage == 1 && !s.tim.lock then
      { s with boot := { s.boot with error := if s.tim.refclkOk then 2 else 1 } }
    else s)

/-- Disabled columns of a die's mask. -/
def maskCount (m : Nat) : Nat := ((List.range 132).filter (bitOf m)).length

/-- FUSE_READ_DONE (R31, R33). Where both causes hold, SUB names the CRC. DESIGN CHOICE: log 103. -/
def execFuseReadDone (s : State) : Host.Outcome State Fault Refusal :=
  .next (
    if s.boot.stage == 1 && !s.boot.fuseDone then
      let c0 := maskCount s.fuse.mask0
      let c1 := maskCount s.fuse.mask1
      let ok := s.fuse.crcOk && decide (c0 ≤ 4) && decide (c1 ≤ 4)
      let s := { s with boot := { s.boot with fuseDone := true, fuseOk := ok } }
      let s := if ok then s else s.offer 0x03 (if s.fuse.crcOk then 2 else 1) dieH 0x80 c0 c1 0 0
      s.clocksDone
    else s)

/-- PERST_RELEASE (R110, R621): with what the link negotiates and the VFs the host creates. DESIGN CHOICE: log 23. -/
def execPerstRelease (flit : Bool) (rate width numVf : Nat) (s : State) : Host.Outcome State Fault Refusal :=
  .next (({ s with boot := { s.boot with perstN := true }
                   hif := { s.hif with flit := flit, rate := rate, width := width, numVf := min 63 numVf } }).hostTrain)

/-! ## FLASH: the copies (R624–R637) -/

/-- Bytes of the flash: what is stored is the complement, so that an erased byte, 0xFF, is not listed. PRESUMED: log 26. -/
def State.flashRd (s : State) (a n : Nat) : List Byte := (memRead s.flash a n).map fun b => ~~~b

/-- A field of a copy. -/
def State.copyField (s : State) (c at_ n : Nat) : Nat := leNat (s.flashRd (c * 2 ^ 24 + at_) n)

/-- LENGTH of a copy (R625). -/
def State.copyLen (s : State) (c : Nat) : Nat := s.copyField c 12 4

/-- A copy's header makes it a candidate (R625, R633). -/
def State.headerOk (s : State) (c : Nat) : Bool :=
  let n := s.copyField c 6 2
  let len := s.copyLen c
  s.copyField c 0 4 == 0x4643384B && s.copyField c 4 2 == 1 && decide (1 ≤ n) && decide (n ≤ 3) && len % 64 == 0
    && decide (64 ≤ len) && decide (len + 96 ≤ 2 ^ 24) && s.copyField c 8 4 != 0xFFFFFFFF

/-- The end marker (R627). -/
def State.markerOk (s : State) (c : Nat) : Bool :=
  let len := s.copyLen c
  let m := len - 64
  s.copyField c m 4 == 0x4543384B && s.copyField c (m + 4) 4 == s.copyField c 8 4 && s.copyField c (m + 8) 4 == len
    && s.copyField c (m + 12) 4 == crc32c (s.flashRd (c * 2 ^ 24) m) && s.copyField c (m + 16) 48 == 0

/-- SIGNER and signature, which an unprogrammed owner fuse leaves unchecked (R627, R628). -/
def State.signerOk (s : State) (c : Nat) : Bool :=
  if s.fuse.owner = 0 then true
  else
    let len := s.copyLen c
    let base := c * 2 ^ 24
    let signer := s.flashRd (base + 64) 49
    leNat (sha384 signer) == s.fuse.owner && verifies (beNat signer) (s.flashRd base len) (s.flashRd (base + len) 96)

/-- Entry `i` of the section table: KIND, OFFSET and SIZE, and whether its other bytes are 0 (R626). -/
def State.section_ (s : State) (c i : Nat) : Nat × Nat × Nat × Bool :=
  let a := 128 + 16 * i
  (s.copyField c a 2, s.copyField c (a + 4) 4, s.copyField c (a + 8) 4,
   s.copyField c (a + 2) 2 == 0 && s.copyField c (a + 12) 4 == 0)

/-- The sections of a copy. -/
def State.sections (s : State) (c : Nat) : List (Nat × Nat × Nat × Bool) := (List.range (s.copyField c 6 2)).map (s.section_ c)

/-- The section of a KIND: its OFFSET and SIZE. -/
def State.sectionOf (s : State) (c kind : Nat) : Option (Nat × Nat) :=
  ((s.sections c).find? fun x => x.1 == kind).map fun x => (x.2.1, x.2.2.1)

/-- The bytes of the section of a KIND; none where the copy has none. -/
def State.sectionBytes (s : State) (c kind : Nat) : Option (List Byte) :=
  (s.sectionOf c kind).map fun x => s.flashRd (c * 2 ^ 24 + x.1) x.2

/-- The section table (R626). -/
def State.sectionsOk (s : State) (c : Nat) : Bool :=
  let xs := s.sections c
  (xs.all fun x => decide (1 ≤ x.1) && decide (x.1 ≤ 3) && x.2.2.2 && x.2.1 % 64 == 0
      && decide (128 + 16 * xs.length ≤ x.2.1) && decide (x.2.1 + x.2.2.1 ≤ s.copyLen c - 64)
      && (xs.filter fun y => y.1 == x.1).length == 1)
    && (xs.any fun x => x.1 == 1)

/-- The FIRMWARE section (R629). -/
def State.firmwareOk (s : State) (c : Nat) : Bool :=
  match s.sectionBytes c 1 with
  | none => false
  | some b =>
    let n := b.length - 96
    decide (116 ≤ b.length) && verifies Config.firmwareKey.toNat (b.take n) (b.drop n)
      && leNat ((b.drop 16).take 4) == s.copyField c 16 4

/-- A CONFIG entry names a 4-byte-aligned RW field of a block of R630. -/
def configEntryOk (o : Nat) : Bool :=
  o % 4 == 0 && ([1, 2, 7, 8, 9, 10, 12, 11].contains (blockOf o) || o == aHIF_BLK_IRQ_EN)
    && (match regRow o with | some r => r.rw != 0 | none => false)

/-- CONFIG entries of `n` × 8 bytes. -/
def configOf : Nat → List Byte → List (Nat × Nat)
  | 0, _ => []
  | n + 1, b => (leNat (b.take 4), leNat ((b.drop 4).take 4)) :: configOf n (b.drop 8)

/-- The CONFIG entries of a copy. -/
def State.configEntries (s : State) (c : Nat) : List (Nat × Nat) :=
  match s.sectionBytes c 2 with | some b => configOf (b.length / 8) b | none => []

/-- The CONFIG section (R630). -/
def State.configOk (s : State) (c : Nat) : Bool :=
  (match s.sectionOf c 2 with | some x => x.2 % 8 == 0 | none => true) && (s.configEntries c).all fun e => configEntryOk e.1

/-- The table of R590 with no copy: pavilion 0 owns everything, and each pool's whole count as its cap. -/
def State.defaultPav (s : State) : PavSet :=
  let g := s.fuse.asm
  let bits := fun n (f : Nat → Bool) => ((List.range n).map fun i => b2n (f i) * 2 ^ i).foldl (· + ·) 0
  let hbm : Range := ⟨0, hbmBytes g / 4096⟩
  let e : PavEntry :=
    { valid := true, function := 0, columns := 2 ^ 256 - 1, units := 0xFF, engines := bits 8 (hbmPlaced g),
      ports := bits 84 (portPlaced g), hbm0 := hbm, hbm1 := hbm, ember0 := ⟨0, 2 ^ 20⟩, ember1 := ⟨0, 2 ^ 20⟩,
      sbuf0 := ⟨0, 2 ^ 21⟩, sbuf1 := ⟨0, 2 ^ 21⟩, streams := ⟨0, 65536⟩, groups := ⟨0, 4096⟩,
      reserve := List.replicate 8 (2 ^ 20), tokens := s.budget }
  { table := [(0, e)], cust := 0, opKey := 0, cuKey := 0 }

/-- The table that a PAVILION section gives, where the section is valid (R632). DEDUCED: log 25. -/
def State.pavSection (s : State) (b : List Byte) : Option (Nat × PavSet) :=
  let n := leNat ((b.drop 4).take 4)
  let recs := b.drop 8
  let rs := recsOf n recs
  let old := s.defaultPav
  let t := old.apply rs
  let body := b.take (8 + 16 * n)
  let freed := rs.any fun r =>
    let e := pavEntryOf t.table r.pav
    r.field == 0x01 && !e.valid && e.owns
  if decide (b.length = 200 + 16 * n) && recForms n recs && (keyOf rs 0x11).isSome && (keyOf rs 0x12).isSome
      && s.tableCheck t rs == 0 && !freed && verifies t.opKey body ((b.drop (8 + 16 * n)).take 96)
      && verifies t.cuKey body (b.drop (104 + 16 * n)) then some (leNat (b.take 4), t)
  else none

/-- The PAVILION section of a copy as it counts: an unprogrammed owner fuse ignores it (R628, R632). -/
def State.pavOf (s : State) (c : Nat) : Option (Nat × PavSet) :=
  match (if s.fuse.owner = 0 then none else s.sectionBytes c 3) with
  | none => some (0, s.defaultPav)
  | some b => s.pavSection b

/-- The outcome of verifying a copy (R633, R634): 1 TAKEN, or the first check that fails. DEDUCED: log 28. -/
def State.verifyCopy (s : State) (c : Nat) : Nat :=
  if !s.markerOk c then 3
  else if !s.signerOk c then 4
  else if !s.sectionsOk c || !s.firmwareOk c then 5
  else if !s.configOk c then 6
  else if (s.pavOf c).isNone then 7
  else 1

/-- Candidates in order of SEQ, highest first, A before B (R633). -/
def State.candidates_ (s : State) : List Nat :=
  let cs := [0, 1].filter s.headerOk
  if cs = [0, 1] ∧ s.copyField 0 8 4 < s.copyField 1 8 4 then [1, 0] else cs

/-- CFG_COPY_x of a copy whose header has been read. -/
def State.copyStat (s : State) (c status : Nat) : CopyStat :=
  let ok := s.headerOk c
  ⟨if ok then status else 2, if ok then s.copyField c 8 4 else 0xFFFFFFFF, s.copyField c 16 4⟩

/-- A copy's status recorded. -/
def State.setCopy (s : State) (c : Nat) (x : CopyStat) : State :=
  { s with boot := if c = 0 then { s.boot with copyA := x } else { s.boot with copyB := x } }

/-- A copy fails after its header has passed (R634). -/
def State.copyFail (s : State) (c status : Nat) : State :=
  ((s.setCopy c (s.copyStat c status)).cfgEvt 0).offer 0x02 status dieH 0x80 c (s.copyField c 8 4) 0 0

/-- RESET entry (R648). -/
def State.logReset (s : State) : State :=
  s.offer 0x01 s.boot.cause dieH 0x80 (s.boot.stage + b2n (s.boot.copy == some 1) * 256) s.boot.fwver 0 0

/-- The pavilion table, keys and SEQ loaded, and a NONCE drawn (R590, R632). -/
def State.loadPav (s : State) (seq : Nat) (t : PavSet) : State :=
  ({ s with pav := { s.pav with table := t.table, next := none, scrubs := [], waiter := none, cust := t.cust, opKey := t.opKey,
                                cuKey := t.cuKey, seq := seq, pend := none } }).newNonce

/-- A copy is taken (R633, R636): the stage becomes CLEAR. -/
def State.takeCopy (s : State) (c seq : Nat) (t : PavSet) : State :=
  let s := s.setCopy c (s.copyStat c 1)
  let s := { s with boot := { s.boot with copy := some c, fwver := s.copyField c 16 4, config := s.configEntries c, stage := 3 } }
  s.loadPav seq t

/-- No copy is taken (R635). DEDUCED: log 29. -/
def State.recovery (s : State) : State :=
  let s := { s with boot := { s.boot with stage := 6, error := 3, fwver := 0 } }
  (s.loadPav 0 s.defaultPav).logReset

/-- The candidates tried in order. -/
def State.tryCopies (s : State) : List Nat → State
  | [] => s.recovery
  | c :: cs =>
    let v := s.verifyCopy c
    if v = 1 then (match s.pavOf c with | some (seq, t) => s.takeCopy c seq t | none => s.recovery)
    else (s.copyFail c v).tryCopies cs

/-- COPY_SELECTED (R633–R637). -/
def execCopySelected (s : State) : Host.Outcome State Fault Refusal :=
  .next (
    if s.boot.stage == 2 then
      let s := (s.setCopy 0 (s.copyStat 0 0)).setCopy 1 (s.copyStat 1 0)
      s.tryCopies s.candidates_
    else s)

/-! ## CLEAR (R313, R618, R668) -/

/-- The ring cleared: what the stages have logged since the reset waits in the queue to be written after it.
DEDUCED: log 29. -/
def State.logClear (s : State) : State :=
  { s with log := { State.reset.log with retries := s.log.retries, queue := s.log.ring.map (fun e => { e.2 with seq := 0 }) ++ s.log.queue } }

/-- CLEAR_DONE (R618): every tier and all HBM zeroed, HBM trained, the cells cleared, the log cleared. Cells held in reset
by a fuse fault do not become READY. DEDUCED: log 29. DESIGN CHOICE: log 103. -/
def execClearDone (s : State) : Host.Outcome State Fault Refusal :=
  .next (
    if s.boot.stage == 3 && !s.boot.warm then
      let s := { s with mem := [], writes := [], poison := [], soft := [], cells := [] }
      let s := if s.boot.fuseOk then s.setFld aCEL_STATUS 2 2 1 else s
      let s := (List.range 8).foldl (fun s k =>
        if hbmPlaced s.fuse.asm k then s.setFld (aMEM_HBM_STATUS k) 1 1 1 else s) s
      let s := s.logClear
      { s with boot := { s.boot with stage := 4 } }
    else s)

/-! ## Warm reset (R590, R644–R648) -/

/-- Registers that a warm reset does not set to 0 although no write reaches them, or only a clear does: they are neither counters
nor EVENT bits, and R645 does not name them. DEDUCED: log 30. -/
def warmKeeps (o : Nat) : Bool :=
  o == aCEL_STATUS || o == aPWR_IMG_STATE || o == aDET_HAZARD || o == aDET_RPL_STATUS || o == aDET_RPL_POS
    || o == aDET_DIG_RESULT || (List.range 3).any (fun i => o == aRTE_TBL_DATA1 i)
    || (List.range 2).any (fun d => o == aBPM_STATUS d || o == aBPM_OWN_DATA2 d || o == aBPM_OWN_DATA3 d)
    || (List.range 8).any (fun k => o == aMEM_HBM_STATUS k || o == aMXU_STATUS k || o == aMXU_LAST k)

/-- The register is one that R645 sets to 0: a counter, an EVENT, flag or fault word, SCH_Q_DEPTH_MAX or PWR_PEAK, in a block
other than GLB, CLK, TIM, CFG, PAV, MGT and LOG. DEDUCED: log 30. -/
def warmZero (o : Nat) : Bool :=
  let b := blockOf o
  (b == 3 || decide (8 ≤ b)) && !warmKeeps o &&
    (match regRow o with
     | some r => r.rw == 0
     | none => false) || o == aPWR_PEAK
    || (decide (0x330000 ≤ o) && decide (o < 0x3D8000) && decide (0x100 ≤ o % 0x2000)
        && (let t := (o - 0x100) % 0x200; decide (0x100 ≤ t) && decide (t < 0x140) && t % 8 == 4))

/-- Packets in flight are discarded, and every enabled sub-port goes DOWN with no record of it (R645); one with a lane in a test,
whose settings R645 keeps, stays in TEST (R121, R161). DEDUCED: log 34. -/
def State.warmPorts (s : State) : State :=
  let s := { s with
    rte := { s.rte with wait := [], units := [], own := [], transit := [], egress := [], pause := [], frees := [],
                        service := ⟨0, [], [], [], none, [], []⟩, turns := [] }
    lrep := [], busy := [] }
  (List.range 84).foldl (fun s p =>
    if s.hasPort p && s.portOn p then
      let s := (List.range (subCount p (s.portMode p))).foldl (fun s k => s.enter p k (if s.subTest p k then 8 else 1)) s
      if 64 ≤ p ∧ p < 80 then s.setSrcUp (16 + (p - 64)) false else s
    else s) s

/-- BPM of a die: holdings cleared, and the rings to be filled again where it is enabled (R219, R645). -/
def State.warmBpm (s : State) (die : Nat) : State :=
  let owners := s.rte.owners.map fun e =>
    if e.1 / 2048 = die then (e.1, { e.2 with hrsv := 0, hshr := 0, nobuf := 0 }) else e
  let s := { s with rte := { s.rte with owners := owners, pools := tblKeep (fun k => k / 4 != die) (fun _ => poolInit) s.rte.pools } }
  let s := s.setFld (aBPM_STATUS die) 0 0 0
  (List.range 4).foldl (fun s k => s.setFld (aBPM_POOL_LOWFREE die k) 19 0 (s.poolCount die k)) s

/-- Image, schedule, groups, streams, cells, units, capture and replay stopped; memories keep their contents (R645). -/
def State.warmUnits (s : State) : State :=
  let r := State.reset
  let s := s.unload.due
  let waits := match s.pav.waiter with | some (.host no) => [no] | _ => []
  { s with
    hif := { s.hif with taken := s.hif.taken.filter fun t => waits.contains t.no }
    writes := [], loading := none, sched := r.sched, groups := [], streams := s.streams.map fun e => (e.1, e.2.closed), strCmds := [],
    gtbl := [], greq0 := [], greq1 := [], gheld := [], pf0 := [], pf1 := [], pager0 := [], pager1 := [], tokens := [],
    cap := { s.cap with active := false, stoppers := [] }, rpl := r.rpl, digest := none,
    cells := s.cells.map (fun c => (c.1, { c.2 with run := none, inq := [] })), cel := { r.cel with nextRun := s.cel.nextRun },
    mxu := s.mxu.map fun u => (u.1, { u.2 with run := none }) }

/-- Entries still queued are written before the firmware restarts (R668). -/
def State.logFlush (s : State) : State := s.log.queue.foldl (fun s _ => s.logWrite1) s

/-- The registers and the link error counters that R645 sets to 0. -/
def State.warmRegs (s : State) : State :=
  { s with log := { s.log with retries := [] }, regs := tblKeep (fun o => !warmZero o) regReset s.regs }

/-- The pending approval forgotten, and a new nonce (R645). -/
def State.warmPav (s : State) : State := ({ s with pav := { s.pav with pend := none } }).newNonce

/-- What a warm reset does to the blocks (R645): log entries still queued are written first (R668). DEDUCED: log 102. -/
def State.warmBlocks (s : State) : State :=
  let s := (s.logFlush.warmPorts.warmPav.allReset none).warmUnits
  let s := ((s.warmBpm 0).warmBpm 1).setFld aMEM_CTRL 0 0 0
  (s.setFld aDET_RPL_STATUS 31 31 0).warmRegs

/-- A warm-reset cause (R643, R644, R646): of several in one SCLK cycle the lowest is recorded. DEDUCED: log 30. -/
def State.warmReset (s : State) (cause : Nat) : State :=
  if s.ready && !s.log.fatal then
    ({ s with boot := { s.boot with stage := 3, warm := true, warmAt := s.tim.clk / 32, cause := cause } }).warmBlocks
  else if s.boot.warm && !s.log.fatal && s.tim.lock && s.boot.warmAt == s.tim.clk / 32 then
    { s with boot := { s.boot with cause := min cause s.boot.cause } }
  else s.cfgEvt 1

/-- WARM_RESET_DONE (R644, R648): not in the fatal state, which a cold reset alone ends (R646, R660). -/
def execWarmResetDone (s : State) : Host.Outcome State Fault Refusal :=
  .next (
    if s.boot.warm && !s.log.fatal then
      let s := { s with boot := { s.boot with stage := 5, warm := false, warmCount := min 0xFFFFFFFF (s.boot.warmCount + 1) },
                        pav := { s.pav with scrubAt := s.tim.clk + s.pav.scrubFor } }
      (s.cfgEvt 4).logReset
    else s)

/-- WRST_ASSERT (R643): WRST_N low for at least 1 µs. -/
def execWrstAssert (s : State) : Host.Outcome State Fault Refusal := .next (s.warmReset 3)

/-- WATCHDOG_FAULT (R643). -/
def execWatchdogFault (s : State) : Host.Outcome State Fault Refusal := .next (s.warmReset 6)

/-- A write to CFG_RESET (R643, R647): COLD outranks WARM; another KEY does nothing. -/
def State.cfgReset (s : State) (v : Word) : State :=
  if bitsOf v.toNat 31 16 ≠ 0x5A5A then s
  else if bitOf v.toNat 1 then (s.coldReset 2).coldStart
  else if bitOf v.toNat 0 then s.warmReset 4
  else s

/-- CFG_RESET_COLD (R643). -/
def execCfgResetCold (p : Path) (v : Word) (s : State) : Host.Outcome State Fault Refusal :=
  .next (if (p = .fn 0 ∨ p = .console ∨ p = .smbus ∨ p = .tap) ∧ s.mayWrite p aCFG_RESET = true ∧ bitOf v.toNat 1 = true then
    s.cfgReset v else s)

/-- CFG_RESET_WARM (R643). -/
def execCfgResetWarm (p : Path) (v : Word) (s : State) : Host.Outcome State Fault Refusal :=
  .next (if (p = .fn 0 ∨ p = .console ∨ p = .smbus ∨ p = .tap) ∧ s.mayWrite p aCFG_RESET = true ∧ bitOf v.toNat 1 = false then
    s.cfgReset v else s)

/-! ## The flash controller (R638–R641) -/

/-- A command at an address is one R639 lets start. -/
def State.flashOk (s : State) (op a : Nat) : Bool :=
  s.boot.flBusy.isNone && (op == 0 || s.boot.stage == 6 || s.boot.copy != some (a / 2 ^ 24))
    && (if op = 2 then a % 65536 == 0 else a % 256 == 0) && decide (a ≤ 0x1FFFFFF) && decide (op ≤ 2)

/-- A command has been started in the present SCLK cycle, by the PF or not (R638). -/
def State.flNow (s : State) (pf : Bool) : Bool :=
  s.tim.lock && s.boot.flBusy.isSome && s.boot.flAt == s.tim.clk / 32 + 1 && s.boot.flPf == pf

/-- A write to CFG_FL_CMD, from the PF or the management port (R638, R639): of two that start a command in one SCLK cycle the
management port's runs, and the PF's is ignored. DEDUCED: log 27. -/
def State.flCmd (s : State) (pf : Bool) (v : Word) : State :=
  if pf && bitOf v.toNat 16 && s.flNow false then s
  else
    let s := s.plainWrite aCFG_FL_CMD v
    if bitOf v.toNat 16 then
      let op := bitsOf v.toNat 21 20
      let a := s.fld aCFG_FL_ADDR 24 0
      let t := if !pf && s.flNow true then { s with boot := { s.boot with flBusy := none } } else s
      if t.flashOk op a then
        { s with boot := { s.boot with flBusy := some (op, a), flErr := false, flAt := s.tim.clk / 32 + 1, flPf := pf } }
      else ({ s with boot := { s.boot with flErr := true } }).cfgEvt 2
    else s

/-- A write to CFG_FL_CMD with GO and one OP. -/
def State.flStart (s : State) (p : Path) (v : Word) (op : Nat) : State :=
  if s.mayWrite p aCFG_FL_CMD && (match p with | .fn f => f == 0 | _ => true) && bitOf v.toNat 16 && bitsOf v.toNat 21 20 == op then
    s.flCmd (match p with | .fn _ => true | _ => false) v
  else s

/-- FLASH_READ (R638). -/
def execFlashRead (p : Path) (v : Word) (s : State) : Host.Outcome State Fault Refusal := .next (s.flStart p v 0)

/-- FLASH_PROGRAM (R638). -/
def execFlashProgram (p : Path) (v : Word) (s : State) : Host.Outcome State Fault Refusal := .next (s.flStart p v 1)

/-- FLASH_ERASE (R638). -/
def execFlashErase (p : Path) (v : Word) (s : State) : Host.Outcome State Fault Refusal := .next (s.flStart p v 2)

/-- The 256 bytes of the page buffer. DEDUCED: log 27. -/
def State.pageBuf (s : State) : List Byte := (List.range 64).flatMap fun i => natLe 4 (s.reg (aCFG_FL_DATA i)).toNat

/-- The page buffer filled. -/
def State.fillPage (s : State) (bs : List Byte) : State :=
  (List.range 64).foldl (fun s i => s.hwReg (aCFG_FL_DATA i) (BitVec.ofNat 32 (leNat ((bs.drop (4 * i)).take 4)))) s

/-- FLASH_OP_DONE (R638): programming clears bits, erasing sets them. PRESUMED: log 26. -/
def execFlashOpDone (s : State) : Host.Outcome State Fault Refusal :=
  .next (match s.boot.flBusy with
    | none => s
    | some (op, a) =>
      let s := { s with boot := { s.boot with flBusy := none } }
      if op = 0 then s.fillPage (s.flashRd a 256)
      else if op = 1 then
        let new := (memRead s.flash a 256).zipWith (fun (x y : Byte) => x ||| ~~~y) s.pageBuf
        { s with flash := memWrite s.flash a new }
      else { s with flash := memClear s.flash a (a + 65536) })

/-! ## The owner fuse (R642) -/

/-- The staged fingerprint. -/
def State.rootStage (s : State) : Nat := leNat ((List.range 12).flatMap fun i => natLe 4 (s.reg (aCFG_ROOT_STAGE i)).toNat)

/-- A write to CFG_FUSE_PROG from the PF (R642). DEDUCED: log 27. -/
def State.fuseProg (s : State) (v : Word) : State :=
  if bitsOf v.toNat 31 16 = 0x4F57 ∧ bitOf v.toNat 0 = true then
    if s.fuse.owner = 0 ∧ s.rootStage ≠ 0 ∧ s.boot.fpBusy = none then
      { s with boot := { s.boot with fpBusy := some s.rootStage, fpErr := false } }
    else { s with boot := { s.boot with fpErr := true } }
  else s

/-- FUSE_PROG (R642). -/
def execFuseProg (p : Path) (v : Word) (s : State) : Host.Outcome State Fault Refusal :=
  .next (if p = .fn 0 ∧ s.mayWrite p aCFG_FUSE_PROG = true then s.fuseProg v else s)

/-- FUSE_PROG_DONE (R642). -/
def execFuseProgDone (s : State) : Host.Outcome State Fault Refusal :=
  .next (match s.boot.fpBusy with
    | none => s
    | some x => { s with boot := { s.boot with fpBusy := none }, fuse := { s.fuse with owner := x } })

end Sys2Proof.Machine
end

