-- ==== Sys2Proof/Machine/Faults.lean ====
section
/-! DEFINITION. Fatal causes, package links and uncorrectable words in tables and stores (R26, R51, R651–R660, R666, R711). -/

namespace Sys2Proof.Machine

/-! ## The fatal state (R51, R659, R660) -/

/-- Every F-, L- and S-port lane is driven to electrical idle: the sub-ports of the enabled ports go DOWN (R660). -/
def State.portsIdle (s : State) : State :=
  (List.range 84).foldl (fun s p =>
    if s.hasPort p && s.portOn p then
      (List.range (subCount p (s.portMode p))).foldl (fun s k => (s.linkLost p k).enter p k 1) s
    else s) s

/-- Every STC lane is driven to electrical idle (R660). -/
def State.stcIdle (s : State) : State :=
  (List.range 16).foldl (fun s n =>
    let x := s.lane (stcIdx n)
    ((s.setLane (stcIdx n) { x with up := false, sym := false }).setSrcUp n false).relayClose n) s

/-- Bandstands stop, and every cell and matrix unit is held in reset (R51). DEDUCED: log 36. -/
def State.unitsHeld (s : State) : State :=
  let s := s.due
  { s with writes := [], cells := [], cel := { State.reset.cel with nextRun := s.cel.nextRun }, mxu := [], tokens := []
           sched := { s.sched with q0 := [], q1 := [] } }

/-- A fatal cause strikes: the first one stops the data path; the lowest code is kept, and each has its entry (R660).
DEDUCED: log 35, 36, 102. -/
def State.fatalEnter (s : State) (code d0 d1 : Nat) : State :=
  let first := !s.log.fatal
  let s := { s with log := { s.log with fatal := true, cause := if first then code else min s.log.cause code } }
  let s := (s.evt 6 aLOG_EVENT 4).offer 0x0F code dieH 0x80 d0 d1 0 0
  if first then s.unitsHeld.portsIdle.stcIdle.noSource else s

/-- Root lock is lost (R51): the counter holds its value in FREERUN with WITHHOLD 1, and PPS_OUT is low. DEDUCED: log 36.
SOURCE of TIM_QUALITY names none. DESIGN CHOICE: log 104. -/
def State.lockLost (s : State) : State :=
  let pps := s.tim.ppsOut
  let s := { s with tim := { s.tim with lock := false, lost := true, state := 0, rootMode := false, sel := 63, advHops := 31,
                                        withhold := true, held := true, facq := none, loadPend := false, ppsOut := false } }
  let s := if pps then s.emit (.pin .ppsOut 0) else s
  s.oneCycle fun s => (s.offer 0x04 1 dieH 0x80 (s.peek aCLK_STATUS).toNat 0 0 0).fatalEnter 1 0 0

/-- ROOT_LOCK_LOSS (R51, R659). -/
def execRootLockLoss (s : State) : Host.Outcome State Fault Refusal := .next (if s.tim.lock then s.lockLost else s)

/-- REFCLK_LOSS (R711): while the root is locked it loses lock as well. DEDUCED: log 36. -/
def execRefclkLoss (s : State) : Host.Outcome State Fault Refusal :=
  .next (
    let s := { s with tim := { s.tim with refclkOk := false } }
    if s.tim.lock then
      (s.offer 0x04 2 dieH 0x80 ((s.peek aCLK_STATUS).toNat / 2 * 2) 0 0 0).lockLost
    else s)

/-! ## Package links (R26, R659) -/

/-- A retry counted in its link's error counters (R26). -/
def State.countRetry (s : State) (link : Nat) : State :=
  { s with log := { s.log with retries := tblSet s.log.retries link (tblGet (fun _ => 0) s.log.retries link + 1) } }

/-- PKG_LINK_RETRY (R26, R524): counted in the link's own counter, and for a flit of the scheduled class a hazard.
DEDUCED: log 37. -/
def execPkgLinkRetry (link : Nat) (sched : Bool) (s : State) : Host.Outcome State Fault Refusal :=
  .next (if sched then (s.countRetry link).hazard 0 else s.countRetry link)

/-- PKG_LINK_FAIL (R659). -/
def execPkgLinkFail (link pair : Nat) (s : State) : Host.Outcome State Fault Refusal := .next (s.fatalEnter 2 link pair)

/-! ## Uncorrectable words (R657, R658) -/

/-- Bit 31 of an entry, its VALID, cleared. -/
def notValid (x : Nat) : Nat := if bitOf x 31 then x - 2 ^ 31 else x

/-- Route entry: `i` is TABLE × 65,536 + INDEX. DESIGN CHOICE: log 38. -/
def State.eccRoute (s : State) (i : Nat) : State :=
  let t := i / 65536
  if t < 4 then s.rteSet t (i % 65536) (notValid (s.rteGet t (i % 65536))) else s

/-- A buffer taken out of circulation (R236): `i` is its handle. DESIGN CHOICE: log 38. DEDUCED: log 39. -/
def State.eccBuffer (s : State) (i : Nat) : State :=
  let k := bitsOf i 31 30
  let die := bitsOf i 29 29
  let h := bitsOf i 28 0
  let p := s.pool die k
  let there := p.ring.contains h || (p.caches.any fun e => e.2.contains h)
  s.setPool die k { p with
    ring := p.ring.filter (· != h)
    caches := p.caches.map fun e => (e.1, e.2.filter (· != h))
    removed := if p.removed.contains h then p.removed else h :: p.removed
    free := if there then p.free - 1 else p.free }

/-- The schedule stops at the next slot boundary, and the image is unloaded once it has ended (R658).
DESIGN CHOICE: log 38. DEDUCED: log 39. -/
def State.eccStore (s : State) : State :=
  if s.sched.launched then
    let e := s.curSlot + 1
    { s with sched := { s.sched with unload := true, stop := some (match s.sched.stop with | some x => min x e | none => e) } }
  else s.unload

/-- A packet holds the flit `f` of a die's shared packet buffer. -/
def State.holdsFlit (s : State) (die f : Nat) (h : Held) : Bool :=
  h.die == die && h.handles.any fun i =>
    let b := s.fld (aBPM_POOL_BASE die h.pool) 20 0 + i * poolFlits h.pool
    decide (b ≤ f) && decide (f < b + poolFlits h.pool)

/-- A packet that holds the word leaves stomped, or is discarded when its turn comes (R170, R658). DEDUCED: log 39. -/
def State.damageHeld (s : State) (die f : Nat) : State :=
  let mark := fun (h : Held) => if s.holdsFlit die f h then { h with damaged := true } else h
  { s with rte := { s.rte with
      wait := s.rte.wait.map mark
      units := s.rte.units.map mark
      egress := s.rte.egress.map fun e => (e.1, { e.2 with queues := e.2.queues.map fun q => q.map mark }) } }

/-- An entry of a table with one entry changed by `f`, where it is listed. -/
def mapAt {α : Type} (l : List (Nat × α)) (i : Nat) (f : α → α) : List (Nat × α) := l.map fun e => if e.1 = i then (e.1, f e.2) else e

/-- The effect of an uncorrectable word in structure `k` of R670's numbering, at an index or byte address of a die (R658).
DESIGN CHOICE: log 38. -/
def State.eccEffect (s : State) (k i die : Nat) : State :=
  if k = 1 then s.eccRoute i
  else if k = 2 then (match s.grp i with | some x => s.destroyGroup i x | none => s)
  else if k = 3 then s.setStream i (s.stream i).closed
  else if k = 4 then s.setPolicer i { s.policer i with enable := false }
  else if k = 5 then { s with gtbl := tblSet s.gtbl i (notValid (tblGet (fun _ => 0) s.gtbl i)) }
  else if k = 6 then { s with regions := tblSet s.regions i (notValid (tblGet (fun _ => 0) s.regions i)) }
  else if k = 7 then s.setOwner die i (ownerWritten (s.owner die i) 0 0)
  else if k = 8 then s.eccBuffer i
  else if k ≤ 14 then s.eccStore
  else if k = 15 then (s.damageHeld die (i / 64)).poisonIt (sbufKey die i) 8
  else if k = 16 then s.poisonIt (emberKey die i) 8
  else s.fatalEnter 3 0 0

/-- TABLE_ECC_FAULT (R657, R658): a word of the log ring is found, counted and logged only when a drain reads it (R665). The
model's own codes: 32 and 33 give the word of a memory at key `index` an uncorrectable pattern or a single-bit error, which its
reader finds (R348, R349, R409, R492); 64 + `k` is a corrected word of structure `k`. DESIGN CHOICE: log 108. -/
def execTableEccFault (structure_ index die : Nat) (s : State) : Host.Outcome State Fault Refusal :=
  .next (
    if structure_ = 19 then
      { s with log := { s.log with bad := if s.log.bad.contains (index % 8192) then s.log.bad else index % 8192 :: s.log.bad } }
    else if structure_ = 32 then s.poisonIt index 1
    else if structure_ = 33 then s.soften index
    else if 64 < structure_ ∧ structure_ < 64 + 20 then s.bump aLOG_TBL_CORR 1
    else if structure_ = 0 ∨ 19 < structure_ then s
    else (s.tblFault structure_ die index die).eccEffect structure_ index die)

/-! ## LOG_DRAIN_ADV (R666) -/

/-- LOG_DRAIN_ADV. -/
def execLogDrainAdv (path : Path) (v : Word) (s : State) : Host.Outcome State Fault Refusal :=
  .next (if s.mayWrite path aLOG_DRAIN_ADV then
    s.drainAdv (bitsOf v.toNat 13 0) else s)

end Sys2Proof.Machine
end

