-- ==== Sys2Proof/Machine/RegWrite.lean ====
section
/-! DEFINITION. Register writes (R15–R19, R721–R725): what a write of each register does beyond storing its fields, and when a
block's rule has it ignored. -/

namespace Sys2Proof.Machine

/-- The state an outcome leads to; `s` where there is none. -/
def stateOr (s : State) : Host.Outcome State Fault Refusal → State
  | .next t => t
  | _ => s

/-- A write that a block's rule ignores where `bad` holds, and that is plain otherwise. -/
def State.plainUnless (s : State) (o : Nat) (v : Word) (bad : Bool) (ignored : State → State) : State :=
  if bad then ignored s else s.plainWrite o v

/-! ## Package to log -/

/-- CLK: enabling FREQ_IN makes the correction follow it (R78). -/
def State.writeClk (s : State) (o : Nat) (v : Word) : State :=
  let was := s.bit aCLK_CTRL 0
  let s := s.plainWrite o v
  if !was && s.bit aCLK_CTRL 0 && s.tim.freqInOk then { s with tim := { s.tim with corr := s.tim.freqIn } } else s

/-- Sources a write has made invalid: an acquisition waits for the first exchange after they are valid again (R79, R87). -/
def State.staleSrcs (s : State) : State :=
  { s with tim := { s.tim with srcs := s.tim.srcs.map fun e => (e.1, { e.2 with okAt := e.2.okAt && s.srcValid e.1 }) } }

/-- TIM: the guard is fixed while a schedule runs (R95); a PPS input that is disabled is no source any more.
DEDUCED: log 42. -/
def State.writeTim (s : State) (o : Nat) (v : Word) : State :=
  if o = aTIM_XGUARD then s.plainUnless o v s.schedRunning fun s => s.timEvt 7
  else
    let was := s.bit aTIM_PPS 0
    let s := (s.plainWrite o v).staleSrcs
    if was && !s.bit aTIM_PPS 0 then (s.setSrcUp 32 false).setSrc 32 srcInit else s

/-- Blocks of a mask whose EVENT has a bit at 1. -/
def State.pendOf (s : State) (mask : Nat) : Bool := (List.range 20).any fun b => bitOf mask b && s.blockPend b

/-- The function page of function `f`, at offset `r` of the page (R550, R551). -/
def State.writeFn (s : State) (f r : Nat) (v : Word) : State :=
  let o := fnPage f + r
  if 0x1000 ≤ r ∧ r < 0x3000 then
    let i := (r - 0x1000) / 0x20
    if o = aSQ_CTRL f i then s.sqCtrl f i v
    else s.plainUnless o v ((o == aSQ_BASE_LO f i || o == aSQ_BASE_HI f i) && s.bit (aSQ_CTRL f i) 0) fun s => s.ringIgnored f
  else if 0x3000 ≤ r ∧ r < 0x5000 then
    let j := (r - 0x3000) / 0x20
    if o = aCQ_CTRL f j then s.cqCtrl f j v
    else if o = aCQ_MODER f j then (s.plainWrite o v).cqCount f j
    else s.plainUnless o v ((o == aCQ_BASE_LO f j || o == aCQ_BASE_HI f j) && s.cqOn f j) fun s => s.ringIgnored f
  else s.plainWrite o v

/-- HIF: enabling a block whose EVENT stands sets BLOCK_EVENT (R582). DEDUCED: log 85. -/
def State.writeHif (s : State) (o : Nat) (v : Word) : State :=
  if 0x10000000 ≤ o then s.writeFn ((o - 0x10000000) / 0x8000) (o % 0x8000) v
  else if 0x38000 ≤ o then s.writeFn 0 (o - 0x38000) v
  else if o = aHIF_OCC_CLR then s.occClr v
  else if o = aHIF_BLK_IRQ_EN then
    let new := v.toNat &&& (0xFFFFFFFF - (s.reg o).toNat)
    let s := s.plainWrite o v
    if s.pendOf new then s.fnEvt1 0 7 else s
  else s.plainWrite o v

/-- CFG. -/
def State.writeCfg (s : State) (p : Path) (o : Nat) (v : Word) : State :=
  if o = aCFG_RESET then s.cfgReset v
  else if o = aCFG_FL_CMD then s.flCmd (match p with | .fn _ => true | _ => false) v
  else if o = aCFG_FUSE_PROG then (if p = .fn 0 then s.fuseProg v else s)
  else s.plainWrite o v

/-- LOG. -/
def State.writeLog (s : State) (o : Nat) (v : Word) : State :=
  if o = aLOG_DRAIN_ADV then s.drainAdv (bitsOf v.toNat 13 0) else s.plainWrite o v

/-- The reading of temperature sensor `i` in 0.125 °C (R690): an absent sensor's, 0x8000, is below every limit. -/
def State.temp (s : State) (i : Nat) : Int := signed 16 (s.fld (aMGT_TEMP i) 15 0)

/-- Every sensor reads below `lim` (0.125 °C). -/
def State.allBelow (s : State) (lim : Int) : Bool := (List.range 16).all fun i => decide (s.temp i < lim)

/-- WARN and TRIP of MGT_TEMP_LIMITS. -/
def State.warnAt (s : State) : Int := (s.fld aMGT_TEMP_LIMITS 11 0 : Nat)
/-- TRIP. -/
def State.tripAt (s : State) : Int := (s.fld aMGT_TEMP_LIMITS 23 12 : Nat)

/-- A clear of the trip record takes effect while every sensor reads below WARN, and lets THERM_TRIP_N go (R692). -/
def State.tripClear (s : State) (v : Word) : State :=
  if bitOf v.toNat 31 && s.bit aMGT_TRIP_REC 31 && s.allBelow s.warnAt then (s.plainWrite aMGT_TRIP_REC v).emit (.pin .thermTripN 1) else s

/-- MGT: the limits of R693, the alert of R684 and the trip record of R692. -/
def State.writeMgt (s : State) (o : Nat) (v : Word) : State :=
  if o = aMGT_TRIP_REC then s.tripClear v
  else if o = aMGT_TEMP_LIMITS then
    let warn := bitsOf v.toNat 11 0
    let trip := bitsOf v.toNat 23 12
    s.plainUnless o v (!(decide (480 ≤ trip) && decide (trip ≤ 920) && decide (warn + 40 ≤ trip))) fun s => s.mgtEvt 6
  else
    let was := s.alertLow
    let s := s.plainWrite o v
    let s := { s with mgt := { s.mgt with alertSeen := s.mgt.alertSeen &&& (s.reg aMGT_EVENT).toNat } }
    s.alertPin was

/-! ## Lanes to queues -/

/-- LNE. -/
def State.writeLne (s : State) (o : Nat) (v : Word) : State :=
  let i := (o - 0x100000) / 0x400
  if o = aLNE_CTRL i ∨ o = aLNE_PATGEN i then s.lneModeWrite i o v
  else if o = aLNE_PATCHK i then s.lnePatchk i v
  else if o = aLNE_INJECT i then s.lneInject i v
  else if o = aLNE_USER_LO i ∨ o = aLNE_USER_HI i then s.lneUser i o v
  else s.plainWrite o v

/-- PRT. -/
def State.writePrt (s : State) (o : Nat) (v : Word) : State :=
  let p := (o - 0x200000) / 0x1000
  if o = aPRT_CTRL p then s.prtCtrl p v
  else if o = aPRT_REST_CTRL p then s.prtRestCtrl p v
  else s.plainWrite o v

/-- The CMD register of the table that owns the DATA register at `o`, by the last offset of its DATA registers (R208). -/
def tblOf (o : Nat) (cmds : List (Nat × Nat)) : Option Nat := (cmds.find? fun c => decide (c.1 < o) && decide (o ≤ c.2)).map (·.1)

/-- The register at `o` is a DATA register of a table that is BUSY (R208). -/
def State.dataBusy (s : State) (o : Nat) (cmds : List (Nat × Nat)) : Bool :=
  match tblOf o cmds with | some c => s.tblBusy c | none => false

/-- RTE: the switch's identity is fixed while it forwards (R177). -/
def State.writeRte (s : State) (p : Path) (o : Nat) (v : Word) : State :=
  if o = aRTE_ID then s.plainUnless o v (s.bit aRTE_CTRL 0) fun s => s.rteEvt 1
  else if o = aRTE_TBL_CMD then stateOr s (if bitOf v.toNat 20 then execRteTblWrite p v s else execRteTblRead p v s)
  else s.plainUnless o v (s.dataBusy o [(aRTE_TBL_CMD, aRTE_TBL_CMD + 16)]) fun s => s.rteEvt 1

/-- BPM: the layout is fixed while the die's BPM is enabled (R220). -/
def State.writeBpm (s : State) (p : Path) (o : Nat) (v : Word) : State :=
  let die := (o - 0x310000) / 0x4000
  let r := o % 0x4000
  let layout := r == 0x8 || r == 0xC || r == 0x10 || (decide (0x100 ≤ r) && decide (r < 0x200) && decide (r % 0x40 < 8))
  if r = 0 then s.bpmEnable die v
  else if o = aBPM_OWN_CMD die then stateOr s (if bitOf v.toNat 20 then execBpmOwnWrite p die v s else execBpmOwnRead p die v s)
  else s.plainUnless o v ((layout && s.bit (aBPM_CTRL die) 0) || s.dataBusy o [(aBPM_OWN_CMD die, aBPM_OWN_DATA3 die)]) fun s =>
    s.bpmEvt die 0

/-- The offset is that of a WEIGHT (R255). -/
def isWeight (o : Nat) : Bool :=
  decide (0x330000 ≤ o) && (let r := (o - 0x330000) % 0x2000
    decide (0x100 ≤ r) && decide (r < 0x1100) && (let t := (r - 0x100) % 0x200
      decide (0x30 ≤ t) && decide (t < 0x80) && t % 0x10 == 0))

/-- The offset is that of a CAP or a BURST (R250). -/
def isShape (o : Nat) : Bool :=
  decide (0x330000 ≤ o) && (let r := (o - 0x330000) % 0x2000
    decide (0x100 ≤ r) && decide (r < 0x1100) && (let t := (r - 0x100) % 0x200
      decide (t < 0x30) && (t % 0x10 == 0 || t % 0x10 == 4)))

/-- The offset is that of a SCH_QMAP. -/
def isQmap (o : Nat) : Bool := decide (0x330000 ≤ o) && decide (o < 0x3D8000) && o % 0x2000 == (aSCH_QMAP 0) % 0x2000

/-- SCH: the calendar is fixed while a schedule runs (R263), and no WEIGHT is 0 (R255); a new CAP or BURST works from the next PCLK
cycle on, so that the tokens are counted by the old one up to the present (R250), and so does a new queue map (R242). -/
def State.writeSch (s : State) (p : Path) (o : Nat) (v : Word) : State :=
  if o = aSCH_CAL_CMD then stateOr s (if bitOf v.toNat 20 then execSchCalWrite p v s else execSchCalRead p v s)
  else if o = aSCH_POL_CMD then stateOr s (if bitOf v.toNat 20 then execSchPolWrite p v s else execSchPolRead p v s)
  else
    let cal := (o == aSCH_CAL_PERIOD || o == aSCH_CAL_COUNT) && s.schedRunning
    let busy := s.dataBusy o [(aSCH_CAL_CMD, aSCH_CAL_DATA1), (aSCH_POL_CMD, aSCH_POL_DATA2)]
    let s := if isShape o then s.settle (8 * ((o - 0x330000) / 0x2000) + ((o - 0x330000) % 0x2000 - 0x100) / 0x200) else s
    let s := if isQmap o then s.noteWas (qmapKey ((o - 0x330000) / 0x2000)) (s.reg o).toNat else s
    s.plainUnless o v (cal || busy || (isWeight o && bitsOf v.toNat 7 0 == 0)) fun s => s.evt 12 aSCH_EVENT 0

/-! ## Cells to power -/

/-- CEL: the column tables are fixed while cells or a schedule run (R352). -/
def State.writeCel (s : State) (o : Nat) (v : Word) : State :=
  let tables := decide (aCEL_XLAT 0 ≤ o) && decide (o ≤ aCEL_COLMODE 7)
  s.plainUnless o v (tables && (decide (s.cel.runs ≠ []) || s.schedRunning)) fun s => s.evt 13 aCEL_EVENT 0

/-- COL. -/
def State.writeCol (s : State) (p : Path) (o : Nat) (v : Word) : State :=
  if o = aCOL_LAG_CLR then stateOr s (execColLagClr p v s) else s.plainWrite o v

/-- STR: a replay store's size changes only while its port is DISABLED. -/
def State.writeStr (s : State) (p : Path) (o : Nat) (v : Word) : State :=
  if o = aSTR_TBL_CMD then stateOr s (if bitOf v.toNat 20 then execStrTblWrite p v s else execStrTblRead p v s)
  else if s.dataBusy o [(aSTR_TBL_CMD, aSTR_TBL_DATA7)] then s.strEvt 0
  else
    let l := (o - 0x431000) / 0x100
    s.plainUnless o v (decide (0x431000 ≤ o) && o == aRPL_SIZE l && decide ((s.sub (64 + l) 0).state ≠ 0)) id

/-- MEM: MEM_GSVC is fixed while GSVC_EN is 1, the Ember windows while a schedule runs. DEDUCED: log 95. -/
def State.writeMem (s : State) (p : Path) (o : Nat) (v : Word) : State :=
  let op := bitOf v.toNat 20
  if o = aMEM_CTRL then stateOr s (execGsvcEnWrite p v s)
  else if o = aMEM_RGN_CMD then stateOr s (if op then execMemRgnWrite p v s else execMemRgnRead p v s)
  else if o = aMEM_GTBL_CMD then stateOr s (if op then execMemGtblWrite p v s else execMemGtblRead p v s)
  else if o = aMEM_GWIN_CMD then stateOr s (if op then execMemGwinWrite p v s else execMemGwinRead p v s)
  else
    let ewin := decide (aMEM_EWIN_BASE 0 ≤ o) && decide (o ≤ aMEM_EWIN_SIZE 7)
    let busy := s.dataBusy o [(aMEM_RGN_CMD, aMEM_RGN_CMD + 12), (aMEM_GTBL_CMD, aMEM_GTBL_CMD + 12), (aMEM_GWIN_CMD, aMEM_GWIN_CMD + 8)]
    s.plainUnless o v (busy || (o == aMEM_GSVC && s.bit aMEM_CTRL 0) || (ewin && s.schedRunning)) fun s => s.evt 17 aMEM_EVENT 8

/-- DET: replay is fixed while a schedule is launched (R538), the streamer's addresses while capture is active.
DEDUCED: log 80. -/
def State.writeDet (s : State) (p : Path) (o : Nat) (v : Word) : State :=
  if o = aDET_CAP_TRIGGER then stateOr s (execCaptureTrigger p v s)
  else if o = aDET_DIG_CMD then stateOr s (execDigestStart p v s)
  else if aDET_CAP_DMAC_LO ≤ o ∧ o ≤ aDET_CAP_SMAC_HI then s.plainUnless o v s.cap.active id
  else
    s.plainUnless o v (decide (aDET_RPL_CTRL ≤ o) && decide (o ≤ aDET_RPL_POS) && s.sched.launched) fun s =>
      s.evt 18 aDET_EVENT 5

/-- A write of the register at `o` that its path may make. -/
def State.regWrite (s : State) (p : Path) (o : Nat) (v : Word) : State :=
  match blockOf o with
  | 1 => s.writeClk o v
  | 2 => s.writeTim o v
  | 3 => s.writeHif o v
  | 5 => s.writeCfg p o v
  | 6 => s.writeLog o v
  | 7 => s.writeMgt o v
  | 8 => s.writeLne o v
  | 9 => s.writePrt o v
  | 10 => s.writeRte p o v
  | 11 => s.writeBpm p o v
  | 12 => s.writeSch p o v
  | 13 => s.writeCel o v
  | 14 => s.writeCol p o v
  | 16 => s.writeStr p o v
  | 17 => s.writeMem p o v
  | 18 => s.writeDet p o v
  | _ => s.plainWrite o v

/-- The offset is that of a BPM_POOLk_LOWFREE. -/
def isLowFree (o : Nat) : Bool := blockOf o == 11 && decide (0x100 ≤ o % 0x4000) && decide (o % 0x4000 < 0x200) && o % 0x40 == 0x14

/-- The offset is that of an SCH_Q_DEPTH_MAX. -/
def isDepthMax (o : Nat) : Bool :=
  decide (0x330000 ≤ o) && decide (o < 0x3D8000) && (let r := (o - 0x330000) % 0x2000
    decide (0x100 ≤ r) && decide (r < 0x1100) && (let t := (r - 0x100) % 0x200
      decide (0x100 ≤ t) && decide (t < 0x140) && t % 8 == 4))

/-- The register at `o` has an RW field that hardware also updates (R725). -/
def hwShared (o : Nat) : Bool :=
  isLowFree o || isDepthMax o || o == aPWR_PEAK || o == aTIM_STEP || o == aTIM_PPS_SEC
    || (decide (aCFG_FL_DATA 0 ≤ o) && decide (o ≤ aCFG_FL_DATA 63))

/-- A written LOWFREE, DEPTH_MAX or PEAK compared with the level, as the register shows from the next cycle on (R725).
DEDUCED: log 114. -/
def State.compare (s : State) (o : Nat) : State :=
  if o = aPWR_PEAK then s.peak
  else if isLowFree o then s.lowFree ((o - 0x310000) / 0x4000) ((o % 0x4000 - 0x100) / 0x40)
  else if isDepthMax o then
    let r := (o - 0x330000) % 0x2000 - 0x100
    s.depthMax (8 * ((o - 0x330000) / 0x2000) + r / 0x200) ((r % 0x200 - 0x100) / 8)
  else s

/-- The register an access names takes the write: unmapped offsets and those of absent dies ignore it (R19, R721); what hardware
does to it in the same cycle gives way (R725). -/
def State.writeAt (s : State) (p : Path) (off : Nat) (v : Word) : State :=
  match regKey p off with
  | none => s
  | some o =>
    if s.mayWrite p o && (regRow o).isSome then
      s.oneCycle fun t => if hwShared o then ((t.regWrite p o v).noteSw o (t.reg o)).compare o else t.regWrite p o v
    else s

/-- A path's place in the order of R673: the PF, SMBus, the console, the TAP. -/
def pathRank : Path → Nat
  | .fn _ => 0
  | .smbus => 1
  | .console => 2
  | .tap => 3

/-- A later-ranking management path has written the register in the same cycle: one of SCLK for a write of the PF, of the arbiter's
200 MHz for another (R673). DESIGN CHOICE: log 114. -/
def State.outranked (s : State) (p : Path) (o : Nat) : Bool :=
  let w := s.mgt.lastWr
  let n := if pathRank p = 0 then 32 else 40
  s.tim.lock && w.1 == o && decide (pathRank p < w.2.2) && decide (w.2.1 / n = s.tim.clk / n)

/-- A write on a path that may make it: both of two writes to one register in one cycle are applied, in the order of R673, so that the
RW fields of the later one remain. -/
def State.pathWrite (s : State) (p : Path) (off : Nat) (v : Word) : State :=
  match regKey p off with
  | none => s
  | some o =>
    if !(s.mayWrite p o && (regRow o).isSome) then s
    else if s.outranked p o then
      let t := s.writeAt p off v
      match regRow o with
      | some r => t.setReg o ((t.reg o &&& ~~~BitVec.ofNat 32 r.rw) ||| (s.reg o &&& BitVec.ofNat 32 r.rw))
      | none => t
    else if pathRank p = 0 then s.writeAt p off v
    else ({ s with mgt := { s.mgt with lastWr := (o, s.tim.clk, pathRank p) } }).writeAt p off v

/-- REGISTER_WRITE (R722, R723): BAR0 (0) or a function's MSI-X BAR (4); a dword with byte enables missing is ignored. -/
def execRegisterWrite (p : Path) (bar off : Nat) (v : Word) (be : Nat) (s : State) : Host.Outcome State Fault Refusal :=
  .next (
    if be ≠ 15 then s
    else if bar = 0 then s.pathWrite p off v
    else match p with
      | .fn f => if bar = 4 && s.hostServed && decide (f < 64) && decide (off < 0x9000) && off % 4 == 0 then s.bar4Write f off v else s
      | _ => s)

/-- MGT_TRIP_REC_CLEAR (R692): a write of MGT_TRIP_REC. -/
def execMgtTripRecClear (path : Path) (v : Word) (s : State) : Host.Outcome State Fault Refusal :=
  .next (if s.mayWrite path aMGT_TRIP_REC then s.tripClear v else s)

end Sys2Proof.Machine
end

