-- ==== Sys2Proof/Machine/Boot.lean ====
section
/-! DEFINITION. The CONFIG stage and READY (R630, R631, R648). -/

namespace Sys2Proof.Machine

/-- The CFG_IGNORED bit that a write at `o` may set: its register and its number. DEDUCED: log 24. -/
def ignoredBit (o : Nat) : Option (Nat × Nat) :=
  match blockOf o with
  | 2 => some (aTIM_EVENT, 7)
  | 3 => some (aHIF_FN_EVENT 0, 4)
  | 7 => some (aMGT_EVENT, 6)
  | 9 => some (aPRT_EVENT ((o - 0x200000) / 0x1000), 4)
  | 10 => some (aRTE_EVENT, 1)
  | 11 => some (aBPM_EVENT ((o - 0x310000) / 0x4000), 0)
  | 12 => some (aSCH_EVENT, 0)
  | _ => none

/-- A CONFIG write that was ignored is counted (R631). -/
def State.configIgnored (s : State) : State :=
  ({ s with boot := { s.boot with ignored := min 0xFFFF (s.boot.ignored + 1) } }).cfgEvt 3

/-- One CONFIG entry written: it was ignored where its block's CFG_IGNORED bit, taken as 0 before, is then 1.
DEDUCED: log 24. -/
def State.configWrite (s : State) (e : Nat × Nat) : State :=
  let v := BitVec.ofNat 32 e.2
  match ignoredBit e.1 with
  | none => s.writeAt (.fn 0) e.1 v
  | some (ev, b) =>
    let was := s.bit ev b
    let t := (s.setFld ev b b 0).writeAt (.fn 0) e.1 v
    if t.bit ev b then t.configIgnored else if was then t.setFld ev b b 1 else t

/-- CONFIG_APPLIED (R618, R631, R648): the entries are written in order, each taking effect before the next, so that a table's BUSY
has fallen when the next one is written; the stage becomes READY and the RESET entry is offered.
DEDUCED: log 24. -/
def execConfigApplied (s : State) : Host.Outcome State Fault Refusal :=
  .next (
    if s.boot.stage == 4 then
      let s := { s with boot := { s.boot with stage := 5 } }
      (s.boot.config.foldl (fun s e => { s.configWrite e with busy := [] }) s).logReset
    else s)

end Sys2Proof.Machine
end

