-- ==== Sys2Proof/Machine/Mgmt.lean ====
section
/-! DEFINITION. The management port: UART console, console relay, SMBus target, JTAG and sensors (R671–R693). Nothing here works
without VSB. -/

namespace Sys2Proof.Machine

/-- What the management island does while VSB is in tolerance. -/
def State.island (s : State) (f : State → State) : State := if s.boot.vsb then f s else s

/-! ## Lines (R678, R679) -/

/-- CR or LF ends a line. -/
def isEol (b : Byte) : Bool := b == 0x0D || b == 0x0A

/-- The line has its end. -/
def lineDone (l : List Byte) : Bool := match l.getLast? with | some b => isEol b | none => false

/-- The words of a line: runs of characters other than spaces and line ends. -/
def wordsOfLine : List Byte → List Byte → List (List Byte)
  | [], w => if w.isEmpty then [] else [w]
  | b :: l, w =>
    if b == 0x20 || isEol b then (if w.isEmpty then wordsOfLine l [] else w :: wordsOfLine l [])
    else wordsOfLine l (w ++ [b])

/-- The text of an ASCII word. -/
def txt (t : String) : List Byte := t.toList.map fun c => BitVec.ofNat 8 c.toNat

/-- The console's commands (R679). -/
def conWords : List (List Byte) :=
  [txt "rd", txt "wr", txt "sensors", txt "log", txt "drain", txt "approve", txt "wreset", txt "relay"]

/-- The value of a hexadecimal digit. -/
def hexVal (b : Byte) : Option Nat :=
  let n := b.toNat
  if 0x30 ≤ n ∧ n ≤ 0x39 then some (n - 0x30) else if 0x41 ≤ n ∧ n ≤ 0x46 then some (n - 0x37)
  else if 0x61 ≤ n ∧ n ≤ 0x66 then some (n - 0x57) else none

/-- The digits of a number: an optional 0x and underscores are left out (R679). -/
def hexDigits (w : List Byte) : Option (List Nat) :=
  let w := if w.take 2 = txt "0x" ∨ w.take 2 = txt "0X" then w.drop 2 else w
  let ds := (w.filter fun b => b != 0x5F).map hexVal
  if ds.isEmpty || ds.any fun d => d.isNone then none else some (ds.map fun d => d.getD 0)

/-- A number of at most 32 bits. -/
def hexNum (w : List Byte) : Option Nat :=
  match hexDigits w with
  | some ds => let n := ds.foldl (fun a d => 16 * a + d) 0; if n < 2 ^ 32 then some n else none
  | none => none

/-- Bytes from pairs of digits. -/
def pairBytes : List Nat → List Byte
  | a :: b :: l => BitVec.ofNat 8 (16 * a + b) :: pairBytes l
  | _ => []

/-- The line a session types. -/
def State.conLine (s : State) (relayed : Bool) : List Byte := if relayed then s.mgt.relayLine else s.mgt.line

/-- The line a session types replaced. -/
def State.setLine (s : State) (relayed : Bool) (l : List Byte) : State :=
  { s with mgt := if relayed then { s.mgt with relayLine := l } else { s.mgt with line := l } }

/-- A line has no more than 255 characters; one that begins with `approve` has room for its 320 digits (R679).
DESIGN CHOICE: log 90. -/
def lineFits (w l : List Byte) : Bool := decide (l.length ≤ 255) || w == txt "approve"

/-- One character joins the line being typed (R679): a finished line that is no command is answered SYNTAX, an empty one not.
DESIGN CHOICE: log 90. -/
def State.typed (s : State) (relayed : Bool) (b : Byte) : State :=
  let l := s.conLine relayed
  if !isEol b then s.setLine relayed (l ++ [b])
  else
    match wordsOfLine l [] with
    | [] => s.setLine relayed []
    | w :: _ =>
      if lineFits w l && conWords.contains w then s.setLine relayed (l ++ [b])
      else (s.setLine relayed []).sayErr relayed 1

/-- Several characters typed in a relayed session: what follows a finished line waits with it. -/
def State.typedAll (s : State) : List Byte → State
  | [] => s
  | b :: l => if lineDone s.mgt.relayLine then s else (s.typed true b).typedAll l

/-- A character typed while a session to another switch is open travels there; the line `~.` closes the session (R685). -/
def State.relayType (s : State) (lane : Nat) (b : Byte) : State :=
  let s := s.relayPut lane 0x81 [b]
  if !isEol b then s.setLine false (s.mgt.line ++ [b])
  else if s.mgt.line = txt "~." then
    ({ s with mgt := { s.mgt with line := [], relay := none } }).relayPut lane 0x82 []
  else s.setLine false []

/-- Characters that wait are typed until a command's line is finished; those behind a `relay` travel in its session (R685). -/
def State.refill (s : State) : Nat → State
  | 0 => s
  | n + 1 =>
    if lineDone s.mgt.line then s
    else match s.mgt.fifo with
      | [] => s
      | b :: f =>
        let s := { s with mgt := { s.mgt with fifo := f } }
        (match s.mgt.relay with | some (lane, true) => s.relayType lane b | _ => s.typed false b).refill n

/-- Bit `n` of a frame: the majority of its samples 7, 8 and 9 (R675). -/
def uartBit (levels : List Bool) (n : Nat) : Bool :=
  let at_ := fun k => levels.getD (16 * n + k) true
  (at_ 7 && at_ 8) || (at_ 7 && at_ 9) || (at_ 8 && at_ 9)

/-- The frame that levels at 16 ticks a bit spell (R674, R675): none where the start bit reads 1; else the byte, least significant bit
first, and the stop bit. -/
def uartFrame (levels : List Bool) : Option (Byte × Bool) :=
  if uartBit levels 0 then none
  else some (BitVec.ofNat 8 (((List.range 8).map fun i => b2n (uartBit levels (i + 1)) * 2 ^ i).foldl (· + ·) 0), uartBit levels 9)

/-- A byte received with its stop bit (R678, R685). -/
def State.uartByte (s : State) (b : Byte) : State :=
  match s.mgt.relay with
  | some (lane, true) => s.relayType lane b
  | _ =>
    if !lineDone s.mgt.line then s.typed false b
    else if s.mgt.fifo.length < 64 then { s with mgt := { s.mgt with fifo := s.mgt.fifo ++ [b] } }
    else (s.bump aMGT_UART_OVERRUN 1).mgtEvt 0

/-- UART_BYTE_RX (R675, R676, R678): the receiver discards an edge whose start bit reads 1, and a byte whose stop bit reads 0. -/
def execUartByteRx (levels : List Bool) (s : State) : Host.Outcome State Fault Refusal :=
  .next (s.island fun s =>
    match uartFrame levels with
    | none => s
    | some (_, false) => (s.bump aMGT_UART_FRAMING 1).mgtEvt 0
    | some (b, true) => s.uartByte b)

/-- The characters up to the last line end. -/
def wholeLines (l : List Byte) : List Byte := (l.reverse.dropWhile fun b => !isEol b).reverse

/-- UART_BREAK (R677): the line being typed is discarded; behind a finished line it stands in the FIFO. -/
def execUartBreak (s : State) : Host.Outcome State Fault Refusal :=
  .next (s.island fun s =>
    let m := s.mgt
    let m := if lineDone m.line then { m with fifo := wholeLines m.fifo } else { m with line := [] }
    (({ s with mgt := m }).bump aMGT_UART_BREAKS 1).mgtEvt 0)

/-! ## Console commands (R679, R686) -/

/-- A command's line is taken where it waits in its session: `f` answers its arguments, and typing goes on. -/
def State.conRun (s : State) (relayed : Bool) (word : List Byte) (f : State → List (List Byte) → State) : State :=
  let l := s.conLine relayed
  let open_ := !relayed || (match s.mgt.relay with | some (_, false) => true | _ => false)
  match wordsOfLine l [] with
  | w :: args =>
    if s.boot.vsb && open_ && lineDone l && w == word then (f (s.setLine relayed []) args).refill 64 else s
  | [] => s

/-- The answer to an access that is not served: 2 DENIED, 3 UNPOWERED. -/
def accessCode : Access → Nat
  | .denied => 2
  | .unpowered => 3
  | _ => 0

/-- An access of the console is served: `f` goes on; otherwise the answer is its code. -/
def State.conAccess (s : State) (relayed : Bool) (o : Nat) (write : Bool) (f : State → State) : State :=
  let c := accessCode (s.access .console o write)
  if c = 0 then f s else s.sayErr relayed c

/-- CONSOLE_RD. -/
def execConsoleRd (relayed : Bool) (s : State) : Host.Outcome State Fault Refusal :=
  .next (s.conRun relayed (txt "rd") fun s args =>
    match args.map hexNum with
    | [some o] => s.conAccess relayed o false fun s => let r := s.read .console o; r.2.sayOk relayed [(8, r.1.toNat)]
    | _ => s.sayErr relayed 1)

/-- CONSOLE_WR: a relayed session only reads (R686). -/
def execConsoleWr (relayed : Bool) (s : State) : Host.Outcome State Fault Refusal :=
  .next (s.conRun relayed (txt "wr") fun s args =>
    if relayed then s.sayErr relayed 2
    else match args.map hexNum with
      | [some o, some v] => s.conAccess relayed o true fun s => (s.pathWrite .console o (BitVec.ofNat 32 v)).sayOk relayed []
      | _ => s.sayErr relayed 1)

/-- The registers of the sensors: 16 temperatures, then 6 voltages. -/
def sensorReg (i : Nat) : Nat := if i < 16 then aMGT_TEMP i else aMGT_VOLT (i - 16)

/-- CONSOLE_SENSORS. -/
def execConsoleSensors (relayed : Bool) (s : State) : Host.Outcome State Fault Refusal :=
  .next (s.conRun relayed (txt "sensors") fun s args =>
    if args.isEmpty then s.sayOk relayed ((List.range 22).map fun i => (4, s.fld (sensorReg i) 15 0)) else s.sayErr relayed 1)

/-- CONSOLE_LOG (R667). -/
def execConsoleLog (relayed : Bool) (s : State) : Host.Outcome State Fault Refusal :=
  .next (s.conRun relayed (txt "log") fun s args =>
    match args.map hexNum with
    | [some q] => s.conAccess relayed aLOG_VIEW false fun s =>
        let bs := match s.ringEntry q with | some e => entryBytes e | none => List.replicate 32 0
        s.sayOk relayed ((List.range 8).map fun i => (8, leNat ((bs.drop (4 * i)).take 4)))
    | _ => s.sayErr relayed 1)

/-- CONSOLE_DRAIN (R666). -/
def execConsoleDrain (relayed : Bool) (s : State) : Host.Outcome State Fault Refusal :=
  .next (s.conRun relayed (txt "drain") fun s args =>
    if relayed then s.sayErr relayed 2
    else match args.map hexNum with
      | [some n] => s.conAccess relayed aLOG_DRAIN_ADV true fun s => (s.drainAdv (n % 2 ^ 14)).sayOk relayed []
      | _ => s.sayErr relayed 1)

/-- CONSOLE_APPROVE (R680): answered when the approval completes or is refused. -/
def execConsoleApprove (relayed : Bool) (s : State) : Host.Outcome State Fault Refusal :=
  .next (s.conRun relayed (txt "approve") fun s args =>
    if relayed then s.sayErr relayed 2
    else match args.map hexDigits with
      | [some ds] =>
        if ds.length ≠ 320 then s.sayErr relayed 1
        else if s.boot.stage = 0 then s.sayErr relayed 3
        else if s.mgt.approving then s.sayErr relayed 4
        else s.mgtApprove (pairBytes ds) .console
      | _ => s.sayErr relayed 1)

/-- CONSOLE_WRESET (R643): a warm reset that is ignored sets WARM_IGNORED. -/
def execConsoleWreset (relayed : Bool) (s : State) : Host.Outcome State Fault Refusal :=
  .next (s.conRun relayed (txt "wreset") fun s args =>
    if relayed then s.sayErr relayed 2
    else if args.isEmpty then (s.sayOk relayed []).warmReset 5 else s.sayErr relayed 1)

/-- CONSOLE_RELAY (R685, R686): the lane must be up; for one that is not, the spec names no code.
DEDUCED: log 21. DESIGN CHOICE: log 91. -/
def execConsoleRelay (relayed : Bool) (s : State) : Host.Outcome State Fault Refusal :=
  .next (s.conRun relayed (txt "relay") fun s args =>
    match args.map hexNum with
    | [some n] =>
      if 16 ≤ n then s.sayErr relayed 1
      else if s.mgt.relay.isSome then s.sayErr relayed 4
      else if !(s.lane (stcIdx n)).up then let f := s.freeWord; f.2.sayErr relayed (f.1.toNat % 4 + 1)
      else (({ s with mgt := { s.mgt with relay := some (n, true) } }).relayPut n 0x80 []).sayOk relayed []
    | _ => s.sayErr relayed 1)

/-! ## Relay frames (R685, R686) -/

/-- A relay frame that the switch discards is counted. DESIGN CHOICE: log 91. -/
def State.relayDrop (s : State) : State := s.bump aMGT_RELAY_DROP 1

/-- A relay frame arrives on an STC lane that is up. DESIGN CHOICE: log 91. -/
def State.relayRx (s : State) (lane : Nat) (f : State → State) : State :=
  s.island fun s => if decide (lane < 16) && (s.lane (stcIdx lane)).up then f s else s

/-- CONSOLE_OPEN_RX. -/
def execConsoleOpenRx (lane : Nat) (s : State) : Host.Outcome State Fault Refusal :=
  .next (s.relayRx lane fun s =>
    if s.mgt.relay.isSome then s.relayDrop else { s with mgt := { s.mgt with relay := some (lane, false), relayLine := [] } })

/-- CONSOLE_DATA_RX: input of the session opened from afar, output of the one opened here. -/
def execConsoleDataRx (lane : Nat) (bytes : List Byte) (s : State) : Host.Outcome State Fault Refusal :=
  .next (s.relayRx lane fun s =>
    match s.mgt.relay with
    | some (l, here) =>
      if l ≠ lane then s.relayDrop else if here then s.emit (.uart bytes) else s.typedAll bytes
    | none => s.relayDrop)

/-- CONSOLE_CLOSE_RX. -/
def execConsoleCloseRx (lane : Nat) (s : State) : Host.Outcome State Fault Refusal :=
  .next (s.relayRx lane fun s => s.relayEnd lane)

/-! ## SMBus (R681–R684) -/

/-- What an SMBus read returns. -/
def State.smbSay (s : State) (bs : List Byte) : State := s.emit (.smbus (some bs))

/-- A write command with its PEC (R683): none, good or bad. A bad one, or none where PEC_REQ asks for it, is NACKed. -/
def State.smbWrite (s : State) (pec : Option Bool) (f : State → State) : State :=
  s.island fun s =>
    let bad := match pec with | some ok => !ok | none => s.bit aMGT_SMB_CFG 2
    if bad then ((s.bump aMGT_SMB_PEC_ERR 1).mgtEvt 1).emit (.smbus none) else f s

/-- LAST_STATUS set. -/
def State.smbDone (s : State) (status : Nat) : State := { s with mgt := { s.mgt with smbStatus := status } }

/-- SMB_REG_READ: the status, then the value; a refused read's value is free. DEDUCED: log 21. -/
def execSmbRegRead (off : Nat) (s : State) : Host.Outcome State Fault Refusal :=
  .next (s.island fun s =>
    let c := accessCode (s.access .smbus off false)
    let r := if c = 0 then s.read .smbus off else s.freeWord
    r.2.smbSay (natLe 1 c ++ natLe 4 r.1.toNat))

/-- SMB_REG_WRITE. -/
def execSmbRegWrite (off : Nat) (v : Word) (pec : Option Bool) (s : State) : Host.Outcome State Fault Refusal :=
  .next (s.smbWrite pec fun s =>
    let c := accessCode (s.access .smbus off true)
    (if c = 0 then s.pathWrite .smbus off v else s).smbDone c)

/-- SMB_LAST_STATUS. -/
def execSmbLastStatus (s : State) : Host.Outcome State Fault Refusal :=
  .next (s.island fun s => s.smbSay (natLe 1 s.mgt.smbStatus))

/-- The hottest reading, in 0.125 °C. DEDUCED: log 92. -/
def State.hottest (s : State) : Int := (List.range 16).foldl (fun m i => max m (s.temp i)) (-32768)

/-- SMB_SUMMARY: with no reading yet the hottest one is free. DEDUCED: log 21. -/
def execSmbSummary (s : State) : Host.Outcome State Fault Refusal :=
  .next (s.island fun s =>
    let f := if s.hottest = -32768 then (s.freeWord.1.toNat % 256, s.freeWord.2) else (unsigned 8 (toUnits s.hottest 8), s)
    f.2.smbSay (natLe 2 (f.1 * 256 + b2n (s.bit aMGT_TRIP_REC 31) * 32 + b2n s.mgt.warn * 16 + b2n s.log.fatal * 8 + s.boot.stage)))

/-- SMB_SENSOR: of an index with no sensor the spec gives no value. DEDUCED: log 21. -/
def execSmbSensor (index : Nat) (s : State) : Host.Outcome State Fault Refusal :=
  .next (s.island fun s =>
    if index < 22 then s.smbSay (natLe 2 (s.fld (sensorReg index) 15 0))
    else let f := s.freeWord; f.2.smbSay (natLe 2 f.1.toNat))

/-- SMB_WRESET. -/
def execSmbWreset (pec : Option Bool) (s : State) : Host.Outcome State Fault Refusal :=
  .next (s.smbWrite pec fun s => (s.smbDone 0).warmReset 5)

/-- SMB_APPROVE (R680): a block of another length is NACKed. DEDUCED: log 92. -/
def execSmbApprove (blk : List Byte) (pec : Option Bool) (s : State) : Host.Outcome State Fault Refusal :=
  .next (s.smbWrite pec fun s =>
    if blk.length ≠ 160 then s.emit (.smbus none)
    else if s.boot.stage = 0 then s.smbDone 3
    else if s.mgt.approving then s.smbDone 4
    else s.mgtApprove blk Approver.smbus)

/-- The target's 7-bit address: 0x58 and the straps (R681). DEDUCED: log 92. -/
def smbAddr : Nat := 0x58 + Config.smbStraps.toNat

/-- SMB_ALERT_RESPONSE (R684): answered with the target's address, and SMBALERT_N is released. -/
def execSmbAlertResponse (s : State) : Host.Outcome State Fault Refusal :=
  .next (s.island fun s =>
    if s.alertLow then
      (({ s with mgt := { s.mgt with alertSeen := (s.reg aMGT_EVENT).toNat } }).smbSay (natLe 1 (2 * smbAddr))).alertPin true
    else s)

/-! ## JTAG (R687–R689) -/

/-- IDCODE. -/
def idcode : Nat := 0x14B08BC7

/-- The TAP's instruction register loaded. -/
def State.tap (s : State) (ir : Nat) : State := { s with mgt := { s.mgt with tapIr := ir } }

/-- Lanes leave mission control: their sub-ports and STC lanes go DOWN as for a signal that is lost, and so does the host link (R129,
R587, R649, R689). A sub-port in TRAINING, of which R129 says nothing, never locks, and goes DOWN by TRAIN_FAIL (R122, R130). -/
def State.lanesOut (s : State) : State :=
  let s := if s.hif.linkUp then ({ s with hif := { s.hif with linkUp := false } }).allReset (some 2) else s
  let s := (List.range 84).foldl (fun s p =>
    (List.range (subCount p (s.portMode p))).foldl (fun s k =>
      let st := (s.sub p k).state
      if s.hasPort p && decide (3 ≤ st) && decide (st ≤ 7) then s.down p k 1 else s) s) s
  (List.range 16).foldl (fun s n => if (s.lane (stcIdx n)).up then s.stcDown n 1 else s) s

/-- An instruction that drives pins takes effect, or BYPASS is selected in its place (R689). DEDUCED: log 89. -/
def State.driveTap (s : State) (ir : Nat) : State :=
  s.island fun s => if s.boot.pwrOk && !s.sched.launched then (s.tap ir).lanesOut else (s.tap 0xFF).mgtEvt 2

/-- TAP_RESET. -/
def execTapReset (s : State) : Host.Outcome State Fault Refusal := .next (s.island fun s => s.tap 0x02)
/-- JTAG_EXTEST. DEDUCED: log 89. -/
def execJtagExtest (s : State) : Host.Outcome State Fault Refusal := .next (s.driveTap 0x00)
/-- JTAG_SAMPLE_PRELOAD. -/
def execJtagSamplePreload (s : State) : Host.Outcome State Fault Refusal := .next (s.island fun s => s.tap 0x01)
/-- JTAG_IDCODE: the register is shifted out. -/
def execJtagIdcode (s : State) : Host.Outcome State Fault Refusal := .next (s.island fun s => (s.tap 0x02).emit (.tap idcode))
/-- JTAG_CLAMP. -/
def execJtagClamp (s : State) : Host.Outcome State Fault Refusal := .next (s.driveTap 0x03)
/-- JTAG_HIGHZ. -/
def execJtagHighz (s : State) : Host.Outcome State Fault Refusal := .next (s.driveTap 0x04)
/-- JTAG_EXTEST_PULSE. -/
def execJtagExtestPulse (s : State) : Host.Outcome State Fault Refusal := .next (s.driveTap 0x05)
/-- JTAG_EXTEST_TRAIN. -/
def execJtagExtestTrain (s : State) : Host.Outcome State Fault Refusal := .next (s.driveTap 0x06)

/-- JTAG_MGT_ACCESS (R671, R687): a refused read's value is free. DEDUCED: log 21. -/
def execJtagMgtAccess (write : Bool) (off : Nat) (v : Word) (s : State) : Host.Outcome State Fault Refusal :=
  .next (s.island fun s =>
    let s := s.tap 0x40
    let c := accessCode (s.access .tap off write)
    if write then (if c = 0 then s.pathWrite .tap off v else s)
    else
      let r := if c = 0 then s.read .tap off else s.freeWord
      r.2.emit (.tap (off % 2 ^ 32 * 2 ^ 32 + r.1.toNat)))

/-- JTAG_BYPASS. -/
def execJtagBypass (s : State) : Host.Outcome State Fault Refusal := .next (s.island fun s => s.tap 0xFF)

/-! ## Sensors (R690–R693) -/

/-- A THERMAL entry (R670, R691); while the rest of the K8 has no power there is no log to take it. DEDUCED: log 93. -/
def State.thermal (s : State) (sub sensor reading : Nat) : State :=
  if s.boot.stage = 0 then s else s.offer 0x13 sub dieH 0x80 sensor reading 0 0

/-- The die of a temperature sensor is placed (R690). DEDUCED: log 93. -/
def State.hasSensor (s : State) (i : Nat) : Bool :=
  if i < 8 then true else if i < 12 then s.hasPort (16 * (i - 8)) else if i < 14 then s.hasPort (64 + 8 * (i - 12)) else i == 14

/-- One temperature reading (R691, R692). DEDUCED: log 93. -/
def State.tempSample (s : State) (i : Nat) (x : Int) : State :=
  let r := if s.hasSensor i then unsigned 16 x else 0x8000
  let s := s.setFld (aMGT_TEMP i) 15 0 r
  let now := s.temp i
  let old := s.mgt.warned.contains i
  let warm := decide (s.warnAt ≤ now)
  let s := { s with mgt := { s.mgt with warned := (if warm then [i] else []) ++ s.mgt.warned.filter (· != i) } }
  let s := if warm && !old then (({ s with mgt := { s.mgt with warn := true } }).mgtEvt 3).thermal 1 i r else s
  let hot := s.mgt.hot.contains i
  let above := decide (s.tripAt ≤ now)
  let s := { s with mgt := { s.mgt with hot := (if above then [i] else []) ++ s.mgt.hot.filter (· != i) } }
  if above && hot && !s.bit aMGT_TRIP_REC 31 then
    let s := s.setReg aMGT_TRIP_REC (BitVec.ofNat 32 (2 ^ 31 + i * 2 ^ 16 + r))
    ((s.emit (.pin .thermTripN 0)).mgtEvt 5).thermal 2 i r
  else s

/-- The window of a voltage monitor (R691): its LOW and HIGH. -/
def State.voltWin (s : State) (j : Nat) : Nat × Nat := (s.fld (0x700C0 + 4 * j) 15 0, s.fld (0x700C0 + 4 * j) 31 16)

/-- One reading of voltage monitor 16 + `j` (R691). DEDUCED: log 93. -/
def State.voltSample (s : State) (j : Nat) (x : Int) : State :=
  let r := unsigned 16 x
  let s := s.setFld (aMGT_VOLT j) 15 0 r
  let w := s.voltWin j
  let out := decide (r < w.1) || decide (w.2 < r)
  let was := s.mgt.hot.contains (16 + j)
  let s := { s with mgt := { s.mgt with hot := (if out then [16 + j] else []) ++ s.mgt.hot.filter (· != 16 + j) } }
  if out && !was then (s.mgtEvt 4).thermal (if r < w.1 then 4 else 5) (16 + j) r else s

/-- The first sensor of a list of readings that stood at or above `lim`. -/
def firstHot (xs : List Int) (lim : Int) : Nat := ((List.range xs.length).find? fun i => decide (lim ≤ xs.getD i 0)).getD 0

/-- The warning ends where every sensor reads below WARN − 5 °C (R691); the entry names the sensor that kept it up.
DEDUCED: log 93. -/
def State.warnEnd (s : State) (before : List Int) : State :=
  if s.mgt.warn && s.allBelow (s.warnAt - 40) then
    let i := firstHot before (s.warnAt - 40)
    ({ s with mgt := { s.mgt with warn := false } }).thermal 3 i (s.fld (aMGT_TEMP i) 15 0)
  else s

/-- SENSOR_SAMPLE (R690): readings of the 16 temperature sensors (0.125 °C) and the 6 voltage monitors (0.5 mV). -/
def execSensorSample (temps volts : List Int) (s : State) : Host.Outcome State Fault Refusal :=
  .next (s.island fun s =>
    let before := (List.range 16).map s.temp
    let s := (List.range 16).foldl (fun s i => s.tempSample i (temps.getD i (-32768))) s
    let s := (List.range 6).foldl (fun s j => s.voltSample j (volts.getD j 0)) s
    s.warnEnd before)

end Sys2Proof.Machine
end

