-- ==== Sys2Proof/Machine/SPorts.lean ====
section
/-! DEFINITION. S-ports: frames received, pause and PFC (R115, R213, R214, R272–R277). -/

namespace Sys2Proof.Machine

/-- How an S-port takes a frame (R115, R272). -/
inductive SFrame where
  | fcs | short | long | data | pause | pfc | control
  deriving DecidableEq, Repr

/-- The class of a frame of `bs` (without its FCS) on S-port `i` in its MODE: a MAC Control frame has EtherType 0x8808, and
one that is acted on has the reserved multicast address and the opcode of the MODE. DEDUCED: log 78. -/
def State.frameClass (s : State) (i : Nat) (bs : List Byte) (fcsOk : Bool) : SFrame :=
  let mode := s.fld (aSCH_PAUSE_CTRL (80 + i)) 1 0
  let len := bs.length + 4
  if !fcsOk then .fcs
  else if len < 64 then .short
  else if s.fld (aPRT_S_MAXFRAME (80 + i)) 13 0 < len then .long
  else if beNat ((bs.drop 12).take 2) ≠ 0x8808 then .data
  else
    let op := beNat ((bs.drop 14).take 2)
    if beNat (bs.take 6) ≠ 0x0180C2000001 then .control
    else if mode = 1 ∧ op = 0x0001 then .pause
    else if mode = 2 ∧ op = 0x0101 then .pfc
    else .control

/-- The frame arrives on an S-port that is UP: it is counted, and `act` takes one of the class `want`. DEDUCED: log 78. -/
def State.sRx (s : State) (i : Nat) (bs : List Byte) (fcsOk : Bool) (arrival : Nat) (want : List SFrame)
    (act : State → SFrame → State) : State :=
  let c := s.frameClass i bs fcsOk
  if decide (i < 4) && s.hasPort (80 + i) && s.isUp (80 + i) 0 && want.contains c then
    let s := (s.advTo arrival).endDamaged
    match c with
    | .fcs => s.bump (aPRT_S_RX_FCS i) 1
    | .short => s.bump (aPRT_S_RX_SHORT i) 1
    | .long => s.bump (aPRT_S_RX_LONG i) 1
    | c => act (s.bump64 (aPRT_S_RX_OK_LO i) 1) c
  else s

/-- A data frame policed and stored (R211, R213, R214, R229, R269): the host die's side has yet to read it.
DEDUCED: log 78. -/
def State.sStore (s : State) (i : Nat) (bs : List Byte) : State :=
  let port := 80 + i
  let e := 8 * port
  let pcp := framePcp bs
  match s.police e pcp (bs.length + 4 + s.fld (aSCH_PORT_CFG port) 5 0) with
  | (false, _, s) => s
  | (true, _, s) =>
    let (die, a) := allocPort port
    let pav := (s.portPav port).getD 0
    match s.alloc die a (8 * pav + pcp) ((bs.length + 4 + 63) / 64 + 1) with
    | (none, s) => s
    | (some (k, hs), s) =>
      let h : Held :=
        { id := s.rte.nextId, pkt := linkPkt 0 false 0 [], eth := bs, ingress := e, die := die, pool := k, handles := hs,
          owner := 8 * pav + pcp, vcIn := pcp, born := s.tim.clk, endAt := s.tim.clk, rate := 400, ready := 0, damaged := false,
          cause := 0, hop := .unit }
      let s := { s with rte := { s.rte with nextId := s.rte.nextId + 1, units := s.rte.units ++ [h] } }
      s.pauseCheck i pcp

/-- S_FRAME_RX (R115): an Ethernet frame that is no MAC Control frame, given without its FCS. -/
def execSFrameRx (i : Nat) (bs : List Byte) (fcsOk : Bool) (arrival : Nat) (s : State) : Host.Outcome State Fault Refusal :=
  .next (s.sRx i bs fcsOk arrival [.fcs, .short, .long, .data] fun s _ => s.sStore i bs)

/-- The timers of the priorities `ps` set to `t i` quanta, or ended (R274), at the next PCLK cycle, which time moves on to (R273). -/
def State.setTimers (s : State) (i : Nat) (ps : List Nat) (t : Nat → Nat) : State :=
  let s := s.nextPclk
  let start := 25 * s.tim.clk
  let x := s.pause i
  let ends := ps.foldl (fun es p => es.set p (if t p = 0 then 0 else start + 256 * t p)) x.ends
  (s.setPause i { x with ends := ends }).holdSettle i

/-- PAUSE_RX (R273): the whole link, in MODE 1. DEDUCED: log 78. -/
def execPauseRx (i : Nat) (bs : List Byte) (fcsOk : Bool) (arrival : Nat) (s : State) : Host.Outcome State Fault Refusal :=
  .next (s.sRx i bs fcsOk arrival [.pause] fun s _ =>
    let t := beNat ((bs.drop 16).take 2)
    ((s.bump (aPAUSE_RX_FRAMES i) 1).evt 12 aSCH_EVENT 3).setTimers i (List.range 8) fun _ => t)

/-- PFC_RX (R272): the priorities whose class-enable bit and PFC_PRI bit are 1, in MODE 2. -/
def execPfcRx (i : Nat) (bs : List Byte) (fcsOk : Bool) (arrival : Nat) (s : State) : Host.Outcome State Fault Refusal :=
  .next (s.sRx i bs fcsOk arrival [.pfc] fun s _ =>
    let en := beNat ((bs.drop 16).take 2) &&& s.fld (aSCH_PAUSE_CTRL (80 + i)) 15 8
    ((s.bump (aPFC_RX_FRAMES i) 1).evt 12 aSCH_EVENT 3).setTimers i ((List.range 8).filter fun p => bitOf en p)
      fun p => beNat ((bs.drop (18 + 2 * p)).take 2))

/-- MAC_CONTROL_IGNORED (R272). -/
def execMacControlIgnored (i : Nat) (bs : List Byte) (fcsOk : Bool) (arrival : Nat) (s : State) :
    Host.Outcome State Fault Refusal :=
  .next (s.sRx i bs fcsOk arrival [.control] fun s _ => s.bump (aCTRL_IGNORED i) 1)

/-- PAUSE_TIMER_EXPIRE (R273): the timer of priority `p` reaches zero, and with it every timer that ends no later. -/
def execPauseTimerExpire (i p : Nat) (s : State) : Host.Outcome State Fault Refusal :=
  .next (
    let t := (s.pause i).ends.getD p 0
    if decide (i < 4) && decide (p < 8) && decide (t ≠ 0) then
      let s := s.advTo (s.tim.now + ((t + 24) / 25 - s.tim.clk))
      let x := s.pause i
      let s := s.holdSettle i
      s.setPause i { s.pause i with ends := x.ends.map fun e => if e ≤ 25 * s.tim.clk then 0 else e }
    else s)

/-- PAUSE_REFRESH (R276): the frame is repeated REFRESH_QUANTA after it was last sent, while the count is above XON: for a priority in
MODE 2, for the link in MODE 1, whose frame is that of `p` 0. -/
def execPauseRefresh (i p : Nat) (s : State) : Host.Outcome State Fault Refusal :=
  .next (
    let port := 80 + i
    let mode := s.fld (aSCH_PAUSE_CTRL port) 1 0
    if decide (i < 4) && decide (p < 8) && (mode == 2 || (mode == 1 && p == 0)) && bitOf (s.pause i).txXoff p && s.bit (aSCH_PAUSE_CTRL port) 2
        && decide (s.fld (aSCH_PAUSE_XON port) 19 0 < s.heldFrames i p) then
      let due := (s.pause i).txLast.getD p 0 + 256 * s.fld (aSCH_PAUSE_TIME port) 31 16
      let s := s.advTo (s.tim.now + ((due + 24) / 25 - s.tim.clk))
      s.sendPause i p (s.fld (aSCH_PAUSE_TIME port) 15 0)
    else s)

end Sys2Proof.Machine
end

