-- ==== Sys2Proof/Machine/Dispatch.lean ====
section
/-! DEFINITION. The dispatcher: each command of the table and its one meaning. -/

namespace Sys2Proof.Machine

/-- What a command does to everything but the queue. DESIGN CHOICE: log 8. DEDUCED: log 17. -/
def exec (i : Instr) (s : State) : Host.Outcome State Fault Refusal :=
  match i with
  | .powerOn => Sys2Proof.Machine.execPowerOn s
  | .coldResetAssert pwrOk rstN => Sys2Proof.Machine.execColdResetAssert pwrOk rstN s
  | .coldResetRelease refclk => Sys2Proof.Machine.execColdResetRelease refclk s
  | .rootPllLock => Sys2Proof.Machine.execRootPllLock s
  | .clocksTimeout => Sys2Proof.Machine.execClocksTimeout s
  | .fuseReadDone => Sys2Proof.Machine.execFuseReadDone s
  | .copySelected => Sys2Proof.Machine.execCopySelected s
  | .clearDone => Sys2Proof.Machine.execClearDone s
  | .configApplied => Sys2Proof.Machine.execConfigApplied s
  | .perstRelease flit rate width numVf => Sys2Proof.Machine.execPerstRelease flit rate width numVf s
  | .wrstAssert => Sys2Proof.Machine.execWrstAssert s
  | .cfgResetCold path v => Sys2Proof.Machine.execCfgResetCold path v s
  | .cfgResetWarm path v => Sys2Proof.Machine.execCfgResetWarm path v s
  | .watchdogFault => Sys2Proof.Machine.execWatchdogFault s
  | .warmResetDone => Sys2Proof.Machine.execWarmResetDone s
  | .flashRead path v => Sys2Proof.Machine.execFlashRead path v s
  | .flashProgram path v => Sys2Proof.Machine.execFlashProgram path v s
  | .flashErase path v => Sys2Proof.Machine.execFlashErase path v s
  | .flashOpDone => Sys2Proof.Machine.execFlashOpDone s
  | .fuseProg path v => Sys2Proof.Machine.execFuseProg path v s
  | .fuseProgDone => Sys2Proof.Machine.execFuseProgDone s
  | .vsbLoss => Sys2Proof.Machine.execVsbLoss s
  | .refclkLoss => Sys2Proof.Machine.execRefclkLoss s
  | .rootLockLoss => Sys2Proof.Machine.execRootLockLoss s
  | .pkgLinkRetry link sched => Sys2Proof.Machine.execPkgLinkRetry link sched s
  | .pkgLinkFail link pair => Sys2Proof.Machine.execPkgLinkFail link pair s
  | .slotStart fault0 fault1 => Sys2Proof.Machine.execSlotStart fault0 fault1 s
  | .forwardStep => Sys2Proof.Machine.execForwardStep s
  | .initialLoad => Sys2Proof.Machine.execInitialLoad s
  | .holdoverExpire => Sys2Proof.Machine.execHoldoverExpire s
  | .ppsOutRise => Sys2Proof.Machine.execPpsOutRise s
  | .ppsOutFall => Sys2Proof.Machine.execPpsOutFall s
  | .ppsInPulse arrival high => Sys2Proof.Machine.execPpsInPulse arrival high s
  | .ppsInMiss => Sys2Proof.Machine.execPpsInMiss s
  | .freqInLoss => Sys2Proof.Machine.execFreqInLoss s
  | .stcMarkRx lane syms arrival => Sys2Proof.Machine.execStcMarkRx lane syms arrival s
  | .stcMarkMiss lane => Sys2Proof.Machine.execStcMarkMiss lane s
  | .timePacketRx lport rx arrival => Sys2Proof.Machine.execTimePacketRx lport rx arrival s
  | .timePacketMiss lport => Sys2Proof.Machine.execTimePacketMiss lport s
  | .timNowLoRead path => Sys2Proof.Machine.execTimNowLoRead path s
  | .actionRefill die => Sys2Proof.Machine.execActionRefill die s
  | .cellLaunch die => Sys2Proof.Machine.execCellLaunch die s
  | .mxuLaunch die => Sys2Proof.Machine.execMxuLaunch die s
  | .streamSend die => Sys2Proof.Machine.execStreamSend die s
  | .streamDecode die => Sys2Proof.Machine.execStreamDecode die s
  | .streamUpdate die => Sys2Proof.Machine.execStreamUpdate die s
  | .prefetch die => Sys2Proof.Machine.execPrefetch die s
  | .colStart die => Sys2Proof.Machine.execColStart die s
  | .colLaunch die => Sys2Proof.Machine.execColLaunch die s
  | .colUp die => Sys2Proof.Machine.execColUp die s
  | .colDown die => Sys2Proof.Machine.execColDown die s
  | .portRest die => Sys2Proof.Machine.execPortRest die s
  | .prtCtrlWrite path port v => Sys2Proof.Machine.execPrtCtrlWrite path port v s
  | .pcsLock port sub => Sys2Proof.Machine.execPcsLock port sub s
  | .trainFail port sub => Sys2Proof.Machine.execTrainFail port sub s
  | .helloSend port sub => Sys2Proof.Machine.execHelloSend port sub s
  | .helloIdRx port sub arg => Sys2Proof.Machine.execHelloIdRx port sub arg s
  | .helloPortRx port sub arg => Sys2Proof.Machine.execHelloPortRx port sub arg s
  | .helloAckRx port sub => Sys2Proof.Machine.execHelloAckRx port sub s
  | .helloTimeout port sub => Sys2Proof.Machine.execHelloTimeout port sub s
  | .retryTimeout port sub => Sys2Proof.Machine.execRetryTimeout port sub s
  | .osUnknown port sub kind => Sys2Proof.Machine.execOsUnknown port sub kind s
  | .linkDown port sub cause lost => Sys2Proof.Machine.execLinkDown port sub cause lost s
  | .idleRestTimeout port sub => Sys2Proof.Machine.execIdleRestTimeout port sub s
  | .restReqRx port sub => Sys2Proof.Machine.execRestReqRx port sub s
  | .restAckRx port sub => Sys2Proof.Machine.execRestAckRx port sub s
  | .restNakRx port sub reason => Sys2Proof.Machine.execRestNakRx port sub reason s
  | .restCommitRx port sub arg => Sys2Proof.Machine.execRestCommitRx port sub arg s
  | .restAbortRx port sub => Sys2Proof.Machine.execRestAbortRx port sub s
  | .wakeRx port sub => Sys2Proof.Machine.execWakeRx port sub s
  | .restEntryDone port sub => Sys2Proof.Machine.execRestEntryDone port sub s
  | .restExitDone port sub => Sys2Proof.Machine.execRestExitDone port sub s
  | .restWindowExit port sub => Sys2Proof.Machine.execRestWindowExit port sub s
  | .timeWindowWake port sub => Sys2Proof.Machine.execTimeWindowWake port sub s
  | .rxSignalReturn port sub => Sys2Proof.Machine.execRxSignalReturn port sub s
  | .prtRestWake path port v => Sys2Proof.Machine.execPrtRestWake path port v s
  | .stcLaneUp lane => Sys2Proof.Machine.execStcLaneUp lane s
  | .stcLaneDown lane codeErrs dispErrs => Sys2Proof.Machine.execStcLaneDown lane codeErrs dispErrs s
  | .stcFrameTx lane type payload withdrawn => Sys2Proof.Machine.execStcFrameTx lane type payload withdrawn s
  | .stcFrameRx lane syms => Sys2Proof.Machine.execStcFrameRx lane syms s
  | .lneTestModeWrite path off v => Sys2Proof.Machine.execLneTestModeWrite path off v s
  | .lneInjectFire path lane v => Sys2Proof.Machine.execLneInjectFire path lane v s
  | .injectRateExpire lane => Sys2Proof.Machine.execInjectRateExpire lane s
  | .checkerLock lane bits => Sys2Proof.Machine.execCheckerLock lane bits s
  | .checkerLockLost lane bits => Sys2Proof.Machine.execCheckerLockLost lane bits s
  | .lnePatchkClear path lane v => Sys2Proof.Machine.execLnePatchkClear path lane v s
  | .routedPacketRx port sub rx arrival => Sys2Proof.Machine.execRoutedPacketRx port sub rx arrival s
  | .spraySelect id time => Sys2Proof.Machine.execSpraySelect id time s
  | .creditSend port sub time => Sys2Proof.Machine.execCreditSend port sub time s
  | .creditRx port sub rx => Sys2Proof.Machine.execCreditRx port sub rx s
  | .packetAged id => Sys2Proof.Machine.execPacketAged id s
  | .packetTxDone ref => Sys2Proof.Machine.execPacketTxDone ref s
  | .rteTblRead path v => Sys2Proof.Machine.execRteTblRead path v s
  | .rteTblWrite path v => Sys2Proof.Machine.execRteTblWrite path v s
  | .bpmEnableWrite path die v => Sys2Proof.Machine.execBpmEnableWrite path die v s
  | .bpmRingFillDone die => Sys2Proof.Machine.execBpmRingFillDone die s
  | .handleCacheRefill die aport pool bad => Sys2Proof.Machine.execHandleCacheRefill die aport pool bad s
  | .bpmOwnRead path die v => Sys2Proof.Machine.execBpmOwnRead path die v s
  | .bpmOwnWrite path die v => Sys2Proof.Machine.execBpmOwnWrite path die v s
  | .egressSelect egr time => Sys2Proof.Machine.execEgressSelect egr time s
  | .schedStage egr => Sys2Proof.Machine.execSchedStage egr s
  | .sFrameRx sport bytes fcsOk arrival => Sys2Proof.Machine.execSFrameRx sport bytes fcsOk arrival s
  | .pauseRx sport bytes fcsOk arrival => Sys2Proof.Machine.execPauseRx sport bytes fcsOk arrival s
  | .pfcRx sport bytes fcsOk arrival => Sys2Proof.Machine.execPfcRx sport bytes fcsOk arrival s
  | .macControlIgnored sport bytes fcsOk arrival => Sys2Proof.Machine.execMacControlIgnored sport bytes fcsOk arrival s
  | .pauseTimerExpire sport pri => Sys2Proof.Machine.execPauseTimerExpire sport pri s
  | .pauseRefresh sport pri => Sys2Proof.Machine.execPauseRefresh sport pri s
  | .schCalRead path v => Sys2Proof.Machine.execSchCalRead path v s
  | .schCalWrite path v => Sys2Proof.Machine.execSchCalWrite path v s
  | .schPolRead path v => Sys2Proof.Machine.execSchPolRead path v s
  | .schPolWrite path v => Sys2Proof.Machine.execSchPolWrite path v s
  | .triggerLaunch entry => Sys2Proof.Machine.execTriggerLaunch entry s
  | .queuedTriggerStart cluster => Sys2Proof.Machine.execQueuedTriggerStart cluster s
  | .gatewayDeposit cluster => Sys2Proof.Machine.execGatewayDeposit cluster s
  | .nop cell => Sys2Proof.Machine.execNop cell s
  | .sadd cell => Sys2Proof.Machine.execSadd cell s
  | .ssub cell => Sys2Proof.Machine.execSsub cell s
  | .smul cell => Sys2Proof.Machine.execSmul cell s
  | .sand cell => Sys2Proof.Machine.execSand cell s
  | .sor cell => Sys2Proof.Machine.execSor cell s
  | .sxor cell => Sys2Proof.Machine.execSxor cell s
  | .sshl cell => Sys2Proof.Machine.execSshl cell s
  | .sshr cell => Sys2Proof.Machine.execSshr cell s
  | .sli cell => Sys2Proof.Machine.execSli cell s
  | .saddi cell => Sys2Proof.Machine.execSaddi cell s
  | .sld cell => Sys2Proof.Machine.execSld cell s
  | .sst cell => Sys2Proof.Machine.execSst cell s
  | .vadd cell => Sys2Proof.Machine.execVadd cell s
  | .vsub cell => Sys2Proof.Machine.execVsub cell s
  | .vmul cell => Sys2Proof.Machine.execVmul cell s
  | .vfma cell => Sys2Proof.Machine.execVfma cell s
  | .vmax cell => Sys2Proof.Machine.execVmax cell s
  | .vmin cell => Sys2Proof.Machine.execVmin cell s
  | .vrcp cell => Sys2Proof.Machine.execVrcp cell s
  | .vdiv cell => Sys2Proof.Machine.execVdiv cell s
  | .vrsum cell => Sys2Proof.Machine.execVrsum cell s
  | .vtsum cell => Sys2Proof.Machine.execVtsum cell s
  | .vpwl cell => Sys2Proof.Machine.execVpwl cell s
  | .viadd cell => Sys2Proof.Machine.execViadd cell s
  | .vimul cell => Sys2Proof.Machine.execVimul cell s
  | .vand cell => Sys2Proof.Machine.execVand cell s
  | .vor cell => Sys2Proof.Machine.execVor cell s
  | .vxor cell => Sys2Proof.Machine.execVxor cell s
  | .vshl cell => Sys2Proof.Machine.execVshl cell s
  | .vshr cell => Sys2Proof.Machine.execVshr cell s
  | .vcmp cell => Sys2Proof.Machine.execVcmp cell s
  | .vsel cell => Sys2Proof.Machine.execVsel cell s
  | .vcvt cell => Sys2Proof.Machine.execVcvt cell s
  | .vbscale cell => Sys2Proof.Machine.execVbscale cell s
  | .vld cell => Sys2Proof.Machine.execVld cell s
  | .vst cell => Sys2Proof.Machine.execVst cell s
  | .vldx cell => Sys2Proof.Machine.execVldx cell s
  | .vstx cell => Sys2Proof.Machine.execVstx cell s
  | .vaddx cell => Sys2Proof.Machine.execVaddx cell s
  | .vhash cell => Sys2Proof.Machine.execVhash cell s
  | .send cell => Sys2Proof.Machine.execSend cell s
  | .recv cell => Sys2Proof.Machine.execRecv cell s
  | .gpostEmitSched cell => Sys2Proof.Machine.execGpostEmitSched cell s
  | .gpostEmitUnsched cell => Sys2Proof.Machine.execGpostEmitUnsched cell s
  | .gpostFetch cell => Sys2Proof.Machine.execGpostFetch cell s
  | .gpostPut cell => Sys2Proof.Machine.execGpostPut cell s
  | .loop cell => Sys2Proof.Machine.execLoop cell s
  | .waitc cell => Sys2Proof.Machine.execWaitc cell s
  | .ifill cell => Sys2Proof.Machine.execIfill cell s
  | .halt cell ok => Sys2Proof.Machine.execHalt cell ok s
  | .meshFlitArrive parity => Sys2Proof.Machine.execMeshFlitArrive parity s
  | .recvTimeout cell => Sys2Proof.Machine.execRecvTimeout cell s
  | .launchFaultHalt run ok => Sys2Proof.Machine.execLaunchFaultHalt run ok s
  | .groupCreate d g blk blkOk => Sys2Proof.Machine.execGroupCreate d g blk blkOk s
  | .groupDestroy d g => Sys2Proof.Machine.execGroupDestroy d g s
  | .contribUpRx src => Sys2Proof.Machine.execContribUpRx src s
  | .contribDownRx src => Sys2Proof.Machine.execContribDownRx src s
  | .failureNoticeRx src => Sys2Proof.Machine.execFailureNoticeRx src s
  | .segsumRx src => Sys2Proof.Machine.execSegsumRx src s
  | .colDeadline g => Sys2Proof.Machine.execColDeadline g s
  | .colDownDeadline g => Sys2Proof.Machine.execColDownDeadline g s
  | .colStageDone g ok => Sys2Proof.Machine.execColStageDone g ok s
  | .colLagClr path v => Sys2Proof.Machine.execColLagClr path v s
  | .mxuStart unit => Sys2Proof.Machine.execMxuStart unit s
  | .mxuComplete unit ok => Sys2Proof.Machine.execMxuComplete unit ok s
  | .mxuGatherStall unit cycles => Sys2Proof.Machine.execMxuGatherStall unit cycles s
  | .mxuEccFault unit row time => Sys2Proof.Machine.execMxuEccFault unit row time s
  | .streamOpen d stream atSlot step0 blk blkOk => Sys2Proof.Machine.execStreamOpen d stream atSlot step0 blk blkOk s
  | .streamPause d stream atSlot => Sys2Proof.Machine.execStreamPause d stream atSlot s
  | .streamResume d stream atSlot => Sys2Proof.Machine.execStreamResume d stream atSlot s
  | .streamReset d stream atSlot => Sys2Proof.Machine.execStreamReset d stream atSlot s
  | .streamClose d stream atSlot => Sys2Proof.Machine.execStreamClose d stream atSlot s
  | .streamCmdEffect stream ok => Sys2Proof.Machine.execStreamCmdEffect stream ok s
  | .residualRx src => Sys2Proof.Machine.execResidualRx src s
  | .rawChunkRx src => Sys2Proof.Machine.execRawChunkRx src s
  | .updateNextLaunch stream => Sys2Proof.Machine.execUpdateNextLaunch stream s
  | .vecLaunchFire stream => Sys2Proof.Machine.execVecLaunchFire stream s
  | .linkAckSend lport kind => Sys2Proof.Machine.execLinkAckSend lport kind s
  | .ackRx lport rx => Sys2Proof.Machine.execAckRx lport rx s
  | .nakRx lport rx bad => Sys2Proof.Machine.execNakRx lport rx bad s
  | .replayRx lport rx => Sys2Proof.Machine.execReplayRx lport rx s
  | .resetReqRx lport rx => Sys2Proof.Machine.execResetReqRx lport rx s
  | .replayTimeout lport bad => Sys2Proof.Machine.execReplayTimeout lport bad s
  | .prefetchDone die time => Sys2Proof.Machine.execPrefetchDone die time s
  | .emberPageInDone die => Sys2Proof.Machine.execEmberPageInDone die s
  | .emberWritebackDone die => Sys2Proof.Machine.execEmberWritebackDone die s
  | .gatherReqRx src => Sys2Proof.Machine.execGatherReqRx src s
  | .gatherServe engine time => Sys2Proof.Machine.execGatherServe engine time s
  | .memRgnRead path v => Sys2Proof.Machine.execMemRgnRead path v s
  | .memRgnWrite path v => Sys2Proof.Machine.execMemRgnWrite path v s
  | .memGtblRead path v => Sys2Proof.Machine.execMemGtblRead path v s
  | .memGtblWrite path v => Sys2Proof.Machine.execMemGtblWrite path v s
  | .memGwinRead path v => Sys2Proof.Machine.execMemGwinRead path v s
  | .memGwinWrite path v => Sys2Proof.Machine.execMemGwinWrite path v s
  | .gsvcEnWrite path v => Sys2Proof.Machine.execGsvcEnWrite path v s
  | .imageLoad d img => Sys2Proof.Machine.execImageLoad d img s
  | .schedLaunch d start iters => Sys2Proof.Machine.execSchedLaunch d start iters s
  | .schedStop d stopSlot => Sys2Proof.Machine.execSchedStop d stopSlot s
  | .schedStopDone => Sys2Proof.Machine.execSchedStopDone s
  | .schedItersEnd => Sys2Proof.Machine.execSchedItersEnd s
  | .captureStart d dest arm full egress trigger sport => Sys2Proof.Machine.execCaptureStart d dest arm full egress trigger sport s
  | .captureStop d => Sys2Proof.Machine.execCaptureStop d s
  | .captureTrigger path v => Sys2Proof.Machine.execCaptureTrigger path v s
  | .capturePostDone => Sys2Proof.Machine.execCapturePostDone s
  | .captureLossRecord => Sys2Proof.Machine.execCaptureLossRecord s
  | .captureStreamSend => Sys2Proof.Machine.execCaptureStreamSend s
  | .replayInject rec staged => Sys2Proof.Machine.execReplayInject rec staged s
  | .digestStart path v => Sys2Proof.Machine.execDigestStart path v s
  | .digestDone => Sys2Proof.Machine.execDigestDone s
  | .sqDoorbell fn page off width v => Sys2Proof.Machine.execSqDoorbell fn page off width v s
  | .cqDoorbell fn page off width v => Sys2Proof.Machine.execCqDoorbell fn page off width v s
  | .sqCtrlWrite fn idx v => Sys2Proof.Machine.execSqCtrlWrite fn idx v s
  | .cqCtrlWrite fn j v => Sys2Proof.Machine.execCqCtrlWrite fn j v s
  | .counterSnapshot d off len addr ok => Sys2Proof.Machine.execCounterSnapshot d off len addr ok s
  | .logDrain d limit addr ok => Sys2Proof.Machine.execLogDrain d limit addr ok s
  | .timeArm d arm => Sys2Proof.Machine.execTimeArm d arm s
  | .cmdCompletionResume fn cq ok => Sys2Proof.Machine.execCmdCompletionResume fn cq ok s
  | .overflowRecord fn cq => Sys2Proof.Machine.execOverflowRecord fn cq s
  | .irqModerationTimeout fn cq => Sys2Proof.Machine.execIrqModerationTimeout fn cq s
  | .hifOccClr path v => Sys2Proof.Machine.execHifOccClr path v s
  | .flr fn => Sys2Proof.Machine.execFlr fn s
  | .hostLinkDown => Sys2Proof.Machine.execHostLinkDown s
  | .hotReset => Sys2Proof.Machine.execHotReset s
  | .pavPropose d blk blkOk => Sys2Proof.Machine.execPavPropose d blk blkOk s
  | .pavApprove d blk blkOk => Sys2Proof.Machine.execPavApprove d blk blkOk s
  | .pavWindowExpire => Sys2Proof.Machine.execPavWindowExpire s
  | .pavScrubDone => Sys2Proof.Machine.execPavScrubDone s
  | .logWrite => Sys2Proof.Machine.execLogWrite s
  | .logDrainAdv path v => Sys2Proof.Machine.execLogDrainAdv path v s
  | .creditStall egr vc => Sys2Proof.Machine.execCreditStall egr vc s
  | .tableEccFault structure_ index die => Sys2Proof.Machine.execTableEccFault structure_ index die s
  | .uartByteRx levels => Sys2Proof.Machine.execUartByteRx levels s
  | .uartBreak => Sys2Proof.Machine.execUartBreak s
  | .consoleRd relayed => Sys2Proof.Machine.execConsoleRd relayed s
  | .consoleWr relayed => Sys2Proof.Machine.execConsoleWr relayed s
  | .consoleSensors relayed => Sys2Proof.Machine.execConsoleSensors relayed s
  | .consoleLog relayed => Sys2Proof.Machine.execConsoleLog relayed s
  | .consoleDrain relayed => Sys2Proof.Machine.execConsoleDrain relayed s
  | .consoleApprove relayed => Sys2Proof.Machine.execConsoleApprove relayed s
  | .consoleWreset relayed => Sys2Proof.Machine.execConsoleWreset relayed s
  | .consoleRelay relayed => Sys2Proof.Machine.execConsoleRelay relayed s
  | .consoleOpenRx lane => Sys2Proof.Machine.execConsoleOpenRx lane s
  | .consoleDataRx lane bytes => Sys2Proof.Machine.execConsoleDataRx lane bytes s
  | .consoleCloseRx lane => Sys2Proof.Machine.execConsoleCloseRx lane s
  | .smbRegRead off => Sys2Proof.Machine.execSmbRegRead off s
  | .smbRegWrite off v pec => Sys2Proof.Machine.execSmbRegWrite off v pec s
  | .smbLastStatus => Sys2Proof.Machine.execSmbLastStatus s
  | .smbSummary => Sys2Proof.Machine.execSmbSummary s
  | .smbSensor index => Sys2Proof.Machine.execSmbSensor index s
  | .smbWreset pec => Sys2Proof.Machine.execSmbWreset pec s
  | .smbApprove blk pec => Sys2Proof.Machine.execSmbApprove blk pec s
  | .smbAlertResponse => Sys2Proof.Machine.execSmbAlertResponse s
  | .tapReset => Sys2Proof.Machine.execTapReset s
  | .jtagExtest => Sys2Proof.Machine.execJtagExtest s
  | .jtagSamplePreload => Sys2Proof.Machine.execJtagSamplePreload s
  | .jtagIdcode => Sys2Proof.Machine.execJtagIdcode s
  | .jtagClamp => Sys2Proof.Machine.execJtagClamp s
  | .jtagHighz => Sys2Proof.Machine.execJtagHighz s
  | .jtagExtestPulse => Sys2Proof.Machine.execJtagExtestPulse s
  | .jtagExtestTrain => Sys2Proof.Machine.execJtagExtestTrain s
  | .jtagMgtAccess write off v => Sys2Proof.Machine.execJtagMgtAccess write off v s
  | .jtagBypass => Sys2Proof.Machine.execJtagBypass s
  | .sensorSample temps volts => Sys2Proof.Machine.execSensorSample temps volts s
  | .mgtTripRecClear path v => Sys2Proof.Machine.execMgtTripRecClear path v s
  | .latchedPairRead path off be => Sys2Proof.Machine.execLatchedPairRead path off be s
  | .registerWrite path bar off v be => Sys2Proof.Machine.execRegisterWrite path bar off v be s
  | .imageLoadDone ok => Sys2Proof.Machine.execImageLoadDone ok s
  | .captureStopDone => Sys2Proof.Machine.execCaptureStopDone s
  | .freqInRestored corr => Sys2Proof.Machine.execFreqInRestored corr s
  | .vidPinsValid => Sys2Proof.Machine.execVidPinsValid s
  | .illegalOpcode cell => Sys2Proof.Machine.execIllegalOpcode cell s
  | .opcodeRefused d => Sys2Proof.Machine.execOpcodeRefused d s
  | .strTblWrite path v => Sys2Proof.Machine.execStrTblWrite path v s
  | .strTblRead path v => Sys2Proof.Machine.execStrTblRead path v s

end Sys2Proof.Machine
end

