-- ==== Sys2Proof/Safety.lean ====
section
/-! DEFINITION. What every state of a run keeps. -/

namespace Sys2Proof.Machine

/-- The byte memories are in their canonical form: the tiers and HBM, and the flash. -/
def State.memoriesOk (s : State) : Prop := memWf s.mem = true ∧ memWf s.flash = true

/-- A set of fields of the state. `regs` covers `recent` too, `mem` the writes that have not ended, and `poison` the words with a
single-bit error. -/
structure Fields where
  regs : Bool := false
  latch : Bool := false
  busy : Bool := false
  fuse : Bool := false
  boot : Bool := false
  flash : Bool := false
  tim : Bool := false
  hif : Bool := false
  log : Bool := false
  pav : Bool := false
  subs : Bool := false
  lanes : Bool := false
  lrep : Bool := false
  streams : Bool := false
  strCmds : Bool := false
  pager0 : Bool := false
  pager1 : Bool := false
  rte : Bool := false
  sched : Bool := false
  cap : Bool := false
  rpl : Bool := false
  digest : Bool := false
  cells : Bool := false
  cel : Bool := false
  groups : Bool := false
  mxu : Bool := false
  tokens : Bool := false
  pf0 : Bool := false
  pf1 : Bool := false
  greq0 : Bool := false
  greq1 : Bool := false
  gheld : Bool := false
  gtbl : Bool := false
  gwin : Bool := false
  img : Bool := false
  loading : Bool := false
  mem : Bool := false
  poison : Bool := false
  regions : Bool := false
  mgt : Bool := false
  out : Bool := false
  free : Bool := false
  pending : Bool := false
  deriving DecidableEq, Repr

/-- The state with every field in `F` at its reset value: what is left is the rest of the state. -/
def State.mask (F : Fields) (s : State) : State := {
  regs := if F.regs then State.reset.regs else s.regs
  latch := if F.latch then State.reset.latch else s.latch
  busy := if F.busy then State.reset.busy else s.busy
  recent := if F.regs then State.reset.recent else s.recent
  fuse := if F.fuse then State.reset.fuse else s.fuse
  boot := if F.boot then State.reset.boot else s.boot
  flash := if F.flash then State.reset.flash else s.flash
  tim := if F.tim then State.reset.tim else s.tim
  hif := if F.hif then State.reset.hif else s.hif
  log := if F.log then State.reset.log else s.log
  pav := if F.pav then State.reset.pav else s.pav
  subs := if F.subs then State.reset.subs else s.subs
  lanes := if F.lanes then State.reset.lanes else s.lanes
  lrep := if F.lrep then State.reset.lrep else s.lrep
  streams := if F.streams then State.reset.streams else s.streams
  strCmds := if F.strCmds then State.reset.strCmds else s.strCmds
  pager0 := if F.pager0 then State.reset.pager0 else s.pager0
  pager1 := if F.pager1 then State.reset.pager1 else s.pager1
  rte := if F.rte then State.reset.rte else s.rte
  sched := if F.sched then State.reset.sched else s.sched
  cap := if F.cap then State.reset.cap else s.cap
  rpl := if F.rpl then State.reset.rpl else s.rpl
  digest := if F.digest then State.reset.digest else s.digest
  cells := if F.cells then State.reset.cells else s.cells
  cel := if F.cel then State.reset.cel else s.cel
  groups := if F.groups then State.reset.groups else s.groups
  mxu := if F.mxu then State.reset.mxu else s.mxu
  tokens := if F.tokens then State.reset.tokens else s.tokens
  pf0 := if F.pf0 then State.reset.pf0 else s.pf0
  pf1 := if F.pf1 then State.reset.pf1 else s.pf1
  greq0 := if F.greq0 then State.reset.greq0 else s.greq0
  greq1 := if F.greq1 then State.reset.greq1 else s.greq1
  gheld := if F.gheld then State.reset.gheld else s.gheld
  gtbl := if F.gtbl then State.reset.gtbl else s.gtbl
  gwin := if F.gwin then State.reset.gwin else s.gwin
  img := if F.img then State.reset.img else s.img
  loading := if F.loading then State.reset.loading else s.loading
  mem := if F.mem then State.reset.mem else s.mem
  writes := if F.mem then State.reset.writes else s.writes
  poison := if F.poison then State.reset.poison else s.poison
  soft := if F.poison then State.reset.soft else s.soft
  regions := if F.regions then State.reset.regions else s.regions
  mgt := if F.mgt then State.reset.mgt else s.mgt
  out := if F.out then State.reset.out else s.out
  free := if F.free then State.reset.free else s.free
  pending := if F.pending then State.reset.pending else s.pending }

/-- `t` differs from `s` in no field but those in `F`. -/
def Only (F : Fields) (s t : State) : Prop := t.mask F = s.mask F

/-! ## Answers -/

/-- What a command answers. -/
abbrev Outcome := Host.Outcome State Fault Refusal

/-- Command `c` in state `s` answers a next state, for which `P` holds. -/
def Answers (c : Instr) (s : State) (P : State → Prop) : Prop := ∃ t, exec c s = .next t ∧ P t

/-! ## Which registers an operation may write -/

/-- The registers outside `L` hold in `t` what they held in `s`. -/
def KeepsRegs (L : List Nat) (s t : State) : Prop := ∀ o, o ∉ L → t.reg o = s.reg o

/-- An EVENT register and its two occurrence counter words (R582, R584). -/
def evtRegs (ev : Nat) : List Nat := [ev, ev + 4, ev + 8]

/-- What setting an event bit of a block may write: its EVENT, its counters, and the PF's event registers (R582). -/
def blockRegs (ev : Nat) : List Nat := evtRegs ev ++ evtRegs (aHIF_FN_EVENT 0)

/-- What offering a log entry may write: with a full queue, LOG_DROPPED and the log's event (R662). -/
def logRegs : List Nat := aLOG_DROPPED :: blockRegs aLOG_EVENT

/-- What counting a discard of cause `c` may write: the cause's counter, the last-discard record and the event (R201). -/
def dropRegs (c : Nat) : List Nat :=
  [aRTE_DROP (c - 1), aRTE_LASTDROP0, aRTE_LASTDROP1, aRTE_LASTDROP2] ++ blockRegs aRTE_EVENT

/-! ## Cell instructions -/

/-- SX register `i` as a word: SX0 reads 0 (R312). -/
def Cell.sxw (x : Cell) (i : Nat) : Word := if i = 0 then 0 else x.sx.getD i 0

/-- Lane `j` of VX register `i` as a word. -/
def Cell.vxw (x : Cell) (i j : Nat) : Word := (x.vx.getD i []).getD j 0

/-- An SX register a program can write: SX0 ignores writes, SX1–SX3 and SX24–SX31 are read-only (R312). -/
def sxWritable (i : Nat) : Prop := 4 ≤ i ∧ i < 24

/-- A read-only SX register (R312). -/
def sxReadOnly (i : Nat) : Prop := (1 ≤ i ∧ i ≤ 3) ∨ 24 ≤ i

/-- A cell issues instruction `i` of launch `r` in cycle `c`: it runs `r`, which no fault ended more than 64 cycles ago; the
word at its program counter is readable and is `i`, with no reserved field; and `c` is its issue cycle where it reads `rs`
(R325, R328, R330, R350). -/
structure Issues (s : State) (cell : Nat) (i : Ins) (r : Run) (rs : List Nat) (c : Nat) : Prop where
  on   : s.running = true
  run  : (s.cell cell).run = some r.id
  ofId : s.runOf r.id = some r
  live : r.halted (s.cell cell).next = false ∧ r.halted c = false
  word : s.poisoned (ibufKey cell (8 * ((s.cell cell).pos % 256))) 8 = false
  ins  : s.fetch cell = i
  good : i.bad = false
  cyc  : (s.cell cell).issueAt cell i rs = c

/-- Time has come to cycle `c`, and the word at the cell's program counter was fetched: a single-bit error in it is corrected and
counted (R349). -/
def State.fetched (s : State) (cell c : Nat) : State := (s.toCyc c).correct (ibufKey cell (8 * ((s.cell cell).pos % 256))) 8

/-- The state in which an instruction that issues in cycle `c` has its effect: it has been fetched. -/
def State.issued (s : State) (cell c : Nat) (i : Ins) : State :=
  (s.fetched cell c).setCell cell { s.cell cell with last := tblSet (s.cell cell).last i.op c }

/-- The state after an instruction that issued in cycle `c`, made `x` of its cell and goes on to the next instruction. -/
def State.retired (s : State) (cell c : Nat) (i : Ins) (x : Cell) : State :=
  (s.fetched cell c).setCell cell ({ x with last := tblSet x.last i.op c }.goTo (x.pos + 1) (c + 1))

/-- The state after an instruction that issued in cycle `c`, made `x` of its cell and goes on to position `p`, its next issue no
earlier than cycle `n`. -/
def State.went (s : State) (cell c : Nat) (i : Ins) (x : Cell) (p n : Nat) : State :=
  (s.fetched cell c).setCell cell ({ x with last := tblSet x.last i.op c }.goTo p n)

/-- Launch `l` has started between `s` and `t`, fired in cycle `fire`: the run, and on every cell of its rectangle the identity,
the parameters, the program counter, the first issue cycle and the instruction lines (R312, R313, R318). -/
structure Started (s t : State) (l : Launch) (word7 fire : Nat) : Prop where
  run : ∃ r, t.cel.runs = s.cel.runs ++ [r] ∧ r.id = s.cel.nextRun ∧ r.l = l ∧ r.word7 = word7 ∧ r.cells = rectCells l ∧
    r.fault = none ∧ r.flags = 0 ∧ r.slot0 = fire / 1920 * 1920
  cells : ∀ k ∈ rectCells l, t.cell k =
    { s.cell k with
      sx := [0, BitVec.ofNat 32 (k / 256), BitVec.ofNat 32 (k % 256), BitVec.ofNat 32 l.tag] ++ ((s.cell k).sx.drop 4).take 20
        ++ (List.range 7).map (fun i => l.params.getD i 0) ++ [BitVec.ofNat 32 word7]
      run := some s.cel.nextRun, pos := 0, loops := [], avail := [], last := []
      next := turnFrom (fire + 24) (k / 256) + 32 * (l.nlines - 1) + 2 }
  rest : ∀ k, k ∉ rectCells l → t.cell k = s.cell k
  lines : s.memoriesOk → l.rowHi < 128 → l.colHi < 256 → l.nlines ≤ 32 → ∀ k ∈ rectCells l,
    t.rd (ibufKey k 0) (64 * l.nlines) = s.rd (istoreKey (cellCluster k) (64 * l.entry)) (64 * l.nlines)

/-- The state a command answers differs from `s` in one cell, which becomes `x`. -/
def OneCell (s t : State) (cell : Nat) (x : Cell) : Prop := t.cell cell = x ∧ ∀ j, j ≠ cell → t.cell j = s.cell j

/-- The commands that issue an instruction of a cell, but for RECV and RECV_TIMEOUT, which look at its input queue
first, and ILLEGAL_OPCODE. -/
def cellCommands (cell : Nat) : List Instr :=
  [.nop cell, .sli cell, .saddi cell, .sadd cell, .ssub cell, .smul cell, .sand cell, .sor cell, .sxor cell, .sshl cell,
   .sshr cell, .sld cell, .sst cell, .vadd cell, .vsub cell, .vmul cell, .vfma cell, .vmax cell, .vmin cell, .vrcp cell,
   .vdiv cell, .vrsum cell, .vtsum cell, .vpwl cell, .viadd cell, .vimul cell, .vand cell, .vor cell, .vxor cell, .vshl cell,
   .vshr cell, .vcmp cell, .vsel cell, .vcvt cell, .vbscale cell, .vld cell, .vst cell, .vldx cell, .vstx cell, .vaddx cell,
   .vhash cell, .send cell, .gpostEmitSched cell, .gpostEmitUnsched cell, .gpostFetch cell, .gpostPut cell, .loop cell,
   .waitc cell, .ifill cell, .halt cell true]

/-- The commands that issue an instruction of a cell by its opcode alone, but for RECV. -/
def opCommands (cell : Nat) : List (Nat × Instr) :=
  [(0x00, .nop cell), (0x01, .sadd cell), (0x02, .ssub cell), (0x03, .smul cell), (0x04, .sand cell), (0x05, .sor cell),
   (0x06, .sxor cell), (0x07, .sshl cell), (0x08, .sshr cell), (0x09, .sli cell), (0x0A, .saddi cell), (0x10, .sld cell),
   (0x11, .sst cell), (0x40, .vadd cell), (0x41, .vsub cell), (0x42, .vmul cell), (0x43, .vfma cell), (0x44, .vmax cell),
   (0x45, .vmin cell), (0x46, .vrcp cell), (0x47, .vdiv cell), (0x48, .vrsum cell), (0x49, .vtsum cell), (0x4A, .vpwl cell),
   (0x50, .viadd cell), (0x51, .vimul cell), (0x52, .vand cell), (0x53, .vor cell), (0x54, .vxor cell), (0x55, .vshl cell),
   (0x56, .vshr cell), (0x58, .vcmp cell), (0x59, .vsel cell), (0x60, .vcvt cell), (0x61, .vbscale cell), (0x70, .vld cell),
   (0x71, .vst cell), (0x72, .vldx cell), (0x73, .vstx cell), (0x74, .vaddx cell), (0x78, .vhash cell), (0x80, .send cell),
   (0xF0, .loop cell), (0xF1, .waitc cell), (0xF2, .ifill cell), (0xFF, .halt cell true)]

/-! ## Host commands and schedule actions -/

/-- The command `d` is taken: its queue serves it now, its descriptor was read, and its reserved bytes are 0 (R555–R566). -/
def Serves (s : State) (d : Desc) : Prop := s.takeable d = true ∧ d.rdOk = true ∧ d.rsvOk = true

/-- The head of a die's queue is the action `a` of KIND `kind`, in time, in the schedule, first of the two dies, no step
has skipped its slot, and it is not withheld: it fires (R59–R61, R92, R101). -/
structure Fires (s : State) (die kind : Nat) (a : QAction) (q : List QAction) : Prop where
  head    : s.queue die = a :: q
  kind    : a.act.kind = kind
  on      : s.running = true
  sync    : s.sched.desync = false
  inTime  : a.late = false
  first   : s.firstFires die a = true
  inSched : s.inSchedule a.slot = true
  there   : s.skipped a.slot = false
  passed  : (a.act.xs && s.withheld) = false

/-- The state in which the head `a` of a die's queue fires: it has left the queue, time has come to its cycle, and a firing
later than its own cycle is counted (R59, R60). -/
def State.fired (s : State) (die : Nat) (a : QAction) : State :=
  let c := s.fireCycle die a
  let t := (s.dropHead die).toCyc c
  let t := { t with sched := if die = 0 then { t.sched with fired0 := c + 1 } else { t.sched with fired1 := c + 1 } }
  if c = a.nominal then t else t.bump16 aTIM_BST_SLIP die (c - a.nominal)

/-! ## Counters, sub-ports and lanes -/

/-- The 32-bit saturating counter at `o` has risen by `n`. -/
def Counted (s t : State) (o n : Nat) : Prop := t.reg o = BitVec.ofNat 32 (min 0xFFFFFFFF ((s.reg o).toNat + n))

/-- Sub-port `k` of port `p` is now `x`, and every other one as before. -/
def OneSub (s t : State) (p k : Nat) (x : SubPort) : Prop :=
  t.sub p k = x ∧ ∀ q j, 8 * q + j ≠ 8 * p + k → t.sub q j = s.sub q j

/-- Lane `i` is now `x`, and every other one as before. -/
def OneLane (s t : State) (i : Nat) (x : Lane) : Prop := t.lane i = x ∧ ∀ j, j ≠ i → t.lane j = s.lane j

/-- One entry was put behind those that waited in the log queue, where one had room; else the log may say so (R662). -/
def Logged (s t : State) (e : LogEntry) : Prop :=
  queueUsed s.log.queue < 63 → t.log.queue = putEntry s.tim.lock e s.log.queue

/-! ## Ordered checks -/

/-- The code of the first check that fails, in the order given; `d` where none fails. -/
def firstOf (checks : List (Nat × Bool)) (d : Nat) : Nat :=
  match checks.find? (·.2) with
  | some c => c.1
  | none => d

/-! ## Packets for the units of this switch -/

/-- The packet that a unit's command names reaches the unit: one that passes every check of its port and its route, or the oldest
that the K8 has sent to itself. `u` is what the unit is given, in the state `v` (R173, R178). -/
def Hands (s : State) (want : Pkt → Bool) (src : RxSrc) (u : ForUnit) (v : State) : Prop :=
  want u.pkt = true ∧ match src with
    | .link port sub rx arrival => want rx.pkt = true ∧ s.arrive port sub rx arrival false = (some u, v)
    | .own => ∃ p h, s.rte.own.find? (fun x => want x.1) = some (p, h) ∧ u = ⟨p, h, 1008, s.tim.now, s.tim.now, s.tim.now⟩ ∧
        v = { s with rte := { s.rte with own := s.rte.own.erase (p, h) } }

end Sys2Proof.Machine
end

