-- ==== Sys2Proof/Certificates/Slice0/Obligations.lean ====
section
/-! DEFINITION. The statements for the provers. -/

open Sys2Proof Sys2Proof.Machine

/-- O1. For every command c and state s whose queue begins with c, the step of s is exec of c on s with the rest of the
queue. -/
def Obligations.StepRunsFront : Prop :=
  ∀ (c : Instr) (q : List Instr) (s : State), s.pending = c :: q → step s = exec c { s with pending := q }

/-- O2. In the reset state the stage is RESET, the time unit is in FREERUN with WITHHOLD 1, no selected source (63) and
HOPS 31, the root is not locked and fabric time stands at 0; no command waits, no schedule is launched, no image is
loaded, no group exists, the log is empty, every sub-port is DISABLED, every stream entry is FREE, and every register
holds the value of its Reset column; no write to a memory is under way. -/
def Obligations.ResetState : Prop :=
  let r := State.reset
  r.boot.stage = 0 ∧ r.boot.error = 0 ∧ r.boot.copy = none ∧ r.boot.warm = false ∧
  r.tim.lock = false ∧ r.tim.now = 0 ∧ r.tim.state = 0 ∧ r.tim.withhold = true ∧ r.tim.sel = 63 ∧ r.tim.advHops = 31 ∧
  r.pending = [] ∧ r.sched.launched = false ∧ r.img = none ∧ r.groups = [] ∧
  r.log.queue = [] ∧ r.log.ring = [] ∧ r.log.wrSeq = 0 ∧ r.log.drainSeq = 0 ∧ r.log.fatal = false ∧
  (∀ p k, (r.sub p k).state = 0) ∧ (∀ i, (r.stream i).state = 0) ∧ (∀ o, r.reg o = regReset o) ∧
  r.mem = [] ∧ r.writes = []

/-- O3. The tiers, HBM and the flash of the reset state are in the canonical form that every step keeps: addresses
strictly rising and no entry equal to what an unlisted address reads as. -/
def Obligations.ResetMemories : Prop := State.reset.memoriesOk

/-- O4. For every state whose byte memories (the tiers and HBM, and the flash) are in canonical form, whatever command
is at the front of the queue: if the step answers a next state, its byte memories are in canonical form. -/
def Obligations.StepKeepsMemories : Prop :=
  ∀ s t : State, s.memoriesOk → step s = .next t → t.memoriesOk

/-- O5. For every command of the table and every state, exec answers a next state: no command of this block stops the
machine. The queue of waiting commands is as before, and so are the fuses unless the command is FUSE_PROG_DONE. -/
def Obligations.EveryCommandCompletes : Prop :=
  ∀ (c : Instr) (s : State), Answers c s fun t =>
    t.pending = s.pending ∧ (c ≠ .fuseProgDone → t.fuse = s.fuse)

/-- O6. In every state in which no programming is under way once the owner fuse is programmed: after any step that is
still so, and an owner fuse that was programmed holds the same fingerprint. The premise holds in the reset state. -/
def Obligations.OwnerFuseFinal : Prop :=
  let inv : State → Prop := fun s => s.fuse.owner ≠ 0 → s.boot.fpBusy = none
  inv State.reset ∧ ∀ s t : State, inv s → step s = .next t → inv t ∧ (s.fuse.owner ≠ 0 → t.fuse.owner = s.fuse.owner)


/-- O7. For every state: POWER_ON, COLD_RESET_ASSERT (with RST_N or PWR_OK low), VSB_LOSS and an accepted COLD write of
CFG_RESET leave every unit as State.reset has it, but for the registers and the management units that keep their
contents under VSB, the fuses, the flash and its controller, the pins, what the host link has negotiated and the
cause: the stage is RESET (CLOCKS for the write, whose pins stand high), the root is not locked and fabric time
stands at 0. A PPS_OUT that was high falls, SMBALERT_N lets go, and with VSB the trip output. PWR_OK low ends a TAP
instruction that has the lanes, which MGT_EVENT and SMBALERT_N show. -/
def Obligations.ColdResetEffect : Prop :=
  ∀ s : State,
    let r := State.reset
    let units : Fields := { regs := true, fuse := true, boot := true, flash := true, tim := true, hif := true, mgt := true,
                            out := true, free := true, pending := true }
    let clean : State → Prop := fun t =>
      Only units r t ∧ t.fuse = s.fuse ∧ t.flash = s.flash ∧ t.pending = s.pending ∧ t.free = s.free ∧
      t.hif = { r.hif with flit := s.hif.flit, rate := s.hif.rate, width := s.hif.width }
    let fell : List Emit := let o := if s.tim.ppsOut then .pin .ppsOut 0 :: s.out else s.out
                            if s.alertLow then .pin .smbAlertN 1 :: o else o
    let clocks : Tim := { r.tim with refclkOk := s.tim.refclkOk, freqInOk := s.tim.freqInOk, freqIn := s.tim.freqIn }
    let island : Mgt := { r.mgt with fifo := s.mgt.fifo, line := s.mgt.line, smbStatus := s.mgt.smbStatus, tapIr := s.mgt.tapIr,
                                     hot := s.mgt.hot }
    let held : Boot → Bool → State → Prop := fun b lapse t =>
      t.boot = { r.boot with vsb := s.boot.vsb, pwrOk := b.pwrOk, rstN := b.rstN, perstN := s.boot.perstN, stage := b.stage,
                             cause := b.cause, flBusy := s.boot.flBusy, flErr := s.boot.flErr, fpBusy := s.boot.fpBusy,
                             vidDriven := s.boot.vidDriven } ∧
      t.tim = clocks ∧ t.mgt = { island with tapIr := if lapse then 0xFF else s.mgt.tapIr } ∧
      t.out = (if lapse then .pin .smbAlertN 0 :: fell else fell) ∧ (lapse = true → t.bit aMGT_EVENT 2 = true) ∧
      ∀ o, (lapse = true → o ∉ evtRegs aMGT_EVENT) → t.reg o = if coldKeeps o then s.reg o else regReset o
    (Answers .powerOn s fun t => clean t ∧ t.boot = { r.boot with vsb := true, cause := 0 } ∧ t.tim = r.tim ∧
      (∀ o, t.reg o = regReset o) ∧ t.mgt = r.mgt ∧ t.out = fell) ∧
    (Answers .vsbLoss s fun t => clean t ∧ t.boot = { r.boot with vsb := false, cause := s.boot.cause } ∧ t.tim = clocks ∧
      (∀ o, t.reg o = regReset o) ∧ t.mgt = r.mgt ∧
      t.out = if s.bit aMGT_TRIP_REC 31 then .pin .thermTripN 1 :: fell else fell) ∧
    (∀ pwrOk rstN, (pwrOk && rstN) = false → Answers (.coldResetAssert pwrOk rstN) s fun t =>
      clean t ∧ held { s.boot with pwrOk := pwrOk, rstN := rstN, stage := 0, cause := 1 } (!pwrOk && s.tapDrives) t) ∧
    (∀ p v, (p = .fn 0 ∨ p = .console ∨ p = .smbus ∨ p = .tap) → s.mayWrite p aCFG_RESET = true →
      bitsOf v.toNat 31 16 = 0x5A5A → bitOf v.toNat 1 = true → s.boot.rstN = true → s.boot.pwrOk = true →
      Answers (.cfgResetCold p v) s fun t => clean t ∧ held { s.boot with stage := 1, cause := 2 } false t)


/-- O8. The stage becomes CLOCKS when RST_N rises with PWR_OK high; root lock starts fabric time at 0; the fuse read
ends with FUSE_DONE, FUSE_OK telling whether the CRC matches and no die has more than four disabled columns, and a
fault entry where not; the stage becomes FLASH when both are done; a timeout of CLOCKS sets the error NO_REFCLK or
PLL and the stage stays; the host port trains where PERST_N is high, the stage is at least FLASH and what is
negotiated is a rate and width it links at; VID_PINS_VALID drives the VID codes of the fuses. -/
def Obligations.BootStages : Prop :=
  ∀ s : State,
    let links := linkable s.hif.rate s.hif.width
    (∀ refclk, s.boot.vsb = true → s.boot.stage = 0 → exec (.coldResetRelease refclk) s = .next
      { s with boot := { s.boot with pwrOk := true, rstN := true, stage := 1 }, tim := { s.tim with refclkOk := refclk } }) ∧
    (s.boot.stage = 1 → s.tim.refclkOk = true → s.tim.lock = false → s.tim.lost = false → s.boot.error = 0 →
      Answers .rootPllLock s fun t => t.tim = { s.tim with lock := true, now := 0, clk := 0, slot := 0 } ∧
        t.boot = { s.boot with stage := if s.boot.fuseDone then 2 else 1 } ∧
        t.hif = (if s.boot.fuseDone && s.boot.perstN && links then { s.hif with training := true, linkUp := true } else s.hif) ∧
        Only { boot := true, tim := true, hif := true } s t) ∧
    (s.boot.stage = 1 → s.tim.lock = false → exec .clocksTimeout s = .next
      { s with boot := { s.boot with error := if s.tim.refclkOk then 2 else 1 } }) ∧
    (s.boot.stage = 1 → s.boot.fuseDone = false → s.boot.error = 0 → Answers .fuseReadDone s fun t =>
      t.boot = { s.boot with stage := if s.tim.lock then 2 else 1, fuseDone := true, fuseOk := t.boot.fuseOk } ∧
      (t.boot.fuseOk = true ↔ s.fuse.crcOk = true ∧ maskCount s.fuse.mask0 ≤ 4 ∧ maskCount s.fuse.mask1 ≤ 4) ∧
      (t.boot.fuseOk = true → t.log = s.log) ∧
      (t.boot.fuseOk = false → Logged s t ⟨s.edgeNs, 0, 0x03, if s.fuse.crcOk then 2 else 1, dieH, 0x80,
        maskCount s.fuse.mask0 % 2 ^ 32, maskCount s.fuse.mask1 % 2 ^ 32, 0, 0⟩) ∧
      (s.tim.lock = true → s.boot.perstN = true → links = true → t.hif.training = true ∧ t.hif.linkUp = true) ∧
      Only { regs := true, boot := true, hif := true, log := true, out := true } s t ∧
      (∀ o, o ∉ logRegs → t.reg o = s.reg o)) ∧
    (∀ flit rate width numVf, Answers (.perstRelease flit rate width numVf) s fun t =>
      let up := decide (2 ≤ s.boot.stage) && linkable rate width
      t.boot = { s.boot with perstN := true } ∧
      t.hif = { s.hif with flit := flit, rate := rate, width := width, numVf := min 63 numVf,
                           training := s.hif.training || up, linkUp := s.hif.linkUp || up } ∧
      Only { boot := true, hif := true } s t) ∧
    (s.boot.vsb = true → s.boot.vidDriven = false → exec .vidPinsValid s = .next
      ({ s with boot := { s.boot with vidDriven := true } }.emit (.pin .vid (s.fuse.vid0 + 32 * s.fuse.vid1))))


/-- O9. In stage FLASH: with no candidate copy the stage becomes RECOVERY with error 3; the copy that comes first gets
the outcome of its checks as its status, and one that passes every check is taken: its SEQ, FWVER, CONFIG entries
and pavilion table count from then on and the stage becomes CLEAR. In stage CLEAR every tier and HBM byte becomes 0,
the cells are cleared and the stage becomes CONFIG. CONFIG_APPLIED ends with the stage READY and the RESET entry
offered. -/
def Obligations.ConfigurationStages : Prop :=
  ∀ s : State,
    (s.boot.stage = 2 → s.headerOk 0 = false → s.headerOk 1 = false → Answers .copySelected s fun t =>
      t.boot.stage = 6 ∧ t.boot.error = 3 ∧ t.boot.copy = s.boot.copy ∧ t.boot.copyA.status = 2 ∧ t.boot.copyB.status = 2 ∧
      t.pav.table = s.defaultPav.table ∧ t.pav.pend = none ∧
      Only { regs := true, boot := true, hif := true, log := true, pav := true, out := true, free := true } s t ∧
      KeepsRegs logRegs s t) ∧
    (∀ c cs, s.boot.stage = 2 → s.candidates_ = c :: cs → Answers .copySelected s fun t =>
      (if c = 0 then t.boot.copyA else t.boot.copyB).status = s.verifyCopy c ∧ t.flash = s.flash ∧ t.fuse = s.fuse ∧
      t.mem = s.mem ∧ (t.boot.stage = 3 ∨ t.boot.stage = 6) ∧
      (s.verifyCopy c = 1 → ∀ seq p, s.pavOf c = some (seq, p) →
        t.boot.stage = 3 ∧ t.boot.copy = some c ∧ t.boot.fwver = s.copyField c 16 4 ∧ t.boot.config = s.configEntries c ∧
        t.pav.table = p.table ∧ t.pav.seq = seq ∧ t.pav.opKey = p.opKey ∧ t.pav.cuKey = p.cuKey ∧ t.log = s.log ∧
        t.regs = s.regs ∧ Only { boot := true, pav := true, free := true } s t)) ∧
    (s.boot.stage = 3 → s.boot.warm = false → Answers .clearDone s fun t =>
      t.boot = { s.boot with stage := 4 } ∧ t.mem = [] ∧ t.writes = [] ∧ t.poison = [] ∧ t.soft = [] ∧ t.cells = [] ∧
      t.log.ring = [] ∧ t.log.wrSeq = 0 ∧ t.log.drainSeq = 0 ∧ (s.boot.fuseOk = true → t.bit aCEL_STATUS 2 = true) ∧
      (∀ k, k < 8 → hbmPlaced s.fuse.asm k = true → t.bit (aMEM_HBM_STATUS k) 1 = true) ∧
      Only { regs := true, boot := true, log := true, cells := true, mem := true, poison := true } s t ∧
      (∀ o, o ≠ aCEL_STATUS → (∀ k, k < 8 → o ≠ aMEM_HBM_STATUS k) → t.reg o = s.reg o)) ∧
    (s.boot.stage = 4 → s.boot.config = [] → Answers .configApplied s fun t =>
      t.boot = { s.boot with stage := 5 } ∧
      Logged s t ⟨s.edgeNs, 0, 0x01, s.boot.cause, dieH, 0x80, (5 + b2n (s.boot.copy == some 1) * 256) % 2 ^ 32,
        s.boot.fwver % 2 ^ 32, 0, 0⟩ ∧
      Only { regs := true, boot := true, hif := true, log := true, out := true } s t ∧ KeepsRegs logRegs s t) ∧
    (∀ o v, s.boot.stage = 4 → s.boot.config = [(o, v)] → ignoredBit o = none →
      exec .configApplied s =
        .next ({ { s with boot := { s.boot with stage := 5 } }.writeAt (.fn 0) o (BitVec.ofNat 32 v) with busy := [] }.logReset))


/-- O10. For every state in READY without the fatal state whose byte memories are in canonical form: WRST_ASSERT,
WATCHDOG_FAULT and an accepted WARM write of CFG_RESET keep every memory but the instruction stores, the fuses, the
flash, the REPLAY regions, the pavilion table and fabric time; they unload the image, end the schedule, close the
streams, destroy the groups, empty the queues of the packet path, of the host rings and of the log, put every enabled
sub-port in DOWN, but one in a test in TEST, release the tokens, stop capture and replay, drop a waiting proposal, and record their cause; of two causes in one SCLK cycle
the lower is recorded; at any other time they set CFG_EVENT.WARM_IGNORED and nothing else. WARM_RESET_DONE, outside
the fatal state, makes the stage READY again, counts the warm reset and offers the RESET entry; with no warm reset
under way it changes nothing. -/
def Obligations.WarmResetEffect : Prop :=
  ∀ s : State,
    let loads : List Nat := match s.loading with | some (_, img) => img.region.map regionWord | none => []
    let again := s.boot.warm = true ∧ s.log.fatal = false ∧ s.tim.lock = true ∧ s.boot.warmAt = s.tim.clk / 32
    let does : Instr → Nat → Prop := fun k cause =>
      (s.boot.stage = 5 → s.log.fatal = false → s.memoriesOk → Answers k s fun t =>
        t.boot = { s.boot with stage := 3, warm := true, warmAt := s.tim.clk / 32, cause := cause } ∧
        (∀ a, a < istoreKey 0 0 ∨ istoreKey 1024 0 ≤ a → t.rd a 1 = s.rd a 1) ∧ t.writes = [] ∧ t.fuse = s.fuse ∧
        t.flash = s.flash ∧ t.regions = (s.regions.filter fun e => (regionOf e.2).kind == 2 && !loads.contains e.2) ∧
        t.tim = { s.tim with srcs := t.tim.srcs, facq := t.tim.facq } ∧ t.img = none ∧ t.loading = none ∧
        t.sched = State.reset.sched ∧ t.groups = [] ∧ (∀ i, (t.stream i).state = 0) ∧ t.strCmds = [] ∧ t.gtbl = [] ∧
        t.pager0 = [] ∧ t.pager1 = [] ∧ t.greq0 = [] ∧ t.greq1 = [] ∧ t.gheld = [] ∧ t.pf0 = [] ∧ t.pf1 = [] ∧
        (∀ x ∈ t.hif.taken, s.pav.waiter = some (.host x.no)) ∧ t.rte.wait = [] ∧ t.rte.units = [] ∧ t.rte.own = [] ∧ t.rte.transit = [] ∧ t.rte.egress = [] ∧ t.rte.pause = [] ∧
        t.rte.frees = [] ∧ t.lrep = [] ∧
        (∀ p k, s.hasSub p k = true → s.portOn p = true → (t.sub p k).state = if s.subTest p k then 8 else 1) ∧
        (∀ f i, f < 64 → i < 256 → t.sq f i = ⟨0, 0, false, false⟩ ∧ t.cq f i = cqInit) ∧
        t.cap.active = false ∧ t.rpl = State.reset.rpl ∧ t.digest = none ∧ t.pav.pend = none ∧ t.pav.table = s.pav.table ∧
        t.log.queue = [] ∧ t.tokens = [] ∧ t.cel.runs = [] ∧ (∀ c, (t.cell c).run = none) ∧ (∀ u, (t.mx u).run = none) ∧
        t.pending = s.pending) ∧
      (s.boot.stage ≠ 5 → again → exec k s = .next { s with boot := { s.boot with cause := min cause s.boot.cause } }) ∧
      (s.boot.stage ≠ 5 ∨ s.log.fatal = true → ¬again → exec k s = .next (s.cfgEvt 1))
    does .wrstAssert 3 ∧ does .watchdogFault 6 ∧
    (∀ p v, (p = .fn 0 ∨ p = .console ∨ p = .smbus ∨ p = .tap) → s.mayWrite p aCFG_RESET = true →
      bitsOf v.toNat 31 16 = 0x5A5A → bitOf v.toNat 1 = false → bitOf v.toNat 0 = true → does (.cfgResetWarm p v) 4) ∧
    (s.boot.warm = true → s.log.fatal = false → Answers .warmResetDone s fun t =>
      t.boot = { s.boot with stage := 5, warm := false, warmCount := min 0xFFFFFFFF (s.boot.warmCount + 1) } ∧
      t.pav = { s.pav with scrubAt := s.tim.clk + s.pav.scrubFor } ∧
      Logged s t ⟨s.edgeNs, 0, 0x01, s.boot.cause, dieH, 0x80, (5 + b2n (s.boot.copy == some 1) * 256) % 2 ^ 32,
        s.boot.fwver % 2 ^ 32, 0, 0⟩ ∧
      t.bit aCFG_EVENT 4 = true ∧
      Only { regs := true, boot := true, hif := true, log := true, pav := true, out := true } s t ∧
      KeepsRegs (blockRegs aCFG_EVENT ++ logRegs) s t) ∧
    (s.boot.warm = false ∨ s.log.fatal = true → exec .warmResetDone s = .next s)


/-- O11. A flash command that R639 lets start makes the controller busy with its OP and address; one it does not sets
ERR and FL_ERR, and nothing starts; a command of the PF in the SCLK cycle of one of the management port is ignored.
When the operation ends, a read has filled the page buffer (but for a register software wrote in that SCLK cycle), a
program has cleared the bits of its page that are 0 in the buffer and changed no other byte, an erase has made the
bytes of its sector 0xFF and changed no other. The owner fuse takes the staged fingerprint, which R642 accepts from
the PF only, while no owner is programmed, and not all zero. -/
def Obligations.FlashAndFuse : Prop :=
  ∀ s : State, s.memoriesOk →
    let start : Instr → Path → Word → Nat → Prop := fun k p v op =>
      s.mayWrite p aCFG_FL_CMD = true → (∀ f, p = .fn f → f = 0) → bitOf v.toNat 16 = true → bitsOf v.toNat 21 20 = op →
        let pf := decide (p = .fn 0)
        let a := s.fld aCFG_FL_ADDR 24 0
        let u := if !pf && s.flNow true then { s with boot := { s.boot with flBusy := none } } else s
        ((pf && s.flNow false) = true → exec k s = .next s) ∧
        ((pf && s.flNow false) = false → u.flashOk op a = true → exec k s = .next (let t := s.plainWrite aCFG_FL_CMD v
          { t with boot := { s.boot with flBusy := some (op, a), flErr := false, flAt := s.tim.clk / 32 + 1, flPf := pf } })) ∧
        ((pf && s.flNow false) = false → u.flashOk op a = false → Answers k s fun t =>
          t.boot = { s.boot with flErr := true } ∧ t.bit aCFG_EVENT 2 = true ∧
          Only { regs := true, boot := true, hif := true, out := true } s t ∧
          KeepsRegs (aCFG_FL_CMD :: blockRegs aCFG_EVENT) s t)
    (∀ p v, start (.flashRead p v) p v 0 ∧ start (.flashProgram p v) p v 1 ∧ start (.flashErase p v) p v 2) ∧
    (∀ op a, s.boot.flBusy = some (op, a) → a + 256 ≤ 2 ^ 25 → Answers .flashOpDone s fun t =>
      t.boot = { s.boot with flBusy := none } ∧
      (op = 0 → t.flash = s.flash ∧
        (∀ i, i < 64 → t.reg (aCFG_FL_DATA i) = if (s.swWrote (aCFG_FL_DATA i)).isSome then s.reg (aCFG_FL_DATA i)
          else BitVec.ofNat 32 (leNat (s.flashRd (a + 4 * i) 4))) ∧
        KeepsRegs ((List.range 64).map aCFG_FL_DATA) s t) ∧
      (op ≠ 0 → t.regs = s.regs) ∧
      (op = 1 → (∀ i, i < 256 → t.flashRd (a + i) 1 = [(s.flashRd (a + i) 1).getD 0 0 &&& s.pageBuf.getD i 0]) ∧
        ∀ b, b < a ∨ a + 256 ≤ b → t.flashRd b 1 = s.flashRd b 1) ∧
      (op = 2 → (∀ b, a ≤ b → b < a + 65536 → t.flashRd b 1 = [0xFF]) ∧
        ∀ b, b < a ∨ a + 65536 ≤ b → t.flashRd b 1 = s.flashRd b 1) ∧
      Only { regs := true, boot := true, flash := true } s t) ∧
    (∀ v, s.mayWrite (.fn 0) aCFG_FUSE_PROG = true → bitsOf v.toNat 31 16 = 0x4F57 → bitOf v.toNat 0 = true →
      exec (.fuseProg (.fn 0) v) s = .next { s with boot :=
        if s.fuse.owner = 0 ∧ s.rootStage ≠ 0 ∧ s.boot.fpBusy = none
        then { s.boot with fpBusy := some s.rootStage, fpErr := false } else { s.boot with fpErr := true } }) ∧
    (∀ x, s.boot.fpBusy = some x → exec .fuseProgDone s = .next
      { s with boot := { s.boot with fpBusy := none }, fuse := { s.fuse with owner := x } })


/-- O12. Loss of root lock, and loss of REFCLK while the root is locked, leave fabric time at its value in FREERUN with
WITHHOLD 1, enter the fatal state with cause 1, and a root that has lost lock does not lock again; a failed package
link enters the fatal state with cause 2, and an uncorrectable word of structure 17 or 18 with cause 3. The first
fatal cause stops every cell, matrix unit and bandstand and releases the tokens; no byte of a memory changes. A
package-link retry is counted for its link, and one of a scheduled flit sets the hazard PKG_RETRY. An uncorrectable
word in the route table clears the entry's VALID; in the log ring it marks the entry; a corrected word of a table is
counted, and changes nothing else. -/
def Obligations.PackageFaults : Prop :=
  ∀ s : State,
    let held : State → Prop := fun t =>
      t.tim.lock = false ∧ t.tim.lost = true ∧ t.tim.state = 0 ∧ t.tim.withhold = true ∧ t.tim.sel = 63 ∧
      t.tim.ppsOut = false ∧ t.tim.now = s.tim.now
    let stopped : State → Nat → Prop := fun t code =>
      t.log.fatal = true ∧ t.running = false ∧ t.log.cause = (if s.log.fatal then min s.log.cause code else code) ∧
      t.bit aLOG_EVENT 4 = true ∧
      (s.log.fatal = false → t.cells = [] ∧ t.cel.runs = [] ∧ t.mxu = [] ∧ t.tokens = [] ∧ t.sched.q0 = [] ∧ t.sched.q1 = []) ∧
      (∀ a, t.rd a 1 = s.rd a 1) ∧
      Only { regs := true, tim := true, hif := true, log := true, subs := true, lanes := true, lrep := true, streams := true,
             rte := true, sched := true, cells := true, cel := true, mxu := true, tokens := true, mem := true, poison := true,
             mgt := true, out := true } s t
    let retried : Nat → State → Prop := fun link t => t.log = { s.log with retries := t.log.retries } ∧
      ∀ l, tblGet (fun _ => 0) t.log.retries l = tblGet (fun _ => 0) s.log.retries l + if l = link then 1 else 0
    (s.tim.lock = true → Answers .rootLockLoss s fun t => held t ∧ stopped t 1 ∧ t.tim.refclkOk = s.tim.refclkOk) ∧
    (s.tim.lock = false → exec .rootLockLoss s = .next s) ∧
    (s.tim.lock = true → Answers .refclkLoss s fun t => held t ∧ stopped t 1 ∧ t.tim.refclkOk = false) ∧
    (s.tim.lock = false → exec .refclkLoss s = .next { s with tim := { s.tim with refclkOk := false } }) ∧
    (s.tim.lost = true → exec .rootPllLock s = .next s) ∧
    (∀ link pair, Answers (.pkgLinkFail link pair) s fun t => stopped t 2 ∧ t.tim.lock = s.tim.lock ∧ t.tim.now = s.tim.now) ∧
    (∀ link, Answers (.pkgLinkRetry link false) s fun t => retried link t ∧ Only { log := true } s t) ∧
    (∀ link, Answers (.pkgLinkRetry link true) s fun t => retried link t ∧ t.bit aDET_HAZARD 0 = true ∧
      Only { regs := true, hif := true, log := true, out := true } s t ∧ KeepsRegs (aDET_HAZARD :: blockRegs aDET_EVENT) s t) ∧
    (∀ i die, Answers (.tableEccFault 1 i die) s fun t =>
      (i / 65536 < 4 → bitOf (t.rteGet (i / 65536) (i % 65536)) 31 = false ∧
        bitsOf (t.rteGet (i / 65536) (i % 65536)) 30 0 = bitsOf (s.rteGet (i / 65536) (i % 65536)) 30 0) ∧
      Counted s t aLOG_TBL_UNCORR 1 ∧ Only { regs := true, hif := true, log := true, rte := true, out := true } s t) ∧
    (∀ i die, exec (.tableEccFault 19 i die) s = .next { s with log := { s.log with
      bad := if s.log.bad.contains (i % 8192) then s.log.bad else i % 8192 :: s.log.bad } }) ∧
    (∀ i die k, k = 17 ∨ k = 18 → Answers (.tableEccFault k i die) s fun t => stopped t 3) ∧
    (∀ i die k, 64 < k → k < 84 → Answers (.tableEccFault k i die) s fun t => Counted s t aLOG_TBL_CORR 1 ∧
      Only { regs := true } s t ∧ KeepsRegs [aLOG_TBL_CORR] s t)


/-- O13. With the root locked, SLOT_START brings fabric time to the start of the slot, counts the slot, brings both
bandstands' replica counters to it (a replica fault makes one differ and stops a launched schedule on both dies),
samples ROOT, holds WITHHOLD 1 in FREERUN, counts a slot with WITHHOLD 1 (the records'
during replay), sends a mark of 14 bytes, from the first bit boundary on, on every STC lane
that is up, and changes no memory word unless capture is active. Without root lock nothing changes. -/
def Obligations.SlotStart : Prop :=
  ∀ (s : State) (f0 f1 : Bool),
    (s.tim.lock = false → exec (.slotStart f0 f1) s = .next s) ∧
    (s.tim.lock = true → Answers (.slotStart f0 f1) s fun t =>
      t.tim.now = max s.tim.now (s.tim.slot * slotUnits) ∧ t.tim.slot = s.tim.slot + 1 ∧
      (t.tim.rep0 = s.tim.slot ↔ f0 = false) ∧ (t.tim.rep1 = s.tim.slot ↔ f1 = false) ∧
      (f0 = false → f1 = false → t.sched = s.sched) ∧
      ((f0 = true ∨ f1 = true) → s.sched.launched = true → t.sched.desync = true) ∧
      t.tim.rootMode = s.bit aTIM_CTRL 0 ∧
      (t.tim.state = 0 → t.tim.withhold = true) ∧
      (∀ n, n < 16 → (s.lane (stcIdx n)).up = true →
        ∃ w syms, .mark n (lineBit (stcIdx n) t.tim.clk) w syms ∈ t.out ∧ w.length = 14) ∧
      (s.cap.active = false → t.mem = s.mem ∧ t.writes = s.writes ∧ t.poison = s.poison ∧ t.soft = s.soft) ∧
      (t.withheld = true → Counted s t aTIM_WITHHELD_SLOTS 1) ∧
      (t.withheld = false → t.reg aTIM_WITHHELD_SLOTS = s.reg aTIM_WITHHELD_SLOTS) ∧
      Only { regs := true, tim := true, hif := true, log := true, lanes := true, rte := true, sched := true, cap := true,
             mem := true, poison := true, out := true } s t)


/-- O14. A forward step that is due moves fabric time on by a whole number of slots, the filtered offset rounded down,
records its size and epoch, clears ARM (where software has not written it in the same SCLK cycle), counts the slots
it skips, and then passes over the actions of those slots. An initial load that is due moves fabric time to the first
multiple of 60 ns at or after the source's, never back. HOLDOVER_EXPIRE, once uncertainty has passed TIM_HOLD_LIMIT,
enters FREERUN with HOPS 31. None of them happens before it is due, and no initial load while a schedule runs. -/
def Obligations.StepAndInitialLoad : Prop :=
  ∀ s : State,
    (s.stepDue = false → exec .forwardStep s = .next s) ∧
    (s.stepDue = true →
      let k := s.stepSlots
      let first := s.tim.slot
      let at_ := s.advTo (first * slotUnits)
      ∃ u : State,
        u.tim.now = max s.tim.now (first * slotUnits) + k * slotUnits ∧ u.tim.slot = first + k ∧ u.tim.state = s.tim.state ∧
        u.tim.sel = s.tim.sel ∧ u.tim.corr = s.tim.corr ∧
        u.reg aTIM_STEP_SIZE_LO = BitVec.ofNat 32 (960 * k) ∧ u.reg aTIM_STEP_SIZE_HI = BitVec.ofNat 32 (960 * k / 2 ^ 32) ∧
        u.reg aTIM_STEP_EPOCH = BitVec.ofNat 32 (first / 2 ^ 20) ∧ u.bit aTIM_EVENT 5 = true ∧
        u.reg aTIM_STEP = (if (at_.swWrote aTIM_STEP).isSome then s.reg aTIM_STEP else 0) ∧
        Counted s u aTIM_SKIPPED_SLOTS k ∧
        Only { regs := true, tim := true, hif := true, log := true, out := true } s u ∧
        KeepsRegs ([aTIM_STEP_SIZE_LO, aTIM_STEP_SIZE_HI, aTIM_STEP_EPOCH, aTIM_STEP, aTIM_SKIPPED_SLOTS]
          ++ blockRegs aTIM_EVENT ++ logRegs) s u ∧
        exec .forwardStep s = .next (let v := u.skipActions first (first + k)
          (if v.rpl.active then v else v.hazard 5).capMark 3 (960 * k))) ∧
    ((s.tim.lock && s.tim.loadPend) = false → exec .initialLoad s = .next s) ∧
    (s.tim.lock = true → s.schedRunning = true → s.tim.loadPend = true →
      exec .initialLoad s = .next { s with tim := { s.tim with loadPend := false } }) ∧
    (s.tim.lock = true → s.tim.loadPend = true → s.schedRunning = false → Answers .initialLoad s fun t =>
      let t0 := (s.tim.now + 479) / 480 * 480
      let fine : Int := t0 * 1441440 + s.filtered s.tim.sel
      t.tim.now = max t0 (((fine + (480 * 1441440 - 1)) / (480 * 1441440)).toNat * 480) ∧
      s.tim.now ≤ t.tim.now ∧ t.tim.now % 480 = 0 ∧ t.tim.loadPend = false ∧ t.tim.state = s.tim.state ∧
      t.tim.slot ≤ max s.tim.slot (t.tim.now / slotUnits + 1) ∧ Only { tim := true } s t) ∧
    (s.holdOver = false → exec .holdoverExpire s = .next s) ∧
    (s.holdOver = true → Answers .holdoverExpire s fun t =>
      t.tim = { s.tim with state := 0, advHops := 31 } ∧ t.bit aTIM_EVENT 2 = true ∧
      Only { regs := true, tim := true, hif := true, log := true, out := true } s t ∧
      KeepsRegs (blockRegs aTIM_EVENT ++ logRegs) s t)


/-- O15. For an STC lane that is up and an L-port whose link is up, with the root locked: a good mark or TIME packet
gives the source its advertised STATE, ROOT, HOPS and UNC, the delay and the time difference of R73, puts the
measured offset at the head of the 16 (8) it keeps, and clears its misses; a bad one is counted in TIM_MARK_ERR and
is a miss; the errors of its symbols are counted (four in a row take the lane down: O42); a TIME packet that fails a
check of its port is counted there as well, and one that comes broken puts the L-port's receiver in RECOVER; a
missing one is a miss. A miss that leaves a LOCKED switch, no designated root, without a valid source puts
it in HOLDOVER at once. No other source changes. -/
def Obligations.TimeExchanges : Prop :=
  ∀ s : State, s.tim.lock = true →
    let heard : Nat → Nat → List Byte → Nat → Int → Nat → State → Prop := fun i len w arrival asym late t =>
      let b := (w.getD 0 0).toNat
      let there := signed 32 (beNat ((w.drop 9).take 4)) - (late : Int)
      let back : Int := arrival - (beNat ((w.drop 2).take 7) * slotUnits : Nat)
      t.src i = { s.src i with
        state := b / 64, root := bitOf b 5, hops := b % 32, unc := (w.getD 1 0).toNat, delay2 := there + back, delta := back,
        heard := true, missed := 0, lastClk := t.tim.clk, samples := ((there - back - asym) :: (s.src i).samples).take len,
        okAt := t.srcValid i, slewAt := (s.advTo arrival).slewTotal }
    let others : Nat → State → Prop := fun i t =>
      (∀ j, j ≠ i → t.src j = s.src j) ∧ Only { regs := true, tim := true, hif := true, log := true, lrep := true, out := true } s t
    let miss : Nat → List Nat → State → Prop := fun i rs t =>
      t.src i = { s.src i with missed := (s.src i).missed + 1, okAt := false } ∧ others i t ∧
      (if s.tim.state = 2 ∧ s.tim.rootMode = false ∧ (∀ j, j < 33 → t.srcValid j = false) then
        t.tim.state = 1 ∧ t.tim.facq = none ∧ t.bit aTIM_EVENT 1 = true ∧
          KeepsRegs (rs ++ blockRegs aTIM_EVENT ++ logRegs) s t
      else t.tim.state = s.tim.state ∧ KeepsRegs rs s t)
    (∀ n syms arrival ys, n < 16 → (s.lane (stcIdx n)).up = true → startsWith kMark (recvSyms syms) = some ys →
      fourBad 0 (recvSyms syms) = false → Answers (.stcMarkRx n syms arrival) s fun t =>
        t.tim.now = max s.tim.now arrival ∧ t.lrep = s.lrep ∧ Counted s t (aLNE_STC_CODE_ERR n) (codeErrs (recvSyms syms)) ∧
        Counted s t (aLNE_STC_DISP_ERR n) (dispErrs (recvSyms syms)) ∧
        (∀ w, markWord ys = some w →
          heard n 16 w arrival (signed 16 (s.fld (aTIM_STC_ASYM n) 15 0)) (s.lane (stcIdx n)).late t ∧ others n t ∧
          Counted s t (aLNE_STC_MARKS n) 1 ∧
          KeepsRegs ([aLNE_STC_MARKS n, aLNE_STC_CODE_ERR n, aLNE_STC_DISP_ERR n] ++ logRegs) s t) ∧
        (markWord ys = none → miss n [aTIM_MARK_ERR, aLNE_STC_CODE_ERR n, aLNE_STC_DISP_ERR n] t ∧
          Counted s t aTIM_MARK_ERR 1)) ∧
    (∀ n, n < 16 → (s.lane (stcIdx n)).up = true → Answers (.stcMarkMiss n) s fun t =>
      miss n [] t ∧ t.tim.now = s.tim.now ∧ t.lrep = s.lrep) ∧
    (∀ l rx arrival, s.hasL l = true → s.rxLive (64 + l) 0 = true → rx.pkt.kind = 0x3D →
      let w := rx.pkt.payload
      let c := linkCause (64 + l) rx
      Answers (.timePacketRx l rx arrival) s fun t =>
        t.tim.now = max s.tim.now arrival ∧
        (∀ j, t.lr j = if j = l ∧ rxBroken rx = true ∧ (s.lr l).recover = false then { s.lr l with recover := true, nak := true }
          else s.lr j) ∧
        (c = 0 → crc32c (w.take 20) = beNat ((w.drop 20).take 4) →
          heard (16 + l) 8 w arrival (signed 32 (s.reg (aTIM_LASYM l)).toNat) 0 t ∧ others (16 + l) t ∧ KeepsRegs logRegs s t) ∧
        (c = 0 → crc32c (w.take 20) ≠ beNat ((w.drop 20).take 4) → miss (16 + l) [aTIM_MARK_ERR] t ∧
          Counted s t aTIM_MARK_ERR 1) ∧
        (c ≠ 0 → miss (16 + l) (aTIM_MARK_ERR :: dropRegs c) t ∧ Counted s t aTIM_MARK_ERR 1 ∧
          Counted s t (aRTE_DROP (c - 1)) 1)) ∧
    (∀ l, s.hasL l = true → (s.sub (64 + l) 0).state = 4 → Answers (.timePacketMiss l) s fun t =>
      miss (16 + l) [] t ∧ t.tim.now = s.tim.now ∧ t.lrep = s.lrep)


/-- O16. PPS_OUT rises at the fabric time of the first second whose edge has not passed, unless fewer than 10^9 TCLK
cycles have gone by since the last edge, and falls when its width has been counted. A PPS_IN pulse near its expected
time counts the second in TIM_PPS_SEC (where software has not written it in the same SCLK cycle) and is an exchange
with source 32, whose offset is the mark minus the arrival; one that is not, while PPS_IN is the selected source, and
a missing one, are counted in TIM_PPS_MISS; one shorter than 50 ns is ignored. FREQ_IN lost and restored shows in
CLK_STATUS, and with FREQ_IN_EN its correction applies. -/
def Obligations.PpsAndFreqPins : Prop :=
  ∀ s : State,
    let k := s.ppsDue s.tim.ppsNext
    let pins : Fields := { tim := true, out := true }
    let unit : Fields := { regs := true, tim := true, hif := true, log := true, out := true }
    (s.tim.lock = true →
      (∀ c, s.tim.ppsLast = some c → s.tim.clk + (s.ppsEdge k - s.tim.now) < c + 8000000000 →
        Answers .ppsOutRise s fun t => t.tim.ppsOut = s.tim.ppsOut ∧ t.out = s.out ∧ t.tim.ppsNext = k + 1 ∧
          t.tim.now = max s.tim.now (s.ppsEdge k) ∧ t.tim.ppsLast = s.tim.ppsLast ∧ Only pins s t) ∧
      ((∀ c, s.tim.ppsLast = some c → c + 8000000000 ≤ s.tim.clk + (s.ppsEdge k - s.tim.now)) →
        Answers .ppsOutRise s fun t => t.tim.ppsOut = true ∧ t.out = .pin .ppsOut 1 :: s.out ∧ t.tim.ppsNext = k + 1 ∧
          t.tim.now = max s.tim.now (s.ppsEdge k) ∧ t.tim.ppsLast = some t.tim.clk ∧
          t.tim.ppsFall = t.tim.clk + s.fld aTIM_PPS 15 8 * 8000 ∧ Only pins s t)) ∧
    (s.tim.ppsOut = true → s.tim.lock = true → Answers .ppsOutFall s fun t =>
      t.tim.ppsOut = false ∧ t.out = .pin .ppsOut 0 :: s.out ∧ t.tim.clk = max s.tim.clk s.tim.ppsFall ∧ Only pins s t) ∧
    (∀ arrival high, high < 50 → exec (.ppsInPulse arrival high) s = .next s) ∧
    (∀ arrival high, s.tim.lock = true → s.bit aTIM_PPS 0 = true → s.tim.now ≤ arrival → 50 ≤ high →
      (s.ppsInWindow arrival = true → Answers (.ppsInPulse arrival high) s fun t =>
        t.reg aTIM_PPS_SEC = s.reg aTIM_PPS_SEC + (if ((s.advTo arrival).swWrote aTIM_PPS_SEC).isSome then 0 else 1) ∧
        t.tim.ppsPrev = some arrival ∧ t.tim.now = arrival ∧
        t.src 32 = { s.src 32 with up := true, state := 2, root := true, hops := 0, unc := 0, heard := true, missed := 0,
                                   lastClk := t.tim.clk, samples := [2 * ((s.ppsMark : Int) - arrival)],
                                   okAt := t.srcValid 32, slewAt := (s.advTo arrival).slewTotal } ∧
        (∀ j, j ≠ 32 → t.src j = s.src j) ∧ Only unit s t ∧ KeepsRegs (aTIM_PPS_SEC :: logRegs) s t) ∧
      (s.ppsInWindow arrival = false → s.tim.state = 2 → s.tim.sel = 32 → Answers (.ppsInPulse arrival high) s fun t =>
        (t.src 32).missed = (s.src 32).missed + 1 ∧ t.reg aTIM_PPS_SEC = s.reg aTIM_PPS_SEC ∧
        Counted s t aTIM_PPS_MISS 1 ∧ Only unit s t ∧
        KeepsRegs (aTIM_PPS_MISS :: (blockRegs aTIM_EVENT ++ logRegs)) s t) ∧
      (s.ppsInWindow arrival = false → ¬(s.tim.state = 2 ∧ s.tim.sel = 32) →
        exec (.ppsInPulse arrival high) s = .next (s.advTo arrival))) ∧
    (s.tim.lock = true → s.bit aTIM_PPS 0 = true → Answers .ppsInMiss s fun t =>
      (t.src 32).missed = (s.src 32).missed + 1 ∧
      ((s.src 32).missed = 2 → (s.src 32).heard = true → t.tim.ppsPrev = none ∧ t.bit aTIM_EVENT 4 = true) ∧
      Counted s t aTIM_PPS_MISS 1 ∧ Only unit s t ∧
      KeepsRegs (aTIM_PPS_MISS :: (blockRegs aTIM_EVENT ++ logRegs)) s t) ∧
    exec .freqInLoss s = .next { s with tim := { s.tim with freqInOk := false } } ∧
    (∀ corr : Int, -100000 ≤ corr → corr ≤ 100000 → exec (.freqInRestored corr) s = .next
      { s with tim := { s.tim with freqInOk := true, freqIn := corr, corr := if s.bit aCLK_CTRL 0 then corr else s.tim.corr } })


/-- O17. For each of the eleven action KINDs: the command changes nothing where the queue is empty, the head is of
another KIND, the bandstands are out of step or stopped, or the other die's head comes first; a head whose slot is no
longer the schedule's leaves the queue and does nothing else; a late prefetch or port rest leaves the queue and is
counted in TIM_BST_LATE and DET_HAZARD, a withheld one in TIM_WITHHELD_ACTIONS, and one whose slot a forward step has
skipped in TIM_SKIPPED_ACTIONS. A
refill appends the next action of the list to a queue of fewer than 64. -/
def Obligations.ActionQueues : Prop :=
  let kinds : List (Nat × (Nat → Instr)) :=
    [(1, .cellLaunch), (2, .mxuLaunch), (3, .streamSend), (4, .streamDecode), (5, .streamUpdate), (6, .prefetch),
     (8, .colStart), (9, .colLaunch), (0xA, .colUp), (0xB, .colDown), (0x10, .portRest)]
  (∀ p ∈ kinds, ∀ (s : State) (die : Nat),
    (s.queue die = [] → exec (p.2 die) s = .next s) ∧
    (∀ a q, s.queue die = a :: q →
      a.act.kind ≠ p.1 ∨ s.sched.desync = true ∨ s.running = false ∨ (a.late = false ∧ s.firstFires die a = false) →
      exec (p.2 die) s = .next s) ∧
    (∀ a q, s.queue die = a :: q → a.act.kind = p.1 → s.sched.desync = false → s.running = true →
      a.late = true ∨ s.firstFires die a = true → s.inSchedule a.slot = false →
      exec (p.2 die) s = .next (s.setQueue die q))) ∧
  (∀ p ∈ [(6, Instr.prefetch), (0x10, Instr.portRest)], ∀ (s : State) (die : Nat) (a : QAction) (q : List QAction),
    s.queue die = a :: q → a.act.kind = p.1 → s.sched.desync = false → s.running = true → s.inSchedule a.slot = true →
    (a.late = true ∨ s.firstFires die a = true → s.skipped a.slot = true →
      exec (p.2 die) s = .next ((s.setQueue die q).bump aTIM_SKIPPED_ACTIONS 1)) ∧
    (s.skipped a.slot = false → a.late = true → exec (p.2 die) s = .next (((s.setQueue die q).bump16 aTIM_BST_LATE die 1).hazard 6)) ∧
    (s.skipped a.slot = false → a.late = false → s.firstFires die a = true → (a.act.xs && s.withheld) = true →
      exec (p.2 die) s = .next ((s.fired die a).bump aTIM_WITHHELD_ACTIONS 1))) ∧
  (∀ (s : State) (die : Nat),
    (∀ a, s.sched.launched = true → s.sched.desync = false → s.running = true → (s.queue die).length < 64 →
      s.nextAct die = some a → Answers (.actionRefill die) s fun t =>
        t.queue die = s.queue die ++ [a] ∧ t.qpos die = s.qpos die + 1 ∧
        (∀ e, (e = 0 ↔ die ≠ 0) → t.queue e = s.queue e ∧ t.qpos e = s.qpos e) ∧ Only { sched := true } s t) ∧
    (64 ≤ (s.queue die).length ∨ s.sched.launched = false ∨ s.sched.desync = true ∨ s.running = false ∨ s.nextAct die = none →
      exec (.actionRefill die) s = .next s))


/-- O18. An action that fires: CELL_LAUNCH starts its record on every cell of its rectangle, with the identity in
SX1–SX3 and the parameters in SX24–SX31, where R316 refuses nothing and no gate is named, or else refuses it with a
count; MXU_LAUNCH gives its unit the launch, to start 8 MCLK cycles on, and reserves the tokens of the unit and of
the gather engine it names, or refuses it with a count; PREFETCH, behind those of its die whose bound has come,
queues the job with its bound and sends its bytes on their way, or refuses it or finds no room, with a count; PORT_REST commits the sub-port to the rest that ends with its window, at once or, behind
a packet in progress, after it. -/
def Obligations.LaunchActions : Prop :=
  ∀ (s : State) (die : Nat) (a : QAction) (q : List QAction) (img : Image), s.img = some img →
    let u := s.fired die a
    let c := s.fireCycle die a
    (Fires s die 1 a q →
      let l := imgRec img (bitsOf a.act.arg 15 0)
      gates l = [] →
      (u.launchBad l true = none → Answers (.cellLaunch die) s fun t =>
        Started u t l a.iter c ∧ t.tim = u.tim ∧ t.sched = u.sched ∧
        Only { regs := true, tim := true, hif := true, sched := true, cells := true, cel := true, mem := true, poison := true,
               out := true } s t) ∧
      (∀ sub, u.launchBad l true = some sub → exec (.cellLaunch die) s = .next (u.refuseLaunch l sub))) ∧
    (Fires s die 2 a q →
      let d := imgDesc img (bitsOf a.act.arg 13 0)
      let e := if dGsrc d = 4 then u.gatherEngine d (c / 1920) else none
      (u.mxuCheck d c = 0 → Answers (.mxuLaunch die) s fun t =>
        (t.mx (dUnit d)).run = some {
          desc := d, step := dStep d + a.iter, stream := none, t0 := mclkFrom c + 8, started := false, stall := 0, engine := e,
          bound := (match e with | some k => u.gatherBound d k (c / 1920) | none => some 0)
          rows := [], stats := [], rowFl := [], bad := false, acc := [] } ∧
        (t.mx (dUnit d)).held = (s.mx (dUnit d)).held ∧ (∀ v, v ≠ dUnit d → t.mx v = s.mx v) ∧
        t.tokens = s.tokensAt u.tim.now ++ (⟨dPav d, dUnit d, false, c, none⟩ : Token)
          :: (match e with | some k => [⟨dPav d, k, true, c, none⟩] | none => []) ∧
        Only { regs := true, tim := true, sched := true, mxu := true, tokens := true } s t) ∧
      (u.mxuCheck d c ≠ 0 → exec (.mxuLaunch die) s = .next (u.mxuRefuse d (u.mxuCheck d c)))) ∧
    (Fires s die 6 a q →
      let r := imgPf img (bitsOf a.act.arg 15 0)
      let v := u.pfTo die (u.tim.now / 6)
      ((∀ j ∈ s.pf die, u.tim.now / 6 < j.bound) → v = u) ∧
      (v.pfOk r a.act.pav die = true → (v.pf die).length < 16 → Answers (.prefetch die) s fun t =>
        let t0 := mclkFrom c + 8
        let from_ := match (v.pf die).getLast? with | some j => max t0 j.bound | none => t0
        let stop := from_ + 600 + (r.len + 255) / 256
        t.pf die = v.pf die ++ [⟨r, a.act.pav, stop⟩] ∧ t.mem = v.mem ∧
        t.writes = addWrite ⟨6 * stop, 1, pfKey r die, v.rd r.src r.len, v.pfBad r die⟩ v.writes ∧
        Only { pf0 := true, pf1 := true, mem := true } v t) ∧
      (v.pfOk r a.act.pav die = true → 16 ≤ (v.pf die).length →
        exec (.prefetch die) s = .next (((v.bump aMEM_PF_OVF 1).evt 17 aMEM_EVENT 4).pfLog 3 r a.act.pav)) ∧
      (v.pfOk r a.act.pav die = false → exec (.prefetch die) s = .next
        (((((v.bump aMEM_PF_REFUSED 1).evt 17 aMEM_EVENT 3).bump aMEM_ACCESS_DENIED 1).evt 17 aMEM_EVENT 2).pfLog 2 r
          a.act.pav))) ∧
    (Fires s die 0x10 a q →
      let e := bitsOf a.act.arg 9 0
      let x := s.sub (e / 8) (e % 8)
      let win := a.slot + bitsOf a.act.arg 31 16
      let resets : Fields := { regs := true, tim := true, sched := true, subs := true, out := true }
      (u.egrOk e = true → x.state = 4 → (s.egr e).sending = none → Answers (.portRest die) s fun t =>
        OneSub s t (e / 8) (e % 8) { x with state := 5, reqSent := false, wake := false, sched := true, winEnd := win,
                                            since := u.tim.clk, pend := none } ∧
        t.out = .os (e / 8) (e % 8) 0x13 1 :: s.out ∧ Counted s t (aREST_COMMITS (e / 8) (e % 8)) 1 ∧ Only resets s t ∧
        KeepsRegs [aREST_COMMITS (e / 8) (e % 8), aTIM_BST_SLIP] s t) ∧
      (u.egrOk e = true → x.state = 4 → (s.egr e).sending ≠ none → Answers (.portRest die) s fun t =>
        OneSub s t (e / 8) (e % 8) { x with pend := some win } ∧ t.out = s.out ∧ Only resets s t ∧ KeepsRegs [aTIM_BST_SLIP] s t) ∧
      (u.egrOk e = false ∨ x.state ≠ 4 → exec (.portRest die) s = .next u))


/-- O19. On an open, unpaused entry of the action's pavilion and end, with no command of it due and no move of its die's
pager under way: a STREAM_SEND that fires keeps STEP, marks the step as acted and, for a reset that was not asked for
in the same cycle, runs again with the kindling count; a STREAM_DECODE keeps STEP and marks the step as acted,
and ends it RESYNC on an entry that awaits a reset, or CHUNK_LOST where the L-port is down and chunks lack; a
STREAM_UPDATE moves STEP on by 1 modulo 2^48, counts the kindling down, forgets the chunks received, and, where the
step acted and nothing skips its update, starts it on the free unit with the weight set it names, where R403 refuses
nothing, a token is free and the page-in is in time. -/
def Obligations.StreamActions : Prop :=
  ∀ (s : State) (die : Nat) (a : QAction) (q : List QAction),
    let u := s.fired die a
    let c := s.fireCycle die a
    let i := bitsOf a.act.arg 15 0
    let x := s.stream i
    x.state ≠ 0 → x.state ≠ 3 → x.pav = a.act.pav → s.strPending i = false →
      (Fires s die 3 a q → x.role = 1 → u.pager x.die = [] →
        let r := decide (x.state = 2) && x.reqAt != some c
        u.codecBad x r = false → Answers (.streamSend die) s fun t =>
          let y := t.stream i
          y.step = x.step ∧ y.acted = true ∧ y.noUpd = false ∧ y.fired = c ∧ y.data = x.data ∧ y.reqAt = none ∧
          (r = true → y.state = 1 ∧ y.kc = x.kindling ∧ y.lastReset = x.step) ∧
          (r = false → y.state = x.state ∧ y.kc = x.kc ∧ y.lastReset = x.lastReset) ∧
          (∀ j, j ≠ i → t.stream j = s.stream j)) ∧
      (Fires s die 4 a q → x.role = 2 → u.pager x.die = [] → x.rbit = false → x.state ≠ 1 →
        let lost := u.lUp x.lport = false ∧ x.lack c ≠ []
        Answers (.streamDecode die) s fun t =>
          let y := t.stream i
          y.step = x.step ∧ y.acted = true ∧ y.noUpd = true ∧ y.fired = c ∧
          (¬lost → y.state = x.state ∧ y.lastStatus = 4) ∧ (lost → y.state = 4 ∧ y.lastStatus = 1) ∧
          (∀ j, j ≠ i → t.stream j = s.stream j)) ∧
      (Fires s die 4 a q → x.role = 2 → u.pager x.die = [] → u.codecBad x false = false → x.state = 1 → x.rbit = false →
        x.check = 0 → x.lack c = [] → x.reEmit = false →
        Answers (.streamDecode die) s fun t =>
          let y := t.stream i
          y.step = x.step ∧ y.acted = true ∧ y.noUpd = false ∧ y.fired = c ∧ y.state = 1 ∧ y.kc = x.kc ∧
          (∀ j, j ≠ i → t.stream j = s.stream j)) ∧
      (Fires s die 5 a q →
        (x.acted = false ∨ x.noUpd = true → Answers (.streamUpdate die) s fun t =>
          t.stream i = { x with step := (x.step + 1) % 2 ^ 48, kc := x.kc - 1, got := [], rbit := false, acted := false,
                                noUpd := false, fired := c } ∧
          (∀ j, j ≠ i → t.stream j = s.stream j) ∧
          Only { regs := true, tim := true, sched := true, streams := true } s t) ∧
        (x.acted = true → x.noUpd = false → u.unitBusy x.unit = false →
          u.updCheck { x with wset := bitsOf a.act.arg 33 16 } 1 = 0 → u.tokensOk x.pav 1 c = true →
          (∃ m, x.pageIn = some m ∧ m ≤ mclkFrom c + 8) → Answers (.streamUpdate die) s fun t =>
          t.stream i = { x with step := (x.step + 1) % 2 ^ 48, kc := x.kc - 1, got := [], rbit := false, acted := false,
                                noUpd := false, fired := c, wset := bitsOf a.act.arg 33 16, uStep := x.step, upd := 1,
                                wbDone := false, l3Done := false, uFired := c, uFlags := x.flags } ∧
          (∀ j, j ≠ i → t.stream j = s.stream j) ∧
          (∃ r, (t.mx x.unit).run = some r ∧ r.stream = some (i, 1) ∧ r.step = x.step ∧ r.t0 = mclkFrom c + 8 ∧
            r.started = false) ∧
          (x.upd ≠ 13 → t.pager0 = s.pager0 ∧ t.pager1 = s.pager1) ∧
          Only { regs := true, tim := true, sched := true, streams := true, pager0 := true, pager1 := true, mxu := true,
                 tokens := true } s t))


/-- O20. On a valid scheduled group of the action's pavilion for which nothing of its next instance waits: COL_START that
fires starts the next instance in its slot, while one is in progress keeps the slot for it, or uses up one that a
notice has already ended; COL_LAUNCH runs the program where every count is complete and R316 refuses none of its
launches, and else the instance fails, with status 1 where a count is short, and the next is current; COL_UP sends the
partial and the stage awaits its down stream; COL_DOWN of the root sends its result down, once its program has ended,
of another stage what has come of the down stream; a stage action of an instance that failed uses up its turn. A stage action for a group of another pavilion changes nothing but the queue. -/
def Obligations.CollectiveActions : Prop :=
  ∀ (s : State) (die : Nat) (a : QAction) (q : List QAction) (x : Group),
    let g := bitsOf a.act.arg 11 0
    let u := s.fired die a
    let c := s.fireCycle die a
    s.grp g = some x → x.unsched = false →
      (x.pav ≠ a.act.pav → ∀ p ∈ [(8, Instr.colStart), (9, Instr.colLaunch), (0xA, Instr.colUp), (0xB, Instr.colDown)],
        Fires s die p.1 a q → exec (p.2 die) s = .next u) ∧
      (x.pav = a.act.pav →
        (Fires s die 8 a q → x.live = false → x.early = 0 → x.nxtFail = none → x.nextMiss = [] →
          exec (.colStart die) s = .next (u.setGrp g { x with live := true, state := 1, start := a.slot })) ∧
        (Fires s die 8 a q → x.live = true → x.nextStart = none →
          exec (.colStart die) s = .next (u.setGrp g { x with nextStart := some a.slot })) ∧
        (Fires s die 8 a q → x.live = false → 0 < x.early →
          exec (.colStart die) s = .next (u.setGrp g { x with early := x.early - 1 })) ∧
        (Fires s die 9 a q → x.live = true → x.state = 1 → x.unsent 9 = none → x.short u.tim.now = [] →
          (u.startStage g x a.iter c).1 = true → Answers (.colLaunch die) s fun t =>
          (∃ y, t.grp g = some y ∧ y.live = true ∧ y.state = 2 ∧ y.result = some (x.program g).1 ∧
            y.flags = orF x.flags (x.program g).2.1 ∧ y.step = x.step ∧ y.start = x.start ∧ y.members = x.members) ∧
          (∀ k, k ≠ g → t.grp k = s.grp k)) ∧
        (Fires s die 9 a q → x.live = true → x.state = 1 → x.unsent 9 = none → x.nxt = [] → x.nextStart = none → x.nxtFail = none →
          x.nextMiss = [] → x.short u.tim.now ≠ [] ∨ (u.startStage g x a.iter c).1 = false → Answers (.colLaunch die) s fun t =>
          (∃ y, t.grp g = some y ∧ y.live = false ∧ y.step = (x.step + 1) % 2 ^ 48 ∧
            y.lastStatus = (if x.short u.tim.now = [] then 3 else 1) ∧ y.cur = []) ∧
          t.streams = s.streams ∧ (x.short u.tim.now ≠ [] → t.mem = s.mem)) ∧
        (Fires s die 9 a q → ∀ f, x.unsent 9 = some f → Answers (.colLaunch die) s fun t =>
          t.grp g = some (x.settle { f with launch := false, owed := f.owed && (f.up || f.down) }) ∧ t.mem = s.mem ∧
            t.cells = s.cells) ∧
        (Fires s die 0xA a q → x.live = true → x.state = 2 → x.unsent 0xA = none → ∀ bs, x.result = some bs → x.parent ≠ none →
          Answers (.colUp die) s fun t => t.grp g = some { x with state := 4 } ∧ t.mem = s.mem) ∧
        (Fires s die 0xB a q → x.live = true → x.unsent 0xB = none → ∀ bs, x.result = some bs →
          x.parent ≠ none ∨ x.state = 2 → Answers (.colDown die) s fun t =>
          (∃ y, t.grp g = some y ∧ y.state = (if x.parent = none ∧ u.stageBusy g x = false then 3 else x.state) ∧
            y.downFired = true ∧ y.step = x.step ∧ y.result = some bs) ∧ t.mem = s.mem) ∧
        (Fires s die 0xA a q → ∀ f, x.unsent 0xA = some f → Answers (.colUp die) s fun t =>
          t.grp g = some (x.settle { f with up := false, owed := false }) ∧ t.mem = s.mem) ∧
        (Fires s die 0xB a q → ∀ f, x.unsent 0xB = some f → Answers (.colDown die) s fun t =>
          t.grp g = some (x.settle { f with down := false, owed := false }) ∧ t.mem = s.mem))


/-- O21. For each of the nineteen commands that a submission queue carries: one that cannot be taken now stays in its
queue; a failed descriptor read stops the queue; one with a reserved byte set is taken and completes with OPCODE-
class status 0xF0; one its function may not issue completes with 0xF1. An unknown opcode is taken and completes with
0xF0. A command that stays or stops its queue takes nothing and changes no unit. -/
def Obligations.HostCommandFrame : Prop :=
  ∀ (d : Desc) (s : State),
    let turned : Instr → Bool → Prop := fun k permitted =>
      (s.takeable d = false → exec k s = .next (s.untaken d)) ∧
      (s.takeable d = true → d.rdOk = false → exec k s = .next ((s.fetchDesc d.fn d.sq).sqStop d.fn d.sq)) ∧
      (s.takeable d = true → d.rdOk = true → d.rsvOk = false → exec k s = .next ((s.take d).cmdEnd d 0xF0 0 0)) ∧
      (Serves s d → permitted = false → exec k s = .next ((s.take d).cmdEnd d 0xF1 0 0))
    let pf := decide (d.fn = 0)
    let bound := (s.fnPav d.fn).isSome
    (∀ g blk ok, turned (.groupCreate d g blk ok) bound) ∧ (∀ g, turned (.groupDestroy d g) bound) ∧
    (∀ i a k blk ok, turned (.streamOpen d i a k blk ok) bound) ∧ (∀ i a, turned (.streamPause d i a) bound) ∧
    (∀ i a, turned (.streamResume d i a) bound) ∧ (∀ i a, turned (.streamReset d i a) bound) ∧
    (∀ i a, turned (.streamClose d i a) bound) ∧ (∀ img, turned (.imageLoad d img) pf) ∧
    (∀ a n, turned (.schedLaunch d a n) pf) ∧ (∀ a, turned (.schedStop d a) pf) ∧
    (∀ dest arm full egress trigger p, dest < 3 → turned (.captureStart d dest arm full egress trigger p) bound) ∧
    turned (.captureStop d) bound ∧ (∀ o n a ok, turned (.counterSnapshot d o n a ok) bound) ∧
    (∀ n a ok, turned (.logDrain d n a ok) pf) ∧ (∀ arm, turned (.timeArm d arm) pf) ∧
    (∀ blk ok, blk.length ≤ 4096 → turned (.pavPropose d blk ok) pf) ∧
    (∀ blk ok, blk.length ≤ 4096 → turned (.pavApprove d blk ok) (decide (s.pav.cust ≠ 0) && decide (d.fn = s.pav.cust))) ∧
    (s.takeable d = false → exec (.opcodeRefused d) s = .next (s.untaken d)) ∧
    (s.takeable d = true → d.rdOk = false → exec (.opcodeRefused d) s = .next ((s.fetchDesc d.fn d.sq).sqStop d.fn d.sq)) ∧
    (s.takeable d = true → d.rdOk = true → exec (.opcodeRefused d) s = .next ((s.take d).cmdEnd d 0xF0 0 0)) ∧
    Only { hif := true } s (s.untaken d) ∧ (s.untaken d).hif.taken = s.hif.taken ∧
    let stopped := (s.fetchDesc d.fn d.sq).sqStop d.fn d.sq
    stopped.hif.taken = s.hif.taken ∧ (stopped.sq d.fn d.sq).error = true ∧
    Only { regs := true, hif := true, out := true } s stopped

/-- O22. A TIME_ARM that the PF issues, with room in an enabled CQ without error and nothing lost before: TIM_STEP.ARM
takes its ARM; its descriptor is read at base + 64 times the SQ head, which moves on by one entry; where PCIe takes the
write, the CQ entry at its tail, at base + 32 times the tail, is written with the command's CID, TYPE
0, STATUS 0, the new SQ head, the slot and the cycle in which it was taken, and the CQ's phase; the CQ tail moves on and its phase turns
at the wrap; where it does not, the CQ is in error and FN_EVENT says so; no command is left taken; HIF_CMD_TAKEN counts it. -/
def Obligations.TimeArmAndCompletion : Prop :=
  ∀ (d : Desc) (arm : Bool) (s : State), Serves s d → d.fn = 0 → d.quiet = false →
    let u := s.take d
    let j := s.fld (aSQ_CTRL 0 d.sq) 23 16
    let q := s.cq 0 j
    let sz := s.ringSize (aCQ_CTRL 0 j)
    let head := ((s.sq 0 d.sq).head + 1) % s.ringSize (aSQ_CTRL 0 d.sq)
    let read := Emit.fetch 0 d.sq (s.sq 0 d.sq).head (s.ringBase (aSQ_BASE_LO 0 d.sq) + 64 * (s.sq 0 d.sq).head)
    u.cqRoom 0 j = true → q.lost = 0 → d.sq < 256 → j < 256 →
      (d.cplOk = true → Answers (.timeArm d arm) s fun t =>
        t.bit aTIM_STEP 0 = arm ∧ (t.sq 0 d.sq).head = head ∧ read ∈ t.out ∧
        .cqe 0 j q.tail (s.ringBase (aCQ_BASE_LO 0 j) + 32 * q.tail)
          (Cpl.bytes ⟨d.cid, 0, 0, 0, 0, head, 0, u.curSlot, u.curCclk, 0, d.sq⟩ q.phase) ∈ t.out ∧
        (t.cq 0 j).tail = (if q.tail + 1 = sz then 0 else q.tail + 1) ∧
        (t.cq 0 j).phase = (if q.tail + 1 = sz then !q.phase else q.phase) ∧
        t.hif.taken = s.hif.taken ∧ Counted s t aHIF_CMD_TAKEN 1 ∧ t.tim = u.tim ∧
        Only { regs := true, tim := true, hif := true, out := true } s t ∧ KeepsRegs [aTIM_STEP, aHIF_CMD_TAKEN] s t) ∧
      (d.cplOk = false → Answers (.timeArm d arm) s fun t =>
        t.bit aTIM_STEP 0 = arm ∧ (t.sq 0 d.sq).head = head ∧ read ∈ t.out ∧ (t.cq 0 j).error = true ∧
        (t.cq 0 j).tail = q.tail ∧ t.bit (aHIF_FN_EVENT 0) 3 = true ∧ t.hif.taken = s.hif.taken ∧ Counted s t aHIF_CMD_TAKEN 1 ∧
        Only { regs := true, tim := true, hif := true, out := true } s t)

/-- O23. A SCHED_LAUNCH of the PF with an image loaded, no schedule running, a START at least 1,024 slots ahead, a
calendar that passes R264 and valid groups starts the schedule with empty queues at the head of both lists, and ends a TAP
instruction that drives the pins; any
other completes with its status and starts nothing. A SCHED_STOP at least 1,024 slots ahead sets the earlier end and
waits. At its end, by STOP_SLOT or by ITERS, the schedule is no longer launched, its queues are empty, replay has
stopped, and a schedule with ITERS sets the PF's event. -/
def Obligations.ScheduleCommands : Prop :=
  ∀ (d : Desc) (s : State),
    let u := s.take d
    (Serves s d → d.fn = 0 →
      (∀ start iters, u.launchStatus start = 0 → ∃ v : State, exec (.schedLaunch d start iters) s = .next (v.cmdEnd d 0 0 0) ∧
        v.sched = { launched := true, start := start, iters := iters, stop := none, stoppers := [], desync := false,
                    q0 := [], q1 := [], pos0 := 0, pos1 := 0, fired0 := 0, fired1 := 0, fill0 := u.cyc, fill1 := u.cyc, skips := [], unload := false } ∧
        v.reg aPWR_START_LO = BitVec.ofNat 32 start ∧ v.reg aPWR_START_HI = BitVec.ofNat 32 (start / 2 ^ 32) ∧
        (s.bit aDET_RPL_CTRL 0 = false → v.rpl = s.rpl) ∧ (s.bit aDET_RPL_CTRL 0 = true → v.rpl.active = true) ∧
        v.mgt = (if s.tapDrives then { s.mgt with tapIr := 0xFF } else s.mgt) ∧
        (s.tapDrives = false → v.hif = u.hif ∧ v.out = u.out) ∧
        Only { regs := true, sched := true, rpl := true, free := true, mgt := true, hif := true, out := true } u v) ∧
      (∀ start iters, u.launchStatus start ≠ 0 → ∃ v : State,
        exec (.schedLaunch d start iters) s = .next (v.cmdEnd d (u.launchStatus start) 0 0) ∧ v.sched = s.sched ∧
        Only { regs := true, hif := true, out := true } u v) ∧
      (∀ start iters, s.img = none → s.dataComing = false → exec (.schedLaunch d start iters) s = .next (u.cmdEnd d 1 0 0)) ∧
      (∀ start iters, s.img ≠ none → s.sched.launched = true → exec (.schedLaunch d start iters) s = .next (u.cmdEnd d 2 0 0)) ∧
      (∀ start iters, s.img ≠ none → s.sched.launched = false → start < u.curSlot + 1024 →
        exec (.schedLaunch d start iters) s = .next (u.cmdEnd d 3 0 0)) ∧
      (∀ stop, s.sched.launched = false → exec (.schedStop d stop) s = .next (u.cmdEnd d 7 0 0)) ∧
      (∀ stop, s.sched.launched = true → stop < u.curSlot + 1024 → exec (.schedStop d stop) s = .next (u.cmdEnd d 3 0 0)) ∧
      (∀ stop, s.sched.launched = true → u.curSlot + 1024 ≤ stop → exec (.schedStop d stop) s = .next
        { u with sched := { s.sched with stop := some (match s.sched.stop with | some e => min e stop | none => stop),
                                         stoppers := s.sched.stoppers ++ [u.noOf d] } })) ∧
    (∀ e, s.schedEnd = some e → s.sched.launched = true → s.drained 0 = true → s.drained 1 = true → s.quiet = true →
      s.running = true → Answers (if s.sched.stop = some e then .schedStopDone else .schedItersEnd) s fun t =>
        t.sched = { s.sched with launched := false, unload := false, stop := none, stoppers := [], desync := false,
                                 q0 := [], q1 := [] } ∧
        t.tim.now = max s.tim.now (e * slotUnits) ∧ t.rpl.active = false ∧
        (s.sched.iters ≠ 0 → t.bit (aHIF_FN_EVENT 0) 6 = true) ∧ (s.sched.unload = false → t.img = s.img ∧ t.mem = s.mem) ∧
        (s.sched.unload = true → t.img = none) ∧ t.streams = s.streams ∧ t.cells = s.cells ∧ t.mxu = s.mxu) ∧
    (s.sched.launched = false ∨ s.drained 0 = false ∨ s.drained 1 = false ∨ s.quiet = false ∨ s.running = false →
      exec .schedStopDone s = .next s ∧ exec .schedItersEnd s = .next s)

/-- O24. An IMAGE_LOAD of the PF whose checks of the image's bytes all pass discards the image loaded before, with the
instruction stores, enters the image's regions, and waits while the sections are written; a check that fails leaves the loaded
image and completes with the status and the detail, which PWR_IMG_STATE shows; an image that could not be read, or whose
address is not aligned to 64 B, completes with 0xF2. When the writing ends the image counts:
its identity, guard band and calendar, the K8's own flows start over, and the command completes. -/
def Obligations.ImageCommands : Prop :=
  ∀ (d : Desc) (img : Image) (s : State),
    let u := s.take d
    let i := imageRead img
    (Serves s d → d.fn = 0 → s.memoriesOk →
      (img.dmaOk = false ∨ img.addr % 64 ≠ 0 → exec (.imageLoad d img) s = .next (u.cmdEnd d 0xF2 0 0)) ∧
      (img.dmaOk = true → img.addr % 64 = 0 → (u.loadStatus i).1 = 0 → Answers (.imageLoad d img) s fun t =>
        t.img = none ∧ t.loading = some (u.noOf d, i) ∧
        t.regions = (({ s with regions := s.regions.filter fun e => (regionOf e.2).kind == 2 } : State).putRegions i.region).regions ∧
        t.cel.counts = [] ∧ t.cel.pend = [] ∧ t.cel.queue = [] ∧ t.cel.full = [] ∧ t.cel.runs = s.cel.runs ∧
        (∀ a, a < istoreKey 0 0 ∨ istoreKey 1024 0 ≤ a → t.rd a 1 = u.rd a 1) ∧
        (∀ a, istoreKey 0 0 ≤ a → a < istoreKey 1024 0 → t.rd a 1 = [0]) ∧
        t.hif.taken = u.hif.taken ∧ t.bit aCEL_STATUS 1 = true ∧
        Only { regs := true, tim := true, hif := true, cel := true, img := true, loading := true, mem := true, poison := true,
               regions := true, out := true } s t ∧
        KeepsRegs [aCEL_STATUS] u t) ∧
      (img.dmaOk = true → img.addr % 64 = 0 → (u.loadStatus i).1 ≠ 0 → (u.loadStatus i).1 < 256 → (u.loadStatus i).2 < 256 →
        ∃ v : State, exec (.imageLoad d img) s = .next (v.cmdEnd d (u.loadStatus i).1 (u.loadStatus i).2 0) ∧
        v.fld aPWR_IMG_STATE 15 8 = (u.loadStatus i).1 ∧ v.fld aPWR_IMG_STATE 23 16 = (u.loadStatus i).2 ∧
        v.bit aPWR_EVENT 3 = true ∧ v.img = s.img ∧ v.loading = s.loading ∧
        ((u.loadStatus i).1 = 5 → u.dataLocked i = true → v.bit aMEM_EVENT 0 = true) ∧
        Only { regs := true, hif := true, out := true } u v ∧
        KeepsRegs ([aCEL_STATUS, aPWR_IMG_STATE] ++ blockRegs aPWR_EVENT ++ blockRegs aMEM_EVENT) u v)) ∧
    (∀ no ok, s.loading = some (no, img) → ∃ v : State, exec (.imageLoadDone ok) s = .next (v.cmdDone no 0 0 0 ok) ∧
      v.img = some img ∧ v.loading = none ∧ v.rte.cal.length = img.cal.length ∧ v.rte.flows = [] ∧
      v.reg aPWR_IMG_ID_LO = BitVec.ofNat 32 img.id ∧ v.reg aPWR_IMG_ID_HI = BitVec.ofNat 32 (img.id / 2 ^ 32) ∧
      v.fld aTIM_XGUARD 15 0 = img.guard % 65536 ∧ v.fld aTIM_XGUARD 31 16 = img.hyst % 65536 ∧
      v.fld aPWR_IMG_STATE 15 8 = 0 ∧ v.sched = s.sched ∧ v.groups = s.groups ∧ v.streams = s.streams ∧ v.cells = s.cells) ∧
    (∀ ok, s.loading = none → exec (.imageLoadDone ok) s = .next s)

/-- O25. For an enabled SQ of size S with head H and tail T, a doorbell value V is accepted only if V is less than S and
(V - T) mod S is at most (H - 1 - T) mod S; it then sets T to V and changes nothing else, and at most S - 1 commands
are untaken. For an enabled CQ of size S with tail W and head D it is accepted only if V is less than S and (V - D)
mod S is at most (W - D) mod S, and sets D. Any other value moves nothing, is counted in HIF_DB_INVALID and sets
DB_INVALID. -/
def Obligations.Doorbells : Prop :=
  ∀ (f i v : Nat) (s : State), f < 64 → i < 256 → s.hostServed = true →
    let invalid : Instr → Prop := fun c => Answers c s fun t => (∀ a b, t.sq a b = s.sq a b ∧ t.cq a b = s.cq a b) ∧
      Counted s t aHIF_DB_INVALID 1 ∧ t.bit (aHIF_FN_EVENT f) 0 = true
    (s.bit (aSQ_CTRL f i) 0 = true →
      let S := s.ringSize (aSQ_CTRL f i)
      let H := (s.sq f i).head
      let T := (s.sq f i).tail
      let good := v < S ∧ (v + S - T) % S ≤ (H + S - 1 + S - T) % S
      (good → Answers (.sqDoorbell f i 0 4 v) s fun t => t.sq f i = { s.sq f i with tail := v } ∧
        (v + S - H) % S ≤ S - 1 ∧ (∀ a b, 256 * a + b ≠ 256 * f + i → t.sq a b = s.sq a b) ∧
        (∀ a b, t.cq a b = s.cq a b) ∧ Only { hif := true } s t) ∧
      (¬good → invalid (.sqDoorbell f i 0 4 v))) ∧
    (s.cqOn f i = true →
      let S := s.ringSize (aCQ_CTRL f i)
      let W := (s.cq f i).tail
      let D := (s.cq f i).head
      let good := v < S ∧ (v + S - D) % S ≤ (W + S - D) % S
      (good → Answers (.cqDoorbell f i 0 4 v) s fun t => t.cq f i = { s.cq f i with head := v, was := s.cqHead f i, wasAt := s.tim.clk / 32 + 1 } ∧
        (∀ a b, 256 * a + b ≠ 256 * f + i → t.cq a b = s.cq a b) ∧ (∀ a b, t.sq a b = s.sq a b) ∧ Only { hif := true } s t) ∧
      (¬good → invalid (.cqDoorbell f i 0 4 v)))

/-- O26. A doorbell of another width, at another offset, of a page beyond the rings or of a disabled ring is counted in
HIF_DB_INVALID and sets DB_INVALID, and moves nothing. Enabling a ring of an allowed size starts it with head and
tail 0 (a CQ with phase 1); an SQ that names no enabled CQ, and a size outside 4 to 16, are ignored with
CFG_IGNORED; a CQ that an enabled SQ names stays enabled. -/
def Obligations.HostRings : Prop :=
  ∀ (f i : Nat) (s : State), f < 64 → s.hostServed = true →
    let so := aSQ_CTRL f i
    let co := aCQ_CTRL f i
    (∀ page off width v, off ≠ 0 ∨ width ≠ 4 ∨ 256 ≤ page ∨ s.bit (aSQ_CTRL f page) 0 = false →
      Answers (.sqDoorbell f page off width v) s fun t => (∀ a b, t.sq a b = s.sq a b) ∧ t.bit (aHIF_FN_EVENT f) 0 = true ∧
        Counted s t aHIF_DB_INVALID 1) ∧
    (∀ page off width v, off ≠ 0 ∨ width ≠ 4 ∨ 256 ≤ page ∨ s.cqOn f page = false →
      Answers (.cqDoorbell f page off width v) s fun t => (∀ a b, t.cq a b = s.cq a b) ∧ t.bit (aHIF_FN_EVENT f) 0 = true ∧
        Counted s t aHIF_DB_INVALID 1) ∧
    (∀ v : Word, i < 256 → s.mayWrite (.fn f) so = true → s.bit so 0 = false → bitOf v.toNat 0 = true →
      (sizeOk v.toNat = true → s.cqOn f (bitsOf v.toNat 23 16) = true → Answers (.sqCtrlWrite f i v) s fun t =>
        t.sq f i = ⟨0, 0, false, false⟩ ∧ t.bit so 0 = true ∧ t.fld so 8 4 = bitsOf v.toNat 8 4 ∧
        t.fld so 23 16 = bitsOf v.toNat 23 16 ∧ Only { regs := true, hif := true } s t ∧ KeepsRegs [so] s t) ∧
      (sizeOk v.toNat = false ∨ s.cqOn f (bitsOf v.toNat 23 16) = false →
        exec (.sqCtrlWrite f i v) s = .next (s.fnEvt f 4))) ∧
    (∀ v : Word, i < 256 → s.mayWrite (.fn f) co = true → s.bit co 0 = false → bitOf v.toNat 0 = true →
      (sizeOk v.toNat = true → Answers (.cqCtrlWrite f i v) s fun t =>
        t.cq f i = { s.cq f i with head := 0, tail := 0, phase := true, error := false, pend := 0, wasAt := 0 } ∧ t.bit co 0 = true ∧
        t.fld co 8 4 = bitsOf v.toNat 8 4 ∧ t.fld co 26 16 = bitsOf v.toNat 26 16 ∧ t.bit co 1 = bitOf v.toNat 1 ∧
        Only { regs := true, hif := true } s t ∧ KeepsRegs [co] s t) ∧
      (sizeOk v.toNat = false → exec (.cqCtrlWrite f i v) s = .next (s.fnEvt f 4))) ∧
    (∀ v : Word, i < 256 → s.mayWrite (.fn f) co = true → s.bit co 0 = true → bitOf v.toNat 0 = false →
      (s.reg co ^^^ v) &&& 0x000001F0 = 0 → s.cqNamed f i = true → exec (.cqCtrlWrite f i v) s = .next (s.fnEvt f 4))

/-- O27. With room back in a CQ that lost nothing, the oldest waiting completion is written with the present SQ head and
time, and its command is no longer taken; with completions lost, OVERFLOW_RECORD writes their count and clears it where PCIe takes the write;
at the end of the moderation time the CQ raises its vector, whose message has the address and the data of its table entry. COUNTER_SNAPSHOT writes the registers of the range by
DMA; LOG_DRAIN writes the oldest entries and moves LOG_DRAIN_SEQ past them; HIF_OCC_CLR clears the occurrence
counters of one block, but for those of bits set in that SCLK cycle, and no other register. -/
def Obligations.HostRingService : Prop :=
  ∀ s : State,
    (∀ f j t c, s.waiting1 f j = some t → t.cpl = some c → (s.cq f j).lost = 0 → s.cqRoom f j = true →
      exec (.cmdCompletionResume f j true) s = .next ((s.dropTaken t.no).cqWrite f j
        { c with aux := (s.sq f t.sq).head, slot := s.curSlot, cycle := s.curCclk }) ∧
      Answers (.cmdCompletionResume f j false) s fun w => (w.cq f j).error = true ∧ w.hif.taken = (s.hif.taken.filter fun x => x.no != t.no) ∧
        w.bit (aHIF_FN_EVENT f) 3 = true) ∧
    (∀ f j, s.waiting1 f j = none → ∀ ok, exec (.cmdCompletionResume f j ok) s = .next s) ∧
    (∀ f j, s.cqOn f j = true → (s.cq f j).error = false → (s.cq f j).lost ≠ 0 → 1 ≤ s.cqFree f j →
      (s.cqTakes f j = true → Answers (.overflowRecord f j) s fun t => (t.cq f j).lost = 0 ∧ t.bit (aHIF_FN_EVENT f) 2 = true ∧
        .cqe f j (s.cq f j).tail (s.ringBase (aCQ_BASE_LO f j) + 32 * (s.cq f j).tail) (Cpl.bytes ⟨0, 5, 0, 0, 0, 0, (s.cq f j).lost, s.curSlot, s.curCclk, 0, 0⟩ (s.cq f j).phase) ∈ t.out ∧
        Only { regs := true, hif := true, out := true } s t) ∧
      (s.cqTakes f j = false → Answers (.overflowRecord f j) s fun t => (t.cq f j).lost = (s.cq f j).lost ∧ (t.cq f j).error = true ∧
        t.bit (aHIF_FN_EVENT f) 3 = true ∧ Only { regs := true, hif := true, out := true } s t)) ∧
    (∀ f j, (s.cq f j).lost = 0 → exec (.overflowRecord f j) s = .next s) ∧
    (∀ f j, s.cqOn f j = true → s.bit (aCQ_CTRL f j) 1 = true → s.fld (aCQ_MODER f j) 31 16 ≠ 0 → (s.cq f j).pend ≠ 0 →
      Answers (.irqModerationTimeout f j) s fun t => (t.cq f j).pend = 0 ∧
        (s.tim.lock = true → t.tim.clk = max s.tim.clk ((s.cq f j).first + 8000 * s.fld (aCQ_MODER f j) 31 16)) ∧
        let vec := s.fld (aCQ_CTRL f j) 26 16
        (s.hif.msixOpen.contains (2048 * f + vec) = true → .msix f vec ((s.reg (msixKey f (16 * vec))).toNat +
          (s.reg (msixKey f (16 * vec + 4))).toNat * 2 ^ 32) (s.reg (msixKey f (16 * vec + 8))) ∈ t.out) ∧
        (s.hif.msixOpen.contains (2048 * f + vec) = false → 2048 * f + vec ∈ t.hif.msixPend) ∧
        t.regs = s.regs ∧ Only { tim := true, hif := true, out := true } s t) ∧
    (∀ d off len addr, Serves s d → (s.fnPav d.fn).isSome = true →
      let u := s.take d
      (snapRange off len = true → u.snapOwned d.fn off len = true → exec (.counterSnapshot d off len addr true) s = .next
        ((u.emit (.dma addr ((List.range (len / 4)).flatMap fun i => natLe 4 (u.peek (off + 4 * i)).toNat))).cmdEnd d 0 0 0)) ∧
      (snapRange off len = true → u.snapOwned d.fn off len = true →
        exec (.counterSnapshot d off len addr false) s = .next (u.cmdEnd d 0xF2 0 0)) ∧
      (snapRange off len = false → ∀ ok, exec (.counterSnapshot d off len addr ok) s = .next (u.cmdEnd d 1 0 0)) ∧
      (snapRange off len = true → u.snapOwned d.fn off len = false →
        ∀ ok, exec (.counterSnapshot d off len addr ok) s = .next (u.cmdEnd d 2 0 0))) ∧
    (∀ d limit addr, Serves s d → d.fn = 0 → s.log.bad = [] → s.log.drainSeq ≤ s.log.wrSeq →
      Answers (.logDrain d limit addr true) s fun t =>
        ∃ es : List LogEntry, es.length ≤ min limit (s.log.wrSeq - s.log.drainSeq) ∧ .dma addr (es.flatMap entryBytes) ∈ t.out ∧
          t.log.drainSeq = s.log.drainSeq + es.length ∧ t.log.wrSeq = s.log.wrSeq ∧ t.log.ring = s.log.ring ∧
          ∀ k, k < es.length → s.ringEntry (s.log.drainSeq + k) = es[k]?) ∧
    (∀ v : Word, s.mayWrite (.fn 0) aHIF_OCC_CLR = true → bitOf v.toNat 31 = true → Answers (.hifOccClr (.fn 0) v) s fun t =>
      (∀ o, isOcc o = true → o / 0x10000 = bitsOf v.toNat 7 0 → (∀ x ∈ s.now4.bits, x.1 + 4 + 4 * (x.2 / 4) ≠ o) →
        t.reg o = regReset o) ∧
      (∀ o, o ≠ aHIF_OCC_CLR → isOcc o = false ∨ o / 0x10000 ≠ bitsOf v.toNat 7 0 → t.reg o = s.reg o) ∧
      Only { regs := true } s t)

/-- O28. An FLR of a function clears its rings, its vectors and its function page, discards its waiting completions, and
lets what it has taken run unheard; of the PF it aborts an image load, whose regions and
command are gone; a warm reset does not stop it. The loss of the host link and a hot reset do
so for every function. No other function's registers change, and the fabric goes on: memories, schedule, streams,
groups, ports and time are as before. -/
def Obligations.FunctionResets : Prop :=
  ∀ s : State,
    let fabric : Fields := { regs := true, hif := true, log := true, loading := true, regions := true, out := true }
    let loads : List Nat := match s.loading with | some (_, img) => img.region.map regionWord | none => []
    let aborted : State → Prop := fun t => t.loading = none ∧ t.regions = (s.regions.filter fun e => !loads.contains e.2) ∧
      (∀ no img, s.loading = some (no, img) → ∀ k ∈ t.hif.taken, k.no ≠ no)
    let gone : State → Nat → Prop := fun t f =>
      (∀ i, i < 256 → t.sq f i = ⟨0, 0, false, false⟩ ∧ t.cq f i = cqInit) ∧
      (∀ k ∈ t.hif.taken, k.fn = f → k.orphan = true ∧ k.cpl = none) ∧
      (∀ k ∈ t.hif.msixOpen, k / 2048 ≠ f) ∧ (∀ k ∈ t.hif.msixPend, k / 2048 ≠ f)
    (∀ f, f < 64 → s.hostServed = true ∨ s.boot.warm = true → Answers (.flr f) s fun t =>
      gone t f ∧ (f = 0 → aborted t) ∧ (f ≠ 0 → t.loading = s.loading ∧ t.regions = s.regions) ∧ Only fabric s t ∧
      (∀ e i, e ≠ f → e < 64 → i < 256 → t.sq e i = s.sq e i ∧ t.cq e i = s.cq e i) ∧
      (f ≠ 0 → (∀ o, o < fnPage f ∨ fnPage f + 0x8000 ≤ o → t.reg o = s.reg o) ∧
        ∀ o, fnPage f ≤ o → o < fnPage f + 0x8000 → t.reg o = regReset o)) ∧
    (Answers .hostLinkDown s fun t => t.hif.linkUp = false ∧ (∀ f, f < 64 → gone t f) ∧ aborted t ∧ Only fabric s t) ∧
    (Answers .hotReset s fun t => t.hif.linkUp = s.hif.linkUp ∧ (∀ f, f < 64 → gone t f) ∧ aborted t ∧ Only fabric s t)

/-- O29. For every state and every issue of NOP, SLI, SADDI, SADD, SSUB, SMUL, SAND, SOR or SXOR whose destination a
program can write, the machine answers the state in which time has come to the issue cycle, a single-bit error in the instruction word is
corrected, and nothing has changed but the cell's program position and, but for NOP, the destination register, which
takes the 32-bit result and can be read after its latency. Where the destination of a scalar instruction is SX0, no
register changes and the cell goes on to the next instruction; where it is SX1-SX3 or SX24-SX31, the cell faults with
cause 1 (ILLEGAL) in the issue cycle; the shifts may have taken a free value, and SLD has corrected the word it read. -/
def Obligations.ScalarResults : Prop :=
  (∀ (s : State) (cell : Nat) (i : Ins) (r : Run) (c : Nat), sxWritable i.dst →
     let x := s.cell cell
     let a := x.sxw i.a
     let b := x.sxw i.b
     let put : Word → Nat → Outcome := fun v l => .next (s.retired cell c i
       { x with sx := x.sx.set i.dst v, avail := tblSet x.avail (sxR i.dst) (c + l) })
     (Issues s cell i r [] c →
       (i.op = 0x00 → exec (.nop cell) s = .next (s.retired cell c i x)) ∧
       (i.op = 0x09 → exec (.sli cell) s = put (BitVec.ofNat 32 i.imm) 1)) ∧
     (Issues s cell i r [sxR i.a] c → i.op = 0x0A → exec (.saddi cell) s = put (a + BitVec.ofNat 32 i.imm) 1) ∧
     (Issues s cell i r [sxR i.a, sxR i.b] c →
       (i.op = 0x01 → exec (.sadd cell) s = put (a + b) 1) ∧
       (i.op = 0x02 → exec (.ssub cell) s = put (a - b) 1) ∧
       (i.op = 0x03 → exec (.smul cell) s = put (a * b) 2) ∧
       (i.op = 0x04 → exec (.sand cell) s = put (a &&& b) 1) ∧
       (i.op = 0x05 → exec (.sor cell) s = put (a ||| b) 1) ∧
       (i.op = 0x06 → exec (.sxor cell) s = put (a ^^^ b) 1))) ∧
  (∀ (s : State) (cell : Nat) (i : Ins) (r : Run) (c : Nat),
     let x := s.cell cell
     let does : Instr → Prop := fun k =>
       (i.dst = 0 → exec k s = .next (s.retired cell c i x)) ∧
       (sxReadOnly i.dst → exec k s = .next ((s.issued cell c i).cellFault cell 1 c))
     let doesFree : Instr → Prop := fun k => ∃ n,
       (i.dst = 0 → exec k s = .next ({ s with free := s.free + n }.retired cell c i x)) ∧
       (sxReadOnly i.dst → exec k s = .next ({ s.issued cell c i with free := s.free + n }.cellFault cell 1 c))
     (Issues s cell i r [] c → i.op = 0x09 → does (.sli cell)) ∧
     (Issues s cell i r [sxR i.a] c → i.op = 0x0A → does (.saddi cell)) ∧
     (Issues s cell i r [sxR i.a] c → i.op = 0x10 → (s.fetched cell c).sramFault cell (x.addr i) 4 true = none →
       let k := cellKey cell (x.addr i)
       (i.dst = 0 → exec (.sld cell) s = .next ((s.retired cell c i x).correct k 4)) ∧
       (sxReadOnly i.dst → exec (.sld cell) s = .next (((s.issued cell c i).correct k 4).cellFault cell 1 c))) ∧
     (Issues s cell i r [sxR i.a, sxR i.b] c →
       (i.op = 0x01 → does (.sadd cell)) ∧ (i.op = 0x02 → does (.ssub cell)) ∧ (i.op = 0x03 → does (.smul cell)) ∧
       (i.op = 0x04 → does (.sand cell)) ∧ (i.op = 0x05 → does (.sor cell)) ∧ (i.op = 0x06 → does (.sxor cell)) ∧
       (i.op = 0x07 → doesFree (.sshl cell)) ∧ (i.op = 0x08 → doesFree (.sshr cell))))

/-- O30. For every state and every issue of SSHL or SSHR with a writable destination, and of VSHL or VSHR on existing
registers: a left shift by less than 32 gives the shifted word; a right shift by less than 32 gives the shifted
word, but where the top bit of the word is 1 the bits that enter are free (model's choice, log entry 48: the spec
does not say whether they are the sign); an amount of 32 or more gives a free word. Nothing but the destination, the
cell's position, time, the count of free values and a corrected instruction word changes. A vector shift on a register
that does not exist is an ILLEGAL fault. -/
def Obligations.ShiftResults : Prop :=
  ∀ (s : State) (cell : Nat) (i : Ins) (r : Run) (c : Nat),
    let x := s.cell cell
    let left : Word → Nat → Nat → Prop := fun a n v => n < 32 → v = (a <<< n).toNat
    let right : Word → Nat → Nat → Prop := fun a n v =>
      (n < 32 → v % 2 ^ (32 - n) = (a >>> n).toNat) ∧ (n < 32 → a.msb = false → v = (a >>> n).toNat)
    let scalar : Instr → (Word → Nat → Nat → Prop) → Prop := fun k f =>
      ∃ v n, v < 2 ^ 32 ∧ f (x.sxw i.a) (x.sxw i.b).toNat v ∧ exec k s = .next ({ s with free := s.free + n }.retired cell c i
        { x with sx := x.sx.set i.dst (BitVec.ofNat 32 v), avail := tblSet x.avail (sxR i.dst) (c + 1) })
    let vector : Instr → (Word → Nat → Nat → Prop) → Prop := fun k f =>
      ∃ (v : Nat → Nat) (n : Nat), (∀ j, j < 16 → v j < 2 ^ 32 ∧ f (x.vxw i.a j) (x.vxw i.b j).toNat (v j)) ∧
        exec k s = .next ({ s with free := s.free + n }.retired cell c i
          { x with
            vx := x.vx.set i.dst ((List.range 16).map fun j =>
              if x.active i j then BitVec.ofNat 32 (v j) else x.vxw i.dst j)
            avail := tblSet x.avail (vxR i.dst) (c + 2) })
    (Issues s cell i r [sxR i.a, sxR i.b] c → sxWritable i.dst →
      (i.op = 0x07 → scalar (.sshl cell) left) ∧ (i.op = 0x08 → scalar (.sshr cell) right)) ∧
    (Issues s cell i r [vxR i.a, vxR i.b] c →
      (vxOk [i.dst, i.a, i.b] = true → (i.op = 0x55 → vector (.vshl cell) left) ∧ (i.op = 0x56 → vector (.vshr cell) right)) ∧
      (vxOk [i.dst, i.a, i.b] = false → ∀ k, (i.op = 0x55 ∧ k = .vshl cell) ∨ (i.op = 0x56 ∧ k = .vshr cell) →
        exec k s = .next ((s.issued cell c i).cellFault cell 1 c)))

/-- O31. For every state and every issue of VADD, VSUB, VMUL, VFMA, VMAX, VMIN, VRCP, VDIV, VPWL, VIADD, VIMUL, VAND,
VOR, VXOR, VSEL or VHASH on VX registers that exist, the active lanes of the destination take the result of the
number-format operation on the lanes read, the other lanes keep their value, the flags of the active lanes join the
launch's, and nothing else changes but time, the cell's position and a corrected instruction word; a register number
above 15 is an ILLEGAL fault. -/
def Obligations.LaneResults : Prop :=
  ∀ (s : State) (cell : Nat) (i : Ins) (r : Run) (c : Nat),
    let x := s.cell cell
    let lanes : List Nat → Nat → (Nat → Nat × Nat) → Outcome := fun regs l f =>
      if vxOk (i.dst :: regs) then
        .next ((s.runFlags r (x.laneFlags i fun j => (f j).2)).retired cell c i
          { x with
            vx := x.vx.set i.dst ((List.range 16).map fun j =>
              if x.active i j then BitVec.ofNat 32 (f j).1 else x.vxw i.dst j)
            avail := tblSet x.avail (vxR i.dst) (c + l) })
      else .next ((s.issued cell c i).cellFault cell 1 c)
    let a := fun j => (x.vxw i.a j).toNat
    let b := fun j => (x.vxw i.b j).toNat
    let word : (Nat → Word) → Nat → Nat × Nat := fun f j => ((f j).toNat, 0)
    (Issues s cell i r [vxR i.a, vxR i.b] c →
      (i.op = 0x40 → exec (.vadd cell) s = lanes [i.a, i.b] 4 fun j => fadd (a j) (b j)) ∧
      (i.op = 0x41 → exec (.vsub cell) s = lanes [i.a, i.b] 4 fun j => fsub (a j) (b j)) ∧
      (i.op = 0x42 → exec (.vmul cell) s = lanes [i.a, i.b] 4 fun j => fmul (a j) (b j)) ∧
      (i.op = 0x44 → exec (.vmax cell) s = lanes [i.a, i.b] 2 fun j => fmax (a j) (b j)) ∧
      (i.op = 0x45 → exec (.vmin cell) s = lanes [i.a, i.b] 2 fun j => fmin (a j) (b j)) ∧
      (i.op = 0x47 → exec (.vdiv cell) s = lanes [i.a, i.b] 16 fun j => fdiv (a j) (b j)) ∧
      (i.op = 0x50 → exec (.viadd cell) s = lanes [i.a, i.b] 2 fun j => iadd (a j) (b j)) ∧
      (i.op = 0x51 → exec (.vimul cell) s = lanes [i.a, i.b] 4 fun j => imul (a j) (b j)) ∧
      (i.op = 0x52 → exec (.vand cell) s = lanes [i.a, i.b] 2 (word fun j => x.vxw i.a j &&& x.vxw i.b j)) ∧
      (i.op = 0x53 → exec (.vor cell) s = lanes [i.a, i.b] 2 (word fun j => x.vxw i.a j ||| x.vxw i.b j)) ∧
      (i.op = 0x54 → exec (.vxor cell) s = lanes [i.a, i.b] 2 (word fun j => x.vxw i.a j ^^^ x.vxw i.b j))) ∧
    (Issues s cell i r [vxR i.a, vxR i.b, vxR i.dst] c → i.op = 0x43 →
      exec (.vfma cell) s = lanes [i.a, i.b, i.dst] 4 fun j => ffma (a j) (b j) (x.vxw i.dst j).toNat) ∧
    (Issues s cell i r [vxR i.a] c →
      (i.op = 0x46 → exec (.vrcp cell) s = lanes [i.a] 12 fun j => frcp (a j)) ∧
      (i.op = 0x4A → exec (.vpwl cell) s =
        lanes [i.a] 6 fun j => pwl (if bitOf i.imm 0 then shapeTable else gateTable) (a j))) ∧
    (Issues s cell i r [mkR (i.imm % 4), vxR i.a, vxR i.b] c → i.op = 0x59 →
      exec (.vsel cell) s = lanes [i.a, i.b] 2
        (word fun j => if (x.mask.getD (i.imm % 4) 0).testBit j then x.vxw i.a j else x.vxw i.b j)) ∧
    (Issues s cell i r [sxR 16, sxR 17, sxR 18, sxR 19, sxR i.a, sxR i.b] c → i.op = 0x78 →
      exec (.vhash cell) s = lanes [] 10 fun j =>
        (yelHash x.seed 4 x.hashStep (x.sxw i.a).toNat (x.sxw i.b).toNat (i.imm + j) / 2 ^ 32, 0))

/-- O32. For every state and every issue on registers that exist: VRSUM writes the tree sum to lane 0 and +0 to the
others; VTSUM replaces the pair of registers by the pair sum, lane by lane; VCMP writes the active lanes' bits of
its mask register; VCVT writes each active lane in its FMT's grid, a free value where the spec states no result (a
clamped INT32 2^31 − 1; model's choice, log entry 49); VBSCALE writes the scale of the 32 lanes for a block format, a
free value for another (log entry 49). The flags of the lanes join the launch's, and nothing else changes but time, the
cell's position and a corrected instruction word. A register that does not exist is an ILLEGAL fault, as is a VBSCALE to
a read-only register; one to SX0 writes nothing. -/
def Obligations.ReductionsAndConversions : Prop :=
  ∀ (s : State) (cell : Nat) (i : Ins) (r : Run) (c : Nat),
    let x := s.cell cell
    let illegal : Instr → Prop := fun k => exec k s = .next ((s.issued cell c i).cellFault cell 1 c)
    let word := fun a j => (x.vxw a j).toNat
    let lanes := fun a => (List.range 16).map (word a)
    let kept := fun (f : Nat → Nat) => (List.range 16).map fun j =>
      if x.active i j then BitVec.ofNat 32 (f j) else x.vxw i.dst j
    (Issues s cell i r [vxR i.a] c → i.op = 0x48 →
      (vxOk [i.dst, i.a] = false → illegal (.vrsum cell)) ∧
      (vxOk [i.dst, i.a] = true → let t := treeSum fadd 4 (lanes i.a)
        exec (.vrsum cell) s = .next ((s.runFlags r t.2).retired cell c i
          { x with vx := x.vx.set i.dst (BitVec.ofNat 32 t.1 :: List.replicate 15 0)
                   avail := tblSet x.avail (vxR i.dst) (c + 8) }))) ∧
    (Issues s cell i r [vxR i.a, vxR i.dst, vxR (i.dst + 1)] c → i.op = 0x49 →
      (vxOk [i.dst + 1, i.a] = false → illegal (.vtsum cell)) ∧
      (vxOk [i.dst + 1, i.a] = true → let f := fun j => compStep (word i.dst j) (word (i.dst + 1) j) (word i.a j)
        exec (.vtsum cell) s = .next ((s.runFlags r (x.laneFlags i fun j => (f j).2.2)).retired cell c i
          { x with vx := (x.vx.set (i.dst + 1) ((List.range 16).map fun j => BitVec.ofNat 32 (f j).2.1)).set i.dst
                     ((List.range 16).map fun j => BitVec.ofNat 32 (f j).1)
                   avail := tblSet (tblSet x.avail (vxR (i.dst + 1)) (c + 12)) (vxR i.dst) (c + 12) }))) ∧
    (Issues s cell i r [vxR i.a, vxR i.b] c → i.op = 0x58 →
      (vxOk [i.a, i.b] = false ∨ 4 ≤ i.dst ∨ i.imm % 8 = 7 → illegal (.vcmp cell)) ∧
      (vxOk [i.a, i.b] = true → i.dst < 4 → i.imm % 8 ≠ 7 → ∃ m, m < 2 ^ 16 ∧
        (∀ j, j < 16 → m.testBit j =
          if x.active i j then cmpV (i.imm % 8) (decodeF fp32 (word i.a j)) (decodeF fp32 (word i.b j))
          else (x.mask.getD i.dst 0).testBit j) ∧
        exec (.vcmp cell) s = .next ((s.runFlags r (x.laneFlags i fun j =>
            nanFlag [decodeF fp32 (word i.a j), decodeF fp32 (word i.b j)])).retired cell c i
          { x with mask := x.mask.set i.dst m, avail := tblSet x.avail (mkR i.dst) (c + 2) }))) ∧
    (Issues s cell i r (vxR i.a :: (if blockFmt i.fmt || decide (i.rm = 1) then [sxR i.b] else []) ++ rndRegs i) c → i.op = 0x60 →
      (vxOk [i.dst, i.a] = false → illegal (.vcvt cell)) ∧
      (vxOk [i.dst, i.a] = true → ∃ (v : Nat → Nat × Nat) (n : Nat),
        (∀ j, j < 16 → (v j).2 = (cvtLane x i j).2 ∧ ∀ w, (cvtLane x i j).1 = some w → (v j).1 = w) ∧
        ((∀ j, j < 16 → (cvtLane x i j).1 ≠ none) → n = 0) ∧
        exec (.vcvt cell) s = .next (({ s with free := s.free + n }.runFlags r (x.laneFlags i fun j => (v j).2)).retired cell c i
          { x with vx := x.vx.set i.dst (kept fun j => (v j).1), avail := tblSet x.avail (vxR i.dst) (c + 4) }))) ∧
    (Issues s cell i r [vxR i.a, vxR (i.a + 1)] c → i.op = 0x61 →
      (15 ≤ i.a → illegal (.vbscale cell)) ∧
      (i.a < 15 → sxWritable i.dst →
        (∀ e, emaxOf i.fmt = some e → let b := blockScale e (lanes i.a ++ lanes (i.a + 1))
          exec (.vbscale cell) s = .next ((s.runFlags r b.2).retired cell c i
            { x with sx := x.sx.set i.dst (BitVec.ofNat 32 b.1), avail := tblSet x.avail (sxR i.dst) (c + 6) })) ∧
        (emaxOf i.fmt = none → ∃ w : Word,
          exec (.vbscale cell) s = .next ({ s with free := s.free + 1 }.retired cell c i
            { x with sx := x.sx.set i.dst w, avail := tblSet x.avail (sxR i.dst) (c + 6) }))) ∧
      (i.a < 15 → ∃ fl n, let u := { s with free := s.free + n }.runFlags r fl
        (∀ e, emaxOf i.fmt = some e → fl = (blockScale e (lanes i.a ++ lanes (i.a + 1))).2 ∧ n = 0) ∧
        (i.dst = 0 → exec (.vbscale cell) s = .next (u.retired cell c i x)) ∧
        (sxReadOnly i.dst → exec (.vbscale cell) s = .next ((u.issued cell c i).cellFault cell 1 c))))

/-- O33. For every state with canonical memories and every issue: SLD and VLD read, SST and VST write, their 4 bytes or
the 16 elements of their FMT at SX[SRCA] + IMM; VLDX and VSTX a word per active lane at SX[SRCA] + the lane's index, the
highest lane winning; VADDX adds to it. A misaligned address is ALIGN, one beyond 16 KiB BOUNDS, a read of an
uncorrectable word ECC_DATA, and then nothing is stored; a register that does not exist, or a VADDX of another FMT, is
ILLEGAL. A single-bit error in what is read is corrected. Every byte outside the addressed ones reads as before. -/
def Obligations.CellLoadsAndStores : Prop :=
  ∀ (s : State) (cell : Nat) (i : Ins) (r : Run) (c : Nat), s.memoriesOk →
    let x := s.cell cell
    let u := s.fetched cell c
    let k := cellKey cell (x.addr i)
    let n := fmtBytes i.fmt
    let fault : Instr → Nat → Prop := fun com f => exec com s = .next ((s.issued cell c i).cellFault cell f c)
    let faults : Instr → Nat → Bool → Prop := fun com n read => ∀ f, u.sramFault cell (x.addr i) n read = some f → fault com f
    let lane := fun j => cellKey cell (x.laneAddr i j)
    let laneFaults : Instr → Bool → Prop := fun com read => ∀ f, u.laneFault x i cell read = some f → fault com f
    let word := fun a j => (x.vxw a j).toNat
    let loaded := fun (l : Nat) (f : Nat → Nat) => s.retired cell c i
      { x with vx := x.vx.set i.dst ((List.range 16).map fun j => if x.active i j then BitVec.ofNat 32 (f j) else x.vxw i.dst j)
               avail := tblSet x.avail (vxR i.dst) (c + l) }
    let stored : Instr → State → (Nat → Prop) → (State → Prop) → Prop := fun com v hit P => Answers com s fun t =>
      Only { mem := true, poison := true } v t ∧ P t ∧
      ∀ a m, (∀ b, a ≤ b → b < a + m → ¬ hit b) → t.rd a m = u.rd a m
    let atWord := fun (j b : Nat) => lane j ≤ b ∧ b < lane j + 4
    (Issues s cell i r [sxR i.a] c → i.op = 0x10 → faults (.sld cell) 4 true ∧
      (u.sramFault cell (x.addr i) 4 true = none → sxWritable i.dst → exec (.sld cell) s = .next ((s.retired cell c i
        { x with sx := x.sx.set i.dst (BitVec.ofNat 32 (leNat (u.rd k 4)))
                 avail := tblSet x.avail (sxR i.dst) (c + 2) }).correct k 4))) ∧
    (Issues s cell i r [sxR i.a, sxR i.b] c → i.op = 0x11 → faults (.sst cell) 4 false ∧
      (u.sramFault cell (x.addr i) 4 false = none →
        stored (.sst cell) (s.retired cell c i x) (fun b => k ≤ b ∧ b < k + 4) fun t =>
          leNat (t.rd k 4) = (x.sxw i.b).toNat)) ∧
    (Issues s cell i r [sxR i.a] c → i.op = 0x70 → (16 ≤ i.dst → fault (.vld cell) 1) ∧ (i.dst < 16 →
      faults (.vld cell) n true ∧
      (u.sramFault cell (x.addr i) n true = none → exec (.vld cell) s =
        .next ((loaded 3 fun j => loadLane i.fmt (elemAt i.fmt (u.rd k n) j)).correct k n)))) ∧
    (Issues s cell i r (sxR i.a :: vxR i.b :: rndRegs i) c → i.op = 0x71 → (16 ≤ i.b → fault (.vst cell) 1) ∧ (i.b < 16 →
      faults (.vst cell) n false ∧
      (u.sramFault cell (x.addr i) n false = none →
        let e := fun j => storeLane i.fmt (x.rnd i 0 j) (word i.b j)
        stored (.vst cell) ((s.runFlags r (x.laneFlags i fun j => (e j).2)).retired cell c i x)
          (fun b => k ≤ b ∧ b < k + n) fun t => ∀ j, j < 16 → elemAt i.fmt (t.rd k n) j =
            if x.active i j then (e j).1 else elemAt i.fmt (u.rd k n) j))) ∧
    (Issues s cell i r [sxR i.a, vxR i.b] c → i.op = 0x72 → (16 ≤ i.dst ∨ 16 ≤ i.b → fault (.vldx cell) 1) ∧
      (i.dst < 16 → i.b < 16 → laneFaults (.vldx cell) true ∧
      (u.laneFault x i cell true = none → exec (.vldx cell) s =
        .next ((loaded 16 fun j => leNat (u.rd (lane j) 4)).correctLanes x i cell)))) ∧
    (Issues s cell i r [sxR i.a, vxR i.b, vxR i.dst] c →
      (i.op = 0x73 → (16 ≤ i.dst ∨ 16 ≤ i.b → fault (.vstx cell) 1) ∧ (i.dst < 16 → i.b < 16 →
        laneFaults (.vstx cell) false ∧ (u.laneFault x i cell false = none →
        stored (.vstx cell) (s.retired cell c i x) (fun b => ∃ j, j < 16 ∧ x.active i j = true ∧ atWord j b) fun t =>
          ∀ j, j < 16 → x.active i j = true → (∀ h, j < h → h < 16 → x.active i h = true → lane h ≠ lane j) →
            leNat (t.rd (lane j) 4) = word i.dst j))) ∧
      (i.op = 0x74 → (16 ≤ i.dst ∨ 16 ≤ i.b ∨ (i.fmt ≠ 0 ∧ i.fmt ≠ 6) → fault (.vaddx cell) 1) ∧
        (i.dst < 16 → i.b < 16 → i.fmt = 0 ∨ i.fmt = 6 → laneFaults (.vaddx cell) true ∧
        (u.laneFault x i cell true = none →
        let v := fun j => (if i.fmt = 0 then fadd else iadd) (leNat (u.rd (lane j) 4)) (word i.dst j)
        ∃ fl, stored (.vaddx cell) (((s.runFlags r fl).retired cell c i x).correctLanes x i cell)
          (fun b => ∃ j, j < 16 ∧ x.active i j = true ∧ atWord j b) (fun t =>
            ∀ j, j < 16 → x.active i j = true → (∀ h, h ≠ j → h < 16 → x.active i h = true → lane h ≠ lane j) →
              t.rd (lane j) 4 = natLe 4 (v j).1) ∧
          ((∀ j h, j < h → h < 16 → x.active i j = true → x.active i h = true → lane h ≠ lane j) →
            fl = x.laneFlags i fun j => (v j).2)))))

/-- O34. For every state and every issue: LOOP takes its count from IMM[15:0] or from SX24-SX31, a count of 0 goes on
behind the body, another opens a loop whose body is then repeated until the count is used up, a fifth open loop is
LOOP_DEPTH and another SRCA ILLEGAL; the next instruction issues in the next cycle. WAITC lets nothing issue before
its cycle of the launch slot; where that has passed, the next instruction issues in the next cycle and
CEL_WAITC_LATE counts it. Nothing else changes but time, the cell's position and a corrected instruction word. -/
def Obligations.LoopAndWait : Prop :=
  ∀ (s : State) (cell : Nat) (i : Ins) (r : Run) (c : Nat),
    let x := s.cell cell
    let u := s.fetched cell c
    let n := if i.a = 0 then i.imm % 65536 else (x.sxw i.a).toNat
    let len := i.imm / 65536
    (Issues s cell i r (if i.a = 0 then [] else [sxR i.a]) c → i.op = 0xF0 →
      (i.a ≠ 0 → i.a < 24 → exec (.loop cell) s = .next ((s.issued cell c i).cellFault cell 1 c)) ∧
      (i.a = 0 ∨ 24 ≤ i.a →
        (4 ≤ x.loops.length → exec (.loop cell) s = .next ((s.issued cell c i).cellFault cell 11 c)) ∧
        (x.loops.length < 4 → n = 0 → exec (.loop cell) s = .next (s.went cell c i x (x.pos + 1 + len) (c + 1))) ∧
        (x.loops.length < 4 → n ≠ 0 → len = 0 → exec (.loop cell) s = .next (s.went cell c i x (x.pos + 1) (c + 1))) ∧
        (x.loops.length < 4 → n ≠ 0 → len ≠ 0 → exec (.loop cell) s = .next (u.setCell cell
          { x with last := tblSet x.last i.op c, loops := (x.pos + 1, x.pos + 1 + len, n - 1) :: x.loops, pos := x.pos + 1,
                   next := c + 1 })))) ∧
    (Issues s cell i r [] c → i.op = 0x00 → ∀ first left ls, x.loops = (first, x.pos + 1, left) :: ls →
      (left ≠ 0 → exec (.nop cell) s = .next (u.setCell cell
        { x with last := tblSet x.last i.op c, loops := (first, x.pos + 1, left - 1) :: ls, pos := first, next := c + 1 })) ∧
      (left = 0 → exec (.nop cell) s = .next (u.setCell cell
        ({ x with last := tblSet x.last i.op c, loops := ls }.goTo (x.pos + 1) (c + 1))))) ∧
    (Issues s cell i r [] c → i.op = 0xF1 →
      (c ≤ r.slot0 + i.imm → exec (.waitc cell) s = .next (s.went cell c i x (x.pos + 1) (max (c + 1) (r.slot0 + i.imm)))) ∧
      (r.slot0 + i.imm < c → Answers (.waitc cell) s fun t =>
        Counted u t aCEL_WAITC_LATE 1 ∧ t.bit aCEL_EVENT 4 = true ∧
        OneCell s t cell ({ x with last := tblSet x.last i.op c }.goTo (x.pos + 1) (c + 1)) ∧
        Only { regs := true, hif := true, cells := true, out := true } u t ∧
        KeepsRegs (aCEL_WAITC_LATE :: blockRegs aCEL_EVENT) u t))

/-- O35. A cell that runs no launch issues nothing. An uncorrectable instruction word is ECC_INSTR; an opcode or GPOST
command that is not listed is ILLEGAL, and so is a reserved field of a listed one. A fault stops the cell and no other, is
counted and logged, is recorded where no record is held, and marks its launch. -/
def Obligations.CellFaults : Prop :=
  ∀ (s : State) (cell : Nat),
    let x := s.cell cell
    (x.run = none → (∀ k ∈ cellCommands cell, exec k s = .next s) ∧ exec (.recv cell) s = .next s ∧
      exec (.recvTimeout cell) s = .next s ∧ exec (.illegalOpcode cell) s = .next s) ∧
    (∀ r, x.run = some r.id → s.runOf r.id = some r → r.fault = none → s.running = true →
      s.poisoned (ibufKey cell (8 * (x.pos % 256))) 8 = true → ∀ k ∈ cellCommands cell,
        exec k s = .next (s.cellFault cell 5 x.next) ∧ exec (.illegalOpcode cell) s = .next (s.cellFault cell 5 x.next)) ∧
    (∀ i r c, Issues s cell i r [] c → opListed i.op = false ∨ i.op = 0x88 ∧ (i.imm % 256 = 0 ∨ 4 < i.imm % 256) →
      exec (.illegalOpcode cell) s = .next ((s.issued cell c i).cellFault cell 1 c)) ∧
    (∀ r, x.run = some r.id → s.runOf r.id = some r → r.fault = none → s.running = true →
      s.poisoned (ibufKey cell (8 * (x.pos % 256))) 8 = false → (s.fetch cell).bad = true →
      ∀ k ∈ opCommands cell, (s.fetch cell).op = k.1 →
        ∃ c, x.next ≤ c ∧ exec k.2 s = .next ((s.fetched cell c).cellFault cell 1 c)) ∧
    (∀ r cause c, x.run = some r.id → s.runOf r.id = some r → r.fault = none →
      let t := s.cellFault cell cause c
      let word := cause * 2 ^ 24 + cell / 256 * 2 ^ 16 + cell % 256
      let at_ := r.l.tag % 65536 * 2 ^ 16 + x.pos % 256
      t.cell cell = { x with run := none } ∧ (∀ j, j ≠ cell → t.cell j = s.cell j) ∧
      t.runOf r.id = some { r with fault := some (cause, cell, x.pos % 256, c), cells := r.cells.filter (· != cell) } ∧
      t.reg aCEL_FAULTS = BitVec.ofNat 32 (min 0xFFFFFFFF ((s.reg aCEL_FAULTS).toNat + 1)) ∧ t.bit aCEL_EVENT 1 = true ∧
      Logged s t ⟨t.edgeNs, 0, 0x08, 0, cell % 256 / 128, r.l.pav, word % 2 ^ 32, at_ % 2 ^ 32, 0, 0⟩ ∧
      (s.bit aCEL_FAULT_REC3 0 = false → t.reg aCEL_FAULT_REC0 = BitVec.ofNat 32 word ∧
        t.reg aCEL_FAULT_REC1 = BitVec.ofNat 32 at_ ∧ t.reg aCEL_FAULT_REC2 = BitVec.ofNat 32 t.ns ∧
        t.bit aCEL_FAULT_REC3 0 = true) ∧
      (s.bit aCEL_FAULT_REC3 0 = true → (∀ f, s.cel.first = some f → f.1 ≠ c) →
        KeepsRegs ([aCEL_FAULTS] ++ blockRegs aCEL_EVENT ++ logRegs) s t) ∧
      t.mem = s.mem ∧ t.cel.mesh = s.cel.mesh ∧
      Only { regs := true, tim := true, hif := true, log := true, cells := true, cel := true, out := true } s t)

/-- O36. IFILL beyond the store or the buffer is IFILL_RANGE; else it copies the lines, with their uncorrectable words, and no
other byte changes. HALT stops the cell; the last cell to halt ends a launch without a fault, whose flags join
CEL_FPFLAGS and whose completion is written; a stream's update is told of the end of its launch. LAUNCH_FAULT_HALT stops
every cell of a launch that faulted, completes it CELL_FAULT with the first fault, tells the stream's update and the
group instance whose program it is, and changes no other launch; of a launch without a fault it stops nothing. -/
def Obligations.LaunchEnds : Prop :=
  ∀ (s : State) (cell : Nat),
    let x := s.cell cell
    let posted : State → State → Run → Cpl → Bool → Prop := fun u t r e ok =>
      (r.l.ring = 0xFFFF → t.hif.cqs = u.hif.cqs) ∧
      (∀ f j, r.l.ring = 256 * f + j → f < 64 → j < 256 → r.l.ring ≠ 0xFFFF → u.cqRoom f j = true → (u.cq f j).lost = 0 →
        ok = true → .cqe f j (u.cq f j).tail (u.ringBase (aCQ_BASE_LO f j) + 32 * (u.cq f j).tail) (e.bytes (u.cq f j).phase) ∈ t.out)
    (∀ i r c, Issues s cell i r [] c → i.op = 0xF2 →
      let u := s.fetched cell c
      let line := bitsOf i.imm 9 0
      let buf := bitsOf i.imm 20 16
      let n := bitsOf i.imm 26 22 + 1
      let src := istoreKey (cellCluster cell) (64 * line)
      let dst := ibufKey cell (64 * buf)
      (1024 < line + n ∨ 32 < buf + n → exec (.ifill cell) s = .next ((s.issued cell c i).cellFault cell 10 c)) ∧
      (line + n ≤ 1024 → buf + n ≤ 32 → s.memoriesOk → Answers (.ifill cell) s fun t =>
        Only { mem := true, poison := true }
          ((s.went cell c i x (x.pos + 1) (turnFrom (c + 1) (cell / 256) + 32 * (n - 1) + 2)).correct src (64 * n)) t ∧
        t.rd dst (64 * n) = u.rd src (64 * n) ∧
        (∀ j, j < 8 * n → t.poisoned (dst + 8 * j) 8 = u.poisoned (src + 8 * j) 8) ∧
        (∀ a m, a + m ≤ dst ∨ dst + 64 * n ≤ a → t.rd a m = u.rd a m))) ∧
    (∀ i r c ok, Issues s cell i r [] c → i.op = 0xFF → r.fault = none →
      let u := s.fetched cell c
      let halted := { x with last := tblSet x.last 0xFF c, run := none }
      ((∃ j ∈ r.cells, j ≠ cell) → Answers (.halt cell ok) s fun t => OneCell s t cell halted ∧
        t.runOf r.id = some { r with cells := r.cells.filter (· != cell), last := max r.last c } ∧
        Only { cells := true, cel := true } u t) ∧
      ((∀ j ∈ r.cells, j = cell) → ∃ t, exec (.halt cell ok) s =
          .next (t.vecDone { r with cells := r.cells.filter (· != cell), last := max r.last c } true (max r.last c)) ∧
        OneCell s t cell halted ∧ t.cel.runs = s.cel.runs.filter (fun q => q.id != r.id) ∧
        t.reg aCEL_FPFLAGS = s.reg aCEL_FPFLAGS ||| BitVec.ofNat 32 (r.flags % 256) ∧
        posted u t r (cellCpl r.l 0 0 r.flags 0 r.dropped (max r.last c) 0) ok ∧
        Only { regs := true, hif := true, cells := true, cel := true, out := true } u t)) ∧
    (∀ run r ok cause at_ pc c, s.runOf run = some r → r.fault = some (cause, at_, pc, c) →
      ∃ t, exec (.launchFaultHalt run ok) s =
          .next ((t.vecDone { r with cells := [] } false (max c r.last)).colCellFault r) ∧
        (∀ j ∈ r.cells, t.cell j = { s.cell j with run := none }) ∧ (∀ j, j ∉ r.cells → t.cell j = s.cell j) ∧
        t.cel.runs = s.cel.runs.filter (fun q => q.id != r.id) ∧ t.bit aDET_HAZARD 6 = true ∧
        posted s t r (cellCpl r.l 5 0 r.flags pc r.dropped (max c r.last) (cause * 2 ^ 24 + at_ / 256 * 2 ^ 16 + at_ % 256)) ok ∧
        Only { regs := true, tim := true, hif := true, cells := true, cel := true, out := true } s t) ∧
    (∀ run r ok, s.runOf run = some r → r.fault = none → exec (.launchFaultHalt run ok) s = .next s)

/-- O37. A SEND toward a column of its pavilion puts its flit into the mesh two cycles after issue; toward another it is
a PAV_TAG fault. A flit alone in a column of the mesh enters its destination's queue after its hops and two cycles,
in order, and a ninth in the queue is QUEUE_OVF; with a parity error on the first link it crosses it is lost, a MESH_OVF
fault of the cell behind the link (model's choice, log entry 110). RECV takes the queue's head into its register, counting the cycles
it stalled; with an empty queue it changes nothing, until RECV_TIMEOUT makes the stall a RECV_TIMEOUT fault at the
limit, which a flit that came no earlier finds too; a stall that lasts past the 64 cycles after a fault of the launch ends
in neither. -/
def Obligations.CellMessages : Prop :=
  ∀ (s : State) (cell : Nat) (i : Ins) (r : Run) (c : Nat),
    let x := s.cell cell
    let u := s.fetched cell c
    let illegal : Instr → Prop := fun k => exec k s = .next ((s.issued cell c i).cellFault cell 1 c)
    (Issues s cell i r [vxR i.a] c → i.op = 0x80 → 16 ≤ i.a → illegal (.send cell)) ∧
    (Issues s cell i r [vxR i.a] c → i.op = 0x80 → i.a < 16 →
      let col := bitsOf i.imm 7 0
      (s.columnPav col ≠ some r.l.pav → exec (.send cell) s = .next ((s.issued cell c i).cellFault cell 9 c)) ∧
      (s.columnPav col = some r.l.pav → exec (.send cell) s = .next
        ({ s with cel := { s.cel with mesh := s.cel.mesh ++ [({
            dst := 256 * bitsOf i.imm 14 8 + col, at_ := cell, dir := 0, edge := false, cyc := c + 2, pav := r.l.pav,
            data := x.vx.getD i.a [] } : Flit)] } }.retired cell c i x))) ∧
    (∀ parity, s.cel.mesh = [] → exec (.meshFlitArrive parity) s = .next s) ∧
    (∀ f r0 r1 col, s.cel.mesh = [f] → f.dir = 0 → f.edge = false → f.at_ = 256 * r0 + col → f.dst = 256 * r1 + col →
      r0 < 128 → r1 < 128 → col < 256 → s.cel.meshCyc ≤ f.cyc →
      let arrives := f.cyc + (r1 - r0) + (r0 - r1)
      let y := s.cell f.dst
      (y.inq.length < 8 → Answers (.meshFlitArrive false) s fun t =>
        OneCell s t f.dst { y with inq := y.inq ++ [(arrives + 2, f.data)] } ∧ t.cel.mesh = [] ∧
        t.cel.meshCyc = arrives + 1 ∧ t.tim = (s.toCyc (arrives + 2)).tim ∧ Only { tim := true, cells := true, cel := true } s t) ∧
      (8 ≤ y.inq.length → exec (.meshFlitArrive false) s = .next
        ({ s with cel := { s.cel with mesh := [], meshCyc := arrives + 1 } }.cellFault f.dst 6 (arrives + 2))) ∧
      (r0 ≠ r1 → exec (.meshFlitArrive true) s = .next
        ({ s with cel := { s.cel with mesh := [] } }.cellFault (if r0 < r1 then f.at_ + 256 else f.at_ - 256) 7 (f.cyc + 1))) ∧
      (r0 = r1 → exec (.meshFlitArrive true) s = .next s)) ∧
    (x.inq = [] → exec (.recv cell) s = .next s) ∧ (x.inq ≠ [] → exec (.recvTimeout cell) s = .next s) ∧
    (Issues s cell i r [] c → i.op = 0x81 → 16 ≤ i.dst → x.inq ≠ [] → illegal (.recv cell)) ∧
    (Issues s cell i r [] c → i.op = 0x81 → i.dst < 16 →
      let got := fun (d : List Word) => x.vx.set i.dst ((List.range 16).map fun j => d.getD j 0)
      (∀ t d q, x.inq = (t, d) :: q → t ≤ c → 0 < s.recvLimit → exec (.recv cell) s = .next (s.retired cell c i
        { x with inq := q, vx := got d, avail := tblSet x.avail (vxR i.dst) (c + 1) })) ∧
      (∀ t d q, x.inq = (t, d) :: q → c < t → t - c < s.recvLimit → r.halted t = false → Answers (.recv cell) s fun v =>
        OneCell s v cell ({ x with inq := q, vx := got d, avail := tblSet x.avail (vxR i.dst) (t + 1),
                                   last := tblSet x.last i.op c }.goTo (x.pos + 1) (t + 1)) ∧
        Counted u v aCEL_RECV_STALL (t - c) ∧ v.bit aCEL_EVENT 5 = true ∧ v.tim = (u.toCyc t).tim ∧
        Only { regs := true, tim := true, hif := true, cells := true, out := true } u v ∧
        KeepsRegs (aCEL_RECV_STALL :: blockRegs aCEL_EVENT) u v) ∧
      (∀ t d q, x.inq = (t, d) :: q → s.recvLimit ≤ t - c → r.halted (c + s.recvLimit) = false → exec (.recv cell) s = .next
        (((s.issued cell c i).recvStall s.recvLimit).cellFault cell 8 (c + s.recvLimit))) ∧
      (∀ t d q, x.inq = (t, d) :: q → r.halted (min (max c t) (c + s.recvLimit)) = true →
        exec (.recv cell) s = .next (s.issued cell c i)) ∧
      (x.inq = [] → exec (.recvTimeout cell) s = .next (if r.halted (c + s.recvLimit) then s.issued cell c i
        else ((s.issued cell c i).recvStall s.recvLimit).cellFault cell 8 (c + s.recvLimit))))

/-- O38. A GPOST of flits beyond the cell's SRAM, or beyond operand SRAM, is BOUNDS; a unit of another die or pavilion
is PAV_TAG; a full post queue is GATEWAY_OVF; uncorrectable flits to read are ECC_DATA. Else the command starts in the cycle
in which the commands before it have left the gateway, and, where no other write still to
end reaches the same bytes, PUT's flits, as they are 40 cycles after that, stand in operand SRAM 40 cycles after the last was posted,
and FETCH's in the cell's SRAM, as each is in the cycle the gateway gives it, with their uncorrectable words; no other byte reads otherwise
than it would, and the FETCH flits that wait are counted. An emission makes a packet of the image's header template, the cell's tag bits and the flits: a
scheduled one is on its way to its egress 1,360 root units later, an unscheduled one takes a buffer or is dropped and
counted by its launch; one of another pavilion than the launch's is discarded (model's choice, log entry 115). -/
def Obligations.GatewayPosts : Prop :=
  ∀ (s : State) (cell : Nat) (i : Ins) (r : Run) (c : Nat), s.memoriesOk → Issues s cell i r [sxR i.a, sxR i.b] c → i.op = 0x88 →
    let x := s.cell cell
    let u := s.fetched cell c
    let n := bitsOf i.imm 14 8 + 1
    let first := (x.sxw i.a).toNat % 256
    let line := (x.sxw i.b).toNat
    let unit := bitsOf i.imm 18 16
    let here := cellKey cell (64 * first)
    let there := opKey unit (64 * line)
    let room := (s.post (cellCluster cell) n c).isSome
    let st := max c (tblGet (fun _ => 0) s.cel.gwFree (cellCluster cell))
    let inUnit := line + n ≤ 262144 ∧ unit / 4 = cellDie cell ∧ s.unitPav unit = some r.l.pav
    let z := u.toCyc (st + 40)
    let clean := z.poisoned here (64 * n) = false
    let v := u.correct here (64 * n)
    let faults : Instr → Nat → Prop := fun k f => exec k s = .next ((s.issued cell c i).cellFault cell f c)
    let goesOn : State → Prop := fun t => OneCell s t cell ({ x with last := tblSet x.last i.op c }.goTo (x.pos + 1) (c + 1))
    let clear : State → Nat → Prop := fun q k => ∀ w ∈ q.writes, (w.key + w.bytes.length ≤ k ∨ k + 64 * n ≤ w.key) ∧
      ∀ b ∈ w.bad, 8 * b + 8 ≤ k ∨ k + 64 * n ≤ 8 * b
    let elsewhere : State → State → Nat → Prop := fun q t k => ∀ T a m, a + m ≤ k ∨ k + 64 * n ≤ a →
      (t.advTo T).rd a m = (q.advTo T).rd a m
    let coms : List (Nat × Instr) :=
      [(1, .gpostEmitSched cell), (2, .gpostEmitUnsched cell), (3, .gpostFetch cell), (4, .gpostPut cell)]
    (∀ k ∈ coms, i.imm % 256 = k.1 →
      (256 < first + n → faults k.2 3) ∧
      (first + n ≤ 256 → 3 ≤ k.1 → 262144 < line + n → faults k.2 3) ∧
      (first + n ≤ 256 → 3 ≤ k.1 → line + n ≤ 262144 → ¬inUnit → faults k.2 9) ∧
      (first + n ≤ 256 → (3 ≤ k.1 → inUnit) → room = false → faults k.2 12) ∧
      (first + n ≤ 256 → (3 ≤ k.1 → inUnit) → room = true → k.1 ≠ 3 → ¬clean → faults k.2 4)) ∧
    (first + n ≤ 256 → room = true →
      (i.imm % 256 = 4 → inUnit → clean → Answers (.gpostPut cell) s fun t => goesOn t ∧
        (clear v there → ∀ T, mclkEnd (4 * (st + 40 + n) - 1) ≤ T → (t.advTo T).rd there (64 * n) = z.rd here (64 * n)) ∧
        elsewhere v t there ∧ Only { cells := true, cel := true, mem := true } v t) ∧
      (i.imm % 256 = 3 → inUnit →
        let q := u.pfTo (bitsOf i.imm 18 18) (u.tim.now / 6)
        let taken := q.gwMine (cellCluster cell)
        let cs := gwPlace (taken.map (·.1)) n (st + 40)
        Answers (.gpostFetch cell) s fun t => goesOn t ∧
        (clear q here → ∀ T, (∀ e ∈ cs, 4 * (e + 1) ≤ T) → ∀ j, j < n →
          let p := q.toCyc (cs.getD j 0 + 1)
          (t.advTo T).rd (here + 64 * j) 64 = p.rd (there + 64 * j) 64 ∧
          ∀ w, w < 8 → (t.advTo T).poisoned (here + 64 * j + 8 * w) 8 = p.poisoned (there + 64 * j + 8 * w) 8) ∧
        elsewhere q t here ∧
        Counted q t aPWR_GW_SLIP
          (taken.filter fun g => g.2 == 0 && decide (st + 40 ≤ g.1) && cs.any fun e => decide (g.1 < e)).length ∧
        Only { regs := true, hif := true, cells := true, cel := true, mem := true, poison := true, out := true } q t ∧
        KeepsRegs ([aPWR_GW_SLIP, aMXU_ECC_CORR unit] ++ blockRegs aPWR_EVENT ++ blockRegs aMXU_EVENT) q t) ∧
      (clean →
        let w := beNat (match s.img with | some m => m.tmpl.getD (bitsOf (x.sxw i.a).toNat 18 8) [] | none => [])
        let flow := (bitsOf w 79 64 * 65536 + bitsOf w 95 80) * 2 + b2n (bitOf w 119)
        let p : Pkt := { ver := bitsOf w 127 126, kind := bitsOf w 125 120, sched := bitOf w 119, vc := bitsOf w 118 116,
                         ce := bitOf w 115, kflag := bitOf w 114, pav := bitsOf w 113 108, hops := s.hopInit, len := n - 1,
                         dst := bitsOf w 95 80, src := bitsOf w 79 64, seq := tblGet (fun _ => 0) s.rte.flows flow,
                         tag := bitsOf w 31 0 ||| line, payload := z.rd here (64 * n) }
        let numbered := fun (t : State) => t.rte.flows = tblSet s.rte.flows flow ((p.seq + 1) % 2 ^ 32)
        (p.pav ≠ r.l.pav → ∀ k ∈ [(1, Instr.gpostEmitSched cell), (2, Instr.gpostEmitUnsched cell)], i.imm % 256 = k.1 →
          Answers k.2 s fun t => goesOn t ∧ t.rte = s.rte ∧ Counted v t (aRTE_DROP 10) 1 ∧ t.bit aRTE_EVENT 3 = true ∧
            Only { regs := true, hif := true, cells := true, cel := true, out := true } v t) ∧
        (p.pav = r.l.pav →
          (i.imm % 256 = 1 → (∀ egr, u.lookup p.dst s.hopInit = .local egr p.pav →
            Answers (.gpostEmitSched cell) s fun t => goesOn t ∧ numbered t ∧
              t.rte.transit = s.rte.transit ++
                [⟨p, egr, u.tim.clk + (1360 + 4 * (st - u.cyc)), false, 0, ownIngress (cellDie cell) 13⟩] ∧
              Only { regs := true, hif := true, subs := true, cells := true, cel := true, rte := true, out := true } v t ∧
              (s.egrUp egr = true → (s.sub (egr / 8) (egr % 8)).asked = false →
                Only { cells := true, cel := true, rte := true } v t))) ∧
          (i.imm % 256 = 2 → ∀ egr, u.lookup p.dst s.hopInit = .local egr p.pav →
            Answers (.gpostEmitUnsched cell) s fun t => goesOn t ∧ numbered t ∧ u.tim.now ≤ t.tim.now ∧ t.tim.now ≤ u.tim.now + 5 ∧
              Only { regs := true, tim := true, hif := true, log := true, cells := true, cel := true, rte := true, out := true } v t ∧
              ((∃ h, t.rte.wait = s.rte.wait ++ [h] ∧ h.pkt = p ∧ h.hop = .egr egr ∧ h.id = s.rte.nextId ∧
                  h.born = t.tim.clk + 4 * (st - u.cyc) ∧ t.runOf r.id = some r ∧ s.bpmReady (cellDie cell) = true) ∨
               (t.rte.wait = s.rte.wait ∧ t.runOf r.id = some { r with dropped := r.dropped + 1 }))))))

/-- O39. A deposit of a cluster, the oldest scheduled one first, writes its bytes up to EXPECT at its entry's address, a
line in each cycle the gateway gives it, counts them and the bytes beyond, and makes the trigger of an entry that reaches
EXPECT pending; with no other line of the gateway to come the cycles follow one another from 12 after its input. A pending
trigger starts its launch in the cycle after it on every cell of its rectangle, re-arms its entry, or is refused with a
count; while a cell of the rectangle runs, or an earlier trigger waits for one, it takes a place in a queue of 8, from which it starts when
the cells are free; with no place it waits for one, in the order in which the triggers found none. -/
def Obligations.TriggeredLaunches : Prop :=
  ∀ s : State,
    let fires : Instr → State → Nat → Launch → Nat → Prop := fun com u k l f =>
      (s.launchBad l false = none → Answers com s fun t =>
        Started (u.toCyc f) t l 0 f ∧ t.tim = (s.toCyc f).tim ∧ t.deposits k = (u.arm k f).deposits k ∧
        Counted s t aCEL_LAUNCHES 1 ∧ t.cel.pend = u.cel.pend ∧ t.cel.queue = u.cel.queue ∧
        Only { regs := true, tim := true, hif := true, cells := true, cel := true, mem := true, poison := true, out := true } s t ∧
        KeepsRegs ([aCEL_LAUNCHES, aCEL_ECC_CORR] ++ blockRegs aCEL_EVENT) s t) ∧
      (s.launchBad l false ≠ none → Answers com s fun t =>
        Counted s t aCEL_LAUNCH_REFUSED 1 ∧ t.bit aCEL_EVENT 2 = true ∧ t.cel.runs = s.cel.runs ∧
        t.deposits k = (u.arm k f).deposits k ∧ t.cel.pend = u.cel.pend ∧ t.cel.queue = u.cel.queue ∧
        (s.stageOf k = none → t.groups = s.groups) ∧
        Only { regs := true, tim := true, hif := true, cel := true, groups := true, out := true } s t)
    let mine := fun cl => s.cel.deps.filter fun d => d.cluster == cl
    let lands : Nat → Deposit → List Nat × State → Prop := fun cl d g =>
      let k := 64 * d.cluster + d.entry
      let w := g.2
      (s.landing k = none → Answers (.gatewayDeposit cl) s fun t => t.cel.deps = s.cel.deps.erase d ∧
        t.cel.counts = w.cel.counts ∧ t.cel.pend = w.cel.pend ∧ Only { tim := true } w t) ∧
      (∀ e, s.landing k = some e →
        let n := min d.bytes.length (e.expect - s.landCount k)
        let dst := cellKey (256 * (32 * (d.cluster % 4) + e.row) + d.cluster / 4) (e.addr + d.off)
        Answers (.gatewayDeposit cl) s fun t =>
          ((∀ q ∈ w.writes, q.key + q.bytes.length ≤ dst ∨ dst + n ≤ q.key) → s.tim.lock = true →
            ∀ T, (∀ j ∈ g.1, 4 * (j + 1) ≤ T) → t.tim.now ≤ T → (t.advTo T).rd dst n = d.bytes.take n) ∧
          (s.tim.lock = true → ∀ T a m, t.tim.now ≤ T → a + m ≤ dst ∨ dst + n ≤ a →
            (t.advTo T).rd a m = (w.advTo T).rd a m) ∧
          t.landCount k = s.landCount k + n ∧ (∀ j, j ≠ k → t.deposits j = w.deposits j) ∧
          t.cel.deps = s.cel.deps.erase d ∧ Counted w t aCEL_LANDING_OVER (d.bytes.length - n) ∧
          t.cel.pend = (if e.trigger = true ∧ s.landCount k < e.expect ∧ s.landCount k + n = e.expect
            then w.cel.pend ++ [(k, g.1.getD ((n + 63) / 64 - 1) 0 + 1)] else w.cel.pend) ∧
          t.tim = (s.toCyc (g.1.headD 0)).tim ∧
          Only { regs := true, tim := true, cel := true, mem := true } w t ∧ KeepsRegs [aCEL_LANDING_OVER] w t)
    let taken := fun (d : Deposit) => { s with cel := { s.cel with deps := s.cel.deps.erase d } }
    let lines := fun (d : Deposit) => (d.bytes.length + 63) / 64
    (∀ cl, mine cl = [] → exec (.gatewayDeposit cl) s = .next s) ∧
    (s.memoriesOk → ∀ cl d, ((mine cl).find? fun d => d.sched) = some d →
      lands cl d ((taken d).gwSched cl (d.at_ + 12) (lines d)) ∧
      (s.gwMine cl = [] → ((taken d).gwSched cl (d.at_ + 12) (lines d)).1 = (List.range (lines d)).map (d.at_ + 12 + ·) ∧
        Only { cel := true } s ((taken d).gwSched cl (d.at_ + 12) (lines d)).2)) ∧
    (s.memoriesOk → ∀ cl d ds, mine cl = d :: ds → ((mine cl).find? fun d => d.sched) = none →
      lands cl d ((taken d).gwTake cl 1 (max (d.at_ + 12) s.cyc) (lines d)) ∧
      (s.gwMine cl = [] → ((taken d).gwTake cl 1 (max (d.at_ + 12) s.cyc) (lines d)).1 =
        (List.range (lines d)).map (max (d.at_ + 12) s.cyc + ·)) ∧
      Only { cel := true } s ((taken d).gwTake cl 1 (max (d.at_ + 12) s.cyc) (lines d)).2) ∧
    (∀ k p e, (s.cel.pend.find? fun p => p.1 == k) = some p → s.landing k = some e →
      let gone := { s with cel := { s.cel with pend := s.cel.pend.erase p } }
      let len := (s.cel.queue.filter fun q => q.1 / 64 == k / 64).length
      let late := s.rectBusy e.launch = true ∨ s.waitsBefore k e.launch = true
      (s.cel.full.contains k = true → exec (.triggerLaunch k) s = .next s) ∧
      (s.cel.full.contains k = false → late → len < 8 →
        exec (.triggerLaunch k) s = .next { gone with cel := { gone.cel with queue := s.cel.queue ++ [p] } }) ∧
      (s.cel.full.contains k = false → late → 8 ≤ len →
        exec (.triggerLaunch k) s = .next { s with cel := { s.cel with full := s.cel.full ++ [k] } }) ∧
      (s.cel.full.contains k = false → ¬late → fires (.triggerLaunch k) gone k e.launch (max (p.2 + 1) s.cyc))) ∧
    (∀ k, (s.cel.pend.find? fun p => p.1 == k) = none → exec (.triggerLaunch k) s = .next s) ∧
    (∀ cl q e, (s.cel.queue.find? fun q => q.1 / 64 == cl) = some q → s.landing q.1 = some e →
      let left := { s with cel := { s.cel with queue := s.cel.queue.erase q } }
      let gone := match s.cel.full.find? fun k => k / 64 == cl with
        | some k => { left with cel := { left.cel with
            full := s.cel.full.erase k, pend := s.cel.pend.filter fun p => p.1 != k
            queue := left.cel.queue ++ s.cel.pend.filter fun p => p.1 == k } }
        | none => left
      (s.rectBusy e.launch = true → exec (.queuedTriggerStart cl) s = .next s) ∧
      (s.rectBusy e.launch = false → fires (.queuedTriggerStart cl) gone q.1 e.launch (max (q.2 + 1) (s.cyc + 1))))

/-- O40. On a sub-port that exists: an enabling write of PRT_CTRL that R117, R119 and R470 let through puts every sub-
port of the MODE into TRAINING, a disabling one, or one that leaves the port disabled, into DISABLED, and either leaves
a sub-port with a lane in a test in TEST; one that leaves it enabled stores its value, and any other is refused with an
event. Lock begins HELLO, whose sets carry this end's identity; the peer's two sets are acknowledged once both are there and the MODE
agrees, and with the peer's acknowledgement too the sub-port is UP with fresh credit and records its peer. A
failure, a timeout, and the loss of the link lead to DOWN, where the frames of an S-port stay queued, and from which RETRY_TIMEOUT
leads to TRAINING, or to TEST; the electrical idle of a resting receive direction takes signal and locks from its lanes and is no loss,
nor is what it loses until every lane has its signal back. No other sub-port changes. -/
def Obligations.PortBringUp : Prop :=
  ∀ (s : State) (p k : Nat), s.hasSub p k = true →
    let x := s.sub p k
    let e := 8 * p + k
    let ev := aPRT_EVENT p
    let same : Fields := { regs := true, tim := true, hif := true, log := true, subs := true, lanes := true, lrep := true,
                           streams := true, rte := true, out := true }
    let down : Instr → Nat → Prop := fun com cause => Answers com s fun t =>
      OneSub s t p k { subInit with state := 1 } ∧ t.bit ev 1 = true ∧ Counted s t (aLINK_DOWNS p k) 1 ∧
      ((s.egr e).sending = none → s.bit aLOG_CTRL 0 = true → t.tim.state = s.tim.state →
        Logged s t ⟨s.edgeNs, 0, 0x06, 1, portDie p, 0x80, e % 2 ^ 32, cause % 2 ^ 32, 0, 0⟩) ∧
      ((s.egr e).sending = none → s.bit aLOG_CTRL 0 = false → t.tim.state = s.tim.state → t.log = s.log) ∧
      (t.tim.state = s.tim.state ∨ (64 ≤ p ∧ p < 80 ∧ s.tim.state = 2 ∧ t.tim.state = 1 ∧ t.bit aTIM_EVENT 1 = true)) ∧
      (t.egr e).sending = none ∧ (t.egr e).staged = [] ∧ (t.egr e).ready = [] ∧ (t.egr e).resend = [] ∧
      (t.egr e).queues = (s.egr e).queues.map (fun q => q.filter fun h => !h.eth.isEmpty) ∧
      t.rte.wait = s.rte.wait ++ ((s.egr e).queues.flatten.filter fun h => h.eth.isEmpty) ∧ Only same s t
    let up : Instr → Nat → Nat → Prop := fun com id pt => Answers com s fun t =>
      let peer := 2 ^ 31 + bitsOf pt 13 11 * 2 ^ 27 + bitsOf pt 10 8 * 2 ^ 24 + bitsOf pt 7 0 * 2 ^ 16 + bitsOf id 12 0
      OneSub s t p k { subInit with state := 4, peer := peer } ∧ t.bit ev 0 = true ∧
      (t.egr e).cum = List.replicate 8 0 ∧ (t.egr e).sent = List.replicate 8 0 ∧
      (t.egr e).rxCum = List.replicate 8 (16 * (if e < 512 then s.fld aRTE_VC_ALLOW_F 15 0 else s.fld aRTE_VC_ALLOW_L 15 0)) ∧
      (t.egr e).rxSent = List.replicate 8 0 ∧ (t.egr e).owed = [] ∧ (∀ f, f ≠ e → t.egr f = s.egr f) ∧
      (64 ≤ p → p < 80 → t.lr (p - 64) = lrepInit ∧ (t.src (16 + (p - 64))).up = true) ∧
      Only { regs := true, tim := true, hif := true, subs := true, lrep := true, rte := true, out := true } s t ∧
      KeepsRegs (blockRegs ev) s t
    (∀ path v, p < 84 → s.mayWrite path (aPRT_CTRL p) = true →
      (s.prtCtrlOk p v = false → exec (.prtCtrlWrite path p v) s = .next (s.prtEvt p 4)) ∧
      (s.prtCtrlOk p v = true → s.enableOk p v = false →
        exec (.prtCtrlWrite path p v) s = .next ((s.prtEvt p 4).evt 17 aMEM_EVENT 1)) ∧
      (s.prtCtrlOk p v = true → s.enableOk p v = true → s.portOn p = true → bitOf v.toNat 0 = true →
        Answers (.prtCtrlWrite path p v) s fun t => t.regs = (s.plainWrite (aPRT_CTRL p) v).regs ∧
          (∀ q j, q ≠ p ∨ j < subCount p (s.portMode p) → j < 8 → t.sub q j = s.sub q j) ∧ Only { regs := true, subs := true } s t) ∧
      (s.prtCtrlOk p v = true → s.enableOk p v = true → s.portOn p = false → Answers (.prtCtrlWrite path p v) s fun t =>
        t.portOn p = bitOf v.toNat 0 ∧ t.portMode p = bitsOf v.toNat 3 1 ∧
        (∀ j, j < subCount p (bitsOf v.toNat 3 1) →
          (t.sub p j).state = if t.subTest p j then 8 else if bitOf v.toNat 0 then 2 else 0) ∧
        (∀ j, subCount p (bitsOf v.toNat 3 1) ≤ j → j < 8 → t.sub p j = subInit) ∧
        (∀ q j, q ≠ p → j < 8 → t.sub q j = s.sub q j) ∧
        Only { regs := true, subs := true, lanes := true } s t ∧ KeepsRegs [aPRT_CTRL p] s t) ∧
      (s.prtCtrlOk p v = true → s.portOn p = true → bitOf v.toNat 0 = false → Answers (.prtCtrlWrite path p v) s fun t =>
        t.portOn p = false ∧ (∀ j, j < subCount p (s.portMode p) →
          (t.sub p j).state = (if s.subTest p j then 8 else 0) ∧ (t.egr (8 * p + j)).sending = none) ∧
        (∀ q j, q ≠ p → j < 8 → t.sub q j = s.sub q j) ∧ Only same s t)) ∧
    (x.state = 2 → s.tapDrives = false →
      exec (.pcsLock p k) s = .next ((s.setSub p k { subInit with state := 3 }).laneRx p k true true true)) ∧
    (x.state = 2 → s.tapDrives = true → exec (.pcsLock p k) s = .next s) ∧
    (x.state = 2 → Answers (.trainFail p k) s fun t => OneSub s t p k { subInit with state := 1 } ∧ t.bit ev 2 = true ∧
      t.streams = (if 64 ≤ p ∧ p < 80 then s.streams.map fun e => if e.2.lport = p - 64 then (e.1, e.2.portDown) else e
        else s.streams) ∧
      Only { regs := true, hif := true, subs := true, streams := true, out := true } s t ∧ KeepsRegs (blockRegs ev) s t) ∧
    (x.state = 3 →
      exec (.helloSend p k) s =
        .next ((s.emit (.os p k 1 (s.fld aRTE_ID 12 0))).emit (.os p k 2 (p + 256 * k + 2048 * s.portMode p))) ∧
      (∀ id, x.portRx = none → x.ackTx = false →
        exec (.helloIdRx p k id) s = .next (s.setSub p k { x with idRx := some id })) ∧
      (∀ id, x.portRx ≠ none → x.ackTx = false → x.ackRx = false → Answers (.helloIdRx p k id) s fun t =>
        OneSub s t p k { x with idRx := some id, ackTx := true } ∧ t.out = .os p k 3 0 :: s.out ∧
        Only { subs := true, out := true } s t) ∧
      (∀ pt, bitsOf pt 13 11 = s.portMode p → x.idRx ≠ none → x.ackTx = false → x.ackRx = false →
        Answers (.helloPortRx p k pt) s fun t => OneSub s t p k { x with portRx := some pt, ackTx := true } ∧
          t.out = .os p k 3 0 :: s.out ∧ Only { subs := true, out := true } s t) ∧
      (∀ pt, bitsOf pt 13 11 ≠ s.portMode p → x.misSeen = false → Answers (.helloPortRx p k pt) s fun t =>
        OneSub s t p k { x with misSeen := true } ∧ t.bit ev 3 = true ∧
        Only { regs := true, hif := true, subs := true, out := true } s t ∧ KeepsRegs (blockRegs ev) s t) ∧
      (∀ pt, bitsOf pt 13 11 ≠ s.portMode p → x.misSeen = true → exec (.helloPortRx p k pt) s = .next s) ∧
      (x.idRx = none ∨ x.portRx = none → x.ackTx = false →
        exec (.helloAckRx p k) s = .next (s.setSub p k { x with ackRx := true })) ∧
      (∀ id pt, x.idRx = some id → x.portRx = some pt → up (.helloAckRx p k) id pt) ∧
      (∀ id pt, x.portRx = some pt → x.ackRx = true → up (.helloIdRx p k id) id pt) ∧
      (∀ id pt, bitsOf pt 13 11 = s.portMode p → x.idRx = some id → x.ackRx = true → up (.helloPortRx p k pt) id pt) ∧
      (x.idRx = none → down (.helloTimeout p k) 5) ∧ (x.idRx ≠ none → exec (.helloTimeout p k) s = .next s)) ∧
    (∀ cause lost, 1 ≤ cause → cause ≤ 4 → x.state = 3 ∨ x.state = 4 ∨ x.state = 5 ∨ x.state = 7 →
      (x.rxRest = false ∨ cause = 4 ∨ (cause ≠ 1 ∧ s.allSignal p k = true) → down (.linkDown p k cause lost) cause ∧ Answers (.linkDown p k cause lost) s fun t =>
        (cause = 1 → ∀ i ∈ s.subLanes p k, t.lane i =
          if bitOf lost (i % 8) && (s.lane i).sigDet then { s.lane i with sigDet := false, cdr := false, sym := false }
          else { s.lane i with sym := false }) ∧
        (cause = 2 → ∀ i ∈ s.subLanes p k, t.lane i = { s.lane i with sigDet := true, cdr := true, sym := false }) ∧
        (2 < cause → t.lanes = s.lanes) ∧
        (cause = 3 → let o := aFEC_UNCORR_CW_LO p k
          (t.reg o).toNat + (t.reg (o + 4)).toNat * 2 ^ 32 =
            min (2 ^ 64 - 1) ((s.reg o).toNat + (s.reg (o + 4)).toNat * 2 ^ 32 + s.fld (aPRT_LOSS_CFG p) 7 0))) ∧
      (x.rxRest = true → 2 ≤ cause → cause ≤ 3 → s.allSignal p k = false → exec (.linkDown p k cause lost) s = .next s)) ∧
    (x.rxRest = true → ∀ lost, Answers (.linkDown p k 1 lost) s fun t =>
      (∀ i ∈ s.subLanes p k, t.lane i =
        if bitOf lost (i % 8) then { s.lane i with sigDet := false, cdr := false, sym := false } else s.lane i) ∧
      (∀ i, i ∉ s.subLanes p k → t.lane i = s.lane i) ∧ Only { lanes := true } s t) ∧
    (x.state = 1 → s.portOn p = true → s.log.fatal = false →
      exec (.retryTimeout p k) s = .next (s.setSub p k
        (if s.subTest p k then { subInit with state := 8 } else { subInit with state := 2, peer := x.peer }))) ∧
    (∀ kind, kind ∉ [0x01, 0x02, 0x03, 0x10, 0x11, 0x12, 0x13, 0x14, 0x15] → Answers (.osUnknown p k kind) s fun t =>
      Counted s t (aOS_UNKNOWN p k) 1 ∧ Only { regs := true } s t ∧ KeepsRegs [aOS_UNKNOWN p k] s t)

/-- O41. On a sub-port of an F- or L-port that is UP: after its idle time it asks for rest, and what it answers to the peer's
request is the first reason of R137 and R145 against it, or an acknowledgement with which it commits; an
acknowledged request commits too, or is abandoned where a TIME window has come near. A committed entry ends RESTING 600 ns
later, or EXITING where a wake request has come; a wake request abandons an entry that is not committed, one that waits for the
packet in progress too, is counted after the commit (model's choice for a direction that rests already, log entry 99), and begins the
exit of a resting direction, which ends 1,400 ns later with WAKE, UP again and the largest wake time. A window's end begins the exit of a scheduled rest. -/
def Obligations.LinkRest : Prop :=
  ∀ (s : State) (p k : Nat), s.hasSub p k = true → p < 80 →
    let x := s.sub p k
    let ev := aPRT_EVENT p
    let near := fun (u : State) => 64 ≤ p ∧ (1020 ≤ u.curSlot % 1024 ∨ u.curSlot % 1024 = 0)
    let reason := if s.queuedFor p k then 1 else if s.bit (aPRT_CTRL p) 7 = false then 2 else if near s then 3 else 0
    let commits : Instr → List Emit → Prop := fun com sent => Answers com s fun t =>
      OneSub s t p k { x with state := 5, reqSent := false, wake := false, sched := false, since := s.tim.clk, pend := none } ∧
      t.out = sent ++ s.out ∧ Counted s t (aREST_COMMITS p k) 1 ∧
      Only { regs := true, subs := true, out := true } s t ∧ KeepsRegs [aREST_COMMITS p k] s t
    let abandons : Instr → State → List Emit → Prop := fun com u sent => Answers com s fun t =>
      OneSub u t p k { u.sub p k with reqSent := false, pend := none, idle := u.curSlot } ∧ (∀ o ∈ sent, o ∈ t.out) ∧
      Counted u t (aREST_ABORTS p k) 1 ∧ t.bit ev 5 = true ∧
      Only { regs := true, hif := true, subs := true, out := true } u t ∧ KeepsRegs (aREST_ABORTS p k :: blockRegs ev) u t
    let wakes : Instr → State → Prop := fun com u =>
      let y := u.sub p k
      let w := if y.wake then y else { y with wake := true, wakeAt := u.tim.clk }
      let becomes : SubPort → Prop := fun z => Answers com s fun t => OneSub u t p k z ∧ Only { subs := true } u t
      (y.state = 4 → y.asked = true → abandons com u [.os p k 0x14 0]) ∧
      (y.state = 4 → y.asked = false → becomes y) ∧
      (y.state = 5 ∨ y.state = 6 → y.wake = true → becomes y) ∧
      (y.state = 5 ∨ y.state = 6 → y.wake = false → Answers com s fun t =>
        OneSub u t p k (if y.state = 5 ∧ u.tim.clk < y.since + 4800 then w else { w with state := 7, since := u.tim.clk }) ∧
        Counted u t (aWAKES_AFTER_COMMIT p k) 1 ∧ t.bit ev 6 = true ∧
        Only { regs := true, hif := true, subs := true, out := true } u t ∧
        KeepsRegs (aWAKES_AFTER_COMMIT p k :: blockRegs ev) u t) ∧
      (y.state = 7 → becomes w)
    (x.state = 4 → x.reqSent = false → x.pend = none → s.bit (aPRT_CTRL p) 6 = true → s.queuedFor p k = false →
      let u := s.advTo ((max x.idle (s.egr (8 * p + k)).idle + s.fld (aPRT_REST_CTRL p) 15 0) * 7680)
      (¬near u → exec (.idleRestTimeout p k) s = .next ((u.setSub p k { x with reqSent := true }).emit (.os p k 0x10 0))) ∧
      (near u → exec (.idleRestTimeout p k) s = .next u)) ∧
    (x.reqSent = true ∨ x.pend ≠ none ∨ s.bit (aPRT_CTRL p) 6 = false ∨ s.queuedFor p k = true →
      exec (.idleRestTimeout p k) s = .next s) ∧
    (x.state = 4 →
      (reason = 0 → commits (.restReqRx p k) [.os p k 0x13 0, .os p k 0x11 0]) ∧
      (reason = 1 → x.reqSent = true → abandons (.restReqRx p k) s [.os p k 0x14 0, .os p k 0x12 1]) ∧
      (reason ≠ 0 → reason ≠ 1 ∨ x.reqSent = false → exec (.restReqRx p k) s = .next (s.emit (.os p k 0x12 reason))) ∧
      (x.reqSent = true → ¬near s → commits (.restAckRx p k) [.os p k 0x13 0]) ∧
      (x.reqSent = true → near s → abandons (.restAckRx p k) s [.os p k 0x14 0]) ∧
      (x.reqSent = true → ∀ why,
        exec (.restNakRx p k why) s = .next (s.setSub p k { x with reqSent := false, idle := s.curSlot })) ∧
      (x.reqSent = false → exec (.restAckRx p k) s = .next s)) ∧
    (4 ≤ x.state → x.state ≤ 7 → ∀ arg,
      exec (.restCommitRx p k arg) s = .next (s.setSub p k { x with rxRest := true })) ∧
    wakes (.restAbortRx p k) s ∧
    (x.rxRest = true → wakes (.wakeRx p k) ((s.setSub p k { x with rxRest := false }).laneRx p k true true true)) ∧
    (x.rxRest = false → wakes (.wakeRx p k) s) ∧
    (x.rxRest = true → wakes (.rxSignalReturn p k) (s.laneRx p k true true true)) ∧
    (64 ≤ p → (5 ≤ x.state ∧ x.state ≤ 7) ∨ x.asked = true →
      wakes (.timeWindowWake p k) (s.advTo (windowSlot s.tim.now * 7680))) ∧
    (∀ path v, k = 0 → subCount p (s.portMode p) = 1 → s.mayWrite path (aPRT_REST_CTRL p) = true → bitOf v.toNat 16 = true →
      wakes (.prtRestWake path p v) (s.plainWrite (aPRT_REST_CTRL p) v)) ∧
    (x.state = 5 → exec (.restEntryDone p k) s = .next ((s.advTo (s.tim.now + (x.since + 4800 - s.tim.clk))).setSub p k
      { x with state := if x.wake then 7 else 6, since := x.since + 4800 })) ∧
    (x.state = 7 → Answers (.restExitDone p k) s fun t =>
      let u := s.advTo (s.tim.now + (x.since + 11200 - s.tim.clk))
      OneSub s t p k { x with state := 4, wake := false, sched := false, idle := u.curSlot } ∧ t.out = .os p k 0x15 0 :: s.out ∧
      t.reg (aWAKE_MAX_NS p k) = (if x.wake then
        BitVec.ofNat 32 (max (s.reg (aWAKE_MAX_NS p k)).toNat (toUnits ((x.since + 11200 : Nat) - (x.wakeAt : Int)) 8).toNat) else s.reg (aWAKE_MAX_NS p k)) ∧
      Only { regs := true, subs := true, out := true } u t ∧ KeepsRegs [aWAKE_MAX_NS p k] s t) ∧
    (x.state = 5 ∨ x.state = 6 → x.sched = true → x.wake = false →
      let u := s.advTo ((x.winEnd - 2) * 7680)
      (x.state = 6 ∨ x.since + 4800 ≤ u.tim.clk →
        exec (.restWindowExit p k) s = .next (u.setSub p k { x with state := 7, since := u.tim.clk })) ∧
      (x.state = 5 → u.tim.clk < x.since + 4800 → exec (.restWindowExit p k) s = .next u)) ∧
    (x.sched = false ∨ x.wake = true → exec (.restWindowExit p k) s = .next s)

/-- O42. An enabled STC lane outside tests that has had its three K28.5 and an error-free mark comes up and is a time source; one that
hears no comma, or four errored symbols in a row, in a report, a mark or a frame, goes down: it loses its frame and its
relay session, its source must be heard again, and its errors are counted; fewer errors are counted only. The frame that waits
longest for a lane, once what was sent before it is over and it ends 8 symbol times before the next slot start, is sent at the next
symbol boundary as the symbols of its TYPE, length and CRC-32C with a K28.5 after them, or aborted where its source withdraws; one
that would not end in time is not sent. Of a received frame the
code and disparity errors are counted, and the frame as aborted, as wrong or as good; what a transmitter sends at either
running disparity is received without such errors. IDENT gives the lane its peer. -/
def Obligations.StcLanes : Prop :=
  ∀ (s : State) (n : Nat), n < 16 →
    let i := stcIdx n
    let x := s.lane i
    let ev := aLNE_EVENT i
    let gone : State → State → Nat → Prop := fun u t cause =>
      OneLane u t i { u.lane i with up := false, sym := false, acq := false } ∧ t.bit ev 1 = true ∧ Counted u t (aLNE_STC_LOSS n) 1 ∧
      t.src n = { u.src n with up := false, heard := false, missed := 0, okAt := false } ∧
      (∀ j, j ≠ n → t.src j = u.src j) ∧
      (t.tim.state = u.tim.state ∨ (u.tim.state = 2 ∧ t.tim.state = 1 ∧ t.bit aTIM_EVENT 1 = true)) ∧
      (∀ f ∈ t.mgt.relayOut, f.1 ≠ n) ∧ (∀ r, t.mgt.relay = some r → r.1 ≠ n) ∧
      (s.bit aLOG_CTRL 0 = true → t.tim.state = u.tim.state →
        Logged u t ⟨u.edgeNs, 0, 0x06, 2, dieH, 0x80, n, cause, 0, 0⟩) ∧
      Only { regs := true, tim := true, hif := true, log := true, lanes := true, mgt := true, out := true } u t ∧
      KeepsRegs (aLNE_STC_LOSS n :: blockRegs ev ++ blockRegs aTIM_EVENT ++ logRegs) u t
    (s.bit (aLNE_CTRL i) 7 = true → x.up = false → s.laneTest i = false → s.log.fatal = false → s.tapDrives = false →
      (x.acq = true → Answers (.stcLaneUp n) s fun t =>
        OneLane s t i { x with sigDet := true, cdr := true, sym := true, up := true, acq := false } ∧
        t.src n = { s.src n with up := true } ∧ (∀ j, j ≠ n → t.src j = s.src j) ∧ t.bit ev 2 = true ∧
        Only { regs := true, tim := true, hif := true, lanes := true, out := true } s t ∧ KeepsRegs (blockRegs ev) s t) ∧
      (x.acq = false → exec (.stcLaneUp n) s = .next s) ∧
      (∀ syms arrival, exec (.stcMarkRx n syms arrival) s = .next (s.setLane i { x with acq := acquires (recvSyms syms) }))) ∧
    (x.up = true → ∀ codes disps, ∃ u : State, Counted s u (aLNE_STC_CODE_ERR n) codes ∧ Counted s u (aLNE_STC_DISP_ERR n) disps ∧
      Only { regs := true } s u ∧ KeepsRegs [aLNE_STC_CODE_ERR n, aLNE_STC_DISP_ERR n] s u ∧
      (codes + disps = 0 ∨ 4 ≤ codes + disps → Answers (.stcLaneDown n codes disps) s fun t =>
        gone u t (if codes + disps = 0 then 1 else 2)) ∧
      (1 ≤ codes + disps → codes + disps ≤ 3 → exec (.stcLaneDown n codes disps) s = .next u)) ∧
    (x.up = true → ∀ (type : Nat) (payload : List Byte), payload.length ≤ 56 →
      let bit := (s.tim.clk * 25 + 31) / 32
      let at_ := x.txBit + (bit - x.txBit + 9) / 10 * 10
      let stop := ((s.tim.clk + (7680 - s.tim.now % 7680)) * 25 + 31) / 32
      let fits := at_ < bit + 10 ∧ at_ + 10 * (payload.length + 8) + 80 ≤ stop
      let next := s.relayNext n = some (type, payload)
      let body : List Byte := BitVec.ofNat 8 type :: BitVec.ofNat 8 payload.length :: payload
      let bytes := body ++ natBe 4 (crc32c body)
      let sends := fun (w : Option Nat) (xs : List StcSym) (e : List Nat → Emit) => Answers (.stcFrameTx n type payload w) s fun t =>
        ∃ rd inj gen phase, let codes := encSyms rd (xs ++ [⟨true, 0xBC⟩])
          (x.txBit = at_ → rd = x.rd ∧ inj = x.inj) ∧ t.out.head? = some (e (flipSyms 0 inj codes)) ∧
          t.mgt = { s.mgt with relayOut := s.mgt.relayOut.erase (n, type, payload) } ∧
          OneLane s t i { x with txBit := at_ + 10 * (xs.length + 1), rd := rdRun rd codes, inj := inj - 10 * (xs.length + 1),
                                 gen := gen, phase := phase } ∧
          Only { lanes := true, mgt := true, out := true } s t
      (fits → next → sends none (⟨true, 0xFB⟩ :: dataSyms bytes ++ [⟨true, 0xFD⟩]) (.frame n at_ bytes) ∧
        ∀ j, sends (some j) (⟨true, 0xFB⟩ :: (dataSyms bytes).take (j - 1) ++ [⟨true, 0xFE⟩]) (.frameAbort n at_)) ∧
      (¬(fits ∧ next) → ∀ w, exec (.stcFrameTx n type payload w) s = .next s)) ∧
    (x.up = true → ∀ syms : List Nat,
      let xs := recvSyms syms
      let frame := startsWith 0xFB xs
      let one := fun (b : List RxSym → Bool) => match frame with | some ys => b2n (b ys) | none => 0
      let body := match frame with | some ys => frameBody ys | none => none
      let ident := match body with
        | some bytes => if bytes.getD 0 0 = 1 then some (identOf bytes) else none
        | none => none
      ∃ u : State, Counted s u (aLNE_STC_CODE_ERR n) (codeErrs xs) ∧ Counted s u (aLNE_STC_DISP_ERR n) (dispErrs xs) ∧
        Counted s u (aLNE_STC_ABORTS n) (one aborted) ∧
        Counted s u (aLNE_STC_FRAME_ERR n) (one fun ys => !aborted ys && (frameBody ys).isNone) ∧
        Counted s u (aLNE_STC_FRAMES n) (b2n body.isSome) ∧
        OneLane s u i { x with peer := ident.getD x.peer } ∧ Only { regs := true, lanes := true } s u ∧
        KeepsRegs [aLNE_STC_CODE_ERR n, aLNE_STC_DISP_ERR n, aLNE_STC_ABORTS n, aLNE_STC_FRAME_ERR n, aLNE_STC_FRAMES n] s u ∧
        (fourBad 0 xs = false → exec (.stcFrameRx n syms) s = .next u) ∧
        (fourBad 0 xs = true → Answers (.stcFrameRx n syms) s fun t => gone u t 2)) ∧
    (x.up = true → s.tim.lock = true → ∀ syms arrival, fourBad 0 (recvSyms syms) = true → Answers (.stcMarkRx n syms arrival) s fun t =>
      (t.lane i).up = false ∧ (t.src n).up = false ∧ (t.src n).heard = false ∧ Counted s t (aLNE_STC_LOSS n) 1 ∧
      Counted s t (aLNE_STC_CODE_ERR n) (codeErrs (recvSyms syms)) ∧ Counted s t (aLNE_STC_DISP_ERR n) (dispErrs (recvSyms syms))) ∧
    (∀ (rd : Bool) (bytes : List Byte), ∃ xs, let ys := recvSyms (encSyms rd (frameSeq bytes ++ [⟨true, 0xBC⟩]))
      startsWith 0xFB ys = some xs ∧ codeErrs ys = 0 ∧ dispErrs ys = 0 ∧ fourBad 0 ys = false ∧ aborted xs = false ∧
      frameBody xs = if frameOk bytes then some bytes else none)

/-- O43. A write that puts a port's lane into a test takes its sub-port to TEST and loses what was on the link, and the
write that ends the last test of its lanes takes it to TRAINING or DISABLED; an STC lane in a test, or no longer enabled, goes down; a
transmitter that is enabled begins at negative running disparity. FIRE
inverts and counts one bit or the burst of LNE_INJECT, rate mode one bit every 2^RATE_EXP bits, in the run of symbols that is on its
way and in what the lane sends next, but not in a parallel loopback. A far-end loopback sends on what it receives, with both
polarities. A checker takes the bits its lane
receives, or in a near-end loopback its own lane's: 64 error-free bits in a row lock it, a locked one adds its bits and errors
to the 48-bit counters, which CLEAR sets to 0, and more than 64 errors in 1,024 bits unlock it. -/
def Obligations.LaneTests : Prop :=
  ∀ (s : State) (i : Nat),
    let inverted : Nat → Nat → State → State → Prop := fun k n w t =>
      let u := w.sendTo i k
      let l := u.lane i
      t.out = .invert i n :: u.out.map (Emit.flipped i k n) ∧
      OneLane u t i (if s.fld (aLNE_CTRL i) 4 2 = 2 then l else { l with inj := l.inj + (n - (l.txBit - k)) })
    let changed := fun (off : Nat) (v : Word) =>
      let u := (s.sendNow i).plainWrite off v
      let u := if u.fld off 3 0 = s.fld off 3 0 then u else u.patRestart i off
      if s.bit (aLNE_CTRL i) 7 = false ∧ u.bit (aLNE_CTRL i) 7 = true then u.setLane i { u.lane i with rd := false } else u
    (∀ path off v p l k, lanePort i = some (p, l) → laneSub p l (s.portMode p) = some k → off ∈ [aLNE_CTRL i, aLNE_PATGEN i, aLNE_PATCHK i] →
      s.mayWrite path off = true →
      let u := s.plainWrite off v
      (u.laneTest i = true → (s.sub p k).state ≠ 8 → Answers (.lneTestModeWrite path off v) s fun t =>
        OneSub s t p k { subInit with state := 8 } ∧ t.reg off = u.reg off ∧ (t.egr (8 * p + k)).sending = none ∧
        (t.egr (8 * p + k)).queues = (s.egr (8 * p + k)).queues.map (fun q => q.filter fun h => !h.eth.isEmpty) ∧
        Only { regs := true, tim := true, hif := true, log := true, subs := true, lanes := true, lrep := true, streams := true,
               rte := true, out := true } s t) ∧
      (u.laneTest i = true → (s.sub p k).state = 8 → exec (.lneTestModeWrite path off v) s = .next (changed off v)) ∧
      (u.laneTest i = false → s.laneTest i = true → (s.sub p k).state = 8 → u.subTest p k = false →
        Answers (.lneTestModeWrite path off v) s fun t =>
          OneSub s t p k { subInit with state := if s.portOn p then 2 else 0, peer := if s.portOn p then (s.sub p k).peer else 0 } ∧
          t.regs = u.regs ∧ Only { regs := true, subs := true, lanes := true, out := true } s t) ∧
      (u.laneTest i = false → s.laneTest i = false ∨ (s.sub p k).state ≠ 8 ∨ u.subTest p k = true →
        exec (.lneTestModeWrite path off v) s = .next (changed off v))) ∧
    (∀ path off v n, n < 16 → i = stcIdx n → off ∈ [aLNE_CTRL i, aLNE_PATGEN i, aLNE_PATCHK i] → s.mayWrite path off = true →
      let u := s.plainWrite off v
      u.bit (aLNE_CTRL i) 7 = true → exec (.lneTestModeWrite path off v) s = .next
        (if u.laneTest i && (s.lane i).up then (changed off v).stcDown n 2 else changed off v)) ∧
    (∀ path off v n, n < 16 → i = stcIdx n → off ∈ [aLNE_CTRL i, aLNE_PATGEN i, aLNE_PATCHK i] → s.mayWrite path off = true →
      (s.plainWrite off v).bit (aLNE_CTRL i) 7 = false → exec (.lneTestModeWrite path off v) s = .next
        (if (s.lane i).up then (changed off v).stcDown n 1 else changed off v)) ∧
    (∀ path (v : Word), i < 784 → s.mayWrite path (aLNE_INJECT i) = true →
      let bits := if bitOf v.toNat 2 = false then 0 else if bitsOf v.toNat 1 0 = 1 then 1
        else if bitsOf v.toNat 1 0 = 2 then bitsOf v.toNat 15 8 else 0
      let w := s.plainWrite (aLNE_INJECT i) v
      let k := lineBit i s.tim.clk
      let u := if s.fld (aLNE_INJECT i) 1 0 ≠ 3 ∧ bitsOf v.toNat 1 0 = 3 then w.setLane i { s.lane i with injAt := k } else w
      (bits = 0 → exec (.lneInjectFire path i v) s = .next u) ∧
      (bits ≠ 0 → Answers (.lneInjectFire path i v) s fun t =>
        t.fld (aLNE_INJECT i) 1 0 = bitsOf v.toNat 1 0 ∧ t.fld (aLNE_INJECT i) 15 8 = bitsOf v.toNat 15 8 ∧
        Counted s t (aLNE_INJ_COUNT i) bits ∧ inverted k bits u t ∧
        Only { regs := true, lanes := true, out := true } s t ∧ KeepsRegs [aLNE_INJECT i, aLNE_INJ_COUNT i] s t)) ∧
    (s.hasLane i = true →
      (s.fld (aLNE_INJECT i) 1 0 = 3 → Answers (.injectRateExpire i) s fun t =>
        let due := (s.lane i).injAt + 2 ^ max 4 (min 40 (s.fld (aLNE_INJECT i) 21 16))
        let u := (s.advTo (s.tim.now + (bitTime i due - s.tim.clk))).setLane i { s.lane i with injAt := due }
        Counted s t (aLNE_INJ_COUNT i) 1 ∧ inverted due 1 u t ∧ t.tim = u.tim ∧
        Only { regs := true, tim := true, lanes := true, out := true } s t ∧ KeepsRegs [aLNE_INJ_COUNT i] s t) ∧
      (s.fld (aLNE_INJECT i) 1 0 ≠ 3 → exec (.injectRateExpire i) s = .next s) ∧
      (s.fld (aLNE_CTRL i) 4 2 = 3 → (s.lane i).chkLock = false → s.fld (aLNE_PATCHK i) 2 0 = 0 → (s.lane i).inj = 0 → ∀ bits,
        Answers (.checkerLock i bits) s fun t => OneLane s t i (s.lane i) ∧ Only { lanes := true, out := true } s t ∧
          t.out = .retimed i (bits.map (· != (s.bit (aLNE_CTRL i) 0 != s.bit (aLNE_CTRL i) 1))) :: s.out) ∧
      (∀ (bits : List Bool) (com : Instr), let mode := s.fld (aLNE_PATCHK i) 2 0
        (com = .checkerLock i bits ∧ (s.lane i).chkLock = false) ∨ (com = .checkerLockLost i bits ∧ (s.lane i).chkLock = true) →
        let w := s.retime i bits
        (s.fld (aLNE_CTRL i) 4 2 ≠ 3 → w = s) ∧
        (mode = 0 → exec com s = .next (if (s.lane i).chkLock then s else w)) ∧
        (mode ≠ 0 → Answers com s fun t =>
          let r := w.rxBits i bits
          let q := (r.2.lane i).checkAll mode (s.userPat i) r.1
          let sum := fun (o n : Nat) => min 0xFFFFFFFFFFFF ((s.reg o).toNat + (s.reg (o + 4)).toNat * 2 ^ 32 + n)
          let holds := fun (o x : Nat) => (t.reg o).toNat = x % 2 ^ 32 ∧ (t.reg (o + 4)).toNat = x / 2 ^ 32
          (s.nearLoop i = false → r.1 = bits.map (· != (s.bit (aLNE_CTRL i) 0 != s.bit (aLNE_PATCHK i) 3)) ∧ r.2 = w) ∧
          OneLane s t i q.1 ∧ holds (aLNE_CHK_BITS_LO i) (sum (aLNE_CHK_BITS_LO i) q.2.1) ∧
          holds (aLNE_CHK_ERR_LO i) (sum (aLNE_CHK_ERR_LO i) q.2.2.1) ∧ (q.2.2.2 ≠ 0 → t.bit (aLNE_EVENT i) 3 = true) ∧
          Only { regs := true, hif := true, lanes := true, out := true, free := true } s t)) ∧
      ((s.lane i).chkLock = true → ∀ bits, exec (.checkerLock i bits) s = .next s) ∧
      ((s.lane i).chkLock = false → ∀ bits, exec (.checkerLockLost i bits) s = .next s)) ∧
    (∀ (mode user : Nat) (l : Lane) (b : Bool), let e := patNext mode l.hist != b
      let many := decide (64 < (((e :: l.win).take 1024).filter id).length)
      let r := l.check mode user b
      (l.chkLock = true → r.2 = (1, b2n e, b2n many) ∧ r.1.chkLock = !many) ∧
      (l.chkLock = false → r.2 = (0, 0, 0) ∧ (r.1.chkLock = true ↔
        patLen mode ≤ l.hist.length ∧ seedOk mode user l.hist = true ∧ e = false ∧ 63 ≤ l.run))) ∧
    (∀ path (v : Word), i < 784 → s.mayWrite path (aLNE_PATCHK i) = true → bitOf v.toNat 4 = true →
      Answers (.lnePatchkClear path i v) s fun t =>
        t.reg (aLNE_CHK_BITS_LO i) = 0 ∧ t.reg (aLNE_CHK_BITS_HI i) = 0 ∧ t.reg (aLNE_CHK_ERR_LO i) = 0 ∧
        t.reg (aLNE_CHK_ERR_HI i) = 0 ∧
        Only { regs := true, tim := true, hif := true, log := true, subs := true, lanes := true, lrep := true, streams := true,
               rte := true, mgt := true, out := true } s t)

/-- O44. With capture and replay inactive, a routed packet on a sub-port that carries traffic: a wrong VER, a KIND or
class its port does not allow, a pavilion that is not the port's or not the endpoint's each discard it with their cause; an
unscheduled one that its policer drops is counted there; and no route discards it. The credits of an unscheduled one that
is discarded return at its end on the link. A good unscheduled packet takes a buffer and waits for its egress or its path
group with one hop less, or is dropped and its credits return; a good scheduled one is on its way to its egress 170 ns
later, but where an owned ingress has no slot reserved there. A damaged scheduled one that has begun to leave by its end goes on to leave
stomped, and is else discarded. An L-port in RECOVER discards what comes, and a broken packet, or one with a line error, begins
RECOVER and owes a NAK; neither returns credits, and its own error, or that it was stomped, is counted. What waits or is queued and
was found damaged at its end on its link is discarded before, with its cause. -/
def Obligations.PacketArrival : Prop :=
  ∀ (s : State) (port sub : Nat) (rx : RxPkt) (arrival : Nat), s.hasSub port sub = true → port < 80 →
    4 ≤ (s.sub port sub).state → (s.sub port sub).state ≤ 7 → linkKind rx.pkt.kind = false → s.cap.active = false →
    s.rpl.active = false →
    let e := 8 * port + sub
    let p := rx.pkt
    let com : Instr := .routedPacketRx port sub rx arrival
    let own := s.portPav port
    let v := s.advTo arrival
    let u := v.endDamaged
    let bad := fun (h : Held) => h.damaged = true ∧ h.endAt ≤ v.tim.clk
    let wire := s.wireTime e (84 + 64 * p.len)
    let fields : Fields := { regs := true, tim := true, hif := true, log := true, lrep := true, rte := true, out := true }
    let credits : State → Prop := fun t =>
      (t.egr e).owed = (if p.sched then (u.egr e).owed else (u.egr e).owed ++ [(p.vc, p.len + 3, t.tim.clk + wire)]) ∧
      (t.egr e).rxCum = (u.egr e).rxCum
    let still : State → Prop := fun t => t.rte.wait = u.rte.wait ∧ t.rte.transit = s.rte.transit ∧ t.rte.own = s.rte.own
    let counted : Nat → State → Prop := fun code t => Counted u t (aRTE_DROP (code - 1)) 1 ∧
      t.reg aRTE_LASTDROP1 = BitVec.ofNat 32 (p.dst * 2 ^ 16 + p.src) ∧
      bitsOf (t.reg aRTE_LASTDROP0).toNat 31 28 = code % 16 ∧ t.bit aRTE_EVENT 0 = true
    let dropped : Nat → Prop := fun code => Answers com s fun t => counted code t ∧ credits t ∧ still t ∧ Only fields s t
    let fits := port < 64 ∨ ((s.lr (port - 64)).recover = false ∧ (s.lr (port - 64)).skip = 0 ∧ rxBroken rx = false)
    let passes := (u.police e p.vc (84 + 64 * p.len + s.fld (aSCH_PORT_CFG (e / 8)) 5 0)).1
    let sends : Pkt → Nat → Prop := fun q egr =>
      (classify rx = .good ∨ 1360 < wire → Answers com s fun t =>
        t.rte.transit = s.rte.transit ++
          [⟨q, egr, u.tim.clk + 1360, decide (classify rx ≠ .good), (classify rx).code, e⟩] ∧
        t.rte.wait = u.rte.wait ∧ Only { lrep := true, rte := true } u t) ∧
      (classify rx ≠ .good → wire ≤ 1360 → dropped (classify rx).code)
    (fits → p.ver ≠ 1 → dropped 4) ∧
    (fits → p.ver = 1 → kindErr port p = true → dropped 5) ∧
    (fits → p.ver = 1 → kindErr port p = false → (∃ v, own = some v ∧ v ≠ p.pav) → dropped 11) ∧
    (fits → p.ver = 1 → kindErr port p = false → (∀ v, own = some v → v = p.pav) → ¬(512 ≤ e ∧ (p.kind = 8 ∨ p.kind = 9)) →
      (∀ egr v, u.lookup p.dst p.hops = .local egr v → v ≠ p.pav → dropped 11) ∧
      (p.sched = false → passes = false → (∀ egr v, u.lookup p.dst p.hops = .local egr v → v = p.pav) → Answers com s fun t =>
        credits t ∧ still t ∧ t.bit aSCH_EVENT 1 = true ∧ Only fields s t) ∧
      (∀ code, u.lookup p.dst p.hops = .drop code → 6 ≤ code → code ≤ 9 → p.sched = true ∨ passes = true → dropped code) ∧
      (classify rx = .good → p.sched = false → passes = true → ∀ hop q,
        (∃ egr, u.lookup p.dst p.hops = .local egr p.pav ∧ hop = .egr egr ∧ q = p) ∨
        (∃ f, u.lookup p.dst p.hops = .forward f ∧ hop = .group (bitsOf f 9 0) ∧ q = { p with hops := p.hops - 1 }) →
        Answers com s fun t => t.rte.transit = s.rte.transit ∧ Only fields s t ∧
          ((∃ h ce, t.rte.wait = u.rte.wait ++ [h] ∧ h.pkt = { q with ce := p.ce || ce } ∧ h.hop = hop ∧ h.ingress = e ∧
              h.vcIn = p.vc ∧ h.damaged = false ∧ h.id = s.rte.nextId ∧ t.egr e = u.egr e ∧
              s.bpmReady (allocPort port).1 = true) ∨
           (t.rte.wait = u.rte.wait ∧ credits t))) ∧
      (p.sched = true → own = none →
        (∀ egr, u.lookup p.dst p.hops = .local egr p.pav → sends p egr) ∧
        (∀ f, u.lookup p.dst p.hops = .forward f →
          (bitOf f 15 = true → sends { p with hops := p.hops - 1 } (bitsOf f 25 16)) ∧ (bitOf f 15 = false → dropped 7))) ∧
      (p.sched = true → own = some p.pav → ∀ egr, u.lookup p.dst p.hops = .local egr p.pav →
        (s.reserved egr ((u.tim.now + 1360) / 7680) = true → sends p egr) ∧
        (s.reserved egr ((u.tim.now + 1360) / 7680) = false → Answers com s fun t =>
          Counted u t aPAV_SCHED_ADMIT 1 ∧ t.bit aPAV_EVENT 5 = true ∧ still t ∧ Only fields s t))) ∧
    (64 ≤ port → let l := port - 64
      let told := fun (t : State) => (classify rx ≠ .good → counted (classify rx).code t) ∧ still t ∧ t.egr e = u.egr e ∧ Only fields s t
      ((s.lr l).recover = true → Answers com s fun t => t.lrep = s.lrep ∧ Counted u t (aRPL_RECOVER_DISCARD l) 1 ∧ told t) ∧
      ((s.lr l).recover = false → rxBroken rx = true → Answers com s fun t =>
        t.lr l = { s.lr l with recover := true, nak := true } ∧ told t) ∧
      ((s.lr l).recover = false → rxBroken rx = false → 0 < (s.lr l).skip → Answers com s fun t =>
        t.lr l = { s.lr l with skip := (s.lr l).skip - 1 } ∧ Counted u t (aRPL_RECOVER_DISCARD l) 1 ∧ told t) ∧
      (fits → Answers com s fun t => (t.lr l).acc = ((s.lr l).acc + 1) % 2 ^ 32)) ∧
    (∀ h ∈ u.rte.wait, ¬bad h) ∧ (∀ f, ∀ h ∈ (u.egr f).queues.flatten, ¬bad h) ∧ u.tim = v.tim ∧
    Only { regs := true, hif := true, log := true, rte := true, out := true } v u ∧
    ((∀ f, ∀ h ∈ (s.egr f).queues.flatten, ¬bad h) →
      ((∀ h ∈ s.rte.wait, ¬bad h) → u = v) ∧
      (∀ h, s.rte.wait = [h] → bad h → 1 ≤ h.cause → h.cause ≤ 14 → u.rte.wait = [] ∧ Counted v u (aRTE_DROP (h.cause - 1)) 1))

/-- O45. A selection takes place in the first PCLK cycle in which its ingress, its port and its rank have their turn, or in one later
where the egress it chooses has granted another in that cycle; a packet found damaged by then is gone (O44). It discards the packet with its cause where no egress is left,
leaves it waiting where no candidate has the credit, and else grants the candidate with the fewest queued bytes among
those with credit: its credits are used and it stands last in its queue, to leave in the next cycle at the earliest.
A packet that has stayed its time is discarded. An idle egress of an F-port that is UP and has not asked to rest sends a
scheduled packet that is due before all else, and else, in a slot that is not reserved, the head of the first eligible
strict queue that fits; one that is not UP discards what is due. Of the scheduled packets on their way to an egress the
one that is due first, or its TIME packet, is staged; a fifth is lost with a hazard. When the last flit has left, the egress
is idle, and the buffers are free from the next PCLK cycle on. -/
def Obligations.PacketSelection : Prop :=
  ∀ s : State,
    (∀ id time h, let u := (s.advTo time).endDamaged
      (u.rte.wait.find? fun h => h.id == id) = some h → h.eth = [] →
      let w := u.turnsTo h 64
      let left := w.rte.wait.filter fun x => x.id != id
      let v := w.present h
      let z := match v.pick h with
        | .inr (some m) => if v.svc.granted.any (fun g => g.1 == m.2) then v.nextPclk.present h else v
        | _ => v
      let ptr := tblGet (fun _ => 0) z.rte.pgPtr (match h.hop with | .group g => g | _ => 0)
      (u.firstTurn h = none → w = u) ∧
      v.tim = (if w.pickLate h then w.nextPclk.tim else w.tim) ∧
      (∀ code, z.candidates h = .inl code → Answers (.spraySelect id time) s fun t => t.rte.wait = left ∧
        Counted w t (aRTE_DROP (code - 1)) 1 ∧ t.tim = z.tim ∧
        (h.ingress < 640 → t.egr h.ingress = (let x := w.egr h.ingress
          if h.endAt ≤ z.tim.clk then
            { x with rxCum := x.rxCum.set h.vcIn ((x.rxCum.getD h.vcIn 0 + (h.pkt.len + 3)) % 2 ^ 32) }
          else { x with owed := x.owed ++ [(h.vcIn, h.pkt.len + 3, h.endAt)] }))) ∧
      (∀ ms, z.candidates h = .inr ms →
        let able := fun (m : Nat × Nat) => h.pkt.len + 3 ≤ z.creditsAt m.2 (z.vcOut m.2 h.vcIn)
        let load := fun (m : Nat × Nat) => z.depthAt m.2 (z.qmapAt m.2 (z.vcOut m.2 h.vcIn))
        ((∀ m ∈ ms, ¬able m) → exec (.spraySelect id time) s = .next z) ∧
        ((∃ m ∈ ms, able m) → ∃ m ∈ ms, z.choose h ptr ms = some m ∧ able m ∧ (∀ n ∈ ms, able n → load m ≤ load n) ∧
          Answers (.spraySelect id time) s fun t =>
            let e := m.2
            let vc := z.vcOut e h.vcIn
            let q := z.qmapAt e vc
            (∃ g, (t.egr e).queues = (w.egr e).queues.set q ((w.egr e).queues.getD q [] ++ [g]) ∧
                g.id = h.id ∧ g.handles = h.handles ∧ g.pkt = { h.pkt with vc := vc, ce := g.pkt.ce } ∧
                (z.tim.clk / 5 + 1) * 5 ≤ g.ready ∧
                (g.pkt.ce = h.pkt.ce ∨ s.fld (aSCH_Q_MARK (e / 8) (e % 8) q) 23 0 ≤ z.depth e q)) ∧
            t.rte.wait = left ∧
            (t.egr e).sent = (w.egr e).sent.set vc ((((w.egr e).sent.getD vc 0 : Int) + (h.pkt.len + 3 : Nat)) % 2 ^ 32).toNat ∧
            (∀ f, f ≠ e → t.egr f = w.egr f) ∧ (∀ g, h.hop = .group g → t.rte.pgPtr = tblSet w.rte.pgPtr g ((m.1 + 1) % 32)) ∧
            t.tim = z.tim))) ∧
    (∀ id time, let u := (s.advTo time).endDamaged
      ((s.rte.wait.find? fun h => h.id == id) = none → exec (.spraySelect id time) s = .next s) ∧
      ((s.rte.wait.find? fun h => h.id == id) ≠ none → (u.rte.wait.find? fun h => h.id == id) = none →
        exec (.spraySelect id time) s = .next u)) ∧
    (∀ id, s.ageing id = none → exec (.packetAged id) s = .next s) ∧
    (∀ id h, s.ageing id = some h →
      let u := (s.advTo (s.tim.now + (h.born + s.fld aRTE_CTRL 31 16 * 8000 - s.tim.clk))).endDamaged
      (s.tim.lock = true → u.tim.clk = max s.tim.clk (h.born + s.fld aRTE_CTRL 31 16 * 8000)) ∧
      (u.ageing id = none → exec (.packetAged id) s = .next u) ∧
      (∀ g, u.ageing id = some g → Answers (.packetAged id) s fun t => t.rte.wait = u.rte.wait.filter (fun x => x.id != id) ∧
        t.rte.own = u.rte.own.filter (fun x => !x.2.any fun (h : Held) => h.id == id) ∧
        (g ∈ u.rte.wait → (∀ f ∈ u.rte.egress, ∀ h ∈ f.2.queues.flatten, h.id ≠ id) → ∀ f, (t.egr f).queues = (u.egr f).queues) ∧
        Counted u t (aRTE_DROP 9) 1 ∧ t.tim = u.tim)) ∧
    (∀ e time, e < 512 → s.hasSub (e / 8) (e % 8) = true →
      let v := (s.advTo time).endDamaged
      let u := v.settle e
      (s.egrUp e = false → Answers (.egressSelect e time) s fun t => t.tim = v.tim ∧
        t.egr e = { v.egr e with staged := (s.egr e).staged.filter fun p => decide (v.tim.clk < p.due) } ∧
        ((∃ p ∈ (s.egr e).staged, p.due ≤ v.tim.clk ∧ p.pkt.kind ≠ 0x3D) → t.bit aDET_HAZARD 4 = true)) ∧
      (s.egrUp e = true → (s.egr e).sending ≠ none ∨ v.tim.clk < (s.egr e).freeAt ∨ s.restHolds e = true →
        exec (.egressSelect e time) s = .next v) ∧
      (s.egrUp e = true → (s.egr e).sending = none → (s.egr e).freeAt ≤ v.tim.clk → s.restHolds e = false →
        s.cap.active = false → (s.egr e).resend = [] →
        (∀ p rest, (s.egr e).staged = p :: rest → (∀ q ∈ p :: rest, q.pkt.kind ≠ 0x3D) → p.due ≤ v.tim.clk →
          Answers (.egressSelect e time) s fun t =>
          t.out.contains (.pkt e p.pkt p.stomped) = true ∧ (t.egr e).staged = rest ∧
          (t.egr e).sending = some (.sched p, v.tim.clk + v.wireTime e (84 + 64 * p.pkt.len)) ∧
          (t.egr e).freeAt = v.tim.clk + v.wireTime e (92 + 64 * p.pkt.len) ∧
          (t.egr e).queues = (v.egr e).queues ∧ t.tim = v.tim ∧
          (v.reserved e v.curSlot = true → t.regs = v.regs) ∧
          (v.reserved e v.curSlot = false → Counted v t (aSCH_SCHED_UNRESV (e / 8) (e % 8)) 1 ∧ t.bit aDET_HAZARD 3 = true)) ∧
        (∀ q h rest, (s.egr e).staged = [] → (s.egr e).ready = [] → v.reserved e v.curSlot = false → q < 3 →
          u.eligible e q = true → (∀ r, r < q → u.eligible e r = false) → (v.egr e).queues.getD q [] = h :: rest →
          h.eth = [] → v.fits e h.bytes = true →
          Answers (.egressSelect e time) s fun t =>
            t.out = .pkt e h.pkt h.damaged :: v.out ∧ (t.egr e).queues = (v.egr e).queues.set q rest ∧
            (t.egr e).sending = some (.queued q h, v.tim.clk + v.wireTime e h.bytes) ∧
            (t.egr e).freeAt = v.tim.clk + v.wireTime e (h.bytes + 8) ∧
            (t.egr e).tokens = (u.egr e).tokens.set q ((u.egr e).tokens.getD q 0 - 12800 * s.counted e h) ∧
            t.tim = v.tim ∧ t.regs = v.regs) ∧
        ((s.egr e).staged = [] → (s.egr e).ready = [] → v.reserved e v.curSlot = true →
          exec (.egressSelect e time) s = .next u))) ∧
    (∀ e p, s.nextDue e = some p → p.pkt.kind ≠ 0x3D →
      let u := s.advTo (s.tim.now + (p.due - 160 - s.tim.clk))
      let com : Instr := .schedStage e
      (p ∈ s.rte.transit ∧ p.egr = e ∧ ∀ q ∈ s.rte.transit, q.egr = e → p.due ≤ q.due) ∧
      ((∀ q, s.nextTime e = some q → p.due ≤ q.due) →
        (s.egrUp e = true → ((s.egr e).staged.filter fun q => q.pkt.kind != 0x3D).length < 4 → Answers com s fun t =>
          (t.egr e).staged = (s.egr e).staged ++ [p] ∧ t.rte.transit = s.rte.transit.erase p ∧
          (∀ f, f ≠ e → t.egr f = s.egr f) ∧ t.tim = u.tim ∧ Only { tim := true, rte := true } s t) ∧
        (s.egrUp e = true → 4 ≤ ((s.egr e).staged.filter fun q => q.pkt.kind != 0x3D).length → Answers com s fun t =>
          t.rte.egress = s.rte.egress ∧ t.rte.transit = s.rte.transit.erase p ∧ Counted s t aPWR_SCHED_OVF 1 ∧
          t.bit aDET_HAZARD 4 = true ∧ t.tim = u.tim) ∧
        (s.egrUp e = false → Answers com s fun t => t.rte.transit = s.rte.transit.erase p ∧ t.tim = u.tim ∧
          Counted s t (if (s.sub (e / 8) (e % 8)).state = 8 then aSCHED_DROP (e / 8) (e % 8) else aRTE_DROP 12) 1 ∧
          t.bit aDET_HAZARD 4 = true))) ∧
    (∀ e q, s.nextTime e = some q → (∀ p, s.nextDue e = some p → q.due < p.due) → Answers (.schedStage e) s fun t =>
      (t.egr e).staged = (s.egr e).staged ++ [q] ∧ q.pkt.kind = 0x3D ∧ (∀ f, f ≠ e → t.egr f = s.egr f) ∧
      t.rte.transit = s.rte.transit ∧ Only { tim := true, rte := true } s t) ∧
    (∀ e, s.nextDue e = none → s.nextTime e = none → exec (.schedStage e) s = .next s) ∧
    (∀ e, (s.egr e).sending = none → exec (.packetTxDone (.egress e)) s = .next s) ∧
    (∀ e q h t0, (s.egr e).sending = some (.queued q h, t0) → h.eth = [] → e < 640 → q < 8 →
      Answers (.packetTxDone (.egress e)) s fun t =>
        let u := (s.advTo (s.tim.now + (t0 - s.tim.clk))).endDamaged
        (t.egr e).sending = none ∧ (t.egr e).queues = (u.egr e).queues ∧
        Counted u t (aSCH_Q_TX_PKTS (e / 8) (e % 8) q) 1 ∧
        t.rte.pools = u.rte.pools ∧ t.rte.owners = u.rte.owners ∧ (s.tim.lock = true → t.tim.clk = max s.tim.clk t0)) ∧
    (∀ id h i die, (s.rte.units.find? fun h => h.id == id) = some h → h.eth = [] → h.handles = [i] → h.die = die → die < 2 →
      h.pool < 4 → (s.pool die h.pool).inUse.contains i = true → (s.pool die h.pool).removed = [] → s.rte.frees = [] →
      Answers (.packetTxDone (.unit id)) s fun t => t.rte.units = s.rte.units.filter (fun x => x.id != id) ∧
        t.rte.pools = s.rte.pools ∧ t.rte.owners = s.rte.owners ∧ Only { rte := true } s t ∧
        ∀ T, s.tim.lock = true → s.tim.now / 5 < T / 5 → let w := (t.advTo T).settleFrees
          (w.pool die h.pool).inUse = (s.pool die h.pool).inUse.filter (· != i) ∧
          (w.pool die h.pool).ring = (s.pool die h.pool).ring ++ [i] ∧
          (w.pool die h.pool).free = (s.pool die h.pool).free + 1)

/-- O46. CREDIT_SEND makes the receiver's counts, with the returns due by now, ready as a CREDIT packet and remembers them;
CREDIT_RX takes each count that lies ahead of the view, as serial numbers, and no other, and ends the stall of a VC
whose count moved, and on an L-port a line error with it begins RECOVER; a packet that has waited for credit too long is counted and logged once. A BPM is enabled where its
layout passes R218, is refused with the error bit where not, and takes a write of 0 only with forwarding off and no
buffer held; the end of the ring fill gives each pool all its handles free and none held. A cache refill moves 8
handles that may be issued from the ring head, in order. -/
def Obligations.CreditsAndPools : Prop :=
  ∀ s : State,
    (∀ port sub time, s.hasSub port sub = true → port < 80 →
      let e := 8 * port + sub
      let w := (s.advTo time).endDamaged
      let u := w.creditSettle e
      (4 ≤ (s.sub port sub).state → (s.sub port sub).state ≤ 7 → Answers (.creditSend port sub time) s fun t =>
        (∃ p, (t.egr e).ready = (s.egr e).ready ++ [p] ∧ p.kind = 0x3E ∧ p.sched = false ∧
          p.payload = (t.egr e).rxCum.flatMap (natBe 4) ++ List.replicate 32 0) ∧
        (t.egr e).rxSent = (t.egr e).rxCum ∧ (t.egr e).rxCum = (u.egr e).rxCum ∧
        (∀ o ∈ (t.egr e).owed, t.tim.clk < o.2.2) ∧ ((w.egr e).owed = [] → (t.egr e).rxCum = (w.egr e).rxCum) ∧
        (∀ f, f ≠ e → t.egr f = w.egr f) ∧ t.tim = (s.advTo time).tim ∧
        Only { regs := true, tim := true, hif := true, log := true, subs := true, rte := true, out := true } s t ∧
        ((s.sub port sub).state = 4 → (s.sub port sub).asked = false → Only { rte := true } w t)) ∧
      ((s.sub port sub).state < 4 → exec (.creditSend port sub time) s = .next s)) ∧
    (∀ port sub rx, s.hasSub port sub = true → port < 80 → 4 ≤ (s.sub port sub).state → (s.sub port sub).state ≤ 7 →
      rx.pkt.ver = 1 → rx.pkt.kind = 0x3E → kindErr port rx.pkt = false → classify rx = .good →
      (s.egr (8 * port + sub)).cum.length = 8 →
      let e := 8 * port + sub
      let got := fun v => beNat ((rx.pkt.payload.drop (4 * v)).take 4)
      let old := fun v => (s.egr e).cum.getD v 0
      let ahead_ := fun v => (got v + 2 ^ 32 - old v) % 2 ^ 32 < 2 ^ 31
      Answers (.creditRx port sub rx) s fun t =>
        (∀ v, v < 8 → (t.egr e).cum.getD v 0 = if ahead_ v then got v else old v) ∧
        (∀ v, v < 8 → ahead_ v → (got v + 2 ^ 32 - old v) % 2 ^ 32 ≠ 0 → 8 * e + v ∉ t.log.stalled) ∧
        (∀ x ∈ t.log.stalled, x ∈ s.log.stalled) ∧ (t.egr e).sent = (s.egr e).sent ∧ (∀ f, f ≠ e → t.egr f = s.egr f) ∧
        ((∃ v, v < 8 ∧ ahead_ v) → Counted s t aRTE_CREDIT_RX 1) ∧ ((∀ v, v < 8 → ¬ahead_ v) → t.regs = s.regs) ∧
        (∀ l, t.lr l = if 64 ≤ port ∧ l = port - 64 ∧ rx.lineErr = true ∧ (s.lr l).recover = false then
          { s.lr l with recover := true, nak := true } else s.lr l) ∧
        Only { regs := true, log := true, lrep := true, rte := true } s t ∧ KeepsRegs [aRTE_CREDIT_RX] s t) ∧
    (∀ e vc, e < 640 → vc < 8 → 8 * e + vc ∉ s.log.stalled → 0 < s.waiting e vc →
      let w := s.advTo (s.nowAt (s.stallAt e vc))
      Answers (.creditStall e vc) s fun t =>
      t.log.stalled = (8 * e + vc) :: s.log.stalled ∧ Counted s t aLOG_STALLS 1 ∧ t.bit aLOG_EVENT 3 = true ∧
      t.tim.now = w.tim.now ∧
      Logged w t ⟨w.edgeNs, 0, 0x11, 0, portDie (e / 8), 0x80, e + vc * 2 ^ 16, s.waiting e vc % 2 ^ 32, 0, 0⟩ ∧
      Only { regs := true, hif := true, log := true, out := true } w t ∧ KeepsRegs (aLOG_STALLS :: logRegs) s t) ∧
    (∀ e vc, 8 * e + vc ∈ s.log.stalled → exec (.creditStall e vc) s = .next s) ∧
    (∀ path die (v : Word), die < 2 → s.mayWrite path (aBPM_CTRL die) = true →
      (bitOf v.toNat 0 = true → s.bit (aBPM_CTRL die) 0 = false → s.layoutOk die = true →
        Answers (.bpmEnableWrite path die v) s fun t => t.bit (aBPM_CTRL die) 0 = true ∧ t.bit (aBPM_STATUS die) 1 = false ∧
          Only { regs := true } s t ∧ KeepsRegs [aBPM_CTRL die, aBPM_STATUS die] s t) ∧
      (bitOf v.toNat 0 = true → s.bit (aBPM_CTRL die) 0 = false → s.layoutOk die = false →
        Answers (.bpmEnableWrite path die v) s fun t => t.bit (aBPM_STATUS die) 1 = true ∧
          Only { regs := true } s t ∧ KeepsRegs [aBPM_STATUS die] s t) ∧
      (bitOf v.toNat 0 = true → s.bit (aBPM_CTRL die) 0 = true → exec (.bpmEnableWrite path die v) s = .next s) ∧
      (bitOf v.toNat 0 = false → s.bit aRTE_CTRL 0 = false → s.noneHeld die = true →
        Answers (.bpmEnableWrite path die v) s fun t => t.bit (aBPM_CTRL die) 0 = false ∧ t.bit (aBPM_STATUS die) 0 = false ∧
          t.rte = s.settleFrees.rte ∧ Only { regs := true, rte := true } s t ∧ KeepsRegs [aBPM_CTRL die, aBPM_STATUS die] s t) ∧
      (bitOf v.toNat 0 = false → s.bit aRTE_CTRL 0 = true ∨ s.noneHeld die = false →
        Answers (.bpmEnableWrite path die v) s fun t => t.bit (aBPM_EVENT die) 0 = true ∧
          Only { regs := true, hif := true, out := true } s t ∧ KeepsRegs (blockRegs (aBPM_EVENT die)) s t)) ∧
    (∀ die, die < 2 → s.bit (aBPM_CTRL die) 0 = true → s.bpmReady die = false → Answers (.bpmRingFillDone die) s fun t =>
      t.bpmReady die = true ∧ Only { regs := true, rte := true } s t ∧ KeepsRegs [aBPM_STATUS die] s t ∧
      (∀ k, k < 4 → let n := s.poolCount die k
        t.pool die k = { ring := List.range n, caches := [], inUse := [], removed := [], bad := [], free := n }) ∧
      (∀ d k, k < 4 → d ≠ die → t.pool d k = s.pool d k) ∧
      (∀ i, i < 2048 → (t.owner die i).hrsv = 0 ∧ (t.owner die i).hshr = 0 ∧ (t.owner die i).rmin = (s.owner die i).rmin ∧
        (t.owner die i).smax = (s.owner die i).smax)) ∧
    (∀ die a k, die < 2 → a < 16 → k < 4 → s.bpmReady die = true → s.rte.frees = [] →
      let p := s.pool die k
      let mine := tblGet (fun _ => []) p.caches a
      (mine.length < 8 → 8 ≤ p.ring.length → (∀ h ∈ p.ring.take 8, handleOk p h = true) →
        Answers (.handleCacheRefill die a k []) s fun t =>
        (t.pool die k).ring = p.ring.drop 8 ∧ tblGet (fun _ => []) (t.pool die k).caches a = mine ++ p.ring.take 8 ∧
        (∀ b, b ≠ a → tblGet (fun _ => []) (t.pool die k).caches b = tblGet (fun _ => []) p.caches b) ∧
        (t.pool die k).free = p.free ∧ (t.pool die k).inUse = p.inUse ∧ Only { rte := true } s t) ∧
      (8 ≤ mine.length ∨ p.ring.length < 8 → ∀ bad, Answers (.handleCacheRefill die a k bad) s fun t =>
        t.pool die k = { p with bad := (t.pool die k).bad } ∧ (∀ h ∈ (t.pool die k).bad, h ∈ p.bad ∨ h ∈ bad) ∧
        Only { rte := true } s t))

/-- O47. Through the command register of each table: a read of an entry that exists shows the entry in the data
registers and clears the error bit; a write stores the data registers' fields in that entry and changes no other; an
entry that does not exist sets the error bit. The operation is done at once and BUSY stays for at most 256 ns (model's
choice, log entry 107); a write of the command register meanwhile is ignored, which its event says. A route entry whose image-owned field differs is not written while a
schedule runs, nor is an endpoint entry of another pavilion's port; an owner entry is not written beyond its pool or
its pavilion's cap; lookups and selections of the same PCLK cycle still find the route entry of before; the calendar is not written while a schedule runs. A policer that is enabled starts with full
buckets, and one that stays enabled keeps the tokens it has earned, up to the new sizes. -/
def Obligations.PathTables : Prop :=
  ∀ (s : State) (path : Path) (v : Word),
    let read := bitOf v.toNat 16 = true ∧ bitOf v.toNat 20 = false
    let write := bitOf v.toNat 16 = true ∧ bitOf v.toNat 20 = true
    let busyFor : State → Nat → Prop := fun t cmd => ∃ n, n ≤ 2048 ∧ t.busy = tblSet s.busy cmd (s.tim.clk + n)
    (∀ cmd ev bit coms,
      (cmd, ev, bit, coms) ∈ [(aRTE_TBL_CMD, aRTE_EVENT, 1, [Instr.rteTblRead path v, .rteTblWrite path v]),
        (aSCH_CAL_CMD, aSCH_EVENT, 0, [.schCalRead path v, .schCalWrite path v]),
        (aSCH_POL_CMD, aSCH_EVENT, 0, [.schPolRead path v, .schPolWrite path v]),
        (aBPM_OWN_CMD 0, aBPM_EVENT 0, 0, [.bpmOwnRead path 0 v, .bpmOwnWrite path 0 v]),
        (aBPM_OWN_CMD 1, aBPM_EVENT 1, 0, [.bpmOwnRead path 1 v, .bpmOwnWrite path 1 v])] →
      s.mayWrite path cmd = true → s.tblBusy cmd = true → ∀ com ∈ coms, Answers com s fun t => t.bit ev bit = true ∧
        Only { regs := true, hif := true, out := true } s t ∧ KeepsRegs (blockRegs ev) s t) ∧
    (s.mayWrite path aRTE_TBL_CMD = true → s.tblBusy aRTE_TBL_CMD = false →
      let tb := bitsOf v.toNat 26 24
      let i := bitsOf v.toNat 15 0
      let d := (s.reg aRTE_TBL_DATA0).toNat &&& rteMask tb
      (read → i < rteSize tb → s.rteGet tb i < 2 ^ 32 → Answers (.rteTblRead path v) s fun t => busyFor t aRTE_TBL_CMD ∧
        (t.reg aRTE_TBL_DATA0).toNat = s.rteGet tb i ∧ t.bit aRTE_TBL_CMD 30 = false ∧
        Only { regs := true, busy := true, free := true } s t ∧ KeepsRegs [aRTE_TBL_CMD, aRTE_TBL_DATA0] s t) ∧
      (read → rteSize tb ≤ i → Answers (.rteTblRead path v) s fun t => busyFor t aRTE_TBL_CMD ∧ t.bit aRTE_TBL_CMD 30 = true ∧
        Only { regs := true, busy := true, free := true } s t ∧ KeepsRegs [aRTE_TBL_CMD] s t) ∧
      (write → rteSize tb ≤ i → Answers (.rteTblWrite path v) s fun t => busyFor t aRTE_TBL_CMD ∧ t.bit aRTE_TBL_CMD 30 = true ∧
        Only { regs := true, busy := true, free := true } s t ∧ KeepsRegs [aRTE_TBL_CMD] s t) ∧
      (write → i < rteSize tb → s.schedRunning = false ∨ imageField tb d = imageField tb (s.rteGet tb i) →
        s.foreignEp tb d = false → Answers (.rteTblWrite path v) s fun t => busyFor t aRTE_TBL_CMD ∧ t.rteGet tb i = d ∧ t.bit aRTE_TBL_CMD 30 = false ∧
          (∀ u j, u < 5 → u ≠ tb ∨ j ≠ i → t.rteGet u j = s.rteGet u j) ∧ (s.tim.lock = true → t.rteAt tb i = s.rteAt tb i) ∧
          Only { regs := true, busy := true, rte := true, free := true } s t ∧ KeepsRegs [aRTE_TBL_CMD] s t) ∧
      (write → i < rteSize tb → (s.schedRunning = true ∧ imageField tb d ≠ imageField tb (s.rteGet tb i)) ∨
        s.foreignEp tb d = true → Answers (.rteTblWrite path v) s fun t => busyFor t aRTE_TBL_CMD ∧ t.bit aRTE_EVENT 1 = true ∧
          Only { regs := true, busy := true, hif := true, out := true, free := true } s t ∧ KeepsRegs (aRTE_TBL_CMD :: blockRegs aRTE_EVENT) s t)) ∧
    (∀ die, die < 2 → s.mayWrite path (aBPM_OWN_CMD die) = true → s.tblBusy (aBPM_OWN_CMD die) = false →
      let f := s.settleFrees
      let i := bitsOf v.toNat 10 0
      let k := i % 4
      let o := f.owner die i
      let rmin := s.fld (aBPM_OWN_DATA0 die) 15 0
      let smax := s.fld (aBPM_OWN_DATA1 die) 19 0
      let beyond := s.poolCount die k < f.rsvSum die k - o.rmin + rmin ∨
        s.rsvCap die k (i / 32) < f.pavRsv die k (i / 32) - o.rmin + rmin
      (read → o.rmin < 2 ^ 16 → o.smax < 2 ^ 20 → o.hshr < 2 ^ 20 → o.hrsv < 2 ^ 16 → o.nobuf < 2 ^ 16 →
        Answers (.bpmOwnRead path die v) s fun t => busyFor t (aBPM_OWN_CMD die) ∧
        (t.reg (aBPM_OWN_DATA0 die)).toNat = o.rmin ∧ (t.reg (aBPM_OWN_DATA1 die)).toNat = o.smax ∧
        (t.reg (aBPM_OWN_DATA2 die)).toNat = o.hshr ∧ t.fld (aBPM_OWN_DATA3 die) 15 0 = o.hrsv ∧
        t.fld (aBPM_OWN_DATA3 die) 31 16 = o.nobuf ∧ Only { regs := true, busy := true, rte := true, free := true } s t ∧
        KeepsRegs [aBPM_OWN_CMD die, aBPM_OWN_DATA0 die, aBPM_OWN_DATA1 die, aBPM_OWN_DATA2 die, aBPM_OWN_DATA3 die] s t) ∧
      (write → ¬beyond → Answers (.bpmOwnWrite path die v) s fun t => busyFor t (aBPM_OWN_CMD die) ∧
        t.owner die i = { o with rmin := rmin, smax := smax, hrsv := min o.hrsv rmin, hshr := o.hshr + (o.hrsv - rmin) } ∧
        (∀ d j, 2048 * d + j ≠ 2048 * die + i → t.owner d j = f.owner d j) ∧ t.bit (aBPM_OWN_CMD die) 30 = false ∧
        Only { regs := true, busy := true, rte := true, free := true } s t ∧ KeepsRegs [aBPM_OWN_CMD die] s t) ∧
      (write → beyond → Answers (.bpmOwnWrite path die v) s fun t => busyFor t (aBPM_OWN_CMD die) ∧ t.bit (aBPM_OWN_CMD die) 30 = true ∧
        Only { regs := true, busy := true, rte := true, free := true } s t ∧ KeepsRegs [aBPM_OWN_CMD die] s t)) ∧
    (s.mayWrite path aSCH_CAL_CMD = true → s.tblBusy aSCH_CAL_CMD = false →
      let i := bitsOf v.toNat 15 0
      let x := tblGet (fun _ => 0) s.rte.cal i
      (read → Answers (.schCalRead path v) s fun t => busyFor t aSCH_CAL_CMD ∧ (t.reg aSCH_CAL_DATA0).toNat = bitsOf x 23 0 ∧
        t.fld aSCH_CAL_DATA1 31 16 = bitsOf x 39 24 ∧ t.fld aSCH_CAL_DATA1 9 0 = bitsOf x 49 40 ∧ Only { regs := true, busy := true, free := true } s t ∧
        KeepsRegs [aSCH_CAL_CMD, aSCH_CAL_DATA0, aSCH_CAL_DATA1] s t) ∧
      (write → s.schedRunning = false → Answers (.schCalWrite path v) s fun t => busyFor t aSCH_CAL_CMD ∧
        let y := tblGet (fun _ => 0) t.rte.cal i
        bitsOf y 23 0 = s.fld aSCH_CAL_DATA0 23 0 ∧ bitsOf y 39 24 = s.fld aSCH_CAL_DATA1 31 16 ∧
        bitsOf y 49 40 = s.fld aSCH_CAL_DATA1 9 0 ∧ (∀ j, j ≠ i → tblGet (fun _ => 0) t.rte.cal j = tblGet (fun _ => 0) s.rte.cal j) ∧
        Only { regs := true, busy := true, rte := true, free := true } s t ∧ KeepsRegs [aSCH_CAL_CMD] s t) ∧
      (write → s.schedRunning = true → Answers (.schCalWrite path v) s fun t => busyFor t aSCH_CAL_CMD ∧ t.bit aSCH_EVENT 0 = true ∧
        Only { regs := true, busy := true, hif := true, out := true, free := true } s t ∧ KeepsRegs (aSCH_CAL_CMD :: blockRegs aSCH_EVENT) s t)) ∧
    (s.mayWrite path aSCH_POL_CMD = true → s.tblBusy aSCH_POL_CMD = false →
      let i := bitsOf v.toNat 12 0
      let p := s.policer i
      let d := s.reg aSCH_POL_DATA0
      let cbs := s.fld aSCH_POL_DATA1 23 0
      let ebs := s.fld aSCH_POL_DATA2 23 0
      (read → i < 5376 → p.cir < 2 ^ 20 → p.cbs < 2 ^ 24 → p.ebs < 2 ^ 24 → Answers (.schPolRead path v) s fun t => busyFor t aSCH_POL_CMD ∧
        t.bit aSCH_POL_DATA0 31 = p.enable ∧ t.bit aSCH_POL_DATA0 30 = p.ymark ∧ t.bit aSCH_POL_DATA0 29 = p.rmark ∧
        t.fld aSCH_POL_DATA0 19 0 = p.cir ∧ (t.reg aSCH_POL_DATA1).toNat = p.cbs ∧ (t.reg aSCH_POL_DATA2).toNat = p.ebs ∧
        Only { regs := true, busy := true, free := true } s t ∧ KeepsRegs [aSCH_POL_CMD, aSCH_POL_DATA0, aSCH_POL_DATA1, aSCH_POL_DATA2] s t) ∧
      (write → i < 5376 → Answers (.schPolWrite path v) s fun t => busyFor t aSCH_POL_CMD ∧
        let q := t.policer i
        q.enable = bitOf d.toNat 31 ∧ q.ymark = bitOf d.toNat 30 ∧ q.rmark = bitOf d.toNat 29 ∧ q.cir = bitsOf d.toNat 19 0 ∧
        q.cbs = cbs ∧ q.ebs = ebs ∧ (q.enable = true → p.enable = false → q.c = cbs * 65536 ∧ q.e = ebs * 65536) ∧
        (q.enable = true → p.enable = true → let g := p.grow (s.tim.clk / 5 - p.clk)
          q.c = min g.c (cbs * 65536) ∧ q.e = min g.e (ebs * 65536)) ∧ q.clk = s.tim.clk / 5 ∧
        (q.green, q.yellow, q.red) = (p.green, p.yellow, p.red) ∧ (∀ j, j ≠ i → t.policer j = s.policer j) ∧
        t.bit aSCH_POL_CMD 30 = false ∧ Only { regs := true, busy := true, rte := true, free := true } s t ∧ KeepsRegs [aSCH_POL_CMD] s t) ∧
      (5376 ≤ i → (read → Answers (.schPolRead path v) s fun t => busyFor t aSCH_POL_CMD ∧ t.bit aSCH_POL_CMD 30 = true ∧ Only { regs := true, busy := true, free := true } s t) ∧
        (write → Answers (.schPolWrite path v) s fun t => busyFor t aSCH_POL_CMD ∧ t.bit aSCH_POL_CMD 30 = true ∧ Only { regs := true, busy := true, free := true } s t)))

/-- O48. On an S-port that is UP: a frame with a wrong FCS, too short or too long (judged in this order, the model's
choice: log entry 78) is counted for that and does nothing else; a good data frame is counted and, where its policer
passes it and it takes a buffer, is held for its die; PAUSE and PFC frames set or end the timers of their priorities,
to run from the next PCLK cycle; another MAC Control frame is counted as ignored. A timer that runs out ends its
pause; a pause this port keeps up is repeated, of a priority in MODE 2 and of the link in MODE 1, REFRESH_QUANTA after it was last
sent, while the buffers held are above XON. -/
def Obligations.EthernetPorts : Prop :=
  ∀ (s : State) (i : Nat), i < 4 → s.hasPort (80 + i) = true → (s.sub (80 + i) 0).state = 4 →
    (∀ bs fcs arrival,
      let c := s.frameClass i bs fcs
      let u := (s.advTo arrival).endDamaged
      let w := u.nextPclk
      let ok : State → Prop := fun t =>
        (t.reg (aPRT_S_RX_OK_LO i)).toNat + (t.reg (aPRT_S_RX_OK_LO i + 4)).toNat * 2 ^ 32 =
          min 0xFFFFFFFFFFFFFFFF ((u.reg (aPRT_S_RX_OK_LO i)).toNat + (u.reg (aPRT_S_RX_OK_LO i + 4)).toNat * 2 ^ 32 + 1)
      let timer : List Byte → Nat := fun q => if beNat q = 0 then 0 else 25 * w.tim.clk + 256 * beNat q
      (c = .fcs → exec (.sFrameRx i bs fcs arrival) s = .next (u.bump (aPRT_S_RX_FCS i) 1)) ∧
      (c = .short → exec (.sFrameRx i bs fcs arrival) s = .next (u.bump (aPRT_S_RX_SHORT i) 1)) ∧
      (c = .long → exec (.sFrameRx i bs fcs arrival) s = .next (u.bump (aPRT_S_RX_LONG i) 1)) ∧
      (c = .data →
        let port := allocPort (80 + i)
        let owner := 8 * (s.portPav (80 + i)).getD 0 + framePcp bs
        let p := (u.bump64 (aPRT_S_RX_OK_LO i) 1).police (8 * (80 + i)) (framePcp bs)
          (bs.length + 4 + s.fld (aSCH_PORT_CFG (80 + i)) 5 0)
        let a := p.2.2.alloc port.1 port.2 owner ((bs.length + 67) / 64 + 1)
        Answers (.sFrameRx i bs fcs arrival) s fun t => ok t ∧ t.rte.wait = u.rte.wait ∧
          (∀ k hs, p.1 = true → a.1 = some (k, hs) → ∃ h, t.rte.units = s.rte.units ++ [h] ∧ h.eth = bs ∧
            h.ingress = 8 * (80 + i) ∧ h.id = s.rte.nextId ∧ h.die = port.1 ∧ h.pool = k ∧ h.handles = hs ∧ h.owner = owner) ∧
          (p.1 = false ∨ a.1 = none → t.rte.units = s.rte.units)) ∧
      (c = .pause ∨ c = .pfc ∨ c = .control → exec (.sFrameRx i bs fcs arrival) s = .next s) ∧
      (c = .pause → (s.pause i).ends.length = 8 → Answers (.pauseRx i bs fcs arrival) s fun t => ok t ∧
        (∀ p, p < 8 → (t.pause i).ends.getD p 0 = timer ((bs.drop 16).take 2)) ∧
        (∀ j, j ≠ i → t.pause j = s.pause j) ∧ t.rte.units = s.rte.units ∧ t.bit aSCH_EVENT 3 = true ∧
        t.tim = w.tim ∧ Only { regs := true, tim := true, hif := true, rte := true, out := true } u t) ∧
      (c = .pfc → (s.pause i).ends.length = 8 → Answers (.pfcRx i bs fcs arrival) s fun t => ok t ∧
        (∀ p, p < 8 → (t.pause i).ends.getD p 0 =
          if bitOf (beNat ((bs.drop 16).take 2)) p = true ∧ s.bit (aSCH_PAUSE_CTRL (80 + i)) (8 + p) = true
          then timer ((bs.drop (18 + 2 * p)).take 2) else (s.pause i).ends.getD p 0) ∧
        (∀ j, j ≠ i → t.pause j = s.pause j) ∧ t.rte.units = s.rte.units ∧ t.bit aSCH_EVENT 3 = true ∧
        t.tim = w.tim ∧ Only { regs := true, tim := true, hif := true, rte := true, out := true } u t) ∧
      (c = .control → Answers (.macControlIgnored i bs fcs arrival) s fun t => ok t ∧ Counted u t (aCTRL_IGNORED i) 1 ∧
        Only { regs := true } u t ∧ KeepsRegs [aCTRL_IGNORED i, aPRT_S_RX_OK_LO i, aPRT_S_RX_OK_LO i + 4] u t) ∧
      (c ≠ .pause → exec (.pauseRx i bs fcs arrival) s = .next s) ∧ (c ≠ .pfc → exec (.pfcRx i bs fcs arrival) s = .next s) ∧
      (c ≠ .control → exec (.macControlIgnored i bs fcs arrival) s = .next s)) ∧
    (∀ p, p < 8 → (s.pause i).ends.getD p 0 ≠ 0 → s.tim.lock = true → Answers (.pauseTimerExpire i p) s fun t =>
      (t.pause i).ends.getD p 0 = 0 ∧ (∀ q, (t.pause i).ends.getD q 0 = (s.pause i).ends.getD q 0 ∨ (t.pause i).ends.getD q 0 = 0) ∧
      t.tim.clk = max s.tim.clk (((s.pause i).ends.getD p 0 + 24) / 25) ∧ (∀ j, j ≠ i → t.pause j = s.pause j) ∧
      Only { regs := true, tim := true, rte := true } s t) ∧
    (∀ p, (s.pause i).ends.getD p 0 = 0 → exec (.pauseTimerExpire i p) s = .next s) ∧
    (∀ p, p < 8 → bitOf (s.pause i).txXoff p = true → s.bit (aSCH_PAUSE_CTRL (80 + i)) 2 = true →
      let mode := s.fld (aSCH_PAUSE_CTRL (80 + i)) 1 0
      let mine := mode = 2 ∨ (mode = 1 ∧ p = 0)
      (mine → s.fld (aSCH_PAUSE_XON (80 + i)) 19 0 < s.heldFrames i p → Answers (.pauseRefresh i p) s fun t =>
        (t.pause i).ctrl = (s.pause i).ctrl ++
          [pauseFrame mode p (s.fld (aSCH_PAUSE_TIME (80 + i)) 15 0)] ∧
        Counted s t (aPAUSE_TX_FRAMES i) 1 ∧ (∀ j, j ≠ i → t.pause j = s.pause j) ∧
        (s.tim.lock = true → t.tim.clk =
          max s.tim.clk (((s.pause i).txLast.getD p 0 + 256 * s.fld (aSCH_PAUSE_TIME (80 + i)) 31 16 + 24) / 25)) ∧
        Only { regs := true, tim := true, hif := true, rte := true, out := true } s t) ∧
      (¬mine ∨ s.heldFrames i p ≤ s.fld (aSCH_PAUSE_XON (80 + i)) 19 0 → exec (.pauseRefresh i p) s = .next s))

/-- O49. Through the command register of each table: a read shows the entry in the data registers; a write that its rule
allows stores the data registers' fields in that entry, changes no other entry, and clears the error bit; one that
R466 or R488 refuses sets the error bit and changes no entry. The operation is done at once and BUSY stays for at most
256 ns (model's choice, log entry 107); a write of the command register meanwhile is ignored, which its event says. A
window entry is not written while a schedule runs, nor a stream entry that is not CLOSED: the event says so. GSVC_EN set
takes a token for each engine that MEM_GSVC may place in service, which then take the requests that wait, or stays 0 and is counted where one lacks its token;
cleared, it leaves no engine in service. -/
def Obligations.MemoryTables : Prop :=
  ∀ (s : State) (path : Path) (v : Word),
    let read := bitOf v.toNat 16 = true ∧ bitOf v.toNat 20 = false
    let write := bitOf v.toNat 16 = true ∧ bitOf v.toNat 20 = true
    let shows : State → Nat → Nat → Prop := fun t o x =>
      t.reg o = BitVec.ofNat 32 x ∧ t.reg (o + 4) = BitVec.ofNat 32 (x / 2 ^ 32) ∧ t.reg (o + 8) = BitVec.ofNat 32 (x / 2 ^ 64)
    let busyFor : State → Nat → Prop := fun t cmd => ∃ n, n ≤ 2048 ∧ t.busy = tblSet s.busy cmd (s.tim.clk + n)
    let entry : List (Nat × Nat) → Nat → Nat := fun l i => tblGet (fun _ => 0) l i
    (∀ cmd ev bit coms,
      (cmd, ev, bit, coms) ∈ [(aMEM_RGN_CMD, aMEM_EVENT, 8, [Instr.memRgnRead path v, .memRgnWrite path v]),
        (aMEM_GTBL_CMD, aMEM_EVENT, 8, [.memGtblRead path v, .memGtblWrite path v]),
        (aMEM_GWIN_CMD, aMEM_EVENT, 8, [.memGwinRead path v, .memGwinWrite path v]),
        (aSTR_TBL_CMD, aSTR_EVENT, 0, [.strTblRead path v, .strTblWrite path v])] →
      s.mayWrite path cmd = true → s.tblBusy cmd = true → ∀ com ∈ coms, Answers com s fun t => t.bit ev bit = true ∧
        Only { regs := true, hif := true, out := true } s t ∧ KeepsRegs (blockRegs ev) s t) ∧
    (s.mayWrite path aMEM_RGN_CMD = true → s.tblBusy aMEM_RGN_CMD = false →
      let i := bitsOf v.toNat 7 0
      let x := s.data3 aMEM_RGN_DATA0 &&& 0x07FFFFFF07FFFFFFEF3F0001
      let r := regionOf x
      let good := r.valid = false ∨ (r.size ≠ 0 ∧ (r.base + r.size) * 4096 ≤ hbmBytes s.fuse.asm ∧ r.kind ≤ 2 ∧
        (r.kind = 2 → s.hasL r.lport = true) ∧ ∀ e ∈ s.regions, e.1 ≠ i → (regionOf e.2).valid = true →
          ¬(r.kind = 1 ∧ (regionOf e.2).kind = 1) ∧ ((regionOf e.2).die = r.die →
            r.base + r.size ≤ (regionOf e.2).base ∨ (regionOf e.2).base + (regionOf e.2).size ≤ r.base))
      (read → Answers (.memRgnRead path v) s fun t => busyFor t aMEM_RGN_CMD ∧ shows t aMEM_RGN_DATA0 (entry s.regions i) ∧
        t.bit aMEM_RGN_CMD 30 = false ∧ Only { regs := true, busy := true, free := true } s t ∧
        KeepsRegs [aMEM_RGN_CMD, aMEM_RGN_DATA0, aMEM_RGN_DATA0 + 4, aMEM_RGN_DATA0 + 8] s t) ∧
      (write → good → Answers (.memRgnWrite path v) s fun t => busyFor t aMEM_RGN_CMD ∧ t.region i = r ∧ (∀ j, j ≠ i → t.region j = s.region j) ∧
        t.bit aMEM_RGN_CMD 30 = false ∧ Only { regs := true, busy := true, regions := true, free := true } s t ∧ KeepsRegs [aMEM_RGN_CMD] s t) ∧
      (write → ¬good → Answers (.memRgnWrite path v) s fun t => busyFor t aMEM_RGN_CMD ∧ t.bit aMEM_RGN_CMD 30 = true ∧ Only { regs := true, busy := true, free := true } s t ∧
        KeepsRegs [aMEM_RGN_CMD] s t)) ∧
    (s.mayWrite path aMEM_GTBL_CMD = true → s.tblBusy aMEM_GTBL_CMD = false →
      let i := bitsOf v.toNat 8 0
      let x := s.data3 aMEM_GTBL_DATA0 &&& 0xFFFFFFFF07FFFFFFBF80007F
      let g := gtabOf x
      let good := g.valid = false ∨ (g.rows ≠ 0 ∧ s.tensorOk g.pav (g.die * 2 ^ 39 + g.base) (g.rows * g.row) = true)
      (read → Answers (.memGtblRead path v) s fun t => busyFor t aMEM_GTBL_CMD ∧ shows t aMEM_GTBL_DATA0 (entry s.gtbl i) ∧
        t.bit aMEM_GTBL_CMD 30 = false ∧ Only { regs := true, busy := true, free := true } s t ∧
        KeepsRegs [aMEM_GTBL_CMD, aMEM_GTBL_DATA0, aMEM_GTBL_DATA0 + 4, aMEM_GTBL_DATA0 + 8] s t) ∧
      (write → good → Answers (.memGtblWrite path v) s fun t => busyFor t aMEM_GTBL_CMD ∧ t.gtab i = g ∧ (∀ j, j ≠ i → t.gtab j = s.gtab j) ∧
        t.bit aMEM_GTBL_CMD 30 = false ∧ Only { regs := true, busy := true, gtbl := true, free := true } s t ∧ KeepsRegs [aMEM_GTBL_CMD] s t) ∧
      (write → ¬good → Answers (.memGtblWrite path v) s fun t => busyFor t aMEM_GTBL_CMD ∧ t.bit aMEM_GTBL_CMD 30 = true ∧ Only { regs := true, busy := true, free := true } s t ∧
        KeepsRegs [aMEM_GTBL_CMD] s t)) ∧
    (s.mayWrite path aMEM_GWIN_CMD = true → s.tblBusy aMEM_GWIN_CMD = false →
      let i := bitsOf v.toNat 7 0
      let x := entry s.gwin i
      (read → Answers (.memGwinRead path v) s fun t => busyFor t aMEM_GWIN_CMD ∧ t.reg aMEM_GWIN_DATA0 = BitVec.ofNat 32 x ∧
        t.reg aMEM_GWIN_DATA1 = BitVec.ofNat 32 (x / 2 ^ 32) ∧ Only { regs := true, busy := true, free := true } s t ∧
        KeepsRegs [aMEM_GWIN_CMD, aMEM_GWIN_DATA0, aMEM_GWIN_DATA1] s t) ∧
      (write → s.schedRunning = false → Answers (.memGwinWrite path v) s fun t => busyFor t aMEM_GWIN_CMD ∧
        entry t.gwin i = s.fld aMEM_GWIN_DATA0 23 0 + ((s.reg aMEM_GWIN_DATA1).toNat &&& 0xFFFF01FF) * 2 ^ 32 ∧
        (∀ j, j ≠ i → entry t.gwin j = entry s.gwin j) ∧ Only { regs := true, busy := true, gwin := true, free := true } s t ∧
        KeepsRegs [aMEM_GWIN_CMD] s t) ∧
      (write → s.schedRunning = true → Answers (.memGwinWrite path v) s fun t => busyFor t aMEM_GWIN_CMD ∧ t.bit aMEM_EVENT 8 = true ∧
        Only { regs := true, busy := true, hif := true, out := true, free := true } s t ∧ KeepsRegs (aMEM_GWIN_CMD :: blockRegs aMEM_EVENT) s t)) ∧
    (s.mayWrite path aSTR_TBL_CMD = true → s.tblBusy aSTR_TBL_CMD = false →
      let i := bitsOf v.toNat 15 0
      (read → Answers (.strTblRead path v) s fun t => busyFor t aSTR_TBL_CMD ∧
        (∀ j, j < 8 → t.reg (aSTR_TBL_DATA0 + 4 * j) = BitVec.ofNat 32 ((s.stream i).data.getD j 0)) ∧
        Only { regs := true, busy := true, free := true } s t ∧
        KeepsRegs (aSTR_TBL_CMD :: (List.range 8).map fun j => aSTR_TBL_DATA0 + 4 * j) s t) ∧
      (write → (s.stream i).state = 0 → Answers (.strTblWrite path v) s fun t => busyFor t aSTR_TBL_CMD ∧
        (∀ j, j < 8 → (t.stream i).data.getD j 0 = (s.reg (aSTR_TBL_DATA0 + 4 * j)).toNat &&& strMask.getD j 0) ∧
        t.stream i = { s.stream i with data := (t.stream i).data } ∧ (∀ j, j ≠ i → t.stream j = s.stream j) ∧
        Only { regs := true, busy := true, streams := true, free := true } s t ∧ KeepsRegs [aSTR_TBL_CMD] s t) ∧
      (write → (s.stream i).state ≠ 0 → Answers (.strTblWrite path v) s fun t => busyFor t aSTR_TBL_CMD ∧ t.bit aSTR_EVENT 0 = true ∧
        Only { regs := true, busy := true, hif := true, out := true, free := true } s t ∧ KeepsRegs (aSTR_TBL_CMD :: blockRegs aSTR_EVENT) s t)) ∧
    (s.mayWrite path aMEM_CTRL = true →
      (bitOf v.toNat 0 = s.bit aMEM_CTRL 0 → exec (.gsvcEnWrite path v) s = .next (s.plainWrite aMEM_CTRL v)) ∧
      (bitOf v.toNat 0 = true → s.bit aMEM_CTRL 0 = false → ∀ u, s.serveTokens s.engines = .inr u →
        Answers (.gsvcEnWrite path v) s fun t => t.bit aMEM_CTRL 0 = true ∧ t.tokens = u.tokens ∧
          (∀ k, k < 8 → t.inService k = (s.bit aMEM_GSVC k && hbmPlaced s.fuse.asm k && (s.enginePav k).isSome)) ∧
          (s.engines ≠ [] → t.tokens = s.tokensAt s.tim.now ++ s.engines.map fun k =>
            (⟨(s.enginePav k).getD 0, k, true, s.tim.now / 4, none⟩ : Token)) ∧
          (s.greq0 = [] → s.greq1 = [] → t.gheld = s.gheld) ∧
          Only { regs := true, tokens := true, greq0 := true, greq1 := true, gheld := true } s t ∧
          KeepsRegs [aMEM_CTRL, aPWR_PEAK] s t) ∧
      (bitOf v.toNat 0 = true → s.bit aMEM_CTRL 0 = false → ∀ k, s.serveTokens s.engines = .inl k →
        Answers (.gsvcEnWrite path v) s fun t => t.bit aMEM_CTRL 0 = false ∧ Counted s t aPWR_TOKEN_REFUSED 1 ∧
          t.bit aPWR_EVENT 1 = true ∧ Only { regs := true, hif := true, out := true } s t ∧
          KeepsRegs (aPWR_TOKEN_REFUSED :: aPWR_LAST_REFUSAL :: blockRegs aPWR_EVENT) s t) ∧
      (bitOf v.toNat 0 = false → s.bit aMEM_CTRL 0 = true → Answers (.gsvcEnWrite path v) s fun t =>
        t.bit aMEM_CTRL 0 = false ∧ (∀ k, t.inService k = false) ∧ t.tokens.length = s.tokens.length ∧
        Only { regs := true, tokens := true } s t ∧
        KeepsRegs [aMEM_CTRL, aPWR_TOKEN_CYCLES_LO, aPWR_TOKEN_CYCLES_LO + 4] s t))

/-- O50. A launch accepted for a unit starts once: at its cycle, with every page move and prefetch that has ended by then,
its operands are read and its result is computed, the held accumulators are used up, MXU_LAUNCHES counts, and its
writes are on their way: each tile of a row as its steps and the stages of R405 add up, the last one in the cycle in
which the launch completes, a row's statistics 4 after its last tile (model's choice, log entry 66). Launch 1 of an
update whose page-in has not completed does not run, and fails the update (R482). Its completion frees the unit at its cycle, keeps the
accumulators it was to keep, releases its token, and posts its completion where its ring has room. A late gathered row
stalls the launch and what it has still to write, no longer in all than its window leaves (R486, R487);
a bad word ends it, with the rows before the one it names written and no other. The next launch of an update starts 8
MCLK cycles on, where R403 refuses nothing, or fails the update; VEC_LAUNCH starts its cell launch in the cycle after
launch 2, or fails the update, as it does where the record is another pavilion's. Nothing else starts or ends one. -/
def Obligations.MatrixLaunches : Prop :=
  ∀ (s : State) (u : Nat), u < 8 →
    ((s.mx u).run = none → exec (.mxuStart u) s = .next s ∧ (∀ ok, exec (.mxuComplete u ok) s = .next s) ∧
      (∀ n, exec (.mxuGatherStall u n) s = .next s) ∧ ∀ row time, exec (.mxuEccFault u row time) s = .next s) ∧
    (∀ r, (s.mx u).run = some r →
      let d := r.desc
      let m := r.stop
      (r.started = false → s.running = true → s.pageLate r = none →
        let v := ((s.advTo (6 * r.t0)).pagerTo (u / 4) r.t0).pfTo (u / 4) r.t0
        let o := v.mxuResult d r.step (match (s.mx u).held with | some (_, _, a) => a | none => [])
        let mine : Write → Prop := fun w => w.rank = 2 + u ∧ w.bad = [] ∧
          ((∃ i b, o.rows[i]? = some b ∧ ∃ x ∈ b, w.key = x.2.1 ∧ w.bytes = x.2.2 ∧ w.at_ = 6 * (r.tileAt i x.1 + 1)) ∨
           (∃ i, o.stats[i]? = some (w.key, w.bytes) ∧ w.at_ = 6 * (r.statAt i + 1)))
        Answers (.mxuStart u) s fun t =>
          (t.mx u).run = some { r with started := true, rows := o.rows, stats := o.stats, rowFl := o.rowFl, bad := v.mxuBad d,
                                       acc := if dKeep d then o.acc else [] } ∧
          (t.mx u).held = none ∧ (∀ w, w ≠ u → t.mx w = s.mx w) ∧ Counted s t (aMXU_LAUNCHES u) 1 ∧
          t.fld (aMXU_STATUS u) 15 0 = dTag d % 65536 ∧ t.tim = (s.advTo (6 * r.t0)).tim ∧
          (∀ w, t.tim.now < w.at_ → (w ∈ t.writes ↔ w ∈ v.writes ∨ mine w)) ∧
          (s.tim.now < 6 * (r.t0 + 1) → ∀ a n, a + n ≤ accKey u ∨ accKey (u + 1) ≤ a → s.memoriesOk → t.rd a n = v.rd a n) ∧
          Only { regs := true, tim := true, hif := true, log := true, streams := true, pager0 := true, pager1 := true, mxu := true,
                 pf0 := true, pf1 := true, mem := true, poison := true, out := true } s t) ∧
      (∀ i, r.started = false → s.running = true → s.pageLate r = some i → Answers (.mxuStart u) s fun t =>
        (t.mx u).run = none ∧ (t.mx u).held = (s.mx u).held ∧ (∀ w, w ≠ u → t.mx w = s.mx w) ∧ Counted s t aMEM_PAGE_LATE 1 ∧
        t.bit aMEM_EVENT 5 = true ∧ (t.stream i).upd = 0 ∧ (t.stream i).lastStatus = 6 ∧
        t.tim = (s.advTo (6 * r.t0)).tim ∧ (∀ a n, t.rd a n = (s.advTo (6 * r.t0)).rd a n)) ∧
      (1 ≤ dM d → 1 ≤ dN d → 1 ≤ mxuDepth d → r.rowAt (dM d - 1) = if dStats d then m - 4 else m) ∧
      (r.started = true ∨ s.running = false → exec (.mxuStart u) s = .next s) ∧
      (r.started = true → r.bad = false → ∀ ok, Answers (.mxuComplete u ok) s fun t =>
        (t.mx u).run = none ∧ (t.mx u).held = (if dKeep d then some (dM d, dN d, r.acc) else none) ∧
        (∀ w, w ≠ u → t.mx w = s.mx w) ∧ t.tim = (s.advTo (6 * m)).tim ∧
        Only { regs := true, tim := true, hif := true, lrep := true, streams := true, pager0 := true, pager1 := true, mxu := true,
               tokens := true, out := true } s t ∧
        (r.stream = none → t.fld (aMXU_LAST u) 31 28 = 0 ∧ t.streams = s.streams ∧
          (r.engine = none → ∀ k, (s.tokens.find? fun k => k.unit == u && k.engine == false && k.until_.isNone) = some k →
            t.tokens = s.tokens.map fun x => if x = k then { x with until_ := some (6 * (m + 1)) } else x) ∧
          (let f := dRing d / 256 % 64
           let j := dRing d % 256
           dRing d ≠ 0xFFFF → ok = true → s.cqRoom f j = true → (s.cq f j).lost = 0 →
            .cqe f j (s.cq f j).tail
              (s.ringBase (aCQ_BASE_LO f j) + 32 * (s.cq f j).tail)
              (Cpl.bytes ⟨dTag d, 2, 0, 0, r.flagsTo r.rowFl.length, dUnit d, 0, 6 * m / 4 / 1920, 6 * m / 4 % 1920, 0, 0⟩ (s.cq f j).phase) ∈ t.out)) ∧
        (∀ i n, r.stream = some (i, n) → n = 1 ∨ (n = 2 ∧ (s.stream i).vec = true) →
          (t.stream i).upd = 10 + n ∧ (t.stream i).updAt = m)) ∧
      (r.started = false ∨ r.bad = true → ∀ ok, exec (.mxuComplete u ok) s = .next s) ∧
      (∀ n, let c := match r.bound with | some b => min n (b - r.stall) | none => n
       (r.started = true → r.engine.isSome = true → c ≠ 0 → Answers (.mxuGatherStall u n) s fun t =>
        t.mx u = { s.mx u with run := some { r with stall := r.stall + c } } ∧ (∀ w, w ≠ u → t.mx w = s.mx w) ∧
        (∀ w, w ∈ t.writes ↔ ∃ v ∈ s.writes, s.tim.now < v.at_ ∧
          w = if v.rank = 2 + u then { v with at_ := v.at_ + 6 * c } else v) ∧ (∀ a k, t.rd a k = s.rd a k) ∧
        Counted s t (aMXU_GATHER_STALL u) c ∧ t.bit aMXU_EVENT 3 = true ∧ t.bit aDET_HAZARD 2 = true ∧
        Only { regs := true, hif := true, mxu := true, mem := true, poison := true, out := true } s t ∧
        KeepsRegs (aMXU_GATHER_STALL u :: aDET_HAZARD :: (blockRegs aMXU_EVENT ++ blockRegs aDET_EVENT)) s t) ∧
       (r.started = false ∨ r.engine = none ∨ c = 0 → exec (.mxuGatherStall u n) s = .next s)) ∧
      (∀ row time, r.started = true → row < dM d → time / 6 ≤ m →
        let v := s.advTo time
        let n := max row (r.rowsBy v.mclk)
        Answers (.mxuEccFault u row time) s fun t =>
          (t.mx u).run = none ∧ (t.mx u).held = none ∧ (∀ w, w ≠ u → t.mx w = s.mx w) ∧
          t.mem = (((v.dropWrites u).writeRows ((r.rows.take n).flatMap fun l => l.map (·.2))).writeRows (r.stats.take n)).mem ∧
          (∀ w, v.tim.now < w.at_ → (w ∈ t.writes ↔ w ∈ s.writes ∧ w.rank ≠ 2 + u)) ∧
          t.bit aMXU_EVENT 2 = true ∧ t.bit aDET_HAZARD 6 = true ∧ t.tim = v.tim ∧
          (s.bit (aMXU_FAULT_REC2 u) 0 = false → t.reg (aMXU_FAULT_REC0 u) = BitVec.ofNat 32 (n * 2 ^ 16 + dTag d) ∧
            t.reg (aMXU_FAULT_REC1 u) = BitVec.ofNat 32 v.ns ∧ t.reg (aMXU_FAULT_REC2 u) = 1) ∧
          (s.bit (aMXU_FAULT_REC2 u) 0 = true → t.reg (aMXU_FAULT_REC0 u) = s.reg (aMXU_FAULT_REC0 u) ∧
            t.reg (aMXU_FAULT_REC1 u) = s.reg (aMXU_FAULT_REC1 u)) ∧
          (r.stream = none → t.fld (aMXU_LAST u) 31 28 = 4 ∧ t.streams = s.streams) ∧
          (∀ i n, r.stream = some (i, n) → (t.stream i).upd = 0 ∧ (t.stream i).lastStatus = 6))) ∧
    (∀ i n, let x := s.stream i
      (n = 2 ∧ x.upd = 11) ∨ (n = 3 ∧ ((x.upd = 12 ∧ x.vec = false) ∨ x.upd = 14)) → x.unit = u → (s.mx u).run = none →
      s.running = true →
      (s.updCheck x n = 0 → Answers (.updateNextLaunch i) s fun t =>
        (∃ r, (t.mx u).run = some r ∧ r.stream = some (i, n) ∧ r.step = x.uStep ∧ r.t0 = x.updAt + 8 ∧ r.started = true ∧
          r.desc = s.updDesc x n) ∧ (t.stream i).upd = n ∧ (∀ w, w ≠ u → t.mx w = s.mx w) ∧ t.tokens = s.tokens ∧
        Counted s t (aMXU_LAUNCHES u) 1) ∧
      (s.updCheck x n ≠ 0 → Answers (.updateNextLaunch i) s fun t => Counted s t (aMXU_REFUSED u) 1 ∧ (t.mx u).run = none ∧
        (t.mx u).held = none ∧ (∀ w, w ≠ u → t.mx w = s.mx w) ∧
        t.fld (aMXU_LAST u) 31 28 = 1 ∧ (t.stream i).upd = 0 ∧ (t.stream i).lastStatus = 6)) ∧
    (∀ i img l, let x := s.stream i
      let c := (6 * (x.updAt + 1) + 3) / 4
      let v := s.toCyc c
      x.upd = 12 → x.vec = true → s.img = some img → img.cellRec[bitsOf (x.w 7) 15 0]? = some l →
      (l.pav ≠ x.pav → Answers (.vecLaunchFire i) s fun t => (t.stream i).upd = 0 ∧ (t.stream i).lastStatus = 6 ∧
        t.cells = s.cells ∧ t.cel = s.cel) ∧
      (l.pav = x.pav → gates l = [] → v.launchBad l true = none → Answers (.vecLaunchFire i) s fun t =>
        t.stream i = { x with upd := 4 } ∧ (∃ w, Started v t l w c) ∧ t.tim = v.tim ∧ t.mxu = s.mxu ∧
        (∀ j, j ≠ i → t.stream j = s.stream j)) ∧
      (l.pav = x.pav → gates l = [] → v.launchBad l true ≠ none → (∀ r ∈ s.cel.runs, r.stream ≠ some i) → Answers (.vecLaunchFire i) s fun t =>
        (t.stream i).upd = 0 ∧ (t.stream i).lastStatus = 6 ∧ Counted s t aCEL_LAUNCH_REFUSED 1 ∧ t.cells = s.cells)) ∧
    (∀ i, (s.stream i).upd = 0 → exec (.updateNextLaunch i) s = .next s ∧ exec (.vecLaunchFire i) s = .next s)

/-- O51. The end of the prefetch at the head of a die's queue lets the bytes on their way since its firing land in that MCLK
cycle, or at its bound where that is sooner, leaves every other byte and every other write, corrects single-bit errors of
the source, and counts it.
The end of a page-in copies h of the Ember state into the unit's window, or zeros it in a reset step; a write-back copies
h' back, and completes the update where launch 3 has completed, a step before the stream's present one with its own
flags; a window that is not its pavilion's is refused and
counted. A good gather request goes to the lowest-numbered idle engine in service that may serve it and that no window masks, or
waits in its die's queue for one; any other is counted in MEM_GREQ_DROP. The engine, outside the gather windows that mask
it, sends the rows of the request it holds in one packet, or several, in order, and is idle again. -/
def Obligations.MemoryMovers : Prop :=
  ∀ s : State,
    let copied : State → State → Nat → List Byte → Prop := fun u t dst bs =>
      s.memoriesOk → t.rd dst bs.length = bs ∧ ∀ a m, a + m ≤ dst ∨ dst + bs.length ≤ a → t.rd a m = u.rd a m
    (∀ die time j q, die < 2 → s.pf die = j :: q → s.running = true → j.rec_.src < 2 ^ 40 →
      let u := s.advTo (min time (6 * j.bound))
      let dst := pfKey j.rec_ die
      let len := j.rec_.len
      let bad := u.badWords j.rec_.src len
      let at_ := min (mclkEnd u.tim.now) (6 * j.bound)
      let mine : Write → Prop := fun w => w.at_ = 6 * j.bound ∧ w.rank = 1 ∧ w.key = dst
      Answers (.prefetchDone die time) s fun t =>
        t.pf die = q ∧ t.pf (1 - die) = s.pf (1 - die) ∧ Counted s t aMEM_PF_COUNT 1 ∧
        Counted s t aMEM_HBM_CORR (u.softCount j.rec_.src len) ∧ Counted s t aMEM_HBM_UNCORR bad.length ∧
        (t.reg aMEM_PF_BYTES_LO).toNat + (t.reg (aMEM_PF_BYTES_LO + 4)).toNat * 2 ^ 32 = min (2 ^ 64 - 1)
          ((s.reg aMEM_PF_BYTES_LO).toNat + (s.reg (aMEM_PF_BYTES_LO + 4)).toNat * 2 ^ 32 + len) ∧
        t.tim = u.tim ∧ t.tim.now ≤ max s.tim.now (6 * j.bound) ∧
        (∀ w ∈ s.writes, mine w → u.tim.now < at_ → { w with at_ := at_ } ∈ t.writes) ∧
        (∀ w, ¬mine w → u.tim.now < w.at_ →
          (w ∈ t.writes ↔ w ∈ s.writes ∨ ∃ v ∈ s.writes, mine v ∧ w = { v with at_ := at_ })) ∧
        (∀ w ∈ s.writes, mine w → s.memoriesOk → ∀ T, mclkEnd u.tim.now ≤ T →
          ((∀ v ∈ s.writes, v ≠ w → v.key + v.bytes.length ≤ dst ∨ dst + w.bytes.length ≤ v.key) →
            (t.advTo T).rd dst w.bytes.length = w.bytes) ∧
          ((∀ v ∈ s.writes, mine v → v = w) → s.writes.Pairwise (fun a b => a.at_ ≤ b.at_) →
            ∀ a m, a + m ≤ dst ∨ dst + w.bytes.length ≤ a → (t.advTo T).rd a m = (u.advTo T).rd a m) ∧
          (s.writes = [w] → ∀ x ∈ w.bad, (t.advTo T).poisoned (8 * x) 8 = true)) ∧
        (bad = [] → Only { regs := true, tim := true, mem := true, poison := true, pf0 := true, pf1 := true } s t ∧
          KeepsRegs [aMEM_PF_BYTES_LO, aMEM_PF_BYTES_LO + 4, aMEM_PF_COUNT, aMEM_HBM_CORR] s t)) ∧
    (∀ die time, s.pf die = [] → exec (.prefetchDone die time) s = .next s) ∧
    (∀ die p q, die < 2 → s.running = true → s.pager die = p :: q →
      let x := s.stream p.stream
      let n := 2 * x.elems
      let u := s.advTo (6 * p.stop)
      let moved : State → Prop := fun t => t.pager die = q ∧ t.pager (1 - die) = s.pager (1 - die) ∧ t.tim = u.tim
      let denied : State → Prop := fun t => Counted s t aMEM_ACCESS_DENIED 1 ∧ t.bit aMEM_EVENT 2 = true ∧ t.mem = s.mem
      (p.out = false → Answers (.emberPageInDone die) s fun t => moved t ∧
          (s.winOk x = true →
            (p.reset = false → copied u t (s.window x.unit n) (u.rd (x.ember 0) n)) ∧
            (p.reset = true → copied u t (s.window x.unit n) (List.replicate n 0)) ∧
            Only { regs := true, tim := true, pager0 := true, pager1 := true, mem := true, poison := true } s t ∧
            KeepsRegs [aLOG_TBL_CORR] s t) ∧
          (s.winOk x = false → denied t)) ∧
      (p.out = true → Answers (.emberWritebackDone die) s fun t => moved t ∧
          (s.winOk x = true → copied u t (x.ember 0) (u.rd (s.window x.unit (4 * x.elems)) n)) ∧
          (s.winOk x = false → denied t) ∧ (∀ j, j ≠ p.stream → t.stream j = s.stream j) ∧
          (∀ fl, p.tail = some fl → t.stream p.stream = { x with lastStatus := 0 } ∧ Counted s t aSTR_STEPS_OK 1) ∧
          (p.tail = none → x.upd = 13 ∧ x.l3Done = true → t.stream p.stream = { x with wbDone := true, upd := 0, lastStatus := 0 } ∧
            Counted s t aSTR_STEPS_OK 1) ∧
          (p.tail = none → x.upd ≠ 13 ∨ x.l3Done = false → t.stream p.stream = { x with wbDone := true } ∧
            t.reg aSTR_STEPS_OK = s.reg aSTR_STEPS_OK) ∧
          Only { regs := true, hif := true, log := true, out := true, tim := true, pager0 := true, pager1 := true, mem := true,
                 poison := true, streams := true } s t) ∧
      (p.out = true → exec (.emberPageInDone die) s = .next s) ∧
      (p.out = false → exec (.emberWritebackDone die) s = .next s)) ∧
    (∀ src u v, Hands s (fun p => p.kind == 0x0C) src u v →
      let p := u.pkt
      let i := bitsOf p.tag 19 11
      let n := bitsOf p.tag 10 0 + 1
      let g := s.gtab i
      let good := g.valid = true ∧ p.pav = g.pav ∧ n ≤ 16 * (p.len + 1) ∧ (s.greq g.die).length < 64 ∧
        ∃ k, 4 * g.die ≤ k ∧ k < 4 * g.die + 4 ∧ s.inService k = true ∧ s.enginePav k = some g.pav
      let new : GReq := ⟨i, bitsOf p.tag 31 20, p.src, (List.range n).map fun j => beNat ((p.payload.drop (4 * j)).take 4)⟩
      let idle := fun (q : GReq) => v.idleEngine g.die (s.gtab q.table).pav v.curSlot
      (good → Answers (.gatherReqRx src) s fun t =>
        ((∀ q ∈ s.greq g.die ++ [new], idle q = none) → t.greq g.die = s.greq g.die ++ [new] ∧ t.gheld = s.gheld) ∧
        (∀ k, (∀ q ∈ s.greq g.die, idle q = none) → idle new = some k → new ∉ s.greq g.die →
          t.greq g.die = s.greq g.die ∧ t.gheld = s.gheld ++ [(k, new)]) ∧
        t.greq (1 - g.die) = s.greq (1 - g.die) ∧ Counted s t aMEM_GREQ_RX 1 ∧
        (s.cap.active = false → t.mem = s.mem)) ∧
      (¬good → Answers (.gatherReqRx src) s fun t => t.greq0 = s.greq0 ∧ t.greq1 = s.greq1 ∧ t.gheld = s.gheld ∧
        Counted s t aMEM_GREQ_DROP 1 ∧ t.bit aMEM_EVENT 6 = true ∧
        (s.cap.active = false → t.mem = s.mem))) ∧
    (∀ port sub rx arrival, exec (.gatherReqRx (.link port sub rx arrival)) s =
      if rx.pkt.kind = 0x0C then exec (.routedPacketRx port sub rx arrival) s else .next s) ∧
    (∀ k time, k < 8 → s.running = true → s.gwinHas k (max s.tim.now time / 7680) = false →
      let v := (s.advTo time).gatherTake (k / 4)
      (v.gheld.find? (fun e => e.1 == k) = none → exec (.gatherServe k time) s = .next v) ∧
      (∀ e, v.gheld.find? (fun e => e.1 == k) = some e →
      let q := e.2
      let x := { v with gheld := v.gheld.erase e }
      let w := x.gatherTake (k / 4)
      let g := s.gtab q.table
      let at_ := fun r => g.die * 2 ^ 39 + g.base + r * g.row
      let row := fun r => if g.rows ≤ r then List.replicate g.row 0 else v.rd (at_ r) g.row
      let owned := g.valid = true ∧ ∀ r ∈ q.rows, g.rows ≤ r ∨ s.tensorOk g.pav (at_ r) g.row = true
      (¬owned → Answers (.gatherServe k time) s fun t => Counted s t aMEM_ACCESS_DENIED 1 ∧ t.bit aMEM_EVENT 2 = true ∧
        t.greq (k / 4) = w.greq (k / 4) ∧ t.gheld = w.gheld ∧ t.rte = s.rte ∧ t.mem = s.mem) ∧
      (owned → (∀ r ∈ q.rows, r < g.rows ∧ v.poisoned (at_ r) g.row = false ∧ v.softCount (at_ r) g.row = 0) →
        let all := q.rows.flatMap row
        0 < all.length → all.length ≤ 8192 →
        let sq := x.nextSeq (0xC000 + s.ownSwitch) q.src false
        exec (.gatherServe k time) s = .next ((sq.2.originate g.die 14
          { ver := 1, kind := 0x0D, sched := false, vc := 1, ce := false, kflag := false, pav := g.pav, hops := s.hopInit,
            len := all.length / 64 - 1, dst := q.src, src := 0xC000 + s.ownSwitch, seq := sq.1, tag := q.msg * 2 ^ 20,
            payload := all } false).2.gatherTake (k / 4))) ∧
      (owned → Answers (.gatherServe k time) s fun t => t.greq (k / 4) = w.greq (k / 4) ∧ t.gheld = w.gheld ∧
        t.greq (1 - k / 4) = s.greq (1 - k / 4) ∧ (s.writes = [] → t.mem = s.mem) ∧
        ((q.rows.filter fun r => decide (g.rows ≤ r)) ≠ [] →
          Counted s t aMEM_GATHER_RANGE (q.rows.filter fun r => decide (g.rows ≤ r)).length) ∧
        t.tim = v.tim))) ∧
    (∀ k time, 8 ≤ k ∨ s.running = false ∨ s.gwinHas k (max s.tim.now time / 7680) = true →
      exec (.gatherServe k time) s = .next s)

/-- O52. A group command of a bound function whose block was read: a block of another length than its header and its members
take fails as status 5, one that holds a reserved or unlisted value as 0xF0; else the first check of R357 that fails, in
the order of its statuses, is the completion's status and nothing else changes; where none fails the entry becomes the group the block describes, with no instance in progress, every other entry stays,
and COL_GROUPS_USED follows. GROUP_DESTROY frees an entry of the function's pavilion that no running schedule names,
or completes with status 2, 10 or 11; an instance in progress is counted as failed. COL_LAG_CLR clears the viewed group's
lag store alone; a member complete by then has had its lag taken. -/
def Obligations.GroupCommands : Prop :=
  (∀ (d : Desc) (g : Nat) (blk : List Byte) (s : State), Serves s d → (s.fnPav d.fn).isSome = true →
    let x := groupOf blk
    let checks : List (Nat × Bool) :=
      [(1, (s.grp g).isSome), (2, !s.groupPavOk d.fn g x),
       (3, x.elems == 0 || x.elems % 256 != 0 || (x.op == 3 && x.rows * x.width % 256 != 0)),
       (4, x.members.any fun m => m.count != x.perRank m),
       (5, !x.membersOk), (6, !s.levelOk x), (7, !x.formatOk), (8, !x.sizeOk),
       (9, !s.cellsOk g x)]
    (exec (.groupCreate d g blk false) s = .next (((s.take d).sqStop d.fn d.sq).cmdEnd d 0xF2 0 0)) ∧
    (4095 < g → exec (.groupCreate d g blk true) s = .next ((s.take d).cmdEnd d 0xF0 0 0)) ∧
    (g ≤ 4095 → blk.length < 128 ∨ blk.length ≠ 128 + 32 * x.members.length → exec (.groupCreate d g blk true) s = .next ((s.take d).cmdEnd d 5 0 0)) ∧
    (g ≤ 4095 → 128 ≤ blk.length → blk.length = 128 + 32 * x.members.length → blockRsv blk = true ∨ blockBad blk x = true →
      exec (.groupCreate d g blk true) s = .next ((s.take d).cmdEnd d 0xF0 0 0)) ∧
    (g ≤ 4095 → 128 ≤ blk.length → blk.length = 128 + 32 * x.members.length → blockRsv blk = false → blockBad blk x = false →
      (∀ pre st post, checks = pre ++ (st, true) :: post → (∀ c ∈ pre, c.2 = false) →
        exec (.groupCreate d g blk true) s = .next ((s.take d).cmdEnd d st 0 0)) ∧
      ((∀ c ∈ checks, c.2 = false) → Answers (.groupCreate d g blk true) s fun t =>
        t.grp g = some x ∧ x.live = false ∧ x.step = leAt blk 56 6 ∧ (∀ h, h ≠ g → t.grp h = s.grp h) ∧
        t.reg aCOL_GROUPS_USED = BitVec.ofNat 32 t.groups.length ∧
        Only { regs := true, tim := true, hif := true, groups := true, out := true } s t))) ∧
  (∀ (d : Desc) (g : Nat) (s : State) (p : Nat), Serves s d → s.fnPav d.fn = some p →
    (4095 < g → exec (.groupDestroy d g) s = .next ((s.take d).cmdEnd d 0xF0 0 0)) ∧
    (g ≤ 4095 → s.ownsGroup p g = false → exec (.groupDestroy d g) s = .next ((s.take d).cmdEnd d 2 0 0)) ∧
    (g ≤ 4095 → s.ownsGroup p g = true →
      (s.grp g = none → exec (.groupDestroy d g) s = .next ((s.take d).cmdEnd d 11 0 0)) ∧
      (∀ x, s.grp g = some x →
        (s.groupInUse g = true → exec (.groupDestroy d g) s = .next ((s.take d).cmdEnd d 10 0 0)) ∧
        (s.groupInUse g = false → Answers (.groupDestroy d g) s fun t =>
          t.grp g = none ∧ (∀ h, h ≠ g → t.grp h = s.grp h) ∧
          t.reg aCOL_GROUPS_USED = BitVec.ofNat 32 t.groups.length ∧ t.streams = s.streams ∧ t.mxu = s.mxu ∧
          t.sched = s.sched ∧ t.mem = s.mem ∧
          (x.live = true → Counted s t aCOL_INST_FAIL 1) ∧
          (x.live = false → (∀ f ∈ x.fails, f.owed = false) → x.cur = [] → x.nxt = [] →
            Only { regs := true, tim := true, hif := true, groups := true, cel := true, out := true, free := true } s t))))) ∧
  (∀ (path : Path) (v : Word) (s : State), s.mayWrite path aCOL_LAG_CLR = true → bitOf v.toNat 0 = true →
    let g := s.fld aCOL_VIEW 11 0
    (∀ x, s.grp g = some x → Answers (.colLagClr path v) s fun t =>
      (∃ r, t.grp g = some { x with lag := [], hist := [], reached := r } ∧ (x.live = false → r = x.reached)) ∧
      (∀ h, h ≠ g → t.grp h = s.grp h) ∧ Only { groups := true } s t) ∧
    (s.grp g = none → exec (.colLagClr path v) s = .next s))

/-- O53. An unscheduled instance that was complete before a packet came has its program fired first. The packet is
discarded under the first cause of R360 that it meets, counted, and no group changes. Else a contribution of the current
instance joins it, behind those accepted before it, with no more bytes than its member lacks, the rest counted in COL_OVER, and starts an unscheduled
instance that had not started; one of the next instance waits for it. Bytes of the down stream are kept at their place,
those of the current instance and, apart, those of the next, what lies beyond the stage's share is counted in COL_OVER,
the acceptance of the last that brought new bytes is kept, and they start an unscheduled instance too. A failure notice for the current instance ends it with the status it
carries, and the next is current; one for the next instance is kept. -/
def Obligations.GroupPackets : Prop :=
  let ph := fun (p : Pkt) => bitsOf p.tag 19 18
  let up : List ((RxSrc → Instr) × (Pkt → Bool)) :=
    [(.contribUpRx, fun p => p.kind == 2 && ph p == 0), (.segsumRx, fun p => p.kind == 4)]
  let down : (RxSrc → Instr) × (Pkt → Bool) := (.contribDownRx, fun p => p.kind == 2 && ph p == 1)
  let note : (RxSrc → Instr) × (Pkt → Bool) := (.failureNoticeRx, fun p => p.kind == 2 && ph p == 2)
  (∀ k ∈ down :: note :: up, ∀ (s : State) (port sub : Nat) (rx : RxPkt) (arrival : Nat),
    exec (k.1 (.link port sub rx arrival)) s =
      if k.2 rx.pkt = true then exec (.routedPacketRx port sub rx arrival) s else .next s) ∧
  (∀ k ∈ down :: note :: up, ∀ (s : State) (src : RxSrc) (u : ForUnit) (v : State), Hands s k.2 src u v →
    let p := u.pkt
    let g := bitsOf p.tag 31 20
    let inst := bitsOf p.tag 17 16
    let w := v.colTrigger g
    let lost : Nat → Prop := fun o => Answers (k.1 src) s fun t => Counted s t o 1 ∧ t.bit aCOL_EVENT 3 = true ∧
      t.groups = w.groups ∧ t.streams = s.streams
    (∀ x, s.grp g = some x → (x.unsched && x.live && decide (x.state = 1) && x.ripe v.tim.now) = true →
      ∃ y, w.grp g = some y ∧ y.state = 2 ∧ y.result = some (x.program g).1 ∧ y.step = x.step ∧ y.nxt = x.nxt) ∧
    (∀ x, s.grp g = some x → (x.unsched && x.live && decide (x.state = 1) && x.ripe v.tim.now) = false → w.groups = s.groups) ∧
    (s.grp g = none → lost aCOL_DROP_NOGROUP) ∧
    (∀ x, w.grp g = some x →
      let known := (ph p = 0 ∧ (x.sender p.src).isSome = true) ∨ (ph p = 1 ∧ x.fromParent p.src = true) ∨
        (ph p = 2 ∧ ((x.sender p.src).isSome = true ∨ x.fromParent p.src = true))
      (p.sched = x.unsched → lost aCOL_DROP_CLASS) ∧
      (p.sched = !x.unsched → p.pav ≠ x.pav ∨ ¬known → lost aCOL_DROP_MEMBER) ∧
      (p.sched = !x.unsched → p.pav = x.pav → known → inst ≠ x.step % 4 → inst ≠ (x.step + 1) % 4 → lost aCOL_DROP_STALE) ∧
      (p.sched = !x.unsched → p.pav = x.pav → known →
        let off := 1024 * bitsOf p.tag 15 0
        (∀ m e, ph p = 0 → x.sender p.src = some m → x.members[m]? = some e →
          let brought := fun (ps : List Part) => ((ps.filter fun q => q.m == m).map fun q => q.bytes.length).foldl (· + ·) 0
          let taken := fun ps => p.payload.take (x.expect e - brought ps)
          (inst = x.step % 4 → Answers (k.1 src) s fun t => ∃ y, t.grp g = some y ∧
            (∃ q, y.cur = addPart q x.cur ∧ q.m = m ∧ q.off = off ∧ q.bytes = taken x.cur ∧ q.at_ = u.at_ ∧ q.first = u.first ∧
              (x.unsched = false → q.held = none)) ∧
            y.nxt = x.nxt ∧ y.step = x.step ∧ y.members = x.members ∧ (x.unsched = true → y.live = true) ∧
            (x.unsched = false → y.live = x.live ∧ y.state = x.state ∧ y.result = x.result) ∧
            (x.unsched = true → x.live = true → y.start = x.start) ∧
            (x.unsched = true → x.live = false → x.prevEnd ≤ y.start) ∧
            (p.payload.length ≤ x.expect e - brought x.cur → t.reg aCOL_OVER = s.reg aCOL_OVER) ∧
            (x.expect e - brought x.cur < p.payload.length →
              Counted s t aCOL_OVER (p.payload.length - (x.expect e - brought x.cur)) ∧ t.bit aCOL_EVENT 5 = true)) ∧
          (inst = (x.step + 1) % 4 → Answers (k.1 src) s fun t => ∃ q, t.grp g = some { x with nxt := addPart q x.nxt } ∧
            q.m = m ∧ q.off = off ∧ q.bytes = taken x.nxt ∧ q.at_ = u.at_ ∧ q.first = u.first)) ∧
        (ph p = 1 → (inst = x.step % 4 → memWf x.down = true → p.payload.length ≤ 8192 →
            p.payload.length ≤ x.downBytes - off →
            Answers (k.1 src) s fun t => ∃ y, t.grp g = some y ∧ memRead y.down off p.payload.length = p.payload ∧
              (p.payload ≠ [] → hasRange y.got off (off + p.payload.length) = true) ∧ y.cur = x.cur ∧ y.step = x.step ∧
              y.live = (x.live || x.unsched) ∧ y.state = (if x.unsched = true ∧ x.live = false then 1 else x.state) ∧
              (rangeBytes x.got < rangeBytes y.got → y.gotAt = max x.gotAt u.at_) ∧
              (rangeBytes y.got ≤ rangeBytes x.got → y.gotAt = x.gotAt) ∧ y.nxtDown = x.nxtDown ∧ t.reg aCOL_OVER = s.reg aCOL_OVER) ∧
          (inst = (x.step + 1) % 4 → memWf x.nxtDown = true → p.payload.length ≤ 8192 →
            p.payload.length ≤ x.downBytes - off →
            Answers (k.1 src) s fun t => ∃ y : Group, t.grp g = some { x with nxtDown := y.nxtDown, nxtGot := y.nxtGot, nxtGotAt := y.nxtGotAt } ∧
              (rangeBytes x.nxtGot < rangeBytes y.nxtGot → y.nxtGotAt = max x.nxtGotAt u.at_) ∧
              (rangeBytes y.nxtGot ≤ rangeBytes x.nxtGot → y.nxtGotAt = x.nxtGotAt) ∧
              memRead y.nxtDown off p.payload.length = p.payload ∧
              (p.payload ≠ [] → hasRange y.nxtGot off (off + p.payload.length) = true) ∧ t.reg aCOL_OVER = s.reg aCOL_OVER) ∧
          (inst = x.step % 4 ∨ inst = (x.step + 1) % 4 → x.downBytes - off < p.payload.length → Answers (k.1 src) s fun t =>
            Counted s t aCOL_OVER (p.payload.length - (x.downBytes - off)) ∧ t.bit aCOL_EVENT 5 = true)) ∧
        (ph p = 2 → (inst = x.step % 4 → beNat (p.payload.take 1) ≠ 0 → x.nxtFail = none → x.nextMiss = [] →
            Answers (k.1 src) s fun t => ∃ y, t.grp g = some y ∧
            y.step = (x.step + 1) % 2 ^ 48 ∧ y.lastStatus = beNat (p.payload.take 1) ∧
            Counted s t aCOL_INST_FAIL 1 ∧ t.bit aCOL_EVENT 2 = true) ∧
          (inst = (x.step + 1) % 4 → Answers (k.1 src) s fun t => t.bit aCOL_EVENT 2 = true ∧
            ∃ f : Failure, t.grp g = some { x with nxtFail := some f } ∧ f.status = beNat (p.payload.take 1) ∧
              f.step = (x.step + 1) % 2 ^ 48 ∧ f.rank = beNat ((p.payload.drop 8).take 2) ∧ f.switch = beNat ((p.payload.drop 10).take 2) ∧
              (∀ m, x.sender p.src = some m → f.member = m)))))) ∧
  (∀ k ∈ down :: note :: up, ∀ s : State, (s.rte.own.find? fun x => k.2 x.1) = none → exec (k.1 .own) s = .next s)

/-- O54. An unscheduled stage that has not been triggered at its DEADLINE completes with status 1, naming its lowest
late member, and the next instance is current; one whose counts are all complete by then has its program fired. A stage
below the root whose down stream has not been accepted whole by the start of DOWN_DEADLINE completes with status 6. An
unscheduled stage whose counts are complete before has its program fired by them; a program's end sends the partial up,
after which the stage awaits its down stream, or sends the root's result down, as it does at a scheduled root whose
down-send action came before it; while the program runs nothing happens, and a program that was refused ends the instance
with status 3. A stage that has sent and passed on everything completes OK and counts it.
(For groups for which nothing of the next instance waits.) -/
def Obligations.GroupDeadlines : Prop :=
  ∀ (s : State) (g : Nat),
    (s.grp g = none → exec (.colDeadline g) s = .next s ∧ exec (.colDownDeadline g) s = .next s ∧
      ∀ ok, exec (.colStageDone g ok) s = .next s) ∧
    (∀ x, s.grp g = some x → x.nxtFail = none → x.nextMiss = [] →
      let ends : State → Nat → Prop := fun t status => ∃ y, t.grp g = some y ∧ y.step = (x.step + 1) % 2 ^ 48 ∧
        y.lastStatus = status ∧ y.members = x.members
      let triggered : State → Prop := fun t => ∃ y, t.grp g = some y ∧ y.state = 2 ∧ y.live = true ∧ y.step = x.step ∧
        y.result = some (x.program g).1 ∧ y.flags = orF x.flags (x.program g).2.1 ∧ y.nxt = x.nxt ∧ y.members = x.members
      (x.unsched = true → x.live = true → x.state = 1 →
        let T := (x.start + x.deadline) * 7680
        let v := s.advTo T
        (x.short T = [] → x.ripe v.tim.now = true → Answers (.colDeadline g) s triggered) ∧
        (∀ m e rest, x.short T = (m, e) :: rest → Answers (.colDeadline g) s fun t => ends t 1 ∧
          (∃ y, t.grp g = some y ∧ y.lastFail = 2 ^ 28 + m % 64 * 2 ^ 16 + e.lo % 16384 ∧
            y.lateMap = (x.short T).foldl (fun a p => a ||| 2 ^ p.1) 0) ∧
          Counted s t aCOL_INST_FAIL 1 ∧ t.bit aCOL_EVENT 0 = true ∧ v.tim.now ≤ t.tim.now) ∧
        (∀ ok u, s.tim.lock = true → x.fullAt = some u → u ≤ T → Answers (.colStageDone g ok) s fun t =>
          triggered t ∧ t.tim = (s.advTo u).tim) ∧
        (∀ ok, (∀ u, x.fullAt = some u → T < u) → exec (.colStageDone g ok) s = .next s)) ∧
      (x.unsched = false ∨ x.live = false ∨ x.state ≠ 1 → exec (.colDeadline g) s = .next s) ∧
      (x.live = true → x.parent ≠ none → x.downInTime = false → Answers (.colDownDeadline g) s fun t => ends t 6 ∧
        (∃ y, t.grp g = some y ∧ (y.fails = x.fails ∨ ∃ f, y.fails = x.fails ++ [f] ∧ f.status = 6 ∧ f.step = x.step ∧
          f.owed = false)) ∧ Counted s t aCOL_INST_FAIL 1 ∧
        (s.advTo ((x.start + x.downDeadline) * 7680)).tim.now ≤ t.tim.now) ∧
      (x.live = false ∨ x.parent = none ∨ x.downInTime = true → exec (.colDownDeadline g) s = .next s) ∧
      (x.downInTime = true ↔ x.downBytes ≤ rangeBytes x.got ∧ x.gotAt ≤ (x.start + x.downDeadline) * 7680) ∧
      (∀ ok, x.live = false → exec (.colStageDone g ok) s = .next s) ∧
      (∀ ok, x.live = true →
        let sends := x.state = 2 ∧ (x.unsched = true ∨ (x.parent = none ∧ x.downFired = true))
        (sends → s.stageBusy g x = true → exec (.colStageDone g ok) s = .next s) ∧
        (sends → s.stageBusy g x = false → x.result = none → Answers (.colStageDone g ok) s fun t => ends t 3 ∧
          Counted s t aCOL_INST_FAIL 1) ∧
        (∀ bs, sends → s.stageBusy g x = false → x.result = some bs → x.parent ≠ none → Answers (.colStageDone g ok) s fun t =>
          t.grp g = some { x with state := 4 } ∧ t.reg aCOL_INST_OK = s.reg aCOL_INST_OK) ∧
        (∀ bs, sends → s.stageBusy g x = false → x.result = some bs → x.parent = none → Answers (.colStageDone g ok) s fun t =>
          (∃ y, t.grp g = some y ∧ y.state = 3 ∧ y.downFired = true ∧ y.step = x.step ∧ y.result = some bs) ∧
          t.reg aCOL_INST_OK = s.reg aCOL_INST_OK) ∧
        (x.state ≤ 2 → ¬sends → ¬(x.unsched = true ∧ x.state = 1) → exec (.colStageDone g ok) s = .next s) ∧
        (x.state = 3 ∨ x.state = 4 → x.downDone = true → x.parent = none ∨ x.downInTime = true →
          Answers (.colStageDone g ok) s fun t => ends t 0 ∧ (s.advTo x.gotAt).tim.now ≤ t.tim.now ∧
          Counted s t aCOL_INST_OK 1 ∧ t.reg aCOL_INST_FAIL = s.reg aCOL_INST_FAIL) ∧
        (x.state = 3 ∨ x.state = 4 → x.downDone = false ∨ (x.parent ≠ none ∧ x.downInTime = false) →
          exec (.colStageDone g ok) s = .next s)))

/-- O55. STREAM_OPEN, PAUSE, RESUME, RESET and CLOSE of a bound function: a parameter block with a reserved bit set
completes with 0xF0; else the first check that fails, in R565's order, is the completion's status and the entry stays; one
that passes waits for its slot. At the start of that slot the
oldest waiting command of a stream leaves the queue, changes its one entry and completes: an open loads the entry,
at RESET_PENDING for a sender and AWAIT_RESET for a receiver; a pause keeps the state its resume restores; a reset
asks for one; a close leaves the Ember state and forgets the rest. -/
def Obligations.StreamCommands : Prop :=
  (∀ (d : Desc) (i slot step0 : Nat) (blk : List Byte) (s : State), Serves s d → (s.fnPav d.fn).isSome = true →
    let late := decide (slot < (s.take d).curSlot + 1024)
    let mine := match s.fnPav d.fn with | some p => s.ownsStream p i | none => false
    let waits := s.strCmds.any fun c => c.stream == i
    let st := (s.stream i).state
    let turned : Instr → List (Nat × Bool) → Nat → List Nat → Prop := fun k checks kind data =>
      (∀ pre code post, checks = pre ++ (code, true) :: post → (∀ c ∈ pre, c.2 = false) →
        exec k s = .next ((s.take d).cmdEnd d code 0 0)) ∧
      ((∀ c ∈ checks, c.2 = false) → Answers k s fun t =>
        t.strCmds = s.strCmds ++ [⟨i, kind, slot, if kind = 0 then step0 % 2 ^ 48 else 0, data, (s.take d).noOf d⟩] ∧ t.streams = s.streams ∧
        Only { regs := true, tim := true, hif := true, strCmds := true, out := true } s t)
    let x : Stream := { streamInit with data := strData blk }
    exec (.streamOpen d i slot step0 blk false) s = .next (((s.take d).sqStop d.fn d.sq).cmdEnd d 0xF2 0 0) ∧
    (strRsv blk = true → exec (.streamOpen d i slot step0 blk true) s = .next ((s.take d).cmdEnd d 0xF0 0 0)) ∧
    (strRsv blk = false → turned (.streamOpen d i slot step0 blk true)
      [(2, !mine || !s.openPav d.fn x), (7, waits), (6, st != 0), (1, late), (3, !s.openParam x), (4, !s.openRange x),
       (5, match s.img with | some m => decide (m.wset.length ≤ x.wsetId) | none => true)] 0 (strData blk)) ∧
    turned (.streamPause d i slot) [(2, !mine), (7, waits), (6, st == 0 || st == 3), (1, late)] 1 [] ∧
    turned (.streamResume d i slot) [(2, !mine), (7, waits), (6, st != 3), (1, late)] 2 [] ∧
    turned (.streamReset d i slot) [(2, !mine), (7, waits), (6, st == 0 || st == 3), (1, late)] 3 [] ∧
    turned (.streamClose d i slot) [(2, !mine), (7, waits), (6, st == 0), (1, late)] 4 []) ∧
  (∀ (s : State) (i : Nat) (ok : Bool),
    ((s.strCmds.find? fun c => c.stream == i) = none ∨ s.tim.lock = false → exec (.streamCmdEffect i ok) s = .next s) ∧
    (∀ c, (s.strCmds.find? fun c => c.stream == i) = some c → s.tim.lock = true →
      let x := s.stream i
      Answers (.streamCmdEffect i ok) s fun t => ∃ w : State, t = w.cmdDone c.no 0 0 0 ok ∧
        w.strCmds = s.strCmds.erase c ∧ w.tim = (s.advTo (c.slot * 7680)).tim ∧ (∀ j, j ≠ i → w.stream j = s.stream j) ∧
        Only { tim := true, strCmds := true, streams := true, lrep := true } s w ∧
        (∀ l, l ≠ x.lport → w.lr l = s.lr l) ∧
        (c.kind = 0 → let y := w.stream i
          y.data = c.data ∧ y.state = (if bitsOf (c.data.getD 0 0) 31 30 = 1 then 2 else 4) ∧ y.step = c.step0 ∧ y.kc = 0 ∧
          y.lastReset = 0 ∧ y.lastStatus = 0 ∧ y.got = [] ∧ y.hist = [] ∧ y.rawQ = [] ∧ y.detect = none ∧ y.missing = []) ∧
        (c.kind ≠ 0 → x.state = 0 → w.stream i = x) ∧
        (c.kind = 1 → x.state ≠ 0 → w.stream i = { x with state := 3, resume := x.state }) ∧
        (c.kind = 2 → x.state ≠ 0 → w.stream i = { x with state := x.resume }) ∧
        (c.kind = 3 → x.state ≠ 0 → x.state ≠ 3 →
          (x.role = 1 → w.stream i = { x with state := 2 } ∧ w.lrep = s.lrep) ∧
          (x.role ≠ 1 → (w.stream i).state = 4 ∧ (w.stream i).step = x.step ∧
            ∃ b, (w.lr x.lport).reqs = (s.lr x.lport).reqs ++ [b] ∧ b.take 10 = natBe 2 i ++ natBe 6 x.step ++ [5, 0])) ∧
        (c.kind = 4 → x.state ≠ 0 → let y := w.stream i
          y.state = 0 ∧ y.data = x.data ∧ y.step = x.step ∧ y.got = [] ∧ y.hist = [] ∧ y.rawQ = [] ∧ y.rawSent = [] ∧
          y.missing = [] ∧ y.detect = none)))

/-- O56. A RESIDUAL or RAW_CHUNK packet is discarded under the first counter of R432 or R452 that it meets, with no
entry changed; else a RESIDUAL joins the current step of its entry, and a raw chunk fills the gap it was sent for, but
where its template is another pavilion's, when it is discarded.
LINK_ACK_SEND makes an ACK, the NAK owed or the oldest RESET_REQ owed ready. An ACK that moves on releases the
copies below it. A NAK, or the TIMEOUT_US since the last advance, resends every copy from its LSEQ in order behind a REPLAY that names the
first, and every uncorrectable word of a copy is counted; REPLAY ends RECOVER and skips duplicates or counts a gap; a
link-local packet that came in a broken codeword puts its receiver in RECOVER; a RESET_REQ the sender accepts moves its entry to
RESET_PENDING and queues the raw chunks. -/
def Obligations.StreamPackets : Prop :=
  ∀ s : State,
    (∀ src u v, Hands s (fun p => p.kind == 8) src u v →
      let p := u.pkt
      let i := bitsOf p.tag 31 16
      let c := bitsOf p.tag 11 0
      let x := s.stream i
      let k := beNat (p.payload.take 6)
      let lost : Nat → Prop := fun o => Answers (.residualRx src) s fun t => Counted s t o 1 ∧ t.streams = s.streams
      let here := 512 ≤ u.ingress ∧ u.ingress < 640 ∧ x.lport = u.ingress / 8 - 64 ∧ x.state ≠ 0 ∧ x.role = 2
      let fits := p.pav = x.pav ∧ p.payload.length = x.resLen
      let known := x.got.any fun g => g.1 == c
      (¬here → lost aSTR_DROP_NOSTREAM) ∧ (here → p.pav ≠ x.pav → lost aSTR_DROP_PAV) ∧
      (here → p.pav = x.pav → p.payload.length ≠ x.resLen → lost aSTR_DROP_LEN) ∧
      (here → fits → k < x.step → lost aSTR_DROP_LATE) ∧
      (here → fits → x.step < k ∨ (k = x.step ∧ (bitsOf p.tag 15 12 ≠ k % 16 ∨ x.chunks ≤ c ∨ known = true)) →
        lost aSTR_DROP_STEP) ∧
      (here → fits → k = x.step → bitsOf p.tag 15 12 = k % 16 → c < x.chunks → known = false →
        Answers (.residualRx src) s fun t =>
          t.stream i = { x with got := x.got ++ [(c, p, u.at_)], rbit := x.rbit || p.kflag } ∧ t.tim = v.tim ∧
          (∀ j, j ≠ i → t.stream j = s.stream j) ∧
          Counted s t aSTR_RBIT_MISMATCH (if x.rbit = true ∧ p.kflag = false then 1
            else if p.kflag = true ∧ x.rbit = false then (x.got.filter fun g => !g.2.1.kflag).length else 0))) ∧
    (∀ src u v, Hands s (fun p => p.kind == 9) src u v →
      let p := u.pkt
      let i := bitsOf p.tag 31 16
      let c := bitsOf p.tag 11 0
      let x := s.stream i
      let lost : Nat → Prop := fun o => Answers (.rawChunkRx src) s fun t => Counted s t o 1 ∧ t.streams = s.streams
      let here := 512 ≤ u.ingress ∧ u.ingress < 640 ∧ x.lport = u.ingress / 8 - 64 ∧ x.state ≠ 0 ∧ x.role = 2
      let fits := p.pav = x.pav ∧ p.payload.length = 2 * x.chunkLen
      let out := (v.strOut i false (2 * x.chunkLen * c / 64) p.payload).1
      let kind := out.kind
      (¬here → lost aSTR_DROP_NOSTREAM) ∧ (here → p.pav ≠ x.pav → lost aSTR_DROP_PAV) ∧
      (here → p.pav = x.pav → p.payload.length ≠ 2 * x.chunkLen → lost aSTR_DROP_LEN) ∧
      (here → fits → x.rawStep (bitsOf p.tag 15 12) = none → lost aSTR_DROP_LATE) ∧
      (∀ m, here → fits → x.rawStep (bitsOf p.tag 15 12) = some m →
        let gap := x.missing.any fun e => e.1 == m && e.2.contains c
        (gap = false ∨ x.reEmit = false ∨ (kind ≠ 1 ∧ kind ≠ 3) → lost aSTR_DROP_LATE) ∧
        (gap = true → x.reEmit = true → kind = 1 ∨ kind = 3 → out.pav ≠ x.pav → lost (aRTE_DROP 10)) ∧
        (gap = true → x.reEmit = true → kind = 1 ∨ kind = 3 → out.pav = x.pav → Answers (.rawChunkRx src) s fun t =>
          t.stream i = { x with missing := x.missing.map fun e => if e.1 = m then (e.1, e.2.filter (· != c)) else e } ∧
          (∀ j, j ≠ i → t.stream j = s.stream j) ∧ t.reg aSTR_DROP_LATE = s.reg aSTR_DROP_LATE))) ∧
    (∀ k ∈ [(Instr.residualRx, 8), (Instr.rawChunkRx, 9)], ∀ port sub rx arrival, exec (k.1 (.link port sub rx arrival)) s =
      if rx.pkt.kind = k.2 then exec (.routedPacketRx port sub rx arrival) s else .next s) ∧
    (∀ l, l < 16 →
      let e := 8 * (64 + l)
      let x := s.lr l
      let acks : State → Nat → List Byte → Prop := fun t kind w =>
        (t.egr e).ready = (s.egr e).ready ++ [linkPkt 0x3C false (kind * 2 ^ 24) (w ++ List.replicate (64 - w.length) 0)] ∧
        (∀ f, f ≠ e → t.egr f = s.egr f) ∧ (∀ m, m ≠ l → t.lr m = s.lr m)
      let resends : State → Nat → List Nat → Prop := fun t n bad =>
        let cs := x.copies.filter fun c => !(ahead n c.lseq)
        acks t 3 (natBe 4 (match cs with | c :: _ => c.lseq | [] => n)) ∧
        Counted s t aMEM_HBM_UNCORR (bad.filter fun n => cs.any fun c => c.lseq == n).length ∧ t.lr l = { x with since := t.tim.clk } ∧
        (t.egr e).resend = cs.map fun c => { c with stomped := c.stomped || bad.contains c.lseq }
      (s.lUp l = true →
        (Answers (.linkAckSend l 1) s fun t => acks t 1 (natBe 4 x.acc) ∧ t.lr l = x) ∧
        (x.nak = true → Answers (.linkAckSend l 2) s fun t => acks t 2 (natBe 4 x.acc) ∧ t.lr l = { x with nak := false } ∧
          Counted s t (aRPL_NAK_TX l) 1) ∧
        (x.nak = false → exec (.linkAckSend l 2) s = .next s) ∧
        (∀ w ws, x.reqs = w :: ws → Answers (.linkAckSend l 0x10) s fun t => acks t 0x10 w ∧ t.lr l = { x with reqs := ws }) ∧
        (x.reqs = [] → exec (.linkAckSend l 0x10) s = .next s) ∧
        (∀ bad, x.copies ≠ [] → Answers (.replayTimeout l bad) s fun t => resends t x.acked bad ∧
          t.tim = (s.advTo (s.tim.now + (x.since + 8000 * s.fld (aRPL_CTRL l) 15 0 - s.tim.clk))).tim)) ∧
      (s.lUp l = false ∨ x.copies = [] → ∀ bad, exec (.replayTimeout l bad) s = .next s) ∧
      (∀ rx, s.lUp l = true → rx.pkt.kind = 0x3C → rx.pkt.ver = 1 → kindErr (64 + l) rx.pkt = false → classify rx = .good → rx.lineErr = false →
        let sub := bitsOf rx.pkt.tag 31 24
        let n := beNat (rx.pkt.payload.take 4)
        (sub = 1 → ahead n x.acked = true → Answers (.ackRx l rx) s fun t =>
          t.lr l = { x with acked := n, copies := x.copies.filter fun c => !(ahead n c.lseq), since := s.tim.clk } ∧
          t.reg (aRPL_UNACKED l) = BitVec.ofNat 32 (storeBytes (t.lr l).copies) ∧ (∀ m, m ≠ l → t.lr m = s.lr m) ∧
          Only { regs := true, lrep := true } s t ∧ KeepsRegs [aRPL_UNACKED l] s t) ∧
        (sub = 1 → ahead n x.acked = false → exec (.ackRx l rx) s = .next s) ∧
        (∀ bad, sub = 2 → Answers (.nakRx l rx bad) s fun t => resends t n bad ∧ Counted s t (aRPL_NAK_RX l) 1) ∧
        (sub = 3 → let back := (x.acc + 2 ^ 32 - n) % 2 ^ 32
          (back < 2 ^ 31 → Answers (.replayRx l rx) s fun t =>
            t.lr l = { x with recover := false, nak := false, skip := back } ∧ t.regs = s.regs ∧ Only { lrep := true } s t) ∧
          (2 ^ 31 ≤ back → Answers (.replayRx l rx) s fun t =>
            t.lr l = { x with recover := false, nak := false, skip := 0, acc := n } ∧
            Counted s t (aRPL_GAP l) ((n + 2 ^ 32 - x.acc) % 2 ^ 32) ∧ t.bit aSTR_EVENT 4 = true ∧
            Only { regs := true, hif := true, lrep := true, out := true } s t)) ∧
        (sub = 0x10 →
          let w := rx.pkt.payload
          let i := beNat (w.take 2)
          let k := beNat ((w.drop 2).take 6)
          let y := s.stream i
          let asked := fun c => ∃ j, j < min 8 (beNat ((w.drop 9).take 1)) ∧ c = beNat ((w.drop (10 + 2 * j)).take 2)
          (y.state = 0 ∨ y.role ≠ 1 ∨ y.lport ≠ l ∨ k < y.lastReset → exec (.resetReqRx l rx) s = .next s) ∧
          (y.state ≠ 0 → y.role = 1 → y.lport = l → y.lastReset ≤ k → Answers (.resetReqRx l rx) s fun t =>
            t.stream i = { y.moveTo 2 with rawQ := (t.stream i).rawQ, reqAt := if y.state = 1 then some s.cyc else y.reqAt } ∧
            (∀ q, q ∈ (t.stream i).rawQ ↔ q ∈ y.rawQ ∨ (beNat ((w.drop 8).take 1) = 1 ∧ k ∈ y.hist ∧ q.1 = k ∧ asked q.2 ∧
              q.2 < y.chunks ∧ q ∉ y.rawSent)) ∧ (y.rawQ.Nodup → (t.stream i).rawQ.Nodup) ∧
            (t.stream i).rawQ.Pairwise (fun a b => a.1 < b.1 ∨ (a.1 = b.1 ∧ a.2 ≤ b.2)) ∧
            (∀ j, j ≠ i → t.stream j = s.stream j) ∧ Only { streams := true } s t))) ∧
      (∀ rx, s.lUp l = true → rx.pkt.kind = 0x3C → bitsOf rx.pkt.tag 31 24 = 1 → rxBroken rx = true → x.recover = false →
        Answers (.ackRx l rx) s fun t => (t.lr l).recover = true ∧ (t.lr l).nak = true))

/-- O57. CAPTURE_START completes with the first status of R535 that applies, or capture starts in the CAPTURE region
with its CAPTURE_START mark first in the window, and with the trigger it asks for. A trigger of armed capture is marked
once. A stop marks the end, behind the LOSS record that is owed, or counts the mark as lost where there is no room, takes
back a trigger of its own SCLK cycle, and the commands that asked for it wait until the staging has drained. A LOSS record
names what was lost. The streamer sends the oldest whole records that fit one
frame. Replay injects each INGRESS record at its mapped instant, takes WITHHOLD from the CAPTURE_START mark, and ends
with a status on a record it cannot follow, of whatever type. A digest is refused while a schedule is launched, and over a
range that its pavilion does not own, which in HBM is a refused access; else it leaves the CRC-32C of the range as it is when the engine has read it. -/
def Obligations.CaptureReplayDigest : Prop :=
  (∀ (d : Desc) (dest : Nat) (arm full egress trigger : Bool) (sport : Nat) (s : State), Serves s d →
    (s.fnPav d.fn).isSome = true → dest < 3 →
    let command := Instr.captureStart d dest arm full egress trigger sport
    let u := s.take d
    let st := firstOf [(1, s.cap.active), (2, s.captureRegion.isNone),
      (3, match s.captureRegion with
          | some r => decide (s.fnPav d.fn ≠ some r.pav ∨ (dest = 2 ∧ s.portPav (80 + sport) ≠ some r.pav))
          | none => false),
      (4, decide (dest = 2 ∧ full = true ∧ s.fld (aPRT_S_MAXFRAME (80 + sport)) 13 0 < 8320))] 0
    (st ≠ 0 → exec command s = .next (u.cmdEnd d st 0 0)) ∧
    (∀ r, st = 0 → s.captureRegion = some r → r.size ≠ 0 → trigger = false ∨ arm = false → Answers command s fun t =>
      let c := t.cap
      c.active = true ∧ c.dest = (if arm then 0 else dest) ∧ c.armed = arm ∧ c.full = full ∧ c.egress = egress ∧ c.sport = sport ∧
      c.pav = r.pav ∧ c.base = r.die * 2 ^ 39 + r.base * 4096 ∧ c.size = r.size * 4096 ∧ c.wr = 64 ∧ c.recs = [(0, 64)] ∧
      c.seq = 1 ∧ c.lostRecs = 0 ∧ c.triggered = false ∧ c.ending = false ∧
      (s.memoriesOk → t.rd c.base 64 =
        recBytes 3 0 1 0 u.curSlot u.curCclk (markBody 4 u.captureStartVal) 0 0 0 (u.iterOf u.curSlot)) ∧
      Only { regs := true, tim := true, hif := true, cap := true, mem := true, poison := true, out := true } s t) ∧
    (st = 0 → trigger = true → arm = true → Answers command s fun t =>
      t.cap.active = true ∧ t.cap.armed = true ∧ t.cap.triggered = true ∧ t.bit aDET_EVENT 2 = true)) ∧
  (∀ (d : Desc) (s : State), Serves s d → (s.fnPav d.fn).isSome = true →
    let u := s.take d
    let v := u.capUntrigger
    let undo := s.cap.groupAt = u.tim.clk / 32 ∧ s.cap.group.any (·.trig) = true
    (s.cap.active = false → exec (.captureStop d) s = .next (u.cmdEnd d 5 0 0)) ∧
    (s.cap.active = true → s.fnPav d.fn ≠ some s.cap.pav → exec (.captureStop d) s = .next (u.cmdEnd d 3 0 0)) ∧
    (s.cap.active = true → s.fnPav d.fn = some s.cap.pav → Answers (.captureStop d) s fun t =>
      t.cap.active = true ∧ t.cap.ending = true ∧ t.cap.stoppers = s.cap.stoppers ++ [u.noOf d] ∧
      (undo → t.cap.triggered = false) ∧ (¬undo → v = u ∧ t.cap.triggered = s.cap.triggered) ∧
      (s.cap.ending = false → t.bit aDET_EVENT 3 = true ∧
        (v.capTakes 64 = true ∨ s.cap.dest = 1 → v.cap.wr < t.cap.wr ∧
          (64 ≤ s.cap.size → ∃ p, t.cap.recs.getLast? = some (p, 64) ∧ p + 64 = t.cap.wr ∧
            (s.memoriesOk → ((t.rd (s.cap.base + p % s.cap.size) 64).take 32).drop 16 = markBody 6 0))) ∧
        (v.capTakes 64 = true → t.cap.lostRecs = 0) ∧
        (v.capTakes 64 = false → s.cap.dest ≠ 1 → t.cap.wr = v.cap.wr ∧ t.cap.lostRecs = v.cap.lostRecs + 1 ∧
          t.cap.lostBytes = v.cap.lostBytes + 64 ∧ t.bit aDET_EVENT 1 = true)))) ∧
  (∀ s : State,
    let level := s.cap.level - 256 * (s.tim.clk - s.cap.levelClk)
    let alone := s.cap.groupAt ≠ s.tim.clk / 32 ∨ s.cap.group = []
    (s.cap.active = true → s.cap.ending = true → ∃ w : State,
      exec .captureStopDone s = .next (w.cmdsEnd s.cap.stoppers) ∧
      w.cap.active = false ∧ w.cap.stoppers = [] ∧ w.cap.recs = s.cap.recs ∧
      w.tim = (s.advTo (s.tim.now + (level + 255) / 256)).tim ∧ Only { tim := true, cap := true } s w) ∧
    (s.cap.active = false ∨ s.cap.ending = false → exec .captureStopDone s = .next s) ∧
    (∀ path v, path = .fn 0 → s.mayWrite path aDET_CAP_TRIGGER = true → bitOf v.toNat 0 = true → s.cap.active = true →
      s.cap.armed = true →
      (s.cap.triggered = false → s.cap.ending = false → Answers (.captureTrigger path v) s fun t =>
        t.cap.triggered = true ∧ t.bit aDET_EVENT 2 = true ∧
        (s.cap.post = none → alone → t.cap.post = some (1024 * (s.reg aDET_CAP_POST).toNat))) ∧
      (s.cap.triggered = true → Answers (.captureTrigger path v) s fun t => t.cap = s.cap ∧
        Counted s t aDET_CAP_TRIG_EXTRA 1 ∧ Only { regs := true } s t) ∧
      (s.cap.triggered = false → s.cap.ending = true → exec (.captureTrigger path v) s = .next s)) ∧
    (∀ path v, path ≠ .fn 0 ∨ bitOf v.toNat 0 = false ∨ s.cap.active = false ∨ s.cap.armed = false →
      exec (.captureTrigger path v) s = .next s) ∧
    (s.cap.active = true → s.cap.ending = false → s.cap.post = some 0 → Answers .capturePostDone s fun t =>
      t.cap.ending = true ∧ t.cap.post = none ∧ t.bit aDET_EVENT 3 = true ∧ (s.capTakes 64 = true → s.cap.wr < t.cap.wr)) ∧
    (s.cap.active = false ∨ s.cap.post ≠ some 0 → exec .capturePostDone s = .next s) ∧
    (s.cap.active = true → s.cap.lostRecs ≠ 0 → level + 320 ≤ 5 * 2 ^ 20 → s.capFits 64 = true →
      64 ≤ s.cap.size → Answers .captureLossRecord s fun t => t.cap.lostRecs = 0 ∧ t.cap.lostBytes = 0 ∧
        (alone → s.cap.wr + 64 ≤ t.cap.wr ∧ ∃ p, t.cap.recs.getLast? = some (p, 64) ∧ p + 64 = t.cap.wr ∧
          (s.memoriesOk → ((t.rd (s.cap.base + p % s.cap.size) 64).take 32).drop 16 =
            markBody s.cap.lostRecs s.cap.lostBytes))) ∧
    (s.cap.lostRecs = 0 ∨ s.cap.active = false ∨ 5 * 2 ^ 20 < level + 320 ∨ s.capFits 64 = false → exec .captureLossRecord s = .next s) ∧
    (let port := 80 + s.cap.sport
      let e := 8 * port
      let q := s.qmap e 0
      let r := fitRecs (s.fld (aPRT_S_MAXFRAME port) 13 0 - 26) s.cap.recs
      let body := r.1.flatMap fun x => s.rd (s.cap.base + x.1 % max 64 s.cap.size) x.2
      let room := s.depth e q < s.fld (aSCH_Q_LIMIT port 0 q) 23 0
      (s.cap.dest = 2 → r.1 ≠ [] → room → (s.egr e).queues.length = 8 → Answers .captureStreamSend s fun t =>
        t.cap.recs = r.2 ∧ t.cap.frameSeq = (s.cap.frameSeq + 1) % 2 ^ 32 ∧
        (∃ h, (t.egr e).queues = (s.egr e).queues.set q ((s.egr e).queues.getD q [] ++ [h]) ∧ h.eth.drop 12 =
          natBe 2 0x88B5 ++ natBe 4 s.cap.frameSeq ++ natBe 4 body.length ++ body ∧ h.ready = (s.tim.clk / 5 + 1) * 5) ∧ (∀ f, f ≠ e → t.egr f = s.egr f) ∧
        Only { regs := true, rte := true, cap := true } s t) ∧
      (s.cap.dest ≠ 2 ∨ r.1 = [] ∨ ¬room → exec .captureStreamSend s = .next s))) ∧
  (∀ (rec_ : List Byte) (staged : Bool) (s : State),
    let type := recField rec_ 0 1
    let step := max 1 (recField rec_ 2 2)
    let goesOn := s.rplPos + 64 * step < s.rplLen ∧ s.rplPos + 64 * step < 2 ^ 38
    let stops : Nat → Prop := fun code => Answers (.replayInject rec_ staged) s fun t => t.rpl.active = false ∧
      t.fld aDET_RPL_STATUS 3 0 = code ∧ t.bit aDET_RPL_STATUS 31 = false ∧ (code = 1 ∨ t.bit aDET_EVENT 4 = true)
    (s.rpl.active = false → exec (.replayInject rec_ staged) s = .next s) ∧
    (s.rpl.active = true → s.rplLen ≤ s.rplPos → stops 1) ∧
    (s.rpl.active = true → s.rplPos < s.rplLen →
      (type = 4 → stops 5) ∧ (type = 1 → recField rec_ 1 1 % 2 = 0 → stops 4) ∧ (type = 3 → recField rec_ 16 4 = 3 → stops 6) ∧
      (type ≠ 4 → ¬(type = 1 ∧ recField rec_ 1 1 % 2 = 0) → ¬(type = 3 ∧ recField rec_ 16 4 = 3) →
        (staged = false → stops 2) ∧
        (staged = true → s.mapped rec_ = none ∨ (∃ t0, s.mapped rec_ = some t0 ∧ t0 < s.tim.now) → stops 3) ∧
        (∀ t0, staged = true → s.mapped rec_ = some t0 → s.tim.now ≤ t0 → goesOn →
          (type = 3 → recField rec_ 16 4 = 4 → Answers (.replayInject rec_ staged) s fun t =>
            t.rpl = { s.rpl with withhold := recField rec_ 24 8 % 2 == 1 } ∧
            t.reg aDET_RPL_POS = s.reg aDET_RPL_POS + BitVec.ofNat 32 step ∧ Only { regs := true, rpl := true } s t) ∧
          (type = 3 → recField rec_ 16 4 = 1 ∨ recField rec_ 16 4 = 2 → Answers (.replayInject rec_ staged) s fun t =>
            t.rpl = { s.rpl with withhold := recField rec_ 16 4 == 1 } ∧ t.tim.now = (s.advTo t0).tim.now ∧
            t.reg aDET_RPL_POS = s.reg aDET_RPL_POS + BitVec.ofNat 32 step) ∧
          (type ≠ 1 → ¬(type = 3 ∧ (recField rec_ 16 4 = 1 ∨ recField rec_ 16 4 = 2 ∨ recField rec_ 16 4 = 4)) →
            Answers (.replayInject rec_ staged) s fun t => t.rpl = s.rpl ∧
              t.reg aDET_RPL_POS = s.reg aDET_RPL_POS + BitVec.ofNat 32 step ∧ Only { regs := true } s t) ∧
          (type = 1 → Answers (.replayInject rec_ staged) s fun t =>
            let port := recField rec_ 4 2 % 1024
            let p := pktOf ((rec_.drop 16).take 16) ((rec_.drop 64).take (recField rec_ 2 2 * 64 - 64))
            t = ((s.bump aDET_RPL_INJECTED 1).rxLink (port / 8) (port % 8)
                ⟨p, recField rec_ 36 4, decide (p.payload.length ≠ 64 * (p.len + 1)), false⟩ t0 true).setReg aDET_RPL_POS
                  (s.reg aDET_RPL_POS + BitVec.ofNat 32 step) ∧ Counted s t aDET_RPL_INJECTED 1))))) ∧
  (∀ (path : Path) (v : Word) (s : State),
    (path = .fn 0 → s.mayWrite path aDET_DIG_CMD = true → s.digest = none → bitOf v.toNat 16 = true →
      let w := s.plainWrite aDET_DIG_CMD v
      (s.sched.launched = false → w.digOwned = true → Answers (.digestStart path v) s fun t =>
        t.digest = some { key := w.digKey, len := w.digLen, pav := w.fld aDET_DIG_CMD 13 8, start := s.tim.clk } ∧
        t.bit aDET_DIG_CMD 30 = false ∧ Only { regs := true, digest := true } s t ∧ KeepsRegs [aDET_DIG_CMD] s t) ∧
      (s.sched.launched = true ∨ (w.digOwned = false ∧ bitsOf v.toNat 3 2 ≠ 3) → Answers (.digestStart path v) s fun t =>
        t.digest = none ∧ t.bit aDET_DIG_CMD 30 = true ∧ Only { regs := true } s t ∧ KeepsRegs [aDET_DIG_CMD] s t) ∧
      (s.sched.launched = false → w.digOwned = false → bitsOf v.toNat 3 2 = 3 → Answers (.digestStart path v) s fun t =>
        t.digest = none ∧ t.bit aDET_DIG_CMD 30 = true ∧ Counted s t aMEM_ACCESS_DENIED 1 ∧ t.bit aMEM_EVENT 2 = true ∧
        Only { regs := true, hif := true, log := true, out := true } s t)) ∧
    (s.digest ≠ none → exec (.digestStart path v) s = .next s) ∧
    (∀ d, s.digest = some d →
      let u := s.advTo (s.tim.now + (d.start + (d.len + 63) / 64 * 32 - s.tim.clk))
      Answers .digestDone s fun t => t.digest = none ∧ t.tim = u.tim ∧ (∀ a n, t.rd a n = u.rd a n) ∧
        (u.poisoned d.key d.len = false → t.reg aDET_DIG_RESULT = BitVec.ofNat 32 (crc32c (u.rd d.key d.len))) ∧
        (d.key < 2 ^ 40 → Counted s t aMEM_HBM_UNCORR (u.badWords d.key d.len).length) ∧
        Only { regs := true, tim := true, hif := true, log := true, digest := true, mem := true, poison := true, out := true,
               free := true } s t) ∧
    (s.digest = none → exec .digestDone s = .next s))

/-- O58. PAV_PROPOSE and PAV_APPROVE answer the first status of R607 that applies: a refused one counts, sets PAV_LAST,
and leaves the table; an approval refused by one of codes 9 to 13 discards the proposal. An accepted proposal is
held with its digest and the start of its window; a function other than the PF, or for an approval other than the
custodian's, may not send one. An accepted approval applies the records to the table, the
custodian and the keys; where resources move, they belong to none and read 0 until PAV_SCRUB_DONE gives them to
their new owner, no sooner than the scrubs' rates let it be and not in a warm reset, and every byte whose owner stays is
unchanged; the cells of a column that moves keep no flit of its old owner. The window's end discards the proposal, with a
new NONCE. -/
def Obligations.PavilionChanges : Prop :=
  (∀ (d : Desc) (blk : List Byte) (s : State), Serves s d → blk.length ≤ 4096 →
    let w := s.take d
    let seq := recField blk 8 4
    let recs := recsOf (recField blk 6 2) (blk.drop 32)
    let st := firstOf [(1, !proposalForm blk), (2, s.pav.pend.isSome || !s.pav.scrubs.isEmpty), (3, seq != s.pav.seq + 1),
      (4, recField blk 16 8 != s.pav.nonce),
      (5, !verifies s.pav.opKey (blk.take (blk.length - 96)) (blk.drop (blk.length - 96)))] (w.changeCheck recs)
    (∀ ok, d.fn ≠ 0 → exec (.pavPropose d blk ok) s = .next (w.cmdEnd d 0xF1 0 0)) ∧
    (d.fn = 0 → exec (.pavPropose d blk false) s = .next ((w.sqStop d.fn d.sq).cmdEnd d 0xF2 0 0)) ∧
    (d.fn = 0 → st ≠ 0 → Answers (.pavPropose d blk true) s fun t => t.pav = s.pav ∧ Counted s t aPAV_REFUSALS 1 ∧
      t.bit aPAV_EVENT 2 = true ∧ t.reg aPAV_LAST = BitVec.ofNat 32 (st * 2 ^ 24 + seq % 2 ^ 16) ∧
      t.tim = w.tim ∧ Only { regs := true, tim := true, hif := true, log := true, out := true } s t) ∧
    (d.fn = 0 → st = 0 → Answers (.pavPropose d blk true) s fun t =>
      t.pav = { s.pav with pend := some ⟨seq, recs, beNat (sha384 blk), w.tim.clk⟩ } ∧ Counted s t aPAV_PROPOSALS 1 ∧
      t.bit aPAV_EVENT 0 = true ∧ t.tim = w.tim ∧
      Only { regs := true, tim := true, hif := true, log := true, pav := true, out := true } s t)) ∧
  (∀ (d : Desc) (blk : List Byte) (ok : Bool) (s : State), Serves s d → blk.length ≤ 4096 → s.pav.cust = 0 ∨ d.fn ≠ s.pav.cust →
    exec (.pavApprove d blk ok) s = .next ((s.take d).cmdEnd d 0xF1 0 0)) ∧
  (∀ (d : Desc) (blk : List Byte) (s : State), Serves s d → blk.length ≤ 4096 → s.pav.cust ≠ 0 → d.fn = s.pav.cust →
    let w := s.take d
    let seq := recField blk 8 4
    let dig := beNat ((blk.drop 16).take 48)
    let st := firstOf [(1, !approvalForm blk), (6, s.pav.pend.isNone), (3, seq != s.pav.seq + 1),
      (7, match s.pav.pend with | some p => dig != p.digest | none => false),
      (8, match s.pav.pend with | some p => w.windowOver p | none => false),
      (5, !verifies s.pav.cuKey (blk.take 64) (blk.drop 64))]
      (match s.pav.pend with | some p => w.changeCheck p.recs | none => 0)
    exec (.pavApprove d blk false) s = .next ((w.sqStop d.fn d.sq).cmdEnd d 0xF2 0 0) ∧
    (st ≠ 0 → Answers (.pavApprove d blk true) s fun t => Counted s t aPAV_REFUSALS 1 ∧ t.bit aPAV_EVENT 2 = true ∧
      t.reg aPAV_LAST = BitVec.ofNat 32 (st * 2 ^ 24 + 2 ^ 16 + seq % 2 ^ 16) ∧ t.pav.table = s.pav.table ∧
      (st < 9 → t.pav = s.pav) ∧ (9 ≤ st → t.pav = { s.pav with pend := none, nonce := t.pav.nonce }) ∧ t.mem = s.mem) ∧
    (∀ p, st = 0 → s.pav.pend = some p → Answers (.pavApprove d blk true) s fun t =>
      let new := s.pavSet.apply p.recs
      let owner := fun (tab : List (Nat × PavEntry)) (k : Nat) => ownerIn tab fun e => e.ownsKey k
      t.pav.pend = none ∧ t.pav.seq = p.seq ∧ t.pav.cust = new.cust ∧ t.pav.opKey = new.opKey ∧ t.pav.cuKey = new.cuKey ∧
      t.pav.scrubs = scrubsOf s.pav.table new.table ∧ Counted s t aPAV_COMMITS 1 ∧ t.bit aPAV_EVENT 1 = true ∧
      (scrubsOf s.pav.table new.table = [] → t.pav.table = new.table ∧ t.pav.next = none ∧ t.pav.waiter = none) ∧
      (scrubsOf s.pav.table new.table ≠ [] → t.pav.next = some new.table ∧ t.pav.waiter = some (.host (w.noOf d)) ∧
        t.pav.scrubAt = w.tim.clk + w.scrubTime s.pav.table new.table ∧
        t.pav.table = new.table.map fun e => (e.1, (pavEntryOf s.pav.table e.1).kept e.2)) ∧
      (∀ c, ownerIn s.pav.table (fun e => bitOf e.columns (cellCol c)) ≠ ownerIn new.table (fun e => bitOf e.columns (cellCol c)) →
        (t.cell c).inq = [] ∧ ∀ f ∈ t.cel.mesh, f.dst ≠ c) ∧
      (s.memoriesOk → ∀ k, (owner s.pav.table k = owner new.table k → t.rd k 1 = w.rd k 1) ∧
        (owner s.pav.table k ≠ owner new.table k → t.rd k 1 = [0])))) ∧
  (∀ s : State,
    (s.pav.next = none → exec .pavScrubDone s = .next s) ∧
    (s.boot.warm = true → exec .pavScrubDone s = .next s) ∧
    (∀ tab, s.pav.next = some tab → s.boot.warm = false → Answers .pavScrubDone s fun t =>
      t.pav = { s.pav with table := tab, next := none, scrubs := [], waiter := none } ∧ t.bit aPAV_EVENT 4 = true ∧
      t.tim = (s.advTo (s.nowAt s.pav.scrubAt)).tim ∧
      Only { regs := true, tim := true, hif := true, log := true, pav := true, mgt := true, out := true } s t) ∧
    (s.pav.pend = none → exec .pavWindowExpire s = .next s) ∧
    (∀ p, s.pav.pend = some p → Answers .pavWindowExpire s fun t =>
      t.pav = { s.pav with pend := none, nonce := t.pav.nonce } ∧ Counted s t aPAV_EXPIRIES 1 ∧ t.bit aPAV_EVENT 3 = true ∧
      t.reg aPAV_LAST = BitVec.ofNat 32 (8 * 2 ^ 24 + 2 * 2 ^ 16 + p.seq % 2 ^ 16) ∧
      t.tim = (s.advTo (s.nowAt ((p.clk / 32 + windowSclk) * 32))).tim ∧
      Only { regs := true, tim := true, hif := true, log := true, pav := true, out := true, free := true } s t))

/-- O59. While VSB is in tolerance: a UART character whose frame's samples spell it with a stop bit joins the line or the
FIFO, or is counted, a line of more than 255 characters only where it begins with `approve` (model's choice, log entry 90);
one without a stop bit is counted, and levels with no start bit are nothing; a BREAK discards the line
being typed. A finished line whose first word is the command's runs it once: rd, wr, sensors, log, drain, approve, wreset
and relay answer OK with their values or ERR with a code, and a relayed session only reads. Relay frames open, feed
and close a session, or are counted. SMBus commands answer with their status and data, a bad PEC is refused and
counted, and an alert response releases SMBALERT_N. The TAP holds its instruction, and one that drives pins takes
the links down, that to the host too, or selects BYPASS; a sub-port in TRAINING stays there until its attempt fails. -/
def Obligations.ManagementPaths : Prop :=
  ∀ s : State, s.boot.vsb = true →
    let relay := s.mgt.relay
    let here := match relay with | some (_, true) => true | _ => false
    (∀ b : Byte, uartFrame ((false :: (List.range 8).map b.getLsbD ++ [true]).flatMap (List.replicate 16)) = some (b, true)) ∧
    (∀ levels, uartFrame levels = none → exec (.uartByteRx levels) s = .next s) ∧
    (∀ levels b, uartFrame levels = some (b, false) → Answers (.uartByteRx levels) s fun t => Counted s t aMGT_UART_FRAMING 1 ∧ t.bit aMGT_EVENT 0 = true ∧ t.mgt = s.mgt) ∧
    (∀ levels b, uartFrame levels = some (b, true) → here = false →
      (lineDone s.mgt.line = false → isEol b = false → Answers (.uartByteRx levels) s fun t =>
        t.mgt = { s.mgt with line := s.mgt.line ++ [b] } ∧ Only { mgt := true } s t) ∧
      (lineDone s.mgt.line = false → isEol b = true →
        (wordsOfLine s.mgt.line [] = [] → Answers (.uartByteRx levels) s fun t => t.mgt = { s.mgt with line := [] } ∧
          Only { mgt := true } s t) ∧
        (∀ w ws, wordsOfLine s.mgt.line [] = w :: ws →
          (s.mgt.line.length ≤ 255 ∨ w = txt "approve" → w ∈ conWords → Answers (.uartByteRx levels) s fun t =>
            t.mgt = { s.mgt with line := s.mgt.line ++ [b] } ∧ Only { mgt := true } s t) ∧
          ((255 < s.mgt.line.length ∧ w ≠ txt "approve") ∨ w ∉ conWords → Answers (.uartByteRx levels) s fun t =>
            t.mgt = { s.mgt with line := [] } ∧ t.out = .uart (txt "ERR 1" ++ [0x0D, 0x0A]) :: s.out))) ∧
      (lineDone s.mgt.line = true → s.mgt.fifo.length < 64 → Answers (.uartByteRx levels) s fun t =>
        t.mgt = { s.mgt with fifo := s.mgt.fifo ++ [b] } ∧ Only { mgt := true } s t) ∧
      (lineDone s.mgt.line = true → 64 ≤ s.mgt.fifo.length → Answers (.uartByteRx levels) s fun t => t.mgt = s.mgt ∧
        Counted s t aMGT_UART_OVERRUN 1 ∧ t.bit aMGT_EVENT 0 = true)) ∧
    (∀ levels lane b, uartFrame levels = some (b, true) → relay = some (lane, true) → Answers (.uartByteRx levels) s fun t =>
      ∃ more, t.mgt.relayOut = s.mgt.relayOut ++ (lane, 0x81, [b]) :: more ∧ t.mgt.fifo = s.mgt.fifo) ∧
    (Answers .uartBreak s fun t => Counted s t aMGT_UART_BREAKS 1 ∧ t.bit aMGT_EVENT 0 = true ∧
      (lineDone s.mgt.line = false → t.mgt = { s.mgt with line := [] }) ∧
      (lineDone s.mgt.line = true → t.mgt = { s.mgt with fifo := wholeLines s.mgt.fifo })) ∧
    (∀ relayed word args, let runs := lineDone (s.conLine relayed) = true ∧ wordsOfLine (s.conLine relayed) [] = txt word :: args ∧
        (relayed = true → ∃ l, relay = some (l, false))
      let v := s.setLine relayed []
      let replies : Instr → State → Prop := fun c t => exec c s = .next (t.refill 64)
      runs → v.conLine relayed = [] ∧
      (word = "rd" → (∀ o, args.map hexNum = [some o] →
          (accessCode (s.access .console o false) = 0 →
            replies (.consoleRd relayed) ((v.read .console o).2.sayOk relayed [(8, (v.read .console o).1.toNat)])) ∧
          (accessCode (s.access .console o false) ≠ 0 →
            replies (.consoleRd relayed) (v.sayErr relayed (accessCode (s.access .console o false))))) ∧
        (args.length ≠ 1 → replies (.consoleRd relayed) (v.sayErr relayed 1))) ∧
      (word = "wr" → (relayed = true → replies (.consoleWr relayed) (v.sayErr relayed 2)) ∧
        (∀ o x, relayed = false → args.map hexNum = [some o, some x] → s.access .console o true = .served →
          replies (.consoleWr relayed) ((v.pathWrite .console o (BitVec.ofNat 32 x)).sayOk relayed []))) ∧
      (word = "sensors" → args = [] → replies (.consoleSensors relayed)
        (v.sayOk relayed ((List.range 16).map (fun i => (4, s.fld (aMGT_TEMP i) 15 0)) ++
          (List.range 6).map (fun j => (4, s.fld (aMGT_VOLT j) 15 0))))) ∧
      (word = "log" → ∀ q, args.map hexNum = [some q] → s.access .console aLOG_VIEW false = .served →
        replies (.consoleLog relayed) (v.sayOk relayed ((List.range 8).map fun i => (8, leNat
          ((match s.ringEntry q with | some e => entryBytes e | none => List.replicate 32 0).drop (4 * i) |>.take 4))))) ∧
      (word = "drain" → (relayed = true → replies (.consoleDrain relayed) (v.sayErr relayed 2)) ∧
        (∀ n, relayed = false → args.map hexNum = [some n] → s.access .console aLOG_DRAIN_ADV true = .served →
          replies (.consoleDrain relayed) ((v.drainAdv (n % 2 ^ 14)).sayOk relayed []))) ∧
      (word = "approve" → (relayed = true → replies (.consoleApprove relayed) (v.sayErr relayed 2)) ∧
        (∀ ds, relayed = false → args.map hexDigits = [some ds] →
          (ds.length = 320 → s.boot.stage ≠ 0 → s.mgt.approving = false →
            replies (.consoleApprove relayed) (v.mgtApprove (pairBytes ds) .console)) ∧
          (ds.length = 320 → s.boot.stage = 0 → replies (.consoleApprove relayed) (v.sayErr relayed 3)) ∧
          (ds.length = 320 → s.boot.stage ≠ 0 → s.mgt.approving = true →
            replies (.consoleApprove relayed) (v.sayErr relayed 4)))) ∧
      (word = "wreset" → (relayed = true → replies (.consoleWreset relayed) (v.sayErr relayed 2)) ∧
        (relayed = false → args = [] → replies (.consoleWreset relayed) ((v.sayOk false []).warmReset 5))) ∧
      (word = "relay" → ∀ n, args.map hexNum = [some n] → n < 16 → relay = none → (s.lane (stcIdx n)).up = true →
        relayed = false → replies (.consoleRelay relayed) (State.sayOk
          { v with mgt := { v.mgt with relay := some (n, true), relayOut := s.mgt.relayOut ++ [(n, 0x80, [])] } } false []))) ∧
    (∀ bs, (s.say false bs).out = .uart (bs ++ [0x0D, 0x0A]) :: s.out) ∧ (s.mgt.fifo = [] → ∀ n, s.refill n = s) ∧
    (∀ lane, lane < 16 → (s.lane (stcIdx lane)).up = true →
      (relay = none → Answers (.consoleOpenRx lane) s fun t => t.mgt = { s.mgt with relay := some (lane, false), relayLine := [] } ∧
        Only { mgt := true } s t) ∧
      (relay ≠ none → Answers (.consoleOpenRx lane) s fun t => Counted s t aMGT_RELAY_DROP 1 ∧ Only { regs := true } s t) ∧
      (∀ bs, relay = some (lane, true) → exec (.consoleDataRx lane bs) s = .next (s.emit (.uart bs))) ∧
      (∀ b, relay = some (lane, false) → lineDone s.mgt.relayLine = false → isEol b = false →
        Answers (.consoleDataRx lane [b]) s fun t => t.mgt = { s.mgt with relayLine := s.mgt.relayLine ++ [b] } ∧
          Only { mgt := true } s t) ∧
      (∀ bs, (∀ h, relay ≠ some (lane, h)) → Answers (.consoleDataRx lane bs) s fun t => Counted s t aMGT_RELAY_DROP 1 ∧
        Only { regs := true } s t) ∧
      (∀ h, relay = some (lane, h) → Answers (.consoleCloseRx lane) s fun t =>
        t.mgt = { s.mgt with relay := none, relayLine := [], line := if h then [] else s.mgt.line } ∧ Only { mgt := true } s t) ∧
      ((∀ h, relay ≠ some (lane, h)) → exec (.consoleCloseRx lane) s = .next s)) ∧
    (∀ off, let c := accessCode (s.access .smbus off false)
      (c = 0 → exec (.smbRegRead off) s =
        .next ((s.read .smbus off).2.emit (.smbus (some (natLe 1 0 ++ natLe 4 (s.read .smbus off).1.toNat))))) ∧
      (c ≠ 0 → Answers (.smbRegRead off) s fun t => ∃ x : Word, t.out = .smbus (some (natLe 1 c ++ natLe 4 x.toNat)) :: s.out)) ∧
    (∀ pec : Option Bool, let bad := pec = some false ∨ (pec = none ∧ s.bit aMGT_SMB_CFG 2 = true)
      (bad → ∀ c : Instr, (∃ off v, c = .smbRegWrite off v pec) ∨ c = .smbWreset pec ∨ (∃ blk, c = .smbApprove blk pec) →
        Answers c s fun t => Counted s t aMGT_SMB_PEC_ERR 1 ∧ t.bit aMGT_EVENT 1 = true ∧ t.out.head? = some (.smbus none) ∧
          t.mgt = s.mgt ∧ Only { regs := true, hif := true, out := true } s t) ∧
      (¬bad →
        (∀ off v, let c := accessCode (s.access .smbus off true)
          exec (.smbRegWrite off v pec) s = .next ((if c = 0 then s.pathWrite .smbus off v else s).smbDone c)) ∧
        exec (.smbWreset pec) s = .next ((s.smbDone 0).warmReset 5) ∧
        (∀ blk, blk.length ≠ 160 → exec (.smbApprove blk pec) s = .next (s.emit (.smbus none))) ∧
        (∀ blk, blk.length = 160 → exec (.smbApprove blk pec) s = .next (if s.boot.stage = 0 then s.smbDone 3
          else if s.mgt.approving then s.smbDone 4 else s.mgtApprove blk .smbus)))) ∧
    (Answers .smbLastStatus s fun t => t.out = .smbus (some (natLe 1 s.mgt.smbStatus)) :: s.out ∧ Only { out := true } s t) ∧
    (Answers .smbSummary s fun t => ∃ hot, hot < 256 ∧ t.out = .smbus (some (natLe 2 (hot * 256 +
      b2n (s.bit aMGT_TRIP_REC 31) * 32 + b2n s.mgt.warn * 16 + b2n s.log.fatal * 8 + s.boot.stage))) :: s.out ∧
      Only { out := true, free := true } s t) ∧
    (∀ i, (i < 16 → Answers (.smbSensor i) s fun t => t.out = .smbus (some (natLe 2 (s.fld (aMGT_TEMP i) 15 0))) :: s.out) ∧
      (16 ≤ i → i < 22 → Answers (.smbSensor i) s fun t =>
        t.out = .smbus (some (natLe 2 (s.fld (aMGT_VOLT (i - 16)) 15 0))) :: s.out) ∧
      (22 ≤ i → Answers (.smbSensor i) s fun t => ∃ x, t.out = .smbus (some (natLe 2 x)) :: s.out)) ∧
    (s.alertLow = true → Answers .smbAlertResponse s fun t => t.alertLow = false ∧
      t.out = .pin .smbAlertN 1 :: .smbus (some (natLe 1 (2 * smbAddr))) :: s.out ∧ Only { mgt := true, out := true } s t) ∧
    (s.alertLow = false → exec .smbAlertResponse s = .next s) ∧
    (∀ p ∈ [(Instr.tapReset, 0x02), (.jtagSamplePreload, 0x01), (.jtagBypass, 0xFF)], Answers p.1 s fun t =>
      t.mgt = { s.mgt with tapIr := p.2 } ∧ Only { mgt := true } s t) ∧
    (Answers .jtagIdcode s fun t => t.mgt = { s.mgt with tapIr := 0x02 } ∧ t.out = .tap 0x14B08BC7 :: s.out) ∧
    (∀ p ∈ [(Instr.jtagExtest, 0x00), (.jtagClamp, 0x03), (.jtagHighz, 0x04), (.jtagExtestPulse, 0x05), (.jtagExtestTrain, 0x06)],
      (s.boot.pwrOk = true → s.sched.launched = false → Answers p.1 s fun t => t.mgt.tapIr = p.2 ∧ t.hif.linkUp = false ∧
        (∀ q k, q < 84 → s.hasSub q k = true → 3 ≤ (s.sub q k).state → (s.sub q k).state ≤ 7 → (t.sub q k).state = 1) ∧
        (∀ q k, (s.sub q k).state = 2 → (t.sub q k).state = 2) ∧
        (∀ n, n < 16 → (t.lane (stcIdx n)).up = false)) ∧
      (s.boot.pwrOk = false ∨ s.sched.launched = true → Answers p.1 s fun t => t.mgt = { s.mgt with tapIr := 0xFF } ∧
        t.bit aMGT_EVENT 2 = true ∧ Only { regs := true, hif := true, mgt := true, out := true } s t)) ∧
    (∀ off v, let w := s.tap 0x40
      exec (.jtagMgtAccess true off v) s =
        .next (if accessCode (s.access .tap off true) = 0 then w.pathWrite .tap off v else w) ∧
      (accessCode (s.access .tap off false) = 0 → exec (.jtagMgtAccess false off v) s =
        .next ((w.read .tap off).2.emit (.tap (off % 2 ^ 32 * 2 ^ 32 + (w.read .tap off).1.toNat)))) ∧
      (accessCode (s.access .tap off false) ≠ 0 → Answers (.jtagMgtAccess false off v) s fun t => ∃ x : Word,
        t.out = .tap (off % 2 ^ 32 * 2 ^ 32 + x.toNat) :: s.out))

/-- O60. A write of a register with no rule of its own stores its RW bits and clears the W1C bits written with 1 that
hardware has not set in the same SCLK cycle; one with a byte enable missing or to no register does nothing. Of two paths'
writes in one cycle the later in the order of R673 leaves its RW bits; a clear of a fault record takes the fault of the same
cycle; a function's MSI-X table takes its writes and shows them, with the pending bits (where they lie for a read is the
model's choice: log entry 22); PWR_PEAK shows no less than the tokens in use (the SCLK cycle by the root's clock is the model's choice: log entry
114). A read of a pair's low word latches the high word for its path, and TIM_NOW reads as one number. The writer moves the
queue's head to the ring under the next SEQ, in a later SCLK cycle than its offer and one entry in a cycle, over an undrained
entry only when the ring is full; LOG_DRAIN_ADV never passes LOG_WR_SEQ. A sample shows each reading; a sensor that comes to
WARN raises the warning; one at or above TRIP in two samples running drives THERM_TRIP_N low and is recorded until it is
cleared below WARN; a voltage outside its window is reported. -/
def Obligations.RegistersLogSensors : Prop :=
  ∀ s : State,
    (∀ path bar off v be, be ≠ 15 → exec (.registerWrite path bar off v be) s = .next s) ∧
    (∀ path off v, regKey path off = none ∨ (∃ o, regKey path off = some o ∧ (regRow o = none ∨ s.mayWrite path o = false)) →
      exec (.registerWrite path 0 off v 15) s = .next s) ∧
    (∀ path off v o r, regKey path off = some o → s.mayWrite path o = true → regRow o = some r →
      (blockOf o = 0 ∨ blockOf o = 4 ∨ blockOf o = 15 ∨ blockOf o = 19 ∨ blockOf o = 20) → hwShared o = false →
      s.outranked path o = false → (∀ x ∈ s.now4.held, x.1 ≠ o) →
      Answers (.registerWrite path 0 off v 15) s fun t =>
        (∀ i, i < 32 → t.bit o i = if bitOf r.rw i then bitOf v.toNat i
          else if bitOf r.w1c i = true ∧ bitOf v.toNat i = true ∧ (o, i) ∉ s.now4.bits then false else s.bit o i) ∧
        t.mgt = { s.mgt with lastWr := t.mgt.lastWr } ∧ (pathRank path = 0 → t.mgt = s.mgt) ∧
        Only { regs := true, mgt := true } s t ∧ KeepsRegs [o] s t) ∧
    (∀ path off v o r, regKey path off = some o → s.mayWrite path o = true → regRow o = some r → s.outranked path o = true →
      Answers (.registerWrite path 0 off v 15) s fun t => ∀ i, i < 32 → bitOf r.rw i = true → t.bit o i = s.bit o i) ∧
    (∀ path off v o ws, regKey path off = some o → s.mayWrite path o = true → s.outranked path o = false → faultRecord o = true →
      s.now4.held.find? (fun x => x.1 == o) = some (o, ws) → bitOf v.toNat 0 = true → s.justSet o 0 = false →
      o ∉ ws.map (·.1) → (ws.map (·.1)).Nodup → Answers (.registerWrite path 0 off v 15) s fun t => t.reg o = 1 ∧
        (∀ w ∈ ws, t.reg w.1 = w.2) ∧ Only { regs := true, mgt := true } s t ∧ KeepsRegs (o :: ws.map (·.1)) s t) ∧
    (∀ path v, s.mayWrite path aPWR_PEAK = true → regKey path aPWR_PEAK = some aPWR_PEAK → s.outranked path aPWR_PEAK = false →
      Answers (.registerWrite path 0 aPWR_PEAK v 15) s fun t =>
        t.fld aPWR_PEAK 7 0 = max (bitsOf v.toNat 7 0) (min 255 (s.tokensAt s.tim.now).length) ∧
        Only { regs := true, mgt := true } s t ∧ KeepsRegs [aPWR_PEAK] s t) ∧
    (∀ f off v, f < 64 → off < 0x8000 → off % 16 = 12 → s.hostServed = true →
      let k := 2048 * f + off / 16
      (bitOf v.toNat 0 = true → Answers (.registerWrite (.fn f) 4 off v 15) s fun t => k ∉ t.hif.msixOpen ∧
        (∀ j, j ≠ k → (j ∈ t.hif.msixOpen ↔ j ∈ s.hif.msixOpen)) ∧ Only { hif := true } s t) ∧
      (bitOf v.toNat 0 = false → Answers (.registerWrite (.fn f) 4 off v 15) s fun t => k ∈ t.hif.msixOpen ∧
        k ∉ t.hif.msixPend ∧ t.out = (if s.hif.msixPend.contains k then .msix f (off / 16)
          ((s.reg (msixKey f (16 * (off / 16)))).toNat + (s.reg (msixKey f (16 * (off / 16) + 4))).toNat * 2 ^ 32)
          (s.reg (msixKey f (16 * (off / 16) + 8))) :: s.out else s.out) ∧
        Only { hif := true, out := true } s t)) ∧
    (∀ f off v, f < 64 → off < 0x8000 → off % 4 = 0 → off % 16 ≠ 12 → s.hostServed = true →
      Answers (.registerWrite (.fn f) 4 off v 15) s fun t => t.reg (msixKey f off) = v ∧ Only { regs := true } s t ∧
        KeepsRegs [msixKey f off] s t) ∧
    (∀ f off be, f < 64 → off < 0x8100 → off % 4 = 0 → s.hostServed = true →
      (off < 0x8000 → off % 16 ≠ 12 → exec (.latchedPairRead (.fn f) (0x20000000 + off) be) s =
        .next (s.emit (.regRead (.fn f) (0x20000000 + off) (enabled be (s.reg (msixKey f off)))))) ∧
      (off < 0x8000 → off % 16 = 12 → exec (.latchedPairRead (.fn f) (0x20000000 + off) be) s =
        .next (s.emit (.regRead (.fn f) (0x20000000 + off)
          (enabled be (if 2048 * f + off / 16 ∈ s.hif.msixOpen then 0 else 1))))) ∧
      (0x8000 ≤ off → Answers (.latchedPairRead (.fn f) (0x20000000 + off) 15) s fun t => ∃ w,
        t.out = .regRead (.fn f) (0x20000000 + off) w :: s.out ∧
        (∀ n, n < 32 → w.getLsbD n = s.hif.msixPend.contains (2048 * f + (off - 0x8000) * 8 + n)) ∧ Only { out := true } s t)) ∧
    (∀ path off be o, regKey path off = some o → s.access path o false = .served → s.absent o = false →
      (isPairHigh o = true → Answers (.latchedPairRead path off be) s fun t => Only { out := true } s t ∧
        t.out = .regRead path off (enabled be (tblGet (fun _ => 0) s.latch (latchKey path (o - 4)))) :: s.out) ∧
      (isPairHigh o = false → isPairLow o = true → Answers (.latchedPairRead path off be) s fun t =>
        t.out = .regRead path off (enabled be (s.peek o)) :: s.out ∧ tblGet (fun _ => 0) t.latch (latchKey path o) = s.peek (o + 4) ∧
        (∀ k, k ≠ latchKey path o → tblGet (fun _ => 0) t.latch k = tblGet (fun _ => 0) s.latch k) ∧
        Only { latch := true, out := true } s t) ∧
      (isPairHigh o = false → isPairLow o = false → exec (.latchedPairRead path off be) s =
        .next (s.emit (.regRead path off (enabled be (s.peek o)))))) ∧
    (∀ path off be, (∀ f, path = .fn f → bar4Off off = none) → regKey path off = none ∨ (∃ o, regKey path off = some o ∧ (s.access path o false = .blank ∨
        (s.access path o false = .served ∧ s.absent o = true))) →
      exec (.latchedPairRead path off be) s = .next (s.emit (.regRead path off 0))) ∧
    (∀ path off be o, regKey path off = some o → s.access path o false = .denied ∨ s.access path o false = .unpowered →
      exec (.latchedPairRead path off be) s = .next s) ∧
    (∀ v : Word, enabled 15 v = v) ∧
    (∀ path, s.access path aTIM_NOW_LO false = .served → regKey path aTIM_NOW_LO = some aTIM_NOW_LO →
      Answers (.timNowLoRead path) s fun t => ∃ lo, t.out = .regRead path aTIM_NOW_LO lo :: s.out ∧
        (s.tim.now / 8 < 2 ^ 64 →
          lo.toNat + (tblGet (fun _ => 0) t.latch (latchKey path aTIM_NOW_LO)).toNat * 2 ^ 32 = s.tim.now / 8) ∧
        Only { latch := true, out := true } s t) ∧
    (s.log.queue = [] → exec .logWrite s = .next s) ∧
    (∀ e q, s.log.queue = e :: q → Answers .logWrite s fun t =>
      let full := 8192 ≤ s.log.wrSeq - s.log.drainSeq
      let next := if e.time < s.edgeNs then s.log.nextWrite else max s.log.nextWrite ((s.tim.clk / 32 + 1) * 32)
      t.log.queue = q ∧ t.log.wrSeq = s.log.wrSeq + 1 ∧ t.ringEntry s.log.wrSeq = some { e with seq := s.log.wrSeq } ∧
      (∀ k, s.log.wrSeq < k + 8192 → k < s.log.wrSeq → t.ringEntry k = s.ringEntry k) ∧ Counted s t aLOG_ENTRIES 1 ∧
      (full → t.log.drainSeq = s.log.drainSeq + 1 ∧ Counted s t aLOG_OVERWRITTEN 1 ∧ t.bit aLOG_EVENT 2 = true) ∧
      (¬full → t.log.drainSeq = s.log.drainSeq ∧ t.reg aLOG_OVERWRITTEN = s.reg aLOG_OVERWRITTEN ∧
        (s.log.wrSeq + 1 - s.log.drainSeq = s.fld aLOG_THRESH 13 0 → t.bit aLOG_EVENT 0 = true)) ∧
      t.tim = (s.advTo (s.nowAt next)).tim ∧ t.log.nextWrite = (t.tim.clk / 32 + 1) * 32 ∧
      Only { regs := true, tim := true, hif := true, log := true, out := true } s t ∧
      KeepsRegs (aLOG_ENTRIES :: aLOG_OVERWRITTEN :: blockRegs aLOG_EVENT) s t) ∧
    (∀ path v, s.mayWrite path aLOG_DRAIN_ADV = true → Answers (.logDrainAdv path v) s fun t =>
      let n := bitsOf v.toNat 13 0
      (¬(s.tim.lock = true ∧ s.log.drainAt = s.tim.clk / 32 + 1) →
        t.log = { s.log with drainSeq := min s.log.wrSeq (s.log.drainSeq + n) }) ∧
      (s.tim.lock = true ∧ s.log.drainAt = s.tim.clk / 32 + 1 → t.log = { s.log with
        drainWas := min s.log.wrSeq (s.log.drainWas + n)
        drainSeq := max (min s.log.wrSeq (s.log.drainWas + n)) s.log.drainTo }) ∧ Only { log := true } s t) ∧
    (∀ temps volts, s.boot.vsb = true → Answers (.sensorSample temps volts) s fun t =>
      (∀ i, i < 16 → t.fld (aMGT_TEMP i) 15 0 = if s.hasSensor i then unsigned 16 (temps.getD i (-32768)) else 0x8000) ∧
      (∀ j, j < 6 → t.fld (aMGT_VOLT j) 15 0 = unsigned 16 (volts.getD j 0)) ∧
      (∀ i, i < 16 → s.mgt.hot.contains i = true → s.tripAt ≤ t.temp i → t.bit aMGT_TRIP_REC 31 = true ∧
        (s.bit aMGT_TRIP_REC 31 = false → .pin .thermTripN 0 ∈ t.out ∧
          ((∀ j, j < i → s.mgt.hot.contains j = false ∨ t.temp j < s.tripAt) →
            t.reg aMGT_TRIP_REC = BitVec.ofNat 32 (2 ^ 31 + i * 2 ^ 16 + t.fld (aMGT_TEMP i) 15 0)))) ∧
      (∀ i, i < 16 → (i ∈ t.mgt.hot ↔ s.tripAt ≤ t.temp i)) ∧
      (∀ i, i < 16 → (i ∈ t.mgt.warned ↔ s.warnAt ≤ t.temp i)) ∧
      ((∃ i, i < 16 ∧ i ∉ s.mgt.warned ∧ s.warnAt ≤ t.temp i) → t.mgt.warn = true ∧ t.bit aMGT_EVENT 3 = true) ∧
      (s.mgt.warn = true → (∀ i, i < 16 → t.temp i < s.warnAt - 40) → t.mgt.warn = false) ∧
      (∀ j, j < 6 → s.mgt.hot.contains (16 + j) = false →
        (let w := s.voltWin j
         let r := unsigned 16 (volts.getD j 0)
         r < w.1 ∨ w.2 < r) → t.bit aMGT_EVENT 4 = true) ∧
      Only { regs := true, hif := true, log := true, mgt := true, out := true } s t) ∧
    (s.boot.vsb = false → ∀ temps volts, exec (.sensorSample temps volts) s = .next s) ∧
    (∀ path v, s.mayWrite path aMGT_TRIP_REC = true →
      (bitOf v.toNat 31 = true → s.bit aMGT_TRIP_REC 31 = true → (∀ i, i < 16 → s.temp i < s.warnAt) →
        Answers (.mgtTripRecClear path v) s fun t => t.bit aMGT_TRIP_REC 31 = false ∧ t.out = .pin .thermTripN 1 :: s.out ∧
          Only { regs := true, out := true } s t ∧ KeepsRegs [aMGT_TRIP_REC] s t) ∧
      (bitOf v.toNat 31 = false ∨ s.bit aMGT_TRIP_REC 31 = false ∨ (∃ i, i < 16 ∧ s.warnAt ≤ s.temp i) →
        exec (.mgtTripRecClear path v) s = .next s))
end

