-- ==== Sys2Proof/Laws/Mask.lean ====
section
/-! SUPPORT. A record update of the state leaves the rest of the state as it was: one lemma per field. -/

namespace Sys2Proof.Machine

theorem mask_regs {G : Fields} (h : G.regs) (t : State) (x : List (Nat × Word)) :
    State.mask G { t with regs := x } = State.mask G t := by
  simp only [State.mask, h, if_true]
theorem mask_latch {G : Fields} (h : G.latch) (t : State) (x : List (Nat × Word)) :
    State.mask G { t with latch := x } = State.mask G t := by
  simp only [State.mask, h, if_true]
theorem mask_busy {G : Fields} (h : G.busy) (t : State) (x : List (Nat × Nat)) :
    State.mask G { t with busy := x } = State.mask G t := by
  simp only [State.mask, h, if_true]
theorem mask_recent {G : Fields} (h : G.regs) (t : State) (x : Recent) :
    State.mask G { t with recent := x } = State.mask G t := by
  simp only [State.mask, h, if_true]
theorem mask_fuse {G : Fields} (h : G.fuse) (t : State) (x : Fuse) :
    State.mask G { t with fuse := x } = State.mask G t := by
  simp only [State.mask, h, if_true]
theorem mask_boot {G : Fields} (h : G.boot) (t : State) (x : Boot) :
    State.mask G { t with boot := x } = State.mask G t := by
  simp only [State.mask, h, if_true]
theorem mask_flash {G : Fields} (h : G.flash) (t : State) (x : List Host.Cell) :
    State.mask G { t with flash := x } = State.mask G t := by
  simp only [State.mask, h, if_true]
theorem mask_tim {G : Fields} (h : G.tim) (t : State) (x : Tim) :
    State.mask G { t with tim := x } = State.mask G t := by
  simp only [State.mask, h, if_true]
theorem mask_hif {G : Fields} (h : G.hif) (t : State) (x : Hif) :
    State.mask G { t with hif := x } = State.mask G t := by
  simp only [State.mask, h, if_true]
theorem mask_log {G : Fields} (h : G.log) (t : State) (x : LogState) :
    State.mask G { t with log := x } = State.mask G t := by
  simp only [State.mask, h, if_true]
theorem mask_pav {G : Fields} (h : G.pav) (t : State) (x : PavState) :
    State.mask G { t with pav := x } = State.mask G t := by
  simp only [State.mask, h, if_true]
theorem mask_subs {G : Fields} (h : G.subs) (t : State) (x : List (Nat × SubPort)) :
    State.mask G { t with subs := x } = State.mask G t := by
  simp only [State.mask, h, if_true]
theorem mask_lanes {G : Fields} (h : G.lanes) (t : State) (x : List (Nat × Lane)) :
    State.mask G { t with lanes := x } = State.mask G t := by
  simp only [State.mask, h, if_true]
theorem mask_lrep {G : Fields} (h : G.lrep) (t : State) (x : List (Nat × LRep)) :
    State.mask G { t with lrep := x } = State.mask G t := by
  simp only [State.mask, h, if_true]
theorem mask_streams {G : Fields} (h : G.streams) (t : State) (x : List (Nat × Stream)) :
    State.mask G { t with streams := x } = State.mask G t := by
  simp only [State.mask, h, if_true]
theorem mask_strCmds {G : Fields} (h : G.strCmds) (t : State) (x : List StrCmd) :
    State.mask G { t with strCmds := x } = State.mask G t := by
  simp only [State.mask, h, if_true]
theorem mask_pager0 {G : Fields} (h : G.pager0) (t : State) (x : List PageMove) :
    State.mask G { t with pager0 := x } = State.mask G t := by
  simp only [State.mask, h, if_true]
theorem mask_pager1 {G : Fields} (h : G.pager1) (t : State) (x : List PageMove) :
    State.mask G { t with pager1 := x } = State.mask G t := by
  simp only [State.mask, h, if_true]
theorem mask_rte {G : Fields} (h : G.rte) (t : State) (x : Route) :
    State.mask G { t with rte := x } = State.mask G t := by
  simp only [State.mask, h, if_true]
theorem mask_sched {G : Fields} (h : G.sched) (t : State) (x : Sched) :
    State.mask G { t with sched := x } = State.mask G t := by
  simp only [State.mask, h, if_true]
theorem mask_cap {G : Fields} (h : G.cap) (t : State) (x : Cap) :
    State.mask G { t with cap := x } = State.mask G t := by
  simp only [State.mask, h, if_true]
theorem mask_rpl {G : Fields} (h : G.rpl) (t : State) (x : Replay) :
    State.mask G { t with rpl := x } = State.mask G t := by
  simp only [State.mask, h, if_true]
theorem mask_digest {G : Fields} (h : G.digest) (t : State) (x : Option Digest) :
    State.mask G { t with digest := x } = State.mask G t := by
  simp only [State.mask, h, if_true]
theorem mask_cells {G : Fields} (h : G.cells) (t : State) (x : List (Nat × Cell)) :
    State.mask G { t with cells := x } = State.mask G t := by
  simp only [State.mask, h, if_true]
theorem mask_cel {G : Fields} (h : G.cel) (t : State) (x : Cel) :
    State.mask G { t with cel := x } = State.mask G t := by
  simp only [State.mask, h, if_true]
theorem mask_groups {G : Fields} (h : G.groups) (t : State) (x : List (Nat × Group)) :
    State.mask G { t with groups := x } = State.mask G t := by
  simp only [State.mask, h, if_true]
theorem mask_mxu {G : Fields} (h : G.mxu) (t : State) (x : List (Nat × Mxu)) :
    State.mask G { t with mxu := x } = State.mask G t := by
  simp only [State.mask, h, if_true]
theorem mask_tokens {G : Fields} (h : G.tokens) (t : State) (x : List Token) :
    State.mask G { t with tokens := x } = State.mask G t := by
  simp only [State.mask, h, if_true]
theorem mask_pf0 {G : Fields} (h : G.pf0) (t : State) (x : List PfJob) :
    State.mask G { t with pf0 := x } = State.mask G t := by
  simp only [State.mask, h, if_true]
theorem mask_pf1 {G : Fields} (h : G.pf1) (t : State) (x : List PfJob) :
    State.mask G { t with pf1 := x } = State.mask G t := by
  simp only [State.mask, h, if_true]
theorem mask_greq0 {G : Fields} (h : G.greq0) (t : State) (x : List GReq) :
    State.mask G { t with greq0 := x } = State.mask G t := by
  simp only [State.mask, h, if_true]
theorem mask_greq1 {G : Fields} (h : G.greq1) (t : State) (x : List GReq) :
    State.mask G { t with greq1 := x } = State.mask G t := by
  simp only [State.mask, h, if_true]
theorem mask_gheld {G : Fields} (h : G.gheld) (t : State) (x : List (Nat × GReq)) :
    State.mask G { t with gheld := x } = State.mask G t := by
  simp only [State.mask, h, if_true]
theorem mask_gtbl {G : Fields} (h : G.gtbl) (t : State) (x : List (Nat × Nat)) :
    State.mask G { t with gtbl := x } = State.mask G t := by
  simp only [State.mask, h, if_true]
theorem mask_gwin {G : Fields} (h : G.gwin) (t : State) (x : List (Nat × Nat)) :
    State.mask G { t with gwin := x } = State.mask G t := by
  simp only [State.mask, h, if_true]
theorem mask_img {G : Fields} (h : G.img) (t : State) (x : Option Image) :
    State.mask G { t with img := x } = State.mask G t := by
  simp only [State.mask, h, if_true]
theorem mask_loading {G : Fields} (h : G.loading) (t : State) (x : Option (Nat × Image)) :
    State.mask G { t with loading := x } = State.mask G t := by
  simp only [State.mask, h, if_true]
theorem mask_mem {G : Fields} (h : G.mem) (t : State) (x : List Host.Cell) :
    State.mask G { t with mem := x } = State.mask G t := by
  simp only [State.mask, h, if_true]
theorem mask_writes {G : Fields} (h : G.mem) (t : State) (x : List Write) :
    State.mask G { t with writes := x } = State.mask G t := by
  simp only [State.mask, h, if_true]
theorem mask_poison {G : Fields} (h : G.poison) (t : State) (x : List Nat) :
    State.mask G { t with poison := x } = State.mask G t := by
  simp only [State.mask, h, if_true]
theorem mask_soft {G : Fields} (h : G.poison) (t : State) (x : List Nat) :
    State.mask G { t with soft := x } = State.mask G t := by
  simp only [State.mask, h, if_true]
theorem mask_regions {G : Fields} (h : G.regions) (t : State) (x : List (Nat × Nat)) :
    State.mask G { t with regions := x } = State.mask G t := by
  simp only [State.mask, h, if_true]
theorem mask_mgt {G : Fields} (h : G.mgt) (t : State) (x : Mgt) :
    State.mask G { t with mgt := x } = State.mask G t := by
  simp only [State.mask, h, if_true]
theorem mask_out {G : Fields} (h : G.out) (t : State) (x : List Emit) :
    State.mask G { t with out := x } = State.mask G t := by
  simp only [State.mask, h, if_true]
theorem mask_free {G : Fields} (h : G.free) (t : State) (x : Nat) :
    State.mask G { t with free := x } = State.mask G t := by
  simp only [State.mask, h, if_true]
theorem mask_pending {G : Fields} (h : G.pending) (t : State) (x : List Instr) :
    State.mask G { t with pending := x } = State.mask G t := by
  simp only [State.mask, h, if_true]

end Sys2Proof.Machine
end

