-- ==== Sys2Proof/Laws/FrameOps.lean ====
section
/-! SUPPORT. What the shared operations, queues and ports may change: with the named fields masked, the state after each operation is the state before. -/

set_option linter.unusedSimpArgs false
set_option linter.unusedTactic false
set_option linter.unreachableTactic false
set_option linter.unnecessarySeqFocus false

namespace Sys2Proof.Machine

/-- A choice of two states masked. -/
theorem ite_mask {G : Fields} {p : Prop} [Decidable p] (a b : State) :
    (if p then a else b).mask G = if p then a.mask G else b.mask G := apply_ite _ _ _ _

/-- The same of two pairs with a state. -/
theorem ite_snd_mask {α : Type} {G : Fields} {p : Prop} [Decidable p] (a b : α × State) :
    (if p then a else b).2.mask G = if p then a.2.mask G else b.2.mask G := apply_ite (fun x : α × State => x.2.mask G) _ _ _

/-- A fold of an operation that keeps the rest keeps it. -/
theorem foldl_mask {α : Type} {G : Fields} {f : State → α → State} (h : ∀ s x, (f s x).mask G = s.mask G) (l : List α)
    (s : State) : (l.foldl f s).mask G = s.mask G := by
  induction l generalizing s with
  | nil => rfl
  | cons x l ih => rw [List.foldl_cons, ih, h]

/-- The same for a fold that carries a value beside the state. -/
theorem foldl_snd_mask {α β : Type} {G : Fields} {f : β × State → α → β × State}
    (h : ∀ a x, (f a x).2.mask G = a.2.mask G) (l : List α) (a : β × State) : (l.foldl f a).2.mask G = a.2.mask G := by
  induction l generalizing a with
  | nil => rfl
  | cons x l ih => rw [List.foldl_cons, ih, h]

theorem State.setReg_mask (s : State) (o : Nat) (v : Word) (G : Fields) :
    G.regs → (State.setReg s o v).mask G = s.mask G := by
  intros; simp only [State.setReg, mask_regs, ite_mask, ite_self, foldl_mask, implies_true, *]

theorem State.setFld_mask (s : State) (o : Nat) (hi : Nat) (lo : Nat) (v : Nat) (G : Fields) :
    G.regs → (State.setFld s o hi lo v).mask G = s.mask G := by
  intros; simp only [State.setFld, State.setReg_mask, mask_regs, ite_mask, ite_self, foldl_mask, implies_true, *]

theorem State.bump_mask (s : State) (o : Nat) (n : Nat) (G : Fields) :
    G.regs → (State.bump s o n).mask G = s.mask G := by
  intros; simp only [State.bump, State.setReg_mask, mask_regs, ite_mask, ite_self, foldl_mask, implies_true, *]

theorem State.bump64_mask (s : State) (o : Nat) (n : Nat) (G : Fields) :
    G.regs → (State.bump64 s o n).mask G = s.mask G := by
  intros; simp only [State.bump64, State.setReg_mask, mask_regs, ite_mask, ite_self, foldl_mask, implies_true, *]

theorem State.bump16_mask (s : State) (o : Nat) (h : Nat) (n : Nat) (G : Fields) :
    G.regs → (State.bump16 s o h n).mask G = s.mask G := by
  intros; simp only [State.bump16, State.setFld_mask, mask_regs, ite_mask, ite_self, foldl_mask, implies_true, *]

theorem State.advTo_mask (s : State) (t : Nat) (G : Fields) :
    G.tim → (State.advTo s t).mask G = s.mask G := by
  intros; simp only [State.advTo, mask_tim, ite_mask, ite_self, foldl_mask, implies_true, *]

theorem State.emit_mask (s : State) (e : Emit) (G : Fields) :
    G.out → (State.emit s e).mask G = s.mask G := by
  intros; simp only [State.emit, mask_out, ite_mask, ite_self, foldl_mask, implies_true, *]

theorem State.freeWord_mask (s : State) (G : Fields) :
    G.free → (State.freeWord s).2.mask G = s.mask G := by
  intros; simp only [State.freeWord, mask_free, ite_mask, ite_self, foldl_mask, implies_true, *]

theorem State.freeLong_mask (s : State) (G : Fields) :
    G.free → (State.freeLong s).2.mask G = s.mask G := by
  intros; simp only [State.freeLong, mask_free, ite_mask, ite_self, foldl_mask, implies_true, *]

theorem State.sendMsix_mask (s : State) (f : Nat) (vec : Nat) (G : Fields) :
    G.out → (State.sendMsix s f vec).mask G = s.mask G := by
  intros; simp only [State.sendMsix, State.emit_mask, mask_out, ite_mask, ite_self, foldl_mask, implies_true, *]

theorem State.raiseVec_mask (s : State) (f : Nat) (vec : Nat) (G : Fields) :
    G.hif → G.out → (State.raiseVec s f vec).mask G = s.mask G := by
  intros; simp only [State.raiseVec, State.sendMsix_mask, mask_hif, mask_out, ite_mask, ite_self, foldl_mask,
    implies_true, *]

theorem State.occur_mask (s : State) (cnt : Nat) (bit : Nat) (G : Fields) :
    G.regs → (State.occur s cnt bit).mask G = s.mask G := by
  intros; simp only [State.occur, State.setFld_mask, mask_regs, ite_mask, ite_self, foldl_mask, implies_true, *]

theorem State.noteSet_mask (s : State) (ev : Nat) (bit : Nat) (G : Fields) :
    G.regs → (State.noteSet s ev bit).mask G = s.mask G := by
  intros; simp only [State.noteSet, mask_regs, mask_recent, ite_mask, ite_self, foldl_mask, implies_true, *]

theorem State.setW1c_mask (s : State) (ev : Nat) (bit : Nat) (limit : Nat) (G : Fields) :
    G.regs → (State.setW1c s ev bit limit).mask G = s.mask G := by
  intros; simp only [State.setW1c, State.setReg_mask, State.occur_mask, State.noteSet_mask, mask_regs, ite_mask,
    ite_self, foldl_mask, implies_true, *]

theorem State.fnEvt1_mask (s : State) (f : Nat) (bit : Nat) (G : Fields) :
    G.regs → G.hif → G.out → (State.fnEvt1 s f bit).mask G = s.mask G := by
  intros; simp only [State.fnEvt1, State.raiseVec_mask, State.noteSet_mask, State.setW1c_mask, mask_regs, mask_hif,
    mask_out, ite_mask, ite_self, foldl_mask, implies_true, *]

theorem State.blockEvent_mask (s : State) (blk : Nat) (G : Fields) :
    G.regs → G.hif → G.out → (State.blockEvent s blk).mask G = s.mask G := by
  intros; simp only [State.blockEvent, State.fnEvt1_mask, mask_regs, mask_hif, mask_out, ite_mask, ite_self,
    foldl_mask, implies_true, *]

theorem State.oneCycle_mask (s : State) (f : State → State) (G : Fields) :
    G.regs → (∀ (y0 : State), (f y0).mask G = y0.mask G) → (State.oneCycle s f).mask G = s.mask G := by
  intros; simp only [State.oneCycle, mask_recent, ite_mask, ite_self, *]

theorem State.fnEvt_mask (s : State) (f : Nat) (bit : Nat) (G : Fields) :
    G.regs → G.hif → G.out → (State.fnEvt s f bit).mask G = s.mask G := by
  intros; simp only [State.fnEvt, State.oneCycle_mask, State.blockEvent_mask, State.fnEvt1_mask, mask_regs, mask_hif,
    mask_out, ite_mask, ite_self, foldl_mask, implies_true, *]

theorem State.evt_mask (s : State) (blk : Nat) (ev : Nat) (bit : Nat) (G : Fields) :
    G.regs → G.hif → G.out → (State.evt s blk ev bit).mask G = s.mask G := by
  intros; simp only [State.evt, State.setW1c_mask, State.blockEvent_mask, mask_regs, mask_hif, mask_out, ite_mask,
    ite_self, foldl_mask, implies_true, *]

theorem State.orFlags_mask (s : State) (ev : Nat) (flags : Nat) (G : Fields) :
    G.regs → (State.orFlags s ev flags).mask G = s.mask G := by
  intros; simp only [State.orFlags, State.setW1c_mask, mask_regs, ite_mask, ite_self, foldl_mask, implies_true, *]

theorem State.offer_mask (s : State) (cls : Nat) (sub : Nat) (src : Nat) (pav : Nat) (d0 : Nat) (d1 : Nat) (d2 : Nat)
  (d3 : Nat) (G : Fields) :
    G.regs → G.hif → G.log → G.out → (State.offer s cls sub src pav d0 d1 d2 d3).mask G = s.mask G := by
  intros; simp only [State.offer, State.bump_mask, State.evt_mask, mask_regs, mask_hif, mask_log, mask_out, ite_mask,
    ite_self, foldl_mask, implies_true, *]

theorem State.hazard_mask (s : State) (bit : Nat) (G : Fields) :
    G.regs → G.hif → G.out → (State.hazard s bit).mask G = s.mask G := by
  intros; simp only [State.hazard, State.setW1c_mask, State.evt_mask, mask_regs, mask_hif, mask_out, ite_mask,
    ite_self, foldl_mask, implies_true, *]

theorem State.setCq_mask (s : State) (f : Nat) (j : Nat) (c : CqState) (G : Fields) :
    G.hif → (State.setCq s f j c).mask G = s.mask G := by
  intros; simp only [State.setCq, mask_hif, ite_mask, ite_self, foldl_mask, implies_true, *]

theorem State.setSq_mask (s : State) (f : Nat) (i : Nat) (q : SqState) (G : Fields) :
    G.hif → (State.setSq s f i q).mask G = s.mask G := by
  intros; simp only [State.setSq, mask_hif, ite_mask, ite_self, foldl_mask, implies_true, *]

theorem State.cqRaise_mask (s : State) (f : Nat) (j : Nat) (G : Fields) :
    G.hif → G.out → (State.cqRaise s f j).mask G = s.mask G := by
  intros; simp only [State.cqRaise, State.raiseVec_mask, State.setCq_mask, mask_hif, mask_out, ite_mask, ite_self,
    foldl_mask, implies_true, *]

theorem State.cqCount_mask (s : State) (f : Nat) (j : Nat) (G : Fields) :
    G.hif → G.out → (State.cqCount s f j).mask G = s.mask G := by
  intros; simp only [State.cqCount, State.cqRaise_mask, mask_hif, mask_out, ite_mask, ite_self, foldl_mask,
    implies_true, *]

theorem State.cqWrite_mask (s : State) (f : Nat) (j : Nat) (c : Cpl) (G : Fields) :
    G.hif → G.out → (State.cqWrite s f j c).mask G = s.mask G := by
  intros; simp only [State.cqWrite, State.emit_mask, State.cqCount_mask, State.setCq_mask, mask_hif, mask_out,
    ite_mask, ite_self, foldl_mask, implies_true, *]

theorem State.cqFail_mask (s : State) (f : Nat) (j : Nat) (G : Fields) :
    G.regs → G.hif → G.out → (State.cqFail s f j).mask G = s.mask G := by
  intros; simp only [State.cqFail, State.fnEvt_mask, State.setCq_mask, mask_regs, mask_hif, mask_out, ite_mask,
    ite_self, foldl_mask, implies_true, *]

theorem State.cqOverflow_mask (s : State) (f : Nat) (j : Nat) (G : Fields) :
    G.regs → G.hif → G.out → (State.cqOverflow s f j).mask G = s.mask G := by
  intros; simp only [State.cqOverflow, State.cqWrite_mask, State.fnEvt_mask, State.setCq_mask, State.cqFail_mask,
    mask_regs, mask_hif, mask_out, ite_mask, ite_self, foldl_mask, implies_true, *]

theorem State.cqLose_mask (s : State) (f : Nat) (j : Nat) (G : Fields) :
    G.regs → G.hif → G.out → (State.cqLose s f j).mask G = s.mask G := by
  intros; simp only [State.cqLose, State.bump_mask, State.fnEvt_mask, State.setCq_mask, mask_regs, mask_hif,
    mask_out, ite_mask, ite_self, foldl_mask, implies_true, *]

theorem State.postData_mask (s : State) (ring : Nat) (c : Cpl) (ok : Bool) (G : Fields) :
    G.regs → G.hif → G.out → (State.postData s ring c ok).mask G = s.mask G := by
  intros; simp only [State.postData, State.cqWrite_mask, State.cqOverflow_mask, State.cqFail_mask, State.cqLose_mask,
    mask_regs, mask_hif, mask_out, ite_mask, ite_self, foldl_mask, implies_true, *]

theorem State.holdTaken_mask (s : State) (no : Nat) (c : Cpl) (G : Fields) :
    G.hif → (State.holdTaken s no c).mask G = s.mask G := by
  intros; simp only [State.holdTaken, mask_hif, ite_mask, ite_self, foldl_mask, implies_true, *]

theorem State.dropTaken_mask (s : State) (no : Nat) (G : Fields) :
    G.hif → (State.dropTaken s no).mask G = s.mask G := by
  intros; simp only [State.dropTaken, mask_hif, ite_mask, ite_self, foldl_mask, implies_true, *]

theorem State.cmdDone_mask (s : State) (no : Nat) (status : Nat) (sub : Nat) (value : Nat) (ok : Bool) (G : Fields) :
    G.regs → G.hif → G.out → (State.cmdDone s no status sub value ok).mask G = s.mask G := by
  intros; unfold State.cmdDone; dsimp only; (repeat' split) <;> simp only [State.bump_mask, State.dropTaken_mask,
    State.cqOverflow_mask, State.cqWrite_mask, State.cqFail_mask, State.holdTaken_mask, mask_regs, mask_hif, mask_out,
    ite_mask, ite_self, foldl_mask, implies_true, *]

theorem State.fetchDesc_mask (s : State) (f : Nat) (i : Nat) (G : Fields) :
    G.out → (State.fetchDesc s f i).mask G = s.mask G := by
  intros; simp only [State.fetchDesc, State.emit_mask, mask_out, ite_mask, ite_self, foldl_mask, implies_true, *]

theorem State.take_mask (s : State) (d : Desc) (G : Fields) :
    G.regs → G.tim → G.hif → G.out → (State.take s d).mask G = s.mask G := by
  intros; simp only [State.take, State.advTo_mask, State.setSq_mask, State.fetchDesc_mask, State.bump_mask, mask_regs,
    mask_tim, mask_hif, mask_out, ite_mask, ite_self, foldl_mask, implies_true, *]

theorem State.sqStop_mask (s : State) (f : Nat) (i : Nat) (G : Fields) :
    G.regs → G.hif → G.out → (State.sqStop s f i).mask G = s.mask G := by
  intros; simp only [State.sqStop, State.fnEvt_mask, State.setSq_mask, mask_regs, mask_hif, mask_out, ite_mask,
    ite_self, foldl_mask, implies_true, *]

theorem State.cmdEnd_mask (s : State) (d : Desc) (status : Nat) (sub : Nat) (value : Nat) (G : Fields) :
    G.regs → G.hif → G.out → (State.cmdEnd s d status sub value).mask G = s.mask G := by
  intros; simp only [State.cmdEnd, State.cmdDone_mask, mask_regs, mask_hif, mask_out, ite_mask, ite_self, foldl_mask,
    implies_true, *]

theorem State.untaken_mask (s : State) (d : Desc) (G : Fields) :
    G.hif → (State.untaken s d).mask G = s.mask G := by
  intros; simp only [State.untaken, State.setSq_mask, mask_hif, ite_mask, ite_self, foldl_mask, implies_true, *]

theorem State.hostCmd_mask (s : State) (d : Desc) (permitted : Bool) (body : State → State) (G : Fields) :
    G.regs → G.tim → G.hif → G.out → (∀ (y0 : State), (body y0).mask G = y0.mask G) → (State.hostCmd s d permitted
      body).mask G = s.mask G := by
  intros; simp only [State.hostCmd, State.untaken_mask, State.sqStop_mask, State.fetchDesc_mask, State.take_mask,
    State.cmdEnd_mask, mask_regs, mask_tim, mask_hif, mask_out, ite_mask, ite_self, foldl_mask, implies_true, *]

theorem State.recordFault_mask (s : State) (o : Nat) (free : Bool) (ws : List (Nat × Word)) (G : Fields) :
    G.regs → (State.recordFault s o free ws).mask G = s.mask G := by
  intros; simp only [State.recordFault, State.setReg_mask, State.noteSet_mask, mask_regs, mask_recent, ite_mask,
    ite_self, foldl_mask, implies_true, *]

theorem State.takeHeld_mask (s : State) (o : Nat) (v : Word) (G : Fields) :
    G.regs → (State.takeHeld s o v).mask G = s.mask G := by
  intros; unfold State.takeHeld; (repeat' split) <;> simp only [State.recordFault_mask, mask_regs, ite_mask,
    ite_self, foldl_mask, implies_true, *]

theorem State.plainWrite_mask (s : State) (o : Nat) (v : Word) (G : Fields) :
    G.regs → (State.plainWrite s o v).mask G = s.mask G := by
  intros; unfold State.plainWrite; dsimp only; (repeat' split) <;> simp only [State.setReg_mask, State.takeHeld_mask,
    mask_regs, ite_mask, ite_self, foldl_mask, implies_true, *]

theorem State.land_mask (s : State) (w : Write) (G : Fields) :
    G.mem → G.poison → (State.land s w).mask G = s.mask G := by
  intros; simp only [State.land, State.mask, if_true, *]

theorem State.due_mask (s : State) (G : Fields) :
    G.mem → G.poison → (State.due s).mask G = s.mask G := by
  intros; simp only [State.due, State.land_mask, mask_mem, mask_poison, mask_writes, ite_mask, ite_self, foldl_mask,
    implies_true, *]

theorem State.wr_mask (s : State) (k : Nat) (bs : List Byte) (G : Fields) :
    G.mem → G.poison → (State.wr s k bs).mask G = s.mask G := by
  intros; simp only [State.wr, State.land_mask, State.due_mask, mask_mem, mask_poison, ite_mask, ite_self,
    foldl_mask, implies_true, *]

theorem State.zero_mask (s : State) (lo : Nat) (hi : Nat) (G : Fields) :
    G.mem → G.poison → (State.zero s lo hi).mask G = s.mask G := by
  intros; rw [← State.due_mask s G (by assumption) (by assumption)]
  simp only [State.zero, State.mask, if_true, *]

theorem State.poisonIt_mask (s : State) (k : Nat) (n : Nat) (G : Fields) :
    G.mem → G.poison → (State.poisonIt s k n).mask G = s.mask G := by
  intros; simp only [State.poisonIt, State.due_mask, mask_mem, mask_poison, ite_mask, ite_self, foldl_mask,
    implies_true, *]

theorem State.memDenied_mask (s : State) (sub : Nat) (addr : Nat) (reader : Nat) (pav : Nat) (G : Fields) :
    G.regs → G.hif → G.log → G.out → (State.memDenied s sub addr reader pav).mask G = s.mask G := by
  intros; simp only [State.memDenied, State.bump_mask, State.evt_mask, State.offer_mask, mask_regs, mask_hif,
    mask_log, mask_out, ite_mask, ite_self, foldl_mask, implies_true, *]

theorem State.hbmUncorr_mask (s : State) (addr : Nat) (reader : Nat) (pav : Nat) (G : Fields) :
    G.regs → G.hif → G.log → G.out → (State.hbmUncorr s addr reader pav).mask G = s.mask G := by
  intros; simp only [State.hbmUncorr, State.bump_mask, State.evt_mask, State.offer_mask, mask_regs, mask_hif,
    mask_log, mask_out, ite_mask, ite_self, foldl_mask, implies_true, *]

theorem State.tblFault_mask (s : State) (sub : Nat) (die : Nat) (index : Nat) (addrDie : Nat) (G : Fields) :
    G.regs → G.hif → G.log → G.out → (State.tblFault s sub die index addrDie).mask G = s.mask G := by
  intros; simp only [State.tblFault, State.bump_mask, State.evt_mask, State.offer_mask, mask_regs, mask_hif,
    mask_log, mask_out, ite_mask, ite_self, foldl_mask, implies_true, *]

theorem State.capStore_mask (s : State) (bs : List Byte) (G : Fields) :
    G.regs → G.cap → G.mem → G.poison → (State.capStore s bs).mask G = s.mask G := by
  intros; simp only [State.capStore, State.wr_mask, State.bump64_mask, mask_regs, mask_cap, mask_mem, mask_poison,
    ite_mask, ite_self, foldl_mask, implies_true, *]

theorem State.capPad_mask (s : State) (n : Nat) (G : Fields) :
    G.regs → G.cap → G.mem → G.poison → (State.capPad s n).mask G = s.mask G := by
  intros; simp only [State.capPad, State.capStore_mask, mask_regs, mask_cap, mask_mem, mask_poison, ite_mask,
    ite_self, foldl_mask, implies_true, *]

theorem State.capDrain_mask (s : State) (G : Fields) :
    G.cap → (State.capDrain s).mask G = s.mask G := by
  intros; simp only [State.capDrain, mask_cap, ite_mask, ite_self, foldl_mask, implies_true, *]

theorem State.capLose_mask (s : State) (n : Nat) (G : Fields) :
    G.regs → G.hif → G.cap → G.out → (State.capLose s n).mask G = s.mask G := by
  intros; simp only [State.capLose, State.bump_mask, State.evt_mask, mask_regs, mask_hif, mask_cap, mask_out,
    ite_mask, ite_self, foldl_mask, implies_true, *]

theorem State.capRaw_mask (s : State) (r : CapRec) (G : Fields) :
    G.regs → G.cap → G.mem → G.poison → (State.capRaw s r).mask G = s.mask G := by
  intros; simp only [State.capRaw, State.capStore_mask, State.capPad_mask, mask_regs, mask_cap, mask_mem,
    mask_poison, ite_mask, ite_self, foldl_mask, implies_true, *]

theorem State.capRewind_mask (s : State) (G : Fields) :
    G.regs → G.cap → (State.capRewind s).mask G = s.mask G := by
  intros; simp only [State.capRewind, State.setReg_mask, mask_regs, mask_cap, ite_mask, ite_self, foldl_mask,
    implies_true, *]

theorem State.capWrite_mask (s : State) (r : CapRec) (G : Fields) :
    G.regs → G.cap → G.mem → G.poison → (State.capWrite s r).mask G = s.mask G := by
  intros; simp only [State.capWrite, State.capRaw_mask, State.capRewind_mask, mask_regs, mask_cap, mask_mem,
    mask_poison, ite_mask, ite_self, foldl_mask, implies_true, *]

theorem State.capLossRec_mask (s : State) (G : Fields) :
    G.regs → G.cap → G.mem → G.poison → (State.capLossRec s).mask G = s.mask G := by
  intros; simp only [State.capLossRec, State.capWrite_mask, mask_regs, mask_cap, mask_mem, mask_poison, ite_mask,
    ite_self, foldl_mask, implies_true, *]

theorem State.capEnd_mask (s : State) (G : Fields) :
    G.regs → G.hif → G.cap → G.mem → G.poison → G.out → (State.capEnd s).mask G = s.mask G := by
  intros; simp only [State.capEnd, State.capLossRec_mask, State.capDrain_mask, State.capRaw_mask, State.capLose_mask,
    State.evt_mask, mask_regs, mask_hif, mask_cap, mask_mem, mask_poison, mask_out, ite_mask, ite_self, foldl_mask,
    implies_true, *]

theorem State.capPut_mask (s : State) (r : CapRec) (G : Fields) :
    G.regs → G.hif → G.cap → G.mem → G.poison → G.out → (State.capPut s r).mask G = s.mask G := by
  intros; simp only [State.capPut, State.capDrain_mask, State.capLose_mask, State.capWrite_mask,
    State.capLossRec_mask, State.capEnd_mask, mask_regs, mask_hif, mask_cap, mask_mem, mask_poison, mask_out,
    ite_mask, ite_self, foldl_mask, implies_true, *]

theorem State.capMark_mask (s : State) (code : Nat) (val : Nat) (G : Fields) :
    G.regs → G.hif → G.cap → G.mem → G.poison → G.out → (State.capMark s code val).mask G = s.mask G := by
  intros; simp only [State.capMark, State.capPut_mask, mask_regs, mask_hif, mask_cap, mask_mem, mask_poison,
    mask_out, ite_mask, ite_self, foldl_mask, implies_true, *]

theorem State.capTrigger_mask (s : State) (code : Nat) (G : Fields) :
    G.regs → G.hif → G.cap → G.mem → G.poison → G.out → (State.capTrigger s code).mask G = s.mask G := by
  intros; simp only [State.capTrigger, State.capMark_mask, State.bump_mask, State.evt_mask, mask_regs, mask_hif,
    mask_cap, mask_mem, mask_poison, mask_out, ite_mask, ite_self, foldl_mask, implies_true, *]

theorem State.capPkt_mask (s : State) (type : Nat) (port : Nat) (t : Nat) (p : Pkt) (trailer : Nat) (stomped : Bool)
  (bad : Bool) (injected : Bool) (unknown : Bool) (G : Fields) :
    G.regs → G.hif → G.cap → G.mem → G.poison → G.out → (State.capPkt s type port t p trailer stomped bad injected
      unknown).mask G = s.mask G := by
  intros; simp only [State.capPkt, State.capPut_mask, mask_regs, mask_hif, mask_cap, mask_mem, mask_poison, mask_out,
    ite_mask, ite_self, foldl_mask, implies_true, *]

theorem State.setSub_mask (s : State) (p : Nat) (k : Nat) (x : SubPort) (G : Fields) :
    G.subs → (State.setSub s p k x).mask G = s.mask G := by
  intros; simp only [State.setSub, mask_subs, ite_mask, ite_self, foldl_mask, implies_true, *]

theorem State.prtEvt_mask (s : State) (p : Nat) (bit : Nat) (G : Fields) :
    G.regs → G.hif → G.out → (State.prtEvt s p bit).mask G = s.mask G := by
  intros; simp only [State.prtEvt, State.evt_mask, mask_regs, mask_hif, mask_out, ite_mask, ite_self, foldl_mask,
    implies_true, *]

theorem State.sendOs_mask (s : State) (p : Nat) (k : Nat) (kind : Nat) (arg : Nat) (G : Fields) :
    G.out → (State.sendOs s p k kind arg).mask G = s.mask G := by
  intros; simp only [State.sendOs, State.emit_mask, mask_out, ite_mask, ite_self, foldl_mask, implies_true, *]

theorem State.enter_mask (s : State) (p : Nat) (k : Nat) (st : Nat) (G : Fields) :
    G.subs → (State.enter s p k st).mask G = s.mask G := by
  intros; simp only [State.enter, State.setSub_mask, mask_subs, ite_mask, ite_self, foldl_mask, implies_true, *]

theorem State.commit_mask (s : State) (p : Nat) (k : Nat) (arg : Nat) (G : Fields) :
    G.regs → G.subs → G.out → (State.commit s p k arg).mask G = s.mask G := by
  intros; simp only [State.commit, State.bump_mask, State.setSub_mask, State.sendOs_mask, mask_regs, mask_subs,
    mask_out, ite_mask, ite_self, foldl_mask, implies_true, *]

theorem State.abandon_mask (s : State) (p : Nat) (k : Nat) (G : Fields) :
    G.regs → G.hif → G.subs → G.out → (State.abandon s p k).mask G = s.mask G := by
  intros; simp only [State.abandon, State.bump_mask, State.setSub_mask, State.prtEvt_mask, State.sendOs_mask,
    mask_regs, mask_hif, mask_subs, mask_out, ite_mask, ite_self, foldl_mask, implies_true, *]

theorem State.wakeReq_mask (s : State) (p : Nat) (k : Nat) (G : Fields) :
    G.regs → G.hif → G.subs → G.out → (State.wakeReq s p k).mask G = s.mask G := by
  intros; simp only [State.wakeReq, State.bump_mask, State.setSub_mask, State.prtEvt_mask, State.abandon_mask,
    mask_regs, mask_hif, mask_subs, mask_out, ite_mask, ite_self, foldl_mask, implies_true, *]

theorem State.wakeQueued_mask (s : State) (p : Nat) (k : Nat) (G : Fields) :
    G.regs → G.hif → G.subs → G.out → (State.wakeQueued s p k).mask G = s.mask G := by
  intros; simp only [State.wakeQueued, State.wakeReq_mask, mask_regs, mask_hif, mask_subs, mask_out, ite_mask,
    ite_self, foldl_mask, implies_true, *]

theorem State.wakeAction_mask (s : State) (p : Nat) (k : Nat) (G : Fields) :
    G.regs → G.hif → G.subs → G.out → (State.wakeAction s p k).mask G = s.mask G := by
  intros; simp only [State.wakeAction, State.bump_mask, State.prtEvt_mask, State.wakeReq_mask, mask_regs, mask_hif,
    mask_subs, mask_out, ite_mask, ite_self, foldl_mask, implies_true, *]

theorem State.setOwner_mask (s : State) (die : Nat) (i : Nat) (o : Owner) (G : Fields) :
    G.rte → (State.setOwner s die i o).mask G = s.mask G := by
  intros; simp only [State.setOwner, mask_rte, ite_mask, ite_self, foldl_mask, implies_true, *]

theorem State.setPool_mask (s : State) (die : Nat) (k : Nat) (p : Pool) (G : Fields) :
    G.rte → (State.setPool s die k p).mask G = s.mask G := by
  intros; simp only [State.setPool, mask_rte, ite_mask, ite_self, foldl_mask, implies_true, *]

theorem State.bpmEvt_mask (s : State) (die : Nat) (bit : Nat) (G : Fields) :
    G.regs → G.hif → G.out → (State.bpmEvt s die bit).mask G = s.mask G := by
  intros; simp only [State.bpmEvt, State.evt_mask, mask_regs, mask_hif, mask_out, ite_mask, ite_self, foldl_mask,
    implies_true, *]

theorem State.bpmFault_mask (s : State) (sub : Nat) (die : Nat) (k : Nat) (i : Nat) (port : Nat) (G : Fields) :
    G.regs → G.hif → G.log → G.out → (State.bpmFault s sub die k i port).mask G = s.mask G := by
  intros; simp only [State.bpmFault, State.bpmEvt_mask, State.offer_mask, mask_regs, mask_hif, mask_log, mask_out,
    ite_mask, ite_self, foldl_mask, implies_true, *]

theorem State.dropHandle_mask (s : State) (die : Nat) (k : Nat) (h : Nat) (src : Nat) (p : Pool) (G : Fields) :
    G.regs → G.hif → G.log → G.rte → G.out → (State.dropHandle s die k h src p).mask G = s.mask G := by
  intros; simp only [State.dropHandle, State.setPool_mask, State.bpmFault_mask, State.bump_mask, mask_regs, mask_hif,
    mask_log, mask_rte, mask_out, ite_mask, ite_self, foldl_mask, implies_true, *]

theorem State.takeHandle_mask (s : State) (die : Nat) (k : Nat) (a : Nat) (x4 : Nat) (G : Fields) :
    G.regs → G.hif → G.log → G.rte → G.out → (State.takeHandle s die k a x4).2.mask G = s.mask G := by
  intros
  induction x4 generalizing s with
  | zero => rfl
  | succ n ih => unfold State.takeHandle; (repeat' split) <;> simp only [ih, State.bpmFault_mask, State.bump_mask,
    State.setPool_mask, State.dropHandle_mask, mask_regs, mask_hif, mask_log, mask_rte, mask_out, ite_mask, ite_self,
    foldl_mask, implies_true, *]

theorem State.takeHandles_mask (s : State) (die : Nat) (k : Nat) (a : Nat) (x4 : Nat) (G : Fields) :
    G.regs → G.hif → G.log → G.rte → G.out → (State.takeHandles s die k a x4).2.mask G = s.mask G := by
  intros
  induction x4 generalizing s with
  | zero => rfl
  | succ n ih =>
    unfold State.takeHandles
    (repeat' split) <;> (try simp only [Prod.ext_iff] at *) <;> (try casesm* _ ∧ _) <;> (try subst_vars) <;>
      (try rfl) <;> (try simp only [ih, State.setPool_mask, State.takeHandle_mask, mask_regs, mask_hif, mask_log,
        mask_rte, mask_out, ite_mask, ite_self, foldl_mask, implies_true, *])

theorem State.noBufOwner_mask (s : State) (die : Nat) (i : Nat) (G : Fields) :
    G.rte → (State.noBufOwner s die i).mask G = s.mask G := by
  intros; simp only [State.noBufOwner, State.setOwner_mask, mask_rte, ite_mask, ite_self, foldl_mask, implies_true, *]

theorem State.setSvc_mask (s : State) (v : Service) (G : Fields) :
    G.rte → (State.setSvc s v).mask G = s.mask G := by
  intros; simp only [State.setSvc, mask_rte, ite_mask, ite_self, foldl_mask, implies_true, *]

theorem State.nextPclk_mask (s : State) (G : Fields) :
    G.tim → (State.nextPclk s).mask G = s.mask G := by
  intros; simp only [State.nextPclk, State.advTo_mask, mask_tim, ite_mask, ite_self, foldl_mask, implies_true, *]

theorem State.ask_mask (s : State) (die : Nat) (k : Nat) (a : Nat) (G : Fields) :
    G.tim → G.rte → (State.ask s die k a).mask G = s.mask G := by
  intros; simp only [State.ask, State.setSvc_mask, State.nextPclk_mask, mask_tim, mask_rte, ite_mask, ite_self,
    foldl_mask, implies_true, *]

theorem State.applyFree_mask (s : State) (f : Freed) (G : Fields) :
    G.rte → (State.applyFree s f).mask G = s.mask G := by
  intros; simp only [State.applyFree, State.setOwner_mask, State.setPool_mask, mask_rte, ite_mask, ite_self,
    foldl_mask, implies_true, *]

theorem State.settleFrees_mask (s : State) (G : Fields) :
    G.rte → (State.settleFrees s).mask G = s.mask G := by
  intros; simp only [State.settleFrees, State.applyFree_mask, mask_rte, ite_mask, ite_self, foldl_mask, implies_true,
    *]

theorem State.lowFree_mask (s : State) (die : Nat) (k : Nat) (G : Fields) :
    G.regs → (State.lowFree s die k).mask G = s.mask G := by
  intros; simp only [State.lowFree, State.setFld_mask, mask_regs, ite_mask, ite_self, foldl_mask, implies_true, *]

theorem State.alloc_mask (s : State) (die : Nat) (a : Nat) (o : Nat) (need : Nat) (G : Fields) :
    G.regs → G.tim → G.hif → G.log → G.rte → G.out → (State.alloc s die a o need).2.mask G = s.mask G := by
  intros; unfold State.alloc; dsimp only <;> (try apply foldl_mask) <;> intros <;> (repeat' split) <;> (try simp only
    [Prod.ext_iff] at *) <;> (try casesm* _ ∧ _) <;> (try subst_vars) <;> (try simp only [State.setFld_mask,
      State.setOwner_mask, State.setPool_mask, State.bpmEvt_mask, State.ask_mask, State.settleFrees_mask,
      State.takeHandles_mask, State.noBufOwner_mask, State.lowFree_mask, State.bump_mask, State.bump64_mask,
      mask_regs, mask_tim, mask_hif, mask_log, mask_rte, mask_out, ite_mask, ite_self, foldl_mask, implies_true, *])

theorem State.freeBuf_mask (s : State) (die : Nat) (k : Nat) (o : Nat) (h : Nat) (G : Fields) :
    G.regs → G.hif → G.log → G.rte → G.out → (State.freeBuf s die k o h).mask G = s.mask G := by
  intros; simp only [State.freeBuf, State.bpmFault_mask, State.bump_mask, mask_regs, mask_hif, mask_log, mask_rte,
    mask_out, ite_mask, ite_self, foldl_mask, implies_true, *]

theorem State.freeHeld_mask (s : State) (h : Held) (G : Fields) :
    G.regs → G.hif → G.log → G.rte → G.out → (State.freeHeld s h).mask G = s.mask G := by
  intros; simp only [State.freeHeld, State.freeBuf_mask, mask_regs, mask_hif, mask_log, mask_rte, mask_out, ite_mask,
    ite_self, foldl_mask, implies_true, *]

theorem State.bpmEnable_mask (s : State) (die : Nat) (v : Word) (G : Fields) :
    G.regs → G.hif → G.rte → G.out → (State.bpmEnable s die v).mask G = s.mask G := by
  intros; simp only [State.bpmEnable, State.bpmEvt_mask, State.settleFrees_mask, State.setReg_mask,
    State.setFld_mask, mask_regs, mask_hif, mask_rte, mask_out, ite_mask, ite_self, foldl_mask, implies_true, *]

theorem execBpmEnableWrite_mask (path : Path) (die : Nat) (v : Word) (s : State) (G : Fields) :
    G.regs → G.hif → G.rte → G.out → ∀ t, execBpmEnableWrite path die v s = .next t → t.mask G = s.mask G := by
  intros; rename_i h; injection h with h; subst h; simp only [State.bpmEnable_mask, mask_regs, mask_hif, mask_rte,
    mask_out, ite_mask, ite_self, foldl_mask, implies_true, *]

theorem State.ringFill_mask (s : State) (die : Nat) (G : Fields) :
    G.regs → G.rte → (State.ringFill s die).mask G = s.mask G := by
  intros; simp only [State.ringFill, State.setPool_mask, State.setFld_mask, mask_regs, mask_rte, ite_mask, ite_self,
    foldl_mask, implies_true, *]

theorem execBpmRingFillDone_mask (die : Nat) (s : State) (G : Fields) :
    G.regs → G.rte → ∀ t, execBpmRingFillDone die s = .next t → t.mask G = s.mask G := by
  intros; rename_i h; injection h with h; subst h; simp only [State.ringFill_mask, mask_regs, mask_rte, ite_mask,
    ite_self, foldl_mask, implies_true, *]

theorem State.refillCache_mask (s : State) (die : Nat) (k : Nat) (a : Nat) (fuel : Nat) (n : Nat) (G : Fields) :
    G.regs → G.hif → G.log → G.rte → G.out → (State.refillCache s die k a fuel n).mask G = s.mask G := by
  intros
  induction fuel generalizing s n with
  | zero => cases n <;> rfl
  | succ fuel ih =>
    cases n
    · rfl
    · unfold State.refillCache; dsimp only
      (repeat' split) <;> simp only [ih, State.setPool_mask, State.dropHandle_mask, mask_regs, mask_hif, mask_log,
        mask_rte, mask_out, ite_mask, ite_self, foldl_mask, implies_true, *]

theorem execHandleCacheRefill_mask (die : Nat) (a : Nat) (k : Nat) (bad : List Nat) (s : State) (G : Fields) :
    G.regs → G.hif → G.log → G.rte → G.out → ∀ t, execHandleCacheRefill die a k bad s = .next t → t.mask G = s.mask G
      := by
  intros; rename_i h; injection h with h; subst h; simp only [State.setPool_mask, State.settleFrees_mask,
    State.refillCache_mask, mask_regs, mask_hif, mask_log, mask_rte, mask_out, ite_mask, ite_self, foldl_mask,
    implies_true, *]

theorem State.ownRead_mask (s : State) (die : Nat) (i : Nat) (G : Fields) :
    G.regs → (State.ownRead s die i).mask G = s.mask G := by
  intros; simp only [State.ownRead, State.setReg_mask, mask_regs, ite_mask, ite_self, foldl_mask, implies_true, *]

theorem State.tblStart_mask (s : State) (cmd : Nat) (G : Fields) :
    G.busy → G.free → (State.tblStart s cmd).mask G = s.mask G := by
  intros; simp only [State.tblStart, State.mask, if_true, *]

theorem State.tblOp_mask (s : State) (path : Path) (cmd : Nat) (v : Word) (op : Bool) (ignored : State → State) (go :
  State → State) (G : Fields) :
    G.regs → G.busy → G.free → (∀ (y0 : State), (ignored y0).mask G = y0.mask G) → (∀ (y0 : State), (go y0).mask G =
      y0.mask G) → (State.tblOp s path cmd v op ignored go).mask G = s.mask G := by
  intros; simp only [State.tblOp, State.plainWrite_mask, State.tblStart_mask, mask_regs, mask_busy, mask_free,
    ite_mask, ite_self, foldl_mask, implies_true, *]

theorem execBpmOwnRead_mask (path : Path) (die : Nat) (v : Word) (s : State) (G : Fields) :
    G.regs → G.busy → G.hif → G.rte → G.out → G.free → ∀ t, execBpmOwnRead path die v s = .next t → t.mask G = s.mask
      G := by
  intros; rename_i h; injection h with h; subst h; simp only [State.bpmEvt_mask, State.settleFrees_mask,
    State.ownRead_mask, State.tblOp_mask, mask_regs, mask_busy, mask_hif, mask_rte, mask_out, mask_free, ite_mask,
    ite_self, foldl_mask, implies_true, *]

theorem State.ownWrite_mask (s : State) (die : Nat) (i : Nat) (G : Fields) :
    G.regs → G.rte → (State.ownWrite s die i).mask G = s.mask G := by
  intros; simp only [State.ownWrite, State.setOwner_mask, State.setFld_mask, mask_regs, mask_rte, ite_mask, ite_self,
    foldl_mask, implies_true, *]

theorem execBpmOwnWrite_mask (path : Path) (die : Nat) (v : Word) (s : State) (G : Fields) :
    G.regs → G.busy → G.hif → G.rte → G.out → G.free → ∀ t, execBpmOwnWrite path die v s = .next t → t.mask G =
      s.mask G := by
  intros; rename_i h; injection h with h; subst h; simp only [State.bpmEvt_mask, State.settleFrees_mask,
    State.ownWrite_mask, State.tblOp_mask, mask_regs, mask_busy, mask_hif, mask_rte, mask_out, mask_free, ite_mask,
    ite_self, foldl_mask, implies_true, *]

theorem State.setLr_mask (s : State) (l : Nat) (x : LRep) (G : Fields) :
    G.lrep → (State.setLr s l x).mask G = s.mask G := by
  intros; simp only [State.setLr, mask_lrep, ite_mask, ite_self, foldl_mask, implies_true, *]

theorem State.setUnacked_mask (s : State) (l : Nat) (G : Fields) :
    G.regs → (State.setUnacked s l).mask G = s.mask G := by
  intros; simp only [State.setUnacked, State.setReg_mask, mask_regs, ite_mask, ite_self, foldl_mask, implies_true, *]

theorem State.number_mask (s : State) (e : Nat) (p : Pkt) (stomped : Bool) (ingress : Nat) (G : Fields) :
    G.regs → G.lrep → (State.number s e p stomped ingress).mask G = s.mask G := by
  intros; simp only [State.number, State.setLr_mask, State.setUnacked_mask, State.bump_mask, mask_regs, mask_lrep,
    ite_mask, ite_self, foldl_mask, implies_true, *]

theorem State.replayFlush_mask (s : State) (l : Nat) (G : Fields) :
    G.regs → G.lrep → (State.replayFlush s l).mask G = s.mask G := by
  intros; simp only [State.replayFlush, State.setLr_mask, State.setUnacked_mask, State.bump_mask, mask_regs,
    mask_lrep, ite_mask, ite_self, foldl_mask, implies_true, *]

theorem State.accept_mask (s : State) (l : Nat) (broken : Bool) (G : Fields) :
    G.regs → G.lrep → (State.accept s l broken).2.mask G = s.mask G := by
  intros; unfold State.accept; dsimp only; (repeat' split) <;> simp only [State.setLr_mask, State.bump_mask,
    mask_regs, mask_lrep, ite_mask, ite_self, foldl_mask, implies_true, *]

theorem State.setEgr_mask (s : State) (e : Nat) (x : Egress) (G : Fields) :
    G.rte → (State.setEgr s e x).mask G = s.mask G := by
  intros; simp only [State.setEgr, mask_rte, ite_mask, ite_self, foldl_mask, implies_true, *]

theorem State.depthMax_mask (s : State) (e : Nat) (q : Nat) (G : Fields) :
    G.regs → (State.depthMax s e q).mask G = s.mask G := by
  intros; simp only [State.depthMax, State.setFld_mask, mask_regs, ite_mask, ite_self, foldl_mask, implies_true, *]

theorem State.enqueue_mask (s : State) (e : Nat) (h : Held) (G : Fields) :
    G.regs → G.rte → (State.enqueue s e h).mask G = s.mask G := by
  intros; simp only [State.enqueue, State.bump_mask, State.setEgr_mask, State.depthMax_mask, mask_regs, mask_rte,
    ite_mask, ite_self, foldl_mask, implies_true, *]

theorem State.settle_mask (s : State) (e : Nat) (G : Fields) :
    G.rte → (State.settle s e).mask G = s.mask G := by
  intros; simp only [State.settle, State.setEgr_mask, mask_rte, ite_mask, ite_self, foldl_mask, implies_true, *]

theorem State.setPause_mask (s : State) (i : Nat) (x : Pause) (G : Fields) :
    G.rte → (State.setPause s i x).mask G = s.mask G := by
  intros; simp only [State.setPause, mask_rte, ite_mask, ite_self, foldl_mask, implies_true, *]

theorem State.holdSettle_mask (s : State) (i : Nat) (G : Fields) :
    G.regs → G.rte → (State.holdSettle s i).mask G = s.mask G := by
  intros; unfold State.holdSettle; dsimp only; (repeat' split) <;> simp only [State.bump64_mask, State.setPause_mask,
    mask_regs, mask_rte, ite_mask, ite_self, foldl_mask, implies_true, *]

theorem State.drr_mask (s : State) (e : Nat) (x2 : Nat) (G : Fields) :
    G.rte → (State.drr s e x2).2.mask G = s.mask G := by
  intros
  induction x2 generalizing s with
  | zero => rfl
  | succ n ih =>
    unfold State.drr; dsimp only; (repeat' split) <;> simp only [ih, State.setEgr_mask, mask_rte, ite_mask, ite_self,
      foldl_mask, implies_true, *]

theorem State.drrIdle_mask (s : State) (e : Nat) (G : Fields) :
    G.rte → (State.drrIdle s e).mask G = s.mask G := by
  intros; simp only [State.drrIdle, State.setEgr_mask, mask_rte, ite_mask, ite_self, foldl_mask, implies_true, *]

theorem State.candidate_mask (s : State) (e : Nat) (G : Fields) :
    G.rte → (State.candidate s e).2.mask G = s.mask G := by
  intros; unfold State.candidate; (repeat' split) <;> simp only [State.drr_mask, State.drrIdle_mask, mask_rte,
    ite_mask, ite_self, foldl_mask, implies_true, *]

theorem State.startSend_mask (s : State) (e : Nat) (bytes : Nat) (x : Sending) (G : Fields) :
    G.rte → (State.startSend s e bytes x).mask G = s.mask G := by
  intros; simp only [State.startSend, State.setEgr_mask, mask_rte, ite_mask, ite_self, foldl_mask, implies_true, *]

theorem State.useCredit_mask (s : State) (e : Nat) (v : Nat) (n : Int) (G : Fields) :
    G.rte → (State.useCredit s e v n).mask G = s.mask G := by
  intros; simp only [State.useCredit, State.setEgr_mask, mask_rte, ite_mask, ite_self, foldl_mask, implies_true, *]

theorem State.returnCredit_mask (s : State) (ingress : Nat) (v : Nat) (n : Nat) (at_ : Nat) (G : Fields) :
    G.rte → (State.returnCredit s ingress v n at_).mask G = s.mask G := by
  intros; simp only [State.returnCredit, State.setEgr_mask, mask_rte, ite_mask, ite_self, foldl_mask, implies_true, *]

theorem State.drop_mask (s : State) (code : Nat) (ingress : Nat) (p : Pkt) (G : Fields) :
    G.regs → G.hif → G.out → (State.drop s code ingress p).mask G = s.mask G := by
  intros; simp only [State.drop, State.setReg_mask, State.bump_mask, State.evt_mask, mask_regs, mask_hif, mask_out,
    ite_mask, ite_self, foldl_mask, implies_true, *]

theorem State.release_mask (s : State) (h : Held) (G : Fields) :
    G.regs → G.hif → G.log → G.rte → G.out → (State.release s h).mask G = s.mask G := by
  intros; simp only [State.release, State.freeHeld_mask, State.returnCredit_mask, mask_regs, mask_hif, mask_log,
    mask_rte, mask_out, ite_mask, ite_self, foldl_mask, implies_true, *]

theorem State.schedDrop_mask (s : State) (code : Nat) (ingress : Nat) (p : Pkt) (G : Fields) :
    G.regs → G.hif → G.out → (State.schedDrop s code ingress p).mask G = s.mask G := by
  intros; simp only [State.schedDrop, State.hazard_mask, State.drop_mask, mask_regs, mask_hif, mask_out, ite_mask,
    ite_self, foldl_mask, implies_true, *]

theorem State.sendSched_mask (s : State) (e : Nat) (p : Staged) (G : Fields) :
    G.regs → G.hif → G.lrep → G.rte → G.cap → G.mem → G.poison → G.out → (State.sendSched s e p).mask G = s.mask G :=
      by
  intros; simp only [State.sendSched, State.capPkt_mask, State.number_mask, State.bump_mask, State.emit_mask,
    State.evt_mask, State.hazard_mask, State.setEgr_mask, State.startSend_mask, mask_regs, mask_hif, mask_lrep,
    mask_rte, mask_cap, mask_mem, mask_poison, mask_out, ite_mask, ite_self, foldl_mask, implies_true, *]

theorem State.sendLink_mask (s : State) (e : Nat) (p : Pkt) (G : Fields) :
    G.regs → G.rte → G.out → (State.sendLink s e p).mask G = s.mask G := by
  intros; simp only [State.sendLink, State.bump_mask, State.emit_mask, State.setEgr_mask, State.startSend_mask,
    mask_regs, mask_rte, mask_out, ite_mask, ite_self, foldl_mask, implies_true, *]

theorem State.popQueue_mask (s : State) (e : Nat) (q : Nat) (h : Held) (G : Fields) :
    G.rte → (State.popQueue s e q h).mask G = s.mask G := by
  intros; simp only [State.popQueue, State.setEgr_mask, mask_rte, ite_mask, ite_self, foldl_mask, implies_true, *]

theorem State.sendQueued_mask (s : State) (e : Nat) (q : Nat) (h : Held) (G : Fields) :
    G.regs → G.lrep → G.rte → G.out → (State.sendQueued s e q h).mask G = s.mask G := by
  intros; simp only [State.sendQueued, State.number_mask, State.emit_mask, State.setEgr_mask, State.startSend_mask,
    State.useCredit_mask, State.drop_mask, State.release_mask, State.popQueue_mask, mask_regs, mask_hif, mask_log,
    mask_lrep, mask_rte, mask_out, ite_mask, ite_self, foldl_mask, implies_true, *]

theorem State.sendAgain_mask (s : State) (e : Nat) (c : Copy) (rest : List Copy) (G : Fields) :
    G.regs → G.hif → G.rte → G.cap → G.mem → G.poison → G.out → (State.sendAgain s e c rest).mask G = s.mask G := by
  intros; simp only [State.sendAgain, State.setEgr_mask, State.bump_mask, State.hazard_mask, State.capPkt_mask,
    State.startSend_mask, State.emit_mask, mask_regs, mask_hif, mask_rte, mask_cap, mask_mem, mask_poison, mask_out,
    ite_mask, ite_self, foldl_mask, implies_true, *]

theorem State.selectRest_mask (s : State) (e : Nat) (G : Fields) :
    G.regs → G.hif → G.lrep → G.rte → G.cap → G.mem → G.poison → G.out → (State.selectRest s e).mask G = s.mask G := by
  intros; unfold State.selectRest; (try extract_lets +lift) <;> (repeat' split) <;> (try simp only [Prod.ext_iff] at
    *) <;> (try casesm* _ ∧ _) <;> (try subst_vars) <;> (try simp only [State.setPause_mask, State.startSend_mask,
      State.emit_mask, State.sendLink_mask, State.sendAgain_mask, State.candidate_mask, State.sendQueued_mask,
      mask_regs, mask_hif, mask_lrep, mask_rte, mask_cap, mask_mem, mask_poison, mask_out, ite_mask, ite_self,
      foldl_mask, implies_true, *])

theorem State.sendTimePkt_mask (s : State) (e : Nat) (p : Staged) (G : Fields) :
    G.rte → G.out → (State.sendTimePkt s e p).mask G = s.mask G := by
  intros; simp only [State.sendTimePkt, State.emit_mask, State.setEgr_mask, State.startSend_mask, mask_rte, mask_out,
    ite_mask, ite_self, foldl_mask, implies_true, *]

theorem State.select_mask (s : State) (e : Nat) (G : Fields) :
    G.regs → G.hif → G.lrep → G.rte → G.cap → G.mem → G.poison → G.out → (State.select s e).mask G = s.mask G := by
  intros; unfold State.select; dsimp only; (repeat' split) <;> simp only [State.setEgr_mask, State.settle_mask,
    State.holdSettle_mask, State.sendTimePkt_mask, State.sendSched_mask, State.selectRest_mask, mask_regs, mask_hif,
    mask_log, mask_lrep, mask_rte, mask_cap, mask_mem, mask_poison, mask_out, ite_mask, ite_self, foldl_mask,
    implies_true, *]

theorem State.schedNotUp_mask (s : State) (p : Staged) (G : Fields) :
    G.regs → G.hif → G.out → (State.schedNotUp s p).mask G = s.mask G := by
  intros; simp only [State.schedNotUp, State.bump_mask, State.hazard_mask, State.schedDrop_mask, mask_regs, mask_hif,
    mask_out, ite_mask, ite_self, foldl_mask, implies_true, *]

theorem State.stagedLate_mask (s : State) (e : Nat) (G : Fields) :
    G.regs → G.hif → G.rte → G.out → (State.stagedLate s e).mask G = s.mask G := by
  intros; simp only [State.stagedLate, State.setEgr_mask, State.schedNotUp_mask, mask_regs, mask_hif, mask_rte,
    mask_out, ite_mask, ite_self, foldl_mask, implies_true, *]

theorem State.dropBad_mask (s : State) (h : Held) (G : Fields) :
    G.regs → G.hif → G.log → G.rte → G.out → (State.dropBad s h).mask G = s.mask G := by
  intros; simp only [State.dropBad, State.release_mask, State.drop_mask, mask_regs, mask_hif, mask_log, mask_rte,
    mask_out, ite_mask, ite_self, foldl_mask, implies_true, *]

theorem State.endQueued_mask (s : State) (e : Nat) (G : Fields) :
    G.regs → G.hif → G.log → G.rte → G.out → (State.endQueued s e).mask G = s.mask G := by
  intros; simp only [State.endQueued, State.setEgr_mask, State.dropBad_mask, State.useCredit_mask, mask_regs, mask_hif,
    mask_log, mask_rte, mask_out, ite_mask, ite_self, foldl_mask, implies_true, *]

theorem State.endDamaged_mask (s : State) (G : Fields) :
    G.regs → G.hif → G.log → G.rte → G.out → (State.endDamaged s).mask G = s.mask G := by
  intros; simp only [State.endDamaged, State.dropBad_mask, State.endQueued_mask, mask_regs, mask_hif, mask_log,
    mask_rte, mask_out, ite_mask, ite_self, foldl_mask, implies_true, *]

theorem execEgressSelect_mask (e : Nat) (time : Nat) (s : State) (G : Fields) :
    G.regs → G.tim → G.hif → G.log → G.lrep → G.rte → G.cap → G.mem → G.poison → G.out → ∀ t, execEgressSelect e time
      s = .next t → t.mask G = s.mask G := by
  intros; rename_i h; injection h with h; subst h; simp only [State.endDamaged_mask, State.advTo_mask,
    State.stagedLate_mask, State.select_mask, mask_regs, mask_tim, mask_hif, mask_log, mask_lrep, mask_rte, mask_cap,
    mask_mem, mask_poison, mask_out, ite_mask, ite_self, foldl_mask, implies_true, *]

theorem State.stage_mask (s : State) (p : Staged) (G : Fields) :
    G.regs → G.hif → G.log → G.rte → G.out → (State.stage s p).mask G = s.mask G := by
  intros; simp only [State.stage, State.bump_mask, State.evt_mask, State.offer_mask, State.hazard_mask,
    State.setEgr_mask, State.schedNotUp_mask, mask_regs, mask_hif, mask_log, mask_rte, mask_out, ite_mask, ite_self,
    foldl_mask, implies_true, *]

theorem execSchedStage_mask (e : Nat) (s : State) (G : Fields) :
    G.regs → G.tim → G.hif → G.log → G.rte → G.out → ∀ t, execSchedStage e s = .next t → t.mask G = s.mask G := by
  intros; rename_i h; injection h with h; subst h; (repeat' split) <;> simp only [State.advTo_mask,
    State.setEgr_mask, State.stage_mask, mask_regs, mask_tim, mask_hif, mask_log, mask_rte, mask_out, ite_mask,
    ite_self, foldl_mask, implies_true, *]

theorem State.reselectAll_mask (s : State) (e : Nat) (G : Fields) :
    G.rte → (State.reselectAll s e).mask G = s.mask G := by
  intros; simp only [State.reselectAll, State.setEgr_mask, mask_rte, ite_mask, ite_self, foldl_mask, implies_true, *]

theorem State.loseSending_mask (s : State) (e : Nat) (G : Fields) :
    G.regs → G.hif → G.log → G.rte → G.out → (State.loseSending s e).mask G = s.mask G := by
  intros; unfold State.loseSending; dsimp only; (repeat' split) <;> simp only [State.setEgr_mask, State.drop_mask,
    State.release_mask, State.schedDrop_mask, mask_regs, mask_hif, mask_log, mask_rte, mask_out, ite_mask, ite_self,
    foldl_mask, implies_true, *]

theorem State.egressLost_mask (s : State) (e : Nat) (G : Fields) :
    G.regs → G.hif → G.log → G.rte → G.out → (State.egressLost s e).mask G = s.mask G := by
  intros; simp only [State.egressLost, State.setEgr_mask, State.schedNotUp_mask, State.reselectAll_mask,
    State.loseSending_mask, mask_regs, mask_hif, mask_log, mask_rte, mask_out, ite_mask, ite_self, foldl_mask,
    implies_true, *]

theorem State.egressUp_mask (s : State) (e : Nat) (G : Fields) :
    G.rte → (State.egressUp s e).mask G = s.mask G := by
  intros; simp only [State.egressUp, State.setEgr_mask, mask_rte, ite_mask, ite_self, foldl_mask, implies_true, *]

theorem execSchCalRead_mask (path : Path) (v : Word) (s : State) (G : Fields) :
    G.regs → G.busy → G.hif → G.out → G.free → ∀ t, execSchCalRead path v s = .next t → t.mask G = s.mask G := by
  intros; rename_i h; injection h with h; subst h; simp only [State.setReg_mask, State.setFld_mask, State.evt_mask,
    State.tblOp_mask, mask_regs, mask_busy, mask_hif, mask_out, mask_free, ite_mask, ite_self, foldl_mask,
    implies_true, *]

theorem execSchCalWrite_mask (path : Path) (v : Word) (s : State) (G : Fields) :
    G.regs → G.busy → G.hif → G.rte → G.out → G.free → ∀ t, execSchCalWrite path v s = .next t → t.mask G = s.mask G
      := by
  intros; rename_i h; injection h with h; subst h; simp only [State.setFld_mask, State.evt_mask, State.tblOp_mask,
    mask_regs, mask_busy, mask_hif, mask_rte, mask_out, mask_free, ite_mask, ite_self, foldl_mask, implies_true, *]

theorem State.setSrc_mask (s : State) (i : Nat) (x : TimeSrc) (G : Fields) :
    G.tim → (State.setSrc s i x).mask G = s.mask G := by
  intros; simp only [State.setSrc, mask_tim, ite_mask, ite_self, foldl_mask, implies_true, *]

theorem State.setSrcUp_mask (s : State) (i : Nat) (b : Bool) (G : Fields) :
    G.tim → (State.setSrcUp s i b).mask G = s.mask G := by
  intros; unfold State.setSrcUp; dsimp only; (repeat' split) <;> simp only [State.setSrc_mask, mask_tim, ite_mask,
    ite_self, foldl_mask, implies_true, *]

theorem State.logTime_mask (s : State) (sub : Nat) (G : Fields) :
    G.regs → G.hif → G.log → G.out → (State.logTime s sub).mask G = s.mask G := by
  intros; simp only [State.logTime, State.offer_mask, mask_regs, mask_hif, mask_log, mask_out, ite_mask, ite_self,
    foldl_mask, implies_true, *]

theorem State.timEvt_mask (s : State) (bit : Nat) (G : Fields) :
    G.regs → G.hif → G.out → (State.timEvt s bit).mask G = s.mask G := by
  intros; simp only [State.timEvt, State.evt_mask, mask_regs, mask_hif, mask_out, ite_mask, ite_self, foldl_mask,
    implies_true, *]

theorem State.settleSlew_mask (s : State) (G : Fields) :
    G.tim → (State.settleSlew s).mask G = s.mask G := by
  intros; simp only [State.settleSlew, mask_tim, ite_mask, ite_self, foldl_mask, implies_true, *]

theorem State.toHoldover_mask (s : State) (unc : Nat) (G : Fields) :
    G.regs → G.tim → G.hif → G.log → G.out → (State.toHoldover s unc).mask G = s.mask G := by
  intros; simp only [State.toHoldover, State.settleSlew_mask, State.logTime_mask, State.timEvt_mask, mask_regs,
    mask_tim, mask_hif, mask_log, mask_out, ite_mask, ite_self, foldl_mask, implies_true, *]

theorem State.noSource_mask (s : State) (G : Fields) :
    G.regs → G.tim → G.hif → G.log → G.out → (State.noSource s).mask G = s.mask G := by
  intros; simp only [State.noSource, State.toHoldover_mask, mask_regs, mask_tim, mask_hif, mask_log, mask_out,
    ite_mask, ite_self, foldl_mask, implies_true, *]

theorem State.setStream_mask (s : State) (i : Nat) (x : Stream) (G : Fields) :
    G.streams → (State.setStream s i x).mask G = s.mask G := by
  intros; simp only [State.setStream, mask_streams, ite_mask, ite_self, foldl_mask, implies_true, *]

theorem State.streamsDown_mask (s : State) (l : Nat) (G : Fields) :
    G.streams → (State.streamsDown s l).mask G = s.mask G := by
  intros; simp only [State.streamsDown, mask_streams, ite_mask, ite_self, foldl_mask, implies_true, *]

theorem State.linkLost_mask (s : State) (p : Nat) (k : Nat) (G : Fields) :
    G.regs → G.tim → G.hif → G.log → G.lrep → G.streams → G.rte → G.out → (State.linkLost s p k).mask G = s.mask G :=
      by
  intros; simp only [State.linkLost, State.setSrcUp_mask, State.noSource_mask, State.replayFlush_mask,
    State.streamsDown_mask, State.egressLost_mask, mask_regs, mask_tim, mask_hif, mask_log, mask_lrep, mask_streams,
    mask_rte, mask_out, ite_mask, ite_self, foldl_mask, implies_true, *]

theorem State.linkUp_mask (s : State) (p : Nat) (k : Nat) (G : Fields) :
    G.tim → G.lrep → G.rte → (State.linkUp s p k).mask G = s.mask G := by
  intros; simp only [State.linkUp, State.setSrcUp_mask, State.setLr_mask, State.egressUp_mask, mask_tim, mask_lrep,
    mask_rte, ite_mask, ite_self, foldl_mask, implies_true, *]

theorem State.relayEnd_mask (s : State) (lane : Nat) (G : Fields) :
    G.mgt → (State.relayEnd s lane).mask G = s.mask G := by
  intros; unfold State.relayEnd; dsimp only; (repeat' split) <;> simp only [mask_mgt, ite_mask, ite_self, foldl_mask,
    implies_true, *]

theorem State.relayClose_mask (s : State) (lane : Nat) (G : Fields) :
    G.mgt → (State.relayClose s lane).mask G = s.mask G := by
  intros; unfold State.relayClose; dsimp only; (repeat' split) <;> simp only [State.relayEnd_mask, mask_mgt, ite_mask,
    ite_self, foldl_mask, implies_true, *]

theorem State.schedStop_mask (s : State) (G : Fields) :
    G.sched → (State.schedStop s).mask G = s.mask G := by
  intros; simp only [State.schedStop, mask_sched, ite_mask, ite_self, foldl_mask, implies_true, *]

theorem State.captureHold_mask (s : State) (was : Bool) (now : Bool) (G : Fields) :
    G.regs → G.hif → G.cap → G.mem → G.poison → G.out → (State.captureHold s was now).mask G = s.mask G := by
  intros; simp only [State.captureHold, State.capMark_mask, mask_regs, mask_hif, mask_cap, mask_mem, mask_poison,
    mask_out, ite_mask, ite_self, foldl_mask, implies_true, *]

theorem State.down_mask (s : State) (p : Nat) (k : Nat) (cause : Nat) (G : Fields) :
    G.regs → G.tim → G.hif → G.log → G.subs → G.lrep → G.streams → G.rte → G.out → (State.down s p k cause).mask G =
      s.mask G := by
  intros; simp only [State.down, State.linkLost_mask, State.bump_mask, State.offer_mask, State.prtEvt_mask,
    State.enter_mask, mask_regs, mask_tim, mask_hif, mask_log, mask_subs, mask_lrep, mask_streams, mask_rte,
    mask_out, ite_mask, ite_self, foldl_mask, implies_true, *]

theorem State.setLane_mask (s : State) (i : Nat) (x : Lane) (G : Fields) :
    G.lanes → (State.setLane s i x).mask G = s.mask G := by
  intros; simp only [State.setLane, mask_lanes, ite_mask, ite_self, foldl_mask, implies_true, *]

theorem State.laneRx_mask (s : State) (p : Nat) (k : Nat) (sig : Bool) (cdr : Bool) (sym : Bool) (G : Fields) :
    G.lanes → (State.laneRx s p k sig cdr sym).mask G = s.mask G := by
  intros; simp only [State.laneRx, State.setLane_mask, mask_lanes, ite_mask, ite_self, foldl_mask, implies_true, *]

theorem State.restart_mask (s : State) (p : Nat) (k : Nat) (G : Fields) :
    G.subs → G.lanes → (State.restart s p k).mask G = s.mask G := by
  intros; simp only [State.restart, State.laneRx_mask, State.enter_mask, mask_subs, mask_lanes, ite_mask, ite_self,
    foldl_mask, implies_true, *]

theorem State.prtEnable_mask (s : State) (p : Nat) (was : Bool) (now : Bool) (G : Fields) :
    G.regs → G.tim → G.hif → G.log → G.subs → G.lanes → G.lrep → G.streams → G.rte → G.out → (State.prtEnable s p was
      now).mask G = s.mask G := by
  intros; simp only [State.prtEnable, State.setSub_mask, State.restart_mask, State.linkLost_mask, mask_regs, mask_tim,
    mask_hif, mask_log, mask_subs, mask_lanes, mask_lrep, mask_streams, mask_rte, mask_out, ite_mask, ite_self,
    foldl_mask, implies_true, *]

theorem State.prtCtrl_mask (s : State) (p : Nat) (v : Word) (G : Fields) :
    G.regs → G.tim → G.hif → G.log → G.subs → G.lanes → G.lrep → G.streams → G.rte → G.out → (State.prtCtrl s p
      v).mask G = s.mask G := by
  intros; simp only [State.prtCtrl, State.evt_mask, State.prtEnable_mask, State.plainWrite_mask, State.prtEvt_mask,
    mask_regs, mask_tim, mask_hif, mask_log, mask_subs, mask_lanes, mask_lrep, mask_streams, mask_rte, mask_out,
    ite_mask, ite_self, foldl_mask, implies_true, *]

theorem execPrtCtrlWrite_mask (path : Path) (p : Nat) (v : Word) (s : State) (G : Fields) :
    G.regs → G.tim → G.hif → G.log → G.subs → G.lanes → G.lrep → G.streams → G.rte → G.out → ∀ t, execPrtCtrlWrite
      path p v s = .next t → t.mask G = s.mask G := by
  intros; rename_i h; injection h with h; subst h; simp only [State.prtCtrl_mask, mask_regs, mask_tim, mask_hif,
    mask_log, mask_subs, mask_lanes, mask_lrep, mask_streams, mask_rte, mask_out, ite_mask, ite_self, foldl_mask,
    implies_true, *]

theorem execPcsLock_mask (p : Nat) (k : Nat) (s : State) (G : Fields) :
    G.subs → G.lanes → ∀ t, execPcsLock p k s = .next t → t.mask G = s.mask G := by
  intros; rename_i h; injection h with h; subst h; simp only [State.setSub_mask, State.laneRx_mask, mask_subs,
    mask_lanes, ite_mask, ite_self, foldl_mask, implies_true, *]

theorem execTrainFail_mask (p : Nat) (k : Nat) (s : State) (G : Fields) :
    G.regs → G.hif → G.subs → G.streams → G.out → ∀ t, execTrainFail p k s = .next t → t.mask G = s.mask G := by
  intros; rename_i h; injection h with h; subst h; simp only [State.streamsDown_mask, State.prtEvt_mask,
    State.enter_mask, mask_regs, mask_hif, mask_subs, mask_streams, mask_out, ite_mask, ite_self, foldl_mask,
    implies_true, *]

theorem execHelloSend_mask (p : Nat) (k : Nat) (s : State) (G : Fields) :
    G.out → ∀ t, execHelloSend p k s = .next t → t.mask G = s.mask G := by
  intros; rename_i h; injection h with h; subst h; simp only [State.sendOs_mask, mask_out, ite_mask, ite_self,
    foldl_mask, implies_true, *]

theorem State.enterUp_mask (s : State) (p : Nat) (k : Nat) (G : Fields) :
    G.regs → G.tim → G.hif → G.subs → G.lrep → G.rte → G.out → (State.enterUp s p k).mask G = s.mask G := by
  intros; simp only [State.enterUp, State.linkUp_mask, State.setSub_mask, State.prtEvt_mask, mask_regs, mask_tim,
    mask_hif, mask_subs, mask_lrep, mask_rte, mask_out, ite_mask, ite_self, foldl_mask, implies_true, *]

theorem State.helloStep_mask (s : State) (p : Nat) (k : Nat) (G : Fields) :
    G.regs → G.tim → G.hif → G.subs → G.lrep → G.rte → G.out → (State.helloStep s p k).mask G = s.mask G := by
  intros; simp only [State.helloStep, State.enterUp_mask, State.setSub_mask, State.sendOs_mask, mask_regs, mask_tim,
    mask_hif, mask_subs, mask_lrep, mask_rte, mask_out, ite_mask, ite_self, foldl_mask, implies_true, *]

theorem execHelloIdRx_mask (p : Nat) (k : Nat) (arg : Nat) (s : State) (G : Fields) :
    G.regs → G.tim → G.hif → G.subs → G.lrep → G.rte → G.out → ∀ t, execHelloIdRx p k arg s = .next t → t.mask G =
      s.mask G := by
  intros; rename_i h; injection h with h; subst h; simp only [State.helloStep_mask, State.setSub_mask, mask_regs,
    mask_tim, mask_hif, mask_subs, mask_lrep, mask_rte, mask_out, ite_mask, ite_self, foldl_mask, implies_true, *]

theorem execHelloPortRx_mask (p : Nat) (k : Nat) (arg : Nat) (s : State) (G : Fields) :
    G.regs → G.tim → G.hif → G.subs → G.lrep → G.rte → G.out → ∀ t, execHelloPortRx p k arg s = .next t → t.mask G =
      s.mask G := by
  intros; rename_i h; injection h with h; subst h; simp only [State.helloStep_mask, State.setSub_mask,
    State.prtEvt_mask, mask_regs, mask_tim, mask_hif, mask_subs, mask_lrep, mask_rte, mask_out, ite_mask, ite_self,
    foldl_mask, implies_true, *]

theorem execHelloAckRx_mask (p : Nat) (k : Nat) (s : State) (G : Fields) :
    G.regs → G.tim → G.hif → G.subs → G.lrep → G.rte → G.out → ∀ t, execHelloAckRx p k s = .next t → t.mask G =
      s.mask G := by
  intros; rename_i h; injection h with h; subst h; simp only [State.helloStep_mask, State.setSub_mask, mask_regs,
    mask_tim, mask_hif, mask_subs, mask_lrep, mask_rte, mask_out, ite_mask, ite_self, foldl_mask, implies_true, *]

theorem execHelloTimeout_mask (p : Nat) (k : Nat) (s : State) (G : Fields) :
    G.regs → G.tim → G.hif → G.log → G.subs → G.lrep → G.streams → G.rte → G.out → ∀ t, execHelloTimeout p k s =
      .next t → t.mask G = s.mask G := by
  intros; rename_i h; injection h with h; subst h; simp only [State.down_mask, mask_regs, mask_tim, mask_hif,
    mask_log, mask_subs, mask_lrep, mask_streams, mask_rte, mask_out, ite_mask, ite_self, foldl_mask, implies_true, *]

theorem execRetryTimeout_mask (p : Nat) (k : Nat) (s : State) (G : Fields) :
    G.subs → ∀ t, execRetryTimeout p k s = .next t → t.mask G = s.mask G := by
  intros; rename_i h; injection h with h; subst h; simp only [State.enter_mask, mask_subs, ite_mask, ite_self,
    foldl_mask, implies_true, *]

theorem execOsUnknown_mask (p : Nat) (k : Nat) (kind : Nat) (s : State) (G : Fields) :
    G.regs → ∀ t, execOsUnknown p k kind s = .next t → t.mask G = s.mask G := by
  intros; rename_i h; injection h with h; subst h; simp only [State.bump_mask, mask_regs, ite_mask, ite_self,
    foldl_mask, implies_true, *]

theorem State.lneEvt_mask (s : State) (i : Nat) (bit : Nat) (G : Fields) :
    G.regs → G.hif → G.out → (State.lneEvt s i bit).mask G = s.mask G := by
  intros; simp only [State.lneEvt, State.evt_mask, mask_regs, mask_hif, mask_out, ite_mask, ite_self, foldl_mask,
    implies_true, *]

theorem State.lossSeen_mask (s : State) (p : Nat) (k : Nat) (cause : Nat) (lost : Nat) (G : Fields) :
    G.regs → G.hif → G.lanes → G.out → (State.lossSeen s p k cause lost).mask G = s.mask G := by
  intros; simp only [State.lossSeen, State.bump64_mask, State.setLane_mask, State.lneEvt_mask, State.laneRx_mask,
    mask_regs, mask_hif, mask_lanes, mask_out, ite_mask, ite_self, foldl_mask, implies_true, *]

theorem State.idleSeen_mask (s : State) (p : Nat) (k : Nat) (lost : Nat) (G : Fields) :
    G.lanes → (State.idleSeen s p k lost).mask G = s.mask G := by
  intros; simp only [State.idleSeen, State.setLane_mask, mask_lanes, ite_mask, ite_self, foldl_mask, implies_true, *]

theorem execLinkDown_mask (p : Nat) (k : Nat) (cause : Nat) (lost : Nat) (s : State) (G : Fields) :
    G.regs → G.tim → G.hif → G.log → G.subs → G.lanes → G.lrep → G.streams → G.rte → G.out → ∀ t, execLinkDown p k
      cause lost s = .next t → t.mask G = s.mask G := by
  intros; rename_i h; injection h with h; subst h; simp only [State.idleSeen_mask, State.down_mask,
    State.lossSeen_mask, mask_regs, mask_tim, mask_hif, mask_log, mask_subs, mask_lanes, mask_lrep, mask_streams,
    mask_rte, mask_out, ite_mask, ite_self, foldl_mask, implies_true, *]

theorem execIdleRestTimeout_mask (p : Nat) (k : Nat) (s : State) (G : Fields) :
    G.tim → G.subs → G.out → ∀ t, execIdleRestTimeout p k s = .next t → t.mask G = s.mask G := by
  intros; rename_i h; injection h with h; subst h; simp only [State.advTo_mask, State.setSub_mask, State.sendOs_mask,
    mask_tim, mask_subs, mask_out, ite_mask, ite_self, foldl_mask, implies_true, *]

theorem execRestReqRx_mask (p : Nat) (k : Nat) (s : State) (G : Fields) :
    G.regs → G.hif → G.subs → G.out → ∀ t, execRestReqRx p k s = .next t → t.mask G = s.mask G := by
  intros; rename_i h; injection h with h; subst h; simp only [State.sendOs_mask, State.commit_mask,
    State.abandon_mask, mask_regs, mask_hif, mask_subs, mask_out, ite_mask, ite_self, foldl_mask, implies_true, *]

theorem execRestAckRx_mask (p : Nat) (k : Nat) (s : State) (G : Fields) :
    G.regs → G.hif → G.subs → G.out → ∀ t, execRestAckRx p k s = .next t → t.mask G = s.mask G := by
  intros; rename_i h; injection h with h; subst h; simp only [State.commit_mask, State.abandon_mask, mask_regs,
    mask_hif, mask_subs, mask_out, ite_mask, ite_self, foldl_mask, implies_true, *]

theorem execRestNakRx_mask (p : Nat) (k : Nat) (_reason : Nat) (s : State) (G : Fields) :
    G.subs → ∀ t, execRestNakRx p k _reason s = .next t → t.mask G = s.mask G := by
  intros; rename_i h; injection h with h; subst h; simp only [State.setSub_mask, mask_subs, ite_mask, ite_self,
    foldl_mask, implies_true, *]

theorem execRestCommitRx_mask (p : Nat) (k : Nat) (_arg : Nat) (s : State) (G : Fields) :
    G.subs → ∀ t, execRestCommitRx p k _arg s = .next t → t.mask G = s.mask G := by
  intros; rename_i h; injection h with h; subst h; simp only [State.setSub_mask, State.laneRx_mask, mask_subs,
    mask_lanes, ite_mask, ite_self, foldl_mask, implies_true, *]

theorem execRestAbortRx_mask (p : Nat) (k : Nat) (s : State) (G : Fields) :
    G.regs → G.hif → G.subs → G.out → ∀ t, execRestAbortRx p k s = .next t → t.mask G = s.mask G := by
  intros; rename_i h; injection h with h; subst h; simp only [State.wakeReq_mask, mask_regs, mask_hif, mask_subs,
    mask_out, ite_mask, ite_self, foldl_mask, implies_true, *]

theorem execWakeRx_mask (p : Nat) (k : Nat) (s : State) (G : Fields) :
    G.regs → G.hif → G.subs → G.lanes → G.out → ∀ t, execWakeRx p k s = .next t → t.mask G = s.mask G := by
  intros; rename_i h; injection h with h; subst h; simp only [State.setSub_mask, State.laneRx_mask,
    State.wakeReq_mask, mask_regs, mask_hif, mask_subs, mask_lanes, mask_out, ite_mask, ite_self, foldl_mask,
    implies_true, *]

theorem execRestEntryDone_mask (p : Nat) (k : Nat) (s : State) (G : Fields) :
    G.tim → G.subs → ∀ t, execRestEntryDone p k s = .next t → t.mask G = s.mask G := by
  intros; rename_i h; injection h with h; subst h; simp only [State.advTo_mask, State.setSub_mask, mask_tim,
    mask_subs, ite_mask, ite_self, foldl_mask, implies_true, *]

theorem State.wakeMax_mask (s : State) (p : Nat) (k : Nat) (ns : Nat) (G : Fields) :
    G.regs → (State.wakeMax s p k ns).mask G = s.mask G := by
  intros; simp only [State.wakeMax, State.setReg_mask, mask_regs, ite_mask, ite_self, foldl_mask, implies_true, *]

theorem execRestExitDone_mask (p : Nat) (k : Nat) (s : State) (G : Fields) :
    G.regs → G.tim → G.subs → G.out → ∀ t, execRestExitDone p k s = .next t → t.mask G = s.mask G := by
  intros; rename_i h; injection h with h; subst h; simp only [State.advTo_mask, State.wakeMax_mask,
    State.setSub_mask, State.sendOs_mask, mask_regs, mask_tim, mask_subs, mask_out, ite_mask, ite_self, foldl_mask,
    implies_true, *]

theorem execRestWindowExit_mask (p : Nat) (k : Nat) (s : State) (G : Fields) :
    G.tim → G.subs → ∀ t, execRestWindowExit p k s = .next t → t.mask G = s.mask G := by
  intros; rename_i h; injection h with h; subst h; simp only [State.advTo_mask, State.setSub_mask, mask_tim,
    mask_subs, ite_mask, ite_self, foldl_mask, implies_true, *]

theorem execTimeWindowWake_mask (p : Nat) (k : Nat) (s : State) (G : Fields) :
    G.regs → G.tim → G.hif → G.subs → G.out → ∀ t, execTimeWindowWake p k s = .next t → t.mask G = s.mask G := by
  intros; rename_i h; injection h with h; subst h; simp only [State.advTo_mask, State.wakeReq_mask, mask_regs,
    mask_tim, mask_hif, mask_subs, mask_out, ite_mask, ite_self, foldl_mask, implies_true, *]

theorem execRxSignalReturn_mask (p : Nat) (k : Nat) (s : State) (G : Fields) :
    G.regs → G.hif → G.subs → G.lanes → G.out → ∀ t, execRxSignalReturn p k s = .next t → t.mask G = s.mask G := by
  intros; rename_i h; injection h with h; subst h; simp only [State.laneRx_mask, State.wakeReq_mask, mask_regs,
    mask_hif, mask_subs, mask_lanes, mask_out, ite_mask, ite_self, foldl_mask, implies_true, *]

theorem State.prtRestCtrl_mask (s : State) (p : Nat) (v : Word) (G : Fields) :
    G.regs → G.hif → G.subs → G.out → (State.prtRestCtrl s p v).mask G = s.mask G := by
  intros; simp only [State.prtRestCtrl, State.plainWrite_mask, State.wakeReq_mask, mask_regs, mask_hif, mask_subs,
    mask_out, ite_mask, ite_self, foldl_mask, implies_true, *]

theorem execPrtRestWake_mask (path : Path) (p : Nat) (v : Word) (s : State) (G : Fields) :
    G.regs → G.hif → G.subs → G.out → ∀ t, execPrtRestWake path p v s = .next t → t.mask G = s.mask G := by
  intros; rename_i h; injection h with h; subst h; simp only [State.prtRestCtrl_mask, mask_regs, mask_hif, mask_subs,
    mask_out, ite_mask, ite_self, foldl_mask, implies_true, *]

theorem State.rteEvt_mask (s : State) (bit : Nat) (G : Fields) :
    G.regs → G.hif → G.out → (State.rteEvt s bit).mask G = s.mask G := by
  intros; simp only [State.rteEvt, State.evt_mask, mask_regs, mask_hif, mask_out, ite_mask, ite_self, foldl_mask,
    implies_true, *]

theorem State.noteWas_mask (s : State) (key : Nat) (old : Nat) (G : Fields) :
    G.rte → (State.noteWas s key old).mask G = s.mask G := by
  intros; simp only [State.noteWas, State.setSvc_mask, mask_rte, ite_mask, ite_self, foldl_mask, implies_true, *]

theorem State.rteSet_mask (s : State) (t : Nat) (i : Nat) (v : Nat) (G : Fields) :
    G.rte → (State.rteSet s t i v).mask G = s.mask G := by
  intros; simp only [State.rteSet, State.noteWas_mask, mask_rte, ite_mask, ite_self, foldl_mask, implies_true, *]

theorem State.rteWrite_mask (s : State) (t : Nat) (i : Nat) (G : Fields) :
    G.regs → G.hif → G.rte → G.out → (State.rteWrite s t i).mask G = s.mask G := by
  intros; simp only [State.rteWrite, State.setFld_mask, State.rteEvt_mask, State.rteSet_mask, mask_regs, mask_hif,
    mask_rte, mask_out, ite_mask, ite_self, foldl_mask, implies_true, *]

theorem execRteTblRead_mask (path : Path) (v : Word) (s : State) (G : Fields) :
    G.regs → G.busy → G.hif → G.out → G.free → ∀ t, execRteTblRead path v s = .next t → t.mask G = s.mask G := by
  intros; rename_i h; injection h with h; subst h; simp only [State.setReg_mask, State.setFld_mask, State.tblOp_mask,
    State.rteEvt_mask, mask_regs, mask_busy, mask_hif, mask_out, mask_free, ite_mask, ite_self, foldl_mask,
    implies_true, *]

theorem execRteTblWrite_mask (path : Path) (v : Word) (s : State) (G : Fields) :
    G.regs → G.busy → G.hif → G.rte → G.out → G.free → ∀ t, execRteTblWrite path v s = .next t → t.mask G = s.mask G
      := by
  intros; rename_i h; injection h with h; subst h; simp only [State.tblOp_mask, State.rteEvt_mask,
    State.rteWrite_mask, mask_regs, mask_busy, mask_hif, mask_rte, mask_out, mask_free, ite_mask, ite_self,
    foldl_mask, implies_true, *]

theorem State.lineBad_mask (s : State) (port : Nat) (r : RxPkt) (G : Fields) :
    G.lrep → (State.lineBad s port r).mask G = s.mask G := by
  intros; simp only [State.lineBad, State.setLr_mask, mask_lrep, ite_mask, ite_self, foldl_mask, implies_true, *]

theorem State.linkRx_mask (s : State) (port : Nat) (sub : Nat) (kind : Nat) (r : RxPkt) (act : State → State) (G : Fields) :
    G.regs → G.hif → G.lrep → G.out → (∀ (y0 : State), (act y0).mask G = y0.mask G) → (State.linkRx s port sub kind r
      act).mask G = s.mask G := by
  intros; simp only [State.linkRx, State.lineBad_mask, State.drop_mask, mask_regs, mask_hif, mask_lrep, mask_out,
    ite_mask, ite_self, foldl_mask, implies_true, *]

theorem State.setPolicer_mask (s : State) (i : Nat) (p : Policer) (G : Fields) :
    G.rte → (State.setPolicer s i p).mask G = s.mask G := by
  intros; simp only [State.setPolicer, mask_rte, ite_mask, ite_self, foldl_mask, implies_true, *]

theorem State.police_mask (s : State) (e : Nat) (v : Nat) (l : Nat) (G : Fields) :
    G.regs → G.hif → G.rte → G.out → (State.police s e v l).2.2.mask G = s.mask G := by
  intros; unfold State.police; dsimp only; (repeat' split) <;> simp only [State.bump64_mask, State.evt_mask,
    State.setPolicer_mask, mask_regs, mask_hif, mask_rte, mask_out, ite_mask, ite_self, foldl_mask, implies_true, *]

theorem execSchPolRead_mask (path : Path) (v : Word) (s : State) (G : Fields) :
    G.regs → G.busy → G.hif → G.out → G.free → ∀ t, execSchPolRead path v s = .next t → t.mask G = s.mask G := by
  intros; rename_i h; injection h with h; subst h; simp only [State.setReg_mask, State.setFld_mask, State.evt_mask,
    State.tblOp_mask, mask_regs, mask_busy, mask_hif, mask_out, mask_free, ite_mask, ite_self, foldl_mask,
    implies_true, *]

theorem execSchPolWrite_mask (path : Path) (v : Word) (s : State) (G : Fields) :
    G.regs → G.busy → G.hif → G.rte → G.out → G.free → ∀ t, execSchPolWrite path v s = .next t → t.mask G = s.mask G
      := by
  intros; rename_i h; injection h with h; subst h; simp only [State.setFld_mask, State.evt_mask, State.tblOp_mask,
    State.setPolicer_mask, mask_regs, mask_busy, mask_hif, mask_rte, mask_out, mask_free, ite_mask, ite_self,
    foldl_mask, implies_true, *]

theorem State.giveBack_mask (s : State) (e : Nat) (p : Pkt) (G : Fields) :
    G.rte → (State.giveBack s e p).mask G = s.mask G := by
  intros; simp only [State.giveBack, State.returnCredit_mask, mask_rte, ite_mask, ite_self, foldl_mask, implies_true,
    *]

theorem State.dropRx_mask (s : State) (code : Nat) (e : Nat) (p : Pkt) (G : Fields) :
    G.regs → G.hif → G.rte → G.out → (State.dropRx s code e p).mask G = s.mask G := by
  intros; simp only [State.dropRx, State.drop_mask, State.giveBack_mask, mask_regs, mask_hif, mask_rte, mask_out,
    ite_mask, ite_self, foldl_mask, implies_true, *]

theorem State.forwardSched_mask (s : State) (e : Nat) (egr : Nat) (p : Pkt) (c : Rx) (wire : Nat) (owned : Bool) (G : Fields) :
    G.regs → G.hif → G.rte → G.out → (State.forwardSched s e egr p c wire owned).mask G = s.mask G := by
  intros; simp only [State.forwardSched, State.bump_mask, State.evt_mask, State.drop_mask, mask_regs, mask_hif,
    mask_rte, mask_out, ite_mask, ite_self, foldl_mask, implies_true, *]

theorem State.store_mask (s : State) (e : Nat) (p : Pkt) (c : Rx) (hop : Hop) (G : Fields) :
    G.regs → G.tim → G.hif → G.log → G.rte → G.out → (State.store s e p c hop).2.mask G = s.mask G := by
  intros; unfold State.store; dsimp only; (repeat' split) <;> simp only [State.alloc_mask, State.giveBack_mask,
    mask_regs, mask_tim, mask_hif, mask_log, mask_rte, mask_out, ite_mask, ite_self, foldl_mask, implies_true, *]

theorem State.waitFor_mask (s : State) (e : Nat) (p : Pkt) (c : Rx) (hop : Hop) (G : Fields) :
    G.regs → G.tim → G.hif → G.log → G.rte → G.out → (State.waitFor s e p c hop).mask G = s.mask G := by
  intros; unfold State.waitFor; (try extract_lets +lift) <;> (repeat' split) <;> (try simp only [Prod.ext_iff] at *)
    <;> (try casesm* _ ∧ _) <;> (try subst_vars) <;> (try simp only [State.drop_mask, State.release_mask,
      State.store_mask, mask_regs, mask_tim, mask_hif, mask_log, mask_rte, mask_out, ite_mask, ite_self, foldl_mask,
      implies_true, *])

theorem State.routeTo_mask (s : State) (e : Nat) (p : Pkt) (c : Rx) (owned : Bool) (f : Found) (G : Fields) :
    G.regs → G.tim → G.hif → G.log → G.rte → G.out → (State.routeTo s e p c owned f).2.mask G = s.mask G := by
  intros; unfold State.routeTo; (try extract_lets +lift) <;> (repeat' split) <;> (try simp only [Prod.ext_iff] at *)
    <;> (try casesm* _ ∧ _) <;> (try subst_vars) <;> (try simp only [State.drop_mask, State.release_mask,
    State.dropRx_mask, State.forwardSched_mask, State.store_mask, State.waitFor_mask, mask_regs, mask_tim, mask_hif,
    mask_log, mask_rte, mask_out, ite_mask, ite_self, foldl_mask, implies_true, *])

theorem State.route_mask (s : State) (e : Nat) (p : Pkt) (c : Rx) (owned : Bool) (G : Fields) :
    G.regs → G.tim → G.hif → G.log → G.rte → G.out → (State.route s e p c owned).2.mask G = s.mask G := by
  intros; unfold State.route; (try extract_lets +lift) <;> (repeat' split) <;> (try simp only [Prod.ext_iff] at *)
    <;> (try casesm* _ ∧ _) <;> (try subst_vars) <;> (try simp only [State.forwardSched_mask, State.waitFor_mask,
      State.store_mask, State.release_mask, State.drop_mask, State.police_mask, State.giveBack_mask,
      State.dropRx_mask, State.routeTo_mask, mask_regs, mask_tim, mask_hif, mask_log, mask_rte, mask_out, ite_mask,
      ite_self, foldl_mask, implies_true, *])

theorem State.arrive_mask (s : State) (port : Nat) (sub : Nat) (r : RxPkt) (arrival : Nat) (injected : Bool) (G : Fields) :
    G.regs → G.tim → G.hif → G.log → G.lrep → G.rte → G.cap → G.mem → G.poison → G.out → (State.arrive s port sub r
      arrival injected).2.mask G = s.mask G := by
  intros; unfold State.arrive; dsimp only; (repeat' split) <;> (try simp only [State.lineBad_mask, State.drop_mask,
    State.advTo_mask, State.endDamaged_mask, State.capPkt_mask, State.bump_mask, State.accept_mask, State.dropRx_mask,
    State.route_mask, mask_regs, mask_tim, mask_hif, mask_log, mask_lrep, mask_rte, mask_cap, mask_mem, mask_poison,
    mask_out, ite_mask, ite_snd_mask, ite_self, foldl_mask, implies_true, *])

theorem State.grant_mask (s : State) (h : Held) (e : Nat) (G : Fields) :
    G.regs → G.hif → G.subs → G.rte → G.out → (State.grant s h e).mask G = s.mask G := by
  intros; simp only [State.grant, State.setSvc_mask, State.enqueue_mask, State.useCredit_mask, State.wakeQueued_mask,
    mask_regs, mask_hif, mask_subs, mask_rte, mask_out, ite_mask, ite_self, foldl_mask, implies_true, *]

theorem State.present_mask (s : State) (h : Held) (G : Fields) :
    G.tim → G.rte → (State.present s h).mask G = s.mask G := by
  intros; simp only [State.present, State.setSvc_mask, State.nextPclk_mask, mask_tim, mask_rte, ite_mask, ite_self,
    foldl_mask, implies_true, *]

theorem State.picked_mask (s : State) (h : Held) (x2 : Sum Nat (Option (Nat × Nat))) (G : Fields) :
    G.regs → G.hif → G.log → G.subs → G.rte → G.out → (State.picked s h x2).mask G = s.mask G := by
  intros; unfold State.picked; dsimp only; (repeat' split) <;> simp only [State.drop_mask, State.release_mask,
    State.grant_mask, mask_regs, mask_hif, mask_log, mask_subs, mask_rte, mask_out, ite_mask, ite_self, foldl_mask,
    implies_true, *]

theorem State.spray_mask (s : State) (h : Held) (G : Fields) :
    G.regs → G.tim → G.hif → G.log → G.subs → G.rte → G.out → (State.spray s h).mask G = s.mask G := by
  intros; simp only [State.spray, State.nextPclk_mask, State.present_mask, State.picked_mask, mask_regs, mask_tim,
    mask_hif, mask_log, mask_subs, mask_rte, mask_out, ite_mask, ite_self, foldl_mask, implies_true, *]

theorem State.turnsTo_mask (s : State) (h : Held) (x2 : Nat) (G : Fields) :
    G.regs → G.tim → G.hif → G.log → G.subs → G.rte → G.out → (State.turnsTo s h x2).mask G = s.mask G := by
  intros; induction x2 generalizing s with
  | zero => rfl
  | succ n ih => unfold State.turnsTo; split <;> simp only [ih, State.spray_mask, State.present_mask, *]

theorem execSpraySelect_mask (id : Nat) (time : Nat) (s : State) (G : Fields) :
    G.regs → G.tim → G.hif → G.log → G.subs → G.rte → G.out → ∀ t, execSpraySelect id time s = .next t → t.mask G =
      s.mask G := by
  intros; rename_i h; injection h with h; subst h; dsimp only; (repeat' split) <;> simp only [State.endDamaged_mask,
    State.advTo_mask, State.spray_mask, State.present_mask, State.turnsTo_mask, mask_regs, mask_tim, mask_hif,
    mask_log, mask_subs, mask_rte, mask_out, ite_mask, ite_self, foldl_mask, implies_true, *]

theorem State.takeOut_mask (s : State) (h : Held) (G : Fields) :
    G.rte → (State.takeOut s h).mask G = s.mask G := by
  intros; unfold State.takeOut; dsimp only; (repeat' split) <;> simp only [State.useCredit_mask, State.setEgr_mask,
    mask_rte, ite_mask, ite_self, foldl_mask, implies_true, *]

theorem execPacketAged_mask (id : Nat) (s : State) (G : Fields) :
    G.regs → G.tim → G.hif → G.log → G.rte → G.out → ∀ t, execPacketAged id s = .next t → t.mask G = s.mask G := by
  intros; rename_i h; injection h with h; subst h; dsimp only; (repeat' split) <;> simp only [State.endDamaged_mask,
    State.advTo_mask, State.release_mask, State.drop_mask, State.takeOut_mask, mask_regs, mask_tim, mask_hif, mask_log,
    mask_rte, mask_out, ite_mask, ite_self, foldl_mask, implies_true, *]

theorem State.countTx_mask (s : State) (e : Nat) (q : Nat) (h : Held) (G : Fields) :
    G.regs → (State.countTx s e q h).mask G = s.mask G := by
  intros; simp only [State.countTx, State.bump_mask, State.bump64_mask, mask_regs, ite_mask, ite_self, foldl_mask,
    implies_true, *]

theorem State.sendPause_mask (s : State) (i : Nat) (p : Nat) (t : Nat) (G : Fields) :
    G.regs → G.hif → G.rte → G.out → (State.sendPause s i p t).mask G = s.mask G := by
  intros; simp only [State.sendPause, State.bump_mask, State.evt_mask, State.setPause_mask, mask_regs, mask_hif,
    mask_rte, mask_out, ite_mask, ite_self, foldl_mask, implies_true, *]

theorem State.pauseCheck_mask (s : State) (i : Nat) (p : Nat) (G : Fields) :
    G.regs → G.hif → G.rte → G.out → (State.pauseCheck s i p).mask G = s.mask G := by
  intros; simp only [State.pauseCheck, State.sendPause_mask, mask_regs, mask_hif, mask_rte, mask_out, ite_mask,
    ite_self, foldl_mask, implies_true, *]

theorem State.restSched_mask (s : State) (e : Nat) (win : Nat) (G : Fields) :
    G.regs → G.subs → G.out → (State.restSched s e win).mask G = s.mask G := by
  intros; simp only [State.restSched, State.setSub_mask, State.commit_mask, mask_regs, mask_subs, mask_out, ite_mask,
    ite_self, foldl_mask, implies_true, *]

theorem State.restPend_mask (s : State) (e : Nat) (G : Fields) :
    G.regs → G.subs → G.out → (State.restPend s e).mask G = s.mask G := by
  intros; unfold State.restPend; (repeat' split) <;> simp only [State.restSched_mask, mask_regs, mask_subs, mask_out,
    ite_mask, ite_self, foldl_mask, implies_true, *]

theorem State.countCause_mask (s : State) (code : Nat) (G : Fields) :
    G.regs → (State.countCause s code).mask G = s.mask G := by
  intros; simp only [State.countCause, State.bump_mask, mask_regs, ite_mask, ite_self, foldl_mask, implies_true, *]

theorem State.txDone_mask (s : State) (e : Nat) (G : Fields) :
    G.regs → G.tim → G.hif → G.log → G.subs → G.rte → G.out → (State.txDone s e).mask G = s.mask G := by
  intros; unfold State.txDone; dsimp only; (repeat' split) <;> simp only [State.endDamaged_mask, State.advTo_mask,
    State.countTx_mask, State.restPend_mask, State.setEgr_mask, State.holdSettle_mask, State.release_mask,
    State.countCause_mask, State.bump64_mask, mask_regs, mask_tim, mask_hif, mask_log, mask_subs, mask_rte, mask_out,
    ite_mask, ite_self, foldl_mask, implies_true, *]

theorem execPacketTxDone_mask (ref : TxRef) (s : State) (G : Fields) :
    G.regs → G.tim → G.hif → G.log → G.subs → G.rte → G.out → ∀ t, execPacketTxDone ref s = .next t → t.mask G =
      s.mask G := by
  intros; rename_i h; injection h with h; subst h; (repeat' split) <;> simp only [State.release_mask,
    State.pauseCheck_mask, State.txDone_mask, mask_regs, mask_tim, mask_hif, mask_log, mask_subs, mask_rte, mask_out,
    ite_mask, ite_self, foldl_mask, implies_true, *]

theorem State.makeReady_mask (s : State) (e : Nat) (p : Pkt) (G : Fields) :
    G.regs → G.hif → G.subs → G.rte → G.out → (State.makeReady s e p).mask G = s.mask G := by
  intros; simp only [State.makeReady, State.setEgr_mask, State.wakeQueued_mask, mask_regs, mask_hif, mask_subs,
    mask_rte, mask_out, ite_mask, ite_self, foldl_mask, implies_true, *]

theorem State.creditSettle_mask (s : State) (e : Nat) (G : Fields) :
    G.rte → (State.creditSettle s e).mask G = s.mask G := by
  intros; simp only [State.creditSettle, State.setEgr_mask, mask_rte, ite_mask, ite_self, foldl_mask, implies_true, *]

theorem execCreditSend_mask (port : Nat) (sub : Nat) (time : Nat) (s : State) (G : Fields) :
    G.regs → G.tim → G.hif → G.log → G.subs → G.rte → G.out → ∀ t, execCreditSend port sub time s = .next t → t.mask G
      = s.mask G := by
  intros; rename_i h; injection h with h; subst h; simp only [State.creditSettle_mask, State.endDamaged_mask,
    State.advTo_mask, State.makeReady_mask, State.setEgr_mask, mask_regs, mask_tim, mask_hif, mask_log, mask_subs,
    mask_rte, mask_out, ite_mask, ite_self, foldl_mask, implies_true, *]

theorem State.creditIn_mask (s : State) (e : Nat) (v : Nat) (new : Nat) (G : Fields) :
    G.log → G.rte → (State.creditIn s e v new).mask G = s.mask G := by
  intros; simp only [State.creditIn, State.setEgr_mask, mask_log, mask_rte, ite_mask, ite_self, foldl_mask,
    implies_true, *]

theorem execCreditRx_mask (port : Nat) (sub : Nat) (rx : RxPkt) (s : State) (G : Fields) :
    G.regs → G.hif → G.log → G.lrep → G.rte → G.out → ∀ t, execCreditRx port sub rx s = .next t → t.mask G = s.mask G
      := by
  intros; rename_i h; injection h with h; subst h
  apply State.linkRx_mask <;> (try assumption) <;> intros
  simp only [State.linkRx_mask, State.bump_mask, State.creditIn_mask, mask_regs, mask_hif, mask_log, mask_lrep,
    mask_rte, mask_out, ite_mask, ite_self, foldl_mask, implies_true, *]

theorem execCreditStall_mask (e : Nat) (vc : Nat) (s : State) (G : Fields) :
    G.regs → G.tim → G.hif → G.log → G.out → ∀ t, execCreditStall e vc s = .next t → t.mask G = s.mask G := by
  intros; rename_i h; injection h with h; subst h; simp only [State.bump_mask, State.evt_mask, State.offer_mask,
    State.advTo_mask, mask_tim, mask_regs, mask_hif, mask_log, mask_out, ite_mask, ite_self, foldl_mask, implies_true, *]

theorem State.nextSeq_mask (s : State) (src : Nat) (dst : Nat) (sched : Bool) (G : Fields) :
    G.rte → (State.nextSeq s src dst sched).2.mask G = s.mask G := by
  intros; simp only [State.nextSeq, mask_rte, ite_mask, ite_self, foldl_mask, implies_true, *]

theorem State.originateSched_mask (s : State) (die : Nat) (a : Nat) (p : Pkt) (lat : Nat) (stomped : Bool) (G : Fields) :
    G.regs → G.hif → G.subs → G.rte → G.out → (State.originateSched s die a p lat stomped).mask G = s.mask G := by
  intros; unfold State.originateSched; dsimp only; (repeat' split) <;> simp only [State.drop_mask,
    State.wakeAction_mask, mask_regs, mask_hif, mask_subs, mask_rte, mask_out, ite_mask, ite_self, foldl_mask,
    implies_true, *]

theorem State.originateAt_mask (s : State) (die : Nat) (a : Nat) (p : Pkt) (stomped : Bool) (wait : Nat) (G : Fields) :
    G.regs → G.tim → G.hif → G.log → G.rte → G.out → (State.originateAt s die a p stomped wait).2.mask G = s.mask G :=
      by
  intros; unfold State.originateAt; dsimp only <;> (repeat' split) <;> (try simp only [Prod.ext_iff] at *) <;>
    (try casesm* _ ∧ _) <;> (try subst_vars) <;> (try simp only [State.alloc_mask, State.drop_mask, mask_regs, mask_tim,
      mask_hif, mask_log, mask_rte, mask_out, ite_mask, ite_self, foldl_mask, implies_true, *])

theorem State.originate_mask (s : State) (die : Nat) (a : Nat) (p : Pkt) (stomped : Bool) (G : Fields) :
    G.regs → G.tim → G.hif → G.log → G.rte → G.out → (State.originate s die a p stomped).2.mask G = s.mask G := by
  intros; simp only [State.originate, State.originateAt_mask, *]

theorem State.peak_mask (s : State) (G : Fields) :
    G.regs → (State.peak s).mask G = s.mask G := by
  intros; simp only [State.peak, State.setFld_mask, mask_regs, ite_mask, ite_self, foldl_mask, implies_true, *]

theorem State.takeToken_mask (s : State) (p : Nat) (unit : Nat) (engine : Bool) (c : Nat) (G : Fields) :
    G.regs → G.tokens → (State.takeToken s p unit engine c).mask G = s.mask G := by
  intros; simp only [State.takeToken, State.peak_mask, mask_regs, mask_tokens, ite_mask, ite_self, foldl_mask,
    implies_true, *]

theorem State.dropToken_mask (s : State) (unit : Nat) (engine : Bool) (t : Nat) (G : Fields) :
    G.regs → G.tokens → (State.dropToken s unit engine t).mask G = s.mask G := by
  intros; unfold State.dropToken; dsimp only; (repeat' split) <;> simp only [State.bump64_mask, mask_regs,
    mask_tokens, ite_mask, ite_self, foldl_mask, implies_true, *]

theorem State.tokenRefused_mask (s : State) (p : Nat) (unit : Nat) (svc : Bool) (G : Fields) :
    G.regs → G.hif → G.out → (State.tokenRefused s p unit svc).mask G = s.mask G := by
  intros; simp only [State.tokenRefused, State.setReg_mask, State.bump_mask, State.evt_mask, mask_regs, mask_hif,
    mask_out, ite_mask, ite_self, foldl_mask, implies_true, *]

theorem State.strEvt_mask (s : State) (bit : Nat) (G : Fields) :
    G.regs → G.hif → G.out → (State.strEvt s bit).mask G = s.mask G := by
  intros; simp only [State.strEvt, State.evt_mask, mask_regs, mask_hif, mask_out, ite_mask, ite_self, foldl_mask,
    implies_true, *]

theorem State.correct_mask (s : State) (k : Nat) (n : Nat) (G : Fields) :
    G.regs → G.hif → G.mem → G.poison → G.out → (State.correct s k n).mask G = s.mask G := by
  intros; simp only [State.correct, State.due_mask, State.bump_mask, State.evt_mask, mask_regs, mask_hif, mask_mem,
    mask_poison, mask_out, mask_soft, ite_mask, ite_self, foldl_mask, implies_true, *]

theorem State.copyMem_mask (s : State) (src : Nat) (dst : Nat) (n : Nat) (G : Fields) :
    G.regs → G.hif → G.mem → G.poison → G.out → (State.copyMem s src dst n).mask G = s.mask G := by
  intros; simp only [State.copyMem, State.wr_mask, State.correct_mask, mask_regs, mask_hif, mask_mem, mask_poison,
    mask_out, ite_mask, ite_self, foldl_mask, implies_true, *]

theorem State.strFlags_mask (s : State) (fl : Nat) (G : Fields) :
    G.regs → (State.strFlags s fl).mask G = s.mask G := by
  intros; simp only [State.strFlags, State.orFlags_mask, mask_regs, ite_mask, ite_self, foldl_mask, implies_true, *]

theorem State.postFree_mask (s : State) (ring : Nat) (c : Cpl) (G : Fields) :
    G.regs → G.hif → G.out → (State.postFree s ring c).mask G = s.mask G := by
  intros; simp only [State.postFree, State.postData_mask, mask_regs, mask_hif, mask_out, ite_mask, ite_self,
    foldl_mask, implies_true, *]

theorem State.stepEnd_mask (s : State) (i : Nat) (step : Nat) (status : Nat) (detail : Nat) (flags : Nat) (c : Nat) (G
  : Fields) :
    G.regs → G.hif → G.streams → G.out → (State.stepEnd s i step status detail flags c).mask G = s.mask G := by
  intros; simp only [State.stepEnd, State.strFlags_mask, State.bump_mask, State.setStream_mask, State.postFree_mask,
    mask_regs, mask_hif, mask_streams, mask_out, ite_mask, ite_self, foldl_mask, implies_true, *]

theorem State.stepFail_mask (s : State) (i : Nat) (step : Nat) (status : Nat) (detail : Nat) (G : Fields) :
    G.regs → G.hif → G.streams → G.out → (State.stepFail s i step status detail).mask G = s.mask G := by
  intros; simp only [State.stepFail, State.stepEnd_mask, mask_regs, mask_hif, mask_streams, mask_out, ite_mask,
    ite_self, foldl_mask, implies_true, *]

theorem State.resetReq_mask (s : State) (i : Nat) (step : Nat) (cause : Nat) (chunks : List Nat) (G : Fields) :
    G.lrep → (State.resetReq s i step cause chunks).mask G = s.mask G := by
  intros; simp only [State.resetReq, State.setLr_mask, mask_lrep, ite_mask, ite_self, foldl_mask, implies_true, *]

theorem State.askReset_mask (s : State) (i : Nat) (step : Nat) (cause : Nat) (chunks : List Nat) (st : Nat) (G : Fields) :
    G.lrep → G.streams → (State.askReset s i step cause chunks st).mask G = s.mask G := by
  intros; simp only [State.askReset, State.setStream_mask, State.resetReq_mask, mask_lrep, mask_streams, ite_mask,
    ite_self, foldl_mask, implies_true, *]

theorem State.updateFail_mask (s : State) (i : Nat) (G : Fields) :
    G.regs → G.hif → G.lrep → G.streams → G.tokens → G.out → (State.updateFail s i).mask G = s.mask G := by
  intros; simp only [State.updateFail, State.stepEnd_mask, State.setStream_mask, State.dropToken_mask,
    State.askReset_mask, mask_regs, mask_hif, mask_lrep, mask_streams, mask_tokens, mask_out, ite_mask, ite_self,
    foldl_mask, implies_true, *]

theorem State.setPager_mask (s : State) (die : Nat) (q : List PageMove) (G : Fields) :
    G.pager0 → G.pager1 → (State.setPager s die q).mask G = s.mask G := by
  intros; simp only [State.setPager, mask_pager0, mask_pager1, ite_mask, ite_self, foldl_mask, implies_true, *]

theorem State.pageIns_mask (s : State) (q : List PageMove) (G : Fields) :
    G.streams → (State.pageIns s q).mask G = s.mask G := by
  intros; simp only [State.pageIns, State.setStream_mask, mask_streams, ite_mask, ite_self, foldl_mask, implies_true,
    *]

theorem State.pageMove_mask (s : State) (i : Nat) (out : Bool) (reset : Bool) (m : Nat) (G : Fields) :
    G.streams → G.pager0 → G.pager1 → (State.pageMove s i out reset m).2.mask G = s.mask G := by
  intros; unfold State.pageMove; dsimp only; (repeat' split) <;> simp only [State.pageIns_mask, State.setPager_mask,
    mask_streams, mask_pager0, mask_pager1, ite_mask, ite_self, foldl_mask, implies_true, *]

theorem State.stepOk_mask (s : State) (i : Nat) (flags : Nat) (G : Fields) :
    G.regs → G.streams → (State.stepOk s i flags).mask G = s.mask G := by
  intros; simp only [State.stepOk, State.strFlags_mask, State.bump_mask, State.setStream_mask, mask_regs, mask_streams,
    ite_mask, ite_self, foldl_mask, implies_true, *]

theorem State.updateEnd_mask (s : State) (i : Nat) (G : Fields) :
    G.regs → G.streams → (State.updateEnd s i).mask G = s.mask G := by
  intros; simp only [State.updateEnd, State.stepOk_mask, State.setStream_mask, mask_regs, mask_streams, ite_mask,
    ite_self, foldl_mask, implies_true, *]

theorem State.strDenied_mask (s : State) (x : Stream) (off : Nat) (G : Fields) :
    G.regs → G.hif → G.log → G.out → (State.strDenied s x off).mask G = s.mask G := by
  intros; simp only [State.strDenied, State.memDenied_mask, mask_regs, mask_hif, mask_log, mask_out, ite_mask,
    ite_self, foldl_mask, implies_true, *]

theorem State.wrWin_mask (s : State) (x : Stream) (o : Nat) (bs : List Byte) (G : Fields) :
    G.regs → G.hif → G.log → G.mem → G.poison → G.out → (State.wrWin s x o bs).mask G = s.mask G := by
  intros; simp only [State.wrWin, State.wr_mask, State.strDenied_mask, mask_regs, mask_hif, mask_log, mask_mem,
    mask_poison, mask_out, ite_mask, ite_self, foldl_mask, implies_true, *]

theorem State.pageDone_mask (s : State) (p : PageMove) (G : Fields) :
    G.regs → G.hif → G.log → G.streams → G.mem → G.poison → G.out → (State.pageDone s p).mask G = s.mask G := by
  intros; unfold State.pageDone; dsimp only; (repeat' split) <;> simp only [State.copyMem_mask, State.strDenied_mask, State.stepOk_mask, State.updateEnd_mask,
    State.setStream_mask, State.wrWin_mask, mask_regs, mask_hif, mask_log, mask_streams, mask_mem, mask_poison,
    mask_out, ite_mask, ite_self, foldl_mask, implies_true, *]

theorem State.pagerTo_mask (s : State) (die : Nat) (m : Nat) (G : Fields) :
    G.regs → G.hif → G.log → G.streams → G.pager0 → G.pager1 → G.mem → G.poison → G.out → (State.pagerTo s die
      m).mask G = s.mask G := by
  intros; simp only [State.pagerTo, State.setPager_mask, State.pageDone_mask, mask_regs, mask_hif, mask_log,
    mask_streams, mask_pager0, mask_pager1, mask_mem, mask_poison, mask_out, ite_mask, ite_self, foldl_mask,
    implies_true, *]

theorem State.pagerHead_mask (s : State) (die : Nat) (out : Bool) (G : Fields) :
    G.regs → G.tim → G.hif → G.log → G.streams → G.pager0 → G.pager1 → G.mem → G.poison → G.out → (State.pagerHead s
      die out).mask G = s.mask G := by
  intros; unfold State.pagerHead; (repeat' split) <;> simp only [State.advTo_mask, State.setPager_mask,
    State.pageDone_mask, mask_regs, mask_tim, mask_hif, mask_log, mask_streams, mask_pager0, mask_pager1, mask_mem,
    mask_poison, mask_out, ite_mask, ite_self, foldl_mask, implies_true, *]

theorem State.pageFail_mask (s : State) (i : Nat) (G : Fields) :
    G.regs → G.hif → G.lrep → G.streams → G.tokens → G.out → (State.pageFail s i).mask G = s.mask G := by
  intros; simp only [State.pageFail, State.updateFail_mask, State.evt_mask, State.bump_mask, mask_regs, mask_hif,
    mask_lrep, mask_streams, mask_tokens, mask_out, ite_mask, ite_self, foldl_mask, implies_true, *]

theorem State.writeBack_mask (s : State) (i : Nat) (m : Nat) (G : Fields) :
    G.regs → G.hif → G.lrep → G.streams → G.pager0 → G.pager1 → G.tokens → G.out → (State.writeBack s i m).mask G =
      s.mask G := by
  intros; unfold State.writeBack; (try extract_lets +lift) <;> (repeat' split) <;> (try simp only [Prod.ext_iff] at
    *) <;> (try casesm* _ ∧ _) <;> (try subst_vars) <;> (try simp only [State.pageMove_mask, State.pageFail_mask,
      mask_regs, mask_hif, mask_lrep, mask_streams, mask_pager0, mask_pager1, mask_tokens, mask_out, ite_mask,
      ite_self, foldl_mask, implies_true, *])

theorem State.cellStage_mask (s : State) (i : Nat) (m : Nat) (G : Fields) :
    G.regs → G.hif → G.lrep → G.streams → G.pager0 → G.pager1 → G.tokens → G.out → (State.cellStage s i m).mask G =
      s.mask G := by
  intros; simp only [State.cellStage, State.setStream_mask, State.writeBack_mask, mask_regs, mask_hif, mask_lrep,
    mask_streams, mask_pager0, mask_pager1, mask_tokens, mask_out, ite_mask, ite_self, foldl_mask, implies_true, *]

theorem State.soften_mask (s : State) (k : Nat) (G : Fields) :
    G.mem → G.poison → (State.soften s k).mask G = s.mask G := by
  intros; simp only [State.soften, State.due_mask, mask_mem, mask_poison, mask_soft, ite_mask, ite_self, foldl_mask,
    implies_true, *]

theorem State.sendWrite_mask (s : State) (at_ : Nat) (rank : Nat) (key : Nat) (bytes : List Byte) (bad : List Nat) (G
  : Fields) :
    G.mem → (State.sendWrite s at_ rank key bytes bad).mask G = s.mask G := by
  intros; simp only [State.sendWrite, mask_mem, mask_writes, ite_mask, ite_self, foldl_mask, implies_true, *]

theorem State.codecWrite_mask (s : State) (c : Nat) (key : Nat) (bs : List Byte) (G : Fields) :
    G.mem → (State.codecWrite s c key bs).mask G = s.mask G := by
  intros; simp only [State.codecWrite, State.sendWrite_mask, mask_mem, ite_mask, ite_self, foldl_mask, implies_true,
    *]

theorem State.hwReg_mask (s : State) (o : Nat) (v : Word) (G : Fields) :
    G.regs → (State.hwReg s o v).mask G = s.mask G := by
  intros; simp only [State.hwReg, State.setReg_mask, mask_regs, ite_mask, ite_self, foldl_mask, implies_true, *]

theorem State.xhatWrite_mask (s : State) (x : Stream) (c : Nat) (o : Nat) (bs : List Byte) (G : Fields) :
    G.regs → G.hif → G.log → G.mem → G.out → (State.xhatWrite s x c o bs).mask G = s.mask G := by
  intros; simp only [State.xhatWrite, State.strDenied_mask, State.codecWrite_mask, mask_regs, mask_hif, mask_log,
    mask_mem, mask_out, ite_mask, ite_self, foldl_mask, implies_true, *]

theorem State.follow_mask (s : State) (i : Nat) (G : Fields) :
    G.tim → (State.follow s i).mask G = s.mask G := by
  intros; simp only [State.follow, State.settleSlew_mask, mask_tim, ite_mask, ite_self, foldl_mask, implies_true, *]

theorem State.noteSw_mask (s : State) (o : Nat) (old : Word) (G : Fields) :
    G.regs → (State.noteSw s o old).mask G = s.mask G := by
  intros; simp only [State.noteSw, mask_regs, mask_recent, ite_mask, ite_self, foldl_mask, implies_true, *]

theorem State.capUntrigger_mask (s : State) (G : Fields) :
    G.regs → G.cap → G.mem → G.poison → (State.capUntrigger s).mask G = s.mask G := by
  intros; simp only [State.capUntrigger, State.capRaw_mask, State.capRewind_mask, State.setFld_mask, mask_regs,
    mask_cap, mask_mem, mask_poison, ite_mask, ite_self, foldl_mask, implies_true, *]

end Sys2Proof.Machine
end

