-- ==== Sys2Proof/Laws/FrameCells.lean ====
section
/-! SUPPORT. What the cells, the mesh and the gateways may change: with the named fields masked, the state after each operation is the state before. -/

set_option linter.unusedSimpArgs false
set_option linter.unusedTactic false
set_option linter.unreachableTactic false
set_option linter.unnecessarySeqFocus false

namespace Sys2Proof.Machine

theorem State.setCell_mask (s : State) (c : Nat) (x : Cell) (G : Fields) :
    G.cells → (State.setCell s c x).mask G = s.mask G := by
  intros; simp only [State.setCell, mask_cells, ite_mask, ite_self, foldl_mask, implies_true, *]

theorem State.toCyc_mask (s : State) (c : Nat) (G : Fields) :
    G.tim → (State.toCyc s c).mask G = s.mask G := by
  intros; simp only [State.toCyc, State.advTo_mask, mask_tim, ite_mask, ite_self, foldl_mask, implies_true, *]

theorem State.setRun_mask (s : State) (r : Run) (G : Fields) :
    G.cel → (State.setRun s r).mask G = s.mask G := by
  intros; simp only [State.setRun, mask_cel, ite_mask, ite_self, foldl_mask, implies_true, *]

theorem State.celEvt_mask (s : State) (bit : Nat) (G : Fields) :
    G.regs → G.hif → G.out → (State.celEvt s bit).mask G = s.mask G := by
  intros; simp only [State.celEvt, State.evt_mask, mask_regs, mask_hif, mask_out, ite_mask, ite_self, foldl_mask,
    implies_true, *]

theorem State.arm_mask (s : State) (k : Nat) (c : Nat) (G : Fields) :
    G.cel → (State.arm s k c).mask G = s.mask G := by
  intros; simp only [State.arm, mask_cel, ite_mask, ite_self, foldl_mask, implies_true, *]

theorem State.cellNotRun_mask (s : State) (l : Launch) (status : Nat) (sub : Nat) (G : Fields) :
    G.regs → G.hif → G.out → (State.cellNotRun s l status sub).mask G = s.mask G := by
  intros; simp only [State.cellNotRun, State.postFree_mask, State.hazard_mask, mask_regs, mask_hif, mask_out, ite_mask,
    ite_self, foldl_mask, implies_true, *]

theorem State.vecDone_mask (s : State) (r : Run) (ok : Bool) (c : Nat) (G : Fields) :
    G.regs → G.hif → G.lrep → G.streams → G.pager0 → G.pager1 → G.tokens → G.out → (State.vecDone s r ok c).mask G =
      s.mask G := by
  intros; unfold State.vecDone; dsimp only; (repeat' split) <;> simp only [State.setStream_mask,
    State.updateFail_mask, State.cellStage_mask, mask_regs, mask_hif, mask_lrep, mask_streams, mask_pager0,
    mask_pager1, mask_tokens, mask_out, ite_mask, ite_self, foldl_mask, implies_true, *]

theorem State.finish_mask (s : State) (r : Run) (ok : Bool) (G : Fields) :
    G.regs → G.hif → G.lrep → G.streams → G.pager0 → G.pager1 → G.cel → G.tokens → G.out → (State.finish s r ok).mask
      G = s.mask G := by
  intros; simp only [State.finish, State.vecDone_mask, State.blockEvent_mask, State.orFlags_mask, State.hazard_mask,
    State.postData_mask, mask_regs, mask_hif, mask_lrep, mask_streams, mask_pager0, mask_pager1, mask_cel,
    mask_tokens, mask_out, ite_mask, ite_self, foldl_mask, implies_true, *]

theorem State.fillLines_mask (s : State) (cell : Nat) (sline : Nat) (bline : Nat) (n : Nat) (G : Fields) :
    G.regs → G.hif → G.mem → G.poison → G.out → (State.fillLines s cell sline bline n).mask G = s.mask G := by
  intros; simp only [State.fillLines, State.copyMem_mask, mask_regs, mask_hif, mask_mem, mask_poison, mask_out,
    ite_mask, ite_self, foldl_mask, implies_true, *]

theorem State.startCell_mask (s : State) (r : Run) (fire : Nat) (cell : Nat) (G : Fields) :
    G.regs → G.hif → G.cells → G.mem → G.poison → G.out → (State.startCell s r fire cell).mask G = s.mask G := by
  intros; simp only [State.startCell, State.setCell_mask, State.fillLines_mask, mask_regs, mask_hif, mask_cells,
    mask_mem, mask_poison, mask_out, ite_mask, ite_self, foldl_mask, implies_true, *]

theorem State.startLaunch_mask (s : State) (l : Launch) (word7 : Nat) (fire : Nat) (sched : Bool) (stream : Option Nat)
  (stage : Option (Nat × Nat)) (G : Fields) :
    G.regs → G.hif → G.cells → G.cel → G.mem → G.poison → G.out → (State.startLaunch s l word7 fire sched stream
      stage).mask G = s.mask G := by
  intros; simp only [State.startLaunch, State.startCell_mask, State.bump_mask, mask_regs, mask_hif, mask_cells,
    mask_cel, mask_mem, mask_poison, mask_out, ite_mask, ite_self, foldl_mask, implies_true, *]

theorem State.refuseLaunch_mask (s : State) (l : Launch) (sub : Nat) (G : Fields) :
    G.regs → G.hif → G.out → (State.refuseLaunch s l sub).mask G = s.mask G := by
  intros; simp only [State.refuseLaunch, State.celEvt_mask, State.cellNotRun_mask, State.bump_mask, mask_regs,
    mask_hif, mask_out, ite_mask, ite_self, foldl_mask, implies_true, *]

theorem State.fireLaunch_mask (s : State) (l : Launch) (word7 : Nat) (fire : Nat) (stream : Option Nat) (G : Fields) :
    G.regs → G.hif → G.cells → G.cel → G.mem → G.poison → G.out → (State.fireLaunch s l word7 fire stream).mask G =
      s.mask G := by
  intros; unfold State.fireLaunch; dsimp only; (repeat' split) <;> simp only [State.arm_mask, State.cellNotRun_mask,
    State.startLaunch_mask, State.refuseLaunch_mask, mask_regs, mask_hif, mask_cells, mask_cel, mask_mem,
    mask_poison, mask_out, ite_mask, ite_self, foldl_mask, implies_true, *]

theorem State.cellRecord_mask (s : State) (cell : Nat) (c : Nat) (r0 : Nat) (r1 : Nat) (G : Fields) :
    G.regs → G.cel → (State.cellRecord s cell c r0 r1).mask G = s.mask G := by
  intros; simp only [State.cellRecord, State.recordFault_mask, mask_regs, mask_cel, ite_mask, ite_self, foldl_mask,
    implies_true, *]

theorem State.cellFault_mask (s : State) (cell : Nat) (cause : Nat) (c : Nat) (G : Fields) :
    G.regs → G.tim → G.hif → G.log → G.cells → G.cel → G.out → (State.cellFault s cell cause c).mask G = s.mask G :=
      by
  intros; unfold State.cellFault; dsimp only; (repeat' split) <;> simp only [State.setCell_mask, State.toCyc_mask,
    State.setRun_mask, State.celEvt_mask, State.cellRecord_mask, State.bump_mask, State.offer_mask, mask_regs,
    mask_tim, mask_hif, mask_log, mask_cells, mask_cel, mask_out, ite_mask, ite_self, foldl_mask, implies_true, *]

theorem State.issue_mask (s : State) (cell : Nat) (want : Ins → Bool) (rs : Ins → List Nat) (body : Ins → Run → Nat →
  State → State) (G : Fields) :
    G.regs → G.tim → G.hif → G.log → G.cells → G.cel → G.mem → G.poison → G.out → (∀ (y0 : Ins) (y1 : Run) (y2 : Nat)
      (y3 : State), (body y0 y1 y2 y3).mask G = y3.mask G) → (State.issue s cell want rs body).mask G = s.mask G := by
  intros; unfold State.issue; dsimp only; (repeat' split) <;> simp only [State.setCell_mask, State.toCyc_mask,
    State.cellFault_mask, State.correct_mask, mask_regs, mask_tim, mask_hif, mask_log, mask_cells, mask_cel,
    mask_mem, mask_poison, mask_out, ite_mask, ite_self, foldl_mask, implies_true, *]

theorem State.step1_mask (s : State) (cell : Nat) (c : Nat) (G : Fields) :
    G.cells → (State.step1 s cell c).mask G = s.mask G := by
  intros; simp only [State.step1, State.setCell_mask, mask_cells, ite_mask, ite_self, foldl_mask, implies_true, *]

theorem State.runFlags_mask (s : State) (r : Run) (fl : Nat) (G : Fields) :
    G.cel → (State.runFlags s r fl).mask G = s.mask G := by
  intros; unfold State.runFlags; (repeat' split) <;> simp only [State.setRun_mask, mask_cel, ite_mask, ite_self,
    foldl_mask, implies_true, *]

theorem State.wrSx_mask (s : State) (cell : Nat) (c : Nat) (i : Nat) (v : Nat) (l : Nat) (G : Fields) :
    G.regs → G.tim → G.hif → G.log → G.cells → G.cel → G.out → (State.wrSx s cell c i v l).mask G = s.mask G := by
  intros; simp only [State.wrSx, State.setCell_mask, State.cellFault_mask, State.step1_mask, mask_regs, mask_tim,
    mask_hif, mask_log, mask_cells, mask_cel, mask_out, ite_mask, ite_self, foldl_mask, implies_true, *]

theorem State.wrVx_mask (s : State) (cell : Nat) (c : Nat) (i : Ins) (d : Nat) (l : Nat) (f : Nat → Nat) (G : Fields)
  :
    G.cells → (State.wrVx s cell c i d l f).mask G = s.mask G := by
  intros; simp only [State.wrVx, State.setCell_mask, State.step1_mask, mask_cells, ite_mask, ite_self, foldl_mask,
    implies_true, *]

theorem State.scalarOp_mask (s : State) (cell : Nat) (op : Nat) (l : Nat) (f : Nat → Nat → Nat) (G : Fields) :
    G.regs → G.tim → G.hif → G.log → G.cells → G.cel → G.mem → G.poison → G.out → (State.scalarOp s cell op l f).mask
      G = s.mask G := by
  intros; simp only [State.scalarOp, State.issue_mask, State.wrSx_mask, mask_regs, mask_tim, mask_hif, mask_log,
    mask_cells, mask_cel, mask_mem, mask_poison, mask_out, ite_mask, ite_self, foldl_mask, implies_true, *]

theorem State.shiftOp_mask (s : State) (x : Nat) (n : Nat) (left : Bool) (G : Fields) :
    G.free → (State.shiftOp s x n left).2.mask G = s.mask G := by
  intros; unfold State.shiftOp; dsimp only; (repeat' split) <;> simp only [State.freeWord_mask, mask_free, ite_mask,
    ite_self, foldl_mask, implies_true, *]

theorem State.scalarShift_mask (s : State) (cell : Nat) (op : Nat) (left : Bool) (G : Fields) :
    G.regs → G.tim → G.hif → G.log → G.cells → G.cel → G.mem → G.poison → G.out → G.free → (State.scalarShift s cell
      op left).mask G = s.mask G := by
  intros; simp only [State.scalarShift, State.shiftOp_mask, State.issue_mask, State.wrSx_mask, mask_regs, mask_tim,
    mask_hif, mask_log, mask_cells, mask_cel, mask_mem, mask_poison, mask_out, mask_free, ite_mask, ite_self,
    foldl_mask, implies_true, *]

theorem execNop_mask (cell : Nat) (s : State) (G : Fields) :
    G.regs → G.tim → G.hif → G.log → G.cells → G.cel → G.mem → G.poison → G.out → ∀ t, execNop cell s = .next t →
      t.mask G = s.mask G := by
  intros; rename_i h; injection h with h; subst h; simp only [State.issue_mask, State.step1_mask, mask_regs,
    mask_tim, mask_hif, mask_log, mask_cells, mask_cel, mask_mem, mask_poison, mask_out, ite_mask, ite_self,
    foldl_mask, implies_true, *]

theorem execSadd_mask (cell : Nat) (s : State) (G : Fields) :
    G.regs → G.tim → G.hif → G.log → G.cells → G.cel → G.mem → G.poison → G.out → ∀ t, execSadd cell s = .next t →
      t.mask G = s.mask G := by
  intros; rename_i h; injection h with h; subst h; simp only [State.scalarOp_mask, mask_regs, mask_tim, mask_hif,
    mask_log, mask_cells, mask_cel, mask_mem, mask_poison, mask_out, ite_mask, ite_self, foldl_mask, implies_true, *]

theorem execSsub_mask (cell : Nat) (s : State) (G : Fields) :
    G.regs → G.tim → G.hif → G.log → G.cells → G.cel → G.mem → G.poison → G.out → ∀ t, execSsub cell s = .next t →
      t.mask G = s.mask G := by
  intros; rename_i h; injection h with h; subst h; simp only [State.scalarOp_mask, mask_regs, mask_tim, mask_hif,
    mask_log, mask_cells, mask_cel, mask_mem, mask_poison, mask_out, ite_mask, ite_self, foldl_mask, implies_true, *]

theorem execSmul_mask (cell : Nat) (s : State) (G : Fields) :
    G.regs → G.tim → G.hif → G.log → G.cells → G.cel → G.mem → G.poison → G.out → ∀ t, execSmul cell s = .next t →
      t.mask G = s.mask G := by
  intros; rename_i h; injection h with h; subst h; simp only [State.scalarOp_mask, mask_regs, mask_tim, mask_hif,
    mask_log, mask_cells, mask_cel, mask_mem, mask_poison, mask_out, ite_mask, ite_self, foldl_mask, implies_true, *]

theorem execSand_mask (cell : Nat) (s : State) (G : Fields) :
    G.regs → G.tim → G.hif → G.log → G.cells → G.cel → G.mem → G.poison → G.out → ∀ t, execSand cell s = .next t →
      t.mask G = s.mask G := by
  intros; rename_i h; injection h with h; subst h; simp only [State.scalarOp_mask, mask_regs, mask_tim, mask_hif,
    mask_log, mask_cells, mask_cel, mask_mem, mask_poison, mask_out, ite_mask, ite_self, foldl_mask, implies_true, *]

theorem execSor_mask (cell : Nat) (s : State) (G : Fields) :
    G.regs → G.tim → G.hif → G.log → G.cells → G.cel → G.mem → G.poison → G.out → ∀ t, execSor cell s = .next t →
      t.mask G = s.mask G := by
  intros; rename_i h; injection h with h; subst h; simp only [State.scalarOp_mask, mask_regs, mask_tim, mask_hif,
    mask_log, mask_cells, mask_cel, mask_mem, mask_poison, mask_out, ite_mask, ite_self, foldl_mask, implies_true, *]

theorem execSxor_mask (cell : Nat) (s : State) (G : Fields) :
    G.regs → G.tim → G.hif → G.log → G.cells → G.cel → G.mem → G.poison → G.out → ∀ t, execSxor cell s = .next t →
      t.mask G = s.mask G := by
  intros; rename_i h; injection h with h; subst h; simp only [State.scalarOp_mask, mask_regs, mask_tim, mask_hif,
    mask_log, mask_cells, mask_cel, mask_mem, mask_poison, mask_out, ite_mask, ite_self, foldl_mask, implies_true, *]

theorem execSshl_mask (cell : Nat) (s : State) (G : Fields) :
    G.regs → G.tim → G.hif → G.log → G.cells → G.cel → G.mem → G.poison → G.out → G.free → ∀ t, execSshl cell s =
      .next t → t.mask G = s.mask G := by
  intros; rename_i h; injection h with h; subst h; simp only [State.scalarShift_mask, mask_regs, mask_tim, mask_hif,
    mask_log, mask_cells, mask_cel, mask_mem, mask_poison, mask_out, mask_free, ite_mask, ite_self, foldl_mask,
    implies_true, *]

theorem execSshr_mask (cell : Nat) (s : State) (G : Fields) :
    G.regs → G.tim → G.hif → G.log → G.cells → G.cel → G.mem → G.poison → G.out → G.free → ∀ t, execSshr cell s =
      .next t → t.mask G = s.mask G := by
  intros; rename_i h; injection h with h; subst h; simp only [State.scalarShift_mask, mask_regs, mask_tim, mask_hif,
    mask_log, mask_cells, mask_cel, mask_mem, mask_poison, mask_out, mask_free, ite_mask, ite_self, foldl_mask,
    implies_true, *]

theorem execSli_mask (cell : Nat) (s : State) (G : Fields) :
    G.regs → G.tim → G.hif → G.log → G.cells → G.cel → G.mem → G.poison → G.out → ∀ t, execSli cell s = .next t →
      t.mask G = s.mask G := by
  intros; rename_i h; injection h with h; subst h; simp only [State.issue_mask, State.wrSx_mask, mask_regs, mask_tim,
    mask_hif, mask_log, mask_cells, mask_cel, mask_mem, mask_poison, mask_out, ite_mask, ite_self, foldl_mask,
    implies_true, *]

theorem execSaddi_mask (cell : Nat) (s : State) (G : Fields) :
    G.regs → G.tim → G.hif → G.log → G.cells → G.cel → G.mem → G.poison → G.out → ∀ t, execSaddi cell s = .next t →
      t.mask G = s.mask G := by
  intros; rename_i h; injection h with h; subst h; simp only [State.issue_mask, State.wrSx_mask, mask_regs, mask_tim,
    mask_hif, mask_log, mask_cells, mask_cel, mask_mem, mask_poison, mask_out, ite_mask, ite_self, foldl_mask,
    implies_true, *]

theorem execSld_mask (cell : Nat) (s : State) (G : Fields) :
    G.regs → G.tim → G.hif → G.log → G.cells → G.cel → G.mem → G.poison → G.out → ∀ t, execSld cell s = .next t →
      t.mask G = s.mask G := by
  intros; rename_i h; injection h with h; subst h; apply State.issue_mask <;> (try assumption) <;> intros <;> dsimp
    only <;> (repeat' split) <;> simp only [State.cellFault_mask, State.issue_mask, State.wrSx_mask,
      State.correct_mask, mask_regs, mask_tim, mask_hif, mask_log, mask_cells, mask_cel, mask_mem, mask_poison,
      mask_out, ite_mask, ite_self, foldl_mask, implies_true, *]

theorem execSst_mask (cell : Nat) (s : State) (G : Fields) :
    G.regs → G.tim → G.hif → G.log → G.cells → G.cel → G.mem → G.poison → G.out → ∀ t, execSst cell s = .next t →
      t.mask G = s.mask G := by
  intros; rename_i h; injection h with h; subst h; apply State.issue_mask <;> (try assumption) <;> intros <;> dsimp
    only <;> (repeat' split) <;> simp only [State.cellFault_mask, State.issue_mask, State.step1_mask, State.wr_mask,
      mask_regs, mask_tim, mask_hif, mask_log, mask_cells, mask_cel, mask_mem, mask_poison, mask_out, ite_mask,
      ite_self, foldl_mask, implies_true, *]

theorem State.laneOp_mask (s : State) (cell : Nat) (op : Nat) (l : Nat) (srcs : Ins → List Nat) (f : Ins → Cell → Nat
  → Nat × Nat) (G : Fields) :
    G.regs → G.tim → G.hif → G.log → G.cells → G.cel → G.mem → G.poison → G.out → (State.laneOp s cell op l srcs
      f).mask G = s.mask G := by
  intros; simp only [State.laneOp, State.cellFault_mask, State.issue_mask, State.runFlags_mask, State.wrVx_mask,
    mask_regs, mask_tim, mask_hif, mask_log, mask_cells, mask_cel, mask_mem, mask_poison, mask_out, ite_mask,
    ite_self, foldl_mask, implies_true, *]

theorem State.laneOp2_mask (s : State) (cell : Nat) (op : Nat) (l : Nat) (f : Nat → Nat → Nat × Nat) (G : Fields) :
    G.regs → G.tim → G.hif → G.log → G.cells → G.cel → G.mem → G.poison → G.out → (State.laneOp2 s cell op l f).mask
      G = s.mask G := by
  intros; simp only [State.laneOp2, State.laneOp_mask, mask_regs, mask_tim, mask_hif, mask_log, mask_cells, mask_cel,
    mask_mem, mask_poison, mask_out, ite_mask, ite_self, foldl_mask, implies_true, *]

theorem execVadd_mask (cell : Nat) (s : State) (G : Fields) :
    G.regs → G.tim → G.hif → G.log → G.cells → G.cel → G.mem → G.poison → G.out → ∀ t, execVadd cell s = .next t →
      t.mask G = s.mask G := by
  intros; rename_i h; injection h with h; subst h; simp only [State.laneOp2_mask, mask_regs, mask_tim, mask_hif,
    mask_log, mask_cells, mask_cel, mask_mem, mask_poison, mask_out, ite_mask, ite_self, foldl_mask, implies_true, *]

theorem execVsub_mask (cell : Nat) (s : State) (G : Fields) :
    G.regs → G.tim → G.hif → G.log → G.cells → G.cel → G.mem → G.poison → G.out → ∀ t, execVsub cell s = .next t →
      t.mask G = s.mask G := by
  intros; rename_i h; injection h with h; subst h; simp only [State.laneOp2_mask, mask_regs, mask_tim, mask_hif,
    mask_log, mask_cells, mask_cel, mask_mem, mask_poison, mask_out, ite_mask, ite_self, foldl_mask, implies_true, *]

theorem execVmul_mask (cell : Nat) (s : State) (G : Fields) :
    G.regs → G.tim → G.hif → G.log → G.cells → G.cel → G.mem → G.poison → G.out → ∀ t, execVmul cell s = .next t →
      t.mask G = s.mask G := by
  intros; rename_i h; injection h with h; subst h; simp only [State.laneOp2_mask, mask_regs, mask_tim, mask_hif,
    mask_log, mask_cells, mask_cel, mask_mem, mask_poison, mask_out, ite_mask, ite_self, foldl_mask, implies_true, *]

theorem execVfma_mask (cell : Nat) (s : State) (G : Fields) :
    G.regs → G.tim → G.hif → G.log → G.cells → G.cel → G.mem → G.poison → G.out → ∀ t, execVfma cell s = .next t →
      t.mask G = s.mask G := by
  intros; rename_i h; injection h with h; subst h; simp only [State.laneOp_mask, mask_regs, mask_tim, mask_hif,
    mask_log, mask_cells, mask_cel, mask_mem, mask_poison, mask_out, ite_mask, ite_self, foldl_mask, implies_true, *]

theorem execVmax_mask (cell : Nat) (s : State) (G : Fields) :
    G.regs → G.tim → G.hif → G.log → G.cells → G.cel → G.mem → G.poison → G.out → ∀ t, execVmax cell s = .next t →
      t.mask G = s.mask G := by
  intros; rename_i h; injection h with h; subst h; simp only [State.laneOp2_mask, mask_regs, mask_tim, mask_hif,
    mask_log, mask_cells, mask_cel, mask_mem, mask_poison, mask_out, ite_mask, ite_self, foldl_mask, implies_true, *]

theorem execVmin_mask (cell : Nat) (s : State) (G : Fields) :
    G.regs → G.tim → G.hif → G.log → G.cells → G.cel → G.mem → G.poison → G.out → ∀ t, execVmin cell s = .next t →
      t.mask G = s.mask G := by
  intros; rename_i h; injection h with h; subst h; simp only [State.laneOp2_mask, mask_regs, mask_tim, mask_hif,
    mask_log, mask_cells, mask_cel, mask_mem, mask_poison, mask_out, ite_mask, ite_self, foldl_mask, implies_true, *]

theorem execVrcp_mask (cell : Nat) (s : State) (G : Fields) :
    G.regs → G.tim → G.hif → G.log → G.cells → G.cel → G.mem → G.poison → G.out → ∀ t, execVrcp cell s = .next t →
      t.mask G = s.mask G := by
  intros; rename_i h; injection h with h; subst h; simp only [State.laneOp_mask, mask_regs, mask_tim, mask_hif,
    mask_log, mask_cells, mask_cel, mask_mem, mask_poison, mask_out, ite_mask, ite_self, foldl_mask, implies_true, *]

theorem execVdiv_mask (cell : Nat) (s : State) (G : Fields) :
    G.regs → G.tim → G.hif → G.log → G.cells → G.cel → G.mem → G.poison → G.out → ∀ t, execVdiv cell s = .next t →
      t.mask G = s.mask G := by
  intros; rename_i h; injection h with h; subst h; simp only [State.laneOp2_mask, mask_regs, mask_tim, mask_hif,
    mask_log, mask_cells, mask_cel, mask_mem, mask_poison, mask_out, ite_mask, ite_self, foldl_mask, implies_true, *]

theorem execVrsum_mask (cell : Nat) (s : State) (G : Fields) :
    G.regs → G.tim → G.hif → G.log → G.cells → G.cel → G.mem → G.poison → G.out → ∀ t, execVrsum cell s = .next t →
      t.mask G = s.mask G := by
  intros; rename_i h; injection h with h; subst h; simp only [State.cellFault_mask, State.issue_mask,
    State.runFlags_mask, State.wrVx_mask, mask_regs, mask_tim, mask_hif, mask_log, mask_cells, mask_cel, mask_mem,
    mask_poison, mask_out, ite_mask, ite_self, foldl_mask, implies_true, *]

theorem execVtsum_mask (cell : Nat) (s : State) (G : Fields) :
    G.regs → G.tim → G.hif → G.log → G.cells → G.cel → G.mem → G.poison → G.out → ∀ t, execVtsum cell s = .next t →
      t.mask G = s.mask G := by
  intros; rename_i h; injection h with h; subst h; simp only [State.setCell_mask, State.cellFault_mask,
    State.issue_mask, State.runFlags_mask, State.wrVx_mask, mask_regs, mask_tim, mask_hif, mask_log, mask_cells,
    mask_cel, mask_mem, mask_poison, mask_out, ite_mask, ite_self, foldl_mask, implies_true, *]

theorem execVpwl_mask (cell : Nat) (s : State) (G : Fields) :
    G.regs → G.tim → G.hif → G.log → G.cells → G.cel → G.mem → G.poison → G.out → ∀ t, execVpwl cell s = .next t →
      t.mask G = s.mask G := by
  intros; rename_i h; injection h with h; subst h; simp only [State.laneOp_mask, mask_regs, mask_tim, mask_hif,
    mask_log, mask_cells, mask_cel, mask_mem, mask_poison, mask_out, ite_mask, ite_self, foldl_mask, implies_true, *]

theorem execViadd_mask (cell : Nat) (s : State) (G : Fields) :
    G.regs → G.tim → G.hif → G.log → G.cells → G.cel → G.mem → G.poison → G.out → ∀ t, execViadd cell s = .next t →
      t.mask G = s.mask G := by
  intros; rename_i h; injection h with h; subst h; simp only [State.laneOp2_mask, mask_regs, mask_tim, mask_hif,
    mask_log, mask_cells, mask_cel, mask_mem, mask_poison, mask_out, ite_mask, ite_self, foldl_mask, implies_true, *]

theorem execVimul_mask (cell : Nat) (s : State) (G : Fields) :
    G.regs → G.tim → G.hif → G.log → G.cells → G.cel → G.mem → G.poison → G.out → ∀ t, execVimul cell s = .next t →
      t.mask G = s.mask G := by
  intros; rename_i h; injection h with h; subst h; simp only [State.laneOp2_mask, mask_regs, mask_tim, mask_hif,
    mask_log, mask_cells, mask_cel, mask_mem, mask_poison, mask_out, ite_mask, ite_self, foldl_mask, implies_true, *]

theorem execVand_mask (cell : Nat) (s : State) (G : Fields) :
    G.regs → G.tim → G.hif → G.log → G.cells → G.cel → G.mem → G.poison → G.out → ∀ t, execVand cell s = .next t →
      t.mask G = s.mask G := by
  intros; rename_i h; injection h with h; subst h; simp only [State.laneOp2_mask, mask_regs, mask_tim, mask_hif,
    mask_log, mask_cells, mask_cel, mask_mem, mask_poison, mask_out, ite_mask, ite_self, foldl_mask, implies_true, *]

theorem execVor_mask (cell : Nat) (s : State) (G : Fields) :
    G.regs → G.tim → G.hif → G.log → G.cells → G.cel → G.mem → G.poison → G.out → ∀ t, execVor cell s = .next t →
      t.mask G = s.mask G := by
  intros; rename_i h; injection h with h; subst h; simp only [State.laneOp2_mask, mask_regs, mask_tim, mask_hif,
    mask_log, mask_cells, mask_cel, mask_mem, mask_poison, mask_out, ite_mask, ite_self, foldl_mask, implies_true, *]

theorem execVxor_mask (cell : Nat) (s : State) (G : Fields) :
    G.regs → G.tim → G.hif → G.log → G.cells → G.cel → G.mem → G.poison → G.out → ∀ t, execVxor cell s = .next t →
      t.mask G = s.mask G := by
  intros; rename_i h; injection h with h; subst h; simp only [State.laneOp2_mask, mask_regs, mask_tim, mask_hif,
    mask_log, mask_cells, mask_cel, mask_mem, mask_poison, mask_out, ite_mask, ite_self, foldl_mask, implies_true, *]

theorem State.shiftLanes_mask (s : State) (x : Cell) (i : Ins) (left : Bool) (G : Fields) :
    G.free → (State.shiftLanes s x i left).2.mask G = s.mask G := by
  intros; unfold State.shiftLanes
  rw [foldl_snd_mask]; intros; simp only [State.shiftOp_mask, mask_free, ite_mask, ite_self, foldl_mask,
    implies_true, *]

theorem State.vecShift_mask (s : State) (cell : Nat) (op : Nat) (left : Bool) (G : Fields) :
    G.regs → G.tim → G.hif → G.log → G.cells → G.cel → G.mem → G.poison → G.out → G.free → (State.vecShift s cell op
      left).mask G = s.mask G := by
  intros; simp only [State.vecShift, State.shiftLanes_mask, State.cellFault_mask, State.issue_mask, State.wrVx_mask,
    mask_regs, mask_tim, mask_hif, mask_log, mask_cells, mask_cel, mask_mem, mask_poison, mask_out, mask_free,
    ite_mask, ite_self, foldl_mask, implies_true, *]

theorem execVshl_mask (cell : Nat) (s : State) (G : Fields) :
    G.regs → G.tim → G.hif → G.log → G.cells → G.cel → G.mem → G.poison → G.out → G.free → ∀ t, execVshl cell s =
      .next t → t.mask G = s.mask G := by
  intros; rename_i h; injection h with h; subst h; simp only [State.vecShift_mask, mask_regs, mask_tim, mask_hif,
    mask_log, mask_cells, mask_cel, mask_mem, mask_poison, mask_out, mask_free, ite_mask, ite_self, foldl_mask,
    implies_true, *]

theorem execVshr_mask (cell : Nat) (s : State) (G : Fields) :
    G.regs → G.tim → G.hif → G.log → G.cells → G.cel → G.mem → G.poison → G.out → G.free → ∀ t, execVshr cell s =
      .next t → t.mask G = s.mask G := by
  intros; rename_i h; injection h with h; subst h; simp only [State.vecShift_mask, mask_regs, mask_tim, mask_hif,
    mask_log, mask_cells, mask_cel, mask_mem, mask_poison, mask_out, mask_free, ite_mask, ite_self, foldl_mask,
    implies_true, *]

theorem execVcmp_mask (cell : Nat) (s : State) (G : Fields) :
    G.regs → G.tim → G.hif → G.log → G.cells → G.cel → G.mem → G.poison → G.out → ∀ t, execVcmp cell s = .next t →
      t.mask G = s.mask G := by
  intros; rename_i h; injection h with h; subst h; simp only [State.setCell_mask, State.cellFault_mask,
    State.issue_mask, State.step1_mask, State.runFlags_mask, mask_regs, mask_tim, mask_hif, mask_log, mask_cells,
    mask_cel, mask_mem, mask_poison, mask_out, ite_mask, ite_self, foldl_mask, implies_true, *]

theorem execVsel_mask (cell : Nat) (s : State) (G : Fields) :
    G.regs → G.tim → G.hif → G.log → G.cells → G.cel → G.mem → G.poison → G.out → ∀ t, execVsel cell s = .next t →
      t.mask G = s.mask G := by
  intros; rename_i h; injection h with h; subst h; simp only [State.cellFault_mask, State.issue_mask,
    State.wrVx_mask, mask_regs, mask_tim, mask_hif, mask_log, mask_cells, mask_cel, mask_mem, mask_poison, mask_out,
    ite_mask, ite_self, foldl_mask, implies_true, *]

theorem execVcvt_mask (cell : Nat) (s : State) (G : Fields) :
    G.regs → G.tim → G.hif → G.log → G.cells → G.cel → G.mem → G.poison → G.out → G.free → ∀ t, execVcvt cell s =
      .next t → t.mask G = s.mask G := by
  intros; rename_i h; injection h with h; subst h
  apply State.issue_mask <;> (try assumption) <;> intros
  split
  · simp only [State.cellFault_mask, State.issue_mask, State.runFlags_mask, State.wrVx_mask, State.freeWord_mask,
    mask_regs, mask_tim, mask_hif, mask_log, mask_cells, mask_cel, mask_mem, mask_poison, mask_out, mask_free,
    ite_mask, ite_self, foldl_mask, implies_true, *]
  · dsimp only
    simp only [State.cellFault_mask, State.issue_mask, State.runFlags_mask, State.wrVx_mask, State.freeWord_mask,
      mask_regs, mask_tim, mask_hif, mask_log, mask_cells, mask_cel, mask_mem, mask_poison, mask_out, mask_free,
      ite_mask, ite_self, foldl_mask, implies_true, *]
    rw [foldl_snd_mask]; intros; split <;> simp only [State.cellFault_mask, State.issue_mask, State.runFlags_mask,
      State.wrVx_mask, State.freeWord_mask, mask_regs, mask_tim, mask_hif, mask_log, mask_cells, mask_cel, mask_mem,
      mask_poison, mask_out, mask_free, ite_mask, ite_self, foldl_mask, implies_true, *]

theorem execVbscale_mask (cell : Nat) (s : State) (G : Fields) :
    G.regs → G.tim → G.hif → G.log → G.cells → G.cel → G.mem → G.poison → G.out → G.free → ∀ t, execVbscale cell s =
      .next t → t.mask G = s.mask G := by
  intros; rename_i h; injection h with h; subst h; apply State.issue_mask <;> (try assumption) <;> intros <;>
    (repeat' split) <;> simp only [State.cellFault_mask, State.issue_mask, State.runFlags_mask, State.wrSx_mask,
      State.freeWord_mask, mask_regs, mask_tim, mask_hif, mask_log, mask_cells, mask_cel, mask_mem, mask_poison,
      mask_out, mask_free, ite_mask, ite_self, foldl_mask, implies_true, *]

theorem execVhash_mask (cell : Nat) (s : State) (G : Fields) :
    G.regs → G.tim → G.hif → G.log → G.cells → G.cel → G.mem → G.poison → G.out → ∀ t, execVhash cell s = .next t →
      t.mask G = s.mask G := by
  intros; rename_i h; injection h with h; subst h; simp only [State.cellFault_mask, State.issue_mask,
    State.wrVx_mask, mask_regs, mask_tim, mask_hif, mask_log, mask_cells, mask_cel, mask_mem, mask_poison, mask_out,
    ite_mask, ite_self, foldl_mask, implies_true, *]

theorem execVld_mask (cell : Nat) (s : State) (G : Fields) :
    G.regs → G.tim → G.hif → G.log → G.cells → G.cel → G.mem → G.poison → G.out → ∀ t, execVld cell s = .next t →
      t.mask G = s.mask G := by
  intros; rename_i h; injection h with h; subst h; apply State.issue_mask <;> (try assumption) <;> intros <;> dsimp
    only <;> (repeat' split) <;> simp only [State.cellFault_mask, State.issue_mask, State.wrVx_mask,
      State.correct_mask, mask_regs, mask_tim, mask_hif, mask_log, mask_cells, mask_cel, mask_mem, mask_poison,
      mask_out, ite_mask, ite_self, foldl_mask, implies_true, *]

theorem execVst_mask (cell : Nat) (s : State) (G : Fields) :
    G.regs → G.tim → G.hif → G.log → G.cells → G.cel → G.mem → G.poison → G.out → ∀ t, execVst cell s = .next t →
      t.mask G = s.mask G := by
  intros; rename_i h; injection h with h; subst h; apply State.issue_mask <;> (try assumption) <;> intros <;> dsimp
    only <;> (repeat' split) <;> simp only [State.cellFault_mask, State.issue_mask, State.step1_mask,
      State.runFlags_mask, State.wr_mask, mask_regs, mask_tim, mask_hif, mask_log, mask_cells, mask_cel, mask_mem,
      mask_poison, mask_out, ite_mask, ite_self, foldl_mask, implies_true, *]

theorem State.correctLanes_mask (s : State) (x : Cell) (i : Ins) (cell : Nat) (G : Fields) :
    G.regs → G.hif → G.mem → G.poison → G.out → (State.correctLanes s x i cell).mask G = s.mask G := by
  intros; simp only [State.correctLanes, State.correct_mask, mask_regs, mask_hif, mask_mem, mask_poison, mask_out,
    ite_mask, ite_self, foldl_mask, implies_true, *]

theorem execVldx_mask (cell : Nat) (s : State) (G : Fields) :
    G.regs → G.tim → G.hif → G.log → G.cells → G.cel → G.mem → G.poison → G.out → ∀ t, execVldx cell s = .next t →
      t.mask G = s.mask G := by
  intros; rename_i h; injection h with h; subst h; apply State.issue_mask <;> (try assumption) <;> intros <;> dsimp
    only <;> (repeat' split) <;> simp only [State.correctLanes_mask, State.cellFault_mask, State.issue_mask,
      State.wrVx_mask, mask_regs, mask_tim, mask_hif, mask_log, mask_cells, mask_cel, mask_mem, mask_poison,
      mask_out, ite_mask, ite_self, foldl_mask, implies_true, *]

theorem execVstx_mask (cell : Nat) (s : State) (G : Fields) :
    G.regs → G.tim → G.hif → G.log → G.cells → G.cel → G.mem → G.poison → G.out → ∀ t, execVstx cell s = .next t →
      t.mask G = s.mask G := by
  intros; rename_i h; injection h with h; subst h; apply State.issue_mask <;> (try assumption) <;> intros <;> dsimp
    only <;> (repeat' split) <;> simp only [State.cellFault_mask, State.issue_mask, State.step1_mask, State.wr_mask,
      mask_regs, mask_tim, mask_hif, mask_log, mask_cells, mask_cel, mask_mem, mask_poison, mask_out, ite_mask,
      ite_self, foldl_mask, implies_true, *]

theorem execVaddx_mask (cell : Nat) (s : State) (G : Fields) :
    G.regs → G.tim → G.hif → G.log → G.cells → G.cel → G.mem → G.poison → G.out → ∀ t, execVaddx cell s = .next t →
      t.mask G = s.mask G := by
  intros; rename_i h; injection h with h; subst h; apply State.issue_mask <;> (try assumption) <;> intros <;> dsimp
    only <;> (repeat' split) <;> simp only [State.correctLanes_mask, State.cellFault_mask, State.issue_mask,
      State.step1_mask, State.runFlags_mask, State.wr_mask, mask_regs, mask_tim, mask_hif, mask_log, mask_cells,
      mask_cel, mask_mem, mask_poison, mask_out, ite_mask, ite_self, foldl_mask, implies_true, *]

theorem State.enterCell_mask (s : State) (f : Flit) (c : Nat) (G : Fields) :
    G.regs → G.tim → G.hif → G.log → G.cells → G.cel → G.out → (State.enterCell s f c).mask G = s.mask G := by
  intros; simp only [State.enterCell, State.setCell_mask, State.toCyc_mask, State.cellFault_mask, mask_regs,
    mask_tim, mask_hif, mask_log, mask_cells, mask_cel, mask_out, ite_mask, ite_self, foldl_mask, implies_true, *]

theorem State.meshCycle_mask (s : State) (c : Nat) (G : Fields) :
    G.regs → G.tim → G.hif → G.log → G.cells → G.cel → G.out → (State.meshCycle s c).2.mask G = s.mask G := by
  intros; unfold State.meshCycle; dsimp only; (repeat' split) <;> simp only [State.cellFault_mask,
    State.enterCell_mask, State.bump_mask, mask_regs, mask_tim, mask_hif, mask_log, mask_cells, mask_cel, mask_out,
    ite_mask, ite_self, foldl_mask, implies_true, *]

theorem State.meshRun_mask (s : State) (x1 : Nat) (x2 : Nat) (G : Fields) :
    G.regs → G.tim → G.hif → G.log → G.cells → G.cel → G.out → (State.meshRun s x1 x2).mask G = s.mask G := by
  intros
  induction x1 generalizing s x2 with
  | zero => rfl
  | succ n ih => unfold State.meshRun; dsimp only; split <;> simp only [ih, State.meshCycle_mask, mask_regs,
    mask_tim, mask_hif, mask_log, mask_cells, mask_cel, mask_out, ite_mask, ite_self, foldl_mask, implies_true, *]

theorem State.meshParity_mask (s : State) (G : Fields) :
    G.regs → G.tim → G.hif → G.log → G.cells → G.cel → G.out → (State.meshParity s).mask G = s.mask G := by
  intros; unfold State.meshParity; dsimp only; (repeat' split) <;> simp only [State.cellFault_mask, mask_regs,
    mask_tim, mask_hif, mask_log, mask_cells, mask_cel, mask_out, ite_mask, ite_self, foldl_mask, implies_true, *]

theorem execMeshFlitArrive_mask (parity : Bool) (s : State) (G : Fields) :
    G.regs → G.tim → G.hif → G.log → G.cells → G.cel → G.out → ∀ t, execMeshFlitArrive parity s = .next t → t.mask G
      = s.mask G := by
  intros; rename_i h; injection h with h; subst h; simp only [State.meshRun_mask, State.meshParity_mask, mask_regs,
    mask_tim, mask_hif, mask_log, mask_cells, mask_cel, mask_out, ite_mask, ite_self, foldl_mask, implies_true, *]

theorem execSend_mask (cell : Nat) (s : State) (G : Fields) :
    G.regs → G.tim → G.hif → G.log → G.cells → G.cel → G.mem → G.poison → G.out → ∀ t, execSend cell s = .next t →
      t.mask G = s.mask G := by
  intros; rename_i h; injection h with h; subst h; simp only [State.cellFault_mask, State.issue_mask,
    State.step1_mask, mask_regs, mask_tim, mask_hif, mask_log, mask_cells, mask_cel, mask_mem, mask_poison, mask_out,
    ite_mask, ite_self, foldl_mask, implies_true, *]

theorem State.recvStall_mask (s : State) (n : Nat) (G : Fields) :
    G.regs → G.hif → G.out → (State.recvStall s n).mask G = s.mask G := by
  intros; simp only [State.recvStall, State.celEvt_mask, State.bump_mask, mask_regs, mask_hif, mask_out, ite_mask,
    ite_self, foldl_mask, implies_true, *]

theorem execRecv_mask (cell : Nat) (s : State) (G : Fields) :
    G.regs → G.tim → G.hif → G.log → G.cells → G.cel → G.mem → G.poison → G.out → ∀ t, execRecv cell s = .next t →
      t.mask G = s.mask G := by
  intros; rename_i h; injection h with h; subst h
  split
  · rfl
  apply State.issue_mask <;> (try assumption) <;> intros
  dsimp only
  (repeat' split) <;> simp only [State.setCell_mask, State.toCyc_mask, State.cellFault_mask, State.issue_mask,
    State.wrVx_mask, State.recvStall_mask, mask_regs, mask_tim, mask_hif, mask_log, mask_cells, mask_cel, mask_mem,
    mask_poison, mask_out, ite_mask, ite_self, foldl_mask, implies_true, *]

theorem execRecvTimeout_mask (cell : Nat) (s : State) (G : Fields) :
    G.regs → G.tim → G.hif → G.log → G.cells → G.cel → G.mem → G.poison → G.out → ∀ t, execRecvTimeout cell s = .next
      t → t.mask G = s.mask G := by
  intros; rename_i h; injection h with h; subst h; simp only [State.cellFault_mask, State.issue_mask,
    State.recvStall_mask, mask_regs, mask_tim, mask_hif, mask_log, mask_cells, mask_cel, mask_mem, mask_poison,
    mask_out, ite_mask, ite_self, foldl_mask, implies_true, *]

theorem execLoop_mask (cell : Nat) (s : State) (G : Fields) :
    G.regs → G.tim → G.hif → G.log → G.cells → G.cel → G.mem → G.poison → G.out → ∀ t, execLoop cell s = .next t →
      t.mask G = s.mask G := by
  intros; rename_i h; injection h with h; subst h; simp only [State.setCell_mask, State.cellFault_mask,
    State.issue_mask, State.step1_mask, mask_regs, mask_tim, mask_hif, mask_log, mask_cells, mask_cel, mask_mem,
    mask_poison, mask_out, ite_mask, ite_self, foldl_mask, implies_true, *]

theorem execWaitc_mask (cell : Nat) (s : State) (G : Fields) :
    G.regs → G.tim → G.hif → G.log → G.cells → G.cel → G.mem → G.poison → G.out → ∀ t, execWaitc cell s = .next t →
      t.mask G = s.mask G := by
  intros; rename_i h; injection h with h; subst h; simp only [State.setCell_mask, State.celEvt_mask,
    State.issue_mask, State.bump_mask, mask_regs, mask_tim, mask_hif, mask_log, mask_cells, mask_cel, mask_mem,
    mask_poison, mask_out, ite_mask, ite_self, foldl_mask, implies_true, *]

theorem execIfill_mask (cell : Nat) (s : State) (G : Fields) :
    G.regs → G.tim → G.hif → G.log → G.cells → G.cel → G.mem → G.poison → G.out → ∀ t, execIfill cell s = .next t →
      t.mask G = s.mask G := by
  intros; rename_i h; injection h with h; subst h; simp only [State.setCell_mask, State.fillLines_mask,
    State.cellFault_mask, State.issue_mask, mask_regs, mask_tim, mask_hif, mask_log, mask_cells, mask_cel, mask_mem,
    mask_poison, mask_out, ite_mask, ite_self, foldl_mask, implies_true, *]

theorem execHalt_mask (cell : Nat) (ok : Bool) (s : State) (G : Fields) :
    G.regs → G.tim → G.hif → G.log → G.lrep → G.streams → G.pager0 → G.pager1 → G.cells → G.cel → G.tokens → G.mem →
      G.poison → G.out → ∀ t, execHalt cell ok s = .next t → t.mask G = s.mask G := by
  intros; rename_i h; injection h with h; subst h; simp only [State.setCell_mask, State.setRun_mask,
    State.finish_mask, State.issue_mask, mask_regs, mask_tim, mask_hif, mask_log, mask_lrep, mask_streams,
    mask_pager0, mask_pager1, mask_cells, mask_cel, mask_tokens, mask_mem, mask_poison, mask_out, ite_mask, ite_self,
    foldl_mask, implies_true, *]

theorem execIllegalOpcode_mask (cell : Nat) (s : State) (G : Fields) :
    G.regs → G.tim → G.hif → G.log → G.cells → G.cel → G.mem → G.poison → G.out → ∀ t, execIllegalOpcode cell s =
      .next t → t.mask G = s.mask G := by
  intros; rename_i h; injection h with h; subst h; simp only [State.cellFault_mask, State.issue_mask, mask_regs,
    mask_tim, mask_hif, mask_log, mask_cells, mask_cel, mask_mem, mask_poison, mask_out, ite_mask, ite_self,
    foldl_mask, implies_true, *]

theorem State.post_mask (s : State) (cl : Nat) (n : Nat) (c : Nat) (G : Fields) :
    G.cel → ∀ t, State.post s cl n c = some t → t.2.mask G = s.mask G := by
  intro h t e; unfold State.post at e
  dsimp only at e
  split at e
  · cases e
  · injection e with e; subst e; simp only [mask_cel, ite_mask, ite_self, foldl_mask, implies_true, *]

theorem State.atPost_mask (s : State) (st : Nat) (G : Fields) :
    G.tim → (State.atPost s st).mask G = s.mask G := by
  intros; simp only [State.atPost, State.toCyc_mask, mask_tim, ite_mask, ite_self, foldl_mask, implies_true, *]

theorem State.gpost_mask (s : State) (cell : Nat) (cmd : Nat) (body : Ins → Run → Nat → Nat → State → State) (G : Fields) :
    G.regs → G.tim → G.hif → G.log → G.cells → G.cel → G.mem → G.poison → G.out → (∀ (y0 : Ins) (y1 : Run) (y2 : Nat)
      (y3 : Nat) (y4 : State), (body y0 y1 y2 y3 y4).mask G = y4.mask G) → (State.gpost s cell cmd body).mask G =
      s.mask G := by
  intros; unfold State.gpost
  apply State.issue_mask <;> (try assumption) <;> intros
  dsimp only
  (repeat' split) <;> (try simp only [State.cellFault_mask, *]; done) <;> rename_i e _ _ <;>
    have := State.post_mask _ _ _ _ G (by assumption) _ e <;>
    simp only [this, State.step1_mask, State.correct_mask, *]

theorem State.emission_mask (s : State) (tmpl : Nat) (tagOr : Nat) (payload : List Byte) (G : Fields) :
    G.rte → (State.emission s tmpl tagOr payload).2.mask G = s.mask G := by
  intros; simp only [State.emission, State.nextSeq_mask, mask_rte, ite_mask, ite_self, foldl_mask, implies_true, *]

theorem execGpostEmitSched_mask (cell : Nat) (s : State) (G : Fields) :
    G.regs → G.tim → G.hif → G.log → G.subs → G.rte → G.cells → G.cel → G.mem → G.poison → G.out → ∀ t,
      execGpostEmitSched cell s = .next t → t.mask G = s.mask G := by
  intros; rename_i h; injection h with h; subst h; simp only [State.gpost_mask, State.emission_mask, State.drop_mask,
    State.originateSched_mask, mask_regs, mask_tim, mask_hif, mask_log, mask_subs, mask_rte, mask_cells, mask_cel,
    mask_mem, mask_poison, mask_out, ite_mask, ite_self, foldl_mask, implies_true, *]

theorem execGpostEmitUnsched_mask (cell : Nat) (s : State) (G : Fields) :
    G.regs → G.tim → G.hif → G.log → G.rte → G.cells → G.cel → G.mem → G.poison → G.out → ∀ t, execGpostEmitUnsched
      cell s = .next t → t.mask G = s.mask G := by
  intros; rename_i h; injection h with h; subst h; apply State.gpost_mask <;> (try assumption) <;> intros <;> dsimp
    only <;> (repeat' split) <;> simp only [State.gpost_mask, State.emission_mask, State.drop_mask,
      State.originateAt_mask, State.setRun_mask, mask_regs, mask_tim, mask_hif, mask_log, mask_rte, mask_cells,
      mask_cel, mask_mem, mask_poison, mask_out, ite_mask, ite_self, foldl_mask, implies_true, *]

theorem State.gwTake_mask (s : State) (cl : Nat) (kind : Nat) (want : Nat) (n : Nat) (G : Fields) :
    G.cel → (State.gwTake s cl kind want n).2.mask G = s.mask G := by
  intros; simp only [State.gwTake, mask_cel, ite_mask, ite_self, foldl_mask, implies_true, *]

theorem State.gwSlip_mask (s : State) (n : Nat) (G : Fields) :
    G.regs → G.hif → G.out → (State.gwSlip s n).mask G = s.mask G := by
  intros; simp only [State.gwSlip, State.bump_mask, State.evt_mask, mask_regs, mask_hif, mask_out, ite_mask,
    ite_self, foldl_mask, implies_true, *]

theorem State.setPf_mask (s : State) (die : Nat) (q : List PfJob) (G : Fields) :
    G.pf0 → G.pf1 → (State.setPf s die q).mask G = s.mask G := by
  intros; simp only [State.setPf, mask_pf0, mask_pf1, ite_mask, ite_self, foldl_mask, implies_true, *]

theorem State.pfSooner_mask (s : State) (j : PfJob) (die : Nat) (G : Fields) :
    G.mem → (State.pfSooner s j die).mask G = s.mask G := by
  intros; simp only [State.pfSooner, mask_mem, mask_writes, ite_mask, ite_self, foldl_mask, implies_true, *]

theorem State.hbmBad_mask (s : State) (addr : Nat) (n : Nat) (reader : Nat) (pav : Nat) (G : Fields) :
    G.regs → G.hif → G.log → G.out → (State.hbmBad s addr n reader pav).mask G = s.mask G := by
  intros; simp only [State.hbmBad, State.hbmUncorr_mask, mask_regs, mask_hif, mask_log, mask_out, ite_mask, ite_self,
    foldl_mask, implies_true, *]

theorem State.pfEnd_mask (s : State) (j : PfJob) (die : Nat) (G : Fields) :
    G.regs → G.hif → G.log → G.mem → G.poison → G.out → (State.pfEnd s j die).mask G = s.mask G := by
  intros; simp only [State.pfEnd, State.correct_mask, State.pfSooner_mask, State.bump_mask, State.bump64_mask,
    State.hbmBad_mask, mask_regs, mask_hif, mask_log, mask_mem, mask_poison, mask_out, ite_mask, ite_self, foldl_mask,
    implies_true, *]

theorem State.pfTo_mask (s : State) (die : Nat) (m : Nat) (G : Fields) :
    G.regs → G.hif → G.log → G.pf0 → G.pf1 → G.mem → G.poison → G.out → (State.pfTo s die m).mask G = s.mask G := by
  intros; simp only [State.pfTo, State.setPf_mask, State.pfEnd_mask, mask_regs, mask_hif, mask_log, mask_pf0,
    mask_pf1, mask_mem, mask_poison, mask_out, ite_mask, ite_self, foldl_mask, implies_true, *]

theorem execGpostFetch_mask (cell : Nat) (s : State) (G : Fields) :
    G.regs → G.tim → G.hif → G.log → G.cells → G.cel → G.pf0 → G.pf1 → G.mem → G.poison → G.out → ∀ t, execGpostFetch
      cell s = .next t → t.mask G = s.mask G := by
  intros; rename_i h; injection h with h; subst h; apply State.gpost_mask <;> (try assumption) <;> intros <;>
    (repeat' split) <;> simp only [State.gpost_mask, State.pfTo_mask, State.gwTake_mask, State.gwSlip_mask,
      State.correct_mask, State.sendWrite_mask, State.toCyc_mask, mask_regs, mask_tim, mask_hif, mask_log, mask_cells,
      mask_cel, mask_pf0, mask_pf1, mask_mem, mask_poison, mask_out, ite_mask, ite_self, foldl_mask, implies_true, *]

theorem execGpostPut_mask (cell : Nat) (s : State) (G : Fields) :
    G.regs → G.tim → G.hif → G.log → G.cells → G.cel → G.mem → G.poison → G.out → ∀ t, execGpostPut cell s = .next t
      → t.mask G = s.mask G := by
  intros; rename_i h; obtain rfl := Host.Outcome.next.inj h
  apply State.gpost_mask <;> (try assumption) <;> intros <;> (try dsimp only) <;> (repeat' split) <;> simp only
    [State.gpost_mask, State.sendWrite_mask, mask_regs, mask_tim, mask_hif, mask_log, mask_cells, mask_cel, mask_mem,
    mask_poison, mask_out, ite_mask, ite_self, foldl_mask, implies_true, *]

theorem State.handDeposit_mask (s : State) (cl : Nat) (entry : Nat) (off : Nat) (bs : List Byte) (sched : Bool) (c :
  Nat) (G : Fields) :
    G.cel → (State.handDeposit s cl entry off bs sched c).mask G = s.mask G := by
  intros; simp only [State.handDeposit, mask_cel, ite_mask, ite_self, foldl_mask, implies_true, *]

theorem State.deposit_mask (s : State) (d : Deposit) (cs : List Nat) (G : Fields) :
    G.regs → G.cel → G.mem → (State.deposit s d cs).mask G = s.mask G := by
  intros; unfold State.deposit; dsimp only; (repeat' split) <;> simp only [State.sendWrite_mask, State.bump_mask,
    mask_regs, mask_cel, mask_mem, ite_mask, ite_self, foldl_mask, implies_true, *]

theorem State.gwShift_mask (s : State) (cl : Nat) (mv : List (Nat × Nat)) (G : Fields) :
    G.cel → G.mem → (State.gwShift s cl mv).mask G = s.mask G := by
  intros; simp only [State.gwShift, State.mask, if_true, *]

theorem State.gwSched_mask (s : State) (cl : Nat) (want : Nat) (n : Nat) (G : Fields) :
    G.regs → G.hif → G.cel → G.mem → G.out → (State.gwSched s cl want n).2.mask G = s.mask G := by
  intros; simp only [State.gwSched, State.gwSlip_mask, State.gwShift_mask, mask_regs, mask_hif, mask_cel, mask_mem,
    mask_out, ite_mask, ite_self, foldl_mask, implies_true, *]

theorem execGatewayDeposit_mask (cl : Nat) (s : State) (G : Fields) :
    G.regs → G.tim → G.hif → G.cel → G.mem → G.out → ∀ t, execGatewayDeposit cl s = .next t → t.mask G = s.mask G :=
      by
  intros; rename_i h; injection h with h; subst h; (repeat' split) <;> simp only [State.toCyc_mask,
    State.deposit_mask, State.gwTake_mask, State.gwSched_mask, mask_regs, mask_tim, mask_hif, mask_cel, mask_mem,
    mask_out, ite_mask, ite_self, foldl_mask, implies_true, *]

theorem State.stageBad_mask (s : State) (k : Nat) (G : Fields) :
    G.groups → (State.stageBad s k).mask G = s.mask G := by
  intros; unfold State.stageBad; dsimp only; (repeat' split) <;> simp only [mask_groups, ite_mask, ite_self,
    foldl_mask, implies_true, *]

theorem State.fireTrigger_mask (s : State) (k : Nat) (l : Launch) (f : Nat) (G : Fields) :
    G.regs → G.tim → G.hif → G.cells → G.cel → G.groups → G.mem → G.poison → G.out → (State.fireTrigger s k l f).mask G
      = s.mask G := by
  intros; unfold State.fireTrigger; dsimp only; (repeat' split) <;> simp only [State.toCyc_mask, State.arm_mask,
    State.stageBad_mask, State.refuseLaunch_mask, State.startLaunch_mask, mask_regs, mask_tim, mask_hif, mask_cells,
    mask_cel, mask_groups, mask_mem, mask_poison, mask_out, ite_mask, ite_self, foldl_mask, implies_true, *]

theorem execTriggerLaunch_mask (k : Nat) (s : State) (G : Fields) :
    G.regs → G.tim → G.hif → G.cells → G.cel → G.groups → G.mem → G.poison → G.out → ∀ t, execTriggerLaunch k s = .next
      t → t.mask G = s.mask G := by
  intros; rename_i h; injection h with h; subst h; (repeat' split) <;> simp only [State.fireTrigger_mask, mask_regs,
    mask_tim, mask_hif, mask_cells, mask_cel, mask_groups, mask_mem, mask_poison, mask_out, ite_mask, ite_self,
    foldl_mask, implies_true, *]

theorem State.enterQueue_mask (s : State) (cl : Nat) (G : Fields) :
    G.cel → (State.enterQueue s cl).mask G = s.mask G := by
  intros; unfold State.enterQueue; dsimp only; (repeat' split) <;> simp only [mask_cel, ite_mask, ite_self, foldl_mask,
    implies_true, *]

theorem execQueuedTriggerStart_mask (cl : Nat) (s : State) (G : Fields) :
    G.regs → G.tim → G.hif → G.cells → G.cel → G.groups → G.mem → G.poison → G.out → ∀ t, execQueuedTriggerStart cl s =
      .next t → t.mask G = s.mask G := by
  intros; rename_i h; injection h with h; subst h; (repeat' split) <;> simp only [State.fireTrigger_mask,
    State.enterQueue_mask, mask_regs, mask_tim, mask_hif, mask_cells, mask_cel, mask_groups, mask_mem, mask_poison,
    mask_out, ite_mask, ite_self, foldl_mask, implies_true, *]

theorem State.haltLaunch_mask (s : State) (r : Run) (ok : Bool) (G : Fields) :
    G.regs → G.tim → G.hif → G.lrep → G.streams → G.pager0 → G.pager1 → G.cells → G.cel → G.tokens → G.out →
      (State.haltLaunch s r ok).mask G = s.mask G := by
  intros; unfold State.haltLaunch; dsimp only; (repeat' split) <;> simp only [State.setCell_mask, State.toCyc_mask,
    State.finish_mask, mask_regs, mask_tim, mask_hif, mask_lrep, mask_streams, mask_pager0, mask_pager1, mask_cells,
    mask_cel, mask_tokens, mask_out, ite_mask, ite_self, foldl_mask, implies_true, *]

end Sys2Proof.Machine
end

