-- ==== Sys2Proof/Laws/FrameUnits.lean ====
section
/-! SUPPORT. What collectives, matrix units, streams and memory may change: with the named fields masked, the state after each operation is the state before. -/

set_option linter.unusedSimpArgs false
set_option linter.unusedTactic false
set_option linter.unreachableTactic false
set_option linter.unnecessarySeqFocus false

namespace Sys2Proof.Machine

theorem State.setGrp_mask (s : State) (g : Nat) (x : Group) (G : Fields) :
    G.groups → (State.setGrp s g x).mask G = s.mask G := by
  intros; simp only [State.setGrp, mask_groups, ite_mask, ite_self, foldl_mask, implies_true, *]

theorem State.colEvt_mask (s : State) (bit : Nat) (G : Fields) :
    G.regs → G.hif → G.out → (State.colEvt s bit).mask G = s.mask G := by
  intros; simp only [State.colEvt, State.evt_mask, mask_regs, mask_hif, mask_out, ite_mask, ite_self, foldl_mask,
    implies_true, *]

theorem State.place_mask (s : State) (x : Group) (inst : Nat) (m : Nat) (off : Nat) (bs : List Byte) (sched : Bool)
  (c : Nat) (G : Fields) :
    G.cel → (State.place s x inst m off bs sched c).mask G = s.mask G := by
  intros; unfold State.place; dsimp only; (repeat' split) <;> simp only [State.handDeposit_mask, mask_cel, ite_mask,
    ite_self, foldl_mask, implies_true, *]

theorem State.armGroup_mask (s : State) (x : Group) (inst : Nat) (G : Fields) :
    G.cel → (State.armGroup s x inst).mask G = s.mask G := by
  intros; simp only [State.armGroup, State.arm_mask, mask_cel, ite_mask, ite_self, foldl_mask, implies_true, *]

theorem State.freeParts_mask (s : State) (ps : List Part) (G : Fields) :
    G.regs → G.hif → G.log → G.rte → G.out → (State.freeParts s ps).mask G = s.mask G := by
  intros; unfold State.freeParts; apply foldl_mask <;> intros <;> (repeat' split) <;> (try simp only [Prod.ext_iff]
    at *) <;> (try casesm* _ ∧ _) <;> (try subst_vars) <;> (try simp only [State.release_mask, mask_regs, mask_hif,
      mask_log, mask_rte, mask_out, ite_mask, ite_self, foldl_mask, implies_true, *])

theorem State.freeBytes_mask (s : State) (x1 : Nat) (G : Fields) :
    G.free → (State.freeBytes s x1).2.mask G = s.mask G := by
  intros
  induction x1 generalizing s with
  | zero => rfl
  | succ n ih => unfold State.freeBytes; (repeat' split) <;> simp only [ih, State.freeWord_mask, mask_free, ite_mask,
    ite_self, foldl_mask, implies_true, *]

theorem State.toFlits_mask (s : State) (bs : List Byte) (G : Fields) :
    G.free → (State.toFlits s bs).2.mask G = s.mask G := by
  intros; simp only [State.toFlits, State.freeBytes_mask, mask_free, ite_mask, ite_self, foldl_mask, implies_true, *]

theorem State.groupPkt_mask (s : State) (x : Group) (kind : Nat) (dst : Nat) (tag : Nat) (payload : List Byte) (G : Fields) :
    G.rte → (State.groupPkt s x kind dst tag payload).2.mask G = s.mask G := by
  intros; simp only [State.groupPkt, State.nextSeq_mask, mask_rte, ite_mask, ite_self, foldl_mask, implies_true, *]

theorem State.sendGroup_mask (s : State) (g : Nat) (x : Group) (kind : Nat) (dst : Nat) (tag : Nat) (payload : List
  Byte) (wait : Nat) (G : Fields) :
    G.regs → G.tim → G.hif → G.log → G.subs → G.rte → G.out → G.free → (State.sendGroup s g x kind dst tag payload
      wait).2.mask G = s.mask G := by
  intros; unfold State.sendGroup; dsimp only; (repeat' split) <;> simp only [State.toFlits_mask, State.groupPkt_mask,
    State.originateSched_mask, State.originate_mask, mask_regs, mask_tim, mask_hif, mask_log, mask_subs, mask_rte,
    mask_out, mask_free, ite_mask, ite_self, foldl_mask, implies_true, *]

theorem State.sendStream_mask (s : State) (g : Nat) (x : Group) (sw : Nat) (grp : Nat) (phase : Nat) (off : Nat)
  (wait : Nat) (bs : List Byte) (G : Fields) :
    G.regs → G.tim → G.hif → G.log → G.subs → G.rte → G.out → G.free → (State.sendStream s g x sw grp phase off wait
      bs).2.mask G = s.mask G := by
  intros; unfold State.sendStream
  rw [foldl_snd_mask]; intros; simp only [State.sendGroup_mask, mask_regs, mask_tim, mask_hif, mask_log, mask_subs,
    mask_rte, mask_out, mask_free, ite_mask, ite_self, foldl_mask, implies_true, *]

theorem State.sendResult_mask (s : State) (g : Nat) (x : Group) (ep : Nat) (off : Nat) (wait : Nat) (bs : List Byte)
  (G : Fields) :
    G.regs → G.tim → G.hif → G.log → G.subs → G.rte → G.out → G.free → (State.sendResult s g x ep off wait bs).2.mask G
      = s.mask G := by
  intros; unfold State.sendResult
  dsimp only
  rw [foldl_snd_mask]; intros; simp only [State.sendGroup_mask, mask_regs, mask_tim, mask_hif, mask_log, mask_subs,
    mask_rte, mask_out, mask_free, ite_mask, ite_self, foldl_mask, implies_true, *]

theorem State.sendRecord_mask (s : State) (g : Nat) (x : Group) (step : Nat) (m : Member) (rec : List Byte) (lat : Nat)
  (G : Fields) :
    G.regs → G.tim → G.hif → G.log → G.subs → G.rte → G.out → G.free → (State.sendRecord s g x step m rec lat).mask G =
      s.mask G := by
  intros; simp only [State.sendRecord, State.sendGroup_mask, mask_regs, mask_tim, mask_hif, mask_log, mask_subs,
    mask_rte, mask_out, mask_free, ite_mask, ite_self, foldl_mask, implies_true, *]

theorem State.failRecords_mask (s : State) (g : Nat) (x : Group) (f : Failure) (G : Fields) :
    G.regs → G.tim → G.hif → G.log → G.subs → G.rte → G.out → G.free → (State.failRecords s g x f).mask G = s.mask G
      := by
  intros; simp only [State.failRecords, State.sendRecord_mask, mask_regs, mask_tim, mask_hif, mask_log, mask_subs,
    mask_rte, mask_out, mask_free, ite_mask, ite_self, foldl_mask, implies_true, *]

theorem State.sendNotice_mask (s : State) (g : Nat) (x : Group) (sw : Nat) (grp : Nat) (f : Failure) (G : Fields) :
    G.regs → G.tim → G.hif → G.log → G.subs → G.rte → G.out → G.free → (State.sendNotice s g x sw grp f).mask G =
      s.mask G := by
  intros; simp only [State.sendNotice, State.sendGroup_mask, mask_regs, mask_tim, mask_hif, mask_log, mask_subs,
    mask_rte, mask_out, mask_free, ite_mask, ite_self, foldl_mask, implies_true, *]

theorem State.noticeUp_mask (s : State) (g : Nat) (x : Group) (f : Failure) (G : Fields) :
    G.regs → G.tim → G.hif → G.log → G.subs → G.rte → G.out → G.free → (State.noticeUp s g x f).mask G = s.mask G :=
      by
  intros; unfold State.noticeUp; (repeat' split) <;> simp only [State.sendNotice_mask, mask_regs, mask_tim, mask_hif,
    mask_log, mask_subs, mask_rte, mask_out, mask_free, ite_mask, ite_self, foldl_mask, implies_true, *]

theorem State.noticeDown_mask (s : State) (g : Nat) (x : Group) (f : Failure) (G : Fields) :
    G.regs → G.tim → G.hif → G.log → G.subs → G.rte → G.out → G.free → (State.noticeDown s g x f).mask G = s.mask G
      := by
  intros; simp only [State.noticeDown, State.sendNotice_mask, mask_regs, mask_tim, mask_hif, mask_log, mask_subs,
    mask_rte, mask_out, mask_free, ite_mask, ite_self, foldl_mask, implies_true, *]

theorem State.passDown_mask (s : State) (g : Nat) (got : List (Nat × Nat)) (bs : List Byte) (wait : Nat) (G : Fields)
  :
    G.regs → G.tim → G.hif → G.log → G.subs → G.rte → G.groups → G.out → G.free → (State.passDown s g got bs
      wait).mask G = s.mask G := by
  intros; unfold State.passDown
  split
  · rfl
  apply foldl_mask; intros
  split
  · rfl
  dsimp only
  rw [State.setGrp_mask _ _ _ _ (by assumption), foldl_snd_mask]
  intros; split <;> simp only [State.sendStream_mask, State.sendResult_mask, *]

theorem State.colPost_mask (s : State) (g : Nat) (x : Group) (status : Nat) (member : Nat) (rank : Nat) (sw : Nat)
  (ok : Bool) (G : Fields) :
    G.regs → G.hif → G.out → (State.colPost s g x status member rank sw ok).mask G = s.mask G := by
  intros; simp only [State.colPost, State.postData_mask, mask_regs, mask_hif, mask_out, ite_mask, ite_self,
    foldl_mask, implies_true, *]

theorem State.colComplete_mask (s : State) (g : Nat) (x : Group) (status : Nat) (member : Nat) (rank : Nat) (sw : Nat)
  (ok : Bool) (G : Fields) :
    G.regs → G.tim → G.hif → G.log → G.subs → G.rte → G.groups → G.out → G.free → (State.colComplete s g x status
      member rank sw ok).mask G = s.mask G := by
  intros; simp only [State.colComplete, State.colPost_mask, State.orFlags_mask, State.bump_mask, State.colEvt_mask,
    State.setGrp_mask, State.passDown_mask, mask_regs, mask_tim, mask_hif, mask_log, mask_subs, mask_rte, mask_groups,
    mask_out, mask_free, ite_mask, ite_self, foldl_mask, implies_true, *]

theorem State.colTrigger_mask (s : State) (g : Nat) (G : Fields) :
    G.regs → G.hif → G.log → G.rte → G.cel → G.groups → G.out → (State.colTrigger s g).mask G = s.mask G := by
  intros; unfold State.colTrigger; dsimp only; (repeat' split) <;> simp only [State.setGrp_mask, State.colEvt_mask,
    State.place_mask, State.freeParts_mask, State.bump_mask, mask_regs, mask_hif, mask_log, mask_rte, mask_cel,
    mask_groups, mask_out, ite_mask, ite_self, foldl_mask, implies_true, *]

theorem State.colTell_mask (s : State) (g : Nat) (x : Group) (f : Failure) (G : Fields) :
    G.regs → G.tim → G.hif → G.log → G.subs → G.rte → G.out → G.free → (State.colTell s g x f).mask G = s.mask G := by
  intros; simp only [State.colTell, State.failRecords_mask, State.noticeUp_mask, State.noticeDown_mask, mask_regs,
    mask_tim, mask_hif, mask_log, mask_subs, mask_rte, mask_out, mask_free, ite_mask, ite_self, foldl_mask,
    implies_true, *]

theorem State.colFail_mask (s : State) (g : Nat) (x : Group) (f : Failure) (G : Fields) :
    G.regs → G.tim → G.hif → G.log → G.subs → G.rte → G.cel → G.groups → G.out → G.free → (State.colFail s g x
      f).mask G = s.mask G := by
  intros; simp only [State.colFail, State.armGroup_mask, State.freeParts_mask, State.colComplete_mask,
    State.colTell_mask, mask_regs, mask_tim, mask_hif, mask_log, mask_subs, mask_rte, mask_cel, mask_groups,
    mask_out, mask_free, ite_mask, ite_self, foldl_mask, implies_true, *]

theorem State.colFailOwn_mask (s : State) (g : Nat) (x : Group) (status : Nat) (member : Nat) (rank : Nat) (late :
  Nat) (G : Fields) :
    G.regs → G.tim → G.hif → G.log → G.subs → G.rte → G.cel → G.groups → G.out → G.free → (State.colFailOwn s g x
      status member rank late).mask G = s.mask G := by
  intros; simp only [State.colFailOwn, State.colFail_mask, mask_regs, mask_tim, mask_hif, mask_log, mask_subs,
    mask_rte, mask_cel, mask_groups, mask_out, mask_free, ite_mask, ite_self, foldl_mask, implies_true, *]

theorem State.colFailFree_mask (s : State) (g : Nat) (x : Group) (status : Nat) (G : Fields) :
    G.regs → G.tim → G.hif → G.log → G.subs → G.rte → G.cel → G.groups → G.out → G.free → (State.colFailFree s g x
      status).mask G = s.mask G := by
  intros; simp only [State.colFailFree, State.colFailOwn_mask, State.freeWord_mask, mask_regs, mask_tim, mask_hif,
    mask_log, mask_subs, mask_rte, mask_cel, mask_groups, mask_out, mask_free, ite_mask, ite_self, foldl_mask,
    implies_true, *]

theorem State.unstarted_mask (s : State) (g : Nat) (x : Group) (G : Fields) :
    G.groups → (State.unstarted s g x).mask G = s.mask G := by
  intros; unfold State.unstarted; (repeat' split) <;> simp only [State.setGrp_mask, mask_groups, ite_mask, ite_self,
    foldl_mask, implies_true, *]

theorem State.colEarly_mask (s : State) (g : Nat) (G : Fields) :
    G.regs → G.tim → G.hif → G.log → G.subs → G.rte → G.cel → G.groups → G.out → G.free → (State.colEarly s g).mask G
      = s.mask G := by
  intros; unfold State.colEarly; dsimp only; (repeat' split) <;> simp only [State.colFail_mask,
    State.colFailFree_mask, State.unstarted_mask, mask_regs, mask_tim, mask_hif, mask_log, mask_subs, mask_rte,
    mask_cel, mask_groups, mask_out, mask_free, ite_mask, ite_self, foldl_mask, implies_true, *]

theorem State.colLate_mask (s : State) (g : Nat) (x : Group) (t : Nat) (deadline : Nat) (G : Fields) :
    G.regs → G.tim → G.hif → G.log → G.subs → G.rte → G.cel → G.groups → G.out → G.free → (State.colLate s g x t
      deadline).mask G = s.mask G := by
  intros; unfold State.colLate; dsimp only; (repeat' split) <;> simp only [State.colFailOwn_mask,
    State.colEarly_mask, mask_regs, mask_tim, mask_hif, mask_log, mask_subs, mask_rte, mask_cel, mask_groups,
    mask_out, mask_free, ite_mask, ite_self, foldl_mask, implies_true, *]

theorem State.colDrop_mask (s : State) (reg : Nat) (held : Option Held) (G : Fields) :
    G.regs → G.hif → G.log → G.rte → G.out → (State.colDrop s reg held).mask G = s.mask G := by
  intros; unfold State.colDrop; dsimp only; (repeat' split) <;> simp only [State.colEvt_mask, State.bump_mask,
    State.release_mask, mask_regs, mask_hif, mask_log, mask_rte, mask_out, ite_mask, ite_self, foldl_mask,
    implies_true, *]

theorem State.contrib_mask (s : State) (g : Nat) (x : Group) (m : Nat) (p : Pkt) (held : Option Held) (first : Nat)
  (at_ : Nat) (gw : Nat) (G : Fields) :
    G.regs → G.hif → G.log → G.rte → G.cel → G.groups → G.out → (State.contrib s g x m p held first at_ gw).mask G =
      s.mask G := by
  intros; unfold State.contrib; dsimp only; (repeat' split) <;> simp only [State.setGrp_mask, State.colEvt_mask,
    State.place_mask, State.bump_mask, State.release_mask, mask_regs, mask_hif, mask_log, mask_rte, mask_cel,
    mask_groups, mask_out, ite_mask, ite_self, foldl_mask, implies_true, *]

theorem State.contribDown_mask (s : State) (g : Nat) (x : Group) (p : Pkt) (held : Option Held) (at_ : Nat) (G : Fields) :
    G.regs → G.tim → G.hif → G.log → G.subs → G.rte → G.groups → G.out → G.free → (State.contribDown s g x p held
      at_).mask G = s.mask G := by
  intros; unfold State.contribDown; dsimp only; (repeat' split) <;> simp only [State.setGrp_mask, State.colEvt_mask,
    State.passDown_mask, State.bump_mask, State.release_mask, mask_regs, mask_tim, mask_hif, mask_log, mask_subs,
    mask_rte, mask_groups, mask_out, mask_free, ite_mask, ite_self, foldl_mask, implies_true, *]

theorem State.notice_mask (s : State) (g : Nat) (x : Group) (p : Pkt) (held : Option Held) (G : Fields) :
    G.regs → G.tim → G.hif → G.log → G.subs → G.rte → G.cel → G.groups → G.out → G.free → (State.notice s g x p
      held).mask G = s.mask G := by
  intros; unfold State.notice; dsimp only; (repeat' split) <;> simp only [State.setGrp_mask, State.colEvt_mask,
    State.colFail_mask, State.colEarly_mask, State.freeWord_mask, State.release_mask, mask_regs, mask_tim, mask_hif,
    mask_log, mask_subs, mask_rte, mask_cel, mask_groups, mask_out, mask_free, ite_mask, ite_self, foldl_mask,
    implies_true, *]

theorem State.groupRx_mask (s : State) (p : Pkt) (held : Option Held) (first : Nat) (at_ : Nat) (gw : Nat) (G : Fields)
  :
    G.regs → G.tim → G.hif → G.log → G.subs → G.rte → G.cel → G.groups → G.out → G.free → (State.groupRx s p held first
      at_ gw).mask G = s.mask G := by
  intros; unfold State.groupRx; dsimp only; (repeat' split) <;> simp only [State.colTrigger_mask, State.colDrop_mask,
    State.contrib_mask, State.contribDown_mask, State.notice_mask, mask_regs, mask_tim, mask_hif, mask_log,
    mask_subs, mask_rte, mask_cel, mask_groups, mask_out, mask_free, ite_mask, ite_self, foldl_mask, implies_true, *]

theorem execColDeadline_mask (g : Nat) (s : State) (G : Fields) :
    G.regs → G.tim → G.hif → G.log → G.subs → G.rte → G.cel → G.groups → G.out → G.free → ∀ t, execColDeadline g s =
      .next t → t.mask G = s.mask G := by
  intros; rename_i h; injection h with h; subst h; (repeat' split) <;> simp only [State.colTrigger_mask,
    State.colLate_mask, State.advTo_mask, mask_regs, mask_tim, mask_hif, mask_log, mask_subs, mask_rte, mask_cel,
    mask_groups, mask_out, mask_free, ite_mask, ite_self, foldl_mask, implies_true, *]

theorem execColDownDeadline_mask (g : Nat) (s : State) (G : Fields) :
    G.regs → G.tim → G.hif → G.log → G.subs → G.rte → G.cel → G.groups → G.out → G.free → ∀ t, execColDownDeadline g
      s = .next t → t.mask G = s.mask G := by
  intros; rename_i h; injection h with h; subst h; (repeat' split) <;> simp only [State.colFailFree_mask,
    State.colEarly_mask, State.advTo_mask, mask_regs, mask_tim, mask_hif, mask_log, mask_subs, mask_rte, mask_cel,
    mask_groups, mask_out, mask_free, ite_mask, ite_self, foldl_mask, implies_true, *]

theorem State.okRecords_mask (s : State) (g : Nat) (x : Group) (G : Fields) :
    G.regs → G.tim → G.hif → G.log → G.subs → G.rte → G.out → G.free → (State.okRecords s g x).mask G = s.mask G := by
  intros; simp only [State.okRecords, State.sendRecord_mask, mask_regs, mask_tim, mask_hif, mask_log, mask_subs,
    mask_rte, mask_out, mask_free, ite_mask, ite_self, foldl_mask, implies_true, *]

theorem State.rootDown_mask (s : State) (g : Nat) (x : Group) (bs : List Byte) (G : Fields) :
    G.regs → G.tim → G.hif → G.log → G.subs → G.rte → G.groups → G.out → G.free → (State.rootDown s g x bs).mask G =
      s.mask G := by
  intros; simp only [State.rootDown, State.setGrp_mask, State.passDown_mask, mask_regs, mask_tim, mask_hif, mask_log,
    mask_subs, mask_rte, mask_groups, mask_out, mask_free, ite_mask, ite_self, foldl_mask, implies_true, *]

theorem State.stageUp_mask (s : State) (g : Nat) (x : Group) (bs : List Byte) (G : Fields) :
    G.regs → G.tim → G.hif → G.log → G.subs → G.rte → G.groups → G.out → G.free → (State.stageUp s g x bs).mask G =
      s.mask G := by
  intros; unfold State.stageUp; (repeat' split) <;> simp only [State.setGrp_mask, State.sendStream_mask, mask_regs,
    mask_tim, mask_hif, mask_log, mask_subs, mask_rte, mask_groups, mask_out, mask_free, ite_mask, ite_self,
    foldl_mask, implies_true, *]

theorem execColStageDone_mask (g : Nat) (ok : Bool) (s : State) (G : Fields) :
    G.regs → G.tim → G.hif → G.log → G.subs → G.rte → G.cel → G.groups → G.out → G.free → ∀ t, execColStageDone g ok
      s = .next t → t.mask G = s.mask G := by
  intros; rename_i h; injection h with h; subst h; (repeat' split) <;> simp only [State.colTrigger_mask,
    State.advTo_mask, State.rootDown_mask, State.stageUp_mask, State.colEarly_mask, State.colFailFree_mask,
    State.okRecords_mask, State.colComplete_mask, mask_regs, mask_tim, mask_hif, mask_log, mask_subs, mask_rte,
    mask_cel, mask_groups, mask_out, mask_free, ite_mask, ite_self, foldl_mask, implies_true, *]

theorem execColLagClr_mask (path : Path) (v : Word) (s : State) (G : Fields) :
    G.groups → ∀ t, execColLagClr path v s = .next t → t.mask G = s.mask G := by
  intros; rename_i h; injection h with h; subst h; dsimp only; (repeat' split) <;> simp only [State.setGrp_mask,
    mask_groups, ite_mask, ite_self, foldl_mask, implies_true, *]

theorem State.sendFailed_mask (s : State) (g : Nat) (x : Group) (f : Failure) (kind : Nat) (G : Fields) :
    G.regs → G.tim → G.hif → G.log → G.subs → G.rte → G.groups → G.out → G.free → (State.sendFailed s g x f kind).mask
      G = s.mask G := by
  intros; unfold State.sendFailed; simp only [State.noticeUp_mask, State.noticeDown_mask, State.setGrp_mask,
    State.failRecords_mask, ite_mask, ite_self, *]

theorem State.sendOwed_mask (s : State) (g : Nat) (x : Group) (G : Fields) :
    G.regs → G.tim → G.hif → G.log → G.subs → G.rte → G.out → G.free → (State.sendOwed s g x).mask G = s.mask G := by
  intros; unfold State.sendOwed; apply foldl_mask; intros; simp only [State.failRecords_mask, ite_mask, ite_self, *]

theorem State.colStart_mask (s : State) (g : Nat) (slot : Nat) (G : Fields) :
    G.regs → G.tim → G.hif → G.log → G.subs → G.rte → G.cel → G.groups → G.out → G.free → (State.colStart s g
      slot).mask G = s.mask G := by
  intros; unfold State.colStart; (repeat' split) <;> simp only [State.setGrp_mask, State.colEarly_mask,
    State.sendOwed_mask, mask_regs, mask_tim, mask_hif, mask_log, mask_subs, mask_rte, mask_cel, mask_groups,
    mask_out, mask_free, ite_mask, ite_self, foldl_mask, implies_true, *]

theorem State.startStage_mask (s : State) (g : Nat) (x : Group) (iter : Nat) (fire : Nat) (G : Fields) :
    G.regs → G.hif → G.cells → G.cel → G.mem → G.poison → G.out → (State.startStage s g x iter fire).2.mask G = s.mask
      G := by
  intros; unfold State.startStage; rw [foldl_snd_mask]; intros; split <;> simp only [State.startLaunch_mask,
    State.refuseLaunch_mask, *]

theorem State.spend_mask (s : State) (g : Nat) (x : Group) (f : Failure) (kind : Nat) (G : Fields) :
    G.regs → G.tim → G.hif → G.log → G.subs → G.rte → G.groups → G.out → G.free → (State.spend s g x f kind).mask G =
      s.mask G := by
  intros; simp only [State.spend, State.setGrp_mask, State.failRecords_mask, mask_regs, mask_tim, mask_hif, mask_log,
    mask_subs, mask_rte, mask_groups, mask_out, mask_free, ite_mask, ite_self, foldl_mask, implies_true, *]

theorem State.colLaunch_mask (s : State) (g : Nat) (iter : Nat) (fire : Nat) (G : Fields) :
    G.regs → G.tim → G.hif → G.log → G.subs → G.rte → G.cells → G.cel → G.groups → G.mem → G.poison → G.out → G.free
      → (State.colLaunch s g iter fire).mask G = s.mask G := by
  intros; unfold State.colLaunch; dsimp only; (repeat' split) <;> simp only [State.spend_mask, State.colEvt_mask,
    State.bump_mask, State.startStage_mask, State.armGroup_mask, State.setGrp_mask, State.colEarly_mask,
    State.colFailFree_mask, State.colLate_mask, mask_regs, mask_tim, mask_hif, mask_log, mask_subs, mask_rte,
    mask_cells, mask_cel, mask_groups, mask_mem, mask_poison, mask_out, mask_free, ite_mask, ite_self, foldl_mask,
    implies_true, *]

theorem State.colUp_mask (s : State) (g : Nat) (G : Fields) :
    G.regs → G.tim → G.hif → G.log → G.subs → G.rte → G.groups → G.out → G.free → (State.colUp s g).mask G = s.mask G
      := by
  intros; unfold State.colUp; (repeat' split) <;> simp only [State.stageUp_mask, State.sendFailed_mask, mask_regs,
    mask_tim, mask_hif, mask_log, mask_subs, mask_rte, mask_groups, mask_out, mask_free, ite_mask, ite_self,
    foldl_mask, implies_true, *]

theorem State.colDown_mask (s : State) (g : Nat) (G : Fields) :
    G.regs → G.tim → G.hif → G.log → G.subs → G.rte → G.groups → G.out → G.free → (State.colDown s g).mask G = s.mask
      G := by
  intros; unfold State.colDown; (repeat' split) <;> simp only [State.setGrp_mask, State.passDown_mask,
    State.rootDown_mask, State.sendFailed_mask, mask_regs, mask_tim, mask_hif, mask_log, mask_subs, mask_rte,
    mask_groups, mask_out, mask_free, ite_mask, ite_self, foldl_mask, implies_true, *]

theorem State.colMissed_mask (s : State) (g : Nat) (kind : Nat) (status : Nat) (G : Fields) :
    G.regs → G.tim → G.hif → G.log → G.subs → G.rte → G.cel → G.groups → G.out → G.free → (State.colMissed s g kind
      status).mask G = s.mask G := by
  intros; unfold State.colMissed; (repeat' split) <;> simp only [State.spend_mask, State.colEarly_mask,
    State.colFailFree_mask, State.setGrp_mask, State.unstarted_mask, mask_regs, mask_tim, mask_hif, mask_log,
    mask_subs, mask_rte, mask_cel, mask_groups, mask_out, mask_free, ite_mask, ite_self, foldl_mask, implies_true, *]

theorem State.colStopAll_mask (s : State) (G : Fields) :
    G.regs → G.tim → G.hif → G.log → G.subs → G.rte → G.cel → G.groups → G.out → G.free → (State.colStopAll s).mask G
      = s.mask G := by
  intros; unfold State.colStopAll; dsimp only <;> (try apply foldl_mask) <;> intros <;> (repeat' split) <;> (try simp
    only [Prod.ext_iff] at *) <;> (try casesm* _ ∧ _) <;> (try subst_vars) <;> (try simp only [State.setGrp_mask,
    State.colFailFree_mask, State.sendOwed_mask, mask_regs, mask_tim, mask_hif, mask_log, mask_subs, mask_rte,
    mask_cel, mask_groups, mask_out, mask_free, ite_mask, ite_self, foldl_mask, implies_true, *])

theorem State.colCellFault_mask (s : State) (r : Run) (G : Fields) :
    G.regs → G.tim → G.hif → G.log → G.subs → G.rte → G.cel → G.groups → G.out → G.free → (State.colCellFault s
      r).mask G = s.mask G := by
  intros; unfold State.colCellFault; (repeat' split) <;> simp only [State.colFailFree_mask, State.colEarly_mask,
    ite_mask, ite_self, *]

theorem execLaunchFaultHalt_mask (run : Nat) (ok : Bool) (s : State) (G : Fields) :
    G.regs → G.tim → G.hif → G.log → G.subs → G.lrep → G.streams → G.pager0 → G.pager1 → G.rte → G.cells → G.cel →
      G.groups → G.tokens → G.out → G.free → ∀ t, execLaunchFaultHalt run ok s = .next t → t.mask G = s.mask G := by
  intros; rename_i h; injection h with h; subst h; (repeat' split) <;> simp only [State.colCellFault_mask,
    State.haltLaunch_mask, mask_regs, mask_tim, mask_hif, mask_log, mask_subs, mask_lrep, mask_streams, mask_pager0,
    mask_pager1, mask_rte, mask_cells, mask_cel, mask_groups, mask_tokens, mask_out, mask_free, ite_mask, ite_self,
    foldl_mask, implies_true, *]

theorem State.groupsUsed_mask (s : State) (G : Fields) :
    G.regs → (State.groupsUsed s).mask G = s.mask G := by
  intros; simp only [State.groupsUsed, State.setReg_mask, mask_regs, ite_mask, ite_self, foldl_mask, implies_true, *]

theorem execGroupCreate_mask (d : Desc) (g : Nat) (blk : List Byte) (blkOk : Bool) (s : State) (G : Fields) :
    G.regs → G.tim → G.hif → G.groups → G.out → ∀ t, execGroupCreate d g blk blkOk s = .next t → t.mask G = s.mask G
      := by
  intros; rename_i h; injection h with h; subst h; simp only [State.setGrp_mask, State.groupsUsed_mask,
    State.sqStop_mask, State.cmdEnd_mask, State.hostCmd_mask, mask_regs, mask_tim, mask_hif, mask_groups, mask_out,
    ite_mask, ite_self, foldl_mask, implies_true, *]

theorem State.destroyGroup_mask (s : State) (g : Nat) (x : Group) (G : Fields) :
    G.regs → G.tim → G.hif → G.log → G.subs → G.rte → G.cel → G.groups → G.out → G.free → (State.destroyGroup s g
      x).mask G = s.mask G := by
  intros; simp only [State.destroyGroup, State.armGroup_mask, State.freeParts_mask, State.colComplete_mask,
    State.colTell_mask, State.sendOwed_mask, State.groupsUsed_mask, State.freeWord_mask, mask_regs, mask_tim,
    mask_hif, mask_log, mask_subs, mask_rte, mask_cel, mask_groups, mask_out, mask_free, ite_mask, ite_self,
    foldl_mask, implies_true, *]

theorem execGroupDestroy_mask (d : Desc) (g : Nat) (s : State) (G : Fields) :
    G.regs → G.tim → G.hif → G.log → G.subs → G.rte → G.cel → G.groups → G.out → G.free → ∀ t, execGroupDestroy d g s
      = .next t → t.mask G = s.mask G := by
  intros; rename_i h; injection h with h; subst h; apply State.hostCmd_mask <;> (try assumption) <;> intros <;>
    (repeat' split) <;> simp only [State.destroyGroup_mask, State.cmdEnd_mask, State.hostCmd_mask, mask_regs,
      mask_tim, mask_hif, mask_log, mask_subs, mask_rte, mask_cel, mask_groups, mask_out, mask_free, ite_mask,
      ite_self, foldl_mask, implies_true, *]

theorem State.strPkt_mask (s : State) (i : Nat) (kind : Nat) (r : Bool) (tag : Nat) (payload : List Byte) (G : Fields) :
    G.rte → (State.strPkt s i kind r tag payload).2.mask G = s.mask G := by
  intros; simp only [State.strPkt, State.nextSeq_mask, mask_rte, ite_mask, ite_self, foldl_mask, implies_true, *]

theorem State.strPut_mask (s : State) (l : Nat) (p : Pkt) (due : Nat) (stomped : Bool) (G : Fields) :
    G.regs → G.hif → G.subs → G.rte → G.out → (State.strPut s l p due stomped).mask G = s.mask G := by
  intros; simp only [State.strPut, State.wakeAction_mask, mask_regs, mask_hif, mask_subs, mask_rte, mask_out,
    ite_mask, ite_self, foldl_mask, implies_true, *]

theorem State.strOut_mask (s : State) (i : Nat) (sched : Bool) (off : Nat) (payload : List Byte) (G : Fields) :
    G.rte → (State.strOut s i sched off payload).2.mask G = s.mask G := by
  intros; simp only [State.strOut, State.nextSeq_mask, mask_rte, ite_mask, ite_self, foldl_mask, implies_true, *]

theorem State.setMx_mask (s : State) (u : Nat) (x : Mxu) (G : Fields) :
    G.mxu → (State.setMx s u x).mask G = s.mask G := by
  intros; simp only [State.setMx, mask_mxu, ite_mask, ite_self, foldl_mask, implies_true, *]

theorem State.mxuEvt_mask (s : State) (bit : Nat) (G : Fields) :
    G.regs → G.hif → G.out → (State.mxuEvt s bit).mask G = s.mask G := by
  intros; simp only [State.mxuEvt, State.evt_mask, mask_regs, mask_hif, mask_out, ite_mask, ite_self, foldl_mask,
    implies_true, *]

theorem State.mxuLast_mask (s : State) (u : Nat) (status : Nat) (sub : Nat) (G : Fields) :
    G.regs → (State.mxuLast s u status sub).mask G = s.mask G := by
  intros; simp only [State.mxuLast, State.setFld_mask, mask_regs, ite_mask, ite_self, foldl_mask, implies_true, *]

theorem State.mxuUnheld_mask (s : State) (u : Nat) (G : Fields) :
    G.mxu → (State.mxuUnheld s u).mask G = s.mask G := by
  intros; simp only [State.mxuUnheld, State.setMx_mask, mask_mxu, ite_mask, ite_self, foldl_mask, implies_true, *]

theorem State.mxuNotRun_mask (s : State) (d : List Nat) (status : Nat) (sub : Nat) (G : Fields) :
    G.regs → G.hif → G.mxu → G.out → (State.mxuNotRun s d status sub).mask G = s.mask G := by
  intros; simp only [State.mxuNotRun, State.mxuUnheld_mask, State.postFree_mask, State.mxuLast_mask, State.hazard_mask,
    mask_regs, mask_hif, mask_mxu, mask_out, ite_mask, ite_self, foldl_mask, implies_true, *]

theorem State.mxuRefuse_mask (s : State) (d : List Nat) (sub : Nat) (G : Fields) :
    G.regs → G.hif → G.log → G.mxu → G.out → (State.mxuRefuse s d sub).mask G = s.mask G := by
  intros; simp only [State.mxuRefuse, State.memDenied_mask, State.mxuEvt_mask, State.mxuNotRun_mask, State.bump_mask,
    State.tokenRefused_mask, mask_regs, mask_hif, mask_log, mask_mxu, mask_out, ite_mask, ite_self, foldl_mask,
    implies_true, *]

theorem State.mxuAccept_mask (s : State) (d : List Nat) (step : Nat) (c : Nat) (G : Fields) :
    G.regs → G.mxu → G.tokens → (State.mxuAccept s d step c).mask G = s.mask G := by
  intros; unfold State.mxuAccept; dsimp only; (repeat' split) <;> simp only [State.setMx_mask, State.takeToken_mask,
    mask_regs, mask_mxu, mask_tokens, ite_mask, ite_self, foldl_mask, implies_true, *]

theorem State.fireMxu_mask (s : State) (d : List Nat) (step : Nat) (c : Nat) (G : Fields) :
    G.regs → G.hif → G.log → G.mxu → G.tokens → G.out → (State.fireMxu s d step c).mask G = s.mask G := by
  intros; unfold State.fireMxu; (repeat' split) <;> simp only [State.mxuRefuse_mask, State.mxuAccept_mask, mask_regs,
    mask_hif, mask_log, mask_mxu, mask_tokens, mask_out, ite_mask, ite_self, foldl_mask, implies_true, *]

theorem State.mxuCorrect_mask (s : State) (d : List Nat) (G : Fields) :
    G.regs → G.hif → G.mem → G.poison → G.out → (State.mxuCorrect s d).mask G = s.mask G := by
  intros; unfold State.mxuCorrect
  split
  · rfl
  have spans : ∀ (l : List Span) (s : State), (l.foldl (fun s x => (List.range x.rows).foldl
      (fun s r => s.correct (opKey (dUnit d) x.key + x.pitch * r) x.len) s) s).mask G = s.mask G := by
    intros; apply foldl_mask; intros; apply foldl_mask; intros; simp only [State.correct_mask, *]
  dsimp only
  rw [foldl_mask]
  · split <;> simp only [State.correct_mask, spans, *]
  · intros; simp only [State.correct_mask, *]

theorem State.mxuWrites_mask (s : State) (u : Nat) (r : MxuRun) (G : Fields) :
    G.mem → (State.mxuWrites s u r).mask G = s.mask G := by
  intros; unfold State.mxuWrites
  dsimp only
  rw [foldl_mask, foldl_mask]
  · intros; rw [foldl_mask]; intros; simp only [State.sendWrite_mask, mask_mem, ite_mask, ite_self, foldl_mask,
    implies_true, *]
  · intros; simp only [State.sendWrite_mask, mask_mem, ite_mask, ite_self, foldl_mask, implies_true, *]

theorem State.startMxu_mask (s : State) (u : Nat) (r : MxuRun) (G : Fields) :
    G.regs → G.tim → G.hif → G.log → G.streams → G.pager0 → G.pager1 → G.mxu → G.pf0 → G.pf1 → G.mem → G.poison →
      G.out → (State.startMxu s u r).mask G = s.mask G := by
  intros; unfold State.startMxu; dsimp only; (repeat' split) <;> simp only [State.pfTo_mask, State.pagerTo_mask,
    State.advTo_mask, State.setFld_mask, State.bump_mask, State.mxuEvt_mask, State.hbmBad_mask, State.setMx_mask,
    State.mxuWrites_mask, State.zero_mask, State.mxuCorrect_mask, mask_regs, mask_tim, mask_hif, mask_log,
    mask_streams, mask_pager0, mask_pager1, mask_mxu, mask_pf0, mask_pf1, mask_mem, mask_poison, mask_out, ite_mask,
    ite_self, foldl_mask, implies_true, *]

theorem execMxuStart_mask (u : Nat) (s : State) (G : Fields) :
    G.regs → G.tim → G.hif → G.log → G.lrep → G.streams → G.pager0 → G.pager1 → G.mxu → G.tokens → G.pf0 → G.pf1 →
      G.mem → G.poison → G.out → ∀ t, execMxuStart u s = .next t → t.mask G = s.mask G := by
  intros; rename_i h; injection h with h; subst h; (repeat' split) <;> simp only [State.pageFail_mask,
    State.setMx_mask, State.advTo_mask, State.startMxu_mask, mask_regs, mask_tim, mask_hif, mask_log, mask_lrep,
    mask_streams, mask_pager0, mask_pager1, mask_mxu, mask_tokens, mask_pf0, mask_pf1, mask_mem, mask_poison, mask_out,
    ite_mask, ite_self, foldl_mask, implies_true, *]

theorem State.updStage_mask (s : State) (i : Nat) (n : Nat) (m : Nat) (G : Fields) :
    G.regs → G.hif → G.lrep → G.streams → G.pager0 → G.pager1 → G.tokens → G.out → (State.updStage s i n m).mask G =
      s.mask G := by
  intros; simp only [State.updStage, State.setStream_mask, State.dropToken_mask, State.updateEnd_mask,
    State.writeBack_mask, mask_regs, mask_hif, mask_lrep, mask_streams, mask_pager0, mask_pager1, mask_tokens,
    mask_out, ite_mask, ite_self, foldl_mask, implies_true, *]

theorem State.updRefuse_mask (s : State) (u : Nat) (sub : Nat) (G : Fields) :
    G.regs → G.hif → G.mxu → G.out → (State.updRefuse s u sub).mask G = s.mask G := by
  intros; simp only [State.updRefuse, State.hazard_mask, State.mxuLast_mask, State.mxuUnheld_mask, State.mxuEvt_mask,
    State.bump_mask, mask_regs, mask_hif, mask_mxu, mask_out, ite_mask, ite_self, foldl_mask, implies_true, *]

theorem execUpdateNextLaunch_mask (i : Nat) (s : State) (G : Fields) :
    G.regs → G.tim → G.hif → G.log → G.lrep → G.streams → G.pager0 → G.pager1 → G.mxu → G.tokens → G.pf0 → G.pf1 →
      G.mem → G.poison → G.out → ∀ t, execUpdateNextLaunch i s = .next t → t.mask G = s.mask G := by
  intros; rename_i h; injection h with h; subst h; (repeat' split) <;> simp only [State.setStream_mask,
    State.startMxu_mask, State.updRefuse_mask, State.updateFail_mask, mask_regs, mask_tim, mask_hif, mask_log,
    mask_lrep, mask_streams, mask_pager0, mask_pager1, mask_mxu, mask_tokens, mask_pf0, mask_pf1, mask_mem,
    mask_poison, mask_out, ite_mask, ite_self, foldl_mask, implies_true, *]

theorem execVecLaunchFire_mask (i : Nat) (s : State) (G : Fields) :
    G.regs → G.tim → G.hif → G.lrep → G.streams → G.cells → G.cel → G.tokens → G.mem → G.poison → G.out → G.free → ∀
      t, execVecLaunchFire i s = .next t → t.mask G = s.mask G := by
  intros; rename_i h; injection h with h; subst h; dsimp only; (repeat' split) <;> simp only [State.toCyc_mask,
    State.fireLaunch_mask, State.setStream_mask, State.freeWord_mask, State.updateFail_mask, mask_regs, mask_tim,
    mask_hif, mask_lrep, mask_streams, mask_cells, mask_cel, mask_tokens, mask_mem, mask_poison, mask_out, mask_free,
    ite_mask, ite_self, foldl_mask, implies_true, *]

theorem State.mxuFree_mask (s : State) (u : Nat) (r : MxuRun) (m : Nat) (held : Option (Nat × Nat × List (List Nat)))
  (G : Fields) :
    G.regs → G.mxu → G.tokens → (State.mxuFree s u r m held).mask G = s.mask G := by
  intros; unfold State.mxuFree; dsimp only; (repeat' split) <;> simp only [State.setMx_mask, State.bump64_mask,
    State.dropToken_mask, mask_regs, mask_mxu, mask_tokens, ite_mask, ite_self, foldl_mask, implies_true, *]

theorem State.writeRows_mask (s : State) (ws : List (Nat × List Byte)) (G : Fields) :
    G.mem → G.poison → (State.writeRows s ws).mask G = s.mask G := by
  intros; simp only [State.writeRows, State.wr_mask, mask_mem, mask_poison, ite_mask, ite_self, foldl_mask,
    implies_true, *]

theorem State.mxuFlags_mask (s : State) (fl : Nat) (G : Fields) :
    G.regs → (State.mxuFlags s fl).mask G = s.mask G := by
  intros; simp only [State.mxuFlags, State.blockEvent_mask, State.orFlags_mask, mask_regs, mask_hif, mask_out,
    ite_mask, ite_self, foldl_mask, implies_true, *]

theorem execMxuComplete_mask (u : Nat) (ok : Bool) (s : State) (G : Fields) :
    G.regs → G.tim → G.hif → G.lrep → G.streams → G.pager0 → G.pager1 → G.mxu → G.tokens → G.out → ∀ t,
      execMxuComplete u ok s = .next t → t.mask G = s.mask G := by
  intros; rename_i h; injection h with h; subst h; (repeat' split) <;> simp only [State.setStream_mask,
    State.mxuLast_mask, State.updStage_mask, State.mxuFree_mask, State.mxuFlags_mask, State.advTo_mask,
    State.postData_mask, mask_regs, mask_tim, mask_hif, mask_lrep, mask_streams, mask_pager0, mask_pager1, mask_mxu,
    mask_tokens, mask_out, ite_mask, ite_self, foldl_mask, implies_true, *]

theorem State.stallWrites_mask (s : State) (u : Nat) (cycles : Nat) (G : Fields) :
    G.mem → G.poison → (State.stallWrites s u cycles).mask G = s.mask G := by
  intros; simp only [State.stallWrites, State.due_mask, mask_mem, mask_poison, mask_writes, ite_mask, ite_self,
    foldl_mask, implies_true, *]

theorem execMxuGatherStall_mask (u : Nat) (cycles : Nat) (s : State) (G : Fields) :
    G.regs → G.hif → G.mxu → G.mem → G.poison → G.out → ∀ t, execMxuGatherStall u cycles s = .next t → t.mask G =
      s.mask G := by
  intros; rename_i h; injection h with h; subst h
  split
  · extract_lets c; simp only [State.setMx_mask, State.mxuEvt_mask, State.stallWrites_mask, State.bump_mask,
      State.hazard_mask, ite_mask, ite_self, *]
  · rfl

theorem State.dropWrites_mask (s : State) (u : Nat) (G : Fields) :
    G.mem → G.poison → (State.dropWrites s u).mask G = s.mask G := by
  intros; simp only [State.dropWrites, State.due_mask, mask_mem, mask_poison, mask_writes, ite_mask, ite_self,
    foldl_mask, implies_true, *]

theorem execMxuEccFault_mask (u : Nat) (row : Nat) (time : Nat) (s : State) (G : Fields) :
    G.regs → G.tim → G.hif → G.log → G.lrep → G.streams → G.mxu → G.tokens → G.mem → G.poison → G.out → ∀ t,
      execMxuEccFault u row time s = .next t → t.mask G = s.mask G := by
  intros; rename_i h; injection h with h; subst h
  split
  · rfl
  split
  · rfl
  extract_lets s1 _ _ _ s5 s6 _ s7 s8 s9
  have e9 : s9.mask G = s.mask G := by
    simp only [s9, s8, s7, s6, s5, s1, State.advTo_mask, State.writeRows_mask, State.dropWrites_mask, State.mxuEvt_mask,
      State.mxuFree_mask, State.recordFault_mask, State.mxuFlags_mask, State.offer_mask, State.hazard_mask, *]
  split <;> simp only [e9, State.updateFail_mask, State.setStream_mask, State.postFree_mask, State.mxuLast_mask, *]

theorem State.zeroEmber_mask (s : State) (x : Stream) (G : Fields) :
    G.mem → G.poison → (State.zeroEmber s x).mask G = s.mask G := by
  intros; simp only [State.zeroEmber, State.wr_mask, mask_mem, mask_poison, ite_mask, ite_self, foldl_mask,
    implies_true, *]

theorem State.pageStart_mask (s : State) (i : Nat) (reset : Bool) (c : Nat) (G : Fields) :
    G.streams → G.pager0 → G.pager1 → (State.pageStart s i reset c).mask G = s.mask G := by
  intros; simp only [State.pageStart, State.setStream_mask, State.pageMove_mask, mask_streams, mask_pager0,
    mask_pager1, ite_mask, ite_self, foldl_mask, implies_true, *]

theorem State.nonFinite_mask (s : State) (b : Bool) (G : Fields) :
    G.regs → G.hif → G.out → (State.nonFinite s b).mask G = s.mask G := by
  intros; simp only [State.nonFinite, State.strEvt_mask, mask_regs, mask_hif, mask_out, ite_mask, ite_self,
    foldl_mask, implies_true, *]

theorem State.sendRaw_mask (s : State) (i : Nat) (r : Bool) (edge : Nat) (f : Nat) (g : Nat) (x6 : Nat) (x7 : Nat) (G
  : Fields) :
    G.regs → G.hif → G.subs → G.streams → G.rte → G.out → (State.sendRaw s i r edge f g x6 x7).mask G = s.mask G := by
  intros
  induction x6 generalizing s x7 with
  | zero => rfl
  | succ n ih =>
    unfold State.sendRaw; dsimp only
    (repeat' split) <;> simp only [ih, State.setStream_mask, State.bump_mask, State.strPkt_mask, State.strPut_mask,
      mask_regs, mask_hif, mask_subs, mask_streams, mask_rte, mask_out, ite_mask, ite_self, foldl_mask, implies_true,
      *]

theorem State.keepRaw_mask (s : State) (i : Nat) (k : Nat) (G : Fields) :
    G.regs → G.hif → G.streams → G.mem → G.poison → G.out → (State.keepRaw s i k).mask G = s.mask G := by
  intros; simp only [State.keepRaw, State.setStream_mask, State.wr_mask, State.copyMem_mask, State.bump_mask,
    mask_regs, mask_hif, mask_streams, mask_mem, mask_poison, mask_out, ite_mask, ite_self, foldl_mask, implies_true,
    *]

theorem State.sendOne_mask (s : State) (i : Nat) (k : Nat) (c : Nat) (r : Bool) (bad : Bool) (payload : List Byte)
  (due : Nat) (G : Fields) :
    G.regs → G.hif → G.subs → G.rte → G.out → (State.sendOne s i k c r bad payload due).mask G = s.mask G := by
  intros; simp only [State.sendOne, State.strPkt_mask, State.strPut_mask, mask_regs, mask_hif, mask_subs, mask_rte,
    mask_out, ite_mask, ite_self, foldl_mask, implies_true, *]

theorem State.sendChunks_mask (s : State) (i : Nat) (k : Nat) (r : Bool) (ps : List Nat) (dig : Option Nat) (edge :
  Nat) (G : Fields) :
    G.regs → G.hif → G.log → G.subs → G.streams → G.rte → G.mem → G.poison → G.out → (State.sendChunks s i k r ps dig
      edge).mask G = s.mask G := by
  intros; simp only [State.sendChunks, State.setStream_mask, State.wr_mask, State.xhatWrite_mask, State.sendOne_mask,
    mask_regs, mask_hif, mask_log, mask_subs, mask_streams, mask_rte, mask_mem, mask_poison, mask_out, ite_mask,
    ite_self, foldl_mask, implies_true, *]

theorem State.sendBad_mask (s : State) (i : Nat) (k : Nat) (r : Bool) (edge : Nat) (G : Fields) :
    G.regs → G.hif → G.subs → G.streams → G.rte → G.out → G.free → (State.sendBad s i k r edge).mask G = s.mask G :=
      by
  intros; simp only [State.sendBad, State.freeBytes_mask, State.setStream_mask, State.stepFail_mask,
    State.sendOne_mask, mask_regs, mask_hif, mask_subs, mask_streams, mask_rte, mask_out, mask_free, ite_mask,
    ite_self, foldl_mask, implies_true, *]

theorem State.codecCorrect_mask (s : State) (x : Stream) (G : Fields) :
    G.regs → G.hif → G.mem → G.poison → G.out → (State.codecCorrect s x).mask G = s.mask G := by
  intros; simp only [State.codecCorrect, State.correct_mask, mask_regs, mask_hif, mask_mem, mask_poison, mask_out,
    ite_mask, ite_self, foldl_mask, implies_true, *]

theorem State.strSend_mask (s : State) (i : Nat) (c : Nat) (G : Fields) :
    G.regs → G.hif → G.log → G.subs → G.streams → G.pager0 → G.pager1 → G.rte → G.mem → G.poison → G.out → G.free →
      (State.strSend s i c).mask G = s.mask G := by
  intros; simp only [State.strSend, State.setStream_mask, State.bump_mask, State.strDenied_mask, State.pagerTo_mask,
    State.zeroEmber_mask, State.pageStart_mask, State.nonFinite_mask, State.sendRaw_mask, State.keepRaw_mask,
    State.sendChunks_mask, State.codecCorrect_mask, State.sendBad_mask, mask_regs, mask_hif, mask_log, mask_subs,
    mask_streams, mask_pager0, mask_pager1, mask_rte, mask_mem, mask_poison, mask_out, mask_free, ite_mask, ite_self,
    foldl_mask, implies_true, *]

theorem State.strDrop_mask (s : State) (reg : Nat) (G : Fields) :
    G.regs → (State.strDrop s reg).mask G = s.mask G := by
  intros; simp only [State.strDrop, State.bump_mask, mask_regs, ite_mask, ite_self, foldl_mask, implies_true, *]

theorem State.residualIn_mask (s : State) (l : Nat) (p : Pkt) (at_ : Nat) (G : Fields) :
    G.regs → G.streams → (State.residualIn s l p at_).mask G = s.mask G := by
  intros; simp only [State.residualIn, State.setStream_mask, State.bump_mask, State.strDrop_mask, mask_regs,
    mask_streams, ite_mask, ite_self, foldl_mask, implies_true, *]

theorem State.rawChunkIn_mask (s : State) (l : Nat) (p : Pkt) (G : Fields) :
    G.regs → G.tim → G.hif → G.log → G.streams → G.rte → G.out → (State.rawChunkIn s l p).mask G = s.mask G := by
  intros; unfold State.rawChunkIn; dsimp only; (repeat' split) <;> simp only [State.strDrop_mask, State.strOut_mask,
    State.drop_mask, State.setStream_mask, State.originate_mask, mask_regs, mask_tim, mask_hif, mask_log, mask_streams,
    mask_rte, mask_out, ite_mask, ite_self, foldl_mask, implies_true, *]

theorem State.decodeOne_mask (s : State) (i : Nat) (c : Nat) (p : Pkt) (ps : List Nat) (edge : Nat) (G : Fields) :
    G.regs → G.hif → G.log → G.subs → G.streams → G.rte → G.mem → G.out → (State.decodeOne s i c p ps edge).mask G =
      s.mask G := by
  intros; simp only [State.decodeOne, State.xhatWrite_mask, State.setStream_mask, State.nonFinite_mask,
    State.strOut_mask, State.drop_mask, State.originateSched_mask, State.codecWrite_mask, State.strDenied_mask,
    mask_regs, mask_hif, mask_log, mask_subs, mask_streams, mask_rte, mask_mem, mask_out, ite_mask, ite_self,
    foldl_mask, implies_true, *]

theorem State.decodeFail_mask (s : State) (i : Nat) (status : Nat) (detail : Nat) (G : Fields) :
    G.regs → G.hif → G.streams → G.out → (State.decodeFail s i status detail).mask G = s.mask G := by
  intros; simp only [State.decodeFail, State.setStream_mask, State.stepFail_mask, mask_regs, mask_hif, mask_streams,
    mask_out, ite_mask, ite_self, foldl_mask, implies_true, *]

theorem State.diverged_mask (s : State) (i : Nat) (theirs : Nat) (own : Nat) (G : Fields) :
    G.regs → G.hif → G.log → G.lrep → G.streams → G.cap → G.mem → G.poison → G.out → (State.diverged s i theirs
      own).mask G = s.mask G := by
  intros; simp only [State.diverged, State.capTrigger_mask, State.offer_mask, State.strEvt_mask, State.askReset_mask,
    State.decodeFail_mask, mask_regs, mask_hif, mask_log, mask_lrep, mask_streams, mask_cap, mask_mem, mask_poison,
    mask_out, ite_mask, ite_self, foldl_mask, implies_true, *]

theorem State.chunkLost_mask (s : State) (i : Nat) (lost : List Nat) (G : Fields) :
    G.regs → G.hif → G.lrep → G.streams → G.out → (State.chunkLost s i lost).mask G = s.mask G := by
  intros; simp only [State.chunkLost, State.strEvt_mask, State.askReset_mask, State.decodeFail_mask, mask_regs,
    mask_hif, mask_lrep, mask_streams, mask_out, ite_mask, ite_self, foldl_mask, implies_true, *]

theorem State.rebuild_mask (s : State) (i : Nat) (c : Nat) (ps : List Nat) (G : Fields) :
    G.regs → G.hif → G.log → G.subs → G.lrep → G.streams → G.rte → G.mem → G.out → (State.rebuild s i c ps).mask G =
      s.mask G := by
  intros; unfold State.rebuild
  extract_lets +lift l1 l2 l3 s1
  have h1 : s1.mask G = s.mask G := by
    simp only [s1]; apply foldl_mask; intros; (repeat' split) <;> simp only [State.decodeOne_mask,
      State.chunkLost_mask, mask_regs, mask_hif, mask_log, mask_subs, mask_lrep, mask_streams, mask_rte, mask_mem,
      mask_out, ite_mask, ite_self, foldl_mask, implies_true, *]
  clear_value s1
  split <;> simp only [State.decodeOne_mask, State.chunkLost_mask, mask_regs, mask_hif, mask_log, mask_subs, mask_lrep,
    mask_streams, mask_rte, mask_mem, mask_out, ite_mask, ite_self, foldl_mask, implies_true, *]

theorem State.decodeStep_mask (s : State) (i : Nat) (c : Nat) (r : Bool) (G : Fields) :
    G.regs → G.hif → G.log → G.subs → G.lrep → G.streams → G.rte → G.cap → G.mem → G.poison → G.out →
      (State.decodeStep s i c r).mask G = s.mask G := by
  intros; simp only [State.decodeStep, State.setStream_mask, State.bump_mask, State.strEvt_mask,
    State.nonFinite_mask, State.decodeFail_mask, State.diverged_mask, State.rebuild_mask, mask_regs, mask_hif,
    mask_log, mask_subs, mask_lrep, mask_streams, mask_rte, mask_cap, mask_mem, mask_poison, mask_out, ite_mask,
    ite_self, foldl_mask, implies_true, *]

theorem State.strDecode_mask (s : State) (i : Nat) (c : Nat) (G : Fields) :
    G.regs → G.hif → G.log → G.subs → G.lrep → G.streams → G.pager0 → G.pager1 → G.rte → G.cap → G.mem → G.poison →
      G.out → (State.strDecode s i c).mask G = s.mask G := by
  intros; unfold State.strDecode; dsimp only; (repeat' split) <;> simp only [State.pagerTo_mask, State.setStream_mask,
    State.pageStart_mask, State.zeroEmber_mask, State.codecCorrect_mask, State.askReset_mask, State.decodeFail_mask,
    State.decodeStep_mask, State.chunkLost_mask, State.resetReq_mask, mask_regs, mask_hif, mask_log, mask_subs,
    mask_lrep, mask_streams, mask_pager0, mask_pager1, mask_rte, mask_cap, mask_mem, mask_poison, mask_out, ite_mask,
    ite_self, foldl_mask, implies_true, *]

theorem State.updateNot_mask (s : State) (i : Nat) (k : Nat) (G : Fields) :
    G.regs → G.hif → G.lrep → G.streams → G.out → (State.updateNot s i k).mask G = s.mask G := by
  intros; simp only [State.updateNot, State.setStream_mask, State.stepFail_mask, State.askReset_mask, mask_regs,
    mask_hif, mask_lrep, mask_streams, mask_out, ite_mask, ite_self, foldl_mask, implies_true, *]

theorem State.leaveTail_mask (s : State) (i : Nat) (G : Fields) :
    G.pager0 → G.pager1 → (State.leaveTail s i).mask G = s.mask G := by
  intros; simp only [State.leaveTail, State.setPager_mask, mask_pager0, mask_pager1, ite_mask, ite_self, foldl_mask,
    implies_true, *]

theorem State.updateStart_mask (s : State) (i : Nat) (k : Nat) (wset : Nat) (c : Nat) (G : Fields) :
    G.regs → G.hif → G.lrep → G.streams → G.pager0 → G.pager1 → G.mxu → G.tokens → G.out → (State.updateStart s i k
      wset c).mask G = s.mask G := by
  intros; simp only [State.updateStart, State.updateNot_mask, State.updRefuse_mask, State.hazard_mask,
    State.tokenRefused_mask, State.evt_mask, State.bump_mask, State.takeToken_mask, State.leaveTail_mask,
    State.setStream_mask, State.setMx_mask, mask_regs, mask_hif, mask_lrep, mask_streams, mask_pager0, mask_pager1,
    mask_mxu, mask_tokens, mask_out, ite_mask, ite_self, foldl_mask, implies_true, *]

theorem State.strUpdate_mask (s : State) (i : Nat) (wset : Nat) (c : Nat) (G : Fields) :
    G.regs → G.hif → G.lrep → G.streams → G.pager0 → G.pager1 → G.mxu → G.tokens → G.out → (State.strUpdate s i wset
      c).mask G = s.mask G := by
  intros; simp only [State.strUpdate, State.setStream_mask, State.updateStart_mask, mask_regs, mask_hif, mask_lrep,
    mask_streams, mask_pager0, mask_pager1, mask_mxu, mask_tokens, mask_out, ite_mask, ite_self, foldl_mask,
    implies_true, *]

theorem State.strMissed_mask (s : State) (i : Nat) (kind : Nat) (status : Nat) (c : Nat) (G : Fields) :
    G.regs → G.hif → G.lrep → G.streams → G.out → (State.strMissed s i kind status c).mask G = s.mask G := by
  intros; simp only [State.strMissed, State.setStream_mask, State.stepFail_mask, State.askReset_mask, mask_regs,
    mask_hif, mask_lrep, mask_streams, mask_out, ite_mask, ite_self, foldl_mask, implies_true, *]

theorem State.resetReqIn_mask (s : State) (l : Nat) (w : List Byte) (G : Fields) :
    G.streams → (State.resetReqIn s l w).mask G = s.mask G := by
  intros; simp only [State.resetReqIn, State.setStream_mask, mask_streams, ite_mask, ite_self, foldl_mask,
    implies_true, *]

theorem State.strAccept_mask (s : State) (c : StrCmd) (G : Fields) :
    G.strCmds → (State.strAccept s c).mask G = s.mask G := by
  intros; simp only [State.strAccept, mask_strCmds, ite_mask, ite_self, foldl_mask, implies_true, *]

theorem execStreamOpen_mask (d : Desc) (i : Nat) (at_ : Nat) (step0 : Nat) (blk : List Byte) (blkOk : Bool) (s :
  State) (G : Fields) :
    G.regs → G.tim → G.hif → G.strCmds → G.out → ∀ t, execStreamOpen d i at_ step0 blk blkOk s = .next t → t.mask G =
      s.mask G := by
  intros; rename_i h; injection h with h; subst h; simp only [State.sqStop_mask, State.cmdEnd_mask,
    State.hostCmd_mask, State.strAccept_mask, mask_regs, mask_tim, mask_hif, mask_strCmds, mask_out, ite_mask,
    ite_self, foldl_mask, implies_true, *]

theorem State.strCmd_mask (s : State) (d : Desc) (kind : Nat) (i : Nat) (at_ : Nat) (bad : Nat → Bool) (G : Fields) :
    G.regs → G.tim → G.hif → G.strCmds → G.out → (State.strCmd s d kind i at_ bad).mask G = s.mask G := by
  intros; simp only [State.strCmd, State.cmdEnd_mask, State.hostCmd_mask, State.strAccept_mask, mask_regs, mask_tim,
    mask_hif, mask_strCmds, mask_out, ite_mask, ite_self, foldl_mask, implies_true, *]

theorem execStreamPause_mask (d : Desc) (i : Nat) (at_ : Nat) (s : State) (G : Fields) :
    G.regs → G.tim → G.hif → G.strCmds → G.out → ∀ t, execStreamPause d i at_ s = .next t → t.mask G = s.mask G := by
  intros; rename_i h; injection h with h; subst h; simp only [State.strCmd_mask, mask_regs, mask_tim, mask_hif,
    mask_strCmds, mask_out, ite_mask, ite_self, foldl_mask, implies_true, *]

theorem execStreamResume_mask (d : Desc) (i : Nat) (at_ : Nat) (s : State) (G : Fields) :
    G.regs → G.tim → G.hif → G.strCmds → G.out → ∀ t, execStreamResume d i at_ s = .next t → t.mask G = s.mask G := by
  intros; rename_i h; injection h with h; subst h; simp only [State.strCmd_mask, mask_regs, mask_tim, mask_hif,
    mask_strCmds, mask_out, ite_mask, ite_self, foldl_mask, implies_true, *]

theorem execStreamReset_mask (d : Desc) (i : Nat) (at_ : Nat) (s : State) (G : Fields) :
    G.regs → G.tim → G.hif → G.strCmds → G.out → ∀ t, execStreamReset d i at_ s = .next t → t.mask G = s.mask G := by
  intros; rename_i h; injection h with h; subst h; simp only [State.strCmd_mask, mask_regs, mask_tim, mask_hif,
    mask_strCmds, mask_out, ite_mask, ite_self, foldl_mask, implies_true, *]

theorem execStreamClose_mask (d : Desc) (i : Nat) (at_ : Nat) (s : State) (G : Fields) :
    G.regs → G.tim → G.hif → G.strCmds → G.out → ∀ t, execStreamClose d i at_ s = .next t → t.mask G = s.mask G := by
  intros; rename_i h; injection h with h; subst h; simp only [State.strCmd_mask, mask_regs, mask_tim, mask_hif,
    mask_strCmds, mask_out, ite_mask, ite_self, foldl_mask, implies_true, *]

theorem State.strEffect_mask (s : State) (c : StrCmd) (G : Fields) :
    G.lrep → G.streams → (State.strEffect s c).mask G = s.mask G := by
  intros; simp only [State.strEffect, State.setStream_mask, State.askReset_mask, mask_lrep, mask_streams, ite_mask,
    ite_self, foldl_mask, implies_true, *]

theorem State.strApply_mask (s : State) (c : StrCmd) (ok : Bool) (G : Fields) :
    G.regs → G.hif → G.lrep → G.streams → G.strCmds → G.out → (State.strApply s c ok).mask G = s.mask G := by
  intros; simp only [State.strApply, State.cmdDone_mask, State.strEffect_mask, mask_regs, mask_hif, mask_lrep,
    mask_streams, mask_strCmds, mask_out, ite_mask, ite_self, foldl_mask, implies_true, *]

theorem execStreamCmdEffect_mask (i : Nat) (ok : Bool) (s : State) (G : Fields) :
    G.regs → G.tim → G.hif → G.lrep → G.streams → G.strCmds → G.out → ∀ t, execStreamCmdEffect i ok s = .next t →
      t.mask G = s.mask G := by
  intros; rename_i h; injection h with h; subst h; (repeat' split) <;> simp only [State.advTo_mask,
    State.strApply_mask, mask_regs, mask_tim, mask_hif, mask_lrep, mask_streams, mask_strCmds, mask_out, ite_mask,
    ite_self, foldl_mask, implies_true, *]

theorem State.strDue_mask (s : State) (i : Nat) (G : Fields) :
    G.regs → G.hif → G.lrep → G.streams → G.strCmds → G.out → (State.strDue s i).mask G = s.mask G := by
  intros; simp only [State.strDue, State.strApply_mask, mask_regs, mask_hif, mask_lrep, mask_streams, mask_strCmds,
    mask_out, ite_mask, ite_self, foldl_mask, implies_true, *]

theorem execStrTblRead_mask (path : Path) (v : Word) (s : State) (G : Fields) :
    G.regs → G.busy → G.hif → G.out → G.free → ∀ t, execStrTblRead path v s = .next t → t.mask G = s.mask G := by
  intros; rename_i h; obtain rfl := Host.Outcome.next.inj h
  apply State.tblOp_mask <;> (try assumption) <;> intros <;> (try dsimp only) <;> (repeat' split) <;> simp only
    [State.setReg_mask, State.setFld_mask, State.tblOp_mask, State.strEvt_mask, mask_regs, mask_busy, mask_hif,
    mask_out, mask_free, ite_mask, ite_self, foldl_mask, implies_true, *]

theorem execStrTblWrite_mask (path : Path) (v : Word) (s : State) (G : Fields) :
    G.regs → G.busy → G.hif → G.streams → G.out → G.free → ∀ t, execStrTblWrite path v s = .next t → t.mask G =
      s.mask G := by
  intros; rename_i h; injection h with h; subst h; simp only [State.setStream_mask, State.setFld_mask,
    State.tblOp_mask, State.strEvt_mask, mask_regs, mask_busy, mask_hif, mask_streams, mask_out, mask_free, ite_mask,
    ite_self, foldl_mask, implies_true, *]

theorem State.linkAck_mask (s : State) (l : Nat) (kind : Nat) (w : List Byte) (G : Fields) :
    G.regs → G.hif → G.subs → G.rte → G.out → (State.linkAck s l kind w).mask G = s.mask G := by
  intros; simp only [State.linkAck, State.makeReady_mask, mask_regs, mask_hif, mask_subs, mask_rte, mask_out,
    ite_mask, ite_self, foldl_mask, implies_true, *]

theorem execLinkAckSend_mask (l : Nat) (kind : Nat) (s : State) (G : Fields) :
    G.regs → G.hif → G.subs → G.lrep → G.rte → G.out → ∀ t, execLinkAckSend l kind s = .next t → t.mask G = s.mask G
      := by
  intros; rename_i h; injection h with h; subst h; dsimp only; (repeat' split) <;> simp only [State.setLr_mask,
    State.bump_mask, State.linkAck_mask, mask_regs, mask_hif, mask_subs, mask_lrep, mask_rte, mask_out, ite_mask,
    ite_self, foldl_mask, implies_true, *]

theorem State.linkAckRx_mask (s : State) (l : Nat) (subtype : Nat) (rx : RxPkt) (f : State → List Byte → State) (G : Fields) :
    G.regs → G.hif → G.lrep → G.out → (∀ (y0 : State) (y1 : List Byte), (f y0 y1).mask G = y0.mask G) →
      (State.linkAckRx s l subtype rx f).mask G = s.mask G := by
  intros; simp only [State.linkAckRx, State.linkRx_mask, mask_regs, mask_hif, mask_lrep, mask_out, ite_mask, ite_self,
    foldl_mask, implies_true, *]

theorem State.acked_mask (s : State) (l : Nat) (n : Nat) (G : Fields) :
    G.regs → G.lrep → (State.acked s l n).mask G = s.mask G := by
  intros; simp only [State.acked, State.setLr_mask, State.setUnacked_mask, mask_regs, mask_lrep, ite_mask, ite_self,
    foldl_mask, implies_true, *]

theorem execAckRx_mask (l : Nat) (rx : RxPkt) (s : State) (G : Fields) :
    G.regs → G.hif → G.lrep → G.out → ∀ t, execAckRx l rx s = .next t → t.mask G = s.mask G := by
  intros; rename_i h; injection h with h; subst h; simp only [State.linkAckRx_mask, State.acked_mask, mask_regs,
    mask_hif, mask_lrep, mask_out, ite_mask, ite_self, foldl_mask, implies_true, *]

theorem State.copiesRead_mask (s : State) (l : Nat) (cs : List Copy) (bad : List Nat) (G : Fields) :
    G.regs → G.hif → G.log → G.out → G.free → (State.copiesRead s l cs bad).mask G = s.mask G := by
  intros; unfold State.copiesRead; apply foldl_mask; intros; dsimp only; split <;> simp only [State.freeWord_mask,
    State.hbmUncorr_mask, *]

theorem State.replayFrom_mask (s : State) (l : Nat) (n : Nat) (bad : List Nat) (G : Fields) :
    G.regs → G.hif → G.log → G.subs → G.lrep → G.rte → G.out → G.free → (State.replayFrom s l n bad).mask G = s.mask G
      := by
  intros; simp only [State.replayFrom, State.copiesRead_mask, State.linkAck_mask, State.setLr_mask, State.setEgr_mask,
    mask_regs, mask_hif, mask_log, mask_subs, mask_lrep, mask_rte, mask_out, mask_free, ite_mask, ite_self, foldl_mask,
    implies_true, *]

theorem execNakRx_mask (l : Nat) (rx : RxPkt) (bad : List Nat) (s : State) (G : Fields) :
    G.regs → G.hif → G.log → G.subs → G.lrep → G.rte → G.out → G.free → ∀ t, execNakRx l rx bad s = .next t → t.mask G
      = s.mask G := by
  intros; rename_i h; injection h with h; subst h; simp only [State.linkAckRx_mask, State.replayFrom_mask,
    State.bump_mask, mask_regs, mask_hif, mask_log, mask_subs, mask_lrep, mask_rte, mask_out, mask_free, ite_mask,
    ite_self, foldl_mask, implies_true, *]

theorem execReplayRx_mask (l : Nat) (rx : RxPkt) (s : State) (G : Fields) :
    G.regs → G.hif → G.lrep → G.out → ∀ t, execReplayRx l rx s = .next t → t.mask G = s.mask G := by
  intros; rename_i h; injection h with h; subst h; simp only [State.setLr_mask, State.bump_mask,
    State.linkAckRx_mask, State.strEvt_mask, mask_regs, mask_hif, mask_lrep, mask_out, ite_mask, ite_self,
    foldl_mask, implies_true, *]

theorem execResetReqRx_mask (l : Nat) (rx : RxPkt) (s : State) (G : Fields) :
    G.regs → G.hif → G.lrep → G.streams → G.out → ∀ t, execResetReqRx l rx s = .next t → t.mask G = s.mask G := by
  intros; rename_i h; injection h with h; subst h; simp only [State.linkAckRx_mask, State.resetReqIn_mask, mask_regs,
    mask_hif, mask_lrep, mask_streams, mask_out, ite_mask, ite_self, foldl_mask, implies_true, *]

theorem execReplayTimeout_mask (l : Nat) (bad : List Nat) (s : State) (G : Fields) :
    G.regs → G.tim → G.hif → G.log → G.subs → G.lrep → G.rte → G.out → G.free → ∀ t, execReplayTimeout l bad s = .next
      t → t.mask G = s.mask G := by
  intros; rename_i h; injection h with h; subst h; simp only [State.replayFrom_mask, State.advTo_mask, mask_regs,
    mask_tim, mask_hif, mask_log, mask_subs, mask_lrep, mask_rte, mask_out, mask_free, ite_mask, ite_self, foldl_mask,
    implies_true, *]

theorem State.pfLog_mask (s : State) (sub : Nat) (r : PfRec) (pav : Nat) (G : Fields) :
    G.regs → G.hif → G.log → G.out → (State.pfLog s sub r pav).mask G = s.mask G := by
  intros; simp only [State.pfLog, State.offer_mask, mask_regs, mask_hif, mask_log, mask_out, ite_mask, ite_self,
    foldl_mask, implies_true, *]

theorem State.pfSend_mask (s : State) (j : PfJob) (die : Nat) (G : Fields) :
    G.mem → (State.pfSend s j die).mask G = s.mask G := by
  intros; simp only [State.pfSend, State.sendWrite_mask, mask_mem, ite_mask, ite_self, foldl_mask, implies_true, *]

theorem State.firePf_mask (s : State) (r : PfRec) (pav : Nat) (die : Nat) (c : Nat) (G : Fields) :
    G.regs → G.hif → G.log → G.pf0 → G.pf1 → G.mem → G.poison → G.out → (State.firePf s r pav die c).mask G = s.mask G
      := by
  intros; simp only [State.firePf, State.pfTo_mask, State.pfLog_mask, State.evt_mask, State.bump_mask,
    State.pfSend_mask, State.setPf_mask, mask_regs, mask_hif, mask_log, mask_pf0, mask_pf1, mask_mem, mask_poison,
    mask_out, ite_mask, ite_self, foldl_mask, implies_true, *]

theorem execPrefetchDone_mask (die : Nat) (time : Nat) (s : State) (G : Fields) :
    G.regs → G.tim → G.hif → G.log → G.pf0 → G.pf1 → G.mem → G.poison → G.out → ∀ t, execPrefetchDone die time s =
      .next t → t.mask G = s.mask G := by
  intros; rename_i h; injection h with h; subst h; (repeat' split) <;> simp only [State.advTo_mask, State.setPf_mask,
    State.pfEnd_mask, mask_regs, mask_tim, mask_hif, mask_log, mask_pf0, mask_pf1, mask_mem, mask_poison, mask_out,
    ite_mask, ite_self, foldl_mask, implies_true, *]

theorem execEmberPageInDone_mask (die : Nat) (s : State) (G : Fields) :
    G.regs → G.tim → G.hif → G.log → G.streams → G.pager0 → G.pager1 → G.mem → G.poison → G.out → ∀ t,
      execEmberPageInDone die s = .next t → t.mask G = s.mask G := by
  intros; rename_i h; injection h with h; subst h; simp only [State.pagerHead_mask, mask_regs, mask_tim, mask_hif,
    mask_log, mask_streams, mask_pager0, mask_pager1, mask_mem, mask_poison, mask_out, ite_mask, ite_self,
    foldl_mask, implies_true, *]

theorem execEmberWritebackDone_mask (die : Nat) (s : State) (G : Fields) :
    G.regs → G.tim → G.hif → G.log → G.streams → G.pager0 → G.pager1 → G.mem → G.poison → G.out → ∀ t,
      execEmberWritebackDone die s = .next t → t.mask G = s.mask G := by
  intros; rename_i h; injection h with h; subst h; simp only [State.pagerHead_mask, mask_regs, mask_tim, mask_hif,
    mask_log, mask_streams, mask_pager0, mask_pager1, mask_mem, mask_poison, mask_out, ite_mask, ite_self,
    foldl_mask, implies_true, *]

theorem State.setGreq_mask (s : State) (die : Nat) (q : List GReq) (G : Fields) :
    G.greq0 → G.greq1 → (State.setGreq s die q).mask G = s.mask G := by
  intros; simp only [State.setGreq, mask_greq0, mask_greq1, ite_mask, ite_self, foldl_mask, implies_true, *]

theorem State.gatherTake_mask (s : State) (die : Nat) (G : Fields) :
    G.greq0 → G.greq1 → G.gheld → (State.gatherTake s die).mask G = s.mask G := by
  intros; unfold State.gatherTake; apply foldl_mask; intros; split <;> simp only [State.setGreq_mask, mask_gheld, *]

theorem State.gatherIn_mask (s : State) (p : Pkt) (held : Option Held) (G : Fields) :
    G.regs → G.hif → G.log → G.rte → G.greq0 → G.greq1 → G.gheld → G.out → (State.gatherIn s p held).mask G = s.mask G
      := by
  intros; unfold State.gatherIn; dsimp only; (repeat' split) <;> simp only [State.release_mask, State.evt_mask,
    State.bump_mask, State.gatherTake_mask, State.setGreq_mask, mask_regs, mask_hif, mask_log, mask_rte, mask_greq0,
    mask_greq1, mask_gheld, mask_out, ite_mask, ite_self, foldl_mask, implies_true, *]

theorem State.gatherResp_mask (s : State) (t : GTab) (q : GReq) (all : List Byte) (off : Nat) (G : Fields) :
    G.regs → G.tim → G.hif → G.log → G.rte → G.out → (State.gatherResp s t q all off).mask G = s.mask G := by
  intros; simp only [State.gatherResp, State.nextSeq_mask, State.originate_mask, mask_regs, mask_tim, mask_hif,
    mask_log, mask_rte, mask_out, ite_mask, ite_self, foldl_mask, implies_true, *]

theorem State.gatherServe_mask (s : State) (q : GReq) (G : Fields) :
    G.regs → G.tim → G.hif → G.log → G.rte → G.mem → G.poison → G.out → (State.gatherServe s q).mask G = s.mask G :=
      by
  intros; unfold State.gatherServe; dsimp only; split
  · simp only [State.memDenied_mask, *]
  · rw [foldl_mask, foldl_mask] <;> intros <;> simp only [State.bump_mask, State.correct_mask, State.hbmBad_mask,
      State.gatherResp_mask, ite_mask, ite_self, *]

theorem execGatherServe_mask (k : Nat) (time : Nat) (s : State) (G : Fields) :
    G.regs → G.tim → G.hif → G.log → G.rte → G.greq0 → G.greq1 → G.gheld → G.mem → G.poison → G.out → ∀ t,
      execGatherServe k time s = .next t → t.mask G = s.mask G := by
  intros; rename_i h; injection h with h; subst h; dsimp only; (repeat' split) <;> simp only [State.gatherTake_mask,
    State.advTo_mask, State.gatherServe_mask, mask_regs, mask_tim, mask_hif, mask_log, mask_rte, mask_greq0,
    mask_greq1, mask_gheld, mask_mem, mask_poison, mask_out, mask_gheld, ite_mask, ite_self, foldl_mask, implies_true, *]

theorem State.setData3_mask (s : State) (o : Nat) (x : Nat) (G : Fields) :
    G.regs → (State.setData3 s o x).mask G = s.mask G := by
  intros; simp only [State.setData3, State.setReg_mask, mask_regs, ite_mask, ite_self, foldl_mask, implies_true, *]

theorem State.memTbl_mask (s : State) (path : Path) (o : Nat) (v : Word) (op : Bool) (f : State → State) (G : Fields)
  :
    G.regs → G.busy → G.hif → G.out → G.free → (∀ (y0 : State), (f y0).mask G = y0.mask G) → (State.memTbl s path o v
      op f).mask G = s.mask G := by
  intros; simp only [State.memTbl, State.evt_mask, State.tblOp_mask, mask_regs, mask_busy, mask_hif, mask_out,
    mask_free, ite_mask, ite_self, foldl_mask, implies_true, *]

theorem execMemRgnRead_mask (path : Path) (v : Word) (s : State) (G : Fields) :
    G.regs → G.busy → G.hif → G.out → G.free → ∀ t, execMemRgnRead path v s = .next t → t.mask G = s.mask G := by
  intros; rename_i h; injection h with h; subst h; simp only [State.memTbl_mask, State.setData3_mask,
    State.setFld_mask, mask_regs, mask_busy, mask_hif, mask_out, mask_free, ite_mask, ite_self, foldl_mask,
    implies_true, *]

theorem execMemRgnWrite_mask (path : Path) (v : Word) (s : State) (G : Fields) :
    G.regs → G.busy → G.hif → G.regions → G.out → G.free → ∀ t, execMemRgnWrite path v s = .next t → t.mask G =
      s.mask G := by
  intros; rename_i h; injection h with h; subst h; simp only [State.memTbl_mask, State.setFld_mask, mask_regs,
    mask_busy, mask_hif, mask_regions, mask_out, mask_free, ite_mask, ite_self, foldl_mask, implies_true, *]

theorem execMemGtblRead_mask (path : Path) (v : Word) (s : State) (G : Fields) :
    G.regs → G.busy → G.hif → G.out → G.free → ∀ t, execMemGtblRead path v s = .next t → t.mask G = s.mask G := by
  intros; rename_i h; injection h with h; subst h; simp only [State.memTbl_mask, State.setData3_mask,
    State.setFld_mask, mask_regs, mask_busy, mask_hif, mask_out, mask_free, ite_mask, ite_self, foldl_mask,
    implies_true, *]

theorem execMemGtblWrite_mask (path : Path) (v : Word) (s : State) (G : Fields) :
    G.regs → G.busy → G.hif → G.gtbl → G.out → G.free → ∀ t, execMemGtblWrite path v s = .next t → t.mask G = s.mask
      G := by
  intros; rename_i h; injection h with h; subst h; simp only [State.memTbl_mask, State.setFld_mask, mask_regs,
    mask_busy, mask_hif, mask_gtbl, mask_out, mask_free, ite_mask, ite_self, foldl_mask, implies_true, *]

theorem execMemGwinRead_mask (path : Path) (v : Word) (s : State) (G : Fields) :
    G.regs → G.busy → G.hif → G.out → G.free → ∀ t, execMemGwinRead path v s = .next t → t.mask G = s.mask G := by
  intros; rename_i h; injection h with h; subst h; simp only [State.memTbl_mask, State.setReg_mask,
    State.setFld_mask, mask_regs, mask_busy, mask_hif, mask_out, mask_free, ite_mask, ite_self, foldl_mask,
    implies_true, *]

theorem execMemGwinWrite_mask (path : Path) (v : Word) (s : State) (G : Fields) :
    G.regs → G.busy → G.hif → G.gwin → G.out → G.free → ∀ t, execMemGwinWrite path v s = .next t → t.mask G = s.mask
      G := by
  intros; rename_i h; injection h with h; subst h; simp only [State.memTbl_mask, State.setFld_mask, State.evt_mask,
    mask_regs, mask_busy, mask_hif, mask_gwin, mask_out, mask_free, ite_mask, ite_self, foldl_mask, implies_true, *]

theorem State.serveTokens_mask (s t : State) (l : List Nat) (G : Fields) :
    G.regs → G.tokens → s.serveTokens l = .inr t → t.mask G = s.mask G := by
  intro h1 h2 h
  induction l generalizing s with
  | nil => cases h; rfl
  | cons n l ih =>
    unfold State.serveTokens at h
    dsimp only at h
    split at h
    · rw [ih _ h]; simp only [State.takeToken_mask, *]
    · cases h

theorem execGsvcEnWrite_mask (path : Path) (v : Word) (s : State) (G : Fields) :
    G.regs → G.hif → G.tokens → G.greq0 → G.greq1 → G.gheld → G.out → ∀ t, execGsvcEnWrite path v s = .next t → t.mask
      G = s.mask G := by
  intros; rename_i h; obtain rfl := Host.Outcome.next.inj h
  split
  · dsimp only
    split
    · split
      · rename_i e; have := State.serveTokens_mask _ _ _ G (by assumption) (by assumption) e
        simp only [State.serveTokens_mask, State.gatherTake_mask, State.plainWrite_mask, State.tokenRefused_mask,
          State.dropToken_mask, mask_regs, mask_hif, mask_tokens, mask_greq0, mask_greq1, mask_gheld, mask_out,
          ite_mask, ite_self, foldl_mask, implies_true, *]
      · simp only [State.serveTokens_mask, State.gatherTake_mask, State.plainWrite_mask, State.tokenRefused_mask,
        State.dropToken_mask, mask_regs, mask_hif, mask_tokens, mask_greq0, mask_greq1, mask_gheld, mask_out, ite_mask,
        ite_self, foldl_mask, implies_true, *]
    · split <;> simp only [State.serveTokens_mask, State.gatherTake_mask, State.plainWrite_mask,
      State.tokenRefused_mask, State.dropToken_mask, mask_regs, mask_hif, mask_tokens, mask_greq0, mask_greq1,
      mask_gheld, mask_out, ite_mask, ite_self, foldl_mask, implies_true, *]
  · rfl

theorem State.hand_mask (s : State) (u : ForUnit) (G : Fields) :
    G.regs → G.tim → G.hif → G.log → G.subs → G.streams → G.rte → G.cel → G.groups → G.greq0 → G.greq1 → G.gheld →
      G.out → G.free → (State.hand s u).mask G = s.mask G := by
  intros; unfold State.hand; dsimp only; (repeat' split) <;> simp only [State.bump64_mask, State.groupRx_mask,
    State.gatherIn_mask, State.release_mask, State.residualIn_mask, State.rawChunkIn_mask, State.strDrop_mask,
    mask_regs, mask_tim, mask_hif, mask_log, mask_subs, mask_streams, mask_rte, mask_cel, mask_groups, mask_greq0,
    mask_greq1, mask_gheld, mask_out, mask_free, ite_mask, ite_self, foldl_mask, implies_true, *]

theorem State.rxLink_mask (s : State) (port : Nat) (sub : Nat) (rx : RxPkt) (arrival : Nat) (injected : Bool) (G : Fields) :
    G.regs → G.tim → G.hif → G.log → G.subs → G.lrep → G.streams → G.rte → G.cap → G.cel → G.groups → G.greq0 → G.greq1
      → G.gheld → G.mem → G.poison → G.out → G.free → (State.rxLink s port sub rx arrival injected).mask G = s.mask G
      := by
  intros; unfold State.rxLink; (try extract_lets +lift) <;> (repeat' split) <;> (try simp only [Prod.ext_iff] at *)
    <;> (try casesm* _ ∧ _) <;> (try subst_vars) <;> (try simp only [State.arrive_mask, State.hand_mask, mask_regs,
      mask_tim, mask_hif, mask_log, mask_subs, mask_lrep, mask_streams, mask_rte, mask_cap, mask_cel, mask_groups,
      mask_greq0, mask_greq1, mask_gheld, mask_mem, mask_poison, mask_out, mask_free, ite_mask, ite_self, foldl_mask,
      implies_true, *])

theorem State.rxOwn_mask (s : State) (want : Pkt → Bool) (G : Fields) :
    G.regs → G.tim → G.hif → G.log → G.subs → G.streams → G.rte → G.cel → G.groups → G.greq0 → G.greq1 → G.gheld →
      G.out → G.free → (State.rxOwn s want).mask G = s.mask G := by
  intros; unfold State.rxOwn; dsimp only; (repeat' split) <;> simp only [State.hand_mask, mask_regs, mask_tim,
    mask_hif, mask_log, mask_subs, mask_streams, mask_rte, mask_cel, mask_groups, mask_greq0, mask_greq1, mask_gheld,
    mask_out, mask_free, ite_mask, ite_self, foldl_mask, implies_true, *]

theorem State.rxUnit_mask (s : State) (want : Pkt → Bool) (src : RxSrc) (G : Fields) :
    G.regs → G.tim → G.hif → G.log → G.subs → G.lrep → G.streams → G.rte → G.cap → G.cel → G.groups → G.greq0 → G.greq1
      → G.gheld → G.mem → G.poison → G.out → G.free → (State.rxUnit s want src).mask G = s.mask G := by
  intros; unfold State.rxUnit; (repeat' split) <;> simp only [State.rxLink_mask, State.rxOwn_mask, mask_regs, mask_tim,
    mask_hif, mask_log, mask_subs, mask_lrep, mask_streams, mask_rte, mask_cap, mask_cel, mask_groups, mask_greq0,
    mask_greq1, mask_gheld, mask_mem, mask_poison, mask_out, mask_free, ite_mask, ite_self, foldl_mask, implies_true,
    *]

theorem execRoutedPacketRx_mask (port : Nat) (sub : Nat) (rx : RxPkt) (arrival : Nat) (s : State) (G : Fields) :
    G.regs → G.tim → G.hif → G.log → G.subs → G.lrep → G.streams → G.rte → G.cap → G.cel → G.groups → G.greq0 → G.greq1
      → G.gheld → G.mem → G.poison → G.out → G.free → ∀ t, execRoutedPacketRx port sub rx arrival s = .next t → t.mask
      G = s.mask G := by
  intros; rename_i h; injection h with h; subst h; simp only [State.rxLink_mask, mask_regs, mask_tim, mask_hif,
    mask_log, mask_subs, mask_lrep, mask_streams, mask_rte, mask_cap, mask_cel, mask_groups, mask_greq0, mask_greq1,
    mask_gheld, mask_mem, mask_poison, mask_out, mask_free, ite_mask, ite_self, foldl_mask, implies_true, *]

theorem execContribUpRx_mask (src : RxSrc) (s : State) (G : Fields) :
    G.regs → G.tim → G.hif → G.log → G.subs → G.lrep → G.streams → G.rte → G.cap → G.cel → G.groups → G.greq0 → G.greq1
      → G.gheld → G.mem → G.poison → G.out → G.free → ∀ t, execContribUpRx src s = .next t → t.mask G = s.mask G := by
  intros; rename_i h; injection h with h; subst h; simp only [State.rxUnit_mask, mask_regs, mask_tim, mask_hif,
    mask_log, mask_subs, mask_lrep, mask_streams, mask_rte, mask_cap, mask_cel, mask_groups, mask_greq0, mask_greq1,
    mask_gheld, mask_mem, mask_poison, mask_out, mask_free, ite_mask, ite_self, foldl_mask, implies_true, *]

theorem execContribDownRx_mask (src : RxSrc) (s : State) (G : Fields) :
    G.regs → G.tim → G.hif → G.log → G.subs → G.lrep → G.streams → G.rte → G.cap → G.cel → G.groups → G.greq0 → G.greq1
      → G.gheld → G.mem → G.poison → G.out → G.free → ∀ t, execContribDownRx src s = .next t → t.mask G = s.mask G :=
      by
  intros; rename_i h; injection h with h; subst h; simp only [State.rxUnit_mask, mask_regs, mask_tim, mask_hif,
    mask_log, mask_subs, mask_lrep, mask_streams, mask_rte, mask_cap, mask_cel, mask_groups, mask_greq0, mask_greq1,
    mask_gheld, mask_mem, mask_poison, mask_out, mask_free, ite_mask, ite_self, foldl_mask, implies_true, *]

theorem execFailureNoticeRx_mask (src : RxSrc) (s : State) (G : Fields) :
    G.regs → G.tim → G.hif → G.log → G.subs → G.lrep → G.streams → G.rte → G.cap → G.cel → G.groups → G.greq0 → G.greq1
      → G.gheld → G.mem → G.poison → G.out → G.free → ∀ t, execFailureNoticeRx src s = .next t → t.mask G = s.mask G :=
      by
  intros; rename_i h; injection h with h; subst h; simp only [State.rxUnit_mask, mask_regs, mask_tim, mask_hif,
    mask_log, mask_subs, mask_lrep, mask_streams, mask_rte, mask_cap, mask_cel, mask_groups, mask_greq0, mask_greq1,
    mask_gheld, mask_mem, mask_poison, mask_out, mask_free, ite_mask, ite_self, foldl_mask, implies_true, *]

theorem execSegsumRx_mask (src : RxSrc) (s : State) (G : Fields) :
    G.regs → G.tim → G.hif → G.log → G.subs → G.lrep → G.streams → G.rte → G.cap → G.cel → G.groups → G.greq0 → G.greq1
      → G.gheld → G.mem → G.poison → G.out → G.free → ∀ t, execSegsumRx src s = .next t → t.mask G = s.mask G := by
  intros; rename_i h; injection h with h; subst h; simp only [State.rxUnit_mask, mask_regs, mask_tim, mask_hif,
    mask_log, mask_subs, mask_lrep, mask_streams, mask_rte, mask_cap, mask_cel, mask_groups, mask_greq0, mask_greq1,
    mask_gheld, mask_mem, mask_poison, mask_out, mask_free, ite_mask, ite_self, foldl_mask, implies_true, *]

theorem execResidualRx_mask (src : RxSrc) (s : State) (G : Fields) :
    G.regs → G.tim → G.hif → G.log → G.subs → G.lrep → G.streams → G.rte → G.cap → G.cel → G.groups → G.greq0 → G.greq1
      → G.gheld → G.mem → G.poison → G.out → G.free → ∀ t, execResidualRx src s = .next t → t.mask G = s.mask G := by
  intros; rename_i h; injection h with h; subst h; simp only [State.rxUnit_mask, mask_regs, mask_tim, mask_hif,
    mask_log, mask_subs, mask_lrep, mask_streams, mask_rte, mask_cap, mask_cel, mask_groups, mask_greq0, mask_greq1,
    mask_gheld, mask_mem, mask_poison, mask_out, mask_free, ite_mask, ite_self, foldl_mask, implies_true, *]

theorem execRawChunkRx_mask (src : RxSrc) (s : State) (G : Fields) :
    G.regs → G.tim → G.hif → G.log → G.subs → G.lrep → G.streams → G.rte → G.cap → G.cel → G.groups → G.greq0 → G.greq1
      → G.gheld → G.mem → G.poison → G.out → G.free → ∀ t, execRawChunkRx src s = .next t → t.mask G = s.mask G := by
  intros; rename_i h; injection h with h; subst h; simp only [State.rxUnit_mask, mask_regs, mask_tim, mask_hif,
    mask_log, mask_subs, mask_lrep, mask_streams, mask_rte, mask_cap, mask_cel, mask_groups, mask_greq0, mask_greq1,
    mask_gheld, mask_mem, mask_poison, mask_out, mask_free, ite_mask, ite_self, foldl_mask, implies_true, *]

theorem execGatherReqRx_mask (src : RxSrc) (s : State) (G : Fields) :
    G.regs → G.tim → G.hif → G.log → G.subs → G.lrep → G.streams → G.rte → G.cap → G.cel → G.groups → G.greq0 → G.greq1
      → G.gheld → G.mem → G.poison → G.out → G.free → ∀ t, execGatherReqRx src s = .next t → t.mask G = s.mask G := by
  intros; rename_i h; injection h with h; subst h; simp only [State.rxUnit_mask, mask_regs, mask_tim, mask_hif,
    mask_log, mask_subs, mask_lrep, mask_streams, mask_rte, mask_cap, mask_cel, mask_groups, mask_greq0, mask_greq1,
    mask_gheld, mask_mem, mask_poison, mask_out, mask_free, ite_mask, ite_self, foldl_mask, implies_true, *]

end Sys2Proof.Machine
end

