-- ==== Sys2Proof/Laws/FrameTime.lean ====
section
/-! SUPPORT. What the schedule, lanes, time, the host and capture may change: with the named fields masked, the state after each operation is the state before. -/

set_option linter.unusedSimpArgs false
set_option linter.unusedTactic false
set_option linter.unreachableTactic false
set_option linter.unnecessarySeqFocus false

namespace Sys2Proof.Machine

theorem State.loadRecord_mask (s : State) (status : Nat) (detail : Nat) (G : Fields) :
    G.regs → G.hif → G.out → (State.loadRecord s status detail).mask G = s.mask G := by
  intros; simp only [State.loadRecord, State.setFld_mask, State.evt_mask, mask_regs, mask_hif, mask_out, ite_mask,
    ite_self, foldl_mask, implies_true, *]

theorem State.unload_mask (s : State) (G : Fields) :
    G.cel → G.img → G.mem → G.poison → G.regions → (State.unload s).mask G = s.mask G := by
  intros; rw [← State.zero_mask s (istoreKey 0 0) (istoreKey 1024 0) G (by assumption) (by assumption)]
  unfold State.unload
  generalize s.zero (istoreKey 0 0) (istoreKey 1024 0) = t
  simp only [State.mask, if_true, *]

theorem State.putRegions_mask (s : State) (rs : List RegionSec) (G : Fields) :
    G.regions → (State.putRegions s rs).mask G = s.mask G := by
  intros; unfold State.putRegions; apply foldl_mask; intros; split <;> simp only [mask_regions, *]

theorem execImageLoad_mask (d : Desc) (img : Image) (s : State) (G : Fields) :
    G.regs → G.tim → G.hif → G.cel → G.img → G.loading → G.mem → G.poison → G.regions → G.out → ∀ t, execImageLoad d
      img s = .next t → t.mask G = s.mask G := by
  intros; rename_i h; injection h with h; subst h; simp only [State.hostCmd_mask, State.cmdEnd_mask, State.setFld_mask,
    State.evt_mask, State.loadRecord_mask, State.putRegions_mask, State.unload_mask, mask_regs, mask_tim, mask_hif,
    mask_cel, mask_img, mask_loading, mask_mem, mask_poison, mask_regions, mask_out, ite_mask, ite_self, foldl_mask,
    implies_true, *]

theorem State.layoutWrite_mask (s : State) (o : Nat) (v : Word) (G : Fields) :
    G.regs → G.hif → G.out → (State.layoutWrite s o v).mask G = s.mask G := by
  intros; simp only [State.layoutWrite, State.bpmEvt_mask, State.celEvt_mask, State.plainWrite_mask, mask_regs,
    mask_hif, mask_out, ite_mask, ite_self, foldl_mask, implies_true, *]

theorem State.routeWrite_mask (s : State) (r : RouteEnt) (G : Fields) :
    G.regs → G.hif → G.rte → G.out → (State.routeWrite s r).mask G = s.mask G := by
  intros; simp only [State.routeWrite, State.rteSet_mask, State.rteEvt_mask, mask_regs, mask_hif, mask_rte, mask_out,
    ite_mask, ite_self, foldl_mask, implies_true, *]

theorem State.dataWrite_mask (s : State) (img : Image) (x : TensorRun) (G : Fields) :
    G.regs → G.hif → G.log → G.mem → G.poison → G.out → (State.dataWrite s img x).mask G = s.mask G := by
  intros; unfold State.dataWrite; dsimp only; (repeat' split) <;> simp only [State.wr_mask, State.memDenied_mask,
    mask_regs, mask_hif, mask_log, mask_mem, mask_poison, mask_out, ite_mask, ite_self, foldl_mask, implies_true, *]

theorem State.commitImage_mask (s : State) (img : Image) (G : Fields) :
    G.regs → G.hif → G.log → G.rte → G.gwin → G.img → G.loading → G.mem → G.poison → G.out → (State.commitImage s
      img).mask G = s.mask G := by
  intros; unfold State.commitImage
  extract_lets s1 s2 runs rte s3 s4 s5 s6 s7 s8 s9
  have h2 : s2.mask G = s.mask G := by
    simp only [s2, s1, State.wr_mask, State.dataWrite_mask, foldl_mask, implies_true, *]
  have h3 : s3.mask G = s.mask G := by simp only [s3, mask_rte, *]
  have h6 : s6.mask G = s.mask G := by
    simp only [s6, s5, s4, State.setFld_mask, State.routeWrite_mask, State.layoutWrite_mask, foldl_mask,
      implies_true, *]
  have h7 : s7.mask G = s.mask G := by simp only [s7, mask_gwin, *]
  have h9 : s9.mask G = s.mask G := by simp only [s9, s8, State.setReg_mask, *]
  clear_value s9
  rw [← h9]; simp only [State.mask, *, if_true]

theorem execImageLoadDone_mask (ok : Bool) (s : State) (G : Fields) :
    G.regs → G.hif → G.log → G.rte → G.gwin → G.img → G.loading → G.mem → G.poison → G.out → ∀ t, execImageLoadDone ok
      s = .next t → t.mask G = s.mask G := by
  intros; rename_i h; injection h with h; subst h; (repeat' split) <;> simp only [State.cmdDone_mask,
    State.loadRecord_mask, State.commitImage_mask, mask_regs, mask_hif, mask_log, mask_rte, mask_gwin, mask_img,
    mask_loading, mask_mem, mask_poison, mask_out, ite_mask, ite_self, foldl_mask, implies_true, *]

theorem State.replayEnd_mask (s : State) (code : Nat) (G : Fields) :
    G.regs → G.hif → G.rpl → G.out → (State.replayEnd s code).mask G = s.mask G := by
  intros; simp only [State.replayEnd, State.setFld_mask, State.evt_mask, mask_regs, mask_hif, mask_rpl, mask_out,
    ite_mask, ite_self, foldl_mask, implies_true, *]

theorem State.replayStart_mask (s : State) (G : Fields) :
    G.regs → G.rpl → G.free → (State.replayStart s).mask G = s.mask G := by
  intros; simp only [State.replayStart, State.setReg_mask, State.setFld_mask, State.freeWord_mask, mask_regs,
    mask_rpl, mask_free, ite_mask, ite_self, foldl_mask, implies_true, *]

theorem State.launchAt_mask (s : State) (start : Nat) (iters : Nat) (G : Fields) :
    G.regs → G.sched → G.rpl → G.free → (State.launchAt s start iters).mask G = s.mask G := by
  intros; simp only [State.launchAt, State.replayStart_mask, State.setReg_mask, mask_regs, mask_sched, mask_rpl,
    mask_free, ite_mask, ite_self, foldl_mask, implies_true, *]

theorem State.alertPin_mask (s : State) (was : Bool) (G : Fields) :
    G.out → (State.alertPin s was).mask G = s.mask G := by
  intros; simp only [State.alertPin, State.emit_mask, mask_out, ite_mask, ite_self, foldl_mask, implies_true, *]

theorem State.mgtEvt_mask (s : State) (bit : Nat) (G : Fields) :
    G.regs → G.hif → G.out → (State.mgtEvt s bit).mask G = s.mask G := by
  intros; simp only [State.mgtEvt, State.alertPin_mask, State.evt_mask, mask_regs, mask_hif, mask_out, ite_mask,
    ite_self, foldl_mask, implies_true, *]

theorem State.tapLapse_mask (s : State) (G : Fields) :
    G.regs → G.hif → G.mgt → G.out → (State.tapLapse s).mask G = s.mask G := by
  intros; simp only [State.tapLapse, State.mgtEvt_mask, mask_regs, mask_hif, mask_mgt, mask_out, ite_mask, ite_self,
    foldl_mask, implies_true, *]

theorem execSchedLaunch_mask (d : Desc) (start : Nat) (iters : Nat) (s : State) (G : Fields) :
    G.regs → G.tim → G.hif → G.sched → G.rpl → G.mgt → G.out → G.free → ∀ t, execSchedLaunch d start iters s = .next t
      → t.mask G = s.mask G := by
  intros; rename_i h; injection h with h; subst h; simp only [State.hostCmd_mask, State.evt_mask, State.cmdEnd_mask,
    State.tapLapse_mask, State.launchAt_mask, mask_regs, mask_tim, mask_hif, mask_sched, mask_rpl, mask_mgt, mask_out,
    mask_free, ite_mask, ite_self, foldl_mask, implies_true, *]

theorem execSchedStop_mask (d : Desc) (stopSlot : Nat) (s : State) (G : Fields) :
    G.regs → G.tim → G.hif → G.sched → G.out → ∀ t, execSchedStop d stopSlot s = .next t → t.mask G = s.mask G := by
  intros; rename_i h; injection h with h; subst h; simp only [State.cmdEnd_mask, State.hostCmd_mask, mask_regs,
    mask_tim, mask_hif, mask_sched, mask_out, ite_mask, ite_self, foldl_mask, implies_true, *]

theorem State.setQueue_mask (s : State) (die : Nat) (q : List QAction) (G : Fields) :
    G.sched → (State.setQueue s die q).mask G = s.mask G := by
  intros; simp only [State.setQueue, mask_sched, ite_mask, ite_self, foldl_mask, implies_true, *]

theorem execActionRefill_mask (die : Nat) (s : State) (G : Fields) :
    G.sched → ∀ t, execActionRefill die s = .next t → t.mask G = s.mask G := by
  intros; rename_i h; injection h with h; subst h; (repeat' split) <;> simp only [State.setQueue_mask, mask_sched,
    ite_mask, ite_self, foldl_mask, implies_true, *]

theorem State.dropHead_mask (s : State) (die : Nat) (G : Fields) :
    G.sched → (State.dropHead s die).mask G = s.mask G := by
  intros; simp only [State.dropHead, State.setQueue_mask, mask_sched, ite_mask, ite_self, foldl_mask, implies_true, *]

theorem State.takeHead_mask (s : State) (die : Nat) (kind : Nat) (act : State → QAction → Nat → State) (missed :
  State → QAction → Bool → State) (G : Fields) :
    G.regs → G.tim → G.hif → G.sched → G.out → (∀ (y0 : State) (y1 : QAction) (y2 : Nat), (act y0 y1 y2).mask G =
      y0.mask G) → (∀ (y0 : State) (y1 : QAction) (y2 : Bool), (missed y0 y1 y2).mask G = y0.mask G) →
      (State.takeHead s die kind act missed).mask G = s.mask G := by
  intros; unfold State.takeHead; dsimp only; (repeat' split) <;> simp only [State.dropHead_mask, State.toCyc_mask,
    State.bump_mask, State.bump16_mask, State.hazard_mask, mask_regs, mask_tim, mask_hif, mask_sched, mask_out,
    ite_mask, ite_self, foldl_mask, implies_true, *]

theorem State.image_mask (s : State) (f : Image → State) (G : Fields) :
    (∀ (y0 : Image), (f y0).mask G = s.mask G) → (State.image s f).mask G = s.mask G := by
  intros; unfold State.image; (repeat' split) <;> simp only [ite_mask, ite_self, foldl_mask, implies_true, *]

theorem State.cellMissed_mask (s : State) (a : QAction) (late : Bool) (G : Fields) :
    G.regs → G.hif → G.out → (State.cellMissed s a late).mask G = s.mask G := by
  intros; simp only [State.cellMissed, State.image_mask, State.cellNotRun_mask, mask_regs, mask_hif, mask_out,
    ite_mask, ite_self, foldl_mask, implies_true, *]

theorem State.mxuMissed_mask (s : State) (a : QAction) (late : Bool) (G : Fields) :
    G.regs → G.hif → G.mxu → G.out → (State.mxuMissed s a late).mask G = s.mask G := by
  intros; simp only [State.mxuMissed, State.image_mask, State.mxuNotRun_mask, mask_regs, mask_hif, mask_mxu,
    mask_out, ite_mask, ite_self, foldl_mask, implies_true, *]

theorem State.streamMissed_mask (s : State) (role : Nat) (a : QAction) (late : Bool) (G : Fields) :
    G.regs → G.hif → G.lrep → G.streams → G.strCmds → G.out → (State.streamMissed s role a late).mask G = s.mask G :=
      by
  intros; simp only [State.streamMissed, State.strMissed_mask, State.strDue_mask, mask_regs, mask_hif, mask_lrep,
    mask_streams, mask_strCmds, mask_out, ite_mask, ite_self, foldl_mask, implies_true, *]

theorem State.streamFire_mask (s : State) (role : Nat) (a : QAction) (f : State → Nat → State) (G : Fields) :
    G.regs → G.hif → G.lrep → G.streams → G.strCmds → G.out → (∀ (y0 : State) (y1 : Nat), (f y0 y1).mask G = y0.mask
      G) → (State.streamFire s role a f).mask G = s.mask G := by
  intros; simp only [State.streamFire, State.strDue_mask, mask_regs, mask_hif, mask_lrep, mask_streams, mask_strCmds,
    mask_out, ite_mask, ite_self, foldl_mask, implies_true, *]

theorem State.groupFire_mask (s : State) (a : QAction) (f : State → Nat → State) (G : Fields) :
    (∀ (y0 : State) (y1 : Nat), (f y0 y1).mask G = y0.mask G) → (State.groupFire s a f).mask G = s.mask G := by
  intros; unfold State.groupFire; dsimp only; (repeat' split) <;> simp only [ite_mask, ite_self, foldl_mask,
    implies_true, *]

theorem State.groupMissed_mask (s : State) (a : QAction) (late : Bool) (G : Fields) :
    G.regs → G.tim → G.hif → G.log → G.subs → G.rte → G.cel → G.groups → G.out → G.free → (State.groupMissed s a
      late).mask G = s.mask G := by
  intros; simp only [State.groupMissed, State.groupFire_mask, State.colMissed_mask, mask_regs, mask_tim, mask_hif,
    mask_log, mask_subs, mask_rte, mask_cel, mask_groups, mask_out, mask_free, ite_mask, ite_self, foldl_mask,
    implies_true, *]

theorem execCellLaunch_mask (die : Nat) (s : State) (G : Fields) :
    G.regs → G.tim → G.hif → G.sched → G.cells → G.cel → G.mem → G.poison → G.out → ∀ t, execCellLaunch die s = .next
      t → t.mask G = s.mask G := by
  intros; rename_i h; injection h with h; subst h
  apply State.takeHead_mask <;> (try assumption) <;> intros
  · apply State.image_mask; intros; simp only [State.takeHead_mask, State.image_mask, State.cellMissed_mask,
    State.fireLaunch_mask, mask_regs, mask_tim, mask_hif, mask_sched, mask_cells, mask_cel, mask_mem, mask_poison,
    mask_out, ite_mask, ite_self, foldl_mask, implies_true, *]
  · simp only [State.takeHead_mask, State.image_mask, State.cellMissed_mask, State.fireLaunch_mask, mask_regs,
    mask_tim, mask_hif, mask_sched, mask_cells, mask_cel, mask_mem, mask_poison, mask_out, ite_mask, ite_self,
    foldl_mask, implies_true, *]

theorem execMxuLaunch_mask (die : Nat) (s : State) (G : Fields) :
    G.regs → G.tim → G.hif → G.log → G.sched → G.mxu → G.tokens → G.out → ∀ t, execMxuLaunch die s = .next t → t.mask
      G = s.mask G := by
  intros; rename_i h; injection h with h; subst h
  apply State.takeHead_mask <;> (try assumption) <;> intros
  · apply State.image_mask; intros; simp only [State.takeHead_mask, State.image_mask, State.mxuMissed_mask,
    State.fireMxu_mask, mask_regs, mask_tim, mask_hif, mask_log, mask_sched, mask_mxu, mask_tokens, mask_out,
    ite_mask, ite_self, foldl_mask, implies_true, *]
  · simp only [State.takeHead_mask, State.image_mask, State.mxuMissed_mask, State.fireMxu_mask, mask_regs, mask_tim,
    mask_hif, mask_log, mask_sched, mask_mxu, mask_tokens, mask_out, ite_mask, ite_self, foldl_mask, implies_true, *]

theorem execStreamSend_mask (die : Nat) (s : State) (G : Fields) :
    G.regs → G.tim → G.hif → G.log → G.subs → G.lrep → G.streams → G.strCmds → G.pager0 → G.pager1 → G.rte → G.sched
      → G.mem → G.poison → G.out → G.free → ∀ t, execStreamSend die s = .next t → t.mask G = s.mask G := by
  intros; rename_i h; injection h with h; subst h
  apply State.takeHead_mask <;> (try assumption) <;> intros
  · apply State.streamFire_mask <;> (try assumption) <;> intros; simp only [State.takeHead_mask,
    State.streamMissed_mask, State.streamFire_mask, State.strSend_mask, mask_regs, mask_tim, mask_hif, mask_log,
    mask_subs, mask_lrep, mask_streams, mask_strCmds, mask_pager0, mask_pager1, mask_rte, mask_sched, mask_mem,
    mask_poison, mask_out, mask_free, ite_mask, ite_self, foldl_mask, implies_true, *]
  · simp only [State.takeHead_mask, State.streamMissed_mask, State.streamFire_mask, State.strSend_mask, mask_regs,
    mask_tim, mask_hif, mask_log, mask_subs, mask_lrep, mask_streams, mask_strCmds, mask_pager0, mask_pager1,
    mask_rte, mask_sched, mask_mem, mask_poison, mask_out, mask_free, ite_mask, ite_self, foldl_mask, implies_true, *]

theorem execStreamDecode_mask (die : Nat) (s : State) (G : Fields) :
    G.regs → G.tim → G.hif → G.log → G.subs → G.lrep → G.streams → G.strCmds → G.pager0 → G.pager1 → G.rte → G.sched
      → G.cap → G.mem → G.poison → G.out → ∀ t, execStreamDecode die s = .next t → t.mask G = s.mask G := by
  intros; rename_i h; injection h with h; subst h
  apply State.takeHead_mask <;> (try assumption) <;> intros
  · apply State.streamFire_mask <;> (try assumption) <;> intros; simp only [State.takeHead_mask,
    State.streamMissed_mask, State.streamFire_mask, State.strDecode_mask, mask_regs, mask_tim, mask_hif, mask_log,
    mask_subs, mask_lrep, mask_streams, mask_strCmds, mask_pager0, mask_pager1, mask_rte, mask_sched, mask_cap,
    mask_mem, mask_poison, mask_out, ite_mask, ite_self, foldl_mask, implies_true, *]
  · simp only [State.takeHead_mask, State.streamMissed_mask, State.streamFire_mask, State.strDecode_mask, mask_regs,
    mask_tim, mask_hif, mask_log, mask_subs, mask_lrep, mask_streams, mask_strCmds, mask_pager0, mask_pager1,
    mask_rte, mask_sched, mask_cap, mask_mem, mask_poison, mask_out, ite_mask, ite_self, foldl_mask, implies_true, *]

theorem execStreamUpdate_mask (die : Nat) (s : State) (G : Fields) :
    G.regs → G.tim → G.hif → G.lrep → G.streams → G.strCmds → G.pager0 → G.pager1 → G.sched → G.mxu → G.tokens → G.out
      → ∀ t, execStreamUpdate die s = .next t → t.mask G = s.mask G := by
  intros; rename_i h; injection h with h; subst h
  apply State.takeHead_mask <;> (try assumption) <;> intros
  · apply State.streamFire_mask <;> (try assumption) <;> intros; simp only [State.takeHead_mask, State.streamFire_mask,
    State.strUpdate_mask, State.streamMissed_mask, mask_regs, mask_tim, mask_hif, mask_lrep, mask_streams,
    mask_strCmds, mask_pager0, mask_pager1, mask_sched, mask_mxu, mask_tokens, mask_out, ite_mask, ite_self,
    foldl_mask, implies_true, *]
  · simp only [State.takeHead_mask, State.streamFire_mask, State.strUpdate_mask, State.streamMissed_mask, mask_regs,
    mask_tim, mask_hif, mask_lrep, mask_streams, mask_strCmds, mask_pager0, mask_pager1, mask_sched, mask_mxu,
    mask_tokens, mask_out, ite_mask, ite_self, foldl_mask, implies_true, *]

theorem execPrefetch_mask (die : Nat) (s : State) (G : Fields) :
    G.regs → G.tim → G.hif → G.log → G.sched → G.pf0 → G.pf1 → G.mem → G.poison → G.out → ∀ t, execPrefetch die s =
      .next t → t.mask G = s.mask G := by
  intros; rename_i h; injection h with h; subst h
  apply State.takeHead_mask <;> (try assumption) <;> intros
  · apply State.image_mask; intros; simp only [State.takeHead_mask, State.image_mask, State.firePf_mask, mask_regs,
    mask_tim, mask_hif, mask_log, mask_sched, mask_pf0, mask_pf1, mask_mem, mask_poison, mask_out, ite_mask, ite_self,
    foldl_mask, implies_true, *]
  · simp only [State.takeHead_mask, State.image_mask, State.firePf_mask, mask_regs, mask_tim, mask_hif, mask_log,
    mask_sched, mask_pf0, mask_pf1, mask_mem, mask_poison, mask_out, ite_mask, ite_self, foldl_mask, implies_true, *]

theorem execColStart_mask (die : Nat) (s : State) (G : Fields) :
    G.regs → G.tim → G.hif → G.log → G.subs → G.rte → G.sched → G.cel → G.groups → G.out → G.free → ∀ t, execColStart
      die s = .next t → t.mask G = s.mask G := by
  intros; rename_i h; injection h with h; subst h
  apply State.takeHead_mask <;> (try assumption) <;> intros
  · apply State.groupFire_mask <;> (try assumption) <;> intros; simp only [State.takeHead_mask, State.groupFire_mask,
    State.groupMissed_mask, State.colStart_mask, mask_regs, mask_tim, mask_hif, mask_log, mask_subs, mask_rte,
    mask_sched, mask_cel, mask_groups, mask_out, mask_free, ite_mask, ite_self, foldl_mask, implies_true, *]
  · simp only [State.takeHead_mask, State.groupFire_mask, State.groupMissed_mask, State.colStart_mask, mask_regs,
    mask_tim, mask_hif, mask_log, mask_subs, mask_rte, mask_sched, mask_cel, mask_groups, mask_out, mask_free,
    ite_mask, ite_self, foldl_mask, implies_true, *]

theorem execColLaunch_mask (die : Nat) (s : State) (G : Fields) :
    G.regs → G.tim → G.hif → G.log → G.subs → G.rte → G.sched → G.cells → G.cel → G.groups → G.mem → G.poison → G.out
      → G.free → ∀ t, execColLaunch die s = .next t → t.mask G = s.mask G := by
  intros; rename_i h; injection h with h; subst h
  apply State.takeHead_mask <;> (try assumption) <;> intros
  · apply State.groupFire_mask <;> (try assumption) <;> intros; simp only [State.takeHead_mask, State.groupFire_mask,
    State.groupMissed_mask, State.colLaunch_mask, mask_regs, mask_tim, mask_hif, mask_log, mask_subs, mask_rte,
    mask_sched, mask_cells, mask_cel, mask_groups, mask_mem, mask_poison, mask_out, mask_free, ite_mask, ite_self,
    foldl_mask, implies_true, *]
  · simp only [State.takeHead_mask, State.groupFire_mask, State.groupMissed_mask, State.colLaunch_mask, mask_regs,
    mask_tim, mask_hif, mask_log, mask_subs, mask_rte, mask_sched, mask_cells, mask_cel, mask_groups, mask_mem,
    mask_poison, mask_out, mask_free, ite_mask, ite_self, foldl_mask, implies_true, *]

theorem execColUp_mask (die : Nat) (s : State) (G : Fields) :
    G.regs → G.tim → G.hif → G.log → G.subs → G.rte → G.sched → G.cel → G.groups → G.out → G.free → ∀ t, execColUp
      die s = .next t → t.mask G = s.mask G := by
  intros; rename_i h; injection h with h; subst h
  apply State.takeHead_mask <;> (try assumption) <;> intros
  · apply State.groupFire_mask <;> (try assumption) <;> intros; simp only [State.takeHead_mask, State.groupFire_mask,
    State.groupMissed_mask, State.colUp_mask, mask_regs, mask_tim, mask_hif, mask_log, mask_subs, mask_rte,
    mask_sched, mask_cel, mask_groups, mask_out, mask_free, ite_mask, ite_self, foldl_mask, implies_true, *]
  · simp only [State.takeHead_mask, State.groupFire_mask, State.groupMissed_mask, State.colUp_mask, mask_regs,
    mask_tim, mask_hif, mask_log, mask_subs, mask_rte, mask_sched, mask_cel, mask_groups, mask_out, mask_free,
    ite_mask, ite_self, foldl_mask, implies_true, *]

theorem execColDown_mask (die : Nat) (s : State) (G : Fields) :
    G.regs → G.tim → G.hif → G.log → G.subs → G.rte → G.sched → G.cel → G.groups → G.out → G.free → ∀ t, execColDown
      die s = .next t → t.mask G = s.mask G := by
  intros; rename_i h; injection h with h; subst h
  apply State.takeHead_mask <;> (try assumption) <;> intros
  · apply State.groupFire_mask <;> (try assumption) <;> intros; simp only [State.takeHead_mask, State.groupFire_mask,
    State.groupMissed_mask, State.colDown_mask, mask_regs, mask_tim, mask_hif, mask_log, mask_subs, mask_rte,
    mask_sched, mask_cel, mask_groups, mask_out, mask_free, ite_mask, ite_self, foldl_mask, implies_true, *]
  · simp only [State.takeHead_mask, State.groupFire_mask, State.groupMissed_mask, State.colDown_mask, mask_regs,
    mask_tim, mask_hif, mask_log, mask_subs, mask_rte, mask_sched, mask_cel, mask_groups, mask_out, mask_free,
    ite_mask, ite_self, foldl_mask, implies_true, *]

theorem State.restAt_mask (s : State) (a : QAction) (G : Fields) :
    G.regs → G.subs → G.out → (State.restAt s a).mask G = s.mask G := by
  intros; simp only [State.restAt, State.restSched_mask, State.setSub_mask, mask_regs, mask_subs, mask_out, ite_mask,
    ite_self, foldl_mask, implies_true, *]

theorem execPortRest_mask (die : Nat) (s : State) (G : Fields) :
    G.regs → G.tim → G.hif → G.subs → G.sched → G.out → ∀ t, execPortRest die s = .next t → t.mask G = s.mask G := by
  intros; rename_i h; injection h with h; subst h; simp only [State.takeHead_mask, State.restAt_mask, mask_regs,
    mask_tim, mask_hif, mask_subs, mask_sched, mask_out, ite_mask, ite_self, foldl_mask, implies_true, *]

theorem State.missedAct_mask (s : State) (a : QAction) (G : Fields) :
    G.regs → G.tim → G.hif → G.log → G.subs → G.lrep → G.streams → G.strCmds → G.rte → G.cel → G.groups → G.mxu →
      G.out → G.free → (State.missedAct s a).mask G = s.mask G := by
  intros; simp only [State.missedAct, State.cellMissed_mask, State.mxuMissed_mask, State.streamMissed_mask,
    State.groupMissed_mask, mask_regs, mask_tim, mask_hif, mask_log, mask_subs, mask_lrep, mask_streams,
    mask_strCmds, mask_rte, mask_cel, mask_groups, mask_mxu, mask_out, mask_free, ite_mask, ite_self, foldl_mask,
    implies_true, *]

theorem State.skipListed_mask (s : State) (die : Nat) (first : Nat) (stop : Nat) (x4 : Nat) (G : Fields) :
    G.regs → G.tim → G.hif → G.log → G.subs → G.lrep → G.streams → G.strCmds → G.rte → G.sched → G.cel → G.groups →
      G.mxu → G.out → G.free → (State.skipListed s die first stop x4).mask G = s.mask G := by
  intros
  induction x4 generalizing s with
  | zero => rfl
  | succ n ih =>
    unfold State.skipListed; dsimp only
    (repeat' split) <;> (try subst_vars) <;> simp only [ih, State.missedAct_mask, State.bump_mask, mask_sched, *]

theorem State.skipQueued_mask (s : State) (die : Nat) (first : Nat) (stop : Nat) (G : Fields) :
    G.regs → G.tim → G.hif → G.log → G.subs → G.lrep → G.streams → G.strCmds → G.rte → G.sched → G.cel → G.groups →
      G.mxu → G.out → G.free → (State.skipQueued s die first stop).mask G = s.mask G := by
  intros; simp only [State.skipQueued, State.missedAct_mask, State.bump_mask, State.setQueue_mask, mask_regs, mask_tim,
    mask_hif, mask_log, mask_subs, mask_lrep, mask_streams, mask_strCmds, mask_rte, mask_sched, mask_cel, mask_groups,
    mask_mxu, mask_out, mask_free, ite_mask, ite_self, foldl_mask, implies_true, *]

theorem State.skipDie_mask (s : State) (die : Nat) (first : Nat) (stop : Nat) (G : Fields) :
    G.regs → G.tim → G.hif → G.log → G.subs → G.lrep → G.streams → G.strCmds → G.rte → G.sched → G.cel → G.groups →
      G.mxu → G.out → G.free → (State.skipDie s die first stop).mask G = s.mask G := by
  intros; simp only [State.skipDie, State.skipListed_mask, State.skipQueued_mask, *]

theorem State.skipActions_mask (s : State) (first : Nat) (stop : Nat) (G : Fields) :
    G.regs → G.tim → G.hif → G.log → G.subs → G.lrep → G.streams → G.strCmds → G.rte → G.sched → G.cel → G.groups →
      G.mxu → G.out → G.free → (State.skipActions s first stop).mask G = s.mask G := by
  intros; simp only [State.skipActions, State.skipDie_mask, mask_regs, mask_tim, mask_hif, mask_log, mask_subs,
    mask_lrep, mask_streams, mask_strCmds, mask_rte, mask_sched, mask_cel, mask_groups, mask_mxu, mask_out,
    mask_free, ite_mask, ite_self, foldl_mask, implies_true, *]

theorem State.cmdsEnd_mask (s : State) (nos : List Nat) (G : Fields) :
    G.regs → G.hif → G.out → (State.cmdsEnd s nos).mask G = s.mask G := by
  intros; simp only [State.cmdsEnd, State.cmdDone_mask, mask_regs, mask_hif, mask_out, ite_mask, ite_self, foldl_mask,
    implies_true, *]

theorem State.endSched_mask (s : State) (e : Nat) (G : Fields) :
    G.regs → G.tim → G.hif → G.log → G.subs → G.rte → G.sched → G.rpl → G.cel → G.groups → G.img → G.mem → G.poison →
      G.regions → G.out → G.free → (State.endSched s e).mask G = s.mask G := by
  intros; simp only [State.endSched, State.replayEnd_mask, State.colStopAll_mask, State.advTo_mask, State.cmdsEnd_mask,
    State.unload_mask, State.fnEvt_mask, mask_regs, mask_tim, mask_hif, mask_log, mask_subs, mask_rte, mask_sched,
    mask_rpl, mask_cel, mask_groups, mask_img, mask_mem, mask_poison, mask_regions, mask_out, mask_free, ite_mask,
    ite_self, foldl_mask, implies_true, *]

theorem State.schedDone_mask (s : State) (byStop : Bool) (G : Fields) :
    G.regs → G.tim → G.hif → G.log → G.subs → G.rte → G.sched → G.rpl → G.cel → G.groups → G.img → G.mem → G.poison →
      G.regions → G.out → G.free → (State.schedDone s byStop).mask G = s.mask G := by
  intros; unfold State.schedDone; dsimp only; (repeat' split) <;> simp only [State.endSched_mask, mask_regs,
    mask_tim, mask_hif, mask_log, mask_subs, mask_rte, mask_sched, mask_rpl, mask_cel, mask_groups, mask_img,
    mask_mem, mask_poison, mask_regions, mask_out, mask_free, ite_mask, ite_self, foldl_mask, implies_true, *]

theorem execSchedStopDone_mask (s : State) (G : Fields) :
    G.regs → G.tim → G.hif → G.log → G.subs → G.rte → G.sched → G.rpl → G.cel → G.groups → G.img → G.mem → G.poison →
      G.regions → G.out → G.free → ∀ t, execSchedStopDone s = .next t → t.mask G = s.mask G := by
  intros; rename_i h; injection h with h; subst h; simp only [State.schedDone_mask, mask_regs, mask_tim, mask_hif,
    mask_log, mask_subs, mask_rte, mask_sched, mask_rpl, mask_cel, mask_groups, mask_img, mask_mem, mask_poison,
    mask_regions, mask_out, mask_free, ite_mask, ite_self, foldl_mask, implies_true, *]

theorem execSchedItersEnd_mask (s : State) (G : Fields) :
    G.regs → G.tim → G.hif → G.log → G.subs → G.rte → G.sched → G.rpl → G.cel → G.groups → G.img → G.mem → G.poison →
      G.regions → G.out → G.free → ∀ t, execSchedItersEnd s = .next t → t.mask G = s.mask G := by
  intros; rename_i h; injection h with h; subst h; simp only [State.schedDone_mask, mask_regs, mask_tim, mask_hif,
    mask_log, mask_subs, mask_rte, mask_sched, mask_rpl, mask_cel, mask_groups, mask_img, mask_mem, mask_poison,
    mask_regions, mask_out, mask_free, ite_mask, ite_self, foldl_mask, implies_true, *]

theorem State.stcUp_mask (s : State) (n : Nat) (G : Fields) :
    G.regs → G.tim → G.hif → G.lanes → G.out → (State.stcUp s n).mask G = s.mask G := by
  intros; simp only [State.stcUp, State.setSrcUp_mask, State.setLane_mask, State.lneEvt_mask, mask_regs, mask_tim,
    mask_hif, mask_lanes, mask_out, ite_mask, ite_self, foldl_mask, implies_true, *]

theorem State.stcDown_mask (s : State) (n : Nat) (cause : Nat) (G : Fields) :
    G.regs → G.tim → G.hif → G.log → G.lanes → G.mgt → G.out → (State.stcDown s n cause).mask G = s.mask G := by
  intros; simp only [State.stcDown, State.setSrcUp_mask, State.noSource_mask, State.relayClose_mask, State.bump_mask,
    State.offer_mask, State.setLane_mask, State.lneEvt_mask, mask_regs, mask_tim, mask_hif, mask_log, mask_lanes,
    mask_mgt, mask_out, ite_mask, ite_self, foldl_mask, implies_true, *]

theorem execStcLaneUp_mask (n : Nat) (s : State) (G : Fields) :
    G.regs → G.tim → G.hif → G.lanes → G.out → ∀ t, execStcLaneUp n s = .next t → t.mask G = s.mask G := by
  intros; rename_i h; injection h with h; subst h; simp only [State.stcUp_mask, mask_regs, mask_tim, mask_hif,
    mask_lanes, mask_out, ite_mask, ite_self, foldl_mask, implies_true, *]

theorem State.stcCount_mask (s : State) (n : Nat) (codes : Nat) (disps : Nat) (G : Fields) :
    G.regs → (State.stcCount s n codes disps).mask G = s.mask G := by
  intros; simp only [State.stcCount, State.bump_mask, mask_regs, ite_mask, ite_self, foldl_mask, implies_true, *]

theorem execStcLaneDown_mask (n : Nat) (codeErrs : Nat) (dispErrs : Nat) (s : State) (G : Fields) :
    G.regs → G.tim → G.hif → G.log → G.lanes → G.mgt → G.out → ∀ t, execStcLaneDown n codeErrs dispErrs s = .next t →
      t.mask G = s.mask G := by
  intros; rename_i h; injection h with h; subst h; simp only [State.stcCount_mask, State.stcDown_mask, mask_regs,
    mask_tim, mask_hif, mask_log, mask_lanes, mask_mgt, mask_out, ite_mask, ite_self, foldl_mask, implies_true, *]

theorem State.sendTo_mask (s : State) (i : Nat) (k : Nat) (G : Fields) :
    G.lanes → G.out → (State.sendTo s i k).mask G = s.mask G := by
  intros; simp only [State.sendTo, State.emit_mask, State.setLane_mask, mask_lanes, mask_out, ite_mask, ite_self,
    foldl_mask, implies_true, *]

theorem State.stcTake_mask (s : State) (n : Nat) (k : Nat) (xs : List StcSym) (G : Fields) :
    G.lanes → G.out → (State.stcTake s n k xs).mask G = s.mask G := by
  intros; simp only [State.stcTake, State.sendTo_mask, State.setLane_mask, mask_lanes, mask_out, ite_mask, ite_self,
    foldl_mask, implies_true, *]

theorem State.sendFrame_mask (s : State) (n : Nat) (type : Nat) (payload : List Byte) (G : Fields) :
    G.lanes → G.out → (State.sendFrame s n type payload).mask G = s.mask G := by
  intros; simp only [State.sendFrame, State.stcTake_mask, State.emit_mask, mask_lanes, mask_out, ite_mask, ite_self,
    foldl_mask, implies_true, *]

theorem State.abortFrame_mask (s : State) (n : Nat) (type : Nat) (payload : List Byte) (j : Nat) (G : Fields) :
    G.lanes → G.out → (State.abortFrame s n type payload j).mask G = s.mask G := by
  intros; simp only [State.abortFrame, State.emit_mask, State.stcTake_mask, mask_lanes, mask_out, ite_mask, ite_self,
    foldl_mask, implies_true, *]

theorem execStcFrameTx_mask (n : Nat) (type : Nat) (payload : List Byte) (stop : Option Nat) (s : State) (G : Fields) :
    G.lanes → G.mgt → G.out → ∀ t, execStcFrameTx n type payload stop s = .next t → t.mask G = s.mask G := by
  intros; rename_i h; injection h with h; subst h; dsimp only; (repeat' split) <;> simp only [State.abortFrame_mask,
    State.sendFrame_mask, mask_mgt, *]

theorem State.stcErrs_mask (s : State) (n : Nat) (xs : List RxSym) (G : Fields) :
    G.regs → (State.stcErrs s n xs).mask G = s.mask G := by
  intros; simp only [State.stcErrs, State.stcCount_mask, mask_regs, ite_mask, ite_self, foldl_mask, implies_true, *]

theorem State.stcBad_mask (s : State) (n : Nat) (xs : List RxSym) (G : Fields) :
    G.regs → G.tim → G.hif → G.log → G.lanes → G.mgt → G.out → (State.stcBad s n xs).mask G = s.mask G := by
  intros; simp only [State.stcBad, State.stcDown_mask, mask_regs, mask_tim, mask_hif, mask_log, mask_lanes, mask_mgt,
    mask_out, ite_mask, ite_self, foldl_mask, implies_true, *]

theorem execStcFrameRx_mask (n : Nat) (syms : List Nat) (s : State) (G : Fields) :
    G.regs → G.tim → G.hif → G.log → G.lanes → G.mgt → G.out → ∀ t, execStcFrameRx n syms s = .next t → t.mask G =
      s.mask G := by
  intros; rename_i h; injection h with h; subst h; dsimp only; split <;> (try rfl)
  rw [State.stcBad_mask]
  · (repeat' split) <;> simp only [State.stcErrs_mask, State.bump_mask, State.setLane_mask, *]
  all_goals assumption

theorem State.testChange_mask (s : State) (i : Nat) (was : Bool) (now : Bool) (G : Fields) :
    G.regs → G.tim → G.hif → G.log → G.subs → G.lanes → G.lrep → G.streams → G.rte → G.mgt → G.out →
      (State.testChange s i was now).mask G = s.mask G := by
  intros; unfold State.testChange; dsimp only; (repeat' split) <;> simp only [State.stcDown_mask,
    State.linkLost_mask, State.restart_mask, State.setSub_mask, mask_regs, mask_tim, mask_hif, mask_log, mask_subs,
    mask_lanes, mask_lrep, mask_streams, mask_rte, mask_mgt, mask_out, ite_mask, ite_self, foldl_mask, implies_true,
    *]

theorem State.patRestart_mask (s : State) (i : Nat) (o : Nat) (G : Fields) :
    G.lanes → (State.patRestart s i o).mask G = s.mask G := by
  intros; simp only [State.patRestart, State.setLane_mask, mask_lanes, ite_mask, ite_self, foldl_mask, implies_true,
    *]

theorem State.sendNow_mask (s : State) (i : Nat) (G : Fields) :
    G.lanes → G.out → (State.sendNow s i).mask G = s.mask G := by
  intros; simp only [State.sendNow, State.sendTo_mask, mask_lanes, mask_out, ite_mask, ite_self, foldl_mask,
    implies_true, *]

theorem State.lneModeWrite_mask (s : State) (i : Nat) (o : Nat) (v : Word) (G : Fields) :
    G.regs → G.tim → G.hif → G.log → G.subs → G.lanes → G.lrep → G.streams → G.rte → G.mgt → G.out →
      (State.lneModeWrite s i o v).mask G = s.mask G := by
  intros; simp only [State.lneModeWrite, State.sendNow_mask, State.plainWrite_mask, State.patRestart_mask,
    State.setLane_mask, State.stcDown_mask, State.testChange_mask, mask_regs, mask_tim, mask_hif, mask_log, mask_subs,
    mask_lanes, mask_lrep, mask_streams, mask_rte, mask_mgt, mask_out, ite_mask, ite_self, foldl_mask, implies_true, *]

theorem execLneTestModeWrite_mask (path : Path) (off : Nat) (v : Word) (s : State) (G : Fields) :
    G.regs → G.tim → G.hif → G.log → G.subs → G.lanes → G.lrep → G.streams → G.rte → G.mgt → G.out → ∀ t,
      execLneTestModeWrite path off v s = .next t → t.mask G = s.mask G := by
  intros; rename_i h; injection h with h; subst h; simp only [State.lneModeWrite_mask, mask_regs, mask_tim, mask_hif,
    mask_log, mask_subs, mask_lanes, mask_lrep, mask_streams, mask_rte, mask_mgt, mask_out, ite_mask, ite_self,
    foldl_mask, implies_true, *]

theorem State.invertAt_mask (s : State) (i : Nat) (k : Nat) (n : Nat) (G : Fields) :
    G.regs → G.lanes → G.out → (State.invertAt s i k n).mask G = s.mask G := by
  intros; simp only [State.invertAt, State.sendTo_mask, State.setLane_mask, State.emit_mask, State.bump_mask,
    mask_regs, mask_lanes, mask_out, ite_mask, ite_self, foldl_mask, implies_true, *]

theorem State.lneInject_mask (s : State) (i : Nat) (v : Word) (G : Fields) :
    G.regs → G.lanes → G.out → (State.lneInject s i v).mask G = s.mask G := by
  intros; simp only [State.lneInject, State.plainWrite_mask, State.setLane_mask, State.invertAt_mask, mask_regs,
    mask_lanes, mask_out, ite_mask, ite_self, foldl_mask, implies_true, *]

theorem execLneInjectFire_mask (path : Path) (i : Nat) (v : Word) (s : State) (G : Fields) :
    G.regs → G.lanes → G.out → ∀ t, execLneInjectFire path i v s = .next t → t.mask G = s.mask G := by
  intros; rename_i h; injection h with h; subst h; simp only [State.lneInject_mask, mask_regs, mask_lanes, mask_out,
    ite_mask, ite_self, foldl_mask, implies_true, *]

theorem execInjectRateExpire_mask (i : Nat) (s : State) (G : Fields) :
    G.regs → G.tim → G.lanes → G.out → ∀ t, execInjectRateExpire i s = .next t → t.mask G = s.mask G := by
  intros; rename_i h; injection h with h; subst h; simp only [State.advTo_mask, State.setLane_mask,
    State.invertAt_mask, mask_regs, mask_tim, mask_lanes, mask_out, ite_mask, ite_self, foldl_mask, implies_true, *]

theorem State.bump48_mask (s : State) (o : Nat) (n : Nat) (G : Fields) :
    G.regs → (State.bump48 s o n).mask G = s.mask G := by
  intros; simp only [State.bump48, State.setReg_mask, mask_regs, ite_mask, ite_self, foldl_mask, implies_true, *]

theorem State.ownBits_mask (s : State) (i : Nat) (n : Nat) (G : Fields) :
    G.free → (State.ownBits s i n).2.mask G = s.mask G := by
  intros; simp only [State.ownBits, mask_free, ite_snd_mask, ite_self, foldl_mask, implies_true, *]

theorem State.loopBits_mask (s : State) (i : Nat) (n : Nat) (G : Fields) :
    G.lanes → G.free → (State.loopBits s i n).2.mask G = s.mask G := by
  intros; simp only [State.loopBits, State.ownBits_mask, State.setLane_mask, mask_lanes, mask_free, ite_snd_mask, ite_self,
    foldl_mask, implies_true, *]

theorem State.rxBits_mask (s : State) (i : Nat) (bs : List Bool) (G : Fields) :
    G.lanes → G.free → (State.rxBits s i bs).2.mask G = s.mask G := by
  intros; unfold State.rxBits; dsimp only; (repeat' split) <;> simp only [State.loopBits_mask, mask_lanes, mask_free,
    ite_mask, ite_self, foldl_mask, implies_true, *]

theorem State.checkBits_mask (s : State) (i : Nat) (bs : List Bool) (G : Fields) :
    G.regs → G.hif → G.lanes → G.out → G.free → (State.checkBits s i bs).mask G = s.mask G := by
  intros; simp only [State.checkBits, State.rxBits_mask, State.bump48_mask, State.setLane_mask, State.lneEvt_mask,
    mask_regs, mask_hif, mask_lanes, mask_out, mask_free, ite_mask, ite_self, foldl_mask, implies_true, *]

theorem State.retime_mask (s : State) (i : Nat) (bs : List Bool) (G : Fields) :
    G.lanes → G.out → (State.retime s i bs).mask G = s.mask G := by
  intros; simp only [State.retime, State.emit_mask, State.setLane_mask, mask_lanes, mask_out, ite_mask, ite_self,
    foldl_mask, implies_true, *]

theorem execCheckerLock_mask (i : Nat) (bits : List Bool) (s : State) (G : Fields) :
    G.regs → G.hif → G.lanes → G.out → G.free → ∀ t, execCheckerLock i bits s = .next t → t.mask G = s.mask G := by
  intros; rename_i h; injection h with h; subst h; simp only [State.retime_mask, State.checkBits_mask, mask_regs,
    mask_hif, mask_lanes, mask_out, mask_free, ite_mask, ite_self, foldl_mask, implies_true, *]

theorem execCheckerLockLost_mask (i : Nat) (bits : List Bool) (s : State) (G : Fields) :
    G.regs → G.hif → G.lanes → G.out → G.free → ∀ t, execCheckerLockLost i bits s = .next t → t.mask G = s.mask G := by
  intros; rename_i h; injection h with h; subst h; simp only [State.checkBits_mask, State.retime_mask, mask_regs,
    mask_hif, mask_lanes, mask_out, mask_free, ite_mask, ite_self, foldl_mask, implies_true, *]

theorem State.lnePatchk_mask (s : State) (i : Nat) (v : Word) (G : Fields) :
    G.regs → G.tim → G.hif → G.log → G.subs → G.lanes → G.lrep → G.streams → G.rte → G.mgt → G.out → (State.lnePatchk
      s i v).mask G = s.mask G := by
  intros; simp only [State.lnePatchk, State.lneModeWrite_mask, State.setReg_mask, mask_regs, mask_tim, mask_hif,
    mask_log, mask_subs, mask_lanes, mask_lrep, mask_streams, mask_rte, mask_mgt, mask_out, ite_mask, ite_self,
    foldl_mask, implies_true, *]

theorem execLnePatchkClear_mask (path : Path) (i : Nat) (v : Word) (s : State) (G : Fields) :
    G.regs → G.tim → G.hif → G.log → G.subs → G.lanes → G.lrep → G.streams → G.rte → G.mgt → G.out → ∀ t,
      execLnePatchkClear path i v s = .next t → t.mask G = s.mask G := by
  intros; rename_i h; injection h with h; subst h; simp only [State.lnePatchk_mask, mask_regs, mask_tim, mask_hif,
    mask_log, mask_subs, mask_lanes, mask_lrep, mask_streams, mask_rte, mask_mgt, mask_out, ite_mask, ite_self,
    foldl_mask, implies_true, *]

theorem State.toFreerun_mask (s : State) (G : Fields) :
    G.regs → G.tim → G.hif → G.log → G.out → (State.toFreerun s).mask G = s.mask G := by
  intros; simp only [State.toFreerun, State.logTime_mask, State.timEvt_mask, mask_regs, mask_tim, mask_hif, mask_log,
    mask_out, ite_mask, ite_self, foldl_mask, implies_true, *]

theorem State.toLocked_mask (s : State) (G : Fields) :
    G.regs → G.tim → G.hif → G.log → G.out → (State.toLocked s).mask G = s.mask G := by
  intros; simp only [State.toLocked, State.logTime_mask, mask_regs, mask_tim, mask_hif, mask_log, mask_out, ite_mask,
    ite_self, foldl_mask, implies_true, *]

theorem State.sampleRoot_mask (s : State) (G : Fields) :
    G.regs → G.tim → G.hif → G.log → G.out → (State.sampleRoot s).mask G = s.mask G := by
  intros; simp only [State.sampleRoot, State.settleSlew_mask, State.timEvt_mask, State.toHoldover_mask,
    State.toLocked_mask, mask_regs, mask_tim, mask_hif, mask_log, mask_out, ite_mask, ite_self, foldl_mask,
    implies_true, *]

theorem State.acquired_mask (s : State) (c : Int) (G : Fields) :
    G.regs → G.tim → G.hif → G.log → G.out → (State.acquired s c).mask G = s.mask G := by
  intros; simp only [State.acquired, State.follow_mask, State.toLocked_mask, mask_regs, mask_tim, mask_hif, mask_log,
    mask_out, ite_mask, ite_self, foldl_mask, implies_true, *]

theorem State.startFacq_mask (s : State) (i : Nat) (G : Fields) :
    G.regs → G.tim → G.hif → G.log → G.out → (State.startFacq s i).mask G = s.mask G := by
  intros; simp only [State.startFacq, State.acquired_mask, mask_regs, mask_tim, mask_hif, mask_log, mask_out,
    ite_mask, ite_self, foldl_mask, implies_true, *]

theorem State.reselect_mask (s : State) (G : Fields) :
    G.regs → G.tim → G.hif → G.log → G.out → (State.reselect s).mask G = s.mask G := by
  intros; simp only [State.reselect, State.follow_mask, State.timEvt_mask, State.toHoldover_mask,
    State.startFacq_mask, mask_regs, mask_tim, mask_hif, mask_log, mask_out, ite_mask, ite_self, foldl_mask,
    implies_true, *]

theorem State.sendTime_mask (s : State) (l : Nat) (slot : Nat) (G : Fields) :
    G.tim → G.rte → G.out → (State.sendTime s l slot).mask G = s.mask G := by
  intros; simp only [State.sendTime, State.setEgr_mask, State.sendTimePkt_mask, mask_tim, mask_rte, mask_out,
    ite_mask, ite_self, foldl_mask, implies_true, *]

theorem State.sendMark_mask (s : State) (n : Nat) (word : List Byte) (G : Fields) :
    G.lanes → G.out → (State.sendMark s n word).mask G = s.mask G := by
  intros; simp only [State.sendMark, State.stcTake_mask, State.emit_mask, State.setLane_mask, mask_lanes, mask_out,
    ite_mask, ite_self, foldl_mask, implies_true, *]

theorem State.slotSends_mask (s : State) (slot : Nat) (G : Fields) :
    G.tim → G.lanes → G.rte → G.out → (State.slotSends s slot).mask G = s.mask G := by
  intros; simp only [State.slotSends, State.sendMark_mask, State.sendFrame_mask, State.sendTime_mask, mask_tim,
    mask_lanes, mask_rte, mask_out, ite_mask, ite_self, foldl_mask, implies_true, *]

theorem State.checkReplica_mask (s : State) (die : Nat) (slot : Nat) (rep : Nat) (G : Fields) :
    G.regs → G.hif → G.log → G.sched → G.out → (State.checkReplica s die slot rep).mask G = s.mask G := by
  intros; simp only [State.checkReplica, State.timEvt_mask, State.schedStop_mask, State.offer_mask, mask_regs,
    mask_hif, mask_log, mask_sched, mask_out, ite_mask, ite_self, foldl_mask, implies_true, *]

theorem State.holdEdge_mask (s : State) (G : Fields) :
    G.regs → G.tim → G.hif → G.log → G.cap → G.mem → G.poison → G.out → (State.holdEdge s).mask G = s.mask G := by
  intros; simp only [State.holdEdge, State.logTime_mask, State.timEvt_mask, State.captureHold_mask, mask_regs,
    mask_tim, mask_hif, mask_log, mask_cap, mask_mem, mask_poison, mask_out, ite_mask, ite_self, foldl_mask,
    implies_true, *]

theorem State.slotStart1_mask (s : State) (fault0 : Bool) (fault1 : Bool) (G : Fields) :
    G.regs → G.tim → G.hif → G.log → G.lanes → G.rte → G.sched → G.cap → G.mem → G.poison → G.out → (State.slotStart1
      s fault0 fault1).mask G = s.mask G := by
  intros; simp only [State.slotStart1, State.advTo_mask, State.checkReplica_mask, State.reselect_mask,
    State.sampleRoot_mask, State.toFreerun_mask, State.bump_mask, State.hazard_mask, State.slotSends_mask,
    State.holdEdge_mask, mask_regs, mask_tim, mask_hif, mask_log, mask_lanes, mask_rte, mask_sched, mask_cap, mask_mem,
    mask_poison, mask_out, ite_mask, ite_self, foldl_mask, implies_true, *]

theorem execSlotStart_mask (fault0 : Bool) (fault1 : Bool) (s : State) (G : Fields) :
    G.regs → G.tim → G.hif → G.log → G.lanes → G.rte → G.sched → G.cap → G.mem → G.poison → G.out → ∀ t,
      execSlotStart fault0 fault1 s = .next t → t.mask G = s.mask G := by
  intros; rename_i h; injection h with h; subst h; simp only [State.slotStart1_mask, mask_regs, mask_tim, mask_hif,
    mask_log, mask_lanes, mask_rte, mask_sched, mask_cap, mask_mem, mask_poison, mask_out, ite_mask, ite_self,
    foldl_mask, implies_true, *]

theorem State.jumped_mask (s : State) (j : Nat) (G : Fields) :
    G.tim → (State.jumped s j).mask G = s.mask G := by
  intros; simp only [State.jumped, mask_tim, ite_mask, ite_self, foldl_mask, implies_true, *]

theorem execForwardStep_mask (s : State) (G : Fields) :
    G.regs → G.tim → G.hif → G.log → G.subs → G.lrep → G.streams → G.strCmds → G.rte → G.sched → G.cap → G.cel →
      G.groups → G.mxu → G.mem → G.poison → G.out → G.free → ∀ t, execForwardStep s = .next t → t.mask G = s.mask G
      := by
  intros; rename_i h; injection h with h; subst h; simp only [State.skipActions_mask, State.capMark_mask,
    State.follow_mask, State.timEvt_mask, State.setReg_mask, State.bump_mask, State.advTo_mask, State.hwReg_mask,
    State.offer_mask, State.hazard_mask, State.jumped_mask, mask_regs, mask_tim, mask_hif, mask_log, mask_subs,
    mask_lrep, mask_streams, mask_strCmds, mask_rte, mask_sched, mask_cap, mask_cel, mask_groups, mask_mxu, mask_mem,
    mask_poison, mask_out, mask_free, ite_mask, ite_self, foldl_mask, implies_true, *]

theorem execInitialLoad_mask (s : State) (G : Fields) :
    G.tim → ∀ t, execInitialLoad s = .next t → t.mask G = s.mask G := by
  intros; rename_i h; injection h with h; subst h; simp only [State.follow_mask, State.advTo_mask, State.jumped_mask,
    mask_tim, ite_mask, ite_self, foldl_mask, implies_true, *]

theorem execHoldoverExpire_mask (s : State) (G : Fields) :
    G.regs → G.tim → G.hif → G.log → G.out → ∀ t, execHoldoverExpire s = .next t → t.mask G = s.mask G := by
  intros; rename_i h; injection h with h; subst h; simp only [State.toFreerun_mask, mask_regs, mask_tim, mask_hif,
    mask_log, mask_out, ite_mask, ite_self, foldl_mask, implies_true, *]

theorem State.acquire_mask (s : State) (i : Nat) (off : Int) (G : Fields) :
    G.regs → G.tim → G.hif → G.log → G.out → (State.acquire s i off).mask G = s.mask G := by
  intros; simp only [State.acquire, State.acquired_mask, mask_regs, mask_tim, mask_hif, mask_log, mask_out, ite_mask,
    ite_self, foldl_mask, implies_true, *]

theorem State.exchange_mask (s : State) (i : Nat) (x : TimeSrc) (off2 : Int) (G : Fields) :
    G.regs → G.tim → G.hif → G.log → G.out → (State.exchange s i x off2).mask G = s.mask G := by
  intros; simp only [State.exchange, State.setSrc_mask, State.settleSlew_mask, State.follow_mask, State.acquire_mask,
    mask_regs, mask_tim, mask_hif, mask_log, mask_out, ite_mask, ite_self, foldl_mask, implies_true, *]

theorem State.missed_mask (s : State) (i : Nat) (G : Fields) :
    G.regs → G.tim → G.hif → G.log → G.out → (State.missed s i).mask G = s.mask G := by
  intros; unfold State.missed; dsimp only; (repeat' split) <;> simp only [State.setSrc_mask, State.noSource_mask,
    mask_regs, mask_tim, mask_hif, mask_log, mask_out, ite_mask, ite_self, foldl_mask, implies_true, *]

theorem State.measure_mask (s : State) (i : Nat) (w : List Byte) (arrival : Nat) (asym : Int) (late : Nat) (G : Fields)
  :
    G.regs → G.tim → G.hif → G.log → G.out → (State.measure s i w arrival asym late).mask G = s.mask G := by
  intros; simp only [State.measure, State.exchange_mask, mask_regs, mask_tim, mask_hif, mask_log, mask_out, ite_mask,
    ite_self, foldl_mask, implies_true, *]

theorem execStcMarkRx_mask (n : Nat) (syms : List Nat) (arrival : Nat) (s : State) (G : Fields) :
    G.regs → G.tim → G.hif → G.log → G.lanes → G.mgt → G.out → ∀ t, execStcMarkRx n syms arrival s = .next t → t.mask G
      = s.mask G := by
  intros; rename_i h; injection h with h; subst h; dsimp only; split
  · rw [State.stcBad_mask]
    · (repeat' split) <;> simp only [State.stcErrs_mask, State.advTo_mask, State.missed_mask, State.bump_mask,
        State.measure_mask, *]
    all_goals assumption
  · simp only [State.setLane_mask, ite_mask, ite_self, *]

theorem execStcMarkMiss_mask (n : Nat) (s : State) (G : Fields) :
    G.regs → G.tim → G.hif → G.log → G.out → ∀ t, execStcMarkMiss n s = .next t → t.mask G = s.mask G := by
  intros; rename_i h; injection h with h; subst h; simp only [State.missed_mask, mask_regs, mask_tim, mask_hif,
    mask_log, mask_out, ite_mask, ite_self, foldl_mask, implies_true, *]

theorem State.timeBad_mask (s : State) (l : Nat) (G : Fields) :
    G.regs → G.tim → G.hif → G.log → G.out → (State.timeBad s l).mask G = s.mask G := by
  intros; simp only [State.timeBad, State.bump_mask, State.missed_mask, mask_regs, mask_tim, mask_hif, mask_log,
    mask_out, ite_mask, ite_self, foldl_mask, implies_true, *]

theorem execTimePacketRx_mask (l : Nat) (rx : RxPkt) (arrival : Nat) (s : State) (G : Fields) :
    G.regs → G.tim → G.hif → G.log → G.lrep → G.out → ∀ t, execTimePacketRx l rx arrival s = .next t → t.mask G =
      s.mask G := by
  intros; rename_i h; injection h with h; subst h; simp only [State.advTo_mask, State.lineBad_mask, State.timeBad_mask,
    State.drop_mask, State.measure_mask, mask_regs, mask_tim, mask_hif, mask_log, mask_lrep, mask_out, ite_mask,
    ite_self, foldl_mask, implies_true, *]

theorem execTimePacketMiss_mask (l : Nat) (s : State) (G : Fields) :
    G.regs → G.tim → G.hif → G.log → G.out → ∀ t, execTimePacketMiss l s = .next t → t.mask G = s.mask G := by
  intros; rename_i h; injection h with h; subst h; simp only [State.missed_mask, mask_regs, mask_tim, mask_hif,
    mask_log, mask_out, ite_mask, ite_self, foldl_mask, implies_true, *]

theorem State.ppsMissed_mask (s : State) (G : Fields) :
    G.regs → G.tim → G.hif → G.log → G.out → (State.ppsMissed s).mask G = s.mask G := by
  intros; simp only [State.ppsMissed, State.timEvt_mask, State.bump_mask, State.missed_mask, mask_regs, mask_tim,
    mask_hif, mask_log, mask_out, ite_mask, ite_self, foldl_mask, implies_true, *]

theorem execPpsInPulse_mask (arrival : Nat) (high : Nat) (s : State) (G : Fields) :
    G.regs → G.tim → G.hif → G.log → G.out → ∀ t, execPpsInPulse arrival high s = .next t → t.mask G = s.mask G := by
  intros; rename_i h; injection h with h; subst h; simp only [State.advTo_mask, State.hwReg_mask,
    State.exchange_mask, State.ppsMissed_mask, mask_regs, mask_tim, mask_hif, mask_log, mask_out, ite_mask, ite_self,
    foldl_mask, implies_true, *]

theorem execPpsInMiss_mask (s : State) (G : Fields) :
    G.regs → G.tim → G.hif → G.log → G.out → ∀ t, execPpsInMiss s = .next t → t.mask G = s.mask G := by
  intros; rename_i h; injection h with h; subst h; simp only [State.ppsMissed_mask, mask_regs, mask_tim, mask_hif,
    mask_log, mask_out, ite_mask, ite_self, foldl_mask, implies_true, *]

theorem execFreqInLoss_mask (s : State) (G : Fields) :
    G.tim → ∀ t, execFreqInLoss s = .next t → t.mask G = s.mask G := by
  intros; rename_i h; injection h with h; subst h; simp only [mask_tim, ite_mask, ite_self, foldl_mask, implies_true,
    *]

theorem execFreqInRestored_mask (corr : Int) (s : State) (G : Fields) :
    G.tim → ∀ t, execFreqInRestored corr s = .next t → t.mask G = s.mask G := by
  intros; rename_i h; injection h with h; subst h; simp only [mask_tim, ite_mask, ite_self, foldl_mask, implies_true,
    *]

theorem execPpsOutRise_mask (s : State) (G : Fields) :
    G.tim → G.out → ∀ t, execPpsOutRise s = .next t → t.mask G = s.mask G := by
  intros; rename_i h; injection h with h; subst h; simp only [State.advTo_mask, State.emit_mask, mask_tim, mask_out,
    ite_mask, ite_self, foldl_mask, implies_true, *]

theorem execPpsOutFall_mask (s : State) (G : Fields) :
    G.tim → G.out → ∀ t, execPpsOutFall s = .next t → t.mask G = s.mask G := by
  intros; rename_i h; injection h with h; subst h; simp only [State.advTo_mask, State.emit_mask, mask_tim, mask_out,
    ite_mask, ite_self, foldl_mask, implies_true, *]

theorem execTimNowLoRead_mask (p : Path) (s : State) (G : Fields) :
    G.latch → G.out → ∀ t, execTimNowLoRead p s = .next t → t.mask G = s.mask G := by
  intros; rename_i h; injection h with h; subst h; simp only [State.emit_mask, mask_latch, mask_out, ite_mask,
    ite_self, foldl_mask, implies_true, *]

theorem execTimeArm_mask (d : Desc) (arm : Bool) (s : State) (G : Fields) :
    G.regs → G.tim → G.hif → G.out → ∀ t, execTimeArm d arm s = .next t → t.mask G = s.mask G := by
  intros; rename_i h; injection h with h; subst h; simp only [State.setFld_mask, State.noteSw_mask,
    State.cmdEnd_mask, State.hostCmd_mask, mask_regs, mask_tim, mask_hif, mask_out, ite_mask, ite_self, foldl_mask,
    implies_true, *]

theorem State.logWrite1_mask (s : State) (G : Fields) :
    G.regs → G.hif → G.log → G.out → (State.logWrite1 s).mask G = s.mask G := by
  intros; unfold State.logWrite1; dsimp only; (repeat' split) <;> simp only [State.bump_mask, State.evt_mask,
    mask_regs, mask_hif, mask_log, mask_out, ite_mask, ite_self, foldl_mask, implies_true, *]

theorem execLogWrite_mask (s : State) (G : Fields) :
    G.regs → G.tim → G.hif → G.log → G.out → ∀ t, execLogWrite s = .next t → t.mask G = s.mask G := by
  intros; rename_i h; injection h with h; subst h; (repeat' split) <;> simp only [State.logWrite1_mask,
    State.advTo_mask, mask_regs, mask_tim, mask_hif, mask_log, mask_out, ite_mask, ite_self, foldl_mask,
    implies_true, *]

theorem State.drainAdv_mask (s : State) (n : Nat) (G : Fields) :
    G.log → (State.drainAdv s n).mask G = s.mask G := by
  intros; simp only [State.drainAdv, mask_log, ite_mask, ite_self, foldl_mask, implies_true, *]

theorem State.drainBad_mask (s : State) (es : List LogEntry) (G : Fields) :
    G.regs → G.hif → G.log → G.out → (State.drainBad s es).mask G = s.mask G := by
  intros; simp only [State.drainBad, State.bump_mask, State.evt_mask, State.offer_mask, mask_regs, mask_hif,
    mask_log, mask_out, ite_mask, ite_self, foldl_mask, implies_true, *]

theorem execLogDrain_mask (d : Desc) (limit : Nat) (addr : Nat) (ok : Bool) (s : State) (G : Fields) :
    G.regs → G.tim → G.hif → G.log → G.out → ∀ t, execLogDrain d limit addr ok s = .next t → t.mask G = s.mask G := by
  intros; rename_i h; injection h with h; subst h; simp only [State.drainBad_mask, State.emit_mask,
    State.cmdEnd_mask, State.hostCmd_mask, mask_regs, mask_tim, mask_hif, mask_log, mask_out, ite_mask, ite_self,
    foldl_mask, implies_true, *]

theorem State.read_mask (s : State) (p : Path) (o : Nat) (G : Fields) :
    G.latch → (State.read s p o).2.mask G = s.mask G := by
  intros; unfold State.read; (repeat' split) <;> simp only [mask_latch, ite_mask, ite_self, foldl_mask, implies_true,
    *]

theorem execLatchedPairRead_mask (p : Path) (off : Nat) (be : Nat) (s : State) (G : Fields) :
    G.latch → G.out → ∀ t, execLatchedPairRead p off be s = .next t → t.mask G = s.mask G := by
  intros; rename_i h; injection h with h; subst h; (repeat' split) <;> simp only [State.emit_mask, State.read_mask,
    mask_latch, mask_out, ite_mask, ite_self, foldl_mask, implies_true, *]

theorem State.dbInvalid_mask (s : State) (f : Nat) (G : Fields) :
    G.regs → G.hif → G.out → (State.dbInvalid s f).mask G = s.mask G := by
  intros; simp only [State.dbInvalid, State.bump_mask, State.fnEvt_mask, mask_regs, mask_hif, mask_out, ite_mask,
    ite_self, foldl_mask, implies_true, *]

theorem execSqDoorbell_mask (f : Nat) (i : Nat) (off : Nat) (width : Nat) (v : Nat) (s : State) (G : Fields) :
    G.regs → G.hif → G.out → ∀ t, execSqDoorbell f i off width v s = .next t → t.mask G = s.mask G := by
  intros; rename_i h; injection h with h; subst h; simp only [State.dbInvalid_mask, State.setSq_mask, mask_regs,
    mask_hif, mask_out, ite_mask, ite_self, foldl_mask, implies_true, *]

theorem execCqDoorbell_mask (f : Nat) (j : Nat) (off : Nat) (width : Nat) (v : Nat) (s : State) (G : Fields) :
    G.regs → G.hif → G.out → ∀ t, execCqDoorbell f j off width v s = .next t → t.mask G = s.mask G := by
  intros; rename_i h; injection h with h; subst h; simp only [State.dbInvalid_mask, State.setCq_mask, mask_regs,
    mask_hif, mask_out, ite_mask, ite_self, foldl_mask, implies_true, *]

theorem State.ringIgnored_mask (s : State) (f : Nat) (G : Fields) :
    G.regs → G.hif → G.out → (State.ringIgnored s f).mask G = s.mask G := by
  intros; simp only [State.ringIgnored, State.fnEvt_mask, mask_regs, mask_hif, mask_out, ite_mask, ite_self,
    foldl_mask, implies_true, *]

theorem State.sqCtrl_mask (s : State) (f : Nat) (i : Nat) (v : Word) (G : Fields) :
    G.regs → G.hif → G.out → (State.sqCtrl s f i v).mask G = s.mask G := by
  intros; simp only [State.sqCtrl, State.ringIgnored_mask, State.setSq_mask, State.plainWrite_mask, mask_regs,
    mask_hif, mask_out, ite_mask, ite_self, foldl_mask, implies_true, *]

theorem execSqCtrlWrite_mask (f : Nat) (i : Nat) (v : Word) (s : State) (G : Fields) :
    G.regs → G.hif → G.out → ∀ t, execSqCtrlWrite f i v s = .next t → t.mask G = s.mask G := by
  intros; rename_i h; injection h with h; subst h; simp only [State.oneCycle_mask, State.sqCtrl_mask, mask_regs,
    mask_hif, mask_out, ite_mask, ite_self, foldl_mask, implies_true, *]

theorem State.cqCtrl_mask (s : State) (f : Nat) (j : Nat) (v : Word) (G : Fields) :
    G.regs → G.hif → G.out → (State.cqCtrl s f j v).mask G = s.mask G := by
  intros; simp only [State.cqCtrl, State.ringIgnored_mask, State.setCq_mask, State.plainWrite_mask, mask_regs,
    mask_hif, mask_out, ite_mask, ite_self, foldl_mask, implies_true, *]

theorem execCqCtrlWrite_mask (f : Nat) (j : Nat) (v : Word) (s : State) (G : Fields) :
    G.regs → G.hif → G.out → ∀ t, execCqCtrlWrite f j v s = .next t → t.mask G = s.mask G := by
  intros; rename_i h; injection h with h; subst h; simp only [State.oneCycle_mask, State.cqCtrl_mask, mask_regs,
    mask_hif, mask_out, ite_mask, ite_self, foldl_mask, implies_true, *]

theorem execCmdCompletionResume_mask (f : Nat) (j : Nat) (ok : Bool) (s : State) (G : Fields) :
    G.regs → G.hif → G.out → ∀ t, execCmdCompletionResume f j ok s = .next t → t.mask G = s.mask G := by
  intros; rename_i h; injection h with h; subst h; (repeat' split) <;> simp only [State.cqOverflow_mask,
    State.dropTaken_mask, State.cqWrite_mask, State.cqFail_mask, mask_regs, mask_hif, mask_out, ite_mask, ite_self,
    foldl_mask, implies_true, *]

theorem execOverflowRecord_mask (f : Nat) (j : Nat) (s : State) (G : Fields) :
    G.regs → G.hif → G.out → ∀ t, execOverflowRecord f j s = .next t → t.mask G = s.mask G := by
  intros; rename_i h; injection h with h; subst h; simp only [State.cqOverflow_mask, mask_regs, mask_hif, mask_out,
    ite_mask, ite_self, foldl_mask, implies_true, *]

theorem execIrqModerationTimeout_mask (f : Nat) (j : Nat) (s : State) (G : Fields) :
    G.tim → G.hif → G.out → ∀ t, execIrqModerationTimeout f j s = .next t → t.mask G = s.mask G := by
  intros; rename_i h; injection h with h; subst h; simp only [State.advTo_mask, State.cqRaise_mask, mask_tim,
    mask_hif, mask_out, ite_mask, ite_self, foldl_mask, implies_true, *]

theorem State.bar4Write_mask (s : State) (f : Nat) (off : Nat) (v : Word) (G : Fields) :
    G.regs → G.hif → G.out → (State.bar4Write s f off v).mask G = s.mask G := by
  intros; simp only [State.bar4Write, State.sendMsix_mask, State.setReg_mask, mask_regs, mask_hif, mask_out, ite_mask,
    ite_self, foldl_mask, implies_true, *]

theorem execCounterSnapshot_mask (d : Desc) (off : Nat) (len : Nat) (addr : Nat) (ok : Bool) (s : State) (G : Fields)
  :
    G.regs → G.tim → G.hif → G.out → ∀ t, execCounterSnapshot d off len addr ok s = .next t → t.mask G = s.mask G :=
      by
  intros; rename_i h; injection h with h; subst h; simp only [State.emit_mask, State.cmdEnd_mask, State.hostCmd_mask,
    mask_regs, mask_tim, mask_hif, mask_out, ite_mask, ite_self, foldl_mask, implies_true, *]

theorem execOpcodeRefused_mask (d : Desc) (s : State) (G : Fields) :
    G.regs → G.tim → G.hif → G.out → ∀ t, execOpcodeRefused d s = .next t → t.mask G = s.mask G := by
  intros; rename_i h; injection h with h; subst h
  apply State.hostCmd_mask <;> (try assumption) <;> intros; rfl

theorem State.occClr_mask (s : State) (v : Word) (G : Fields) :
    G.regs → (State.occClr s v).mask G = s.mask G := by
  intros; simp only [State.occClr, State.occur_mask, State.plainWrite_mask, mask_regs, ite_mask, ite_self,
    foldl_mask, implies_true, *]

theorem execHifOccClr_mask (p : Path) (v : Word) (s : State) (G : Fields) :
    G.regs → ∀ t, execHifOccClr p v s = .next t → t.mask G = s.mask G := by
  intros; rename_i h; injection h with h; subst h; simp only [State.occClr_mask, mask_regs, ite_mask, ite_self,
    foldl_mask, implies_true, *]

theorem State.pageReset_mask (s : State) (f : Nat) (G : Fields) :
    G.regs → (State.pageReset s f).mask G = s.mask G := by
  intros; simp only [State.pageReset, mask_regs, ite_mask, ite_self, foldl_mask, implies_true, *]

theorem State.ringsReset_mask (s : State) (f : Nat) (G : Fields) :
    G.hif → (State.ringsReset s f).mask G = s.mask G := by
  intros; simp only [State.ringsReset, mask_hif, ite_mask, ite_self, foldl_mask, implies_true, *]

theorem mask_load {G : Fields} (h : G.loading) (h' : G.regions) (t : State) (x : Option (Nat × Image)) (y : List (Nat × Nat)) :
    State.mask G { t with loading := x, regions := y } = State.mask G t := by
  simp only [State.mask, h, h', if_true]

theorem State.fnReset_mask (s : State) (f : Nat) (sub : Option Nat) (G : Fields) :
    G.regs → G.hif → G.log → G.loading → G.regions → G.out → (State.fnReset s f sub).mask G = s.mask G := by
  intros; unfold State.fnReset; dsimp only; (repeat' split) <;> simp only [State.ringsReset_mask, State.pageReset_mask,
    State.dropTaken_mask, State.offer_mask, mask_load, *]

theorem State.allReset_mask (s : State) (sub : Option Nat) (G : Fields) :
    G.regs → G.hif → G.log → G.loading → G.regions → G.out → (State.allReset s sub).mask G = s.mask G := by
  intros; simp only [State.allReset, State.fnReset_mask, mask_regs, mask_hif, mask_log, mask_loading, mask_regions,
    mask_out, ite_mask, ite_self, foldl_mask, implies_true, *]

theorem execFlr_mask (f : Nat) (s : State) (G : Fields) :
    G.regs → G.hif → G.log → G.loading → G.regions → G.out → ∀ t, execFlr f s = .next t → t.mask G = s.mask G := by
  intros; rename_i h; injection h with h; subst h; simp only [State.fnReset_mask, mask_regs, mask_hif, mask_log,
    mask_loading, mask_regions, mask_out, ite_mask, ite_self, foldl_mask, implies_true, *]

theorem execHostLinkDown_mask (s : State) (G : Fields) :
    G.regs → G.hif → G.log → G.loading → G.regions → G.out → ∀ t, execHostLinkDown s = .next t → t.mask G = s.mask G :=
      by
  intros; rename_i h; obtain rfl := Host.Outcome.next.inj h
  rw [State.allReset_mask _ _ _ (by assumption) (by assumption) (by assumption) (by assumption)
    (by assumption) (by assumption)]
  simp only [mask_hif, *]

theorem execHotReset_mask (s : State) (G : Fields) :
    G.regs → G.hif → G.log → G.loading → G.regions → G.out → ∀ t, execHotReset s = .next t → t.mask G = s.mask G := by
  intros; rename_i h; obtain rfl := Host.Outcome.next.inj h
  exact State.allReset_mask _ _ _ (by assumption) (by assumption) (by assumption) (by assumption)
    (by assumption) (by assumption)

theorem State.captureBegin_mask (s : State) (r : Region) (dest : Nat) (arm : Bool) (full : Bool) (egress : Bool)
  (sport : Nat) (G : Fields) :
    G.regs → G.hif → G.cap → G.mem → G.poison → G.out → (State.captureBegin s r dest arm full egress sport).mask G =
      s.mask G := by
  intros; simp only [State.captureBegin, State.capMark_mask, mask_regs, mask_hif, mask_cap, mask_mem, mask_poison,
    mask_out, ite_mask, ite_self, foldl_mask, implies_true, *]

theorem execCaptureStart_mask (d : Desc) (dest : Nat) (arm : Bool) (full : Bool) (egress : Bool) (trigger : Bool)
  (sport : Nat) (s : State) (G : Fields) :
    G.regs → G.tim → G.hif → G.cap → G.mem → G.poison → G.out → ∀ t, execCaptureStart d dest arm full egress trigger
      sport s = .next t → t.mask G = s.mask G := by
  intros; rename_i h; injection h with h; subst h; apply State.hostCmd_mask <;> (try assumption) <;> intros <;>
    (repeat' split) <;> simp only [State.capTrigger_mask, State.captureBegin_mask, State.cmdEnd_mask,
      State.hostCmd_mask, mask_regs, mask_tim, mask_hif, mask_cap, mask_mem, mask_poison, mask_out, ite_mask,
      ite_self, foldl_mask, implies_true, *]

theorem execCaptureStop_mask (d : Desc) (s : State) (G : Fields) :
    G.regs → G.tim → G.hif → G.cap → G.mem → G.poison → G.out → ∀ t, execCaptureStop d s = .next t → t.mask G =
      s.mask G := by
  intros; rename_i h; injection h with h; subst h; simp only [State.capEnd_mask, State.capUntrigger_mask,
    State.cmdEnd_mask, State.hostCmd_mask, mask_regs, mask_tim, mask_hif, mask_cap, mask_mem, mask_poison, mask_out,
    ite_mask, ite_self, foldl_mask, implies_true, *]

theorem execCaptureTrigger_mask (p : Path) (v : Word) (s : State) (G : Fields) :
    G.regs → G.hif → G.cap → G.mem → G.poison → G.out → ∀ t, execCaptureTrigger p v s = .next t → t.mask G = s.mask G
      := by
  intros; rename_i h; injection h with h; subst h; simp only [State.capTrigger_mask, mask_regs, mask_hif, mask_cap,
    mask_mem, mask_poison, mask_out, ite_mask, ite_self, foldl_mask, implies_true, *]

theorem execCapturePostDone_mask (s : State) (G : Fields) :
    G.regs → G.hif → G.cap → G.mem → G.poison → G.out → ∀ t, execCapturePostDone s = .next t → t.mask G = s.mask G :=
      by
  intros; rename_i h; injection h with h; subst h; simp only [State.capEnd_mask, mask_regs, mask_hif, mask_cap,
    mask_mem, mask_poison, mask_out, ite_mask, ite_self, foldl_mask, implies_true, *]

theorem execCaptureStopDone_mask (s : State) (G : Fields) :
    G.regs → G.tim → G.hif → G.cap → G.out → ∀ t, execCaptureStopDone s = .next t → t.mask G = s.mask G := by
  intros; rename_i h; injection h with h; subst h; simp only [State.capDrain_mask, State.advTo_mask,
    State.cmdsEnd_mask, mask_regs, mask_tim, mask_hif, mask_cap, mask_out, ite_mask, ite_self, foldl_mask,
    implies_true, *]

theorem execCaptureLossRecord_mask (s : State) (G : Fields) :
    G.regs → G.cap → G.mem → G.poison → ∀ t, execCaptureLossRecord s = .next t → t.mask G = s.mask G := by
  intros; rename_i h; injection h with h; subst h; simp only [State.capDrain_mask, State.capLossRec_mask, mask_regs,
    mask_cap, mask_mem, mask_poison, ite_mask, ite_self, foldl_mask, implies_true, *]

theorem execCaptureStreamSend_mask (s : State) (G : Fields) :
    G.regs → G.rte → G.cap → ∀ t, execCaptureStreamSend s = .next t → t.mask G = s.mask G := by
  intros; rename_i h; injection h with h; subst h
  dsimp only
  split
  · simp only [State.enqueue_mask, mask_regs, mask_rte, mask_cap, ite_mask, ite_self, foldl_mask, implies_true, *]
    simp only [State.mask, *, if_true]
  · rfl

theorem State.inject_mask (s : State) (r : List Byte) (t : Nat) (G : Fields) :
    G.regs → G.tim → G.hif → G.log → G.subs → G.lrep → G.streams → G.rte → G.cap → G.cel → G.groups → G.greq0 → G.greq1
      → G.gheld → G.mem → G.poison → G.out → G.free → (State.inject s r t).mask G = s.mask G := by
  intros; simp only [State.inject, State.bump_mask, State.rxLink_mask, mask_regs, mask_tim, mask_hif, mask_log,
    mask_subs, mask_lrep, mask_streams, mask_rte, mask_cap, mask_cel, mask_groups, mask_greq0, mask_greq1, mask_gheld,
    mask_mem, mask_poison, mask_out, mask_free, ite_mask, ite_self, foldl_mask, implies_true, *]

theorem State.rplHold_mask (s : State) (on : Bool) (G : Fields) :
    G.regs → G.tim → G.hif → G.log → G.cap → G.rpl → G.mem → G.poison → G.out → (State.rplHold s on).mask G = s.mask G
      := by
  intros; simp only [State.rplHold, State.holdEdge_mask, State.bump_mask, State.setReg_mask, mask_regs, mask_tim,
    mask_hif, mask_log, mask_cap, mask_rpl, mask_mem, mask_poison, mask_out, ite_mask, ite_self, foldl_mask,
    implies_true, *]

theorem State.rplMark_mask (s : State) (r : List Byte) (t : Nat) (G : Fields) :
    G.regs → G.tim → G.hif → G.log → G.cap → G.rpl → G.mem → G.poison → G.out → (State.rplMark s r t).mask G = s.mask G
      := by
  intros; unfold State.rplMark
  cases s.mapped r <;> simp only [State.rplHold_mask, State.advTo_mask, mask_regs, mask_tim, mask_hif, mask_log,
    mask_cap, mask_rpl, mask_mem, mask_poison, mask_out, ite_mask, ite_self, foldl_mask, implies_true, *]

theorem State.rplRecord_mask (s : State) (r : List Byte) (staged : Bool) (G : Fields) :
    G.regs → G.tim → G.hif → G.log → G.subs → G.lrep → G.streams → G.rte → G.cap → G.rpl → G.cel → G.groups → G.greq0 →
      G.greq1 → G.gheld → G.mem → G.poison → G.out → G.free → (State.rplRecord s r staged).mask G = s.mask G := by
  intros; unfold State.rplRecord; dsimp only; (repeat' split) <;> simp only [State.replayEnd_mask, State.rplMark_mask,
    State.inject_mask, mask_regs, mask_tim, mask_hif, mask_log, mask_subs, mask_lrep, mask_streams, mask_rte, mask_cap,
    mask_rpl, mask_cel, mask_groups, mask_greq0, mask_greq1, mask_gheld, mask_mem, mask_poison, mask_out, mask_free,
    ite_mask, ite_self, foldl_mask, implies_true, *]

theorem execReplayInject_mask (r : List Byte) (staged : Bool) (s : State) (G : Fields) :
    G.regs → G.tim → G.hif → G.log → G.subs → G.lrep → G.streams → G.rte → G.cap → G.rpl → G.cel → G.groups → G.greq0 →
      G.greq1 → G.gheld → G.mem → G.poison → G.out → G.free → ∀ t, execReplayInject r staged s = .next t → t.mask G =
      s.mask G := by
  intros; rename_i h; injection h with h; subst h; simp only [State.replayEnd_mask, State.rplRecord_mask,
    State.setReg_mask, mask_regs, mask_tim, mask_hif, mask_log, mask_subs, mask_lrep, mask_streams, mask_rte, mask_cap,
    mask_rpl, mask_cel, mask_groups, mask_greq0, mask_greq1, mask_gheld, mask_mem, mask_poison, mask_out, mask_free,
    ite_mask, ite_self, foldl_mask, implies_true, *]

theorem State.digDenied_mask (s : State) (G : Fields) :
    G.regs → G.hif → G.log → G.out → (State.digDenied s).mask G = s.mask G := by
  intros; simp only [State.digDenied, State.memDenied_mask, mask_regs, mask_hif, mask_log, mask_out, ite_mask,
    ite_self, foldl_mask, implies_true, *]

theorem State.digCmd_mask (s : State) (v : Word) (G : Fields) :
    G.regs → G.hif → G.log → G.digest → G.out → (State.digCmd s v).mask G = s.mask G := by
  intros; simp only [State.digCmd, State.plainWrite_mask, State.setFld_mask, State.digDenied_mask, mask_regs, mask_hif,
    mask_log, mask_digest, mask_out, ite_mask, ite_self, foldl_mask, implies_true, *]

theorem execDigestStart_mask (p : Path) (v : Word) (s : State) (G : Fields) :
    G.regs → G.hif → G.log → G.digest → G.out → ∀ t, execDigestStart p v s = .next t → t.mask G = s.mask G := by
  intros; rename_i h; injection h with h; subst h; simp only [State.digCmd_mask, mask_regs, mask_hif, mask_log,
    mask_digest, mask_out, ite_mask, ite_self, foldl_mask, implies_true, *]

theorem execDigestDone_mask (s : State) (G : Fields) :
    G.regs → G.tim → G.hif → G.log → G.digest → G.mem → G.poison → G.out → G.free → ∀ t, execDigestDone s = .next t →
      t.mask G = s.mask G := by
  intros; rename_i h; injection h with h; subst h; (repeat' split) <;> simp only [State.correct_mask,
    State.hbmBad_mask, State.setReg_mask, State.advTo_mask, State.freeWord_mask, mask_regs, mask_tim, mask_hif,
    mask_log, mask_digest, mask_mem, mask_poison, mask_out, mask_free, ite_mask, ite_self, foldl_mask, implies_true,
    *]

end Sys2Proof.Machine
end

