-- ==== Sys2Proof/Laws/FrameMgt.lean ====
section
/-! SUPPORT. What pavilions, resets, faults, register writes and management may change: with the named fields masked, the state after each operation is the state before. -/

set_option linter.unusedSimpArgs false
set_option linter.unusedTactic false
set_option linter.unreachableTactic false
set_option linter.unnecessarySeqFocus false

namespace Sys2Proof.Machine

theorem State.relayPut_mask (s : State) (lane : Nat) (type : Nat) (payload : List Byte) (G : Fields) :
    G.mgt → (State.relayPut s lane type payload).mask G = s.mask G := by
  intros; simp only [State.relayPut, mask_mgt, ite_mask, ite_self, foldl_mask, implies_true, *]

theorem State.say_mask (s : State) (relayed : Bool) (bs : List Byte) (G : Fields) :
    G.mgt → G.out → (State.say s relayed bs).mask G = s.mask G := by
  intros; unfold State.say; dsimp only; (repeat' split) <;> simp only [State.relayPut_mask, State.emit_mask,
    mask_mgt, mask_out, ite_mask, ite_self, foldl_mask, implies_true, *]

theorem State.sayOk_mask (s : State) (relayed : Bool) (vs : List (Nat × Nat)) (G : Fields) :
    G.mgt → G.out → (State.sayOk s relayed vs).mask G = s.mask G := by
  intros; simp only [State.sayOk, State.say_mask, mask_mgt, mask_out, ite_mask, ite_self, foldl_mask, implies_true, *]

theorem State.sayErr_mask (s : State) (relayed : Bool) (code : Nat) (G : Fields) :
    G.mgt → G.out → (State.sayErr s relayed code).mask G = s.mask G := by
  intros; simp only [State.sayErr, State.say_mask, mask_mgt, mask_out, ite_mask, ite_self, foldl_mask, implies_true,
    *]

theorem State.sayPav_mask (s : State) (code : Nat) (G : Fields) :
    G.mgt → G.out → (State.sayPav s code).mask G = s.mask G := by
  intros; simp only [State.sayPav, State.say_mask, State.sayOk_mask, mask_mgt, mask_out, ite_mask, ite_self,
    foldl_mask, implies_true, *]

theorem State.audit_mask (s : State) (kind : Nat) (status : Nat) (seq : Nat) (key : Nat) (digest : Nat) (G : Fields) :
    G.regs → G.hif → G.log → G.out → (State.audit s kind status seq key digest).mask G = s.mask G := by
  intros; simp only [State.audit, State.offer_mask, mask_regs, mask_hif, mask_log, mask_out, ite_mask, ite_self,
    foldl_mask, implies_true, *]

theorem State.pavLast_mask (s : State) (status : Nat) (kind : Nat) (seq : Nat) (G : Fields) :
    G.regs → (State.pavLast s status kind seq).mask G = s.mask G := by
  intros; simp only [State.pavLast, State.setReg_mask, mask_regs, ite_mask, ite_self, foldl_mask, implies_true, *]

theorem State.pavEvt_mask (s : State) (bit : Nat) (G : Fields) :
    G.regs → G.hif → G.out → (State.pavEvt s bit).mask G = s.mask G := by
  intros; simp only [State.pavEvt, State.evt_mask, mask_regs, mask_hif, mask_out, ite_mask, ite_self, foldl_mask,
    implies_true, *]

theorem State.newNonce_mask (s : State) (G : Fields) :
    G.pav → G.free → (State.newNonce s).mask G = s.mask G := by
  intros; simp only [State.newNonce, State.freeLong_mask, mask_pav, mask_free, ite_mask, ite_self, foldl_mask,
    implies_true, *]

theorem State.pavRefuse_mask (s : State) (kind : Nat) (status : Nat) (seq : Nat) (key : Nat) (digest : Nat) (G : Fields) :
    G.regs → G.hif → G.log → G.out → (State.pavRefuse s kind status seq key digest).mask G = s.mask G := by
  intros; simp only [State.pavRefuse, State.bump_mask, State.audit_mask, State.pavLast_mask, State.pavEvt_mask,
    mask_regs, mask_hif, mask_log, mask_out, ite_mask, ite_self, foldl_mask, implies_true, *]

theorem execPavPropose_mask (d : Desc) (blk : List Byte) (blkOk : Bool) (s : State) (G : Fields) :
    G.regs → G.tim → G.hif → G.log → G.pav → G.out → ∀ t, execPavPropose d blk blkOk s = .next t → t.mask G = s.mask
      G := by
  intros; rename_i h; injection h with h; subst h; simp only [State.bump_mask, State.sqStop_mask, State.cmdEnd_mask,
    State.hostCmd_mask, State.audit_mask, State.pavLast_mask, State.pavEvt_mask, State.pavRefuse_mask, mask_regs,
    mask_tim, mask_hif, mask_log, mask_pav, mask_out, ite_mask, ite_self, foldl_mask, implies_true, *]

theorem State.zeroWhere_mask (s : State) (f : Nat → Bool) (G : Fields) :
    G.mem → G.poison → (State.zeroWhere s f).mask G = s.mask G := by
  intros; rw [← State.due_mask s G (by assumption) (by assumption)]
  simp only [State.zeroWhere, State.mask, if_true, *]

theorem State.countersReset_mask (s : State) (lo : Nat) (hi : Nat) (G : Fields) :
    G.regs → (State.countersReset s lo hi).mask G = s.mask G := by
  intros; simp only [State.countersReset, mask_regs, ite_mask, ite_self, foldl_mask, implies_true, *]

theorem State.portScrub_mask (s : State) (p : Nat) (G : Fields) :
    G.regs → G.rte → (State.portScrub s p).mask G = s.mask G := by
  intros; simp only [State.portScrub, State.countersReset_mask, mask_regs, mask_rte, ite_mask, ite_self, foldl_mask,
    implies_true, *]

theorem State.scrubAll_mask (s : State) (old : List (Nat × PavEntry)) (new : List (Nat × PavEntry)) (G : Fields) :
    G.regs → G.streams → G.rte → G.cells → G.cel → G.mxu → G.mem → G.poison → (State.scrubAll s old new).mask G =
      s.mask G := by
  intros; unfold State.scrubAll
  extract_lets d col s1 c s2
  have h1 : s1.mask G = s.mask G := by simp only [s1, State.zeroWhere_mask, *]
  have h2 : s2.mask G = s.mask G := by rw [← h1]; simp only [s2, State.mask, *, if_true]
  clear_value s2
  rw [foldl_mask, h2]; intros; simp only [State.portScrub_mask, ite_mask, ite_self, *]

theorem State.approvalEnd_mask (s : State) (who : Approver) (status : Nat) (G : Fields) :
    G.regs → G.hif → G.mgt → G.out → (State.approvalEnd s who status).mask G = s.mask G := by
  intros; unfold State.approvalEnd; dsimp only; (repeat' split) <;> simp only [State.cmdDone_mask, State.sayPav_mask,
    mask_regs, mask_hif, mask_mgt, mask_out, ite_mask, ite_self, foldl_mask, implies_true, *]

theorem State.scrubEnd_mask (s : State) (G : Fields) :
    G.regs → G.hif → G.log → G.pav → G.mgt → G.out → (State.scrubEnd s).mask G = s.mask G := by
  intros; unfold State.scrubEnd; dsimp only; (repeat' split) <;> simp only [State.audit_mask, State.pavEvt_mask,
    State.approvalEnd_mask, mask_regs, mask_hif, mask_log, mask_pav, mask_mgt, mask_out, ite_mask, ite_self,
    foldl_mask, implies_true, *]

theorem State.pavCommit_mask (s : State) (p : Proposal) (who : Approver) (G : Fields) :
    G.regs → G.hif → G.log → G.pav → G.streams → G.rte → G.cells → G.cel → G.mxu → G.mem → G.poison → G.mgt → G.out →
      G.free → (State.pavCommit s p who).mask G = s.mask G := by
  intros; simp only [State.pavCommit, State.audit_mask, State.scrubAll_mask, State.pavLast_mask, State.pavEvt_mask,
    State.bump_mask, State.newNonce_mask, State.approvalEnd_mask, mask_regs, mask_hif, mask_log, mask_pav,
    mask_streams, mask_rte, mask_cells, mask_cel, mask_mxu, mask_mem, mask_poison, mask_mgt, mask_out, mask_free,
    ite_mask, ite_self, foldl_mask, implies_true, *]

theorem State.approve_mask (s : State) (b : List Byte) (who : Approver) (G : Fields) :
    G.regs → G.hif → G.log → G.pav → G.streams → G.rte → G.cells → G.cel → G.mxu → G.mem → G.poison → G.mgt → G.out →
      G.free → (State.approve s b who).mask G = s.mask G := by
  intros; unfold State.approve; dsimp only; (repeat' split) <;> simp only [State.pavRefuse_mask, State.newNonce_mask,
    State.approvalEnd_mask, State.pavCommit_mask, mask_regs, mask_hif, mask_log, mask_pav, mask_streams, mask_rte,
    mask_cells, mask_cel, mask_mxu, mask_mem, mask_poison, mask_mgt, mask_out, mask_free, ite_mask, ite_self,
    foldl_mask, implies_true, *]

theorem execPavApprove_mask (d : Desc) (blk : List Byte) (blkOk : Bool) (s : State) (G : Fields) :
    G.regs → G.tim → G.hif → G.log → G.pav → G.streams → G.rte → G.cells → G.cel → G.mxu → G.mem → G.poison → G.mgt →
      G.out → G.free → ∀ t, execPavApprove d blk blkOk s = .next t → t.mask G = s.mask G := by
  intros; rename_i h; injection h with h; subst h; simp only [State.hostCmd_mask, State.cmdEnd_mask, State.sqStop_mask,
    State.approve_mask, mask_regs, mask_tim, mask_hif, mask_log, mask_pav, mask_streams, mask_rte, mask_cells,
    mask_cel, mask_mxu, mask_mem, mask_poison, mask_mgt, mask_out, mask_free, ite_mask, ite_self, foldl_mask,
    implies_true, *]

theorem State.mgtApprove_mask (s : State) (b : List Byte) (who : Approver) (G : Fields) :
    G.regs → G.tim → G.hif → G.log → G.pav → G.streams → G.rte → G.cells → G.cel → G.mxu → G.mem → G.poison → G.mgt →
      G.out → G.free → (State.mgtApprove s b who).mask G = s.mask G := by
  intros; unfold State.mgtApprove
  rw [← State.advTo_mask s (s.nowAt s.hif.nextTake) G (by assumption)]
  dsimp only
  rw [State.approve_mask] <;> try assumption
  generalize s.advTo (s.nowAt s.hif.nextTake) = u
  simp only [State.mask, if_true, *]

theorem execPavWindowExpire_mask (s : State) (G : Fields) :
    G.regs → G.tim → G.hif → G.log → G.pav → G.out → G.free → ∀ t, execPavWindowExpire s = .next t → t.mask G =
      s.mask G := by
  intros; rename_i h; injection h with h; subst h; (repeat' split) <;> simp only [State.bump_mask, State.advTo_mask,
    State.audit_mask, State.pavLast_mask, State.pavEvt_mask, State.newNonce_mask, mask_regs, mask_tim, mask_hif,
    mask_log, mask_pav, mask_out, mask_free, ite_mask, ite_self, foldl_mask, implies_true, *]

theorem execPavScrubDone_mask (s : State) (G : Fields) :
    G.regs → G.tim → G.hif → G.log → G.pav → G.mgt → G.out → ∀ t, execPavScrubDone s = .next t → t.mask G = s.mask G
      := by
  intros; rename_i h; injection h with h; subst h; (repeat' split) <;> simp only [State.advTo_mask,
    State.scrubEnd_mask, mask_regs, mask_tim, mask_hif, mask_log, mask_pav, mask_mgt, mask_out, ite_mask, ite_self,
    foldl_mask, implies_true, *]

theorem State.cfgEvt_mask (s : State) (bit : Nat) (G : Fields) :
    G.regs → G.hif → G.out → (State.cfgEvt s bit).mask G = s.mask G := by
  intros; simp only [State.cfgEvt, State.evt_mask, mask_regs, mask_hif, mask_out, ite_mask, ite_self, foldl_mask,
    implies_true, *]

theorem State.coldReset_mask (s : State) (cause : Nat) (G : Fields) :
    G.regs → G.latch → G.busy → G.boot → G.tim → G.hif → G.log → G.pav → G.subs → G.lanes → G.lrep → G.streams →
      G.strCmds → G.pager0 → G.pager1 → G.rte → G.sched → G.cap → G.rpl → G.digest → G.cells → G.cel → G.groups → G.mxu
      → G.tokens → G.pf0 → G.pf1 → G.greq0 → G.greq1 → G.gheld → G.gtbl → G.gwin → G.img → G.loading → G.mem → G.poison
      → G.regions → G.mgt → G.out → (State.coldReset s cause).mask G = s.mask G := by
  intros; simp [State.coldReset, State.mask, *]

theorem State.coldStart_mask (s : State) (G : Fields) :
    G.boot → (State.coldStart s).mask G = s.mask G := by
  intros; simp only [State.coldStart, mask_boot, ite_mask, ite_self, foldl_mask, implies_true, *]

theorem execPowerOn_mask (s : State) (G : Fields) :
    G.regs → G.latch → G.busy → G.boot → G.tim → G.hif → G.log → G.pav → G.subs → G.lanes → G.lrep → G.streams →
      G.strCmds → G.pager0 → G.pager1 → G.rte → G.sched → G.cap → G.rpl → G.digest → G.cells → G.cel → G.groups → G.mxu
      → G.tokens → G.pf0 → G.pf1 → G.greq0 → G.greq1 → G.gheld → G.gtbl → G.gwin → G.img → G.loading → G.mem → G.poison
      → G.regions → G.mgt → G.out → ∀ t, execPowerOn s = .next t → t.mask G = s.mask G := by
  intros; rename_i h; obtain rfl := Host.Outcome.next.inj h
  simp only [State.coldReset, State.mask, *, if_true]

theorem execColdResetAssert_mask (pwrOk : Bool) (rstN : Bool) (s : State) (G : Fields) :
    G.regs → G.latch → G.busy → G.boot → G.tim → G.hif → G.log → G.pav → G.subs → G.lanes → G.lrep → G.streams →
      G.strCmds → G.pager0 → G.pager1 → G.rte → G.sched → G.cap → G.rpl → G.digest → G.cells → G.cel → G.groups → G.mxu
      → G.tokens → G.pf0 → G.pf1 → G.greq0 → G.greq1 → G.gheld → G.gtbl → G.gwin → G.img → G.loading → G.mem → G.poison
      → G.regions → G.mgt → G.out → ∀ t, execColdResetAssert pwrOk rstN s = .next t → t.mask G = s.mask G := by
  intros; rename_i h; injection h with h; subst h; simp only [State.coldReset_mask, State.tapLapse_mask, mask_regs,
    mask_latch, mask_busy, mask_boot, mask_tim, mask_hif, mask_log, mask_pav, mask_subs, mask_lanes, mask_lrep,
    mask_streams, mask_strCmds, mask_pager0, mask_pager1, mask_rte, mask_sched, mask_cap, mask_rpl, mask_digest,
    mask_cells, mask_cel, mask_groups, mask_mxu, mask_tokens, mask_pf0, mask_pf1, mask_greq0, mask_greq1, mask_gheld,
    mask_gtbl, mask_gwin, mask_img, mask_loading, mask_mem, mask_poison, mask_regions, mask_mgt, mask_out, ite_mask,
    ite_self, foldl_mask, implies_true, *]

theorem execColdResetRelease_mask (refclk : Bool) (s : State) (G : Fields) :
    G.boot → G.tim → ∀ t, execColdResetRelease refclk s = .next t → t.mask G = s.mask G := by
  intros; rename_i h; injection h with h; subst h
  split
  · simp only [State.mask, *, if_true]
  · rfl

theorem execVsbLoss_mask (s : State) (G : Fields) :
    G.regs → G.latch → G.busy → G.boot → G.tim → G.hif → G.log → G.pav → G.subs → G.lanes → G.lrep → G.streams →
      G.strCmds → G.pager0 → G.pager1 → G.rte → G.sched → G.cap → G.rpl → G.digest → G.cells → G.cel → G.groups → G.mxu
      → G.tokens → G.pf0 → G.pf1 → G.greq0 → G.greq1 → G.gheld → G.gtbl → G.gwin → G.img → G.loading → G.mem → G.poison
      → G.regions → G.mgt → G.out → ∀ t, execVsbLoss s = .next t → t.mask G = s.mask G := by
  intros; rename_i h; obtain rfl := Host.Outcome.next.inj h
  dsimp only
  split
  · rw [State.emit_mask _ _ _ (by assumption)]; simp only [State.coldReset, State.mask, *, if_true]
  · simp only [State.coldReset, State.mask, *, if_true]

theorem execVidPinsValid_mask (s : State) (G : Fields) :
    G.boot → G.out → ∀ t, execVidPinsValid s = .next t → t.mask G = s.mask G := by
  intros; rename_i h; injection h with h; subst h; simp only [State.emit_mask, mask_boot, mask_out, ite_mask,
    ite_self, foldl_mask, implies_true, *]

theorem State.hostTrain_mask (s : State) (G : Fields) :
    G.hif → (State.hostTrain s).mask G = s.mask G := by
  intros; simp only [State.hostTrain, mask_hif, ite_mask, ite_self, foldl_mask, implies_true, *]

theorem State.clocksDone_mask (s : State) (G : Fields) :
    G.boot → G.hif → (State.clocksDone s).mask G = s.mask G := by
  intros; simp only [State.clocksDone, State.hostTrain_mask, mask_boot, mask_hif, ite_mask, ite_self, foldl_mask,
    implies_true, *]

theorem execRootPllLock_mask (s : State) (G : Fields) :
    G.boot → G.tim → G.hif → ∀ t, execRootPllLock s = .next t → t.mask G = s.mask G := by
  intros; rename_i h; injection h with h; subst h; simp only [State.clocksDone_mask, mask_boot, mask_tim, mask_hif,
    ite_mask, ite_self, foldl_mask, implies_true, *]

theorem execClocksTimeout_mask (s : State) (G : Fields) :
    G.boot → ∀ t, execClocksTimeout s = .next t → t.mask G = s.mask G := by
  intros; rename_i h; injection h with h; subst h; simp only [mask_boot, ite_mask, ite_self, foldl_mask,
    implies_true, *]

theorem execFuseReadDone_mask (s : State) (G : Fields) :
    G.regs → G.boot → G.hif → G.log → G.out → ∀ t, execFuseReadDone s = .next t → t.mask G = s.mask G := by
  intros; rename_i h; injection h with h; subst h; simp only [State.offer_mask, State.clocksDone_mask, mask_regs,
    mask_boot, mask_hif, mask_log, mask_out, ite_mask, ite_self, foldl_mask, implies_true, *]

theorem execPerstRelease_mask (flit : Bool) (rate : Nat) (width : Nat) (numVf : Nat) (s : State) (G : Fields) :
    G.boot → G.hif → ∀ t, execPerstRelease flit rate width numVf s = .next t → t.mask G = s.mask G := by
  intros; rename_i h; injection h with h; subst h
  rw [State.hostTrain_mask _ _ (by assumption)]
  simp only [State.mask, *, if_true]

theorem State.setCopy_mask (s : State) (c : Nat) (x : CopyStat) (G : Fields) :
    G.boot → (State.setCopy s c x).mask G = s.mask G := by
  intros; simp only [State.setCopy, mask_boot, ite_mask, ite_self, foldl_mask, implies_true, *]

theorem State.copyFail_mask (s : State) (c : Nat) (status : Nat) (G : Fields) :
    G.regs → G.boot → G.hif → G.log → G.out → (State.copyFail s c status).mask G = s.mask G := by
  intros; simp only [State.copyFail, State.offer_mask, State.cfgEvt_mask, State.setCopy_mask, mask_regs, mask_boot,
    mask_hif, mask_log, mask_out, ite_mask, ite_self, foldl_mask, implies_true, *]

theorem State.logReset_mask (s : State) (G : Fields) :
    G.regs → G.hif → G.log → G.out → (State.logReset s).mask G = s.mask G := by
  intros; simp only [State.logReset, State.offer_mask, mask_regs, mask_hif, mask_log, mask_out, ite_mask, ite_self,
    foldl_mask, implies_true, *]

theorem State.loadPav_mask (s : State) (seq : Nat) (t : PavSet) (G : Fields) :
    G.pav → G.free → (State.loadPav s seq t).mask G = s.mask G := by
  intros; simp only [State.loadPav, State.newNonce_mask, mask_pav, mask_free, ite_mask, ite_self, foldl_mask,
    implies_true, *]

theorem State.takeCopy_mask (s : State) (c : Nat) (seq : Nat) (t : PavSet) (G : Fields) :
    G.boot → G.pav → G.free → (State.takeCopy s c seq t).mask G = s.mask G := by
  intros; simp only [State.takeCopy, State.setCopy_mask, State.loadPav_mask, mask_boot, mask_pav, mask_free,
    ite_mask, ite_self, foldl_mask, implies_true, *]

theorem State.recovery_mask (s : State) (G : Fields) :
    G.regs → G.boot → G.hif → G.log → G.pav → G.out → G.free → (State.recovery s).mask G = s.mask G := by
  intros; simp only [State.recovery, State.logReset_mask, State.loadPav_mask, mask_regs, mask_boot, mask_hif,
    mask_log, mask_pav, mask_out, mask_free, ite_mask, ite_self, foldl_mask, implies_true, *]

theorem State.tryCopies_mask (s : State) (x1 : List Nat) (G : Fields) :
    G.regs → G.boot → G.hif → G.log → G.pav → G.out → G.free → (State.tryCopies s x1).mask G = s.mask G := by
  intros
  induction x1 generalizing s with
  | nil => unfold State.tryCopies; simp only [State.copyFail_mask, State.takeCopy_mask, State.recovery_mask,
    mask_regs, mask_boot, mask_hif, mask_log, mask_pav, mask_out, mask_free, ite_mask, ite_self, foldl_mask,
    implies_true, *]
  | cons n l ih => unfold State.tryCopies; dsimp only; (repeat' split) <;> simp only [ih, State.copyFail_mask,
    State.takeCopy_mask, State.recovery_mask, mask_regs, mask_boot, mask_hif, mask_log, mask_pav, mask_out,
    mask_free, ite_mask, ite_self, foldl_mask, implies_true, *]

theorem execCopySelected_mask (s : State) (G : Fields) :
    G.regs → G.boot → G.hif → G.log → G.pav → G.out → G.free → ∀ t, execCopySelected s = .next t → t.mask G = s.mask
      G := by
  intros; rename_i h; injection h with h; subst h; simp only [State.setCopy_mask, State.tryCopies_mask, mask_regs,
    mask_boot, mask_hif, mask_log, mask_pav, mask_out, mask_free, ite_mask, ite_self, foldl_mask, implies_true, *]

theorem State.logClear_mask (s : State) (G : Fields) :
    G.log → (State.logClear s).mask G = s.mask G := by
  intros; simp only [State.logClear, mask_log, ite_mask, ite_self, foldl_mask, implies_true, *]

theorem execClearDone_mask (s : State) (G : Fields) :
    G.regs → G.boot → G.log → G.cells → G.mem → G.poison → ∀ t, execClearDone s = .next t → t.mask G = s.mask G := by
  intros; rename_i h; injection h with h; subst h
  split
  · extract_lets +lift s1 s2 s3 s4
    have h1 : s1.mask G = s.mask G := by simp only [s1, State.mask, *, if_true]
    have h2 : s2.mask G = s.mask G := by simp only [s2]; simp only [State.setFld_mask, State.logClear_mask,
      mask_regs, mask_boot, mask_log, mask_cells, mask_mem, mask_poison, mask_writes, mask_soft, ite_mask, ite_self,
      foldl_mask, implies_true, *]
    have h3 : s3.mask G = s.mask G := by simp only [s3]; rw [foldl_mask, h2]; intros; simp only [State.setFld_mask,
      State.logClear_mask, mask_regs, mask_boot, mask_log, mask_cells, mask_mem, mask_poison, mask_writes, mask_soft,
      ite_mask, ite_self, foldl_mask, implies_true, *]
    have h4 : s4.mask G = s.mask G := by simp only [s4]; simp only [State.setFld_mask, State.logClear_mask,
      mask_regs, mask_boot, mask_log, mask_cells, mask_mem, mask_poison, mask_writes, mask_soft, ite_mask, ite_self,
      foldl_mask, implies_true, *]
    simp only [State.setFld_mask, State.logClear_mask, mask_regs, mask_boot, mask_log, mask_cells, mask_mem,
      mask_poison, mask_writes, mask_soft, ite_mask, ite_self, foldl_mask, implies_true, *]
  · rfl

theorem State.warmPorts_mask (s : State) (G : Fields) :
    G.busy → G.tim → G.subs → G.lrep → G.rte → (State.warmPorts s).mask G = s.mask G := by
  intros; unfold State.warmPorts
  dsimp only
  rw [foldl_mask]
  · simp only [State.mask, *, if_true]
  · intros; split
    · split <;> simp only [State.setSrcUp_mask, State.enter_mask, mask_busy, mask_tim, mask_subs, mask_lrep,
      mask_rte, ite_mask, ite_self, foldl_mask, implies_true, *]
    · rfl

theorem State.warmBpm_mask (s : State) (die : Nat) (G : Fields) :
    G.regs → G.rte → (State.warmBpm s die).mask G = s.mask G := by
  intros; simp only [State.warmBpm, State.setFld_mask, mask_regs, mask_rte, ite_mask, ite_self, foldl_mask,
    implies_true, *]

theorem State.warmUnits_mask (s : State) (G : Fields) :
    G.hif → G.streams → G.strCmds → G.pager0 → G.pager1 → G.sched → G.cap → G.rpl → G.digest → G.cells → G.cel →
      G.groups → G.mxu → G.tokens → G.pf0 → G.pf1 → G.greq0 → G.greq1 → G.gheld → G.gtbl → G.img → G.loading → G.mem →
      G.poison → G.regions → (State.warmUnits s).mask G = s.mask G := by
  intros; unfold State.warmUnits
  rw [← State.unload_mask s G (by assumption) (by assumption) (by assumption) (by assumption) (by assumption), ← State.due_mask s.unload G (by assumption) (by assumption)]
  generalize s.unload.due = u
  simp only [State.mask, if_true, *]

theorem State.logFlush_mask (s : State) (G : Fields) :
    G.regs → G.hif → G.log → G.out → (State.logFlush s).mask G = s.mask G := by
  intros; simp only [State.logFlush, State.logWrite1_mask, mask_regs, mask_hif, mask_log, mask_out, ite_mask,
    ite_self, foldl_mask, implies_true, *]

theorem State.warmRegs_mask (s : State) (G : Fields) :
    G.regs → G.log → (State.warmRegs s).mask G = s.mask G := by
  intros; simp only [State.warmRegs, State.mask, if_true, *]

theorem State.warmPav_mask (s : State) (G : Fields) :
    G.pav → G.free → (State.warmPav s).mask G = s.mask G := by
  intros; simp only [State.warmPav, State.newNonce_mask, mask_pav, mask_free, ite_mask, ite_self, foldl_mask,
    implies_true, *]

theorem State.warmBlocks_mask (s : State) (G : Fields) :
    G.regs → G.busy → G.tim → G.hif → G.log → G.pav → G.subs → G.lrep → G.streams → G.strCmds → G.pager0 → G.pager1 →
      G.rte → G.sched → G.cap → G.rpl → G.digest → G.cells → G.cel → G.groups → G.mxu → G.tokens → G.pf0 → G.pf1 →
      G.greq0 → G.greq1 → G.gheld → G.gtbl → G.img → G.loading → G.mem → G.poison → G.regions → G.out → G.free →
      (State.warmBlocks s).mask G = s.mask G := by
  intros; unfold State.warmBlocks
  dsimp only
  rw [State.warmRegs_mask, State.setFld_mask, State.setFld_mask, State.warmBpm_mask, State.warmBpm_mask, State.warmUnits_mask,
    State.allReset_mask, State.warmPav_mask, State.warmPorts_mask, State.logFlush_mask] <;> assumption

theorem State.warmReset_mask (s : State) (cause : Nat) (G : Fields) :
    G.regs → G.busy → G.boot → G.tim → G.hif → G.log → G.pav → G.subs → G.lrep → G.streams → G.strCmds → G.pager0 →
      G.pager1 → G.rte → G.sched → G.cap → G.rpl → G.digest → G.cells → G.cel → G.groups → G.mxu → G.tokens → G.pf0 →
      G.pf1 → G.greq0 → G.greq1 → G.gheld → G.gtbl → G.img → G.loading → G.mem → G.poison → G.regions → G.out → G.free
      → (State.warmReset s cause).mask G = s.mask G := by
  intros; simp only [State.warmReset, State.warmBlocks_mask, State.cfgEvt_mask, mask_regs, mask_busy, mask_boot,
    mask_tim, mask_hif, mask_log, mask_pav, mask_subs, mask_lrep, mask_streams, mask_strCmds, mask_pager0, mask_pager1,
    mask_rte, mask_sched, mask_cap, mask_rpl, mask_digest, mask_cells, mask_cel, mask_groups, mask_mxu, mask_tokens,
    mask_pf0, mask_pf1, mask_greq0, mask_greq1, mask_gheld, mask_gtbl, mask_img, mask_loading, mask_mem, mask_poison,
    mask_regions, mask_out, mask_free, ite_mask, ite_self, foldl_mask, implies_true, *]

theorem execWarmResetDone_mask (s : State) (G : Fields) :
    G.regs → G.boot → G.hif → G.log → G.pav → G.out → ∀ t, execWarmResetDone s = .next t → t.mask G = s.mask G := by
  intros; rename_i h; obtain rfl := Host.Outcome.next.inj h
  split
  · dsimp only
    rw [State.logReset_mask _ _ (by assumption) (by assumption) (by assumption) (by assumption), State.cfgEvt_mask _ _ _ (by assumption) (by assumption) (by assumption)]
    simp only [State.mask, if_true, *]
  · rfl

theorem execWrstAssert_mask (s : State) (G : Fields) :
    G.regs → G.busy → G.boot → G.tim → G.hif → G.log → G.pav → G.subs → G.lrep → G.streams → G.strCmds → G.pager0 →
      G.pager1 → G.rte → G.sched → G.cap → G.rpl → G.digest → G.cells → G.cel → G.groups → G.mxu → G.tokens → G.pf0 →
      G.pf1 → G.greq0 → G.greq1 → G.gheld → G.gtbl → G.img → G.loading → G.mem → G.poison → G.regions → G.out → G.free
      → ∀ t, execWrstAssert s = .next t → t.mask G = s.mask G := by
  intros; rename_i h; injection h with h; subst h; simp only [State.warmReset_mask, mask_regs, mask_busy, mask_boot,
    mask_tim, mask_hif, mask_log, mask_pav, mask_subs, mask_lrep, mask_streams, mask_strCmds, mask_pager0, mask_pager1,
    mask_rte, mask_sched, mask_cap, mask_rpl, mask_digest, mask_cells, mask_cel, mask_groups, mask_mxu, mask_tokens,
    mask_pf0, mask_pf1, mask_greq0, mask_greq1, mask_gheld, mask_gtbl, mask_img, mask_loading, mask_mem, mask_poison,
    mask_regions, mask_out, mask_free, ite_mask, ite_self, foldl_mask, implies_true, *]

theorem execWatchdogFault_mask (s : State) (G : Fields) :
    G.regs → G.busy → G.boot → G.tim → G.hif → G.log → G.pav → G.subs → G.lrep → G.streams → G.strCmds → G.pager0 →
      G.pager1 → G.rte → G.sched → G.cap → G.rpl → G.digest → G.cells → G.cel → G.groups → G.mxu → G.tokens → G.pf0 →
      G.pf1 → G.greq0 → G.greq1 → G.gheld → G.gtbl → G.img → G.loading → G.mem → G.poison → G.regions → G.out → G.free
      → ∀ t, execWatchdogFault s = .next t → t.mask G = s.mask G := by
  intros; rename_i h; injection h with h; subst h; simp only [State.warmReset_mask, mask_regs, mask_busy, mask_boot,
    mask_tim, mask_hif, mask_log, mask_pav, mask_subs, mask_lrep, mask_streams, mask_strCmds, mask_pager0, mask_pager1,
    mask_rte, mask_sched, mask_cap, mask_rpl, mask_digest, mask_cells, mask_cel, mask_groups, mask_mxu, mask_tokens,
    mask_pf0, mask_pf1, mask_greq0, mask_greq1, mask_gheld, mask_gtbl, mask_img, mask_loading, mask_mem, mask_poison,
    mask_regions, mask_out, mask_free, ite_mask, ite_self, foldl_mask, implies_true, *]

theorem State.cfgReset_mask (s : State) (v : Word) (G : Fields) :
    G.regs → G.latch → G.busy → G.boot → G.tim → G.hif → G.log → G.pav → G.subs → G.lanes → G.lrep → G.streams →
      G.strCmds → G.pager0 → G.pager1 → G.rte → G.sched → G.cap → G.rpl → G.digest → G.cells → G.cel → G.groups → G.mxu
      → G.tokens → G.pf0 → G.pf1 → G.greq0 → G.greq1 → G.gheld → G.gtbl → G.gwin → G.img → G.loading → G.mem → G.poison
      → G.regions → G.mgt → G.out → G.free → (State.cfgReset s v).mask G = s.mask G := by
  intros; simp only [State.cfgReset, State.coldStart_mask, State.coldReset_mask, State.warmReset_mask, mask_regs,
    mask_latch, mask_busy, mask_boot, mask_tim, mask_hif, mask_log, mask_pav, mask_subs, mask_lanes, mask_lrep,
    mask_streams, mask_strCmds, mask_pager0, mask_pager1, mask_rte, mask_sched, mask_cap, mask_rpl, mask_digest,
    mask_cells, mask_cel, mask_groups, mask_mxu, mask_tokens, mask_pf0, mask_pf1, mask_greq0, mask_greq1, mask_gheld,
    mask_gtbl, mask_gwin, mask_img, mask_loading, mask_mem, mask_poison, mask_regions, mask_mgt, mask_out, mask_free,
    ite_mask, ite_self, foldl_mask, implies_true, *]

theorem execCfgResetCold_mask (p : Path) (v : Word) (s : State) (G : Fields) :
    G.regs → G.latch → G.busy → G.boot → G.tim → G.hif → G.log → G.pav → G.subs → G.lanes → G.lrep → G.streams →
      G.strCmds → G.pager0 → G.pager1 → G.rte → G.sched → G.cap → G.rpl → G.digest → G.cells → G.cel → G.groups → G.mxu
      → G.tokens → G.pf0 → G.pf1 → G.greq0 → G.greq1 → G.gheld → G.gtbl → G.gwin → G.img → G.loading → G.mem → G.poison
      → G.regions → G.mgt → G.out → G.free → ∀ t, execCfgResetCold p v s = .next t → t.mask G = s.mask G := by
  intros; rename_i h; injection h with h; subst h; simp only [State.cfgReset_mask, mask_regs, mask_latch, mask_busy,
    mask_boot, mask_tim, mask_hif, mask_log, mask_pav, mask_subs, mask_lanes, mask_lrep, mask_streams, mask_strCmds,
    mask_pager0, mask_pager1, mask_rte, mask_sched, mask_cap, mask_rpl, mask_digest, mask_cells, mask_cel, mask_groups,
    mask_mxu, mask_tokens, mask_pf0, mask_pf1, mask_greq0, mask_greq1, mask_gheld, mask_gtbl, mask_gwin, mask_img,
    mask_loading, mask_mem, mask_poison, mask_regions, mask_mgt, mask_out, mask_free, ite_mask, ite_self, foldl_mask,
    implies_true, *]

theorem execCfgResetWarm_mask (p : Path) (v : Word) (s : State) (G : Fields) :
    G.regs → G.latch → G.busy → G.boot → G.tim → G.hif → G.log → G.pav → G.subs → G.lanes → G.lrep → G.streams →
      G.strCmds → G.pager0 → G.pager1 → G.rte → G.sched → G.cap → G.rpl → G.digest → G.cells → G.cel → G.groups → G.mxu
      → G.tokens → G.pf0 → G.pf1 → G.greq0 → G.greq1 → G.gheld → G.gtbl → G.gwin → G.img → G.loading → G.mem → G.poison
      → G.regions → G.mgt → G.out → G.free → ∀ t, execCfgResetWarm p v s = .next t → t.mask G = s.mask G := by
  intros; rename_i h; injection h with h; subst h; simp only [State.cfgReset_mask, mask_regs, mask_latch, mask_busy,
    mask_boot, mask_tim, mask_hif, mask_log, mask_pav, mask_subs, mask_lanes, mask_lrep, mask_streams, mask_strCmds,
    mask_pager0, mask_pager1, mask_rte, mask_sched, mask_cap, mask_rpl, mask_digest, mask_cells, mask_cel, mask_groups,
    mask_mxu, mask_tokens, mask_pf0, mask_pf1, mask_greq0, mask_greq1, mask_gheld, mask_gtbl, mask_gwin, mask_img,
    mask_loading, mask_mem, mask_poison, mask_regions, mask_mgt, mask_out, mask_free, ite_mask, ite_self, foldl_mask,
    implies_true, *]

theorem State.flCmd_mask (s : State) (pf : Bool) (v : Word) (G : Fields) :
    G.regs → G.boot → G.hif → G.out → (State.flCmd s pf v).mask G = s.mask G := by
  intros; simp only [State.flCmd, State.plainWrite_mask, State.cfgEvt_mask, mask_regs, mask_boot, mask_hif, mask_out,
    ite_mask, ite_self, foldl_mask, implies_true, *]

theorem State.flStart_mask (s : State) (p : Path) (v : Word) (op : Nat) (G : Fields) :
    G.regs → G.boot → G.hif → G.out → (State.flStart s p v op).mask G = s.mask G := by
  intros; simp only [State.flStart, State.flCmd_mask, mask_regs, mask_boot, mask_hif, mask_out, ite_mask, ite_self,
    foldl_mask, implies_true, *]

theorem execFlashRead_mask (p : Path) (v : Word) (s : State) (G : Fields) :
    G.regs → G.boot → G.hif → G.out → ∀ t, execFlashRead p v s = .next t → t.mask G = s.mask G := by
  intros; rename_i h; injection h with h; subst h; simp only [State.flStart_mask, mask_regs, mask_boot, mask_hif,
    mask_out, ite_mask, ite_self, foldl_mask, implies_true, *]

theorem execFlashProgram_mask (p : Path) (v : Word) (s : State) (G : Fields) :
    G.regs → G.boot → G.hif → G.out → ∀ t, execFlashProgram p v s = .next t → t.mask G = s.mask G := by
  intros; rename_i h; injection h with h; subst h; simp only [State.flStart_mask, mask_regs, mask_boot, mask_hif,
    mask_out, ite_mask, ite_self, foldl_mask, implies_true, *]

theorem execFlashErase_mask (p : Path) (v : Word) (s : State) (G : Fields) :
    G.regs → G.boot → G.hif → G.out → ∀ t, execFlashErase p v s = .next t → t.mask G = s.mask G := by
  intros; rename_i h; injection h with h; subst h; simp only [State.flStart_mask, mask_regs, mask_boot, mask_hif,
    mask_out, ite_mask, ite_self, foldl_mask, implies_true, *]

theorem State.fillPage_mask (s : State) (bs : List Byte) (G : Fields) :
    G.regs → (State.fillPage s bs).mask G = s.mask G := by
  intros; simp only [State.fillPage, State.hwReg_mask, mask_regs, ite_mask, ite_self, foldl_mask, implies_true, *]

theorem execFlashOpDone_mask (s : State) (G : Fields) :
    G.regs → G.boot → G.flash → ∀ t, execFlashOpDone s = .next t → t.mask G = s.mask G := by
  intros; rename_i h; injection h with h; subst h
  split
  · rfl
  · dsimp only; split
    · simp only [State.fillPage_mask, mask_regs, mask_boot, mask_flash, ite_mask, ite_self, foldl_mask, implies_true,
      *]
    · split <;> simp only [State.mask, *, if_true]

theorem State.fuseProg_mask (s : State) (v : Word) (G : Fields) :
    G.boot → (State.fuseProg s v).mask G = s.mask G := by
  intros; simp only [State.fuseProg, mask_boot, ite_mask, ite_self, foldl_mask, implies_true, *]

theorem execFuseProg_mask (p : Path) (v : Word) (s : State) (G : Fields) :
    G.boot → ∀ t, execFuseProg p v s = .next t → t.mask G = s.mask G := by
  intros; rename_i h; injection h with h; subst h; simp only [State.fuseProg_mask, mask_boot, ite_mask, ite_self,
    foldl_mask, implies_true, *]

theorem execFuseProgDone_mask (s : State) (G : Fields) :
    G.fuse → G.boot → ∀ t, execFuseProgDone s = .next t → t.mask G = s.mask G := by
  intros; rename_i h; injection h with h; subst h
  split
  · rfl
  · simp only [State.mask, *, if_true]

theorem State.portsIdle_mask (s : State) (G : Fields) :
    G.regs → G.tim → G.hif → G.log → G.subs → G.lrep → G.streams → G.rte → G.out → (State.portsIdle s).mask G =
      s.mask G := by
  intros; unfold State.portsIdle; apply foldl_mask <;> intros <;> (repeat' split) <;> (try simp only [Prod.ext_iff]
    at *) <;> (try casesm* _ ∧ _) <;> (try subst_vars) <;> (try simp only [State.linkLost_mask, State.enter_mask,
      mask_regs, mask_tim, mask_hif, mask_log, mask_subs, mask_lrep, mask_streams, mask_rte, mask_out, ite_mask,
      ite_self, foldl_mask, implies_true, *])

theorem State.stcIdle_mask (s : State) (G : Fields) :
    G.tim → G.lanes → G.mgt → (State.stcIdle s).mask G = s.mask G := by
  intros; simp only [State.stcIdle, State.setSrcUp_mask, State.relayClose_mask, State.setLane_mask, mask_tim,
    mask_lanes, mask_mgt, ite_mask, ite_self, foldl_mask, implies_true, *]

theorem State.unitsHeld_mask (s : State) (G : Fields) :
    G.sched → G.cells → G.cel → G.mxu → G.tokens → G.mem → G.poison → (State.unitsHeld s).mask G = s.mask G := by
  intros; rw [← State.due_mask s G (by assumption) (by assumption)]
  unfold State.unitsHeld
  generalize s.due = u
  simp only [State.mask, if_true, *]

theorem State.fatalEnter_mask (s : State) (code : Nat) (d0 : Nat) (d1 : Nat) (G : Fields) :
    G.regs → G.tim → G.hif → G.log → G.subs → G.lanes → G.lrep → G.streams → G.rte → G.sched → G.cells → G.cel →
      G.mxu → G.tokens → G.mem → G.poison → G.mgt → G.out → (State.fatalEnter s code d0 d1).mask G = s.mask G := by
  intros; simp only [State.fatalEnter, State.noSource_mask, State.portsIdle_mask, State.stcIdle_mask,
    State.unitsHeld_mask, State.evt_mask, State.offer_mask, mask_regs, mask_tim, mask_hif, mask_log, mask_subs,
    mask_lanes, mask_lrep, mask_streams, mask_rte, mask_sched, mask_cells, mask_cel, mask_mxu, mask_tokens, mask_mem,
    mask_poison, mask_mgt, mask_out, ite_mask, ite_self, foldl_mask, implies_true, *]

theorem State.lockLost_mask (s : State) (G : Fields) :
    G.regs → G.tim → G.hif → G.log → G.subs → G.lanes → G.lrep → G.streams → G.rte → G.sched → G.cells → G.cel →
      G.mxu → G.tokens → G.mem → G.poison → G.mgt → G.out → (State.lockLost s).mask G = s.mask G := by
  intros; simp only [State.lockLost, State.emit_mask, State.oneCycle_mask, State.fatalEnter_mask, State.offer_mask,
    mask_regs, mask_tim, mask_hif, mask_log, mask_subs, mask_lanes, mask_lrep, mask_streams, mask_rte, mask_sched,
    mask_cells, mask_cel, mask_mxu, mask_tokens, mask_mem, mask_poison, mask_mgt, mask_out, ite_mask, ite_self,
    foldl_mask, implies_true, *]

theorem execRootLockLoss_mask (s : State) (G : Fields) :
    G.regs → G.tim → G.hif → G.log → G.subs → G.lanes → G.lrep → G.streams → G.rte → G.sched → G.cells → G.cel →
      G.mxu → G.tokens → G.mem → G.poison → G.mgt → G.out → ∀ t, execRootLockLoss s = .next t → t.mask G = s.mask G
      := by
  intros; rename_i h; injection h with h; subst h; simp only [State.lockLost_mask, mask_regs, mask_tim, mask_hif,
    mask_log, mask_subs, mask_lanes, mask_lrep, mask_streams, mask_rte, mask_sched, mask_cells, mask_cel, mask_mxu,
    mask_tokens, mask_mem, mask_poison, mask_mgt, mask_out, ite_mask, ite_self, foldl_mask, implies_true, *]

theorem execRefclkLoss_mask (s : State) (G : Fields) :
    G.regs → G.tim → G.hif → G.log → G.subs → G.lanes → G.lrep → G.streams → G.rte → G.sched → G.cells → G.cel →
      G.mxu → G.tokens → G.mem → G.poison → G.mgt → G.out → ∀ t, execRefclkLoss s = .next t → t.mask G = s.mask G :=
      by
  intros; rename_i h; injection h with h; subst h; simp only [State.lockLost_mask, State.offer_mask, mask_regs,
    mask_tim, mask_hif, mask_log, mask_subs, mask_lanes, mask_lrep, mask_streams, mask_rte, mask_sched, mask_cells,
    mask_cel, mask_mxu, mask_tokens, mask_mem, mask_poison, mask_mgt, mask_out, ite_mask, ite_self, foldl_mask,
    implies_true, *]

theorem State.countRetry_mask (s : State) (link : Nat) (G : Fields) :
    G.log → (State.countRetry s link).mask G = s.mask G := by
  intros; simp only [State.countRetry, mask_log, ite_mask, ite_self, foldl_mask, implies_true, *]

theorem execPkgLinkRetry_mask (link : Nat) (sched : Bool) (s : State) (G : Fields) :
    G.regs → G.hif → G.log → G.out → ∀ t, execPkgLinkRetry link sched s = .next t → t.mask G = s.mask G := by
  intros; rename_i h; injection h with h; subst h; simp only [State.countRetry_mask, State.hazard_mask, mask_regs,
    mask_hif, mask_log, mask_out, ite_mask, ite_self, foldl_mask, implies_true, *]

theorem execPkgLinkFail_mask (link : Nat) (pair : Nat) (s : State) (G : Fields) :
    G.regs → G.tim → G.hif → G.log → G.subs → G.lanes → G.lrep → G.streams → G.rte → G.sched → G.cells → G.cel →
      G.mxu → G.tokens → G.mem → G.poison → G.mgt → G.out → ∀ t, execPkgLinkFail link pair s = .next t → t.mask G =
      s.mask G := by
  intros; rename_i h; injection h with h; subst h; simp only [State.fatalEnter_mask, mask_regs, mask_tim, mask_hif,
    mask_log, mask_subs, mask_lanes, mask_lrep, mask_streams, mask_rte, mask_sched, mask_cells, mask_cel, mask_mxu,
    mask_tokens, mask_mem, mask_poison, mask_mgt, mask_out, ite_mask, ite_self, foldl_mask, implies_true, *]

theorem State.eccRoute_mask (s : State) (i : Nat) (G : Fields) :
    G.rte → (State.eccRoute s i).mask G = s.mask G := by
  intros; simp only [State.eccRoute, State.rteSet_mask, mask_rte, ite_mask, ite_self, foldl_mask, implies_true, *]

theorem State.eccBuffer_mask (s : State) (i : Nat) (G : Fields) :
    G.rte → (State.eccBuffer s i).mask G = s.mask G := by
  intros; simp only [State.eccBuffer, State.setPool_mask, mask_rte, ite_mask, ite_self, foldl_mask, implies_true, *]

theorem State.eccStore_mask (s : State) (G : Fields) :
    G.sched → G.cel → G.img → G.mem → G.poison → G.regions → (State.eccStore s).mask G = s.mask G := by
  intros; simp only [State.eccStore, State.unload_mask, mask_sched, mask_cel, mask_img, mask_mem, mask_poison,
    mask_regions, ite_mask, ite_self, foldl_mask, implies_true, *]

theorem State.damageHeld_mask (s : State) (die : Nat) (f : Nat) (G : Fields) :
    G.rte → (State.damageHeld s die f).mask G = s.mask G := by
  intros; simp only [State.damageHeld, mask_rte, ite_mask, ite_self, foldl_mask, implies_true, *]

theorem State.eccEffect_mask (s : State) (k : Nat) (i : Nat) (die : Nat) (G : Fields) :
    G.regs → G.tim → G.hif → G.log → G.subs → G.lanes → G.lrep → G.streams → G.rte → G.sched → G.cells → G.cel →
      G.groups → G.mxu → G.tokens → G.gtbl → G.img → G.mem → G.poison → G.regions → G.mgt → G.out → G.free →
      (State.eccEffect s k i die).mask G = s.mask G := by
  intros; unfold State.eccEffect
  simp only [State.eccRoute_mask, State.destroyGroup_mask, State.setStream_mask, State.setPolicer_mask,
    State.setOwner_mask, State.eccBuffer_mask, State.eccStore_mask, State.poisonIt_mask, State.damageHeld_mask,
    State.fatalEnter_mask, mask_regs, mask_tim, mask_hif, mask_log, mask_subs, mask_lanes, mask_lrep, mask_streams,
    mask_rte, mask_sched, mask_cells, mask_cel, mask_groups, mask_mxu, mask_tokens, mask_gtbl, mask_img, mask_mem,
    mask_poison, mask_regions, mask_mgt, mask_out, mask_free, ite_mask, ite_self, foldl_mask, implies_true, *]
  (repeat' split) <;> simp only [State.eccRoute_mask, State.destroyGroup_mask, State.setStream_mask,
    State.setPolicer_mask, State.setOwner_mask, State.eccBuffer_mask, State.eccStore_mask, State.poisonIt_mask,
    State.damageHeld_mask, State.fatalEnter_mask, mask_regs, mask_tim, mask_hif, mask_log, mask_subs, mask_lanes,
    mask_lrep, mask_streams, mask_rte, mask_sched, mask_cells, mask_cel, mask_groups, mask_mxu, mask_tokens, mask_gtbl,
    mask_img, mask_mem, mask_poison, mask_regions, mask_mgt, mask_out, mask_free, ite_mask, ite_self, foldl_mask,
    implies_true, *]

theorem execTableEccFault_mask (structure_ : Nat) (index : Nat) (die : Nat) (s : State) (G : Fields) :
    G.regs → G.tim → G.hif → G.log → G.subs → G.lanes → G.lrep → G.streams → G.rte → G.sched → G.cells → G.cel →
      G.groups → G.mxu → G.tokens → G.gtbl → G.img → G.mem → G.poison → G.regions → G.mgt → G.out → G.free → ∀ t,
      execTableEccFault structure_ index die s = .next t → t.mask G = s.mask G := by
  intros; rename_i h; injection h with h; subst h; simp only [State.eccEffect_mask, State.poisonIt_mask,
    State.soften_mask, State.tblFault_mask, State.bump_mask, mask_regs, mask_tim, mask_hif, mask_log, mask_subs,
    mask_lanes, mask_lrep, mask_streams, mask_rte, mask_sched, mask_cells, mask_cel, mask_groups, mask_mxu,
    mask_tokens, mask_gtbl, mask_img, mask_mem, mask_poison, mask_regions, mask_mgt, mask_out, mask_free, ite_mask,
    ite_self, foldl_mask, implies_true, *]

theorem execLogDrainAdv_mask (path : Path) (v : Word) (s : State) (G : Fields) :
    G.log → ∀ t, execLogDrainAdv path v s = .next t → t.mask G = s.mask G := by
  intros; rename_i h; injection h with h; subst h; simp only [State.drainAdv_mask, mask_log, ite_mask, ite_self,
    foldl_mask, implies_true, *]

theorem stateOr_mask (s : State) (o : Host.Outcome State Fault Refusal) (G : Fields) :
    (∀ t, o = .next t → t.mask G = s.mask G) → (stateOr s o).mask G = s.mask G := by
  intro h; unfold stateOr; split
  · rename_i t; exact h t rfl
  · rfl

theorem State.plainUnless_mask (s : State) (o : Nat) (v : Word) (bad : Bool) (ignored : State → State) (G : Fields) :
    G.regs → (∀ (y0 : State), (ignored y0).mask G = y0.mask G) → (State.plainUnless s o v bad ignored).mask G =
      s.mask G := by
  intros; simp only [State.plainUnless, State.plainWrite_mask, mask_regs, ite_mask, ite_self, foldl_mask,
    implies_true, *]

theorem State.writeClk_mask (s : State) (o : Nat) (v : Word) (G : Fields) :
    G.regs → G.tim → (State.writeClk s o v).mask G = s.mask G := by
  intros; simp only [State.writeClk, State.plainWrite_mask, mask_regs, mask_tim, ite_mask, ite_self, foldl_mask,
    implies_true, *]

theorem State.staleSrcs_mask (s : State) (G : Fields) :
    G.tim → (State.staleSrcs s).mask G = s.mask G := by
  intros; simp only [State.staleSrcs, mask_tim, ite_mask, ite_self, foldl_mask, implies_true, *]

theorem State.writeTim_mask (s : State) (o : Nat) (v : Word) (G : Fields) :
    G.regs → G.tim → G.hif → G.out → (State.writeTim s o v).mask G = s.mask G := by
  intros; simp only [State.writeTim, State.setSrc_mask, State.setSrcUp_mask, State.timEvt_mask,
    State.plainUnless_mask, State.staleSrcs_mask, State.plainWrite_mask, mask_regs, mask_tim, mask_hif, mask_out,
    ite_mask, ite_self, foldl_mask, implies_true, *]

theorem State.writeFn_mask (s : State) (f : Nat) (r : Nat) (v : Word) (G : Fields) :
    G.regs → G.hif → G.out → (State.writeFn s f r v).mask G = s.mask G := by
  intros; simp only [State.writeFn, State.sqCtrl_mask, State.plainUnless_mask, State.ringIgnored_mask,
    State.cqCtrl_mask, State.cqCount_mask, State.plainWrite_mask, mask_regs, mask_hif, mask_out, ite_mask, ite_self,
    foldl_mask, implies_true, *]

theorem State.writeHif_mask (s : State) (o : Nat) (v : Word) (G : Fields) :
    G.regs → G.hif → G.out → (State.writeHif s o v).mask G = s.mask G := by
  intros; simp only [State.writeHif, State.occClr_mask, State.fnEvt1_mask, State.writeFn_mask, State.plainWrite_mask,
    mask_regs, mask_hif, mask_out, ite_mask, ite_self, foldl_mask, implies_true, *]

theorem State.writeCfg_mask (s : State) (p : Path) (o : Nat) (v : Word) (G : Fields) :
    G.regs → G.latch → G.busy → G.boot → G.tim → G.hif → G.log → G.pav → G.subs → G.lanes → G.lrep → G.streams →
      G.strCmds → G.pager0 → G.pager1 → G.rte → G.sched → G.cap → G.rpl → G.digest → G.cells → G.cel → G.groups → G.mxu
      → G.tokens → G.pf0 → G.pf1 → G.greq0 → G.greq1 → G.gheld → G.gtbl → G.gwin → G.img → G.loading → G.mem → G.poison
      → G.regions → G.mgt → G.out → G.free → (State.writeCfg s p o v).mask G = s.mask G := by
  intros; simp only [State.writeCfg, State.cfgReset_mask, State.flCmd_mask, State.fuseProg_mask, State.plainWrite_mask,
    mask_regs, mask_latch, mask_busy, mask_boot, mask_tim, mask_hif, mask_log, mask_pav, mask_subs, mask_lanes,
    mask_lrep, mask_streams, mask_strCmds, mask_pager0, mask_pager1, mask_rte, mask_sched, mask_cap, mask_rpl,
    mask_digest, mask_cells, mask_cel, mask_groups, mask_mxu, mask_tokens, mask_pf0, mask_pf1, mask_greq0, mask_greq1,
    mask_gheld, mask_gtbl, mask_gwin, mask_img, mask_loading, mask_mem, mask_poison, mask_regions, mask_mgt, mask_out,
    mask_free, ite_mask, ite_self, foldl_mask, implies_true, *]

theorem State.writeLog_mask (s : State) (o : Nat) (v : Word) (G : Fields) :
    G.regs → G.log → (State.writeLog s o v).mask G = s.mask G := by
  intros; simp only [State.writeLog, State.drainAdv_mask, State.plainWrite_mask, mask_regs, mask_log, ite_mask,
    ite_self, foldl_mask, implies_true, *]

theorem State.tripClear_mask (s : State) (v : Word) (G : Fields) :
    G.regs → G.out → (State.tripClear s v).mask G = s.mask G := by
  intros; simp only [State.tripClear, State.emit_mask, State.plainWrite_mask, mask_regs, mask_out, ite_mask,
    ite_self, foldl_mask, implies_true, *]

theorem State.writeMgt_mask (s : State) (o : Nat) (v : Word) (G : Fields) :
    G.regs → G.hif → G.mgt → G.out → (State.writeMgt s o v).mask G = s.mask G := by
  intros; simp only [State.writeMgt, State.alertPin_mask, State.mgtEvt_mask, State.plainUnless_mask,
    State.tripClear_mask, State.plainWrite_mask, mask_regs, mask_hif, mask_mgt, mask_out, ite_mask, ite_self,
    foldl_mask, implies_true, *]

theorem State.lneUser_mask (s : State) (i : Nat) (o : Nat) (v : Word) (G : Fields) :
    G.regs → G.lanes → G.out → (State.lneUser s i o v).mask G = s.mask G := by
  intros; simp only [State.lneUser, State.sendNow_mask, State.plainWrite_mask, State.setLane_mask, mask_regs,
    mask_lanes, mask_out, ite_mask, ite_self, foldl_mask, implies_true, *]

theorem State.writeLne_mask (s : State) (o : Nat) (v : Word) (G : Fields) :
    G.regs → G.tim → G.hif → G.log → G.subs → G.lanes → G.lrep → G.streams → G.rte → G.mgt → G.out → (State.writeLne
      s o v).mask G = s.mask G := by
  intros; simp only [State.writeLne, State.lneModeWrite_mask, State.lnePatchk_mask, State.lneInject_mask,
    State.lneUser_mask, State.plainWrite_mask, mask_regs, mask_tim, mask_hif, mask_log, mask_subs, mask_lanes,
    mask_lrep, mask_streams, mask_rte, mask_mgt, mask_out, ite_mask, ite_self, foldl_mask, implies_true, *]

theorem State.writePrt_mask (s : State) (o : Nat) (v : Word) (G : Fields) :
    G.regs → G.tim → G.hif → G.log → G.subs → G.lanes → G.lrep → G.streams → G.rte → G.out → (State.writePrt s o
      v).mask G = s.mask G := by
  intros; simp only [State.writePrt, State.prtCtrl_mask, State.prtRestCtrl_mask, State.plainWrite_mask, mask_regs,
    mask_tim, mask_hif, mask_log, mask_subs, mask_lanes, mask_lrep, mask_streams, mask_rte, mask_out, ite_mask,
    ite_self, foldl_mask, implies_true, *]

theorem State.writeRte_mask (s : State) (p : Path) (o : Nat) (v : Word) (G : Fields) :
    G.regs → G.busy → G.hif → G.rte → G.out → G.free → (State.writeRte s p o v).mask G = s.mask G := by
  intros
  have a0 := stateOr_mask s _ G (execRteTblWrite_mask p v s G (by assumption) (by assumption) (by assumption) (by
    assumption) (by assumption) (by assumption))
  have a1 := stateOr_mask s _ G (execRteTblRead_mask p v s G (by assumption) (by assumption) (by assumption) (by
    assumption) (by assumption))
  unfold State.writeRte
  (repeat' split) <;> simp only [a0, a1, id_eq, State.plainUnless_mask, State.rteEvt_mask, stateOr_mask,
    execRteTblWrite_mask, execRteTblRead_mask, mask_regs, mask_busy, mask_hif, mask_rte, mask_out, mask_free, ite_mask,
    ite_self, foldl_mask, implies_true, *]

theorem State.writeBpm_mask (s : State) (p : Path) (o : Nat) (v : Word) (G : Fields) :
    G.regs → G.busy → G.hif → G.rte → G.out → G.free → (State.writeBpm s p o v).mask G = s.mask G := by
  intros
  have a0 := fun die => stateOr_mask s _ G (execBpmOwnWrite_mask p die v s G (by assumption) (by assumption) (by
    assumption) (by
    assumption) (by assumption) (by assumption))
  have a1 := fun die => stateOr_mask s _ G (execBpmOwnRead_mask p die v s G (by assumption) (by assumption) (by
    assumption) (by
    assumption) (by assumption) (by assumption))
  unfold State.writeBpm; dsimp only
  split
  · exact State.bpmEnable_mask _ _ _ _ (by assumption) (by assumption) (by assumption) (by assumption)
  split
  · split
    · exact a0 _
    · exact a1 _
  · apply State.plainUnless_mask _ _ _ _ _ _ (by assumption)
    intros; simp only [State.bpmEnable_mask, stateOr_mask, execBpmOwnWrite_mask, execBpmOwnRead_mask,
      State.plainUnless_mask, State.bpmEvt_mask, mask_regs, mask_busy, mask_hif, mask_rte, mask_out, mask_free,
      ite_mask, ite_self, foldl_mask, implies_true, *]

theorem State.writeSch_mask (s : State) (p : Path) (o : Nat) (v : Word) (G : Fields) :
    G.regs → G.busy → G.hif → G.rte → G.out → G.free → (State.writeSch s p o v).mask G = s.mask G := by
  intros
  have a0 := stateOr_mask s _ G (execSchCalWrite_mask p v s G (by assumption) (by assumption) (by assumption) (by
    assumption) (by assumption) (by assumption))
  have a1 := stateOr_mask s _ G (execSchCalRead_mask p v s G (by assumption) (by assumption) (by assumption) (by
    assumption) (by assumption))
  have a2 := stateOr_mask s _ G (execSchPolWrite_mask p v s G (by assumption) (by assumption) (by assumption) (by
    assumption) (by assumption) (by assumption))
  have a3 := stateOr_mask s _ G (execSchPolRead_mask p v s G (by assumption) (by assumption) (by assumption) (by
    assumption) (by assumption))
  unfold State.writeSch; dsimp only
  (repeat' split) <;> simp only [a0, a1, a2, a3, id_eq, stateOr_mask, execSchCalWrite_mask, execSchCalRead_mask,
    execSchPolWrite_mask, execSchPolRead_mask, State.settle_mask, State.noteWas_mask, State.plainUnless_mask,
    State.evt_mask, mask_regs, mask_busy, mask_hif, mask_rte, mask_out, mask_free, ite_mask, ite_self, foldl_mask,
    implies_true, *]

theorem State.writeCel_mask (s : State) (o : Nat) (v : Word) (G : Fields) :
    G.regs → G.hif → G.out → (State.writeCel s o v).mask G = s.mask G := by
  intros; simp only [State.writeCel, State.evt_mask, State.plainUnless_mask, mask_regs, mask_hif, mask_out, ite_mask,
    ite_self, foldl_mask, implies_true, *]

theorem State.writeCol_mask (s : State) (p : Path) (o : Nat) (v : Word) (G : Fields) :
    G.regs → G.groups → (State.writeCol s p o v).mask G = s.mask G := by
  intros
  have a0 := stateOr_mask s _ G (execColLagClr_mask p v s G (by assumption))
  unfold State.writeCol
  (repeat' split) <;> simp only [a0, stateOr_mask, execColLagClr_mask, State.plainWrite_mask, mask_regs, mask_groups,
    ite_mask, ite_self, foldl_mask, implies_true, *]

theorem State.writeStr_mask (s : State) (p : Path) (o : Nat) (v : Word) (G : Fields) :
    G.regs → G.busy → G.hif → G.streams → G.out → G.free → (State.writeStr s p o v).mask G = s.mask G := by
  intros
  have a0 := stateOr_mask s _ G (execStrTblWrite_mask p v s G (by assumption) (by assumption) (by assumption) (by
    assumption) (by assumption) (by assumption))
  have a1 := stateOr_mask s _ G (execStrTblRead_mask p v s G (by assumption) (by assumption) (by assumption) (by
    assumption) (by assumption))
  unfold State.writeStr; dsimp only
  (repeat' split) <;> simp only [a0, a1, id_eq, stateOr_mask, execStrTblWrite_mask, execStrTblRead_mask,
    State.strEvt_mask, State.plainUnless_mask, mask_regs, mask_busy, mask_hif, mask_streams, mask_out, mask_free,
    ite_mask, ite_self, foldl_mask, implies_true, *]

theorem State.writeMem_mask (s : State) (p : Path) (o : Nat) (v : Word) (G : Fields) :
    G.regs → G.busy → G.hif → G.tokens → G.greq0 → G.greq1 → G.gheld → G.gtbl → G.gwin → G.regions → G.out → G.free →
      (State.writeMem s p o v).mask G = s.mask G := by
  intros
  have a0 := stateOr_mask s _ G (execMemRgnWrite_mask p v s G (by assumption) (by assumption) (by assumption) (by
    assumption) (by assumption) (by assumption))
  have a1 := stateOr_mask s _ G (execMemRgnRead_mask p v s G (by assumption) (by assumption) (by assumption) (by
    assumption) (by assumption))
  have a2 := stateOr_mask s _ G (execMemGtblWrite_mask p v s G (by assumption) (by assumption) (by assumption) (by
    assumption) (by assumption) (by assumption))
  have a3 := stateOr_mask s _ G (execMemGtblRead_mask p v s G (by assumption) (by assumption) (by assumption) (by
    assumption) (by assumption))
  have a4 := stateOr_mask s _ G (execMemGwinWrite_mask p v s G (by assumption) (by assumption) (by assumption) (by
    assumption) (by assumption) (by assumption))
  have a5 := stateOr_mask s _ G (execMemGwinRead_mask p v s G (by assumption) (by assumption) (by assumption) (by
    assumption) (by assumption))
  have a6 := stateOr_mask s _ G (execGsvcEnWrite_mask p v s G (by assumption) (by assumption) (by assumption) (by
    assumption) (by assumption) (by assumption) (by assumption))
  unfold State.writeMem; dsimp only
  (repeat' split) <;> simp only [a0, a1, a2, a3, a4, a5, a6, id_eq, stateOr_mask, execGsvcEnWrite_mask,
    execMemRgnWrite_mask, execMemRgnRead_mask, execMemGtblWrite_mask, execMemGtblRead_mask, execMemGwinWrite_mask,
    execMemGwinRead_mask, State.plainUnless_mask, State.evt_mask, mask_regs, mask_busy, mask_hif, mask_tokens,
    mask_greq0, mask_greq1, mask_gheld, mask_gtbl, mask_gwin, mask_regions, mask_out, mask_free, ite_mask, ite_self,
    foldl_mask, implies_true, *]

theorem State.writeDet_mask (s : State) (p : Path) (o : Nat) (v : Word) (G : Fields) :
    G.regs → G.hif → G.log → G.cap → G.digest → G.mem → G.poison → G.out → (State.writeDet s p o v).mask G = s.mask G
      := by
  intros
  have a0 := stateOr_mask s _ G (execCaptureTrigger_mask p v s G (by assumption) (by assumption) (by assumption) (by
    assumption) (by assumption) (by assumption))
  have a1 := stateOr_mask s _ G (execDigestStart_mask p v s G (by assumption) (by assumption) (by assumption) (by
    assumption) (by assumption))
  unfold State.writeDet
  (repeat' split) <;> simp only [a0, a1, id_eq, stateOr_mask, execCaptureTrigger_mask, execDigestStart_mask,
    State.plainUnless_mask, State.evt_mask, mask_regs, mask_hif, mask_log, mask_cap, mask_digest, mask_mem,
    mask_poison, mask_out, ite_mask, ite_self, foldl_mask, implies_true, *]

theorem State.regWrite_mask (s : State) (p : Path) (o : Nat) (v : Word) (G : Fields) :
    G.regs → G.latch → G.busy → G.boot → G.tim → G.hif → G.log → G.pav → G.subs → G.lanes → G.lrep → G.streams →
      G.strCmds → G.pager0 → G.pager1 → G.rte → G.sched → G.cap → G.rpl → G.digest → G.cells → G.cel → G.groups → G.mxu
      → G.tokens → G.pf0 → G.pf1 → G.greq0 → G.greq1 → G.gheld → G.gtbl → G.gwin → G.img → G.loading → G.mem → G.poison
      → G.regions → G.mgt → G.out → G.free → (State.regWrite s p o v).mask G = s.mask G := by
  intros; unfold State.regWrite; (repeat' split) <;> simp only [State.writeClk_mask, State.writeTim_mask,
    State.writeHif_mask, State.writeCfg_mask, State.writeLog_mask, State.writeMgt_mask, State.writeLne_mask,
    State.writePrt_mask, State.writeRte_mask, State.writeBpm_mask, State.writeSch_mask, State.writeCel_mask,
    State.writeCol_mask, State.writeStr_mask, State.writeMem_mask, State.writeDet_mask, State.plainWrite_mask,
    mask_regs, mask_latch, mask_busy, mask_boot, mask_tim, mask_hif, mask_log, mask_pav, mask_subs, mask_lanes,
    mask_lrep, mask_streams, mask_strCmds, mask_pager0, mask_pager1, mask_rte, mask_sched, mask_cap, mask_rpl,
    mask_digest, mask_cells, mask_cel, mask_groups, mask_mxu, mask_tokens, mask_pf0, mask_pf1, mask_greq0, mask_greq1,
    mask_gheld, mask_gtbl, mask_gwin, mask_img, mask_loading, mask_mem, mask_poison, mask_regions, mask_mgt, mask_out,
    mask_free, ite_mask, ite_self, foldl_mask, implies_true, *]

theorem State.compare_mask (s : State) (o : Nat) (G : Fields) :
    G.regs → (State.compare s o).mask G = s.mask G := by
  intros; simp only [State.compare, State.lowFree_mask, State.peak_mask, State.depthMax_mask, mask_regs, ite_mask,
    ite_self, foldl_mask, implies_true, *]

theorem State.writeAt_mask (s : State) (p : Path) (off : Nat) (v : Word) (G : Fields) :
    G.regs → G.latch → G.busy → G.boot → G.tim → G.hif → G.log → G.pav → G.subs → G.lanes → G.lrep → G.streams →
      G.strCmds → G.pager0 → G.pager1 → G.rte → G.sched → G.cap → G.rpl → G.digest → G.cells → G.cel → G.groups → G.mxu
      → G.tokens → G.pf0 → G.pf1 → G.greq0 → G.greq1 → G.gheld → G.gtbl → G.gwin → G.img → G.loading → G.mem → G.poison
      → G.regions → G.mgt → G.out → G.free → (State.writeAt s p off v).mask G = s.mask G := by
  intros; unfold State.writeAt; (repeat' split) <;> simp only [State.oneCycle_mask, State.compare_mask,
    State.noteSw_mask, State.regWrite_mask, mask_regs, mask_latch, mask_busy, mask_boot, mask_tim, mask_hif, mask_log,
    mask_pav, mask_subs, mask_lanes, mask_lrep, mask_streams, mask_strCmds, mask_pager0, mask_pager1, mask_rte,
    mask_sched, mask_cap, mask_rpl, mask_digest, mask_cells, mask_cel, mask_groups, mask_mxu, mask_tokens, mask_pf0,
    mask_pf1, mask_greq0, mask_greq1, mask_gheld, mask_gtbl, mask_gwin, mask_img, mask_loading, mask_mem, mask_poison,
    mask_regions, mask_mgt, mask_out, mask_free, ite_mask, ite_self, foldl_mask, implies_true, *]

theorem State.pathWrite_mask (s : State) (p : Path) (off : Nat) (v : Word) (G : Fields) :
    G.regs → G.latch → G.busy → G.boot → G.tim → G.hif → G.log → G.pav → G.subs → G.lanes → G.lrep → G.streams →
      G.strCmds → G.pager0 → G.pager1 → G.rte → G.sched → G.cap → G.rpl → G.digest → G.cells → G.cel → G.groups → G.mxu
      → G.tokens → G.pf0 → G.pf1 → G.greq0 → G.greq1 → G.gheld → G.gtbl → G.gwin → G.img → G.loading → G.mem → G.poison
      → G.regions → G.mgt → G.out → G.free → (State.pathWrite s p off v).mask G = s.mask G := by
  intros; unfold State.pathWrite; dsimp only; (repeat' split) <;> simp only [State.writeAt_mask, State.setReg_mask,
    mask_regs, mask_latch, mask_busy, mask_boot, mask_tim, mask_hif, mask_log, mask_pav, mask_subs, mask_lanes,
    mask_lrep, mask_streams, mask_strCmds, mask_pager0, mask_pager1, mask_rte, mask_sched, mask_cap, mask_rpl,
    mask_digest, mask_cells, mask_cel, mask_groups, mask_mxu, mask_tokens, mask_pf0, mask_pf1, mask_greq0, mask_greq1,
    mask_gheld, mask_gtbl, mask_gwin, mask_img, mask_loading, mask_mem, mask_poison, mask_regions, mask_mgt, mask_out,
    mask_free, ite_mask, ite_self, foldl_mask, implies_true, *]

theorem execRegisterWrite_mask (p : Path) (bar : Nat) (off : Nat) (v : Word) (be : Nat) (s : State) (G : Fields) :
    G.regs → G.latch → G.busy → G.boot → G.tim → G.hif → G.log → G.pav → G.subs → G.lanes → G.lrep → G.streams →
      G.strCmds → G.pager0 → G.pager1 → G.rte → G.sched → G.cap → G.rpl → G.digest → G.cells → G.cel → G.groups → G.mxu
      → G.tokens → G.pf0 → G.pf1 → G.greq0 → G.greq1 → G.gheld → G.gtbl → G.gwin → G.img → G.loading → G.mem → G.poison
      → G.regions → G.mgt → G.out → G.free → ∀ t, execRegisterWrite p bar off v be s = .next t → t.mask G = s.mask G :=
      by
  intros; rename_i h; injection h with h; subst h; (repeat' split) <;> simp only [State.pathWrite_mask,
    State.bar4Write_mask, mask_regs, mask_latch, mask_busy, mask_boot, mask_tim, mask_hif, mask_log, mask_pav,
    mask_subs, mask_lanes, mask_lrep, mask_streams, mask_strCmds, mask_pager0, mask_pager1, mask_rte, mask_sched,
    mask_cap, mask_rpl, mask_digest, mask_cells, mask_cel, mask_groups, mask_mxu, mask_tokens, mask_pf0, mask_pf1,
    mask_greq0, mask_greq1, mask_gheld, mask_gtbl, mask_gwin, mask_img, mask_loading, mask_mem, mask_poison,
    mask_regions, mask_mgt, mask_out, mask_free, ite_mask, ite_self, foldl_mask, implies_true, *]

theorem execMgtTripRecClear_mask (path : Path) (v : Word) (s : State) (G : Fields) :
    G.regs → G.out → ∀ t, execMgtTripRecClear path v s = .next t → t.mask G = s.mask G := by
  intros; rename_i h; injection h with h; subst h; simp only [State.tripClear_mask, mask_regs, mask_out, ite_mask,
    ite_self, foldl_mask, implies_true, *]

theorem State.configIgnored_mask (s : State) (G : Fields) :
    G.regs → G.boot → G.hif → G.out → (State.configIgnored s).mask G = s.mask G := by
  intros; simp only [State.configIgnored, State.cfgEvt_mask, mask_regs, mask_boot, mask_hif, mask_out, ite_mask,
    ite_self, foldl_mask, implies_true, *]

theorem State.configWrite_mask (s : State) (e : Nat × Nat) (G : Fields) :
    G.regs → G.latch → G.busy → G.boot → G.tim → G.hif → G.log → G.pav → G.subs → G.lanes → G.lrep → G.streams →
      G.strCmds → G.pager0 → G.pager1 → G.rte → G.sched → G.cap → G.rpl → G.digest → G.cells → G.cel → G.groups → G.mxu
      → G.tokens → G.pf0 → G.pf1 → G.greq0 → G.greq1 → G.gheld → G.gtbl → G.gwin → G.img → G.loading → G.mem → G.poison
      → G.regions → G.mgt → G.out → G.free → (State.configWrite s e).mask G = s.mask G := by
  intros; unfold State.configWrite; dsimp only; (repeat' split) <;> simp only [State.writeAt_mask, State.setFld_mask,
    State.configIgnored_mask, mask_regs, mask_latch, mask_busy, mask_boot, mask_tim, mask_hif, mask_log, mask_pav,
    mask_subs, mask_lanes, mask_lrep, mask_streams, mask_strCmds, mask_pager0, mask_pager1, mask_rte, mask_sched,
    mask_cap, mask_rpl, mask_digest, mask_cells, mask_cel, mask_groups, mask_mxu, mask_tokens, mask_pf0, mask_pf1,
    mask_greq0, mask_greq1, mask_gheld, mask_gtbl, mask_gwin, mask_img, mask_loading, mask_mem, mask_poison,
    mask_regions, mask_mgt, mask_out, mask_free, ite_mask, ite_self, foldl_mask, implies_true, *]

theorem execConfigApplied_mask (s : State) (G : Fields) :
    G.regs → G.latch → G.busy → G.boot → G.tim → G.hif → G.log → G.pav → G.subs → G.lanes → G.lrep → G.streams →
      G.strCmds → G.pager0 → G.pager1 → G.rte → G.sched → G.cap → G.rpl → G.digest → G.cells → G.cel → G.groups → G.mxu
      → G.tokens → G.pf0 → G.pf1 → G.greq0 → G.greq1 → G.gheld → G.gtbl → G.gwin → G.img → G.loading → G.mem → G.poison
      → G.regions → G.mgt → G.out → G.free → ∀ t, execConfigApplied s = .next t → t.mask G = s.mask G := by
  intros; rename_i h; injection h with h; subst h; simp only [State.logReset_mask, State.configWrite_mask, mask_regs,
    mask_latch, mask_busy, mask_boot, mask_tim, mask_hif, mask_log, mask_pav, mask_subs, mask_lanes, mask_lrep,
    mask_streams, mask_strCmds, mask_pager0, mask_pager1, mask_rte, mask_sched, mask_cap, mask_rpl, mask_digest,
    mask_cells, mask_cel, mask_groups, mask_mxu, mask_tokens, mask_pf0, mask_pf1, mask_greq0, mask_greq1, mask_gheld,
    mask_gtbl, mask_gwin, mask_img, mask_loading, mask_mem, mask_poison, mask_regions, mask_mgt, mask_out, mask_free,
    ite_mask, ite_self, foldl_mask, implies_true, *]

theorem State.island_mask (s : State) (f : State → State) (G : Fields) :
    (∀ (y0 : State), (f y0).mask G = y0.mask G) → (State.island s f).mask G = s.mask G := by
  intros; simp only [State.island, ite_mask, ite_self, foldl_mask, implies_true, *]

theorem State.setLine_mask (s : State) (relayed : Bool) (l : List Byte) (G : Fields) :
    G.mgt → (State.setLine s relayed l).mask G = s.mask G := by
  intros; simp only [State.setLine, mask_mgt, ite_mask, ite_self, foldl_mask, implies_true, *]

theorem State.typed_mask (s : State) (relayed : Bool) (b : Byte) (G : Fields) :
    G.mgt → G.out → (State.typed s relayed b).mask G = s.mask G := by
  intros; unfold State.typed; dsimp only; (repeat' split) <;> simp only [State.setLine_mask, State.sayErr_mask,
    mask_mgt, mask_out, ite_mask, ite_self, foldl_mask, implies_true, *]

theorem State.relayType_mask (s : State) (lane : Nat) (b : Byte) (G : Fields) :
    G.mgt → (State.relayType s lane b).mask G = s.mask G := by
  intros; simp only [State.relayType, State.setLine_mask, State.relayPut_mask, mask_mgt, ite_mask, ite_self,
    foldl_mask, implies_true, *]

theorem State.refill_mask (s : State) (x1 : Nat) (G : Fields) :
    G.mgt → G.out → (State.refill s x1).mask G = s.mask G := by
  intros
  induction x1 generalizing s with
  | zero => rfl
  | succ n ih => unfold State.refill; dsimp only; (repeat' split) <;> simp only [ih, State.relayType_mask, State.typed_mask,
    mask_mgt, mask_out, ite_mask, ite_self, foldl_mask, implies_true, *]

theorem State.typedAll_mask (s : State) (x1 : List Byte) (G : Fields) :
    G.mgt → G.out → (State.typedAll s x1).mask G = s.mask G := by
  intros
  induction x1 generalizing s with
  | nil => rfl
  | cons n l ih => unfold State.typedAll; (repeat' split) <;> simp only [ih, State.typed_mask, mask_mgt, mask_out,
    ite_mask, ite_self, foldl_mask, implies_true, *]

theorem State.uartByte_mask (s : State) (b : Byte) (G : Fields) :
    G.regs → G.hif → G.mgt → G.out → (State.uartByte s b).mask G = s.mask G := by
  intros; unfold State.uartByte; dsimp only; (repeat' split) <;> simp only [State.typed_mask, State.relayType_mask,
    State.mgtEvt_mask, State.bump_mask, mask_regs, mask_hif, mask_mgt, mask_out, ite_mask, ite_self, foldl_mask,
    implies_true, *]

theorem execUartByteRx_mask (levels : List Bool) (s : State) (G : Fields) :
    G.regs → G.hif → G.mgt → G.out → ∀ t, execUartByteRx levels s = .next t → t.mask G = s.mask G := by
  intros; rename_i h; injection h with h; subst h; (repeat' split) <;> simp only [State.island_mask,
    State.uartByte_mask, State.mgtEvt_mask, State.bump_mask, mask_regs, mask_hif, mask_mgt, mask_out, ite_mask,
    ite_self, foldl_mask, implies_true, *]

theorem execUartBreak_mask (s : State) (G : Fields) :
    G.regs → G.hif → G.mgt → G.out → ∀ t, execUartBreak s = .next t → t.mask G = s.mask G := by
  intros; rename_i h; injection h with h; subst h; simp only [State.island_mask, State.mgtEvt_mask, State.bump_mask,
    mask_regs, mask_hif, mask_mgt, mask_out, ite_mask, ite_self, foldl_mask, implies_true, *]

theorem State.conRun_mask (s : State) (relayed : Bool) (word : List Byte) (f : State → List (List Byte) → State) (G : Fields) :
    G.mgt → G.out → (∀ (y0 : State) (y1 : List (List Byte)), (f y0 y1).mask G = y0.mask G) → (State.conRun s relayed
      word f).mask G = s.mask G := by
  intros; unfold State.conRun; dsimp only; (repeat' split) <;> simp only [State.setLine_mask, State.refill_mask,
    mask_mgt, mask_out, ite_mask, ite_self, foldl_mask, implies_true, *]

theorem State.conAccess_mask (s : State) (relayed : Bool) (o : Nat) (write : Bool) (f : State → State) (G : Fields) :
    G.mgt → G.out → (∀ (y0 : State), (f y0).mask G = y0.mask G) → (State.conAccess s relayed o write f).mask G =
      s.mask G := by
  intros; simp only [State.conAccess, State.sayErr_mask, mask_mgt, mask_out, ite_mask, ite_self, foldl_mask,
    implies_true, *]

theorem execConsoleRd_mask (relayed : Bool) (s : State) (G : Fields) :
    G.latch → G.mgt → G.out → ∀ t, execConsoleRd relayed s = .next t → t.mask G = s.mask G := by
  intros; rename_i h; obtain rfl := Host.Outcome.next.inj h
  apply State.conRun_mask <;> (try assumption) <;> intros
  (repeat' split) <;> simp only [State.conRun_mask, State.conAccess_mask, State.sayOk_mask, State.sayErr_mask,
    State.read_mask, mask_latch, mask_mgt, mask_out, ite_mask, ite_self, foldl_mask, implies_true, *]

theorem execConsoleWr_mask (relayed : Bool) (s : State) (G : Fields) :
    G.regs → G.latch → G.busy → G.boot → G.tim → G.hif → G.log → G.pav → G.subs → G.lanes → G.lrep → G.streams →
      G.strCmds → G.pager0 → G.pager1 → G.rte → G.sched → G.cap → G.rpl → G.digest → G.cells → G.cel → G.groups → G.mxu
      → G.tokens → G.pf0 → G.pf1 → G.greq0 → G.greq1 → G.gheld → G.gtbl → G.gwin → G.img → G.loading → G.mem → G.poison
      → G.regions → G.mgt → G.out → G.free → ∀ t, execConsoleWr relayed s = .next t → t.mask G = s.mask G := by
  intros; rename_i h; obtain rfl := Host.Outcome.next.inj h
  apply State.conRun_mask <;> (try assumption) <;> intros
  (repeat' split) <;> simp only [State.conRun_mask, State.sayErr_mask, State.conAccess_mask, State.sayOk_mask,
    State.pathWrite_mask, mask_regs, mask_latch, mask_busy, mask_boot, mask_tim, mask_hif, mask_log, mask_pav,
    mask_subs, mask_lanes, mask_lrep, mask_streams, mask_strCmds, mask_pager0, mask_pager1, mask_rte, mask_sched,
    mask_cap, mask_rpl, mask_digest, mask_cells, mask_cel, mask_groups, mask_mxu, mask_tokens, mask_pf0, mask_pf1,
    mask_greq0, mask_greq1, mask_gheld, mask_gtbl, mask_gwin, mask_img, mask_loading, mask_mem, mask_poison,
    mask_regions, mask_mgt, mask_out, mask_free, ite_mask, ite_self, foldl_mask, implies_true, *]

theorem execConsoleSensors_mask (relayed : Bool) (s : State) (G : Fields) :
    G.mgt → G.out → ∀ t, execConsoleSensors relayed s = .next t → t.mask G = s.mask G := by
  intros; rename_i h; injection h with h; subst h; simp only [State.conRun_mask, State.sayOk_mask, State.sayErr_mask,
    mask_mgt, mask_out, ite_mask, ite_self, foldl_mask, implies_true, *]

theorem execConsoleLog_mask (relayed : Bool) (s : State) (G : Fields) :
    G.mgt → G.out → ∀ t, execConsoleLog relayed s = .next t → t.mask G = s.mask G := by
  intros; rename_i h; obtain rfl := Host.Outcome.next.inj h
  apply State.conRun_mask <;> (try assumption) <;> intros
  (repeat' split) <;> simp only [State.conRun_mask, State.conAccess_mask, State.sayOk_mask, State.sayErr_mask,
    mask_mgt, mask_out, ite_mask, ite_self, foldl_mask, implies_true, *]

theorem execConsoleDrain_mask (relayed : Bool) (s : State) (G : Fields) :
    G.log → G.mgt → G.out → ∀ t, execConsoleDrain relayed s = .next t → t.mask G = s.mask G := by
  intros; rename_i h; obtain rfl := Host.Outcome.next.inj h
  apply State.conRun_mask <;> (try assumption) <;> intros
  (repeat' split) <;> simp only [State.drainAdv_mask, State.conRun_mask, State.conAccess_mask, State.sayOk_mask,
    State.sayErr_mask, mask_log, mask_mgt, mask_out, ite_mask, ite_self, foldl_mask, implies_true, *]

theorem execConsoleApprove_mask (relayed : Bool) (s : State) (G : Fields) :
    G.regs → G.tim → G.hif → G.log → G.pav → G.streams → G.rte → G.cells → G.cel → G.mxu → G.mem → G.poison → G.mgt →
      G.out → G.free → ∀ t, execConsoleApprove relayed s = .next t → t.mask G = s.mask G := by
  intros; rename_i h; obtain rfl := Host.Outcome.next.inj h
  apply State.conRun_mask <;> (try assumption) <;> intros
  (repeat' split) <;> simp only [State.conRun_mask, State.sayErr_mask, State.mgtApprove_mask, mask_regs, mask_tim,
    mask_hif, mask_log, mask_pav, mask_streams, mask_rte, mask_cells, mask_cel, mask_mxu, mask_mem, mask_poison,
    mask_mgt, mask_out, mask_free, ite_mask, ite_self, foldl_mask, implies_true, *]

theorem execConsoleWreset_mask (relayed : Bool) (s : State) (G : Fields) :
    G.regs → G.busy → G.boot → G.tim → G.hif → G.log → G.pav → G.subs → G.lrep → G.streams → G.strCmds → G.pager0 →
      G.pager1 → G.rte → G.sched → G.cap → G.rpl → G.digest → G.cells → G.cel → G.groups → G.mxu → G.tokens → G.pf0 →
      G.pf1 → G.greq0 → G.greq1 → G.gheld → G.gtbl → G.img → G.loading → G.mem → G.poison → G.regions → G.mgt → G.out →
      G.free → ∀ t, execConsoleWreset relayed s = .next t → t.mask G = s.mask G := by
  intros; rename_i h; injection h with h; subst h; simp only [State.conRun_mask, State.sayErr_mask,
    State.warmReset_mask, State.sayOk_mask, mask_regs, mask_busy, mask_boot, mask_tim, mask_hif, mask_log, mask_pav,
    mask_subs, mask_lrep, mask_streams, mask_strCmds, mask_pager0, mask_pager1, mask_rte, mask_sched, mask_cap,
    mask_rpl, mask_digest, mask_cells, mask_cel, mask_groups, mask_mxu, mask_tokens, mask_pf0, mask_pf1, mask_greq0,
    mask_greq1, mask_gheld, mask_gtbl, mask_img, mask_loading, mask_mem, mask_poison, mask_regions, mask_mgt, mask_out,
    mask_free, ite_mask, ite_self, foldl_mask, implies_true, *]

theorem execConsoleRelay_mask (relayed : Bool) (s : State) (G : Fields) :
    G.mgt → G.out → G.free → ∀ t, execConsoleRelay relayed s = .next t → t.mask G = s.mask G := by
  intros; rename_i h; obtain rfl := Host.Outcome.next.inj h
  apply State.conRun_mask <;> (try assumption) <;> intros
  (repeat' split) <;> simp only [State.conRun_mask, State.relayPut_mask, State.sayOk_mask, State.sayErr_mask,
    State.freeWord_mask, mask_mgt, mask_out, mask_free, ite_mask, ite_self, foldl_mask, implies_true, *]

theorem State.relayDrop_mask (s : State) (G : Fields) :
    G.regs → (State.relayDrop s).mask G = s.mask G := by
  intros; simp only [State.relayDrop, State.bump_mask, mask_regs, ite_mask, ite_self, foldl_mask, implies_true, *]

theorem State.relayRx_mask (s : State) (lane : Nat) (f : State → State) (G : Fields) :
    (∀ (y0 : State), (f y0).mask G = y0.mask G) → (State.relayRx s lane f).mask G = s.mask G := by
  intros; simp only [State.relayRx, State.island_mask, ite_mask, ite_self, foldl_mask, implies_true, *]

theorem execConsoleOpenRx_mask (lane : Nat) (s : State) (G : Fields) :
    G.regs → G.mgt → ∀ t, execConsoleOpenRx lane s = .next t → t.mask G = s.mask G := by
  intros; rename_i h; injection h with h; subst h; simp only [State.relayDrop_mask, State.relayRx_mask, mask_regs,
    mask_mgt, ite_mask, ite_self, foldl_mask, implies_true, *]

theorem execConsoleDataRx_mask (lane : Nat) (bytes : List Byte) (s : State) (G : Fields) :
    G.regs → G.mgt → G.out → ∀ t, execConsoleDataRx lane bytes s = .next t → t.mask G = s.mask G := by
  intros; rename_i h; obtain rfl := Host.Outcome.next.inj h
  apply State.relayRx_mask; intros
  (repeat' split) <;> simp only [State.typedAll_mask, State.relayDrop_mask, State.relayRx_mask, State.emit_mask,
    mask_regs, mask_mgt, mask_out, ite_mask, ite_self, foldl_mask, implies_true, *]

theorem execConsoleCloseRx_mask (lane : Nat) (s : State) (G : Fields) :
    G.mgt → ∀ t, execConsoleCloseRx lane s = .next t → t.mask G = s.mask G := by
  intros; rename_i h; obtain rfl := Host.Outcome.next.inj h
  apply State.relayRx_mask; intros
  (repeat' split) <;> simp only [State.relayRx_mask, State.relayEnd_mask, mask_mgt, ite_mask, ite_self, foldl_mask,
    implies_true, *]

theorem State.smbSay_mask (s : State) (bs : List Byte) (G : Fields) :
    G.out → (State.smbSay s bs).mask G = s.mask G := by
  intros; simp only [State.smbSay, State.emit_mask, mask_out, ite_mask, ite_self, foldl_mask, implies_true, *]

theorem State.smbWrite_mask (s : State) (pec : Option Bool) (f : State → State) (G : Fields) :
    G.regs → G.hif → G.out → (∀ (y0 : State), (f y0).mask G = y0.mask G) → (State.smbWrite s pec f).mask G = s.mask G
      := by
  intros; simp only [State.smbWrite, State.island_mask, State.mgtEvt_mask, State.bump_mask, State.emit_mask,
    mask_regs, mask_hif, mask_out, ite_mask, ite_self, foldl_mask, implies_true, *]

theorem State.smbDone_mask (s : State) (status : Nat) (G : Fields) :
    G.mgt → (State.smbDone s status).mask G = s.mask G := by
  intros; simp only [State.smbDone, mask_mgt, ite_mask, ite_self, foldl_mask, implies_true, *]

theorem execSmbRegRead_mask (off : Nat) (s : State) (G : Fields) :
    G.latch → G.out → G.free → ∀ t, execSmbRegRead off s = .next t → t.mask G = s.mask G := by
  intros; rename_i h; obtain rfl := Host.Outcome.next.inj h
  apply State.island_mask; intros
  dsimp only; split <;> simp only [State.island_mask, State.smbSay_mask, State.freeWord_mask, State.read_mask,
    mask_latch, mask_out, mask_free, ite_mask, ite_self, foldl_mask, implies_true, *]

theorem execSmbRegWrite_mask (off : Nat) (v : Word) (pec : Option Bool) (s : State) (G : Fields) :
    G.regs → G.latch → G.busy → G.boot → G.tim → G.hif → G.log → G.pav → G.subs → G.lanes → G.lrep → G.streams →
      G.strCmds → G.pager0 → G.pager1 → G.rte → G.sched → G.cap → G.rpl → G.digest → G.cells → G.cel → G.groups → G.mxu
      → G.tokens → G.pf0 → G.pf1 → G.greq0 → G.greq1 → G.gheld → G.gtbl → G.gwin → G.img → G.loading → G.mem → G.poison
      → G.regions → G.mgt → G.out → G.free → ∀ t, execSmbRegWrite off v pec s = .next t → t.mask G = s.mask G := by
  intros; rename_i h; injection h with h; subst h; simp only [State.smbWrite_mask, State.smbDone_mask,
    State.pathWrite_mask, mask_regs, mask_latch, mask_busy, mask_boot, mask_tim, mask_hif, mask_log, mask_pav,
    mask_subs, mask_lanes, mask_lrep, mask_streams, mask_strCmds, mask_pager0, mask_pager1, mask_rte, mask_sched,
    mask_cap, mask_rpl, mask_digest, mask_cells, mask_cel, mask_groups, mask_mxu, mask_tokens, mask_pf0, mask_pf1,
    mask_greq0, mask_greq1, mask_gheld, mask_gtbl, mask_gwin, mask_img, mask_loading, mask_mem, mask_poison,
    mask_regions, mask_mgt, mask_out, mask_free, ite_mask, ite_self, foldl_mask, implies_true, *]

theorem execSmbLastStatus_mask (s : State) (G : Fields) :
    G.out → ∀ t, execSmbLastStatus s = .next t → t.mask G = s.mask G := by
  intros; rename_i h; injection h with h; subst h; simp only [State.island_mask, State.smbSay_mask, mask_out,
    ite_mask, ite_self, foldl_mask, implies_true, *]

theorem execSmbSummary_mask (s : State) (G : Fields) :
    G.out → G.free → ∀ t, execSmbSummary s = .next t → t.mask G = s.mask G := by
  intros; rename_i h; obtain rfl := Host.Outcome.next.inj h
  apply State.island_mask; intros
  dsimp only; split <;> simp only [State.island_mask, State.smbSay_mask, State.freeWord_mask, mask_out, mask_free,
    ite_mask, ite_self, foldl_mask, implies_true, *]

theorem execSmbSensor_mask (index : Nat) (s : State) (G : Fields) :
    G.out → G.free → ∀ t, execSmbSensor index s = .next t → t.mask G = s.mask G := by
  intros; rename_i h; injection h with h; subst h; simp only [State.island_mask, State.smbSay_mask,
    State.freeWord_mask, mask_out, mask_free, ite_mask, ite_self, foldl_mask, implies_true, *]

theorem execSmbWreset_mask (pec : Option Bool) (s : State) (G : Fields) :
    G.regs → G.busy → G.boot → G.tim → G.hif → G.log → G.pav → G.subs → G.lrep → G.streams → G.strCmds → G.pager0 →
      G.pager1 → G.rte → G.sched → G.cap → G.rpl → G.digest → G.cells → G.cel → G.groups → G.mxu → G.tokens → G.pf0 →
      G.pf1 → G.greq0 → G.greq1 → G.gheld → G.gtbl → G.img → G.loading → G.mem → G.poison → G.regions → G.mgt → G.out →
      G.free → ∀ t, execSmbWreset pec s = .next t → t.mask G = s.mask G := by
  intros; rename_i h; injection h with h; subst h; simp only [State.smbWrite_mask, State.warmReset_mask,
    State.smbDone_mask, mask_regs, mask_busy, mask_boot, mask_tim, mask_hif, mask_log, mask_pav, mask_subs, mask_lrep,
    mask_streams, mask_strCmds, mask_pager0, mask_pager1, mask_rte, mask_sched, mask_cap, mask_rpl, mask_digest,
    mask_cells, mask_cel, mask_groups, mask_mxu, mask_tokens, mask_pf0, mask_pf1, mask_greq0, mask_greq1, mask_gheld,
    mask_gtbl, mask_img, mask_loading, mask_mem, mask_poison, mask_regions, mask_mgt, mask_out, mask_free, ite_mask,
    ite_self, foldl_mask, implies_true, *]

theorem execSmbApprove_mask (blk : List Byte) (pec : Option Bool) (s : State) (G : Fields) :
    G.regs → G.tim → G.hif → G.log → G.pav → G.streams → G.rte → G.cells → G.cel → G.mxu → G.mem → G.poison → G.mgt →
      G.out → G.free → ∀ t, execSmbApprove blk pec s = .next t → t.mask G = s.mask G := by
  intros; rename_i h; injection h with h; subst h; simp only [State.smbWrite_mask, State.emit_mask, State.smbDone_mask,
    State.mgtApprove_mask, mask_regs, mask_tim, mask_hif, mask_log, mask_pav, mask_streams, mask_rte, mask_cells,
    mask_cel, mask_mxu, mask_mem, mask_poison, mask_mgt, mask_out, mask_free, ite_mask, ite_self, foldl_mask,
    implies_true, *]

theorem execSmbAlertResponse_mask (s : State) (G : Fields) :
    G.mgt → G.out → ∀ t, execSmbAlertResponse s = .next t → t.mask G = s.mask G := by
  intros; rename_i h; injection h with h; subst h; simp only [State.island_mask, State.smbSay_mask,
    State.alertPin_mask, mask_mgt, mask_out, ite_mask, ite_self, foldl_mask, implies_true, *]

theorem State.tap_mask (s : State) (ir : Nat) (G : Fields) :
    G.mgt → (State.tap s ir).mask G = s.mask G := by
  intros; simp only [State.tap, mask_mgt, ite_mask, ite_self, foldl_mask, implies_true, *]

theorem State.lanesOut_mask (s : State) (G : Fields) :
    G.regs → G.tim → G.hif → G.log → G.subs → G.lanes → G.lrep → G.streams → G.rte → G.loading → G.regions → G.mgt →
      G.out → (State.lanesOut s).mask G = s.mask G := by
  intros; unfold State.lanesOut
  dsimp only
  rw [foldl_mask, foldl_mask]
  · split
    · rw [State.allReset_mask _ _ _ (by assumption) (by assumption) (by assumption) (by assumption) (by assumption)
        (by assumption)]
      simp only [mask_hif, *]
    · rfl
  · intros; rw [foldl_mask]; intros; split <;> simp only [State.allReset_mask, State.down_mask, State.stcDown_mask,
    mask_regs, mask_tim, mask_hif, mask_log, mask_subs, mask_lanes, mask_lrep, mask_streams, mask_rte, mask_loading,
    mask_regions, mask_mgt, mask_out, ite_mask, ite_self, foldl_mask, implies_true, *]
  · intros; split <;> simp only [State.allReset_mask, State.down_mask, State.stcDown_mask, mask_regs, mask_tim,
    mask_hif, mask_log, mask_subs, mask_lanes, mask_lrep, mask_streams, mask_rte, mask_loading, mask_regions, mask_mgt,
    mask_out, ite_mask, ite_self, foldl_mask, implies_true, *]

theorem State.driveTap_mask (s : State) (ir : Nat) (G : Fields) :
    G.regs → G.tim → G.hif → G.log → G.subs → G.lanes → G.lrep → G.streams → G.rte → G.loading → G.regions → G.mgt →
      G.out → (State.driveTap s ir).mask G = s.mask G := by
  intros; simp only [State.driveTap, State.island_mask, State.lanesOut_mask, State.tap_mask, State.mgtEvt_mask,
    mask_regs, mask_tim, mask_hif, mask_log, mask_subs, mask_lanes, mask_lrep, mask_streams, mask_rte, mask_loading,
    mask_regions, mask_mgt, mask_out, ite_mask, ite_self, foldl_mask, implies_true, *]

theorem execTapReset_mask (s : State) (G : Fields) :
    G.mgt → ∀ t, execTapReset s = .next t → t.mask G = s.mask G := by
  intros; rename_i h; injection h with h; subst h; simp only [State.island_mask, State.tap_mask, mask_mgt, ite_mask,
    ite_self, foldl_mask, implies_true, *]

theorem execJtagExtest_mask (s : State) (G : Fields) :
    G.regs → G.tim → G.hif → G.log → G.subs → G.lanes → G.lrep → G.streams → G.rte → G.loading → G.regions → G.mgt →
      G.out → ∀ t, execJtagExtest s = .next t → t.mask G = s.mask G := by
  intros; rename_i h; injection h with h; subst h; simp only [State.driveTap_mask, mask_regs, mask_tim, mask_hif,
    mask_log, mask_subs, mask_lanes, mask_lrep, mask_streams, mask_rte, mask_loading, mask_regions, mask_mgt, mask_out,
    ite_mask, ite_self, foldl_mask, implies_true, *]

theorem execJtagSamplePreload_mask (s : State) (G : Fields) :
    G.mgt → ∀ t, execJtagSamplePreload s = .next t → t.mask G = s.mask G := by
  intros; rename_i h; injection h with h; subst h; simp only [State.island_mask, State.tap_mask, mask_mgt, ite_mask,
    ite_self, foldl_mask, implies_true, *]

theorem execJtagIdcode_mask (s : State) (G : Fields) :
    G.mgt → G.out → ∀ t, execJtagIdcode s = .next t → t.mask G = s.mask G := by
  intros; rename_i h; injection h with h; subst h; simp only [State.island_mask, State.tap_mask, State.emit_mask,
    mask_mgt, mask_out, ite_mask, ite_self, foldl_mask, implies_true, *]

theorem execJtagClamp_mask (s : State) (G : Fields) :
    G.regs → G.tim → G.hif → G.log → G.subs → G.lanes → G.lrep → G.streams → G.rte → G.loading → G.regions → G.mgt →
      G.out → ∀ t, execJtagClamp s = .next t → t.mask G = s.mask G := by
  intros; rename_i h; injection h with h; subst h; simp only [State.driveTap_mask, mask_regs, mask_tim, mask_hif,
    mask_log, mask_subs, mask_lanes, mask_lrep, mask_streams, mask_rte, mask_loading, mask_regions, mask_mgt, mask_out,
    ite_mask, ite_self, foldl_mask, implies_true, *]

theorem execJtagHighz_mask (s : State) (G : Fields) :
    G.regs → G.tim → G.hif → G.log → G.subs → G.lanes → G.lrep → G.streams → G.rte → G.loading → G.regions → G.mgt →
      G.out → ∀ t, execJtagHighz s = .next t → t.mask G = s.mask G := by
  intros; rename_i h; injection h with h; subst h; simp only [State.driveTap_mask, mask_regs, mask_tim, mask_hif,
    mask_log, mask_subs, mask_lanes, mask_lrep, mask_streams, mask_rte, mask_loading, mask_regions, mask_mgt, mask_out,
    ite_mask, ite_self, foldl_mask, implies_true, *]

theorem execJtagExtestPulse_mask (s : State) (G : Fields) :
    G.regs → G.tim → G.hif → G.log → G.subs → G.lanes → G.lrep → G.streams → G.rte → G.loading → G.regions → G.mgt →
      G.out → ∀ t, execJtagExtestPulse s = .next t → t.mask G = s.mask G := by
  intros; rename_i h; injection h with h; subst h; simp only [State.driveTap_mask, mask_regs, mask_tim, mask_hif,
    mask_log, mask_subs, mask_lanes, mask_lrep, mask_streams, mask_rte, mask_loading, mask_regions, mask_mgt, mask_out,
    ite_mask, ite_self, foldl_mask, implies_true, *]

theorem execJtagExtestTrain_mask (s : State) (G : Fields) :
    G.regs → G.tim → G.hif → G.log → G.subs → G.lanes → G.lrep → G.streams → G.rte → G.loading → G.regions → G.mgt →
      G.out → ∀ t, execJtagExtestTrain s = .next t → t.mask G = s.mask G := by
  intros; rename_i h; injection h with h; subst h; simp only [State.driveTap_mask, mask_regs, mask_tim, mask_hif,
    mask_log, mask_subs, mask_lanes, mask_lrep, mask_streams, mask_rte, mask_loading, mask_regions, mask_mgt, mask_out,
    ite_mask, ite_self, foldl_mask, implies_true, *]

theorem execJtagMgtAccess_mask (write : Bool) (off : Nat) (v : Word) (s : State) (G : Fields) :
    G.regs → G.latch → G.busy → G.boot → G.tim → G.hif → G.log → G.pav → G.subs → G.lanes → G.lrep → G.streams →
      G.strCmds → G.pager0 → G.pager1 → G.rte → G.sched → G.cap → G.rpl → G.digest → G.cells → G.cel → G.groups → G.mxu
      → G.tokens → G.pf0 → G.pf1 → G.greq0 → G.greq1 → G.gheld → G.gtbl → G.gwin → G.img → G.loading → G.mem → G.poison
      → G.regions → G.mgt → G.out → G.free → ∀ t, execJtagMgtAccess write off v s = .next t → t.mask G = s.mask G := by
  intros; rename_i h; obtain rfl := Host.Outcome.next.inj h
  apply State.island_mask; intros
  simp only [State.island_mask, State.tap_mask, State.pathWrite_mask, State.read_mask, State.freeWord_mask,
    State.emit_mask, mask_regs, mask_latch, mask_busy, mask_boot, mask_tim, mask_hif, mask_log, mask_pav, mask_subs,
    mask_lanes, mask_lrep, mask_streams, mask_strCmds, mask_pager0, mask_pager1, mask_rte, mask_sched, mask_cap,
    mask_rpl, mask_digest, mask_cells, mask_cel, mask_groups, mask_mxu, mask_tokens, mask_pf0, mask_pf1, mask_greq0,
    mask_greq1, mask_gheld, mask_gtbl, mask_gwin, mask_img, mask_loading, mask_mem, mask_poison, mask_regions,
    mask_mgt, mask_out, mask_free, ite_mask, ite_self, foldl_mask, implies_true, *]
  (repeat' split) <;> simp only [State.island_mask, State.tap_mask, State.pathWrite_mask, State.read_mask,
    State.freeWord_mask, State.emit_mask, mask_regs, mask_latch, mask_busy, mask_boot, mask_tim, mask_hif, mask_log,
    mask_pav, mask_subs, mask_lanes, mask_lrep, mask_streams, mask_strCmds, mask_pager0, mask_pager1, mask_rte,
    mask_sched, mask_cap, mask_rpl, mask_digest, mask_cells, mask_cel, mask_groups, mask_mxu, mask_tokens, mask_pf0,
    mask_pf1, mask_greq0, mask_greq1, mask_gheld, mask_gtbl, mask_gwin, mask_img, mask_loading, mask_mem, mask_poison,
    mask_regions, mask_mgt, mask_out, mask_free, ite_mask, ite_self, foldl_mask, implies_true, *]

theorem execJtagBypass_mask (s : State) (G : Fields) :
    G.mgt → ∀ t, execJtagBypass s = .next t → t.mask G = s.mask G := by
  intros; rename_i h; injection h with h; subst h; simp only [State.island_mask, State.tap_mask, mask_mgt, ite_mask,
    ite_self, foldl_mask, implies_true, *]

theorem State.thermal_mask (s : State) (sub : Nat) (sensor : Nat) (reading : Nat) (G : Fields) :
    G.regs → G.hif → G.log → G.out → (State.thermal s sub sensor reading).mask G = s.mask G := by
  intros; simp only [State.thermal, State.offer_mask, mask_regs, mask_hif, mask_log, mask_out, ite_mask, ite_self,
    foldl_mask, implies_true, *]

theorem State.tempSample_mask (s : State) (i : Nat) (x : Int) (G : Fields) :
    G.regs → G.hif → G.log → G.mgt → G.out → (State.tempSample s i x).mask G = s.mask G := by
  intros; simp only [State.tempSample, State.thermal_mask, State.mgtEvt_mask, State.setReg_mask, State.setFld_mask,
    State.emit_mask, mask_regs, mask_hif, mask_log, mask_mgt, mask_out, ite_mask, ite_self, foldl_mask, implies_true,
    *]

theorem State.voltSample_mask (s : State) (j : Nat) (x : Int) (G : Fields) :
    G.regs → G.hif → G.log → G.mgt → G.out → (State.voltSample s j x).mask G = s.mask G := by
  intros; simp only [State.voltSample, State.thermal_mask, State.mgtEvt_mask, State.setFld_mask, mask_regs, mask_hif,
    mask_log, mask_mgt, mask_out, ite_mask, ite_self, foldl_mask, implies_true, *]

theorem State.warnEnd_mask (s : State) (before : List Int) (G : Fields) :
    G.regs → G.hif → G.log → G.mgt → G.out → (State.warnEnd s before).mask G = s.mask G := by
  intros; simp only [State.warnEnd, State.thermal_mask, mask_regs, mask_hif, mask_log, mask_mgt, mask_out, ite_mask,
    ite_self, foldl_mask, implies_true, *]

theorem execSensorSample_mask (temps : List Int) (volts : List Int) (s : State) (G : Fields) :
    G.regs → G.hif → G.log → G.mgt → G.out → ∀ t, execSensorSample temps volts s = .next t → t.mask G = s.mask G := by
  intros; rename_i h; obtain rfl := Host.Outcome.next.inj h
  apply State.island_mask; intros
  simp only [State.island_mask, State.tempSample_mask, State.voltSample_mask, State.warnEnd_mask, mask_regs,
    mask_hif, mask_log, mask_mgt, mask_out, ite_mask, ite_self, foldl_mask, implies_true, *]

theorem State.sRx_mask (s : State) (i : Nat) (bs : List Byte) (fcsOk : Bool) (arrival : Nat) (want : List SFrame) (act
  : State → SFrame → State) (G : Fields) :
    G.regs → G.tim → G.hif → G.log → G.rte → G.out → (∀ (y0 : State) (y1 : SFrame), (act y0 y1).mask G = y0.mask G) →
      (State.sRx s i bs fcsOk arrival want act).mask G = s.mask G := by
  intros; unfold State.sRx; dsimp only; (repeat' split) <;> simp only [State.endDamaged_mask, State.advTo_mask,
    State.bump_mask, State.bump64_mask, mask_regs, mask_tim, mask_hif, mask_log, mask_rte, mask_out, ite_mask,
    ite_self, foldl_mask, implies_true, *]

theorem State.sStore_mask (s : State) (i : Nat) (bs : List Byte) (G : Fields) :
    G.regs → G.tim → G.hif → G.log → G.rte → G.out → (State.sStore s i bs).mask G = s.mask G := by
  intros; unfold State.sStore; dsimp only <;> (try apply foldl_mask) <;> intros <;> (repeat' split) <;> (try simp
    only [Prod.ext_iff] at *) <;> (try casesm* _ ∧ _) <;> (try subst_vars) <;> (try simp only [State.alloc_mask,
      State.police_mask, State.pauseCheck_mask, mask_regs, mask_tim, mask_hif, mask_log, mask_rte, mask_out,
      ite_mask, ite_self, foldl_mask, implies_true, *])

theorem execSFrameRx_mask (i : Nat) (bs : List Byte) (fcsOk : Bool) (arrival : Nat) (s : State) (G : Fields) :
    G.regs → G.tim → G.hif → G.log → G.rte → G.out → ∀ t, execSFrameRx i bs fcsOk arrival s = .next t → t.mask G =
      s.mask G := by
  intros; rename_i h; injection h with h; subst h; simp only [State.sRx_mask, State.sStore_mask, mask_regs, mask_tim,
    mask_hif, mask_log, mask_rte, mask_out, ite_mask, ite_self, foldl_mask, implies_true, *]

theorem State.setTimers_mask (s : State) (i : Nat) (ps : List Nat) (t : Nat → Nat) (G : Fields) :
    G.regs → G.tim → G.rte → (State.setTimers s i ps t).mask G = s.mask G := by
  intros; simp only [State.setTimers, State.nextPclk_mask, State.holdSettle_mask, State.setPause_mask, mask_regs,
    mask_tim, mask_rte, ite_mask, ite_self, foldl_mask, implies_true, *]

theorem execPauseRx_mask (i : Nat) (bs : List Byte) (fcsOk : Bool) (arrival : Nat) (s : State) (G : Fields) :
    G.regs → G.tim → G.hif → G.log → G.rte → G.out → ∀ t, execPauseRx i bs fcsOk arrival s = .next t → t.mask G =
      s.mask G := by
  intros; rename_i h; injection h with h; subst h; simp only [State.sRx_mask, State.setTimers_mask, State.evt_mask,
    State.bump_mask, mask_regs, mask_tim, mask_hif, mask_log, mask_rte, mask_out, ite_mask, ite_self, foldl_mask,
    implies_true, *]

theorem execPfcRx_mask (i : Nat) (bs : List Byte) (fcsOk : Bool) (arrival : Nat) (s : State) (G : Fields) :
    G.regs → G.tim → G.hif → G.log → G.rte → G.out → ∀ t, execPfcRx i bs fcsOk arrival s = .next t → t.mask G = s.mask
      G := by
  intros; rename_i h; injection h with h; subst h; simp only [State.sRx_mask, State.setTimers_mask, State.evt_mask,
    State.bump_mask, mask_regs, mask_tim, mask_hif, mask_log, mask_rte, mask_out, ite_mask, ite_self, foldl_mask,
    implies_true, *]

theorem execMacControlIgnored_mask (i : Nat) (bs : List Byte) (fcsOk : Bool) (arrival : Nat) (s : State) (G : Fields) :
    G.regs → G.tim → G.hif → G.log → G.rte → G.out → ∀ t, execMacControlIgnored i bs fcsOk arrival s = .next t → t.mask
      G = s.mask G := by
  intros; rename_i h; injection h with h; subst h; simp only [State.sRx_mask, State.bump_mask, mask_regs, mask_tim,
    mask_hif, mask_log, mask_rte, mask_out, ite_mask, ite_self, foldl_mask, implies_true, *]

theorem execPauseTimerExpire_mask (i : Nat) (p : Nat) (s : State) (G : Fields) :
    G.regs → G.tim → G.rte → ∀ t, execPauseTimerExpire i p s = .next t → t.mask G = s.mask G := by
  intros; rename_i h; injection h with h; subst h; simp only [State.advTo_mask, State.setPause_mask,
    State.holdSettle_mask, mask_regs, mask_tim, mask_rte, ite_mask, ite_self, foldl_mask, implies_true, *]

theorem execPauseRefresh_mask (i : Nat) (p : Nat) (s : State) (G : Fields) :
    G.regs → G.tim → G.hif → G.rte → G.out → ∀ t, execPauseRefresh i p s = .next t → t.mask G = s.mask G := by
  intros; rename_i h; injection h with h; subst h; simp only [State.advTo_mask, State.sendPause_mask, mask_regs,
    mask_tim, mask_hif, mask_rte, mask_out, ite_mask, ite_self, foldl_mask, implies_true, *]

theorem State.withFetchWord_mask (s : State) (nbits : Nat) (w : Nat) (G : Fields) :
    G.pending → (State.withFetchWord s nbits w).mask G = s.mask G := by
  intros; unfold State.withFetchWord; (repeat' split) <;> simp only [mask_pending, ite_mask, ite_self, foldl_mask,
    implies_true, *]

end Sys2Proof.Machine
end

