-- ==== Sys2Proof/Laws/Sparse.lean ====
section
/-! SUPPORT. Laws of the sparse tables and byte memories: read after write, and the canonical form every operation keeps. -/

namespace Sys2Proof.Machine

/-! ## Tables -/

/-- A key reads what was last put there. -/
@[simp] theorem tblGet_tblSet_same {α : Type} (d : Nat → α) (t : List (Nat × α)) (k : Nat) (v : α) :
    tblGet d (tblSet t k v) k = v := by
  induction t with
  | nil => simp [tblSet, tblGet]
  | cons e t ih =>
    obtain ⟨a, x⟩ := e
    unfold tblSet
    split
    · simp [tblGet]
    · split
      · simp [tblGet]
      · rename_i h1 h2; simp [tblGet, h1, h2, ih]

/-- Every other key reads as before. -/
theorem tblGet_tblSet_ne {α : Type} (d : Nat → α) (t : List (Nat × α)) {k j : Nat} (v : α) (h : j ≠ k) :
    tblGet d (tblSet t k v) j = tblGet d t j := by
  induction t with
  | nil => simp [tblSet, tblGet, h]
  | cons e t ih =>
    obtain ⟨a, x⟩ := e
    unfold tblSet
    split
    · rename_i h1
      by_cases hj : j < k
      · simp [tblGet, hj, Nat.lt_trans hj h1]
      · simp [tblGet, hj, h]
    · split
      · rename_i h1 h2; subst h2; simp [tblGet, h]
      · simp [tblGet, ih]

/-- Reading a key after a write, both cases at once. -/
theorem tblGet_tblSet {α : Type} (d : Nat → α) (t : List (Nat × α)) (k j : Nat) (v : α) :
    tblGet d (tblSet t k v) j = if j = k then v else tblGet d t j := by
  by_cases h : j = k
  · subst h; simp
  · simp [h, tblGet_tblSet_ne d t v h]

/-- A table reads its default at the keys that were put back, and as before elsewhere. -/
theorem tblGet_tblKeep {α : Type} (keep : Nat → Bool) (d : Nat → α) (t : List (Nat × α)) (k : Nat) :
    tblGet d (tblKeep keep d t) k = if keep k then tblGet d t k else d k := by
  induction t with
  | nil => simp [tblKeep, tblGet]
  | cons e t ih =>
    obtain ⟨a, x⟩ := e
    simp only [tblKeep] at ih
    by_cases h1 : k < a
    · by_cases hk : keep a <;> simp [tblKeep, tblGet, hk, h1]
    · by_cases h2 : k = a
      · subst h2; by_cases hk : keep k <;> simp [tblKeep, tblGet, hk]
      · by_cases hk : keep a <;> simp [tblKeep, tblGet, hk, h1, h2, ih]

/-! ## Byte memories -/

/-- The canonical form holds from any lower bound. -/
theorem memWfFrom_mono {m : List (Nat × BitVec 8)} {lo lo' : Nat} (h : memWfFrom lo m = true) (hl : lo' ≤ lo) :
    memWfFrom lo' m = true := by
  cases m with
  | nil => rfl
  | cons e t =>
    obtain ⟨b, x⟩ := e
    simp only [memWfFrom, Bool.and_eq_true, decide_eq_true_eq] at h ⊢
    exact ⟨⟨by omega, h.1.2⟩, h.2⟩

/-- Below every listed address the memory reads 0. -/
theorem memGet_below {m : List (Nat × BitVec 8)} {lo a : Nat} (h : memWfFrom lo m = true) (ha : a < lo) : memGet m a = 0 := by
  cases m with
  | nil => rfl
  | cons e t =>
    obtain ⟨b, x⟩ := e
    simp only [memWfFrom, Bool.and_eq_true, decide_eq_true_eq] at h
    have : a < b := by omega
    simp [memGet, this]

/-- A write keeps the canonical form. -/
theorem memWfFrom_memSet {m : List (Nat × BitVec 8)} {lo a : Nat} (v : BitVec 8) (h : memWfFrom lo m = true) (ha : lo ≤ a) :
    memWfFrom lo (memSet m a v) = true := by
  induction m generalizing lo with
  | nil => unfold memSet; split <;> simp_all [memWfFrom]
  | cons e t ih =>
    obtain ⟨b, x⟩ := e
    have h' := h
    simp only [memWfFrom, Bool.and_eq_true, decide_eq_true_eq] at h
    unfold memSet
    split
    · split
      · exact h'
      · rename_i hab hv
        simp only [memWfFrom, Bool.and_eq_true, decide_eq_true_eq]
        exact ⟨⟨ha, hv⟩, ⟨by omega, h.1.2⟩, h.2⟩
    · split
      · split
        · exact memWfFrom_mono h.2 (by omega)
        · rename_i hab hv
          simp only [memWfFrom, Bool.and_eq_true, decide_eq_true_eq]
          exact ⟨⟨ha, hv⟩, memWfFrom_mono h.2 (by omega)⟩
      · simp only [memWfFrom, Bool.and_eq_true, decide_eq_true_eq]
        exact ⟨h.1, ih h.2 (by omega)⟩

/-- A write keeps the canonical form. -/
theorem memWf_memSet {m : List (Nat × BitVec 8)} (a : Nat) (v : BitVec 8) (h : memWf m = true) : memWf (memSet m a v) = true :=
  memWfFrom_memSet v h (Nat.zero_le a)

/-- A write of several bytes keeps the canonical form. -/
theorem memWf_memWrite {m : List (Nat × BitVec 8)} (a : Nat) (bs : List (BitVec 8)) (h : memWf m = true) :
    memWf (memWrite m a bs) = true := by
  induction bs generalizing m a with
  | nil => exact h
  | cons b bs ih => exact ih (a + 1) (memWf_memSet a b h)

/-- Taking entries out keeps the canonical form. -/
theorem memWfFrom_filter {m : List (Nat × BitVec 8)} {lo : Nat} (p : Nat × BitVec 8 → Bool) (h : memWfFrom lo m = true) :
    memWfFrom lo (m.filter p) = true := by
  induction m generalizing lo with
  | nil => rfl
  | cons e t ih =>
    obtain ⟨b, x⟩ := e
    simp only [memWfFrom, Bool.and_eq_true, decide_eq_true_eq] at h
    rw [List.filter_cons]
    split
    · simp only [memWfFrom, Bool.and_eq_true, decide_eq_true_eq]
      exact ⟨h.1, ih h.2⟩
    · exact ih (memWfFrom_mono h.2 (by omega))

/-- Zeroing a range keeps the canonical form. -/
theorem memWf_memClear {m : List (Nat × BitVec 8)} (lo hi : Nat) (h : memWf m = true) : memWf (memClear m lo hi) = true :=
  memWfFrom_filter _ h

/-- Reading an address after a write, in a memory of canonical form. -/
theorem memGet_memSet_from {m : List (Nat × BitVec 8)} {lo : Nat} (a j : Nat) (v : BitVec 8) (h : memWfFrom lo m = true) :
    memGet (memSet m a v) j = if j = a then v else memGet m j := by
  induction m generalizing lo with
  | nil =>
    unfold memSet
    by_cases hv : v = 0
    · simp [hv, memGet]
    · rw [if_neg hv]
      by_cases hj : j = a <;> simp [memGet, hj]
  | cons e t ih =>
    obtain ⟨b, x⟩ := e
    simp only [memWfFrom, Bool.and_eq_true, decide_eq_true_eq] at h
    unfold memSet
    split
    · rename_i hab
      by_cases hv : v = 0
      · by_cases hj : j = a
        · subst hj; simp [hv, memGet, hab]
        · simp [hv, hj]
      · rw [if_neg hv]
        by_cases hj : j = a
        · subst hj; simp [memGet]
        · by_cases hl : j < a
          · have : j < b := by omega
            simp [hj, memGet, hl, this]
          · simp [hj, memGet, hl]
    · split
      · rename_i hab heq
        subst heq
        by_cases hv : v = 0
        · by_cases hj : j = a
          · subst hj; simp [hv]; exact memGet_below h.2 (by omega)
          · by_cases hl : j < a
            · simp [hv, hj, memGet, hl]; exact memGet_below h.2 (by omega)
            · simp [hv, hj, memGet, hl]
        · rw [if_neg hv]
          by_cases hj : j = a
          · subst hj; simp [memGet]
          · simp [hj, memGet]
      · rename_i hab hne
        by_cases hj : j < b
        · have : j ≠ a := by omega
          simp [memGet, hj, this]
        · by_cases hjb : j = b
          · subst hjb
            have : j ≠ a := by omega
            simp [memGet, this]
          · simp [memGet, hj, hjb, ih h.2]

/-- Reading an address after a write, in a memory of canonical form. -/
theorem memGet_memSet {m : List (Nat × BitVec 8)} (a j : Nat) (v : BitVec 8) (h : memWf m = true) :
    memGet (memSet m a v) j = if j = a then v else memGet m j :=
  memGet_memSet_from a j v h

/-- A write of several bytes leaves every address outside them alone. -/
theorem memGet_memWrite_outside {m : List (Nat × BitVec 8)} (a j : Nat) (bs : List (BitVec 8)) (h : memWf m = true)
    (hj : j < a ∨ a + bs.length ≤ j) : memGet (memWrite m a bs) j = memGet m j := by
  induction bs generalizing m a with
  | nil => rfl
  | cons b bs ih =>
    simp only [List.length_cons] at hj
    have h1 : j ≠ a := by omega
    rw [memWrite, ih (a + 1) (memWf_memSet a b h) (by omega), memGet_memSet a j b h]
    simp [h1]

/-- A write of several bytes is read back. -/
theorem memGet_memWrite_inside {m : List (Nat × BitVec 8)} (a i : Nat) (bs : List (BitVec 8)) (h : memWf m = true)
    (hi : i < bs.length) : memGet (memWrite m a bs) (a + i) = bs[i] := by
  induction bs generalizing m a i with
  | nil => simp at hi
  | cons b bs ih =>
    cases i with
    | zero =>
      rw [memWrite, memGet_memWrite_outside (a + 1) (a + 0) bs (memWf_memSet a b h) (by omega), memGet_memSet a _ b h]
      simp
    | succ i =>
      simp only [List.length_cons] at hi
      have := ih (a + 1) i (memWf_memSet a b h) (by omega)
      rw [memWrite, show a + (i + 1) = a + 1 + i by omega, this]
      simp

/-- What is read has the length asked for. -/
@[simp] theorem memRead_length (m : List (Nat × BitVec 8)) (a n : Nat) : (memRead m a n).length = n := by
  induction n generalizing a with
  | zero => rfl
  | succ n ih => simp [memRead, ih]

/-- A byte of what is read. -/
theorem memRead_getElem (m : List (Nat × BitVec 8)) (a n i : Nat) (h : i < (memRead m a n).length) :
    (memRead m a n)[i] = memGet m (a + i) := by
  induction n generalizing a i with
  | zero => simp at h
  | succ n ih =>
    cases i with
    | zero => simp [memRead]
    | succ i =>
      simp only [memRead, List.getElem_cons_succ]
      rw [ih]
      · congr 1; omega

/-- What has been written is read back whole. -/
theorem memRead_memWrite {m : List (Nat × BitVec 8)} (a : Nat) (bs : List (BitVec 8)) (h : memWf m = true) :
    memRead (memWrite m a bs) a bs.length = bs := by
  apply List.ext_getElem
  · simp
  · intro i h1 h2
    rw [memRead_getElem, memGet_memWrite_inside a i bs h h2]

/-- A read outside what was written reads as before. -/
theorem memRead_memWrite_outside {m : List (Nat × BitVec 8)} (a b n : Nat) (bs : List (BitVec 8)) (h : memWf m = true)
    (hd : b + n ≤ a ∨ a + bs.length ≤ b) : memRead (memWrite m a bs) b n = memRead m b n := by
  apply List.ext_getElem
  · simp
  · intro i h1 h2
    simp only [memRead_length] at h1
    rw [memRead_getElem, memRead_getElem, memGet_memWrite_outside a (b + i) bs h (by omega)]

/-- Zeroing a range reads 0 inside it. -/
theorem memGet_memClear {m : List (Nat × BitVec 8)} {from_ : Nat} (lo hi j : Nat) (h : memWfFrom from_ m = true) :
    memGet (memClear m lo hi) j = if lo ≤ j ∧ j < hi then 0 else memGet m j := by
  induction m generalizing from_ with
  | nil => simp [memClear, memGet]
  | cons e t ih =>
    obtain ⟨b, x⟩ := e
    simp only [memWfFrom, Bool.and_eq_true, decide_eq_true_eq] at h
    have iht := ih h.2
    unfold memClear at iht ⊢
    rw [List.filter_cons]
    split
    · rename_i hk
      simp only [Bool.or_eq_true, decide_eq_true_eq] at hk
      by_cases hj : j < b
      · simp [memGet, hj]
      · by_cases hjb : j = b
        · subst hjb
          have : ¬ (lo ≤ j ∧ j < hi) := by omega
          simp [memGet, this]
        · simp only [memGet, hj, hjb, if_false]; exact iht
    · rename_i hk
      simp only [Bool.or_eq_true, decide_eq_true_eq, not_or, Nat.not_lt] at hk
      rw [iht]
      by_cases hj : j < b
      · have h0 := memGet_below h.2 (a := j) (by omega)
        simp [memGet, hj, h0]
      · by_cases hjb : j = b
        · subst hjb
          have : lo ≤ j ∧ j < hi := by omega
          simp [this]
        · simp [memGet, hj, hjb]

/-! ## Bytes of numbers -/

/-- A number has as many bytes as asked for. -/
@[simp] theorem natLe_length (n x : Nat) : (natLe n x).length = n := by
  induction n generalizing x with
  | zero => rfl
  | succ n ih => simp [natLe, ih]

/-- The bytes of a number spell it again. -/
theorem leNat_natLe (n x : Nat) : leNat (natLe n x) = x % 256 ^ n := by
  induction n generalizing x with
  | zero => simp [natLe, leNat, Nat.mod_one]
  | succ n ih =>
    have h : x % 256 ^ (n + 1) = x % 256 + 256 * (x / 256 % 256 ^ n) := by
      rw [Nat.pow_succ, Nat.mul_comm (256 ^ n) 256, Nat.mod_mul]
    simp [natLe, leNat, ih, h]

end Sys2Proof.Machine
end

