-- ==== Sys2Proof/Laws/State.lean ====
section
/-! SUPPORT. What the accessors of the state read after an update: one lemma per accessor and update, and which registers the
shared operations may write. -/

namespace Sys2Proof.Machine

/-- Setting a key twice keeps the last value. -/
@[simp] theorem tblSet_tblSet {α : Type} (t : List (Nat × α)) (k : Nat) (x y : α) :
    tblSet (tblSet t k x) k y = tblSet t k y := by
  induction t with
  | nil => simp [tblSet]
  | cons p t ih =>
    obtain ⟨a, z⟩ := p
    by_cases h1 : k < a
    · simp [tblSet, h1]
    · by_cases h2 : k = a
      · simp [tblSet, h2]
      · simp [tblSet, h1, h2, ih]

/-! ## Registers -/

@[simp] theorem reg_setReg (s : State) (o : Nat) (v : Word) : (s.setReg o v).reg o = v := tblGet_tblSet_same _ _ _ _

theorem reg_setReg_ne (s : State) {o o' : Nat} (v : Word) (h : o' ≠ o) : (s.setReg o v).reg o' = s.reg o' :=
  tblGet_tblSet_ne _ _ _ h

@[simp] theorem setReg_setReg (s : State) (o : Nat) (v w : Word) : (s.setReg o v).setReg o w = s.setReg o w := by
  simp [State.setReg]

theorem setFld_reg (s : State) (o hi lo v : Nat) {o' : Nat} (h : o' ≠ o) : (s.setFld o hi lo v).reg o' = s.reg o' :=
  reg_setReg_ne _ _ h

theorem bump_reg (s : State) (o n : Nat) {o' : Nat} (h : o' ≠ o) : (s.bump o n).reg o' = s.reg o' := reg_setReg_ne _ _ h

/-- A counter below its ceiling counts. -/
theorem bump_same (s : State) (o n : Nat) : (s.bump o n).reg o = BitVec.ofNat 32 (min 0xFFFFFFFF ((s.reg o).toNat + n)) :=
  reg_setReg _ _ _

theorem bump64_reg (s : State) (o n : Nat) {o' : Nat} (h : o' ≠ o) (h4 : o' ≠ o + 4) : (s.bump64 o n).reg o' = s.reg o' := by
  unfold State.bump64; dsimp only; rw [reg_setReg_ne _ _ h4, reg_setReg_ne _ _ h]

theorem bump16_reg (s : State) (o k n : Nat) {o' : Nat} (h : o' ≠ o) : (s.bump16 o k n).reg o' = s.reg o' :=
  setFld_reg _ _ _ _ _ h

@[simp] theorem emit_reg (s : State) (e : Emit) (o : Nat) : (s.emit e).reg o = s.reg o := rfl

@[simp] theorem advTo_reg (s : State) (t o : Nat) : (s.advTo t).reg o = s.reg o := by unfold State.advTo; split <;> rfl

@[simp] theorem raiseVec_reg (s : State) (f vec o : Nat) : (s.raiseVec f vec).reg o = s.reg o := by
  unfold State.raiseVec; split <;> rfl

@[simp] theorem noteSet_reg (s : State) (ev bit o : Nat) : (s.noteSet ev bit).reg o = s.reg o := by
  unfold State.noteSet; split <;> rfl

@[simp] theorem noteSw_reg (s : State) (o o' : Nat) (v : Word) : (s.noteSw o v).reg o' = s.reg o' := rfl

theorem setW1c_reg (s : State) (ev bit limit : Nat) (hb : bit < 8) {o : Nat} (h : o ∉ [ev, ev + 4, ev + 8]) :
    (s.setW1c ev bit limit).reg o = s.reg o := by
  simp only [List.mem_cons, List.not_mem_nil, or_false, not_or] at h
  unfold State.setW1c State.occur
  dsimp only
  split
  · rw [setFld_reg, noteSet_reg, reg_setReg_ne _ _ h.1]
    have : bit / 4 = 0 ∨ bit / 4 = 1 := by omega
    rcases this with e | e <;> rw [e] <;> omega
  · rw [noteSet_reg, reg_setReg_ne _ _ h.1]

theorem fnEvt1_reg (s : State) (f bit : Nat) (hb : bit < 8) {o : Nat} (h : o ∉ evtRegs (aHIF_FN_EVENT f)) :
    (s.fnEvt1 f bit).reg o = s.reg o := by
  unfold State.fnEvt1
  dsimp only
  split
  · rw [noteSet_reg, raiseVec_reg, setW1c_reg _ _ _ _ hb h]
  · rw [setW1c_reg _ _ _ _ hb h]

theorem blockEvent_reg (s : State) (blk : Nat) {o : Nat} (h : o ∉ evtRegs (aHIF_FN_EVENT 0)) :
    (s.blockEvent blk).reg o = s.reg o := by
  unfold State.blockEvent
  split
  · exact fnEvt1_reg _ _ _ (by decide) h
  · rfl

/-- Within one cycle nothing but the operation itself writes a register. -/
theorem oneCycle_reg (s : State) (f : State → State) {o : Nat} (h : ∀ t, (f t).reg o = t.reg o) :
    (s.oneCycle f).reg o = s.reg o := by
  unfold State.oneCycle
  split
  · exact h s
  · exact h _

theorem fnEvt_reg (s : State) (f bit : Nat) (hb : bit < 8) {o : Nat} (h : o ∉ evtRegs (aHIF_FN_EVENT f))
    (h0 : o ∉ evtRegs (aHIF_FN_EVENT 0)) : (s.fnEvt f bit).reg o = s.reg o := by
  unfold State.fnEvt; refine oneCycle_reg _ _ fun t => ?_; rw [blockEvent_reg _ _ h0, fnEvt1_reg _ _ _ hb h]

theorem evt_reg (s : State) (blk ev bit : Nat) (hb : bit < 8) {o : Nat} (h : o ∉ evtRegs ev)
    (h0 : o ∉ evtRegs (aHIF_FN_EVENT 0)) : (s.evt blk ev bit).reg o = s.reg o := by
  unfold State.evt; rw [blockEvent_reg _ _ h0, setW1c_reg _ _ _ _ hb h]

theorem offer_reg (s : State) (cls sub src pav d0 d1 d2 d3 : Nat) {o : Nat} (hd : o ≠ aLOG_DROPPED)
    (h : o ∉ evtRegs aLOG_EVENT) (h0 : o ∉ evtRegs (aHIF_FN_EVENT 0)) :
    (s.offer cls sub src pav d0 d1 d2 d3).reg o = s.reg o := by
  unfold State.offer
  dsimp only
  split
  · rfl
  · rw [evt_reg _ _ _ _ (by decide) h h0, bump_reg _ _ _ hd]; rfl

/-! ## Tables -/

@[simp] theorem cell_setCell (s : State) (c : Nat) (x : Cell) : (s.setCell c x).cell c = x := tblGet_tblSet_same _ _ _ _

theorem cell_setCell_ne (s : State) {c c' : Nat} (x : Cell) (h : c' ≠ c) : (s.setCell c x).cell c' = s.cell c' :=
  tblGet_tblSet_ne _ _ _ h

@[simp] theorem lane_setLane (s : State) (i : Nat) (x : Lane) : (s.setLane i x).lane i = x := tblGet_tblSet_same _ _ _ _

theorem lane_setLane_ne (s : State) {i i' : Nat} (x : Lane) (h : i' ≠ i) : (s.setLane i x).lane i' = s.lane i' :=
  tblGet_tblSet_ne _ _ _ h

@[simp] theorem stream_setStream (s : State) (i : Nat) (x : Stream) : (s.setStream i x).stream i = x := tblGet_tblSet_same _ _ _ _

theorem stream_setStream_ne (s : State) {i i' : Nat} (x : Stream) (h : i' ≠ i) : (s.setStream i x).stream i' = s.stream i' :=
  tblGet_tblSet_ne _ _ _ h

@[simp] theorem egr_setEgr (s : State) (e : Nat) (x : Egress) : (s.setEgr e x).egr e = x := tblGet_tblSet_same _ _ _ _

theorem egr_setEgr_ne (s : State) {e e' : Nat} (x : Egress) (h : e' ≠ e) : (s.setEgr e x).egr e' = s.egr e' :=
  tblGet_tblSet_ne _ _ _ h

@[simp] theorem src_setSrc (s : State) (i : Nat) (x : TimeSrc) : (s.setSrc i x).src i = x := tblGet_tblSet_same _ _ _ _

theorem src_setSrc_ne (s : State) {i i' : Nat} (x : TimeSrc) (h : i' ≠ i) : (s.setSrc i x).src i' = s.src i' :=
  tblGet_tblSet_ne _ _ _ h

@[simp] theorem policer_setPolicer (s : State) (i : Nat) (x : Policer) : (s.setPolicer i x).policer i = x := tblGet_tblSet_same _ _ _ _

theorem policer_setPolicer_ne (s : State) {i i' : Nat} (x : Policer) (h : i' ≠ i) : (s.setPolicer i x).policer i' = s.policer i' :=
  tblGet_tblSet_ne _ _ _ h

@[simp] theorem lr_setLr (s : State) (l : Nat) (x : LRep) : (s.setLr l x).lr l = x := tblGet_tblSet_same _ _ _ _

theorem lr_setLr_ne (s : State) {l l' : Nat} (x : LRep) (h : l' ≠ l) : (s.setLr l x).lr l' = s.lr l' :=
  tblGet_tblSet_ne _ _ _ h

@[simp] theorem mx_setMx (s : State) (u : Nat) (x : Mxu) : (s.setMx u x).mx u = x := tblGet_tblSet_same _ _ _ _

theorem mx_setMx_ne (s : State) {u u' : Nat} (x : Mxu) (h : u' ≠ u) : (s.setMx u x).mx u' = s.mx u' :=
  tblGet_tblSet_ne _ _ _ h

@[simp] theorem pause_setPause (s : State) (i : Nat) (x : Pause) : (s.setPause i x).pause i = x := tblGet_tblSet_same _ _ _ _

theorem pause_setPause_ne (s : State) {i i' : Nat} (x : Pause) (h : i' ≠ i) : (s.setPause i x).pause i' = s.pause i' :=
  tblGet_tblSet_ne _ _ _ h

@[simp] theorem sub_setSub (s : State) (p k : Nat) (x : SubPort) : (s.setSub p k x).sub p k = x := tblGet_tblSet_same _ _ _ _

theorem sub_setSub_ne (s : State) {p k p' k' : Nat} (x : SubPort) (h : 8 * p' + k' ≠ 8 * p + k) :
    (s.setSub p k x).sub p' k' = s.sub p' k' := tblGet_tblSet_ne _ _ _ h

@[simp] theorem cq_setCq (s : State) (p k : Nat) (x : CqState) : (s.setCq p k x).cq p k = x := tblGet_tblSet_same _ _ _ _

theorem cq_setCq_ne (s : State) {p k p' k' : Nat} (x : CqState) (h : 256 * p' + k' ≠ 256 * p + k) :
    (s.setCq p k x).cq p' k' = s.cq p' k' := tblGet_tblSet_ne _ _ _ h

@[simp] theorem sq_setSq (s : State) (p k : Nat) (x : SqState) : (s.setSq p k x).sq p k = x := tblGet_tblSet_same _ _ _ _

theorem sq_setSq_ne (s : State) {p k p' k' : Nat} (x : SqState) (h : 256 * p' + k' ≠ 256 * p + k) :
    (s.setSq p k x).sq p' k' = s.sq p' k' := tblGet_tblSet_ne _ _ _ h

@[simp] theorem pool_setPool (s : State) (p k : Nat) (x : Pool) : (s.setPool p k x).pool p k = x := tblGet_tblSet_same _ _ _ _

theorem pool_setPool_ne (s : State) {p k p' k' : Nat} (x : Pool) (h : 4 * p' + k' ≠ 4 * p + k) :
    (s.setPool p k x).pool p' k' = s.pool p' k' := tblGet_tblSet_ne _ _ _ h

@[simp] theorem owner_setOwner (s : State) (p k : Nat) (x : Owner) : (s.setOwner p k x).owner p k = x := tblGet_tblSet_same _ _ _ _

theorem owner_setOwner_ne (s : State) {p k p' k' : Nat} (x : Owner) (h : 2048 * p' + k' ≠ 2048 * p + k) :
    (s.setOwner p k x).owner p' k' = s.owner p' k' := tblGet_tblSet_ne _ _ _ h

/-! ## Fields after an update -/

@[simp] theorem setReg_latch (s : State) (o : Nat) (v : Word) : (s.setReg o v).latch = s.latch := rfl
@[simp] theorem setReg_busy (s : State) (o : Nat) (v : Word) : (s.setReg o v).busy = s.busy := rfl
@[simp] theorem setReg_recent (s : State) (o : Nat) (v : Word) : (s.setReg o v).recent = s.recent := rfl
@[simp] theorem setReg_fuse (s : State) (o : Nat) (v : Word) : (s.setReg o v).fuse = s.fuse := rfl
@[simp] theorem setReg_boot (s : State) (o : Nat) (v : Word) : (s.setReg o v).boot = s.boot := rfl
@[simp] theorem setReg_flash (s : State) (o : Nat) (v : Word) : (s.setReg o v).flash = s.flash := rfl
@[simp] theorem setReg_tim (s : State) (o : Nat) (v : Word) : (s.setReg o v).tim = s.tim := rfl
@[simp] theorem setReg_hif (s : State) (o : Nat) (v : Word) : (s.setReg o v).hif = s.hif := rfl
@[simp] theorem setReg_log (s : State) (o : Nat) (v : Word) : (s.setReg o v).log = s.log := rfl
@[simp] theorem setReg_pav (s : State) (o : Nat) (v : Word) : (s.setReg o v).pav = s.pav := rfl
@[simp] theorem setReg_subs (s : State) (o : Nat) (v : Word) : (s.setReg o v).subs = s.subs := rfl
@[simp] theorem setReg_lanes (s : State) (o : Nat) (v : Word) : (s.setReg o v).lanes = s.lanes := rfl
@[simp] theorem setReg_lrep (s : State) (o : Nat) (v : Word) : (s.setReg o v).lrep = s.lrep := rfl
@[simp] theorem setReg_streams (s : State) (o : Nat) (v : Word) : (s.setReg o v).streams = s.streams := rfl
@[simp] theorem setReg_strCmds (s : State) (o : Nat) (v : Word) : (s.setReg o v).strCmds = s.strCmds := rfl
@[simp] theorem setReg_pager0 (s : State) (o : Nat) (v : Word) : (s.setReg o v).pager0 = s.pager0 := rfl
@[simp] theorem setReg_pager1 (s : State) (o : Nat) (v : Word) : (s.setReg o v).pager1 = s.pager1 := rfl
@[simp] theorem setReg_rte (s : State) (o : Nat) (v : Word) : (s.setReg o v).rte = s.rte := rfl
@[simp] theorem setReg_sched (s : State) (o : Nat) (v : Word) : (s.setReg o v).sched = s.sched := rfl
@[simp] theorem setReg_cap (s : State) (o : Nat) (v : Word) : (s.setReg o v).cap = s.cap := rfl
@[simp] theorem setReg_rpl (s : State) (o : Nat) (v : Word) : (s.setReg o v).rpl = s.rpl := rfl
@[simp] theorem setReg_digest (s : State) (o : Nat) (v : Word) : (s.setReg o v).digest = s.digest := rfl
@[simp] theorem setReg_cells (s : State) (o : Nat) (v : Word) : (s.setReg o v).cells = s.cells := rfl
@[simp] theorem setReg_cel (s : State) (o : Nat) (v : Word) : (s.setReg o v).cel = s.cel := rfl
@[simp] theorem setReg_groups (s : State) (o : Nat) (v : Word) : (s.setReg o v).groups = s.groups := rfl
@[simp] theorem setReg_mxu (s : State) (o : Nat) (v : Word) : (s.setReg o v).mxu = s.mxu := rfl
@[simp] theorem setReg_tokens (s : State) (o : Nat) (v : Word) : (s.setReg o v).tokens = s.tokens := rfl
@[simp] theorem setReg_pf0 (s : State) (o : Nat) (v : Word) : (s.setReg o v).pf0 = s.pf0 := rfl
@[simp] theorem setReg_pf1 (s : State) (o : Nat) (v : Word) : (s.setReg o v).pf1 = s.pf1 := rfl
@[simp] theorem setReg_greq0 (s : State) (o : Nat) (v : Word) : (s.setReg o v).greq0 = s.greq0 := rfl
@[simp] theorem setReg_greq1 (s : State) (o : Nat) (v : Word) : (s.setReg o v).greq1 = s.greq1 := rfl
@[simp] theorem setReg_gheld (s : State) (o : Nat) (v : Word) : (s.setReg o v).gheld = s.gheld := rfl
@[simp] theorem setReg_gtbl (s : State) (o : Nat) (v : Word) : (s.setReg o v).gtbl = s.gtbl := rfl
@[simp] theorem setReg_gwin (s : State) (o : Nat) (v : Word) : (s.setReg o v).gwin = s.gwin := rfl
@[simp] theorem setReg_img (s : State) (o : Nat) (v : Word) : (s.setReg o v).img = s.img := rfl
@[simp] theorem setReg_loading (s : State) (o : Nat) (v : Word) : (s.setReg o v).loading = s.loading := rfl
@[simp] theorem setReg_mem (s : State) (o : Nat) (v : Word) : (s.setReg o v).mem = s.mem := rfl
@[simp] theorem setReg_writes (s : State) (o : Nat) (v : Word) : (s.setReg o v).writes = s.writes := rfl
@[simp] theorem setReg_poison (s : State) (o : Nat) (v : Word) : (s.setReg o v).poison = s.poison := rfl
@[simp] theorem setReg_soft (s : State) (o : Nat) (v : Word) : (s.setReg o v).soft = s.soft := rfl
@[simp] theorem setReg_regions (s : State) (o : Nat) (v : Word) : (s.setReg o v).regions = s.regions := rfl
@[simp] theorem setReg_mgt (s : State) (o : Nat) (v : Word) : (s.setReg o v).mgt = s.mgt := rfl
@[simp] theorem setReg_out (s : State) (o : Nat) (v : Word) : (s.setReg o v).out = s.out := rfl
@[simp] theorem setReg_free (s : State) (o : Nat) (v : Word) : (s.setReg o v).free = s.free := rfl
@[simp] theorem setReg_pending (s : State) (o : Nat) (v : Word) : (s.setReg o v).pending = s.pending := rfl

@[simp] theorem emit_regs (s : State) (e : Emit) : (s.emit e).regs = s.regs := rfl
@[simp] theorem emit_latch (s : State) (e : Emit) : (s.emit e).latch = s.latch := rfl
@[simp] theorem emit_busy (s : State) (e : Emit) : (s.emit e).busy = s.busy := rfl
@[simp] theorem emit_recent (s : State) (e : Emit) : (s.emit e).recent = s.recent := rfl
@[simp] theorem emit_fuse (s : State) (e : Emit) : (s.emit e).fuse = s.fuse := rfl
@[simp] theorem emit_boot (s : State) (e : Emit) : (s.emit e).boot = s.boot := rfl
@[simp] theorem emit_flash (s : State) (e : Emit) : (s.emit e).flash = s.flash := rfl
@[simp] theorem emit_tim (s : State) (e : Emit) : (s.emit e).tim = s.tim := rfl
@[simp] theorem emit_hif (s : State) (e : Emit) : (s.emit e).hif = s.hif := rfl
@[simp] theorem emit_log (s : State) (e : Emit) : (s.emit e).log = s.log := rfl
@[simp] theorem emit_pav (s : State) (e : Emit) : (s.emit e).pav = s.pav := rfl
@[simp] theorem emit_subs (s : State) (e : Emit) : (s.emit e).subs = s.subs := rfl
@[simp] theorem emit_lanes (s : State) (e : Emit) : (s.emit e).lanes = s.lanes := rfl
@[simp] theorem emit_lrep (s : State) (e : Emit) : (s.emit e).lrep = s.lrep := rfl
@[simp] theorem emit_streams (s : State) (e : Emit) : (s.emit e).streams = s.streams := rfl
@[simp] theorem emit_strCmds (s : State) (e : Emit) : (s.emit e).strCmds = s.strCmds := rfl
@[simp] theorem emit_pager0 (s : State) (e : Emit) : (s.emit e).pager0 = s.pager0 := rfl
@[simp] theorem emit_pager1 (s : State) (e : Emit) : (s.emit e).pager1 = s.pager1 := rfl
@[simp] theorem emit_rte (s : State) (e : Emit) : (s.emit e).rte = s.rte := rfl
@[simp] theorem emit_sched (s : State) (e : Emit) : (s.emit e).sched = s.sched := rfl
@[simp] theorem emit_cap (s : State) (e : Emit) : (s.emit e).cap = s.cap := rfl
@[simp] theorem emit_rpl (s : State) (e : Emit) : (s.emit e).rpl = s.rpl := rfl
@[simp] theorem emit_digest (s : State) (e : Emit) : (s.emit e).digest = s.digest := rfl
@[simp] theorem emit_cells (s : State) (e : Emit) : (s.emit e).cells = s.cells := rfl
@[simp] theorem emit_cel (s : State) (e : Emit) : (s.emit e).cel = s.cel := rfl
@[simp] theorem emit_groups (s : State) (e : Emit) : (s.emit e).groups = s.groups := rfl
@[simp] theorem emit_mxu (s : State) (e : Emit) : (s.emit e).mxu = s.mxu := rfl
@[simp] theorem emit_tokens (s : State) (e : Emit) : (s.emit e).tokens = s.tokens := rfl
@[simp] theorem emit_pf0 (s : State) (e : Emit) : (s.emit e).pf0 = s.pf0 := rfl
@[simp] theorem emit_pf1 (s : State) (e : Emit) : (s.emit e).pf1 = s.pf1 := rfl
@[simp] theorem emit_greq0 (s : State) (e : Emit) : (s.emit e).greq0 = s.greq0 := rfl
@[simp] theorem emit_greq1 (s : State) (e : Emit) : (s.emit e).greq1 = s.greq1 := rfl
@[simp] theorem emit_gheld (s : State) (e : Emit) : (s.emit e).gheld = s.gheld := rfl
@[simp] theorem emit_gtbl (s : State) (e : Emit) : (s.emit e).gtbl = s.gtbl := rfl
@[simp] theorem emit_gwin (s : State) (e : Emit) : (s.emit e).gwin = s.gwin := rfl
@[simp] theorem emit_img (s : State) (e : Emit) : (s.emit e).img = s.img := rfl
@[simp] theorem emit_loading (s : State) (e : Emit) : (s.emit e).loading = s.loading := rfl
@[simp] theorem emit_mem (s : State) (e : Emit) : (s.emit e).mem = s.mem := rfl
@[simp] theorem emit_writes (s : State) (e : Emit) : (s.emit e).writes = s.writes := rfl
@[simp] theorem emit_poison (s : State) (e : Emit) : (s.emit e).poison = s.poison := rfl
@[simp] theorem emit_soft (s : State) (e : Emit) : (s.emit e).soft = s.soft := rfl
@[simp] theorem emit_regions (s : State) (e : Emit) : (s.emit e).regions = s.regions := rfl
@[simp] theorem emit_mgt (s : State) (e : Emit) : (s.emit e).mgt = s.mgt := rfl
@[simp] theorem emit_free (s : State) (e : Emit) : (s.emit e).free = s.free := rfl
@[simp] theorem emit_pending (s : State) (e : Emit) : (s.emit e).pending = s.pending := rfl

@[simp] theorem setCell_regs (s : State) (c : Nat) (x : Cell) : (s.setCell c x).regs = s.regs := rfl
@[simp] theorem setCell_latch (s : State) (c : Nat) (x : Cell) : (s.setCell c x).latch = s.latch := rfl
@[simp] theorem setCell_busy (s : State) (c : Nat) (x : Cell) : (s.setCell c x).busy = s.busy := rfl
@[simp] theorem setCell_recent (s : State) (c : Nat) (x : Cell) : (s.setCell c x).recent = s.recent := rfl
@[simp] theorem setCell_fuse (s : State) (c : Nat) (x : Cell) : (s.setCell c x).fuse = s.fuse := rfl
@[simp] theorem setCell_boot (s : State) (c : Nat) (x : Cell) : (s.setCell c x).boot = s.boot := rfl
@[simp] theorem setCell_flash (s : State) (c : Nat) (x : Cell) : (s.setCell c x).flash = s.flash := rfl
@[simp] theorem setCell_tim (s : State) (c : Nat) (x : Cell) : (s.setCell c x).tim = s.tim := rfl
@[simp] theorem setCell_hif (s : State) (c : Nat) (x : Cell) : (s.setCell c x).hif = s.hif := rfl
@[simp] theorem setCell_log (s : State) (c : Nat) (x : Cell) : (s.setCell c x).log = s.log := rfl
@[simp] theorem setCell_pav (s : State) (c : Nat) (x : Cell) : (s.setCell c x).pav = s.pav := rfl
@[simp] theorem setCell_subs (s : State) (c : Nat) (x : Cell) : (s.setCell c x).subs = s.subs := rfl
@[simp] theorem setCell_lanes (s : State) (c : Nat) (x : Cell) : (s.setCell c x).lanes = s.lanes := rfl
@[simp] theorem setCell_lrep (s : State) (c : Nat) (x : Cell) : (s.setCell c x).lrep = s.lrep := rfl
@[simp] theorem setCell_streams (s : State) (c : Nat) (x : Cell) : (s.setCell c x).streams = s.streams := rfl
@[simp] theorem setCell_strCmds (s : State) (c : Nat) (x : Cell) : (s.setCell c x).strCmds = s.strCmds := rfl
@[simp] theorem setCell_pager0 (s : State) (c : Nat) (x : Cell) : (s.setCell c x).pager0 = s.pager0 := rfl
@[simp] theorem setCell_pager1 (s : State) (c : Nat) (x : Cell) : (s.setCell c x).pager1 = s.pager1 := rfl
@[simp] theorem setCell_rte (s : State) (c : Nat) (x : Cell) : (s.setCell c x).rte = s.rte := rfl
@[simp] theorem setCell_sched (s : State) (c : Nat) (x : Cell) : (s.setCell c x).sched = s.sched := rfl
@[simp] theorem setCell_cap (s : State) (c : Nat) (x : Cell) : (s.setCell c x).cap = s.cap := rfl
@[simp] theorem setCell_rpl (s : State) (c : Nat) (x : Cell) : (s.setCell c x).rpl = s.rpl := rfl
@[simp] theorem setCell_digest (s : State) (c : Nat) (x : Cell) : (s.setCell c x).digest = s.digest := rfl
@[simp] theorem setCell_cel (s : State) (c : Nat) (x : Cell) : (s.setCell c x).cel = s.cel := rfl
@[simp] theorem setCell_groups (s : State) (c : Nat) (x : Cell) : (s.setCell c x).groups = s.groups := rfl
@[simp] theorem setCell_mxu (s : State) (c : Nat) (x : Cell) : (s.setCell c x).mxu = s.mxu := rfl
@[simp] theorem setCell_tokens (s : State) (c : Nat) (x : Cell) : (s.setCell c x).tokens = s.tokens := rfl
@[simp] theorem setCell_pf0 (s : State) (c : Nat) (x : Cell) : (s.setCell c x).pf0 = s.pf0 := rfl
@[simp] theorem setCell_pf1 (s : State) (c : Nat) (x : Cell) : (s.setCell c x).pf1 = s.pf1 := rfl
@[simp] theorem setCell_greq0 (s : State) (c : Nat) (x : Cell) : (s.setCell c x).greq0 = s.greq0 := rfl
@[simp] theorem setCell_greq1 (s : State) (c : Nat) (x : Cell) : (s.setCell c x).greq1 = s.greq1 := rfl
@[simp] theorem setCell_gheld (s : State) (c : Nat) (x : Cell) : (s.setCell c x).gheld = s.gheld := rfl
@[simp] theorem setCell_gtbl (s : State) (c : Nat) (x : Cell) : (s.setCell c x).gtbl = s.gtbl := rfl
@[simp] theorem setCell_gwin (s : State) (c : Nat) (x : Cell) : (s.setCell c x).gwin = s.gwin := rfl
@[simp] theorem setCell_img (s : State) (c : Nat) (x : Cell) : (s.setCell c x).img = s.img := rfl
@[simp] theorem setCell_loading (s : State) (c : Nat) (x : Cell) : (s.setCell c x).loading = s.loading := rfl
@[simp] theorem setCell_mem (s : State) (c : Nat) (x : Cell) : (s.setCell c x).mem = s.mem := rfl
@[simp] theorem setCell_writes (s : State) (c : Nat) (x : Cell) : (s.setCell c x).writes = s.writes := rfl
@[simp] theorem setCell_poison (s : State) (c : Nat) (x : Cell) : (s.setCell c x).poison = s.poison := rfl
@[simp] theorem setCell_soft (s : State) (c : Nat) (x : Cell) : (s.setCell c x).soft = s.soft := rfl
@[simp] theorem setCell_regions (s : State) (c : Nat) (x : Cell) : (s.setCell c x).regions = s.regions := rfl
@[simp] theorem setCell_mgt (s : State) (c : Nat) (x : Cell) : (s.setCell c x).mgt = s.mgt := rfl
@[simp] theorem setCell_out (s : State) (c : Nat) (x : Cell) : (s.setCell c x).out = s.out := rfl
@[simp] theorem setCell_free (s : State) (c : Nat) (x : Cell) : (s.setCell c x).free = s.free := rfl
@[simp] theorem setCell_pending (s : State) (c : Nat) (x : Cell) : (s.setCell c x).pending = s.pending := rfl

@[simp] theorem setSub_regs (s : State) (p k : Nat) (x : SubPort) : (s.setSub p k x).regs = s.regs := rfl
@[simp] theorem setSub_latch (s : State) (p k : Nat) (x : SubPort) : (s.setSub p k x).latch = s.latch := rfl
@[simp] theorem setSub_busy (s : State) (p k : Nat) (x : SubPort) : (s.setSub p k x).busy = s.busy := rfl
@[simp] theorem setSub_recent (s : State) (p k : Nat) (x : SubPort) : (s.setSub p k x).recent = s.recent := rfl
@[simp] theorem setSub_fuse (s : State) (p k : Nat) (x : SubPort) : (s.setSub p k x).fuse = s.fuse := rfl
@[simp] theorem setSub_boot (s : State) (p k : Nat) (x : SubPort) : (s.setSub p k x).boot = s.boot := rfl
@[simp] theorem setSub_flash (s : State) (p k : Nat) (x : SubPort) : (s.setSub p k x).flash = s.flash := rfl
@[simp] theorem setSub_tim (s : State) (p k : Nat) (x : SubPort) : (s.setSub p k x).tim = s.tim := rfl
@[simp] theorem setSub_hif (s : State) (p k : Nat) (x : SubPort) : (s.setSub p k x).hif = s.hif := rfl
@[simp] theorem setSub_log (s : State) (p k : Nat) (x : SubPort) : (s.setSub p k x).log = s.log := rfl
@[simp] theorem setSub_pav (s : State) (p k : Nat) (x : SubPort) : (s.setSub p k x).pav = s.pav := rfl
@[simp] theorem setSub_lanes (s : State) (p k : Nat) (x : SubPort) : (s.setSub p k x).lanes = s.lanes := rfl
@[simp] theorem setSub_lrep (s : State) (p k : Nat) (x : SubPort) : (s.setSub p k x).lrep = s.lrep := rfl
@[simp] theorem setSub_streams (s : State) (p k : Nat) (x : SubPort) : (s.setSub p k x).streams = s.streams := rfl
@[simp] theorem setSub_strCmds (s : State) (p k : Nat) (x : SubPort) : (s.setSub p k x).strCmds = s.strCmds := rfl
@[simp] theorem setSub_pager0 (s : State) (p k : Nat) (x : SubPort) : (s.setSub p k x).pager0 = s.pager0 := rfl
@[simp] theorem setSub_pager1 (s : State) (p k : Nat) (x : SubPort) : (s.setSub p k x).pager1 = s.pager1 := rfl
@[simp] theorem setSub_rte (s : State) (p k : Nat) (x : SubPort) : (s.setSub p k x).rte = s.rte := rfl
@[simp] theorem setSub_sched (s : State) (p k : Nat) (x : SubPort) : (s.setSub p k x).sched = s.sched := rfl
@[simp] theorem setSub_cap (s : State) (p k : Nat) (x : SubPort) : (s.setSub p k x).cap = s.cap := rfl
@[simp] theorem setSub_rpl (s : State) (p k : Nat) (x : SubPort) : (s.setSub p k x).rpl = s.rpl := rfl
@[simp] theorem setSub_digest (s : State) (p k : Nat) (x : SubPort) : (s.setSub p k x).digest = s.digest := rfl
@[simp] theorem setSub_cells (s : State) (p k : Nat) (x : SubPort) : (s.setSub p k x).cells = s.cells := rfl
@[simp] theorem setSub_cel (s : State) (p k : Nat) (x : SubPort) : (s.setSub p k x).cel = s.cel := rfl
@[simp] theorem setSub_groups (s : State) (p k : Nat) (x : SubPort) : (s.setSub p k x).groups = s.groups := rfl
@[simp] theorem setSub_mxu (s : State) (p k : Nat) (x : SubPort) : (s.setSub p k x).mxu = s.mxu := rfl
@[simp] theorem setSub_tokens (s : State) (p k : Nat) (x : SubPort) : (s.setSub p k x).tokens = s.tokens := rfl
@[simp] theorem setSub_pf0 (s : State) (p k : Nat) (x : SubPort) : (s.setSub p k x).pf0 = s.pf0 := rfl
@[simp] theorem setSub_pf1 (s : State) (p k : Nat) (x : SubPort) : (s.setSub p k x).pf1 = s.pf1 := rfl
@[simp] theorem setSub_greq0 (s : State) (p k : Nat) (x : SubPort) : (s.setSub p k x).greq0 = s.greq0 := rfl
@[simp] theorem setSub_greq1 (s : State) (p k : Nat) (x : SubPort) : (s.setSub p k x).greq1 = s.greq1 := rfl
@[simp] theorem setSub_gheld (s : State) (p k : Nat) (x : SubPort) : (s.setSub p k x).gheld = s.gheld := rfl
@[simp] theorem setSub_gtbl (s : State) (p k : Nat) (x : SubPort) : (s.setSub p k x).gtbl = s.gtbl := rfl
@[simp] theorem setSub_gwin (s : State) (p k : Nat) (x : SubPort) : (s.setSub p k x).gwin = s.gwin := rfl
@[simp] theorem setSub_img (s : State) (p k : Nat) (x : SubPort) : (s.setSub p k x).img = s.img := rfl
@[simp] theorem setSub_loading (s : State) (p k : Nat) (x : SubPort) : (s.setSub p k x).loading = s.loading := rfl
@[simp] theorem setSub_mem (s : State) (p k : Nat) (x : SubPort) : (s.setSub p k x).mem = s.mem := rfl
@[simp] theorem setSub_writes (s : State) (p k : Nat) (x : SubPort) : (s.setSub p k x).writes = s.writes := rfl
@[simp] theorem setSub_poison (s : State) (p k : Nat) (x : SubPort) : (s.setSub p k x).poison = s.poison := rfl
@[simp] theorem setSub_soft (s : State) (p k : Nat) (x : SubPort) : (s.setSub p k x).soft = s.soft := rfl
@[simp] theorem setSub_regions (s : State) (p k : Nat) (x : SubPort) : (s.setSub p k x).regions = s.regions := rfl
@[simp] theorem setSub_mgt (s : State) (p k : Nat) (x : SubPort) : (s.setSub p k x).mgt = s.mgt := rfl
@[simp] theorem setSub_out (s : State) (p k : Nat) (x : SubPort) : (s.setSub p k x).out = s.out := rfl
@[simp] theorem setSub_free (s : State) (p k : Nat) (x : SubPort) : (s.setSub p k x).free = s.free := rfl
@[simp] theorem setSub_pending (s : State) (p k : Nat) (x : SubPort) : (s.setSub p k x).pending = s.pending := rfl

@[simp] theorem setLane_regs (s : State) (i : Nat) (x : Lane) : (s.setLane i x).regs = s.regs := rfl
@[simp] theorem setLane_latch (s : State) (i : Nat) (x : Lane) : (s.setLane i x).latch = s.latch := rfl
@[simp] theorem setLane_busy (s : State) (i : Nat) (x : Lane) : (s.setLane i x).busy = s.busy := rfl
@[simp] theorem setLane_recent (s : State) (i : Nat) (x : Lane) : (s.setLane i x).recent = s.recent := rfl
@[simp] theorem setLane_fuse (s : State) (i : Nat) (x : Lane) : (s.setLane i x).fuse = s.fuse := rfl
@[simp] theorem setLane_boot (s : State) (i : Nat) (x : Lane) : (s.setLane i x).boot = s.boot := rfl
@[simp] theorem setLane_flash (s : State) (i : Nat) (x : Lane) : (s.setLane i x).flash = s.flash := rfl
@[simp] theorem setLane_tim (s : State) (i : Nat) (x : Lane) : (s.setLane i x).tim = s.tim := rfl
@[simp] theorem setLane_hif (s : State) (i : Nat) (x : Lane) : (s.setLane i x).hif = s.hif := rfl
@[simp] theorem setLane_log (s : State) (i : Nat) (x : Lane) : (s.setLane i x).log = s.log := rfl
@[simp] theorem setLane_pav (s : State) (i : Nat) (x : Lane) : (s.setLane i x).pav = s.pav := rfl
@[simp] theorem setLane_subs (s : State) (i : Nat) (x : Lane) : (s.setLane i x).subs = s.subs := rfl
@[simp] theorem setLane_lrep (s : State) (i : Nat) (x : Lane) : (s.setLane i x).lrep = s.lrep := rfl
@[simp] theorem setLane_streams (s : State) (i : Nat) (x : Lane) : (s.setLane i x).streams = s.streams := rfl
@[simp] theorem setLane_strCmds (s : State) (i : Nat) (x : Lane) : (s.setLane i x).strCmds = s.strCmds := rfl
@[simp] theorem setLane_pager0 (s : State) (i : Nat) (x : Lane) : (s.setLane i x).pager0 = s.pager0 := rfl
@[simp] theorem setLane_pager1 (s : State) (i : Nat) (x : Lane) : (s.setLane i x).pager1 = s.pager1 := rfl
@[simp] theorem setLane_rte (s : State) (i : Nat) (x : Lane) : (s.setLane i x).rte = s.rte := rfl
@[simp] theorem setLane_sched (s : State) (i : Nat) (x : Lane) : (s.setLane i x).sched = s.sched := rfl
@[simp] theorem setLane_cap (s : State) (i : Nat) (x : Lane) : (s.setLane i x).cap = s.cap := rfl
@[simp] theorem setLane_rpl (s : State) (i : Nat) (x : Lane) : (s.setLane i x).rpl = s.rpl := rfl
@[simp] theorem setLane_digest (s : State) (i : Nat) (x : Lane) : (s.setLane i x).digest = s.digest := rfl
@[simp] theorem setLane_cells (s : State) (i : Nat) (x : Lane) : (s.setLane i x).cells = s.cells := rfl
@[simp] theorem setLane_cel (s : State) (i : Nat) (x : Lane) : (s.setLane i x).cel = s.cel := rfl
@[simp] theorem setLane_groups (s : State) (i : Nat) (x : Lane) : (s.setLane i x).groups = s.groups := rfl
@[simp] theorem setLane_mxu (s : State) (i : Nat) (x : Lane) : (s.setLane i x).mxu = s.mxu := rfl
@[simp] theorem setLane_tokens (s : State) (i : Nat) (x : Lane) : (s.setLane i x).tokens = s.tokens := rfl
@[simp] theorem setLane_pf0 (s : State) (i : Nat) (x : Lane) : (s.setLane i x).pf0 = s.pf0 := rfl
@[simp] theorem setLane_pf1 (s : State) (i : Nat) (x : Lane) : (s.setLane i x).pf1 = s.pf1 := rfl
@[simp] theorem setLane_greq0 (s : State) (i : Nat) (x : Lane) : (s.setLane i x).greq0 = s.greq0 := rfl
@[simp] theorem setLane_greq1 (s : State) (i : Nat) (x : Lane) : (s.setLane i x).greq1 = s.greq1 := rfl
@[simp] theorem setLane_gheld (s : State) (i : Nat) (x : Lane) : (s.setLane i x).gheld = s.gheld := rfl
@[simp] theorem setLane_gtbl (s : State) (i : Nat) (x : Lane) : (s.setLane i x).gtbl = s.gtbl := rfl
@[simp] theorem setLane_gwin (s : State) (i : Nat) (x : Lane) : (s.setLane i x).gwin = s.gwin := rfl
@[simp] theorem setLane_img (s : State) (i : Nat) (x : Lane) : (s.setLane i x).img = s.img := rfl
@[simp] theorem setLane_loading (s : State) (i : Nat) (x : Lane) : (s.setLane i x).loading = s.loading := rfl
@[simp] theorem setLane_mem (s : State) (i : Nat) (x : Lane) : (s.setLane i x).mem = s.mem := rfl
@[simp] theorem setLane_writes (s : State) (i : Nat) (x : Lane) : (s.setLane i x).writes = s.writes := rfl
@[simp] theorem setLane_poison (s : State) (i : Nat) (x : Lane) : (s.setLane i x).poison = s.poison := rfl
@[simp] theorem setLane_soft (s : State) (i : Nat) (x : Lane) : (s.setLane i x).soft = s.soft := rfl
@[simp] theorem setLane_regions (s : State) (i : Nat) (x : Lane) : (s.setLane i x).regions = s.regions := rfl
@[simp] theorem setLane_mgt (s : State) (i : Nat) (x : Lane) : (s.setLane i x).mgt = s.mgt := rfl
@[simp] theorem setLane_out (s : State) (i : Nat) (x : Lane) : (s.setLane i x).out = s.out := rfl
@[simp] theorem setLane_free (s : State) (i : Nat) (x : Lane) : (s.setLane i x).free = s.free := rfl
@[simp] theorem setLane_pending (s : State) (i : Nat) (x : Lane) : (s.setLane i x).pending = s.pending := rfl

@[simp] theorem setStream_regs (s : State) (i : Nat) (x : Stream) : (s.setStream i x).regs = s.regs := rfl
@[simp] theorem setStream_latch (s : State) (i : Nat) (x : Stream) : (s.setStream i x).latch = s.latch := rfl
@[simp] theorem setStream_busy (s : State) (i : Nat) (x : Stream) : (s.setStream i x).busy = s.busy := rfl
@[simp] theorem setStream_recent (s : State) (i : Nat) (x : Stream) : (s.setStream i x).recent = s.recent := rfl
@[simp] theorem setStream_fuse (s : State) (i : Nat) (x : Stream) : (s.setStream i x).fuse = s.fuse := rfl
@[simp] theorem setStream_boot (s : State) (i : Nat) (x : Stream) : (s.setStream i x).boot = s.boot := rfl
@[simp] theorem setStream_flash (s : State) (i : Nat) (x : Stream) : (s.setStream i x).flash = s.flash := rfl
@[simp] theorem setStream_tim (s : State) (i : Nat) (x : Stream) : (s.setStream i x).tim = s.tim := rfl
@[simp] theorem setStream_hif (s : State) (i : Nat) (x : Stream) : (s.setStream i x).hif = s.hif := rfl
@[simp] theorem setStream_log (s : State) (i : Nat) (x : Stream) : (s.setStream i x).log = s.log := rfl
@[simp] theorem setStream_pav (s : State) (i : Nat) (x : Stream) : (s.setStream i x).pav = s.pav := rfl
@[simp] theorem setStream_subs (s : State) (i : Nat) (x : Stream) : (s.setStream i x).subs = s.subs := rfl
@[simp] theorem setStream_lanes (s : State) (i : Nat) (x : Stream) : (s.setStream i x).lanes = s.lanes := rfl
@[simp] theorem setStream_lrep (s : State) (i : Nat) (x : Stream) : (s.setStream i x).lrep = s.lrep := rfl
@[simp] theorem setStream_strCmds (s : State) (i : Nat) (x : Stream) : (s.setStream i x).strCmds = s.strCmds := rfl
@[simp] theorem setStream_pager0 (s : State) (i : Nat) (x : Stream) : (s.setStream i x).pager0 = s.pager0 := rfl
@[simp] theorem setStream_pager1 (s : State) (i : Nat) (x : Stream) : (s.setStream i x).pager1 = s.pager1 := rfl
@[simp] theorem setStream_rte (s : State) (i : Nat) (x : Stream) : (s.setStream i x).rte = s.rte := rfl
@[simp] theorem setStream_sched (s : State) (i : Nat) (x : Stream) : (s.setStream i x).sched = s.sched := rfl
@[simp] theorem setStream_cap (s : State) (i : Nat) (x : Stream) : (s.setStream i x).cap = s.cap := rfl
@[simp] theorem setStream_rpl (s : State) (i : Nat) (x : Stream) : (s.setStream i x).rpl = s.rpl := rfl
@[simp] theorem setStream_digest (s : State) (i : Nat) (x : Stream) : (s.setStream i x).digest = s.digest := rfl
@[simp] theorem setStream_cells (s : State) (i : Nat) (x : Stream) : (s.setStream i x).cells = s.cells := rfl
@[simp] theorem setStream_cel (s : State) (i : Nat) (x : Stream) : (s.setStream i x).cel = s.cel := rfl
@[simp] theorem setStream_groups (s : State) (i : Nat) (x : Stream) : (s.setStream i x).groups = s.groups := rfl
@[simp] theorem setStream_mxu (s : State) (i : Nat) (x : Stream) : (s.setStream i x).mxu = s.mxu := rfl
@[simp] theorem setStream_tokens (s : State) (i : Nat) (x : Stream) : (s.setStream i x).tokens = s.tokens := rfl
@[simp] theorem setStream_pf0 (s : State) (i : Nat) (x : Stream) : (s.setStream i x).pf0 = s.pf0 := rfl
@[simp] theorem setStream_pf1 (s : State) (i : Nat) (x : Stream) : (s.setStream i x).pf1 = s.pf1 := rfl
@[simp] theorem setStream_greq0 (s : State) (i : Nat) (x : Stream) : (s.setStream i x).greq0 = s.greq0 := rfl
@[simp] theorem setStream_greq1 (s : State) (i : Nat) (x : Stream) : (s.setStream i x).greq1 = s.greq1 := rfl
@[simp] theorem setStream_gheld (s : State) (i : Nat) (x : Stream) : (s.setStream i x).gheld = s.gheld := rfl
@[simp] theorem setStream_gtbl (s : State) (i : Nat) (x : Stream) : (s.setStream i x).gtbl = s.gtbl := rfl
@[simp] theorem setStream_gwin (s : State) (i : Nat) (x : Stream) : (s.setStream i x).gwin = s.gwin := rfl
@[simp] theorem setStream_img (s : State) (i : Nat) (x : Stream) : (s.setStream i x).img = s.img := rfl
@[simp] theorem setStream_loading (s : State) (i : Nat) (x : Stream) : (s.setStream i x).loading = s.loading := rfl
@[simp] theorem setStream_mem (s : State) (i : Nat) (x : Stream) : (s.setStream i x).mem = s.mem := rfl
@[simp] theorem setStream_writes (s : State) (i : Nat) (x : Stream) : (s.setStream i x).writes = s.writes := rfl
@[simp] theorem setStream_poison (s : State) (i : Nat) (x : Stream) : (s.setStream i x).poison = s.poison := rfl
@[simp] theorem setStream_soft (s : State) (i : Nat) (x : Stream) : (s.setStream i x).soft = s.soft := rfl
@[simp] theorem setStream_regions (s : State) (i : Nat) (x : Stream) : (s.setStream i x).regions = s.regions := rfl
@[simp] theorem setStream_mgt (s : State) (i : Nat) (x : Stream) : (s.setStream i x).mgt = s.mgt := rfl
@[simp] theorem setStream_out (s : State) (i : Nat) (x : Stream) : (s.setStream i x).out = s.out := rfl
@[simp] theorem setStream_free (s : State) (i : Nat) (x : Stream) : (s.setStream i x).free = s.free := rfl
@[simp] theorem setStream_pending (s : State) (i : Nat) (x : Stream) : (s.setStream i x).pending = s.pending := rfl

@[simp] theorem setEgr_regs (s : State) (e : Nat) (x : Egress) : (s.setEgr e x).regs = s.regs := rfl
@[simp] theorem setEgr_latch (s : State) (e : Nat) (x : Egress) : (s.setEgr e x).latch = s.latch := rfl
@[simp] theorem setEgr_busy (s : State) (e : Nat) (x : Egress) : (s.setEgr e x).busy = s.busy := rfl
@[simp] theorem setEgr_recent (s : State) (e : Nat) (x : Egress) : (s.setEgr e x).recent = s.recent := rfl
@[simp] theorem setEgr_fuse (s : State) (e : Nat) (x : Egress) : (s.setEgr e x).fuse = s.fuse := rfl
@[simp] theorem setEgr_boot (s : State) (e : Nat) (x : Egress) : (s.setEgr e x).boot = s.boot := rfl
@[simp] theorem setEgr_flash (s : State) (e : Nat) (x : Egress) : (s.setEgr e x).flash = s.flash := rfl
@[simp] theorem setEgr_tim (s : State) (e : Nat) (x : Egress) : (s.setEgr e x).tim = s.tim := rfl
@[simp] theorem setEgr_hif (s : State) (e : Nat) (x : Egress) : (s.setEgr e x).hif = s.hif := rfl
@[simp] theorem setEgr_log (s : State) (e : Nat) (x : Egress) : (s.setEgr e x).log = s.log := rfl
@[simp] theorem setEgr_pav (s : State) (e : Nat) (x : Egress) : (s.setEgr e x).pav = s.pav := rfl
@[simp] theorem setEgr_subs (s : State) (e : Nat) (x : Egress) : (s.setEgr e x).subs = s.subs := rfl
@[simp] theorem setEgr_lanes (s : State) (e : Nat) (x : Egress) : (s.setEgr e x).lanes = s.lanes := rfl
@[simp] theorem setEgr_lrep (s : State) (e : Nat) (x : Egress) : (s.setEgr e x).lrep = s.lrep := rfl
@[simp] theorem setEgr_streams (s : State) (e : Nat) (x : Egress) : (s.setEgr e x).streams = s.streams := rfl
@[simp] theorem setEgr_strCmds (s : State) (e : Nat) (x : Egress) : (s.setEgr e x).strCmds = s.strCmds := rfl
@[simp] theorem setEgr_pager0 (s : State) (e : Nat) (x : Egress) : (s.setEgr e x).pager0 = s.pager0 := rfl
@[simp] theorem setEgr_pager1 (s : State) (e : Nat) (x : Egress) : (s.setEgr e x).pager1 = s.pager1 := rfl
@[simp] theorem setEgr_sched (s : State) (e : Nat) (x : Egress) : (s.setEgr e x).sched = s.sched := rfl
@[simp] theorem setEgr_cap (s : State) (e : Nat) (x : Egress) : (s.setEgr e x).cap = s.cap := rfl
@[simp] theorem setEgr_rpl (s : State) (e : Nat) (x : Egress) : (s.setEgr e x).rpl = s.rpl := rfl
@[simp] theorem setEgr_digest (s : State) (e : Nat) (x : Egress) : (s.setEgr e x).digest = s.digest := rfl
@[simp] theorem setEgr_cells (s : State) (e : Nat) (x : Egress) : (s.setEgr e x).cells = s.cells := rfl
@[simp] theorem setEgr_cel (s : State) (e : Nat) (x : Egress) : (s.setEgr e x).cel = s.cel := rfl
@[simp] theorem setEgr_groups (s : State) (e : Nat) (x : Egress) : (s.setEgr e x).groups = s.groups := rfl
@[simp] theorem setEgr_mxu (s : State) (e : Nat) (x : Egress) : (s.setEgr e x).mxu = s.mxu := rfl
@[simp] theorem setEgr_tokens (s : State) (e : Nat) (x : Egress) : (s.setEgr e x).tokens = s.tokens := rfl
@[simp] theorem setEgr_pf0 (s : State) (e : Nat) (x : Egress) : (s.setEgr e x).pf0 = s.pf0 := rfl
@[simp] theorem setEgr_pf1 (s : State) (e : Nat) (x : Egress) : (s.setEgr e x).pf1 = s.pf1 := rfl
@[simp] theorem setEgr_greq0 (s : State) (e : Nat) (x : Egress) : (s.setEgr e x).greq0 = s.greq0 := rfl
@[simp] theorem setEgr_greq1 (s : State) (e : Nat) (x : Egress) : (s.setEgr e x).greq1 = s.greq1 := rfl
@[simp] theorem setEgr_gheld (s : State) (e : Nat) (x : Egress) : (s.setEgr e x).gheld = s.gheld := rfl
@[simp] theorem setEgr_gtbl (s : State) (e : Nat) (x : Egress) : (s.setEgr e x).gtbl = s.gtbl := rfl
@[simp] theorem setEgr_gwin (s : State) (e : Nat) (x : Egress) : (s.setEgr e x).gwin = s.gwin := rfl
@[simp] theorem setEgr_img (s : State) (e : Nat) (x : Egress) : (s.setEgr e x).img = s.img := rfl
@[simp] theorem setEgr_loading (s : State) (e : Nat) (x : Egress) : (s.setEgr e x).loading = s.loading := rfl
@[simp] theorem setEgr_mem (s : State) (e : Nat) (x : Egress) : (s.setEgr e x).mem = s.mem := rfl
@[simp] theorem setEgr_writes (s : State) (e : Nat) (x : Egress) : (s.setEgr e x).writes = s.writes := rfl
@[simp] theorem setEgr_poison (s : State) (e : Nat) (x : Egress) : (s.setEgr e x).poison = s.poison := rfl
@[simp] theorem setEgr_soft (s : State) (e : Nat) (x : Egress) : (s.setEgr e x).soft = s.soft := rfl
@[simp] theorem setEgr_regions (s : State) (e : Nat) (x : Egress) : (s.setEgr e x).regions = s.regions := rfl
@[simp] theorem setEgr_mgt (s : State) (e : Nat) (x : Egress) : (s.setEgr e x).mgt = s.mgt := rfl
@[simp] theorem setEgr_out (s : State) (e : Nat) (x : Egress) : (s.setEgr e x).out = s.out := rfl
@[simp] theorem setEgr_free (s : State) (e : Nat) (x : Egress) : (s.setEgr e x).free = s.free := rfl
@[simp] theorem setEgr_pending (s : State) (e : Nat) (x : Egress) : (s.setEgr e x).pending = s.pending := rfl

@[simp] theorem setMx_regs (s : State) (u : Nat) (x : Mxu) : (s.setMx u x).regs = s.regs := rfl
@[simp] theorem setMx_latch (s : State) (u : Nat) (x : Mxu) : (s.setMx u x).latch = s.latch := rfl
@[simp] theorem setMx_busy (s : State) (u : Nat) (x : Mxu) : (s.setMx u x).busy = s.busy := rfl
@[simp] theorem setMx_recent (s : State) (u : Nat) (x : Mxu) : (s.setMx u x).recent = s.recent := rfl
@[simp] theorem setMx_fuse (s : State) (u : Nat) (x : Mxu) : (s.setMx u x).fuse = s.fuse := rfl
@[simp] theorem setMx_boot (s : State) (u : Nat) (x : Mxu) : (s.setMx u x).boot = s.boot := rfl
@[simp] theorem setMx_flash (s : State) (u : Nat) (x : Mxu) : (s.setMx u x).flash = s.flash := rfl
@[simp] theorem setMx_tim (s : State) (u : Nat) (x : Mxu) : (s.setMx u x).tim = s.tim := rfl
@[simp] theorem setMx_hif (s : State) (u : Nat) (x : Mxu) : (s.setMx u x).hif = s.hif := rfl
@[simp] theorem setMx_log (s : State) (u : Nat) (x : Mxu) : (s.setMx u x).log = s.log := rfl
@[simp] theorem setMx_pav (s : State) (u : Nat) (x : Mxu) : (s.setMx u x).pav = s.pav := rfl
@[simp] theorem setMx_subs (s : State) (u : Nat) (x : Mxu) : (s.setMx u x).subs = s.subs := rfl
@[simp] theorem setMx_lanes (s : State) (u : Nat) (x : Mxu) : (s.setMx u x).lanes = s.lanes := rfl
@[simp] theorem setMx_lrep (s : State) (u : Nat) (x : Mxu) : (s.setMx u x).lrep = s.lrep := rfl
@[simp] theorem setMx_streams (s : State) (u : Nat) (x : Mxu) : (s.setMx u x).streams = s.streams := rfl
@[simp] theorem setMx_strCmds (s : State) (u : Nat) (x : Mxu) : (s.setMx u x).strCmds = s.strCmds := rfl
@[simp] theorem setMx_pager0 (s : State) (u : Nat) (x : Mxu) : (s.setMx u x).pager0 = s.pager0 := rfl
@[simp] theorem setMx_pager1 (s : State) (u : Nat) (x : Mxu) : (s.setMx u x).pager1 = s.pager1 := rfl
@[simp] theorem setMx_rte (s : State) (u : Nat) (x : Mxu) : (s.setMx u x).rte = s.rte := rfl
@[simp] theorem setMx_sched (s : State) (u : Nat) (x : Mxu) : (s.setMx u x).sched = s.sched := rfl
@[simp] theorem setMx_cap (s : State) (u : Nat) (x : Mxu) : (s.setMx u x).cap = s.cap := rfl
@[simp] theorem setMx_rpl (s : State) (u : Nat) (x : Mxu) : (s.setMx u x).rpl = s.rpl := rfl
@[simp] theorem setMx_digest (s : State) (u : Nat) (x : Mxu) : (s.setMx u x).digest = s.digest := rfl
@[simp] theorem setMx_cells (s : State) (u : Nat) (x : Mxu) : (s.setMx u x).cells = s.cells := rfl
@[simp] theorem setMx_cel (s : State) (u : Nat) (x : Mxu) : (s.setMx u x).cel = s.cel := rfl
@[simp] theorem setMx_groups (s : State) (u : Nat) (x : Mxu) : (s.setMx u x).groups = s.groups := rfl
@[simp] theorem setMx_tokens (s : State) (u : Nat) (x : Mxu) : (s.setMx u x).tokens = s.tokens := rfl
@[simp] theorem setMx_pf0 (s : State) (u : Nat) (x : Mxu) : (s.setMx u x).pf0 = s.pf0 := rfl
@[simp] theorem setMx_pf1 (s : State) (u : Nat) (x : Mxu) : (s.setMx u x).pf1 = s.pf1 := rfl
@[simp] theorem setMx_greq0 (s : State) (u : Nat) (x : Mxu) : (s.setMx u x).greq0 = s.greq0 := rfl
@[simp] theorem setMx_greq1 (s : State) (u : Nat) (x : Mxu) : (s.setMx u x).greq1 = s.greq1 := rfl
@[simp] theorem setMx_gheld (s : State) (u : Nat) (x : Mxu) : (s.setMx u x).gheld = s.gheld := rfl
@[simp] theorem setMx_gtbl (s : State) (u : Nat) (x : Mxu) : (s.setMx u x).gtbl = s.gtbl := rfl
@[simp] theorem setMx_gwin (s : State) (u : Nat) (x : Mxu) : (s.setMx u x).gwin = s.gwin := rfl
@[simp] theorem setMx_img (s : State) (u : Nat) (x : Mxu) : (s.setMx u x).img = s.img := rfl
@[simp] theorem setMx_loading (s : State) (u : Nat) (x : Mxu) : (s.setMx u x).loading = s.loading := rfl
@[simp] theorem setMx_mem (s : State) (u : Nat) (x : Mxu) : (s.setMx u x).mem = s.mem := rfl
@[simp] theorem setMx_writes (s : State) (u : Nat) (x : Mxu) : (s.setMx u x).writes = s.writes := rfl
@[simp] theorem setMx_poison (s : State) (u : Nat) (x : Mxu) : (s.setMx u x).poison = s.poison := rfl
@[simp] theorem setMx_soft (s : State) (u : Nat) (x : Mxu) : (s.setMx u x).soft = s.soft := rfl
@[simp] theorem setMx_regions (s : State) (u : Nat) (x : Mxu) : (s.setMx u x).regions = s.regions := rfl
@[simp] theorem setMx_mgt (s : State) (u : Nat) (x : Mxu) : (s.setMx u x).mgt = s.mgt := rfl
@[simp] theorem setMx_out (s : State) (u : Nat) (x : Mxu) : (s.setMx u x).out = s.out := rfl
@[simp] theorem setMx_free (s : State) (u : Nat) (x : Mxu) : (s.setMx u x).free = s.free := rfl
@[simp] theorem setMx_pending (s : State) (u : Nat) (x : Mxu) : (s.setMx u x).pending = s.pending := rfl

@[simp] theorem setRun_regs (s : State) (r : Run) : (s.setRun r).regs = s.regs := rfl
@[simp] theorem setRun_latch (s : State) (r : Run) : (s.setRun r).latch = s.latch := rfl
@[simp] theorem setRun_busy (s : State) (r : Run) : (s.setRun r).busy = s.busy := rfl
@[simp] theorem setRun_recent (s : State) (r : Run) : (s.setRun r).recent = s.recent := rfl
@[simp] theorem setRun_fuse (s : State) (r : Run) : (s.setRun r).fuse = s.fuse := rfl
@[simp] theorem setRun_boot (s : State) (r : Run) : (s.setRun r).boot = s.boot := rfl
@[simp] theorem setRun_flash (s : State) (r : Run) : (s.setRun r).flash = s.flash := rfl
@[simp] theorem setRun_tim (s : State) (r : Run) : (s.setRun r).tim = s.tim := rfl
@[simp] theorem setRun_hif (s : State) (r : Run) : (s.setRun r).hif = s.hif := rfl
@[simp] theorem setRun_log (s : State) (r : Run) : (s.setRun r).log = s.log := rfl
@[simp] theorem setRun_pav (s : State) (r : Run) : (s.setRun r).pav = s.pav := rfl
@[simp] theorem setRun_subs (s : State) (r : Run) : (s.setRun r).subs = s.subs := rfl
@[simp] theorem setRun_lanes (s : State) (r : Run) : (s.setRun r).lanes = s.lanes := rfl
@[simp] theorem setRun_lrep (s : State) (r : Run) : (s.setRun r).lrep = s.lrep := rfl
@[simp] theorem setRun_streams (s : State) (r : Run) : (s.setRun r).streams = s.streams := rfl
@[simp] theorem setRun_strCmds (s : State) (r : Run) : (s.setRun r).strCmds = s.strCmds := rfl
@[simp] theorem setRun_pager0 (s : State) (r : Run) : (s.setRun r).pager0 = s.pager0 := rfl
@[simp] theorem setRun_pager1 (s : State) (r : Run) : (s.setRun r).pager1 = s.pager1 := rfl
@[simp] theorem setRun_rte (s : State) (r : Run) : (s.setRun r).rte = s.rte := rfl
@[simp] theorem setRun_sched (s : State) (r : Run) : (s.setRun r).sched = s.sched := rfl
@[simp] theorem setRun_cap (s : State) (r : Run) : (s.setRun r).cap = s.cap := rfl
@[simp] theorem setRun_rpl (s : State) (r : Run) : (s.setRun r).rpl = s.rpl := rfl
@[simp] theorem setRun_digest (s : State) (r : Run) : (s.setRun r).digest = s.digest := rfl
@[simp] theorem setRun_cells (s : State) (r : Run) : (s.setRun r).cells = s.cells := rfl
@[simp] theorem setRun_groups (s : State) (r : Run) : (s.setRun r).groups = s.groups := rfl
@[simp] theorem setRun_mxu (s : State) (r : Run) : (s.setRun r).mxu = s.mxu := rfl
@[simp] theorem setRun_tokens (s : State) (r : Run) : (s.setRun r).tokens = s.tokens := rfl
@[simp] theorem setRun_pf0 (s : State) (r : Run) : (s.setRun r).pf0 = s.pf0 := rfl
@[simp] theorem setRun_pf1 (s : State) (r : Run) : (s.setRun r).pf1 = s.pf1 := rfl
@[simp] theorem setRun_greq0 (s : State) (r : Run) : (s.setRun r).greq0 = s.greq0 := rfl
@[simp] theorem setRun_greq1 (s : State) (r : Run) : (s.setRun r).greq1 = s.greq1 := rfl
@[simp] theorem setRun_gheld (s : State) (r : Run) : (s.setRun r).gheld = s.gheld := rfl
@[simp] theorem setRun_gtbl (s : State) (r : Run) : (s.setRun r).gtbl = s.gtbl := rfl
@[simp] theorem setRun_gwin (s : State) (r : Run) : (s.setRun r).gwin = s.gwin := rfl
@[simp] theorem setRun_img (s : State) (r : Run) : (s.setRun r).img = s.img := rfl
@[simp] theorem setRun_loading (s : State) (r : Run) : (s.setRun r).loading = s.loading := rfl
@[simp] theorem setRun_mem (s : State) (r : Run) : (s.setRun r).mem = s.mem := rfl
@[simp] theorem setRun_writes (s : State) (r : Run) : (s.setRun r).writes = s.writes := rfl
@[simp] theorem setRun_poison (s : State) (r : Run) : (s.setRun r).poison = s.poison := rfl
@[simp] theorem setRun_soft (s : State) (r : Run) : (s.setRun r).soft = s.soft := rfl
@[simp] theorem setRun_regions (s : State) (r : Run) : (s.setRun r).regions = s.regions := rfl
@[simp] theorem setRun_mgt (s : State) (r : Run) : (s.setRun r).mgt = s.mgt := rfl
@[simp] theorem setRun_out (s : State) (r : Run) : (s.setRun r).out = s.out := rfl
@[simp] theorem setRun_free (s : State) (r : Run) : (s.setRun r).free = s.free := rfl
@[simp] theorem setRun_pending (s : State) (r : Run) : (s.setRun r).pending = s.pending := rfl

@[simp] theorem setGrp_regs (s : State) (g : Nat) (x : Group) : (s.setGrp g x).regs = s.regs := rfl
@[simp] theorem setGrp_latch (s : State) (g : Nat) (x : Group) : (s.setGrp g x).latch = s.latch := rfl
@[simp] theorem setGrp_busy (s : State) (g : Nat) (x : Group) : (s.setGrp g x).busy = s.busy := rfl
@[simp] theorem setGrp_recent (s : State) (g : Nat) (x : Group) : (s.setGrp g x).recent = s.recent := rfl
@[simp] theorem setGrp_fuse (s : State) (g : Nat) (x : Group) : (s.setGrp g x).fuse = s.fuse := rfl
@[simp] theorem setGrp_boot (s : State) (g : Nat) (x : Group) : (s.setGrp g x).boot = s.boot := rfl
@[simp] theorem setGrp_flash (s : State) (g : Nat) (x : Group) : (s.setGrp g x).flash = s.flash := rfl
@[simp] theorem setGrp_tim (s : State) (g : Nat) (x : Group) : (s.setGrp g x).tim = s.tim := rfl
@[simp] theorem setGrp_hif (s : State) (g : Nat) (x : Group) : (s.setGrp g x).hif = s.hif := rfl
@[simp] theorem setGrp_log (s : State) (g : Nat) (x : Group) : (s.setGrp g x).log = s.log := rfl
@[simp] theorem setGrp_pav (s : State) (g : Nat) (x : Group) : (s.setGrp g x).pav = s.pav := rfl
@[simp] theorem setGrp_subs (s : State) (g : Nat) (x : Group) : (s.setGrp g x).subs = s.subs := rfl
@[simp] theorem setGrp_lanes (s : State) (g : Nat) (x : Group) : (s.setGrp g x).lanes = s.lanes := rfl
@[simp] theorem setGrp_lrep (s : State) (g : Nat) (x : Group) : (s.setGrp g x).lrep = s.lrep := rfl
@[simp] theorem setGrp_streams (s : State) (g : Nat) (x : Group) : (s.setGrp g x).streams = s.streams := rfl
@[simp] theorem setGrp_strCmds (s : State) (g : Nat) (x : Group) : (s.setGrp g x).strCmds = s.strCmds := rfl
@[simp] theorem setGrp_pager0 (s : State) (g : Nat) (x : Group) : (s.setGrp g x).pager0 = s.pager0 := rfl
@[simp] theorem setGrp_pager1 (s : State) (g : Nat) (x : Group) : (s.setGrp g x).pager1 = s.pager1 := rfl
@[simp] theorem setGrp_rte (s : State) (g : Nat) (x : Group) : (s.setGrp g x).rte = s.rte := rfl
@[simp] theorem setGrp_sched (s : State) (g : Nat) (x : Group) : (s.setGrp g x).sched = s.sched := rfl
@[simp] theorem setGrp_cap (s : State) (g : Nat) (x : Group) : (s.setGrp g x).cap = s.cap := rfl
@[simp] theorem setGrp_rpl (s : State) (g : Nat) (x : Group) : (s.setGrp g x).rpl = s.rpl := rfl
@[simp] theorem setGrp_digest (s : State) (g : Nat) (x : Group) : (s.setGrp g x).digest = s.digest := rfl
@[simp] theorem setGrp_cells (s : State) (g : Nat) (x : Group) : (s.setGrp g x).cells = s.cells := rfl
@[simp] theorem setGrp_cel (s : State) (g : Nat) (x : Group) : (s.setGrp g x).cel = s.cel := rfl
@[simp] theorem setGrp_mxu (s : State) (g : Nat) (x : Group) : (s.setGrp g x).mxu = s.mxu := rfl
@[simp] theorem setGrp_tokens (s : State) (g : Nat) (x : Group) : (s.setGrp g x).tokens = s.tokens := rfl
@[simp] theorem setGrp_pf0 (s : State) (g : Nat) (x : Group) : (s.setGrp g x).pf0 = s.pf0 := rfl
@[simp] theorem setGrp_pf1 (s : State) (g : Nat) (x : Group) : (s.setGrp g x).pf1 = s.pf1 := rfl
@[simp] theorem setGrp_greq0 (s : State) (g : Nat) (x : Group) : (s.setGrp g x).greq0 = s.greq0 := rfl
@[simp] theorem setGrp_greq1 (s : State) (g : Nat) (x : Group) : (s.setGrp g x).greq1 = s.greq1 := rfl
@[simp] theorem setGrp_gheld (s : State) (g : Nat) (x : Group) : (s.setGrp g x).gheld = s.gheld := rfl
@[simp] theorem setGrp_gtbl (s : State) (g : Nat) (x : Group) : (s.setGrp g x).gtbl = s.gtbl := rfl
@[simp] theorem setGrp_gwin (s : State) (g : Nat) (x : Group) : (s.setGrp g x).gwin = s.gwin := rfl
@[simp] theorem setGrp_img (s : State) (g : Nat) (x : Group) : (s.setGrp g x).img = s.img := rfl
@[simp] theorem setGrp_loading (s : State) (g : Nat) (x : Group) : (s.setGrp g x).loading = s.loading := rfl
@[simp] theorem setGrp_mem (s : State) (g : Nat) (x : Group) : (s.setGrp g x).mem = s.mem := rfl
@[simp] theorem setGrp_writes (s : State) (g : Nat) (x : Group) : (s.setGrp g x).writes = s.writes := rfl
@[simp] theorem setGrp_poison (s : State) (g : Nat) (x : Group) : (s.setGrp g x).poison = s.poison := rfl
@[simp] theorem setGrp_soft (s : State) (g : Nat) (x : Group) : (s.setGrp g x).soft = s.soft := rfl
@[simp] theorem setGrp_regions (s : State) (g : Nat) (x : Group) : (s.setGrp g x).regions = s.regions := rfl
@[simp] theorem setGrp_mgt (s : State) (g : Nat) (x : Group) : (s.setGrp g x).mgt = s.mgt := rfl
@[simp] theorem setGrp_out (s : State) (g : Nat) (x : Group) : (s.setGrp g x).out = s.out := rfl
@[simp] theorem setGrp_free (s : State) (g : Nat) (x : Group) : (s.setGrp g x).free = s.free := rfl
@[simp] theorem setGrp_pending (s : State) (g : Nat) (x : Group) : (s.setGrp g x).pending = s.pending := rfl

@[simp] theorem setCq_regs (s : State) (f j : Nat) (c : CqState) : (s.setCq f j c).regs = s.regs := rfl
@[simp] theorem setCq_latch (s : State) (f j : Nat) (c : CqState) : (s.setCq f j c).latch = s.latch := rfl
@[simp] theorem setCq_busy (s : State) (f j : Nat) (c : CqState) : (s.setCq f j c).busy = s.busy := rfl
@[simp] theorem setCq_recent (s : State) (f j : Nat) (c : CqState) : (s.setCq f j c).recent = s.recent := rfl
@[simp] theorem setCq_fuse (s : State) (f j : Nat) (c : CqState) : (s.setCq f j c).fuse = s.fuse := rfl
@[simp] theorem setCq_boot (s : State) (f j : Nat) (c : CqState) : (s.setCq f j c).boot = s.boot := rfl
@[simp] theorem setCq_flash (s : State) (f j : Nat) (c : CqState) : (s.setCq f j c).flash = s.flash := rfl
@[simp] theorem setCq_tim (s : State) (f j : Nat) (c : CqState) : (s.setCq f j c).tim = s.tim := rfl
@[simp] theorem setCq_log (s : State) (f j : Nat) (c : CqState) : (s.setCq f j c).log = s.log := rfl
@[simp] theorem setCq_pav (s : State) (f j : Nat) (c : CqState) : (s.setCq f j c).pav = s.pav := rfl
@[simp] theorem setCq_subs (s : State) (f j : Nat) (c : CqState) : (s.setCq f j c).subs = s.subs := rfl
@[simp] theorem setCq_lanes (s : State) (f j : Nat) (c : CqState) : (s.setCq f j c).lanes = s.lanes := rfl
@[simp] theorem setCq_lrep (s : State) (f j : Nat) (c : CqState) : (s.setCq f j c).lrep = s.lrep := rfl
@[simp] theorem setCq_streams (s : State) (f j : Nat) (c : CqState) : (s.setCq f j c).streams = s.streams := rfl
@[simp] theorem setCq_strCmds (s : State) (f j : Nat) (c : CqState) : (s.setCq f j c).strCmds = s.strCmds := rfl
@[simp] theorem setCq_pager0 (s : State) (f j : Nat) (c : CqState) : (s.setCq f j c).pager0 = s.pager0 := rfl
@[simp] theorem setCq_pager1 (s : State) (f j : Nat) (c : CqState) : (s.setCq f j c).pager1 = s.pager1 := rfl
@[simp] theorem setCq_rte (s : State) (f j : Nat) (c : CqState) : (s.setCq f j c).rte = s.rte := rfl
@[simp] theorem setCq_sched (s : State) (f j : Nat) (c : CqState) : (s.setCq f j c).sched = s.sched := rfl
@[simp] theorem setCq_cap (s : State) (f j : Nat) (c : CqState) : (s.setCq f j c).cap = s.cap := rfl
@[simp] theorem setCq_rpl (s : State) (f j : Nat) (c : CqState) : (s.setCq f j c).rpl = s.rpl := rfl
@[simp] theorem setCq_digest (s : State) (f j : Nat) (c : CqState) : (s.setCq f j c).digest = s.digest := rfl
@[simp] theorem setCq_cells (s : State) (f j : Nat) (c : CqState) : (s.setCq f j c).cells = s.cells := rfl
@[simp] theorem setCq_cel (s : State) (f j : Nat) (c : CqState) : (s.setCq f j c).cel = s.cel := rfl
@[simp] theorem setCq_groups (s : State) (f j : Nat) (c : CqState) : (s.setCq f j c).groups = s.groups := rfl
@[simp] theorem setCq_mxu (s : State) (f j : Nat) (c : CqState) : (s.setCq f j c).mxu = s.mxu := rfl
@[simp] theorem setCq_tokens (s : State) (f j : Nat) (c : CqState) : (s.setCq f j c).tokens = s.tokens := rfl
@[simp] theorem setCq_pf0 (s : State) (f j : Nat) (c : CqState) : (s.setCq f j c).pf0 = s.pf0 := rfl
@[simp] theorem setCq_pf1 (s : State) (f j : Nat) (c : CqState) : (s.setCq f j c).pf1 = s.pf1 := rfl
@[simp] theorem setCq_greq0 (s : State) (f j : Nat) (c : CqState) : (s.setCq f j c).greq0 = s.greq0 := rfl
@[simp] theorem setCq_greq1 (s : State) (f j : Nat) (c : CqState) : (s.setCq f j c).greq1 = s.greq1 := rfl
@[simp] theorem setCq_gheld (s : State) (f j : Nat) (c : CqState) : (s.setCq f j c).gheld = s.gheld := rfl
@[simp] theorem setCq_gtbl (s : State) (f j : Nat) (c : CqState) : (s.setCq f j c).gtbl = s.gtbl := rfl
@[simp] theorem setCq_gwin (s : State) (f j : Nat) (c : CqState) : (s.setCq f j c).gwin = s.gwin := rfl
@[simp] theorem setCq_img (s : State) (f j : Nat) (c : CqState) : (s.setCq f j c).img = s.img := rfl
@[simp] theorem setCq_loading (s : State) (f j : Nat) (c : CqState) : (s.setCq f j c).loading = s.loading := rfl
@[simp] theorem setCq_mem (s : State) (f j : Nat) (c : CqState) : (s.setCq f j c).mem = s.mem := rfl
@[simp] theorem setCq_writes (s : State) (f j : Nat) (c : CqState) : (s.setCq f j c).writes = s.writes := rfl
@[simp] theorem setCq_poison (s : State) (f j : Nat) (c : CqState) : (s.setCq f j c).poison = s.poison := rfl
@[simp] theorem setCq_soft (s : State) (f j : Nat) (c : CqState) : (s.setCq f j c).soft = s.soft := rfl
@[simp] theorem setCq_regions (s : State) (f j : Nat) (c : CqState) : (s.setCq f j c).regions = s.regions := rfl
@[simp] theorem setCq_mgt (s : State) (f j : Nat) (c : CqState) : (s.setCq f j c).mgt = s.mgt := rfl
@[simp] theorem setCq_out (s : State) (f j : Nat) (c : CqState) : (s.setCq f j c).out = s.out := rfl
@[simp] theorem setCq_free (s : State) (f j : Nat) (c : CqState) : (s.setCq f j c).free = s.free := rfl
@[simp] theorem setCq_pending (s : State) (f j : Nat) (c : CqState) : (s.setCq f j c).pending = s.pending := rfl

@[simp] theorem setSq_regs (s : State) (f i : Nat) (q : SqState) : (s.setSq f i q).regs = s.regs := rfl
@[simp] theorem setSq_latch (s : State) (f i : Nat) (q : SqState) : (s.setSq f i q).latch = s.latch := rfl
@[simp] theorem setSq_busy (s : State) (f i : Nat) (q : SqState) : (s.setSq f i q).busy = s.busy := rfl
@[simp] theorem setSq_recent (s : State) (f i : Nat) (q : SqState) : (s.setSq f i q).recent = s.recent := rfl
@[simp] theorem setSq_fuse (s : State) (f i : Nat) (q : SqState) : (s.setSq f i q).fuse = s.fuse := rfl
@[simp] theorem setSq_boot (s : State) (f i : Nat) (q : SqState) : (s.setSq f i q).boot = s.boot := rfl
@[simp] theorem setSq_flash (s : State) (f i : Nat) (q : SqState) : (s.setSq f i q).flash = s.flash := rfl
@[simp] theorem setSq_tim (s : State) (f i : Nat) (q : SqState) : (s.setSq f i q).tim = s.tim := rfl
@[simp] theorem setSq_log (s : State) (f i : Nat) (q : SqState) : (s.setSq f i q).log = s.log := rfl
@[simp] theorem setSq_pav (s : State) (f i : Nat) (q : SqState) : (s.setSq f i q).pav = s.pav := rfl
@[simp] theorem setSq_subs (s : State) (f i : Nat) (q : SqState) : (s.setSq f i q).subs = s.subs := rfl
@[simp] theorem setSq_lanes (s : State) (f i : Nat) (q : SqState) : (s.setSq f i q).lanes = s.lanes := rfl
@[simp] theorem setSq_lrep (s : State) (f i : Nat) (q : SqState) : (s.setSq f i q).lrep = s.lrep := rfl
@[simp] theorem setSq_streams (s : State) (f i : Nat) (q : SqState) : (s.setSq f i q).streams = s.streams := rfl
@[simp] theorem setSq_strCmds (s : State) (f i : Nat) (q : SqState) : (s.setSq f i q).strCmds = s.strCmds := rfl
@[simp] theorem setSq_pager0 (s : State) (f i : Nat) (q : SqState) : (s.setSq f i q).pager0 = s.pager0 := rfl
@[simp] theorem setSq_pager1 (s : State) (f i : Nat) (q : SqState) : (s.setSq f i q).pager1 = s.pager1 := rfl
@[simp] theorem setSq_rte (s : State) (f i : Nat) (q : SqState) : (s.setSq f i q).rte = s.rte := rfl
@[simp] theorem setSq_sched (s : State) (f i : Nat) (q : SqState) : (s.setSq f i q).sched = s.sched := rfl
@[simp] theorem setSq_cap (s : State) (f i : Nat) (q : SqState) : (s.setSq f i q).cap = s.cap := rfl
@[simp] theorem setSq_rpl (s : State) (f i : Nat) (q : SqState) : (s.setSq f i q).rpl = s.rpl := rfl
@[simp] theorem setSq_digest (s : State) (f i : Nat) (q : SqState) : (s.setSq f i q).digest = s.digest := rfl
@[simp] theorem setSq_cells (s : State) (f i : Nat) (q : SqState) : (s.setSq f i q).cells = s.cells := rfl
@[simp] theorem setSq_cel (s : State) (f i : Nat) (q : SqState) : (s.setSq f i q).cel = s.cel := rfl
@[simp] theorem setSq_groups (s : State) (f i : Nat) (q : SqState) : (s.setSq f i q).groups = s.groups := rfl
@[simp] theorem setSq_mxu (s : State) (f i : Nat) (q : SqState) : (s.setSq f i q).mxu = s.mxu := rfl
@[simp] theorem setSq_tokens (s : State) (f i : Nat) (q : SqState) : (s.setSq f i q).tokens = s.tokens := rfl
@[simp] theorem setSq_pf0 (s : State) (f i : Nat) (q : SqState) : (s.setSq f i q).pf0 = s.pf0 := rfl
@[simp] theorem setSq_pf1 (s : State) (f i : Nat) (q : SqState) : (s.setSq f i q).pf1 = s.pf1 := rfl
@[simp] theorem setSq_greq0 (s : State) (f i : Nat) (q : SqState) : (s.setSq f i q).greq0 = s.greq0 := rfl
@[simp] theorem setSq_greq1 (s : State) (f i : Nat) (q : SqState) : (s.setSq f i q).greq1 = s.greq1 := rfl
@[simp] theorem setSq_gheld (s : State) (f i : Nat) (q : SqState) : (s.setSq f i q).gheld = s.gheld := rfl
@[simp] theorem setSq_gtbl (s : State) (f i : Nat) (q : SqState) : (s.setSq f i q).gtbl = s.gtbl := rfl
@[simp] theorem setSq_gwin (s : State) (f i : Nat) (q : SqState) : (s.setSq f i q).gwin = s.gwin := rfl
@[simp] theorem setSq_img (s : State) (f i : Nat) (q : SqState) : (s.setSq f i q).img = s.img := rfl
@[simp] theorem setSq_loading (s : State) (f i : Nat) (q : SqState) : (s.setSq f i q).loading = s.loading := rfl
@[simp] theorem setSq_mem (s : State) (f i : Nat) (q : SqState) : (s.setSq f i q).mem = s.mem := rfl
@[simp] theorem setSq_writes (s : State) (f i : Nat) (q : SqState) : (s.setSq f i q).writes = s.writes := rfl
@[simp] theorem setSq_poison (s : State) (f i : Nat) (q : SqState) : (s.setSq f i q).poison = s.poison := rfl
@[simp] theorem setSq_soft (s : State) (f i : Nat) (q : SqState) : (s.setSq f i q).soft = s.soft := rfl
@[simp] theorem setSq_regions (s : State) (f i : Nat) (q : SqState) : (s.setSq f i q).regions = s.regions := rfl
@[simp] theorem setSq_mgt (s : State) (f i : Nat) (q : SqState) : (s.setSq f i q).mgt = s.mgt := rfl
@[simp] theorem setSq_out (s : State) (f i : Nat) (q : SqState) : (s.setSq f i q).out = s.out := rfl
@[simp] theorem setSq_free (s : State) (f i : Nat) (q : SqState) : (s.setSq f i q).free = s.free := rfl
@[simp] theorem setSq_pending (s : State) (f i : Nat) (q : SqState) : (s.setSq f i q).pending = s.pending := rfl

@[simp] theorem noteSet_regs (s : State) (ev bit : Nat) : (s.noteSet ev bit).regs = s.regs := by
  unfold State.noteSet; split <;> rfl
@[simp] theorem noteSet_latch (s : State) (ev bit : Nat) : (s.noteSet ev bit).latch = s.latch := by
  unfold State.noteSet; split <;> rfl
@[simp] theorem noteSet_busy (s : State) (ev bit : Nat) : (s.noteSet ev bit).busy = s.busy := by
  unfold State.noteSet; split <;> rfl
@[simp] theorem noteSet_fuse (s : State) (ev bit : Nat) : (s.noteSet ev bit).fuse = s.fuse := by
  unfold State.noteSet; split <;> rfl
@[simp] theorem noteSet_boot (s : State) (ev bit : Nat) : (s.noteSet ev bit).boot = s.boot := by
  unfold State.noteSet; split <;> rfl
@[simp] theorem noteSet_flash (s : State) (ev bit : Nat) : (s.noteSet ev bit).flash = s.flash := by
  unfold State.noteSet; split <;> rfl
@[simp] theorem noteSet_tim (s : State) (ev bit : Nat) : (s.noteSet ev bit).tim = s.tim := by
  unfold State.noteSet; split <;> rfl
@[simp] theorem noteSet_hif (s : State) (ev bit : Nat) : (s.noteSet ev bit).hif = s.hif := by
  unfold State.noteSet; split <;> rfl
@[simp] theorem noteSet_log (s : State) (ev bit : Nat) : (s.noteSet ev bit).log = s.log := by
  unfold State.noteSet; split <;> rfl
@[simp] theorem noteSet_pav (s : State) (ev bit : Nat) : (s.noteSet ev bit).pav = s.pav := by
  unfold State.noteSet; split <;> rfl
@[simp] theorem noteSet_subs (s : State) (ev bit : Nat) : (s.noteSet ev bit).subs = s.subs := by
  unfold State.noteSet; split <;> rfl
@[simp] theorem noteSet_lanes (s : State) (ev bit : Nat) : (s.noteSet ev bit).lanes = s.lanes := by
  unfold State.noteSet; split <;> rfl
@[simp] theorem noteSet_lrep (s : State) (ev bit : Nat) : (s.noteSet ev bit).lrep = s.lrep := by
  unfold State.noteSet; split <;> rfl
@[simp] theorem noteSet_streams (s : State) (ev bit : Nat) : (s.noteSet ev bit).streams = s.streams := by
  unfold State.noteSet; split <;> rfl
@[simp] theorem noteSet_strCmds (s : State) (ev bit : Nat) : (s.noteSet ev bit).strCmds = s.strCmds := by
  unfold State.noteSet; split <;> rfl
@[simp] theorem noteSet_pager0 (s : State) (ev bit : Nat) : (s.noteSet ev bit).pager0 = s.pager0 := by
  unfold State.noteSet; split <;> rfl
@[simp] theorem noteSet_pager1 (s : State) (ev bit : Nat) : (s.noteSet ev bit).pager1 = s.pager1 := by
  unfold State.noteSet; split <;> rfl
@[simp] theorem noteSet_rte (s : State) (ev bit : Nat) : (s.noteSet ev bit).rte = s.rte := by
  unfold State.noteSet; split <;> rfl
@[simp] theorem noteSet_sched (s : State) (ev bit : Nat) : (s.noteSet ev bit).sched = s.sched := by
  unfold State.noteSet; split <;> rfl
@[simp] theorem noteSet_cap (s : State) (ev bit : Nat) : (s.noteSet ev bit).cap = s.cap := by
  unfold State.noteSet; split <;> rfl
@[simp] theorem noteSet_rpl (s : State) (ev bit : Nat) : (s.noteSet ev bit).rpl = s.rpl := by
  unfold State.noteSet; split <;> rfl
@[simp] theorem noteSet_digest (s : State) (ev bit : Nat) : (s.noteSet ev bit).digest = s.digest := by
  unfold State.noteSet; split <;> rfl
@[simp] theorem noteSet_cells (s : State) (ev bit : Nat) : (s.noteSet ev bit).cells = s.cells := by
  unfold State.noteSet; split <;> rfl
@[simp] theorem noteSet_cel (s : State) (ev bit : Nat) : (s.noteSet ev bit).cel = s.cel := by
  unfold State.noteSet; split <;> rfl
@[simp] theorem noteSet_groups (s : State) (ev bit : Nat) : (s.noteSet ev bit).groups = s.groups := by
  unfold State.noteSet; split <;> rfl
@[simp] theorem noteSet_mxu (s : State) (ev bit : Nat) : (s.noteSet ev bit).mxu = s.mxu := by
  unfold State.noteSet; split <;> rfl
@[simp] theorem noteSet_tokens (s : State) (ev bit : Nat) : (s.noteSet ev bit).tokens = s.tokens := by
  unfold State.noteSet; split <;> rfl
@[simp] theorem noteSet_pf0 (s : State) (ev bit : Nat) : (s.noteSet ev bit).pf0 = s.pf0 := by
  unfold State.noteSet; split <;> rfl
@[simp] theorem noteSet_pf1 (s : State) (ev bit : Nat) : (s.noteSet ev bit).pf1 = s.pf1 := by
  unfold State.noteSet; split <;> rfl
@[simp] theorem noteSet_greq0 (s : State) (ev bit : Nat) : (s.noteSet ev bit).greq0 = s.greq0 := by
  unfold State.noteSet; split <;> rfl
@[simp] theorem noteSet_greq1 (s : State) (ev bit : Nat) : (s.noteSet ev bit).greq1 = s.greq1 := by
  unfold State.noteSet; split <;> rfl
@[simp] theorem noteSet_gheld (s : State) (ev bit : Nat) : (s.noteSet ev bit).gheld = s.gheld := by
  unfold State.noteSet; split <;> rfl
@[simp] theorem noteSet_gtbl (s : State) (ev bit : Nat) : (s.noteSet ev bit).gtbl = s.gtbl := by
  unfold State.noteSet; split <;> rfl
@[simp] theorem noteSet_gwin (s : State) (ev bit : Nat) : (s.noteSet ev bit).gwin = s.gwin := by
  unfold State.noteSet; split <;> rfl
@[simp] theorem noteSet_img (s : State) (ev bit : Nat) : (s.noteSet ev bit).img = s.img := by
  unfold State.noteSet; split <;> rfl
@[simp] theorem noteSet_loading (s : State) (ev bit : Nat) : (s.noteSet ev bit).loading = s.loading := by
  unfold State.noteSet; split <;> rfl
@[simp] theorem noteSet_mem (s : State) (ev bit : Nat) : (s.noteSet ev bit).mem = s.mem := by
  unfold State.noteSet; split <;> rfl
@[simp] theorem noteSet_writes (s : State) (ev bit : Nat) : (s.noteSet ev bit).writes = s.writes := by
  unfold State.noteSet; split <;> rfl
@[simp] theorem noteSet_poison (s : State) (ev bit : Nat) : (s.noteSet ev bit).poison = s.poison := by
  unfold State.noteSet; split <;> rfl
@[simp] theorem noteSet_soft (s : State) (ev bit : Nat) : (s.noteSet ev bit).soft = s.soft := by
  unfold State.noteSet; split <;> rfl
@[simp] theorem noteSet_regions (s : State) (ev bit : Nat) : (s.noteSet ev bit).regions = s.regions := by
  unfold State.noteSet; split <;> rfl
@[simp] theorem noteSet_mgt (s : State) (ev bit : Nat) : (s.noteSet ev bit).mgt = s.mgt := by
  unfold State.noteSet; split <;> rfl
@[simp] theorem noteSet_out (s : State) (ev bit : Nat) : (s.noteSet ev bit).out = s.out := by
  unfold State.noteSet; split <;> rfl
@[simp] theorem noteSet_free (s : State) (ev bit : Nat) : (s.noteSet ev bit).free = s.free := by
  unfold State.noteSet; split <;> rfl
@[simp] theorem noteSet_pending (s : State) (ev bit : Nat) : (s.noteSet ev bit).pending = s.pending := by
  unfold State.noteSet; split <;> rfl

@[simp] theorem noteSw_regs (s : State) (o : Nat) (v : Word) : (s.noteSw o v).regs = s.regs := rfl
@[simp] theorem noteSw_latch (s : State) (o : Nat) (v : Word) : (s.noteSw o v).latch = s.latch := rfl
@[simp] theorem noteSw_busy (s : State) (o : Nat) (v : Word) : (s.noteSw o v).busy = s.busy := rfl
@[simp] theorem noteSw_fuse (s : State) (o : Nat) (v : Word) : (s.noteSw o v).fuse = s.fuse := rfl
@[simp] theorem noteSw_boot (s : State) (o : Nat) (v : Word) : (s.noteSw o v).boot = s.boot := rfl
@[simp] theorem noteSw_flash (s : State) (o : Nat) (v : Word) : (s.noteSw o v).flash = s.flash := rfl
@[simp] theorem noteSw_tim (s : State) (o : Nat) (v : Word) : (s.noteSw o v).tim = s.tim := rfl
@[simp] theorem noteSw_hif (s : State) (o : Nat) (v : Word) : (s.noteSw o v).hif = s.hif := rfl
@[simp] theorem noteSw_log (s : State) (o : Nat) (v : Word) : (s.noteSw o v).log = s.log := rfl
@[simp] theorem noteSw_pav (s : State) (o : Nat) (v : Word) : (s.noteSw o v).pav = s.pav := rfl
@[simp] theorem noteSw_subs (s : State) (o : Nat) (v : Word) : (s.noteSw o v).subs = s.subs := rfl
@[simp] theorem noteSw_lanes (s : State) (o : Nat) (v : Word) : (s.noteSw o v).lanes = s.lanes := rfl
@[simp] theorem noteSw_lrep (s : State) (o : Nat) (v : Word) : (s.noteSw o v).lrep = s.lrep := rfl
@[simp] theorem noteSw_streams (s : State) (o : Nat) (v : Word) : (s.noteSw o v).streams = s.streams := rfl
@[simp] theorem noteSw_strCmds (s : State) (o : Nat) (v : Word) : (s.noteSw o v).strCmds = s.strCmds := rfl
@[simp] theorem noteSw_pager0 (s : State) (o : Nat) (v : Word) : (s.noteSw o v).pager0 = s.pager0 := rfl
@[simp] theorem noteSw_pager1 (s : State) (o : Nat) (v : Word) : (s.noteSw o v).pager1 = s.pager1 := rfl
@[simp] theorem noteSw_rte (s : State) (o : Nat) (v : Word) : (s.noteSw o v).rte = s.rte := rfl
@[simp] theorem noteSw_sched (s : State) (o : Nat) (v : Word) : (s.noteSw o v).sched = s.sched := rfl
@[simp] theorem noteSw_cap (s : State) (o : Nat) (v : Word) : (s.noteSw o v).cap = s.cap := rfl
@[simp] theorem noteSw_rpl (s : State) (o : Nat) (v : Word) : (s.noteSw o v).rpl = s.rpl := rfl
@[simp] theorem noteSw_digest (s : State) (o : Nat) (v : Word) : (s.noteSw o v).digest = s.digest := rfl
@[simp] theorem noteSw_cells (s : State) (o : Nat) (v : Word) : (s.noteSw o v).cells = s.cells := rfl
@[simp] theorem noteSw_cel (s : State) (o : Nat) (v : Word) : (s.noteSw o v).cel = s.cel := rfl
@[simp] theorem noteSw_groups (s : State) (o : Nat) (v : Word) : (s.noteSw o v).groups = s.groups := rfl
@[simp] theorem noteSw_mxu (s : State) (o : Nat) (v : Word) : (s.noteSw o v).mxu = s.mxu := rfl
@[simp] theorem noteSw_tokens (s : State) (o : Nat) (v : Word) : (s.noteSw o v).tokens = s.tokens := rfl
@[simp] theorem noteSw_pf0 (s : State) (o : Nat) (v : Word) : (s.noteSw o v).pf0 = s.pf0 := rfl
@[simp] theorem noteSw_pf1 (s : State) (o : Nat) (v : Word) : (s.noteSw o v).pf1 = s.pf1 := rfl
@[simp] theorem noteSw_greq0 (s : State) (o : Nat) (v : Word) : (s.noteSw o v).greq0 = s.greq0 := rfl
@[simp] theorem noteSw_greq1 (s : State) (o : Nat) (v : Word) : (s.noteSw o v).greq1 = s.greq1 := rfl
@[simp] theorem noteSw_gheld (s : State) (o : Nat) (v : Word) : (s.noteSw o v).gheld = s.gheld := rfl
@[simp] theorem noteSw_gtbl (s : State) (o : Nat) (v : Word) : (s.noteSw o v).gtbl = s.gtbl := rfl
@[simp] theorem noteSw_gwin (s : State) (o : Nat) (v : Word) : (s.noteSw o v).gwin = s.gwin := rfl
@[simp] theorem noteSw_img (s : State) (o : Nat) (v : Word) : (s.noteSw o v).img = s.img := rfl
@[simp] theorem noteSw_loading (s : State) (o : Nat) (v : Word) : (s.noteSw o v).loading = s.loading := rfl
@[simp] theorem noteSw_mem (s : State) (o : Nat) (v : Word) : (s.noteSw o v).mem = s.mem := rfl
@[simp] theorem noteSw_writes (s : State) (o : Nat) (v : Word) : (s.noteSw o v).writes = s.writes := rfl
@[simp] theorem noteSw_poison (s : State) (o : Nat) (v : Word) : (s.noteSw o v).poison = s.poison := rfl
@[simp] theorem noteSw_soft (s : State) (o : Nat) (v : Word) : (s.noteSw o v).soft = s.soft := rfl
@[simp] theorem noteSw_regions (s : State) (o : Nat) (v : Word) : (s.noteSw o v).regions = s.regions := rfl
@[simp] theorem noteSw_mgt (s : State) (o : Nat) (v : Word) : (s.noteSw o v).mgt = s.mgt := rfl
@[simp] theorem noteSw_out (s : State) (o : Nat) (v : Word) : (s.noteSw o v).out = s.out := rfl
@[simp] theorem noteSw_free (s : State) (o : Nat) (v : Word) : (s.noteSw o v).free = s.free := rfl
@[simp] theorem noteSw_pending (s : State) (o : Nat) (v : Word) : (s.noteSw o v).pending = s.pending := rfl

end Sys2Proof.Machine
end

