-- ==== Sys2Proof/Laws/Cells.lean ====
section
/-! SUPPORT. What a cell instruction that issues does: the issue itself, and the writes of a scalar and a vector register. -/

namespace Sys2Proof.Machine

@[simp] theorem toCyc_cell (s : State) (c k : Nat) : (s.toCyc c).cell k = s.cell k := by
  unfold State.toCyc State.advTo; split <;> rfl

@[simp] theorem toCyc_setCell (s : State) (c k : Nat) (x : Cell) : (s.setCell k x).toCyc c = (s.toCyc c).setCell k x := by
  unfold State.toCyc State.advTo; by_cases h : s.tim.lock <;> simp [h, State.setCell]

@[simp] theorem setCell_setCell (s : State) (k : Nat) (x y : Cell) : (s.setCell k x).setCell k y = s.setCell k y := by
  simp [State.setCell]

/-- An operation that keeps the cells, shown by its masked state. -/
theorem cells_of_mask {G : Fields} {s t : State} (h : t.mask G = s.mask G) (hc : G.cells = false) : t.cells = s.cells := by
  have := congrArg State.cells h
  simpa [State.mask, hc] using this

/-- Correcting single-bit errors leaves the cells alone. -/
@[simp] theorem correct_cells (s : State) (k n : Nat) : (s.correct k n).cells = s.cells :=
  cells_of_mask (State.correct_mask s k n { regs := true, hif := true, mem := true, poison := true, out := true } rfl rfl rfl rfl rfl) rfl

@[simp] theorem correct_cell (s : State) (k n j : Nat) : (s.correct k n).cell j = s.cell j := by
  unfold State.cell; rw [correct_cells]

@[simp] theorem fetched_cell (s : State) (cell c j : Nat) : (s.fetched cell c).cell j = s.cell j := by
  unfold State.fetched; rw [correct_cell, toCyc_cell]

/-- A word without a single-bit error is fetched as it is. -/
theorem fetched_eq (s : State) (cell c : Nat)
    (h : (s.toCyc c).softCount (ibufKey cell (8 * ((s.cell cell).pos % 256))) 8 = 0) : s.fetched cell c = s.toCyc c := by
  unfold State.fetched State.correct; rw [h]; rfl

@[simp] theorem issued_cell (s : State) (cell c : Nat) (i : Ins) :
    (s.issued cell c i).cell cell = { s.cell cell with last := tblSet (s.cell cell).last i.op c } := cell_setCell _ _ _

/-- An instruction that issues has its effect in its cycle. -/
theorem issue_of {s : State} {cell c : Nat} {i : Ins} {r : Run} {rs : List Nat} (h : Issues s cell i r rs c)
    {want : Ins → Bool} {rf : Ins → List Nat} {body : Ins → Run → Nat → State → State} (hw : want i = true) (hr : rf i = rs) :
    s.issue cell want rf body = body i r c (s.issued cell c i) := by
  unfold State.issue
  simp only [h.run, h.ofId, h.on, h.word, h.ins, hw, hr, h.cyc, h.good]
  simp [h.live.1, h.live.2, State.issued, State.fetched]

/-- Going on to the next instruction after an issue. -/
theorem step1_issued (s : State) (cell c : Nat) (i : Ins) : (s.issued cell c i).step1 cell c = s.retired cell c i (s.cell cell) := by
  simp [State.step1, State.retired, State.issued]

/-- A write of a scalar register that a program can write. -/
theorem wrSx_issued (s : State) (cell c : Nat) (i : Ins) (d v l : Nat) (h : sxWritable d) :
    (s.issued cell c i).wrSx cell c d v l = s.retired cell c i
      { s.cell cell with sx := (s.cell cell).sx.set d (BitVec.ofNat 32 v), avail := tblSet (s.cell cell).avail (sxR d) (c + l) } := by
  unfold State.wrSx
  rw [if_neg (by unfold sxWritable at h; omega), if_neg (by unfold sxWritable at h; omega)]
  simp [State.step1, State.retired, State.issued, Cell.wrote, Cell.goTo]

/-- SX0 ignores a write. -/
theorem wrSx_zero (s : State) (cell c : Nat) (i : Ins) (v l : Nat) :
    (s.issued cell c i).wrSx cell c 0 v l = s.retired cell c i (s.cell cell) := by
  unfold State.wrSx
  rw [if_neg (by omega), if_pos rfl, step1_issued]

/-- A write of a read-only scalar register is ILLEGAL. -/
theorem wrSx_readOnly (s : State) (cell c d v l : Nat) (h : sxReadOnly d) : s.wrSx cell c d v l = s.cellFault cell 1 c := by
  unfold State.wrSx; exact if_pos h

theorem getSx_eq (x : Cell) (i : Nat) : x.getSx i = (x.sxw i).toNat := by unfold Cell.getSx Cell.sxw; split <;> rfl

theorem lane_eq (x : Cell) (i j : Nat) : x.lane i j = (x.vxw i j).toNat := rfl

/-- A write of a vector register's active lanes. -/
theorem wrVx_issued (s : State) (cell c : Nat) (i : Ins) (d l : Nat) (f : Nat → Nat) :
    (s.issued cell c i).wrVx cell c i d l f = s.retired cell c i
      { s.cell cell with
        vx := (s.cell cell).vx.set d ((List.range 16).map fun j =>
          if (s.cell cell).active i j then BitVec.ofNat 32 (f j) else (s.cell cell).vxw d j)
        avail := tblSet (s.cell cell).avail (vxR d) (c + l) } := by
  unfold State.wrVx
  simp [State.step1, State.retired, State.issued, Cell.wrote, Cell.goTo, Cell.active, Cell.vxw]

end Sys2Proof.Machine
end

