-- ==== Sys2Proof/Laws/MemOk.lean ====
section
/-! SUPPORT. Every operation that writes a memory keeps the canonical form of both memories; an operation that is not here
leaves both alone. -/

set_option linter.unusedSimpArgs false
set_option linter.unusedTactic false
set_option linter.unreachableTactic false
set_option linter.unnecessarySeqFocus false

namespace Sys2Proof.Machine

/-- Every field but the memories. -/
def notMemories : Fields :=
  { regs := true, latch := true, busy := true, fuse := true, boot := true, tim := true, hif := true, log := true,
    pav := true, subs := true, lanes := true, lrep := true, streams := true, strCmds := true, pager0 := true,
    pager1 := true, rte := true, sched := true, cap := true, rpl := true, digest := true, cells := true, cel := true,
    groups := true, mxu := true, tokens := true, pf0 := true, pf1 := true, greq0 := true, greq1 := true, gheld := true,
    gtbl := true, gwin := true, img := true, loading := true, poison := true, regions := true, mgt := true,
    out := true, free := true, pending := true }

/-- The memories' form can be read off the masked state. -/
theorem memoriesOk_mask (s : State) : (s.mask notMemories).memoriesOk ↔ s.memoriesOk := Iff.rfl

/-- An operation that leaves both memories alone keeps their form. -/
theorem memoriesOk_of_mask {s t : State} (h : t.mask notMemories = s.mask notMemories) (hs : s.memoriesOk) : t.memoriesOk := by
  rw [← memoriesOk_mask, h]; exact hs

theorem ite_ok {p : Prop} [Decidable p] (a b : State) :
    (if p then a else b).memoriesOk = if p then a.memoriesOk else b.memoriesOk := apply_ite _ _ _ _

/-- A fold of an operation that keeps the form keeps it. -/
theorem foldl_ok {α : Type} {G : Fields} {f : State → α → State}
    (h : ∀ s x, (s.mask G).memoriesOk → ((f s x).mask G).memoriesOk) (l : List α) (s : State) :
    (s.mask G).memoriesOk → ((l.foldl f s).mask G).memoriesOk := by
  induction l generalizing s with
  | nil => exact id
  | cons x l ih => intro h0; exact ih _ (h _ _ h0)

/-- The same for a fold that carries a value beside the state. -/
theorem foldl_snd_ok {α β : Type} {G : Fields} {f : β × State → α → β × State}
    (h : ∀ a x, (a.2.mask G).memoriesOk → ((f a x).2.mask G).memoriesOk) (l : List α) (a : β × State) :
    (a.2.mask G).memoriesOk → ((l.foldl f a).2.mask G).memoriesOk := by
  induction l generalizing a with
  | nil => exact id
  | cons x l ih => intro h0; exact ih _ (h _ _ h0)

/-- The writes that have not ended are no part of the form. -/
theorem writes_ok {G : Fields} (t : State) (x : List Write) :
    (State.mask G { t with writes := x }).memoriesOk ↔ (State.mask G t).memoriesOk := Iff.rfl

theorem State.oneCycle_ok (s : State) (f : State → State) (G : Fields) :
    G.regs → (∀ (y0 : State), (y0.mask G).memoriesOk → ((f y0).mask G).memoriesOk) → (s.mask G).memoriesOk →
      ((State.oneCycle s f).mask G).memoriesOk := by
  intro hr hf h; unfold State.oneCycle
  split
  · exact hf _ h
  · rw [mask_recent hr]; apply hf; rw [mask_recent hr]; exact h

theorem State.hostCmd_ok (s : State) (d : Desc) (permitted : Bool) (body : State → State) (G : Fields) :
    G.regs → G.tim → G.hif → G.out → (∀ (y0 : State), (y0.mask G).memoriesOk → ((body y0).mask G).memoriesOk) →
      (s.mask G).memoriesOk → ((State.hostCmd s d permitted body).mask G).memoriesOk := by
  intros; simp only [State.hostCmd, State.untaken_mask, State.sqStop_mask, State.fetchDesc_mask, State.take_mask,
    State.cmdEnd_mask, mask_regs, mask_tim, mask_hif, mask_out, ite_mask, ite_ok, ite_self, foldl_ok, foldl_mask,
    implies_true, *]

theorem State.land_ok (s : State) (w : Write) (G : Fields) :
    G.poison → (s.mask G).memoriesOk → ((State.land s w).mask G).memoriesOk := by
  intro hp h
  refine ⟨?_, h.2⟩
  have h1 := h.1
  simp only [State.land, State.mask] at h1 ⊢
  split
  · rfl
  · rename_i hm; rw [if_neg hm] at h1; exact memWf_memWrite _ _ h1

theorem State.due_ok (s : State) (G : Fields) :
    G.poison → (s.mask G).memoriesOk → ((State.due s).mask G).memoriesOk := by
  intros; unfold State.due
  split
  · assumption
  · apply foldl_ok
    · intros; simp only [State.land_ok, mask_poison, writes_ok, ite_mask, ite_ok, ite_self, foldl_ok, foldl_mask,
      implies_true, *]
    · simp only [State.land_ok, mask_poison, writes_ok, ite_mask, ite_ok, ite_self, foldl_ok, foldl_mask, implies_true,
      *]

theorem State.wr_ok (s : State) (k : Nat) (bs : List Byte) (G : Fields) :
    G.poison → (s.mask G).memoriesOk → ((State.wr s k bs).mask G).memoriesOk := by
  intros; simp only [State.wr, State.land_ok, State.due_ok, mask_poison, ite_mask, ite_ok, ite_self, foldl_ok,
    foldl_mask, implies_true, *]

theorem State.zero_ok (s : State) (lo : Nat) (hi : Nat) (G : Fields) :
    G.poison → (s.mask G).memoriesOk → ((State.zero s lo hi).mask G).memoriesOk := by
  intro hp h0
  have h := State.due_ok s G hp h0
  refine ⟨?_, h.2⟩
  have h1 := h.1
  simp only [State.zero, State.mask] at h1 ⊢
  split
  · rfl
  · rename_i hm; rw [if_neg hm] at h1; exact memWf_memClear _ _ h1

theorem State.poisonIt_ok (s : State) (k : Nat) (n : Nat) (G : Fields) :
    G.poison → (s.mask G).memoriesOk → ((State.poisonIt s k n).mask G).memoriesOk := by
  intros; simp only [State.poisonIt, State.due_ok, mask_poison, ite_mask, ite_ok, ite_self, foldl_ok, foldl_mask,
    implies_true, *]

theorem State.capStore_ok (s : State) (bs : List Byte) (G : Fields) :
    G.regs → G.cap → G.poison → (s.mask G).memoriesOk → ((State.capStore s bs).mask G).memoriesOk := by
  intros; simp only [State.capStore, State.wr_ok, State.bump64_mask, mask_regs, mask_cap, mask_poison, ite_mask,
    ite_ok, ite_self, foldl_ok, foldl_mask, implies_true, *]

theorem State.capPad_ok (s : State) (n : Nat) (G : Fields) :
    G.regs → G.cap → G.poison → (s.mask G).memoriesOk → ((State.capPad s n).mask G).memoriesOk := by
  intros; simp only [State.capPad, State.capStore_ok, mask_regs, mask_cap, mask_poison, ite_mask, ite_ok, ite_self,
    foldl_ok, foldl_mask, implies_true, *]

theorem State.capRaw_ok (s : State) (r : CapRec) (G : Fields) :
    G.regs → G.cap → G.poison → (s.mask G).memoriesOk → ((State.capRaw s r).mask G).memoriesOk := by
  intros; simp only [State.capRaw, State.capStore_ok, State.capPad_ok, mask_regs, mask_cap, mask_poison, ite_mask,
    ite_ok, ite_self, foldl_ok, foldl_mask, implies_true, *]

theorem State.capWrite_ok (s : State) (r : CapRec) (G : Fields) :
    G.regs → G.cap → G.poison → (s.mask G).memoriesOk → ((State.capWrite s r).mask G).memoriesOk := by
  intros; unfold State.capWrite
  dsimp only
  repeat' split
  all_goals first
  | (simp only [State.capRaw_ok, State.capRewind_mask, mask_regs, mask_cap, mask_poison, ite_mask, ite_ok, ite_self,
    foldl_ok, foldl_mask, implies_true, *]; done)
  | (apply foldl_ok <;> intros <;> simp only [State.capRaw_ok, State.capRewind_mask, mask_regs, mask_cap, mask_poison,
    ite_mask, ite_ok, ite_self, foldl_ok, foldl_mask, implies_true, *]; done)

theorem State.capLossRec_ok (s : State) (G : Fields) :
    G.regs → G.cap → G.poison → (s.mask G).memoriesOk → ((State.capLossRec s).mask G).memoriesOk := by
  intros; simp only [State.capLossRec, State.capWrite_ok, mask_regs, mask_cap, mask_poison, ite_mask, ite_ok,
    ite_self, foldl_ok, foldl_mask, implies_true, *]

theorem State.capEnd_ok (s : State) (G : Fields) :
    G.regs → G.hif → G.cap → G.poison → G.out → (s.mask G).memoriesOk → ((State.capEnd s).mask G).memoriesOk := by
  intros; simp only [State.capEnd, State.capLossRec_ok, State.capDrain_mask, State.capRaw_ok, State.capLose_mask,
    State.evt_mask, mask_regs, mask_hif, mask_cap, mask_poison, mask_out, ite_mask, ite_ok, ite_self, foldl_ok,
    foldl_mask, implies_true, *]

theorem State.capPut_ok (s : State) (r : CapRec) (G : Fields) :
    G.regs → G.hif → G.cap → G.poison → G.out → (s.mask G).memoriesOk → ((State.capPut s r).mask G).memoriesOk := by
  intros; simp only [State.capPut, State.capDrain_mask, State.capLose_mask, State.capWrite_ok, State.capLossRec_ok,
    State.capEnd_ok, mask_regs, mask_hif, mask_cap, mask_poison, mask_out, ite_mask, ite_ok, ite_self, foldl_ok,
    foldl_mask, implies_true, *]

theorem State.capMark_ok (s : State) (code : Nat) (val : Nat) (G : Fields) :
    G.regs → G.hif → G.cap → G.poison → G.out → (s.mask G).memoriesOk → ((State.capMark s code val).mask
      G).memoriesOk := by
  intros; simp only [State.capMark, State.capPut_ok, mask_regs, mask_hif, mask_cap, mask_poison, mask_out, ite_mask,
    ite_ok, ite_self, foldl_ok, foldl_mask, implies_true, *]

theorem State.capTrigger_ok (s : State) (code : Nat) (G : Fields) :
    G.regs → G.hif → G.cap → G.poison → G.out → (s.mask G).memoriesOk → ((State.capTrigger s code).mask G).memoriesOk
      := by
  intros; simp only [State.capTrigger, State.capMark_ok, State.bump_mask, State.evt_mask, mask_regs, mask_hif,
    mask_cap, mask_poison, mask_out, ite_mask, ite_ok, ite_self, foldl_ok, foldl_mask, implies_true, *]

theorem State.capPkt_ok (s : State) (type : Nat) (port : Nat) (t : Nat) (p : Pkt) (trailer : Nat) (stomped : Bool)
  (bad : Bool) (injected : Bool) (unknown : Bool) (G : Fields) :
    G.regs → G.hif → G.cap → G.poison → G.out → (s.mask G).memoriesOk → ((State.capPkt s type port t p trailer
      stomped bad injected unknown).mask G).memoriesOk := by
  intros; simp only [State.capPkt, State.capPut_ok, mask_regs, mask_hif, mask_cap, mask_poison, mask_out, ite_mask,
    ite_ok, ite_self, foldl_ok, foldl_mask, implies_true, *]

theorem State.tblOp_ok (s : State) (path : Path) (cmd : Nat) (v : Word) (op : Bool) (ignored : State → State) (go :
  State → State) (G : Fields) :
    G.regs → G.busy → G.free → (∀ (y0 : State), (y0.mask G).memoriesOk → ((ignored y0).mask G).memoriesOk) → (∀ (y0 :
      State), (y0.mask G).memoriesOk → ((go y0).mask G).memoriesOk) → (s.mask G).memoriesOk → ((State.tblOp s path
      cmd v op ignored go).mask G).memoriesOk := by
  intros; simp only [State.tblOp, State.plainWrite_mask, State.tblStart_mask, mask_regs, mask_busy, mask_free,
    ite_mask, ite_ok, ite_self, foldl_ok, foldl_mask, implies_true, *]

theorem State.sendSched_ok (s : State) (e : Nat) (p : Staged) (G : Fields) :
    G.regs → G.hif → G.lrep → G.rte → G.cap → G.poison → G.out → (s.mask G).memoriesOk → ((State.sendSched s e
      p).mask G).memoriesOk := by
  intros; simp only [State.sendSched, State.capPkt_ok, State.number_mask, State.bump_mask, State.emit_mask,
    State.evt_mask, State.hazard_mask, State.setEgr_mask, State.startSend_mask, mask_regs, mask_hif, mask_lrep,
    mask_rte, mask_cap, mask_poison, mask_out, ite_mask, ite_ok, ite_self, foldl_ok, foldl_mask, implies_true, *]

theorem State.sendAgain_ok (s : State) (e : Nat) (c : Copy) (rest : List Copy) (G : Fields) :
    G.regs → G.hif → G.rte → G.cap → G.poison → G.out → (s.mask G).memoriesOk → ((State.sendAgain s e c rest).mask
      G).memoriesOk := by
  intros; simp only [State.sendAgain, State.setEgr_mask, State.bump_mask, State.hazard_mask, State.capPkt_ok,
    State.startSend_mask, State.emit_mask, mask_regs, mask_hif, mask_rte, mask_cap, mask_poison, mask_out, ite_mask,
    ite_ok, ite_self, foldl_ok, foldl_mask, implies_true, *]

theorem State.selectRest_ok (s : State) (e : Nat) (G : Fields) :
    G.regs → G.hif → G.lrep → G.rte → G.cap → G.poison → G.out → (s.mask G).memoriesOk → ((State.selectRest s e).mask
      G).memoriesOk := by
  intros; unfold State.selectRest; (try extract_lets +lift) <;> (repeat' split) <;> (try simp only [Prod.ext_iff] at
    *) <;> (try casesm* _ ∧ _) <;> (try subst_vars) <;> (try simp only [State.setPause_mask, State.startSend_mask,
      State.emit_mask, State.sendLink_mask, State.sendAgain_ok, State.candidate_mask, State.sendQueued_mask, *])

theorem State.select_ok (s : State) (e : Nat) (G : Fields) :
    G.regs → G.hif → G.lrep → G.rte → G.cap → G.poison → G.out → (s.mask G).memoriesOk → ((State.select s e).mask
      G).memoriesOk := by
  intros; unfold State.select; dsimp only; (repeat' split) <;> simp only [State.settle_mask, State.holdSettle_mask,
    State.setEgr_mask, State.selectRest_ok, State.sendTimePkt_mask, State.sendSched_ok, mask_regs, mask_hif, mask_lrep,
    mask_rte, mask_cap, mask_poison, mask_out, ite_mask, ite_ok, ite_self, foldl_ok, foldl_mask, implies_true, *]

theorem execEgressSelect_ok (e : Nat) (time : Nat) (s : State) (G : Fields) :
    G.regs → G.tim → G.hif → G.log → G.lrep → G.rte → G.cap → G.poison → G.out → (s.mask G).memoriesOk → ∀ t,
      execEgressSelect e time s = .next t → (t.mask G).memoriesOk := by
  intros; rename_i h; injection h with h; subst h; simp only [State.endDamaged_mask, State.advTo_mask,
    State.stagedLate_mask, State.select_ok, mask_regs, mask_tim, mask_hif, mask_log, mask_lrep, mask_rte, mask_cap,
    mask_poison, mask_out, ite_mask, ite_ok, ite_self, foldl_ok, foldl_mask, implies_true, *]

theorem State.captureHold_ok (s : State) (was : Bool) (now : Bool) (G : Fields) :
    G.regs → G.hif → G.cap → G.poison → G.out → (s.mask G).memoriesOk → ((State.captureHold s was now).mask
      G).memoriesOk := by
  intros; simp only [State.captureHold, State.capMark_ok, mask_regs, mask_hif, mask_cap, mask_poison, mask_out,
    ite_mask, ite_ok, ite_self, foldl_ok, foldl_mask, implies_true, *]

theorem State.linkRx_ok (s : State) (port : Nat) (sub : Nat) (kind : Nat) (r : RxPkt) (act : State → State) (G : Fields) :
    G.regs → G.hif → G.lrep → G.out → (∀ (y0 : State), (y0.mask G).memoriesOk → ((act y0).mask G).memoriesOk) → (s.mask
      G).memoriesOk → ((State.linkRx s port sub kind r act).mask G).memoriesOk := by
  intros; simp only [State.linkRx, State.lineBad_mask, State.drop_mask, mask_regs, mask_hif, mask_lrep, mask_out,
    ite_mask, ite_ok, ite_self, foldl_ok, foldl_mask, implies_true, *]

theorem State.arrive_ok (s : State) (port : Nat) (sub : Nat) (r : RxPkt) (arrival : Nat) (injected : Bool) (G : Fields) :
    G.regs → G.tim → G.hif → G.log → G.lrep → G.rte → G.cap → G.poison → G.out → (s.mask G).memoriesOk →
      ((State.arrive s port sub r arrival injected).2.mask G).memoriesOk := by
  intros; unfold State.arrive; dsimp only; (repeat' split) <;> (try simp only [State.lineBad_mask, State.drop_mask,
    State.advTo_mask, State.endDamaged_mask, State.capPkt_ok, State.bump_mask, State.accept_mask, State.dropRx_mask,
    State.route_mask, ite_mask, ite_snd_mask, ite_ok, ite_self, *])

theorem State.correct_ok (s : State) (k : Nat) (n : Nat) (G : Fields) :
    G.regs → G.hif → G.poison → G.out → (s.mask G).memoriesOk → ((State.correct s k n).mask G).memoriesOk := by
  intros; simp only [State.correct, State.due_ok, State.bump_mask, State.evt_mask, mask_regs, mask_hif, mask_poison,
    mask_out, mask_soft, ite_mask, ite_ok, ite_self, foldl_ok, foldl_mask, implies_true, *]

theorem State.copyMem_ok (s : State) (src : Nat) (dst : Nat) (n : Nat) (G : Fields) :
    G.regs → G.hif → G.poison → G.out → (s.mask G).memoriesOk → ((State.copyMem s src dst n).mask G).memoriesOk := by
  intros; simp only [State.copyMem, State.wr_ok, State.correct_ok, mask_regs, mask_hif, mask_poison, mask_out,
    ite_mask, ite_ok, ite_self, foldl_ok, foldl_mask, implies_true, *]

theorem State.wrWin_ok (s : State) (x : Stream) (o : Nat) (bs : List Byte) (G : Fields) :
    G.regs → G.hif → G.log → G.poison → G.out → (s.mask G).memoriesOk → ((State.wrWin s x o bs).mask G).memoriesOk :=
      by
  intros; simp only [State.wrWin, State.wr_ok, State.strDenied_mask, mask_regs, mask_hif, mask_log, mask_poison,
    mask_out, ite_mask, ite_ok, ite_self, foldl_ok, foldl_mask, implies_true, *]

theorem State.pageDone_ok (s : State) (p : PageMove) (G : Fields) :
    G.regs → G.hif → G.log → G.streams → G.poison → G.out → (s.mask G).memoriesOk → ((State.pageDone s p).mask
      G).memoriesOk := by
  intros; unfold State.pageDone; dsimp only; (repeat' split) <;> simp only [State.copyMem_ok, State.strDenied_mask, State.stepOk_mask, State.updateEnd_mask,
    State.setStream_mask, State.wrWin_ok, mask_regs, mask_hif, mask_log, mask_streams, mask_poison, mask_out, ite_mask,
    ite_ok, ite_self, foldl_ok, foldl_mask, implies_true, *]

theorem State.pagerTo_ok (s : State) (die : Nat) (m : Nat) (G : Fields) :
    G.regs → G.hif → G.log → G.streams → G.pager0 → G.pager1 → G.poison → G.out → (s.mask G).memoriesOk →
      ((State.pagerTo s die m).mask G).memoriesOk := by
  intros; unfold State.pagerTo; apply foldl_ok <;> intros <;> (repeat' split) <;> (try simp only [Prod.ext_iff] at *)
    <;> (try casesm* _ ∧ _) <;> (try subst_vars) <;> (try simp only [State.setPager_mask, State.pageDone_ok,
      mask_regs, mask_hif, mask_log, mask_streams, mask_pager0, mask_pager1, mask_poison, mask_out, ite_mask, ite_ok,
      ite_self, foldl_ok, foldl_mask, implies_true, *])

theorem State.pagerHead_ok (s : State) (die : Nat) (out : Bool) (G : Fields) :
    G.regs → G.tim → G.hif → G.log → G.streams → G.pager0 → G.pager1 → G.poison → G.out → (s.mask G).memoriesOk →
      ((State.pagerHead s die out).mask G).memoriesOk := by
  intros; unfold State.pagerHead; (repeat' split) <;> simp only [State.advTo_mask, State.setPager_mask,
    State.pageDone_ok, mask_regs, mask_tim, mask_hif, mask_log, mask_streams, mask_pager0, mask_pager1, mask_poison,
    mask_out, ite_mask, ite_ok, ite_self, foldl_ok, foldl_mask, implies_true, *]

theorem State.soften_ok (s : State) (k : Nat) (G : Fields) :
    G.poison → (s.mask G).memoriesOk → ((State.soften s k).mask G).memoriesOk := by
  intros; simp only [State.soften, State.due_ok, mask_poison, mask_soft, ite_mask, ite_ok, ite_self, foldl_ok,
    foldl_mask, implies_true, *]

theorem State.sendWrite_ok (s : State) (at_ : Nat) (rank : Nat) (key : Nat) (bytes : List Byte) (bad : List Nat) (G : Fields) :
    (s.mask G).memoriesOk → ((State.sendWrite s at_ rank key bytes bad).mask G).memoriesOk := by
  intros; simp only [State.sendWrite, writes_ok, ite_mask, ite_ok, ite_self, foldl_ok, foldl_mask, implies_true, *]

theorem State.codecWrite_ok (s : State) (c : Nat) (key : Nat) (bs : List Byte) (G : Fields) :
    (s.mask G).memoriesOk → ((State.codecWrite s c key bs).mask G).memoriesOk := by
  intros; simp only [State.codecWrite, State.sendWrite_ok, ite_mask, ite_ok, ite_self, foldl_ok, foldl_mask,
    implies_true, *]

theorem State.xhatWrite_ok (s : State) (x : Stream) (c : Nat) (o : Nat) (bs : List Byte) (G : Fields) :
    G.regs → G.hif → G.log → G.out → (s.mask G).memoriesOk → ((State.xhatWrite s x c o bs).mask G).memoriesOk := by
  intros; simp only [State.xhatWrite, State.strDenied_mask, State.codecWrite_ok, mask_regs, mask_hif, mask_log,
    mask_out, ite_mask, ite_ok, ite_self, foldl_ok, foldl_mask, implies_true, *]

theorem State.capUntrigger_ok (s : State) (G : Fields) :
    G.regs → G.cap → G.poison → (s.mask G).memoriesOk → ((State.capUntrigger s).mask G).memoriesOk := by
  intros; unfold State.capUntrigger
  split
  · dsimp only
    apply foldl_ok
    · intros; simp only [State.setFld_mask, State.capRewind_mask, State.capRaw_ok, mask_regs, mask_cap, mask_poison,
      ite_mask, ite_ok, ite_self, foldl_ok, foldl_mask, implies_true, *]
    · simp only [State.setFld_mask, State.capRewind_mask, State.capRaw_ok, mask_regs, mask_cap, mask_poison, ite_mask,
      ite_ok, ite_self, foldl_ok, foldl_mask, implies_true, *]
  · assumption

theorem State.fillLines_ok (s : State) (cell : Nat) (sline : Nat) (bline : Nat) (n : Nat) (G : Fields) :
    G.regs → G.hif → G.poison → G.out → (s.mask G).memoriesOk → ((State.fillLines s cell sline bline n).mask
      G).memoriesOk := by
  intros; simp only [State.fillLines, State.copyMem_ok, mask_regs, mask_hif, mask_poison, mask_out, ite_mask, ite_ok,
    ite_self, foldl_ok, foldl_mask, implies_true, *]

theorem State.startCell_ok (s : State) (r : Run) (fire : Nat) (cell : Nat) (G : Fields) :
    G.regs → G.hif → G.cells → G.poison → G.out → (s.mask G).memoriesOk → ((State.startCell s r fire cell).mask
      G).memoriesOk := by
  intros; simp only [State.startCell, State.setCell_mask, State.fillLines_ok, mask_regs, mask_hif, mask_cells,
    mask_poison, mask_out, ite_mask, ite_ok, ite_self, foldl_ok, foldl_mask, implies_true, *]

theorem State.startLaunch_ok (s : State) (l : Launch) (word7 : Nat) (fire : Nat) (sched : Bool) (stream : Option Nat)
  (stage : Option (Nat × Nat)) (G : Fields) :
    G.regs → G.hif → G.cells → G.cel → G.poison → G.out → (s.mask G).memoriesOk → ((State.startLaunch s l word7 fire
      sched stream stage).mask G).memoriesOk := by
  intros; unfold State.startLaunch; apply foldl_ok <;> intros <;> (repeat' split) <;> (try simp only [Prod.ext_iff]
    at *) <;> (try casesm* _ ∧ _) <;> (try subst_vars) <;> (try simp only [State.startCell_ok, State.bump_mask,
      mask_regs, mask_hif, mask_cells, mask_cel, mask_poison, mask_out, ite_mask, ite_ok, ite_self, foldl_ok,
      foldl_mask, implies_true, *])

theorem State.fireLaunch_ok (s : State) (l : Launch) (word7 : Nat) (fire : Nat) (stream : Option Nat) (G : Fields) :
    G.regs → G.hif → G.cells → G.cel → G.poison → G.out → (s.mask G).memoriesOk → ((State.fireLaunch s l word7 fire
      stream).mask G).memoriesOk := by
  intros; unfold State.fireLaunch; dsimp only; (repeat' split) <;> simp only [State.arm_mask, State.cellNotRun_mask,
    State.startLaunch_ok, State.refuseLaunch_mask, mask_regs, mask_hif, mask_cells, mask_cel, mask_poison, mask_out,
    ite_mask, ite_ok, ite_self, foldl_ok, foldl_mask, implies_true, *]

theorem State.issue_ok (s : State) (cell : Nat) (want : Ins → Bool) (rs : Ins → List Nat) (body : Ins → Run → Nat →
  State → State) (G : Fields) :
    G.regs → G.tim → G.hif → G.log → G.cells → G.cel → G.poison → G.out → (∀ (y0 : Ins) (y1 : Run) (y2 : Nat) (y3 :
      State), (y3.mask G).memoriesOk → ((body y0 y1 y2 y3).mask G).memoriesOk) → (s.mask G).memoriesOk →
      ((State.issue s cell want rs body).mask G).memoriesOk := by
  intros; rename_i hb h; unfold State.issue
  dsimp only
  repeat' split
  all_goals first
  | exact h
  | (simp only [State.cellFault_mask, State.correct_ok, State.toCyc_mask, State.setCell_mask, mask_regs, mask_tim,
    mask_hif, mask_log, mask_cells, mask_cel, mask_poison, mask_out, ite_mask, ite_ok, ite_self, foldl_ok, foldl_mask,
    implies_true, *]; done)
  | (apply hb; simp only [State.cellFault_mask, State.correct_ok, State.toCyc_mask, State.setCell_mask, mask_regs,
    mask_tim, mask_hif, mask_log, mask_cells, mask_cel, mask_poison, mask_out, ite_mask, ite_ok, ite_self, foldl_ok,
    foldl_mask, implies_true, *]; done)

theorem State.wrVx_ok (s : State) (cell : Nat) (c : Nat) (i : Ins) (d : Nat) (l : Nat) (f : Nat → Nat) (G : Fields) :
    G.cells → (s.mask G).memoriesOk → ((State.wrVx s cell c i d l f).mask G).memoriesOk := by
  intros; simp only [State.wrVx, State.setCell_mask, State.step1_mask, mask_cells, ite_mask, ite_ok, ite_self,
    foldl_ok, foldl_mask, implies_true, *]

theorem State.scalarOp_ok (s : State) (cell : Nat) (op : Nat) (l : Nat) (f : Nat → Nat → Nat) (G : Fields) :
    G.regs → G.tim → G.hif → G.log → G.cells → G.cel → G.poison → G.out → (s.mask G).memoriesOk → ((State.scalarOp s
      cell op l f).mask G).memoriesOk := by
  intros; unfold State.scalarOp
  apply State.issue_ok <;> (try assumption) <;> intros <;> (try dsimp only) <;> (repeat' split) <;> simp only
    [State.issue_ok, State.wrSx_mask, mask_regs, mask_tim, mask_hif, mask_log, mask_cells, mask_cel, mask_poison,
    mask_out, ite_mask, ite_ok, ite_self, foldl_ok, foldl_mask, implies_true, *]

theorem State.scalarShift_ok (s : State) (cell : Nat) (op : Nat) (left : Bool) (G : Fields) :
    G.regs → G.tim → G.hif → G.log → G.cells → G.cel → G.poison → G.out → G.free → (s.mask G).memoriesOk →
      ((State.scalarShift s cell op left).mask G).memoriesOk := by
  intros; unfold State.scalarShift
  apply State.issue_ok <;> (try assumption) <;> intros <;> (try dsimp only) <;> (repeat' split) <;> simp only
    [State.shiftOp_mask, State.issue_ok, State.wrSx_mask, mask_regs, mask_tim, mask_hif, mask_log, mask_cells,
    mask_cel, mask_poison, mask_out, mask_free, ite_mask, ite_ok, ite_self, foldl_ok, foldl_mask, implies_true, *]

theorem execNop_ok (cell : Nat) (s : State) (G : Fields) :
    G.regs → G.tim → G.hif → G.log → G.cells → G.cel → G.poison → G.out → (s.mask G).memoriesOk → ∀ t, execNop cell s
      = .next t → (t.mask G).memoriesOk := by
  intros; rename_i h; obtain rfl := Host.Outcome.next.inj h
  apply State.issue_ok <;> (try assumption) <;> intros <;> (try dsimp only) <;> (repeat' split) <;> simp only
    [State.issue_ok, State.step1_mask, mask_regs, mask_tim, mask_hif, mask_log, mask_cells, mask_cel, mask_poison,
    mask_out, ite_mask, ite_ok, ite_self, foldl_ok, foldl_mask, implies_true, *]

theorem execSadd_ok (cell : Nat) (s : State) (G : Fields) :
    G.regs → G.tim → G.hif → G.log → G.cells → G.cel → G.poison → G.out → (s.mask G).memoriesOk → ∀ t, execSadd cell
      s = .next t → (t.mask G).memoriesOk := by
  intros; rename_i h; injection h with h; subst h; simp only [State.scalarOp_ok, mask_regs, mask_tim, mask_hif,
    mask_log, mask_cells, mask_cel, mask_poison, mask_out, ite_mask, ite_ok, ite_self, foldl_ok, foldl_mask,
    implies_true, *]

theorem execSsub_ok (cell : Nat) (s : State) (G : Fields) :
    G.regs → G.tim → G.hif → G.log → G.cells → G.cel → G.poison → G.out → (s.mask G).memoriesOk → ∀ t, execSsub cell
      s = .next t → (t.mask G).memoriesOk := by
  intros; rename_i h; injection h with h; subst h; simp only [State.scalarOp_ok, mask_regs, mask_tim, mask_hif,
    mask_log, mask_cells, mask_cel, mask_poison, mask_out, ite_mask, ite_ok, ite_self, foldl_ok, foldl_mask,
    implies_true, *]

theorem execSmul_ok (cell : Nat) (s : State) (G : Fields) :
    G.regs → G.tim → G.hif → G.log → G.cells → G.cel → G.poison → G.out → (s.mask G).memoriesOk → ∀ t, execSmul cell
      s = .next t → (t.mask G).memoriesOk := by
  intros; rename_i h; injection h with h; subst h; simp only [State.scalarOp_ok, mask_regs, mask_tim, mask_hif,
    mask_log, mask_cells, mask_cel, mask_poison, mask_out, ite_mask, ite_ok, ite_self, foldl_ok, foldl_mask,
    implies_true, *]

theorem execSand_ok (cell : Nat) (s : State) (G : Fields) :
    G.regs → G.tim → G.hif → G.log → G.cells → G.cel → G.poison → G.out → (s.mask G).memoriesOk → ∀ t, execSand cell
      s = .next t → (t.mask G).memoriesOk := by
  intros; rename_i h; injection h with h; subst h; simp only [State.scalarOp_ok, mask_regs, mask_tim, mask_hif,
    mask_log, mask_cells, mask_cel, mask_poison, mask_out, ite_mask, ite_ok, ite_self, foldl_ok, foldl_mask,
    implies_true, *]

theorem execSor_ok (cell : Nat) (s : State) (G : Fields) :
    G.regs → G.tim → G.hif → G.log → G.cells → G.cel → G.poison → G.out → (s.mask G).memoriesOk → ∀ t, execSor cell s
      = .next t → (t.mask G).memoriesOk := by
  intros; rename_i h; injection h with h; subst h; simp only [State.scalarOp_ok, mask_regs, mask_tim, mask_hif,
    mask_log, mask_cells, mask_cel, mask_poison, mask_out, ite_mask, ite_ok, ite_self, foldl_ok, foldl_mask,
    implies_true, *]

theorem execSxor_ok (cell : Nat) (s : State) (G : Fields) :
    G.regs → G.tim → G.hif → G.log → G.cells → G.cel → G.poison → G.out → (s.mask G).memoriesOk → ∀ t, execSxor cell
      s = .next t → (t.mask G).memoriesOk := by
  intros; rename_i h; injection h with h; subst h; simp only [State.scalarOp_ok, mask_regs, mask_tim, mask_hif,
    mask_log, mask_cells, mask_cel, mask_poison, mask_out, ite_mask, ite_ok, ite_self, foldl_ok, foldl_mask,
    implies_true, *]

theorem execSshl_ok (cell : Nat) (s : State) (G : Fields) :
    G.regs → G.tim → G.hif → G.log → G.cells → G.cel → G.poison → G.out → G.free → (s.mask G).memoriesOk → ∀ t,
      execSshl cell s = .next t → (t.mask G).memoriesOk := by
  intros; rename_i h; injection h with h; subst h; simp only [State.scalarShift_ok, mask_regs, mask_tim, mask_hif,
    mask_log, mask_cells, mask_cel, mask_poison, mask_out, mask_free, ite_mask, ite_ok, ite_self, foldl_ok,
    foldl_mask, implies_true, *]

theorem execSshr_ok (cell : Nat) (s : State) (G : Fields) :
    G.regs → G.tim → G.hif → G.log → G.cells → G.cel → G.poison → G.out → G.free → (s.mask G).memoriesOk → ∀ t,
      execSshr cell s = .next t → (t.mask G).memoriesOk := by
  intros; rename_i h; injection h with h; subst h; simp only [State.scalarShift_ok, mask_regs, mask_tim, mask_hif,
    mask_log, mask_cells, mask_cel, mask_poison, mask_out, mask_free, ite_mask, ite_ok, ite_self, foldl_ok,
    foldl_mask, implies_true, *]

theorem execSli_ok (cell : Nat) (s : State) (G : Fields) :
    G.regs → G.tim → G.hif → G.log → G.cells → G.cel → G.poison → G.out → (s.mask G).memoriesOk → ∀ t, execSli cell s
      = .next t → (t.mask G).memoriesOk := by
  intros; rename_i h; obtain rfl := Host.Outcome.next.inj h
  apply State.issue_ok <;> (try assumption) <;> intros <;> (try dsimp only) <;> (repeat' split) <;> simp only
    [State.issue_ok, State.wrSx_mask, mask_regs, mask_tim, mask_hif, mask_log, mask_cells, mask_cel, mask_poison,
    mask_out, ite_mask, ite_ok, ite_self, foldl_ok, foldl_mask, implies_true, *]

theorem execSaddi_ok (cell : Nat) (s : State) (G : Fields) :
    G.regs → G.tim → G.hif → G.log → G.cells → G.cel → G.poison → G.out → (s.mask G).memoriesOk → ∀ t, execSaddi cell
      s = .next t → (t.mask G).memoriesOk := by
  intros; rename_i h; obtain rfl := Host.Outcome.next.inj h
  apply State.issue_ok <;> (try assumption) <;> intros <;> (try dsimp only) <;> (repeat' split) <;> simp only
    [State.issue_ok, State.wrSx_mask, mask_regs, mask_tim, mask_hif, mask_log, mask_cells, mask_cel, mask_poison,
    mask_out, ite_mask, ite_ok, ite_self, foldl_ok, foldl_mask, implies_true, *]

theorem execSld_ok (cell : Nat) (s : State) (G : Fields) :
    G.regs → G.tim → G.hif → G.log → G.cells → G.cel → G.poison → G.out → (s.mask G).memoriesOk → ∀ t, execSld cell s
      = .next t → (t.mask G).memoriesOk := by
  intros; rename_i h; obtain rfl := Host.Outcome.next.inj h
  apply State.issue_ok <;> (try assumption) <;> intros <;> (try dsimp only) <;> (repeat' split) <;> simp only
    [State.cellFault_mask, State.issue_ok, State.wrSx_mask, State.correct_ok, mask_regs, mask_tim, mask_hif,
    mask_log, mask_cells, mask_cel, mask_poison, mask_out, ite_mask, ite_ok, ite_self, foldl_ok, foldl_mask,
    implies_true, *]

theorem execSst_ok (cell : Nat) (s : State) (G : Fields) :
    G.regs → G.tim → G.hif → G.log → G.cells → G.cel → G.poison → G.out → (s.mask G).memoriesOk → ∀ t, execSst cell s
      = .next t → (t.mask G).memoriesOk := by
  intros; rename_i h; injection h with h; subst h; apply State.issue_ok <;> (try assumption) <;> intros <;> dsimp
    only <;> (repeat' split) <;> simp only [State.cellFault_mask, State.issue_ok, State.step1_mask, State.wr_ok,
      mask_regs, mask_tim, mask_hif, mask_log, mask_cells, mask_cel, mask_poison, mask_out, ite_mask, ite_ok,
      ite_self, foldl_ok, foldl_mask, implies_true, *]

theorem State.laneOp_ok (s : State) (cell : Nat) (op : Nat) (l : Nat) (srcs : Ins → List Nat) (f : Ins → Cell → Nat →
  Nat × Nat) (G : Fields) :
    G.regs → G.tim → G.hif → G.log → G.cells → G.cel → G.poison → G.out → (s.mask G).memoriesOk → ((State.laneOp s
      cell op l srcs f).mask G).memoriesOk := by
  intros; unfold State.laneOp
  apply State.issue_ok <;> (try assumption) <;> intros <;> (try dsimp only) <;> (repeat' split) <;> simp only
    [State.cellFault_mask, State.issue_ok, State.runFlags_mask, State.wrVx_ok, mask_regs, mask_tim, mask_hif,
    mask_log, mask_cells, mask_cel, mask_poison, mask_out, ite_mask, ite_ok, ite_self, foldl_ok, foldl_mask,
    implies_true, *]

theorem State.laneOp2_ok (s : State) (cell : Nat) (op : Nat) (l : Nat) (f : Nat → Nat → Nat × Nat) (G : Fields) :
    G.regs → G.tim → G.hif → G.log → G.cells → G.cel → G.poison → G.out → (s.mask G).memoriesOk → ((State.laneOp2 s
      cell op l f).mask G).memoriesOk := by
  intros; simp only [State.laneOp2, State.laneOp_ok, mask_regs, mask_tim, mask_hif, mask_log, mask_cells, mask_cel,
    mask_poison, mask_out, ite_mask, ite_ok, ite_self, foldl_ok, foldl_mask, implies_true, *]

theorem execVadd_ok (cell : Nat) (s : State) (G : Fields) :
    G.regs → G.tim → G.hif → G.log → G.cells → G.cel → G.poison → G.out → (s.mask G).memoriesOk → ∀ t, execVadd cell
      s = .next t → (t.mask G).memoriesOk := by
  intros; rename_i h; injection h with h; subst h; simp only [State.laneOp2_ok, mask_regs, mask_tim, mask_hif,
    mask_log, mask_cells, mask_cel, mask_poison, mask_out, ite_mask, ite_ok, ite_self, foldl_ok, foldl_mask,
    implies_true, *]

theorem execVsub_ok (cell : Nat) (s : State) (G : Fields) :
    G.regs → G.tim → G.hif → G.log → G.cells → G.cel → G.poison → G.out → (s.mask G).memoriesOk → ∀ t, execVsub cell
      s = .next t → (t.mask G).memoriesOk := by
  intros; rename_i h; injection h with h; subst h; simp only [State.laneOp2_ok, mask_regs, mask_tim, mask_hif,
    mask_log, mask_cells, mask_cel, mask_poison, mask_out, ite_mask, ite_ok, ite_self, foldl_ok, foldl_mask,
    implies_true, *]

theorem execVmul_ok (cell : Nat) (s : State) (G : Fields) :
    G.regs → G.tim → G.hif → G.log → G.cells → G.cel → G.poison → G.out → (s.mask G).memoriesOk → ∀ t, execVmul cell
      s = .next t → (t.mask G).memoriesOk := by
  intros; rename_i h; injection h with h; subst h; simp only [State.laneOp2_ok, mask_regs, mask_tim, mask_hif,
    mask_log, mask_cells, mask_cel, mask_poison, mask_out, ite_mask, ite_ok, ite_self, foldl_ok, foldl_mask,
    implies_true, *]

theorem execVfma_ok (cell : Nat) (s : State) (G : Fields) :
    G.regs → G.tim → G.hif → G.log → G.cells → G.cel → G.poison → G.out → (s.mask G).memoriesOk → ∀ t, execVfma cell
      s = .next t → (t.mask G).memoriesOk := by
  intros; rename_i h; injection h with h; subst h; simp only [State.laneOp_ok, mask_regs, mask_tim, mask_hif,
    mask_log, mask_cells, mask_cel, mask_poison, mask_out, ite_mask, ite_ok, ite_self, foldl_ok, foldl_mask,
    implies_true, *]

theorem execVmax_ok (cell : Nat) (s : State) (G : Fields) :
    G.regs → G.tim → G.hif → G.log → G.cells → G.cel → G.poison → G.out → (s.mask G).memoriesOk → ∀ t, execVmax cell
      s = .next t → (t.mask G).memoriesOk := by
  intros; rename_i h; injection h with h; subst h; simp only [State.laneOp2_ok, mask_regs, mask_tim, mask_hif,
    mask_log, mask_cells, mask_cel, mask_poison, mask_out, ite_mask, ite_ok, ite_self, foldl_ok, foldl_mask,
    implies_true, *]

theorem execVmin_ok (cell : Nat) (s : State) (G : Fields) :
    G.regs → G.tim → G.hif → G.log → G.cells → G.cel → G.poison → G.out → (s.mask G).memoriesOk → ∀ t, execVmin cell
      s = .next t → (t.mask G).memoriesOk := by
  intros; rename_i h; injection h with h; subst h; simp only [State.laneOp2_ok, mask_regs, mask_tim, mask_hif,
    mask_log, mask_cells, mask_cel, mask_poison, mask_out, ite_mask, ite_ok, ite_self, foldl_ok, foldl_mask,
    implies_true, *]

theorem execVrcp_ok (cell : Nat) (s : State) (G : Fields) :
    G.regs → G.tim → G.hif → G.log → G.cells → G.cel → G.poison → G.out → (s.mask G).memoriesOk → ∀ t, execVrcp cell
      s = .next t → (t.mask G).memoriesOk := by
  intros; rename_i h; injection h with h; subst h; simp only [State.laneOp_ok, mask_regs, mask_tim, mask_hif,
    mask_log, mask_cells, mask_cel, mask_poison, mask_out, ite_mask, ite_ok, ite_self, foldl_ok, foldl_mask,
    implies_true, *]

theorem execVdiv_ok (cell : Nat) (s : State) (G : Fields) :
    G.regs → G.tim → G.hif → G.log → G.cells → G.cel → G.poison → G.out → (s.mask G).memoriesOk → ∀ t, execVdiv cell
      s = .next t → (t.mask G).memoriesOk := by
  intros; rename_i h; injection h with h; subst h; simp only [State.laneOp2_ok, mask_regs, mask_tim, mask_hif,
    mask_log, mask_cells, mask_cel, mask_poison, mask_out, ite_mask, ite_ok, ite_self, foldl_ok, foldl_mask,
    implies_true, *]

theorem execVrsum_ok (cell : Nat) (s : State) (G : Fields) :
    G.regs → G.tim → G.hif → G.log → G.cells → G.cel → G.poison → G.out → (s.mask G).memoriesOk → ∀ t, execVrsum cell
      s = .next t → (t.mask G).memoriesOk := by
  intros; rename_i h; obtain rfl := Host.Outcome.next.inj h
  apply State.issue_ok <;> (try assumption) <;> intros <;> (try dsimp only) <;> (repeat' split) <;> simp only
    [State.cellFault_mask, State.issue_ok, State.runFlags_mask, State.wrVx_ok, mask_regs, mask_tim, mask_hif,
    mask_log, mask_cells, mask_cel, mask_poison, mask_out, ite_mask, ite_ok, ite_self, foldl_ok, foldl_mask,
    implies_true, *]

theorem execVtsum_ok (cell : Nat) (s : State) (G : Fields) :
    G.regs → G.tim → G.hif → G.log → G.cells → G.cel → G.poison → G.out → (s.mask G).memoriesOk → ∀ t, execVtsum cell
      s = .next t → (t.mask G).memoriesOk := by
  intros; rename_i h; obtain rfl := Host.Outcome.next.inj h
  apply State.issue_ok <;> (try assumption) <;> intros <;> (try dsimp only) <;> (repeat' split) <;> simp only
    [State.setCell_mask, State.cellFault_mask, State.issue_ok, State.runFlags_mask, State.wrVx_ok, mask_regs,
    mask_tim, mask_hif, mask_log, mask_cells, mask_cel, mask_poison, mask_out, ite_mask, ite_ok, ite_self, foldl_ok,
    foldl_mask, implies_true, *]

theorem execVpwl_ok (cell : Nat) (s : State) (G : Fields) :
    G.regs → G.tim → G.hif → G.log → G.cells → G.cel → G.poison → G.out → (s.mask G).memoriesOk → ∀ t, execVpwl cell
      s = .next t → (t.mask G).memoriesOk := by
  intros; rename_i h; injection h with h; subst h; simp only [State.laneOp_ok, mask_regs, mask_tim, mask_hif,
    mask_log, mask_cells, mask_cel, mask_poison, mask_out, ite_mask, ite_ok, ite_self, foldl_ok, foldl_mask,
    implies_true, *]

theorem execViadd_ok (cell : Nat) (s : State) (G : Fields) :
    G.regs → G.tim → G.hif → G.log → G.cells → G.cel → G.poison → G.out → (s.mask G).memoriesOk → ∀ t, execViadd cell
      s = .next t → (t.mask G).memoriesOk := by
  intros; rename_i h; injection h with h; subst h; simp only [State.laneOp2_ok, mask_regs, mask_tim, mask_hif,
    mask_log, mask_cells, mask_cel, mask_poison, mask_out, ite_mask, ite_ok, ite_self, foldl_ok, foldl_mask,
    implies_true, *]

theorem execVimul_ok (cell : Nat) (s : State) (G : Fields) :
    G.regs → G.tim → G.hif → G.log → G.cells → G.cel → G.poison → G.out → (s.mask G).memoriesOk → ∀ t, execVimul cell
      s = .next t → (t.mask G).memoriesOk := by
  intros; rename_i h; injection h with h; subst h; simp only [State.laneOp2_ok, mask_regs, mask_tim, mask_hif,
    mask_log, mask_cells, mask_cel, mask_poison, mask_out, ite_mask, ite_ok, ite_self, foldl_ok, foldl_mask,
    implies_true, *]

theorem execVand_ok (cell : Nat) (s : State) (G : Fields) :
    G.regs → G.tim → G.hif → G.log → G.cells → G.cel → G.poison → G.out → (s.mask G).memoriesOk → ∀ t, execVand cell
      s = .next t → (t.mask G).memoriesOk := by
  intros; rename_i h; injection h with h; subst h; simp only [State.laneOp2_ok, mask_regs, mask_tim, mask_hif,
    mask_log, mask_cells, mask_cel, mask_poison, mask_out, ite_mask, ite_ok, ite_self, foldl_ok, foldl_mask,
    implies_true, *]

theorem execVor_ok (cell : Nat) (s : State) (G : Fields) :
    G.regs → G.tim → G.hif → G.log → G.cells → G.cel → G.poison → G.out → (s.mask G).memoriesOk → ∀ t, execVor cell s
      = .next t → (t.mask G).memoriesOk := by
  intros; rename_i h; injection h with h; subst h; simp only [State.laneOp2_ok, mask_regs, mask_tim, mask_hif,
    mask_log, mask_cells, mask_cel, mask_poison, mask_out, ite_mask, ite_ok, ite_self, foldl_ok, foldl_mask,
    implies_true, *]

theorem execVxor_ok (cell : Nat) (s : State) (G : Fields) :
    G.regs → G.tim → G.hif → G.log → G.cells → G.cel → G.poison → G.out → (s.mask G).memoriesOk → ∀ t, execVxor cell
      s = .next t → (t.mask G).memoriesOk := by
  intros; rename_i h; injection h with h; subst h; simp only [State.laneOp2_ok, mask_regs, mask_tim, mask_hif,
    mask_log, mask_cells, mask_cel, mask_poison, mask_out, ite_mask, ite_ok, ite_self, foldl_ok, foldl_mask,
    implies_true, *]

theorem State.vecShift_ok (s : State) (cell : Nat) (op : Nat) (left : Bool) (G : Fields) :
    G.regs → G.tim → G.hif → G.log → G.cells → G.cel → G.poison → G.out → G.free → (s.mask G).memoriesOk →
      ((State.vecShift s cell op left).mask G).memoriesOk := by
  intros; unfold State.vecShift
  apply State.issue_ok <;> (try assumption) <;> intros <;> (try dsimp only) <;> (repeat' split) <;> simp only
    [State.shiftLanes_mask, State.cellFault_mask, State.issue_ok, State.wrVx_ok, mask_regs, mask_tim, mask_hif,
    mask_log, mask_cells, mask_cel, mask_poison, mask_out, mask_free, ite_mask, ite_ok, ite_self, foldl_ok,
    foldl_mask, implies_true, *]

theorem execVshl_ok (cell : Nat) (s : State) (G : Fields) :
    G.regs → G.tim → G.hif → G.log → G.cells → G.cel → G.poison → G.out → G.free → (s.mask G).memoriesOk → ∀ t,
      execVshl cell s = .next t → (t.mask G).memoriesOk := by
  intros; rename_i h; injection h with h; subst h; simp only [State.vecShift_ok, mask_regs, mask_tim, mask_hif,
    mask_log, mask_cells, mask_cel, mask_poison, mask_out, mask_free, ite_mask, ite_ok, ite_self, foldl_ok,
    foldl_mask, implies_true, *]

theorem execVshr_ok (cell : Nat) (s : State) (G : Fields) :
    G.regs → G.tim → G.hif → G.log → G.cells → G.cel → G.poison → G.out → G.free → (s.mask G).memoriesOk → ∀ t,
      execVshr cell s = .next t → (t.mask G).memoriesOk := by
  intros; rename_i h; injection h with h; subst h; simp only [State.vecShift_ok, mask_regs, mask_tim, mask_hif,
    mask_log, mask_cells, mask_cel, mask_poison, mask_out, mask_free, ite_mask, ite_ok, ite_self, foldl_ok,
    foldl_mask, implies_true, *]

theorem execVcmp_ok (cell : Nat) (s : State) (G : Fields) :
    G.regs → G.tim → G.hif → G.log → G.cells → G.cel → G.poison → G.out → (s.mask G).memoriesOk → ∀ t, execVcmp cell
      s = .next t → (t.mask G).memoriesOk := by
  intros; rename_i h; obtain rfl := Host.Outcome.next.inj h
  apply State.issue_ok <;> (try assumption) <;> intros <;> (try dsimp only) <;> (repeat' split) <;> simp only
    [State.setCell_mask, State.cellFault_mask, State.issue_ok, State.step1_mask, State.runFlags_mask, mask_regs,
    mask_tim, mask_hif, mask_log, mask_cells, mask_cel, mask_poison, mask_out, ite_mask, ite_ok, ite_self, foldl_ok,
    foldl_mask, implies_true, *]

theorem execVsel_ok (cell : Nat) (s : State) (G : Fields) :
    G.regs → G.tim → G.hif → G.log → G.cells → G.cel → G.poison → G.out → (s.mask G).memoriesOk → ∀ t, execVsel cell
      s = .next t → (t.mask G).memoriesOk := by
  intros; rename_i h; obtain rfl := Host.Outcome.next.inj h
  apply State.issue_ok <;> (try assumption) <;> intros <;> (try dsimp only) <;> (repeat' split) <;> simp only
    [State.cellFault_mask, State.issue_ok, State.wrVx_ok, mask_regs, mask_tim, mask_hif, mask_log, mask_cells,
    mask_cel, mask_poison, mask_out, ite_mask, ite_ok, ite_self, foldl_ok, foldl_mask, implies_true, *]

theorem execVcvt_ok (cell : Nat) (s : State) (G : Fields) :
    G.regs → G.tim → G.hif → G.log → G.cells → G.cel → G.poison → G.out → G.free → (s.mask G).memoriesOk → ∀ t,
      execVcvt cell s = .next t → (t.mask G).memoriesOk := by
  intros; rename_i h; obtain rfl := Host.Outcome.next.inj h
  apply State.issue_ok <;> (try assumption) <;> intros
  split
  · simp only [State.cellFault_mask, *]
  · dsimp only
    simp only [State.wrVx_mask, State.runFlags_mask, *]
    rw [foldl_snd_mask]
    · assumption
    · intros; split <;> simp only [State.freeWord_mask, *]

theorem execVbscale_ok (cell : Nat) (s : State) (G : Fields) :
    G.regs → G.tim → G.hif → G.log → G.cells → G.cel → G.poison → G.out → G.free → (s.mask G).memoriesOk → ∀ t,
      execVbscale cell s = .next t → (t.mask G).memoriesOk := by
  intros; rename_i h; obtain rfl := Host.Outcome.next.inj h
  apply State.issue_ok <;> (try assumption) <;> intros <;> (try dsimp only) <;> (repeat' split) <;> simp only
    [State.cellFault_mask, State.issue_ok, State.runFlags_mask, State.wrSx_mask, State.freeWord_mask, mask_regs,
    mask_tim, mask_hif, mask_log, mask_cells, mask_cel, mask_poison, mask_out, mask_free, ite_mask, ite_ok, ite_self,
    foldl_ok, foldl_mask, implies_true, *]

theorem execVhash_ok (cell : Nat) (s : State) (G : Fields) :
    G.regs → G.tim → G.hif → G.log → G.cells → G.cel → G.poison → G.out → (s.mask G).memoriesOk → ∀ t, execVhash cell
      s = .next t → (t.mask G).memoriesOk := by
  intros; rename_i h; obtain rfl := Host.Outcome.next.inj h
  apply State.issue_ok <;> (try assumption) <;> intros <;> (try dsimp only) <;> (repeat' split) <;> simp only
    [State.cellFault_mask, State.issue_ok, State.wrVx_ok, mask_regs, mask_tim, mask_hif, mask_log, mask_cells,
    mask_cel, mask_poison, mask_out, ite_mask, ite_ok, ite_self, foldl_ok, foldl_mask, implies_true, *]

theorem execVld_ok (cell : Nat) (s : State) (G : Fields) :
    G.regs → G.tim → G.hif → G.log → G.cells → G.cel → G.poison → G.out → (s.mask G).memoriesOk → ∀ t, execVld cell s
      = .next t → (t.mask G).memoriesOk := by
  intros; rename_i h; obtain rfl := Host.Outcome.next.inj h
  apply State.issue_ok <;> (try assumption) <;> intros <;> (try dsimp only) <;> (repeat' split) <;> simp only
    [State.cellFault_mask, State.issue_ok, State.wrVx_ok, State.correct_ok, mask_regs, mask_tim, mask_hif, mask_log,
    mask_cells, mask_cel, mask_poison, mask_out, ite_mask, ite_ok, ite_self, foldl_ok, foldl_mask, implies_true, *]

theorem execVst_ok (cell : Nat) (s : State) (G : Fields) :
    G.regs → G.tim → G.hif → G.log → G.cells → G.cel → G.poison → G.out → (s.mask G).memoriesOk → ∀ t, execVst cell s
      = .next t → (t.mask G).memoriesOk := by
  intros; rename_i h; injection h with h; subst h; apply State.issue_ok <;> (try assumption) <;> intros <;> dsimp
    only <;> (repeat' split) <;> simp only [State.cellFault_mask, State.issue_ok, State.step1_mask,
      State.runFlags_mask, State.wr_ok, mask_regs, mask_tim, mask_hif, mask_log, mask_cells, mask_cel, mask_poison,
      mask_out, ite_mask, ite_ok, ite_self, foldl_ok, foldl_mask, implies_true, *]

theorem State.correctLanes_ok (s : State) (x : Cell) (i : Ins) (cell : Nat) (G : Fields) :
    G.regs → G.hif → G.poison → G.out → (s.mask G).memoriesOk → ((State.correctLanes s x i cell).mask G).memoriesOk
      := by
  intros; unfold State.correctLanes; apply foldl_ok <;> intros <;> (try dsimp only) <;> (repeat' split) <;> simp only
    [State.correct_ok, mask_regs, mask_hif, mask_poison, mask_out, ite_mask, ite_ok, ite_self, foldl_ok, foldl_mask,
    implies_true, *]

theorem execVldx_ok (cell : Nat) (s : State) (G : Fields) :
    G.regs → G.tim → G.hif → G.log → G.cells → G.cel → G.poison → G.out → (s.mask G).memoriesOk → ∀ t, execVldx cell
      s = .next t → (t.mask G).memoriesOk := by
  intros; rename_i h; obtain rfl := Host.Outcome.next.inj h
  apply State.issue_ok <;> (try assumption) <;> intros <;> (try dsimp only) <;> (repeat' split) <;> simp only
    [State.correctLanes_ok, State.cellFault_mask, State.issue_ok, State.wrVx_ok, mask_regs, mask_tim, mask_hif,
    mask_log, mask_cells, mask_cel, mask_poison, mask_out, ite_mask, ite_ok, ite_self, foldl_ok, foldl_mask,
    implies_true, *]

theorem execVstx_ok (cell : Nat) (s : State) (G : Fields) :
    G.regs → G.tim → G.hif → G.log → G.cells → G.cel → G.poison → G.out → (s.mask G).memoriesOk → ∀ t, execVstx cell
      s = .next t → (t.mask G).memoriesOk := by
  intros; rename_i h; obtain rfl := Host.Outcome.next.inj h; clear h
  apply State.issue_ok <;> (try assumption) <;> intros
  rw [ite_mask, ite_ok]
  split
  · simp only [State.cellFault_mask, State.issue_ok, State.step1_mask, State.wr_ok, mask_regs, mask_tim, mask_hif,
    mask_log, mask_cells, mask_cel, mask_poison, mask_out, ite_mask, ite_ok, ite_self, foldl_ok, foldl_mask,
    implies_true, *]
  dsimp only
  rename_i y0 y1 y2 y3 _ _
  generalize y3.laneFault _ _ _ _ = o
  cases o
  · dsimp only
    rw [State.step1_mask _ _ _ _ (by assumption)]
    apply foldl_ok _ _ _ (by assumption)
    intros; simp only [State.cellFault_mask, State.issue_ok, State.step1_mask, State.wr_ok, mask_regs, mask_tim,
      mask_hif, mask_log, mask_cells, mask_cel, mask_poison, mask_out, ite_mask, ite_ok, ite_self, foldl_ok,
      foldl_mask, implies_true, *]
  · simp only [State.cellFault_mask, State.issue_ok, State.step1_mask, State.wr_ok, mask_regs, mask_tim, mask_hif,
    mask_log, mask_cells, mask_cel, mask_poison, mask_out, ite_mask, ite_ok, ite_self, foldl_ok, foldl_mask,
    implies_true, *]

theorem execVaddx_ok (cell : Nat) (s : State) (G : Fields) :
    G.regs → G.tim → G.hif → G.log → G.cells → G.cel → G.poison → G.out → (s.mask G).memoriesOk → ∀ t, execVaddx cell
      s = .next t → (t.mask G).memoriesOk := by
  intros; rename_i h; obtain rfl := Host.Outcome.next.inj h
  apply State.issue_ok <;> (try assumption) <;> intros
  dsimp only
  split
  · simp only [State.issue_ok, State.cellFault_mask, State.wr_ok, State.runFlags_mask, State.correctLanes_ok,
    State.step1_mask, mask_regs, mask_tim, mask_hif, mask_log, mask_cells, mask_cel, mask_poison, mask_out, ite_mask,
    ite_ok, ite_self, foldl_ok, foldl_mask, implies_true, *]
  split
  · simp only [State.issue_ok, State.cellFault_mask, State.wr_ok, State.runFlags_mask, State.correctLanes_ok,
    State.step1_mask, mask_regs, mask_tim, mask_hif, mask_log, mask_cells, mask_cel, mask_poison, mask_out, ite_mask,
    ite_ok, ite_self, foldl_ok, foldl_mask, implies_true, *]
  · rw [State.step1_mask _ _ _ _ (by assumption)]
    apply foldl_ok
    · intros; split <;> simp only [State.issue_ok, State.cellFault_mask, State.wr_ok, State.runFlags_mask,
      State.correctLanes_ok, State.step1_mask, mask_regs, mask_tim, mask_hif, mask_log, mask_cells, mask_cel,
      mask_poison, mask_out, ite_mask, ite_ok, ite_self, foldl_ok, foldl_mask, implies_true, *]
    · simp only [State.issue_ok, State.cellFault_mask, State.wr_ok, State.runFlags_mask, State.correctLanes_ok,
      State.step1_mask, mask_regs, mask_tim, mask_hif, mask_log, mask_cells, mask_cel, mask_poison, mask_out, ite_mask,
      ite_ok, ite_self, foldl_ok, foldl_mask, implies_true, *]

theorem execSend_ok (cell : Nat) (s : State) (G : Fields) :
    G.regs → G.tim → G.hif → G.log → G.cells → G.cel → G.poison → G.out → (s.mask G).memoriesOk → ∀ t, execSend cell
      s = .next t → (t.mask G).memoriesOk := by
  intros; rename_i h; obtain rfl := Host.Outcome.next.inj h
  apply State.issue_ok <;> (try assumption) <;> intros <;> (try dsimp only) <;> (repeat' split) <;> simp only
    [State.cellFault_mask, State.issue_ok, State.step1_mask, mask_regs, mask_tim, mask_hif, mask_log, mask_cells,
    mask_cel, mask_poison, mask_out, ite_mask, ite_ok, ite_self, foldl_ok, foldl_mask, implies_true, *]

theorem execRecv_ok (cell : Nat) (s : State) (G : Fields) :
    G.regs → G.tim → G.hif → G.log → G.cells → G.cel → G.poison → G.out → (s.mask G).memoriesOk → ∀ t, execRecv cell
      s = .next t → (t.mask G).memoriesOk := by
  intros; rename_i h; obtain rfl := Host.Outcome.next.inj h
  split
  · assumption
  apply State.issue_ok <;> (try assumption) <;> intros
  dsimp only
  split
  · simp only [State.issue_ok, State.cellFault_mask, State.recvStall_mask, State.toCyc_mask, State.setCell_mask,
    State.wrVx_ok, mask_regs, mask_tim, mask_hif, mask_log, mask_cells, mask_cel, mask_poison, mask_out, ite_mask,
    ite_ok, ite_self, foldl_ok, foldl_mask, implies_true, *]
  split
  · assumption
  split <;> simp only [State.issue_ok, State.cellFault_mask, State.recvStall_mask, State.toCyc_mask,
    State.setCell_mask, State.wrVx_ok, mask_regs, mask_tim, mask_hif, mask_log, mask_cells, mask_cel, mask_poison,
    mask_out, ite_mask, ite_ok, ite_self, foldl_ok, foldl_mask, implies_true, *]

theorem execRecvTimeout_ok (cell : Nat) (s : State) (G : Fields) :
    G.regs → G.tim → G.hif → G.log → G.cells → G.cel → G.poison → G.out → (s.mask G).memoriesOk → ∀ t,
      execRecvTimeout cell s = .next t → (t.mask G).memoriesOk := by
  intros; rename_i h; obtain rfl := Host.Outcome.next.inj h
  simp +contextual only [State.cellFault_mask, State.issue_ok, State.recvStall_mask, mask_regs, mask_tim, mask_hif,
    mask_log, mask_cells, mask_cel, mask_poison, mask_out, ite_mask, ite_ok, ite_self, foldl_ok, foldl_mask,
    implies_true, *]

theorem execLoop_ok (cell : Nat) (s : State) (G : Fields) :
    G.regs → G.tim → G.hif → G.log → G.cells → G.cel → G.poison → G.out → (s.mask G).memoriesOk → ∀ t, execLoop cell
      s = .next t → (t.mask G).memoriesOk := by
  intros; rename_i h; obtain rfl := Host.Outcome.next.inj h
  apply State.issue_ok <;> (try assumption) <;> intros <;> (try dsimp only) <;> (repeat' split) <;> simp only
    [State.setCell_mask, State.cellFault_mask, State.issue_ok, State.step1_mask, mask_regs, mask_tim, mask_hif,
    mask_log, mask_cells, mask_cel, mask_poison, mask_out, ite_mask, ite_ok, ite_self, foldl_ok, foldl_mask,
    implies_true, *]

theorem execWaitc_ok (cell : Nat) (s : State) (G : Fields) :
    G.regs → G.tim → G.hif → G.log → G.cells → G.cel → G.poison → G.out → (s.mask G).memoriesOk → ∀ t, execWaitc cell
      s = .next t → (t.mask G).memoriesOk := by
  intros; rename_i h; obtain rfl := Host.Outcome.next.inj h
  apply State.issue_ok <;> (try assumption) <;> intros <;> (try dsimp only) <;> (repeat' split) <;> simp only
    [State.setCell_mask, State.celEvt_mask, State.issue_ok, State.bump_mask, mask_regs, mask_tim, mask_hif, mask_log,
    mask_cells, mask_cel, mask_poison, mask_out, ite_mask, ite_ok, ite_self, foldl_ok, foldl_mask, implies_true, *]

theorem execIfill_ok (cell : Nat) (s : State) (G : Fields) :
    G.regs → G.tim → G.hif → G.log → G.cells → G.cel → G.poison → G.out → (s.mask G).memoriesOk → ∀ t, execIfill cell
      s = .next t → (t.mask G).memoriesOk := by
  intros; rename_i h; injection h with h; subst h; apply State.issue_ok <;> (try assumption) <;> intros <;> (repeat'
    split) <;> simp only [State.setCell_mask, State.fillLines_ok, State.cellFault_mask, State.issue_ok, mask_regs,
      mask_tim, mask_hif, mask_log, mask_cells, mask_cel, mask_poison, mask_out, ite_mask, ite_ok, ite_self,
      foldl_ok, foldl_mask, implies_true, *]

theorem execHalt_ok (cell : Nat) (ok : Bool) (s : State) (G : Fields) :
    G.regs → G.tim → G.hif → G.log → G.lrep → G.streams → G.pager0 → G.pager1 → G.cells → G.cel → G.tokens → G.poison
      → G.out → (s.mask G).memoriesOk → ∀ t, execHalt cell ok s = .next t → (t.mask G).memoriesOk := by
  intros; rename_i h; obtain rfl := Host.Outcome.next.inj h
  apply State.issue_ok <;> (try assumption) <;> intros <;> (try dsimp only) <;> (repeat' split) <;> simp only
    [State.setCell_mask, State.setRun_mask, State.finish_mask, State.issue_ok, mask_regs, mask_tim, mask_hif,
    mask_log, mask_lrep, mask_streams, mask_pager0, mask_pager1, mask_cells, mask_cel, mask_tokens, mask_poison,
    mask_out, ite_mask, ite_ok, ite_self, foldl_ok, foldl_mask, implies_true, *]

theorem execIllegalOpcode_ok (cell : Nat) (s : State) (G : Fields) :
    G.regs → G.tim → G.hif → G.log → G.cells → G.cel → G.poison → G.out → (s.mask G).memoriesOk → ∀ t,
      execIllegalOpcode cell s = .next t → (t.mask G).memoriesOk := by
  intros; rename_i h; obtain rfl := Host.Outcome.next.inj h
  apply State.issue_ok <;> (try assumption) <;> intros <;> (try dsimp only) <;> (repeat' split) <;> simp only
    [State.cellFault_mask, State.issue_ok, mask_regs, mask_tim, mask_hif, mask_log, mask_cells, mask_cel,
    mask_poison, mask_out, ite_mask, ite_ok, ite_self, foldl_ok, foldl_mask, implies_true, *]

theorem State.gpost_ok (s : State) (cell : Nat) (cmd : Nat) (body : Ins → Run → Nat → Nat → State → State) (G : Fields) :
    G.regs → G.tim → G.hif → G.log → G.cells → G.cel → G.poison → G.out → (∀ (y0 : Ins) (y1 : Run) (y2 : Nat) (y3 :
      Nat) (y4 : State), (y4.mask G).memoriesOk → ((body y0 y1 y2 y3 y4).mask G).memoriesOk) → (s.mask G).memoriesOk
      → ((State.gpost s cell cmd body).mask G).memoriesOk := by
  intros _ _ _ _ _ _ _ _ hb _; unfold State.gpost
  apply State.issue_ok <;> (try assumption) <;> intros
  dsimp only
  (repeat' split) <;> (try simp only [State.cellFault_mask, *]; done) <;> rename_i e _ _ <;>
    have := State.post_mask _ _ _ _ G (by assumption) _ e <;> rw [State.step1_mask _ _ _ _ (by assumption)] <;>
    apply hb <;> simp only [this, State.correct_ok, *]

theorem execGpostEmitSched_ok (cell : Nat) (s : State) (G : Fields) :
    G.regs → G.tim → G.hif → G.log → G.subs → G.rte → G.cells → G.cel → G.poison → G.out → (s.mask G).memoriesOk → ∀
      t, execGpostEmitSched cell s = .next t → (t.mask G).memoriesOk := by
  intros; rename_i h; obtain rfl := Host.Outcome.next.inj h
  apply State.gpost_ok <;> (try assumption) <;> intros <;> (try dsimp only) <;> (repeat' split) <;> simp only
    [State.gpost_ok, State.emission_mask, State.drop_mask, State.originateSched_mask, mask_regs, mask_tim, mask_hif,
    mask_log, mask_subs, mask_rte, mask_cells, mask_cel, mask_poison, mask_out, ite_mask, ite_ok, ite_self, foldl_ok,
    foldl_mask, implies_true, *]

theorem execGpostEmitUnsched_ok (cell : Nat) (s : State) (G : Fields) :
    G.regs → G.tim → G.hif → G.log → G.rte → G.cells → G.cel → G.poison → G.out → (s.mask G).memoriesOk → ∀ t,
      execGpostEmitUnsched cell s = .next t → (t.mask G).memoriesOk := by
  intros; rename_i h; obtain rfl := Host.Outcome.next.inj h
  apply State.gpost_ok <;> (try assumption) <;> intros <;> (try dsimp only) <;> (repeat' split) <;> simp only
    [State.gpost_ok, State.emission_mask, State.drop_mask, State.originateAt_mask, State.setRun_mask, mask_regs,
    mask_tim, mask_hif, mask_log, mask_rte, mask_cells, mask_cel, mask_poison, mask_out, ite_mask, ite_ok, ite_self,
    foldl_ok, foldl_mask, implies_true, *]

theorem State.pfSooner_ok (s : State) (j : PfJob) (die : Nat) (G : Fields) :
    (s.mask G).memoriesOk → ((State.pfSooner s j die).mask G).memoriesOk := by
  intros; simp only [State.pfSooner, writes_ok, ite_mask, ite_ok, ite_self, foldl_ok, foldl_mask, implies_true, *]

theorem State.pfEnd_ok (s : State) (j : PfJob) (die : Nat) (G : Fields) :
    G.regs → G.hif → G.log → G.poison → G.out → (s.mask G).memoriesOk → ((State.pfEnd s j die).mask G).memoriesOk :=
      by
  intros; simp only [State.pfEnd, State.correct_ok, State.pfSooner_ok, State.bump_mask,
    State.bump64_mask, State.hbmBad_mask, mask_regs, mask_hif, mask_log, mask_poison, mask_out, ite_mask, ite_ok,
    ite_self, foldl_ok, foldl_mask, implies_true, *]

theorem State.pfTo_ok (s : State) (die : Nat) (m : Nat) (G : Fields) :
    G.regs → G.hif → G.log → G.pf0 → G.pf1 → G.poison → G.out → (s.mask G).memoriesOk → ((State.pfTo s die m).mask
      G).memoriesOk := by
  intros; unfold State.pfTo; apply foldl_ok <;> intros <;> (try dsimp only) <;> (repeat' split) <;> simp only
    [State.setPf_mask, State.pfEnd_ok, mask_regs, mask_hif, mask_log, mask_pf0, mask_pf1, mask_poison, mask_out,
    ite_mask, ite_ok, ite_self, foldl_ok, foldl_mask, implies_true, *]

theorem execGpostFetch_ok (cell : Nat) (s : State) (G : Fields) :
    G.regs → G.tim → G.hif → G.log → G.cells → G.cel → G.pf0 → G.pf1 → G.poison → G.out → (s.mask G).memoriesOk → ∀
      t, execGpostFetch cell s = .next t → (t.mask G).memoriesOk := by
  intros; rename_i h; obtain rfl := Host.Outcome.next.inj h
  apply State.gpost_ok <;> (try assumption) <;> intros
  dsimp only
  apply foldl_ok
  · intros; simp only [State.gpost_ok, State.pfTo_ok, State.gwTake_mask, State.gwSlip_mask, State.correct_ok,
    State.sendWrite_ok, State.toCyc_mask, mask_regs, mask_tim, mask_hif, mask_log, mask_cells, mask_cel, mask_pf0,
    mask_pf1, mask_poison, mask_out, ite_mask, ite_ok, ite_self, foldl_ok, foldl_mask, implies_true, *]
  · simp only [State.gpost_ok, State.pfTo_ok, State.gwTake_mask, State.gwSlip_mask, State.correct_ok,
    State.sendWrite_ok, State.toCyc_mask, mask_regs, mask_tim, mask_hif, mask_log, mask_cells, mask_cel, mask_pf0,
    mask_pf1, mask_poison, mask_out, ite_mask, ite_ok, ite_self, foldl_ok, foldl_mask, implies_true, *]

theorem execGpostPut_ok (cell : Nat) (s : State) (G : Fields) :
    G.regs → G.tim → G.hif → G.log → G.cells → G.cel → G.poison → G.out → (s.mask G).memoriesOk → ∀ t, execGpostPut
      cell s = .next t → (t.mask G).memoriesOk := by
  intros; rename_i h; obtain rfl := Host.Outcome.next.inj h
  apply State.gpost_ok <;> (try assumption) <;> intros
  dsimp only
  apply foldl_ok
  · intros; simp only [State.gpost_ok, State.sendWrite_ok, mask_regs, mask_tim, mask_hif, mask_log, mask_cells,
    mask_cel, mask_poison, mask_out, ite_mask, ite_ok, ite_self, foldl_ok, foldl_mask, implies_true, *]
  · assumption

theorem State.deposit_ok (s : State) (d : Deposit) (cs : List Nat) (G : Fields) :
    G.regs → G.cel → (s.mask G).memoriesOk → ((State.deposit s d cs).mask G).memoriesOk := by
  intros; unfold State.deposit; (try dsimp only); (repeat' split) <;> simp +contextual only [State.sendWrite_ok,
    State.bump_mask, mask_regs, mask_cel, ite_mask, ite_ok, ite_self, foldl_ok, foldl_mask, implies_true, *]

theorem State.gwShift_ok (s : State) (cl : Nat) (mv : List (Nat × Nat)) (G : Fields) :
    G.cel → (s.mask G).memoriesOk → ((State.gwShift s cl mv).mask G).memoriesOk := by
  intros; assumption

theorem State.gwSched_ok (s : State) (cl : Nat) (want : Nat) (n : Nat) (G : Fields) :
    G.regs → G.hif → G.cel → G.out → (s.mask G).memoriesOk → ((State.gwSched s cl want n).2.mask G).memoriesOk := by
  intros; simp only [State.gwSched, State.gwSlip_mask, State.gwShift_ok, mask_regs, mask_hif, mask_cel, mask_out,
    ite_mask, ite_ok, ite_self, foldl_ok, foldl_mask, implies_true, *]

theorem execGatewayDeposit_ok (cl : Nat) (s : State) (G : Fields) :
    G.regs → G.tim → G.hif → G.cel → G.out → (s.mask G).memoriesOk → ∀ t, execGatewayDeposit cl s = .next t → (t.mask
      G).memoriesOk := by
  intros; rename_i h; obtain rfl := Host.Outcome.next.inj h; clear h
  repeat' split
  · dsimp only
    rw [State.toCyc_mask _ _ _ (by assumption)]
    apply State.deposit_ok <;> (try assumption)
    apply State.gwSched_ok <;> (try assumption)
  · dsimp only
    rw [State.toCyc_mask _ _ _ (by assumption)]
    apply State.deposit_ok <;> (try assumption)
  · assumption

theorem State.fireTrigger_ok (s : State) (k : Nat) (l : Launch) (f : Nat) (G : Fields) :
    G.regs → G.tim → G.hif → G.cells → G.cel → G.groups → G.poison → G.out → (s.mask G).memoriesOk →
      ((State.fireTrigger s k l f).mask G).memoriesOk := by
  intros; unfold State.fireTrigger; dsimp only; (repeat' split) <;> simp only [State.toCyc_mask, State.arm_mask,
    State.stageBad_mask, State.refuseLaunch_mask, State.startLaunch_ok, mask_regs, mask_tim, mask_hif, mask_cells,
    mask_cel, mask_groups, mask_poison, mask_out, ite_mask, ite_ok, ite_self, foldl_ok, foldl_mask, implies_true, *]

theorem execTriggerLaunch_ok (k : Nat) (s : State) (G : Fields) :
    G.regs → G.tim → G.hif → G.cells → G.cel → G.groups → G.poison → G.out → (s.mask G).memoriesOk → ∀ t,
      execTriggerLaunch k s = .next t → (t.mask G).memoriesOk := by
  intros; rename_i h; injection h with h; subst h; (repeat' split) <;> simp only [State.fireTrigger_ok, mask_regs,
    mask_tim, mask_hif, mask_cells, mask_cel, mask_groups, mask_poison, mask_out, ite_mask, ite_ok, ite_self, foldl_ok,
    foldl_mask, implies_true, *]

theorem execQueuedTriggerStart_ok (cl : Nat) (s : State) (G : Fields) :
    G.regs → G.tim → G.hif → G.cells → G.cel → G.groups → G.poison → G.out → (s.mask G).memoriesOk → ∀ t,
      execQueuedTriggerStart cl s = .next t → (t.mask G).memoriesOk := by
  intros; rename_i h; injection h with h; subst h; (repeat' split) <;> simp only [State.fireTrigger_ok,
    State.enterQueue_mask, mask_regs, mask_tim, mask_hif, mask_cells, mask_cel, mask_groups, mask_poison, mask_out,
    ite_mask, ite_ok, ite_self, foldl_ok, foldl_mask, implies_true, *]

theorem State.startStage_ok (s : State) (g : Nat) (x : Group) (iter : Nat) (fire : Nat) (G : Fields) :
    G.regs → G.hif → G.cells → G.cel → G.poison → G.out → (s.mask G).memoriesOk → ((State.startStage s g x iter
      fire).2.mask G).memoriesOk := by
  intros; unfold State.startStage; apply foldl_snd_ok
  · intros; split <;> simp only [State.startLaunch_ok, State.refuseLaunch_mask, *]
  · assumption

theorem State.colLaunch_ok (s : State) (g : Nat) (iter : Nat) (fire : Nat) (G : Fields) :
    G.regs → G.tim → G.hif → G.log → G.subs → G.rte → G.cells → G.cel → G.groups → G.poison → G.out → G.free →
      (s.mask G).memoriesOk → ((State.colLaunch s g iter fire).mask G).memoriesOk := by
  intros; unfold State.colLaunch; dsimp only; (repeat' split) <;> simp only [State.spend_mask, State.colEvt_mask,
    State.bump_mask, State.startStage_ok, State.armGroup_mask, State.setGrp_mask, State.colEarly_mask,
    State.colFailFree_mask, State.colLate_mask, mask_regs, mask_tim, mask_hif, mask_log, mask_subs, mask_rte,
    mask_cells, mask_cel, mask_groups, mask_poison, mask_out, mask_free, ite_mask, ite_ok, ite_self, foldl_ok,
    foldl_mask, implies_true, *]

theorem State.mxuCorrect_ok (s : State) (d : List Nat) (G : Fields) :
    G.regs → G.hif → G.poison → G.out → (s.mask G).memoriesOk → ((State.mxuCorrect s d).mask G).memoriesOk := by
  intros; unfold State.mxuCorrect
  split
  · assumption
  have spans : ∀ (l : List Span) (s : State), (s.mask G).memoriesOk → ((l.foldl (fun s x => (List.range x.rows).foldl
      (fun s r => s.correct (opKey (dUnit d) x.key + x.pitch * r) x.len) s) s).mask G).memoriesOk := by
    intros; apply foldl_ok <;> intros
    · apply foldl_ok <;> intros <;> simp only [State.correct_ok, *]
    · assumption
  dsimp only
  apply foldl_ok
  · intros; simp only [State.correct_ok, *]
  · split <;> simp only [State.correct_ok, spans, *]

theorem State.mxuWrites_ok (s : State) (u : Nat) (r : MxuRun) (G : Fields) :
    (s.mask G).memoriesOk → ((State.mxuWrites s u r).mask G).memoriesOk := by
  intros; unfold State.mxuWrites
  dsimp only
  apply foldl_ok
  · intros; simp only [State.sendWrite_ok, *]
  · apply foldl_ok <;> intros
    · apply foldl_ok <;> intros <;> simp only [State.sendWrite_ok, *]
    · assumption

theorem State.startMxu_ok (s : State) (u : Nat) (r : MxuRun) (G : Fields) :
    G.regs → G.tim → G.hif → G.log → G.streams → G.pager0 → G.pager1 → G.mxu → G.pf0 → G.pf1 → G.poison → G.out →
      (s.mask G).memoriesOk → ((State.startMxu s u r).mask G).memoriesOk := by
  intros; unfold State.startMxu
  have h1 : (((s.advTo (6 * r.t0)).pagerTo (u / 4) r.t0).mask G).memoriesOk := by
    simp only [State.pfTo_ok, State.pagerTo_ok, State.advTo_mask, State.setFld_mask, State.bump_mask,
      State.mxuEvt_mask, State.hbmBad_mask, State.setMx_mask, State.mxuWrites_ok, State.zero_ok, State.mxuCorrect_ok,
      mask_regs, mask_tim, mask_hif, mask_log, mask_streams, mask_pager0, mask_pager1, mask_mxu, mask_pf0, mask_pf1,
      mask_poison, mask_out, ite_mask, ite_ok, ite_self, foldl_ok, foldl_mask, implies_true, *]
  generalize (s.advTo (6 * r.t0)).pagerTo (u / 4) r.t0 = s1 at h1 ⊢
  have h2 : ((s1.pfTo (u / 4) r.t0).mask G).memoriesOk := by simp only [State.pfTo_ok, State.pagerTo_ok,
    State.advTo_mask, State.setFld_mask, State.bump_mask, State.mxuEvt_mask, State.hbmBad_mask, State.setMx_mask,
    State.mxuWrites_ok, State.zero_ok, State.mxuCorrect_ok, mask_regs, mask_tim, mask_hif, mask_log, mask_streams,
    mask_pager0, mask_pager1, mask_mxu, mask_pf0, mask_pf1, mask_poison, mask_out, ite_mask, ite_ok, ite_self,
    foldl_ok, foldl_mask, implies_true, *]
  generalize s1.pfTo (u / 4) r.t0 = s2 at h2 ⊢
  dsimp only
  rw [State.setMx_mask _ _ _ _ (by assumption)]
  apply State.mxuWrites_ok <;> (try assumption)
  apply State.zero_ok <;> (try assumption)
  apply State.mxuCorrect_ok <;> (try assumption)
  split
  · split <;> simp only [State.pfTo_ok, State.pagerTo_ok, State.advTo_mask, State.setFld_mask, State.bump_mask,
    State.mxuEvt_mask, State.hbmBad_mask, State.setMx_mask, State.mxuWrites_ok, State.zero_ok, State.mxuCorrect_ok,
    mask_regs, mask_tim, mask_hif, mask_log, mask_streams, mask_pager0, mask_pager1, mask_mxu, mask_pf0, mask_pf1,
    mask_poison, mask_out, ite_mask, ite_ok, ite_self, foldl_ok, foldl_mask, implies_true, *]
  · simp only [State.pfTo_ok, State.pagerTo_ok, State.advTo_mask, State.setFld_mask, State.bump_mask,
    State.mxuEvt_mask, State.hbmBad_mask, State.setMx_mask, State.mxuWrites_ok, State.zero_ok, State.mxuCorrect_ok,
    mask_regs, mask_tim, mask_hif, mask_log, mask_streams, mask_pager0, mask_pager1, mask_mxu, mask_pf0, mask_pf1,
    mask_poison, mask_out, ite_mask, ite_ok, ite_self, foldl_ok, foldl_mask, implies_true, *]

theorem execMxuStart_ok (u : Nat) (s : State) (G : Fields) :
    G.regs → G.tim → G.hif → G.log → G.lrep → G.streams → G.pager0 → G.pager1 → G.mxu → G.tokens → G.pf0 → G.pf1 →
      G.poison → G.out → (s.mask G).memoriesOk → ∀ t, execMxuStart u s = .next t → (t.mask G).memoriesOk := by
  intros; rename_i h; injection h with h; subst h; (repeat' split) <;> simp only [State.pageFail_mask,
    State.setMx_mask, State.advTo_mask, State.startMxu_ok, mask_regs, mask_tim, mask_hif, mask_log, mask_lrep,
    mask_streams, mask_pager0, mask_pager1, mask_mxu, mask_tokens, mask_pf0, mask_pf1, mask_poison, mask_out, ite_mask,
    ite_ok, ite_self, foldl_ok, foldl_mask, implies_true, *]

theorem execUpdateNextLaunch_ok (i : Nat) (s : State) (G : Fields) :
    G.regs → G.tim → G.hif → G.log → G.lrep → G.streams → G.pager0 → G.pager1 → G.mxu → G.tokens → G.pf0 → G.pf1 →
      G.poison → G.out → (s.mask G).memoriesOk → ∀ t, execUpdateNextLaunch i s = .next t → (t.mask G).memoriesOk := by
  intros; rename_i h; injection h with h; subst h; (repeat' split) <;> simp only [State.setStream_mask,
    State.startMxu_ok, State.updRefuse_mask, State.updateFail_mask, mask_regs, mask_tim, mask_hif, mask_log,
    mask_lrep, mask_streams, mask_pager0, mask_pager1, mask_mxu, mask_tokens, mask_pf0, mask_pf1, mask_poison,
    mask_out, ite_mask, ite_ok, ite_self, foldl_ok, foldl_mask, implies_true, *]

theorem execVecLaunchFire_ok (i : Nat) (s : State) (G : Fields) :
    G.regs → G.tim → G.hif → G.lrep → G.streams → G.cells → G.cel → G.tokens → G.poison → G.out → G.free → (s.mask
      G).memoriesOk → ∀ t, execVecLaunchFire i s = .next t → (t.mask G).memoriesOk := by
  intros; rename_i h; injection h with h; subst h; dsimp only <;> (repeat' split) <;> simp only [State.toCyc_mask,
    State.fireLaunch_ok, State.setStream_mask, State.freeWord_mask, State.updateFail_mask, mask_regs, mask_tim,
    mask_hif, mask_lrep, mask_streams, mask_cells, mask_cel, mask_tokens, mask_poison, mask_out, mask_free, ite_mask,
    ite_ok, ite_self, foldl_ok, foldl_mask, implies_true, *]

theorem State.writeRows_ok (s : State) (ws : List (Nat × List Byte)) (G : Fields) :
    G.poison → (s.mask G).memoriesOk → ((State.writeRows s ws).mask G).memoriesOk := by
  intros; unfold State.writeRows; apply foldl_ok <;> intros <;> (repeat' split) <;> (try simp only [Prod.ext_iff] at
    *) <;> (try casesm* _ ∧ _) <;> (try subst_vars) <;> (try simp only [State.wr_ok, mask_poison, ite_mask, ite_ok,
      ite_self, foldl_ok, foldl_mask, implies_true, *])

theorem State.stallWrites_ok (s : State) (u : Nat) (cycles : Nat) (G : Fields) :
    G.poison → (s.mask G).memoriesOk → ((State.stallWrites s u cycles).mask G).memoriesOk := by
  intros; simp only [State.stallWrites, State.due_ok, mask_poison, writes_ok, ite_mask, ite_ok, ite_self, foldl_ok,
    foldl_mask, implies_true, *]

theorem execMxuGatherStall_ok (u : Nat) (cycles : Nat) (s : State) (G : Fields) :
    G.regs → G.hif → G.mxu → G.poison → G.out → (s.mask G).memoriesOk → ∀ t, execMxuGatherStall u cycles s = .next t
      → (t.mask G).memoriesOk := by
  intros; rename_i h; injection h with h; subst h
  split
  · extract_lets c; simp only [State.setMx_mask, State.mxuEvt_mask, State.stallWrites_ok, State.bump_mask,
      State.hazard_mask, ite_mask, ite_ok, ite_self, *]
  · assumption

theorem State.dropWrites_ok (s : State) (u : Nat) (G : Fields) :
    G.poison → (s.mask G).memoriesOk → ((State.dropWrites s u).mask G).memoriesOk := by
  intros; simp only [State.dropWrites, State.due_ok, mask_poison, writes_ok, ite_mask, ite_ok, ite_self, foldl_ok,
    foldl_mask, implies_true, *]

theorem execMxuEccFault_ok (u : Nat) (row : Nat) (time : Nat) (s : State) (G : Fields) :
    G.regs → G.tim → G.hif → G.log → G.lrep → G.streams → G.mxu → G.tokens → G.poison → G.out → (s.mask G).memoriesOk
      → ∀ t, execMxuEccFault u row time s = .next t → (t.mask G).memoriesOk := by
  intros; rename_i h; obtain rfl := Host.Outcome.next.inj h; clear h
  split
  · assumption
  · dsimp only
    split
    · assumption
    · split <;> (simp only [State.advTo_mask, State.writeRows_ok, State.dropWrites_ok, State.mxuEvt_mask,
      State.mxuFree_mask, State.recordFault_mask, State.mxuFlags_mask, State.offer_mask, State.hazard_mask,
      State.updateFail_mask, State.setStream_mask, State.postFree_mask, State.mxuLast_mask, mask_regs, mask_tim,
      mask_hif, mask_log, mask_lrep, mask_streams, mask_mxu, mask_tokens, mask_poison, mask_out, ite_mask, ite_ok,
      ite_self, foldl_ok, foldl_mask, implies_true, *]) <;> (repeat' split) <;>
      (repeat' first | assumption | apply State.writeRows_ok |  (simp only [State.advTo_mask, State.writeRows_ok,
        State.dropWrites_ok, State.mxuEvt_mask, State.mxuFree_mask, State.recordFault_mask, State.mxuFlags_mask,
        State.offer_mask, State.hazard_mask, State.updateFail_mask, State.setStream_mask, State.postFree_mask,
        State.mxuLast_mask, mask_regs, mask_tim, mask_hif, mask_log, mask_lrep, mask_streams, mask_mxu, mask_tokens,
        mask_poison, mask_out, ite_mask, ite_ok, ite_self, foldl_ok, foldl_mask, implies_true, *]))

theorem State.zeroEmber_ok (s : State) (x : Stream) (G : Fields) :
    G.poison → (s.mask G).memoriesOk → ((State.zeroEmber s x).mask G).memoriesOk := by
  intro hp h; unfold State.zeroEmber
  dsimp only
  have h1 := State.wr_ok _ (x.ember 0) (List.replicate (2 * x.elems) 0) G hp h
  have h2 := State.wr_ok _ (x.ember (2 * x.elems)) (List.replicate (4 * x.elems) 0) G hp h1
  have h3 := State.wr_ok _ (x.ember (6 * x.elems)) (List.replicate (4 * x.elems) 0) G hp h2
  rw [ite_mask, ite_ok]
  split
  · exact h3
  · exact h2

theorem State.keepRaw_ok (s : State) (i : Nat) (k : Nat) (G : Fields) :
    G.regs → G.hif → G.streams → G.poison → G.out → (s.mask G).memoriesOk → ((State.keepRaw s i k).mask G).memoriesOk
      := by
  intros; simp only [State.keepRaw, State.setStream_mask, State.wr_ok, State.copyMem_ok, State.bump_mask, mask_regs,
    mask_hif, mask_streams, mask_poison, mask_out, ite_mask, ite_ok, ite_self, foldl_ok, foldl_mask, implies_true, *]

theorem State.sendChunks_ok (s : State) (i : Nat) (k : Nat) (r : Bool) (ps : List Nat) (dig : Option Nat) (edge :
  Nat) (G : Fields) :
    G.regs → G.hif → G.log → G.subs → G.streams → G.rte → G.poison → G.out → (s.mask G).memoriesOk →
      ((State.sendChunks s i k r ps dig edge).mask G).memoriesOk := by
  intros; unfold State.sendChunks; apply foldl_ok <;> intros <;> (repeat' split) <;> (try simp only [Prod.ext_iff] at
    *) <;> (try casesm* _ ∧ _) <;> (try subst_vars) <;> (try simp only [State.setStream_mask, State.wr_ok,
      State.xhatWrite_ok, State.sendOne_mask, mask_regs, mask_hif, mask_log, mask_subs, mask_streams, mask_rte,
      mask_poison, mask_out, ite_mask, ite_ok, ite_self, foldl_ok, foldl_mask, implies_true, *])

theorem State.codecCorrect_ok (s : State) (x : Stream) (G : Fields) :
    G.regs → G.hif → G.poison → G.out → (s.mask G).memoriesOk → ((State.codecCorrect s x).mask G).memoriesOk := by
  intros; simp only [State.codecCorrect, State.correct_ok, mask_regs, mask_hif, mask_poison, mask_out, ite_mask,
    ite_ok, ite_self, foldl_ok, foldl_mask, implies_true, *]

theorem State.strSend_ok (s : State) (i : Nat) (c : Nat) (G : Fields) :
    G.regs → G.hif → G.log → G.subs → G.streams → G.pager0 → G.pager1 → G.rte → G.poison → G.out → G.free → (s.mask
      G).memoriesOk → ((State.strSend s i c).mask G).memoriesOk := by
  intros; unfold State.strSend
  extract_lets +lift x0 s1 x1 k old r s2 x2 s3 s4 edge f g bad ps d src s5 s6 nf s7 s8
  have h1 : (s1.mask G).memoriesOk := by simp only [s1, State.pagerTo_ok, State.bump_mask, State.zeroEmber_ok,
    State.setStream_mask, State.pageStart_mask, State.strDenied_mask, State.codecCorrect_ok, State.nonFinite_mask,
    State.sendBad_mask, State.sendChunks_ok, State.keepRaw_ok, State.sendRaw_mask, mask_regs, mask_hif, mask_log,
    mask_subs, mask_streams, mask_pager0, mask_pager1, mask_rte, mask_poison, mask_out, mask_free, ite_mask, ite_ok,
    ite_self, foldl_ok, foldl_mask, implies_true, *]
  clear_value s1
  have h2 : (s2.mask G).memoriesOk := by
    simp only [s2]; split
    · rw [State.bump_mask _ _ _ _ (by assumption)]; apply State.zeroEmber_ok <;> assumption
    · assumption
  clear_value s2
  have h4 : (s4.mask G).memoriesOk := by simp only [s4, s3, State.pagerTo_ok, State.bump_mask, State.zeroEmber_ok,
    State.setStream_mask, State.pageStart_mask, State.strDenied_mask, State.codecCorrect_ok, State.nonFinite_mask,
    State.sendBad_mask, State.sendChunks_ok, State.keepRaw_ok, State.sendRaw_mask, mask_regs, mask_hif, mask_log,
    mask_subs, mask_streams, mask_pager0, mask_pager1, mask_rte, mask_poison, mask_out, mask_free, ite_mask, ite_ok,
    ite_self, foldl_ok, foldl_mask, implies_true, *]
  clear_value s4
  have h5 : (s5.mask G).memoriesOk := by simp only [s5, State.pagerTo_ok, State.bump_mask, State.zeroEmber_ok,
    State.setStream_mask, State.pageStart_mask, State.strDenied_mask, State.codecCorrect_ok, State.nonFinite_mask,
    State.sendBad_mask, State.sendChunks_ok, State.keepRaw_ok, State.sendRaw_mask, mask_regs, mask_hif, mask_log,
    mask_subs, mask_streams, mask_pager0, mask_pager1, mask_rte, mask_poison, mask_out, mask_free, ite_mask, ite_ok,
    ite_self, foldl_ok, foldl_mask, implies_true, *]
  clear_value s5
  have h6 : (s6.mask G).memoriesOk := by simp only [s6, State.pagerTo_ok, State.bump_mask, State.zeroEmber_ok,
    State.setStream_mask, State.pageStart_mask, State.strDenied_mask, State.codecCorrect_ok, State.nonFinite_mask,
    State.sendBad_mask, State.sendChunks_ok, State.keepRaw_ok, State.sendRaw_mask, mask_regs, mask_hif, mask_log,
    mask_subs, mask_streams, mask_pager0, mask_pager1, mask_rte, mask_poison, mask_out, mask_free, ite_mask, ite_ok,
    ite_self, foldl_ok, foldl_mask, implies_true, *]
  clear_value s6
  have h7 : (s7.mask G).memoriesOk := by simp only [s7, State.pagerTo_ok, State.bump_mask, State.zeroEmber_ok,
    State.setStream_mask, State.pageStart_mask, State.strDenied_mask, State.codecCorrect_ok, State.nonFinite_mask,
    State.sendBad_mask, State.sendChunks_ok, State.keepRaw_ok, State.sendRaw_mask, mask_regs, mask_hif, mask_log,
    mask_subs, mask_streams, mask_pager0, mask_pager1, mask_rte, mask_poison, mask_out, mask_free, ite_mask, ite_ok,
    ite_self, foldl_ok, foldl_mask, implies_true, *]
  clear_value s7
  have h8 : (s8.mask G).memoriesOk := by
    simp only [s8]; split <;> simp only [State.pagerTo_ok, State.bump_mask, State.zeroEmber_ok, State.setStream_mask,
      State.pageStart_mask, State.strDenied_mask, State.codecCorrect_ok, State.nonFinite_mask, State.sendBad_mask,
      State.sendChunks_ok, State.keepRaw_ok, State.sendRaw_mask, mask_regs, mask_hif, mask_log, mask_subs,
      mask_streams, mask_pager0, mask_pager1, mask_rte, mask_poison, mask_out, mask_free, ite_mask, ite_ok, ite_self,
      foldl_ok, foldl_mask, implies_true, *]
  clear_value s8
  simp only [State.pagerTo_ok, State.bump_mask, State.zeroEmber_ok, State.setStream_mask, State.pageStart_mask,
    State.strDenied_mask, State.codecCorrect_ok, State.nonFinite_mask, State.sendBad_mask, State.sendChunks_ok,
    State.keepRaw_ok, State.sendRaw_mask, mask_regs, mask_hif, mask_log, mask_subs, mask_streams, mask_pager0,
    mask_pager1, mask_rte, mask_poison, mask_out, mask_free, ite_mask, ite_ok, ite_self, foldl_ok, foldl_mask,
    implies_true, *]

theorem State.decodeOne_ok (s : State) (i : Nat) (c : Nat) (p : Pkt) (ps : List Nat) (edge : Nat) (G : Fields) :
    G.regs → G.hif → G.log → G.subs → G.streams → G.rte → G.out → (s.mask G).memoriesOk → ((State.decodeOne s i c p
      ps edge).mask G).memoriesOk := by
  intros; simp only [State.decodeOne, State.xhatWrite_ok, State.setStream_mask, State.nonFinite_mask,
    State.strOut_mask, State.drop_mask, State.originateSched_mask, State.codecWrite_ok, State.strDenied_mask,
    mask_regs, mask_hif, mask_log, mask_subs, mask_streams, mask_rte, mask_out, ite_mask, ite_ok, ite_self, foldl_ok,
    foldl_mask, implies_true, *]

theorem State.diverged_ok (s : State) (i : Nat) (theirs : Nat) (own : Nat) (G : Fields) :
    G.regs → G.hif → G.log → G.lrep → G.streams → G.cap → G.poison → G.out → (s.mask G).memoriesOk → ((State.diverged
      s i theirs own).mask G).memoriesOk := by
  intros; simp only [State.diverged, State.capTrigger_ok, State.offer_mask, State.strEvt_mask, State.askReset_mask,
    State.decodeFail_mask, mask_regs, mask_hif, mask_log, mask_lrep, mask_streams, mask_cap, mask_poison, mask_out,
    ite_mask, ite_ok, ite_self, foldl_ok, foldl_mask, implies_true, *]

theorem State.rebuild_ok (s : State) (i : Nat) (c : Nat) (ps : List Nat) (G : Fields) :
    G.regs → G.hif → G.log → G.subs → G.lrep → G.streams → G.rte → G.out → (s.mask G).memoriesOk → ((State.rebuild s
      i c ps).mask G).memoriesOk := by
  intros; unfold State.rebuild
  extract_lets +lift l1 l2 l3 s1
  have h1 : (s1.mask G).memoriesOk := by
    apply foldl_ok _ _ _ (by assumption); intros; (repeat' split) <;> simp only [State.decodeOne_ok,
      State.chunkLost_mask, mask_regs, mask_hif, mask_log, mask_subs, mask_lrep, mask_streams, mask_rte, mask_out,
      ite_mask, ite_ok, ite_self, foldl_ok, foldl_mask, implies_true, *]
  clear_value s1
  split <;> simp only [State.decodeOne_ok, State.chunkLost_mask, mask_regs, mask_hif, mask_log, mask_subs, mask_lrep,
    mask_streams, mask_rte, mask_out, ite_mask, ite_ok, ite_self, foldl_ok, foldl_mask, implies_true, *]

theorem State.decodeStep_ok (s : State) (i : Nat) (c : Nat) (r : Bool) (G : Fields) :
    G.regs → G.hif → G.log → G.subs → G.lrep → G.streams → G.rte → G.cap → G.poison → G.out → (s.mask G).memoriesOk →
      ((State.decodeStep s i c r).mask G).memoriesOk := by
  intros; simp only [State.decodeStep, State.setStream_mask, State.bump_mask, State.strEvt_mask,
    State.nonFinite_mask, State.decodeFail_mask, State.diverged_ok, State.rebuild_ok, mask_regs, mask_hif, mask_log,
    mask_subs, mask_lrep, mask_streams, mask_rte, mask_cap, mask_poison, mask_out, ite_mask, ite_ok, ite_self,
    foldl_ok, foldl_mask, implies_true, *]

theorem State.strDecode_ok (s : State) (i : Nat) (c : Nat) (G : Fields) :
    G.regs → G.hif → G.log → G.subs → G.lrep → G.streams → G.pager0 → G.pager1 → G.rte → G.cap → G.poison → G.out →
      (s.mask G).memoriesOk → ((State.strDecode s i c).mask G).memoriesOk := by
  intros; unfold State.strDecode
  extract_lets +lift s1 x r lost s2 s3 s4 bad s5 s6
  have h2 : (s2.mask G).memoriesOk := by simp only [s2, s1, State.pagerTo_ok, State.setStream_mask,
    State.pageStart_mask, State.zeroEmber_ok, State.codecCorrect_ok, State.askReset_mask, State.decodeFail_mask,
    State.decodeStep_ok, State.chunkLost_mask, State.resetReq_mask, mask_regs, mask_hif, mask_log, mask_subs,
    mask_lrep, mask_streams, mask_pager0, mask_pager1, mask_rte, mask_cap, mask_poison, mask_out, ite_mask, ite_ok,
    ite_self, foldl_ok, foldl_mask, implies_true, *]
  clear_value s2
  have h3 : (s3.mask G).memoriesOk := by simp only [s3, State.pagerTo_ok, State.setStream_mask, State.pageStart_mask,
    State.zeroEmber_ok, State.codecCorrect_ok, State.askReset_mask, State.decodeFail_mask, State.decodeStep_ok,
    State.chunkLost_mask, State.resetReq_mask, mask_regs, mask_hif, mask_log, mask_subs, mask_lrep, mask_streams,
    mask_pager0, mask_pager1, mask_rte, mask_cap, mask_poison, mask_out, ite_mask, ite_ok, ite_self, foldl_ok,
    foldl_mask, implies_true, *]
  clear_value s3
  have h4 : (s4.mask G).memoriesOk := by
    simp only [s4]; split
    · apply State.zeroEmber_ok <;> assumption
    · assumption
  clear_value s4
  have h5 : (s5.mask G).memoriesOk := by simp only [s5, State.pagerTo_ok, State.setStream_mask, State.pageStart_mask,
    State.zeroEmber_ok, State.codecCorrect_ok, State.askReset_mask, State.decodeFail_mask, State.decodeStep_ok,
    State.chunkLost_mask, State.resetReq_mask, mask_regs, mask_hif, mask_log, mask_subs, mask_lrep, mask_streams,
    mask_pager0, mask_pager1, mask_rte, mask_cap, mask_poison, mask_out, ite_mask, ite_ok, ite_self, foldl_ok,
    foldl_mask, implies_true, *]
  clear_value s5
  split
  · split <;> simp only [State.askReset_mask, State.decodeFail_mask, State.decodeStep_ok, *]
  split
  · simp only [State.chunkLost_mask, *]
  · split <;> simp only [s6, State.resetReq_mask, State.decodeFail_mask, *]

theorem State.strCmd_ok (s : State) (d : Desc) (kind : Nat) (i : Nat) (at_ : Nat) (bad : Nat → Bool) (G : Fields) :
    G.regs → G.tim → G.hif → G.strCmds → G.out → (s.mask G).memoriesOk → ((State.strCmd s d kind i at_ bad).mask
      G).memoriesOk := by
  intros; unfold State.strCmd
  apply State.hostCmd_ok <;> (try assumption) <;> intros <;> (try dsimp only) <;> (repeat' split) <;> simp only
    [State.cmdEnd_mask, State.hostCmd_ok, State.strAccept_mask, mask_regs, mask_tim, mask_hif, mask_strCmds,
    mask_out, ite_mask, ite_ok, ite_self, foldl_ok, foldl_mask, implies_true, *]

theorem State.linkAckRx_ok (s : State) (l : Nat) (subtype : Nat) (rx : RxPkt) (f : State → List Byte → State) (G : Fields) :
    G.regs → G.hif → G.lrep → G.out → (∀ (y0 : State) (y1 : List Byte), (y0.mask G).memoriesOk → ((f y0 y1).mask
      G).memoriesOk) → (s.mask G).memoriesOk → ((State.linkAckRx s l subtype rx f).mask G).memoriesOk := by
  intros; unfold State.linkAckRx
  split
  · apply State.linkRx_ok <;> (try assumption); intros; apply_assumption; assumption
  · assumption

theorem execPrefetchDone_ok (die : Nat) (time : Nat) (s : State) (G : Fields) :
    G.regs → G.tim → G.hif → G.log → G.pf0 → G.pf1 → G.poison → G.out → (s.mask G).memoriesOk → ∀ t, execPrefetchDone
      die time s = .next t → (t.mask G).memoriesOk := by
  intros; rename_i h; injection h with h; subst h; (repeat' split) <;> simp only [State.advTo_mask, State.setPf_mask,
    State.pfEnd_ok, mask_regs, mask_tim, mask_hif, mask_log, mask_pf0, mask_pf1, mask_poison, mask_out, ite_mask,
    ite_ok, ite_self, foldl_ok, foldl_mask, implies_true, *]

theorem execEmberPageInDone_ok (die : Nat) (s : State) (G : Fields) :
    G.regs → G.tim → G.hif → G.log → G.streams → G.pager0 → G.pager1 → G.poison → G.out → (s.mask G).memoriesOk → ∀
      t, execEmberPageInDone die s = .next t → (t.mask G).memoriesOk := by
  intros; rename_i h; injection h with h; subst h; simp only [State.pagerHead_ok, mask_regs, mask_tim, mask_hif,
    mask_log, mask_streams, mask_pager0, mask_pager1, mask_poison, mask_out, ite_mask, ite_ok, ite_self, foldl_ok,
    foldl_mask, implies_true, *]

theorem execEmberWritebackDone_ok (die : Nat) (s : State) (G : Fields) :
    G.regs → G.tim → G.hif → G.log → G.streams → G.pager0 → G.pager1 → G.poison → G.out → (s.mask G).memoriesOk → ∀
      t, execEmberWritebackDone die s = .next t → (t.mask G).memoriesOk := by
  intros; rename_i h; injection h with h; subst h; simp only [State.pagerHead_ok, mask_regs, mask_tim, mask_hif,
    mask_log, mask_streams, mask_pager0, mask_pager1, mask_poison, mask_out, ite_mask, ite_ok, ite_self, foldl_ok,
    foldl_mask, implies_true, *]

theorem State.gatherServe_ok (s : State) (q : GReq) (G : Fields) :
    G.regs → G.tim → G.hif → G.log → G.rte → G.poison → G.out → (s.mask G).memoriesOk → ((State.gatherServe s q).mask
      G).memoriesOk := by
  intros; unfold State.gatherServe; dsimp only; split
  · simp only [State.memDenied_mask, *]
  · apply foldl_ok
    · intros; simp only [State.gatherResp_mask, *]
    · apply foldl_ok
      · intros; simp only [State.correct_ok, State.hbmBad_mask, ite_mask, ite_ok, ite_self, *]
      · simp only [State.bump_mask, ite_mask, ite_self, *]

theorem execGatherServe_ok (k : Nat) (time : Nat) (s : State) (G : Fields) :
    G.regs → G.tim → G.hif → G.log → G.rte → G.greq0 → G.greq1 → G.gheld → G.poison → G.out → (s.mask G).memoriesOk → ∀
      t, execGatherServe k time s = .next t → (t.mask G).memoriesOk := by
  intros; rename_i h; injection h with h; subst h; dsimp only; (repeat' split) <;> simp only [State.gatherTake_mask,
    State.advTo_mask, State.gatherServe_ok, mask_regs, mask_tim, mask_hif, mask_log, mask_rte, mask_greq0, mask_greq1,
    mask_gheld, mask_poison, mask_out, ite_mask, ite_ok, ite_self, foldl_ok, foldl_mask, implies_true, *]

theorem State.memTbl_ok (s : State) (path : Path) (o : Nat) (v : Word) (op : Bool) (f : State → State) (G : Fields) :
    G.regs → G.busy → G.hif → G.out → G.free → (∀ (y0 : State), (y0.mask G).memoriesOk → ((f y0).mask G).memoriesOk)
      → (s.mask G).memoriesOk → ((State.memTbl s path o v op f).mask G).memoriesOk := by
  intros; unfold State.memTbl
  apply State.tblOp_ok <;> (try assumption) <;> intros <;> (try dsimp only) <;> (repeat' split) <;> simp only
    [State.evt_mask, State.tblOp_ok, mask_regs, mask_busy, mask_hif, mask_out, mask_free, ite_mask, ite_ok, ite_self,
    foldl_ok, foldl_mask, implies_true, *]

theorem State.rxLink_ok (s : State) (port : Nat) (sub : Nat) (rx : RxPkt) (arrival : Nat) (injected : Bool) (G : Fields) :
    G.regs → G.tim → G.hif → G.log → G.subs → G.lrep → G.streams → G.rte → G.cap → G.cel → G.groups → G.greq0 → G.greq1
      → G.gheld → G.poison → G.out → G.free → (s.mask G).memoriesOk → ((State.rxLink s port sub rx arrival
      injected).mask G).memoriesOk := by
  intros; unfold State.rxLink; (try extract_lets +lift) <;> (repeat' split) <;> (try simp only [Prod.ext_iff] at *)
    <;> (try casesm* _ ∧ _) <;> (try subst_vars) <;> (try simp only [State.arrive_ok, State.hand_mask, mask_regs,
      mask_tim, mask_hif, mask_log, mask_subs, mask_lrep, mask_streams, mask_rte, mask_cap, mask_cel, mask_groups,
      mask_greq0, mask_greq1, mask_gheld, mask_poison, mask_out, mask_free, ite_mask, ite_ok, ite_self, foldl_ok,
      foldl_mask, implies_true, *])

theorem State.rxOwn_ok (s : State) (want : Pkt → Bool) (G : Fields) :
    G.regs → G.tim → G.hif → G.log → G.subs → G.streams → G.rte → G.cel → G.groups → G.greq0 → G.greq1 → G.gheld →
      G.out → G.free → (s.mask G).memoriesOk → ((State.rxOwn s want).mask G).memoriesOk := by
  intros; unfold State.rxOwn; dsimp only; (repeat' split) <;> simp only [State.hand_mask, mask_regs, mask_tim,
    mask_hif, mask_log, mask_subs, mask_streams, mask_rte, mask_cel, mask_groups, mask_greq0, mask_greq1, mask_gheld,
    mask_out, mask_free, ite_mask, ite_ok, ite_self, foldl_ok, foldl_mask, implies_true, *]

theorem State.rxUnit_ok (s : State) (want : Pkt → Bool) (src : RxSrc) (G : Fields) :
    G.regs → G.tim → G.hif → G.log → G.subs → G.lrep → G.streams → G.rte → G.cap → G.cel → G.groups → G.greq0 → G.greq1
      → G.gheld → G.poison → G.out → G.free → (s.mask G).memoriesOk → ((State.rxUnit s want src).mask G).memoriesOk :=
      by
  intros; unfold State.rxUnit; (repeat' split) <;> simp only [State.rxLink_ok, State.rxOwn_ok, mask_regs, mask_tim,
    mask_hif, mask_log, mask_subs, mask_lrep, mask_streams, mask_rte, mask_cap, mask_cel, mask_groups, mask_greq0,
    mask_greq1, mask_gheld, mask_poison, mask_out, mask_free, ite_mask, ite_ok, ite_self, foldl_ok, foldl_mask,
    implies_true, *]

theorem execRoutedPacketRx_ok (port : Nat) (sub : Nat) (rx : RxPkt) (arrival : Nat) (s : State) (G : Fields) :
    G.regs → G.tim → G.hif → G.log → G.subs → G.lrep → G.streams → G.rte → G.cap → G.cel → G.groups → G.greq0 → G.greq1
      → G.gheld → G.poison → G.out → G.free → (s.mask G).memoriesOk → ∀ t, execRoutedPacketRx port sub rx arrival s =
      .next t → (t.mask G).memoriesOk := by
  intros; rename_i h; injection h with h; subst h; simp only [State.rxLink_ok, mask_regs, mask_tim, mask_hif, mask_log,
    mask_subs, mask_lrep, mask_streams, mask_rte, mask_cap, mask_cel, mask_groups, mask_greq0, mask_greq1, mask_gheld,
    mask_poison, mask_out, mask_free, ite_mask, ite_ok, ite_self, foldl_ok, foldl_mask, implies_true, *]

theorem execContribUpRx_ok (src : RxSrc) (s : State) (G : Fields) :
    G.regs → G.tim → G.hif → G.log → G.subs → G.lrep → G.streams → G.rte → G.cap → G.cel → G.groups → G.greq0 → G.greq1
      → G.gheld → G.poison → G.out → G.free → (s.mask G).memoriesOk → ∀ t, execContribUpRx src s = .next t → (t.mask
      G).memoriesOk := by
  intros; rename_i h; injection h with h; subst h; simp only [State.rxUnit_ok, mask_regs, mask_tim, mask_hif, mask_log,
    mask_subs, mask_lrep, mask_streams, mask_rte, mask_cap, mask_cel, mask_groups, mask_greq0, mask_greq1, mask_gheld,
    mask_poison, mask_out, mask_free, ite_mask, ite_ok, ite_self, foldl_ok, foldl_mask, implies_true, *]

theorem execContribDownRx_ok (src : RxSrc) (s : State) (G : Fields) :
    G.regs → G.tim → G.hif → G.log → G.subs → G.lrep → G.streams → G.rte → G.cap → G.cel → G.groups → G.greq0 → G.greq1
      → G.gheld → G.poison → G.out → G.free → (s.mask G).memoriesOk → ∀ t, execContribDownRx src s = .next t → (t.mask
      G).memoriesOk := by
  intros; rename_i h; injection h with h; subst h; simp only [State.rxUnit_ok, mask_regs, mask_tim, mask_hif, mask_log,
    mask_subs, mask_lrep, mask_streams, mask_rte, mask_cap, mask_cel, mask_groups, mask_greq0, mask_greq1, mask_gheld,
    mask_poison, mask_out, mask_free, ite_mask, ite_ok, ite_self, foldl_ok, foldl_mask, implies_true, *]

theorem execFailureNoticeRx_ok (src : RxSrc) (s : State) (G : Fields) :
    G.regs → G.tim → G.hif → G.log → G.subs → G.lrep → G.streams → G.rte → G.cap → G.cel → G.groups → G.greq0 → G.greq1
      → G.gheld → G.poison → G.out → G.free → (s.mask G).memoriesOk → ∀ t, execFailureNoticeRx src s = .next t →
      (t.mask G).memoriesOk := by
  intros; rename_i h; injection h with h; subst h; simp only [State.rxUnit_ok, mask_regs, mask_tim, mask_hif, mask_log,
    mask_subs, mask_lrep, mask_streams, mask_rte, mask_cap, mask_cel, mask_groups, mask_greq0, mask_greq1, mask_gheld,
    mask_poison, mask_out, mask_free, ite_mask, ite_ok, ite_self, foldl_ok, foldl_mask, implies_true, *]

theorem execSegsumRx_ok (src : RxSrc) (s : State) (G : Fields) :
    G.regs → G.tim → G.hif → G.log → G.subs → G.lrep → G.streams → G.rte → G.cap → G.cel → G.groups → G.greq0 → G.greq1
      → G.gheld → G.poison → G.out → G.free → (s.mask G).memoriesOk → ∀ t, execSegsumRx src s = .next t → (t.mask
      G).memoriesOk := by
  intros; rename_i h; injection h with h; subst h; simp only [State.rxUnit_ok, mask_regs, mask_tim, mask_hif, mask_log,
    mask_subs, mask_lrep, mask_streams, mask_rte, mask_cap, mask_cel, mask_groups, mask_greq0, mask_greq1, mask_gheld,
    mask_poison, mask_out, mask_free, ite_mask, ite_ok, ite_self, foldl_ok, foldl_mask, implies_true, *]

theorem execResidualRx_ok (src : RxSrc) (s : State) (G : Fields) :
    G.regs → G.tim → G.hif → G.log → G.subs → G.lrep → G.streams → G.rte → G.cap → G.cel → G.groups → G.greq0 → G.greq1
      → G.gheld → G.poison → G.out → G.free → (s.mask G).memoriesOk → ∀ t, execResidualRx src s = .next t → (t.mask
      G).memoriesOk := by
  intros; rename_i h; injection h with h; subst h; simp only [State.rxUnit_ok, mask_regs, mask_tim, mask_hif, mask_log,
    mask_subs, mask_lrep, mask_streams, mask_rte, mask_cap, mask_cel, mask_groups, mask_greq0, mask_greq1, mask_gheld,
    mask_poison, mask_out, mask_free, ite_mask, ite_ok, ite_self, foldl_ok, foldl_mask, implies_true, *]

theorem execRawChunkRx_ok (src : RxSrc) (s : State) (G : Fields) :
    G.regs → G.tim → G.hif → G.log → G.subs → G.lrep → G.streams → G.rte → G.cap → G.cel → G.groups → G.greq0 → G.greq1
      → G.gheld → G.poison → G.out → G.free → (s.mask G).memoriesOk → ∀ t, execRawChunkRx src s = .next t → (t.mask
      G).memoriesOk := by
  intros; rename_i h; injection h with h; subst h; simp only [State.rxUnit_ok, mask_regs, mask_tim, mask_hif, mask_log,
    mask_subs, mask_lrep, mask_streams, mask_rte, mask_cap, mask_cel, mask_groups, mask_greq0, mask_greq1, mask_gheld,
    mask_poison, mask_out, mask_free, ite_mask, ite_ok, ite_self, foldl_ok, foldl_mask, implies_true, *]

theorem execGatherReqRx_ok (src : RxSrc) (s : State) (G : Fields) :
    G.regs → G.tim → G.hif → G.log → G.subs → G.lrep → G.streams → G.rte → G.cap → G.cel → G.groups → G.greq0 → G.greq1
      → G.gheld → G.poison → G.out → G.free → (s.mask G).memoriesOk → ∀ t, execGatherReqRx src s = .next t → (t.mask
      G).memoriesOk := by
  intros; rename_i h; injection h with h; subst h; simp only [State.rxUnit_ok, mask_regs, mask_tim, mask_hif, mask_log,
    mask_subs, mask_lrep, mask_streams, mask_rte, mask_cap, mask_cel, mask_groups, mask_greq0, mask_greq1, mask_gheld,
    mask_poison, mask_out, mask_free, ite_mask, ite_ok, ite_self, foldl_ok, foldl_mask, implies_true, *]

theorem State.unload_ok (s : State) (G : Fields) :
    G.cel → G.img → G.poison → G.regions → (s.mask G).memoriesOk → ((State.unload s).mask G).memoriesOk := by
  intros; exact State.zero_ok s (istoreKey 0 0) (istoreKey 1024 0) G (by assumption) (by assumption)

theorem execImageLoad_ok (d : Desc) (img : Image) (s : State) (G : Fields) :
    G.regs → G.tim → G.hif → G.cel → G.img → G.loading → G.poison → G.regions → G.out → (s.mask G).memoriesOk → ∀ t,
      execImageLoad d img s = .next t → (t.mask G).memoriesOk := by
  intros; rename_i h; obtain rfl := Host.Outcome.next.inj h
  apply State.hostCmd_ok <;> (try assumption) <;> intros <;> (try dsimp only) <;> (repeat' split) <;> simp only
    [State.hostCmd_ok, State.cmdEnd_mask, State.setFld_mask, State.evt_mask, State.loadRecord_mask,
    State.putRegions_mask, State.unload_ok, mask_regs, mask_tim, mask_hif, mask_cel, mask_img, mask_loading,
    mask_poison, mask_regions, mask_out, ite_mask, ite_ok, ite_self, foldl_ok, foldl_mask, implies_true, *]

theorem State.dataWrite_ok (s : State) (img : Image) (x : TensorRun) (G : Fields) :
    G.regs → G.hif → G.log → G.poison → G.out → (s.mask G).memoriesOk → ((State.dataWrite s img x).mask G).memoriesOk
      := by
  intros; unfold State.dataWrite; dsimp only; (repeat' split) <;> simp only [State.wr_ok, State.memDenied_mask,
    mask_regs, mask_hif, mask_log, mask_poison, mask_out, ite_mask, ite_ok, ite_self, foldl_ok, foldl_mask,
    implies_true, *]

theorem State.commitImage_ok (s : State) (img : Image) (G : Fields) :
    G.regs → G.hif → G.log → G.rte → G.gwin → G.img → G.loading → G.poison → G.out → (s.mask G).memoriesOk →
      ((State.commitImage s img).mask G).memoriesOk := by
  intros; unfold State.commitImage
  extract_lets s1 s2 runs rte s3 s4 s5 s6 s7 s8 s9
  have h1 : (s1.mask G).memoriesOk := by
    apply foldl_ok _ _ _ (by assumption); intros; apply State.wr_ok <;> assumption
  clear_value s1
  have h2 : (s2.mask G).memoriesOk := by
    apply foldl_ok _ _ _ (by assumption); intros; apply State.dataWrite_ok <;> assumption
  clear_value s2
  have h3 : s3.mask G = s2.mask G := by simp only [s3, mask_rte, *]
  have h6 : s6.mask G = s2.mask G := by
    simp only [s6, s5, s4, State.setFld_mask, State.routeWrite_mask, State.layoutWrite_mask, foldl_mask,
      implies_true, *]
  have h7 : s7.mask G = s2.mask G := by simp only [s7, mask_gwin, *]
  have h9 : s9.mask G = s2.mask G := by simp only [s9, s8, State.setReg_mask, *]
  clear_value s9
  rw [← h9] at h2
  simp only [State.mask, *, if_true] at h2 ⊢
  exact h2

theorem execImageLoadDone_ok (ok : Bool) (s : State) (G : Fields) :
    G.regs → G.hif → G.log → G.rte → G.gwin → G.img → G.loading → G.poison → G.out → (s.mask G).memoriesOk → ∀ t,
      execImageLoadDone ok s = .next t → (t.mask G).memoriesOk := by
  intros; rename_i h; injection h with h; subst h; (repeat' split) <;> simp only [State.cmdDone_mask,
    State.loadRecord_mask, State.commitImage_ok, mask_regs, mask_hif, mask_log, mask_rte, mask_gwin, mask_img,
    mask_loading, mask_poison, mask_out, ite_mask, ite_ok, ite_self, foldl_ok, foldl_mask, implies_true, *]

theorem State.takeHead_ok (s : State) (die : Nat) (kind : Nat) (act : State → QAction → Nat → State) (missed : State
  → QAction → Bool → State) (G : Fields) :
    G.regs → G.tim → G.hif → G.sched → G.out → (∀ (y0 : State) (y1 : QAction) (y2 : Nat), (y0.mask G).memoriesOk →
      ((act y0 y1 y2).mask G).memoriesOk) → (∀ (y0 : State) (y1 : QAction) (y2 : Bool), (y0.mask G).memoriesOk →
      ((missed y0 y1 y2).mask G).memoriesOk) → (s.mask G).memoriesOk → ((State.takeHead s die kind act missed).mask
      G).memoriesOk := by
  intros; unfold State.takeHead; dsimp only; (repeat' split) <;> simp only [State.dropHead_mask, State.toCyc_mask,
    State.bump_mask, State.bump16_mask, State.hazard_mask, mask_regs, mask_tim, mask_hif, mask_sched, mask_out,
    ite_mask, ite_ok, ite_self, foldl_ok, foldl_mask, implies_true, *]

theorem State.image_ok (s : State) (f : Image → State) (G : Fields) :
    (∀ (y0 : Image), (s.mask G).memoriesOk → ((f y0).mask G).memoriesOk) → (s.mask G).memoriesOk → ((State.image s
      f).mask G).memoriesOk := by
  intros; unfold State.image; split <;> simp only [*]

theorem State.streamFire_ok (s : State) (role : Nat) (a : QAction) (f : State → Nat → State) (G : Fields) :
    G.regs → G.hif → G.lrep → G.streams → G.strCmds → G.out → (∀ (y0 : State) (y1 : Nat), (y0.mask G).memoriesOk →
      ((f y0 y1).mask G).memoriesOk) → (s.mask G).memoriesOk → ((State.streamFire s role a f).mask G).memoriesOk := by
  intros; simp only [State.streamFire, State.strDue_mask, mask_regs, mask_hif, mask_lrep, mask_streams, mask_strCmds,
    mask_out, ite_mask, ite_ok, ite_self, foldl_ok, foldl_mask, implies_true, *]

theorem State.groupFire_ok (s : State) (a : QAction) (f : State → Nat → State) (G : Fields) :
    (∀ (y0 : State) (y1 : Nat), (y0.mask G).memoriesOk → ((f y0 y1).mask G).memoriesOk) → (s.mask G).memoriesOk →
      ((State.groupFire s a f).mask G).memoriesOk := by
  intros; unfold State.groupFire; dsimp only; (repeat' split) <;> simp only [ite_mask, ite_ok, ite_self, foldl_ok,
    foldl_mask, implies_true, *]

theorem execCellLaunch_ok (die : Nat) (s : State) (G : Fields) :
    G.regs → G.tim → G.hif → G.sched → G.cells → G.cel → G.poison → G.out → (s.mask G).memoriesOk → ∀ t,
      execCellLaunch die s = .next t → (t.mask G).memoriesOk := by
  intros; rename_i h; obtain rfl := Host.Outcome.next.inj h
  apply State.takeHead_ok <;> (try assumption) <;> intros
  · apply State.image_ok <;> (try assumption); intros; simp only [State.takeHead_ok, State.image_ok,
    State.cellMissed_mask, State.fireLaunch_ok, mask_regs, mask_tim, mask_hif, mask_sched, mask_cells, mask_cel,
    mask_poison, mask_out, ite_mask, ite_ok, ite_self, foldl_ok, foldl_mask, implies_true, *]
  · simp only [State.takeHead_ok, State.image_ok, State.cellMissed_mask, State.fireLaunch_ok, mask_regs, mask_tim,
    mask_hif, mask_sched, mask_cells, mask_cel, mask_poison, mask_out, ite_mask, ite_ok, ite_self, foldl_ok,
    foldl_mask, implies_true, *]

theorem execStreamSend_ok (die : Nat) (s : State) (G : Fields) :
    G.regs → G.tim → G.hif → G.log → G.subs → G.lrep → G.streams → G.strCmds → G.pager0 → G.pager1 → G.rte → G.sched
      → G.poison → G.out → G.free → (s.mask G).memoriesOk → ∀ t, execStreamSend die s = .next t → (t.mask
      G).memoriesOk := by
  intros; rename_i h; obtain rfl := Host.Outcome.next.inj h
  apply State.takeHead_ok <;> (try assumption) <;> intros
  · apply State.streamFire_ok <;> (try assumption) <;> intros; simp only [State.takeHead_ok, State.streamMissed_mask,
    State.streamFire_ok, State.strSend_ok, mask_regs, mask_tim, mask_hif, mask_log, mask_subs, mask_lrep,
    mask_streams, mask_strCmds, mask_pager0, mask_pager1, mask_rte, mask_sched, mask_poison, mask_out, mask_free,
    ite_mask, ite_ok, ite_self, foldl_ok, foldl_mask, implies_true, *]
  · simp only [State.takeHead_ok, State.streamMissed_mask, State.streamFire_ok, State.strSend_ok, mask_regs,
    mask_tim, mask_hif, mask_log, mask_subs, mask_lrep, mask_streams, mask_strCmds, mask_pager0, mask_pager1,
    mask_rte, mask_sched, mask_poison, mask_out, mask_free, ite_mask, ite_ok, ite_self, foldl_ok, foldl_mask,
    implies_true, *]

theorem execStreamDecode_ok (die : Nat) (s : State) (G : Fields) :
    G.regs → G.tim → G.hif → G.log → G.subs → G.lrep → G.streams → G.strCmds → G.pager0 → G.pager1 → G.rte → G.sched
      → G.cap → G.poison → G.out → (s.mask G).memoriesOk → ∀ t, execStreamDecode die s = .next t → (t.mask
      G).memoriesOk := by
  intros; rename_i h; obtain rfl := Host.Outcome.next.inj h
  apply State.takeHead_ok <;> (try assumption) <;> intros
  · apply State.streamFire_ok <;> (try assumption) <;> intros; simp only [State.takeHead_ok, State.streamMissed_mask,
    State.streamFire_ok, State.strDecode_ok, mask_regs, mask_tim, mask_hif, mask_log, mask_subs, mask_lrep,
    mask_streams, mask_strCmds, mask_pager0, mask_pager1, mask_rte, mask_sched, mask_cap, mask_poison, mask_out,
    ite_mask, ite_ok, ite_self, foldl_ok, foldl_mask, implies_true, *]
  · simp only [State.takeHead_ok, State.streamMissed_mask, State.streamFire_ok, State.strDecode_ok, mask_regs,
    mask_tim, mask_hif, mask_log, mask_subs, mask_lrep, mask_streams, mask_strCmds, mask_pager0, mask_pager1,
    mask_rte, mask_sched, mask_cap, mask_poison, mask_out, ite_mask, ite_ok, ite_self, foldl_ok, foldl_mask,
    implies_true, *]

theorem execColLaunch_ok (die : Nat) (s : State) (G : Fields) :
    G.regs → G.tim → G.hif → G.log → G.subs → G.rte → G.sched → G.cells → G.cel → G.groups → G.poison → G.out →
      G.free → (s.mask G).memoriesOk → ∀ t, execColLaunch die s = .next t → (t.mask G).memoriesOk := by
  intros; rename_i h; obtain rfl := Host.Outcome.next.inj h
  apply State.takeHead_ok <;> (try assumption) <;> intros
  · apply State.groupFire_ok <;> (try assumption) <;> intros
    simp only [State.takeHead_ok, State.groupFire_ok, State.colLaunch_ok, State.groupMissed_mask, mask_regs, mask_tim,
      mask_hif, mask_log, mask_subs, mask_rte, mask_sched, mask_cells, mask_cel, mask_groups, mask_poison, mask_out,
      mask_free, ite_mask, ite_ok, ite_self, foldl_ok, foldl_mask, implies_true, *]
  · simp only [State.takeHead_ok, State.groupFire_ok, State.colLaunch_ok, State.groupMissed_mask, mask_regs, mask_tim,
    mask_hif, mask_log, mask_subs, mask_rte, mask_sched, mask_cells, mask_cel, mask_groups, mask_poison, mask_out,
    mask_free, ite_mask, ite_ok, ite_self, foldl_ok, foldl_mask, implies_true, *]

theorem State.endSched_ok (s : State) (e : Nat) (G : Fields) :
    G.regs → G.tim → G.hif → G.log → G.subs → G.rte → G.sched → G.rpl → G.cel → G.groups → G.img → G.poison →
      G.regions → G.out → G.free → (s.mask G).memoriesOk → ((State.endSched s e).mask G).memoriesOk := by
  intros; simp only [State.endSched, State.replayEnd_mask, State.colStopAll_mask, State.advTo_mask, State.cmdsEnd_mask,
    State.unload_ok, State.fnEvt_mask, mask_regs, mask_tim, mask_hif, mask_log, mask_subs, mask_rte, mask_sched,
    mask_rpl, mask_cel, mask_groups, mask_img, mask_poison, mask_regions, mask_out, mask_free, ite_mask, ite_ok,
    ite_self, foldl_ok, foldl_mask, implies_true, *]

theorem State.schedDone_ok (s : State) (byStop : Bool) (G : Fields) :
    G.regs → G.tim → G.hif → G.log → G.subs → G.rte → G.sched → G.rpl → G.cel → G.groups → G.img → G.poison →
      G.regions → G.out → G.free → (s.mask G).memoriesOk → ((State.schedDone s byStop).mask G).memoriesOk := by
  intros; unfold State.schedDone; dsimp only; (repeat' split) <;> simp only [State.endSched_ok, mask_regs, mask_tim,
    mask_hif, mask_log, mask_subs, mask_rte, mask_sched, mask_rpl, mask_cel, mask_groups, mask_img, mask_poison,
    mask_regions, mask_out, mask_free, ite_mask, ite_ok, ite_self, foldl_ok, foldl_mask, implies_true, *]

theorem execSchedStopDone_ok (s : State) (G : Fields) :
    G.regs → G.tim → G.hif → G.log → G.subs → G.rte → G.sched → G.rpl → G.cel → G.groups → G.img → G.poison →
      G.regions → G.out → G.free → (s.mask G).memoriesOk → ∀ t, execSchedStopDone s = .next t → (t.mask G).memoriesOk
      := by
  intros; rename_i h; injection h with h; subst h; simp only [State.schedDone_ok, mask_regs, mask_tim, mask_hif,
    mask_log, mask_subs, mask_rte, mask_sched, mask_rpl, mask_cel, mask_groups, mask_img, mask_poison, mask_regions,
    mask_out, mask_free, ite_mask, ite_ok, ite_self, foldl_ok, foldl_mask, implies_true, *]

theorem execSchedItersEnd_ok (s : State) (G : Fields) :
    G.regs → G.tim → G.hif → G.log → G.subs → G.rte → G.sched → G.rpl → G.cel → G.groups → G.img → G.poison →
      G.regions → G.out → G.free → (s.mask G).memoriesOk → ∀ t, execSchedItersEnd s = .next t → (t.mask G).memoriesOk
      := by
  intros; rename_i h; injection h with h; subst h; simp only [State.schedDone_ok, mask_regs, mask_tim, mask_hif,
    mask_log, mask_subs, mask_rte, mask_sched, mask_rpl, mask_cel, mask_groups, mask_img, mask_poison, mask_regions,
    mask_out, mask_free, ite_mask, ite_ok, ite_self, foldl_ok, foldl_mask, implies_true, *]

theorem State.holdEdge_ok (s : State) (G : Fields) :
    G.regs → G.tim → G.hif → G.log → G.cap → G.poison → G.out → (s.mask G).memoriesOk → ((State.holdEdge s).mask
      G).memoriesOk := by
  intros; simp only [State.holdEdge, State.logTime_mask, State.timEvt_mask, State.captureHold_ok, mask_regs, mask_tim,
    mask_hif, mask_log, mask_cap, mask_poison, mask_out, ite_mask, ite_ok, ite_self, foldl_ok, foldl_mask,
    implies_true, *]

theorem State.slotStart1_ok (s : State) (fault0 : Bool) (fault1 : Bool) (G : Fields) :
    G.regs → G.tim → G.hif → G.log → G.lanes → G.rte → G.sched → G.cap → G.poison → G.out → (s.mask G).memoriesOk →
      ((State.slotStart1 s fault0 fault1).mask G).memoriesOk := by
  intros; simp only [State.slotStart1, State.advTo_mask, State.checkReplica_mask, State.reselect_mask,
    State.sampleRoot_mask, State.toFreerun_mask, State.bump_mask, State.hazard_mask, State.slotSends_mask,
    State.holdEdge_ok, mask_regs, mask_tim, mask_hif, mask_log, mask_lanes, mask_rte, mask_sched, mask_cap,
    mask_poison, mask_out, ite_mask, ite_ok, ite_self, foldl_ok, foldl_mask, implies_true, *]

theorem execSlotStart_ok (fault0 : Bool) (fault1 : Bool) (s : State) (G : Fields) :
    G.regs → G.tim → G.hif → G.log → G.lanes → G.rte → G.sched → G.cap → G.poison → G.out → (s.mask G).memoriesOk → ∀
      t, execSlotStart fault0 fault1 s = .next t → (t.mask G).memoriesOk := by
  intros; rename_i h; injection h with h; subst h; simp only [State.slotStart1_ok, mask_regs, mask_tim, mask_hif,
    mask_log, mask_lanes, mask_rte, mask_sched, mask_cap, mask_poison, mask_out, ite_mask, ite_ok, ite_self,
    foldl_ok, foldl_mask, implies_true, *]

theorem execForwardStep_ok (s : State) (G : Fields) :
    G.regs → G.tim → G.hif → G.log → G.subs → G.lrep → G.streams → G.strCmds → G.rte → G.sched → G.cap → G.cel →
      G.groups → G.mxu → G.poison → G.out → G.free → (s.mask G).memoriesOk → ∀ t, execForwardStep s = .next t →
      (t.mask G).memoriesOk := by
  intros; rename_i h; injection h with h; subst h; simp only [State.skipActions_mask, State.capMark_ok,
    State.follow_mask, State.timEvt_mask, State.setReg_mask, State.bump_mask, State.advTo_mask, State.hwReg_mask,
    State.offer_mask, State.hazard_mask, State.jumped_mask, mask_regs, mask_tim, mask_hif, mask_log, mask_subs,
    mask_lrep, mask_streams, mask_strCmds, mask_rte, mask_sched, mask_cap, mask_cel, mask_groups, mask_mxu,
    mask_poison, mask_out, mask_free, ite_mask, ite_ok, ite_self, foldl_ok, foldl_mask, implies_true, *]

theorem State.captureBegin_ok (s : State) (r : Region) (dest : Nat) (arm : Bool) (full : Bool) (egress : Bool) (sport
  : Nat) (G : Fields) :
    G.regs → G.hif → G.cap → G.poison → G.out → (s.mask G).memoriesOk → ((State.captureBegin s r dest arm full egress
      sport).mask G).memoriesOk := by
  intros; simp only [State.captureBegin, State.capMark_ok, mask_regs, mask_hif, mask_cap, mask_poison, mask_out,
    ite_mask, ite_ok, ite_self, foldl_ok, foldl_mask, implies_true, *]

theorem execCaptureStart_ok (d : Desc) (dest : Nat) (arm : Bool) (full : Bool) (egress : Bool) (trigger : Bool)
  (sport : Nat) (s : State) (G : Fields) :
    G.regs → G.tim → G.hif → G.cap → G.poison → G.out → (s.mask G).memoriesOk → ∀ t, execCaptureStart d dest arm full
      egress trigger sport s = .next t → (t.mask G).memoriesOk := by
  intros; rename_i h; injection h with h; subst h; apply State.hostCmd_ok <;> (try assumption) <;> intros <;>
    (repeat' split) <;> simp only [State.capTrigger_ok, State.captureBegin_ok, State.cmdEnd_mask, State.hostCmd_ok,
      mask_regs, mask_tim, mask_hif, mask_cap, mask_poison, mask_out, ite_mask, ite_ok, ite_self, foldl_ok,
      foldl_mask, implies_true, *]

theorem execCaptureStop_ok (d : Desc) (s : State) (G : Fields) :
    G.regs → G.tim → G.hif → G.cap → G.poison → G.out → (s.mask G).memoriesOk → ∀ t, execCaptureStop d s = .next t →
      (t.mask G).memoriesOk := by
  intros; rename_i h; injection h with h; subst h; apply State.hostCmd_ok <;> (try assumption) <;> intros <;>
    (repeat' split) <;> simp only [State.capEnd_ok, State.capUntrigger_ok, State.cmdEnd_mask, State.hostCmd_ok,
      mask_regs, mask_tim, mask_hif, mask_cap, mask_poison, mask_out, ite_mask, ite_ok, ite_self, foldl_ok,
      foldl_mask, implies_true, *]

theorem execCaptureTrigger_ok (p : Path) (v : Word) (s : State) (G : Fields) :
    G.regs → G.hif → G.cap → G.poison → G.out → (s.mask G).memoriesOk → ∀ t, execCaptureTrigger p v s = .next t →
      (t.mask G).memoriesOk := by
  intros; rename_i h; injection h with h; subst h; simp only [State.capTrigger_ok, mask_regs, mask_hif, mask_cap,
    mask_poison, mask_out, ite_mask, ite_ok, ite_self, foldl_ok, foldl_mask, implies_true, *]

theorem execCapturePostDone_ok (s : State) (G : Fields) :
    G.regs → G.hif → G.cap → G.poison → G.out → (s.mask G).memoriesOk → ∀ t, execCapturePostDone s = .next t →
      (t.mask G).memoriesOk := by
  intros; rename_i h; injection h with h; subst h; simp only [State.capEnd_ok, mask_regs, mask_hif, mask_cap,
    mask_poison, mask_out, ite_mask, ite_ok, ite_self, foldl_ok, foldl_mask, implies_true, *]

theorem execCaptureLossRecord_ok (s : State) (G : Fields) :
    G.regs → G.cap → G.poison → (s.mask G).memoriesOk → ∀ t, execCaptureLossRecord s = .next t → (t.mask
      G).memoriesOk := by
  intros; rename_i h; injection h with h; subst h; simp only [State.capDrain_mask, State.capLossRec_ok, mask_regs,
    mask_cap, mask_poison, ite_mask, ite_ok, ite_self, foldl_ok, foldl_mask, implies_true, *]

theorem State.inject_ok (s : State) (r : List Byte) (t : Nat) (G : Fields) :
    G.regs → G.tim → G.hif → G.log → G.subs → G.lrep → G.streams → G.rte → G.cap → G.cel → G.groups → G.greq0 → G.greq1
      → G.gheld → G.poison → G.out → G.free → (s.mask G).memoriesOk → ((State.inject s r t).mask G).memoriesOk := by
  intros; simp only [State.inject, State.bump_mask, State.rxLink_ok, mask_regs, mask_tim, mask_hif, mask_log,
    mask_subs, mask_lrep, mask_streams, mask_rte, mask_cap, mask_cel, mask_groups, mask_greq0, mask_greq1, mask_gheld,
    mask_poison, mask_out, mask_free, ite_mask, ite_ok, ite_self, foldl_ok, foldl_mask, implies_true, *]

theorem State.rplHold_ok (s : State) (on : Bool) (G : Fields) :
    G.regs → G.tim → G.hif → G.log → G.cap → G.rpl → G.poison → G.out → (s.mask G).memoriesOk → ((State.rplHold s
      on).mask G).memoriesOk := by
  intros; simp only [State.rplHold, State.holdEdge_ok, State.bump_mask, State.setReg_mask, mask_regs, mask_tim,
    mask_hif, mask_log, mask_cap, mask_rpl, mask_poison, mask_out, ite_mask, ite_ok, ite_self, foldl_ok, foldl_mask,
    implies_true, *]

theorem State.rplMark_ok (s : State) (r : List Byte) (t : Nat) (G : Fields) :
    G.regs → G.tim → G.hif → G.log → G.cap → G.rpl → G.poison → G.out → (s.mask G).memoriesOk → ((State.rplMark s r
      t).mask G).memoriesOk := by
  intros; unfold State.rplMark; (repeat' split) <;> simp only [State.rplHold_ok, State.advTo_mask, mask_regs, mask_tim,
    mask_hif, mask_log, mask_cap, mask_rpl, mask_poison, mask_out, ite_mask, ite_ok, ite_self, foldl_ok, foldl_mask,
    implies_true, *]

theorem State.rplRecord_ok (s : State) (r : List Byte) (staged : Bool) (G : Fields) :
    G.regs → G.tim → G.hif → G.log → G.subs → G.lrep → G.streams → G.rte → G.cap → G.rpl → G.cel → G.groups → G.greq0 →
      G.greq1 → G.gheld → G.poison → G.out → G.free → (s.mask G).memoriesOk → ((State.rplRecord s r staged).mask
      G).memoriesOk := by
  intros; unfold State.rplRecord; dsimp only; (repeat' split) <;> simp only [State.replayEnd_mask, State.rplMark_ok,
    State.inject_ok, mask_regs, mask_tim, mask_hif, mask_log, mask_subs, mask_lrep, mask_streams, mask_rte, mask_cap,
    mask_rpl, mask_cel, mask_groups, mask_greq0, mask_greq1, mask_gheld, mask_poison, mask_out, mask_free, ite_mask,
    ite_ok, ite_self, foldl_ok, foldl_mask, implies_true, *]

theorem execReplayInject_ok (r : List Byte) (staged : Bool) (s : State) (G : Fields) :
    G.regs → G.tim → G.hif → G.log → G.subs → G.lrep → G.streams → G.rte → G.cap → G.rpl → G.cel → G.groups → G.greq0 →
      G.greq1 → G.gheld → G.poison → G.out → G.free → (s.mask G).memoriesOk → ∀ t, execReplayInject r staged s = .next
      t → (t.mask G).memoriesOk := by
  intros; rename_i h; injection h with h; subst h; simp only [State.replayEnd_mask, State.rplRecord_ok,
    State.setReg_mask, mask_regs, mask_tim, mask_hif, mask_log, mask_subs, mask_lrep, mask_streams, mask_rte, mask_cap,
    mask_rpl, mask_cel, mask_groups, mask_greq0, mask_greq1, mask_gheld, mask_poison, mask_out, mask_free, ite_mask,
    ite_ok, ite_self, foldl_ok, foldl_mask, implies_true, *]

theorem execDigestDone_ok (s : State) (G : Fields) :
    G.regs → G.tim → G.hif → G.log → G.digest → G.poison → G.out → G.free → (s.mask G).memoriesOk → ∀ t,
      execDigestDone s = .next t → (t.mask G).memoriesOk := by
  intros; rename_i h; injection h with h; subst h; (repeat' split) <;> simp only [State.correct_ok,
    State.hbmBad_mask, State.setReg_mask, State.advTo_mask, State.freeWord_mask, mask_regs, mask_tim, mask_hif,
    mask_log, mask_digest, mask_poison, mask_out, mask_free, ite_mask, ite_ok, ite_self, foldl_ok, foldl_mask,
    implies_true, *]

theorem State.zeroWhere_ok (s : State) (f : Nat → Bool) (G : Fields) :
    G.poison → (s.mask G).memoriesOk → ((State.zeroWhere s f).mask G).memoriesOk := by
  intros; rename_i h0
  have h := State.due_ok s G (by assumption) h0
  refine ⟨?_, h.2⟩
  have h1 := h.1
  simp only [State.zeroWhere, State.mask] at h1 ⊢
  split
  · rfl
  · rename_i hm; rw [if_neg hm] at h1; exact memWfFrom_filter _ h1

theorem State.scrubAll_ok (s : State) (old : List (Nat × PavEntry)) (new : List (Nat × PavEntry)) (G : Fields) :
    G.regs → G.streams → G.rte → G.cells → G.cel → G.mxu → G.poison → (s.mask G).memoriesOk → ((State.scrubAll s old
      new).mask G).memoriesOk := by
  intros; unfold State.scrubAll
  extract_lets d col s1 c s2
  have h1 : (s1.mask G).memoriesOk := by apply State.zeroWhere_ok <;> assumption
  have h2 : s2.mask G = s1.mask G := by simp only [s2, State.mask, *, if_true]
  clear_value s2
  apply foldl_ok
  · intros; simp only [State.portScrub_mask, ite_mask, ite_ok, ite_self, *]
  · rw [h2]; exact h1

theorem State.pavCommit_ok (s : State) (p : Proposal) (who : Approver) (G : Fields) :
    G.regs → G.hif → G.log → G.pav → G.streams → G.rte → G.cells → G.cel → G.mxu → G.poison → G.mgt → G.out → G.free →
      (s.mask G).memoriesOk → ((State.pavCommit s p who).mask G).memoriesOk := by
  intros; simp only [State.pavCommit, State.audit_mask, State.scrubAll_ok, State.pavLast_mask, State.pavEvt_mask,
    State.bump_mask, State.newNonce_mask, State.approvalEnd_mask, mask_regs, mask_hif, mask_log, mask_pav,
    mask_streams, mask_rte, mask_cells, mask_cel, mask_mxu, mask_poison, mask_mgt, mask_out, mask_free, ite_mask,
    ite_ok, ite_self, foldl_ok, foldl_mask, implies_true, *]

theorem State.approve_ok (s : State) (b : List Byte) (who : Approver) (G : Fields) :
    G.regs → G.hif → G.log → G.pav → G.streams → G.rte → G.cells → G.cel → G.mxu → G.poison → G.mgt → G.out → G.free →
      (s.mask G).memoriesOk → ((State.approve s b who).mask G).memoriesOk := by
  intros; unfold State.approve; dsimp only; (repeat' split) <;> simp only [State.pavRefuse_mask, State.newNonce_mask,
    State.approvalEnd_mask, State.pavCommit_ok, mask_regs, mask_hif, mask_log, mask_pav, mask_streams, mask_rte,
    mask_cells, mask_cel, mask_mxu, mask_poison, mask_mgt, mask_out, mask_free, ite_mask, ite_ok, ite_self, foldl_ok,
    foldl_mask, implies_true, *]

theorem execPavApprove_ok (d : Desc) (blk : List Byte) (blkOk : Bool) (s : State) (G : Fields) :
    G.regs → G.tim → G.hif → G.log → G.pav → G.streams → G.rte → G.cells → G.cel → G.mxu → G.poison → G.mgt → G.out →
      G.free → (s.mask G).memoriesOk → ∀ t, execPavApprove d blk blkOk s = .next t → (t.mask G).memoriesOk := by
  intros; rename_i h; injection h with h; subst h; apply State.hostCmd_ok <;> (try assumption) <;> intros <;>
    (repeat' split) <;> simp only [State.hostCmd_ok, State.cmdEnd_mask, State.sqStop_mask, State.approve_ok, mask_regs,
      mask_tim, mask_hif, mask_log, mask_pav, mask_streams, mask_rte, mask_cells, mask_cel, mask_mxu, mask_poison,
      mask_mgt, mask_out, mask_free, ite_mask, ite_ok, ite_self, foldl_ok, foldl_mask, implies_true, *]

theorem State.mgtApprove_ok (s : State) (b : List Byte) (who : Approver) (G : Fields) :
    G.regs → G.tim → G.hif → G.log → G.pav → G.streams → G.rte → G.cells → G.cel → G.mxu → G.poison → G.mgt → G.out →
      G.free → (s.mask G).memoriesOk → ((State.mgtApprove s b who).mask G).memoriesOk := by
  intros; rename_i h; unfold State.mgtApprove
  dsimp only
  apply State.approve_ok <;> try assumption
  rw [← State.advTo_mask s (s.nowAt s.hif.nextTake) G (by assumption)] at h
  exact h

theorem State.coldReset_ok (s : State) (cause : Nat) (G : Fields) :
    G.regs → G.latch → G.busy → G.boot → G.tim → G.hif → G.log → G.pav → G.subs → G.lanes → G.lrep → G.streams →
      G.strCmds → G.pager0 → G.pager1 → G.rte → G.sched → G.cap → G.rpl → G.digest → G.cells → G.cel → G.groups → G.mxu
      → G.tokens → G.pf0 → G.pf1 → G.greq0 → G.greq1 → G.gheld → G.gtbl → G.gwin → G.img → G.loading → G.poison →
      G.regions → G.mgt → G.out → (s.mask G).memoriesOk → ((State.coldReset s cause).mask G).memoriesOk := by
  intros
  rename_i h
  unfold State.mask State.memoriesOk at *
  unfold State.coldReset
  dsimp only at h ⊢
  refine ⟨?_, h.2⟩
  split <;> rfl

theorem execPowerOn_ok (s : State) (G : Fields) :
    G.regs → G.latch → G.busy → G.boot → G.tim → G.hif → G.log → G.pav → G.subs → G.lanes → G.lrep → G.streams →
      G.strCmds → G.pager0 → G.pager1 → G.rte → G.sched → G.cap → G.rpl → G.digest → G.cells → G.cel → G.groups → G.mxu
      → G.tokens → G.pf0 → G.pf1 → G.greq0 → G.greq1 → G.gheld → G.gtbl → G.gwin → G.img → G.loading → G.poison →
      G.regions → G.mgt → G.out → (s.mask G).memoriesOk → ∀ t, execPowerOn s = .next t → (t.mask G).memoriesOk := by
  intros; rename_i h; obtain rfl := Host.Outcome.next.inj h
  have h : (State.mask G (s.coldReset 0)).memoriesOk := by apply State.coldReset_ok <;> assumption
  exact h

theorem execColdResetAssert_ok (pwrOk : Bool) (rstN : Bool) (s : State) (G : Fields) :
    G.regs → G.latch → G.busy → G.boot → G.tim → G.hif → G.log → G.pav → G.subs → G.lanes → G.lrep → G.streams →
      G.strCmds → G.pager0 → G.pager1 → G.rte → G.sched → G.cap → G.rpl → G.digest → G.cells → G.cel → G.groups → G.mxu
      → G.tokens → G.pf0 → G.pf1 → G.greq0 → G.greq1 → G.gheld → G.gtbl → G.gwin → G.img → G.loading → G.poison →
      G.regions → G.mgt → G.out → (s.mask G).memoriesOk → ∀ t, execColdResetAssert pwrOk rstN s = .next t → (t.mask
      G).memoriesOk := by
  intros; rename_i h; injection h with h; subst h; simp only [State.coldReset_ok, State.tapLapse_mask, mask_regs,
    mask_latch, mask_busy, mask_boot, mask_tim, mask_hif, mask_log, mask_pav, mask_subs, mask_lanes, mask_lrep,
    mask_streams, mask_strCmds, mask_pager0, mask_pager1, mask_rte, mask_sched, mask_cap, mask_rpl, mask_digest,
    mask_cells, mask_cel, mask_groups, mask_mxu, mask_tokens, mask_pf0, mask_pf1, mask_greq0, mask_greq1, mask_gheld,
    mask_gtbl, mask_gwin, mask_img, mask_loading, mask_poison, mask_regions, mask_mgt, mask_out, ite_mask, ite_ok,
    ite_self, foldl_ok, foldl_mask, implies_true, *]

theorem execVsbLoss_ok (s : State) (G : Fields) :
    G.regs → G.latch → G.busy → G.boot → G.tim → G.hif → G.log → G.pav → G.subs → G.lanes → G.lrep → G.streams →
      G.strCmds → G.pager0 → G.pager1 → G.rte → G.sched → G.cap → G.rpl → G.digest → G.cells → G.cel → G.groups → G.mxu
      → G.tokens → G.pf0 → G.pf1 → G.greq0 → G.greq1 → G.gheld → G.gtbl → G.gwin → G.img → G.loading → G.poison →
      G.regions → G.mgt → G.out → (s.mask G).memoriesOk → ∀ t, execVsbLoss s = .next t → (t.mask G).memoriesOk := by
  intros; rename_i h; obtain rfl := Host.Outcome.next.inj h
  have h : (State.mask G (s.coldReset s.boot.cause)).memoriesOk := by apply State.coldReset_ok <;> assumption
  dsimp only
  split
  · rw [State.emit_mask _ _ _ (by assumption)]; exact h
  · exact h

theorem execClearDone_ok (s : State) (G : Fields) :
    G.regs → G.boot → G.log → G.cells → G.poison → (s.mask G).memoriesOk → ∀ t, execClearDone s = .next t → (t.mask
      G).memoriesOk := by
  intros; rename_i h; obtain rfl := Host.Outcome.next.inj h; clear h
  have hok : (s.mask G).memoriesOk := by assumption
  split
  · extract_lets +lift s1 s2 s3 s4
    have h1 : (s1.mask G).memoriesOk := by
      unfold State.mask State.memoriesOk at hok ⊢
      exact ⟨by simp only [s1]; split <;> rfl, hok.2⟩
    clear_value s1
    have h2 : s2.mask G = s1.mask G := by simp only [s2]; simp only [State.setFld_mask, State.logClear_mask,
      mask_regs, mask_boot, mask_log, mask_cells, mask_poison, mask_soft, writes_ok, ite_mask, ite_ok, ite_self,
      foldl_ok, foldl_mask, implies_true, *]
    have h3 : s3.mask G = s1.mask G := by
      simp only [s3]; rw [foldl_mask, h2]; intros; simp only [State.setFld_mask, State.logClear_mask, mask_regs,
        mask_boot, mask_log, mask_cells, mask_poison, mask_soft, writes_ok, ite_mask, ite_ok, ite_self, foldl_ok,
        foldl_mask, implies_true, *]
    have h4 : s4.mask G = s1.mask G := by simp only [s4]; simp only [State.setFld_mask, State.logClear_mask,
      mask_regs, mask_boot, mask_log, mask_cells, mask_poison, mask_soft, writes_ok, ite_mask, ite_ok, ite_self,
      foldl_ok, foldl_mask, implies_true, *]
    simp only [State.setFld_mask, State.logClear_mask, mask_regs, mask_boot, mask_log, mask_cells, mask_poison,
      mask_soft, writes_ok, ite_mask, ite_ok, ite_self, foldl_ok, foldl_mask, implies_true, *]
  · assumption

theorem State.warmUnits_ok (s : State) (G : Fields) :
    G.hif → G.streams → G.strCmds → G.pager0 → G.pager1 → G.sched → G.cap → G.rpl → G.digest → G.cells → G.cel →
      G.groups → G.mxu → G.tokens → G.pf0 → G.pf1 → G.greq0 → G.greq1 → G.gheld → G.gtbl → G.img → G.loading → G.poison
      → G.regions → (s.mask G).memoriesOk → ((State.warmUnits s).mask G).memoriesOk := by
  intros; exact State.due_ok _ G (by assumption) (State.unload_ok s G (by assumption) (by assumption) (by assumption)
    (by assumption) (by assumption))

theorem State.warmBlocks_ok (s : State) (G : Fields) :
    G.regs → G.busy → G.tim → G.hif → G.log → G.pav → G.subs → G.lrep → G.streams → G.strCmds → G.pager0 → G.pager1 →
      G.rte → G.sched → G.cap → G.rpl → G.digest → G.cells → G.cel → G.groups → G.mxu → G.tokens → G.pf0 → G.pf1 →
      G.greq0 → G.greq1 → G.gheld → G.gtbl → G.img → G.loading → G.poison → G.regions → G.out → G.free → (s.mask
      G).memoriesOk → ((State.warmBlocks s).mask G).memoriesOk := by
  intros; simp only [State.warmBlocks, State.warmUnits_ok, State.allReset_mask, State.warmPav_mask,
    State.warmPorts_mask, State.logFlush_mask, State.setFld_mask, State.warmBpm_mask, State.warmRegs_mask, mask_regs,
    mask_busy, mask_tim, mask_hif, mask_log, mask_pav, mask_subs, mask_lrep, mask_streams, mask_strCmds, mask_pager0,
    mask_pager1, mask_rte, mask_sched, mask_cap, mask_rpl, mask_digest, mask_cells, mask_cel, mask_groups, mask_mxu,
    mask_tokens, mask_pf0, mask_pf1, mask_greq0, mask_greq1, mask_gheld, mask_gtbl, mask_img, mask_loading,
    mask_poison, mask_regions, mask_out, mask_free, ite_mask, ite_ok, ite_self, foldl_ok, foldl_mask, implies_true, *]

theorem State.warmReset_ok (s : State) (cause : Nat) (G : Fields) :
    G.regs → G.busy → G.boot → G.tim → G.hif → G.log → G.pav → G.subs → G.lrep → G.streams → G.strCmds → G.pager0 →
      G.pager1 → G.rte → G.sched → G.cap → G.rpl → G.digest → G.cells → G.cel → G.groups → G.mxu → G.tokens → G.pf0 →
      G.pf1 → G.greq0 → G.greq1 → G.gheld → G.gtbl → G.img → G.loading → G.poison → G.regions → G.out → G.free →
      (s.mask G).memoriesOk → ((State.warmReset s cause).mask G).memoriesOk := by
  intros; simp only [State.warmReset, State.warmBlocks_ok, State.cfgEvt_mask, mask_regs, mask_busy, mask_boot,
    mask_tim, mask_hif, mask_log, mask_pav, mask_subs, mask_lrep, mask_streams, mask_strCmds, mask_pager0, mask_pager1,
    mask_rte, mask_sched, mask_cap, mask_rpl, mask_digest, mask_cells, mask_cel, mask_groups, mask_mxu, mask_tokens,
    mask_pf0, mask_pf1, mask_greq0, mask_greq1, mask_gheld, mask_gtbl, mask_img, mask_loading, mask_poison,
    mask_regions, mask_out, mask_free, ite_mask, ite_ok, ite_self, foldl_ok, foldl_mask, implies_true, *]

theorem execWrstAssert_ok (s : State) (G : Fields) :
    G.regs → G.busy → G.boot → G.tim → G.hif → G.log → G.pav → G.subs → G.lrep → G.streams → G.strCmds → G.pager0 →
      G.pager1 → G.rte → G.sched → G.cap → G.rpl → G.digest → G.cells → G.cel → G.groups → G.mxu → G.tokens → G.pf0 →
      G.pf1 → G.greq0 → G.greq1 → G.gheld → G.gtbl → G.img → G.loading → G.poison → G.regions → G.out → G.free →
      (s.mask G).memoriesOk → ∀ t, execWrstAssert s = .next t → (t.mask G).memoriesOk := by
  intros; rename_i h; injection h with h; subst h; simp only [State.warmReset_ok, mask_regs, mask_busy, mask_boot,
    mask_tim, mask_hif, mask_log, mask_pav, mask_subs, mask_lrep, mask_streams, mask_strCmds, mask_pager0, mask_pager1,
    mask_rte, mask_sched, mask_cap, mask_rpl, mask_digest, mask_cells, mask_cel, mask_groups, mask_mxu, mask_tokens,
    mask_pf0, mask_pf1, mask_greq0, mask_greq1, mask_gheld, mask_gtbl, mask_img, mask_loading, mask_poison,
    mask_regions, mask_out, mask_free, ite_mask, ite_ok, ite_self, foldl_ok, foldl_mask, implies_true, *]

theorem execWatchdogFault_ok (s : State) (G : Fields) :
    G.regs → G.busy → G.boot → G.tim → G.hif → G.log → G.pav → G.subs → G.lrep → G.streams → G.strCmds → G.pager0 →
      G.pager1 → G.rte → G.sched → G.cap → G.rpl → G.digest → G.cells → G.cel → G.groups → G.mxu → G.tokens → G.pf0 →
      G.pf1 → G.greq0 → G.greq1 → G.gheld → G.gtbl → G.img → G.loading → G.poison → G.regions → G.out → G.free →
      (s.mask G).memoriesOk → ∀ t, execWatchdogFault s = .next t → (t.mask G).memoriesOk := by
  intros; rename_i h; injection h with h; subst h; simp only [State.warmReset_ok, mask_regs, mask_busy, mask_boot,
    mask_tim, mask_hif, mask_log, mask_pav, mask_subs, mask_lrep, mask_streams, mask_strCmds, mask_pager0, mask_pager1,
    mask_rte, mask_sched, mask_cap, mask_rpl, mask_digest, mask_cells, mask_cel, mask_groups, mask_mxu, mask_tokens,
    mask_pf0, mask_pf1, mask_greq0, mask_greq1, mask_gheld, mask_gtbl, mask_img, mask_loading, mask_poison,
    mask_regions, mask_out, mask_free, ite_mask, ite_ok, ite_self, foldl_ok, foldl_mask, implies_true, *]

theorem State.cfgReset_ok (s : State) (v : Word) (G : Fields) :
    G.regs → G.latch → G.busy → G.boot → G.tim → G.hif → G.log → G.pav → G.subs → G.lanes → G.lrep → G.streams →
      G.strCmds → G.pager0 → G.pager1 → G.rte → G.sched → G.cap → G.rpl → G.digest → G.cells → G.cel → G.groups → G.mxu
      → G.tokens → G.pf0 → G.pf1 → G.greq0 → G.greq1 → G.gheld → G.gtbl → G.gwin → G.img → G.loading → G.poison →
      G.regions → G.mgt → G.out → G.free → (s.mask G).memoriesOk → ((State.cfgReset s v).mask G).memoriesOk := by
  intros; simp only [State.cfgReset, State.coldStart_mask, State.coldReset_ok, State.warmReset_ok, mask_regs,
    mask_latch, mask_busy, mask_boot, mask_tim, mask_hif, mask_log, mask_pav, mask_subs, mask_lanes, mask_lrep,
    mask_streams, mask_strCmds, mask_pager0, mask_pager1, mask_rte, mask_sched, mask_cap, mask_rpl, mask_digest,
    mask_cells, mask_cel, mask_groups, mask_mxu, mask_tokens, mask_pf0, mask_pf1, mask_greq0, mask_greq1, mask_gheld,
    mask_gtbl, mask_gwin, mask_img, mask_loading, mask_poison, mask_regions, mask_mgt, mask_out, mask_free, ite_mask,
    ite_ok, ite_self, foldl_ok, foldl_mask, implies_true, *]

theorem execCfgResetCold_ok (p : Path) (v : Word) (s : State) (G : Fields) :
    G.regs → G.latch → G.busy → G.boot → G.tim → G.hif → G.log → G.pav → G.subs → G.lanes → G.lrep → G.streams →
      G.strCmds → G.pager0 → G.pager1 → G.rte → G.sched → G.cap → G.rpl → G.digest → G.cells → G.cel → G.groups → G.mxu
      → G.tokens → G.pf0 → G.pf1 → G.greq0 → G.greq1 → G.gheld → G.gtbl → G.gwin → G.img → G.loading → G.poison →
      G.regions → G.mgt → G.out → G.free → (s.mask G).memoriesOk → ∀ t, execCfgResetCold p v s = .next t → (t.mask
      G).memoriesOk := by
  intros; rename_i h; injection h with h; subst h; simp only [State.cfgReset_ok, mask_regs, mask_latch, mask_busy,
    mask_boot, mask_tim, mask_hif, mask_log, mask_pav, mask_subs, mask_lanes, mask_lrep, mask_streams, mask_strCmds,
    mask_pager0, mask_pager1, mask_rte, mask_sched, mask_cap, mask_rpl, mask_digest, mask_cells, mask_cel, mask_groups,
    mask_mxu, mask_tokens, mask_pf0, mask_pf1, mask_greq0, mask_greq1, mask_gheld, mask_gtbl, mask_gwin, mask_img,
    mask_loading, mask_poison, mask_regions, mask_mgt, mask_out, mask_free, ite_mask, ite_ok, ite_self, foldl_ok,
    foldl_mask, implies_true, *]

theorem execCfgResetWarm_ok (p : Path) (v : Word) (s : State) (G : Fields) :
    G.regs → G.latch → G.busy → G.boot → G.tim → G.hif → G.log → G.pav → G.subs → G.lanes → G.lrep → G.streams →
      G.strCmds → G.pager0 → G.pager1 → G.rte → G.sched → G.cap → G.rpl → G.digest → G.cells → G.cel → G.groups → G.mxu
      → G.tokens → G.pf0 → G.pf1 → G.greq0 → G.greq1 → G.gheld → G.gtbl → G.gwin → G.img → G.loading → G.poison →
      G.regions → G.mgt → G.out → G.free → (s.mask G).memoriesOk → ∀ t, execCfgResetWarm p v s = .next t → (t.mask
      G).memoriesOk := by
  intros; rename_i h; injection h with h; subst h; simp only [State.cfgReset_ok, mask_regs, mask_latch, mask_busy,
    mask_boot, mask_tim, mask_hif, mask_log, mask_pav, mask_subs, mask_lanes, mask_lrep, mask_streams, mask_strCmds,
    mask_pager0, mask_pager1, mask_rte, mask_sched, mask_cap, mask_rpl, mask_digest, mask_cells, mask_cel, mask_groups,
    mask_mxu, mask_tokens, mask_pf0, mask_pf1, mask_greq0, mask_greq1, mask_gheld, mask_gtbl, mask_gwin, mask_img,
    mask_loading, mask_poison, mask_regions, mask_mgt, mask_out, mask_free, ite_mask, ite_ok, ite_self, foldl_ok,
    foldl_mask, implies_true, *]

theorem execFlashOpDone_ok (s : State) (G : Fields) :
    G.regs → G.boot → (s.mask G).memoriesOk → ∀ t, execFlashOpDone s = .next t → (t.mask G).memoriesOk := by
  intros; rename_i h; obtain rfl := Host.Outcome.next.inj h; clear h
  have hok : (s.mask G).memoriesOk := by assumption
  have key : ∀ (b : Boot) (x : List Host.Cell), (memWf s.flash = true → memWf x = true) →
      (State.mask G { s with boot := b, flash := x }).memoriesOk := by
    intro b x hx
    unfold State.mask State.memoriesOk at hok ⊢
    refine ⟨hok.1, ?_⟩
    have h2 := hok.2
    dsimp only at h2 ⊢
    split
    · rfl
    · rename_i hm; rw [if_neg hm] at h2; exact hx h2
  split
  · exact hok
  · dsimp only
    rw [ite_mask, ite_ok]
    split
    · simp only [State.fillPage_mask, mask_regs, mask_boot, ite_mask, ite_ok, ite_self, foldl_ok, foldl_mask,
      implies_true, *]
    · rw [ite_mask, ite_ok]
      split
      · exact key _ _ fun h => memWf_memWrite _ _ h
      · exact key _ _ fun h => memWf_memClear _ _ h

theorem State.unitsHeld_ok (s : State) (G : Fields) :
    G.sched → G.cells → G.cel → G.mxu → G.tokens → G.poison → (s.mask G).memoriesOk → ((State.unitsHeld s).mask
      G).memoriesOk := by
  intros; exact State.due_ok s G (by assumption) (by assumption)

theorem State.fatalEnter_ok (s : State) (code : Nat) (d0 : Nat) (d1 : Nat) (G : Fields) :
    G.regs → G.tim → G.hif → G.log → G.subs → G.lanes → G.lrep → G.streams → G.rte → G.sched → G.cells → G.cel →
      G.mxu → G.tokens → G.poison → G.mgt → G.out → (s.mask G).memoriesOk → ((State.fatalEnter s code d0 d1).mask
      G).memoriesOk := by
  intros; simp only [State.fatalEnter, State.noSource_mask, State.portsIdle_mask, State.stcIdle_mask,
    State.unitsHeld_ok, State.evt_mask, State.offer_mask, mask_regs, mask_tim, mask_hif, mask_log, mask_subs,
    mask_lanes, mask_lrep, mask_streams, mask_rte, mask_sched, mask_cells, mask_cel, mask_mxu, mask_tokens,
    mask_poison, mask_mgt, mask_out, ite_mask, ite_ok, ite_self, foldl_ok, foldl_mask, implies_true, *]

theorem State.lockLost_ok (s : State) (G : Fields) :
    G.regs → G.tim → G.hif → G.log → G.subs → G.lanes → G.lrep → G.streams → G.rte → G.sched → G.cells → G.cel →
      G.mxu → G.tokens → G.poison → G.mgt → G.out → (s.mask G).memoriesOk → ((State.lockLost s).mask G).memoriesOk :=
      by
  intros; unfold State.lockLost; dsimp only
  apply State.oneCycle_ok
  · assumption
  · intros; simp only [State.fatalEnter_ok, State.offer_mask, *]
  · simp only [State.emit_mask, mask_tim, ite_mask, ite_self, *]

theorem execRootLockLoss_ok (s : State) (G : Fields) :
    G.regs → G.tim → G.hif → G.log → G.subs → G.lanes → G.lrep → G.streams → G.rte → G.sched → G.cells → G.cel →
      G.mxu → G.tokens → G.poison → G.mgt → G.out → (s.mask G).memoriesOk → ∀ t, execRootLockLoss s = .next t →
      (t.mask G).memoriesOk := by
  intros; rename_i h; injection h with h; subst h; simp only [State.lockLost_ok, mask_regs, mask_tim, mask_hif,
    mask_log, mask_subs, mask_lanes, mask_lrep, mask_streams, mask_rte, mask_sched, mask_cells, mask_cel, mask_mxu,
    mask_tokens, mask_poison, mask_mgt, mask_out, ite_mask, ite_ok, ite_self, foldl_ok, foldl_mask, implies_true, *]

theorem execRefclkLoss_ok (s : State) (G : Fields) :
    G.regs → G.tim → G.hif → G.log → G.subs → G.lanes → G.lrep → G.streams → G.rte → G.sched → G.cells → G.cel →
      G.mxu → G.tokens → G.poison → G.mgt → G.out → (s.mask G).memoriesOk → ∀ t, execRefclkLoss s = .next t → (t.mask
      G).memoriesOk := by
  intros; rename_i h; injection h with h; subst h; simp only [State.lockLost_ok, State.offer_mask, mask_regs,
    mask_tim, mask_hif, mask_log, mask_subs, mask_lanes, mask_lrep, mask_streams, mask_rte, mask_sched, mask_cells,
    mask_cel, mask_mxu, mask_tokens, mask_poison, mask_mgt, mask_out, ite_mask, ite_ok, ite_self, foldl_ok,
    foldl_mask, implies_true, *]

theorem execPkgLinkFail_ok (link : Nat) (pair : Nat) (s : State) (G : Fields) :
    G.regs → G.tim → G.hif → G.log → G.subs → G.lanes → G.lrep → G.streams → G.rte → G.sched → G.cells → G.cel →
      G.mxu → G.tokens → G.poison → G.mgt → G.out → (s.mask G).memoriesOk → ∀ t, execPkgLinkFail link pair s = .next
      t → (t.mask G).memoriesOk := by
  intros; rename_i h; injection h with h; subst h; simp only [State.fatalEnter_ok, mask_regs, mask_tim, mask_hif,
    mask_log, mask_subs, mask_lanes, mask_lrep, mask_streams, mask_rte, mask_sched, mask_cells, mask_cel, mask_mxu,
    mask_tokens, mask_poison, mask_mgt, mask_out, ite_mask, ite_ok, ite_self, foldl_ok, foldl_mask, implies_true, *]

theorem State.eccStore_ok (s : State) (G : Fields) :
    G.sched → G.cel → G.img → G.poison → G.regions → (s.mask G).memoriesOk → ((State.eccStore s).mask G).memoriesOk
      := by
  intros; simp only [State.eccStore, State.unload_ok, mask_sched, mask_cel, mask_img, mask_poison, mask_regions,
    ite_mask, ite_ok, ite_self, foldl_ok, foldl_mask, implies_true, *]

theorem State.eccEffect_ok (s : State) (k : Nat) (i : Nat) (die : Nat) (G : Fields) :
    G.regs → G.tim → G.hif → G.log → G.subs → G.lanes → G.lrep → G.streams → G.rte → G.sched → G.cells → G.cel →
      G.groups → G.mxu → G.tokens → G.gtbl → G.img → G.poison → G.regions → G.mgt → G.out → G.free → (s.mask
      G).memoriesOk → ((State.eccEffect s k i die).mask G).memoriesOk := by
  intros; unfold State.eccEffect
  simp only [State.eccRoute_mask, State.destroyGroup_mask, State.setStream_mask, State.setPolicer_mask,
    State.setOwner_mask, State.eccBuffer_mask, State.eccStore_ok, State.poisonIt_ok, State.damageHeld_mask,
    State.fatalEnter_ok, mask_regs, mask_tim, mask_hif, mask_log, mask_subs, mask_lanes, mask_lrep, mask_streams,
    mask_rte, mask_sched, mask_cells, mask_cel, mask_groups, mask_mxu, mask_tokens, mask_gtbl, mask_img, mask_poison,
    mask_regions, mask_mgt, mask_out, mask_free, ite_mask, ite_ok, ite_self, foldl_ok, foldl_mask, implies_true, *]
  (repeat' split) <;> simp only [State.eccRoute_mask, State.destroyGroup_mask, State.setStream_mask,
    State.setPolicer_mask, State.setOwner_mask, State.eccBuffer_mask, State.eccStore_ok, State.poisonIt_ok,
    State.damageHeld_mask, State.fatalEnter_ok, mask_regs, mask_tim, mask_hif, mask_log, mask_subs, mask_lanes,
    mask_lrep, mask_streams, mask_rte, mask_sched, mask_cells, mask_cel, mask_groups, mask_mxu, mask_tokens, mask_gtbl,
    mask_img, mask_poison, mask_regions, mask_mgt, mask_out, mask_free, ite_mask, ite_ok, ite_self, foldl_ok,
    foldl_mask, implies_true, *]

theorem execTableEccFault_ok (structure_ : Nat) (index : Nat) (die : Nat) (s : State) (G : Fields) :
    G.regs → G.tim → G.hif → G.log → G.subs → G.lanes → G.lrep → G.streams → G.rte → G.sched → G.cells → G.cel →
      G.groups → G.mxu → G.tokens → G.gtbl → G.img → G.poison → G.regions → G.mgt → G.out → G.free → (s.mask
      G).memoriesOk → ∀ t, execTableEccFault structure_ index die s = .next t → (t.mask G).memoriesOk := by
  intros; rename_i h; injection h with h; subst h; dsimp only; (repeat' split) <;> simp only [State.eccEffect_ok,
    State.poisonIt_ok, State.soften_ok, State.tblFault_mask, State.bump_mask, mask_regs, mask_tim, mask_hif,
    mask_log, mask_subs, mask_lanes, mask_lrep, mask_streams, mask_rte, mask_sched, mask_cells, mask_cel,
    mask_groups, mask_mxu, mask_tokens, mask_gtbl, mask_img, mask_poison, mask_regions, mask_mgt, mask_out,
    mask_free, ite_mask, ite_ok, ite_self, foldl_ok, foldl_mask, implies_true, *]

theorem stateOr_ok (s : State) (o : Host.Outcome State Fault Refusal) (G : Fields) :
    (∀ t, o = .next t → (t.mask G).memoriesOk) → (s.mask G).memoriesOk → ((stateOr s o).mask G).memoriesOk := by
  intro h h0; unfold stateOr; split
  · rename_i t; exact h t rfl
  · exact h0

theorem State.plainUnless_ok (s : State) (o : Nat) (v : Word) (bad : Bool) (ignored : State → State) (G : Fields) :
    G.regs → (∀ (y0 : State), (y0.mask G).memoriesOk → ((ignored y0).mask G).memoriesOk) → (s.mask G).memoriesOk →
      ((State.plainUnless s o v bad ignored).mask G).memoriesOk := by
  intros; simp only [State.plainUnless, State.plainWrite_mask, mask_regs, ite_mask, ite_ok, ite_self, foldl_ok,
    foldl_mask, implies_true, *]

theorem State.writeCfg_ok (s : State) (p : Path) (o : Nat) (v : Word) (G : Fields) :
    G.regs → G.latch → G.busy → G.boot → G.tim → G.hif → G.log → G.pav → G.subs → G.lanes → G.lrep → G.streams →
      G.strCmds → G.pager0 → G.pager1 → G.rte → G.sched → G.cap → G.rpl → G.digest → G.cells → G.cel → G.groups → G.mxu
      → G.tokens → G.pf0 → G.pf1 → G.greq0 → G.greq1 → G.gheld → G.gtbl → G.gwin → G.img → G.loading → G.poison →
      G.regions → G.mgt → G.out → G.free → (s.mask G).memoriesOk → ((State.writeCfg s p o v).mask G).memoriesOk := by
  intros; simp only [State.writeCfg, State.cfgReset_ok, State.flCmd_mask, State.fuseProg_mask, State.plainWrite_mask,
    mask_regs, mask_latch, mask_busy, mask_boot, mask_tim, mask_hif, mask_log, mask_pav, mask_subs, mask_lanes,
    mask_lrep, mask_streams, mask_strCmds, mask_pager0, mask_pager1, mask_rte, mask_sched, mask_cap, mask_rpl,
    mask_digest, mask_cells, mask_cel, mask_groups, mask_mxu, mask_tokens, mask_pf0, mask_pf1, mask_greq0, mask_greq1,
    mask_gheld, mask_gtbl, mask_gwin, mask_img, mask_loading, mask_poison, mask_regions, mask_mgt, mask_out, mask_free,
    ite_mask, ite_ok, ite_self, foldl_ok, foldl_mask, implies_true, *]

theorem State.writeDet_ok (s : State) (p : Path) (o : Nat) (v : Word) (G : Fields) :
    G.regs → G.hif → G.log → G.cap → G.digest → G.poison → G.out → (s.mask G).memoriesOk → ((State.writeDet s p o
      v).mask G).memoriesOk := by
  intros
  have a0 := stateOr_ok s _ G (execCaptureTrigger_ok p v s G (by assumption) (by assumption) (by assumption) (by
    assumption) (by assumption) (by assumption)) (by assumption)
  have a1 := stateOr_mask s _ G (execDigestStart_mask p v s G (by assumption) (by assumption) (by assumption) (by
    assumption) (by assumption))
  unfold State.writeDet
  split
  · exact a0
  split
  · rw [a1]; assumption
  split <;> apply State.plainUnless_ok <;> (try assumption) <;> intros <;> simp only [id_eq, stateOr_ok,
    execCaptureTrigger_ok, execDigestStart_mask, State.plainUnless_ok, State.evt_mask, mask_regs, mask_hif, mask_log,
    mask_cap, mask_digest, mask_poison, mask_out, ite_mask, ite_ok, ite_self, foldl_ok, foldl_mask, implies_true, *]

theorem State.regWrite_ok (s : State) (p : Path) (o : Nat) (v : Word) (G : Fields) :
    G.regs → G.latch → G.busy → G.boot → G.tim → G.hif → G.log → G.pav → G.subs → G.lanes → G.lrep → G.streams →
      G.strCmds → G.pager0 → G.pager1 → G.rte → G.sched → G.cap → G.rpl → G.digest → G.cells → G.cel → G.groups → G.mxu
      → G.tokens → G.pf0 → G.pf1 → G.greq0 → G.greq1 → G.gheld → G.gtbl → G.gwin → G.img → G.loading → G.poison →
      G.regions → G.mgt → G.out → G.free → (s.mask G).memoriesOk → ((State.regWrite s p o v).mask G).memoriesOk := by
  intros; unfold State.regWrite; (repeat' split) <;> simp only [State.writeClk_mask, State.writeTim_mask,
    State.writeHif_mask, State.writeCfg_ok, State.writeLog_mask, State.writeMgt_mask, State.writeLne_mask,
    State.writePrt_mask, State.writeRte_mask, State.writeBpm_mask, State.writeSch_mask, State.writeCel_mask,
    State.writeCol_mask, State.writeStr_mask, State.writeMem_mask, State.writeDet_ok, State.plainWrite_mask, mask_regs,
    mask_latch, mask_busy, mask_boot, mask_tim, mask_hif, mask_log, mask_pav, mask_subs, mask_lanes, mask_lrep,
    mask_streams, mask_strCmds, mask_pager0, mask_pager1, mask_rte, mask_sched, mask_cap, mask_rpl, mask_digest,
    mask_cells, mask_cel, mask_groups, mask_mxu, mask_tokens, mask_pf0, mask_pf1, mask_greq0, mask_greq1, mask_gheld,
    mask_gtbl, mask_gwin, mask_img, mask_loading, mask_poison, mask_regions, mask_mgt, mask_out, mask_free, ite_mask,
    ite_ok, ite_self, foldl_ok, foldl_mask, implies_true, *]

theorem State.writeAt_ok (s : State) (p : Path) (off : Nat) (v : Word) (G : Fields) :
    G.regs → G.latch → G.busy → G.boot → G.tim → G.hif → G.log → G.pav → G.subs → G.lanes → G.lrep → G.streams →
      G.strCmds → G.pager0 → G.pager1 → G.rte → G.sched → G.cap → G.rpl → G.digest → G.cells → G.cel → G.groups → G.mxu
      → G.tokens → G.pf0 → G.pf1 → G.greq0 → G.greq1 → G.gheld → G.gtbl → G.gwin → G.img → G.loading → G.poison →
      G.regions → G.mgt → G.out → G.free → (s.mask G).memoriesOk → ((State.writeAt s p off v).mask G).memoriesOk := by
  intros; unfold State.writeAt; split
  · assumption
  split
  · apply State.oneCycle_ok <;> (try assumption)
    intros; simp only [State.compare_mask, State.noteSw_mask, State.regWrite_ok, ite_mask, ite_ok, ite_self, *]
  · assumption

theorem State.pathWrite_ok (s : State) (p : Path) (off : Nat) (v : Word) (G : Fields) :
    G.regs → G.latch → G.busy → G.boot → G.tim → G.hif → G.log → G.pav → G.subs → G.lanes → G.lrep → G.streams →
      G.strCmds → G.pager0 → G.pager1 → G.rte → G.sched → G.cap → G.rpl → G.digest → G.cells → G.cel → G.groups → G.mxu
      → G.tokens → G.pf0 → G.pf1 → G.greq0 → G.greq1 → G.gheld → G.gtbl → G.gwin → G.img → G.loading → G.poison →
      G.regions → G.mgt → G.out → G.free → (s.mask G).memoriesOk → ((State.pathWrite s p off v).mask G).memoriesOk :=
      by
  intros; unfold State.pathWrite; dsimp only; (repeat' split) <;> simp only [State.writeAt_ok, State.setReg_mask,
    mask_regs, mask_latch, mask_busy, mask_boot, mask_tim, mask_hif, mask_log, mask_pav, mask_subs, mask_lanes,
    mask_lrep, mask_streams, mask_strCmds, mask_pager0, mask_pager1, mask_rte, mask_sched, mask_cap, mask_rpl,
    mask_digest, mask_cells, mask_cel, mask_groups, mask_mxu, mask_tokens, mask_pf0, mask_pf1, mask_greq0, mask_greq1,
    mask_gheld, mask_gtbl, mask_gwin, mask_img, mask_loading, mask_poison, mask_regions, mask_mgt, mask_out, mask_free,
    ite_mask, ite_ok, ite_self, foldl_ok, foldl_mask, implies_true, *]

theorem execRegisterWrite_ok (p : Path) (bar : Nat) (off : Nat) (v : Word) (be : Nat) (s : State) (G : Fields) :
    G.regs → G.latch → G.busy → G.boot → G.tim → G.hif → G.log → G.pav → G.subs → G.lanes → G.lrep → G.streams →
      G.strCmds → G.pager0 → G.pager1 → G.rte → G.sched → G.cap → G.rpl → G.digest → G.cells → G.cel → G.groups → G.mxu
      → G.tokens → G.pf0 → G.pf1 → G.greq0 → G.greq1 → G.gheld → G.gtbl → G.gwin → G.img → G.loading → G.poison →
      G.regions → G.mgt → G.out → G.free → (s.mask G).memoriesOk → ∀ t, execRegisterWrite p bar off v be s = .next t →
      (t.mask G).memoriesOk := by
  intros; rename_i h; injection h with h; subst h; (repeat' split) <;> simp only [State.pathWrite_ok,
    State.bar4Write_mask, mask_regs, mask_latch, mask_busy, mask_boot, mask_tim, mask_hif, mask_log, mask_pav,
    mask_subs, mask_lanes, mask_lrep, mask_streams, mask_strCmds, mask_pager0, mask_pager1, mask_rte, mask_sched,
    mask_cap, mask_rpl, mask_digest, mask_cells, mask_cel, mask_groups, mask_mxu, mask_tokens, mask_pf0, mask_pf1,
    mask_greq0, mask_greq1, mask_gheld, mask_gtbl, mask_gwin, mask_img, mask_loading, mask_poison, mask_regions,
    mask_mgt, mask_out, mask_free, ite_mask, ite_ok, ite_self, foldl_ok, foldl_mask, implies_true, *]

theorem State.configWrite_ok (s : State) (e : Nat × Nat) (G : Fields) :
    G.regs → G.latch → G.busy → G.boot → G.tim → G.hif → G.log → G.pav → G.subs → G.lanes → G.lrep → G.streams →
      G.strCmds → G.pager0 → G.pager1 → G.rte → G.sched → G.cap → G.rpl → G.digest → G.cells → G.cel → G.groups → G.mxu
      → G.tokens → G.pf0 → G.pf1 → G.greq0 → G.greq1 → G.gheld → G.gtbl → G.gwin → G.img → G.loading → G.poison →
      G.regions → G.mgt → G.out → G.free → (s.mask G).memoriesOk → ((State.configWrite s e).mask G).memoriesOk := by
  intros; unfold State.configWrite; dsimp only; (repeat' split) <;> simp only [State.writeAt_ok, State.setFld_mask,
    State.configIgnored_mask, mask_regs, mask_latch, mask_busy, mask_boot, mask_tim, mask_hif, mask_log, mask_pav,
    mask_subs, mask_lanes, mask_lrep, mask_streams, mask_strCmds, mask_pager0, mask_pager1, mask_rte, mask_sched,
    mask_cap, mask_rpl, mask_digest, mask_cells, mask_cel, mask_groups, mask_mxu, mask_tokens, mask_pf0, mask_pf1,
    mask_greq0, mask_greq1, mask_gheld, mask_gtbl, mask_gwin, mask_img, mask_loading, mask_poison, mask_regions,
    mask_mgt, mask_out, mask_free, ite_mask, ite_ok, ite_self, foldl_ok, foldl_mask, implies_true, *]

theorem execConfigApplied_ok (s : State) (G : Fields) :
    G.regs → G.latch → G.busy → G.boot → G.tim → G.hif → G.log → G.pav → G.subs → G.lanes → G.lrep → G.streams →
      G.strCmds → G.pager0 → G.pager1 → G.rte → G.sched → G.cap → G.rpl → G.digest → G.cells → G.cel → G.groups → G.mxu
      → G.tokens → G.pf0 → G.pf1 → G.greq0 → G.greq1 → G.gheld → G.gtbl → G.gwin → G.img → G.loading → G.poison →
      G.regions → G.mgt → G.out → G.free → (s.mask G).memoriesOk → ∀ t, execConfigApplied s = .next t → (t.mask
      G).memoriesOk := by
  intros; rename_i h; obtain rfl := Host.Outcome.next.inj h; clear h
  split
  · dsimp only
    rw [State.logReset_mask]
    · apply foldl_ok
      · intros; simp only [State.logReset_mask, State.configWrite_ok, mask_regs, mask_latch, mask_busy, mask_boot,
        mask_tim, mask_hif, mask_log, mask_pav, mask_subs, mask_lanes, mask_lrep, mask_streams, mask_strCmds,
        mask_pager0, mask_pager1, mask_rte, mask_sched, mask_cap, mask_rpl, mask_digest, mask_cells, mask_cel,
        mask_groups, mask_mxu, mask_tokens, mask_pf0, mask_pf1, mask_greq0, mask_greq1, mask_gheld, mask_gtbl,
        mask_gwin, mask_img, mask_loading, mask_poison, mask_regions, mask_mgt, mask_out, mask_free, ite_mask, ite_ok,
        ite_self, foldl_ok, foldl_mask, implies_true, *]
      · simp only [State.logReset_mask, State.configWrite_ok, mask_regs, mask_latch, mask_busy, mask_boot, mask_tim,
        mask_hif, mask_log, mask_pav, mask_subs, mask_lanes, mask_lrep, mask_streams, mask_strCmds, mask_pager0,
        mask_pager1, mask_rte, mask_sched, mask_cap, mask_rpl, mask_digest, mask_cells, mask_cel, mask_groups,
        mask_mxu, mask_tokens, mask_pf0, mask_pf1, mask_greq0, mask_greq1, mask_gheld, mask_gtbl, mask_gwin, mask_img,
        mask_loading, mask_poison, mask_regions, mask_mgt, mask_out, mask_free, ite_mask, ite_ok, ite_self, foldl_ok,
        foldl_mask, implies_true, *]
    all_goals assumption
  · assumption

theorem State.island_ok (s : State) (f : State → State) (G : Fields) :
    (∀ (y0 : State), (y0.mask G).memoriesOk → ((f y0).mask G).memoriesOk) → (s.mask G).memoriesOk → ((State.island s
      f).mask G).memoriesOk := by
  intros; simp only [State.island, ite_mask, ite_ok, ite_self, foldl_ok, foldl_mask, implies_true, *]

theorem State.conRun_ok (s : State) (relayed : Bool) (word : List Byte) (f : State → List (List Byte) → State) (G : Fields) :
    G.mgt → G.out → (∀ (y0 : State) (y1 : List (List Byte)), (y0.mask G).memoriesOk → ((f y0 y1).mask G).memoriesOk)
      → (s.mask G).memoriesOk → ((State.conRun s relayed word f).mask G).memoriesOk := by
  intros; unfold State.conRun; dsimp only; (repeat' split) <;> simp only [State.setLine_mask, State.refill_mask,
    mask_mgt, mask_out, ite_mask, ite_ok, ite_self, foldl_ok, foldl_mask, implies_true, *]

theorem State.conAccess_ok (s : State) (relayed : Bool) (o : Nat) (write : Bool) (f : State → State) (G : Fields) :
    G.mgt → G.out → (∀ (y0 : State), (y0.mask G).memoriesOk → ((f y0).mask G).memoriesOk) → (s.mask G).memoriesOk →
      ((State.conAccess s relayed o write f).mask G).memoriesOk := by
  intros; simp only [State.conAccess, State.sayErr_mask, mask_mgt, mask_out, ite_mask, ite_ok, ite_self, foldl_ok,
    foldl_mask, implies_true, *]

theorem execConsoleWr_ok (relayed : Bool) (s : State) (G : Fields) :
    G.regs → G.latch → G.busy → G.boot → G.tim → G.hif → G.log → G.pav → G.subs → G.lanes → G.lrep → G.streams →
      G.strCmds → G.pager0 → G.pager1 → G.rte → G.sched → G.cap → G.rpl → G.digest → G.cells → G.cel → G.groups → G.mxu
      → G.tokens → G.pf0 → G.pf1 → G.greq0 → G.greq1 → G.gheld → G.gtbl → G.gwin → G.img → G.loading → G.poison →
      G.regions → G.mgt → G.out → G.free → (s.mask G).memoriesOk → ∀ t, execConsoleWr relayed s = .next t → (t.mask
      G).memoriesOk := by
  intros; rename_i h; obtain rfl := Host.Outcome.next.inj h
  apply State.conRun_ok <;> (try assumption) <;> intros
  split
  · simp only [State.conRun_ok, State.sayErr_mask, State.conAccess_ok, State.sayOk_mask, State.pathWrite_ok, mask_regs,
    mask_latch, mask_busy, mask_boot, mask_tim, mask_hif, mask_log, mask_pav, mask_subs, mask_lanes, mask_lrep,
    mask_streams, mask_strCmds, mask_pager0, mask_pager1, mask_rte, mask_sched, mask_cap, mask_rpl, mask_digest,
    mask_cells, mask_cel, mask_groups, mask_mxu, mask_tokens, mask_pf0, mask_pf1, mask_greq0, mask_greq1, mask_gheld,
    mask_gtbl, mask_gwin, mask_img, mask_loading, mask_poison, mask_regions, mask_mgt, mask_out, mask_free, ite_mask,
    ite_ok, ite_self, foldl_ok, foldl_mask, implies_true, *]
  · split
    · apply State.conAccess_ok <;> (try assumption); intros; simp only [State.conRun_ok, State.sayErr_mask,
      State.conAccess_ok, State.sayOk_mask, State.pathWrite_ok, mask_regs, mask_latch, mask_busy, mask_boot, mask_tim,
      mask_hif, mask_log, mask_pav, mask_subs, mask_lanes, mask_lrep, mask_streams, mask_strCmds, mask_pager0,
      mask_pager1, mask_rte, mask_sched, mask_cap, mask_rpl, mask_digest, mask_cells, mask_cel, mask_groups, mask_mxu,
      mask_tokens, mask_pf0, mask_pf1, mask_greq0, mask_greq1, mask_gheld, mask_gtbl, mask_gwin, mask_img,
      mask_loading, mask_poison, mask_regions, mask_mgt, mask_out, mask_free, ite_mask, ite_ok, ite_self, foldl_ok,
      foldl_mask, implies_true, *]
    · simp only [State.conRun_ok, State.sayErr_mask, State.conAccess_ok, State.sayOk_mask, State.pathWrite_ok,
      mask_regs, mask_latch, mask_busy, mask_boot, mask_tim, mask_hif, mask_log, mask_pav, mask_subs, mask_lanes,
      mask_lrep, mask_streams, mask_strCmds, mask_pager0, mask_pager1, mask_rte, mask_sched, mask_cap, mask_rpl,
      mask_digest, mask_cells, mask_cel, mask_groups, mask_mxu, mask_tokens, mask_pf0, mask_pf1, mask_greq0,
      mask_greq1, mask_gheld, mask_gtbl, mask_gwin, mask_img, mask_loading, mask_poison, mask_regions, mask_mgt,
      mask_out, mask_free, ite_mask, ite_ok, ite_self, foldl_ok, foldl_mask, implies_true, *]

theorem execConsoleApprove_ok (relayed : Bool) (s : State) (G : Fields) :
    G.regs → G.tim → G.hif → G.log → G.pav → G.streams → G.rte → G.cells → G.cel → G.mxu → G.poison → G.mgt → G.out →
      G.free → (s.mask G).memoriesOk → ∀ t, execConsoleApprove relayed s = .next t → (t.mask G).memoriesOk := by
  intros; rename_i h; obtain rfl := Host.Outcome.next.inj h
  apply State.conRun_ok <;> (try assumption) <;> intros
  (repeat' split) <;> simp only [State.conRun_ok, State.sayErr_mask, State.mgtApprove_ok, mask_regs, mask_tim,
    mask_hif, mask_log, mask_pav, mask_streams, mask_rte, mask_cells, mask_cel, mask_mxu, mask_poison, mask_mgt,
    mask_out, mask_free, ite_mask, ite_ok, ite_self, foldl_ok, foldl_mask, implies_true, *]

theorem execConsoleWreset_ok (relayed : Bool) (s : State) (G : Fields) :
    G.regs → G.busy → G.boot → G.tim → G.hif → G.log → G.pav → G.subs → G.lrep → G.streams → G.strCmds → G.pager0 →
      G.pager1 → G.rte → G.sched → G.cap → G.rpl → G.digest → G.cells → G.cel → G.groups → G.mxu → G.tokens → G.pf0 →
      G.pf1 → G.greq0 → G.greq1 → G.gheld → G.gtbl → G.img → G.loading → G.poison → G.regions → G.mgt → G.out → G.free
      → (s.mask G).memoriesOk → ∀ t, execConsoleWreset relayed s = .next t → (t.mask G).memoriesOk := by
  intros; rename_i h; obtain rfl := Host.Outcome.next.inj h
  apply State.conRun_ok <;> (try assumption) <;> intros <;> (try dsimp only) <;> (repeat' split) <;> simp only
    [State.conRun_ok, State.sayErr_mask, State.warmReset_ok, State.sayOk_mask, mask_regs, mask_busy, mask_boot,
    mask_tim, mask_hif, mask_log, mask_pav, mask_subs, mask_lrep, mask_streams, mask_strCmds, mask_pager0, mask_pager1,
    mask_rte, mask_sched, mask_cap, mask_rpl, mask_digest, mask_cells, mask_cel, mask_groups, mask_mxu, mask_tokens,
    mask_pf0, mask_pf1, mask_greq0, mask_greq1, mask_gheld, mask_gtbl, mask_img, mask_loading, mask_poison,
    mask_regions, mask_mgt, mask_out, mask_free, ite_mask, ite_ok, ite_self, foldl_ok, foldl_mask, implies_true, *]

theorem State.relayRx_ok (s : State) (lane : Nat) (f : State → State) (G : Fields) :
    (∀ (y0 : State), (y0.mask G).memoriesOk → ((f y0).mask G).memoriesOk) → (s.mask G).memoriesOk → ((State.relayRx s
      lane f).mask G).memoriesOk := by
  intros; unfold State.relayRx
  apply State.island_ok <;> (try assumption); intros
  split
  · apply_assumption; assumption
  · assumption

theorem State.smbWrite_ok (s : State) (pec : Option Bool) (f : State → State) (G : Fields) :
    G.regs → G.hif → G.out → (∀ (y0 : State), (y0.mask G).memoriesOk → ((f y0).mask G).memoriesOk) → (s.mask
      G).memoriesOk → ((State.smbWrite s pec f).mask G).memoriesOk := by
  intros; unfold State.smbWrite
  apply State.island_ok <;> (try assumption); intros
  dsimp only; (repeat' split) <;> first | (apply_assumption; assumption) | simp only [State.island_ok,
    State.mgtEvt_mask, State.bump_mask, State.emit_mask, mask_regs, mask_hif, mask_out, ite_mask, ite_ok, ite_self,
    foldl_ok, foldl_mask, implies_true, *]

theorem execSmbRegWrite_ok (off : Nat) (v : Word) (pec : Option Bool) (s : State) (G : Fields) :
    G.regs → G.latch → G.busy → G.boot → G.tim → G.hif → G.log → G.pav → G.subs → G.lanes → G.lrep → G.streams →
      G.strCmds → G.pager0 → G.pager1 → G.rte → G.sched → G.cap → G.rpl → G.digest → G.cells → G.cel → G.groups → G.mxu
      → G.tokens → G.pf0 → G.pf1 → G.greq0 → G.greq1 → G.gheld → G.gtbl → G.gwin → G.img → G.loading → G.poison →
      G.regions → G.mgt → G.out → G.free → (s.mask G).memoriesOk → ∀ t, execSmbRegWrite off v pec s = .next t → (t.mask
      G).memoriesOk := by
  intros; rename_i h; obtain rfl := Host.Outcome.next.inj h
  apply State.smbWrite_ok <;> (try assumption); intros
  dsimp only; simp only [State.smbWrite_ok, State.smbDone_mask, State.pathWrite_ok, mask_regs, mask_latch, mask_busy,
    mask_boot, mask_tim, mask_hif, mask_log, mask_pav, mask_subs, mask_lanes, mask_lrep, mask_streams, mask_strCmds,
    mask_pager0, mask_pager1, mask_rte, mask_sched, mask_cap, mask_rpl, mask_digest, mask_cells, mask_cel, mask_groups,
    mask_mxu, mask_tokens, mask_pf0, mask_pf1, mask_greq0, mask_greq1, mask_gheld, mask_gtbl, mask_gwin, mask_img,
    mask_loading, mask_poison, mask_regions, mask_mgt, mask_out, mask_free, ite_mask, ite_ok, ite_self, foldl_ok,
    foldl_mask, implies_true, *]

theorem execSmbWreset_ok (pec : Option Bool) (s : State) (G : Fields) :
    G.regs → G.busy → G.boot → G.tim → G.hif → G.log → G.pav → G.subs → G.lrep → G.streams → G.strCmds → G.pager0 →
      G.pager1 → G.rte → G.sched → G.cap → G.rpl → G.digest → G.cells → G.cel → G.groups → G.mxu → G.tokens → G.pf0 →
      G.pf1 → G.greq0 → G.greq1 → G.gheld → G.gtbl → G.img → G.loading → G.poison → G.regions → G.mgt → G.out → G.free
      → (s.mask G).memoriesOk → ∀ t, execSmbWreset pec s = .next t → (t.mask G).memoriesOk := by
  intros; rename_i h; obtain rfl := Host.Outcome.next.inj h
  apply State.smbWrite_ok <;> (try assumption) <;> intros <;> (try dsimp only) <;> (repeat' split) <;> simp only
    [State.smbWrite_ok, State.warmReset_ok, State.smbDone_mask, mask_regs, mask_busy, mask_boot, mask_tim, mask_hif,
    mask_log, mask_pav, mask_subs, mask_lrep, mask_streams, mask_strCmds, mask_pager0, mask_pager1, mask_rte,
    mask_sched, mask_cap, mask_rpl, mask_digest, mask_cells, mask_cel, mask_groups, mask_mxu, mask_tokens, mask_pf0,
    mask_pf1, mask_greq0, mask_greq1, mask_gheld, mask_gtbl, mask_img, mask_loading, mask_poison, mask_regions,
    mask_mgt, mask_out, mask_free, ite_mask, ite_ok, ite_self, foldl_ok, foldl_mask, implies_true, *]

theorem execSmbApprove_ok (blk : List Byte) (pec : Option Bool) (s : State) (G : Fields) :
    G.regs → G.tim → G.hif → G.log → G.pav → G.streams → G.rte → G.cells → G.cel → G.mxu → G.poison → G.mgt → G.out →
      G.free → (s.mask G).memoriesOk → ∀ t, execSmbApprove blk pec s = .next t → (t.mask G).memoriesOk := by
  intros; rename_i h; obtain rfl := Host.Outcome.next.inj h
  apply State.smbWrite_ok <;> (try assumption); intros
  (repeat' split) <;> simp only [State.smbWrite_ok, State.emit_mask, State.smbDone_mask, State.mgtApprove_ok,
    mask_regs, mask_tim, mask_hif, mask_log, mask_pav, mask_streams, mask_rte, mask_cells, mask_cel, mask_mxu,
    mask_poison, mask_mgt, mask_out, mask_free, ite_mask, ite_ok, ite_self, foldl_ok, foldl_mask, implies_true, *]

theorem execJtagMgtAccess_ok (write : Bool) (off : Nat) (v : Word) (s : State) (G : Fields) :
    G.regs → G.latch → G.busy → G.boot → G.tim → G.hif → G.log → G.pav → G.subs → G.lanes → G.lrep → G.streams →
      G.strCmds → G.pager0 → G.pager1 → G.rte → G.sched → G.cap → G.rpl → G.digest → G.cells → G.cel → G.groups → G.mxu
      → G.tokens → G.pf0 → G.pf1 → G.greq0 → G.greq1 → G.gheld → G.gtbl → G.gwin → G.img → G.loading → G.poison →
      G.regions → G.mgt → G.out → G.free → (s.mask G).memoriesOk → ∀ t, execJtagMgtAccess write off v s = .next t →
      (t.mask G).memoriesOk := by
  intros; rename_i h; obtain rfl := Host.Outcome.next.inj h
  apply State.island_ok <;> (try assumption); intros
  dsimp only
  split
  · split <;> simp only [State.island_ok, State.tap_mask, State.pathWrite_ok, State.read_mask, State.freeWord_mask,
    State.emit_mask, mask_regs, mask_latch, mask_busy, mask_boot, mask_tim, mask_hif, mask_log, mask_pav, mask_subs,
    mask_lanes, mask_lrep, mask_streams, mask_strCmds, mask_pager0, mask_pager1, mask_rte, mask_sched, mask_cap,
    mask_rpl, mask_digest, mask_cells, mask_cel, mask_groups, mask_mxu, mask_tokens, mask_pf0, mask_pf1, mask_greq0,
    mask_greq1, mask_gheld, mask_gtbl, mask_gwin, mask_img, mask_loading, mask_poison, mask_regions, mask_mgt,
    mask_out, mask_free, ite_mask, ite_ok, ite_self, foldl_ok, foldl_mask, implies_true, *]
  · split <;> simp only [State.island_ok, State.tap_mask, State.pathWrite_ok, State.read_mask, State.freeWord_mask,
    State.emit_mask, mask_regs, mask_latch, mask_busy, mask_boot, mask_tim, mask_hif, mask_log, mask_pav, mask_subs,
    mask_lanes, mask_lrep, mask_streams, mask_strCmds, mask_pager0, mask_pager1, mask_rte, mask_sched, mask_cap,
    mask_rpl, mask_digest, mask_cells, mask_cel, mask_groups, mask_mxu, mask_tokens, mask_pf0, mask_pf1, mask_greq0,
    mask_greq1, mask_gheld, mask_gtbl, mask_gwin, mask_img, mask_loading, mask_poison, mask_regions, mask_mgt,
    mask_out, mask_free, ite_mask, ite_ok, ite_self, foldl_ok, foldl_mask, implies_true, *]

theorem State.sRx_ok (s : State) (i : Nat) (bs : List Byte) (fcsOk : Bool) (arrival : Nat) (want : List SFrame) (act :
  State → SFrame → State) (G : Fields) :
    G.regs → G.tim → G.hif → G.log → G.rte → G.out → (∀ (y0 : State) (y1 : SFrame), (y0.mask G).memoriesOk → ((act y0
      y1).mask G).memoriesOk) → (s.mask G).memoriesOk → ((State.sRx s i bs fcsOk arrival want act).mask G).memoriesOk
      := by
  intros; unfold State.sRx; dsimp only; (repeat' split) <;> simp only [State.endDamaged_mask, State.advTo_mask,
    State.bump_mask, State.bump64_mask, mask_regs, mask_tim, mask_hif, mask_log, mask_rte, mask_out, ite_mask, ite_ok,
    ite_self, foldl_ok, foldl_mask, implies_true, *]

theorem State.setTimers_ok (s : State) (i : Nat) (ps : List Nat) (t : Nat → Nat) (G : Fields) :
    G.regs → G.tim → G.rte → (s.mask G).memoriesOk → ((State.setTimers s i ps t).mask G).memoriesOk := by
  intros; simp only [State.setTimers, State.nextPclk_mask, State.holdSettle_mask, State.setPause_mask, mask_regs,
    mask_tim, mask_rte, ite_mask, ite_ok, ite_self, foldl_ok, foldl_mask, implies_true, *]

theorem State.pfSend_ok (s : State) (j : PfJob) (die : Nat) (G : Fields) :
    (s.mask G).memoriesOk → ((State.pfSend s j die).mask G).memoriesOk := by
  intros; simp only [State.pfSend, State.sendWrite_ok, ite_mask, ite_ok, ite_self, foldl_ok, foldl_mask, implies_true,
    *]

theorem State.firePf_ok (s : State) (r : PfRec) (pav : Nat) (die : Nat) (c : Nat) (G : Fields) :
    G.regs → G.hif → G.log → G.pf0 → G.pf1 → G.poison → G.out → (s.mask G).memoriesOk → ((State.firePf s r pav die
      c).mask G).memoriesOk := by
  intros; unfold State.firePf; dsimp only; (repeat' split) <;> simp only [State.pfTo_ok, State.pfLog_mask,
    State.evt_mask, State.bump_mask, State.pfSend_ok, State.setPf_mask, mask_regs, mask_hif, mask_log, mask_pf0,
    mask_pf1, mask_poison, mask_out, ite_mask, ite_ok, ite_self, foldl_ok, foldl_mask, implies_true, *]

theorem execPrefetch_ok (die : Nat) (s : State) (G : Fields) :
    G.regs → G.tim → G.hif → G.log → G.sched → G.pf0 → G.pf1 → G.poison → G.out → (s.mask G).memoriesOk → ∀ t,
      execPrefetch die s = .next t → (t.mask G).memoriesOk := by
  intros; rename_i h; obtain rfl := Host.Outcome.next.inj h
  apply State.takeHead_ok <;> (try assumption) <;> intros
  · apply State.image_ok <;> intros <;> simp only [State.firePf_ok, State.bump_mask, ite_mask, ite_ok, ite_self, *]
  · simp only [*]

end Sys2Proof.Machine
end

