-- ==== Sys2Proof/Tests/States.lean ====
section
/-! SUPPORT. The states the tests run on, built from State.reset by a few fields each. -/

namespace Sys2Proof.Tests

open Sys2Proof Sys2Proof.Machine

/-- A predicate of the next state a command answers. -/
def after (o : Host.Outcome State Fault Refusal) (f : State → Bool) : Bool := match o with | .next t => f t | _ => false

/-- A K8-L in READY at the start of slot 5, its root locked; pavilion 0 owns everything. -/
def up : State :=
  let s := { State.reset with
    boot := { State.reset.boot with stage := 5, pwrOk := true, rstN := true, perstN := true, fuseDone := true, fuseOk := true }
    tim := { State.reset.tim with lock := true, refclkOk := true, now := 38400, clk := 38400, slot := 6 }
    fuse := { State.reset.fuse with grade := 1 } }
  s.loadPav 0 s.defaultPav

/-- `s` in a later PCLK cycle than the writes that made it. -/
def settled (s : State) : State := { s with rte := { s.rte with service := State.reset.rte.service } }

/-- `up` with its boot stage at `n`. -/
def atStage (n : Nat) : State := { up with boot := { up.boot with stage := n } }

/-- `up` before its root has locked, in stage CLOCKS, with the fuses read or not. -/
def clocks (fuse : Bool) : State :=
  { up with boot := { up.boot with stage := 1, fuseDone := fuse, fuseOk := fuse }, tim := { State.reset.tim with refclkOk := true } }

/-- The little-endian bytes of `v`. -/
def le (n v : Nat) : List Byte := (List.range n).map fun i => BitVec.ofNat 8 (v / 256 ^ i)

/-- Stage FLASH with a header of copy A that is a candidate, and no end marker. -/
def flash1 : State :=
  let head := le 4 0x4643384B ++ le 2 1 ++ le 2 1 ++ le 4 7 ++ le 4 4096 ++ le 4 9
  { atStage 2 with flash := memWrite [] 0 (head.map fun b => ~~~b) }

/-- `s` with its boot fields changed by `f`. -/
def boot' (s : State) (f : Boot → Boot) : State := { s with boot := f s.boot }

/-- `s` with its time unit changed by `f`. -/
def tim' (s : State) (f : Tim → Tim) : State := { s with tim := f s.tim }

/-- The write value of CFG_RESET that asks for a cold or a warm reset, with its key. -/
def resetWord (bits : Nat) : Word := BitVec.ofNat 32 (0x5A5A0000 + bits)

/-- Stage CONFIG with one CONFIG entry, which writes CLK_CTRL. -/
def config1 : State := boot' (atStage 4) fun b => { b with config := [(aCLK_CTRL, 1)] }

/-- A warm reset is under way. -/
def warming : State := boot' (atStage 3) fun b => { b with warm := true }

/-- A flash operation of kind `op` at `a` is in progress; the flash holds one programmed byte in each sector touched. -/
def flashing (op a : Nat) : State :=
  boot' { up with flash := memWrite [] 0x10000 [0x5A] } fun b => { b with flBusy := some (op, a) }

/-- An owner fingerprint is being programmed. -/
def fusing : State := boot' up fun b => { b with fpBusy := some 5 }

/-- A fingerprint is staged in CFG_ROOT_STAGE. -/
def staged : State := up.setReg (aCFG_ROOT_STAGE 0) 5

/-- `up` with CFG_FL_ADDR at `a`. -/
def flAddr (a : Nat) : State := up.setReg aCFG_FL_ADDR (BitVec.ofNat 32 a)

/-- The root has lost its lock. -/
def noLock : State := { up with tim := State.reset.tim }

/-- A schedule from slot 4, until stopped, with nothing in its queues and no image. -/
def launched : State :=
  { up with sched := { up.sched with launched := true, start := 4 }, tim := { up.tim with state := 2, withhold := false } }

/-- STC lane `n` of `up` is up. -/
def stcUp (n : Nat) : State := up.setLane (stcIdx n) { up.lane (stcIdx n) with up := true }

/-- Locked to STC lane 0 before an epoch boundary, 20 µs behind it, with the step armed. -/
def stepping : State :=
  ((tim' up fun t => { t with state := 2, sel := 0, slot := 2 ^ 20 }).setSrc 0
    { srcInit with up := true, heard := true, state := 2, samples := List.replicate 16 320000 }).setReg aTIM_STEP 1

/-- An initial load is due. -/
def loading1 : State := tim' up fun t => { t with loadPend := true, sel := 0 }

/-- In HOLDOVER with a limit of 0. -/
def holding : State := (tim' up fun t => { t with state := 1, sel := 0, holdUnc := 100000 }).setReg aTIM_HOLD_LIMIT 0

/-- A phase word with STATE 2, ROOT 1, HOPS 0, UNC 3, and its CRC. -/
def phase0 : List Byte :=
  let w : List Byte := [0xA0, 3, 0, 0, 0, 0, 0, 0, 5, 0, 0, 0, 100, 0]
  w.take 13 ++ [BitVec.ofNat 8 (crc8 (w.take 13))]

/-- A TIME packet's payload with the same fields, and its CRC. -/
def time0 : List Byte :=
  let w : List Byte := [0xA0, 3, 0, 0, 0, 0, 0, 0, 5, 0, 0, 0, 100, 0, 0, 0, 0, 0, 0, 0]
  let c := crc32c w
  w ++ (natLe 4 c).reverse ++ List.replicate 40 0

/-- Sub-port `k` of port `p` is in state `n`. -/
def subAt (s : State) (p k n : Nat) : State := s.setSub p k { s.sub p k with state := n }

/-- PPS_OUT enabled for the first time; an edge one second ago; a pulse high. -/
def ppsSoon : State := tim' up fun t => { t with ppsLast := some 38400, ppsNext := 0 }

/-- PPS_OUT is high. -/
def ppsHigh : State := tim' up fun t => { t with ppsOut := true, ppsFall := 46400 }

/-- PPS_IN enabled, nothing heard yet; locked on it; after two misses. -/
def ppsIn : State := up.setReg aTIM_PPS 1
def ppsLocked : State := tim' ppsIn fun t => { t with state := 2, sel := 32 }
def ppsMiss2 : State := ppsIn.setSrc 32 { srcInit with up := true, heard := true, missed := 2, samples := [0] }

/-! ## An image and a schedule -/

/-- A one-cell launch of pavilion 0 with one line. -/
def launch0 : Launch := ⟨0, 0, 0, 0, 5, 1, 0, none, 7, 0xFFFF, [11, 22]⟩

/-- A descriptor of unit 1: 16 × 16 × 16 in BF16, written to operand SRAM at 64 KiB. -/
def desc0 : List Nat :=
  [1 * 2 ^ 29 + 1 * 2 ^ 16 + 1 * 2 ^ 12 + 1 * 2 ^ 8, 3 * 2 ^ 16 + 0xFFFF, 0, 0, 0, 0, 15 * 2 ^ 16, 15 + 15 * 2 ^ 16, 0]
    ++ List.replicate 23 0

/-- A prefetch of 64 bytes from the start of HBM of C0 to operand SRAM of unit 0. -/
def pf0 : PfRec := ⟨0, 0, 0, 4096, 64⟩

/-- The bytes of an image with a section of one launch record and one of C0's actions, for `fp` F-ports; `crc` is its CRC. -/
def imgBytes (fp : Byte) (crc : Nat) : List Byte :=
  natLe 4 0x4938574B ++ natLe 2 1 ++ natLe 2 2 ++ natLe 4 0 ++ natLe 4 crc ++ [fp, 1, 1, 1] ++ natLe 4 1 ++ natLe 4 1 ++ natLe 4 8
    ++ natLe 2 10 ++ natLe 2 20 ++ natLe 4 0 ++ natLe 8 0x123456789 ++ List.replicate 16 0
    ++ natLe 2 3 ++ [0xFF, 0] ++ natLe 4 1 ++ natLe 4 2 ++ natLe 4 1 ++ natLe 2 4 ++ [0, 0] ++ natLe 4 1 ++ natLe 4 3 ++ natLe 4 1
    ++ List.replicate 32 0 ++ natLe 4 0 ++ natLe 4 5 ++ natLe 4 7 ++ natLe 2 0xFFFF ++ natLe 2 0 ++ natLe 4 11 ++ natLe 4 22
    ++ List.replicate 40 0 ++ natLe 16 (2 * 2 ^ 104 + 2 ^ 92 + 2 ^ 80) ++ List.replicate 48 0

/-- An image that passes every check: one launch record and one region. -/
def img0 : Image :=
  { addr := 0, len := 256, dmaOk := true, bytes := imgBytes 1 0x44d84ce4, fwMin := 0, fports := 1, lports := 1, sports := 1, tokens := 1, hbm0 := 1, hbm1 := 1,
    period := 8, guard := 10, hyst := 20, id := 0x123456789, instr := [(0, 5, List.replicate 64 (0 : Byte))], landing := [],
    cellRec := [launch0], actions0 := [⟨2, 0, true, 0, 1, 0⟩], actions1 := [], mxu := [], pf := [], tmpl := [], wset := [],
    region := [⟨0, 0, 0, 0, 16⟩], data := [], cal := [⟨0, 0, 64, 8⟩], route := [], layout := [], gwin := [], place := [], phases := [],
    deps := [] }

/-- An image whose checks stand aside: the records only. -/
def img1 : Image := { img0 with mxu := [desc0], pf := [pf0] }

/-- The column table of `up`'s fuses is written: what R36 asks for. -/
def mapped : State := { up with regs := (List.range 64).map fun i =>
  (aCEL_XLAT i, BitVec.ofNat 32 (4 * i + (4 * i + 1) * 2 ^ 8 + (4 * i + 2) * 2 ^ 16 + (4 * i + 3) * 2 ^ 24 - (if 32 ≤ i then 0x80808080 else 0))) }

/-- An action of kind `k` with argument `arg` in slot 6 at offset 4. -/
def act (k arg : Nat) (xs : Bool) : QAction := ⟨⟨2, 4, xs, 0, k, arg⟩, 6, 0, false⟩

/-- The schedule of `launched` with `img1`, and `a` alone in the queue of die `die`. -/
def acting (die : Nat) (a : QAction) : State := { launched with img := some img1 }.setQueue die [a]

/-- The same with the region of `img1` entered. -/
def fetching (die : Nat) (a : QAction) : State := { acting die a with regions := [(0, regionWord ⟨0, 0, 0, 0, 16⟩)] }

/-- The same with a full prefetch queue. -/
def fetchFull : State := { fetching 0 (act 6 0 false) with pf0 := List.replicate 16 ⟨pf0, 0, 10 ^ 6⟩ }

/-- Withheld: WITHHOLD stands. -/
def withheldSt (s : State) : State := tim' s fun t => { t with withhold := true }

/-- A late action. -/
def late (a : QAction) : QAction := { a with late := true }

/-- An action of a slot before the schedule's start. -/
def early (a : QAction) : QAction := { a with slot := 3 }

/-- `launched` with `n` actions in C0's queue, and the list of `img1`. -/
def refill (n : Nat) : State :=
  { launched with img := some img1 }.setQueue 0 (List.replicate n (act 1 0 true))

/-- An entry of role `r` in state `st`: unit 1, one chunk of 256 elements, L-port 0, kindling 2. -/
def stream0 (r st : Nat) : Stream :=
  { streamInit with data := [r * 2 ^ 30 + 1 * 2 ^ 17 + 2 * 2 ^ 6, 0, 0, 0, 0xFFFF0000, 0, 0, 0], state := st, step := 2 ^ 48 - 1 }

/-- The entry as it stands before an update: its step has acted, the page-in has ended. -/
def streamActed : Stream := { stream0 1 1 with acted := true, pageIn := some 0 }

/-- A running receiver that has its one chunk: 256 INT8 codes of 0 at scale 0. -/
def streamGot : Stream :=
  { stream0 2 1 with got := [(0, ⟨1, 8, true, 0, false, false, 0, 12, 5, 5, 6, 0, 0, List.replicate 320 0⟩, 0)] }

/-- A schedule action `a` of C0, and stream 9 as `x`. -/
def streaming (a : QAction) (x : Stream) : State := (acting 0 a).setStream 9 x

/-- A scheduled leaf stage of one rank, 16 FP32 elements, in one segment. -/
def grp0 : Group :=
  { pav := 0, unsched := false, op := 0, reduce := 0, inF := 0, outF := 0, rm := 0, bcast := true, seed := 0, elems := 16, n := 2,
    rankLo := 0, rankHi := 0, level := 0, parent := none, srcRank := 0, slice := 0, segments := 0, width := 0, rows := 0,
    rowLo := 0, rowHi := 0, colLo := 0, colHi := 0, deadline := 100, downDeadline := 200, msgBase := 0, ring := 0xFFFF,
    members := [⟨false, 40, 0, 0, 0, 16, 0x3F800000⟩], step := 3, live := false, start := 0, state := 0, early := 0,
    nextStart := none, nextMiss := [], prevEnd := 0,
    cur := [], nxt := [], nxtFail := none, reached := [], result := none, flags := 0, downFired := false, down := [], got := [],
    gotAt := 0, nxtDown := [], nxtGot := [], nxtGotAt := 0, sent := [], outBy := [], fails := [], lastStatus := 0, lateMap := 0, lastFail := 0, lag := [], hist := [] }

/-- The stage has its whole contribution: 64 bytes of FP32. -/
def grpFull : Group := { grp0 with live := true, state := 1, start := 5, cur := [⟨0, 0, List.replicate 64 (0x3F : Byte), none, 0, 0⟩] }

/-- The stage has started and has nothing. -/
def grpShort : Group := { grp0 with live := true, state := 1, start := 5 }

/-- The stage has its result; `up` tells whether it has a parent. -/
def grpDone (up : Bool) : Group :=
  { grp0 with live := true, state := 2, start := 5, parent := if up then some (7, 3) else none, result := some (List.replicate 64 (0x3F : Byte)) }

/-- A stage action `a` of C0, and group 5 as `x`. -/
def grouping (a : QAction) (x : Group) : State := (acting 0 a).setGrp 5 x

/-! ## Host rings -/

/-- The PF's SQ 1 of 16 entries with commands in it, and its CQ 2 of 16 entries, enabled. -/
def rings : State :=
  let s := (up.setReg (aSQ_CTRL 0 1) (BitVec.ofNat 32 (1 + 4 * 16 + 2 * 2 ^ 16))).setReg (aCQ_CTRL 0 2) (BitVec.ofNat 32 (3 + 4 * 16 + 5 * 2 ^ 16))
  (s.setSq 0 1 ⟨15, 3, false, false⟩).setCq 0 2 ⟨3, 15, true, false, 0, 0, 0, 0, 0⟩

/-- A descriptor from SQ 1 of the PF. -/
def d0 : Desc := ⟨0, 1, 7, false, false, true, true, true⟩

/-- The same with its read failed, with a reserved byte set, from an empty queue. -/
def dBad : Desc := { d0 with rdOk := false }
def dRsv : Desc := { d0 with rsvOk := false }
def dNone : Desc := { d0 with sq := 2 }

/-- Function 1's SQ 1 and CQ 2, with commands in the SQ; pavilion 3 is function 1's where `bound`. -/
def ringsVf (bound : Bool) : State :=
  let s := (up.setReg (aSQ_CTRL 1 1) (BitVec.ofNat 32 (1 + 4 * 16 + 2 * 2 ^ 16))).setReg (aCQ_CTRL 1 2) (BitVec.ofNat 32 (3 + 4 * 16 + 5 * 2 ^ 16))
  let s := (s.setSq 1 1 ⟨0, 3, false, false⟩).setCq 1 2 ⟨0, 0, true, false, 0, 0, 0, 0, 0⟩
  if bound then { s with pav := { s.pav with table := s.pav.table ++ [(3, { PavEntry.empty with valid := true, function := 1 })] } } else s

/-- A descriptor from SQ 1 of function 1. -/
def d1 : Desc := ⟨1, 1, 7, false, false, true, true, true⟩

/-- `rings` with an image and, where `on`, a schedule launched at slot 4. -/
def ringsImg (on : Bool) : State :=
  { rings with img := some img1, sched := { rings.sched with launched := on, start := 4, iters := 0 } }

/-- `rings` with the column table written; the same with a load in progress. -/
def ringsMap : State := { mapped with hif := rings.hif, regs := (mapped.setReg (aSQ_CTRL 0 1) (rings.reg (aSQ_CTRL 0 1))).setReg (aCQ_CTRL 0 2) (rings.reg (aCQ_CTRL 0 2)) |>.regs }
def ringsLoad : State := { ringsMap with loading := some (3, img0) }

/-- An image that needs more than the part has, and one that could not be read. -/
def imgBig : Image := { img0 with bytes := imgBytes 255 0x94129af4, fports := 255 }
def imgDma : Image := { img0 with dmaOk := false }

/-- A schedule of one iteration whose end has come, and one with a STOP_SLOT. -/
def ended (stop : Option Nat) : State :=
  { launched with img := some { img1 with actions0 := [] }, sched := { launched.sched with iters := 1, stop := stop, unload := stop.isSome } }.setReg aSCH_CAL_PERIOD 8

/-- The CQ full but for one entry, with completions lost; and with a completion that waits. -/
def lossy : State := rings.setCq 0 2 ⟨2, 0, true, false, 0, 0, 9, 0, 0⟩
def cpl0 : Cpl := ⟨7, 0, 0, 0, 0, 0, 0, 0, 0, 0, 1⟩
def waiter : Taken := ⟨4, 0, 1, 2, 7, false, false, true, some cpl0⟩
def waitingCpl : State := { rings with hif := { rings.hif with taken := [waiter] } }

/-- The CQ with moderation set and an entry pending. -/
def moderated : State := (rings.setReg (aCQ_MODER 0 2) 0x00100004).setCq 0 2 ⟨3, 15, true, false, 1, 38000, 0, 0, 0⟩

/-- Two log entries in the ring. -/
def logEnt (n : Nat) : LogEntry := ⟨100 + n, n, 1, 0, dieH, 0x80, 0, 0, 0, 0⟩
def logged2 : State := { rings with log := { rings.log with ring := [(0, logEnt 0), (1, logEnt 1)], wrSeq := 2 } }

/-! ## Cells -/

/-- An instruction word (R322). -/
def insW (op dst a b fmt rm imm : Nat) : Nat :=
  op * 2 ^ 56 + dst * 2 ^ 48 + a * 2 ^ 43 + b * 2 ^ 38 + fmt * 2 ^ 34 + rm * 2 ^ 32 + imm

/-- A launch of cell 0 that started in slot 5. -/
def run0 : Run :=
  { id := 0, l := launch0, word7 := 2, sched := true, stream := none, stage := none, slot0 := 9600, cells := [0], flags := 0, fault := none,
    dropped := 0, last := 0 }

/-- Cell 0 with values at the ends of their ranges: SX4 the most negative word, SX5 33, SX6 an address, SX7 a misaligned
one, SX8 one beyond SRAM, SX9 31, SX24 a loop count; VX1 and VX2 FP32 corners; VX3 lane offsets, two of them equal. -/
def cell1 : Cell :=
  { cellInit with
    sx := [0, 0, 0, 7, 0x80000001, 33, 0x100, 0x102, 0x4000, 31] ++ List.replicate 14 0 ++ [2, 0, 0, 0, 0, 0, 0, 2]
    vx := [List.replicate 16 0,
      [0x3F800000, 0x80000000, 0x7FC00001, 0x00000001, 0x7F7FFFFF, 0xFF800000, 0xBF800000, 0x40490FDB, 0, 0, 0, 0, 0, 0, 0, 2],
      [0x40000000, 0, 0x3F800000, 0x00800000, 0x7F7FFFFF, 0x7F800000, 0x3F800000, 0x33800000, 0, 1, 31, 32, 0, 0, 0, 0x40000000],
      [0, 4, 8, 12, 16, 20, 24, 28, 32, 36, 40, 44, 48, 52, 56, 0]] ++ List.replicate 12 (List.replicate 16 0)
    mask := [0x5555, 0xAAAA, 0, 0xFFFF], run := some 0, next := 9600 }

/-- Cell 0 as `x`, its launch `r`, and the instruction word `w` at its program counter. -/
def cellOf (x : Cell) (r : Run) (w : Nat) : State :=
  { up with mem := memWrite [] (ibufKey 0 (8 * (x.pos % 256))) (natLe 8 w), cells := [(0, x)], cel := { up.cel with runs := [r], nextRun := 1 } }

/-- Cell 0 about to issue the word `w`. -/
def cellDo (w : Nat) : State := cellOf cell1 run0 w

/-- The cycle in which it issues where it reads registers `rs`. -/
def issueC (w : Nat) (rs : List Nat) : Nat := cell1.issueAt 0 (insOf w) rs

/-- The same with the words at SRAM 0x100 uncorrectable. -/
def cellBad (w : Nat) : State := { cellDo w with poison := (List.range 64).map fun j => cellKey 0 0x100 / 8 + j }

/-- The same with its instruction word uncorrectable. -/
def cellBadIns (w : Nat) : State := { cellDo w with poison := [ibufKey 0 0 / 8] }

/-- Cell 0 with `n` loops open, the innermost ending behind the next instruction with `left` repeats left. -/
def looped (n left w : Nat) : State :=
  cellOf { cell1 with loops := List.replicate n (0, 1, left) } run0 w

/-- A cell that runs, of a launch of two cells. -/
def run2 : Run := { run0 with cells := [0, 256], flags := 3 }
def cellDo2 (w : Nat) : State := cellOf cell1 run2 w

/-- A launch that has faulted. -/
def runBad : Run := { run0 with fault := some (3, 0, 0, 9590), cells := [0, 256] }
def cellFaulted : State := cellOf cell1 runBad 0

/-- A launch whose completions go to CQ 2 of the PF. -/
def runRing : Run := { run0 with l := { launch0 with ring := 2 } }
def cellRing (w : Nat) : State := { cellOf cell1 runRing w with hif := rings.hif, regs := rings.regs }

/-- A flit at cell 0 for row `r1`, whose queue holds `n` flits. -/
def flit0 (r1 : Nat) : Flit := ⟨256 * r1, 0, 0, false, 9600, 0, List.replicate 16 5⟩
def meshed (r1 n : Nat) : State :=
  (({ up with cel := { up.cel with mesh := [flit0 r1] } } : State).setCell (256 * r1) { cellInit with inq := List.replicate n (9000, []) })

/-- Cell 0 with the flits `q` in its input queue. -/
def queued (q : List (Nat × List Word)) (w : Nat) : State := cellOf { cell1 with inq := q } run0 w

/-- Cell 0 about to post `w`, its SX10 and SX11 as the flit and line it names; the route of endpoint 5 leads to F-port 1, which is
up; the image has a header template for endpoint 5. -/
def tmpl0 (sched : Bool) : List Byte := natBe 16 ((b2n sched) * 2 ^ 119 + 1 * 2 ^ 120 + 5 * 2 ^ 80 + 6 * 2 ^ 64 + 0xA0000000)
def posting (first line w : Nat) : State :=
  let s := cellOf { cell1 with sx := (cell1.sx.set 10 (BitVec.ofNat 32 first)).set 11 (BitVec.ofNat 32 line) } run0 w
  let s := ({ s with img := some { img0 with tmpl := [tmpl0 true, tmpl0 false] } }).setReg aRTE_CTRL 0x101
  subAt (settled (s.rteSet 0 5 (2 ^ 31 + 8 * 2 ^ 12))) 1 0 4

/-- The same with eight posts waiting at its gateway. -/
def postFull (w : Nat) : State :=
  { posting 0 0 w with cel := { (posting 0 0 w).cel with posts := List.replicate 8 (0, 2 ^ 30) } }

/-- A launch of pavilion 0 that a landing entry of cluster 0 triggers once 64 bytes are there, in a column of MODE 1. -/
def land0 : Landing := ⟨0, 9, 0, 1, 0x40, 64, 64, true, launch0⟩
def landed (n : Nat) : State :=
  let s := { up with img := some { img0 with landing := [land0] } }
  let s := s.setReg (aCEL_COLMODE 0) 1
  { s with cel := { s.cel with deps := [⟨0, 9, 0, List.replicate n (7 : Byte), true, 9600⟩] } }

/-- A pending trigger; one while a cell of the rectangle runs; one with a full queue; one in the queue. -/
def pended : State := { landed 0 with cel := { (landed 0).cel with pend := [(9, 9700)] } }
def pendBusy (n : Nat) : State :=
  { cellOf cell1 run0 0 with img := some { img0 with landing := [land0] }
                             cel := { (cellOf cell1 run0 0).cel with pend := [(9, 9700)], queue := List.replicate n (9, 9650) } }
def queuedT : State := { landed 0 with cel := { (landed 0).cel with queue := [(9, 9650)] } }
def pendBad : State := { up with img := some { img0 with landing := [land0] }, cel := { up.cel with pend := [(9, 9700)] } }

/-- The same with every flit of the cell uncorrectable. -/
def postBad (w : Nat) : State := { posting 0 0 w with poison := [cellKey 0 0 / 8] }

/-- A running cell while no pavilion owns column 100. -/
def noPav (w : Nat) : State :=
  { cellDo w with pav := { up.pav with table := [(0, { PavEntry.empty with valid := true, columns := 1 })] } }

/-! ## Ports and lanes -/

/-- `up` with sub-port `k` of port `p` as `x`, the port enabled with MODE `m` and the rest bits set. -/
def portIs (p k m : Nat) (x : SubPort) : State :=
  (up.setReg (aPRT_CTRL p) (BitVec.ofNat 32 (0xC1 + 2 * m))).setSub p k x

/-- A sub-port in HELLO with what it has heard. -/
def hello (id pt : Option Nat) (ackRx : Bool) : SubPort := { subInit with state := 3, idRx := id, portRx := pt, ackRx := ackRx }

/-- A sub-port in state `n`; one with REST_REQ sent; one whose receive direction rests; one held awake. -/
def sub0 (n : Nat) : SubPort := { subInit with state := n }
def subReq (n : Nat) : SubPort := { sub0 n with reqSent := true }
def subRx (n : Nat) : SubPort := { sub0 n with rxRest := true }
def subWake (n : Nat) : SubPort := { sub0 n with wake := true, wakeAt := 30000 }
def subSched : SubPort := { sub0 6 with sched := true, winEnd := 7 }

/-- The same port with a packet queued for it. -/
def pkt0 : Pkt := ⟨1, 1, false, 0, false, false, 0, 12, 0, 5, 6, 0, 0, List.replicate 64 0⟩
def held0 : Held := ⟨1, pkt0, [], 8, 0, 0, [], 0, 0, 0, 0, 800, 0, false, 0, .egr 8⟩
def portBusy (x : SubPort) : State :=
  let s := portIs 1 0 0 x
  s.setEgr 8 { s.egr 8 with queues := [[held0], [], [], [], [], [], [], []] }

/-- An enabled STC lane that is not up; one that is up with a relay frame waiting. -/
def stcOn (n : Nat) : State := up.setReg (aLNE_CTRL (stcIdx n)) 0x80
def stcRelay (n : Nat) : State := { stcUp n with mgt := { up.mgt with relay := some (n, true), relayOut := [(n, 0x80, [1, 2])] } }

/-- A control frame of TYPE 1 with its CRC-32C. -/
def frame0 : List Byte :=
  let b : List Byte := [1, 2, 0x12, 0x34]
  b ++ natBe 4 (crc32c b)

/-- Lane 8 of `up` with a checker that is locked; the injector in rate mode; a test standing on it. -/
def laneChk : State := (up.setReg (aLNE_PATCHK 8) 1).setLane 8 { up.lane 8 with chkLock := true }
def laneRate : State := up.setReg (aLNE_INJECT 8) 3
def laneTesting (n : Nat) : State := subAt (up.setReg (aLNE_PATGEN 8) 1) 1 0 n

/-- In HELLO with a mismatch already seen. -/
def helloMis : SubPort := { hello none none false with misSeen := true }

/-- STC lane `n` up, seven symbol times before the end of a slot. -/
def lateSlot (n : Nat) : State := tim' (stcUp n) fun t => { t with now := 46000 }

/-! ## The packet path -/

/-- F-ports 1 and 2 UP; endpoint 5 at egress 16, endpoint 7 at switch 3, whose path group 1 and scheduled egress are egress 16;
pool 0 of C0 with 16 buffers in service, 4 of them at allocator port 0. -/
def net : State :=
  let s := ((up.setReg aRTE_CTRL 0x00640101).rteSet 0 5 (2 ^ 31 + 16 * 2 ^ 12)).rteSet 0 7 (2 ^ 31 + 3)
  let s := settled ((s.rteSet 1 3 (2 ^ 31 + 16 * 2 ^ 16 + 2 ^ 15 + 1)).rteSet 3 32 (2 ^ 31 + 16))
  let s := subAt (subAt ((s.setReg (aPRT_CTRL 1) 0xC1).setReg (aPRT_CTRL 2) 0xC1) 1 0 4) 2 0 4
  let s := ((s.setReg (aBPM_CTRL 0) 1).setReg (aBPM_STATUS 0) 1).setReg (aBPM_POOL_COUNT 0 0) 16
  (s.setPool 0 0 { ring := List.range 12, caches := [(0, [12, 13, 14, 15])], inUse := [], removed := [], bad := [], free := 16 }).setOwner 0 0 ⟨0, 16, 0, 0, 0⟩

/-- A packet as it arrives with a good trailer; with a broken one. -/
def rxOf (p : Pkt) : RxPkt := ⟨p, pktCrc p, false, false⟩
def rxBad (p : Pkt) : RxPkt := ⟨p, pktCrc p + 1, false, false⟩

/-- Packets for endpoint `dst` of KIND `k`, VC `vc`: unscheduled and scheduled. -/
def pktTo (dst k vc : Nat) : Pkt := { pkt0 with dst := dst, kind := k, vc := vc }
def pktSched (dst k : Nat) : Pkt := { pkt0 with dst := dst, kind := k, sched := true }

/-- `net` where no pavilion owns a port; where pavilion 3 owns port 1; with egress 16 down; with FWD_EN 0. -/
def netFree : State := { net with pav := { net.pav with table := [(0, { PavEntry.empty with valid := true })] } }
def netOther : State := { net with pav := { net.pav with table := [(0, { PavEntry.empty with valid := true }), (3, { PavEntry.empty with valid := true, function := 1, ports := 2 })] } }
def netDown : State := subAt netFree 2 0 1
def netOff : State := net.setReg aRTE_CTRL 0x00640100

/-- L-port 0 UP, as `r`. -/
def netL (r : LRep) : State := (subAt (net.setReg (aPRT_CTRL 64) 0xC1) 64 0 4).setLr 0 r

/-- `net` with the packet `h` waiting; the credits of egress 16 at `n` on VC 4. -/
def heldTo (hop : Hop) : Held := { held0 with id := 9, handles := [3], hop := hop }
def netWait (hop : Hop) (n : Nat) : State :=
  let s := { net with rte := { net.rte with wait := [heldTo hop] } }
  let s := settled (s.rteSet 4 16 1)
  s.setEgr 16 { s.egr 16 with cum := [n, 0, 0, 0, n, 0, 0, 0] }

/-- The same with a stall standing on egress 16, VC 0. -/
def netStalled : State := { netWait (.egr 16) 0 with log := { net.log with stalled := [128] } }

/-- Egress 16 with a packet in strict queue 1, which has a rate. -/
def netQueue : State :=
  let s := net.setReg (aSCH_Q_SHAPE_CAP 2 0 1) 1000
  s.setEgr 16 { s.egr 16 with queues := [[], [{ held0 with hop := .egr 16 }], [], [], [], [], [], []] }

/-- Egress 16 with scheduled packets staged; sending; a scheduled packet on its way. -/
def stagedPkt : Staged := ⟨pktSched 5 1, 16, 38000, false, 0, 8⟩
def netStaged (n : Nat) : State := net.setEgr 16 { net.egr 16 with staged := List.replicate n stagedPkt }
def netTransit (n : Nat) : State := { netStaged n with rte := { (netStaged n).rte with transit := [stagedPkt] } }
def netTransitDown : State := subAt (netTransit 0) 2 0 1
def netSending : State :=
  net.setEgr 16 { net.egr 16 with sending := some (.queued 7 held0, 39000) }

/-- The same with a schedule that reserves every slot of egress 16. -/
def netReserved (s : State) : State :=
  let s := { s with sched := { s.sched with launched := true, start := 0 }, rte := { s.rte with cal := [(0, 8 * 2 ^ 24 + 16 * 2 ^ 40)] } }
  (s.setReg aSCH_CAL_COUNT 1).setReg aSCH_CAL_PERIOD 8

/-- A unit's packet in buffer 3 of pool 0. -/
def netUnit : State :=
  let s := { net with rte := { net.rte with units := [{ held0 with id := 9, handles := [3], hop := .unit }] } }
  s.setPool 0 0 { net.pool 0 0 with inUse := [3], ring := List.range 3, free := 15 }

/-- A CREDIT packet whose count for VC 0 is 5 and for VC 1 behind. -/
def creditPkt : Pkt :=
  { pkt0 with kind := 0x3E, dst := 0xFFFF, src := 0xFFFF, hops := 0, payload := natBe 4 5 ++ natBe 4 0xFFFFFFF0 ++ List.replicate 56 0 }

/-- The BPM of C0 off with the layout of `net`; off with a pool beyond the buffer; on and not ready; on with forwarding off. -/
def bpmOff : State :=
  (((net.setReg (aBPM_CTRL 0) 0).setReg (aBPM_STATUS 0) 0).setReg (aBPM_RING_BASE 0) 4096).setReg (aBPM_SCHED_BASE 0) 8192
def bpmBad : State := bpmOff.setReg (aBPM_SCHED_SIZE 0) 0x3FFFFF
def bpmFill : State := net.setReg (aBPM_STATUS 0) 0

/-- S-port 0 UP with pause MODE `m`, its transmit pause on, and every priority enabled. -/
def sport (m : Nat) : State :=
  subAt (((net.setReg (aPRT_CTRL 80) 1).setReg (aSCH_PAUSE_CTRL 80) (BitVec.ofNat 32 (0xFF04 + m))).setReg (aSCH_PAUSE_TIME 80) 0xFFFF) 80 0 4

/-- A frame of EtherType `t` with opcode `op` and quanta 0xFFFF for the link and priority 7; its destination is the PAUSE address. -/
def frameOf (t op : Nat) (n : Nat) : List Byte :=
  [0x01, 0x80, 0xC2, 0x00, 0x00, 0x01] ++ List.replicate 6 2 ++ natBe 2 t ++ natBe 2 op ++ natBe 2 0x80FF ++ List.replicate 14 0
    ++ natBe 2 0xFFFF ++ List.replicate (n - 34) 0

/-- S-port 0 with priority 7 paused; with a pause of its own standing and a frame held. -/
def sportPaused : State := (sport 2).setPause 0 { (sport 2).pause 0 with ends := [0, 0, 0, 0, 0, 0, 0, 1000000] }
def sportXoff : State :=
  let s := ((sport 1).setReg (aSCH_PAUSE_XON 80) 0).setPause 0 { (sport 1).pause 0 with txXoff := 0xFF }
  { s with rte := { s.rte with units := [{ held0 with eth := List.replicate 60 1, ingress := 640, handles := [3], hop := .unit }] } }

/-- The data registers of the route tables, the owner table and the policers. -/
def withData (s : State) (v : Word) : State := s.setReg aRTE_TBL_DATA0 v
def ownData (s : State) (n : Nat) : State := s.setReg (aBPM_OWN_DATA0 0) (BitVec.ofNat 32 n)
def polData (s : State) : State := ((s.setReg aSCH_POL_DATA0 0xC00FFFFF).setReg aSCH_POL_DATA1 0xFFFFFF).setReg aSCH_POL_DATA2 5

/-! ## Memories, matrix units and streams -/

/-- `up` with one TENSOR region of pavilion 0, 64 KiB at the start of HBM of C0; engines 0 and 1 set in MEM_GSVC where `on`. -/
def tensor (on : Bool) : State :=
  ({ up with regions := [(0, regionWord ⟨0, 0, 0, 0, 16⟩)] } : State).setReg aMEM_GSVC (if on then 3 else 0)

/-- The same with no tokens budgeted. -/
def noTokens : State := { tensor true with pav := { up.pav with table := up.pav.table.map fun e => (e.1, { e.2 with tokens := 0 }) } }

/-- An engine serves pavilion 0; gather table 2 holds 16 rows of 64 bytes from HBM 0; a request waits for rows `rows`. -/
def serving (rows : List Nat) : State :=
  { (tensor true).setReg aMEM_CTRL 1 with gtbl := [(2, 2 ^ 31 + 16 * 2 ^ 64)], greq0 := [⟨2, 9, 7, rows⟩]
                                          tim := { up.tim with state := 2, withhold := false } }

/-- The same where the region no longer holds the table. -/
def servingOut : State := { serving [1] with regions := [] }

/-- A GATHER_REQ for two rows of table 2; an own packet of it in hand. -/
def gatherPkt (n : Nat) : Pkt :=
  { pkt0 with kind := 0x0C, dst := 0xC001, tag := 9 * 2 ^ 20 + 2 * 2 ^ 11 + (n - 1), payload := natBe 4 1 ++ natBe 4 2 ++ List.replicate 56 0 }
def ownPkt (s : State) (p : Pkt) : State := { s with rte := { s.rte with own := [(p, none)] } }

/-- A launch of unit 1, accepted; started with one row of results; with an engine of its own; whose operands hold a bad word. -/
def mrun0 : MxuRun :=
  { desc := desc0, step := 0, stream := none, t0 := 6500, started := false, stall := 0, engine := none, bound := some 0, rows := [], stats := [],
    rowFl := [], bad := false, acc := [] }
def mrun1 : MxuRun := { mrun0 with started := true, rows := [[(0, opKey 1 0, [1, 2])], [(0, opKey 1 64, [3, 4])]] }
def mrunHbm : MxuRun := { mrun1 with engine := some 0, bound := none }
def mrunBad : MxuRun := { mrun1 with bad := true }

/-- The schedule of `launched` with unit 1 running `r`. -/
def matrix (r : MxuRun) : State :=
  { launched with img := some img1, hif := rings.hif, regs := (launched.setReg (aSQ_CTRL 0 1) (rings.reg (aSQ_CTRL 0 1))).setReg (aCQ_CTRL 0 2) (rings.reg (aCQ_CTRL 0 2)) |>.regs
                  mxu := [(1, ⟨some r, none⟩)], tokens := [⟨0, 1, false, 9500, none⟩] }

/-- An update of stream 9 whose launch `n - 10` has completed in MCLK cycle 6500; with its VEC launch where `vec`. -/
def updating (n : Nat) (vec : Bool) : State :=
  let x := { streamActed with upd := n, updAt := 6500, data := streamActed.data.set 0 (2 ^ 30 + 2 ^ 17 + 2 * 2 ^ 6 + (if vec then 2 ^ 16 else 0)) }
  { launched with img := some img1, streams := [(9, x)], tokens := [⟨0, 1, false, 9500, none⟩] }

/-- A prefetch at the head of C0's queue. -/
def prefetching : State := { launched with img := some img1, regions := [(0, regionWord ⟨0, 0, 0, 0, 16⟩)], pf0 := [⟨pf0, 0, 6500⟩] }

/-- A page move of stream 9 that ends in MCLK cycle 6500. -/
def pageMv (out reset : Bool) (tail : Option Nat) : PageMove :=
  { stream := 9, out := out, reset := reset, from_ := 6400, stop := 6500, tail := tail }

/-- A page move of stream 9 at the head of C0's queue; the update of its step waits where `n` is 13. -/
def paging (out reset : Bool) (n : Nat) (l3 : Bool) : State :=
  { launched with pager0 := [pageMv out reset none], streams := [(9, { streamActed with upd := n, l3Done := l3 })] }

/-! ## Groups -/

/-- The parameter block of a scheduled leaf stage of one rank, `elems` FP32 elements, its member listing `count`, in rows 0–31 of
column 0. -/
def colBlk (elems count : Nat) : List Byte :=
  [0, 0, 0, 0, 0, 0, 0, 1] ++ List.replicate 8 0 ++ natLe 4 elems ++ List.replicate 8 0 ++ natLe 2 0xFFFF ++ natLe 4 0 ++ natLe 2 32
    ++ List.replicate 13 0 ++ [31, 0, 0] ++ natLe 2 100 ++ natLe 2 200 ++ natLe 6 3 ++ natLe 2 0 ++ natLe 2 0xFFFF ++ List.replicate 62 0
    ++ natLe 2 0 ++ natLe 2 40 ++ natLe 4 0 ++ natLe 4 0 ++ natLe 4 count ++ natLe 4 0x3F800000 ++ List.replicate 12 0

/-- `rings` with group 5 as `grp0`; with a schedule that names it; with an instance of it in progress. -/
def ringsGrp : State := rings.setGrp 5 grp0
def ringsGrpUsed : State := (ringsImg true).setGrp 5 grp0 |> fun s => { s with img := some { img1 with actions0 := [⟨2, 0, true, 0, 8, 5⟩] } }
def ringsGrpLive : State := rings.setGrp 5 { grp0 with live := true, state := 1, start := 5 }

/-- An unscheduled stage, in progress where `live`; a stage below a parent. -/
def grpU (live : Bool) : Group := { grp0 with unsched := true, live := live, state := if live then 1 else 0, start := if live then 5 else 0 }
def grpBelow (st : Nat) : Group := { grp0 with elems := 512, live := true, state := st, start := 5, parent := some (7, 3) }

/-- Group 5 as `x` and a schedule of slot 4 on. -/
def staging (x : Group) : State := launched.setGrp 5 x

/-- A packet of group 5 and PHASE `ph`, instance `inst`, from `src`; one of KIND 4. -/
def colPkt (ph inst src : Nat) (sched : Bool) : Pkt :=
  { pkt0 with kind := 2, sched := sched, dst := 0xC001, src := src, tag := 5 * 2 ^ 20 + ph * 2 ^ 18 + inst * 2 ^ 16, payload := List.replicate 64 1 }

/-- The packet `p` of this switch for a stage `x`. -/
def given (x : Group) (p : Pkt) : State := ownPkt (up.setGrp 5 x) p

/-- A member that has brought 32 of its 64 bytes. -/
def grpHalf : Group := { grp0 with live := true, state := 1, start := 5, cur := [⟨0, 0, List.replicate 32 1, none, 0, 0⟩] }

/-- What a stage with its result still owes: nothing, its down stream sent. -/
def grpSent (st : Nat) (sent : Bool) : Group :=
  { grpDone false with elems := 512, unsched := true, state := st, sent := if sent then [(0, [(0, 1024)])] else [] }

/-! ## Stream commands and stream packets -/

/-- The parameter block of a stream sender. -/
def strBlk : List Byte := (stream0 1 0).data.flatMap (natLe 4)

/-- The entry such a block opens. -/
def opened : Stream := { streamInit with data := strData strBlk }

/-- `rings` with an image of one weight set and an Ember window; the same with stream 9 as `x` and its commands `cs` waiting. -/
def ringsStr : State := ({ rings with img := some { img1 with wset := [0] } } : State).setReg (aMEM_EWIN_SIZE 1) 64
def strHas (x : Stream) (cs : List StrCmd) : State := { ringsStr.setStream 9 x with strCmds := cs }
def strCmd (kind : Nat) : StrCmd := ⟨9, kind, 2000, if kind = 0 then 77 else 0, if kind = 0 then (stream0 1 0).data else [], 3⟩

/-- Stream 9 of L-port 0, UP, as `x`. -/
def onL (x : Stream) : State := (netL lrepInit).setStream 9 x

/-- The receiver's entry at step `k`. -/
def recv (k : Nat) : Stream := { stream0 2 1 with step := k }

/-- A RESIDUAL for step `k`, chunk `c`; a RAW_CHUNK. -/
def resPkt (k c : Nat) : Pkt :=
  { pkt0 with kind := 8, sched := true, dst := 0xC001, len := 4, tag := 9 * 2 ^ 16 + k % 16 * 2 ^ 12 + c, payload := natBe 6 k ++ List.replicate 314 0 }
def rawPkt (k c : Nat) : Pkt :=
  { pkt0 with kind := 9, sched := true, dst := 0xC001, len := 7, tag := 9 * 2 ^ 16 + k % 16 * 2 ^ 12 + c, payload := List.replicate 512 0 }

/-- What unit a packet comes to. -/
def inHand (s : State) (rx : RxPkt) : ForUnit := ((s.arrive 64 0 rx 38500 false).1).getD ⟨rx.pkt, none, 512, 38500, 38500, 38500⟩

/-- An entry with a gap at step 5, chunk 0, whose action names unit 1. -/
def gapped : Stream := { recv 9 with missing := [(5, [0, 2])], got := [] }

/-- The same entry set to re-emit, with a template of KIND 1; an entry of pavilion 3. -/
def reEmits : State :=
  { onL { gapped with data := gapped.data.set 0 (2 ^ 31 + 2 ^ 17 + 2 * 2 ^ 6 + 16) } with img := some { img0 with tmpl := [tmpl0 true] } }
def recvOf (p : Nat) : Stream := { recv 5 with data := (recv 5).data.set 0 (2 ^ 31 + 2 ^ 17 + p * 2 ^ 24 + 2 * 2 ^ 6) }

/-- Two packets unacknowledged, two RESET_REQs and a NAK owed. -/
def lr2 : LRep :=
  { lrepInit with next := 12, acked := 10, copies := [⟨10, pkt0, false, 8⟩, ⟨11, pkt0, false, 8⟩], acc := 20, recover := true, nak := true,
                   reqs := [List.replicate 64 1, List.replicate 64 2] }
def linkRx (sub : Nat) (w : List Byte) : RxPkt :=
  rxOf { pkt0 with kind := 0x3C, hops := 0, dst := 0xFFFF, src := 0xFFFF, tag := sub * 2 ^ 24, payload := w ++ List.replicate (64 - w.length) 0 }

/-- A sender that holds step 6 in its history. -/
def sender : State := onL { stream0 1 1 with step := 8, hist := [7, 6], lastReset := 0 }

/-! ## Capture, replay, digest -/

/-- `rings` with a CAPTURE region of 64 KiB; capture in progress as `c`. -/
def capReady : State := { rings with regions := [(0, regionWord ⟨1, 0, 0, 16, 16⟩)] }
def cap0 : Cap :=
  { capReady.cap with active := true, base := 65536, size := 65536, wr := 64, recs := [(0, 64)], seq := 1, levelClk := 38400 }
def capturing (c : Cap) : State := { capReady with cap := c }

/-- Replay at `pos` 64-byte units of a buffer of `len` bytes, recorded at slot 4. -/
def replaying (pos len : Nat) : State :=
  (({ net with rpl := ⟨true, false⟩, sched := launched.sched } : State).setReg aDET_RPL_LEN_LO (BitVec.ofNat 32 len)).setReg aDET_RPL_POS
    (BitVec.ofNat 32 pos)
def replay4 : State := (replaying 0 4096).setReg aDET_RPL_CAP_START_LO 4

/-- An INGRESS record of slot `slot` with its whole packet; a header alone; a MARK of kind `k`; a LOSS record. -/
def recIn (slot : Nat) : List Byte := recBytes 1 1 2 8 slot 0 (hdrBytes (pktTo 5 1 7)) 0 (pktCrc (pktTo 5 1 7)) 0 0 ++ List.replicate 64 0
def recHead : List Byte := recBytes 1 0 1 8 5 0 (hdrBytes (pktTo 5 1 7)) 0 0 0 0
def recMark (k : Nat) : List Byte := recBytes 3 0 1 0 5 0 (markBody k 0) 0 0 0 0
def recLoss : List Byte := recBytes 4 0 1 0 5 0 (markBody 1 64) 0 0 0 0

/-- A digest of the first 64 bytes of the TENSOR region, asked for or running. -/
def digesting (on : Bool) : State :=
  ({ tensor false with digest := if on then some ⟨0, 64, 0, 38400⟩ else none } : State).setReg aDET_DIG_LEN 64 |>.setReg aDET_DIG_CMD (if on then 0xC else 0)

/-! ## Proposals, signed by a tool outside this package -/

/-- The operator's and the custodian's keys. -/
def opKey0 : Nat := 0x3077a41d4606ffa1464793c7e5fdc7d98cb9d3910202dcd06bea4f240d3566da6b408bbae5026580d02d7e5c70500c831
def cuKey0 : Nat := 0x211de24a2c251c777573cac5ea025e467f208e51dbff98fc54f6661cbe56583b037882f4a1ca297e60abcdbc3836d84bc

/-- A proposal of one record, signed by the operator: pavilion 0 gets 5 tokens, or gives unit 3 back. -/
def propBody (field v : Nat) : List Byte :=
  natLe 4 0x5050384B ++ natLe 2 1 ++ natLe 2 1 ++ natLe 4 1 ++ natLe 4 0 ++ natLe 8 0x1122334455667788 ++ natLe 8 0
    ++ [1, 0] ++ natLe 2 field ++ natLe 4 0 ++ natLe 8 v
def propTokens : List Byte := propBody 0x0D 5 ++ natBe 96
  0x283c1d7365ce4788f29f8ebf234edffead6fe997fbea5ffa2d58cc9dfa7b1c508b05526f55b9ebb2040f05b48fb6d0e1caf7bd3d965af290d4eb774b8caf4fc3390972310fa874d16b4d4dd7648ea95aeaae27f5aee2ddd642257d91e0c2d7b2

/-- The proposals' digests, and their approvals, signed by the custodian. -/
def digTokens : Nat := 0x9d2668a64d0ebfaf19b11f4ee85d1b564fbafc439903537a02b36c12df5f05c6561e2841808c0da1cea921182a6f21cb
def digUnits : Nat := 0x33ab99a0b191f8aa16332a7bc9e9783d06ef3dde31410945d0e76d1cd960d069e5c75e0b9403a687651a859c2d48d0d3
def apprOf (dig : Nat) (sig : Nat) : List Byte :=
  natLe 4 0x5041384B ++ natLe 2 1 ++ natLe 2 0 ++ natLe 4 1 ++ natLe 4 0 ++ natBe 48 dig ++ natBe 96 sig
def apprTokens : List Byte := apprOf digTokens
  0x99056e27da7b998da1eeec2904816c57fe935ed5837c37456c9fd14892d3f8c4749b66e3afb81d626356f3b55b4ddd82f456ca252f5ce492fab9d3c4faf5053e9e059f9e2644fb8a497b8c3a2776c6af08b88b0520b7929f4b3ad5ef981d33a

/-- `rings`, and function 1's ring with function 1 the custodian, with both keys, a NONCE and the proposal `pend`. -/
def keyed (s : State) (pend : Option Proposal) : State :=
  { s with pav := { s.pav with cust := 1, opKey := opKey0, cuKey := cuKey0, nonce := 0x1122334455667788, pend := pend } }
def pendTokens : Proposal := ⟨1, [⟨0, 0x0D, 0, 5⟩], digTokens, 38400⟩
def pendUnits : Proposal := ⟨1, [⟨0, 4, 0, 0xF7⟩], digUnits, 38400⟩

/-- Scrubs run; the new table stands by. -/
def scrubbing : State := { up with pav := { up.pav with next := some up.pav.table, scrubs := [0x40], waiter := some .console } }

/-! ## Management paths -/

/-- `up` with the console line `l` being typed; with a relayed line. -/
def typing (l : String) : State := { up with mgt := { up.mgt with line := txt l } }
def line (l : String) : State := { up with mgt := { up.mgt with line := txt l ++ [0x0D] } }
def relLine (l : String) : State := { stcUp 3 with mgt := { up.mgt with relayLine := txt l ++ [0x0D], relay := some (3, false) } }
def fifoFull : State := { line "rd 0" with mgt := { (line "rd 0").mgt with fifo := List.replicate 64 0x41 } }
def relaying : State := { stcUp 3 with mgt := { up.mgt with relay := some (3, true) } }
def lineLane (l : String) : State := { stcUp 3 with mgt := { up.mgt with line := txt l ++ [0x0D] } }
def approveLine : List Byte := txt "approve " ++ List.replicate 320 0x30
def lineApprove : State := { up with mgt := { up.mgt with line := approveLine ++ [0x0D] } }
def lineWaiting : State := { lineApprove with mgt := { lineApprove.mgt with approving := true } }
def lineBoot : State := { lineApprove with boot := { up.boot with stage := 0 } }

/-- PEC required; an alert standing; 160 bytes. -/
def pecOn : State := up.setReg aMGT_SMB_CFG 4
def alerting : State := (up.setReg aMGT_SMB_CFG 0x100).setReg aMGT_EVENT 1
def blk160 : List Byte := List.replicate 160 0

/-! ## Registers, the log and sensors -/

/-- The queue of the log holds one entry; the ring is full. -/
def logWaiting : State := { up with log := { up.log with queue := [logEnt 9], wrSeq := 2, ring := logged2.log.ring } }
def logFull : State := { up with log := { up.log with queue := [logEnt 9], wrSeq := 8192, ring := [(0, logEnt 0)] } }
def hotSensor : State := { up with mgt := { up.mgt with hot := [2], warn := true } }
def tripped : State := (up.setReg aMGT_TRIP_REC 0x80000000)
def trippedHot : State := tripped.setReg (aMGT_TEMP 2) 1000

/-! ## Variants of the values above -/

def waiting (q : List Instr) : State := { up with pending := q }
def clocksBad : State := { clocks false with fuse := { (clocks false).fuse with mask1 := 31 } }
def cellNext : Cell := { cell1 with next := 9601 }
def sub0Rx (n : Nat) : SubPort := { sub0 n with rxRest := true }
def paused9 : Stream := { stream0 1 3 with resume := 2 }
def resLong : Pkt := { resPkt 5 0 with pav := 0, payload := List.replicate 384 0, len := 5 }
def rawShort : Pkt := { rawPkt 5 0 with payload := List.replicate 256 0, len := 3 }
def grpFullU : Group := { grpFull with unsched := true }
def grpUpU : Group := { grpDone true with unsched := true }
def grpRootU : Group := { grpDone false with unsched := true }
def pktVer2 : Pkt := { pkt0 with ver := 2 }
def grpPav1 : Group := { grp0 with pav := 1 }
def grpEarly : Group := { grp0 with early := 1 }
def noVsb : State := { up with boot := { up.boot with vsb := false } }
def relayedFrom : State := { stcUp 3 with mgt := { up.mgt with relay := some (3, false) } }
def capPost : Cap := { cap0 with post := some 0 }
def capOther : Cap := { cap0 with pav := 3 }
def capLost : Cap := { cap0 with lostRecs := 3, lostBytes := 192 }
def capStopping : Cap := { cap0 with ending := true, level := 1000, stoppers := [3] }
def capStream : Cap := { cap0 with dest := 2 }
def capTriggered : Cap := { cap0 with armed := true, triggered := true }
def capArmed : Cap := { cap0 with armed := true }
def pktPav63 : Pkt := { pktTo 5 1 7 with pav := 63 }
def lrRecover : LRep := { lrepInit with recover := true }
def lrWrap : LRep := { lrepInit with acc := 2 ^ 32 - 1 }
def heldUnit : Held := { held0 with id := 9, handles := [3], hop := .unit }
def held16 : Held := { held0 with hop := .egr 16 }
def subWakeRx : SubPort := { subWake 5 with rxRest := true }
def subReqRx : SubPort := { subReq 4 with rxRest := true }
def linksUp : State := { clocks false with tim := up.tim, hif := { up.hif with rate := 6, width := 16 } }
def warmAgain : State := { warming with boot := { warming.boot with warmAt := 1200, cause := 4 } }
def fatalUp : State := { up with log := { up.log with fatal := true } }
def flPfNow (n : Nat) : State := boot' (flAddr n) fun b => { b with flBusy := some (0, 0), flAt := 1201, flPf := true }
def flMgtNow (n : Nat) : State := boot' (flAddr n) fun b => { b with flBusy := some (0, 0), flAt := 1201, flPf := false }
def rootLost : State := { noLock with tim := { noLock.tim with lost := true } }
def loadingRun : State := { loading1 with sched := { loading1.sched with launched := true, start := 4 } }
/-- The symbols of a mark with the phase word `phase0`; the same with a symbol that is no code. -/
def markSyms : List Nat := encSyms false (⟨true, kMark⟩ :: dataSyms phase0)
def markBad : List Nat := markSyms.set 13 0
def timeRx (ok : Bool) : RxPkt :=
  rxOf { pkt0 with kind := 0x3D, sched := true, hops := 0, dst := 0xFFFF, src := 0xFFFF, payload := if ok then time0 else List.replicate 64 0 }
def ppsLate : State := tim' ppsLocked fun t => { t with state := 1, ppsPrev := some 0 }
/-- A launch that R316 refuses; a rest of an egress that is sending, of an S-port. -/
def launchOff : State := { acting 0 (act 1 0 true) with img := some { img1 with cellRec := [{ launch0 with entry := 1024 }] } }
def restBusy : State :=
  let s := subAt (acting 0 (act 16 262152 true)) 1 0 4
  s.setEgr 8 { s.egr 8 with sending := some (.queued 7 held0, 39000) }
def restS : State := subAt (acting 0 (act 16 (2 ^ 18 + 640) true)) 80 0 4
def failed0 : Failure := ⟨1, 2, 0, 0, 0, 0, 0, 0, false, true, true, true⟩
def grpFailed : Group := { grp0 with fails := [failed0] }
def ringsRpl : State := (ringsImg false).setReg aDET_RPL_CTRL 1
/-- A deposit that no landing entry takes; an unscheduled one; a queued trigger whose launch is refused. -/
def landOff : State := { landed 64 with img := some img0 }
def landUns : State :=
  { landed 64 with cel := { (landed 64).cel with deps := (landed 64).cel.deps.map fun d => { d with sched := false } } }
def queuedBad : State := { pendBad with cel := { pendBad.cel with queue := [(9, 9650)] } }

/-- A state whose pins a TAP instruction drives; one moved to `now`, to `clk`. -/
def tapOut (s : State) : State := { s with mgt := { s.mgt with tapIr := 0 } }
def atNow (s : State) (n : Nat) : State := tim' s fun t => { t with now := n, slot := n / 7680 + 1 }

/-- A sub-port whose entry began at clock `c`; in a scheduled rest until slot `w`; idle until slot 1022. -/
def subEnter (c : Nat) : SubPort := { sub0 5 with since := c }
def subWin (c w : Nat) : SubPort := { subEnter c with sched := true, winEnd := w }
def subIdle : SubPort := { sub0 4 with idle := 958 }
def noRestReq : State := (portIs 1 0 0 (sub0 4)).setReg (aPRT_CTRL 1) 0x41

/-- An STC lane whose transmitter is busy to the slot's end; one with a PRBS selected; port lanes that test, hunt, loop and count. -/
def stcUsed : State := (stcUp 0).setLane (stcIdx 0) { (stcUp 0).lane (stcIdx 0) with txBit := 10 ^ 9 }
def stcTest (n : Nat) : State := (stcUp n).setReg (aLNE_CTRL (stcIdx n)) 0x80
def laneTwo : State := (laneTesting 8).setReg (aLNE_PATGEN 9) 1
def laneHunt : State := up.setReg (aLNE_PATCHK 8) 1
def laneNear : State := laneHunt.setReg (aLNE_CTRL 8) 4
def laneOff : State := laneChk.setReg (aLNE_PATCHK 8) 0

/-- An L-port that still skips resent packets; port 1 of nobody with one lane; its ingress policed at rate 0; no scheduled egress to
switch 3; every slot of egress 16 reserved behind port 1 of pavilion 0. -/
def lrSkip : LRep := { lrepInit with skip := 2 }
def netThin : State := netFree.setReg (aPRT_CTRL 1) 0xC7
def netPoliced : State := net.setPolicer 71 { net.policer 71 with enable := true }
def netNoSegr : State := settled (netFree.rteSet 1 3 (2 ^ 31 + 1))
def rxBadSched (n : Nat) : RxPkt := rxBad { pktSched 5 1 with len := n }

/-- Egress 16 busy until a later clock; asking to rest; its sub-port in a test with a packet on its way; a TIME packet due next. -/
def netLater : State := netQueue.setEgr 16 { netQueue.egr 16 with freeAt := 10 ^ 6 }
def netAsks : State := netQueue.setSub 2 0 { netQueue.sub 2 0 with reqSent := true }
def netTransitTest : State := subAt (netTransit 0) 2 0 8
def netTime : State := tim' (netL lrepInit) fun t => { t with slot := 6 }
def netStagedDown : State := subAt (netStaged 1) 2 0 1
def netOwn : State := { net with rte := { net.rte with own := [(pkt0, some { held0 with id := 9 })] } }
def sportOff : State := (sport 1).setReg (aBPM_STATUS (allocPort 80).1) 0
def sportPoliced : State := (sport 1).setPolicer 5120 { net.policer 5120 with enable := true }

/-- A launch whose window bounds it; that of an update's launch 2; updates that R403 refuses or whose cell launch is not accepted. -/
def mrunBound : MxuRun := { mrunHbm with bound := some 3 }
def mrunUpd2 : MxuRun := { mrun1 with stream := some (9, 2) }
def updOff (n : Nat) : State := { updating n true with pav := State.reset.pav }
def updNoCell : State := { updating 12 true with img := some { img1 with cellRec := [{ launch0 with entry := 1024 }] } }

/-- A prefetch of a bad word; a gather engine inside a window that masks it; a page move of another pavilion's window. -/
def pfBad : State := { prefetching with poison := [pf0.src / 8] }
def gwinMask : State := { (serving [1]) with sched := launched.sched, gwin := [(0, 2 ^ 32 + 0xFFFF * 2 ^ 48)] }
def pagingOff (out : Bool) : State := { paging out false 1 false with pav := State.reset.pav }

/-- A stage below its parent with its down stream there. -/
def grpDown : Group := { grpBelow 4 with got := [(0, 1024)] }

/-- Capture into a stream with whole frames for an S-port; with a trigger in the present SCLK cycle; a slow digest of a bad word. -/
def capUndo : State :=
  { capReady with cap := { capTriggered with group := [⟨5, 0, 3, 0, List.replicate 64 0, true⟩], groupAt := capReady.tim.clk / 32 } }
def capArmEnd : Cap := { capArmed with ending := true }
def digPoison : State := { digesting true with poison := [0] }

/-- The samples of a character's frame; with its stop bit 0. -/
def uartOf (b : Byte) (stop : Bool) : List Bool := (false :: (List.range 8).map b.getLsbD ++ [stop]).flatMap (List.replicate 16)

/-- A management path has just written a register; a fault waits for its record; an interrupt waits; its record is held. -/
def wrote : State := { up with mgt := { up.mgt with lastWr := (aMGT_SMB_CFG, up.tim.clk, 2) } }
def heldFault : State :=
  { up.setReg (aMXU_FAULT_REC2 1) 1 with recent := ⟨up.tim.clk / 32, [], [(aMXU_FAULT_REC2 1, [(aMXU_FAULT_REC0 1, 7)])], []⟩ }
def drainNow : State := { logged2 with log := { logged2.log with drainAt := logged2.tim.clk / 32 + 1, drainWas := 0, drainTo := 1 } }
def logPast : State := { logWaiting with log := { logWaiting.log with queue := [{ logEnt 9 with time := logWaiting.edgeNs }] } }
def cooled : State := { up with mgt := { up.mgt with warn := true, warned := [2] } }

/-- A step has skipped slots 5 to 7; an action of the queue in one of them. -/
def skippedSt : State := { acting 1 (act 16 262152 true) with sched := { (acting 1 (act 16 262152 true)).sched with skips := [(5, 8)] } }

/-- A stage whose launch action is still to come after its failure. -/
def failedL : Failure := { failed0 with launch := true }
def grpFailedL : Group := { grp0 with fails := [failedL] }

/-- The same with its completion's write failed; a completion that a load of an image waits for. -/
def dCpl : Desc := { d0 with cplOk := false }

/-- An image at an address that is no multiple of 64; a digest that reads the region `img0` loads. -/
def imgOdd : Image := { img0 with addr := 32 }

/-- An image with data for its region; a launched schedule whose own region has the same bytes. -/
def imgData : Image := { img0 with data := [⟨0, 0, [1, 2]⟩] }
def ringsLocked : State := { ringsMap with img := some img1, sched := { rings.sched with launched := true, start := 4 }
                                           regions := [(0, regionWord ⟨0, 0, 0, 0, 16⟩)] }

/-- What a GPOST of `posting` sees: its cell after the fetch, and 40 cycles after the gateway takes it up. -/
def gpC (w : Nat) : Nat := issueC w [sxR 10, sxR 11]
def gpU (s : State) (w : Nat) : State := s.fetched 0 (gpC w)
def gpZ (s : State) (w : Nat) : State := (gpU s w).toCyc (max (gpC w) (tblGet (fun _ => 0) s.cel.gwFree (cellCluster 0)) + 40)
def gpRoom (s : State) (w : Nat) : Bool := (s.post (cellCluster 0) (bitsOf (insOf w).imm 14 8 + 1) (gpC w)).isSome
def gpBad (s : State) (w : Nat) : Bool :=
  (gpZ s w).poisoned (cellKey 0 (64 * (((s.cell 0).sxw (insOf w).a).toNat % 256))) (64 * (bitsOf (insOf w).imm 14 8 + 1))
def gpTmpl (s : State) (w : Nat) : Nat :=
  beNat (match s.img with | some m => m.tmpl.getD (bitsOf ((s.cell 0).sxw (insOf w).a).toNat 18 8) [] | none => [])

/-- `posting` with header templates of pavilion 3. -/
def postForeign (first line w : Nat) : State :=
  { posting first line w with img := some { img0 with tmpl := [natBe 16 (3 * 2 ^ 108 + 2 ^ 119), natBe 16 (3 * 2 ^ 108)] } }

/-- A trigger that waits for a place in the queue; one for whose place the queue's head makes room. -/
def pendFull : State := { pendBusy 8 with cel := { (pendBusy 8).cel with full := [9] } }
def queuedFull : State := { queuedT with cel := { queuedT.cel with full := [10], pend := [(10, 9700)] } }

/-- An STC lane that has its symbols and a good mark; what a frame of TYPE 0x80 and payload [1, 2] needs to begin now. -/
def stcAcq (n : Nat) : State := (stcOn n).setLane (stcIdx n) { (stcOn n).lane (stcIdx n) with acq := true }
def stcBit (s : State) : Nat := (s.tim.clk * 25 + 31) / 32
def stcAt (s : State) (n : Nat) : Nat := (s.lane (stcIdx n)).txBit + (stcBit s - (s.lane (stcIdx n)).txBit + 9) / 10 * 10
def stcStop (s : State) : Nat := ((s.tim.clk + (7680 - s.tim.now % 7680)) * 25 + 31) / 32
def stcFits (s : State) (n len : Nat) : Bool :=
  decide (stcAt s n < stcBit s + 10) && decide (stcAt s n + 10 * (len + 8) + 80 ≤ stcStop s)

/-- A resting receive direction whose lanes have their signal back. -/
def subRxBack : State := (portIs 64 0 0 (subRx 5)).laneRx 64 0 true true true

/-- A scheduled rest that waits for the packet in progress. -/
def subPend : SubPort := { sub0 4 with pend := some 9 }

/-- `s` at 38,500 units with its damaged packets that have ended dropped. -/
def arrived (s : State) : State := (s.advTo 38500).endDamaged

/-- Where SPRAY_SELECT chooses for the packet `h`: after its turn, and after a cycle whose egress was granted. -/
def selW (s : State) (h : Held) : State := (arrived s).turnsTo h 64
def selZ (s : State) (h : Held) : State :=
  let v := (selW s h).present h
  match v.pick h with
  | .inr (some m) => if v.svc.granted.any (fun g => g.1 == m.2) then v.nextPclk.present h else v
  | _ => v

/-- A packet whose trailer has shown it broken waits, its end past; its end before its age. -/
def heldBroken : Held := { heldTo (.egr 16) with damaged := true, cause := 2, endAt := 38000 }
def netBroken : State := { net with rte := { net.rte with wait := [heldBroken] } }
def netBreaks : State := { net with rte := { net.rte with wait := [{ heldBroken with endAt := 38450 }] } }

/-- `s` when a packet born at 0 is as old as AGE_LIMIT allows. -/
def aged (s : State) : State := (s.advTo (s.tim.now + (s.fld aRTE_CTRL 31 16 * 8000 - s.tim.clk))).endDamaged

/-- The same in pause MODE 2. -/
def sportXoff2 : State := sportXoff.setReg (aSCH_PAUSE_CTRL 80) 0xFF06

/-- A lane at far-end loopback without a checker. -/
def laneFar : State := up.setReg (aLNE_CTRL 8) 0xC

/-- A launch 1 of stream 9's update; with no page-in; with one that has ended too late. -/
def mrunUpd1 : MxuRun := { mrun0 with stream := some (9, 1) }
def pageSt (e : Option Nat) : State := (matrix mrunUpd1).setStream 9 { streamActed with pageIn := e, upd := 10 }

/-- An update's VEC launch whose record is another pavilion's. -/
def updForeign : State := { updating 12 true with img := some { img1 with cellRec := [{ launch0 with pav := 3 }] } }

/-- The write of a prefetch stands by for its bound. -/
def pfWrite : Write := ⟨39000, 1, pfKey pf0 0, List.replicate 64 9, [3]⟩
def pfPending : State := { prefetching with writes := [pfWrite] }

/-- A write-back whose stream has begun its next update. -/
def pagingTail : State := { paging true false 0 false with pager0 := [pageMv true false (some 5)] }

/-- Two requests where the engines that serve are taken. -/
def servingBusy : State :=
  { (serving [1]) with greq0 := [], gheld := [(0, ⟨2, 8, 7, [1]⟩), (1, ⟨2, 7, 7, [1]⟩)] }

/-- A down stream that has come too late; one that has been passed on; a stage with nothing to send; a root whose send has fired; a
stage whose program runs. -/
def grpLate : Group := { grpDown with gotAt := 10 ^ 9 }
def grpDownOk : Group := { grpDown with sent := [(0, [(0, 1024)])] }
def grpNoRes : Group := { grpUpU with result := none }
def grpRootF : Group := { grpDone false with downFired := true }
def stageRuns (x : Group) : State := { staging x with cel := { (staging x).cel with runs := [{ run0 with stage := some (5, x.step) }] } }

/-- The same with a template of pavilion 3. -/
def reEmitsF : State := { reEmits with img := some { img0 with tmpl := [natBe 16 (3 * 2 ^ 108 + 2 ^ 120 + 2 ^ 119 + 5 * 2 ^ 80)] } }

/-- Capture with its staging full; into a buffer that stops; with records lost and no room. -/
def capFull : Cap := { cap0 with level := 5 * 2 ^ 20, lostRecs := 1, lostBytes := 64 }
def capFullNew : Cap := { cap0 with level := 5 * 2 ^ 20 }
def capStop1 : Cap := { cap0 with dest := 1 }

/-- A proposal that takes column 0 from pavilion 0, with the digest that `apprTokens` signs. -/
def pendCols : Proposal := ⟨1, [⟨0, 3, 0, 0xFFFFFFFFFFFFFFFE⟩], digTokens, 38400⟩

end Sys2Proof.Tests
end

