-- ==== Sys2Proof/Tests/MetBoot.lean ====
section
/-! SUPPORT. For each statement about boot, time and scheduling: states and operands that meet the hypotheses of its clauses, in their order; a
hypothesis that stands in several clauses is given once. -/

namespace Sys2Proof.Tests

-- One witness after the other: proofs that run at once would each hold a stack of the size the check gives a thread.
set_option Elab.async false

open Sys2Proof Sys2Proof.Machine

theorem met_StepRunsFront :
    (waiting [Instr.powerOn, Instr.rootPllLock]).pending = [Instr.powerOn, Instr.rootPllLock] :=
  by decide +kernel

theorem met_StepKeepsMemories :
    (waiting [Instr.powerOn]).memoriesOk ∧
    (∃ t, step (waiting [Instr.powerOn]) = Host.Outcome.next t) :=
  by and_intros <;> first | decide +kernel | rfl | exact ⟨_, rfl⟩

theorem met_OwnerFuseFinal :
    ((waiting [Instr.fuseProgDone]).fuse.owner ≠ 0 → (waiting [Instr.fuseProgDone]).boot.fpBusy = none) ∧
    step (waiting [Instr.fuseProgDone]) = Host.Outcome.next (waiting []) :=
  by and_intros <;> first | decide +kernel | rfl

theorem met_ColdResetEffect :
    (true && false) = false ∧
    (Path.fn 0 = Path.fn 0 ∨ Path.fn 0 = Path.console ∨ Path.fn 0 = Path.smbus ∨ Path.fn 0 = Path.tap) ∧
    up.mayWrite (Path.fn 0) aCFG_RESET = true ∧
    bitsOf (BitVec.toNat (resetWord 2)) 31 16 = 23130 ∧
    bitOf (BitVec.toNat (resetWord 2)) 1 = true ∧
    up.boot.rstN = true ∧
    up.boot.pwrOk = true ∧
    (!false && (tapOut up).tapDrives) = true ∧
    (tapOut up).alertLow = false :=
  by and_intros <;> decide +kernel

theorem met_BootStages :
    State.reset.boot.vsb = true ∧
    State.reset.boot.stage = 0 ∧
    (clocks true).boot.stage = 1 ∧
    (clocks true).tim.refclkOk = true ∧
    (clocks true).tim.lock = false ∧
    (clocks true).tim.lost = false ∧
    (clocks true).boot.error = 0 ∧
    (clocks false).boot.stage = 1 ∧
    (clocks false).boot.fuseDone = false ∧
    (clocks false).boot.error = 0 ∧
    up.boot.vsb = true ∧
    up.boot.vidDriven = false ∧
    linksUp.boot.stage = 1 ∧
    linksUp.boot.fuseDone = false ∧
    linksUp.boot.error = 0 ∧
    linksUp.tim.lock = true ∧
    linksUp.boot.perstN = true ∧
    linkable linksUp.hif.rate linksUp.hif.width = true ∧
    clocksBad.boot.stage = 1 ∧
    clocksBad.boot.fuseDone = false ∧
    maskCount clocksBad.fuse.mask1 = 5 :=
  by and_intros <;> decide +kernel

theorem met_ConfigurationStages :
    (atStage 2).boot.stage = 2 ∧
    (atStage 2).headerOk 0 = false ∧
    (atStage 2).headerOk 1 = false ∧
    flash1.boot.stage = 2 ∧
    flash1.candidates_ = [0] ∧
    (atStage 3).boot.stage = 3 ∧
    (atStage 3).boot.warm = false ∧
    (atStage 4).boot.stage = 4 ∧
    (atStage 4).boot.config = [] ∧
    config1.boot.stage = 4 ∧
    config1.boot.config = [(aCLK_CTRL, 1)] :=
  by and_intros <;> decide +kernel

theorem met_WarmResetEffect :
    up.boot.stage = 5 ∧
    up.log.fatal = false ∧
    ((atStage 6).boot.stage ≠ 5 ∨ (atStage 6).log.fatal = true) ∧
    (Path.console = Path.fn 0 ∨ Path.console = Path.console ∨ Path.console = Path.smbus ∨ Path.console = Path.tap) ∧
    up.mayWrite Path.console aCFG_RESET = true ∧
    bitsOf (BitVec.toNat (resetWord 1)) 31 16 = 23130 ∧
    bitOf (BitVec.toNat (resetWord 1)) 1 = false ∧
    bitOf (BitVec.toNat (resetWord 1)) 0 = true ∧
    (Path.smbus = Path.fn 0 ∨ Path.smbus = Path.console ∨ Path.smbus = Path.smbus ∨ Path.smbus = Path.tap) ∧
    (atStage 6).mayWrite Path.smbus aCFG_RESET = true ∧
    warming.boot.warm = true ∧
    up.memoriesOk ∧
    warmAgain.boot.stage ≠ 5 ∧
    (warmAgain.boot.warm = true ∧ warmAgain.log.fatal = false ∧ warmAgain.tim.lock = true ∧ warmAgain.boot.warmAt = warmAgain.tim.clk / 32) ∧
    (fatalUp.boot.stage ≠ 5 ∨ fatalUp.log.fatal = true) ∧
    ¬((atStage 6).boot.warm = true ∧ (atStage 6).log.fatal = false ∧ (atStage 6).tim.lock = true ∧ (atStage 6).boot.warmAt = (atStage 6).tim.clk / 32) ∧
    ¬(fatalUp.boot.warm = true ∧ fatalUp.log.fatal = false ∧ fatalUp.tim.lock = true ∧ fatalUp.boot.warmAt = fatalUp.tim.clk / 32) ∧
    warming.log.fatal = false ∧
    up.boot.warm = false :=
  by and_intros <;> decide +kernel

theorem met_FlashAndFuse :
    (flAddr 33554176).memoriesOk ∧
    (flAddr 33554176).mayWrite (Path.fn 0) aCFG_FL_CMD = true ∧
    (∀ (f : ℕ), Path.fn 0 = Path.fn f → f = 0) ∧
    bitOf ((65536 : Word).toNat) 16 = true ∧
    bitsOf ((65536 : Word).toNat) 21 20 = 0 ∧
    (flAddr 33554176).mayWrite Path.console aCFG_FL_CMD = true ∧
    (∀ (f : ℕ), Path.console = Path.fn f → f = 0) ∧
    bitOf ((1114112 : Word).toNat) 16 = true ∧
    bitsOf ((1114112 : Word).toNat) 21 20 = 1 ∧
    (flAddr 33488896).memoriesOk ∧
    (flAddr 33488896).mayWrite (Path.fn 0) aCFG_FL_CMD = true ∧
    bitOf ((2162688 : Word).toNat) 16 = true ∧
    bitsOf ((2162688 : Word).toNat) 21 20 = 2 ∧
    (flashing 0 33554176).memoriesOk ∧
    (flashing 0 33554176).boot.flBusy = some (0, 33554176) ∧
    33554176 + 256 ≤ 2 ^ 25 ∧
    staged.memoriesOk ∧
    staged.mayWrite (Path.fn 0) aCFG_FUSE_PROG = true ∧
    bitsOf ((1331101697 : Word).toNat) 31 16 = 20311 ∧
    bitOf ((1331101697 : Word).toNat) 0 = true ∧
    fusing.memoriesOk ∧
    fusing.boot.fpBusy = some 5 ∧
    (true && (flMgtNow 0).flNow false) = true ∧
    (flMgtNow 0).mayWrite (Path.fn 0) aCFG_FL_CMD = true ∧
    (flMgtNow 0).memoriesOk ∧
    (true && (flAddr 33554176).flNow false) = false ∧
    (flAddr 33554176).flashOk 0 33554176 = true ∧
    (flPfNow 33554176).memoriesOk ∧
    (flPfNow 33554176).mayWrite Path.console aCFG_FL_CMD = true ∧
    (false && (flPfNow 33554176).flNow false) = false ∧
    (!false && (flPfNow 33554176).flNow true) = true ∧
    (boot' (flPfNow 33554176) fun b => { b with flBusy := none }).flashOk 1 33554176 = true ∧
    (flAddr 33488896).flashOk 2 33488896 = true ∧
    (flAddr 33488897).flashOk 2 33488897 = false ∧
    (flAddr 33488897).memoriesOk ∧
    (flAddr 33488897).mayWrite (Path.fn 0) aCFG_FL_CMD = true ∧
    (true && (flAddr 33488897).flNow false) = false ∧
    (flashing 1 0x10000).memoriesOk ∧
    (flashing 1 0x10000).boot.flBusy = some (1, 0x10000) ∧
    (flashing 2 0x10000).memoriesOk ∧
    (flashing 2 0x10000).boot.flBusy = some (2, 0x10000) :=
  by and_intros <;> first | decide +kernel | simp

theorem met_PackageFaults :
    up.tim.lock = true ∧
    noLock.tim.lock = false ∧
    (17 = 17 ∨ 17 = 18) ∧
    rootLost.tim.lost = true ∧
    (3 * 65536 + 32) / 65536 < 4 ∧
    up.log.fatal = false ∧
    64 < 65 ∧
    83 < 84 :=
  by and_intros <;> decide +kernel

theorem met_SlotStart :
    noLock.tim.lock = false ∧
    up.tim.lock = true ∧
    (true = true ∨ false = true) ∧
    launched.sched.launched = true ∧
    launched.tim.lock = true ∧
    ((stcUp 15).lane (stcIdx 15)).up = true ∧
    up.cap.active = false :=
  by and_intros <;> decide +kernel

theorem met_StepAndInitialLoad :
    up.stepDue = false ∧
    stepping.stepDue = true ∧
    (up.tim.lock && up.tim.loadPend) = false ∧
    loading1.tim.lock = true ∧
    loading1.tim.loadPend = true ∧
    loading1.schedRunning = false ∧
    up.holdOver = false ∧
    holding.holdOver = true ∧
    loadingRun.tim.lock = true ∧
    loadingRun.schedRunning = true ∧
    loadingRun.tim.loadPend = true :=
  by and_intros <;> decide +kernel

theorem met_TimeExchanges :
    (stcUp 0).tim.lock = true ∧
    ((stcUp 0).lane (stcIdx 0)).up = true ∧
    startsWith kMark (recvSyms markSyms) = some ((startsWith kMark (recvSyms markSyms)).getD []) ∧
    markWord ((startsWith kMark (recvSyms markSyms)).getD []) = some phase0 ∧
    (stcUp 15).tim.lock = true ∧
    ((stcUp 15).lane (stcIdx 15)).up = true ∧
    startsWith kMark (recvSyms markBad) = some ((startsWith kMark (recvSyms markBad)).getD []) ∧
    markWord ((startsWith kMark (recvSyms markBad)).getD []) = none ∧
    (subAt up 65 0 4).tim.lock = true ∧
    (subAt up 65 0 4).hasL 1 = true ∧
    (subAt up 65 0 4).rxLive (64 + 1) 0 = true ∧
    (timeRx true).pkt.kind = 0x3D ∧
    linkCause (64 + 1) (timeRx true) = 0 ∧
    crc32c ((timeRx true).pkt.payload.take 20) = beNat (((timeRx true).pkt.payload.drop 20).take 4) ∧
    (subAt up 64 0 7).rxLive (64 + 0) 0 = true ∧
    (subAt up 64 0 7).hasL 0 = true ∧
    (timeRx false).pkt.kind = 0x3D ∧
    linkCause (64 + 0) (timeRx false) = 0 ∧
    crc32c ((timeRx false).pkt.payload.take 20) ≠ beNat (((timeRx false).pkt.payload.drop 20).take 4) ∧
    linkCause (64 + 0) { timeRx true with trailer := (timeRx true).trailer + 1 } ≠ 0 ∧
    (subAt up 64 0 4).tim.lock = true ∧
    (subAt up 64 0 4).hasL 0 = true ∧
    ((subAt up 64 0 4).sub (64 + 0) 0).state = 4 ∧
    fourBad 0 (recvSyms markSyms) = false ∧
    fourBad 0 (recvSyms markBad) = false :=
  by and_intros <;> decide +kernel

theorem met_PpsAndFreqPins :
    ppsSoon.tim.lock = true ∧
    ppsSoon.tim.ppsLast = some 38400 ∧
    ppsSoon.tim.clk + (ppsSoon.ppsEdge (ppsSoon.ppsDue ppsSoon.tim.ppsNext) - ppsSoon.tim.now) < 38400 + 8000000000 ∧
    up.tim.lock = true ∧
    (∀ (c : ℕ), up.tim.ppsLast = some c → c + 8000000000 ≤ up.tim.clk + (up.ppsEdge (up.ppsDue up.tim.ppsNext) - up.tim.now)) ∧
    ppsHigh.tim.ppsOut = true ∧
    ppsHigh.tim.lock = true ∧
    ppsIn.tim.lock = true ∧
    ppsIn.bit aTIM_PPS 0 = true ∧
    ppsIn.tim.now ≤ 38400 ∧
    ppsIn.ppsInWindow 38400 = true ∧
    ppsLocked.tim.lock = true ∧
    ppsLocked.bit aTIM_PPS 0 = true ∧
    ppsLocked.tim.now ≤ 38400 ∧
    ppsLocked.ppsInWindow 38400 = false ∧
    ppsLocked.tim.state = 2 ∧
    ppsLocked.tim.sel = 32 ∧
    ppsMiss2.tim.lock = true ∧
    ppsMiss2.bit aTIM_PPS 0 = true ∧
    -100000 ≤ -100000 ∧
    -100000 ≤ 100000 ∧
    49 < 50 ∧
    50 ≤ 50 ∧
    ppsLate.tim.lock = true ∧
    ppsLate.bit aTIM_PPS 0 = true ∧
    ppsLate.tim.now ≤ 38400 ∧
    ppsLate.ppsInWindow 38400 = false ∧
    ¬(ppsLate.tim.state = 2 ∧ ppsLate.tim.sel = 32) ∧
    (ppsMiss2.src 32).missed = 2 ∧
    (ppsMiss2.src 32).heard = true :=
  by and_intros <;> decide +kernel

theorem met_ActionQueues :
    (1, Instr.cellLaunch) ∈ [(1, Instr.cellLaunch), (2, Instr.mxuLaunch), (3, Instr.streamSend), (4, Instr.streamDecode), (5, Instr.streamUpdate), (6, Instr.prefetch), (8, Instr.colStart), (9, Instr.colLaunch), (10, Instr.colUp), (11, Instr.colDown), (16, Instr.portRest)] ∧
    up.queue 0 = [] ∧
    (2, Instr.mxuLaunch) ∈ [(1, Instr.cellLaunch), (2, Instr.mxuLaunch), (3, Instr.streamSend), (4, Instr.streamDecode), (5, Instr.streamUpdate), (6, Instr.prefetch), (8, Instr.colStart), (9, Instr.colLaunch), (10, Instr.colUp), (11, Instr.colDown), (16, Instr.portRest)] ∧
    (acting 0 (act 1 0 true)).queue 0 = [act 1 0 true] ∧
    ((act 1 0 true).act.kind ≠ 2 ∨ (acting 0 (act 1 0 true)).sched.desync = true ∨ (acting 0 (act 1 0 true)).running = false) ∧
    (16, Instr.portRest) ∈ [(1, Instr.cellLaunch), (2, Instr.mxuLaunch), (3, Instr.streamSend), (4, Instr.streamDecode), (5, Instr.streamUpdate), (6, Instr.prefetch), (8, Instr.colStart), (9, Instr.colLaunch), (10, Instr.colUp), (11, Instr.colDown), (16, Instr.portRest)] ∧
    (acting 1 (early (act 16 262152 true))).queue 1 = [early (act 16 262152 true)] ∧
    (early (act 16 262152 true)).act.kind = 16 ∧
    (acting 1 (early (act 16 262152 true))).sched.desync = false ∧
    (acting 1 (early (act 16 262152 true))).running = true ∧
    ((early (act 16 262152 true)).late = true ∨ (acting 1 (early (act 16 262152 true))).firstFires 1 (early (act 16 262152 true)) = true) ∧
    (acting 1 (early (act 16 262152 true))).inSchedule (early (act 16 262152 true)).slot = false ∧
    (6, Instr.prefetch) ∈ [(6, Instr.prefetch), (16, Instr.portRest)] ∧
    (acting 0 (late (act 6 0 true))).queue 0 = [late (act 6 0 true)] ∧
    (late (act 6 0 true)).act.kind = 6 ∧
    (acting 0 (late (act 6 0 true))).sched.desync = false ∧
    (acting 0 (late (act 6 0 true))).running = true ∧
    (acting 0 (late (act 6 0 true))).inSchedule (late (act 6 0 true)).slot = true ∧
    (late (act 6 0 true)).late = true ∧
    (16, Instr.portRest) ∈ [(6, Instr.prefetch), (16, Instr.portRest)] ∧
    (withheldSt (acting 1 (act 16 262152 true))).queue 1 = [act 16 262152 true] ∧
    (act 16 262152 true).act.kind = 16 ∧
    (withheldSt (acting 1 (act 16 262152 true))).sched.desync = false ∧
    (withheldSt (acting 1 (act 16 262152 true))).running = true ∧
    (withheldSt (acting 1 (act 16 262152 true))).inSchedule (act 16 262152 true).slot = true ∧
    (act 16 262152 true).late = false ∧
    (withheldSt (acting 1 (act 16 262152 true))).firstFires 1 (act 16 262152 true) = true ∧
    ((act 16 262152 true).act.xs && (withheldSt (acting 1 (act 16 262152 true))).withheld) = true ∧
    (refill 63).sched.launched = true ∧
    (refill 63).sched.desync = false ∧
    (refill 63).running = true ∧
    ((refill 63).queue 0).length < 64 ∧
    (refill 63).nextAct 0 = some { act := { rel := 2, offset := 0, xs := true, pav := 0, kind := 1, arg := 0 }, slot := 6, iter := 0, late := false } ∧
    (64 ≤ ((refill 64).queue 0).length ∨ (refill 64).sched.launched = false ∨ (refill 64).nextAct 0 = none) ∧
    skippedSt.queue 1 = [(act 16 262152 true)] ∧
    skippedSt.sched.desync = false ∧
    skippedSt.running = true ∧
    skippedSt.inSchedule (act 16 262152 true).slot = true ∧
    skippedSt.firstFires 1 (act 16 262152 true) = true ∧
    skippedSt.skipped (act 16 262152 true).slot = true ∧
    (acting 0 (late (act 6 0 true))).skipped (late (act 6 0 true)).slot = false ∧
    (withheldSt (acting 1 (act 16 262152 true))).skipped (act 16 262152 true).slot = false :=
  by and_intros <;> first | decide +kernel | simp

theorem met_LaunchActions :
    (acting 0 (act 1 0 true)).img = some img1 ∧
    Fires (acting 0 (act 1 0 true)) 0 1 (act 1 0 true) [] ∧
    ((acting 0 (act 1 0 true)).fired 0 (act 1 0 true)).launchBad (imgRec img1 (bitsOf (act 1 0 true).act.arg 15 0)) true = none ∧
    gates (imgRec img1 (bitsOf (act 1 0 true).act.arg 15 0)) = [] ∧
    (acting 0 (act 2 0 true)).img = some img1 ∧
    Fires (acting 0 (act 2 0 true)) 0 2 (act 2 0 true) [] ∧
    ((acting 0 (act 2 0 true)).fired 0 (act 2 0 true)).mxuCheck (imgDesc img1 (bitsOf (act 2 0 true).act.arg 13 0)) ((acting 0 (act 2 0 true)).fireCycle 0 (act 2 0 true)) = 0 ∧
    dGsrc (imgDesc img1 (bitsOf (act 2 0 true).act.arg 13 0)) ≠ 4 ∧
    (acting 0 (act 2 1 true)).img = some img1 ∧
    Fires (acting 0 (act 2 1 true)) 0 2 (act 2 1 true) [] ∧
    ((acting 0 (act 2 1 true)).fired 0 (act 2 1 true)).mxuCheck (imgDesc img1 (bitsOf (act 2 1 true).act.arg 13 0)) ((acting 0 (act 2 1 true)).fireCycle 0 (act 2 1 true)) ≠ 0 ∧
    (fetching 0 (act 6 0 false)).img = some img1 ∧
    Fires (fetching 0 (act 6 0 false)) 0 6 (act 6 0 false) [] ∧
    (((fetching 0 (act 6 0 false)).fired 0 (act 6 0 false)).pfTo 0 (((fetching 0 (act 6 0 false)).fired 0 (act 6 0 false)).tim.now / 6)).pfOk (imgPf img1 (bitsOf (act 6 0 false).act.arg 15 0)) (act 6 0 false).act.pav 0 = true ∧
    ((((fetching 0 (act 6 0 false)).fired 0 (act 6 0 false)).pfTo 0 (((fetching 0 (act 6 0 false)).fired 0 (act 6 0 false)).tim.now / 6)).pf 0).length < 16 ∧
    fetchFull.img = some img1 ∧
    Fires fetchFull 0 6 (act 6 0 false) [] ∧
    ((fetchFull.fired 0 (act 6 0 false)).pfTo 0 ((fetchFull.fired 0 (act 6 0 false)).tim.now / 6)).pfOk (imgPf img1 (bitsOf (act 6 0 false).act.arg 15 0)) (act 6 0 false).act.pav 0 = true ∧
    16 ≤ (((fetchFull.fired 0 (act 6 0 false)).pfTo 0 ((fetchFull.fired 0 (act 6 0 false)).tim.now / 6)).pf 0).length ∧
    (acting 0 (act 6 0 false)).img = some img1 ∧
    Fires (acting 0 (act 6 0 false)) 0 6 (act 6 0 false) [] ∧
    (((acting 0 (act 6 0 false)).fired 0 (act 6 0 false)).pfTo 0 (((acting 0 (act 6 0 false)).fired 0 (act 6 0 false)).tim.now / 6)).pfOk (imgPf img1 (bitsOf (act 6 0 false).act.arg 15 0)) (act 6 0 false).act.pav 0 = false ∧
    (subAt (acting 0 (act 16 262152 true)) 1 0 4).img = some img1 ∧
    Fires (subAt (acting 0 (act 16 262152 true)) 1 0 4) 0 16 (act 16 262152 true) [] ∧
    ((subAt (acting 0 (act 16 262152 true)) 1 0 4).sub (bitsOf (act 16 262152 true).act.arg 9 0 / 8) (bitsOf (act 16 262152 true).act.arg 9 0 % 8)).state = 4 ∧
    ((subAt (acting 0 (act 16 262152 true)) 1 0 4).fired 0 (act 16 262152 true)).egrOk 8 = true ∧
    (8 : Nat) = bitsOf (act 16 262152 true).act.arg 9 0 ∧
    ((subAt (acting 0 (act 16 262152 true)) 1 0 4).egr 8).sending = none ∧
    restBusy.img = some img1 ∧
    Fires restBusy 0 16 (act 16 262152 true) [] ∧
    (restBusy.fired 0 (act 16 262152 true)).egrOk 8 = true ∧
    (restBusy.sub 1 0).state = 4 ∧
    (restBusy.egr 8).sending ≠ none ∧
    restS.img = some img1 ∧
    Fires restS 0 16 (act 16 (2 ^ 18 + 640) true) [] ∧
    (restS.fired 0 (act 16 (2 ^ 18 + 640) true)).egrOk 640 = false ∧
    Fires launchOff 0 1 (act 1 0 true) [] ∧
    gates { launch0 with entry := 1024 } = [] ∧
    ((launchOff.fired 0 (act 1 0 true)).launchBad { launch0 with entry := 1024 } true).isSome = true ∧
    ∀ j ∈ (fetching 0 (act 6 0 false)).pf 0, ((fetching 0 (act 6 0 false)).fired 0 (act 6 0 false)).tim.now / 6 < j.bound ∧
    ∀ j ∈ fetchFull.pf 0, (fetchFull.fired 0 (act 6 0 false)).tim.now / 6 < j.bound ∧
    ∀ j ∈ (acting 0 (act 6 0 false)).pf 0, ((acting 0 (act 6 0 false)).fired 0 (act 6 0 false)).tim.now / 6 < j.bound :=
  by and_intros <;> first | decide +kernel | (constructor <;> decide +kernel)

theorem met_StreamActions_1 :
    ((streaming (act 3 9 true) (stream0 1 2)).stream (bitsOf (act 3 9 true).act.arg 15 0)).state ≠ 0 ∧
    ((streaming (act 3 9 true) (stream0 1 2)).stream (bitsOf (act 3 9 true).act.arg 15 0)).state ≠ 3 ∧
    ((streaming (act 3 9 true) (stream0 1 2)).stream (bitsOf (act 3 9 true).act.arg 15 0)).pav = (act 3 9 true).act.pav ∧
    (streaming (act 3 9 true) (stream0 1 2)).strPending (bitsOf (act 3 9 true).act.arg 15 0) = false ∧
    Fires (streaming (act 3 9 true) (stream0 1 2)) 0 3 (act 3 9 true) [] ∧
    ((streaming (act 3 9 true) (stream0 1 2)).stream (bitsOf (act 3 9 true).act.arg 15 0)).role = 1 ∧
    ((streaming (act 3 9 true) (stream0 1 2)).fired 0 (act 3 9 true)).pager ((streaming (act 3 9 true) (stream0 1 2)).stream (bitsOf (act 3 9 true).act.arg 15 0)).die = [] ∧
    ((streaming (act 3 9 true) (stream0 1 2)).fired 0 (act 3 9 true)).codecBad ((streaming (act 3 9 true) (stream0 1 2)).stream (bitsOf (act 3 9 true).act.arg 15 0)) (decide (((streaming (act 3 9 true) (stream0 1 2)).stream (bitsOf (act 3 9 true).act.arg 15 0)).state = 2) && ((streaming (act 3 9 true) (stream0 1 2)).stream (bitsOf (act 3 9 true).act.arg 15 0)).reqAt != some ((streaming (act 3 9 true) (stream0 1 2)).fireCycle 0 (act 3 9 true))) = false ∧
    ((streaming (act 4 9 true) (stream0 2 4)).stream (bitsOf (act 4 9 true).act.arg 15 0)).state ≠ 0 ∧
    ((streaming (act 4 9 true) (stream0 2 4)).stream (bitsOf (act 4 9 true).act.arg 15 0)).state ≠ 3 ∧
    ((streaming (act 4 9 true) (stream0 2 4)).stream (bitsOf (act 4 9 true).act.arg 15 0)).pav = (act 4 9 true).act.pav ∧
    (streaming (act 4 9 true) (stream0 2 4)).strPending (bitsOf (act 4 9 true).act.arg 15 0) = false ∧
    Fires (streaming (act 4 9 true) (stream0 2 4)) 0 4 (act 4 9 true) [] ∧
    ((streaming (act 4 9 true) (stream0 2 4)).stream (bitsOf (act 4 9 true).act.arg 15 0)).role = 2 ∧
    ((streaming (act 4 9 true) (stream0 2 4)).fired 0 (act 4 9 true)).pager ((streaming (act 4 9 true) (stream0 2 4)).stream (bitsOf (act 4 9 true).act.arg 15 0)).die = [] ∧
    ((streaming (act 4 9 true) (stream0 2 4)).stream (bitsOf (act 4 9 true).act.arg 15 0)).rbit = false ∧
    ((streaming (act 4 9 true) (stream0 2 4)).stream (bitsOf (act 4 9 true).act.arg 15 0)).state ≠ 1 ∧
    ((streaming (act 4 9 true) streamGot).stream (bitsOf (act 4 9 true).act.arg 15 0)).state ≠ 0 ∧
    ((streaming (act 4 9 true) streamGot).stream (bitsOf (act 4 9 true).act.arg 15 0)).state ≠ 3 ∧
    ((streaming (act 4 9 true) streamGot).stream (bitsOf (act 4 9 true).act.arg 15 0)).pav = (act 4 9 true).act.pav ∧
    (streaming (act 4 9 true) streamGot).strPending (bitsOf (act 4 9 true).act.arg 15 0) = false ∧
    Fires (streaming (act 4 9 true) streamGot) 0 4 (act 4 9 true) [] ∧
    ((streaming (act 4 9 true) streamGot).stream (bitsOf (act 4 9 true).act.arg 15 0)).role = 2 ∧
    ((streaming (act 4 9 true) streamGot).fired 0 (act 4 9 true)).pager ((streaming (act 4 9 true) streamGot).stream (bitsOf (act 4 9 true).act.arg 15 0)).die = [] ∧
    ((streaming (act 4 9 true) streamGot).fired 0 (act 4 9 true)).codecBad ((streaming (act 4 9 true) streamGot).stream (bitsOf (act 4 9 true).act.arg 15 0)) false = false ∧
    ((streaming (act 4 9 true) streamGot).stream (bitsOf (act 4 9 true).act.arg 15 0)).state = 1 ∧
    ((streaming (act 4 9 true) streamGot).stream (bitsOf (act 4 9 true).act.arg 15 0)).rbit = false ∧
    ((streaming (act 4 9 true) streamGot).stream (bitsOf (act 4 9 true).act.arg 15 0)).check = 0 ∧
    ((streaming (act 4 9 true) streamGot).stream (bitsOf (act 4 9 true).act.arg 15 0)).lack ((streaming (act 4 9 true) streamGot).fireCycle 0 (act 4 9 true)) = [] ∧
    ((streaming (act 4 9 true) streamGot).stream (bitsOf (act 4 9 true).act.arg 15 0)).reEmit = false ∧
    ((streaming (act 5 9 true) (stream0 1 1)).stream (bitsOf (act 5 9 true).act.arg 15 0)).state ≠ 0 ∧
    ((streaming (act 5 9 true) (stream0 1 1)).stream (bitsOf (act 5 9 true).act.arg 15 0)).state ≠ 3 ∧
    ((streaming (act 5 9 true) (stream0 1 1)).stream (bitsOf (act 5 9 true).act.arg 15 0)).pav = (act 5 9 true).act.pav ∧
    (streaming (act 5 9 true) (stream0 1 1)).strPending (bitsOf (act 5 9 true).act.arg 15 0) = false ∧
    Fires (streaming (act 5 9 true) (stream0 1 1)) 0 5 (act 5 9 true) [] ∧
    (((streaming (act 5 9 true) (stream0 1 1)).stream (bitsOf (act 5 9 true).act.arg 15 0)).acted = false ∨ ((streaming (act 5 9 true) (stream0 1 1)).stream (bitsOf (act 5 9 true).act.arg 15 0)).noUpd = true) ∧
    ((streaming (act 4 9 true) (stream0 2 4)).fired 0 (act 4 9 true)).lUp ((streaming (act 4 9 true) (stream0 2 4)).stream (bitsOf (act 4 9 true).act.arg 15 0)).lport = false ∧ ((streaming (act 4 9 true) (stream0 2 4)).stream (bitsOf (act 4 9 true).act.arg 15 0)).lack ((streaming (act 4 9 true) (stream0 2 4)).fireCycle 0 (act 4 9 true)) ≠ [] :=
  by and_intros <;> first | decide +kernel | (constructor <;> decide +kernel)

theorem met_StreamActions_2 :
    ((streaming (act 5 9 true) streamActed).stream (bitsOf (act 5 9 true).act.arg 15 0)).state ≠ 0 ∧
    ((streaming (act 5 9 true) streamActed).stream (bitsOf (act 5 9 true).act.arg 15 0)).state ≠ 3 ∧
    ((streaming (act 5 9 true) streamActed).stream (bitsOf (act 5 9 true).act.arg 15 0)).pav = (act 5 9 true).act.pav ∧
    (streaming (act 5 9 true) streamActed).strPending (bitsOf (act 5 9 true).act.arg 15 0) = false ∧
    Fires (streaming (act 5 9 true) streamActed) 0 5 (act 5 9 true) [] ∧
    ((streaming (act 5 9 true) streamActed).stream (bitsOf (act 5 9 true).act.arg 15 0)).acted = true ∧
    ((streaming (act 5 9 true) streamActed).stream (bitsOf (act 5 9 true).act.arg 15 0)).noUpd = false ∧
    ((streaming (act 5 9 true) streamActed).fired 0 (act 5 9 true)).unitBusy ((streaming (act 5 9 true) streamActed).stream (bitsOf (act 5 9 true).act.arg 15 0)).unit = false ∧
    ((streaming (act 5 9 true) streamActed).fired 0 (act 5 9 true)).tokensOk ((streaming (act 5 9 true) streamActed).stream (bitsOf (act 5 9 true).act.arg 15 0)).pav 1 ((streaming (act 5 9 true) streamActed).fireCycle 0 (act 5 9 true)) = true ∧
    ((streaming (act 5 9 true) streamActed).stream (bitsOf (act 5 9 true).act.arg 15 0)).pageIn = some 0 ∧
    0 ≤ mclkFrom ((streaming (act 5 9 true) streamActed).fireCycle 0 (act 5 9 true)) + 8 ∧
    ((streaming (act 5 9 true) streamActed).fired 0 (act 5 9 true)).updCheck { streamActed with wset := bitsOf (act 5 9 true).act.arg 33 16 } 1 = 0 ∧
    ((streaming (act 5 9 true) streamActed).stream (bitsOf (act 5 9 true).act.arg 15 0)).upd ≠ 13 :=
  by and_intros <;> first | decide +kernel | (constructor <;> decide +kernel)

theorem met_CollectiveActions_1 :
    (grouping (act 8 5 true) grpPav1).grp (bitsOf (act 8 5 true).act.arg 11 0) = some grpPav1 ∧
    grpPav1.unsched = false ∧
    grpPav1.pav ≠ (act 8 5 true).act.pav ∧
    (8, Instr.colStart) ∈ [(8, Instr.colStart), (9, Instr.colLaunch), (10, Instr.colUp), (11, Instr.colDown)] ∧
    Fires (grouping (act 8 5 true) grpPav1) 0 8 (act 8 5 true) [] ∧
    (grouping (act 8 5 true) grp0).grp (bitsOf (act 8 5 true).act.arg 11 0) = some grp0 ∧
    grp0.unsched = false ∧
    grp0.pav = (act 8 5 true).act.pav ∧
    Fires (grouping (act 8 5 true) grp0) 0 8 (act 8 5 true) [] ∧
    grp0.live = false ∧
    grp0.early = 0 ∧
    grp0.nxtFail = none ∧
    (grouping (act 8 5 true) grpEarly).grp (bitsOf (act 8 5 true).act.arg 11 0) = some grpEarly ∧
    grpEarly.unsched = false ∧
    grpEarly.pav = (act 8 5 true).act.pav ∧
    Fires (grouping (act 8 5 true) grpEarly) 0 8 (act 8 5 true) [] ∧
    grpEarly.live = false ∧
    0 < grpEarly.early ∧
    (grouping (act 9 5 true) grpFull).grp (bitsOf (act 9 5 true).act.arg 11 0) = some grpFull ∧
    grpFull.unsched = false ∧
    grpFull.pav = (act 9 5 true).act.pav ∧
    Fires (grouping (act 9 5 true) grpFull) 0 9 (act 9 5 true) [] ∧
    grpFull.live = true ∧
    grpFull.state = 1 ∧
    grpFull.short ((grouping (act 9 5 true) grpFull).fired 0 (act 9 5 true)).tim.now = [] ∧
    (grouping (act 9 5 true) grpShort).grp (bitsOf (act 9 5 true).act.arg 11 0) = some grpShort ∧
    grpShort.unsched = false ∧
    grpShort.pav = (act 9 5 true).act.pav ∧
    Fires (grouping (act 9 5 true) grpShort) 0 9 (act 9 5 true) [] ∧
    grpShort.live = true ∧
    grpShort.state = 1 ∧
    grpShort.short ((grouping (act 9 5 true) grpShort).fired 0 (act 9 5 true)).tim.now ≠ [] ∧
    grpShort.nxt = [] ∧
    (grouping (act 10 5 true) (grpDone true)).grp (bitsOf (act 10 5 true).act.arg 11 0) = some (grpDone true) ∧
    (grpDone true).unsched = false ∧
    (grpDone true).pav = (act 10 5 true).act.pav ∧
    grp0.nextMiss = [] ∧
    grpShort.nextStart = none ∧
    grpShort.nxtFail = none ∧
    grpShort.nextMiss = [] ∧
    (grouping (act 8 5 true) grpShort).grp (bitsOf (act 8 5 true).act.arg 11 0) = some grpShort ∧
    Fires (grouping (act 8 5 true) grpShort) 0 8 (act 8 5 true) [] ∧
    grpFull.unsent 9 = none ∧
    grpShort.unsent 9 = none ∧
    (((grouping (act 9 5 true) grpFull).fired 0 (act 9 5 true)).startStage 5 grpFull (act 9 5 true).iter ((grouping (act 9 5 true) grpFull).fireCycle 0 (act 9 5 true))).1 = true ∧
    bitsOf (act 9 5 true).act.arg 11 0 = 5 ∧
    (grouping (act 9 5 true) grpFailedL).grp (bitsOf (act 9 5 true).act.arg 11 0) = some grpFailedL ∧
    Fires (grouping (act 9 5 true) grpFailedL) 0 9 (act 9 5 true) [] ∧
    grpFailedL.unsent 9 = some failedL :=
  by and_intros <;> first | decide +kernel | (constructor <;> decide +kernel) | simp

theorem met_CollectiveActions_2 :
    Fires (grouping (act 10 5 true) (grpDone true)) 0 10 (act 10 5 true) [] ∧
    (grpDone true).live = true ∧
    (grpDone true).state = 2 ∧
    (grpDone true).result = some (List.replicate 64 63) ∧
    (grpDone true).parent ≠ none ∧
    (grouping (act 11 5 true) (grpDone false)).grp (bitsOf (act 11 5 true).act.arg 11 0) = some (grpDone false) ∧
    (grpDone false).unsched = false ∧
    (grpDone false).pav = (act 11 5 true).act.pav ∧
    Fires (grouping (act 11 5 true) (grpDone false)) 0 11 (act 11 5 true) [] ∧
    (grpDone false).live = true ∧
    (grpDone false).state = 2 ∧
    (grpDone false).result = some (List.replicate 64 63) ∧
    (grpDone false).parent = none ∧
    (grpDone true).unsent 0xA = none ∧
    (grpDone false).unsent 0xB = none ∧
    grpFailed.unsent 0xA = some failed0 ∧
    grpFailed.unsent 0xB = some failed0 ∧
    grpFailed.pav = (act 10 5 true).act.pav ∧
    grpFailed.unsched = false ∧
    (grouping (act 10 5 true) grpFailed).grp (bitsOf (act 10 5 true).act.arg 11 0) = some grpFailed ∧
    Fires (grouping (act 10 5 true) grpFailed) 0 10 (act 10 5 true) [] ∧
    (grouping (act 11 5 true) grpFailed).grp (bitsOf (act 11 5 true).act.arg 11 0) = some grpFailed ∧
    Fires (grouping (act 11 5 true) grpFailed) 0 11 (act 11 5 true) [] ∧
    ((grouping (act 11 5 true) (grpDone false)).fired 0 (act 11 5 true)).stageBusy 5 (grpDone false) = false :=
  by and_intros <;> first | decide +kernel | (constructor <;> decide +kernel)

end Sys2Proof.Tests
end

