-- ==== Sys2Proof/Tests/MetCells.lean ====
section
/-! SUPPORT. For each statement about the cells: states and operands that meet the hypotheses of its clauses, in their order; a
hypothesis that stands in several clauses is given once. -/

namespace Sys2Proof.Tests

-- One witness after the other: proofs that run at once would each hold a stack of the size the check gives a thread.
set_option Elab.async false

open Sys2Proof Sys2Proof.Machine

theorem met_ScalarResults_1 :
    sxWritable (insOf (insW 0 10 0 0 0 0 0)).dst ∧
    Issues (cellDo (insW 0 10 0 0 0 0 0)) 0 (insOf (insW 0 10 0 0 0 0 0)) run0 [] (issueC (insW 0 10 0 0 0 0 0) []) ∧
    (insOf (insW 0 10 0 0 0 0 0)).op = 0 ∧
    sxWritable (insOf (insW 9 4 0 0 0 0 4294967295)).dst ∧
    Issues (cellDo (insW 9 4 0 0 0 0 4294967295)) 0 (insOf (insW 9 4 0 0 0 0 4294967295)) run0 [] (issueC (insW 9 4 0 0 0 0 4294967295) []) ∧
    (insOf (insW 9 4 0 0 0 0 4294967295)).op = 9 ∧
    sxWritable (insOf (insW 10 23 4 0 0 0 2147483649)).dst ∧
    Issues (cellDo (insW 10 23 4 0 0 0 2147483649)) 0 (insOf (insW 10 23 4 0 0 0 2147483649)) run0 [sxR (insOf (insW 10 23 4 0 0 0 2147483649)).a] (issueC (insW 10 23 4 0 0 0 2147483649) [sxR 4]) ∧
    (insOf (insW 10 23 4 0 0 0 2147483649)).op = 10 ∧
    sxWritable (insOf (insW 1 23 4 5 0 0 0)).dst ∧
    Issues (cellDo (insW 1 23 4 5 0 0 0)) 0 (insOf (insW 1 23 4 5 0 0 0)) run0 [sxR (insOf (insW 1 23 4 5 0 0 0)).a, sxR (insOf (insW 1 23 4 5 0 0 0)).b] (issueC (insW 1 23 4 5 0 0 0) [sxR 4, sxR 5]) ∧
    (insOf (insW 1 23 4 5 0 0 0)).op = 1 ∧
    sxWritable (insOf (insW 2 23 4 5 0 0 0)).dst ∧
    Issues (cellDo (insW 2 23 4 5 0 0 0)) 0 (insOf (insW 2 23 4 5 0 0 0)) run0 [sxR (insOf (insW 2 23 4 5 0 0 0)).a, sxR (insOf (insW 2 23 4 5 0 0 0)).b] (issueC (insW 2 23 4 5 0 0 0) [sxR 4, sxR 5]) ∧
    (insOf (insW 2 23 4 5 0 0 0)).op = 2 ∧
    sxWritable (insOf (insW 3 23 4 5 0 0 0)).dst ∧
    Issues (cellDo (insW 3 23 4 5 0 0 0)) 0 (insOf (insW 3 23 4 5 0 0 0)) run0 [sxR (insOf (insW 3 23 4 5 0 0 0)).a, sxR (insOf (insW 3 23 4 5 0 0 0)).b] (issueC (insW 3 23 4 5 0 0 0) [sxR 4, sxR 5]) ∧
    (insOf (insW 3 23 4 5 0 0 0)).op = 3 ∧
    sxWritable (insOf (insW 4 23 4 5 0 0 0)).dst ∧
    Issues (cellDo (insW 4 23 4 5 0 0 0)) 0 (insOf (insW 4 23 4 5 0 0 0)) run0 [sxR (insOf (insW 4 23 4 5 0 0 0)).a, sxR (insOf (insW 4 23 4 5 0 0 0)).b] (issueC (insW 4 23 4 5 0 0 0) [sxR 4, sxR 5]) ∧
    (insOf (insW 4 23 4 5 0 0 0)).op = 4 ∧
    sxWritable (insOf (insW 5 23 4 5 0 0 0)).dst ∧
    Issues (cellDo (insW 5 23 4 5 0 0 0)) 0 (insOf (insW 5 23 4 5 0 0 0)) run0 [sxR (insOf (insW 5 23 4 5 0 0 0)).a, sxR (insOf (insW 5 23 4 5 0 0 0)).b] (issueC (insW 5 23 4 5 0 0 0) [sxR 4, sxR 5]) ∧
    (insOf (insW 5 23 4 5 0 0 0)).op = 5 ∧
    sxWritable (insOf (insW 6 23 4 5 0 0 0)).dst ∧
    Issues (cellDo (insW 6 23 4 5 0 0 0)) 0 (insOf (insW 6 23 4 5 0 0 0)) run0 [sxR (insOf (insW 6 23 4 5 0 0 0)).a, sxR (insOf (insW 6 23 4 5 0 0 0)).b] (issueC (insW 6 23 4 5 0 0 0) [sxR 4, sxR 5]) ∧
    (insOf (insW 6 23 4 5 0 0 0)).op = 6 ∧
    Issues (cellDo (insW 9 0 0 0 0 0 5)) 0 (insOf (insW 9 0 0 0 0 0 5)) run0 [] (issueC (insW 9 0 0 0 0 0 5) []) ∧
    (insOf (insW 9 0 0 0 0 0 5)).op = 9 ∧
    (insOf (insW 9 0 0 0 0 0 5)).dst = 0 ∧
    Issues (cellDo (insW 10 0 4 0 0 0 5)) 0 (insOf (insW 10 0 4 0 0 0 5)) run0 [sxR (insOf (insW 10 0 4 0 0 0 5)).a] (issueC (insW 10 0 4 0 0 0 5) [sxR 4]) ∧
    (insOf (insW 10 0 4 0 0 0 5)).op = 10 ∧
    (insOf (insW 10 0 4 0 0 0 5)).dst = 0 ∧
    Issues (cellDo (insW 16 0 6 0 0 0 0)) 0 (insOf (insW 16 0 6 0 0 0 0)) run0 [sxR (insOf (insW 16 0 6 0 0 0 0)).a] (issueC (insW 16 0 6 0 0 0 0) [sxR 6]) ∧
    (insOf (insW 16 0 6 0 0 0 0)).op = 16 ∧
    ((cellDo (insW 16 0 6 0 0 0 0)).fetched 0 (issueC (insW 16 0 6 0 0 0 0) [sxR 6])).sramFault 0 (((cellDo (insW 16 0 6 0 0 0 0)).cell 0).addr (insOf (insW 16 0 6 0 0 0 0))) 4 true = none :=
  by and_intros <;> first | decide +kernel | (constructor <;> decide +kernel)

theorem met_ScalarResults_2 :
    (insOf (insW 16 0 6 0 0 0 0)).dst = 0 ∧
    Issues (cellDo (insW 1 0 4 5 0 0 0)) 0 (insOf (insW 1 0 4 5 0 0 0)) run0 [sxR (insOf (insW 1 0 4 5 0 0 0)).a, sxR (insOf (insW 1 0 4 5 0 0 0)).b] (issueC (insW 1 0 4 5 0 0 0) [sxR 4, sxR 5]) ∧
    (insOf (insW 1 0 4 5 0 0 0)).op = 1 ∧
    (insOf (insW 1 0 4 5 0 0 0)).dst = 0 ∧
    Issues (cellDo (insW 2 0 4 5 0 0 0)) 0 (insOf (insW 2 0 4 5 0 0 0)) run0 [sxR (insOf (insW 2 0 4 5 0 0 0)).a, sxR (insOf (insW 2 0 4 5 0 0 0)).b] (issueC (insW 2 0 4 5 0 0 0) [sxR 4, sxR 5]) ∧
    (insOf (insW 2 0 4 5 0 0 0)).op = 2 ∧
    (insOf (insW 2 0 4 5 0 0 0)).dst = 0 ∧
    Issues (cellDo (insW 3 0 4 5 0 0 0)) 0 (insOf (insW 3 0 4 5 0 0 0)) run0 [sxR (insOf (insW 3 0 4 5 0 0 0)).a, sxR (insOf (insW 3 0 4 5 0 0 0)).b] (issueC (insW 3 0 4 5 0 0 0) [sxR 4, sxR 5]) ∧
    (insOf (insW 3 0 4 5 0 0 0)).op = 3 ∧
    (insOf (insW 3 0 4 5 0 0 0)).dst = 0 ∧
    Issues (cellDo (insW 4 0 4 5 0 0 0)) 0 (insOf (insW 4 0 4 5 0 0 0)) run0 [sxR (insOf (insW 4 0 4 5 0 0 0)).a, sxR (insOf (insW 4 0 4 5 0 0 0)).b] (issueC (insW 4 0 4 5 0 0 0) [sxR 4, sxR 5]) ∧
    (insOf (insW 4 0 4 5 0 0 0)).op = 4 ∧
    (insOf (insW 4 0 4 5 0 0 0)).dst = 0 ∧
    Issues (cellDo (insW 5 0 4 5 0 0 0)) 0 (insOf (insW 5 0 4 5 0 0 0)) run0 [sxR (insOf (insW 5 0 4 5 0 0 0)).a, sxR (insOf (insW 5 0 4 5 0 0 0)).b] (issueC (insW 5 0 4 5 0 0 0) [sxR 4, sxR 5]) ∧
    (insOf (insW 5 0 4 5 0 0 0)).op = 5 ∧
    (insOf (insW 5 0 4 5 0 0 0)).dst = 0 ∧
    Issues (cellDo (insW 6 0 4 5 0 0 0)) 0 (insOf (insW 6 0 4 5 0 0 0)) run0 [sxR (insOf (insW 6 0 4 5 0 0 0)).a, sxR (insOf (insW 6 0 4 5 0 0 0)).b] (issueC (insW 6 0 4 5 0 0 0) [sxR 4, sxR 5]) ∧
    (insOf (insW 6 0 4 5 0 0 0)).op = 6 ∧
    (insOf (insW 6 0 4 5 0 0 0)).dst = 0 ∧
    Issues (cellDo (insW 7 0 4 5 0 0 0)) 0 (insOf (insW 7 0 4 5 0 0 0)) run0 [sxR (insOf (insW 7 0 4 5 0 0 0)).a, sxR (insOf (insW 7 0 4 5 0 0 0)).b] (issueC (insW 7 0 4 5 0 0 0) [sxR 4, sxR 5]) ∧
    (insOf (insW 7 0 4 5 0 0 0)).op = 7 ∧
    Issues (cellDo (insW 8 0 4 5 0 0 0)) 0 (insOf (insW 8 0 4 5 0 0 0)) run0 [sxR (insOf (insW 8 0 4 5 0 0 0)).a, sxR (insOf (insW 8 0 4 5 0 0 0)).b] (issueC (insW 8 0 4 5 0 0 0) [sxR 4, sxR 5]) ∧
    (insOf (insW 8 0 4 5 0 0 0)).op = 8 ∧
    Issues (cellDo (insW 9 3 0 0 0 0 5)) 0 (insOf (insW 9 3 0 0 0 0 5)) run0 [] (issueC (insW 9 3 0 0 0 0 5) []) ∧
    (insOf (insW 9 3 0 0 0 0 5)).op = 9 ∧
    sxReadOnly (insOf (insW 9 3 0 0 0 0 5)).dst ∧
    Issues (cellDo (insW 10 3 4 0 0 0 5)) 0 (insOf (insW 10 3 4 0 0 0 5)) run0 [sxR (insOf (insW 10 3 4 0 0 0 5)).a] (issueC (insW 10 3 4 0 0 0 5) [sxR 4]) ∧
    (insOf (insW 10 3 4 0 0 0 5)).op = 10 ∧
    sxReadOnly (insOf (insW 10 3 4 0 0 0 5)).dst ∧
    Issues (cellDo (insW 16 3 6 0 0 0 0)) 0 (insOf (insW 16 3 6 0 0 0 0)) run0 [sxR (insOf (insW 16 3 6 0 0 0 0)).a] (issueC (insW 16 3 6 0 0 0 0) [sxR 6]) ∧
    (insOf (insW 16 3 6 0 0 0 0)).op = 16 ∧
    ((cellDo (insW 16 3 6 0 0 0 0)).fetched 0 (issueC (insW 16 3 6 0 0 0 0) [sxR 6])).sramFault 0 (((cellDo (insW 16 3 6 0 0 0 0)).cell 0).addr (insOf (insW 16 3 6 0 0 0 0))) 4 true = none ∧
    sxReadOnly (insOf (insW 16 3 6 0 0 0 0)).dst ∧
    Issues (cellDo (insW 1 3 4 5 0 0 0)) 0 (insOf (insW 1 3 4 5 0 0 0)) run0 [sxR (insOf (insW 1 3 4 5 0 0 0)).a, sxR (insOf (insW 1 3 4 5 0 0 0)).b] (issueC (insW 1 3 4 5 0 0 0) [sxR 4, sxR 5]) ∧
    (insOf (insW 1 3 4 5 0 0 0)).op = 1 ∧
    sxReadOnly (insOf (insW 1 3 4 5 0 0 0)).dst :=
  by and_intros <;> first | decide +kernel | (constructor <;> decide +kernel) | (unfold sxReadOnly; decide +kernel)

theorem met_ScalarResults_3 :
    Issues (cellDo (insW 2 3 4 5 0 0 0)) 0 (insOf (insW 2 3 4 5 0 0 0)) run0 [sxR (insOf (insW 2 3 4 5 0 0 0)).a, sxR (insOf (insW 2 3 4 5 0 0 0)).b] (issueC (insW 2 3 4 5 0 0 0) [sxR 4, sxR 5]) ∧
    (insOf (insW 2 3 4 5 0 0 0)).op = 2 ∧
    sxReadOnly (insOf (insW 2 3 4 5 0 0 0)).dst ∧
    Issues (cellDo (insW 3 3 4 5 0 0 0)) 0 (insOf (insW 3 3 4 5 0 0 0)) run0 [sxR (insOf (insW 3 3 4 5 0 0 0)).a, sxR (insOf (insW 3 3 4 5 0 0 0)).b] (issueC (insW 3 3 4 5 0 0 0) [sxR 4, sxR 5]) ∧
    (insOf (insW 3 3 4 5 0 0 0)).op = 3 ∧
    sxReadOnly (insOf (insW 3 3 4 5 0 0 0)).dst ∧
    Issues (cellDo (insW 4 3 4 5 0 0 0)) 0 (insOf (insW 4 3 4 5 0 0 0)) run0 [sxR (insOf (insW 4 3 4 5 0 0 0)).a, sxR (insOf (insW 4 3 4 5 0 0 0)).b] (issueC (insW 4 3 4 5 0 0 0) [sxR 4, sxR 5]) ∧
    (insOf (insW 4 3 4 5 0 0 0)).op = 4 ∧
    sxReadOnly (insOf (insW 4 3 4 5 0 0 0)).dst ∧
    Issues (cellDo (insW 5 3 4 5 0 0 0)) 0 (insOf (insW 5 3 4 5 0 0 0)) run0 [sxR (insOf (insW 5 3 4 5 0 0 0)).a, sxR (insOf (insW 5 3 4 5 0 0 0)).b] (issueC (insW 5 3 4 5 0 0 0) [sxR 4, sxR 5]) ∧
    (insOf (insW 5 3 4 5 0 0 0)).op = 5 ∧
    sxReadOnly (insOf (insW 5 3 4 5 0 0 0)).dst ∧
    Issues (cellDo (insW 6 3 4 5 0 0 0)) 0 (insOf (insW 6 3 4 5 0 0 0)) run0 [sxR (insOf (insW 6 3 4 5 0 0 0)).a, sxR (insOf (insW 6 3 4 5 0 0 0)).b] (issueC (insW 6 3 4 5 0 0 0) [sxR 4, sxR 5]) ∧
    (insOf (insW 6 3 4 5 0 0 0)).op = 6 ∧
    sxReadOnly (insOf (insW 6 3 4 5 0 0 0)).dst ∧
    Issues (cellDo (insW 7 3 4 5 0 0 0)) 0 (insOf (insW 7 3 4 5 0 0 0)) run0 [sxR 4, sxR 5] (issueC (insW 7 3 4 5 0 0 0) [sxR 4, sxR 5]) ∧
    (insOf (insW 7 3 4 5 0 0 0)).op = 7 ∧
    sxReadOnly (insOf (insW 7 3 4 5 0 0 0)).dst ∧
    Issues (cellDo (insW 8 3 4 5 0 0 0)) 0 (insOf (insW 8 3 4 5 0 0 0)) run0 [sxR 4, sxR 5] (issueC (insW 8 3 4 5 0 0 0) [sxR 4, sxR 5]) ∧
    (insOf (insW 8 3 4 5 0 0 0)).op = 8 ∧
    sxReadOnly (insOf (insW 8 3 4 5 0 0 0)).dst ∧
    ((cellDo (insW 16 0 6 0 0 0 0)).fetched 0 (issueC (insW 16 0 6 0 0 0 0) [sxR 6])).sramFault 0 (((cellDo (insW 16 0 6 0 0 0 0)).cell 0).addr (insOf (insW 16 0 6 0 0 0 0))) 4 true = none ∧
    ((cellDo (insW 16 3 6 0 0 0 0)).fetched 0 (issueC (insW 16 3 6 0 0 0 0) [sxR 6])).sramFault 0 (((cellDo (insW 16 3 6 0 0 0 0)).cell 0).addr (insOf (insW 16 3 6 0 0 0 0))) 4 true = none :=
  by and_intros <;> first | decide +kernel | (constructor <;> decide +kernel) | (unfold sxReadOnly; decide +kernel)

theorem met_ShiftResults :
    Issues (cellDo (insW 7 23 4 9 0 0 0)) 0 (insOf (insW 7 23 4 9 0 0 0)) run0 [sxR (insOf (insW 7 23 4 9 0 0 0)).a, sxR (insOf (insW 7 23 4 9 0 0 0)).b] (issueC (insW 7 23 4 9 0 0 0) [sxR 4, sxR 9]) ∧
    sxWritable (insOf (insW 7 23 4 9 0 0 0)).dst ∧
    (insOf (insW 7 23 4 9 0 0 0)).op = 7 ∧
    Issues (cellDo (insW 8 23 4 9 0 0 0)) 0 (insOf (insW 8 23 4 9 0 0 0)) run0 [sxR (insOf (insW 8 23 4 9 0 0 0)).a, sxR (insOf (insW 8 23 4 9 0 0 0)).b] (issueC (insW 8 23 4 9 0 0 0) [sxR 4, sxR 9]) ∧
    sxWritable (insOf (insW 8 23 4 9 0 0 0)).dst ∧
    (insOf (insW 8 23 4 9 0 0 0)).op = 8 ∧
    Issues (cellDo (insW 85 15 1 2 0 0 0)) 0 (insOf (insW 85 15 1 2 0 0 0)) run0 [vxR (insOf (insW 85 15 1 2 0 0 0)).a, vxR (insOf (insW 85 15 1 2 0 0 0)).b] (issueC (insW 85 15 1 2 0 0 0) [vxR 1, vxR 2]) ∧
    vxOk [(insOf (insW 85 15 1 2 0 0 0)).dst, (insOf (insW 85 15 1 2 0 0 0)).a, (insOf (insW 85 15 1 2 0 0 0)).b] = true ∧
    (insOf (insW 85 15 1 2 0 0 0)).op = 85 ∧
    Issues (cellDo (insW 86 15 1 2 0 0 0)) 0 (insOf (insW 86 15 1 2 0 0 0)) run0 [vxR (insOf (insW 86 15 1 2 0 0 0)).a, vxR (insOf (insW 86 15 1 2 0 0 0)).b] (issueC (insW 86 15 1 2 0 0 0) [vxR 1, vxR 2]) ∧
    vxOk [(insOf (insW 86 15 1 2 0 0 0)).dst, (insOf (insW 86 15 1 2 0 0 0)).a, (insOf (insW 86 15 1 2 0 0 0)).b] = true ∧
    (insOf (insW 86 15 1 2 0 0 0)).op = 86 ∧
    Issues (cellDo (insW 85 16 1 2 0 0 0)) 0 (insOf (insW 85 16 1 2 0 0 0)) run0 [vxR 1, vxR 2] (issueC (insW 85 16 1 2 0 0 0) [vxR 1, vxR 2]) ∧
    (insOf (insW 85 16 1 2 0 0 0)).op = 85 ∧
    vxOk [(insOf (insW 85 16 1 2 0 0 0)).dst, (insOf (insW 85 16 1 2 0 0 0)).a, (insOf (insW 85 16 1 2 0 0 0)).b] = false ∧
    Issues (cellDo (insW 86 16 1 2 0 0 0)) 0 (insOf (insW 86 16 1 2 0 0 0)) run0 [vxR 1, vxR 2] (issueC (insW 86 16 1 2 0 0 0) [vxR 1, vxR 2]) ∧
    (insOf (insW 86 16 1 2 0 0 0)).op = 86 ∧
    vxOk [(insOf (insW 86 16 1 2 0 0 0)).dst, (insOf (insW 86 16 1 2 0 0 0)).a, (insOf (insW 86 16 1 2 0 0 0)).b] = false :=
  by and_intros <;> first | decide +kernel | (constructor <;> decide +kernel)

theorem met_LaneResults :
    Issues (cellDo (insW 64 15 1 2 0 0 0)) 0 (insOf (insW 64 15 1 2 0 0 0)) run0 [vxR (insOf (insW 64 15 1 2 0 0 0)).a, vxR (insOf (insW 64 15 1 2 0 0 0)).b] (issueC (insW 64 15 1 2 0 0 0) [vxR 1, vxR 2]) ∧
    (insOf (insW 64 15 1 2 0 0 0)).op = 64 ∧
    Issues (cellDo (insW 65 15 1 2 0 0 0)) 0 (insOf (insW 65 15 1 2 0 0 0)) run0 [vxR (insOf (insW 65 15 1 2 0 0 0)).a, vxR (insOf (insW 65 15 1 2 0 0 0)).b] (issueC (insW 65 15 1 2 0 0 0) [vxR 1, vxR 2]) ∧
    (insOf (insW 65 15 1 2 0 0 0)).op = 65 ∧
    Issues (cellDo (insW 66 15 1 2 0 0 0)) 0 (insOf (insW 66 15 1 2 0 0 0)) run0 [vxR (insOf (insW 66 15 1 2 0 0 0)).a, vxR (insOf (insW 66 15 1 2 0 0 0)).b] (issueC (insW 66 15 1 2 0 0 0) [vxR 1, vxR 2]) ∧
    (insOf (insW 66 15 1 2 0 0 0)).op = 66 ∧
    Issues (cellDo (insW 68 15 1 2 0 0 0)) 0 (insOf (insW 68 15 1 2 0 0 0)) run0 [vxR (insOf (insW 68 15 1 2 0 0 0)).a, vxR (insOf (insW 68 15 1 2 0 0 0)).b] (issueC (insW 68 15 1 2 0 0 0) [vxR 1, vxR 2]) ∧
    (insOf (insW 68 15 1 2 0 0 0)).op = 68 ∧
    Issues (cellDo (insW 69 15 1 2 0 0 0)) 0 (insOf (insW 69 15 1 2 0 0 0)) run0 [vxR (insOf (insW 69 15 1 2 0 0 0)).a, vxR (insOf (insW 69 15 1 2 0 0 0)).b] (issueC (insW 69 15 1 2 0 0 0) [vxR 1, vxR 2]) ∧
    (insOf (insW 69 15 1 2 0 0 0)).op = 69 ∧
    Issues (cellDo (insW 71 15 1 2 0 0 0)) 0 (insOf (insW 71 15 1 2 0 0 0)) run0 [vxR (insOf (insW 71 15 1 2 0 0 0)).a, vxR (insOf (insW 71 15 1 2 0 0 0)).b] (issueC (insW 71 15 1 2 0 0 0) [vxR 1, vxR 2]) ∧
    (insOf (insW 71 15 1 2 0 0 0)).op = 71 ∧
    Issues (cellDo (insW 80 15 1 2 0 0 0)) 0 (insOf (insW 80 15 1 2 0 0 0)) run0 [vxR (insOf (insW 80 15 1 2 0 0 0)).a, vxR (insOf (insW 80 15 1 2 0 0 0)).b] (issueC (insW 80 15 1 2 0 0 0) [vxR 1, vxR 2]) ∧
    (insOf (insW 80 15 1 2 0 0 0)).op = 80 ∧
    Issues (cellDo (insW 81 15 1 2 0 0 0)) 0 (insOf (insW 81 15 1 2 0 0 0)) run0 [vxR (insOf (insW 81 15 1 2 0 0 0)).a, vxR (insOf (insW 81 15 1 2 0 0 0)).b] (issueC (insW 81 15 1 2 0 0 0) [vxR 1, vxR 2]) ∧
    (insOf (insW 81 15 1 2 0 0 0)).op = 81 ∧
    Issues (cellDo (insW 82 15 1 2 0 0 0)) 0 (insOf (insW 82 15 1 2 0 0 0)) run0 [vxR (insOf (insW 82 15 1 2 0 0 0)).a, vxR (insOf (insW 82 15 1 2 0 0 0)).b] (issueC (insW 82 15 1 2 0 0 0) [vxR 1, vxR 2]) ∧
    (insOf (insW 82 15 1 2 0 0 0)).op = 82 ∧
    Issues (cellDo (insW 83 15 1 2 0 0 0)) 0 (insOf (insW 83 15 1 2 0 0 0)) run0 [vxR (insOf (insW 83 15 1 2 0 0 0)).a, vxR (insOf (insW 83 15 1 2 0 0 0)).b] (issueC (insW 83 15 1 2 0 0 0) [vxR 1, vxR 2]) ∧
    (insOf (insW 83 15 1 2 0 0 0)).op = 83 ∧
    Issues (cellDo (insW 84 15 1 2 0 0 0)) 0 (insOf (insW 84 15 1 2 0 0 0)) run0 [vxR (insOf (insW 84 15 1 2 0 0 0)).a, vxR (insOf (insW 84 15 1 2 0 0 0)).b] (issueC (insW 84 15 1 2 0 0 0) [vxR 1, vxR 2]) ∧
    (insOf (insW 84 15 1 2 0 0 0)).op = 84 ∧
    Issues (cellDo (insW 67 2 1 2 0 0 0)) 0 (insOf (insW 67 2 1 2 0 0 0)) run0 [vxR (insOf (insW 67 2 1 2 0 0 0)).a, vxR (insOf (insW 67 2 1 2 0 0 0)).b, vxR (insOf (insW 67 2 1 2 0 0 0)).dst] (issueC (insW 67 2 1 2 0 0 0) [vxR 1, vxR 2, vxR 2]) ∧
    (insOf (insW 67 2 1 2 0 0 0)).op = 67 ∧
    Issues (cellDo (insW 70 2 1 0 0 0 0)) 0 (insOf (insW 70 2 1 0 0 0 0)) run0 [vxR (insOf (insW 70 2 1 0 0 0 0)).a] (issueC (insW 70 2 1 0 0 0 0) [vxR 1]) ∧
    (insOf (insW 70 2 1 0 0 0 0)).op = 70 ∧
    Issues (cellDo (insW 74 2 1 0 0 0 0)) 0 (insOf (insW 74 2 1 0 0 0 0)) run0 [vxR (insOf (insW 74 2 1 0 0 0 0)).a] (issueC (insW 74 2 1 0 0 0 0) [vxR 1]) ∧
    (insOf (insW 74 2 1 0 0 0 0)).op = 74 ∧
    Issues (cellDo (insW 89 2 1 2 0 0 1)) 0 (insOf (insW 89 2 1 2 0 0 1)) run0 [mkR ((insOf (insW 89 2 1 2 0 0 1)).imm % 4), vxR (insOf (insW 89 2 1 2 0 0 1)).a, vxR (insOf (insW 89 2 1 2 0 0 1)).b] (issueC (insW 89 2 1 2 0 0 1) [mkR 1, vxR 1, vxR 2]) ∧
    (insOf (insW 89 2 1 2 0 0 1)).op = 89 ∧
    Issues (cellDo (insW 120 2 4 5 0 0 7)) 0 (insOf (insW 120 2 4 5 0 0 7)) run0 [sxR 16, sxR 17, sxR 18, sxR 19, sxR (insOf (insW 120 2 4 5 0 0 7)).a, sxR (insOf (insW 120 2 4 5 0 0 7)).b] (issueC (insW 120 2 4 5 0 0 7) [sxR 16, sxR 17, sxR 18, sxR 19, sxR 4, sxR 5]) ∧
    (insOf (insW 120 2 4 5 0 0 7)).op = 120 :=
  by and_intros <;> first | decide +kernel | (constructor <;> decide +kernel)

theorem met_ReductionsAndConversions_1 :
    Issues (cellDo (insW 72 2 1 0 0 0 0)) 0 (insOf (insW 72 2 1 0 0 0 0)) run0 [vxR (insOf (insW 72 2 1 0 0 0 0)).a] (issueC (insW 72 2 1 0 0 0 0) [vxR 1]) ∧
    (insOf (insW 72 2 1 0 0 0 0)).op = 72 ∧
    vxOk [(insOf (insW 72 2 1 0 0 0 0)).dst, (insOf (insW 72 2 1 0 0 0 0)).a] = true ∧
    Issues (cellDo (insW 72 16 1 0 0 0 0)) 0 (insOf (insW 72 16 1 0 0 0 0)) run0 [vxR (insOf (insW 72 16 1 0 0 0 0)).a] (issueC (insW 72 16 1 0 0 0 0) [vxR 1]) ∧
    (insOf (insW 72 16 1 0 0 0 0)).op = 72 ∧
    vxOk [(insOf (insW 72 16 1 0 0 0 0)).dst, (insOf (insW 72 16 1 0 0 0 0)).a] = false ∧
    Issues (cellDo (insW 73 14 1 0 0 0 0)) 0 (insOf (insW 73 14 1 0 0 0 0)) run0 [vxR (insOf (insW 73 14 1 0 0 0 0)).a, vxR (insOf (insW 73 14 1 0 0 0 0)).dst, vxR ((insOf (insW 73 14 1 0 0 0 0)).dst + 1)] (issueC (insW 73 14 1 0 0 0 0) [vxR 1, vxR 14, vxR 15]) ∧
    (insOf (insW 73 14 1 0 0 0 0)).op = 73 ∧
    vxOk [(insOf (insW 73 14 1 0 0 0 0)).dst + 1, (insOf (insW 73 14 1 0 0 0 0)).a] = true ∧
    Issues (cellDo (insW 73 15 1 0 0 0 0)) 0 (insOf (insW 73 15 1 0 0 0 0)) run0 [vxR (insOf (insW 73 15 1 0 0 0 0)).a, vxR (insOf (insW 73 15 1 0 0 0 0)).dst, vxR ((insOf (insW 73 15 1 0 0 0 0)).dst + 1)] (issueC (insW 73 15 1 0 0 0 0) [vxR 1, vxR 15, vxR 16]) ∧
    (insOf (insW 73 15 1 0 0 0 0)).op = 73 ∧
    vxOk [(insOf (insW 73 15 1 0 0 0 0)).dst + 1, (insOf (insW 73 15 1 0 0 0 0)).a] = false ∧
    Issues (cellDo (insW 88 4 1 2 0 0 0)) 0 (insOf (insW 88 4 1 2 0 0 0)) run0 [vxR (insOf (insW 88 4 1 2 0 0 0)).a, vxR (insOf (insW 88 4 1 2 0 0 0)).b] (issueC (insW 88 4 1 2 0 0 0) [vxR 1, vxR 2]) ∧
    (insOf (insW 88 4 1 2 0 0 0)).op = 88 ∧
    (vxOk [(insOf (insW 88 4 1 2 0 0 0)).a, (insOf (insW 88 4 1 2 0 0 0)).b] = false ∨ 4 ≤ (insOf (insW 88 4 1 2 0 0 0)).dst ∨ (insOf (insW 88 4 1 2 0 0 0)).imm % 8 = 7) ∧
    Issues (cellDo (insW 88 3 1 2 0 0 6)) 0 (insOf (insW 88 3 1 2 0 0 6)) run0 [vxR (insOf (insW 88 3 1 2 0 0 6)).a, vxR (insOf (insW 88 3 1 2 0 0 6)).b] (issueC (insW 88 3 1 2 0 0 6) [vxR 1, vxR 2]) ∧
    (insOf (insW 88 3 1 2 0 0 6)).op = 88 ∧
    vxOk [(insOf (insW 88 3 1 2 0 0 6)).a, (insOf (insW 88 3 1 2 0 0 6)).b] = true ∧
    (insOf (insW 88 3 1 2 0 0 6)).dst < 4 ∧
    (insOf (insW 88 3 1 2 0 0 6)).imm % 8 ≠ 7 ∧
    (Issues (cellDo (insW 96 2 1 0 1 0 0)) 0 (insOf (insW 96 2 1 0 1 0 0)) run0 ((vxR (insOf (insW 96 2 1 0 1 0 0)).a :: if (blockFmt (insOf (insW 96 2 1 0 1 0 0)).fmt || decide ((insOf (insW 96 2 1 0 1 0 0)).rm = 1)) = true then [sxR (insOf (insW 96 2 1 0 1 0 0)).b] else []) ++ rndRegs (insOf (insW 96 2 1 0 1 0 0))) (issueC (insW 96 2 1 0 1 0 0) (vxR 1 :: rndRegs (insOf (insW 96 2 1 0 1 0 0))))) ∧
    (insOf (insW 96 2 1 0 1 0 0)).op = 96 ∧
    vxOk [(insOf (insW 96 2 1 0 1 0 0)).dst, (insOf (insW 96 2 1 0 1 0 0)).a] = true ∧
    (Issues (cellDo (insW 96 16 1 0 1 0 0)) 0 (insOf (insW 96 16 1 0 1 0 0)) run0 ((vxR (insOf (insW 96 16 1 0 1 0 0)).a :: if (blockFmt (insOf (insW 96 16 1 0 1 0 0)).fmt || decide ((insOf (insW 96 16 1 0 1 0 0)).rm = 1)) = true then [sxR (insOf (insW 96 16 1 0 1 0 0)).b] else []) ++ rndRegs (insOf (insW 96 16 1 0 1 0 0))) (issueC (insW 96 16 1 0 1 0 0) (vxR 1 :: rndRegs (insOf (insW 96 16 1 0 1 0 0))))) ∧
    (insOf (insW 96 16 1 0 1 0 0)).op = 96 ∧
    vxOk [(insOf (insW 96 16 1 0 1 0 0)).dst, (insOf (insW 96 16 1 0 1 0 0)).a] = false ∧
    Issues (cellDo (insW 97 23 1 0 9 0 0)) 0 (insOf (insW 97 23 1 0 9 0 0)) run0 [vxR (insOf (insW 97 23 1 0 9 0 0)).a, vxR ((insOf (insW 97 23 1 0 9 0 0)).a + 1)] (issueC (insW 97 23 1 0 9 0 0) [vxR 1, vxR 2]) ∧
    (insOf (insW 97 23 1 0 9 0 0)).op = 97 ∧
    (insOf (insW 97 23 1 0 9 0 0)).a < 15 ∧
    sxWritable (insOf (insW 97 23 1 0 9 0 0)).dst ∧
    emaxOf (insOf (insW 97 23 1 0 9 0 0)).fmt = some 8 ∧
    Issues (cellDo (insW 97 23 14 0 1 0 0)) 0 (insOf (insW 97 23 14 0 1 0 0)) run0 [vxR (insOf (insW 97 23 14 0 1 0 0)).a, vxR ((insOf (insW 97 23 14 0 1 0 0)).a + 1)] (issueC (insW 97 23 14 0 1 0 0) [vxR 14, vxR 15]) ∧
    (insOf (insW 97 23 14 0 1 0 0)).op = 97 ∧
    (insOf (insW 97 23 14 0 1 0 0)).a < 15 ∧
    sxWritable (insOf (insW 97 23 14 0 1 0 0)).dst ∧
    emaxOf (insOf (insW 97 23 14 0 1 0 0)).fmt = none :=
  by and_intros <;> first | decide +kernel | (constructor <;> decide +kernel)

theorem met_ReductionsAndConversions_2 :
    Issues (cellDo (insW 97 23 15 0 8 0 0)) 0 (insOf (insW 97 23 15 0 8 0 0)) run0 [vxR (insOf (insW 97 23 15 0 8 0 0)).a, vxR ((insOf (insW 97 23 15 0 8 0 0)).a + 1)] (issueC (insW 97 23 15 0 8 0 0) [vxR 15, vxR 16]) ∧
    (insOf (insW 97 23 15 0 8 0 0)).op = 97 ∧
    15 ≤ (insOf (insW 97 23 15 0 8 0 0)).a ∧
    Issues (cellDo (insW 88 3 1 2 0 0 7)) 0 (insOf (insW 88 3 1 2 0 0 7)) run0 [vxR 1, vxR 2] (issueC (insW 88 3 1 2 0 0 7) [vxR 1, vxR 2]) ∧
    (insOf (insW 88 3 1 2 0 0 7)).op = 88 ∧
    (insOf (insW 88 3 1 2 0 0 7)).imm % 8 = 7 ∧
    Issues (cellDo (insW 96 2 1 5 8 0 0)) 0 (insOf (insW 96 2 1 5 8 0 0)) run0 (vxR (insOf (insW 96 2 1 5 8 0 0)).a :: (if blockFmt (insOf (insW 96 2 1 5 8 0 0)).fmt || decide ((insOf (insW 96 2 1 5 8 0 0)).rm = 1) then [sxR (insOf (insW 96 2 1 5 8 0 0)).b] else []) ++ rndRegs (insOf (insW 96 2 1 5 8 0 0))) (issueC (insW 96 2 1 5 8 0 0) [vxR 1, sxR 5]) ∧
    (insOf (insW 96 2 1 5 8 0 0)).op = 96 ∧
    vxOk [(insOf (insW 96 2 1 5 8 0 0)).dst, (insOf (insW 96 2 1 5 8 0 0)).a] = true ∧
    Issues (cellDo (insW 97 0 14 0 9 0 0)) 0 (insOf (insW 97 0 14 0 9 0 0)) run0 [vxR 14, vxR 15] (issueC (insW 97 0 14 0 9 0 0) [vxR 14, vxR 15]) ∧
    (insOf (insW 97 0 14 0 9 0 0)).op = 97 ∧
    (insOf (insW 97 0 14 0 9 0 0)).a < 15 ∧
    (insOf (insW 97 0 14 0 9 0 0)).dst = 0 ∧
    Issues (cellDo (insW 97 3 14 0 9 0 0)) 0 (insOf (insW 97 3 14 0 9 0 0)) run0 [vxR 14, vxR 15] (issueC (insW 97 3 14 0 9 0 0) [vxR 14, vxR 15]) ∧
    (insOf (insW 97 3 14 0 9 0 0)).op = 97 ∧
    sxReadOnly (insOf (insW 97 3 14 0 9 0 0)).dst :=
  by and_intros <;> first | decide +kernel | (constructor <;> decide +kernel) | (unfold sxReadOnly; decide +kernel)

theorem met_CellLoadsAndStores_1 :
    memWf (cellDo (insW 16 23 6 0 0 0 0)).mem = true ∧
    memWf (cellDo (insW 16 23 6 0 0 0 0)).flash = true ∧
    Issues (cellDo (insW 16 23 6 0 0 0 0)) 0 (insOf (insW 16 23 6 0 0 0 0)) run0 [sxR (insOf (insW 16 23 6 0 0 0 0)).a] (issueC (insW 16 23 6 0 0 0 0) [sxR 6]) ∧
    (insOf (insW 16 23 6 0 0 0 0)).op = 16 ∧
    ((cellDo (insW 16 23 6 0 0 0 0)).fetched 0 (issueC (insW 16 23 6 0 0 0 0) [sxR 6])).sramFault 0 (((cellDo (insW 16 23 6 0 0 0 0)).cell 0).addr (insOf (insW 16 23 6 0 0 0 0))) 4 true = none ∧
    sxWritable (insOf (insW 16 23 6 0 0 0 0)).dst ∧
    memWf (cellBad (insW 16 23 6 0 0 0 0)).mem = true ∧
    memWf (cellBad (insW 16 23 6 0 0 0 0)).flash = true ∧
    Issues (cellBad (insW 16 23 6 0 0 0 0)) 0 (insOf (insW 16 23 6 0 0 0 0)) run0 [sxR (insOf (insW 16 23 6 0 0 0 0)).a] (issueC (insW 16 23 6 0 0 0 0) [sxR 6]) ∧
    ((cellBad (insW 16 23 6 0 0 0 0)).fetched 0 (issueC (insW 16 23 6 0 0 0 0) [sxR 6])).sramFault 0 (((cellBad (insW 16 23 6 0 0 0 0)).cell 0).addr (insOf (insW 16 23 6 0 0 0 0))) 4 true = some 4 ∧
    memWf (cellDo (insW 17 0 8 4 0 0 4294967292)).mem = true ∧
    memWf (cellDo (insW 17 0 8 4 0 0 4294967292)).flash = true ∧
    Issues (cellDo (insW 17 0 8 4 0 0 4294967292)) 0 (insOf (insW 17 0 8 4 0 0 4294967292)) run0 [sxR (insOf (insW 17 0 8 4 0 0 4294967292)).a, sxR (insOf (insW 17 0 8 4 0 0 4294967292)).b] (issueC (insW 17 0 8 4 0 0 4294967292) [sxR 8, sxR 4]) ∧
    (insOf (insW 17 0 8 4 0 0 4294967292)).op = 17 ∧
    ((cellDo (insW 17 0 8 4 0 0 4294967292)).fetched 0 (issueC (insW 17 0 8 4 0 0 4294967292) [sxR 8, sxR 4])).sramFault 0 (((cellDo (insW 17 0 8 4 0 0 4294967292)).cell 0).addr (insOf (insW 17 0 8 4 0 0 4294967292))) 4 false = none ∧
    memWf (cellDo (insW 17 0 8 4 0 0 0)).mem = true ∧
    memWf (cellDo (insW 17 0 8 4 0 0 0)).flash = true ∧
    Issues (cellDo (insW 17 0 8 4 0 0 0)) 0 (insOf (insW 17 0 8 4 0 0 0)) run0 [sxR (insOf (insW 17 0 8 4 0 0 0)).a, sxR (insOf (insW 17 0 8 4 0 0 0)).b] (issueC (insW 17 0 8 4 0 0 0) [sxR 8, sxR 4]) ∧
    (insOf (insW 17 0 8 4 0 0 0)).op = 17 ∧
    ((cellDo (insW 17 0 8 4 0 0 0)).fetched 0 (issueC (insW 17 0 8 4 0 0 0) [sxR 8, sxR 4])).sramFault 0 (((cellDo (insW 17 0 8 4 0 0 0)).cell 0).addr (insOf (insW 17 0 8 4 0 0 0))) 4 false = some 3 ∧
    memWf (cellDo (insW 112 15 6 0 1 0 0)).mem = true ∧
    memWf (cellDo (insW 112 15 6 0 1 0 0)).flash = true ∧
    Issues (cellDo (insW 112 15 6 0 1 0 0)) 0 (insOf (insW 112 15 6 0 1 0 0)) run0 [sxR (insOf (insW 112 15 6 0 1 0 0)).a] (issueC (insW 112 15 6 0 1 0 0) [sxR 6]) ∧
    (insOf (insW 112 15 6 0 1 0 0)).op = 112 ∧
    (insOf (insW 112 15 6 0 1 0 0)).dst < 16 ∧
    ((cellDo (insW 112 15 6 0 1 0 0)).fetched 0 (issueC (insW 112 15 6 0 1 0 0) [sxR 6])).sramFault 0 (((cellDo (insW 112 15 6 0 1 0 0)).cell 0).addr (insOf (insW 112 15 6 0 1 0 0))) (fmtBytes (insOf (insW 112 15 6 0 1 0 0)).fmt) true = none ∧
    memWf (cellDo (insW 112 15 7 0 1 0 0)).mem = true ∧
    memWf (cellDo (insW 112 15 7 0 1 0 0)).flash = true ∧
    Issues (cellDo (insW 112 15 7 0 1 0 0)) 0 (insOf (insW 112 15 7 0 1 0 0)) run0 [sxR (insOf (insW 112 15 7 0 1 0 0)).a] (issueC (insW 112 15 7 0 1 0 0) [sxR 7]) ∧
    (insOf (insW 112 15 7 0 1 0 0)).op = 112 ∧
    (insOf (insW 112 15 7 0 1 0 0)).dst < 16 ∧
    ((cellDo (insW 112 15 7 0 1 0 0)).fetched 0 (issueC (insW 112 15 7 0 1 0 0) [sxR 7])).sramFault 0 (((cellDo (insW 112 15 7 0 1 0 0)).cell 0).addr (insOf (insW 112 15 7 0 1 0 0))) (fmtBytes (insOf (insW 112 15 7 0 1 0 0)).fmt) true = some 2 ∧
    memWf (cellDo (insW 113 0 6 1 7 0 0)).mem = true ∧
    memWf (cellDo (insW 113 0 6 1 7 0 0)).flash = true ∧
    Issues (cellDo (insW 113 0 6 1 7 0 0)) 0 (insOf (insW 113 0 6 1 7 0 0)) run0 (sxR (insOf (insW 113 0 6 1 7 0 0)).a :: vxR (insOf (insW 113 0 6 1 7 0 0)).b :: rndRegs (insOf (insW 113 0 6 1 7 0 0))) (issueC (insW 113 0 6 1 7 0 0) (sxR 6 :: vxR 1 :: rndRegs (insOf (insW 113 0 6 1 7 0 0)))) ∧
    (insOf (insW 113 0 6 1 7 0 0)).op = 113 :=
  by and_intros <;> first | decide +kernel | (constructor <;> decide +kernel)

theorem met_CellLoadsAndStores_2 :
    (insOf (insW 113 0 6 1 7 0 0)).b < 16 ∧
    ((cellDo (insW 113 0 6 1 7 0 0)).fetched 0 (issueC (insW 113 0 6 1 7 0 0) (sxR 6 :: vxR 1 :: rndRegs (insOf (insW 113 0 6 1 7 0 0))))).sramFault 0 (((cellDo (insW 113 0 6 1 7 0 0)).cell 0).addr (insOf (insW 113 0 6 1 7 0 0))) (fmtBytes (insOf (insW 113 0 6 1 7 0 0)).fmt) false = none ∧
    memWf (cellDo (insW 113 0 8 1 0 0 0)).mem = true ∧
    memWf (cellDo (insW 113 0 8 1 0 0 0)).flash = true ∧
    Issues (cellDo (insW 113 0 8 1 0 0 0)) 0 (insOf (insW 113 0 8 1 0 0 0)) run0 (sxR (insOf (insW 113 0 8 1 0 0 0)).a :: vxR (insOf (insW 113 0 8 1 0 0 0)).b :: rndRegs (insOf (insW 113 0 8 1 0 0 0))) (issueC (insW 113 0 8 1 0 0 0) (sxR 8 :: vxR 1 :: rndRegs (insOf (insW 113 0 8 1 0 0 0)))) ∧
    (insOf (insW 113 0 8 1 0 0 0)).op = 113 ∧
    (insOf (insW 113 0 8 1 0 0 0)).b < 16 ∧
    ((cellDo (insW 113 0 8 1 0 0 0)).fetched 0 (issueC (insW 113 0 8 1 0 0 0) (sxR 8 :: vxR 1 :: rndRegs (insOf (insW 113 0 8 1 0 0 0))))).sramFault 0 (((cellDo (insW 113 0 8 1 0 0 0)).cell 0).addr (insOf (insW 113 0 8 1 0 0 0))) (fmtBytes (insOf (insW 113 0 8 1 0 0 0)).fmt) false = some 3 ∧
    memWf (cellDo (insW 114 15 6 3 0 0 0)).mem = true ∧
    memWf (cellDo (insW 114 15 6 3 0 0 0)).flash = true ∧
    Issues (cellDo (insW 114 15 6 3 0 0 0)) 0 (insOf (insW 114 15 6 3 0 0 0)) run0 [sxR (insOf (insW 114 15 6 3 0 0 0)).a, vxR (insOf (insW 114 15 6 3 0 0 0)).b] (issueC (insW 114 15 6 3 0 0 0) [sxR 6, vxR 3]) ∧
    (insOf (insW 114 15 6 3 0 0 0)).op = 114 ∧
    (insOf (insW 114 15 6 3 0 0 0)).dst < 16 ∧
    (insOf (insW 114 15 6 3 0 0 0)).b < 16 ∧
    ((cellDo (insW 114 15 6 3 0 0 0)).fetched 0 (issueC (insW 114 15 6 3 0 0 0) [sxR 6, vxR 3])).laneFault ((cellDo (insW 114 15 6 3 0 0 0)).cell 0) (insOf (insW 114 15 6 3 0 0 0)) 0 true = none ∧
    memWf (cellBad (insW 114 15 6 3 0 0 0)).mem = true ∧
    memWf (cellBad (insW 114 15 6 3 0 0 0)).flash = true ∧
    Issues (cellBad (insW 114 15 6 3 0 0 0)) 0 (insOf (insW 114 15 6 3 0 0 0)) run0 [sxR (insOf (insW 114 15 6 3 0 0 0)).a, vxR (insOf (insW 114 15 6 3 0 0 0)).b] (issueC (insW 114 15 6 3 0 0 0) [sxR 6, vxR 3]) ∧
    ((cellBad (insW 114 15 6 3 0 0 0)).fetched 0 (issueC (insW 114 15 6 3 0 0 0) [sxR 6, vxR 3])).laneFault ((cellBad (insW 114 15 6 3 0 0 0)).cell 0) (insOf (insW 114 15 6 3 0 0 0)) 0 true = some 4 ∧
    memWf (cellDo (insW 115 1 6 3 0 0 0)).mem = true ∧
    memWf (cellDo (insW 115 1 6 3 0 0 0)).flash = true ∧
    Issues (cellDo (insW 115 1 6 3 0 0 0)) 0 (insOf (insW 115 1 6 3 0 0 0)) run0 [sxR (insOf (insW 115 1 6 3 0 0 0)).a, vxR (insOf (insW 115 1 6 3 0 0 0)).b, vxR (insOf (insW 115 1 6 3 0 0 0)).dst] (issueC (insW 115 1 6 3 0 0 0) [sxR 6, vxR 3, vxR 1]) ∧
    (insOf (insW 115 1 6 3 0 0 0)).dst < 16 ∧
    (insOf (insW 115 1 6 3 0 0 0)).b < 16 ∧
    (insOf (insW 115 1 6 3 0 0 0)).op = 115 ∧
    ((cellDo (insW 115 1 6 3 0 0 0)).fetched 0 (issueC (insW 115 1 6 3 0 0 0) [sxR 6, vxR 3, vxR 1])).laneFault ((cellDo (insW 115 1 6 3 0 0 0)).cell 0) (insOf (insW 115 1 6 3 0 0 0)) 0 false = none ∧
    memWf (cellDo (insW 115 1 7 3 0 0 0)).mem = true ∧
    memWf (cellDo (insW 115 1 7 3 0 0 0)).flash = true ∧
    Issues (cellDo (insW 115 1 7 3 0 0 0)) 0 (insOf (insW 115 1 7 3 0 0 0)) run0 [sxR (insOf (insW 115 1 7 3 0 0 0)).a, vxR (insOf (insW 115 1 7 3 0 0 0)).b, vxR (insOf (insW 115 1 7 3 0 0 0)).dst] (issueC (insW 115 1 7 3 0 0 0) [sxR 7, vxR 3, vxR 1]) ∧
    (insOf (insW 115 1 7 3 0 0 0)).dst < 16 ∧
    (insOf (insW 115 1 7 3 0 0 0)).b < 16 ∧
    (insOf (insW 115 1 7 3 0 0 0)).op = 115 ∧
    ((cellDo (insW 115 1 7 3 0 0 0)).fetched 0 (issueC (insW 115 1 7 3 0 0 0) [sxR 7, vxR 3, vxR 1])).laneFault ((cellDo (insW 115 1 7 3 0 0 0)).cell 0) (insOf (insW 115 1 7 3 0 0 0)) 0 false = some 2 ∧
    memWf (cellDo (insW 116 1 6 3 0 0 0)).mem = true ∧
    memWf (cellDo (insW 116 1 6 3 0 0 0)).flash = true ∧
    Issues (cellDo (insW 116 1 6 3 0 0 0)) 0 (insOf (insW 116 1 6 3 0 0 0)) run0 [sxR (insOf (insW 116 1 6 3 0 0 0)).a, vxR (insOf (insW 116 1 6 3 0 0 0)).b, vxR (insOf (insW 116 1 6 3 0 0 0)).dst] (issueC (insW 116 1 6 3 0 0 0) [sxR 6, vxR 3, vxR 1]) :=
  by and_intros <;> first | decide +kernel | (constructor <;> decide +kernel)

theorem met_CellLoadsAndStores_3 :
    (insOf (insW 116 1 6 3 0 0 0)).dst < 16 ∧
    (insOf (insW 116 1 6 3 0 0 0)).b < 16 ∧
    (insOf (insW 116 1 6 3 0 0 0)).op = 116 ∧
    ((insOf (insW 116 1 6 3 0 0 0)).fmt = 0 ∨ (insOf (insW 116 1 6 3 0 0 0)).fmt = 6) ∧
    ((cellDo (insW 116 1 6 3 0 0 0)).fetched 0 (issueC (insW 116 1 6 3 0 0 0) [sxR 6, vxR 3, vxR 1])).laneFault ((cellDo (insW 116 1 6 3 0 0 0)).cell 0) (insOf (insW 116 1 6 3 0 0 0)) 0 true = none ∧
    memWf (cellDo (insW 116 1 8 3 6 0 0)).mem = true ∧
    memWf (cellDo (insW 116 1 8 3 6 0 0)).flash = true ∧
    Issues (cellDo (insW 116 1 8 3 6 0 0)) 0 (insOf (insW 116 1 8 3 6 0 0)) run0 [sxR (insOf (insW 116 1 8 3 6 0 0)).a, vxR (insOf (insW 116 1 8 3 6 0 0)).b, vxR (insOf (insW 116 1 8 3 6 0 0)).dst] (issueC (insW 116 1 8 3 6 0 0) [sxR 8, vxR 3, vxR 1]) ∧
    (insOf (insW 116 1 8 3 6 0 0)).dst < 16 ∧
    (insOf (insW 116 1 8 3 6 0 0)).b < 16 ∧
    (insOf (insW 116 1 8 3 6 0 0)).op = 116 ∧
    ((insOf (insW 116 1 8 3 6 0 0)).fmt = 0 ∨ (insOf (insW 116 1 8 3 6 0 0)).fmt = 6) ∧
    ((cellDo (insW 116 1 8 3 6 0 0)).fetched 0 (issueC (insW 116 1 8 3 6 0 0) [sxR 8, vxR 3, vxR 1])).laneFault ((cellDo (insW 116 1 8 3 6 0 0)).cell 0) (insOf (insW 116 1 8 3 6 0 0)) 0 true = some 3 ∧
    Issues (cellDo (insW 112 16 6 0 1 0 0)) 0 (insOf (insW 112 16 6 0 1 0 0)) run0 [sxR 6] (issueC (insW 112 16 6 0 1 0 0) [sxR 6]) ∧
    (insOf (insW 112 16 6 0 1 0 0)).op = 112 ∧
    (16 ≤ (insOf (insW 112 16 6 0 1 0 0)).dst) ∧
    Issues (cellDo (insW 114 16 6 3 0 0 0)) 0 (insOf (insW 114 16 6 3 0 0 0)) run0 [sxR 6, vxR 3] (issueC (insW 114 16 6 3 0 0 0) [sxR 6, vxR 3]) ∧
    (insOf (insW 114 16 6 3 0 0 0)).op = 114 ∧
    (16 ≤ (insOf (insW 114 16 6 3 0 0 0)).dst ∨ 16 ≤ (insOf (insW 114 16 6 3 0 0 0)).b) ∧
    Issues (cellDo (insW 115 16 6 3 0 0 0)) 0 (insOf (insW 115 16 6 3 0 0 0)) run0 [sxR 6, vxR 3, vxR 16] (issueC (insW 115 16 6 3 0 0 0) [sxR 6, vxR 3, vxR 16]) ∧
    (insOf (insW 115 16 6 3 0 0 0)).op = 115 ∧
    (16 ≤ (insOf (insW 115 16 6 3 0 0 0)).dst ∨ 16 ≤ (insOf (insW 115 16 6 3 0 0 0)).b) ∧
    Issues (cellDo (insW 116 1 6 3 1 0 0)) 0 (insOf (insW 116 1 6 3 1 0 0)) run0 [sxR 6, vxR 3, vxR 1] (issueC (insW 116 1 6 3 1 0 0) [sxR 6, vxR 3, vxR 1]) ∧
    (insOf (insW 116 1 6 3 1 0 0)).op = 116 ∧
    (16 ≤ (insOf (insW 116 1 6 3 1 0 0)).dst ∨ 16 ≤ (insOf (insW 116 1 6 3 1 0 0)).b ∨ ((insOf (insW 116 1 6 3 1 0 0)).fmt ≠ 0 ∧ (insOf (insW 116 1 6 3 1 0 0)).fmt ≠ 6)) ∧
    Issues (cellDo (insW 113 0 6 16 7 0 0)) 0 (insOf (insW 113 0 6 16 7 0 0)) run0 (sxR (insOf (insW 113 0 6 16 7 0 0)).a :: vxR (insOf (insW 113 0 6 16 7 0 0)).b :: rndRegs (insOf (insW 113 0 6 16 7 0 0))) (issueC (insW 113 0 6 16 7 0 0) (sxR 6 :: vxR 16 :: rndRegs (insOf (insW 113 0 6 16 7 0 0)))) ∧
    (insOf (insW 113 0 6 16 7 0 0)).op = 113 ∧
    16 ≤ (insOf (insW 113 0 6 16 7 0 0)).b :=
  by and_intros <;> first | decide +kernel | (constructor <;> decide +kernel)

theorem met_LoopAndWait :
    (Issues (cellDo (insW 240 0 4 0 0 0 0)) 0 (insOf (insW 240 0 4 0 0 0 0)) run0 (if (insOf (insW 240 0 4 0 0 0 0)).a = 0 then [] else [sxR (insOf (insW 240 0 4 0 0 0 0)).a]) (issueC (insW 240 0 4 0 0 0 0) [sxR 4])) ∧
    (insOf (insW 240 0 4 0 0 0 0)).op = 240 ∧
    (insOf (insW 240 0 4 0 0 0 0)).a ≠ 0 ∧
    (insOf (insW 240 0 4 0 0 0 0)).a < 24 ∧
    (Issues (looped 4 1 (insW 240 0 0 0 0 0 196610)) 0 (insOf (insW 240 0 0 0 0 0 196610)) run0 (if (insOf (insW 240 0 0 0 0 0 196610)).a = 0 then [] else [sxR (insOf (insW 240 0 0 0 0 0 196610)).a]) (issueC (insW 240 0 0 0 0 0 196610) [])) ∧
    (insOf (insW 240 0 0 0 0 0 196610)).op = 240 ∧
    ((insOf (insW 240 0 0 0 0 0 196610)).a = 0 ∨ 24 ≤ (insOf (insW 240 0 0 0 0 0 196610)).a) ∧
    4 ≤ ((looped 4 1 (insW 240 0 0 0 0 0 196610)).cell 0).loops.length ∧
    (Issues (looped 3 1 (insW 240 0 0 0 0 0 196610)) 0 (insOf (insW 240 0 0 0 0 0 196610)) run0 (if (insOf (insW 240 0 0 0 0 0 196610)).a = 0 then [] else [sxR (insOf (insW 240 0 0 0 0 0 196610)).a]) (issueC (insW 240 0 0 0 0 0 196610) [])) ∧
    ((looped 3 1 (insW 240 0 0 0 0 0 196610)).cell 0).loops.length < 4 ∧
    ((if (insOf (insW 240 0 0 0 0 0 196610)).a = 0 then (insOf (insW 240 0 0 0 0 0 196610)).imm % 65536 else BitVec.toNat (((looped 3 1 (insW 240 0 0 0 0 0 196610)).cell 0).sxw (insOf (insW 240 0 0 0 0 0 196610)).a)) ≠ 0) ∧
    (insOf (insW 240 0 0 0 0 0 196610)).imm / 65536 ≠ 0 ∧
    (Issues (looped 3 1 (insW 240 0 0 0 0 0 196608)) 0 (insOf (insW 240 0 0 0 0 0 196608)) run0 (if (insOf (insW 240 0 0 0 0 0 196608)).a = 0 then [] else [sxR (insOf (insW 240 0 0 0 0 0 196608)).a]) (issueC (insW 240 0 0 0 0 0 196608) [])) ∧
    (insOf (insW 240 0 0 0 0 0 196608)).op = 240 ∧
    ((insOf (insW 240 0 0 0 0 0 196608)).a = 0 ∨ 24 ≤ (insOf (insW 240 0 0 0 0 0 196608)).a) ∧
    ((looped 3 1 (insW 240 0 0 0 0 0 196608)).cell 0).loops.length < 4 ∧
    ((if (insOf (insW 240 0 0 0 0 0 196608)).a = 0 then (insOf (insW 240 0 0 0 0 0 196608)).imm % 65536 else BitVec.toNat (((looped 3 1 (insW 240 0 0 0 0 0 196608)).cell 0).sxw (insOf (insW 240 0 0 0 0 0 196608)).a)) = 0) ∧
    (Issues (cellDo (insW 240 0 24 0 0 0 0)) 0 (insOf (insW 240 0 24 0 0 0 0)) run0 (if (insOf (insW 240 0 24 0 0 0 0)).a = 0 then [] else [sxR (insOf (insW 240 0 24 0 0 0 0)).a]) (issueC (insW 240 0 24 0 0 0 0) [sxR 24])) ∧
    (insOf (insW 240 0 24 0 0 0 0)).op = 240 ∧
    ((insOf (insW 240 0 24 0 0 0 0)).a = 0 ∨ 24 ≤ (insOf (insW 240 0 24 0 0 0 0)).a) ∧
    ((cellDo (insW 240 0 24 0 0 0 0)).cell 0).loops.length < 4 ∧
    ((if (insOf (insW 240 0 24 0 0 0 0)).a = 0 then (insOf (insW 240 0 24 0 0 0 0)).imm % 65536 else BitVec.toNat (((cellDo (insW 240 0 24 0 0 0 0)).cell 0).sxw (insOf (insW 240 0 24 0 0 0 0)).a)) ≠ 0) ∧
    (insOf (insW 240 0 24 0 0 0 0)).imm / 65536 = 0 ∧
    Issues (looped 2 1 (insW 0 10 0 0 0 0 0)) 0 (insOf (insW 0 10 0 0 0 0 0)) run0 [] (issueC (insW 0 10 0 0 0 0 0) []) ∧
    (insOf (insW 0 10 0 0 0 0 0)).op = 0 ∧
    ((looped 2 1 (insW 0 10 0 0 0 0 0)).cell 0).loops = [(0, ((looped 2 1 (insW 0 10 0 0 0 0 0)).cell 0).pos + 1, 1), (0, 1, 1)] ∧
    Issues (looped 1 0 (insW 0 10 0 0 0 0 0)) 0 (insOf (insW 0 10 0 0 0 0 0)) run0 [] (issueC (insW 0 10 0 0 0 0 0) []) ∧
    ((looped 1 0 (insW 0 10 0 0 0 0 0)).cell 0).loops = [(0, ((looped 1 0 (insW 0 10 0 0 0 0 0)).cell 0).pos + 1, 0)] ∧
    Issues (cellDo (insW 241 10 0 0 0 0 100)) 0 (insOf (insW 241 10 0 0 0 0 100)) run0 [] (issueC (insW 241 10 0 0 0 0 100) []) ∧
    (insOf (insW 241 10 0 0 0 0 100)).op = 241 ∧
    issueC (insW 241 10 0 0 0 0 100) [] ≤ run0.slot0 + (insOf (insW 241 10 0 0 0 0 100)).imm ∧
    Issues (cellOf cellNext run0 (insW 241 10 0 0 0 0 0)) 0 (insOf (insW 241 10 0 0 0 0 0)) run0 [] 9601 ∧
    (insOf (insW 241 10 0 0 0 0 0)).op = 241 ∧
    run0.slot0 + (insOf (insW 241 10 0 0 0 0 0)).imm < 9601 :=
  by and_intros <;> first | decide +kernel | (constructor <;> decide +kernel)

theorem met_CellFaults :
    (up.cell 0).run = none ∧
    Instr.sadd 0 ∈ cellCommands 0 ∧
    ((cellBadIns 0).cell 0).run = some run0.id ∧
    (cellBadIns 0).runOf run0.id = some run0 ∧
    run0.fault = none ∧
    (cellBadIns 0).running = true ∧
    (cellBadIns 0).poisoned (ibufKey 0 (8 * (((cellBadIns 0).cell 0).pos % 256))) 8 = true ∧
    Issues (cellDo (insW 11 10 0 0 0 0 0)) 0 (insOf (insW 11 10 0 0 0 0 0)) run0 [] (issueC (insW 11 10 0 0 0 0 0) []) ∧
    (opListed (insOf (insW 11 10 0 0 0 0 0)).op = false ∨ (insOf (insW 11 10 0 0 0 0 0)).op = 136 ∧ ((insOf (insW 11 10 0 0 0 0 0)).imm % 256 = 0 ∨ 4 < (insOf (insW 11 10 0 0 0 0 0)).imm % 256)) ∧
    ((cellDo 0).cell 0).run = some run0.id ∧
    (cellDo 0).runOf run0.id = some run0 ∧
    Issues (cellDo (insW 136 0 10 11 0 0 5)) 0 (insOf (insW 136 0 10 11 0 0 5)) run0 [] (issueC (insW 136 0 10 11 0 0 5) []) ∧
    (opListed (insOf (insW 136 0 10 11 0 0 5)).op = false ∨ (insOf (insW 136 0 10 11 0 0 5)).op = 136 ∧ ((insOf (insW 136 0 10 11 0 0 5)).imm % 256 = 0 ∨ 4 < (insOf (insW 136 0 10 11 0 0 5)).imm % 256)) ∧
    ((cellDo (insW 1 23 4 5 12 0 0)).cell 0).run = some run0.id ∧
    (cellDo (insW 1 23 4 5 12 0 0)).runOf run0.id = some run0 ∧
    (cellDo (insW 1 23 4 5 12 0 0)).running = true ∧
    (cellDo (insW 1 23 4 5 12 0 0)).poisoned (ibufKey 0 (8 * (((cellDo (insW 1 23 4 5 12 0 0)).cell 0).pos % 256))) 8 = false ∧
    ((cellDo (insW 1 23 4 5 12 0 0)).fetch 0).bad = true ∧
    (1, Instr.sadd 0) ∈ opCommands 0 ∧
    ((cellDo (insW 1 23 4 5 12 0 0)).fetch 0).op = 1 ∧
    (0xFF, Instr.halt 0 true) ∈ opCommands 0 :=
  by and_intros <;> first | decide +kernel | (constructor <;> decide +kernel)

theorem met_LaunchEnds :
    Issues (cellDo (insW 242 10 0 0 0 0 12583932)) 0 (insOf (insW 242 10 0 0 0 0 12583932)) run0 [] (issueC (insW 242 10 0 0 0 0 12583932) []) ∧
    (insOf (insW 242 10 0 0 0 0 12583932)).op = 242 ∧
    bitsOf (insOf (insW 242 10 0 0 0 0 12583932)).imm 9 0 + (bitsOf (insOf (insW 242 10 0 0 0 0 12583932)).imm 26 22 + 1) ≤ 1024 ∧
    bitsOf (insOf (insW 242 10 0 0 0 0 12583932)).imm 20 16 + (bitsOf (insOf (insW 242 10 0 0 0 0 12583932)).imm 26 22 + 1) ≤ 32 ∧
    memWf (cellDo (insW 242 10 0 0 0 0 12583932)).mem = true ∧
    memWf (cellDo (insW 242 10 0 0 0 0 12583932)).flash = true ∧
    Issues (cellDo (insW 242 10 0 0 0 0 12583933)) 0 (insOf (insW 242 10 0 0 0 0 12583933)) run0 [] (issueC (insW 242 10 0 0 0 0 12583933) []) ∧
    (insOf (insW 242 10 0 0 0 0 12583933)).op = 242 ∧
    (1024 < bitsOf (insOf (insW 242 10 0 0 0 0 12583933)).imm 9 0 + (bitsOf (insOf (insW 242 10 0 0 0 0 12583933)).imm 26 22 + 1) ∨ 32 < bitsOf (insOf (insW 242 10 0 0 0 0 12583933)).imm 20 16 + (bitsOf (insOf (insW 242 10 0 0 0 0 12583933)).imm 26 22 + 1)) ∧
    Issues (cellDo2 (insW 255 10 0 0 0 0 0)) 0 (insOf (insW 255 10 0 0 0 0 0)) run2 [] (issueC (insW 255 10 0 0 0 0 0) []) ∧
    (insOf (insW 255 10 0 0 0 0 0)).op = 255 ∧
    run2.fault = none ∧
    256 ∈ run2.cells ∧
    Issues (cellRing (insW 255 10 0 0 0 0 0)) 0 (insOf (insW 255 10 0 0 0 0 0)) runRing [] (issueC (insW 255 10 0 0 0 0 0) []) ∧
    runRing.fault = none ∧
    (∀ j ∈ runRing.cells, j = 0) ∧
    runRing.stream = none ∧
    runRing.flags < 256 ∧
    cellFaulted.runOf 0 = some runBad ∧
    runBad.fault = some (3, 0, 0, 9590) ∧
    cellFaulted.groups = [] ∧
    runBad.stream = none ∧
    (cellDo 0).runOf 0 = some run0 ∧
    run0.fault = none :=
  by and_intros <;> first | decide +kernel | (constructor <;> decide +kernel)

theorem met_CellMessages :
    Issues (cellDo (insW 128 10 15 0 0 0 10340)) 0 (insOf (insW 128 10 15 0 0 0 10340)) run0 [vxR (insOf (insW 128 10 15 0 0 0 10340)).a] (issueC (insW 128 10 15 0 0 0 10340) [vxR 15]) ∧
    (insOf (insW 128 10 15 0 0 0 10340)).op = 128 ∧
    (insOf (insW 128 10 15 0 0 0 10340)).a < 16 ∧
    (cellDo (insW 128 10 15 0 0 0 10340)).columnPav (bitsOf (insOf (insW 128 10 15 0 0 0 10340)).imm 7 0) = some run0.l.pav ∧
    Issues (noPav (insW 128 10 15 0 0 0 10340)) 0 (insOf (insW 128 10 15 0 0 0 10340)) run0 [vxR (insOf (insW 128 10 15 0 0 0 10340)).a] (issueC (insW 128 10 15 0 0 0 10340) [vxR 15]) ∧
    (noPav (insW 128 10 15 0 0 0 10340)).columnPav (bitsOf (insOf (insW 128 10 15 0 0 0 10340)).imm 7 0) ≠ some run0.l.pav ∧
    up.cel.mesh = [] ∧
    (meshed 3 7).cel.mesh = [flit0 3] ∧
    (flit0 3).dir = 0 ∧
    (flit0 3).edge = false ∧
    (flit0 3).at_ = 256 * 0 + 0 ∧
    (flit0 3).dst = 256 * 3 + 0 ∧
    (meshed 3 7).cel.meshCyc ≤ (flit0 3).cyc ∧
    ((meshed 3 7).cell (flit0 3).dst).inq.length < 8 ∧
    (meshed 3 8).cel.mesh = [flit0 3] ∧
    (meshed 3 8).cel.meshCyc ≤ (flit0 3).cyc ∧
    8 ≤ ((meshed 3 8).cell (flit0 3).dst).inq.length ∧
    (up.cell 0).inq = [] ∧
    ((queued [(9600, [1, 2])] (insW 129 15 0 0 0 0 0)).cell 0).inq ≠ [] ∧
    Issues (queued [(9600, [1, 2])] (insW 129 15 0 0 0 0 0)) 0 (insOf (insW 129 15 0 0 0 0 0)) run0 [] (issueC (insW 129 15 0 0 0 0 0) []) ∧
    (insOf (insW 129 15 0 0 0 0 0)).op = 129 ∧
    (insOf (insW 129 15 0 0 0 0 0)).dst < 16 ∧
    ((queued [(9600, [1, 2])] (insW 129 15 0 0 0 0 0)).cell 0).inq = [(9600, [1, 2])] ∧
    9600 ≤ issueC (insW 129 15 0 0 0 0 0) [] ∧
    0 < (queued [(9600, [1, 2])] (insW 129 15 0 0 0 0 0)).recvLimit ∧
    Issues (queued [(9601, [1, 2])] (insW 129 15 0 0 0 0 0)) 0 (insOf (insW 129 15 0 0 0 0 0)) run0 [] (issueC (insW 129 15 0 0 0 0 0) []) ∧
    ((queued [(9601, [1, 2])] (insW 129 15 0 0 0 0 0)).cell 0).inq = [(9601, [1, 2])] ∧
    issueC (insW 129 15 0 0 0 0 0) [] < 9601 ∧
    9601 - issueC (insW 129 15 0 0 0 0 0) [] < (queued [(9601, [1, 2])] (insW 129 15 0 0 0 0 0)).recvLimit ∧
    Issues (queued [(19600, [1, 2])] (insW 129 15 0 0 0 0 0)) 0 (insOf (insW 129 15 0 0 0 0 0)) run0 [] (issueC (insW 129 15 0 0 0 0 0) []) ∧
    ((queued [(19600, [1, 2])] (insW 129 15 0 0 0 0 0)).cell 0).inq = [(19600, [1, 2])] ∧
    (queued [(19600, [1, 2])] (insW 129 15 0 0 0 0 0)).recvLimit ≤ 19600 - issueC (insW 129 15 0 0 0 0 0) [] ∧
    Issues (queued [] (insW 129 15 0 0 0 0 0)) 0 (insOf (insW 129 15 0 0 0 0 0)) run0 [] (issueC (insW 129 15 0 0 0 0 0) []) ∧
    ((queued [] (insW 129 15 0 0 0 0 0)).cell 0).inq = [] ∧
    Issues (cellDo (insW 128 10 16 0 0 0 10340)) 0 (insOf (insW 128 10 16 0 0 0 10340)) run0 [vxR 16] (issueC (insW 128 10 16 0 0 0 10340) [vxR 16]) ∧
    (insOf (insW 128 10 16 0 0 0 10340)).op = 128 ∧
    16 ≤ (insOf (insW 128 10 16 0 0 0 10340)).a ∧
    (meshed 0 7).cel.mesh = [flit0 0] ∧
    (flit0 0).dst = 256 * 0 + 0 ∧
    (0 : Nat) ≠ 3 ∧
    (meshed 0 7).cel.meshCyc ≤ (flit0 0).cyc ∧
    Issues (queued [(9600, [1, 2])] (insW 129 16 0 0 0 0 0)) 0 (insOf (insW 129 16 0 0 0 0 0)) run0 [] (issueC (insW 129 16 0 0 0 0 0) []) ∧
    (insOf (insW 129 16 0 0 0 0 0)).op = 129 ∧
    16 ≤ (insOf (insW 129 16 0 0 0 0 0)).dst ∧
    ((queued [(9600, [1, 2])] (insW 129 16 0 0 0 0 0)).cell 0).inq ≠ [] ∧
    run0.halted 9601 = false ∧
    run0.halted (issueC (insW 129 15 0 0 0 0 0) [] + (queued [(19600, [1, 2])] (insW 129 15 0 0 0 0 0)).recvLimit) = false ∧
    run0.halted (issueC (insW 129 15 0 0 0 0 0) [] + (queued [] (insW 129 15 0 0 0 0 0)).recvLimit) = false ∧
    Issues (cellOf { cell1 with inq := [(9700, [1, 2])] } runBad (insW 129 15 0 0 0 0 0)) 0 (insOf (insW 129 15 0 0 0 0 0)) runBad [] (issueC (insW 129 15 0 0 0 0 0) []) ∧
    runBad.halted (min (max (issueC (insW 129 15 0 0 0 0 0) []) 9700) (issueC (insW 129 15 0 0 0 0 0) [] + up.recvLimit)) = true ∧
    Issues (cellOf { cell1 with inq := [] } runBad (insW 129 15 0 0 0 0 0)) 0 (insOf (insW 129 15 0 0 0 0 0)) runBad [] (issueC (insW 129 15 0 0 0 0 0) []) ∧
    runBad.halted (issueC (insW 129 15 0 0 0 0 0) [] + up.recvLimit) = true :=
  by and_intros <;> first | decide +kernel | (constructor <;> decide +kernel)

theorem met_GatewayPosts_1 :
    memWf (posting 255 0 (insW 136 0 10 11 0 0 257)).mem = true ∧
    memWf (posting 255 0 (insW 136 0 10 11 0 0 257)).flash = true ∧
    Issues (posting 255 0 (insW 136 0 10 11 0 0 257)) 0 (insOf (insW 136 0 10 11 0 0 257)) run0 [sxR (insOf (insW 136 0 10 11 0 0 257)).a, sxR (insOf (insW 136 0 10 11 0 0 257)).b] (issueC (insW 136 0 10 11 0 0 257) [sxR 10, sxR 11]) ∧
    (insOf (insW 136 0 10 11 0 0 257)).op = 136 ∧
    (1, Instr.gpostEmitSched 0) ∈ [(1, Instr.gpostEmitSched 0), (2, Instr.gpostEmitUnsched 0), (3, Instr.gpostFetch 0), (4, Instr.gpostPut 0)] ∧
    (insOf (insW 136 0 10 11 0 0 257)).imm % 256 = 1 ∧
    256 < BitVec.toNat (((posting 255 0 (insW 136 0 10 11 0 0 257)).cell 0).sxw (insOf (insW 136 0 10 11 0 0 257)).a) % 256 + (bitsOf (insOf (insW 136 0 10 11 0 0 257)).imm 14 8 + 1) ∧
    memWf (postBad (insW 136 0 10 11 0 0 257)).mem = true ∧
    memWf (postBad (insW 136 0 10 11 0 0 257)).flash = true ∧
    Issues (postBad (insW 136 0 10 11 0 0 257)) 0 (insOf (insW 136 0 10 11 0 0 257)) run0 [sxR (insOf (insW 136 0 10 11 0 0 257)).a, sxR (insOf (insW 136 0 10 11 0 0 257)).b] (issueC (insW 136 0 10 11 0 0 257) [sxR 10, sxR 11]) ∧
    BitVec.toNat (((postBad (insW 136 0 10 11 0 0 257)).cell 0).sxw (insOf (insW 136 0 10 11 0 0 257)).a) % 256 + (bitsOf (insOf (insW 136 0 10 11 0 0 257)).imm 14 8 + 1) ≤ 256 ∧
    (3 ≤ 1 → BitVec.toNat (((postBad (insW 136 0 10 11 0 0 257)).cell 0).sxw (insOf (insW 136 0 10 11 0 0 257)).b) + (bitsOf (insOf (insW 136 0 10 11 0 0 257)).imm 14 8 + 1) ≤ 262144 ∧ bitsOf (insOf (insW 136 0 10 11 0 0 257)).imm 18 16 / 4 = cellDie 0 ∧ (postBad (insW 136 0 10 11 0 0 257)).unitPav (bitsOf (insOf (insW 136 0 10 11 0 0 257)).imm 18 16) = some run0.l.pav) ∧
    (¬((postBad (insW 136 0 10 11 0 0 257)).fetched 0 (issueC (insW 136 0 10 11 0 0 257) [sxR 10, sxR 11])).poisoned (cellKey 0 (64 * (BitVec.toNat (((postBad (insW 136 0 10 11 0 0 257)).cell 0).sxw (insOf (insW 136 0 10 11 0 0 257)).a) % 256))) (64 * (bitsOf (insOf (insW 136 0 10 11 0 0 257)).imm 14 8 + 1)) = false) ∧
    memWf (postFull (insW 136 0 10 11 0 0 257)).mem = true ∧
    memWf (postFull (insW 136 0 10 11 0 0 257)).flash = true ∧
    Issues (postFull (insW 136 0 10 11 0 0 257)) 0 (insOf (insW 136 0 10 11 0 0 257)) run0 [sxR (insOf (insW 136 0 10 11 0 0 257)).a, sxR (insOf (insW 136 0 10 11 0 0 257)).b] (issueC (insW 136 0 10 11 0 0 257) [sxR 10, sxR 11]) ∧
    BitVec.toNat (((postFull (insW 136 0 10 11 0 0 257)).cell 0).sxw (insOf (insW 136 0 10 11 0 0 257)).a) % 256 + (bitsOf (insOf (insW 136 0 10 11 0 0 257)).imm 14 8 + 1) ≤ 256 ∧
    (3 ≤ 1 → BitVec.toNat (((postFull (insW 136 0 10 11 0 0 257)).cell 0).sxw (insOf (insW 136 0 10 11 0 0 257)).b) + (bitsOf (insOf (insW 136 0 10 11 0 0 257)).imm 14 8 + 1) ≤ 262144 ∧ bitsOf (insOf (insW 136 0 10 11 0 0 257)).imm 18 16 / 4 = cellDie 0 ∧ (postFull (insW 136 0 10 11 0 0 257)).unitPav (bitsOf (insOf (insW 136 0 10 11 0 0 257)).imm 18 16) = some run0.l.pav) ∧
    (1 ≠ 3 → ((postFull (insW 136 0 10 11 0 0 257)).fetched 0 (issueC (insW 136 0 10 11 0 0 257) [sxR 10, sxR 11])).poisoned (cellKey 0 (64 * (BitVec.toNat (((postFull (insW 136 0 10 11 0 0 257)).cell 0).sxw (insOf (insW 136 0 10 11 0 0 257)).a) % 256))) (64 * (bitsOf (insOf (insW 136 0 10 11 0 0 257)).imm 14 8 + 1)) = false) ∧
    ((postFull (insW 136 0 10 11 0 0 257)).post (cellCluster 0) (bitsOf (insOf (insW 136 0 10 11 0 0 257)).imm 14 8 + 1) (issueC (insW 136 0 10 11 0 0 257) [sxR 10, sxR 11])).isSome = false ∧
    memWf (posting 254 262143 (insW 136 0 10 11 0 0 259)).mem = true ∧
    memWf (posting 254 262143 (insW 136 0 10 11 0 0 259)).flash = true ∧
    Issues (posting 254 262143 (insW 136 0 10 11 0 0 259)) 0 (insOf (insW 136 0 10 11 0 0 259)) run0 [sxR (insOf (insW 136 0 10 11 0 0 259)).a, sxR (insOf (insW 136 0 10 11 0 0 259)).b] (issueC (insW 136 0 10 11 0 0 259) [sxR 10, sxR 11]) ∧
    (insOf (insW 136 0 10 11 0 0 259)).op = 136 ∧
    (3, Instr.gpostFetch 0) ∈ [(1, Instr.gpostEmitSched 0), (2, Instr.gpostEmitUnsched 0), (3, Instr.gpostFetch 0), (4, Instr.gpostPut 0)] ∧
    (insOf (insW 136 0 10 11 0 0 259)).imm % 256 = 3 ∧
    BitVec.toNat (((posting 254 262143 (insW 136 0 10 11 0 0 259)).cell 0).sxw (insOf (insW 136 0 10 11 0 0 259)).a) % 256 + (bitsOf (insOf (insW 136 0 10 11 0 0 259)).imm 14 8 + 1) ≤ 256 ∧
    262144 < BitVec.toNat (((posting 254 262143 (insW 136 0 10 11 0 0 259)).cell 0).sxw (insOf (insW 136 0 10 11 0 0 259)).b) + (bitsOf (insOf (insW 136 0 10 11 0 0 259)).imm 14 8 + 1) ∧
    memWf (posting 254 262142 (insW 136 0 10 11 0 0 262403)).mem = true ∧
    memWf (posting 254 262142 (insW 136 0 10 11 0 0 262403)).flash = true ∧
    Issues (posting 254 262142 (insW 136 0 10 11 0 0 262403)) 0 (insOf (insW 136 0 10 11 0 0 262403)) run0 [sxR (insOf (insW 136 0 10 11 0 0 262403)).a, sxR (insOf (insW 136 0 10 11 0 0 262403)).b] (issueC (insW 136 0 10 11 0 0 262403) [sxR 10, sxR 11]) ∧
    (insOf (insW 136 0 10 11 0 0 262403)).op = 136 ∧
    (insOf (insW 136 0 10 11 0 0 262403)).imm % 256 = 3 ∧
    BitVec.toNat (((posting 254 262142 (insW 136 0 10 11 0 0 262403)).cell 0).sxw (insOf (insW 136 0 10 11 0 0 262403)).a) % 256 + (bitsOf (insOf (insW 136 0 10 11 0 0 262403)).imm 14 8 + 1) ≤ 256 ∧
    BitVec.toNat (((posting 254 262142 (insW 136 0 10 11 0 0 262403)).cell 0).sxw (insOf (insW 136 0 10 11 0 0 262403)).b) + (bitsOf (insOf (insW 136 0 10 11 0 0 262403)).imm 14 8 + 1) ≤ 262144 ∧
    (¬(BitVec.toNat (((posting 254 262142 (insW 136 0 10 11 0 0 262403)).cell 0).sxw (insOf (insW 136 0 10 11 0 0 262403)).b) + (bitsOf (insOf (insW 136 0 10 11 0 0 262403)).imm 14 8 + 1) ≤ 262144 ∧ bitsOf (insOf (insW 136 0 10 11 0 0 262403)).imm 18 16 / 4 = cellDie 0 ∧ (posting 254 262142 (insW 136 0 10 11 0 0 262403)).unitPav (bitsOf (insOf (insW 136 0 10 11 0 0 262403)).imm 18 16) = some run0.l.pav)) :=
  by and_intros <;> first | decide +kernel | (constructor <;> decide +kernel) | simp

theorem met_GatewayPosts_2 :
    memWf (posting 254 262142 (insW 136 0 10 11 0 0 260)).mem = true ∧
    memWf (posting 254 262142 (insW 136 0 10 11 0 0 260)).flash = true ∧
    Issues (posting 254 262142 (insW 136 0 10 11 0 0 260)) 0 (insOf (insW 136 0 10 11 0 0 260)) run0 [sxR (insOf (insW 136 0 10 11 0 0 260)).a, sxR (insOf (insW 136 0 10 11 0 0 260)).b] (issueC (insW 136 0 10 11 0 0 260) [sxR 10, sxR 11]) ∧
    (insOf (insW 136 0 10 11 0 0 260)).op = 136 ∧
    BitVec.toNat (((posting 254 262142 (insW 136 0 10 11 0 0 260)).cell 0).sxw (insOf (insW 136 0 10 11 0 0 260)).a) % 256 + (bitsOf (insOf (insW 136 0 10 11 0 0 260)).imm 14 8 + 1) ≤ 256 ∧
    ((posting 254 262142 (insW 136 0 10 11 0 0 260)).post (cellCluster 0) (bitsOf (insOf (insW 136 0 10 11 0 0 260)).imm 14 8 + 1) (issueC (insW 136 0 10 11 0 0 260) [sxR 10, sxR 11])).isSome = true ∧
    (insOf (insW 136 0 10 11 0 0 260)).imm % 256 = 4 ∧
    (BitVec.toNat (((posting 254 262142 (insW 136 0 10 11 0 0 260)).cell 0).sxw (insOf (insW 136 0 10 11 0 0 260)).b) + (bitsOf (insOf (insW 136 0 10 11 0 0 260)).imm 14 8 + 1) ≤ 262144 ∧ bitsOf (insOf (insW 136 0 10 11 0 0 260)).imm 18 16 / 4 = cellDie 0 ∧ (posting 254 262142 (insW 136 0 10 11 0 0 260)).unitPav (bitsOf (insOf (insW 136 0 10 11 0 0 260)).imm 18 16) = some run0.l.pav) ∧
    ((posting 254 262142 (insW 136 0 10 11 0 0 260)).fetched 0 (issueC (insW 136 0 10 11 0 0 260) [sxR 10, sxR 11])).poisoned (cellKey 0 (64 * (BitVec.toNat (((posting 254 262142 (insW 136 0 10 11 0 0 260)).cell 0).sxw (insOf (insW 136 0 10 11 0 0 260)).a) % 256))) (64 * (bitsOf (insOf (insW 136 0 10 11 0 0 260)).imm 14 8 + 1)) = false ∧
    memWf (posting 254 262142 (insW 136 0 10 11 0 0 259)).mem = true ∧
    memWf (posting 254 262142 (insW 136 0 10 11 0 0 259)).flash = true ∧
    Issues (posting 254 262142 (insW 136 0 10 11 0 0 259)) 0 (insOf (insW 136 0 10 11 0 0 259)) run0 [sxR (insOf (insW 136 0 10 11 0 0 259)).a, sxR (insOf (insW 136 0 10 11 0 0 259)).b] (issueC (insW 136 0 10 11 0 0 259) [sxR 10, sxR 11]) ∧
    BitVec.toNat (((posting 254 262142 (insW 136 0 10 11 0 0 259)).cell 0).sxw (insOf (insW 136 0 10 11 0 0 259)).a) % 256 + (bitsOf (insOf (insW 136 0 10 11 0 0 259)).imm 14 8 + 1) ≤ 256 ∧
    ((posting 254 262142 (insW 136 0 10 11 0 0 259)).post (cellCluster 0) (bitsOf (insOf (insW 136 0 10 11 0 0 259)).imm 14 8 + 1) (issueC (insW 136 0 10 11 0 0 259) [sxR 10, sxR 11])).isSome = true ∧
    (BitVec.toNat (((posting 254 262142 (insW 136 0 10 11 0 0 259)).cell 0).sxw (insOf (insW 136 0 10 11 0 0 259)).b) + (bitsOf (insOf (insW 136 0 10 11 0 0 259)).imm 14 8 + 1) ≤ 262144 ∧ bitsOf (insOf (insW 136 0 10 11 0 0 259)).imm 18 16 / 4 = cellDie 0 ∧ (posting 254 262142 (insW 136 0 10 11 0 0 259)).unitPav (bitsOf (insOf (insW 136 0 10 11 0 0 259)).imm 18 16) = some run0.l.pav) ∧
    memWf (posting 254 3 (insW 136 0 10 11 0 0 257)).mem = true ∧
    memWf (posting 254 3 (insW 136 0 10 11 0 0 257)).flash = true ∧
    Issues (posting 254 3 (insW 136 0 10 11 0 0 257)) 0 (insOf (insW 136 0 10 11 0 0 257)) run0 [sxR (insOf (insW 136 0 10 11 0 0 257)).a, sxR (insOf (insW 136 0 10 11 0 0 257)).b] (issueC (insW 136 0 10 11 0 0 257) [sxR 10, sxR 11]) ∧
    BitVec.toNat (((posting 254 3 (insW 136 0 10 11 0 0 257)).cell 0).sxw (insOf (insW 136 0 10 11 0 0 257)).a) % 256 + (bitsOf (insOf (insW 136 0 10 11 0 0 257)).imm 14 8 + 1) ≤ 256 ∧
    ((posting 254 3 (insW 136 0 10 11 0 0 257)).post (cellCluster 0) (bitsOf (insOf (insW 136 0 10 11 0 0 257)).imm 14 8 + 1) (issueC (insW 136 0 10 11 0 0 257) [sxR 10, sxR 11])).isSome = true ∧
    ((posting 254 3 (insW 136 0 10 11 0 0 257)).fetched 0 (issueC (insW 136 0 10 11 0 0 257) [sxR 10, sxR 11])).poisoned (cellKey 0 (64 * (BitVec.toNat (((posting 254 3 (insW 136 0 10 11 0 0 257)).cell 0).sxw (insOf (insW 136 0 10 11 0 0 257)).a) % 256))) (64 * (bitsOf (insOf (insW 136 0 10 11 0 0 257)).imm 14 8 + 1)) = false ∧
    ((gpU (posting 254 3 (insW 136 0 10 11 0 0 257)) (insW 136 0 10 11 0 0 257)).lookup (bitsOf (beNat (match (posting 254 3 (insW 136 0 10 11 0 0 257)).img with | some m => m.tmpl.getD (bitsOf (BitVec.toNat (((posting 254 3 (insW 136 0 10 11 0 0 257)).cell 0).sxw (insOf (insW 136 0 10 11 0 0 257)).a)) 18 8) [] | none => [])) 95 80) (posting 254 3 (insW 136 0 10 11 0 0 257)).hopInit = Found.local 8 (bitsOf (beNat (match (posting 254 3 (insW 136 0 10 11 0 0 257)).img with | some m => m.tmpl.getD (bitsOf (BitVec.toNat (((posting 254 3 (insW 136 0 10 11 0 0 257)).cell 0).sxw (insOf (insW 136 0 10 11 0 0 257)).a)) 18 8) [] | none => [])) 113 108)) ∧
    (posting 254 3 (insW 136 0 10 11 0 0 257)).egrUp 8 = true ∧
    memWf (posting 510 3 (insW 136 0 10 11 0 0 258)).mem = true ∧
    memWf (posting 510 3 (insW 136 0 10 11 0 0 258)).flash = true ∧
    Issues (posting 510 3 (insW 136 0 10 11 0 0 258)) 0 (insOf (insW 136 0 10 11 0 0 258)) run0 [sxR (insOf (insW 136 0 10 11 0 0 258)).a, sxR (insOf (insW 136 0 10 11 0 0 258)).b] (issueC (insW 136 0 10 11 0 0 258) [sxR 10, sxR 11]) ∧
    (insOf (insW 136 0 10 11 0 0 258)).op = 136 ∧
    BitVec.toNat (((posting 510 3 (insW 136 0 10 11 0 0 258)).cell 0).sxw (insOf (insW 136 0 10 11 0 0 258)).a) % 256 + (bitsOf (insOf (insW 136 0 10 11 0 0 258)).imm 14 8 + 1) ≤ 256 ∧
    ((posting 510 3 (insW 136 0 10 11 0 0 258)).post (cellCluster 0) (bitsOf (insOf (insW 136 0 10 11 0 0 258)).imm 14 8 + 1) (issueC (insW 136 0 10 11 0 0 258) [sxR 10, sxR 11])).isSome = true ∧
    ((posting 510 3 (insW 136 0 10 11 0 0 258)).fetched 0 (issueC (insW 136 0 10 11 0 0 258) [sxR 10, sxR 11])).poisoned (cellKey 0 (64 * (BitVec.toNat (((posting 510 3 (insW 136 0 10 11 0 0 258)).cell 0).sxw (insOf (insW 136 0 10 11 0 0 258)).a) % 256))) (64 * (bitsOf (insOf (insW 136 0 10 11 0 0 258)).imm 14 8 + 1)) = false ∧
    (insOf (insW 136 0 10 11 0 0 258)).imm % 256 = 2 ∧
    ((gpU (posting 510 3 (insW 136 0 10 11 0 0 258)) (insW 136 0 10 11 0 0 258)).lookup (bitsOf (beNat (match (posting 510 3 (insW 136 0 10 11 0 0 258)).img with | some m => m.tmpl.getD (bitsOf (BitVec.toNat (((posting 510 3 (insW 136 0 10 11 0 0 258)).cell 0).sxw (insOf (insW 136 0 10 11 0 0 258)).a)) 18 8) [] | none => [])) 95 80) (posting 510 3 (insW 136 0 10 11 0 0 258)).hopInit = Found.local 8 (bitsOf (beNat (match (posting 510 3 (insW 136 0 10 11 0 0 258)).img with | some m => m.tmpl.getD (bitsOf (BitVec.toNat (((posting 510 3 (insW 136 0 10 11 0 0 258)).cell 0).sxw (insOf (insW 136 0 10 11 0 0 258)).a)) 18 8) [] | none => [])) 113 108)) ∧
    ((posting 254 3 (insW 136 0 10 11 0 0 257)).sub 1 0).asked = false :=
  by and_intros <;> first | decide +kernel | (constructor <;> decide +kernel)

theorem met_GatewayPosts_3 :
    gpRoom (posting 254 262142 (insW 136 0 10 11 0 0 260)) (insW 136 0 10 11 0 0 260) = true ∧
    gpBad (posting 254 262142 (insW 136 0 10 11 0 0 260)) (insW 136 0 10 11 0 0 260) = false ∧
    gpRoom (posting 254 3 (insW 136 0 10 11 0 0 257)) (insW 136 0 10 11 0 0 257) = true ∧
    gpBad (posting 254 3 (insW 136 0 10 11 0 0 257)) (insW 136 0 10 11 0 0 257) = false ∧
    bitsOf (gpTmpl (posting 254 3 (insW 136 0 10 11 0 0 257)) (insW 136 0 10 11 0 0 257)) 113 108 = run0.l.pav ∧
    gpRoom (posting 510 3 (insW 136 0 10 11 0 0 258)) (insW 136 0 10 11 0 0 258) = true ∧
    gpBad (posting 510 3 (insW 136 0 10 11 0 0 258)) (insW 136 0 10 11 0 0 258) = false ∧
    bitsOf (gpTmpl (posting 510 3 (insW 136 0 10 11 0 0 258)) (insW 136 0 10 11 0 0 258)) 113 108 = run0.l.pav ∧
    (postForeign 254 3 (insW 136 0 10 11 0 0 257)).memoriesOk ∧
    Issues (postForeign 254 3 (insW 136 0 10 11 0 0 257)) 0 (insOf (insW 136 0 10 11 0 0 257)) run0 [sxR (insOf (insW 136 0 10 11 0 0 257)).a, sxR (insOf (insW 136 0 10 11 0 0 257)).b] (gpC (insW 136 0 10 11 0 0 257)) ∧
    gpRoom (postForeign 254 3 (insW 136 0 10 11 0 0 257)) (insW 136 0 10 11 0 0 257) = true ∧
    gpBad (postForeign 254 3 (insW 136 0 10 11 0 0 257)) (insW 136 0 10 11 0 0 257) = false ∧
    bitsOf (gpTmpl (postForeign 254 3 (insW 136 0 10 11 0 0 257)) (insW 136 0 10 11 0 0 257)) 113 108 ≠ run0.l.pav ∧
    (postForeign 254 3 (insW 136 0 10 11 0 0 258)).memoriesOk ∧
    Issues (postForeign 254 3 (insW 136 0 10 11 0 0 258)) 0 (insOf (insW 136 0 10 11 0 0 258)) run0 [sxR (insOf (insW 136 0 10 11 0 0 258)).a, sxR (insOf (insW 136 0 10 11 0 0 258)).b] (gpC (insW 136 0 10 11 0 0 258)) ∧
    gpRoom (postForeign 254 3 (insW 136 0 10 11 0 0 258)) (insW 136 0 10 11 0 0 258) = true ∧
    gpBad (postForeign 254 3 (insW 136 0 10 11 0 0 258)) (insW 136 0 10 11 0 0 258) = false ∧
    bitsOf (gpTmpl (postForeign 254 3 (insW 136 0 10 11 0 0 258)) (insW 136 0 10 11 0 0 258)) 113 108 ≠ run0.l.pav ∧
    gpRoom (postBad (insW 136 0 10 11 0 0 257)) (insW 136 0 10 11 0 0 257) = true ∧
    gpBad (postBad (insW 136 0 10 11 0 0 257)) (insW 136 0 10 11 0 0 257) = true ∧
    gpRoom (postFull (insW 136 0 10 11 0 0 257)) (insW 136 0 10 11 0 0 257) = false :=
  by and_intros <;> first | decide +kernel | (constructor <;> decide +kernel)

theorem met_TriggeredLaunches :
    (List.filter (fun (d : Deposit) => d.cluster == 0) up.cel.deps = []) ∧
    memWf (landed 64).mem = true ∧
    memWf (landed 64).flash = true ∧
    (List.find? (fun (d : Deposit) => d.sched) (List.filter (fun (d : Deposit) => d.cluster == 0) (landed 64).cel.deps) = some { cluster := 0, entry := 9, off := 0, bytes := List.replicate 64 7, sched := true, at_ := 9600 }) ∧
    (landed 64).landing (64 * 0 + 9) = some land0 ∧
    (List.find? (fun (p : ℕ × ℕ) => p.1 == 9) (pendBusy 7).cel.pend = some (9, 9700)) ∧
    (pendBusy 7).landing 9 = some land0 ∧
    (pendBusy 7).rectBusy land0.launch = true ∧
    ((List.filter (fun (q : ℕ × ℕ) => q.1 / 64 == 9 / 64) (pendBusy 7).cel.queue).length < 8) ∧
    (List.find? (fun (p : ℕ × ℕ) => p.1 == 9) (pendBusy 8).cel.pend = some (9, 9700)) ∧
    (pendBusy 8).landing 9 = some land0 ∧
    (pendBusy 8).rectBusy land0.launch = true ∧
    (8 ≤ (List.filter (fun (q : ℕ × ℕ) => q.1 / 64 == 9 / 64) (pendBusy 8).cel.queue).length) ∧
    (List.find? (fun (p : ℕ × ℕ) => p.1 == 9) pended.cel.pend = some (9, 9700)) ∧
    pended.landing 9 = some land0 ∧
    pended.rectBusy land0.launch = false ∧
    pended.launchBad land0.launch false = none ∧
    (List.find? (fun (p : ℕ × ℕ) => p.1 == 9) pendBad.cel.pend = some (9, 9700)) ∧
    pendBad.landing 9 = some land0 ∧
    pendBad.rectBusy land0.launch = false ∧
    pendBad.launchBad land0.launch false ≠ none ∧
    (List.find? (fun (p : ℕ × ℕ) => p.1 == 9) up.cel.pend = none) ∧
    (List.find? (fun (q : ℕ × ℕ) => q.1 / 64 == 0) (pendBusy 1).cel.queue = some (9, 9650)) ∧
    (pendBusy 1).landing 9 = some land0 ∧
    (pendBusy 1).rectBusy land0.launch = true ∧
    (List.find? (fun (q : ℕ × ℕ) => q.1 / 64 == 0) queuedT.cel.queue = some (9, 9650)) ∧
    queuedT.landing 9 = some land0 ∧
    queuedT.rectBusy land0.launch = false ∧
    queuedT.launchBad land0.launch false = none ∧
    (List.find? (fun (d : Deposit) => d.sched) (List.filter (fun (d : Deposit) => d.cluster == 0) landOff.cel.deps) = some { cluster := 0, entry := 9, off := 0, bytes := List.replicate 64 7, sched := true, at_ := 9600 }) ∧
    landOff.landing (64 * 0 + 9) = none ∧
    landOff.memoriesOk ∧
    (landed 64).gwMine 0 = [] ∧
    (landed 64).tim.lock = true ∧
    (List.filter (fun (d : Deposit) => d.cluster == 0) landUns.cel.deps = [{ cluster := 0, entry := 9, off := 0, bytes := List.replicate 64 7, sched := false, at_ := 9600 }]) ∧
    (List.find? (fun (d : Deposit) => d.sched) (List.filter (fun (d : Deposit) => d.cluster == 0) landUns.cel.deps) = none) ∧
    landUns.landing (64 * 0 + 9) = some land0 ∧
    landUns.gwMine 0 = [] ∧
    landUns.memoriesOk ∧
    land0.trigger = true ∧
    (landed 64).landCount 9 < land0.expect ∧
    (landed 64).landCount 9 + 64 = land0.expect ∧
    (List.find? (fun (q : ℕ × ℕ) => q.1 / 64 == 0) queuedBad.cel.queue = some (9, 9650)) ∧
    queuedBad.landing 9 = some land0 ∧
    queuedBad.rectBusy land0.launch = false ∧
    queuedBad.launchBad land0.launch false ≠ none ∧
    (landed 64).stageOf 9 = none ∧
    (pendBusy 7).cel.full.contains 9 = false ∧
    ((pendBusy 7).rectBusy land0.launch = true ∨ (pendBusy 7).waitsBefore 9 land0.launch = true) ∧
    (pendBusy 8).cel.full.contains 9 = false ∧
    ((pendBusy 8).rectBusy land0.launch = true ∨ (pendBusy 8).waitsBefore 9 land0.launch = true) ∧
    pendFull.cel.full.contains 9 = true ∧
    (pendFull.cel.pend.find? fun p => p.1 == 9) = some (9, 9700) ∧
    pendFull.landing 9 = some land0 ∧
    pended.cel.full.contains 9 = false ∧
    ¬(pended.rectBusy land0.launch = true ∨ pended.waitsBefore 9 land0.launch = true) ∧
    pendBad.cel.full.contains 9 = false ∧
    ¬(pendBad.rectBusy land0.launch = true ∨ pendBad.waitsBefore 9 land0.launch = true) ∧
    (queuedFull.cel.full.find? fun k => k / 64 == 0) = some 10 ∧
    (queuedT.cel.full.find? fun k => k / 64 == 0) = none ∧
    (queuedFull.cel.queue.find? fun q => q.1 / 64 == 0) = some (9, 9650) ∧
    queuedFull.landing 9 = some land0 ∧
    queuedFull.rectBusy land0.launch = false :=
  by and_intros <;> decide +kernel

end Sys2Proof.Tests
end

