-- ==== Sys2Proof/Tests/MetHost.lean ====
section
/-! SUPPORT. For each statement about the host rings, commands and schedules: states and operands that meet the hypotheses of its clauses, in their order; a
hypothesis that stands in several clauses is given once. -/

namespace Sys2Proof.Tests

-- One witness after the other: proofs that run at once would each hold a stack of the size the check gives a thread.
set_option Elab.async false

open Sys2Proof Sys2Proof.Machine

theorem met_HostCommandFrame :
    (ringsVf true).takeable d1 = true ∧
    d1.rdOk = true ∧
    d1.rsvOk = true ∧
    decide (d1.fn = 0) = false ∧
    (ringsVf false).takeable d1 = true ∧
    ((ringsVf false).fnPav d1.fn).isSome = false ∧
    ([] : List Byte).length ≤ 4096 ∧
    rings.takeable d0 = true ∧
    d0.rdOk = true ∧
    d0.rsvOk = true ∧
    (decide (rings.pav.cust ≠ 0) && decide (d0.fn = rings.pav.cust)) = false ∧
    rings.takeable dBad = true ∧
    dBad.rdOk = false ∧
    rings.takeable dRsv = true ∧
    dRsv.rdOk = true ∧
    dRsv.rsvOk = false ∧
    rings.takeable dNone = false :=
  by and_intros <;> decide +kernel

theorem met_TimeArmAndCompletion :
    rings.takeable d0 = true ∧
    d0.rdOk = true ∧
    d0.rsvOk = true ∧
    d0.fn = 0 ∧
    d0.quiet = false ∧
    (rings.take d0).cqRoom 0 (rings.fld (aSQ_CTRL 0 d0.sq) 23 16) = true ∧
    (rings.cq 0 (rings.fld (aSQ_CTRL 0 d0.sq) 23 16)).lost = 0 ∧
    d0.sq < 256 ∧
    rings.fld (aSQ_CTRL 0 d0.sq) 23 16 < 256 ∧
    d0.cplOk = true ∧
    dCpl.cplOk = false ∧
    rings.takeable dCpl = true ∧
    dCpl.rdOk = true ∧
    dCpl.rsvOk = true ∧
    dCpl.fn = 0 ∧
    dCpl.quiet = false ∧
    (rings.take dCpl).cqRoom 0 (rings.fld (aSQ_CTRL 0 dCpl.sq) 23 16) = true :=
  by and_intros <;> decide +kernel

theorem met_ScheduleCommands :
    (ringsImg false).takeable d0 = true ∧
    d0.rdOk = true ∧
    d0.rsvOk = true ∧
    d0.fn = 0 ∧
    ((ringsImg false).take d0).launchStatus 1029 = 0 ∧
    rings.takeable d0 = true ∧
    rings.img = none ∧
    rings.dataComing = false ∧
    (ringsImg true).takeable d0 = true ∧
    (ringsImg true).img ≠ none ∧
    (ringsImg true).sched.launched = true ∧
    (ringsImg false).img ≠ none ∧
    (ringsImg false).sched.launched = false ∧
    1028 < ((ringsImg false).take d0).curSlot + 1024 ∧
    1028 < ((ringsImg true).take d0).curSlot + 1024 ∧
    ((ringsImg true).take d0).curSlot + 1024 ≤ 1029 ∧
    (ended none).schedEnd = some 12 ∧
    (ended none).sched.launched = true ∧
    (ended none).drained 0 = true ∧
    (ended none).drained 1 = true ∧
    (ended none).quiet = true ∧
    (ended none).running = true ∧
    ((ringsImg false).sched.launched = false ∨ (ringsImg false).drained 0 = false ∨ (ringsImg false).drained 1 = false ∨ (ringsImg false).quiet = false) ∧
    ((ringsImg true).take d0).launchStatus 1029 ≠ 0 ∧
    (ringsImg false).bit aDET_RPL_CTRL 0 = false ∧
    ringsRpl.takeable d0 = true ∧
    (ringsRpl.take d0).launchStatus 1029 = 0 ∧
    ringsRpl.bit aDET_RPL_CTRL 0 = true ∧
    (ended (some 12)).schedEnd = some 12 ∧
    (ended (some 12)).sched.launched = true ∧
    (ended (some 12)).drained 0 = true ∧
    (ended (some 12)).drained 1 = true ∧
    (ended (some 12)).quiet = true ∧
    (ended (some 12)).running = true ∧
    (ended (some 12)).sched.stop = some 12 ∧
    (ended (some 12)).sched.unload = true ∧
    (ended none).sched.iters ≠ 0 ∧
    (ended none).sched.unload = false ∧
    (ringsImg false).tapDrives = false :=
  by and_intros <;> decide +kernel

/-! ## The images' bytes: their CRCs, 64 bytes at a time -/

theorem img0_crc0 : (((imgBytes 1 0).drop 0).take 64).foldl crcByte 0xFFFFFFFF = 117371574 := by decide +kernel
theorem img0_crc1 : (((imgBytes 1 0).drop 64).take 64).foldl crcByte 117371574 = 3215737066 := by decide +kernel
theorem img0_crc2 : (((imgBytes 1 0).drop 128).take 64).foldl crcByte 3215737066 = 3767978709 := by decide +kernel
theorem img0_crc3 : (((imgBytes 1 0).drop 192).take 64).foldl crcByte 3767978709 = 3139941147 := by decide +kernel

theorem img0_cut : (imageFile img0).take 12 ++ List.replicate 4 (0 : Byte) ++ (imageFile img0).drop 16 =
    ((imgBytes 1 0).drop 0).take 64 ++ ((imgBytes 1 0).drop 64).take 64 ++ ((imgBytes 1 0).drop 128).take 64 ++
      ((imgBytes 1 0).drop 192).take 64 := by decide +kernel

theorem img0_crc : imageCrc (imageFile img0) = 0x44d84ce4 := by
  rw [imageCrc, img0_cut, crc32c]
  simp only [List.foldl_append, img0_crc0, img0_crc1, img0_crc2, img0_crc3]; decide

theorem img0_form : imageForm (imageFile img0) = true := by
  simp only [imageForm, img0_crc]; decide +kernel
theorem imgBig_crc0 : (((imgBytes 255 0).drop 0).take 64).foldl crcByte 0xFFFFFFFF = 3614231509 := by decide +kernel
theorem imgBig_crc1 : (((imgBytes 255 0).drop 64).take 64).foldl crcByte 3614231509 = 1333860003 := by decide +kernel
theorem imgBig_crc2 : (((imgBytes 255 0).drop 128).take 64).foldl crcByte 1333860003 = 3516136672 := by decide +kernel
theorem imgBig_crc3 : (((imgBytes 255 0).drop 192).take 64).foldl crcByte 3516136672 = 1810720011 := by decide +kernel

theorem imgBig_cut : (imageFile imgBig).take 12 ++ List.replicate 4 (0 : Byte) ++ (imageFile imgBig).drop 16 =
    ((imgBytes 255 0).drop 0).take 64 ++ ((imgBytes 255 0).drop 64).take 64 ++ ((imgBytes 255 0).drop 128).take 64 ++
      ((imgBytes 255 0).drop 192).take 64 := by decide +kernel

theorem imgBig_crc : imageCrc (imageFile imgBig) = 0x94129af4 := by
  rw [imageCrc, imgBig_cut, crc32c]
  simp only [List.foldl_append, imgBig_crc0, imgBig_crc1, imgBig_crc2, imgBig_crc3]; decide

theorem imgBig_form : imageForm (imageFile imgBig) = true := by
  simp only [imageForm, imgBig_crc]; decide +kernel

theorem img0_loads : ((ringsMap.take d0).loadStatus (imageRead img0)).1 = 0 := by
  have h : imageForm (imageFile (imageRead img0)) = true := img0_form
  simp only [State.loadStatus, h]; and_intros <;> decide +kernel

theorem imgBig_refused : ((ringsMap.take d0).loadStatus (imageRead imgBig)).1 ≠ 0 ∧
    ((ringsMap.take d0).loadStatus (imageRead imgBig)).1 < 256 ∧
    ((ringsMap.take d0).loadStatus (imageRead imgBig)).2 < 256 := by
  have h : imageForm (imageFile (imageRead imgBig)) = true := imgBig_form
  simp only [State.loadStatus, h]; and_intros <;> decide +kernel

theorem imgData_locked : ((ringsLocked.take d0).loadStatus (imageRead imgData)).1 = 5 ∧
    ((ringsLocked.take d0).loadStatus (imageRead imgData)).2 < 256 := by
  have h : imageForm (imageFile (imageRead imgData)) = true := img0_form
  simp only [State.loadStatus, h]; and_intros <;> decide +kernel

theorem met_ImageCommands :
    rings.takeable d0 = true ∧
    d0.rdOk = true ∧
    d0.rsvOk = true ∧
    d0.fn = 0 ∧
    rings.memoriesOk ∧
    imgDma.dmaOk = false ∧
    imgOdd.addr % 64 ≠ 0 ∧
    ringsMap.takeable d0 = true ∧
    ringsMap.memoriesOk ∧
    img0.dmaOk = true ∧
    img0.addr % 64 = 0 ∧
    ((ringsMap.take d0).loadStatus (imageRead img0)).1 = 0 ∧
    imgBig.dmaOk = true ∧
    imgBig.addr % 64 = 0 ∧
    ((ringsMap.take d0).loadStatus (imageRead imgBig)).1 ≠ 0 ∧
    ((ringsMap.take d0).loadStatus (imageRead imgBig)).1 < 256 ∧
    ((ringsMap.take d0).loadStatus (imageRead imgBig)).2 < 256 ∧
    ringsLocked.takeable d0 = true ∧
    ringsLocked.memoriesOk ∧
    ((ringsLocked.take d0).loadStatus (imageRead imgData)).1 = 5 ∧
    ((ringsLocked.take d0).loadStatus (imageRead imgData)).2 < 256 ∧
    (ringsLocked.take d0).dataLocked (imageRead imgData) = true ∧
    ringsLoad.loading = some (3, img0) ∧
    rings.loading = none :=
  by
  refine ⟨?_, ?_, ?_, ?_, ?_, ?_, ?_, ?_, ?_, ?_, ?_, img0_loads, ?_, ?_, imgBig_refused.1, imgBig_refused.2.1, imgBig_refused.2.2, ?_, ?_, imgData_locked.1, imgData_locked.2, ?_, ?_, ?_⟩
    <;> first | decide +kernel | (and_intros <;> decide +kernel)

theorem met_Doorbells :
    rings.hostServed = true ∧
    rings.bit (aSQ_CTRL 0 1) 0 = true ∧
    (14 < rings.ringSize (aSQ_CTRL 0 1) ∧ (14 + rings.ringSize (aSQ_CTRL 0 1) - (rings.sq 0 1).tail) % rings.ringSize (aSQ_CTRL 0 1) ≤ ((rings.sq 0 1).head + rings.ringSize (aSQ_CTRL 0 1) - 1 + rings.ringSize (aSQ_CTRL 0 1) - (rings.sq 0 1).tail) % rings.ringSize (aSQ_CTRL 0 1)) ∧
    (¬(15 < rings.ringSize (aSQ_CTRL 0 1) ∧ (15 + rings.ringSize (aSQ_CTRL 0 1) - (rings.sq 0 1).tail) % rings.ringSize (aSQ_CTRL 0 1) ≤ ((rings.sq 0 1).head + rings.ringSize (aSQ_CTRL 0 1) - 1 + rings.ringSize (aSQ_CTRL 0 1) - (rings.sq 0 1).tail) % rings.ringSize (aSQ_CTRL 0 1))) ∧
    rings.cqOn 0 2 = true ∧
    (15 < rings.ringSize (aCQ_CTRL 0 2) ∧ (15 + rings.ringSize (aCQ_CTRL 0 2) - (rings.cq 0 2).head) % rings.ringSize (aCQ_CTRL 0 2) ≤ ((rings.cq 0 2).tail + rings.ringSize (aCQ_CTRL 0 2) - (rings.cq 0 2).head) % rings.ringSize (aCQ_CTRL 0 2)) ∧
    (¬(0 < rings.ringSize (aCQ_CTRL 0 2) ∧ (0 + rings.ringSize (aCQ_CTRL 0 2) - (rings.cq 0 2).head) % rings.ringSize (aCQ_CTRL 0 2) ≤ ((rings.cq 0 2).tail + rings.ringSize (aCQ_CTRL 0 2) - (rings.cq 0 2).head) % rings.ringSize (aCQ_CTRL 0 2))) ∧
    (63 : Nat) < 64 ∧
    (255 : Nat) < 256 :=
  by and_intros <;> decide +kernel

theorem met_HostRings :
    rings.hostServed = true ∧
    (4 ≠ 0 ∨ 4 ≠ 4 ∨ 256 ≤ 1 ∨ rings.bit (aSQ_CTRL 0 1) 0 = false) ∧
    (0 ≠ 0 ∨ 4 ≠ 4 ∨ 256 ≤ 256 ∨ rings.cqOn 0 256 = false) ∧
    rings.mayWrite (Path.fn 0) (aSQ_CTRL 0 3) = true ∧
    rings.bit (aSQ_CTRL 0 3) 0 = false ∧
    bitOf ((131329 : Word).toNat) 0 = true ∧
    sizeOk ((131329 : Word).toNat) = true ∧
    rings.cqOn 0 (bitsOf ((131329 : Word).toNat) 23 16) = true ∧
    bitOf ((131345 : Word).toNat) 0 = true ∧
    (sizeOk ((131345 : Word).toNat) = false ∨ rings.cqOn 0 (bitsOf ((131345 : Word).toNat) 23 16) = false) ∧
    rings.mayWrite (Path.fn 0) (aCQ_CTRL 0 255) = true ∧
    rings.bit (aCQ_CTRL 0 255) 0 = false ∧
    bitOf ((65 : Word).toNat) 0 = true ∧
    sizeOk ((65 : Word).toNat) = true ∧
    bitOf ((49 : Word).toNat) 0 = true ∧
    sizeOk ((49 : Word).toNat) = false ∧
    rings.mayWrite (Path.fn 0) (aCQ_CTRL 0 2) = true ∧
    rings.bit (aCQ_CTRL 0 2) 0 = true ∧
    bitOf ((327746 : Word).toNat) 0 = false ∧
    (rings.reg (aCQ_CTRL 0 2) ^^^ 327746) &&& 496 = 0 ∧
    rings.cqNamed 0 2 = true :=
  by and_intros <;> decide +kernel

theorem met_HostRingService :
    waitingCpl.waiting1 0 2 = some waiter ∧
    waiter.cpl = some cpl0 ∧
    (waitingCpl.cq 0 2).lost = 0 ∧
    waitingCpl.cqRoom 0 2 = true ∧
    rings.waiting1 0 2 = none ∧
    lossy.cqOn 0 2 = true ∧
    (lossy.cq 0 2).error = false ∧
    (lossy.cq 0 2).lost ≠ 0 ∧
    1 ≤ lossy.cqFree 0 2 ∧
    (lossy.cqTakes 0 2 = true ∨ lossy.cqTakes 0 2 = false) ∧
    (rings.cq 0 2).lost = 0 ∧
    moderated.cqOn 0 2 = true ∧
    moderated.bit (aCQ_CTRL 0 2) 1 = true ∧
    moderated.fld (aCQ_MODER 0 2) 31 16 ≠ 0 ∧
    (moderated.cq 0 2).pend ≠ 0 ∧
    rings.takeable d0 = true ∧
    d0.rdOk = true ∧
    d0.rsvOk = true ∧
    (rings.fnPav d0.fn).isSome = true ∧
    (rings.take d0).snapOwned d0.fn aPWR_START_LO 4 = true ∧
    (ringsVf true).takeable d1 = true ∧
    d1.rdOk = true ∧
    d1.rsvOk = true ∧
    ((ringsVf true).fnPav d1.fn).isSome = true ∧
    ((ringsVf true).take d1).snapOwned d1.fn aPWR_START_LO 4 = false ∧
    logged2.takeable d0 = true ∧
    d0.fn = 0 ∧
    logged2.log.bad = [] ∧
    logged2.log.drainSeq ≤ logged2.log.wrSeq ∧
    logged2.mayWrite (Path.fn 0) aHIF_OCC_CLR = true ∧
    bitOf ((2147483650 : Word).toNat) 31 = true ∧
    snapRange aPWR_START_LO 4 = true ∧
    snapRange 1 4 = false :=
  by and_intros <;> first | exact Bool.eq_false_or_eq_true _ | decide +kernel

theorem met_FunctionResets :
    (ringsVf true).hostServed = true ∧
    warming.boot.warm = true ∧
    ringsLoad.loading = some (3, img0) :=
  by and_intros <;> decide +kernel

end Sys2Proof.Tests
end

