-- ==== Sys2Proof/Tests/MetPorts.lean ====
section
/-! SUPPORT. For each statement about the ports and the packet path: states and operands that meet the hypotheses of its clauses, in their order; a
hypothesis that stands in several clauses is given once. -/

namespace Sys2Proof.Tests

-- One witness after the other: proofs that run at once would each hold a stack of the size the check gives a thread.
set_option Elab.async false

open Sys2Proof Sys2Proof.Machine

theorem met_PortBringUp_1 :
    up.hasSub 1 0 = true ∧
    up.mayWrite (Path.fn 0) (aPRT_CTRL 1) = true ∧
    up.prtCtrlOk 1 9 = false ∧
    up.prtCtrlOk 1 7 = true ∧
    up.enableOk 1 7 = true ∧
    up.portOn 1 = false ∧
    bitOf ((7 : Word).toNat) 0 = true ∧
    (portIs 1 7 3 (sub0 4)).hasSub 1 7 = true ∧
    (portIs 1 7 3 (sub0 4)).mayWrite (Path.fn 0) (aPRT_CTRL 1) = true ∧
    (portIs 1 7 3 (sub0 4)).prtCtrlOk 1 6 = true ∧
    (portIs 1 7 3 (sub0 4)).portOn 1 = true ∧
    bitOf ((6 : Word).toNat) 0 = false ∧
    (portIs 1 7 3 (sub0 2)).hasSub 1 7 = true ∧
    ((portIs 1 7 3 (sub0 2)).sub 1 7).state = 2 ∧
    (portIs 1 0 0 (hello none none false)).hasSub 1 0 = true ∧
    ((portIs 1 0 0 (hello none none false)).sub 1 0).state = 3 ∧
    ((portIs 1 0 0 (hello none none false)).sub 1 0).portRx = none ∧
    ((portIs 1 0 0 (hello none none false)).sub 1 0).ackTx = false ∧
    (portIs 1 0 0 (hello none (some 5) false)).hasSub 1 0 = true ∧
    ((portIs 1 0 0 (hello none (some 5) false)).sub 1 0).state = 3 ∧
    ((portIs 1 0 0 (hello none (some 5) false)).sub 1 0).portRx ≠ none ∧
    ((portIs 1 0 0 (hello none (some 5) false)).sub 1 0).ackTx = false ∧
    ((portIs 1 0 0 (hello none (some 5) false)).sub 1 0).ackRx = false ∧
    (portIs 1 0 0 (hello (some 5) none false)).hasSub 1 0 = true ∧
    ((portIs 1 0 0 (hello (some 5) none false)).sub 1 0).state = 3 ∧
    bitsOf 291 13 11 = (portIs 1 0 0 (hello (some 5) none false)).portMode 1 ∧
    ((portIs 1 0 0 (hello (some 5) none false)).sub 1 0).idRx ≠ none ∧
    ((portIs 1 0 0 (hello (some 5) none false)).sub 1 0).ackTx = false ∧
    ((portIs 1 0 0 (hello (some 5) none false)).sub 1 0).ackRx = false ∧
    bitsOf 2048 13 11 ≠ (portIs 1 0 0 (hello none none false)).portMode 1 ∧
    ((portIs 1 0 0 (hello none none false)).sub 1 0).misSeen = false ∧
    (portIs 1 0 0 helloMis).hasSub 1 0 = true ∧
    ((portIs 1 0 0 helloMis).sub 1 0).state = 3 ∧
    bitsOf 2048 13 11 ≠ (portIs 1 0 0 helloMis).portMode 1 ∧
    ((portIs 1 0 0 helloMis).sub 1 0).misSeen = true ∧
    (((portIs 1 0 0 (hello none none false)).sub 1 0).idRx = none ∨ ((portIs 1 0 0 (hello none none false)).sub 1 0).portRx = none) :=
  by and_intros <;> decide +kernel

theorem met_PortBringUp_2 :
    (portIs 64 0 0 (hello (some 8191) (some 1857) false)).hasSub 64 0 = true ∧
    ((portIs 64 0 0 (hello (some 8191) (some 1857) false)).sub 64 0).state = 3 ∧
    ((portIs 64 0 0 (hello (some 8191) (some 1857) false)).sub 64 0).idRx = some 8191 ∧
    ((portIs 64 0 0 (hello (some 8191) (some 1857) false)).sub 64 0).portRx = some 1857 ∧
    (portIs 1 0 0 (hello none (some 5) true)).hasSub 1 0 = true ∧
    ((portIs 1 0 0 (hello none (some 5) true)).sub 1 0).state = 3 ∧
    ((portIs 1 0 0 (hello none (some 5) true)).sub 1 0).portRx = some 5 ∧
    ((portIs 1 0 0 (hello none (some 5) true)).sub 1 0).ackRx = true ∧
    (portIs 1 0 0 (hello (some 9) none true)).hasSub 1 0 = true ∧
    ((portIs 1 0 0 (hello (some 9) none true)).sub 1 0).state = 3 ∧
    bitsOf 5 13 11 = (portIs 1 0 0 (hello (some 9) none true)).portMode 1 ∧
    ((portIs 1 0 0 (hello (some 9) none true)).sub 1 0).idRx = some 9 ∧
    ((portIs 1 0 0 (hello (some 9) none true)).sub 1 0).ackRx = true ∧
    ((portIs 1 0 0 (hello none none false)).sub 1 0).idRx = none ∧
    (portIs 1 0 0 (hello (some 9) none false)).hasSub 1 0 = true ∧
    ((portIs 1 0 0 (hello (some 9) none false)).sub 1 0).state = 3 ∧
    ((portIs 1 0 0 (hello (some 9) none false)).sub 1 0).idRx ≠ none ∧
    (portBusy (sub0 4)).hasSub 1 0 = true ∧
    (((portBusy (sub0 4)).sub 1 0).state = 3 ∨ ((portBusy (sub0 4)).sub 1 0).state = 4 ∨ ((portBusy (sub0 4)).sub 1 0).state = 5 ∨ ((portBusy (sub0 4)).sub 1 0).state = 7) ∧
    ((portBusy (sub0 4)).sub 1 0).rxRest = false ∧
    (portIs 64 0 0 (subRx 5)).hasSub 64 0 = true ∧
    (((portIs 64 0 0 (subRx 5)).sub 64 0).state = 3 ∨ ((portIs 64 0 0 (subRx 5)).sub 64 0).state = 4 ∨ ((portIs 64 0 0 (subRx 5)).sub 64 0).state = 5 ∨ ((portIs 64 0 0 (subRx 5)).sub 64 0).state = 7) ∧
    ((portIs 64 0 0 (subRx 5)).sub 64 0).rxRest = true ∧
    (((portIs 64 0 0 (subRx 5)).sub 64 0).rxRest = false ∨ 4 = 4 ∨ (4 ≠ 1 ∧ (portIs 64 0 0 (subRx 5)).allSignal 64 0 = true)) ∧
    subRxBack.allSignal 64 0 = true ∧
    (subRxBack.sub 64 0).rxRest = true ∧
    (subRxBack.sub 64 0).state = 5 ∧
    (portIs 64 0 0 (subRx 5)).allSignal 64 0 = false ∧
    (portIs 1 0 0 (sub0 1)).hasSub 1 0 = true ∧
    ((portIs 1 0 0 (sub0 1)).sub 1 0).state = 1 ∧
    (portIs 1 0 0 (sub0 1)).portOn 1 = true ∧
    (portIs 1 0 0 (sub0 1)).log.fatal = false ∧
    22 ∉ [1, 2, 3, 16, 17, 18, 19, 20, 21] :=
  by and_intros <;> decide +kernel

theorem met_PortBringUp_3 :
    up.hasSub 64 0 = true ∧
    up.mayWrite (Path.fn 0) (aPRT_CTRL 64) = true ∧
    up.prtCtrlOk 64 0x21 = true ∧
    up.enableOk 64 0x21 = false ∧
    (portIs 1 7 3 (sub0 4)).prtCtrlOk 1 7 = true ∧
    (portIs 1 7 3 (sub0 4)).enableOk 1 7 = true ∧
    laneTwo.hasSub 1 0 = true ∧
    laneTwo.prtCtrlOk 1 1 = true ∧
    laneTwo.enableOk 1 1 = true ∧
    laneTwo.portOn 1 = false ∧
    laneTwo.subTest 1 0 = true ∧
    (portIs 1 7 3 (sub0 2)).tapDrives = false ∧
    (tapOut (portIs 1 7 3 (sub0 2))).hasSub 1 7 = true ∧
    ((tapOut (portIs 1 7 3 (sub0 2))).sub 1 7).state = 2 ∧
    (tapOut (portIs 1 7 3 (sub0 2))).tapDrives = true ∧
    ((portBusy (sub0 4)).egr 8).sending = none ∧
    ((portBusy (sub0 4)).setReg aLOG_CTRL 1).bit aLOG_CTRL 0 = true ∧
    ((portBusy (sub0 4)).setReg aLOG_CTRL 0).bit aLOG_CTRL 0 = false ∧
    ((portBusy (sub0 4)).subLanes 1 0) = [8, 9, 10, 11, 12, 13, 14, 15] :=
  by and_intros <;> decide +kernel

theorem met_LinkRest_1 :
    (portIs 1 0 0 (sub0 4)).hasSub 1 0 = true ∧
    ((portIs 1 0 0 (sub0 4)).sub 1 0).state = 4 ∧
    ((portIs 1 0 0 (sub0 4)).sub 1 0).reqSent = false ∧
    (portIs 1 0 0 (sub0 4)).bit (aPRT_CTRL 1) 6 = true ∧
    (portIs 1 0 0 (sub0 4)).queuedFor 1 0 = false ∧
    ((portIs 1 0 0 (sub0 4)).sub 1 0).pend = none ∧
    (¬(64 ≤ 1)) ∧
    (portBusy (sub0 4)).hasSub 1 0 = true ∧
    ((portBusy (sub0 4)).bit (aPRT_CTRL 1) 6 = false ∨ (portBusy (sub0 4)).queuedFor 1 0 = true) ∧
    ((if (portIs 1 0 0 (sub0 4)).queuedFor 1 0 = true then 1 else if (portIs 1 0 0 (sub0 4)).bit (aPRT_CTRL 1) 7 = false then 2 else if 64 ≤ 1 ∧ (1020 ≤ (portIs 1 0 0 (sub0 4)).curSlot % 1024 ∨ (portIs 1 0 0 (sub0 4)).curSlot % 1024 = 0) then 3 else 0) = 0) ∧
    (portBusy (subReq 4)).hasSub 1 0 = true ∧
    ((portBusy (subReq 4)).sub 1 0).state = 4 ∧
    ((if (portBusy (subReq 4)).queuedFor 1 0 = true then 1 else if (portBusy (subReq 4)).bit (aPRT_CTRL 1) 7 = false then 2 else if 64 ≤ 1 ∧ (1020 ≤ (portBusy (subReq 4)).curSlot % 1024 ∨ (portBusy (subReq 4)).curSlot % 1024 = 0) then 3 else 0) = 1) ∧
    ((portBusy (subReq 4)).sub 1 0).reqSent = true ∧
    ((portBusy (sub0 4)).sub 1 0).state = 4 ∧
    ((if (portBusy (sub0 4)).queuedFor 1 0 = true then 1 else if (portBusy (sub0 4)).bit (aPRT_CTRL 1) 7 = false then 2 else if 64 ≤ 1 ∧ (1020 ≤ (portBusy (sub0 4)).curSlot % 1024 ∨ (portBusy (sub0 4)).curSlot % 1024 = 0) then 3 else 0) ≠ 0) ∧
    ((if (portBusy (sub0 4)).queuedFor 1 0 = true then 1 else if (portBusy (sub0 4)).bit (aPRT_CTRL 1) 7 = false then 2 else if 64 ≤ 1 ∧ (1020 ≤ (portBusy (sub0 4)).curSlot % 1024 ∨ (portBusy (sub0 4)).curSlot % 1024 = 0) then 3 else 0) ≠ 1 ∨ ((portBusy (sub0 4)).sub 1 0).reqSent = false) ∧
    (portIs 1 0 0 (subReq 4)).hasSub 1 0 = true ∧
    ((portIs 1 0 0 (subReq 4)).sub 1 0).state = 4 ∧
    ((portIs 1 0 0 (subReq 4)).sub 1 0).reqSent = true ∧
    (portIs 1 0 0 (sub0 7)).hasSub 1 0 = true ∧
    4 ≤ ((portIs 1 0 0 (sub0 7)).sub 1 0).state ∧
    ((portIs 1 0 0 (sub0 7)).sub 1 0).state ≤ 7 ∧
    (portIs 1 0 0 subReqRx).hasSub 1 0 = true ∧
    ((portIs 1 0 0 subReqRx).sub 1 0).rxRest = true ∧
    ((portIs 1 0 0 subReqRx).sub 1 0).state = 4 ∧
    ((portIs 1 0 0 subReqRx).sub 1 0).reqSent = true ∧
    subCount 1 ((portIs 1 0 0 (subReq 4)).portMode 1) = 1 ∧
    (portIs 1 0 0 (subReq 4)).mayWrite (Path.fn 0) (aPRT_REST_CTRL 1) = true ∧
    bitOf ((65536 : Word).toNat) 16 = true ∧
    (portIs 1 0 0 (sub0Rx 4)).hasSub 1 0 = true ∧
    ((portIs 1 0 0 (sub0Rx 4)).sub 1 0).rxRest = true ∧
    ((portIs 1 0 0 (sub0Rx 4)).sub 1 0).state = 4 ∧
    ((portIs 1 0 0 (sub0Rx 4)).sub 1 0).reqSent = false ∧
    subCount 1 ((portIs 1 0 0 (sub0 4)).portMode 1) = 1 ∧
    (portIs 1 0 0 (sub0 4)).mayWrite (Path.fn 0) (aPRT_REST_CTRL 1) = true ∧
    (portIs 1 0 0 (subWake 5)).hasSub 1 0 = true ∧
    ((portIs 1 0 0 (subReq 4)).sub 1 0).asked = true ∧
    ((portIs 1 0 0 (sub0 4)).sub 1 0).asked = false ∧
    ((portIs 1 0 0 subPend).sub 1 0).asked = true ∧
    ((portIs 1 0 0 subPend).sub 1 0).state = 4 ∧
    ((portIs 1 0 0 subPend).sub 1 0).reqSent = false ∧
    (portIs 1 0 0 subPend).hasSub 1 0 = true ∧
    ((portIs 64 0 0 (subReq 4)).sub 64 0).asked = true ∧
    64 ≤ 64 :=
  by and_intros <;> decide +kernel

theorem met_LinkRest_2 :
    ((portIs 1 0 0 (subWake 5)).sub 1 0).state = 5 ∧
    ((portIs 1 0 0 (subWake 5)).sub 1 0).wake = true ∧
    (portIs 1 0 0 subWakeRx).hasSub 1 0 = true ∧
    ((portIs 1 0 0 subWakeRx).sub 1 0).rxRest = true ∧
    ((portIs 1 0 0 subWakeRx).sub 1 0).state = 5 ∧
    ((portIs 1 0 0 subWakeRx).sub 1 0).wake = true ∧
    (portIs 64 0 0 (subWake 5)).hasSub 64 0 = true ∧
    5 ≤ ((portIs 64 0 0 (subWake 5)).sub 64 0).state ∧
    ((portIs 64 0 0 (subWake 5)).sub 64 0).state ≤ 7 ∧
    ((portIs 64 0 0 (subWake 5)).sub 64 0).state = 5 ∧
    ((portIs 64 0 0 (subWake 5)).sub 64 0).wake = true ∧
    subCount 1 ((portIs 1 0 0 (subWake 5)).portMode 1) = 1 ∧
    (portIs 1 0 0 (subWake 5)).mayWrite (Path.fn 0) (aPRT_REST_CTRL 1) = true ∧
    (portIs 1 0 0 (sub0 5)).hasSub 1 0 = true ∧
    ((portIs 1 0 0 (sub0 5)).sub 1 0).state = 5 ∧
    ((portIs 1 0 0 (sub0 5)).sub 1 0).wake = false ∧
    (portIs 1 0 0 (sub0Rx 5)).hasSub 1 0 = true ∧
    ((portIs 1 0 0 (sub0Rx 5)).sub 1 0).rxRest = true ∧
    ((portIs 1 0 0 (sub0Rx 5)).sub 1 0).state = 5 ∧
    ((portIs 1 0 0 (sub0Rx 5)).sub 1 0).wake = false ∧
    (portIs 64 0 0 (sub0 5)).hasSub 64 0 = true ∧
    5 ≤ ((portIs 64 0 0 (sub0 5)).sub 64 0).state ∧
    ((portIs 64 0 0 (sub0 5)).sub 64 0).state ≤ 7 ∧
    ((portIs 64 0 0 (sub0 5)).sub 64 0).state = 5 ∧
    ((portIs 64 0 0 (sub0 5)).sub 64 0).wake = false ∧
    subCount 1 ((portIs 1 0 0 (sub0 5)).portMode 1) = 1 ∧
    (portIs 1 0 0 (sub0 5)).mayWrite (Path.fn 0) (aPRT_REST_CTRL 1) = true ∧
    (portIs 1 0 0 (sub0 6)).hasSub 1 0 = true ∧
    ((portIs 1 0 0 (sub0 6)).sub 1 0).state = 6 ∧
    (portIs 1 0 0 (sub0Rx 6)).hasSub 1 0 = true ∧
    ((portIs 1 0 0 (sub0Rx 6)).sub 1 0).rxRest = true ∧
    ((portIs 1 0 0 (sub0Rx 6)).sub 1 0).state = 6 ∧
    (portIs 64 0 0 (sub0 6)).hasSub 64 0 = true ∧
    5 ≤ ((portIs 64 0 0 (sub0 6)).sub 64 0).state ∧
    ((portIs 64 0 0 (sub0 6)).sub 64 0).state ≤ 7 ∧
    ((portIs 64 0 0 (sub0 6)).sub 64 0).state = 6 :=
  by and_intros <;> decide +kernel

theorem met_LinkRest_3 :
    subCount 1 ((portIs 1 0 0 (sub0 6)).portMode 1) = 1 ∧
    (portIs 1 0 0 (sub0 6)).mayWrite (Path.fn 0) (aPRT_REST_CTRL 1) = true ∧
    ((portIs 1 0 0 (sub0 7)).sub 1 0).state = 7 ∧
    (portIs 1 0 0 (sub0Rx 7)).hasSub 1 0 = true ∧
    ((portIs 1 0 0 (sub0Rx 7)).sub 1 0).rxRest = true ∧
    ((portIs 1 0 0 (sub0Rx 7)).sub 1 0).state = 7 ∧
    (portIs 64 0 0 (sub0 7)).hasSub 64 0 = true ∧
    5 ≤ ((portIs 64 0 0 (sub0 7)).sub 64 0).state ∧
    ((portIs 64 0 0 (sub0 7)).sub 64 0).state ≤ 7 ∧
    ((portIs 64 0 0 (sub0 7)).sub 64 0).state = 7 ∧
    subCount 1 ((portIs 1 0 0 (sub0 7)).portMode 1) = 1 ∧
    (portIs 1 0 0 (sub0 7)).mayWrite (Path.fn 0) (aPRT_REST_CTRL 1) = true ∧
    (portIs 1 0 0 (subWake 7)).hasSub 1 0 = true ∧
    ((portIs 1 0 0 (subWake 7)).sub 1 0).state = 7 ∧
    (portIs 1 0 0 subSched).hasSub 1 0 = true ∧
    ((portIs 1 0 0 subSched).sub 1 0).state = 6 ∧
    ((portIs 1 0 0 subSched).sub 1 0).sched = true ∧
    ((portIs 1 0 0 (sub0 6)).sub 1 0).sched = false :=
  by and_intros <;> decide +kernel

theorem met_LinkRest_4 :
    (portIs 64 0 0 subIdle).hasSub 64 0 = true ∧
    ((portIs 64 0 0 subIdle).sub 64 0).state = 4 ∧
    ((portIs 64 0 0 subIdle).sub 64 0).reqSent = false ∧
    ((portIs 64 0 0 subIdle).sub 64 0).pend = none ∧
    (portIs 64 0 0 subIdle).bit (aPRT_CTRL 64) 6 = true ∧
    (portIs 64 0 0 subIdle).queuedFor 64 0 = false ∧
    1020 ≤ ((portIs 64 0 0 subIdle).advTo ((max ((portIs 64 0 0 subIdle).sub 64 0).idle ((portIs 64 0 0 subIdle).egr 512).idle + (portIs 64 0 0 subIdle).fld (aPRT_REST_CTRL 64) 15 0) * 7680)).curSlot % 1024 ∧
    (if noRestReq.queuedFor 1 0 = true then 1 else if noRestReq.bit (aPRT_CTRL 1) 7 = false then 2 else if 64 ≤ 1 ∧ (1020 ≤ noRestReq.curSlot % 1024 ∨ noRestReq.curSlot % 1024 = 0) then 3 else 0) = 2 ∧
    noRestReq.hasSub 1 0 = true ∧
    (noRestReq.sub 1 0).state = 4 ∧
    (noRestReq.sub 1 0).reqSent = false ∧
    (atNow (portIs 64 0 0 (sub0 4)) (1021 * 7680)).hasSub 64 0 = true ∧
    ((atNow (portIs 64 0 0 (sub0 4)) (1021 * 7680)).sub 64 0).state = 4 ∧
    (if (atNow (portIs 64 0 0 (sub0 4)) (1021 * 7680)).queuedFor 64 0 = true then 1 else if (atNow (portIs 64 0 0 (sub0 4)) (1021 * 7680)).bit (aPRT_CTRL 64) 7 = false then 2 else if 64 ≤ 64 ∧ (1020 ≤ (atNow (portIs 64 0 0 (sub0 4)) (1021 * 7680)).curSlot % 1024 ∨ (atNow (portIs 64 0 0 (sub0 4)) (1021 * 7680)).curSlot % 1024 = 0) then 3 else 0) = 3 ∧
    (atNow (portIs 64 0 0 (subReq 4)) (1021 * 7680)).hasSub 64 0 = true ∧
    ((atNow (portIs 64 0 0 (subReq 4)) (1021 * 7680)).sub 64 0).state = 4 ∧
    ((atNow (portIs 64 0 0 (subReq 4)) (1021 * 7680)).sub 64 0).reqSent = true ∧
    1020 ≤ (atNow (portIs 64 0 0 (subReq 4)) (1021 * 7680)).curSlot % 1024 ∧
    (64 ≤ 64 ∧ ((5 ≤ ((portIs 64 0 0 (subReq 4)).sub 64 0).state ∧ ((portIs 64 0 0 (subReq 4)).sub 64 0).state ≤ 7) ∨ ((portIs 64 0 0 (subReq 4)).sub 64 0).reqSent = true)) ∧
    (portIs 1 0 0 (subEnter 38000)).hasSub 1 0 = true ∧
    ((portIs 1 0 0 (subEnter 38000)).sub 1 0).state = 5 ∧
    ((portIs 1 0 0 (subEnter 38000)).sub 1 0).wake = false ∧
    (portIs 1 0 0 (subEnter 38000)).tim.clk < ((portIs 1 0 0 (subEnter 38000)).sub 1 0).since + 4800 ∧
    ((portIs 1 0 0 { subEnter 38000 with rxRest := true }).sub 1 0).rxRest = true ∧
    (portIs 1 0 0 { subEnter 38000 with rxRest := true }).tim.clk < ((portIs 1 0 0 { subEnter 38000 with rxRest := true }).sub 1 0).since + 4800 ∧
    ((portIs 1 0 0 (sub0 5)).sub 1 0).since + 4800 ≤ (portIs 1 0 0 (sub0 5)).tim.clk ∧
    ((portIs 1 0 0 (sub0 6)).sub 1 0).wake = false ∧
    ((portIs 1 0 0 (subWake 6)).sub 1 0).state = 6 ∧
    ((portIs 1 0 0 (subWake 6)).sub 1 0).wake = true ∧
    (portIs 1 0 0 (subWake 6)).hasSub 1 0 = true ∧
    ((portIs 1 0 0 (sub0 4)).sub 1 0).rxRest = false ∧
    ((portIs 1 0 0 subSched).sub 1 0).wake = false ∧
    (portIs 1 0 0 (subWin 38000 100)).hasSub 1 0 = true ∧
    ((portIs 1 0 0 (subWin 38000 100)).sub 1 0).state = 5 ∧
    ((portIs 1 0 0 (subWin 38000 100)).sub 1 0).sched = true ∧
    ((portIs 1 0 0 (subWin 38000 100)).sub 1 0).wake = false ∧
    ((portIs 1 0 0 (subWin 38000 100)).sub 1 0).since + 4800 ≤ ((portIs 1 0 0 (subWin 38000 100)).advTo ((((portIs 1 0 0 (subWin 38000 100)).sub 1 0).winEnd - 2) * 7680)).tim.clk ∧
    ((portIs 1 0 0 (subWin 38000 7)).sub 1 0).state = 5 ∧
    ((portIs 1 0 0 (subWin 38000 7)).sub 1 0).sched = true ∧
    ((portIs 1 0 0 (subWin 38000 7)).sub 1 0).wake = false ∧
    ((portIs 1 0 0 (subWin 38000 7)).advTo ((((portIs 1 0 0 (subWin 38000 7)).sub 1 0).winEnd - 2) * 7680)).tim.clk < ((portIs 1 0 0 (subWin 38000 7)).sub 1 0).since + 4800 :=
  by and_intros <;> decide +kernel

theorem met_StcLanes :
    (stcOn 15).bit (aLNE_CTRL (stcIdx 15)) 7 = true ∧
    ((stcOn 15).lane (stcIdx 15)).up = false ∧
    (stcOn 15).laneTest (stcIdx 15) = false ∧
    (stcOn 15).log.fatal = false ∧
    (stcOn 15).tapDrives = false ∧
    ((stcRelay 15).lane (stcIdx 15)).up = true ∧
    ((stcUp 0).lane (stcIdx 0)).up = true ∧
    (stcRelay 2).relayNext 2 = some (128, [1, 2]) ∧
    ((stcRelay 2).lane (stcIdx 2)).up = true ∧
    [1, 2].length ≤ 56 ∧
    (stcUp 0).relayNext 0 ≠ some (128, [1, 2]) ∧
    (stcUsed.lane (stcIdx 0)).up = true ∧
    ((lateSlot 2).lane (stcIdx 2)).up = true ∧
    (List.replicate 56 (0 : Byte)).length ≤ 56 ∧
    ((stcAcq 15).lane (stcIdx 15)).acq = true ∧
    ((stcAcq 15).lane (stcIdx 15)).up = false ∧
    (stcAcq 15).bit (aLNE_CTRL (stcIdx 15)) 7 = true ∧
    (stcAcq 15).laneTest (stcIdx 15) = false ∧
    (stcAcq 15).log.fatal = false ∧
    (stcAcq 15).tapDrives = false ∧
    ((stcOn 15).lane (stcIdx 15)).acq = false ∧
    0 + 0 = 0 ∧
    4 ≤ 0 + 4 ∧
    1 ≤ 3 + 0 ∧
    3 + 0 ≤ 3 ∧
    stcFits (stcRelay 2) 2 2 = true ∧
    stcFits (stcUp 0) 0 2 = true ∧
    stcFits stcUsed 0 2 = false ∧
    stcFits (lateSlot 2) 2 56 = false ∧
    (startsWith 0xFB (recvSyms (encSyms false (frameSeq frame0)))).isSome = true ∧
    fourBad 0 (recvSyms (encSyms false (frameSeq frame0))) = false ∧
    fourBad 0 (recvSyms [0, 0, 0, 0]) = true ∧
    (stcUp 0).tim.lock = true :=
  by and_intros <;> decide +kernel

theorem met_LaneTests :
    lanePort 8 = some (1, 0) ∧
    laneSub 1 0 ((subAt up 1 0 4).portMode 1) = some 0 ∧
    aLNE_PATGEN 8 ∈ [aLNE_CTRL 8, aLNE_PATGEN 8, aLNE_PATCHK 8] ∧
    (subAt up 1 0 4).mayWrite (Path.fn 0) (aLNE_PATGEN 8) = true ∧
    ((subAt up 1 0 4).plainWrite (aLNE_PATGEN 8) 1).laneTest 8 = true ∧
    ((subAt up 1 0 4).sub 1 0).state ≠ 8 ∧
    laneSub 1 0 ((laneTesting 8).portMode 1) = some 0 ∧
    (laneTesting 8).mayWrite (Path.fn 0) (aLNE_PATGEN 8) = true ∧
    ((laneTesting 8).plainWrite (aLNE_PATGEN 8) 2).laneTest 8 = true ∧
    ((laneTesting 8).sub 1 0).state = 8 ∧
    ((laneTesting 8).plainWrite (aLNE_PATGEN 8) 0).laneTest 8 = false ∧
    (laneTesting 8).laneTest 8 = true ∧
    ((laneTesting 8).plainWrite (aLNE_PATGEN 8) 0).subTest 1 0 = false ∧
    (laneTwo.plainWrite (aLNE_PATGEN 8) 0).laneTest 8 = false ∧
    laneTwo.mayWrite (Path.fn 0) (aLNE_PATGEN 8) = true ∧
    (laneTwo.plainWrite (aLNE_PATGEN 8) 0).subTest 1 0 = true ∧
    laneSub 1 0 (laneTwo.portMode 1) = some 0 ∧
    up.mayWrite (Path.fn 0) (aLNE_INJECT 783) = true ∧
    laneRate.hasLane 8 = true ∧
    laneRate.fld (aLNE_INJECT 8) 1 0 = 3 ∧
    up.hasLane 8 = true ∧
    up.fld (aLNE_INJECT 8) 1 0 ≠ 3 ∧
    laneChk.hasLane 8 = true ∧
    laneChk.fld (aLNE_PATCHK 8) 2 0 ≠ 0 ∧
    up.hasLane 783 = true ∧
    up.fld (aLNE_PATCHK 783) 2 0 = 0 ∧
    (laneChk.lane 8).chkLock = true ∧
    (up.lane 8).chkLock = false ∧
    laneChk.mayWrite (Path.fn 0) (aLNE_PATCHK 8) = true ∧
    bitOf ((17 : Word).toNat) 4 = true ∧
    stcIdx 3 = 771 ∧
    aLNE_PATGEN (stcIdx 3) ∈ [aLNE_CTRL (stcIdx 3), aLNE_PATGEN (stcIdx 3), aLNE_PATCHK (stcIdx 3)] ∧
    (stcTest 3).mayWrite (Path.fn 0) (aLNE_PATGEN (stcIdx 3)) = true ∧
    ((stcTest 3).plainWrite (aLNE_PATGEN (stcIdx 3)) 1).bit (aLNE_CTRL (stcIdx 3)) 7 = true ∧
    ((stcTest 3).plainWrite (aLNE_PATGEN (stcIdx 3)) 1).laneTest (stcIdx 3) = true ∧
    ((stcTest 3).lane (stcIdx 3)).up = true ∧
    laneHunt.hasLane 8 = true ∧
    laneHunt.fld (aLNE_PATCHK 8) 2 0 ≠ 0 ∧
    (laneHunt.lane 8).chkLock = false ∧
    laneHunt.nearLoop 8 = false ∧
    laneNear.hasLane 8 = true ∧
    laneNear.nearLoop 8 = true ∧
    (laneNear.lane 8).chkLock = false ∧
    laneNear.fld (aLNE_PATCHK 8) 2 0 ≠ 0 ∧
    laneOff.hasLane 8 = true ∧
    (laneOff.lane 8).chkLock = true ∧
    laneOff.fld (aLNE_PATCHK 8) 2 0 = 0 ∧
    (3 : Nat) < 16 ∧
    aLNE_CTRL (stcIdx 3) ∈ [aLNE_CTRL (stcIdx 3), aLNE_PATGEN (stcIdx 3), aLNE_PATCHK (stcIdx 3)] ∧
    (stcTest 3).mayWrite (Path.fn 0) (aLNE_CTRL (stcIdx 3)) = true ∧
    ((stcTest 3).plainWrite (aLNE_CTRL (stcIdx 3)) 0).bit (aLNE_CTRL (stcIdx 3)) 7 = false ∧
    (if bitsOf (2 : Word).toNat 1 0 = 1 then 1 else if bitsOf (2 : Word).toNat 1 0 = 2 then bitsOf (2 : Word).toNat 15 8 else 0) = 0 ∧
    bitOf (0x12 : Word).toNat 4 = true ∧
    laneFar.fld (aLNE_CTRL 8) 4 2 = 3 ∧
    (laneFar.lane 8).chkLock = false ∧
    laneFar.fld (aLNE_PATCHK 8) 2 0 = 0 ∧
    (laneFar.lane 8).inj = 0 ∧
    laneFar.hasLane 8 = true ∧
    laneHunt.fld (aLNE_CTRL 8) 4 2 ≠ 3 :=
  by and_intros <;> decide +kernel

theorem met_PacketArrival_1 :
    net.hasSub 1 0 = true ∧
    4 ≤ (net.sub 1 0).state ∧
    (net.sub 1 0).state ≤ 7 ∧
    linkKind (rxOf pktVer2).pkt.kind = false ∧
    net.cap.active = false ∧
    net.rpl.active = false ∧
    (rxOf pktVer2).pkt.ver ≠ 1 ∧
    linkKind (rxOf (pktTo 49153 1 0)).pkt.kind = false ∧
    (rxOf (pktTo 49153 1 0)).pkt.ver = 1 ∧
    kindErr 1 (rxOf (pktTo 49153 1 0)).pkt = true ∧
    netOther.hasSub 1 0 = true ∧
    4 ≤ (netOther.sub 1 0).state ∧
    (netOther.sub 1 0).state ≤ 7 ∧
    linkKind (rxOf (pktTo 5 1 0)).pkt.kind = false ∧
    netOther.cap.active = false ∧
    netOther.rpl.active = false ∧
    (rxOf (pktTo 5 1 0)).pkt.ver = 1 ∧
    kindErr 1 (rxOf (pktTo 5 1 0)).pkt = false ∧
    netOther.portPav 1 = some 3 ∧
    3 ≠ (rxOf (pktTo 5 1 0)).pkt.pav ∧
    netOff.hasSub 1 0 = true ∧
    4 ≤ (netOff.sub 1 0).state ∧
    (netOff.sub 1 0).state ≤ 7 ∧
    linkKind (rxOf (pktTo 5 1 7)).pkt.kind = false ∧
    netOff.cap.active = false ∧
    netOff.rpl.active = false ∧
    (rxOf (pktTo 5 1 7)).pkt.ver = 1 ∧
    kindErr 1 (rxOf (pktTo 5 1 7)).pkt = false ∧
    (∀ (v : ℕ), netOff.portPav 1 = some v → v = (rxOf (pktTo 5 1 7)).pkt.pav) ∧
    (¬(512 ≤ 8 * 1 + 0 ∧ ((rxOf (pktTo 5 1 7)).pkt.kind = 8 ∨ (rxOf (pktTo 5 1 7)).pkt.kind = 9))) ∧
    (arrived netOff).lookup (rxOf (pktTo 5 1 7)).pkt.dst (rxOf (pktTo 5 1 7)).pkt.hops = Found.drop 7 ∧
    netFree.hasSub 1 0 = true ∧
    4 ≤ (netFree.sub 1 0).state ∧
    (netFree.sub 1 0).state ≤ 7 ∧
    linkKind (rxOf pktPav63).pkt.kind = false ∧
    netFree.cap.active = false :=
  by and_intros <;> decide +kernel

theorem met_PacketArrival_2 :
    netFree.rpl.active = false ∧
    (rxOf pktPav63).pkt.ver = 1 ∧
    kindErr 1 (rxOf pktPav63).pkt = false ∧
    (∀ (v : ℕ), netFree.portPav 1 = some v → v = (rxOf pktPav63).pkt.pav) ∧
    (¬(512 ≤ 8 * 1 + 0 ∧ ((rxOf pktPav63).pkt.kind = 8 ∨ (rxOf pktPav63).pkt.kind = 9))) ∧
    (arrived netFree).lookup (rxOf pktPav63).pkt.dst (rxOf pktPav63).pkt.hops = Found.local 16 0 ∧
    0 ≠ (rxOf pktPav63).pkt.pav ∧
    (∀ (v : ℕ), net.portPav 1 = some v → v = (rxOf (pktTo 5 1 7)).pkt.pav) ∧
    classify (rxOf (pktTo 5 1 7)) = Rx.good ∧
    (rxOf (pktTo 5 1 7)).pkt.sched = false ∧
    (rxOf (pktTo 5 1 7)).pkt.vc < 8 ∧
    (arrived net).lookup (rxOf (pktTo 5 1 7)).pkt.dst (rxOf (pktTo 5 1 7)).pkt.hops = Found.local 16 (rxOf (pktTo 5 1 7)).pkt.pav ∧
    Hop.egr 16 = Hop.egr 16 ∧
    pktTo 5 1 7 = (rxOf (pktTo 5 1 7)).pkt ∧
    linkKind (rxOf (pktSched 5 1)).pkt.kind = false ∧
    (rxOf (pktSched 5 1)).pkt.ver = 1 ∧
    kindErr 1 (rxOf (pktSched 5 1)).pkt = false ∧
    (∀ (v : ℕ), netFree.portPav 1 = some v → v = (rxOf (pktSched 5 1)).pkt.pav) ∧
    (¬(512 ≤ 8 * 1 + 0 ∧ ((rxOf (pktSched 5 1)).pkt.kind = 8 ∨ (rxOf (pktSched 5 1)).pkt.kind = 9))) ∧
    classify (rxOf (pktSched 5 1)) = Rx.good ∧
    (rxOf (pktSched 5 1)).pkt.sched = true ∧
    netFree.portPav 1 = none ∧
    (arrived netFree).lookup (rxOf (pktSched 5 1)).pkt.dst (rxOf (pktSched 5 1)).pkt.hops = Found.local 16 (rxOf (pktSched 5 1)).pkt.pav ∧
    pktSched 5 1 = (rxOf (pktSched 5 1)).pkt ∧
    netFree.egrUp 16 = true ∧
    netDown.hasSub 1 0 = true ∧
    4 ≤ (netDown.sub 1 0).state ∧
    (netDown.sub 1 0).state ≤ 7 ∧
    netDown.cap.active = false ∧
    netDown.rpl.active = false ∧
    (∀ (v : ℕ), netDown.portPav 1 = some v → v = (rxOf (pktSched 5 1)).pkt.pav) ∧
    netDown.portPav 1 = none ∧
    (arrived netDown).lookup (rxOf (pktSched 5 1)).pkt.dst (rxOf (pktSched 5 1)).pkt.hops = Found.local 16 (rxOf (pktSched 5 1)).pkt.pav ∧
    netDown.egrUp 16 = false ∧
    (netDown.sub (16 / 8) (16 % 8)).state ≠ 8 ∧
    (netL lrRecover).hasSub 64 0 = true :=
  by and_intros <;> decide +kernel

theorem met_PacketArrival_3 :
    4 ≤ ((netL lrRecover).sub 64 0).state ∧
    ((netL lrRecover).sub 64 0).state ≤ 7 ∧
    (netL lrRecover).cap.active = false ∧
    (netL lrRecover).rpl.active = false ∧
    ((netL lrRecover).lr (64 - 64)).recover = true ∧
    ((netL lrRecover).lr (64 - 64)).nak = false ∧
    (netL lrepInit).hasSub 64 0 = true ∧
    4 ≤ ((netL lrepInit).sub 64 0).state ∧
    ((netL lrepInit).sub 64 0).state ≤ 7 ∧
    linkKind (rxBad (pktTo 5 1 7)).pkt.kind = false ∧
    (netL lrepInit).cap.active = false ∧
    (netL lrepInit).rpl.active = false ∧
    ((netL lrepInit).lr (64 - 64)).recover = false ∧
    ((netL lrepInit).lr (64 - 64)).skip = 0 ∧
    classify (rxBad (pktTo 5 1 7)) = Rx.crc ∧
    (netL lrWrap).hasSub 64 0 = true ∧
    4 ≤ ((netL lrWrap).sub 64 0).state ∧
    ((netL lrWrap).sub 64 0).state ≤ 7 ∧
    (netL lrWrap).cap.active = false ∧
    (netL lrWrap).rpl.active = false ∧
    ((netL lrWrap).lr (64 - 64)).recover = false ∧
    ((netL lrWrap).lr (64 - 64)).skip = 0 ∧
    classify (rxOf (pktTo 5 1 7)) ≠ Rx.crc ∧
    classify (rxOf (pktTo 5 1 7)) ≠ Rx.len ∧
    kindErr 64 (rxOf (pktTo 5 1 7)).pkt = false ∧
    rxBroken (rxOf (pktTo 5 1 7)) = false ∧
    rxBroken (rxBad (pktTo 5 1 7)) = true :=
  by and_intros <;> decide +kernel

theorem met_PacketArrival_4 :
    netPoliced.hasSub 1 0 = true ∧
    4 ≤ (netPoliced.sub 1 0).state ∧
    (netPoliced.sub 1 0).state ≤ 7 ∧
    linkKind (rxOf (pktTo 5 1 7)).pkt.kind = false ∧
    netPoliced.cap.active = false ∧
    netPoliced.rpl.active = false ∧
    netPoliced.portPav 1 = some (rxOf (pktTo 5 1 7)).pkt.pav ∧
    ((arrived netPoliced).police 8 (rxOf (pktTo 5 1 7)).pkt.vc (84 + 64 * (rxOf (pktTo 5 1 7)).pkt.len + netPoliced.fld (aSCH_PORT_CFG (8 / 8)) 5 0)).1 = false ∧
    (arrived netPoliced).lookup (rxOf (pktTo 5 1 7)).pkt.dst (rxOf (pktTo 5 1 7)).pkt.hops = Found.local 16 (rxOf (pktTo 5 1 7)).pkt.pav ∧
    ((arrived net).police 8 (rxOf (pktTo 5 1 7)).pkt.vc (84 + 64 * (rxOf (pktTo 5 1 7)).pkt.len + net.fld (aSCH_PORT_CFG (8 / 8)) 5 0)).1 = true ∧
    ((arrived netOff).police 8 (rxOf (pktTo 5 1 7)).pkt.vc (84 + 64 * (rxOf (pktTo 5 1 7)).pkt.len + netOff.fld (aSCH_PORT_CFG (8 / 8)) 5 0)).1 = true ∧
    (arrived net).lookup (pktTo 7 1 7).dst (pktTo 7 1 7).hops = Found.forward (2 ^ 31 + 16 * 2 ^ 16 + 2 ^ 15 + 1) ∧
    ((arrived net).police 8 (rxOf (pktTo 7 1 7)).pkt.vc (84 + 64 * (rxOf (pktTo 7 1 7)).pkt.len + net.fld (aSCH_PORT_CFG (8 / 8)) 5 0)).1 = true ∧
    classify (rxOf (pktTo 7 1 7)) = Rx.good ∧
    bitOf (2 ^ 31 + 16 * 2 ^ 16 + 2 ^ 15 + 1) 15 = true ∧
    (arrived netFree).lookup (pktSched 7 1).dst (pktSched 7 1).hops = Found.forward (2 ^ 31 + 16 * 2 ^ 16 + 2 ^ 15 + 1) ∧
    kindErr 1 (pktSched 7 1) = false ∧
    classify (rxOf (pktSched 7 1)) = Rx.good :=
  by and_intros <;> decide +kernel

theorem met_PacketArrival_5 :
    netThin.hasSub 1 0 = true ∧
    4 ≤ (netThin.sub 1 0).state ∧
    (netThin.sub 1 0).state ≤ 7 ∧
    linkKind (rxBadSched 40).pkt.kind = false ∧
    netThin.cap.active = false ∧
    netThin.rpl.active = false ∧
    (rxBadSched 40).pkt.ver = 1 ∧
    kindErr 1 (rxBadSched 40).pkt = false ∧
    netThin.portPav 1 = none ∧
    (arrived netThin).lookup (rxBadSched 40).pkt.dst (rxBadSched 40).pkt.hops = Found.local 16 (rxBadSched 40).pkt.pav ∧
    classify (rxBadSched 40) = Rx.len ∧
    1360 < netThin.wireTime 8 (84 + 64 * (rxBadSched 40).pkt.len) ∧
    linkKind (rxBadSched 0).pkt.kind = false ∧
    (rxBadSched 0).pkt.ver = 1 ∧
    kindErr 1 (rxBadSched 0).pkt = false ∧
    (arrived netFree).lookup (rxBadSched 0).pkt.dst (rxBadSched 0).pkt.hops = Found.local 16 (rxBadSched 0).pkt.pav ∧
    classify (rxBadSched 0) = Rx.crc ∧
    netFree.wireTime 8 (84 + 64 * (rxBadSched 0).pkt.len) ≤ 1360 ∧
    netNoSegr.hasSub 1 0 = true ∧
    4 ≤ (netNoSegr.sub 1 0).state ∧
    (netNoSegr.sub 1 0).state ≤ 7 ∧
    linkKind (rxOf (pktSched 7 1)).pkt.kind = false ∧
    netNoSegr.cap.active = false ∧
    netNoSegr.rpl.active = false ∧
    netNoSegr.portPav 1 = none ∧
    (arrived netNoSegr).lookup (pktSched 7 1).dst (pktSched 7 1).hops = Found.forward (2 ^ 31 + 1) ∧
    bitOf (2 ^ 31 + 1) 15 = false ∧
    (arrived netOff).lookup (pktSched 5 1).dst (pktSched 5 1).hops = Found.drop 7 ∧
    (pktSched 5 1).sched = true :=
  by and_intros <;> decide +kernel

theorem met_PacketArrival_6 :
    net.hasSub 1 0 = true ∧
    4 ≤ (net.sub 1 0).state ∧
    (net.sub 1 0).state ≤ 7 ∧
    linkKind (rxOf (pktSched 5 1)).pkt.kind = false ∧
    net.cap.active = false ∧
    net.rpl.active = false ∧
    net.portPav 1 = some (rxOf (pktSched 5 1)).pkt.pav ∧
    (arrived net).lookup (rxOf (pktSched 5 1)).pkt.dst (rxOf (pktSched 5 1)).pkt.hops = Found.local 16 (rxOf (pktSched 5 1)).pkt.pav ∧
    net.reserved 16 (((arrived net).tim.now + 1360) / 7680) = false ∧
    (netReserved net).hasSub 1 0 = true ∧
    4 ≤ ((netReserved net).sub 1 0).state ∧
    ((netReserved net).sub 1 0).state ≤ 7 ∧
    linkKind (rxOf (pktSched 5 1)).pkt.kind = false ∧
    (netReserved net).cap.active = false ∧
    (netReserved net).rpl.active = false ∧
    (netReserved net).portPav 1 = some (rxOf (pktSched 5 1)).pkt.pav ∧
    (arrived (netReserved net)).lookup (rxOf (pktSched 5 1)).pkt.dst (rxOf (pktSched 5 1)).pkt.hops = Found.local 16 (rxOf (pktSched 5 1)).pkt.pav ∧
    (netReserved net).reserved 16 (((arrived (netReserved net)).tim.now + 1360) / 7680) = true ∧
    (netL lrSkip).hasSub 64 0 = true ∧
    4 ≤ ((netL lrSkip).sub 64 0).state ∧
    ((netL lrSkip).sub 64 0).state ≤ 7 ∧
    linkKind (rxOf (pktTo 5 1 7)).pkt.kind = false ∧
    (netL lrSkip).cap.active = false ∧
    (netL lrSkip).rpl.active = false ∧
    ((netL lrSkip).lr 0).recover = false ∧
    0 < ((netL lrSkip).lr 0).skip ∧
    classify (rxOf (pktTo 5 1 7)) = Rx.good ∧
    classify (rxBad (pktTo 5 1 7)) = Rx.crc ∧
    ((netL lrSkip).lr 0).recover = false ∧
    netBroken.rte.wait = [heldBroken] ∧
    heldBroken.damaged = true ∧
    heldBroken.endAt ≤ (netBroken.advTo 38500).tim.clk ∧
    1 ≤ heldBroken.cause ∧
    heldBroken.cause ≤ 14 ∧
    netBroken.rte.egress = net.rte.egress ∧
    net.rte.wait = [] ∧
    net.rte.egress.all (fun e => e.2.queues.flatten.isEmpty) = true :=
  by and_intros <;> decide +kernel

theorem met_PacketSelection_1 :
    (List.find? (fun (h : Held) => h.id == 9) (arrived (subAt (netWait (Hop.egr 16) 100) 2 0 1)).rte.wait = some (heldTo (Hop.egr 16))) ∧
    (heldTo (Hop.egr 16)).eth = [] ∧
    (List.find? (fun (h : Held) => h.id == 9) (arrived (netWait (Hop.egr 16) 3)).rte.wait = some (heldTo (Hop.egr 16))) ∧
    (0, 16) ∈ [(0, 16)] ∧
    (List.find? (fun (h : Held) => h.id == 9) (arrived (netWait (Hop.egr 16) 2)).rte.wait = some (heldTo (Hop.egr 16))) ∧
    (netWait (Hop.egr 16) 2).tim.lock = true ∧
    (List.find? (fun (h : Held) => h.id == 9) net.rte.wait = none) ∧
    netSending.hasSub (16 / 8) (16 % 8) = true ∧
    netSending.egrUp 16 = true ∧
    (netSending.egr 16).sending ≠ none ∧
    (netStaged 1).hasSub (16 / 8) (16 % 8) = true ∧
    (netStaged 1).egrUp 16 = true ∧
    ((netStaged 1).egr 16).sending = none ∧
    (netStaged 1).cap.active = false ∧
    ((netStaged 1).egr 16).staged = [stagedPkt] ∧
    stagedPkt.due ≤ (arrived (netStaged 1)).tim.clk ∧
    ((netStaged 1).egr 16).resend = [] ∧
    netQueue.hasSub (16 / 8) (16 % 8) = true ∧
    netQueue.egrUp 16 = true ∧
    (netQueue.egr 16).sending = none ∧
    netQueue.cap.active = false ∧
    (netQueue.egr 16).staged = [] ∧
    (netQueue.egr 16).ready = [] ∧
    (arrived netQueue).reserved 16 (arrived netQueue).curSlot = false ∧
    ((arrived netQueue).settle 16).eligible 16 1 = true ∧
    (∀ r < 1, ((arrived netQueue).settle 16).eligible 16 r = false) ∧
    ((arrived netQueue).egr 16).queues.getD 1 [] = [held16] ∧
    (netQueue.egr 16).queues.length = 8 ∧
    held16.eth = [] ∧
    (arrived netQueue).fits 16 held16.bytes = true ∧
    (netReserved netQueue).hasSub (16 / 8) (16 % 8) = true ∧
    (selZ (subAt (netWait (Hop.egr 16) 100) 2 0 1) (heldTo (Hop.egr 16))).candidates (heldTo (Hop.egr 16)) = Sum.inl 7 ∧
    (selZ (netWait (Hop.egr 16) 3) (heldTo (Hop.egr 16))).candidates (heldTo (Hop.egr 16)) = Sum.inr [(0, 16)] ∧
    (selZ (netWait (Hop.egr 16) 2) (heldTo (Hop.egr 16))).candidates (heldTo (Hop.egr 16)) = Sum.inr [(0, 16)] ∧
    (arrived (netWait (Hop.egr 16) 3)).firstTurn (heldTo (Hop.egr 16)) = none ∧
    (netBreaks.rte.wait.find? fun h => h.id == 9) ≠ none ∧
    ((arrived netBreaks).rte.wait.find? fun h => h.id == 9) = none :=
  by and_intros <;> decide +kernel

theorem met_PacketSelection_2 :
    (netReserved netQueue).egrUp 16 = true ∧
    ((netReserved netQueue).egr 16).sending = none ∧
    (netReserved netQueue).cap.active = false ∧
    ((netReserved netQueue).egr 16).staged = [] ∧
    ((netReserved netQueue).egr 16).ready = [] ∧
    (arrived (netReserved netQueue)).reserved 16 (arrived (netReserved netQueue)).curSlot = true ∧
    (netTransit 3).nextDue 16 = some stagedPkt ∧
    (netTransit 3).egrUp 16 = true ∧
    (((netTransit 3).egr 16).staged.filter fun q => q.pkt.kind != 0x3D).length < 4 ∧
    (netTransit 4).nextDue 16 = some stagedPkt ∧
    (netTransit 4).egrUp 16 = true ∧
    4 ≤ (((netTransit 4).egr 16).staged.filter fun q => q.pkt.kind != 0x3D).length ∧
    netTransitDown.nextDue 16 = some stagedPkt ∧
    netTransitDown.egrUp 16 = false ∧
    (net.egr 16).sending = none ∧
    (netSending.egr 16).sending = some (Sending.queued 7 held0, 39000) ∧
    held0.eth = [] ∧
    held0.handles = [] ∧
    (List.find? (fun (h : Held) => h.id == 9) netUnit.rte.units = some heldUnit) ∧
    heldUnit.eth = [] ∧
    heldUnit.handles = [3] ∧
    heldUnit.die = 0 ∧
    heldUnit.pool < 4 ∧
    (netUnit.pool 0 heldUnit.pool).inUse.contains 3 = true ∧
    (netUnit.pool 0 heldUnit.pool).removed = [] :=
  by and_intros <;> decide +kernel

theorem met_PacketSelection_3 :
    (heldTo (Hop.egr 16)).ingress < 640 ∧
    netStagedDown.hasSub 2 0 = true ∧
    netStagedDown.egrUp 16 = false ∧
    stagedPkt ∈ (netStagedDown.egr 16).staged ∧
    stagedPkt.due ≤ (arrived netStagedDown).tim.clk ∧
    stagedPkt.pkt.kind ≠ 0x3D ∧
    netLater.hasSub 2 0 = true ∧
    netLater.egrUp 16 = true ∧
    (arrived netLater).tim.clk < (netLater.egr 16).freeAt ∧
    netAsks.hasSub 2 0 = true ∧
    netAsks.egrUp 16 = true ∧
    netAsks.restHolds 16 = true ∧
    ((netStaged 1).egr 16).freeAt ≤ (arrived (netStaged 1)).tim.clk ∧
    (netStaged 1).restHolds 16 = false ∧
    ((netStaged 1).egr 16).resend = [] ∧
    (∀ q ∈ [stagedPkt], q.pkt.kind ≠ 0x3D) ∧
    (arrived (netStaged 1)).reserved 16 (arrived (netStaged 1)).curSlot = false ∧
    ((netReserved (netStaged 1)).egr 16).staged = [stagedPkt] ∧
    (arrived (netReserved (netStaged 1))).reserved 16 (arrived (netReserved (netStaged 1))).curSlot = true ∧
    (netQueue.egr 16).freeAt ≤ (arrived netQueue).tim.clk ∧
    netQueue.restHolds 16 = false ∧
    (netQueue.egr 16).resend = [] ∧
    ((netReserved netQueue).egr 16).freeAt ≤ (arrived (netReserved netQueue)).tim.clk ∧
    (netReserved netQueue).restHolds 16 = false ∧
    ((netReserved netQueue).egr 16).resend = [] ∧
    (netTransit 3).nextTime 16 = none ∧
    netTransitDown.nextTime 16 = none ∧
    (netTransitDown.sub 2 0).state ≠ 8 ∧
    netTransitTest.nextDue 16 = some stagedPkt ∧
    netTransitTest.nextTime 16 = none ∧
    netTransitTest.egrUp 16 = false ∧
    (netTransitTest.sub 2 0).state = 8 ∧
    (netTime.nextTime 512).isSome = true ∧
    netTime.nextDue 512 = none ∧
    net.nextDue 16 = none ∧
    net.nextTime 16 = none ∧
    netUnit.rte.frees = [] ∧
    (selZ (netWait (Hop.egr 16) 3) (heldTo (Hop.egr 16))).choose (heldTo (Hop.egr 16)) 0 [(0, 16)] = some (0, 16) ∧
    (heldTo (Hop.egr 16)).pkt.len + 3 ≤ (selZ (netWait (Hop.egr 16) 3) (heldTo (Hop.egr 16))).creditsAt 16 ((selZ (netWait (Hop.egr 16) 3) (heldTo (Hop.egr 16))).vcOut 16 (heldTo (Hop.egr 16)).vcIn) ∧
    (∀ m ∈ [(0, 16)], ¬(heldTo (Hop.egr 16)).pkt.len + 3 ≤ (selZ (netWait (Hop.egr 16) 2) (heldTo (Hop.egr 16))).creditsAt m.2 ((selZ (netWait (Hop.egr 16) 2) (heldTo (Hop.egr 16))).vcOut m.2 (heldTo (Hop.egr 16)).vcIn)) ∧
    net.ageing 9 = none ∧
    (netWait (Hop.egr 16) 3).ageing 9 = some (heldTo (Hop.egr 16)) ∧
    (aged (netWait (Hop.egr 16) 3)).ageing 9 = some (heldTo (Hop.egr 16)) ∧
    netOwn.ageing 9 = some { held0 with id := 9 } ∧
    (aged netBreaks).ageing 9 = none ∧
    netBreaks.ageing 9 ≠ none ∧
    (netWait (Hop.egr 16) 3).tim.lock = true :=
  by and_intros <;> decide +kernel

theorem met_CreditsAndPools :
    net.hasSub 2 0 = true ∧
    (net.sub 2 0).state = 4 ∧
    netDown.hasSub 2 0 = true ∧
    (netDown.sub 2 0).state < 4 ∧
    netStalled.hasSub 2 0 = true ∧
    4 ≤ (netStalled.sub 2 0).state ∧
    (netStalled.sub 2 0).state ≤ 7 ∧
    (rxOf creditPkt).pkt.ver = 1 ∧
    (rxOf creditPkt).pkt.kind = 62 ∧
    kindErr 2 (rxOf creditPkt).pkt = false ∧
    classify (rxOf creditPkt) = Rx.good ∧
    (netStalled.egr (8 * 2 + 0)).cum.length = 8 ∧
    8 * 16 + 0 ∉ (netWait (Hop.egr 16) 2).log.stalled ∧
    0 < (netWait (Hop.egr 16) 2).waiting 16 0 ∧
    8 * 16 + 0 ∈ netStalled.log.stalled ∧
    bpmOff.mayWrite (Path.fn 0) (aBPM_CTRL 0) = true ∧
    bitOf ((1 : Word).toNat) 0 = true ∧
    bpmOff.bit (aBPM_CTRL 0) 0 = false ∧
    bpmOff.layoutOk 0 = true ∧
    bpmBad.mayWrite (Path.fn 0) (aBPM_CTRL 0) = true ∧
    bpmBad.bit (aBPM_CTRL 0) 0 = false ∧
    bpmBad.layoutOk 0 = false ∧
    net.mayWrite (Path.fn 0) (aBPM_CTRL 0) = true ∧
    net.bit (aBPM_CTRL 0) 0 = true ∧
    netOff.mayWrite (Path.fn 0) (aBPM_CTRL 0) = true ∧
    bitOf ((0 : Word).toNat) 0 = false ∧
    netOff.bit (aBPM_CTRL 0) 0 = true ∧
    netOff.bit aRTE_CTRL 0 = false ∧
    netOff.noneHeld 0 = true ∧
    (net.bit aRTE_CTRL 0 = true ∨ net.noneHeld 0 = false) ∧
    bpmFill.bit (aBPM_CTRL 0) 0 = true ∧
    bpmFill.bpmReady 0 = false ∧
    net.bpmReady 0 = true ∧
    ((tblGet (fun (x : ℕ) => []) (net.pool 0 0).caches 0).length < 8) ∧
    8 ≤ (net.pool 0 0).ring.length ∧
    (8 ≤ (tblGet (fun (x : ℕ) => []) (net.pool 0 3).caches 0).length ∨ (net.pool 0 3).ring.length < 8) ∧
    (portIs 1 0 0 (subReq 4)).hasSub 1 0 = true ∧
    ((portIs 1 0 0 (subReq 4)).sub 1 0).asked = true ∧
    (net.sub 2 0).asked = false ∧
    beNat ((creditPkt.payload.drop 0).take 4) = 5 ∧
    (5 + 2 ^ 32 - (netStalled.egr 16).cum.getD 0 0) % 2 ^ 32 < 2 ^ 31 ∧
    ((5 + 2 ^ 32 - (netStalled.egr 16).cum.getD 0 0) % 2 ^ 32 ≠ 0) ∧
    (∀ v < 8, ¬(beNat (((List.replicate 64 (0xFF : Byte)).drop (4 * v)).take 4) + 2 ^ 32 - (netStalled.egr 16).cum.getD v 0) % 2 ^ 32 < 2 ^ 31) ∧
    classify (rxOf { creditPkt with payload := List.replicate 64 0xFF }) = Rx.good ∧
    net.rte.frees = [] ∧
    (∀ h ∈ (net.pool 0 0).ring.take 8, handleOk (net.pool 0 0) h = true) :=
  by and_intros <;> decide +kernel

theorem met_PathTables_1 :
    (withData net 2147549189).mayWrite (Path.fn 0) aRTE_TBL_CMD = true ∧
    bitOf ((65541 : Word).toNat) 16 = true ∧
    bitOf ((65541 : Word).toNat) 20 = false ∧
    bitsOf ((65541 : Word).toNat) 15 0 < rteSize (bitsOf ((65541 : Word).toNat) 26 24) ∧
    (withData net 2147549189).rteGet (bitsOf ((65541 : Word).toNat) 26 24) (bitsOf ((65541 : Word).toNat) 15 0) < 2 ^ 32 ∧
    net.mayWrite (Path.fn 0) aRTE_TBL_CMD = true ∧
    bitOf ((16843776 : Word).toNat) 16 = true ∧
    bitOf ((16843776 : Word).toNat) 20 = false ∧
    rteSize (bitsOf ((16843776 : Word).toNat) 26 24) ≤ bitsOf ((16843776 : Word).toNat) 15 0 ∧
    bitOf ((17892352 : Word).toNat) 16 = true ∧
    bitOf ((17892352 : Word).toNat) 20 = true ∧
    rteSize (bitsOf ((17892352 : Word).toNat) 26 24) ≤ bitsOf ((17892352 : Word).toNat) 15 0 ∧
    bitOf ((1130495 : Word).toNat) 16 = true ∧
    bitOf ((1130495 : Word).toNat) 20 = true ∧
    bitsOf ((1130495 : Word).toNat) 15 0 < rteSize (bitsOf ((1130495 : Word).toNat) 26 24) ∧
    ((withData net 2147549189).schedRunning = false ∨ imageField (bitsOf ((1130495 : Word).toNat) 26 24) (BitVec.toNat ((withData net 2147549189).reg aRTE_TBL_DATA0) &&& rteMask (bitsOf ((1130495 : Word).toNat) 26 24)) = imageField (bitsOf ((1130495 : Word).toNat) 26 24) ((withData net 2147549189).rteGet (bitsOf ((1130495 : Word).toNat) 26 24) (bitsOf ((1130495 : Word).toNat) 15 0))) ∧
    (withData net 2147549189).foreignEp (bitsOf ((1130495 : Word).toNat) 26 24) (BitVec.toNat ((withData net 2147549189).reg aRTE_TBL_DATA0) &&& rteMask (bitsOf ((1130495 : Word).toNat) 26 24)) = false ∧
    (netReserved (withData net 2147549189)).mayWrite (Path.fn 0) aRTE_TBL_CMD = true ∧
    bitOf ((17891331 : Word).toNat) 16 = true ∧
    bitOf ((17891331 : Word).toNat) 20 = true ∧
    bitsOf ((17891331 : Word).toNat) 15 0 < rteSize (bitsOf ((17891331 : Word).toNat) 26 24) ∧
    ((netReserved (withData net 2147549189)).schedRunning = true ∧ imageField (bitsOf ((17891331 : Word).toNat) 26 24) (BitVec.toNat ((netReserved (withData net 2147549189)).reg aRTE_TBL_DATA0) &&& rteMask (bitsOf ((17891331 : Word).toNat) 26 24)) ≠ imageField (bitsOf ((17891331 : Word).toNat) 26 24) ((netReserved (withData net 2147549189)).rteGet (bitsOf ((17891331 : Word).toNat) 26 24) (bitsOf ((17891331 : Word).toNat) 15 0)) ∨ (netReserved (withData net 2147549189)).foreignEp (bitsOf ((17891331 : Word).toNat) 26 24) (BitVec.toNat ((netReserved (withData net 2147549189)).reg aRTE_TBL_DATA0) &&& rteMask (bitsOf ((17891331 : Word).toNat) 26 24)) = true) ∧
    net.mayWrite (Path.fn 0) (aBPM_OWN_CMD 0) = true ∧
    bitOf ((65536 : Word).toNat) 16 = true ∧
    bitOf ((65536 : Word).toNat) 20 = false ∧
    (net.owner 0 (bitsOf ((65536 : Word).toNat) 10 0)).rmin < 2 ^ 16 ∧
    (net.owner 0 (bitsOf ((65536 : Word).toNat) 10 0)).smax < 2 ^ 20 ∧
    (net.owner 0 (bitsOf ((65536 : Word).toNat) 10 0)).hshr < 2 ^ 20 ∧
    (net.owner 0 (bitsOf ((65536 : Word).toNat) 10 0)).hrsv < 2 ^ 16 ∧
    (net.owner 0 (bitsOf ((65536 : Word).toNat) 10 0)).nobuf < 2 ^ 16 ∧
    (ownData net 16).mayWrite (Path.fn 0) (aBPM_OWN_CMD 0) = true ∧
    bitOf ((1114112 : Word).toNat) 16 = true ∧
    bitOf ((1114112 : Word).toNat) 20 = true ∧
    (¬((ownData net 16).poolCount 0 (bitsOf ((1114112 : Word).toNat) 10 0 % 4) < (ownData net 16).settleFrees.rsvSum 0 (bitsOf ((1114112 : Word).toNat) 10 0 % 4) - ((ownData net 16).owner 0 (bitsOf ((1114112 : Word).toNat) 10 0)).rmin + (ownData net 16).fld (aBPM_OWN_DATA0 0) 15 0 ∨ (ownData net 16).rsvCap 0 (bitsOf ((1114112 : Word).toNat) 10 0 % 4) (bitsOf ((1114112 : Word).toNat) 10 0 / 32) < (ownData net 16).settleFrees.pavRsv 0 (bitsOf ((1114112 : Word).toNat) 10 0 % 4) (bitsOf ((1114112 : Word).toNat) 10 0 / 32) - ((ownData net 16).owner 0 (bitsOf ((1114112 : Word).toNat) 10 0)).rmin + (ownData net 16).fld (aBPM_OWN_DATA0 0) 15 0)) ∧
    (ownData net 17).mayWrite (Path.fn 0) (aBPM_OWN_CMD 0) = true ∧
    ((ownData net 17).poolCount 0 (bitsOf ((1114112 : Word).toNat) 10 0 % 4) < (ownData net 17).settleFrees.rsvSum 0 (bitsOf ((1114112 : Word).toNat) 10 0 % 4) - ((ownData net 17).owner 0 (bitsOf ((1114112 : Word).toNat) 10 0)).rmin + (ownData net 17).fld (aBPM_OWN_DATA0 0) 15 0 ∨ (ownData net 17).rsvCap 0 (bitsOf ((1114112 : Word).toNat) 10 0 % 4) (bitsOf ((1114112 : Word).toNat) 10 0 / 32) < (ownData net 17).settleFrees.pavRsv 0 (bitsOf ((1114112 : Word).toNat) 10 0 % 4) (bitsOf ((1114112 : Word).toNat) 10 0 / 32) - ((ownData net 17).owner 0 (bitsOf ((1114112 : Word).toNat) 10 0)).rmin + (ownData net 17).fld (aBPM_OWN_DATA0 0) 15 0) :=
  by and_intros <;> decide +kernel

theorem met_PathTables_2 :
    net.mayWrite (Path.fn 0) aSCH_CAL_CMD = true ∧
    bitOf ((131071 : Word).toNat) 16 = true ∧
    bitOf ((131071 : Word).toNat) 20 = false ∧
    bitOf ((1179647 : Word).toNat) 16 = true ∧
    bitOf ((1179647 : Word).toNat) 20 = true ∧
    net.schedRunning = false ∧
    (netReserved net).mayWrite (Path.fn 0) aSCH_CAL_CMD = true ∧
    (netReserved net).schedRunning = true ∧
    net.mayWrite (Path.fn 0) aSCH_POL_CMD = true ∧
    bitOf ((70911 : Word).toNat) 16 = true ∧
    bitOf ((70911 : Word).toNat) 20 = false ∧
    bitsOf ((70911 : Word).toNat) 12 0 < 5376 ∧
    (net.policer (bitsOf ((70911 : Word).toNat) 12 0)).cir < 2 ^ 20 ∧
    (net.policer (bitsOf ((70911 : Word).toNat) 12 0)).cbs < 2 ^ 24 ∧
    (net.policer (bitsOf ((70911 : Word).toNat) 12 0)).ebs < 2 ^ 24 ∧
    (polData net).mayWrite (Path.fn 0) aSCH_POL_CMD = true ∧
    bitOf ((1119487 : Word).toNat) 16 = true ∧
    bitOf ((1119487 : Word).toNat) 20 = true ∧
    bitsOf ((1119487 : Word).toNat) 12 0 < 5376 ∧
    5376 ≤ bitsOf ((70912 : Word).toNat) 12 0 ∧
    bitOf ((70912 : Word).toNat) 16 = true ∧
    bitOf ((70912 : Word).toNat) 20 = false ∧
    5376 ≤ bitsOf ((1119488 : Word).toNat) 12 0 ∧
    bitOf ((1119488 : Word).toNat) 16 = true ∧
    bitOf ((1119488 : Word).toNat) 20 = true :=
  by and_intros <;> decide +kernel

theorem met_PathTables_3 :
    ({ net with busy := [(aRTE_TBL_CMD, 40000)] } : State).mayWrite (Path.fn 0) aRTE_TBL_CMD = true ∧
    ({ net with busy := [(aRTE_TBL_CMD, 40000)] } : State).tblBusy aRTE_TBL_CMD = true ∧
    net.tblBusy aRTE_TBL_CMD = false ∧
    ({ net with busy := [(aSCH_CAL_CMD, 40000)] } : State).mayWrite (Path.fn 0) aSCH_CAL_CMD = true ∧
    ({ net with busy := [(aSCH_CAL_CMD, 40000)] } : State).tblBusy aSCH_CAL_CMD = true ∧
    net.tblBusy aSCH_CAL_CMD = false ∧
    ({ net with busy := [(aSCH_POL_CMD, 40000)] } : State).mayWrite (Path.fn 0) aSCH_POL_CMD = true ∧
    ({ net with busy := [(aSCH_POL_CMD, 40000)] } : State).tblBusy aSCH_POL_CMD = true ∧
    net.tblBusy aSCH_POL_CMD = false ∧
    ({ net with busy := [((aBPM_OWN_CMD 0), 40000)] } : State).mayWrite (Path.fn 0) (aBPM_OWN_CMD 0) = true ∧
    ({ net with busy := [((aBPM_OWN_CMD 0), 40000)] } : State).tblBusy (aBPM_OWN_CMD 0) = true ∧
    net.tblBusy (aBPM_OWN_CMD 0) = false ∧
    ({ net with busy := [((aBPM_OWN_CMD 1), 40000)] } : State).mayWrite (Path.fn 0) (aBPM_OWN_CMD 1) = true ∧
    ({ net with busy := [((aBPM_OWN_CMD 1), 40000)] } : State).tblBusy (aBPM_OWN_CMD 1) = true ∧
    net.tblBusy (aBPM_OWN_CMD 1) = false ∧
    (withData net 2147549189).tblBusy aRTE_TBL_CMD = false ∧
    (netReserved (withData net 2147549189)).tblBusy aRTE_TBL_CMD = false ∧
    (ownData net 16).tblBusy (aBPM_OWN_CMD 0) = false ∧
    (ownData net 17).tblBusy (aBPM_OWN_CMD 0) = false ∧
    (netReserved net).tblBusy aSCH_CAL_CMD = false ∧
    (polData net).tblBusy aSCH_POL_CMD = false ∧
    ((polData net).policer 5375).enable = false ∧
    bitOf ((polData net).reg aSCH_POL_DATA0).toNat 31 = true ∧
    (((polData net).setPolicer 5375 { net.policer 5375 with enable := true }).policer 5375).enable = true ∧
    ((netOther.foreignEp 0 (2 ^ 31 + 8 * 2 ^ 12)) = true) :=
  by and_intros <;> decide +kernel

theorem met_EthernetPorts :
    (sport 1).hasPort (80 + 0) = true ∧
    ((sport 1).sub (80 + 0) 0).state = 4 ∧
    (sport 1).frameClass 0 (frameOf 2048 0 60) false = SFrame.fcs ∧
    (sport 1).frameClass 0 (frameOf 2048 0 59) true = SFrame.short ∧
    (sport 1).frameClass 0 (frameOf 2048 0 20000) true = SFrame.long ∧
    (sport 1).frameClass 0 (frameOf 2048 0 60) true = SFrame.data ∧
    (sport 1).frameClass 0 (frameOf 34824 1 60) true = SFrame.pause ∧
    ((sport 1).pause 0).ends.length = 8 ∧
    (sport 2).hasPort (80 + 0) = true ∧
    ((sport 2).sub (80 + 0) 0).state = 4 ∧
    (sport 2).frameClass 0 (frameOf 34824 257 60) true = SFrame.pfc ∧
    ((sport 2).pause 0).ends.length = 8 ∧
    (sport 2).frameClass 0 (frameOf 34824 1 60) true = SFrame.control ∧
    (sport 2).frameClass 0 (frameOf 34824 1 60) true ≠ SFrame.pause ∧
    (sport 1).frameClass 0 (frameOf 34824 1 60) true ≠ SFrame.pfc ∧
    (sport 1).frameClass 0 (frameOf 34824 1 60) true ≠ SFrame.control ∧
    sportPaused.hasPort (80 + 0) = true ∧
    (sportPaused.sub (80 + 0) 0).state = 4 ∧
    (sportPaused.pause 0).ends.getD 7 0 ≠ 0 ∧
    sportPaused.tim.lock = true ∧
    (sportPaused.pause 0).ends.getD 6 0 = 0 ∧
    sportXoff.hasPort (80 + 0) = true ∧
    (sportXoff.sub (80 + 0) 0).state = 4 ∧
    bitOf (sportXoff.pause 0).txXoff 7 = true ∧
    sportXoff.bit (aSCH_PAUSE_CTRL (80 + 0)) 2 = true ∧
    sportXoff.fld (aSCH_PAUSE_XON (80 + 0)) 19 0 < sportXoff.heldFrames 0 7 ∧
    (sportXoff.setReg (aSCH_PAUSE_XON 80) 1).hasPort (80 + 0) = true ∧
    ((sportXoff.setReg (aSCH_PAUSE_XON 80) 1).sub (80 + 0) 0).state = 4 ∧
    bitOf ((sportXoff.setReg (aSCH_PAUSE_XON 80) 1).pause 0).txXoff 0 = true ∧
    (sportXoff.setReg (aSCH_PAUSE_XON 80) 1).bit (aSCH_PAUSE_CTRL (80 + 0)) 2 = true ∧
    (sportXoff.setReg (aSCH_PAUSE_XON 80) 1).heldFrames 0 0 ≤ (sportXoff.setReg (aSCH_PAUSE_XON 80) 1).fld (aSCH_PAUSE_XON (80 + 0)) 19 0 ∧
    (sport 1).hasPort (80 + 0) = true ∧
    ((sport 1).sub (80 + 0) 0).state = 4 ∧
    (sport 1).frameClass 0 (frameOf 2048 0 60) true = SFrame.data ∧
    (((sport 1).police (8 * 80) (framePcp (frameOf 2048 0 60)) 64).1 = true) ∧
    ((((sport 1).alloc (allocPort 80).1 (allocPort 80).2 (framePcp (frameOf 2048 0 60)) 3).1).isSome = true) ∧
    (sportOff.alloc (allocPort 80).1 (allocPort 80).2 (framePcp (frameOf 2048 0 60)) 3).1 = none ∧
    sportOff.frameClass 0 (frameOf 2048 0 60) true = SFrame.data ∧
    (sportOff.sub 80 0).state = 4 ∧
    sportPoliced.frameClass 0 (frameOf 2048 0 60) true = SFrame.data ∧
    (sportPoliced.police (8 * 80) (framePcp (frameOf 2048 0 60)) 64).1 = false ∧
    sportXoff.tim.lock = true ∧
    sportXoff.fld (aSCH_PAUSE_CTRL 80) 1 0 = 1 ∧
    bitOf (sportXoff.pause 0).txXoff 0 = true ∧
    sportXoff.fld (aSCH_PAUSE_XON (80 + 0)) 19 0 < sportXoff.heldFrames 0 0 ∧
    ¬(sportXoff.fld (aSCH_PAUSE_CTRL 80) 1 0 = 2 ∨ (sportXoff.fld (aSCH_PAUSE_CTRL 80) 1 0 = 1 ∧ 7 = 0)) ∧
    sportXoff2.fld (aSCH_PAUSE_CTRL 80) 1 0 = 2 ∧
    bitOf (sportXoff2.pause 0).txXoff 0 = true ∧
    sportXoff2.bit (aSCH_PAUSE_CTRL 80) 2 = true ∧
    sportXoff2.fld (aSCH_PAUSE_XON 80) 19 0 < sportXoff2.heldFrames 0 0 :=
  by and_intros <;> decide +kernel

end Sys2Proof.Tests
end

