-- ==== Sys2Proof/Tests/MetRest.lean ====
section
/-! SUPPORT. For each statement about capture, pavilions, management and registers: states and operands that meet the hypotheses of its clauses, in their order; a
hypothesis that stands in several clauses is given once. -/

namespace Sys2Proof.Tests

-- One witness after the other: proofs that run at once would each hold a stack of the size the check gives a thread.
set_option Elab.async false

open Sys2Proof Sys2Proof.Machine

theorem met_CaptureReplayDigest_1 :
    (capReady.fnPav d0.fn).isSome = true ∧
    (firstOf [(1, capReady.cap.active), (2, capReady.captureRegion.isNone), (3, match capReady.captureRegion with | some r => decide (capReady.fnPav d0.fn ≠ some r.pav ∨ 0 = 2 ∧ capReady.portPav (80 + 0) ≠ some r.pav) | none => false), (4, decide (0 = 2 ∧ false = true ∧ capReady.fld (aPRT_S_MAXFRAME (80 + 0)) 13 0 < 8320))] 0 = 0) ∧
    capReady.captureRegion = some { valid := true, kind := 1, lport := 0, pav := 0, die := 0, base := 16, size := 16 } ∧
    (rings.fnPav d0.fn).isSome = true ∧
    (firstOf [(1, rings.cap.active), (2, rings.captureRegion.isNone), (3, match rings.captureRegion with | some r => decide (rings.fnPav d0.fn ≠ some r.pav ∨ 0 = 2 ∧ rings.portPav (80 + 0) ≠ some r.pav) | none => false), (4, decide (0 = 2 ∧ false = true ∧ rings.fld (aPRT_S_MAXFRAME (80 + 0)) 13 0 < 8320))] 0 ≠ 0) ∧
    capReady.cap.active = false ∧
    Serves (capturing capOther) d0 ∧
    ((capturing capOther).fnPav d0.fn).isSome = true ∧
    (capturing capOther).cap.active = true ∧
    (capturing capOther).fnPav d0.fn ≠ some (capturing capOther).cap.pav ∧
    Serves (capturing cap0) d0 ∧
    ((capturing cap0).fnPav d0.fn).isSome = true ∧
    (capturing cap0).cap.active = true ∧
    (capturing cap0).fnPav d0.fn = some (capturing cap0).cap.pav ∧
    (capturing capStopping).cap.active = true ∧
    (capturing capStopping).cap.ending = true ∧
    (capturing cap0).cap.ending = false ∧
    Path.fn 0 = Path.fn 0 ∧
    (capturing capArmed).mayWrite (Path.fn 0) aDET_CAP_TRIGGER = true ∧
    bitOf ((1 : Word).toNat) 0 = true ∧
    (capturing capArmed).cap.active = true ∧
    (capturing capArmed).cap.armed = true ∧
    (capturing capArmed).cap.triggered = false ∧
    (capturing capArmed).cap.ending = false ∧
    (capturing capTriggered).mayWrite (Path.fn 0) aDET_CAP_TRIGGER = true ∧
    (capturing capTriggered).cap.active = true ∧
    (capturing capTriggered).cap.armed = true ∧
    (capturing capTriggered).cap.triggered = true ∧
    (capturing cap0).cap.armed = false ∧
    (capturing capPost).cap.active = true ∧
    (capturing capPost).cap.ending = false ∧
    (capturing capPost).cap.post = some 0 ∧
    (capturing cap0).cap.post ≠ some 0 ∧
    (capturing capLost).cap.active = true ∧
    (capturing capLost).cap.ending = false ∧
    (capturing capLost).cap.lostRecs ≠ 0 :=
  by and_intros <;> decide +kernel

theorem met_CaptureReplayDigest_2 :
    (capturing capLost).cap.level - 256 * ((capturing capLost).tim.clk - (capturing capLost).cap.levelClk) + 320 ≤ 5 * 2 ^ 20 ∧
    (capturing capLost).capFits 64 = true ∧
    64 ≤ (capturing capLost).cap.size ∧
    (capturing cap0).cap.lostRecs = 0 ∧
    (capturing capStream).cap.dest = 2 ∧
    (fitRecs ((capturing capStream).fld (aPRT_S_MAXFRAME (80 + (capturing capStream).cap.sport)) 13 0 - 26) (capturing capStream).cap.recs).1 ≠ [] ∧
    (capturing capStream).depth (8 * (80 + (capturing capStream).cap.sport)) ((capturing capStream).qmap (8 * (80 + (capturing capStream).cap.sport)) 0) < (capturing capStream).fld (aSCH_Q_LIMIT (80 + (capturing capStream).cap.sport) 0 ((capturing capStream).qmap (8 * (80 + (capturing capStream).cap.sport)) 0)) 23 0 ∧
    ((capturing capStream).egr (8 * (80 + (capturing capStream).cap.sport))).queues.length = 8 ∧
    (capturing cap0).cap.dest ≠ 2 ∧
    net.rpl.active = false ∧
    (replaying 64 4096).rpl.active = true ∧
    (replaying 64 4096).rplLen ≤ (replaying 64 4096).rplPos ∧
    replay4.rpl.active = true ∧
    replay4.rplPos < replay4.rplLen ∧
    recField recHead 1 1 % 2 = 0 ∧
    recField (recIn 5) 0 1 = 1 ∧
    recField (recIn 5) 1 1 % 2 = 1 ∧
    recField (recMark 3) 0 1 = 3 ∧
    recField (recMark 3) 16 4 = 3 ∧
    (replay4.setReg aDET_RPL_CAP_START_LO 100).rpl.active = true ∧
    (replay4.setReg aDET_RPL_CAP_START_LO 100).rplPos < (replay4.setReg aDET_RPL_CAP_START_LO 100).rplLen ∧
    recField (recIn 3) 0 1 = 1 ∧
    recField (recIn 3) 1 1 % 2 = 1 ∧
    (replay4.setReg aDET_RPL_CAP_START_LO 100).mapped (recIn 3) = none ∧
    recField (recIn 6) 0 1 = 1 ∧
    recField (recIn 6) 1 1 % 2 = 1 ∧
    replay4.mapped (recIn 6) = some 46080 ∧
    replay4.tim.now ≤ 46080 ∧
    replay4.rplPos + 64 * max 1 (recField (recIn 6) 2 2) < replay4.rplLen ∧
    replay4.rplPos + 64 * max 1 (recField (recIn 6) 2 2) < 2 ^ 38 ∧
    (digesting false).mayWrite (Path.fn 0) aDET_DIG_CMD = true ∧
    (digesting false).digest = none ∧
    bitOf ((65548 : Word).toNat) 16 = true ∧
    (digesting false).sched.launched = false ∧
    ((digesting false).plainWrite aDET_DIG_CMD 65548).digOwned = true ∧
    bitOf ((65544 : Word).toNat) 16 = true :=
  by and_intros <;> decide +kernel

theorem met_CaptureReplayDigest_3 :
    ((digesting false).plainWrite aDET_DIG_CMD 65544).digOwned = false ∧
    (digesting true).digest = some ⟨0, 64, 0, 38400⟩ ∧
    ((digesting true).advTo ((digesting true).tim.now + 32)).poisoned 0 64 = false ∧
    up.digest = none ∧
    digPoison.digest = some ⟨0, 64, 0, 38400⟩ ∧
    (digPoison.advTo (digPoison.tim.now + 32)).poisoned 0 64 = true ∧
    (16 : Nat) ≠ 0 ∧
    capReady.memoriesOk ∧
    (digesting false).mayWrite (Path.fn 0) aDET_DIG_CMD = true ∧
    capUndo.cap.active = true ∧
    capUndo.fnPav d0.fn = some capUndo.cap.pav ∧
    capUndo.cap.groupAt = (capUndo.take d0).tim.clk / 32 ∧
    capUndo.cap.group.any (·.trig) = true ∧
    Serves capUndo d0 ∧
    (¬((capturing cap0).cap.group.any (·.trig) = true)) ∧
    64 ≤ (capturing cap0).cap.size ∧
    (capturing cap0).memoriesOk ∧
    (capturing capArmEnd).cap.active = true ∧
    (capturing capArmEnd).cap.armed = true ∧
    (capturing capArmEnd).cap.triggered = false ∧
    (capturing capArmEnd).cap.ending = true ∧
    Path.smbus ≠ Path.fn 0 ∧
    (capturing capArmed).cap.post = none ∧
    ((capturing capArmed).cap.groupAt ≠ (capturing capArmed).tim.clk / 32 ∨ (capturing capArmed).cap.group = []) ∧
    recField (recMark 4) 0 1 = 3 ∧
    recField (recMark 4) 16 4 = 4 ∧
    recField recLoss 0 1 = 4 ∧
    (replay4.mapped (recIn 4)).any (fun t => decide (t < replay4.tim.now)) = true ∧
    ((capturing cap0).take d0).capUntrigger.capTakes 64 = true ∧
    Serves (capturing capFullNew) d0 ∧
    (capturing capFullNew).cap.active = true ∧
    (capturing capFullNew).cap.ending = false ∧
    ((capturing capFullNew).take d0).capUntrigger.capTakes 64 = false ∧
    (capturing capFullNew).cap.dest ≠ 1 ∧
    (capturing capFullNew).fnPav d0.fn = some (capturing capFullNew).cap.pav ∧
    Serves (capturing capStop1) d0 ∧
    (capturing capStop1).cap.dest = 1 ∧
    (capturing capPost).capTakes 64 = true ∧
    5 * 2 ^ 20 < (capturing capFull).cap.level - 256 * ((capturing capFull).tim.clk - (capturing capFull).cap.levelClk) + 320 ∧
    (capturing capFull).cap.lostRecs ≠ 0 ∧
    recField (recMark 4) 16 4 ≠ 3 ∧
    (replay4.mapped (recMark 4)).any (fun t => decide (replay4.tim.now ≤ t)) = true ∧
    replay4.rplPos + 64 * max 1 (recField (recMark 4) 2 2) < replay4.rplLen ∧
    recField (recMark 1) 16 4 = 1 ∧
    (replay4.mapped (recMark 1)).any (fun t => decide (replay4.tim.now ≤ t)) = true ∧
    recField (recMark 2) 16 4 = 2 ∧
    ¬(recField (recMark 5) 16 4 = 1 ∨ recField (recMark 5) 16 4 = 2 ∨ recField (recMark 5) 16 4 = 4) ∧
    recField (recMark 5) 16 4 ≠ 3 ∧
    (replay4.mapped (recMark 5)).any (fun t => decide (replay4.tim.now ≤ t)) = true ∧
    (replay4.setReg aDET_RPL_CAP_START_LO 100).mapped (recMark 5) = none ∧
    ({ digesting false with regions := [] } : State).sched.launched = false ∧
    (({ digesting false with regions := [] } : State).plainWrite aDET_DIG_CMD 65548).digOwned = false ∧
    bitsOf (65548 : Word).toNat 3 2 = 3 ∧
    bitsOf (65544 : Word).toNat 3 2 ≠ 3 :=
  by and_intros <;> decide +kernel

theorem met_PavilionChanges :
    Serves (keyed rings none) d0 ∧
    propTokens.length ≤ 4096 ∧
    d0.fn = 0 ∧
    firstOf [(1, !proposalForm propTokens), (2, (keyed rings none).pav.pend.isSome || !(keyed rings none).pav.scrubs.isEmpty), (3, recField propTokens 8 4 != (keyed rings none).pav.seq + 1), (4, recField propTokens 16 8 != (keyed rings none).pav.nonce), (5, !verifies (keyed rings none).pav.opKey (List.take (propTokens.length - 96) propTokens) (List.drop (propTokens.length - 96) propTokens))] (((keyed rings none).take d0).changeCheck (recsOf (recField propTokens 6 2) (List.drop 32 propTokens))) = 0 ∧
    Serves (keyed rings (some pendTokens)) d0 ∧
    firstOf [(1, !proposalForm propTokens), (2, (keyed rings (some pendTokens)).pav.pend.isSome || !(keyed rings (some pendTokens)).pav.scrubs.isEmpty), (3, recField propTokens 8 4 != (keyed rings (some pendTokens)).pav.seq + 1), (4, recField propTokens 16 8 != (keyed rings (some pendTokens)).pav.nonce), (5, !verifies (keyed rings (some pendTokens)).pav.opKey (List.take (propTokens.length - 96) propTokens) (List.drop (propTokens.length - 96) propTokens))] (((keyed rings (some pendTokens)).take d0).changeCheck (recsOf (recField propTokens 6 2) (List.drop 32 propTokens))) ≠ 0 ∧
    Serves (keyed (ringsVf false) none) d1 ∧
    apprTokens.length ≤ 4096 ∧
    (keyed (ringsVf false) none).pav.cust ≠ 0 ∧
    d1.fn = (keyed (ringsVf false) none).pav.cust ∧
    (firstOf [(1, !approvalForm apprTokens), (6, (keyed (ringsVf false) none).pav.pend.isNone), (3, recField apprTokens 8 4 != (keyed (ringsVf false) none).pav.seq + 1), (7, match (keyed (ringsVf false) none).pav.pend with | some p => beNat (List.take 48 (List.drop 16 apprTokens)) != p.digest | none => false), (8, match (keyed (ringsVf false) none).pav.pend with | some p => (keyed (ringsVf false) none).windowOver p | none => false), (5, !verifies (keyed (ringsVf false) none).pav.cuKey (List.take 64 apprTokens) (List.drop 64 apprTokens))] (match (keyed (ringsVf false) none).pav.pend with | some p => ((keyed (ringsVf false) none).take d1).changeCheck p.recs | none => 0) ≠ 0) ∧
    Serves (keyed (ringsVf false) (some pendTokens)) d1 ∧
    (keyed (ringsVf false) (some pendTokens)).pav.cust ≠ 0 ∧
    d1.fn = (keyed (ringsVf false) (some pendTokens)).pav.cust ∧
    (firstOf [(1, !approvalForm apprTokens), (6, (keyed (ringsVf false) (some pendTokens)).pav.pend.isNone), (3, recField apprTokens 8 4 != (keyed (ringsVf false) (some pendTokens)).pav.seq + 1), (7, match (keyed (ringsVf false) (some pendTokens)).pav.pend with | some p => beNat (List.take 48 (List.drop 16 apprTokens)) != p.digest | none => false), (8, match (keyed (ringsVf false) (some pendTokens)).pav.pend with | some p => (keyed (ringsVf false) (some pendTokens)).windowOver p | none => false), (5, !verifies (keyed (ringsVf false) (some pendTokens)).pav.cuKey (List.take 64 apprTokens) (List.drop 64 apprTokens))] (match (keyed (ringsVf false) (some pendTokens)).pav.pend with | some p => ((keyed (ringsVf false) (some pendTokens)).take d1).changeCheck p.recs | none => 0) = 0) ∧
    (keyed (ringsVf false) (some pendTokens)).pav.pend = some pendTokens ∧
    up.pav.next = none ∧
    scrubbing.pav.next = some up.pav.table ∧
    up.pav.pend = none ∧
    (keyed rings (some pendTokens)).pav.pend = some pendTokens :=
  by and_intros <;> decide +kernel

theorem met_PavilionChanges_2 :
    Serves (keyed (ringsVf false) none) d1 ∧
    d1.fn ≠ 0 ∧
    d0.fn ≠ (keyed rings none).pav.cust ∧
    Serves (keyed rings none) d0 ∧
    up.pav.cust = 0 ∧
    (pendTokens.clk / 32 + windowSclk) * 32 ≥ 38400 ∧
    scrubsOf up.pav.table (up.pavSet.apply pendTokens.recs).table = [] ∧
    scrubsOf up.pav.table (up.pavSet.apply pendUnits.recs).table ≠ [] ∧
    up.memoriesOk ∧
    scrubbing.boot.warm = false ∧
    (boot' scrubbing fun b => { b with warm := true }).boot.warm = true ∧
    (boot' scrubbing fun b => { b with warm := true }).pav.next = some up.pav.table ∧
    ownerIn up.pav.table (fun e => bitOf e.columns (cellCol 0)) ≠ ownerIn (up.pavSet.apply pendCols.recs).table (fun e => bitOf e.columns (cellCol 0)) ∧
    scrubsOf up.pav.table (up.pavSet.apply pendCols.recs).table ≠ [] ∧
    pendCols.digest = digTokens :=
  by and_intros <;> decide +kernel

theorem met_ManagementPaths_1 :
    up.boot.vsb = true ∧
    (typing "r").boot.vsb = true ∧
    ((match (typing "r").mgt.relay with | some (fst, true) => true | x => false) = false) ∧
    lineDone (typing "r").mgt.line = false ∧
    (typing " ").boot.vsb = true ∧
    ((match (typing " ").mgt.relay with | some (fst, true) => true | x => false) = false) ∧
    lineDone (typing " ").mgt.line = false ∧
    wordsOfLine (typing " ").mgt.line [] = [] ∧
    (typing "rd 10").boot.vsb = true ∧
    ((match (typing "rd 10").mgt.relay with | some (fst, true) => true | x => false) = false) ∧
    lineDone (typing "rd 10").mgt.line = false ∧
    wordsOfLine (typing "rd 10").mgt.line [] = [txt "rd", txt "10"] :=
  by and_intros <;> decide +kernel

theorem met_ManagementPaths_2 :
    (typing "rd 10").mgt.line.length ≤ 255 ∧
    txt "rd" ∈ conWords ∧
    (typing "xx").boot.vsb = true ∧
    ((match (typing "xx").mgt.relay with | some (fst, true) => true | x => false) = false) ∧
    lineDone (typing "xx").mgt.line = false ∧
    wordsOfLine (typing "xx").mgt.line [] = [txt "xx"] ∧
    txt "xx" ∉ conWords ∧
    (line "rd 0").boot.vsb = true ∧
    ((match (line "rd 0").mgt.relay with | some (fst, true) => true | x => false) = false) ∧
    lineDone (line "rd 0").mgt.line = true ∧
    (line "rd 0").mgt.fifo.length < 64 ∧
    fifoFull.boot.vsb = true ∧
    255 < approveLine.length ∧
    wordsOfLine approveLine [] = [txt "approve", List.replicate 320 0x30] ∧
    txt "approve" ∈ conWords ∧
    255 < (txt "rd " ++ List.replicate 300 (0x30 : Byte)).length ∧
    wordsOfLine (txt "rd " ++ List.replicate 300 (0x30 : Byte)) [] = [txt "rd", List.replicate 300 0x30] ∧
    txt "rd" ≠ txt "approve" ∧
    (portIs 1 0 0 (sub0 3)).hasSub 1 0 = true ∧
    ((portIs 1 0 0 (sub0 3)).sub 1 0).state = 3 ∧
    ((portIs 1 0 0 (sub0 2)).sub 1 0).state = 2 :=
  by and_intros <;> decide +kernel

theorem met_ManagementPaths_3 :
    ((match fifoFull.mgt.relay with | some (fst, true) => true | x => false) = false) ∧
    lineDone fifoFull.mgt.line = true ∧
    64 ≤ fifoFull.mgt.fifo.length ∧
    relaying.boot.vsb = true ∧
    relaying.mgt.relay = some (3, true) ∧
    (typing "rd").boot.vsb = true ∧
    (line "rd 60018").boot.vsb = true ∧
    lineDone ((line "rd 60018").conLine false) = true ∧
    wordsOfLine ((line "rd 60018").conLine false) [] = [txt "rd", txt "60018"] ∧
    List.map hexNum [txt "60018"] = [some 393240] ∧
    accessCode ((line "rd 60018").access Path.console 393240 false) = 0 ∧
    (line "rd 31000").boot.vsb = true :=
  by and_intros <;> decide +kernel

theorem met_ManagementPaths_4 :
    lineDone ((line "rd 31000").conLine false) = true ∧
    wordsOfLine ((line "rd 31000").conLine false) [] = [txt "rd", txt "31000"] ∧
    List.map hexNum [txt "31000"] = [some 200704] ∧
    accessCode ((line "rd 31000").access Path.console 200704 false) ≠ 0 ∧
    (line "rd").boot.vsb = true ∧
    lineDone ((line "rd").conLine false) = true ∧
    wordsOfLine ((line "rd").conLine false) [] = [txt "rd"] ∧
    ([] : List Byte).length ≠ 1 ∧
    (relLine "wr 60010 1").boot.vsb = true ∧
    lineDone ((relLine "wr 60010 1").conLine true) = true ∧
    wordsOfLine ((relLine "wr 60010 1").conLine true) [] = [txt "wr", txt "60010", txt "1"] ∧
    (true = true → (relLine "wr 60010 1").mgt.relay = some (3, false)) :=
  by and_intros <;> decide +kernel

theorem met_ManagementPaths_5 :
    (relLine "wr 60010 1").mgt.relay = some (3, false) ∧
    (line "wr 60010 1").boot.vsb = true ∧
    lineDone ((line "wr 60010 1").conLine false) = true ∧
    wordsOfLine ((line "wr 60010 1").conLine false) [] = [txt "wr", txt "60010", txt "1"] ∧
    List.map hexNum [txt "60010", txt "1"] = [some 393232, some 1] ∧
    (line "wr 60010 1").access Path.console 393232 true = Access.served ∧
    (line "sensors").boot.vsb = true ∧
    lineDone ((line "sensors").conLine false) = true ∧
    wordsOfLine ((line "sensors").conLine false) [] = [txt "sensors"] ∧
    (line "log 0").boot.vsb = true ∧
    lineDone ((line "log 0").conLine false) = true ∧
    wordsOfLine ((line "log 0").conLine false) [] = [txt "log", txt "0"] :=
  by and_intros <;> decide +kernel

theorem met_ManagementPaths_6 :
    List.map hexNum [txt "0"] = [some 0] ∧
    (line "log 0").access Path.console aLOG_VIEW false = Access.served ∧
    (relLine "drain 1").boot.vsb = true ∧
    lineDone ((relLine "drain 1").conLine true) = true ∧
    wordsOfLine ((relLine "drain 1").conLine true) [] = [txt "drain", txt "1"] ∧
    (true = true → (relLine "drain 1").mgt.relay = some (3, false)) ∧
    (relLine "drain 1").mgt.relay = some (3, false) ∧
    (line "drain 1").boot.vsb = true ∧
    lineDone ((line "drain 1").conLine false) = true ∧
    wordsOfLine ((line "drain 1").conLine false) [] = [txt "drain", txt "1"] ∧
    List.map hexNum [txt "1"] = [some 1] ∧
    (line "drain 1").access Path.console aLOG_DRAIN_ADV true = Access.served :=
  by and_intros <;> decide +kernel

theorem met_ManagementPaths_7 :
    (relLine "approve 0").boot.vsb = true ∧
    lineDone ((relLine "approve 0").conLine true) = true ∧
    wordsOfLine ((relLine "approve 0").conLine true) [] = [txt "approve", txt "0"] ∧
    (true = true → (relLine "approve 0").mgt.relay = some (3, false)) ∧
    (relLine "approve 0").mgt.relay = some (3, false) ∧
    lineApprove.boot.vsb = true ∧
    lineDone (lineApprove.conLine false) = true ∧
    wordsOfLine (lineApprove.conLine false) [] = [txt "approve", List.replicate 320 48] ∧
    List.map hexDigits [List.replicate 320 48] = [some (List.replicate 320 0)] ∧
    (List.replicate 320 0).length = 320 ∧
    lineApprove.boot.stage ≠ 0 ∧
    lineApprove.mgt.approving = false :=
  by and_intros <;> decide +kernel

theorem met_ManagementPaths_8 :
    lineBoot.boot.vsb = true ∧
    lineDone (lineBoot.conLine false) = true ∧
    wordsOfLine (lineBoot.conLine false) [] = [txt "approve", List.replicate 320 48] ∧
    lineBoot.boot.stage = 0 ∧
    lineWaiting.boot.vsb = true ∧
    lineDone (lineWaiting.conLine false) = true ∧
    wordsOfLine (lineWaiting.conLine false) [] = [txt "approve", List.replicate 320 48] ∧
    lineWaiting.boot.stage ≠ 0 ∧
    lineWaiting.mgt.approving = true ∧
    (relLine "wreset").boot.vsb = true ∧
    lineDone ((relLine "wreset").conLine true) = true ∧
    wordsOfLine ((relLine "wreset").conLine true) [] = [txt "wreset"] :=
  by and_intros <;> decide +kernel

theorem met_ManagementPaths_9 :
    (true = true → (relLine "wreset").mgt.relay = some (3, false)) ∧
    (relLine "wreset").mgt.relay = some (3, false) ∧
    (line "wreset").boot.vsb = true ∧
    lineDone ((line "wreset").conLine false) = true ∧
    wordsOfLine ((line "wreset").conLine false) [] = [txt "wreset"] ∧
    (lineLane "relay 3").boot.vsb = true ∧
    lineDone ((lineLane "relay 3").conLine false) = true ∧
    wordsOfLine ((lineLane "relay 3").conLine false) [] = [txt "relay", txt "3"] ∧
    List.map hexNum [txt "3"] = [some 3] ∧
    (lineLane "relay 3").mgt.relay = none ∧
    ((lineLane "relay 3").lane (stcIdx 3)).up = true ∧
    up.mgt.fifo = [] :=
  by and_intros <;> decide +kernel

theorem met_ManagementPaths_10 :
    (stcUp 3).boot.vsb = true ∧
    ((stcUp 3).lane (stcIdx 3)).up = true ∧
    (stcUp 3).mgt.relay = none ∧
    (relaying.lane (stcIdx 3)).up = true ∧
    relaying.mgt.relay ≠ none ∧
    relayedFrom.boot.vsb = true ∧
    (relayedFrom.lane (stcIdx 3)).up = true ∧
    relayedFrom.mgt.relay = some (3, false) ∧
    lineDone relayedFrom.mgt.relayLine = false ∧
    (∀ (h : Bool), (stcUp 3).mgt.relay ≠ some (3, h)) ∧
    accessCode (up.access Path.smbus 393240 false) = 0 ∧
    accessCode (up.access Path.smbus 200704 false) ≠ 0 :=
  by and_intros <;> decide +kernel

theorem met_ManagementPaths_11 :
    (¬(some true = some false ∨ some true = none ∧ up.bit aMGT_SMB_CFG 2 = true)) ∧
    (¬((none : Option Bool) = some false ∨ (none : Option Bool) = none ∧ up.bit aMGT_SMB_CFG 2 = true)) ∧
    ([] : List Byte).length ≠ 160 ∧
    blk160.length = 160 ∧
    alerting.boot.vsb = true ∧
    alerting.alertLow = true ∧
    up.alertLow = false ∧
    up.boot.pwrOk = true ∧
    up.sched.launched = false ∧
    launched.boot.vsb = true ∧
    launched.sched.launched = true ∧
    accessCode (up.access Path.tap 393240 false) = 0 :=
  by and_intros <;> decide +kernel

theorem met_ManagementPaths_12 :
    accessCode (up.access Path.tap 200704 false) ≠ 0 ∧
    uartFrame [] = none ∧
    uartFrame (uartOf 0x72 false) = some (0x72, false) ∧
    uartFrame (uartOf 0x72 true) = some (0x72, true) ∧
    isEol 0x72 = false ∧
    isEol 0x0D = true ∧
    lineDone (line "rd 0").mgt.line = true ∧
    pecOn.bit aMGT_SMB_CFG 2 = true ∧
    pecOn.boot.vsb = true ∧
    (launched.boot.pwrOk = false ∨ launched.sched.launched = true) :=
  by and_intros <;> decide +kernel

theorem met_RegistersLogSensors :
    regKey (Path.fn 3) 65536 = none ∧
    regKey (Path.fn 0) aMXU_EVENT = some aMXU_EVENT ∧
    (up.setReg aMXU_EVENT 3).mayWrite (Path.fn 0) aMXU_EVENT = true ∧
    28 % 16 = 12 ∧
    up.hostServed = true ∧
    bitOf ((1 : Word).toNat) 0 = true ∧
    32764 % 16 = 12 ∧
    bitOf ((0 : Word).toNat) 0 = false ∧
    regKey (Path.fn 0) (aMEM_PF_BYTES_LO + 4) = some (aMEM_PF_BYTES_LO + 4) ∧
    up.access (Path.fn 0) (aMEM_PF_BYTES_LO + 4) false = Access.served ∧
    up.absent (aMEM_PF_BYTES_LO + 4) = false ∧
    isPairHigh (aMEM_PF_BYTES_LO + 4) = true ∧
    regKey (Path.fn 0) aMEM_PF_BYTES_LO = some aMEM_PF_BYTES_LO ∧
    up.access (Path.fn 0) aMEM_PF_BYTES_LO false = Access.served ∧
    up.absent aMEM_PF_BYTES_LO = false ∧
    regKey (Path.fn 0) aMEM_PF_COUNT = some aMEM_PF_COUNT ∧
    up.access (Path.fn 0) aMEM_PF_COUNT false = Access.served ∧
    up.absent aMEM_PF_COUNT = false ∧
    up.access (Path.fn 0) aTIM_NOW_LO false = Access.served ∧
    regKey (Path.fn 0) aTIM_NOW_LO = some aTIM_NOW_LO ∧
    up.log.queue = [] ∧
    logWaiting.log.queue = [logEnt 9] ∧
    logged2.mayWrite (Path.fn 0) aLOG_DRAIN_ADV = true ∧
    up.boot.vsb = true ∧
    noVsb.boot.vsb = false ∧
    tripped.mayWrite (Path.fn 0) aMGT_TRIP_REC = true ∧
    bitOf ((2147483648 : Word).toNat) 31 = true ∧
    tripped.bit aMGT_TRIP_REC 31 = true ∧
    (∀ i < 16, tripped.temp i < tripped.warnAt) ∧
    trippedHot.mayWrite (Path.fn 0) aMGT_TRIP_REC = true ∧
    trippedHot.warnAt ≤ trippedHot.temp 2 ∧
    hwShared aMXU_EVENT = false ∧
    (up.setReg aMXU_EVENT 3).outranked (Path.fn 0) aMXU_EVENT = false ∧
    (∀ x ∈ (up.setReg aMXU_EVENT 3).now4.held, x.1 ≠ aMXU_EVENT) ∧
    blockOf aMXU_EVENT = 15 ∧
    (regRow aMXU_EVENT).isSome = true ∧
    wrote.outranked (Path.fn 0) aMGT_SMB_CFG = true ∧
    wrote.mayWrite (Path.fn 0) aMGT_SMB_CFG = true ∧
    regKey (Path.fn 0) aMGT_SMB_CFG = some aMGT_SMB_CFG ∧
    (regRow aMGT_SMB_CFG).isSome = true ∧
    regKey (Path.fn 0) (aMXU_FAULT_REC2 1) = some (aMXU_FAULT_REC2 1) ∧
    heldFault.mayWrite (Path.fn 0) (aMXU_FAULT_REC2 1) = true ∧
    heldFault.outranked (Path.fn 0) (aMXU_FAULT_REC2 1) = false ∧
    faultRecord (aMXU_FAULT_REC2 1) = true ∧
    heldFault.now4.held.find? (fun x => x.1 == aMXU_FAULT_REC2 1) = some (aMXU_FAULT_REC2 1, [(aMXU_FAULT_REC0 1, 7)]) ∧
    heldFault.justSet (aMXU_FAULT_REC2 1) 0 = false ∧
    aMXU_FAULT_REC2 1 ∉ [aMXU_FAULT_REC0 1] ∧
    [aMXU_FAULT_REC0 1].Nodup ∧
    up.mayWrite (Path.fn 0) aPWR_PEAK = true ∧
    regKey (Path.fn 0) aPWR_PEAK = some aPWR_PEAK ∧
    up.outranked (Path.fn 0) aPWR_PEAK = false ∧
    up.access (Path.fn 3) 0x6000 false = Access.blank ∧
    up.access (Path.fn 0) (aPRT_CTRL 72) false = Access.served ∧
    up.absent (aPRT_CTRL 72) = true ∧
    isPairHigh aMEM_PF_BYTES_LO = false ∧
    isPairLow aMEM_PF_BYTES_LO = true ∧
    isPairHigh aMEM_PF_COUNT = false ∧
    isPairLow aMEM_PF_COUNT = false ∧
    up.access Path.smbus 200704 false = Access.denied ∧
    regKey Path.smbus 200704 = some 200704 ∧
    up.tim.now / 8 < 2 ^ 64 ∧
    (logEnt 9).time < logWaiting.edgeNs ∧
    logPast.log.queue = [{ logEnt 9 with time := logPast.edgeNs }] ∧
    logFull.log.queue = [logEnt 9] ∧
    8192 ≤ logFull.log.wrSeq - logFull.log.drainSeq ∧
    (¬8192 ≤ logWaiting.log.wrSeq - logWaiting.log.drainSeq) ∧
    drainNow.mayWrite (Path.fn 0) aLOG_DRAIN_ADV = true ∧
    (drainNow.tim.lock = true ∧ drainNow.log.drainAt = drainNow.tim.clk / 32 + 1) ∧
    (¬(logged2.tim.lock = true ∧ logged2.log.drainAt = logged2.tim.clk / 32 + 1)) ∧
    hotSensor.mgt.hot.contains 2 = true ∧
    hotSensor.boot.vsb = true ∧
    cooled.mgt.warn = true ∧
    2 ∈ cooled.mgt.warned ∧
    up.mgt.hot.contains 16 = false ∧
    up.hasSensor 2 = true ∧
    up.hasSensor 15 = false ∧
    8 % 16 ≠ 12 ∧
    0x8004 < 0x8100 ∧
    0x8004 % 4 = 0 ∧
    (bar4Off 65536 = none) ∧
    (8 : Nat) < 0x8000 :=
  by and_intros <;> decide +kernel

end Sys2Proof.Tests
end

