-- ==== Sys2Proof/Tests/MetUnits.lean ====
section
/-! SUPPORT. For each statement about memories, matrix units, groups and streams: states and operands that meet the hypotheses of its clauses, in their order; a
hypothesis that stands in several clauses is given once. -/

namespace Sys2Proof.Tests

-- One witness after the other: proofs that run at once would each hold a stack of the size the check gives a thread.
set_option Elab.async false

open Sys2Proof Sys2Proof.Machine

theorem met_MemoryTables_1 :
    (tensor false).mayWrite (Path.fn 0) aMEM_RGN_CMD = true ∧
    bitOf ((65536 : Word).toNat) 16 = true ∧
    bitOf ((65536 : Word).toNat) 20 = false ∧
    ((tensor false).setData3 aMEM_RGN_DATA0 (regionWord { kind := 0, die := 0, pav := 0, base := 16, size := 16 })).mayWrite (Path.fn 0) aMEM_RGN_CMD = true ∧
    bitOf ((1114117 : Word).toNat) 16 = true ∧
    bitOf ((1114117 : Word).toNat) 20 = true ∧
    ((regionOf (((tensor false).setData3 aMEM_RGN_DATA0 (regionWord { kind := 0, die := 0, pav := 0, base := 16, size := 16 })).data3 aMEM_RGN_DATA0 &&& 2475880060700477228111036417)).valid = false ∨ (regionOf (((tensor false).setData3 aMEM_RGN_DATA0 (regionWord { kind := 0, die := 0, pav := 0, base := 16, size := 16 })).data3 aMEM_RGN_DATA0 &&& 2475880060700477228111036417)).size ≠ 0 ∧ ((regionOf (((tensor false).setData3 aMEM_RGN_DATA0 (regionWord { kind := 0, die := 0, pav := 0, base := 16, size := 16 })).data3 aMEM_RGN_DATA0 &&& 2475880060700477228111036417)).base + (regionOf (((tensor false).setData3 aMEM_RGN_DATA0 (regionWord { kind := 0, die := 0, pav := 0, base := 16, size := 16 })).data3 aMEM_RGN_DATA0 &&& 2475880060700477228111036417)).size) * 4096 ≤ hbmBytes ((tensor false).setData3 aMEM_RGN_DATA0 (regionWord { kind := 0, die := 0, pav := 0, base := 16, size := 16 })).fuse.grade ∧ (regionOf (((tensor false).setData3 aMEM_RGN_DATA0 (regionWord { kind := 0, die := 0, pav := 0, base := 16, size := 16 })).data3 aMEM_RGN_DATA0 &&& 2475880060700477228111036417)).kind ≤ 2 ∧ ((regionOf (((tensor false).setData3 aMEM_RGN_DATA0 (regionWord { kind := 0, die := 0, pav := 0, base := 16, size := 16 })).data3 aMEM_RGN_DATA0 &&& 2475880060700477228111036417)).kind = 2 → ((tensor false).setData3 aMEM_RGN_DATA0 (regionWord { kind := 0, die := 0, pav := 0, base := 16, size := 16 })).hasL (regionOf (((tensor false).setData3 aMEM_RGN_DATA0 (regionWord { kind := 0, die := 0, pav := 0, base := 16, size := 16 })).data3 aMEM_RGN_DATA0 &&& 2475880060700477228111036417)).lport = true) ∧ ∀ e ∈ ((tensor false).setData3 aMEM_RGN_DATA0 (regionWord { kind := 0, die := 0, pav := 0, base := 16, size := 16 })).regions, e.1 ≠ bitsOf ((1114117 : Word).toNat) 7 0 → (regionOf e.2).valid = true → ¬((regionOf (((tensor false).setData3 aMEM_RGN_DATA0 (regionWord { kind := 0, die := 0, pav := 0, base := 16, size := 16 })).data3 aMEM_RGN_DATA0 &&& 2475880060700477228111036417)).kind = 1 ∧ (regionOf e.2).kind = 1) ∧ ((regionOf e.2).die = (regionOf (((tensor false).setData3 aMEM_RGN_DATA0 (regionWord { kind := 0, die := 0, pav := 0, base := 16, size := 16 })).data3 aMEM_RGN_DATA0 &&& 2475880060700477228111036417)).die → (regionOf (((tensor false).setData3 aMEM_RGN_DATA0 (regionWord { kind := 0, die := 0, pav := 0, base := 16, size := 16 })).data3 aMEM_RGN_DATA0 &&& 2475880060700477228111036417)).base + (regionOf (((tensor false).setData3 aMEM_RGN_DATA0 (regionWord { kind := 0, die := 0, pav := 0, base := 16, size := 16 })).data3 aMEM_RGN_DATA0 &&& 2475880060700477228111036417)).size ≤ (regionOf e.2).base ∨ (regionOf e.2).base + (regionOf e.2).size ≤ (regionOf (((tensor false).setData3 aMEM_RGN_DATA0 (regionWord { kind := 0, die := 0, pav := 0, base := 16, size := 16 })).data3 aMEM_RGN_DATA0 &&& 2475880060700477228111036417)).base)) ∧
    ((tensor false).setData3 aMEM_RGN_DATA0 (regionWord { kind := 0, die := 0, pav := 0, base := 15, size := 16 })).mayWrite (Path.fn 0) aMEM_RGN_CMD = true ∧
    (¬((regionOf (((tensor false).setData3 aMEM_RGN_DATA0 (regionWord { kind := 0, die := 0, pav := 0, base := 15, size := 16 })).data3 aMEM_RGN_DATA0 &&& 2475880060700477228111036417)).valid = false ∨ (regionOf (((tensor false).setData3 aMEM_RGN_DATA0 (regionWord { kind := 0, die := 0, pav := 0, base := 15, size := 16 })).data3 aMEM_RGN_DATA0 &&& 2475880060700477228111036417)).size ≠ 0 ∧ ((regionOf (((tensor false).setData3 aMEM_RGN_DATA0 (regionWord { kind := 0, die := 0, pav := 0, base := 15, size := 16 })).data3 aMEM_RGN_DATA0 &&& 2475880060700477228111036417)).base + (regionOf (((tensor false).setData3 aMEM_RGN_DATA0 (regionWord { kind := 0, die := 0, pav := 0, base := 15, size := 16 })).data3 aMEM_RGN_DATA0 &&& 2475880060700477228111036417)).size) * 4096 ≤ hbmBytes ((tensor false).setData3 aMEM_RGN_DATA0 (regionWord { kind := 0, die := 0, pav := 0, base := 15, size := 16 })).fuse.grade ∧ (regionOf (((tensor false).setData3 aMEM_RGN_DATA0 (regionWord { kind := 0, die := 0, pav := 0, base := 15, size := 16 })).data3 aMEM_RGN_DATA0 &&& 2475880060700477228111036417)).kind ≤ 2 ∧ ((regionOf (((tensor false).setData3 aMEM_RGN_DATA0 (regionWord { kind := 0, die := 0, pav := 0, base := 15, size := 16 })).data3 aMEM_RGN_DATA0 &&& 2475880060700477228111036417)).kind = 2 → ((tensor false).setData3 aMEM_RGN_DATA0 (regionWord { kind := 0, die := 0, pav := 0, base := 15, size := 16 })).hasL (regionOf (((tensor false).setData3 aMEM_RGN_DATA0 (regionWord { kind := 0, die := 0, pav := 0, base := 15, size := 16 })).data3 aMEM_RGN_DATA0 &&& 2475880060700477228111036417)).lport = true) ∧ ∀ e ∈ ((tensor false).setData3 aMEM_RGN_DATA0 (regionWord { kind := 0, die := 0, pav := 0, base := 15, size := 16 })).regions, e.1 ≠ bitsOf ((1114117 : Word).toNat) 7 0 → (regionOf e.2).valid = true → ¬((regionOf (((tensor false).setData3 aMEM_RGN_DATA0 (regionWord { kind := 0, die := 0, pav := 0, base := 15, size := 16 })).data3 aMEM_RGN_DATA0 &&& 2475880060700477228111036417)).kind = 1 ∧ (regionOf e.2).kind = 1) ∧ ((regionOf e.2).die = (regionOf (((tensor false).setData3 aMEM_RGN_DATA0 (regionWord { kind := 0, die := 0, pav := 0, base := 15, size := 16 })).data3 aMEM_RGN_DATA0 &&& 2475880060700477228111036417)).die → (regionOf (((tensor false).setData3 aMEM_RGN_DATA0 (regionWord { kind := 0, die := 0, pav := 0, base := 15, size := 16 })).data3 aMEM_RGN_DATA0 &&& 2475880060700477228111036417)).base + (regionOf (((tensor false).setData3 aMEM_RGN_DATA0 (regionWord { kind := 0, die := 0, pav := 0, base := 15, size := 16 })).data3 aMEM_RGN_DATA0 &&& 2475880060700477228111036417)).size ≤ (regionOf e.2).base ∨ (regionOf e.2).base + (regionOf e.2).size ≤ (regionOf (((tensor false).setData3 aMEM_RGN_DATA0 (regionWord { kind := 0, die := 0, pav := 0, base := 15, size := 16 })).data3 aMEM_RGN_DATA0 &&& 2475880060700477228111036417)).base))) ∧
    (serving []).mayWrite (Path.fn 0) aMEM_GTBL_CMD = true ∧
    bitOf ((65538 : Word).toNat) 16 = true ∧
    bitOf ((65538 : Word).toNat) 20 = false ∧
    ((tensor false).setData3 aMEM_GTBL_DATA0 (2 ^ 31 + 16 * 2 ^ 64)).mayWrite (Path.fn 0) aMEM_GTBL_CMD = true ∧
    bitOf ((1114114 : Word).toNat) 16 = true ∧
    bitOf ((1114114 : Word).toNat) 20 = true ∧
    ((gtabOf (((tensor false).setData3 aMEM_GTBL_DATA0 (2 ^ 31 + 16 * 2 ^ 64)).data3 aMEM_GTBL_DATA0 &&& 79228162496394054271055691903)).valid = false ∨ (gtabOf (((tensor false).setData3 aMEM_GTBL_DATA0 (2 ^ 31 + 16 * 2 ^ 64)).data3 aMEM_GTBL_DATA0 &&& 79228162496394054271055691903)).rows ≠ 0 ∧ ((tensor false).setData3 aMEM_GTBL_DATA0 (2 ^ 31 + 16 * 2 ^ 64)).tensorOk (gtabOf (((tensor false).setData3 aMEM_GTBL_DATA0 (2 ^ 31 + 16 * 2 ^ 64)).data3 aMEM_GTBL_DATA0 &&& 79228162496394054271055691903)).pav ((gtabOf (((tensor false).setData3 aMEM_GTBL_DATA0 (2 ^ 31 + 16 * 2 ^ 64)).data3 aMEM_GTBL_DATA0 &&& 79228162496394054271055691903)).die * 2 ^ 39 + (gtabOf (((tensor false).setData3 aMEM_GTBL_DATA0 (2 ^ 31 + 16 * 2 ^ 64)).data3 aMEM_GTBL_DATA0 &&& 79228162496394054271055691903)).base) ((gtabOf (((tensor false).setData3 aMEM_GTBL_DATA0 (2 ^ 31 + 16 * 2 ^ 64)).data3 aMEM_GTBL_DATA0 &&& 79228162496394054271055691903)).rows * (gtabOf (((tensor false).setData3 aMEM_GTBL_DATA0 (2 ^ 31 + 16 * 2 ^ 64)).data3 aMEM_GTBL_DATA0 &&& 79228162496394054271055691903)).row) = true) ∧
    ((tensor false).setData3 aMEM_GTBL_DATA0 (2 ^ 31 + 1025 * 2 ^ 64)).mayWrite (Path.fn 0) aMEM_GTBL_CMD = true ∧
    (¬((gtabOf (((tensor false).setData3 aMEM_GTBL_DATA0 (2 ^ 31 + 1025 * 2 ^ 64)).data3 aMEM_GTBL_DATA0 &&& 79228162496394054271055691903)).valid = false ∨ (gtabOf (((tensor false).setData3 aMEM_GTBL_DATA0 (2 ^ 31 + 1025 * 2 ^ 64)).data3 aMEM_GTBL_DATA0 &&& 79228162496394054271055691903)).rows ≠ 0 ∧ ((tensor false).setData3 aMEM_GTBL_DATA0 (2 ^ 31 + 1025 * 2 ^ 64)).tensorOk (gtabOf (((tensor false).setData3 aMEM_GTBL_DATA0 (2 ^ 31 + 1025 * 2 ^ 64)).data3 aMEM_GTBL_DATA0 &&& 79228162496394054271055691903)).pav ((gtabOf (((tensor false).setData3 aMEM_GTBL_DATA0 (2 ^ 31 + 1025 * 2 ^ 64)).data3 aMEM_GTBL_DATA0 &&& 79228162496394054271055691903)).die * 2 ^ 39 + (gtabOf (((tensor false).setData3 aMEM_GTBL_DATA0 (2 ^ 31 + 1025 * 2 ^ 64)).data3 aMEM_GTBL_DATA0 &&& 79228162496394054271055691903)).base) ((gtabOf (((tensor false).setData3 aMEM_GTBL_DATA0 (2 ^ 31 + 1025 * 2 ^ 64)).data3 aMEM_GTBL_DATA0 &&& 79228162496394054271055691903)).rows * (gtabOf (((tensor false).setData3 aMEM_GTBL_DATA0 (2 ^ 31 + 1025 * 2 ^ 64)).data3 aMEM_GTBL_DATA0 &&& 79228162496394054271055691903)).row) = true)) ∧
    up.mayWrite (Path.fn 0) aMEM_GWIN_CMD = true ∧
    bitOf ((65539 : Word).toNat) 16 = true ∧
    bitOf ((65539 : Word).toNat) 20 = false ∧
    (up.setReg aMEM_GWIN_DATA0 1193046).mayWrite (Path.fn 0) aMEM_GWIN_CMD = true ∧
    bitOf ((1114367 : Word).toNat) 16 = true ∧
    bitOf ((1114367 : Word).toNat) 20 = true ∧
    (up.setReg aMEM_GWIN_DATA0 1193046).schedRunning = false ∧
    launched.mayWrite (Path.fn 0) aMEM_GWIN_CMD = true ∧
    launched.schedRunning = true ∧
    (updating 0 false).mayWrite (Path.fn 0) aSTR_TBL_CMD = true ∧
    bitOf ((65545 : Word).toNat) 16 = true ∧
    bitOf ((65545 : Word).toNat) 20 = false ∧
    (up.setReg aSTR_TBL_DATA0 4294967295).mayWrite (Path.fn 0) aSTR_TBL_CMD = true ∧
    bitOf ((1179647 : Word).toNat) 16 = true ∧
    bitOf ((1179647 : Word).toNat) 20 = true ∧
    ((up.setReg aSTR_TBL_DATA0 4294967295).stream (bitsOf ((1179647 : Word).toNat) 15 0)).state = 0 ∧
    bitOf ((1114121 : Word).toNat) 16 = true ∧
    bitOf ((1114121 : Word).toNat) 20 = true :=
  by and_intros <;> decide +kernel

theorem met_MemoryTables_2 :
    ((updating 0 false).stream (bitsOf ((1114121 : Word).toNat) 15 0)).state ≠ 0 ∧
    up.mayWrite (Path.fn 0) aMEM_CTRL = true ∧
    bitOf ((0 : Word).toNat) 0 = up.bit aMEM_CTRL 0 ∧
    (tensor true).mayWrite (Path.fn 0) aMEM_CTRL = true ∧
    bitOf ((1 : Word).toNat) 0 = true ∧
    (tensor true).bit aMEM_CTRL 0 = false ∧
    noTokens.mayWrite (Path.fn 0) aMEM_CTRL = true ∧
    noTokens.bit aMEM_CTRL 0 = false ∧
    noTokens.serveTokens noTokens.engines = Sum.inl 0 ∧
    (serving []).mayWrite (Path.fn 0) aMEM_CTRL = true ∧
    bitOf ((0 : Word).toNat) 0 = false ∧
    (serving []).bit aMEM_CTRL 0 = true :=
  by and_intros <;> decide +kernel

theorem met_MemoryTables_3 :
    ({ up with busy := [(aMEM_RGN_CMD, 40000)] } : State).mayWrite (Path.fn 0) aMEM_RGN_CMD = true ∧
    ({ up with busy := [(aMEM_RGN_CMD, 40000)] } : State).tblBusy aMEM_RGN_CMD = true ∧
    ({ up with busy := [(aMEM_GTBL_CMD, 40000)] } : State).mayWrite (Path.fn 0) aMEM_GTBL_CMD = true ∧
    ({ up with busy := [(aMEM_GTBL_CMD, 40000)] } : State).tblBusy aMEM_GTBL_CMD = true ∧
    ({ up with busy := [(aMEM_GWIN_CMD, 40000)] } : State).mayWrite (Path.fn 0) aMEM_GWIN_CMD = true ∧
    ({ up with busy := [(aMEM_GWIN_CMD, 40000)] } : State).tblBusy aMEM_GWIN_CMD = true ∧
    ({ up with busy := [(aSTR_TBL_CMD, 40000)] } : State).mayWrite (Path.fn 0) aSTR_TBL_CMD = true ∧
    ({ up with busy := [(aSTR_TBL_CMD, 40000)] } : State).tblBusy aSTR_TBL_CMD = true ∧
    (tensor false).tblBusy aMEM_RGN_CMD = false ∧
    (serving []).tblBusy aMEM_GTBL_CMD = false ∧
    (tensor false).tblBusy aMEM_GTBL_CMD = false ∧
    up.tblBusy aMEM_GWIN_CMD = false ∧
    launched.tblBusy aMEM_GWIN_CMD = false ∧
    (updating 0 false).tblBusy aSTR_TBL_CMD = false ∧
    up.tblBusy aSTR_TBL_CMD = false ∧
    ((tensor true).serveTokens (tensor true).engines).isRight = true ∧
    (tensor true).engines ≠ [] :=
  by and_intros <;> decide +kernel

theorem met_MatrixLaunches :
    (up.mx 1).run = none ∧
    ((matrix mrun0).mx 1).run = some mrun0 ∧
    mrun0.started = false ∧
    (matrix mrun0).running = true ∧
    ((matrix mrun1).mx 1).run = some mrun1 ∧
    mrun1.started = true ∧
    mrun1.bad = false ∧
    ((matrix mrunBad).mx 1).run = some mrunBad ∧
    mrunBad.bad = true ∧
    ((matrix mrunHbm).mx 1).run = some mrunHbm ∧
    mrunHbm.started = true ∧
    mrunHbm.engine.isSome = true ∧
    mrun1.engine = none ∧
    mrunBad.started = true ∧
    1 < dM mrunBad.desc ∧
    39000 / 6 ≤ mrunBad.stop ∧
    (2 = 2 ∧ ((updating 11 false).stream 9).upd = 11) ∧
    ((updating 11 false).stream 9).unit = 1 ∧
    ((updating 11 false).mx 1).run = none ∧
    (updating 11 false).running = true ∧
    ((updating 12 true).stream 9).upd = 12 ∧
    ((updating 12 true).stream 9).vec = true ∧
    (updating 12 true).img = some img1 ∧
    img1.cellRec[bitsOf (((updating 12 true).stream 9).w 7) 15 0]? = some launch0 ∧
    (updating 12 true).launchBad launch0 true = none ∧
    gates launch0 = [] ∧
    (up.stream 9).upd = 0 ∧
    ((matrix mrunBound).mx 1).run = some mrunBound ∧
    mrunBound.started = true ∧
    mrunBound.bound = some 3 ∧
    mrunHbm.bound = none ∧
    ((matrix mrunUpd2).mx 1).run = some mrunUpd2 ∧
    mrunUpd2.stream = some (9, 2) ∧
    mrunUpd2.started = true ∧
    mrunUpd2.bad = false ∧
    mrun1.stream = none ∧
    (updating 11 false).updCheck ((updating 11 false).stream 9) 2 = 0 ∧
    (updOff 11).updCheck ((updOff 11).stream 9) 2 ≠ 0 ∧
    ((updOff 11).mx 1).run = none ∧
    (updOff 11).running = true ∧
    updNoCell.launchBad { launch0 with entry := 1024 } true ≠ none ∧
    (∀ r ∈ updNoCell.cel.runs, r.stream ≠ some 9) ∧
    (matrix mrun0).pageLate mrun0 = none ∧
    ((pageSt (some 0)).mx 1).run = some mrunUpd1 ∧
    (pageSt (some 0)).pageLate mrunUpd1 = none ∧
    mrunUpd1.started = false ∧
    (pageSt none).running = true ∧
    (pageSt none).pageLate mrunUpd1 = some 9 ∧
    (pageSt (some 7000)).pageLate mrunUpd1 = some 9 ∧
    1 ≤ dM mrun0.desc ∧
    1 ≤ dN mrun0.desc ∧
    1 ≤ mxuDepth mrun0.desc ∧
    min 7 (3 - mrunBound.stall) ≠ 0 ∧
    mrunBound.engine.isSome = true ∧
    min 7 (0 - mrunBound.stall) = 0 ∧
    img1.cellRec[bitsOf ((updNoCell.stream 9).w 7) 15 0]? = some launch0 ∧
    launch0.pav = ((updating 12 true).stream 9).pav ∧
    (updForeign.stream 9).upd = 12 ∧
    (updForeign.stream 9).vec = true ∧
    ({ launch0 with pav := 3 } : Launch).pav ≠ (updForeign.stream 9).pav :=
  by and_intros <;> decide +kernel

/-- A packet that the K8 has sent to a unit of its own is handed to the unit whose command names it. -/
theorem met_Hands_own (s : State) (p : Pkt) (want : Pkt → Bool) (h : want p = true) :
    Hands (ownPkt s p) want .own ⟨p, none, 1008, s.tim.now, s.tim.now, s.tim.now⟩
      { ownPkt s p with rte := { (ownPkt s p).rte with own := [] } } := by
  refine ⟨h, p, none, ?_, rfl, ?_⟩
  · simp [ownPkt, h]
  · simp [ownPkt]

theorem met_MemoryMovers_1 :
    prefetching.pf 0 = [{ rec_ := pf0, pav := 0, bound := 6500 }] ∧
    prefetching.running = true ∧
    prefetching.badWords pf0.src pf0.len = [] ∧
    up.pf 1 = [] ∧
    (paging false false 1 false).running = true ∧
    (paging false false 1 false).pager 0 = [pageMv false false none] ∧
    (paging true false 13 true).running = true ∧
    (paging true false 13 true).pager 0 = [pageMv true false none] ∧
    (paging true false 3 false).running = true ∧
    (paging true false 3 false).pager 0 = [pageMv true false none] ∧
    (paging false false 3 false).running = true ∧
    (paging false false 3 false).pager 0 = [pageMv false false none] ∧
    ((gatherPkt 2).kind == 12) = true ∧
    ((ownPkt (serving [1]) (gatherPkt 2)).gtab (bitsOf (gatherPkt 2).tag 19 11)).valid = true ∧
    (gatherPkt 2).pav = ((ownPkt (serving [1]) (gatherPkt 2)).gtab (bitsOf (gatherPkt 2).tag 19 11)).pav ∧
    bitsOf (gatherPkt 2).tag 10 0 + 1 ≤ 16 * ((gatherPkt 2).len + 1) ∧
    ((ownPkt (serving [1]) (gatherPkt 2)).greq ((ownPkt (serving [1]) (gatherPkt 2)).gtab (bitsOf (gatherPkt 2).tag 19 11)).die).length < 64 ∧
    4 * ((ownPkt (serving [1]) (gatherPkt 2)).gtab (bitsOf (gatherPkt 2).tag 19 11)).die ≤ 0 ∧
    0 < 4 * ((ownPkt (serving [1]) (gatherPkt 2)).gtab (bitsOf (gatherPkt 2).tag 19 11)).die + 4 ∧
    (ownPkt (serving [1]) (gatherPkt 2)).inService 0 = true ∧
    (ownPkt (serving [1]) (gatherPkt 2)).enginePav 0 = some ((ownPkt (serving [1]) (gatherPkt 2)).gtab (bitsOf (gatherPkt 2).tag 19 11)).pav ∧
    ((gatherPkt 17).kind == 12) = true ∧
    (¬((ownPkt up (gatherPkt 17)).gtab (bitsOf (gatherPkt 17).tag 19 11)).valid = true) ∧
    (¬((servingOut.gtab 2).valid = true ∧ ∀ r ∈ [1], (servingOut.gtab 2).rows ≤ r ∨ servingOut.tensorOk (servingOut.gtab 2).pav ((servingOut.gtab 2).die * 2 ^ 39 + (servingOut.gtab 2).base + r * (servingOut.gtab 2).row) (servingOut.gtab 2).row = true)) ∧
    (serving [1, 2]).running = true ∧
    (((serving [1, 2]).gtab 2).valid = true ∧ ∀ r ∈ [1, 2], ((serving [1, 2]).gtab 2).rows ≤ r ∨ (serving [1, 2]).tensorOk ((serving [1, 2]).gtab 2).pav (((serving [1, 2]).gtab 2).die * 2 ^ 39 + ((serving [1, 2]).gtab 2).base + r * ((serving [1, 2]).gtab 2).row) ((serving [1, 2]).gtab 2).row = true) ∧
    (∀ r ∈ [1, 2], r < ((serving [1, 2]).gtab 2).rows ∧ (serving [1, 2]).poisoned (((serving [1, 2]).gtab 2).die * 2 ^ 39 + ((serving [1, 2]).gtab 2).base + r * ((serving [1, 2]).gtab 2).row) ((serving [1, 2]).gtab 2).row = false) ∧
    (0 < (List.flatMap (fun (r : ℕ) => if ((serving [1, 2]).gtab 2).rows ≤ r then List.replicate ((serving [1, 2]).gtab 2).row 0 else (serving [1, 2]).rd (((serving [1, 2]).gtab 2).die * 2 ^ 39 + ((serving [1, 2]).gtab 2).base + r * ((serving [1, 2]).gtab 2).row) ((serving [1, 2]).gtab 2).row) [1, 2]).length) ∧
    ((List.flatMap (fun (r : ℕ) => if ((serving [1, 2]).gtab 2).rows ≤ r then List.replicate ((serving [1, 2]).gtab 2).row 0 else (serving [1, 2]).rd (((serving [1, 2]).gtab 2).die * 2 ^ 39 + ((serving [1, 2]).gtab 2).base + r * ((serving [1, 2]).gtab 2).row) ((serving [1, 2]).gtab 2).row) [1, 2]).length ≤ 8192) ∧
    (serving [1, 20]).running = true :=
  by and_intros <;> decide +kernel

theorem met_MemoryMovers_2 :
    (((serving [1, 20]).gtab 2).valid = true ∧ ∀ r ∈ [1, 20], ((serving [1, 20]).gtab 2).rows ≤ r ∨ (serving [1, 20]).tensorOk ((serving [1, 20]).gtab 2).pav (((serving [1, 20]).gtab 2).die * 2 ^ 39 + ((serving [1, 20]).gtab 2).base + r * ((serving [1, 20]).gtab 2).row) ((serving [1, 20]).gtab 2).row = true) :=
  by and_intros <;> decide +kernel

theorem met_MemoryMovers_3 :
    pfBad.pf 0 = [{ rec_ := pf0, pav := 0, bound := 6500 }] ∧
    pfBad.badWords pf0.src pf0.len ≠ [] ∧
    pf0.src < 2 ^ 40 ∧
    prefetching.writes = [] ∧
    prefetching.memoriesOk ∧
    (paging false false 1 false).winOk ((paging false false 1 false).stream 9) = true ∧
    (paging true false 13 true).winOk ((paging true false 13 true).stream 9) = true ∧
    (paging false true 1 false).pager 0 = [pageMv false true none] ∧
    (paging false true 1 false).winOk ((paging false true 1 false).stream 9) = true ∧
    (paging false true 1 false).memoriesOk ∧
    ((paging true false 13 true).stream 9).upd = 13 ∧ ((paging true false 13 true).stream 9).l3Done = true ∧
    ((paging true false 3 false).stream 9).upd ≠ 13 ∧
    (pagingOff false).winOk ((pagingOff false).stream 9) = false ∧
    (pagingOff false).pager 0 = [pageMv false false none] ∧
    (pagingOff true).winOk ((pagingOff true).stream 9) = false ∧
    (pagingOff true).pager 0 = [pageMv true false none] ∧
    (pagingOff true).running = true ∧
    servingOut.gwinHas 0 (max servingOut.tim.now 38400 / 7680) = false ∧
    (serving [1, 2]).gwinHas 0 (max (serving [1, 2]).tim.now 38400 / 7680) = false ∧
    (serving [1, 20]).gwinHas 0 (max (serving [1, 20]).tim.now 38400 / 7680) = false ∧
    ((serving [1, 20]).gtab 2).rows ≤ 20 ∧
    gwinMask.running = true ∧
    gwinMask.gwinHas 0 (max gwinMask.tim.now 38400 / 7680) = true ∧
    pfWrite ∈ pfPending.writes ∧
    pfPending.pf 0 = [{ rec_ := pf0, pav := 0, bound := 6500 }] ∧
    pfPending.running = true ∧
    pfPending.memoriesOk ∧
    pfWrite.at_ = 6 * 6500 ∧
    pfWrite.rank = 1 ∧
    pfWrite.key = pfKey pf0 0 ∧
    pagingTail.running = true ∧
    pagingTail.pager 0 = [pageMv true false (some 5)] ∧
    pagingTail.winOk (pagingTail.stream 9) = true ∧
    (pageMv true false none).tail = none ∧
    (∀ q ∈ servingBusy.greq 0 ++ [⟨2, 9, 7, [1]⟩], servingBusy.idleEngine 0 (servingBusy.gtab q.table).pav servingBusy.curSlot = none) ∧
    ((servingBusy.gtab 2).valid = true) ∧
    (serving [1]).idleEngine 0 ((serving [1]).gtab 2).pav (serving [1]).curSlot = some 0 ∧
    ({ (serving [1]) with greq0 := [] } : State).greq 0 = [] ∧
    servingOut.running = true ∧
    (((servingOut.advTo 38400).gatherTake 0).gheld.find? fun e => e.1 == 0) = some (0, ⟨2, 9, 7, [1]⟩) ∧
    (serving [1, 2]).running = true ∧
    ((((serving [1, 2]).advTo 38400).gatherTake 0).gheld.find? fun e => e.1 == 0) = some (0, ⟨2, 9, 7, [1, 2]⟩) ∧
    (∀ r ∈ [1, 2], (((serving [1, 2]).advTo 38400).gatherTake 0).poisoned (((serving [1, 2]).gtab 2).die * 2 ^ 39 + ((serving [1, 2]).gtab 2).base + r * ((serving [1, 2]).gtab 2).row) ((serving [1, 2]).gtab 2).row = false ∧ (((serving [1, 2]).advTo 38400).gatherTake 0).softCount (((serving [1, 2]).gtab 2).die * 2 ^ 39 + ((serving [1, 2]).gtab 2).base + r * ((serving [1, 2]).gtab 2).row) ((serving [1, 2]).gtab 2).row = 0) ∧
    ((((serving [1, 20]).advTo 38400).gatherTake 0).gheld.find? fun e => e.1 == 0) = some (0, ⟨2, 9, 7, [1, 20]⟩) ∧
    ((((serving [1, 20]).advTo 38400).gatherTake 0).gheld.find? fun e => e.1 == 7) = none ∧
    (serving [1, 20]).gwinHas 7 5 = false ∧
    ((((serving [1, 20]).advTo 38400).gatherTake 0).gheld.find? fun e => e.1 == 1) = none ∧
    (7 : Nat) < 8 :=
  by and_intros <;> decide +kernel

theorem met_GroupCommands :
    (rings.fnPav d0.fn).isSome = true ∧
    128 ≤ ((colBlk 256 256).set 42 1).length ∧
    blockRsv ((colBlk 256 256).set 42 1) = true ∧
    128 ≤ (colBlk 256 256).length ∧
    blockRsv (colBlk 256 256) = false ∧
    blockBad (colBlk 256 256) (groupOf (colBlk 256 256)) = false ∧
    (∀ c ∈ [(1, (rings.grp 5).isSome), (2, !rings.groupPavOk d0.fn 5 (groupOf (colBlk 256 256))), (3, (groupOf (colBlk 256 256)).elems == 0 || (groupOf (colBlk 256 256)).elems % 256 != 0 || (groupOf (colBlk 256 256)).op == 3 && (groupOf (colBlk 256 256)).rows * (groupOf (colBlk 256 256)).width % 256 != 0), (4, (groupOf (colBlk 256 256)).members.any fun (m : Member) => m.count != (groupOf (colBlk 256 256)).perRank m), (5, !(groupOf (colBlk 256 256)).membersOk), (6, !rings.levelOk (groupOf (colBlk 256 256))), (7, !(groupOf (colBlk 256 256)).formatOk), (8, !(groupOf (colBlk 256 256)).sizeOk), (9, !rings.cellsOk 5 (groupOf (colBlk 256 256)))], c.2 = false) ∧
    128 ≤ (colBlk 200 200).length ∧
    blockRsv (colBlk 200 200) = false ∧
    blockBad (colBlk 200 200) (groupOf (colBlk 200 200)) = false ∧
    ([(1, (rings.grp 5).isSome), (2, !rings.groupPavOk d0.fn 5 (groupOf (colBlk 200 200))), (3, (groupOf (colBlk 200 200)).elems == 0 || (groupOf (colBlk 200 200)).elems % 256 != 0 || (groupOf (colBlk 200 200)).op == 3 && (groupOf (colBlk 200 200)).rows * (groupOf (colBlk 200 200)).width % 256 != 0), (4, (groupOf (colBlk 200 200)).members.any fun (m : Member) => m.count != (groupOf (colBlk 200 200)).perRank m), (5, !(groupOf (colBlk 200 200)).membersOk), (6, !rings.levelOk (groupOf (colBlk 200 200))), (7, !(groupOf (colBlk 200 200)).formatOk), (8, !(groupOf (colBlk 200 200)).sizeOk), (9, !rings.cellsOk 5 (groupOf (colBlk 200 200)))] = [(1, false), (2, false)] ++ [(3, true), (4, false), (5, false), (6, false), (7, false), (8, false), (9, false)]) ∧
    (∀ c ∈ [(1, false), (2, false)], c.2 = false) ∧
    rings.fnPav d0.fn = some 0 ∧
    Serves (ringsVf true) d1 ∧
    (ringsVf true).fnPav d1.fn = some 3 ∧
    (ringsVf true).ownsGroup 3 5 = false ∧
    rings.ownsGroup 0 5 = true ∧
    rings.grp 5 = none ∧
    ringsGrpUsed.fnPav d0.fn = some 0 ∧
    ringsGrpUsed.ownsGroup 0 5 = true ∧
    ringsGrpUsed.grp 5 = some grp0 ∧
    ringsGrpUsed.groupInUse 5 = true ∧
    ringsGrp.fnPav d0.fn = some 0 ∧
    ringsGrp.ownsGroup 0 5 = true ∧
    ringsGrp.grp 5 = some grp0 ∧
    ringsGrp.groupInUse 5 = false ∧
    (ringsGrp.setReg aCOL_VIEW 5).mayWrite (Path.fn 0) aCOL_LAG_CLR = true ∧
    bitOf ((1 : Word).toNat) 0 = true ∧
    (ringsGrp.setReg aCOL_VIEW 5).grp ((ringsGrp.setReg aCOL_VIEW 5).fld aCOL_VIEW 11 0) = some grp0 ∧
    rings.mayWrite (Path.fn 0) aCOL_LAG_CLR = true ∧
    rings.grp (rings.fld aCOL_VIEW 11 0) = none ∧
    4095 < 4096 ∧
    (List.replicate 127 (0 : Byte)).length < 128 ∧
    blockBad ((colBlk 256 256).set 0 4) (groupOf ((colBlk 256 256).set 0 4)) = true ∧
    ringsGrpLive.grp 5 = some { grp0 with live := true, state := 1, start := 5 } ∧
    ringsGrpLive.groupInUse 5 = false ∧
    ringsGrpLive.ownsGroup 0 5 = true ∧
    grp0.live = false ∧
    (∀ f ∈ grp0.fails, f.owed = false) ∧
    grp0.cur = [] ∧
    grp0.nxt = [] ∧
    (colBlk 256 256).length = 128 + 32 * (groupOf (colBlk 256 256)).members.length ∧
    (colBlk 200 200).length = 128 + 32 * (groupOf (colBlk 200 200)).members.length ∧
    ((colBlk 256 256).set 42 1).length = 128 + 32 * (groupOf ((colBlk 256 256).set 42 1)).members.length ∧
    ((colBlk 256 256).set 0 4).length = 128 + 32 * (groupOf ((colBlk 256 256).set 0 4)).members.length ∧
    128 ≤ ((colBlk 256 256).set 0 4).length ∧
    (colBlk 256 256 ++ [0]).length ≠ 128 + 32 * (groupOf (colBlk 256 256 ++ [0])).members.length :=
  by and_intros <;> decide +kernel

theorem met_GroupPackets_1 :
    ((Instr.contribUpRx, fun (p : Pkt) => p.kind == 2 && bitsOf p.tag 19 18 == 0).2 (colPkt 0 3 40 true) = true) ∧
    (ownPkt up (colPkt 0 3 40 true)).grp (bitsOf (colPkt 0 3 40 true).tag 31 20) = none ∧
    ((Instr.contribUpRx, fun (p : Pkt) => p.kind == 2 && bitsOf p.tag 19 18 == 0).2 (colPkt 0 3 40 false) = true) ∧
    (given grp0 (colPkt 0 3 40 false)).grp (bitsOf (colPkt 0 3 40 false).tag 31 20) = some grp0 ∧
    (colPkt 0 3 40 false).sched = grp0.unsched ∧
    ((Instr.contribUpRx, fun (p : Pkt) => p.kind == 2 && bitsOf p.tag 19 18 == 0).2 (colPkt 0 3 41 true) = true) ∧
    (given grp0 (colPkt 0 3 41 true)).grp (bitsOf (colPkt 0 3 41 true).tag 31 20) = some grp0 ∧
    (colPkt 0 3 41 true).sched = !grp0.unsched ∧
    (¬(bitsOf (colPkt 0 3 41 true).tag 19 18 = 0 ∧ (grp0.sender (colPkt 0 3 41 true).src).isSome = true ∨ bitsOf (colPkt 0 3 41 true).tag 19 18 = 1 ∧ grp0.fromParent (colPkt 0 3 41 true).src = true ∨ bitsOf (colPkt 0 3 41 true).tag 19 18 = 2 ∧ ((grp0.sender (colPkt 0 3 41 true).src).isSome = true ∨ grp0.fromParent (colPkt 0 3 41 true).src = true))) ∧
    ((Instr.contribUpRx, fun (p : Pkt) => p.kind == 2 && bitsOf p.tag 19 18 == 0).2 (colPkt 0 1 40 true) = true) ∧
    (given grp0 (colPkt 0 1 40 true)).grp (bitsOf (colPkt 0 1 40 true).tag 31 20) = some grp0 ∧
    (colPkt 0 1 40 true).sched = !grp0.unsched ∧
    (colPkt 0 1 40 true).pav = grp0.pav ∧
    (bitsOf (colPkt 0 1 40 true).tag 19 18 = 0 ∧ (grp0.sender (colPkt 0 1 40 true).src).isSome = true ∨ bitsOf (colPkt 0 1 40 true).tag 19 18 = 1 ∧ grp0.fromParent (colPkt 0 1 40 true).src = true ∨ bitsOf (colPkt 0 1 40 true).tag 19 18 = 2 ∧ ((grp0.sender (colPkt 0 1 40 true).src).isSome = true ∨ grp0.fromParent (colPkt 0 1 40 true).src = true)) ∧
    bitsOf (colPkt 0 1 40 true).tag 17 16 ≠ grp0.step % 4 ∧
    bitsOf (colPkt 0 1 40 true).tag 17 16 ≠ (grp0.step + 1) % 4 ∧
    (given grpShort (colPkt 0 3 40 true)).grp (bitsOf (colPkt 0 3 40 true).tag 31 20) = some grpShort ∧
    (colPkt 0 3 40 true).sched = !grpShort.unsched ∧
    (colPkt 0 3 40 true).pav = grpShort.pav ∧
    (bitsOf (colPkt 0 3 40 true).tag 19 18 = 0 ∧ (grpShort.sender (colPkt 0 3 40 true).src).isSome = true ∨ bitsOf (colPkt 0 3 40 true).tag 19 18 = 1 ∧ grpShort.fromParent (colPkt 0 3 40 true).src = true ∨ bitsOf (colPkt 0 3 40 true).tag 19 18 = 2 ∧ ((grpShort.sender (colPkt 0 3 40 true).src).isSome = true ∨ grpShort.fromParent (colPkt 0 3 40 true).src = true)) ∧
    bitsOf (colPkt 0 3 40 true).tag 19 18 = 0 ∧
    grpShort.sender (colPkt 0 3 40 true).src = some 0 ∧
    grpShort.members[0]? = some { child := false, id := 40, grp := 0, lo := 0, hi := 0, count := 16, scale := 1065353216 } ∧
    bitsOf (colPkt 0 3 40 true).tag 17 16 = grpShort.step % 4 ∧
    ((Instr.contribUpRx, fun (p : Pkt) => p.kind == 2 && bitsOf p.tag 19 18 == 0).2 (colPkt 0 0 40 true) = true) ∧
    (given grpShort (colPkt 0 0 40 true)).grp (bitsOf (colPkt 0 0 40 true).tag 31 20) = some grpShort ∧
    (colPkt 0 0 40 true).sched = !grpShort.unsched ∧
    (colPkt 0 0 40 true).pav = grpShort.pav ∧
    (bitsOf (colPkt 0 0 40 true).tag 19 18 = 0 ∧ (grpShort.sender (colPkt 0 0 40 true).src).isSome = true ∨ bitsOf (colPkt 0 0 40 true).tag 19 18 = 1 ∧ grpShort.fromParent (colPkt 0 0 40 true).src = true ∨ bitsOf (colPkt 0 0 40 true).tag 19 18 = 2 ∧ ((grpShort.sender (colPkt 0 0 40 true).src).isSome = true ∨ grpShort.fromParent (colPkt 0 0 40 true).src = true)) ∧
    bitsOf (colPkt 0 0 40 true).tag 19 18 = 0 ∧
    grpShort.sender (colPkt 0 0 40 true).src = some 0 ∧
    bitsOf (colPkt 0 0 40 true).tag 17 16 = (grpShort.step + 1) % 4 ∧
    ((Instr.contribDownRx, fun (p : Pkt) => p.kind == 2 && bitsOf p.tag 19 18 == 1).2 (colPkt 1 3 49159 true) = true) ∧
    (given (grpBelow 4) (colPkt 1 3 49159 true)).grp (bitsOf (colPkt 1 3 49159 true).tag 31 20) = some (grpBelow 4) ∧
    (colPkt 1 3 49159 true).sched = !(grpBelow 4).unsched ∧
    (colPkt 1 3 49159 true).pav = (grpBelow 4).pav :=
  by and_intros <;> decide +kernel

theorem met_GroupPackets_2 :
    (bitsOf (colPkt 1 3 49159 true).tag 19 18 = 0 ∧ ((grpBelow 4).sender (colPkt 1 3 49159 true).src).isSome = true ∨ bitsOf (colPkt 1 3 49159 true).tag 19 18 = 1 ∧ (grpBelow 4).fromParent (colPkt 1 3 49159 true).src = true ∨ bitsOf (colPkt 1 3 49159 true).tag 19 18 = 2 ∧ (((grpBelow 4).sender (colPkt 1 3 49159 true).src).isSome = true ∨ (grpBelow 4).fromParent (colPkt 1 3 49159 true).src = true)) ∧
    bitsOf (colPkt 1 3 49159 true).tag 19 18 = 1 ∧
    bitsOf (colPkt 1 3 49159 true).tag 17 16 = (grpBelow 4).step % 4 ∧
    memWf (grpBelow 4).down = true ∧
    (colPkt 1 3 49159 true).payload.length ≤ 8192 ∧
    (colPkt 1 3 49159 true).payload.length ≤ (grpBelow 4).downBytes - 1024 * bitsOf (colPkt 1 3 49159 true).tag 15 0 ∧
    ((Instr.contribDownRx, fun (p : Pkt) => p.kind == 2 && bitsOf p.tag 19 18 == 1).2 (colPkt 1 0 49159 true) = true) ∧
    (given (grpBelow 4) (colPkt 1 0 49159 true)).grp (bitsOf (colPkt 1 0 49159 true).tag 31 20) = some (grpBelow 4) ∧
    (colPkt 1 0 49159 true).sched = !(grpBelow 4).unsched ∧
    (colPkt 1 0 49159 true).pav = (grpBelow 4).pav ∧
    (bitsOf (colPkt 1 0 49159 true).tag 19 18 = 0 ∧ ((grpBelow 4).sender (colPkt 1 0 49159 true).src).isSome = true ∨ bitsOf (colPkt 1 0 49159 true).tag 19 18 = 1 ∧ (grpBelow 4).fromParent (colPkt 1 0 49159 true).src = true ∨ bitsOf (colPkt 1 0 49159 true).tag 19 18 = 2 ∧ (((grpBelow 4).sender (colPkt 1 0 49159 true).src).isSome = true ∨ (grpBelow 4).fromParent (colPkt 1 0 49159 true).src = true)) ∧
    bitsOf (colPkt 1 0 49159 true).tag 19 18 = 1 ∧
    bitsOf (colPkt 1 0 49159 true).tag 17 16 ≠ (grpBelow 4).step % 4 ∧
    ((Instr.failureNoticeRx, fun (p : Pkt) => p.kind == 2 && bitsOf p.tag 19 18 == 2).2 (colPkt 2 3 40 true) = true) ∧
    (given grpShort (colPkt 2 3 40 true)).grp (bitsOf (colPkt 2 3 40 true).tag 31 20) = some grpShort ∧
    (colPkt 2 3 40 true).sched = !grpShort.unsched ∧
    (colPkt 2 3 40 true).pav = grpShort.pav ∧
    (bitsOf (colPkt 2 3 40 true).tag 19 18 = 0 ∧ (grpShort.sender (colPkt 2 3 40 true).src).isSome = true ∨ bitsOf (colPkt 2 3 40 true).tag 19 18 = 1 ∧ grpShort.fromParent (colPkt 2 3 40 true).src = true ∨ bitsOf (colPkt 2 3 40 true).tag 19 18 = 2 ∧ ((grpShort.sender (colPkt 2 3 40 true).src).isSome = true ∨ grpShort.fromParent (colPkt 2 3 40 true).src = true)) ∧
    bitsOf (colPkt 2 3 40 true).tag 19 18 = 2 ∧
    bitsOf (colPkt 2 3 40 true).tag 17 16 = grpShort.step % 4 ∧
    beNat (List.take 1 (colPkt 2 3 40 true).payload) ≠ 0 ∧
    ((Instr.failureNoticeRx, fun (p : Pkt) => p.kind == 2 && bitsOf p.tag 19 18 == 2).2 (colPkt 2 0 40 true) = true) ∧
    (given grpShort (colPkt 2 0 40 true)).grp (bitsOf (colPkt 2 0 40 true).tag 31 20) = some grpShort ∧
    (colPkt 2 0 40 true).sched = !grpShort.unsched ∧
    (colPkt 2 0 40 true).pav = grpShort.pav ∧
    (bitsOf (colPkt 2 0 40 true).tag 19 18 = 0 ∧ (grpShort.sender (colPkt 2 0 40 true).src).isSome = true ∨ bitsOf (colPkt 2 0 40 true).tag 19 18 = 1 ∧ grpShort.fromParent (colPkt 2 0 40 true).src = true ∨ bitsOf (colPkt 2 0 40 true).tag 19 18 = 2 ∧ ((grpShort.sender (colPkt 2 0 40 true).src).isSome = true ∨ grpShort.fromParent (colPkt 2 0 40 true).src = true)) ∧
    bitsOf (colPkt 2 0 40 true).tag 19 18 = 2 ∧
    bitsOf (colPkt 2 0 40 true).tag 17 16 = (grpShort.step + 1) % 4 ∧
    (List.find? (fun (x : Pkt × Option Held) => (Instr.contribUpRx, fun (p : Pkt) => p.kind == 2 && bitsOf p.tag 19 18 == 0).2 x.1) up.rte.own = none) :=
  by and_intros <;> decide +kernel

theorem met_GroupPackets_3 :
    (grpFullU.unsched && grpFullU.live && decide (grpFullU.state = 1) && grpFullU.ripe 38400) = true ∧
    (grpShort.unsched && grpShort.live && decide (grpShort.state = 1) && grpShort.ripe 38400) = false ∧
    memWf (grpBelow 4).nxtDown = true ∧
    (grpBelow 4).downBytes - 1024 * bitsOf ({ colPkt 1 3 49159 true with tag := (colPkt 1 3 49159 true).tag + 0xFFFF } : Pkt).tag 15 0 < (colPkt 1 3 49159 true).payload.length ∧
    (grpHalf.expect { child := false, id := 40, grp := 0, lo := 0, hi := 0, count := 16, scale := 1065353216 } - 32 < (colPkt 0 3 40 true).payload.length) ∧
    (given grpHalf (colPkt 0 3 40 true)).grp 5 = some grpHalf ∧
    grpHalf.sender 40 = some 0 ∧
    grpShort.nxtFail = none ∧
    grpShort.nextMiss = [] :=
  by and_intros <;> decide +kernel

theorem met_GroupDeadlines_1 :
    up.grp 5 = none ∧
    (staging (grpU true)).grp 5 = some (grpU true) ∧
    (grpU true).nxtFail = none ∧
    (grpU true).unsched = true ∧
    (grpU true).live = true ∧
    (grpU true).state = 1 ∧
    (grpU true).short (((grpU true).start + (grpU true).deadline) * 7680) = [(0, { child := false, id := 40, grp := 0, lo := 0, hi := 0, count := 16, scale := 1065353216 })] ∧
    (staging grpFullU).grp 5 = some grpFullU ∧
    grpFullU.nxtFail = none ∧
    grpFullU.unsched = true ∧
    grpFullU.live = true ∧
    grpFullU.state = 1 ∧
    grpFullU.short ((grpFullU.start + grpFullU.deadline) * 7680) = [] ∧
    (staging grp0).grp 5 = some grp0 ∧
    grp0.nxtFail = none ∧
    grp0.unsched = false ∧
    (staging (grpBelow 4)).grp 5 = some (grpBelow 4) ∧
    (grpBelow 4).nxtFail = none ∧
    (grpBelow 4).live = true ∧
    (grpBelow 4).parent ≠ none ∧
    rangeBytes (grpBelow 4).got < (grpBelow 4).downBytes ∧
    grp0.live = false ∧
    (staging grpShort).grp 5 = some grpShort ∧
    grpShort.nxtFail = none ∧
    grpShort.result = none ∧
    (staging grpUpU).grp 5 = some grpUpU ∧
    grpUpU.nxtFail = none ∧
    grpUpU.result = some (List.replicate 64 63) ∧
    grpUpU.live = true ∧
    grpUpU.unsched = true ∧
    grpUpU.state = 2 ∧
    grpUpU.parent ≠ none ∧
    (staging grpRootU).grp 5 = some grpRootU ∧
    grpRootU.nxtFail = none ∧
    grpRootU.result = some (List.replicate 64 63) ∧
    grpRootU.live = true :=
  by and_intros <;> decide +kernel

theorem met_GroupDeadlines_2 :
    grpRootU.unsched = true ∧
    grpRootU.state = 2 ∧
    grpRootU.parent = none ∧
    (staging (grpSent 3 true)).grp 5 = some (grpSent 3 true) ∧
    (grpSent 3 true).nxtFail = none ∧
    (grpSent 3 true).result = some (List.replicate 64 63) ∧
    (grpSent 3 true).live = true ∧
    (grpSent 3 true).state = 3 ∧
    (grpSent 3 true).downDone = true ∧
    (staging (grpSent 3 false)).grp 5 = some (grpSent 3 false) ∧
    (grpSent 3 false).nxtFail = none ∧
    (grpSent 3 false).result = some (List.replicate 64 63) ∧
    (grpSent 3 false).live = true ∧
    (grpSent 3 false).state = 3 ∧
    (grpSent 3 false).downDone = false ∧
    grpFullU.nextMiss = [] ∧
    (grpU true).nextMiss = [] ∧
    grpFullU.ripe ((staging grpFullU).advTo ((grpFullU.start + grpFullU.deadline) * 7680)).tim.now = true ∧
    (staging grpFullU).tim.lock = true ∧
    (grpFullU.fullAt.any fun u => decide (u ≤ (grpFullU.start + grpFullU.deadline) * 7680)) = true ∧
    (grpU true).fullAt = none ∧
    (staging grpDown).grp 5 = some grpDown ∧
    grpDown.downBytes ≤ rangeBytes grpDown.got ∧
    (staging (grpDone true)).grp 5 = some (grpDone true) ∧
    (grpDone true).unsched = false ∧
    (grpDone true).live = true ∧
    (grpDone true).state ≤ 2 ∧
    (grpDone true).result = some (List.replicate 64 63) :=
  by and_intros <;> decide +kernel

theorem met_GroupDeadlines_3 :
    (grpBelow 4).downInTime = false ∧
    grpDown.downInTime = true ∧
    grpLate.downInTime = false ∧
    grpLate.downBytes ≤ rangeBytes grpLate.got ∧
    (staging grpUpU).stageBusy 5 grpUpU = false ∧
    (staging grpRootU).stageBusy 5 grpRootU = false ∧
    (stageRuns grpUpU).grp 5 = some grpUpU ∧
    (stageRuns grpUpU).stageBusy 5 grpUpU = true ∧
    (staging grpNoRes).grp 5 = some grpNoRes ∧
    grpNoRes.live = true ∧
    grpNoRes.state = 2 ∧
    grpNoRes.unsched = true ∧
    grpNoRes.result = none ∧
    (staging grpNoRes).stageBusy 5 grpNoRes = false ∧
    grpNoRes.nxtFail = none ∧
    grpNoRes.nextMiss = [] ∧
    (staging grpRootF).grp 5 = some grpRootF ∧
    grpRootF.live = true ∧
    grpRootF.state = 2 ∧
    grpRootF.parent = none ∧ grpRootF.downFired = true ∧
    (staging grpRootF).stageBusy 5 grpRootF = false ∧
    grpRootF.result = some (List.replicate 64 63) ∧
    ¬((grpDone true).state = 2 ∧ ((grpDone true).unsched = true ∨ ((grpDone true).parent = none ∧ (grpDone true).downFired = true))) ∧
    ¬((grpDone true).unsched = true ∧ (grpDone true).state = 1) ∧
    (grpSent 3 true).parent = none ∧
    grpDown.state = 4 ∧
    grpDown.parent ≠ none ∧
    grpDownOk.downDone = true ∧
    grpDownOk.downInTime = true ∧
    (staging grpDownOk).grp 5 = some grpDownOk ∧
    grpDownOk.state = 4 ∧
    grpDownOk.live = true ∧
    (grpSent 3 true).nextMiss = [] :=
  by and_intros <;> decide +kernel

theorem met_StreamCommands :
    (ringsStr.fnPav d0.fn).isSome = true ∧
    (∀ c ∈ [(2, (!match ringsStr.fnPav d0.fn with | some p => ringsStr.ownsStream p 9 | none => false) || !ringsStr.openPav d0.fn opened), (7, ringsStr.strCmds.any fun (c : StrCmd) => c.stream == 9), (6, (ringsStr.stream 9).state != 0), (1, decide (2000 < ringsStr.curSlot + 1024)), (3, !ringsStr.openParam opened), (4, !ringsStr.openRange opened), (5, match ringsStr.img with | some m => decide (m.wset.length ≤ opened.wsetId) | none => true)], c.2 = false) ∧
    ([(2, (!match ringsStr.fnPav d0.fn with | some p => ringsStr.ownsStream p 9 | none => false) || !ringsStr.openPav d0.fn opened), (7, ringsStr.strCmds.any fun (c : StrCmd) => c.stream == 9), (6, (ringsStr.stream 9).state != 0), (1, decide (9 < ringsStr.curSlot + 1024)), (3, !ringsStr.openParam opened), (4, !ringsStr.openRange opened), (5, match ringsStr.img with | some m => decide (m.wset.length ≤ opened.wsetId) | none => true)] = [(2, false), (7, false), (6, false)] ++ [(1, true), (3, false), (4, false), (5, false)]) ∧
    (∀ c ∈ [(2, false), (7, false), (6, false)], c.2 = false) ∧
    Serves (strHas (stream0 1 1) []) d0 ∧
    ((strHas (stream0 1 1) []).fnPav d0.fn).isSome = true ∧
    (∀ c ∈ [(2, !match (strHas (stream0 1 1) []).fnPav d0.fn with | some p => (strHas (stream0 1 1) []).ownsStream p 9 | none => false), (7, (strHas (stream0 1 1) []).strCmds.any fun (c : StrCmd) => c.stream == 9), (6, ((strHas (stream0 1 1) []).stream 9).state == 0 || ((strHas (stream0 1 1) []).stream 9).state == 3), (1, decide (2000 < (strHas (stream0 1 1) []).curSlot + 1024))], c.2 = false) ∧
    ([(2, !match ringsStr.fnPav d0.fn with | some p => ringsStr.ownsStream p 9 | none => false), (7, ringsStr.strCmds.any fun (c : StrCmd) => c.stream == 9), (6, (ringsStr.stream 9).state == 0 || (ringsStr.stream 9).state == 3), (1, decide (2000 < ringsStr.curSlot + 1024))] = [(2, false), (7, false)] ++ [(6, true), (1, false)]) ∧
    (∀ c ∈ [(2, false), (7, false)], c.2 = false) ∧
    Serves (strHas (stream0 1 3) []) d0 ∧
    ((strHas (stream0 1 3) []).fnPav d0.fn).isSome = true ∧
    (∀ c ∈ [(2, !match (strHas (stream0 1 3) []).fnPav d0.fn with | some p => (strHas (stream0 1 3) []).ownsStream p 9 | none => false), (7, (strHas (stream0 1 3) []).strCmds.any fun (c : StrCmd) => c.stream == 9), (6, ((strHas (stream0 1 3) []).stream 9).state != 3), (1, decide (2000 < (strHas (stream0 1 3) []).curSlot + 1024))], c.2 = false) ∧
    ([(2, !match (strHas (stream0 1 1) []).fnPav d0.fn with | some p => (strHas (stream0 1 1) []).ownsStream p 9 | none => false), (7, (strHas (stream0 1 1) []).strCmds.any fun (c : StrCmd) => c.stream == 9), (6, ((strHas (stream0 1 1) []).stream 9).state != 3), (1, decide (2000 < (strHas (stream0 1 1) []).curSlot + 1024))] = [(2, false), (7, false)] ++ [(6, true), (1, false)]) ∧
    Serves (strHas (stream0 1 1) [strCmd 1]) d0 ∧
    ((strHas (stream0 1 1) [strCmd 1]).fnPav d0.fn).isSome = true ∧
    ([(2, !match (strHas (stream0 1 1) [strCmd 1]).fnPav d0.fn with | some p => (strHas (stream0 1 1) [strCmd 1]).ownsStream p 9 | none => false), (7, (strHas (stream0 1 1) [strCmd 1]).strCmds.any fun (c : StrCmd) => c.stream == 9), (6, ((strHas (stream0 1 1) [strCmd 1]).stream 9).state == 0 || ((strHas (stream0 1 1) [strCmd 1]).stream 9).state == 3), (1, decide (2000 < (strHas (stream0 1 1) [strCmd 1]).curSlot + 1024))] = [(2, false)] ++ [(7, true), (6, false), (1, false)]) ∧
    (∀ c ∈ [(2, false)], c.2 = false) ∧
    (∀ c ∈ [(2, !match (strHas (stream0 1 3) []).fnPav d0.fn with | some p => (strHas (stream0 1 3) []).ownsStream p 9 | none => false), (7, (strHas (stream0 1 3) []).strCmds.any fun (c : StrCmd) => c.stream == 9), (6, ((strHas (stream0 1 3) []).stream 9).state == 0), (1, decide (2000 < (strHas (stream0 1 3) []).curSlot + 1024))], c.2 = false) ∧
    ([(2, !match (strHas (stream0 1 1) []).fnPav d0.fn with | some p => (strHas (stream0 1 1) []).ownsStream p 9 | none => false), (7, (strHas (stream0 1 1) []).strCmds.any fun (c : StrCmd) => c.stream == 9), (6, ((strHas (stream0 1 1) []).stream 9).state == 0), (1, decide (5 < (strHas (stream0 1 1) []).curSlot + 1024))] = [(2, false), (7, false), (6, false)] ++ [(1, true)]) ∧
    (List.find? (fun (c : StrCmd) => c.stream == 9) up.strCmds = none) ∧
    (List.find? (fun (c : StrCmd) => c.stream == 9) (strHas streamInit [strCmd 0]).strCmds = some (strCmd 0)) ∧
    (strHas streamInit [strCmd 0]).tim.lock = true ∧
    strRsv strBlk = false ∧
    strRsv (List.replicate 32 0xFF) = true :=
  by and_intros <;> decide +kernel

theorem met_StreamCommands_2 :
    ((strHas (stream0 1 1) [strCmd 1]).strCmds.find? fun c => c.stream == 9) = some (strCmd 1) ∧
    (strHas (stream0 1 1) [strCmd 1]).tim.lock = true ∧
    (strCmd 1).kind = 1 ∧
    ((strHas (stream0 1 1) [strCmd 1]).stream 9).state ≠ 0 ∧
    ((strHas paused9 [strCmd 2]).strCmds.find? fun c => c.stream == 9) = some (strCmd 2) ∧
    (strHas paused9 [strCmd 2]).tim.lock = true ∧
    (strCmd 2).kind = 2 ∧
    ((strHas paused9 [strCmd 2]).stream 9).state ≠ 0 ∧
    ((strHas (stream0 1 1) [strCmd 3]).strCmds.find? fun c => c.stream == 9) = some (strCmd 3) ∧
    (strHas (stream0 1 1) [strCmd 3]).tim.lock = true ∧
    (strCmd 3).kind = 3 ∧
    ((strHas (stream0 1 1) [strCmd 3]).stream 9).state ≠ 0 ∧
    ((strHas (stream0 1 1) [strCmd 3]).stream 9).state ≠ 3 ∧
    ((strHas (stream0 1 1) [strCmd 3]).stream 9).role = 1 ∧
    ((strHas (stream0 2 1) [strCmd 3]).strCmds.find? fun c => c.stream == 9) = some (strCmd 3) ∧
    (strHas (stream0 2 1) [strCmd 3]).tim.lock = true ∧
    (strCmd 3).kind = 3 ∧
    ((strHas (stream0 2 1) [strCmd 3]).stream 9).state ≠ 0 ∧
    ((strHas (stream0 2 1) [strCmd 3]).stream 9).state ≠ 3 ∧
    ((strHas (stream0 2 1) [strCmd 3]).stream 9).role ≠ 1 ∧
    ((strHas (stream0 1 1) [strCmd 4]).strCmds.find? fun c => c.stream == 9) = some (strCmd 4) ∧
    (strHas (stream0 1 1) [strCmd 4]).tim.lock = true ∧
    (strCmd 4).kind = 4 ∧
    ((strHas (stream0 1 1) [strCmd 4]).stream 9).state ≠ 0 ∧
    ((strHas streamInit [strCmd 1]).strCmds.find? fun c => c.stream == 9) = some (strCmd 1) ∧
    (strHas streamInit [strCmd 1]).tim.lock = true ∧
    (strCmd 1).kind = 1 ∧
    ((strHas streamInit [strCmd 1]).stream 9).state = 0 :=
  by and_intros <;> decide +kernel

set_option maxRecDepth 100000 in
theorem met_StreamPackets_1 :
    ((resPkt 5 0).kind == 8) = true ∧
    (¬(512 ≤ 1008 ∧ 1008 < 640 ∧ ((ownPkt up (resPkt 5 0)).stream (bitsOf (resPkt 5 0).tag 31 16)).lport = 1008 / 8 - 64 ∧ ((ownPkt up (resPkt 5 0)).stream (bitsOf (resPkt 5 0).tag 31 16)).state ≠ 0 ∧ ((ownPkt up (resPkt 5 0)).stream (bitsOf (resPkt 5 0).tag 31 16)).role = 2)) ∧
    (Hands (onL streamInit) (fun (p : Pkt) => p.kind == 8) (RxSrc.link 64 0 (rxOf (resPkt 5 0)) 38500) (inHand (onL streamInit) (rxOf (resPkt 5 0))) ((onL streamInit).arrive 64 0 (rxOf (resPkt 5 0)) 38500 false).2) ∧
    (¬(512 ≤ (inHand (onL streamInit) (rxOf (resPkt 5 0))).ingress ∧ (inHand (onL streamInit) (rxOf (resPkt 5 0))).ingress < 640 ∧ ((onL streamInit).stream (bitsOf (inHand (onL streamInit) (rxOf (resPkt 5 0))).pkt.tag 31 16)).lport = (inHand (onL streamInit) (rxOf (resPkt 5 0))).ingress / 8 - 64 ∧ ((onL streamInit).stream (bitsOf (inHand (onL streamInit) (rxOf (resPkt 5 0))).pkt.tag 31 16)).state ≠ 0 ∧ ((onL streamInit).stream (bitsOf (inHand (onL streamInit) (rxOf (resPkt 5 0))).pkt.tag 31 16)).role = 2)) ∧
    (Hands (onL (recv 5)) (fun (p : Pkt) => p.kind == 8) (RxSrc.link 64 0 (rxOf resLong) 38500) (inHand (onL (recv 5)) (rxOf resLong)) ((onL (recv 5)).arrive 64 0 (rxOf resLong) 38500 false).2) ∧
    512 ≤ (inHand (onL (recv 5)) (rxOf resLong)).ingress ∧
    (inHand (onL (recv 5)) (rxOf resLong)).ingress < 640 ∧
    ((onL (recv 5)).stream (bitsOf (inHand (onL (recv 5)) (rxOf resLong)).pkt.tag 31 16)).lport = (inHand (onL (recv 5)) (rxOf resLong)).ingress / 8 - 64 ∧
    ((onL (recv 5)).stream (bitsOf (inHand (onL (recv 5)) (rxOf resLong)).pkt.tag 31 16)).state ≠ 0 ∧
    ((onL (recv 5)).stream (bitsOf (inHand (onL (recv 5)) (rxOf resLong)).pkt.tag 31 16)).role = 2 ∧
    (inHand (onL (recv 5)) (rxOf resLong)).pkt.pav = ((onL (recv 5)).stream (bitsOf (inHand (onL (recv 5)) (rxOf resLong)).pkt.tag 31 16)).pav ∧
    (inHand (onL (recv 5)) (rxOf resLong)).pkt.payload.length ≠ ((onL (recv 5)).stream (bitsOf (inHand (onL (recv 5)) (rxOf resLong)).pkt.tag 31 16)).resLen ∧
    (Hands (onL (recv 6)) (fun (p : Pkt) => p.kind == 8) (RxSrc.link 64 0 (rxOf (resPkt 5 0)) 38500) (inHand (onL (recv 6)) (rxOf (resPkt 5 0))) ((onL (recv 6)).arrive 64 0 (rxOf (resPkt 5 0)) 38500 false).2) ∧
    512 ≤ (inHand (onL (recv 6)) (rxOf (resPkt 5 0))).ingress ∧
    (inHand (onL (recv 6)) (rxOf (resPkt 5 0))).ingress < 640 ∧
    ((onL (recv 6)).stream (bitsOf (inHand (onL (recv 6)) (rxOf (resPkt 5 0))).pkt.tag 31 16)).lport = (inHand (onL (recv 6)) (rxOf (resPkt 5 0))).ingress / 8 - 64 ∧
    ((onL (recv 6)).stream (bitsOf (inHand (onL (recv 6)) (rxOf (resPkt 5 0))).pkt.tag 31 16)).state ≠ 0 ∧
    ((onL (recv 6)).stream (bitsOf (inHand (onL (recv 6)) (rxOf (resPkt 5 0))).pkt.tag 31 16)).role = 2 ∧
    (inHand (onL (recv 6)) (rxOf (resPkt 5 0))).pkt.pav = ((onL (recv 6)).stream (bitsOf (inHand (onL (recv 6)) (rxOf (resPkt 5 0))).pkt.tag 31 16)).pav ∧
    (inHand (onL (recv 6)) (rxOf (resPkt 5 0))).pkt.payload.length = ((onL (recv 6)).stream (bitsOf (inHand (onL (recv 6)) (rxOf (resPkt 5 0))).pkt.tag 31 16)).resLen ∧
    beNat (List.take 6 (inHand (onL (recv 6)) (rxOf (resPkt 5 0))).pkt.payload) < ((onL (recv 6)).stream (bitsOf (inHand (onL (recv 6)) (rxOf (resPkt 5 0))).pkt.tag 31 16)).step ∧
    (Hands (onL (recv 4)) (fun (p : Pkt) => p.kind == 8) (RxSrc.link 64 0 (rxOf (resPkt 5 0)) 38500) (inHand (onL (recv 4)) (rxOf (resPkt 5 0))) ((onL (recv 4)).arrive 64 0 (rxOf (resPkt 5 0)) 38500 false).2) ∧
    512 ≤ (inHand (onL (recv 4)) (rxOf (resPkt 5 0))).ingress ∧
    (inHand (onL (recv 4)) (rxOf (resPkt 5 0))).ingress < 640 ∧
    ((onL (recv 4)).stream (bitsOf (inHand (onL (recv 4)) (rxOf (resPkt 5 0))).pkt.tag 31 16)).lport = (inHand (onL (recv 4)) (rxOf (resPkt 5 0))).ingress / 8 - 64 ∧
    ((onL (recv 4)).stream (bitsOf (inHand (onL (recv 4)) (rxOf (resPkt 5 0))).pkt.tag 31 16)).state ≠ 0 ∧
    ((onL (recv 4)).stream (bitsOf (inHand (onL (recv 4)) (rxOf (resPkt 5 0))).pkt.tag 31 16)).role = 2 ∧
    (inHand (onL (recv 4)) (rxOf (resPkt 5 0))).pkt.pav = ((onL (recv 4)).stream (bitsOf (inHand (onL (recv 4)) (rxOf (resPkt 5 0))).pkt.tag 31 16)).pav ∧
    (inHand (onL (recv 4)) (rxOf (resPkt 5 0))).pkt.payload.length = ((onL (recv 4)).stream (bitsOf (inHand (onL (recv 4)) (rxOf (resPkt 5 0))).pkt.tag 31 16)).resLen ∧
    ((onL (recv 4)).stream (bitsOf (inHand (onL (recv 4)) (rxOf (resPkt 5 0))).pkt.tag 31 16)).step < beNat (List.take 6 (inHand (onL (recv 4)) (rxOf (resPkt 5 0))).pkt.payload) ∧
    (Hands (onL (recv 5)) (fun (p : Pkt) => p.kind == 8) (RxSrc.link 64 0 (rxOf (resPkt 5 0)) 38500) (inHand (onL (recv 5)) (rxOf (resPkt 5 0))) ((onL (recv 5)).arrive 64 0 (rxOf (resPkt 5 0)) 38500 false).2) ∧
    512 ≤ (inHand (onL (recv 5)) (rxOf (resPkt 5 0))).ingress ∧
    (inHand (onL (recv 5)) (rxOf (resPkt 5 0))).ingress < 640 ∧
    ((onL (recv 5)).stream (bitsOf (inHand (onL (recv 5)) (rxOf (resPkt 5 0))).pkt.tag 31 16)).lport = (inHand (onL (recv 5)) (rxOf (resPkt 5 0))).ingress / 8 - 64 ∧
    ((onL (recv 5)).stream (bitsOf (inHand (onL (recv 5)) (rxOf (resPkt 5 0))).pkt.tag 31 16)).state ≠ 0 ∧
    ((onL (recv 5)).stream (bitsOf (inHand (onL (recv 5)) (rxOf (resPkt 5 0))).pkt.tag 31 16)).role = 2 :=
  by and_intros <;> first | decide +kernel | rfl

set_option maxRecDepth 100000 in
theorem met_StreamPackets_2 :
    (inHand (onL (recv 5)) (rxOf (resPkt 5 0))).pkt.pav = ((onL (recv 5)).stream (bitsOf (inHand (onL (recv 5)) (rxOf (resPkt 5 0))).pkt.tag 31 16)).pav ∧
    (inHand (onL (recv 5)) (rxOf (resPkt 5 0))).pkt.payload.length = ((onL (recv 5)).stream (bitsOf (inHand (onL (recv 5)) (rxOf (resPkt 5 0))).pkt.tag 31 16)).resLen ∧
    beNat (List.take 6 (inHand (onL (recv 5)) (rxOf (resPkt 5 0))).pkt.payload) = ((onL (recv 5)).stream (bitsOf (inHand (onL (recv 5)) (rxOf (resPkt 5 0))).pkt.tag 31 16)).step ∧
    bitsOf (inHand (onL (recv 5)) (rxOf (resPkt 5 0))).pkt.tag 15 12 = beNat (List.take 6 (inHand (onL (recv 5)) (rxOf (resPkt 5 0))).pkt.payload) % 16 ∧
    bitsOf (inHand (onL (recv 5)) (rxOf (resPkt 5 0))).pkt.tag 11 0 < ((onL (recv 5)).stream (bitsOf (inHand (onL (recv 5)) (rxOf (resPkt 5 0))).pkt.tag 31 16)).chunks ∧
    ((((onL (recv 5)).stream (bitsOf (inHand (onL (recv 5)) (rxOf (resPkt 5 0))).pkt.tag 31 16)).got.any fun (g : ℕ × Pkt × ℕ) => g.1 == bitsOf (inHand (onL (recv 5)) (rxOf (resPkt 5 0))).pkt.tag 11 0) = false) ∧
    (Hands (onL streamInit) (fun (p : Pkt) => p.kind == 9) (RxSrc.link 64 0 (rxOf (rawPkt 5 0)) 38500) (inHand (onL streamInit) (rxOf (rawPkt 5 0))) ((onL streamInit).arrive 64 0 (rxOf (rawPkt 5 0)) 38500 false).2) ∧
    (¬(512 ≤ (inHand (onL streamInit) (rxOf (rawPkt 5 0))).ingress ∧ (inHand (onL streamInit) (rxOf (rawPkt 5 0))).ingress < 640 ∧ ((onL streamInit).stream (bitsOf (inHand (onL streamInit) (rxOf (rawPkt 5 0))).pkt.tag 31 16)).lport = (inHand (onL streamInit) (rxOf (rawPkt 5 0))).ingress / 8 - 64 ∧ ((onL streamInit).stream (bitsOf (inHand (onL streamInit) (rxOf (rawPkt 5 0))).pkt.tag 31 16)).state ≠ 0 ∧ ((onL streamInit).stream (bitsOf (inHand (onL streamInit) (rxOf (rawPkt 5 0))).pkt.tag 31 16)).role = 2)) ∧
    (Hands (onL (recv 9)) (fun (p : Pkt) => p.kind == 9) (RxSrc.link 64 0 (rxOf (rawPkt 3 0)) 38500) (inHand (onL (recv 9)) (rxOf (rawPkt 3 0))) ((onL (recv 9)).arrive 64 0 (rxOf (rawPkt 3 0)) 38500 false).2) ∧
    512 ≤ (inHand (onL (recv 9)) (rxOf (rawPkt 3 0))).ingress ∧
    (inHand (onL (recv 9)) (rxOf (rawPkt 3 0))).ingress < 640 ∧
    ((onL (recv 9)).stream (bitsOf (inHand (onL (recv 9)) (rxOf (rawPkt 3 0))).pkt.tag 31 16)).lport = (inHand (onL (recv 9)) (rxOf (rawPkt 3 0))).ingress / 8 - 64 ∧
    ((onL (recv 9)).stream (bitsOf (inHand (onL (recv 9)) (rxOf (rawPkt 3 0))).pkt.tag 31 16)).state ≠ 0 ∧
    ((onL (recv 9)).stream (bitsOf (inHand (onL (recv 9)) (rxOf (rawPkt 3 0))).pkt.tag 31 16)).role = 2 ∧
    (inHand (onL (recv 9)) (rxOf (rawPkt 3 0))).pkt.pav = ((onL (recv 9)).stream (bitsOf (inHand (onL (recv 9)) (rxOf (rawPkt 3 0))).pkt.tag 31 16)).pav ∧
    (inHand (onL (recv 9)) (rxOf (rawPkt 3 0))).pkt.payload.length = 2 * ((onL (recv 9)).stream (bitsOf (inHand (onL (recv 9)) (rxOf (rawPkt 3 0))).pkt.tag 31 16)).chunkLen ∧
    ((onL (recv 9)).stream (bitsOf (inHand (onL (recv 9)) (rxOf (rawPkt 3 0))).pkt.tag 31 16)).rawStep (bitsOf (inHand (onL (recv 9)) (rxOf (rawPkt 3 0))).pkt.tag 15 12) = none ∧
    (Hands (onL gapped) (fun (p : Pkt) => p.kind == 9) (RxSrc.link 64 0 (rxOf (rawPkt 5 0)) 38500) (inHand (onL gapped) (rxOf (rawPkt 5 0))) ((onL gapped).arrive 64 0 (rxOf (rawPkt 5 0)) 38500 false).2) ∧
    512 ≤ (inHand (onL gapped) (rxOf (rawPkt 5 0))).ingress ∧
    (inHand (onL gapped) (rxOf (rawPkt 5 0))).ingress < 640 ∧
    ((onL gapped).stream (bitsOf (inHand (onL gapped) (rxOf (rawPkt 5 0))).pkt.tag 31 16)).lport = (inHand (onL gapped) (rxOf (rawPkt 5 0))).ingress / 8 - 64 ∧
    ((onL gapped).stream (bitsOf (inHand (onL gapped) (rxOf (rawPkt 5 0))).pkt.tag 31 16)).state ≠ 0 ∧
    ((onL gapped).stream (bitsOf (inHand (onL gapped) (rxOf (rawPkt 5 0))).pkt.tag 31 16)).role = 2 ∧
    (inHand (onL gapped) (rxOf (rawPkt 5 0))).pkt.pav = ((onL gapped).stream (bitsOf (inHand (onL gapped) (rxOf (rawPkt 5 0))).pkt.tag 31 16)).pav ∧
    (inHand (onL gapped) (rxOf (rawPkt 5 0))).pkt.payload.length = 2 * ((onL gapped).stream (bitsOf (inHand (onL gapped) (rxOf (rawPkt 5 0))).pkt.tag 31 16)).chunkLen ∧
    ((onL gapped).stream (bitsOf (inHand (onL gapped) (rxOf (rawPkt 5 0))).pkt.tag 31 16)).rawStep (bitsOf (inHand (onL gapped) (rxOf (rawPkt 5 0))).pkt.tag 15 12) = some 5 ∧
    (Hands (onL gapped) (fun (p : Pkt) => p.kind == 9) (RxSrc.link 64 0 (rxOf (rawPkt 5 1)) 38500) (inHand (onL gapped) (rxOf (rawPkt 5 1))) ((onL gapped).arrive 64 0 (rxOf (rawPkt 5 1)) 38500 false).2) ∧
    512 ≤ (inHand (onL gapped) (rxOf (rawPkt 5 1))).ingress ∧
    (inHand (onL gapped) (rxOf (rawPkt 5 1))).ingress < 640 ∧
    ((onL gapped).stream (bitsOf (inHand (onL gapped) (rxOf (rawPkt 5 1))).pkt.tag 31 16)).lport = (inHand (onL gapped) (rxOf (rawPkt 5 1))).ingress / 8 - 64 ∧
    ((onL gapped).stream (bitsOf (inHand (onL gapped) (rxOf (rawPkt 5 1))).pkt.tag 31 16)).state ≠ 0 ∧
    ((onL gapped).stream (bitsOf (inHand (onL gapped) (rxOf (rawPkt 5 1))).pkt.tag 31 16)).role = 2 ∧
    (inHand (onL gapped) (rxOf (rawPkt 5 1))).pkt.pav = ((onL gapped).stream (bitsOf (inHand (onL gapped) (rxOf (rawPkt 5 1))).pkt.tag 31 16)).pav ∧
    (inHand (onL gapped) (rxOf (rawPkt 5 1))).pkt.payload.length = 2 * ((onL gapped).stream (bitsOf (inHand (onL gapped) (rxOf (rawPkt 5 1))).pkt.tag 31 16)).chunkLen ∧
    ((onL gapped).stream (bitsOf (inHand (onL gapped) (rxOf (rawPkt 5 1))).pkt.tag 31 16)).rawStep (bitsOf (inHand (onL gapped) (rxOf (rawPkt 5 1))).pkt.tag 15 12) = some 5 ∧
    ((((onL gapped).stream (bitsOf (inHand (onL gapped) (rxOf (rawPkt 5 1))).pkt.tag 31 16)).missing.any fun (e : ℕ × List ℕ) => e.1 == 5 && e.2.contains (bitsOf (inHand (onL gapped) (rxOf (rawPkt 5 1))).pkt.tag 11 0)) = false) :=
  by and_intros <;> first | decide +kernel | rfl

set_option maxRecDepth 100000 in
theorem met_StreamPackets_3 :
    (Hands (onL gapped) (fun (p : Pkt) => p.kind == 9) (RxSrc.link 64 0 (rxOf rawShort) 38500) (inHand (onL gapped) (rxOf rawShort)) ((onL gapped).arrive 64 0 (rxOf rawShort) 38500 false).2) ∧
    512 ≤ (inHand (onL gapped) (rxOf rawShort)).ingress ∧
    (inHand (onL gapped) (rxOf rawShort)).ingress < 640 ∧
    ((onL gapped).stream (bitsOf (inHand (onL gapped) (rxOf rawShort)).pkt.tag 31 16)).lport = (inHand (onL gapped) (rxOf rawShort)).ingress / 8 - 64 ∧
    ((onL gapped).stream (bitsOf (inHand (onL gapped) (rxOf rawShort)).pkt.tag 31 16)).state ≠ 0 ∧
    ((onL gapped).stream (bitsOf (inHand (onL gapped) (rxOf rawShort)).pkt.tag 31 16)).role = 2 ∧
    (inHand (onL gapped) (rxOf rawShort)).pkt.pav = ((onL gapped).stream (bitsOf (inHand (onL gapped) (rxOf rawShort)).pkt.tag 31 16)).pav ∧
    (inHand (onL gapped) (rxOf rawShort)).pkt.payload.length ≠ 2 * ((onL gapped).stream (bitsOf (inHand (onL gapped) (rxOf rawShort)).pkt.tag 31 16)).chunkLen ∧
    (Hands (onL (recvOf 3)) (fun (p : Pkt) => p.kind == 8) (RxSrc.link 64 0 (rxOf (resPkt 5 0)) 38500) (inHand (onL (recvOf 3)) (rxOf (resPkt 5 0))) ((onL (recvOf 3)).arrive 64 0 (rxOf (resPkt 5 0)) 38500 false).2) ∧
    512 ≤ (inHand (onL (recvOf 3)) (rxOf (resPkt 5 0))).ingress ∧
    (inHand (onL (recvOf 3)) (rxOf (resPkt 5 0))).ingress < 640 ∧
    ((onL (recvOf 3)).stream (bitsOf (inHand (onL (recvOf 3)) (rxOf (resPkt 5 0))).pkt.tag 31 16)).lport = (inHand (onL (recvOf 3)) (rxOf (resPkt 5 0))).ingress / 8 - 64 ∧
    ((onL (recvOf 3)).stream (bitsOf (inHand (onL (recvOf 3)) (rxOf (resPkt 5 0))).pkt.tag 31 16)).state ≠ 0 ∧
    ((onL (recvOf 3)).stream (bitsOf (inHand (onL (recvOf 3)) (rxOf (resPkt 5 0))).pkt.tag 31 16)).role = 2 ∧
    (inHand (onL (recvOf 3)) (rxOf (resPkt 5 0))).pkt.pav ≠ ((onL (recvOf 3)).stream (bitsOf (inHand (onL (recvOf 3)) (rxOf (resPkt 5 0))).pkt.tag 31 16)).pav ∧
    (Hands (onL (recvOf 3)) (fun (p : Pkt) => p.kind == 9) (RxSrc.link 64 0 (rxOf (rawPkt 5 0)) 38500) (inHand (onL (recvOf 3)) (rxOf (rawPkt 5 0))) ((onL (recvOf 3)).arrive 64 0 (rxOf (rawPkt 5 0)) 38500 false).2) ∧
    512 ≤ (inHand (onL (recvOf 3)) (rxOf (rawPkt 5 0))).ingress ∧
    (inHand (onL (recvOf 3)) (rxOf (rawPkt 5 0))).ingress < 640 ∧
    ((onL (recvOf 3)).stream (bitsOf (inHand (onL (recvOf 3)) (rxOf (rawPkt 5 0))).pkt.tag 31 16)).lport = (inHand (onL (recvOf 3)) (rxOf (rawPkt 5 0))).ingress / 8 - 64 ∧
    ((onL (recvOf 3)).stream (bitsOf (inHand (onL (recvOf 3)) (rxOf (rawPkt 5 0))).pkt.tag 31 16)).state ≠ 0 ∧
    ((onL (recvOf 3)).stream (bitsOf (inHand (onL (recvOf 3)) (rxOf (rawPkt 5 0))).pkt.tag 31 16)).role = 2 ∧
    (inHand (onL (recvOf 3)) (rxOf (rawPkt 5 0))).pkt.pav ≠ ((onL (recvOf 3)).stream (bitsOf (inHand (onL (recvOf 3)) (rxOf (rawPkt 5 0))).pkt.tag 31 16)).pav ∧
    (Hands reEmits (fun (p : Pkt) => p.kind == 9) (RxSrc.link 64 0 (rxOf (rawPkt 5 0)) 38500) (inHand reEmits (rxOf (rawPkt 5 0))) (reEmits.arrive 64 0 (rxOf (rawPkt 5 0)) 38500 false).2) ∧
    512 ≤ (inHand reEmits (rxOf (rawPkt 5 0))).ingress ∧
    (inHand reEmits (rxOf (rawPkt 5 0))).ingress < 640 ∧
    (reEmits.stream (bitsOf (inHand reEmits (rxOf (rawPkt 5 0))).pkt.tag 31 16)).lport = (inHand reEmits (rxOf (rawPkt 5 0))).ingress / 8 - 64 ∧
    (reEmits.stream (bitsOf (inHand reEmits (rxOf (rawPkt 5 0))).pkt.tag 31 16)).state ≠ 0 ∧
    (reEmits.stream (bitsOf (inHand reEmits (rxOf (rawPkt 5 0))).pkt.tag 31 16)).role = 2 ∧
    (inHand reEmits (rxOf (rawPkt 5 0))).pkt.pav = (reEmits.stream (bitsOf (inHand reEmits (rxOf (rawPkt 5 0))).pkt.tag 31 16)).pav ∧
    (inHand reEmits (rxOf (rawPkt 5 0))).pkt.payload.length = 2 * (reEmits.stream (bitsOf (inHand reEmits (rxOf (rawPkt 5 0))).pkt.tag 31 16)).chunkLen ∧
    (reEmits.stream (bitsOf (inHand reEmits (rxOf (rawPkt 5 0))).pkt.tag 31 16)).rawStep (bitsOf (inHand reEmits (rxOf (rawPkt 5 0))).pkt.tag 15 12) = some 5 ∧
    (((reEmits.stream (bitsOf (inHand reEmits (rxOf (rawPkt 5 0))).pkt.tag 31 16)).missing.any fun (e : ℕ × List ℕ) => e.1 == 5 && e.2.contains (bitsOf (inHand reEmits (rxOf (rawPkt 5 0))).pkt.tag 11 0)) = true) ∧
    (reEmits.stream (bitsOf (inHand reEmits (rxOf (rawPkt 5 0))).pkt.tag 31 16)).reEmit = true ∧
    ((reEmits.arrive 64 0 (rxOf (rawPkt 5 0)) 38500 false).2.strOut (bitsOf (inHand reEmits (rxOf (rawPkt 5 0))).pkt.tag 31 16) false (2 * (reEmits.stream (bitsOf (inHand reEmits (rxOf (rawPkt 5 0))).pkt.tag 31 16)).chunkLen * bitsOf (inHand reEmits (rxOf (rawPkt 5 0))).pkt.tag 11 0 / 64) (inHand reEmits (rxOf (rawPkt 5 0))).pkt.payload).1.kind = 1 ∧
    (netL lr2).lUp 0 = true ∧
    ((netL lr2).lr 0).nak = true :=
  by and_intros <;> first | decide +kernel | rfl

theorem met_StreamPackets_4 :
    (netL lrepInit).lUp 0 = true ∧
    ((netL lrepInit).lr 0).nak = false ∧
    ((netL lr2).lr 0).reqs = [List.replicate 64 1, List.replicate 64 2] ∧
    ((netL lrepInit).lr 0).reqs = [] ∧
    ((netL lr2).lr 0).copies ≠ [] ∧
    ((netL lrepInit).lr 0).copies = [] ∧
    (linkRx 1 (natBe 4 11)).pkt.kind = 60 ∧
    (linkRx 1 (natBe 4 11)).pkt.ver = 1 ∧
    kindErr (64 + 0) (linkRx 1 (natBe 4 11)).pkt = false ∧
    classify (linkRx 1 (natBe 4 11)) = Rx.good ∧
    bitsOf (linkRx 1 (natBe 4 11)).pkt.tag 31 24 = 1 ∧
    ahead (beNat (List.take 4 (linkRx 1 (natBe 4 11)).pkt.payload)) ((netL lr2).lr 0).acked = true ∧
    (linkRx 1 (natBe 4 9)).pkt.kind = 60 ∧
    (linkRx 1 (natBe 4 9)).pkt.ver = 1 ∧
    kindErr (64 + 0) (linkRx 1 (natBe 4 9)).pkt = false ∧
    classify (linkRx 1 (natBe 4 9)) = Rx.good ∧
    bitsOf (linkRx 1 (natBe 4 9)).pkt.tag 31 24 = 1 ∧
    ahead (beNat (List.take 4 (linkRx 1 (natBe 4 9)).pkt.payload)) ((netL lr2).lr 0).acked = false ∧
    (linkRx 2 (natBe 4 11)).pkt.kind = 60 ∧
    (linkRx 2 (natBe 4 11)).pkt.ver = 1 ∧
    kindErr (64 + 0) (linkRx 2 (natBe 4 11)).pkt = false ∧
    classify (linkRx 2 (natBe 4 11)) = Rx.good ∧
    bitsOf (linkRx 2 (natBe 4 11)).pkt.tag 31 24 = 2 ∧
    (linkRx 3 (natBe 4 18)).pkt.kind = 60 ∧
    (linkRx 3 (natBe 4 18)).pkt.ver = 1 ∧
    kindErr (64 + 0) (linkRx 3 (natBe 4 18)).pkt = false ∧
    classify (linkRx 3 (natBe 4 18)) = Rx.good ∧
    bitsOf (linkRx 3 (natBe 4 18)).pkt.tag 31 24 = 3 ∧
    (((netL lr2).lr 0).acc + 2 ^ 32 - beNat (List.take 4 (linkRx 3 (natBe 4 18)).pkt.payload)) % 2 ^ 32 < 2 ^ 31 ∧
    (linkRx 3 (natBe 4 25)).pkt.kind = 60 ∧
    (linkRx 3 (natBe 4 25)).pkt.ver = 1 ∧
    kindErr (64 + 0) (linkRx 3 (natBe 4 25)).pkt = false ∧
    classify (linkRx 3 (natBe 4 25)) = Rx.good ∧
    bitsOf (linkRx 3 (natBe 4 25)).pkt.tag 31 24 = 3 ∧
    2 ^ 31 ≤ (((netL lr2).lr 0).acc + 2 ^ 32 - beNat (List.take 4 (linkRx 3 (natBe 4 25)).pkt.payload)) % 2 ^ 32 ∧
    (onL streamInit).lUp 0 = true :=
  by and_intros <;> decide +kernel

set_option maxRecDepth 100000 in
theorem met_StreamPackets_5 :
    (linkRx 16 (natBe 2 9 ++ natBe 6 7 ++ [1, 1, 0, 0])).pkt.kind = 60 ∧
    (linkRx 16 (natBe 2 9 ++ natBe 6 7 ++ [1, 1, 0, 0])).pkt.ver = 1 ∧
    kindErr (64 + 0) (linkRx 16 (natBe 2 9 ++ natBe 6 7 ++ [1, 1, 0, 0])).pkt = false ∧
    classify (linkRx 16 (natBe 2 9 ++ natBe 6 7 ++ [1, 1, 0, 0])) = Rx.good ∧
    bitsOf (linkRx 16 (natBe 2 9 ++ natBe 6 7 ++ [1, 1, 0, 0])).pkt.tag 31 24 = 16 ∧
    ((onL streamInit).stream (beNat (List.take 2 (linkRx 16 (natBe 2 9 ++ natBe 6 7 ++ [1, 1, 0, 0])).pkt.payload))).state = 0 ∧
    sender.lUp 0 = true ∧
    (sender.stream (beNat (List.take 2 (linkRx 16 (natBe 2 9 ++ natBe 6 7 ++ [1, 1, 0, 0])).pkt.payload))).state ≠ 0 ∧
    (sender.stream (beNat (List.take 2 (linkRx 16 (natBe 2 9 ++ natBe 6 7 ++ [1, 1, 0, 0])).pkt.payload))).role = 1 ∧
    (sender.stream (beNat (List.take 2 (linkRx 16 (natBe 2 9 ++ natBe 6 7 ++ [1, 1, 0, 0])).pkt.payload))).lport = 0 ∧
    (sender.stream (beNat (List.take 2 (linkRx 16 (natBe 2 9 ++ natBe 6 7 ++ [1, 1, 0, 0])).pkt.payload))).lastReset ≤ beNat (List.take 6 (List.drop 2 (linkRx 16 (natBe 2 9 ++ natBe 6 7 ++ [1, 1, 0, 0])).pkt.payload)) ∧
    ((reEmits.arrive 64 0 (rxOf (rawPkt 5 0)) 38500 false).2.strOut 9 false (2 * (reEmits.stream 9).chunkLen * bitsOf (inHand reEmits (rxOf (rawPkt 5 0))).pkt.tag 11 0 / 64) (inHand reEmits (rxOf (rawPkt 5 0))).pkt.payload).1.pav = (reEmits.stream 9).pav ∧
    ((reEmitsF.arrive 64 0 (rxOf (rawPkt 5 0)) 38500 false).2.strOut 9 false (2 * (reEmitsF.stream 9).chunkLen * bitsOf (inHand reEmitsF (rxOf (rawPkt 5 0))).pkt.tag 11 0 / 64) (inHand reEmitsF (rxOf (rawPkt 5 0))).pkt.payload).1.pav = 3 ∧
    3 ≠ (reEmitsF.stream 9).pav ∧
    ((reEmitsF.arrive 64 0 (rxOf (rawPkt 5 0)) 38500 false).2.strOut 9 false (2 * (reEmitsF.stream 9).chunkLen * bitsOf (inHand reEmitsF (rxOf (rawPkt 5 0))).pkt.tag 11 0 / 64) (inHand reEmitsF (rxOf (rawPkt 5 0))).pkt.payload).1.kind = 1 ∧
    bitsOf (inHand reEmitsF (rxOf (rawPkt 5 0))).pkt.tag 31 16 = 9 ∧
    (reEmitsF.stream 9).reEmit = true ∧
    (reEmitsF.stream 9).rawStep (bitsOf (inHand reEmitsF (rxOf (rawPkt 5 0))).pkt.tag 15 12) = some 5 ∧
    ((reEmitsF.stream 9).missing.any fun e => e.1 == 5 && e.2.contains 0) = true ∧
    (linkRx 1 (natBe 4 11)).lineErr = false ∧
    (onL streamInit).lUp 0 = true ∧
    rxBroken { linkRx 1 (natBe 4 11) with lineErr := true } = true ∧
    ((onL streamInit).lr 0).recover = false ∧
    rxBroken (rxBad (linkRx 1 (natBe 4 11)).pkt) = true :=
  by and_intros <;> first | decide +kernel | rfl

end Sys2Proof.Tests
end

