-- ==== Sys2Proof/WellFormed.lean ====
section
/-! DEFINITION. Which commands are well formed: every index in the range the spec gives its unit. A command that is not is no
command of the table. -/

namespace Sys2Proof

/-- A path: a function number is below 64 (R546). -/
def pathOk : Path → Bool
  | .fn f => decide (f < 64)
  | .console => true
  | .smbus => true
  | .tap => true

/-- A descriptor: function, SQ and CID (R549, R564). -/
def descOk (d : Desc) : Bool := decide (d.fn < 64) && decide (d.sq < 256) && decide (d.cid < 65536)

/-- The fields of a packet lie in their widths (R164). -/
def pktOk (p : Pkt) : Bool :=
  decide (p.ver < 4) && decide (p.kind < 64) && decide (p.vc < 8) && decide (p.pav < 64) && decide (p.hops < 32) && decide (p.len < 128)
    && decide (p.dst < 65536) && decide (p.src < 65536) && decide (p.seq < 2 ^ 32) && decide (p.tag < 2 ^ 32)

/-- A received packet: one without a length error has LEN + 1 flits of payload (R163, R171). -/
def rxOk (r : RxPkt) : Bool :=
  pktOk r.pkt && decide (r.trailer < 2 ^ 32) && (r.lenErr || decide (r.pkt.payload.length = 64 * (r.pkt.len + 1)))

/-- Where a packet comes from. -/
def srcOk : RxSrc → Bool
  | .link port sub rx _ => decide (port < 84) && decide (sub < 8) && rxOk rx
  | .own => true

/-- What a packet has left. -/
def refOk : TxRef → Bool
  | .egress e => decide (e < 672)
  | .unit _ => true

/-- A command is well formed. -/
def Instr.wf : Instr → Bool
  | .powerOn | .coldResetAssert _ _ | .coldResetRelease _ | .rootPllLock | .clocksTimeout | .fuseReadDone | .copySelected
  | .clearDone | .configApplied | .wrstAssert | .watchdogFault | .warmResetDone | .flashOpDone | .fuseProgDone | .vsbLoss
  | .refclkLoss | .rootLockLoss | .slotStart _ _ | .forwardStep | .initialLoad | .holdoverExpire | .ppsOutRise | .ppsOutFall
  | .ppsInPulse _ _ | .ppsInMiss | .freqInLoss | .spraySelect _ _ | .packetAged _ | .meshFlitArrive _ | .launchFaultHalt _ _
  | .schedStopDone | .schedItersEnd | .capturePostDone | .captureLossRecord | .captureStreamSend | .replayInject _ _
  | .digestDone | .hostLinkDown | .hotReset | .pavWindowExpire | .pavScrubDone | .logWrite | .uartBreak
  | .consoleRd _ | .consoleWr _ | .consoleSensors _ | .consoleLog _ | .consoleDrain _ | .consoleApprove _ | .consoleWreset _
  | .consoleRelay _ | .smbRegRead _ | .smbRegWrite _ _ _ | .smbLastStatus | .smbSummary | .smbSensor _ | .smbWreset _
  | .smbApprove _ _ | .smbAlertResponse | .tapReset | .jtagExtest | .jtagSamplePreload | .jtagIdcode | .jtagClamp
  | .jtagHighz | .jtagExtestPulse | .jtagExtestTrain | .jtagMgtAccess _ _ _ | .jtagBypass | .sensorSample _ _
  | .imageLoadDone _ | .captureStopDone | .freqInRestored _ | .vidPinsValid =>
    true
  | .uartByteRx l => decide (l.length = 154)
  | .perstRelease _ rate width numVf =>
    decide (1 ≤ rate) && decide (rate ≤ 6) && [1, 4, 8, 16].contains width && decide (numVf < 64)
  | .cfgResetCold path _ | .cfgResetWarm path _ | .flashRead path _ | .flashProgram path _ | .flashErase path _
  | .fuseProg path _ | .timNowLoRead path | .lneTestModeWrite path _ _ | .rteTblRead path _ | .rteTblWrite path _
  | .schCalRead path _ | .schCalWrite path _ | .schPolRead path _ | .schPolWrite path _ | .colLagClr path _
  | .memRgnRead path _ | .memRgnWrite path _ | .memGtblRead path _ | .memGtblWrite path _ | .memGwinRead path _
  | .memGwinWrite path _ | .gsvcEnWrite path _ | .captureTrigger path _ | .digestStart path _ | .hifOccClr path _
  | .logDrainAdv path _ | .mgtTripRecClear path _ | .strTblWrite path _ | .strTblRead path _ =>
    pathOk path
  | .pkgLinkRetry link _ | .pkgLinkFail link _ =>
    decide (link < 8)
  | .stcMarkMiss lane | .stcLaneUp lane | .stcLaneDown lane _ _
  | .consoleOpenRx lane | .consoleDataRx lane _ | .consoleCloseRx lane =>
    decide (lane < 16)
  | .stcMarkRx lane syms _ | .stcFrameRx lane syms =>
    decide (lane < 16) && syms.all fun c => decide (c < 1024)
  | .timePacketRx lport _ _ | .timePacketMiss lport | .replayTimeout lport _ =>
    decide (lport < 16)
  | .actionRefill die | .cellLaunch die | .mxuLaunch die | .streamSend die | .streamDecode die | .streamUpdate die
  | .prefetch die | .colStart die | .colLaunch die | .colUp die | .colDown die | .portRest die | .bpmRingFillDone die
  | .prefetchDone die _ | .emberPageInDone die | .emberWritebackDone die =>
    decide (die < 2)
  | .prtCtrlWrite path port _ | .prtRestWake path port _ =>
    pathOk path && decide (port < 84)
  | .pcsLock port sub | .trainFail port sub | .helloSend port sub | .helloAckRx port sub | .helloTimeout port sub
  | .retryTimeout port sub | .idleRestTimeout port sub | .restReqRx port sub | .restAckRx port sub | .restNakRx port sub _
  | .restAbortRx port sub | .wakeRx port sub | .restEntryDone port sub | .restExitDone port sub | .restWindowExit port sub
  | .timeWindowWake port sub | .rxSignalReturn port sub | .creditSend port sub _ =>
    decide (port < 84) && decide (sub < 8)
  | .helloIdRx port sub arg | .helloPortRx port sub arg | .restCommitRx port sub arg =>
    decide (port < 84) && decide (sub < 8) && decide (arg < 65536)
  | .osUnknown port sub kind =>
    decide (port < 84) && decide (sub < 8) && decide (kind < 256)
  | .linkDown port sub cause lost =>
    decide (port < 84) && decide (sub < 8) && decide (1 ≤ cause) && decide (cause ≤ 4) && decide (lost < 256)
  | .stcFrameTx lane type _ _ =>
    decide (lane < 16) && decide (type < 256)
  | .lneInjectFire path lane _ | .lnePatchkClear path lane _ =>
    pathOk path && decide (lane < 784)
  | .injectRateExpire lane | .checkerLock lane _ | .checkerLockLost lane _ =>
    decide (lane < 784)
  | .routedPacketRx port sub rx _ | .creditRx port sub rx =>
    decide (port < 84) && decide (sub < 8) && rxOk rx
  | .packetTxDone ref =>
    refOk ref
  | .bpmEnableWrite path die _ | .bpmOwnRead path die _ | .bpmOwnWrite path die _ =>
    pathOk path && decide (die < 2)
  | .handleCacheRefill die aport pool _ =>
    decide (die < 2) && decide (aport < 16) && decide (pool < 4)
  | .egressSelect egr _ | .schedStage egr =>
    decide (egr < 672)
  | .sFrameRx sport _ _ _ | .pauseRx sport _ _ _ | .pfcRx sport _ _ _ | .macControlIgnored sport _ _ _ =>
    decide (sport < 4)
  | .pauseTimerExpire sport pri | .pauseRefresh sport pri =>
    decide (sport < 4) && decide (pri < 8)
  | .triggerLaunch entry =>
    decide (entry < 65536)
  | .queuedTriggerStart cluster | .gatewayDeposit cluster =>
    decide (cluster < 1024)
  | .nop cell | .sadd cell | .ssub cell | .smul cell | .sand cell | .sor cell | .sxor cell | .sshl cell | .sshr cell
  | .sli cell | .saddi cell | .sld cell | .sst cell | .vadd cell | .vsub cell | .vmul cell | .vfma cell | .vmax cell
  | .vmin cell | .vrcp cell | .vdiv cell | .vrsum cell | .vtsum cell | .vpwl cell | .viadd cell | .vimul cell | .vand cell
  | .vor cell | .vxor cell | .vshl cell | .vshr cell | .vcmp cell | .vsel cell | .vcvt cell | .vbscale cell | .vld cell
  | .vst cell | .vldx cell | .vstx cell | .vaddx cell | .vhash cell | .send cell | .recv cell | .gpostEmitSched cell
  | .gpostEmitUnsched cell | .gpostFetch cell | .gpostPut cell | .loop cell | .waitc cell | .ifill cell | .halt cell _
  | .recvTimeout cell | .illegalOpcode cell =>
    decide (cell < 32768)
  | .groupCreate d g _ _ | .groupDestroy d g =>
    descOk d && decide (g < 65536)
  | .contribUpRx src | .contribDownRx src | .failureNoticeRx src | .segsumRx src | .residualRx src | .rawChunkRx src
  | .gatherReqRx src =>
    srcOk src
  | .colDeadline g | .colDownDeadline g | .colStageDone g _ =>
    decide (g < 4096)
  | .mxuStart unit | .mxuComplete unit _ | .mxuGatherStall unit _ | .mxuEccFault unit _ _ =>
    decide (unit < 8)
  | .streamOpen d stream _ _ _ _ | .streamPause d stream _ | .streamResume d stream _ | .streamReset d stream _
  | .streamClose d stream _ =>
    descOk d && decide (stream < 65536)
  | .streamCmdEffect stream _ | .updateNextLaunch stream | .vecLaunchFire stream =>
    decide (stream < 65536)
  | .linkAckSend lport kind =>
    decide (lport < 16) && decide (kind < 256)
  | .ackRx lport rx | .nakRx lport rx _ | .replayRx lport rx | .resetReqRx lport rx =>
    decide (lport < 16) && rxOk rx
  | .gatherServe engine _ =>
    decide (engine < 8)
  | .imageLoad d _ | .schedLaunch d _ _ | .schedStop d _ | .captureStop d | .counterSnapshot d _ _ _ _ | .logDrain d _ _ _
  | .timeArm d _ | .pavPropose d _ _ | .pavApprove d _ _ | .opcodeRefused d =>
    descOk d
  | .captureStart d dest _ _ _ _ sport =>
    descOk d && decide (dest < 4) && decide (sport < 4)
  | .sqDoorbell fn _ _ _ _ | .cqDoorbell fn _ _ _ _ | .flr fn =>
    decide (fn < 64)
  | .sqCtrlWrite fn idx _ =>
    decide (fn < 64) && decide (idx < 256)
  | .cqCtrlWrite fn j _ =>
    decide (fn < 64) && decide (j < 256)
  | .cmdCompletionResume fn cq _ | .overflowRecord fn cq | .irqModerationTimeout fn cq =>
    decide (fn < 64) && decide (cq < 256)
  | .creditStall egr vc =>
    decide (egr < 672) && decide (vc < 8)
  | .tableEccFault structure_ _ die =>
    ((decide (1 ≤ structure_) && decide (structure_ ≤ 19)) || structure_ == 32 || structure_ == 33
      || (decide (65 ≤ structure_) && decide (structure_ ≤ 83))) && decide (die < 9)
  | .registerWrite path _ _ _ be | .latchedPairRead path _ be =>
    pathOk path && decide (be < 16)

end Sys2Proof
end

