-- ==== Sys2Proof/Tests/Slice0.lean ====
section
/-! SUPPORT. Tests: a step on an empty queue, ill-formed commands, and the worked examples of the spec. -/

namespace Sys2Proof.Tests

-- One witness after the other: proofs that run at once would each hold a stack of the size the check gives a thread.
set_option Elab.async false

open Sys2Proof Sys2Proof.Machine

/-! ## The queue -/

/-- An empty queue: the block idles (the model's choice, log entry 1). -/
theorem test_step_idle (s : State) (h : s.pending = []) : step s = .next s := by
  cases s; cases h; rfl

/-- No row of the table has bits, so no word spells a command. -/
theorem test_no_word (n w : Nat) (s : State) : decodeTableWord n w = none ∧ s.withFetchWord n w = s := ⟨rfl, rfl⟩

/-- From reset, COLD_RESET_RELEASE reaches CLOCKS. -/
theorem test_release : after (step { State.reset with pending := [.coldResetRelease true] })
    (fun t => t.boot.stage == 1 && t.pending.isEmpty) = true := by decide +kernel

/-! ## Ill-formed commands, one for each check -/

theorem test_wf_path : (Instr.flashRead (.fn 64) 0).wf = false ∧ (Instr.flashRead (.fn 63) 0).wf = true := by decide
theorem test_wf_desc_fn : (Instr.captureStop { d0 with fn := 64 }).wf = false := by decide
theorem test_wf_desc_sq : (Instr.captureStop { d0 with sq := 256 }).wf = false := by decide
theorem test_wf_desc_cid : (Instr.captureStop { d0 with cid := 65536 }).wf = false ∧ (Instr.captureStop d0).wf = true := by decide
theorem test_wf_pkt : pktOk { pkt0 with ver := 4 } = false ∧ pktOk { pkt0 with kind := 64 } = false ∧ pktOk { pkt0 with vc := 8 } = false ∧
    pktOk { pkt0 with pav := 64 } = false ∧ pktOk { pkt0 with hops := 32 } = false ∧ pktOk { pkt0 with len := 128 } = false ∧
    pktOk { pkt0 with dst := 65536 } = false ∧ pktOk { pkt0 with src := 65536 } = false ∧ pktOk { pkt0 with seq := 2 ^ 32 } = false ∧
    pktOk { pkt0 with tag := 2 ^ 32 } = false ∧ pktOk pkt0 = true := by decide
theorem test_wf_rx : rxOk ⟨pkt0, 2 ^ 32, false, false⟩ = false ∧ rxOk ⟨{ pkt0 with len := 1 }, 0, false, false⟩ = false ∧
    rxOk ⟨{ pkt0 with len := 1 }, 0, true, false⟩ = true := by decide
theorem test_wf_src : (Instr.residualRx (.link 84 0 ⟨pkt0, 0, false, false⟩ 0)).wf = false ∧
    (Instr.residualRx (.link 0 8 ⟨pkt0, 0, false, false⟩ 0)).wf = false ∧ (Instr.residualRx .own).wf = true := by decide
theorem test_wf_ref : (Instr.packetTxDone (.egress 672)).wf = false ∧ (Instr.packetTxDone (.egress 671)).wf = true := by decide
theorem test_wf_perst : (Instr.perstRelease true 7 4 0).wf = false ∧ (Instr.perstRelease true 6 3 0).wf = false ∧
    (Instr.perstRelease true 6 4 64).wf = false ∧ (Instr.perstRelease true 6 16 0).wf = true := by decide
theorem test_wf_pkg : (Instr.pkgLinkRetry 8 0).wf = false := by decide
theorem test_wf_lane : (Instr.stcLaneUp 16).wf = false ∧ (Instr.checkerLock 784 []).wf = false ∧ (Instr.lneInjectFire .tap 784 0).wf = false ∧
    (Instr.stcFrameTx 0 256 [] none).wf = false := by decide
theorem test_wf_lport : (Instr.timePacketMiss 16).wf = false ∧ (Instr.linkAckSend 0 256).wf = false ∧ (Instr.ackRx 16 (rxOf pkt0)).wf = false := by
  decide
theorem test_wf_die : (Instr.prefetch 2).wf = false ∧ (Instr.bpmOwnRead .tap 2 0).wf = false := by decide
theorem test_wf_port : (Instr.prtCtrlWrite .tap 84 0).wf = false ∧ (Instr.pcsLock 84 0).wf = false ∧ (Instr.pcsLock 83 8).wf = false ∧
    (Instr.helloIdRx 0 0 65536).wf = false ∧ (Instr.osUnknown 0 0 256).wf = false := by decide
theorem test_wf_cause : (Instr.linkDown 0 0 0 0).wf = false ∧ (Instr.linkDown 0 0 5 0).wf = false ∧ (Instr.linkDown 0 0 4 256).wf = false ∧
    (Instr.linkDown 0 0 4 255).wf = true := by decide
theorem test_wf_symbols : (Instr.stcFrameRx 16 []).wf = false ∧ (Instr.stcFrameRx 0 [1024]).wf = false ∧ (Instr.stcFrameRx 0 [1023]).wf = true := by
  decide
theorem test_wf_uart : (Instr.uartByteRx []).wf = false := by decide
theorem test_wf_pool : (Instr.handleCacheRefill 0 16 0 []).wf = false ∧ (Instr.handleCacheRefill 0 0 4 []).wf = false := by decide
theorem test_wf_egress : (Instr.egressSelect 672 0).wf = false ∧ (Instr.creditStall 672 0).wf = false ∧ (Instr.creditStall 0 8).wf = false := by
  decide
theorem test_wf_sport : (Instr.sFrameRx 4 [] true 0).wf = false ∧ (Instr.pauseRefresh 0 8).wf = false := by decide
theorem test_wf_cells : (Instr.triggerLaunch 65536).wf = false ∧ (Instr.gatewayDeposit 1024).wf = false ∧ (Instr.vadd 32768).wf = false := by
  decide
theorem test_wf_groups : (Instr.groupDestroy d0 65536).wf = false ∧ (Instr.colDeadline 4096).wf = false := by decide
theorem test_wf_units : (Instr.mxuStart 8).wf = false ∧ (Instr.gatherServe 8 0).wf = false := by decide
theorem test_wf_streams : (Instr.streamPause d0 65536 0).wf = false ∧ (Instr.updateNextLaunch 65536).wf = false := by decide
theorem test_wf_capture : (Instr.captureStart d0 4 false false false false 0).wf = false ∧
    (Instr.captureStart d0 0 false false false false 4).wf = false := by decide
theorem test_wf_rings : (Instr.flr 64).wf = false ∧ (Instr.sqCtrlWrite 0 256 0).wf = false ∧ (Instr.overflowRecord 0 256).wf = false := by
  decide
theorem test_wf_ecc : (Instr.tableEccFault 0 0 0).wf = false ∧ (Instr.tableEccFault 20 0 0).wf = false ∧ (Instr.tableEccFault 19 0 9).wf = false := by
  decide
theorem test_wf_write : (Instr.registerWrite .tap 0 0 0 16).wf = false := by decide

/-! ## Worked examples: the expected values are the spec's -/

/-- R166: the CRC-32C of the text 123456789. -/
theorem test_crc32c : crc32c (txt "123456789") = 0xE3069283 := by decide +kernel

/-- Chapter 04's example: the header of packet P1. -/
theorem test_header : hdrBytes ⟨1, 1, false, 0, false, false, 5, 12, 127, 0x29F5, 0x0412, 0xA10, 0x03A00000, []⟩ =
    [0x41, 0x00, 0x56, 0x7F, 0x29, 0xF5, 0x04, 0x12, 0x00, 0x00, 0x0A, 0x10, 0x03, 0xA0, 0x00, 0x00] := by decide +kernel

/-- Chapter 07's example: BF16 ties round to even, with INEXACT. -/
theorem test_bf16_ties : (writeElem 1 none (decodeF fp32 0x3F808000)).1 = 0x3F80 ∧ (writeElem 1 none (decodeF fp32 0x3F818000)).1 = 0x3F82 ∧
    (writeElem 1 none (decodeF fp32 0x3F818000)).2 = 0x10 := by decide +kernel

/-- Chapter 07's example: E4M3 codes and flags. -/
theorem test_e4m3 : writeElem 3 none (decodeF fp32 0x3EA00000) = (0x2A, 0) ∧ writeElem 3 none (decodeF fp32 0x43FA0000) = (0x7E, 0x34) ∧
    writeElem 3 none (decodeF fp32 0x3BA00000) = (0x00, 0x58) ∧ writeElem 3 none (decodeF fp32 0x3C780000) = (0x08, 0x10) ∧
    writeElem 3 none (decodeF fp32 0xFF800000) = (0xFE, 0x20) := by decide +kernel

/-- Chapter 07's example: the compensated pair of 1, 2⁻²⁴, 2⁻²⁴ and −1 (R301). -/
theorem test_pair :
    let r := [0x3F800000, 0x33800000, 0x33800000, 0xBF800000].foldl (fun (p : Nat × Nat) x => ((compStep p.1 p.2 x).1, (compStep p.1 p.2 x).2.1)) (0, 0)
    r = (0x34000000, 0) := by decide +kernel

/-- Chapter 07's example: the gate at 1.25. -/
theorem test_gate : (pwl gateTable 0x3FA00000).1 = 0x3F463A00 := by decide +kernel

/-- Chapter 10's example: bias, gate, block scale and the element rounded stochastically. -/
theorem test_chain : (fadd 0x3F8B0000 0xBE800000).1 = 0x3F560000 ∧ (pwl gateTable 0x3F560000).1 = 0x3F320768 ∧
    (blockScale 8 [0x3F700000, 0x3F320768]).1 = 0x76 ∧
    (writeElem 9 (some 0x9C41) (unscale 0x76 (decodeF fp32 0x3F320768))).1 = 0x7B := by decide +kernel

/-- Chapter 10's example: the launch's cycles in its array and its tail. -/
theorem test_timing :
    let d := [5 * 2 ^ 29 + 5 * 2 ^ 23 + 1 * 2 ^ 16 + 1 * 2 ^ 12 + 9 * 2 ^ 8 + 1 * 2 ^ 7, 0, 0, 0, 0, 0, 47 * 2 ^ 16, 767 + 1791 * 2 ^ 16,
      1 * 2 ^ 16 + 1 * 2 ^ 18] ++ List.replicate 23 0
    (mxuSteps d, mxuTail d) = (5632, 68) := by decide +kernel

/-- Chapter 18's example: a CELL_FAULT entry as its 32 bytes. -/
theorem test_log_entry : entryBytes ⟨12345678912, 81706, 8, 0, 0, 5, 0x03000028, 0x0C150012, 0, 0⟩ =
    [0x40, 0x1C, 0xDC, 0xDF, 0x02, 0x00, 0x00, 0x00, 0x2A, 0x3F, 0x01, 0x00, 0x08, 0x00, 0x00, 0x05, 0x28, 0x00, 0x00, 0x03,
     0x12, 0x00, 0x15, 0x0C] ++ List.replicate 8 0 := by decide +kernel

/-- Chapter 16's example: record 3 of the proposal. -/
theorem test_record : recOf [0x01, 0x05, 0x07, 0x00, 0x01, 0x00, 0x00, 0x00, 0x00, 0x40, 0x01, 0x00, 0x00, 0x00, 0x60, 0x00] =
    ⟨5, 7, 1, 0x0060000000014000⟩ ∧ rangeOf 0x0060000000014000 = ⟨0x14000, 0x600000⟩ := by decide +kernel

/-- Chapter 21's example: addresses of F-port 19, and TIM_QUALITY after a cold reset. -/
theorem test_addresses : aSCH_Q_TX_BYTES_LO 19 0 3 = 0x3561B0 ∧ aSCH_Q_DEPTH 19 0 4 = 0x356220 ∧ aSCH_Q_SHAPE_WEIGHT 19 0 0 = 0x356130 ∧
    aPRT_CTRL 19 = 0x213000 ∧ State.reset.peek aTIM_QUALITY = 0x003F1F08 := by decide +kernel

/-- FIPS 180-4: the SHA-384 of abc (its first 8 bytes). -/
theorem test_sha384 : (sha384 (txt "abc")).take 8 = [0xCB, 0x00, 0x75, 0x3F, 0x45, 0xA3, 0x5E, 0x8B] := by decide +kernel

/-- R602: signatures made by a tool outside this package verify, and fail for another key. -/
theorem test_signature : verifies opKey0 (propTokens.take 48) (propTokens.drop 48) = true ∧
    verifies cuKey0 (propTokens.take 48) (propTokens.drop 48) = false := by decide +kernel

/-! ## One step each of a few commands -/

/-- R325: 0x80000001 and 7 add to 0x80000008. -/
theorem test_sadd : after (exec (.sadd 0) (cellDo (insW 1 23 4 3 0 0 0))) (fun t => (t.cell 0).sxw 23 == 0x80000008) = true := by
  decide +kernel

/-- A second launch while a schedule is launched is refused, and the first one stays. -/
theorem test_relaunch : after (exec (.schedLaunch d0 100 0) (ringsImg true)) (fun t => t.sched.start == 4) = true := by decide +kernel

/-- A flit read by RECV is the queue's first. -/
theorem test_recv : after (exec (.recv 0) (queued [(9000, List.replicate 16 5)] (insW 0x81 3 0 0 0 0 0)))
    (fun t => (t.cell 0).inq.isEmpty && ((t.cell 0).vx.getD 3 []) == List.replicate 16 5) = true := by decide +kernel

end Sys2Proof.Tests
end

section
/-! SUPPORT. What a plain write of a register leaves (R16, R583): the bits that hardware has set in the same SCLK cycle stay, the
other W1C bits written with 1 fall, and the RW bits are those written. -/

namespace Sys2Proof.Machine

/-- What holds of the state a command answers holds together: there is one such state. -/
theorem Answers.and {c : Instr} {s : State} {P Q : State → Prop} (hP : Answers c s P) (hQ : Answers c s Q) :
    Answers c s fun t => P t ∧ Q t := by
  obtain ⟨t, ht, hPt⟩ := hP
  obtain ⟨u, hu, hQu⟩ := hQ
  obtain rfl : t = u := Host.Outcome.next.inj (ht.symm.trans hu)
  exact ⟨t, ht, hPt, hQu⟩

/-- A bit of a number's low word. -/
theorem ofNat32_getLsbD (n : Nat) {i : Nat} (hi : i < 32) : (BitVec.ofNat 32 n).getLsbD i = bitOf n i := by
  rw [BitVec.getLsbD_ofNat, decide_eq_true hi, Bool.true_and]
  rfl

/-- Bits put into a word one after the other are 1, and the others as before. -/
theorem foldl_orBit_getLsbD (l : List (Nat × Nat)) (w : Word) {i : Nat} (hi : i < 32) :
    (l.foldl (fun w x => w ||| BitVec.ofNat 32 (2 ^ x.2)) w).getLsbD i = (w.getLsbD i || l.any fun x => decide (x.2 = i)) := by
  induction l generalizing w with
  | nil => simp
  | cons x l ih =>
    rw [List.foldl_cons, ih, BitVec.getLsbD_or, ofNat32_getLsbD _ hi, bitOf, Nat.testBit_two_pow, List.any_cons, Bool.or_assoc]

/-- A bit of the mask of bits that hardware has just set. -/
theorem setNow_getLsbD (s : State) (o : Nat) {i : Nat} (hi : i < 32) : (s.setNow o).getLsbD i = s.justSet o i := by
  have hzero : (0 : Word).getLsbD i = false := BitVec.getLsbD_zero
  rw [State.setNow, foldl_orBit_getLsbD _ _ hi, hzero, Bool.false_or, Bool.eq_iff_iff]
  simp only [State.justSet, List.contains_iff_mem, List.any_eq_true, List.mem_filter, Bool.and_eq_true, beq_iff_eq,
    decide_eq_true_eq]
  constructor
  · rintro ⟨⟨_, _⟩, ⟨hmem, rfl, -⟩, rfl⟩
    exact hmem
  · intro hmem
    exact ⟨(o, i), ⟨hmem, rfl, hi⟩, rfl⟩

/-- A write takes no fault where none of the cycle waits for its register. -/
theorem takeHeld_of_no_fault (s : State) (o : Nat) (v : Word)
    (h : ∀ x ∈ s.now4.held, faultRecord o = true → x.1 ≠ o) : s.takeHeld o v = s := by
  have hnone : s.now4.held.find? (fun x => faultRecord o && x.1 == o) = none := by
    rw [List.find?_eq_none]
    intro x hx
    simpa using h x hx
  rw [State.takeHeld, hnone]

section
variable {s : State} {o : Nat} {r : RegRow} (v : Word) (hr : regRow o = some r)
  (h : ∀ x ∈ s.now4.held, faultRecord o = true → x.1 ≠ o)
include hr h

/-- With no fault to take, a plain write stores one word. -/
theorem plainWrite_eq_setReg : s.plainWrite o v = s.setReg o
    ((s.reg o &&& ~~~BitVec.ofNat 32 r.rw &&& ~~~(BitVec.ofNat 32 r.w1c &&& ~~~s.setNow o &&& v)) ||| (v &&& BitVec.ofNat 32 r.rw)) := by
  rw [State.plainWrite, hr]
  exact takeHeld_of_no_fault _ _ _ h

/-- With no fault to take, a plain write leaves every other register. -/
theorem plainWrite_keepsRegs : KeepsRegs [o] s (s.plainWrite o v) := by
  intro o' ho
  rw [plainWrite_eq_setReg v hr h, reg_setReg_ne _ _ (List.ne_of_not_mem_cons ho)]

/-- A bit of the register after a plain write (R16, R583). -/
theorem plainWrite_bit {i : Nat} (hi : i < 32) : (s.plainWrite o v).bit o i =
    if bitOf r.rw i then bitOf v.toNat i
    else s.bit o i && !(bitOf r.w1c i && !s.justSet o i && bitOf v.toNat i) := by
  change ((s.plainWrite o v).reg o).getLsbD i =
    if bitOf r.rw i then v.getLsbD i else (s.reg o).getLsbD i && !(bitOf r.w1c i && !s.justSet o i && v.getLsbD i)
  rw [plainWrite_eq_setReg v hr h, reg_setReg]
  simp only [BitVec.getLsbD_or, BitVec.getLsbD_and, BitVec.getLsbD_not, hi, ofNat32_getLsbD, setNow_getLsbD, decide_true,
    Bool.true_and]
  cases bitOf r.rw i <;> simp
end

end Sys2Proof.Machine
end

section
/-! PROOFS. MGT_TRIP_REC_CLEAR (R692): what it does where it takes effect, and the refutation of O60. -/

namespace Sys2Proof.Machine

/-- The map's row of MGT_TRIP_REC: VALID is W1C, and nothing in it is RW. -/
theorem regRow_tripRec : regRow aMGT_TRIP_REC = some ⟨"MGT_TRIP_REC", aMGT_TRIP_REC, [], 0, 0x80000000, 0, false⟩ := by
  decide

/-- No fault waits to be taken by MGT_TRIP_REC: it is not one of the records of R583. -/
theorem no_fault_for_tripRec (s : State) : ∀ x ∈ s.now4.held, faultRecord aMGT_TRIP_REC = true → x.1 ≠ aMGT_TRIP_REC :=
  fun _ _ hf => absurd hf (by decide)

/-- A write of 1 to VALID of MGT_TRIP_REC clears it, unless hardware has set it in the same SCLK cycle (R583). -/
theorem plainWrite_tripRec_valid {s : State} {v : Word} (hv : bitOf v.toNat 31 = true) (hrec : s.bit aMGT_TRIP_REC 31 = true) :
    (s.plainWrite aMGT_TRIP_REC v).bit aMGT_TRIP_REC 31 = s.justSet aMGT_TRIP_REC 31 := by
  have hrw : bitOf 0 31 = false := by decide
  have hw1c : bitOf 0x80000000 31 = true := by decide
  rw [plainWrite_bit v regRow_tripRec (no_fault_for_tripRec s) (by decide)]
  simp [hrw, hw1c, hv, hrec]

/-- What MGT_TRIP_REC_CLEAR does where it takes effect: VALID falls unless hardware has set it in the same SCLK cycle, and
THERM_TRIP_N lets go. -/
theorem mgtTripRecClear_effect {s : State} {path : Path} {v : Word} (hmay : s.mayWrite path aMGT_TRIP_REC = true)
    (hv : bitOf v.toNat 31 = true) (hrec : s.bit aMGT_TRIP_REC 31 = true) (hcool : ∀ i, i < 16 → s.temp i < s.warnAt) :
    Answers (.mgtTripRecClear path v) s fun t => t.bit aMGT_TRIP_REC 31 = s.justSet aMGT_TRIP_REC 31 ∧
      t.out = .pin .thermTripN 1 :: s.out ∧ Only { regs := true, out := true } s t ∧ KeepsRegs [aMGT_TRIP_REC] s t := by
  have hbelow : s.allBelow s.warnAt = true := by simpa [State.allBelow] using hcool
  have hclear : s.tripClear v = (s.plainWrite aMGT_TRIP_REC v).emit (.pin .thermTripN 1) := by
    simp only [State.tripClear, hv, hrec, hbelow, Bool.and_self, if_true]
  have hout : (s.plainWrite aMGT_TRIP_REC v).out = s.out := by
    rw [plainWrite_eq_setReg v regRow_tripRec (no_fault_for_tripRec s), setReg_out]
  refine ⟨s.tripClear v, congrArg _ (if_pos hmay), ?_, ?_, State.tripClear_mask s v _ rfl rfl, ?_⟩ <;> rw [hclear]
  · exact plainWrite_tripRec_valid hv hrec
  · exact congrArg _ hout
  · exact plainWrite_keepsRegs v regRow_tripRec (no_fault_for_tripRec s)

/-- The reset state but for these: the root clock counts, a trip is recorded, and hardware has set the record's VALID in the
present SCLK cycle. O60 speaks of every state, so of this one, although SENSOR_SAMPLE does not note the VALID it sets. -/
def State.tripJustSet : State :=
  { State.reset with
    regs := [(aMGT_TRIP_REC, 0x80000000)]
    tim := { State.reset.tim with lock := true }
    recent := ⟨0, [(aMGT_TRIP_REC, 31)], [], []⟩ }

/-- Refutes O60: its last clause has MGT_TRIP_REC_CLEAR take VALID to 0 in every state whose sensors read below WARN, without the
premise of its third clause, that hardware has not set the bit in the same SCLK cycle. In `State.tripJustSet` hardware has, and the
set wins (R583). With that premise the clause holds: `mgtTripRecClear_effect`. -/
theorem not_registersLogSensors : ¬ Obligations.RegistersLogSensors := by
  unfold Obligations.RegistersLogSensors
  intro h
  obtain ⟨-, -, -, -, -, -, -, -, -, -, -, -, -, -, -, -, -, -, -, hclear⟩ := h State.tripJustSet
  have hmay : State.tripJustSet.mayWrite .console aMGT_TRIP_REC = true := by decide
  have hv : bitOf (0x80000000 : Word).toNat 31 = true := by decide
  have hrec : State.tripJustSet.bit aMGT_TRIP_REC 31 = true := by decide
  have hcool : ∀ i, i < 16 → State.tripJustSet.temp i < State.tripJustSet.warnAt := by decide
  have hjust : State.tripJustSet.justSet aMGT_TRIP_REC 31 = true := by decide
  obtain ⟨falls, -⟩ := hclear .console 0x80000000 hmay
  obtain ⟨t, -, ⟨hfell, -⟩, hstays, -⟩ := (falls hv hrec hcool).and (mgtTripRecClear_effect hmay hv hrec hcool)
  rw [hfell, hjust] at hstays
  exact Bool.false_ne_true hstays

end Sys2Proof.Machine
end

section
/-! SUPPORT. What an event bit and a log entry change (R582, R661–R663), and what of the state a field's mask shows. -/

namespace Sys2Proof.Machine

/-- What can be read off the masked state is the same in two states that only differ in the masked fields. -/
theorem eq_of_mask {α : Type} {G : Fields} {s t : State} (π : State → α) (h : t.mask G = s.mask G)
    (hπ : ∀ u, π (u.mask G) = π u) : π t = π s := by
  rw [← hπ t, h, hπ s]

/-- A bit of a register that was set, and the register's other bits as they were. -/
theorem setW1c_reg_same (s : State) (ev bit limit : Nat) :
    (s.setW1c ev bit limit).reg ev = s.reg ev ||| BitVec.ofNat 32 (2 ^ bit) := by
  simp only [State.setW1c, State.occur]
  split
  · rw [setFld_reg _ _ _ _ _ (by omega), noteSet_reg, reg_setReg]
  · rw [noteSet_reg, reg_setReg]

/-- A register without occurrence counters is all that setting one of its bits writes. -/
theorem setW1c_reg_of_uncounted (s : State) (ev bit : Nat) {o : Nat} (h : o ≠ ev) : (s.setW1c ev bit 0).reg o = s.reg o := by
  simp only [State.setW1c, Nat.not_lt_zero, false_and, if_false, noteSet_reg]
  exact reg_setReg_ne _ _ h

/-- The bits of an EVENT register after one of them is set. -/
theorem evt_bit (s : State) (blk ev : Nat) {bit i : Nat} (hi : i < 32) (hpf : ev ∉ evtRegs (aHIF_FN_EVENT 0)) :
    (s.evt blk ev bit).bit ev i = (s.bit ev i || decide (bit = i)) := by
  change ((s.evt blk ev bit).reg ev).getLsbD i = ((s.reg ev).getLsbD i || decide (bit = i))
  rw [State.evt, blockEvent_reg _ _ hpf, setW1c_reg_same, BitVec.getLsbD_or, ofNat32_getLsbD _ hi, bitOf, Nat.testBit_two_pow]

/-- A register that keeps its value keeps its bits. -/
theorem bit_of_reg {s t : State} {o : Nat} (h : t.reg o = s.reg o) (i : Nat) : t.bit o i = s.bit o i := by
  rw [State.bit, h, State.bit]

/-! ## Fields after an event and after a log entry -/

@[simp] theorem evt_tim (s : State) (blk ev bit : Nat) : (s.evt blk ev bit).tim = s.tim :=
  eq_of_mask State.tim (State.evt_mask s blk ev bit { regs := true, hif := true, out := true } rfl rfl rfl) fun _ => rfl

@[simp] theorem evt_log (s : State) (blk ev bit : Nat) : (s.evt blk ev bit).log = s.log :=
  eq_of_mask State.log (State.evt_mask s blk ev bit { regs := true, hif := true, out := true } rfl rfl rfl) fun _ => rfl

@[simp] theorem evt_rte (s : State) (blk ev bit : Nat) : (s.evt blk ev bit).rte = s.rte :=
  eq_of_mask State.rte (State.evt_mask s blk ev bit { regs := true, hif := true, out := true } rfl rfl rfl) fun _ => rfl

@[simp] theorem setW1c_hif (s : State) (ev bit limit : Nat) : (s.setW1c ev bit limit).hif = s.hif :=
  eq_of_mask State.hif (State.setW1c_mask s ev bit limit { regs := true } rfl) fun _ => rfl

/-- Raising a vector touches the host port's pending bits at most. -/
theorem raiseVec_hif (s : State) (f vec : Nat) :
    (s.raiseVec f vec).hif = { s.hif with msixPend := (s.raiseVec f vec).hif.msixPend } := by
  unfold State.raiseVec
  split <;> rfl

/-- An event of a function touches the host port's pending bits at most. -/
theorem fnEvt1_hif (s : State) (f bit : Nat) :
    (s.fnEvt1 f bit).hif = { s.hif with msixPend := (s.fnEvt1 f bit).hif.msixPend } := by
  unfold State.fnEvt1
  dsimp only
  split
  · rw [noteSet_hif, raiseVec_hif, setW1c_hif]
  · rw [setW1c_hif]

/-- A block's event touches the host port's pending bits at most. -/
theorem evt_hif (s : State) (blk ev bit : Nat) :
    (s.evt blk ev bit).hif = { s.hif with msixPend := (s.evt blk ev bit).hif.msixPend } := by
  unfold State.evt State.blockEvent
  split
  · rw [fnEvt1_hif, setW1c_hif]
  · rw [setW1c_hif]

section
variable (s : State) (cls sub src pav d0 d1 d2 d3 : Nat)

@[simp] theorem offer_tim : (s.offer cls sub src pav d0 d1 d2 d3).tim = s.tim :=
  eq_of_mask State.tim (State.offer_mask s cls sub src pav d0 d1 d2 d3
    { regs := true, hif := true, log := true, out := true } rfl rfl rfl rfl) fun _ => rfl

@[simp] theorem offer_boot : (s.offer cls sub src pav d0 d1 d2 d3).boot = s.boot :=
  eq_of_mask State.boot (State.offer_mask s cls sub src pav d0 d1 d2 d3
    { regs := true, hif := true, log := true, out := true } rfl rfl rfl rfl) fun _ => rfl

@[simp] theorem offer_rte : (s.offer cls sub src pav d0 d1 d2 d3).rte = s.rte :=
  eq_of_mask State.rte (State.offer_mask s cls sub src pav d0 d1 d2 d3
    { regs := true, hif := true, log := true, out := true } rfl rfl rfl rfl) fun _ => rfl

/-- A log entry, or its loss, touches the queue of the log only (R661–R663). -/
theorem offer_log : (s.offer cls sub src pav d0 d1 d2 d3).log =
    { s.log with queue := (s.offer cls sub src pav d0 d1 d2 d3).log.queue } := by
  unfold State.offer
  dsimp only
  split
  · rfl
  · rw [evt_log]
    rfl

/-- A log entry, or its loss, touches the host port's pending bits at most. -/
theorem offer_hif : (s.offer cls sub src pav d0 d1 d2 d3).hif =
    { s.hif with msixPend := (s.offer cls sub src pav d0 d1 d2 d3).hif.msixPend } := by
  unfold State.offer
  dsimp only
  split
  · rfl
  · rw [evt_hif]
    rfl

/-- With room in the queue the entry takes its place in it (R661, R662). -/
theorem offer_logged : Logged s (s.offer cls sub src pav d0 d1 d2 d3)
    ⟨s.edgeNs, 0, cls, sub, src, pav, d0 % 2 ^ 32, d1 % 2 ^ 32, d2 % 2 ^ 32, d3 % 2 ^ 32⟩ := by
  intro hroom
  rw [State.offer, if_pos hroom]

/-- No bit of LOG_EVENT but LOST, bit 1, is touched by a log entry (R662). -/
theorem offer_logEvent_bit {i : Nat} (hi : i < 32) (hlost : i ≠ 1) :
    (s.offer cls sub src pav d0 d1 d2 d3).bit aLOG_EVENT i = s.bit aLOG_EVENT i := by
  unfold State.offer
  dsimp only
  split
  · rfl
  · rw [evt_bit _ _ _ hi (by decide), decide_eq_false (Ne.symm hlost), Bool.or_false]
    exact bit_of_reg (bump_reg _ _ _ (by decide)) i
end

end Sys2Proof.Machine
end

section
/-! PROOFS. The stages RESET and CLOCKS, and the host port's training (R31, R33, R618–R621, R695, R696). -/

namespace Sys2Proof.Machine

/-! ## Training and the end of CLOCKS -/

/-- Whether the host port trains (R621). -/
theorem hostTrain_hif (s : State) : s.hostTrain.hif =
    if s.boot.perstN && decide (2 ≤ s.boot.stage) && linkable s.hif.rate s.hif.width
    then { s.hif with training := true, linkUp := true } else s.hif := by
  unfold State.hostTrain
  split <;> rfl

@[simp] theorem hostTrain_boot (s : State) : s.hostTrain.boot = s.boot :=
  eq_of_mask State.boot (State.hostTrain_mask s { hif := true } rfl) fun _ => rfl

section
variable {s : State}

@[simp] theorem clocksDone_tim : s.clocksDone.tim = s.tim :=
  eq_of_mask State.tim (State.clocksDone_mask s { boot := true, hif := true } rfl rfl) fun _ => rfl

@[simp] theorem clocksDone_log : s.clocksDone.log = s.log :=
  eq_of_mask State.log (State.clocksDone_mask s { boot := true, hif := true } rfl rfl) fun _ => rfl

@[simp] theorem clocksDone_reg (o : Nat) : s.clocksDone.reg o = s.reg o :=
  eq_of_mask (State.reg · o) (State.clocksDone_mask s { boot := true, hif := true } rfl rfl) fun _ => rfl

variable (hstage : s.boot.stage = 1) (herr : s.boot.error = 0)
include hstage herr

/-- In CLOCKS without an error, the stage waits for root lock and the fuses (R618). -/
theorem clocksDone_eq : s.clocksDone =
    if s.tim.lock && s.boot.fuseDone then ({ s with boot := { s.boot with stage := 2 } }).hostTrain else s := by
  simp [State.clocksDone, hstage, herr]

theorem clocksDone_boot :
    s.clocksDone.boot = { s.boot with stage := if s.tim.lock && s.boot.fuseDone then 2 else 1 } := by
  rw [clocksDone_eq hstage herr]
  split
  · exact hostTrain_boot _
  · rw [← hstage]

theorem clocksDone_hif : s.clocksDone.hif =
    if s.tim.lock && s.boot.fuseDone && s.boot.perstN && linkable s.hif.rate s.hif.width
    then { s.hif with training := true, linkUp := true } else s.hif := by
  rw [clocksDone_eq hstage herr]
  by_cases hdone : (s.tim.lock && s.boot.fuseDone) = true
  · rw [if_pos hdone, hostTrain_hif, hdone]
    simp only [Nat.le_refl, decide_true, Bool.true_and, Bool.and_true]
  · simp only [Bool.eq_false_of_not_eq_true hdone, Bool.false_and, Bool.false_eq_true, if_false]
end

/-- Fabric time starts at 0 under root lock (R46, R55). -/
def State.timeStarted (s : State) : State := { s with tim := { s.tim with lock := true, now := 0, clk := 0, slot := 0 } }

/-- Root lock in CLOCKS (R46, R55, R619). -/
theorem rootPllLock_effect {s : State} (hstage : s.boot.stage = 1) (hclk : s.tim.refclkOk = true) (hlock : s.tim.lock = false)
    (hlost : s.tim.lost = false) (herr : s.boot.error = 0) :
    Answers .rootPllLock s fun t => t.tim = { s.tim with lock := true, now := 0, clk := 0, slot := 0 } ∧
      t.boot = { s.boot with stage := if s.boot.fuseDone then 2 else 1 } ∧
      t.hif = (if s.boot.fuseDone && s.boot.perstN && linkable s.hif.rate s.hif.width
        then { s.hif with training := true, linkUp := true } else s.hif) ∧
      Only { boot := true, tim := true, hif := true } s t := by
  have hlocks : (s.boot.stage == 1 && s.tim.refclkOk && !s.tim.lock && !s.tim.lost) = true := by simp [hstage, hclk, hlock, hlost]
  have hexec : exec .rootPllLock s = .next s.timeStarted.clocksDone := congrArg Host.Outcome.next (if_pos hlocks)
  refine ⟨_, hexec, clocksDone_tim, ?_, ?_, execRootPllLock_mask s _ rfl rfl rfl _ hexec⟩
  · rw [clocksDone_boot (s := s.timeStarted) hstage herr]
    rfl
  · rw [clocksDone_hif (s := s.timeStarted) hstage herr]
    rfl

/-! ## The fuse read (R31, R33) -/

/-- The record's CRC matches, and no die has more than four disabled columns. -/
def State.fusesGood (s : State) : Bool :=
  s.fuse.crcOk && decide (maskCount s.fuse.mask0 ≤ 4) && decide (maskCount s.fuse.mask1 ≤ 4)

/-- FUSE_DONE and FUSE_OK set, and the fault's entry offered where the fuses are not good. -/
def State.fusesRead (s : State) : State :=
  let u : State := { s with boot := { s.boot with fuseDone := true, fuseOk := s.fusesGood } }
  if s.fusesGood then u
  else u.offer 0x03 (if s.fuse.crcOk then 2 else 1) dieH 0x80 (maskCount s.fuse.mask0) (maskCount s.fuse.mask1) 0 0

section
variable (s : State)

theorem exec_fuseReadDone (hstage : s.boot.stage = 1) (hdone : s.boot.fuseDone = false) :
    exec .fuseReadDone s = .next s.fusesRead.clocksDone := by
  have hreads : (s.boot.stage == 1 && !s.boot.fuseDone) = true := by simp [hstage, hdone]
  exact congrArg Host.Outcome.next (if_pos hreads)

@[simp] theorem fusesRead_boot : s.fusesRead.boot = { s.boot with fuseDone := true, fuseOk := s.fusesGood } := by
  unfold State.fusesRead
  dsimp only
  split
  · rfl
  · exact offer_boot ..

@[simp] theorem fusesRead_tim : s.fusesRead.tim = s.tim := by
  unfold State.fusesRead
  dsimp only
  split
  · rfl
  · exact offer_tim ..

/-- Reading the fuses touches the host port's pending bits at most. -/
theorem fusesRead_hif : s.fusesRead.hif = { s.hif with msixPend := s.fusesRead.hif.msixPend } := by
  unfold State.fusesRead
  dsimp only
  split
  · rfl
  · rw [offer_hif]

theorem fusesRead_reg {o : Nat} (ho : o ∉ logRegs) : s.fusesRead.reg o = s.reg o := by
  simp only [logRegs, blockRegs, List.mem_cons, List.mem_append, not_or] at ho
  obtain ⟨hdropped, hevt, hpf⟩ := ho
  unfold State.fusesRead
  dsimp only
  split
  · rfl
  · rw [offer_reg _ _ _ _ _ _ _ _ _ hdropped hevt hpf]
    rfl

theorem fusesRead_log_of_good (h : s.fusesGood = true) : s.fusesRead.log = s.log := by
  rw [State.fusesRead, if_pos h]

theorem fusesRead_logged_of_bad (h : s.fusesGood = false) :
    Logged s s.fusesRead ⟨s.edgeNs, 0, 0x03, if s.fuse.crcOk then 2 else 1, dieH, 0x80,
      maskCount s.fuse.mask0 % 2 ^ 32, maskCount s.fuse.mask1 % 2 ^ 32, 0, 0⟩ := by
  rw [State.fusesRead, if_neg (Bool.not_eq_true _ ▸ h)]
  exact offer_logged { s with boot := { s.boot with fuseDone := true, fuseOk := s.fusesGood } } _ _ _ _ _ _ _ _

theorem fusesGood_iff :
    s.fusesGood = true ↔ s.fuse.crcOk = true ∧ maskCount s.fuse.mask0 ≤ 4 ∧ maskCount s.fuse.mask1 ≤ 4 := by
  simp only [State.fusesGood, Bool.and_eq_true, decide_eq_true_eq, and_assoc]
end

/-- The end of the fuse read in CLOCKS (R31, R33, R618, R621). -/
theorem fuseReadDone_effect {s : State} (hstage : s.boot.stage = 1) (hdone : s.boot.fuseDone = false) (herr : s.boot.error = 0) :
    Answers .fuseReadDone s fun t =>
      t.boot = { s.boot with stage := if s.tim.lock then 2 else 1, fuseDone := true, fuseOk := t.boot.fuseOk } ∧
      (t.boot.fuseOk = true ↔ s.fuse.crcOk = true ∧ maskCount s.fuse.mask0 ≤ 4 ∧ maskCount s.fuse.mask1 ≤ 4) ∧
      (t.boot.fuseOk = true → t.log = s.log) ∧
      (t.boot.fuseOk = false → Logged s t ⟨s.edgeNs, 0, 0x03, if s.fuse.crcOk then 2 else 1, dieH, 0x80,
        maskCount s.fuse.mask0 % 2 ^ 32, maskCount s.fuse.mask1 % 2 ^ 32, 0, 0⟩) ∧
      (s.tim.lock = true → s.boot.perstN = true → linkable s.hif.rate s.hif.width = true →
        t.hif.training = true ∧ t.hif.linkUp = true) ∧
      Only { regs := true, boot := true, hif := true, log := true, out := true } s t ∧
      (∀ o, o ∉ logRegs → t.reg o = s.reg o) := by
  have hexec := exec_fuseReadDone s hstage hdone
  have hboot : s.fusesRead.clocksDone.boot =
      { s.boot with stage := if s.tim.lock then 2 else 1, fuseDone := true, fuseOk := s.fusesGood } := by
    rw [clocksDone_boot (by rw [fusesRead_boot, hstage]) (by rw [fusesRead_boot, herr]), fusesRead_boot, fusesRead_tim,
      Bool.and_true]
  have hok : s.fusesRead.clocksDone.boot.fuseOk = s.fusesGood := by rw [hboot]
  refine ⟨_, hexec, ?_, ?_, ?_, ?_, ?_, execFuseReadDone_mask s _ rfl rfl rfl rfl rfl _ hexec, ?_⟩
  · rw [hok, hboot]
  · rw [hok, fusesGood_iff]
  · intro hgood
    rw [clocksDone_log, fusesRead_log_of_good s (hok.symm.trans hgood)]
  · intro hbad hroom
    rw [clocksDone_log]
    exact fusesRead_logged_of_bad s (hok.symm.trans hbad) hroom
  · intro hlock hperst hlinks
    have htrains : (s.fusesRead.tim.lock && s.fusesRead.boot.fuseDone && s.fusesRead.boot.perstN
        && linkable s.fusesRead.hif.rate s.fusesRead.hif.width) = true := by
      rw [fusesRead_tim, fusesRead_boot, fusesRead_hif, hlock, hperst, hlinks]
      rfl
    rw [clocksDone_hif (by rw [fusesRead_boot, hstage]) (by rw [fusesRead_boot, herr]), if_pos htrains]
    exact ⟨rfl, rfl⟩
  · intro o ho
    rw [clocksDone_reg, fusesRead_reg s ho]

/-! ## PERST_N, the timeout and the pins -/

/-- PERST_N rises: what is negotiated is kept, and the port trains from FLASH on at a rate and width it links at (R110, R621). -/
theorem perstRelease_effect (s : State) (flit : Bool) (rate width numVf : Nat) :
    Answers (.perstRelease flit rate width numVf) s fun t =>
      let up := decide (2 ≤ s.boot.stage) && linkable rate width
      t.boot = { s.boot with perstN := true } ∧
      t.hif = { s.hif with flit := flit, rate := rate, width := width, numVf := min 63 numVf,
                           training := s.hif.training || up, linkUp := s.hif.linkUp || up } ∧
      Only { boot := true, hif := true } s t := by
  refine ⟨_, rfl, hostTrain_boot _, ?_, execPerstRelease_mask flit rate width numVf s _ rfl rfl _ rfl⟩
  rw [hostTrain_hif]
  cases hup : decide (2 ≤ s.boot.stage) && linkable rate width <;>
    simp only [hup, Bool.true_and, Bool.or_true, Bool.or_false, Bool.false_eq_true, if_true, if_false]

/-- Settles O8: each event by its own lemma; CLOCKS ends where root lock and the fuse read have both come (`clocksDone_boot`). -/
theorem bootStages : Obligations.BootStages := by
  unfold Obligations.BootStages
  intro s
  refine ⟨?release, rootPllLock_effect, ?timeout, fuseReadDone_effect, perstRelease_effect s, ?pins⟩
  case release =>
    intro refclk hvsb hstage
    exact congrArg Host.Outcome.next (if_pos (by simp [hvsb, hstage]))
  case timeout =>
    intro hstage hlock
    exact congrArg Host.Outcome.next (if_pos (by simp [hstage, hlock]))
  case pins =>
    intro hvsb hvid
    exact congrArg Host.Outcome.next (if_pos (by simp [hvsb, hvid]))

end Sys2Proof.Machine
end

section
/-! SUPPORT. What stays as it is while the ports and lanes go down (R188, R453, R660): the units and the memories, time and the sort
of its state, the fatal state, and bit FATAL of LOG_EVENT. One lemma per operation that a port's loss goes through. -/

namespace Sys2Proof.Machine

/-- The fields that a port's or lane's loss may change, but for time and the log, which it changes in part. -/
def portFields : Fields :=
  { regs := true, hif := true, subs := true, lanes := true, lrep := true, streams := true, rte := true, mgt := true, out := true }

/-- The time unit without what the loss of a source may change (R79, R86): of its state, whether it is FREERUN stays. -/
def Tim.steady (x : Tim) : Tim :=
  { x with srcs := [], facq := none, loadPend := false, state := min x.state 1, slewTot := 0, resid0 := 0, residClk := 0,
           holdUnc := 0, holdClk := 0 }

/-- What stays while ports and lanes go down. -/
def State.stays (s : State) : State × Bool :=
  ({ s.mask portFields with tim := s.tim.steady, log := { s.log with queue := [] } }, s.bit aLOG_EVENT 4)

/-- An operation on the fields of the ports that keeps LOG_EVENT. -/
theorem stays_of_mask {s t : State} (h : t.mask portFields = s.mask portFields) (hreg : t.reg aLOG_EVENT = s.reg aLOG_EVENT) :
    t.stays = s.stays := by
  have htim : t.tim = s.tim := eq_of_mask State.tim h fun _ => rfl
  have hlog : t.log = s.log := eq_of_mask State.log h fun _ => rfl
  rw [State.stays, h, htim, hlog, bit_of_reg hreg, State.stays]

/-- What can be read off what stays is the same in two states of which the same stays. -/
theorem eq_of_stays {α : Type} {s t : State} (ρ : State → α) (π : State × Bool → α) (h : t.stays = s.stays)
    (hπ : ∀ u, ρ u = π u.stays) : ρ t = ρ s := by
  rw [hπ t, h, ← hπ s]

theorem foldl_stays {α : Type} {f : State → α → State} (h : ∀ s x, (f s x).stays = s.stays) (l : List α) (s : State) :
    (l.foldl f s).stays = s.stays := by
  induction l generalizing s with
  | nil => rfl
  | cons x l ih => rw [List.foldl_cons, ih, h]

/-! ## Registers, events and the log -/

theorem setReg_stays (s : State) {o : Nat} (v : Word) (h : aLOG_EVENT ≠ o) : (s.setReg o v).stays = s.stays :=
  stays_of_mask (State.setReg_mask s o v portFields rfl) (reg_setReg_ne s v h)

theorem bump_stays (s : State) {o : Nat} (n : Nat) (h : aLOG_EVENT ≠ o) : (s.bump o n).stays = s.stays := setReg_stays s _ h

theorem evt_stays (s : State) (blk : Nat) {ev bit : Nat} (hb : bit < 8) (h : aLOG_EVENT ∉ evtRegs ev) :
    (s.evt blk ev bit).stays = s.stays :=
  stays_of_mask (State.evt_mask s blk ev bit portFields rfl rfl rfl) (evt_reg s blk ev bit hb h (by decide))

theorem hazard_stays (s : State) {bit : Nat} (hb : bit < 8) : (s.hazard bit).stays = s.stays := by
  refine stays_of_mask (State.hazard_mask s bit portFields rfl rfl rfl) ?_
  unfold State.hazard
  dsimp only
  split
  · exact setW1c_reg _ _ _ _ hb (by decide)
  · rw [evt_reg _ _ _ _ (by decide) (by decide) (by decide), setW1c_reg _ _ _ _ hb (by decide)]

theorem offer_stays (s : State) (cls sub src pav d0 d1 d2 d3 : Nat) : (s.offer cls sub src pav d0 d1 d2 d3).stays = s.stays := by
  have hmask : (s.offer cls sub src pav d0 d1 d2 d3).mask { portFields with log := true } =
      s.mask { portFields with log := true } := State.offer_mask s cls sub src pav d0 d1 d2 d3 _ rfl rfl rfl rfl
  refine Prod.ext ?_ (offer_logEvent_bit s cls sub src pav d0 d1 d2 d3 (by decide) (by decide))
  change ({ (s.offer cls sub src pav d0 d1 d2 d3).mask { portFields with log := true } with
    tim := (s.offer cls sub src pav d0 d1 d2 d3).tim.steady
    log := { (s.offer cls sub src pav d0 d1 d2 d3).log with queue := [] } } : State) = _
  rw [hmask, offer_tim, offer_log]
  rfl

/-! ## The packet path -/

@[simp] theorem setEgr_stays (s : State) (e : Nat) (x : Egress) : (s.setEgr e x).stays = s.stays := rfl

theorem freeBuf_stays (s : State) (die k o h : Nat) : (s.freeBuf die k o h).stays = s.stays := by
  unfold State.freeBuf
  split
  · have hdup : aLOG_EVENT ≠ aBPM_DOUBLE_FREE die := by unfold aLOG_EVENT aBPM_DOUBLE_FREE; omega
    have hevt : aLOG_EVENT ∉ evtRegs (aBPM_EVENT die) := by simp [evtRegs, aLOG_EVENT, aBPM_EVENT]; omega
    rw [State.bpmFault, offer_stays, State.bpmEvt, evt_stays _ _ (by decide) hevt, bump_stays _ _ hdup]
  · rfl

@[simp] theorem release_stays (s : State) (h : Held) : (s.release h).stays = s.stays := by
  have hfree : (s.freeHeld h).stays = s.stays := foldl_stays (fun s i => freeBuf_stays s _ _ _ i) _ _
  unfold State.release State.returnCredit
  dsimp only
  split
  · split
    · exact hfree
    · exact hfree
  · exact hfree

@[simp] theorem drop_stays (s : State) (code ingress : Nat) (p : Pkt) : (s.drop code ingress p).stays = s.stays := by
  have hcount : aLOG_EVENT ≠ aRTE_DROP (code - 1) := by unfold aLOG_EVENT aRTE_DROP; omega
  simp (disch := decide) only [State.drop, apply_ite State.stays, evt_stays, setReg_stays, bump_stays _ _ hcount, ite_self]

@[simp] theorem schedDrop_stays (s : State) (code ingress : Nat) (p : Pkt) : (s.schedDrop code ingress p).stays = s.stays := by
  rw [State.schedDrop, hazard_stays _ (by decide), drop_stays]

@[simp] theorem schedNotUp_stays (s : State) (p : Staged) : (s.schedNotUp p).stays = s.stays := by
  unfold State.schedNotUp
  split
  · have hcount : aLOG_EVENT ≠ aSCHED_DROP (p.egr / 8) (p.egr % 8) := by unfold aLOG_EVENT aSCHED_DROP; omega
    rw [hazard_stays _ (by decide), bump_stays _ _ hcount]
  · exact schedDrop_stays ..

@[simp] theorem loseSending_stays (s : State) (e : Nat) : (s.loseSending e).stays = s.stays := by
  unfold State.loseSending
  split
  · rfl
  next x _ _ =>
    cases x with
    | queued q h => dsimp only; split <;> simp
    | resent c => dsimp only; split <;> simp
    | sched p => simp
    | link p => simp
    | mac => simp

theorem egressLost_stays (s : State) (e : Nat) : (s.egressLost e).stays = s.stays := by
  have hback : ∀ u : State, (u.reselectAll e).stays = u.stays := fun _ => rfl
  simp only [State.egressLost, hback, foldl_stays schedNotUp_stays, setEgr_stays, loseSending_stays]

/-! ## Replay, streams and time -/

theorem replayFlush_stays (s : State) (l : Nat) : (s.replayFlush l).stays = s.stays := by
  have hunacked : aLOG_EVENT ≠ aRPL_UNACKED l := by unfold aLOG_EVENT aRPL_UNACKED; omega
  have hevicted : aLOG_EVENT ≠ aRPL_EVICTED l := by unfold aLOG_EVENT aRPL_EVICTED; omega
  have hlr : (s.setLr l lrepInit).stays = s.stays := rfl
  unfold State.replayFlush State.setUnacked
  dsimp only
  rw [setReg_stays _ _ hunacked]
  split
  · exact hlr
  · rw [bump_stays _ _ hevicted, hlr]

theorem streamsDown_stays (s : State) (l : Nat) : (s.streamsDown l).stays = s.stays := rfl

theorem setSrcUp_stays (s : State) (i : Nat) (b : Bool) : (s.setSrcUp i b).stays = s.stays := by
  unfold State.setSrcUp
  dsimp only
  split
  · rfl
  · split
    · split <;> rfl
    · rfl

/-- HOLDOVER is entered from LOCKED, which is no FREERUN either. -/
theorem noSource_stays (s : State) : s.noSource.stays = s.stays := by
  unfold State.noSource
  split
  next h =>
    unfold State.toHoldover State.logTime
    dsimp only
    rw [offer_stays, State.timEvt, evt_stays _ _ (by decide) (by decide)]
    simp only [State.stays, Tim.steady, State.settleSlew, h.1]
    rfl
  next => rfl

theorem linkLost_stays (s : State) (p k : Nat) : (s.linkLost p k).stays = s.stays := by
  unfold State.linkLost
  dsimp only
  split
  · rw [noSource_stays, setSrcUp_stays, streamsDown_stays, replayFlush_stays, egressLost_stays]
  · exact egressLost_stays ..

/-! ## Every port and every lane -/

theorem portsIdle_stays (s : State) : s.portsIdle.stays = s.stays := by
  have hsub : ∀ (u : State) (p k : Nat), ((u.linkLost p k).enter p k 1).stays = u.stays := fun u p k => linkLost_stays u p k
  refine foldl_stays (fun u p => ?_) _ _
  split
  · exact foldl_stays (fun v k => hsub v p k) _ _
  · rfl

theorem relayClose_stays (s : State) (lane : Nat) : (s.relayClose lane).stays = s.stays := by
  unfold State.relayClose State.relayEnd
  dsimp only
  split
  · split <;> rfl
  · rfl

theorem stcIdle_stays (s : State) : s.stcIdle.stays = s.stays := by
  refine foldl_stays (fun u n => ?_) _ _
  dsimp only
  rw [relayClose_stays, setSrcUp_stays]
  rfl

end Sys2Proof.Machine
end

section
/-! PROOFS. The fatal state (R51, R659, R660): what its first cause stops, and what every cause leaves. -/

namespace Sys2Proof.Machine

/-! ## The memories -/

/-- What a memory holds now depends on the bytes that have landed, the writes on their way and the time. -/
theorem due_mem (s : State) : s.due.mem =
    (s.writes.filter fun w => decide (w.at_ ≤ s.tim.now)).foldl (fun m w => memWrite m w.key w.bytes) s.mem := by
  have hland : ∀ (ws : List Write) (u : State),
      (ws.foldl State.land u).mem = ws.foldl (fun m w => memWrite m w.key w.bytes) u.mem := by
    intro ws
    induction ws with
    | nil => intro u; rfl
    | cons w ws ih => intro u; rw [List.foldl_cons, List.foldl_cons, ih]; rfl
  unfold State.due
  split
  next hnone => rw [List.isEmpty_iff.mp hnone]; rfl
  next => rw [hland]

/-- Two states with the same memories, writes on their way and time read the same. -/
theorem rd_congr {s t : State} (hmem : t.mem = s.mem) (hwrites : t.writes = s.writes) (hnow : t.tim.now = s.tim.now) (a n : Nat) :
    t.rd a n = s.rd a n := by
  rw [State.rd, due_mem, hmem, hwrites, hnow, State.rd, due_mem]

/-- Where the writes that have ended have landed and the rest are lost, the bytes read are those read before. -/
theorem rd_of_due {s t : State} (hmem : t.mem = s.due.mem) (hwrites : t.writes = []) (a n : Nat) : t.rd a n = s.rd a n := by
  rw [State.rd, due_mem, hmem, hwrites, State.rd]
  rfl

/-! ## The units held in reset (R51) -/

section
variable (s : State)

/-- The writes that land touch nothing but the memories. -/
theorem due_only : Only { mem := true, poison := true } s s.due := State.due_mask s _ rfl rfl

theorem unitsHeld_tim : s.unitsHeld.tim = s.tim := (eq_of_mask State.tim (due_only s) fun _ => rfl :)

theorem unitsHeld_log : s.unitsHeld.log = s.log := (eq_of_mask State.log (due_only s) fun _ => rfl :)

theorem unitsHeld_reg (o : Nat) : s.unitsHeld.reg o = s.reg o := (eq_of_mask (State.reg · o) (due_only s) fun _ => rfl :)
end

/-! ## A fatal cause -/

/-- The first cause stops the units, then the ports, the lanes and the time source (R51, R660). -/
def State.halted (s : State) : State := s.unitsHeld.portsIdle.stcIdle.noSource

/-- The fatal state noted, with LOG_EVENT and the log's entry (R660). -/
def State.fatalNoted (s : State) (code d0 d1 : Nat) : State :=
  let cause := if !s.log.fatal then code else min s.log.cause code
  (({ s with log := { s.log with fatal := true, cause := cause } }).evt 6 aLOG_EVENT 4).offer 0x0F code dieH 0x80 d0 d1 0 0

section
variable (s : State) (code d0 d1 : Nat)

theorem fatalEnter_eq : s.fatalEnter code d0 d1 =
    if !s.log.fatal then (s.fatalNoted code d0 d1).halted else s.fatalNoted code d0 d1 := rfl

theorem halted_stays : s.halted.stays = s.unitsHeld.stays := by
  rw [State.halted, noSource_stays, stcIdle_stays, portsIdle_stays]

theorem halted_tim : s.halted.tim.steady = s.tim.steady := by
  rw [eq_of_stays (·.tim.steady) (·.1.tim) (halted_stays s) fun _ => rfl, unitsHeld_tim]

theorem halted_fatal : s.halted.log.fatal = s.log.fatal := by
  rw [eq_of_stays (·.log.fatal) (·.1.log.fatal) (halted_stays s) fun _ => rfl, unitsHeld_log]

theorem halted_cause : s.halted.log.cause = s.log.cause := by
  rw [eq_of_stays (·.log.cause) (·.1.log.cause) (halted_stays s) fun _ => rfl, unitsHeld_log]

theorem halted_bit : s.halted.bit aLOG_EVENT 4 = s.bit aLOG_EVENT 4 := by
  rw [eq_of_stays (State.bit · aLOG_EVENT 4) Prod.snd (halted_stays s) fun _ => rfl, bit_of_reg (unitsHeld_reg s _)]

/-- The memories after the halt: the writes that have ended have landed, and those on their way are lost (R51). -/
theorem halted_rd (a n : Nat) : s.halted.rd a n = s.rd a n :=
  rd_of_due (eq_of_stays State.mem (·.1.mem) (halted_stays s) fun _ => rfl :)
    (eq_of_stays State.writes (·.1.writes) (halted_stays s) fun _ => rfl :) a n

/-- What the halt leaves is in the fatal state as noted, be the cause the first or not. -/
theorem fatalEnter_field {α : Type} (π : State → α) (h : ∀ u : State, π u.halted = π u) :
    π (s.fatalEnter code d0 d1) = π (s.fatalNoted code d0 d1) := by
  rw [fatalEnter_eq]
  split
  · exact h _
  · rfl

@[simp] theorem fatalNoted_tim : (s.fatalNoted code d0 d1).tim = s.tim := by
  rw [State.fatalNoted, offer_tim, evt_tim]

theorem fatalNoted_log : (s.fatalNoted code d0 d1).log =
    { s.log with fatal := true, cause := if !s.log.fatal then code else min s.log.cause code
                 queue := (s.fatalNoted code d0 d1).log.queue } := by
  rw [State.fatalNoted, offer_log, evt_log]

theorem fatalNoted_bit : (s.fatalNoted code d0 d1).bit aLOG_EVENT 4 = true := by
  rw [State.fatalNoted, offer_logEvent_bit _ _ _ _ _ _ _ _ _ (by decide) (by decide), evt_bit _ _ _ (by decide) (by decide)]
  simp

/-- What is neither registers, host port, log nor output is not touched by noting the fatal state. -/
theorem fatalNoted_mask (G : Fields) (hregs : G.regs) (hhif : G.hif) (hlog : G.log) (hout : G.out) :
    (s.fatalNoted code d0 d1).mask G = s.mask G := by
  rw [State.fatalNoted, State.offer_mask _ _ _ _ _ _ _ _ _ G hregs hhif hlog hout, State.evt_mask _ _ _ _ G hregs hhif hout,
    mask_log hlog]

theorem fatalNoted_rd (a n : Nat) : (s.fatalNoted code d0 d1).rd a n = s.rd a n := by
  have h := fatalNoted_mask s code d0 d1 { regs := true, hif := true, log := true, out := true } rfl rfl rfl rfl
  exact rd_congr (eq_of_mask State.mem h fun _ => rfl) (eq_of_mask State.writes h fun _ => rfl) (by rw [fatalNoted_tim]) a n

/-- Time goes on as it was, in FREERUN or not in FREERUN. -/
theorem fatalEnter_tim : (s.fatalEnter code d0 d1).tim.steady = s.tim.steady := by
  rw [fatalEnter_field s code d0 d1 (·.tim.steady) halted_tim, fatalNoted_tim]

theorem fatalEnter_fatal : (s.fatalEnter code d0 d1).log.fatal = true := by
  rw [fatalEnter_field s code d0 d1 (·.log.fatal) halted_fatal, fatalNoted_log]

/-- Of the causes that have struck the lowest is kept (R660). -/
theorem fatalEnter_cause : (s.fatalEnter code d0 d1).log.cause = if !s.log.fatal then code else min s.log.cause code := by
  rw [fatalEnter_field s code d0 d1 (·.log.cause) halted_cause, fatalNoted_log]

theorem fatalEnter_bit : (s.fatalEnter code d0 d1).bit aLOG_EVENT 4 = true := by
  rw [fatalEnter_field s code d0 d1 (State.bit · aLOG_EVENT 4) halted_bit, fatalNoted_bit]

/-- No byte of a memory changes (R51). -/
theorem fatalEnter_rd (a n : Nat) : (s.fatalEnter code d0 d1).rd a n = s.rd a n := by
  rw [fatalEnter_field s code d0 d1 (State.rd · a n) (halted_rd · a n), fatalNoted_rd]
end

/-- Cells, matrix units, tokens and bandstands after the first fatal cause (R51, R660). -/
def State.UnitsStopped (s : State) : Prop :=
  s.cells = [] ∧ s.cel.runs = [] ∧ s.mxu = [] ∧ s.tokens = [] ∧ s.sched.q0 = [] ∧ s.sched.q1 = []

theorem halted_unitsStopped (s : State) : s.halted.UnitsStopped := by
  have h := halted_stays s
  exact ⟨eq_of_stays State.cells (·.1.cells) h fun _ => rfl, eq_of_stays (·.cel.runs) (·.1.cel.runs) h fun _ => rfl,
    eq_of_stays State.mxu (·.1.mxu) h fun _ => rfl, eq_of_stays State.tokens (·.1.tokens) h fun _ => rfl,
    eq_of_stays (·.sched.q0) (·.1.sched.q0) h fun _ => rfl, eq_of_stays (·.sched.q1) (·.1.sched.q1) h fun _ => rfl⟩

/-- The fields that entering the fatal state may change. -/
def fatalFields : Fields :=
  { regs := true, tim := true, hif := true, log := true, subs := true, lanes := true, lrep := true, streams := true,
    rte := true, sched := true, cells := true, cel := true, mxu := true, tokens := true, mem := true, poison := true,
    mgt := true, out := true }

/-- Between `s` and `t` a fatal cause of code `code` has struck (R51, R659, R660). -/
def Stopped (s t : State) (code : Nat) : Prop :=
  t.log.fatal = true ∧ t.running = false ∧ t.log.cause = (if s.log.fatal then min s.log.cause code else code) ∧
  t.bit aLOG_EVENT 4 = true ∧ (s.log.fatal = false → t.UnitsStopped) ∧ (∀ a, t.rd a 1 = s.rd a 1) ∧ Only fatalFields s t

theorem fatalEnter_stopped (s : State) (code d0 d1 : Nat) : Stopped s (s.fatalEnter code d0 d1) code := by
  refine ⟨fatalEnter_fatal .., ?_, ?_, fatalEnter_bit .., ?_, fun a => fatalEnter_rd s code d0 d1 a 1,
    State.fatalEnter_mask s code d0 d1 fatalFields rfl rfl rfl rfl rfl rfl rfl rfl rfl rfl rfl rfl rfl rfl rfl rfl rfl rfl⟩
  · rw [State.running, fatalEnter_fatal, Bool.not_true, Bool.and_false]
  · rw [fatalEnter_cause]
    cases s.log.fatal <;> rfl
  · intro hfirst
    rw [fatalEnter_eq, if_pos (by rw [hfirst]; rfl)]
    exact halted_unitsStopped _

/-- A cause that strikes after a step which leaves the memories, their time and the fatal state. -/
theorem Stopped.after {s u t : State} {code : Nat} (h : Stopped u t code) (honly : Only fatalFields s u) (hmem : u.mem = s.mem)
    (hwrites : u.writes = s.writes) (hnow : u.tim.now = s.tim.now) (hfatal : u.log.fatal = s.log.fatal)
    (hcause : u.log.cause = s.log.cause) : Stopped s t code := by
  obtain ⟨htfatal, hrun, htcause, hbit, hunits, hrd, htonly⟩ := h
  rw [hfatal] at hunits
  rw [hfatal, hcause] at htcause
  exact ⟨htfatal, hrun, htcause, hbit, hunits, fun a => (hrd a).trans (rd_congr hmem hwrites hnow a 1), Eq.trans htonly honly⟩

/-- What a cycle's record holds is no part of it. -/
theorem Stopped.recent {s t : State} {code : Nat} (h : Stopped s t code) (r : Recent) : Stopped s { t with recent := r } code := by
  obtain ⟨hfatal, hrun, hcause, hbit, hunits, hrd, honly⟩ := h
  exact ⟨hfatal, hrun, hcause, hbit, hunits, fun a => hrd a ▸ rd_congr (s := t) (t := { t with recent := r }) rfl rfl rfl a 1,
    (mask_recent rfl t r).trans honly⟩

theorem oneCycle_stopped {f : State → State} {code : Nat} (hf : ∀ u, Stopped u (f u) code) (s : State) :
    Stopped s (s.oneCycle f) code := by
  unfold State.oneCycle
  split
  · exact hf s
  · exact ((hf { s with recent := ⟨openCycle, [], [], []⟩ }).after (mask_recent rfl s _) rfl rfl rfl rfl rfl).recent s.recent

/-- A log entry comes first. -/
theorem Stopped.after_offer {s t : State} {cls sub src pav d0 d1 d2 d3 code : Nat}
    (h : Stopped (s.offer cls sub src pav d0 d1 d2 d3) t code) : Stopped s t code := by
  have hmask : (s.offer cls sub src pav d0 d1 d2 d3).mask { regs := true, hif := true, log := true, out := true } =
      s.mask { regs := true, hif := true, log := true, out := true } := State.offer_mask s _ _ _ _ _ _ _ _ _ rfl rfl rfl rfl
  refine h.after (State.offer_mask s _ _ _ _ _ _ _ _ _ rfl rfl rfl rfl) (eq_of_mask State.mem hmask fun _ => rfl)
    (eq_of_mask State.writes hmask fun _ => rfl) (by rw [offer_tim]) ?_ ?_ <;> rw [offer_log]

end Sys2Proof.Machine
end

section
/-! PROOFS. Loss of the root clock, package links and uncorrectable words (R26, R51, R524, R657–R660, R711). -/

namespace Sys2Proof.Machine

/-! ## Root lock (R51, R711) -/

/-- Fabric time at its value in FREERUN with WITHHOLD 1, for good (R51). -/
def TimeHeld (s t : State) : Prop :=
  t.tim.lock = false ∧ t.tim.lost = true ∧ t.tim.state = 0 ∧ t.tim.withhold = true ∧ t.tim.sel = 63 ∧
  t.tim.ppsOut = false ∧ t.tim.now = s.tim.now

/-- The time unit that has lost root lock (R51). -/
def Tim.unlocked (x : Tim) : Tim :=
  { x with lock := false, lost := true, state := 0, rootMode := false, sel := 63, advHops := 31, withhold := true, held := true,
           facq := none, loadPend := false, ppsOut := false }

/-- PPS_OUT falls with the lock. -/
def State.unlocked (s : State) : State :=
  let u : State := { s with tim := s.tim.unlocked }
  if s.tim.ppsOut then u.emit (.pin .ppsOut 0) else u

/-- The entry of the lost lock and the fatal cause that follows it. -/
def State.lockFatal (s : State) : State := (s.offer 0x04 1 dieH 0x80 (s.peek aCLK_STATUS).toNat 0 0 0).fatalEnter 1 0 0

section
variable (s : State)

theorem lockLost_eq : s.lockLost = s.unlocked.oneCycle State.lockFatal := rfl

theorem unlocked_tim : s.unlocked.tim = s.tim.unlocked := by
  unfold State.unlocked
  dsimp only
  split <;> rfl

theorem unlocked_mask {G : Fields} (htim : G.tim) (hout : G.out) : s.unlocked.mask G = s.mask G := by
  simp only [State.unlocked, ite_mask, State.emit_mask _ _ _ hout, mask_tim htim, ite_self]

theorem lockFatal_tim : s.lockFatal.tim.steady = s.tim.steady := by
  rw [State.lockFatal, fatalEnter_tim, offer_tim]

theorem lockFatal_stopped : Stopped s s.lockFatal 1 := (fatalEnter_stopped _ 1 0 0).after_offer

/-- The fatal state keeps FREERUN, and what else the loss of lock has set. -/
theorem lockLost_tim : s.lockLost.tim.steady = s.tim.unlocked.steady := by
  rw [lockLost_eq, ← unlocked_tim]
  unfold State.oneCycle
  split
  · exact lockFatal_tim _
  · exact lockFatal_tim _

theorem lockLost_held : TimeHeld s s.lockLost := by
  have h := lockLost_tim s
  have hstate : min s.lockLost.tim.state 1 = 0 := congrArg Tim.state h
  exact ⟨(congrArg Tim.lock h :), (congrArg Tim.lost h :), by omega, (congrArg Tim.withhold h :), (congrArg Tim.sel h :),
    (congrArg Tim.ppsOut h :), (congrArg Tim.now h :)⟩

theorem lockLost_refclkOk : s.lockLost.tim.refclkOk = s.tim.refclkOk := (congrArg Tim.refclkOk (lockLost_tim s) :)

theorem lockLost_stopped : Stopped s s.lockLost 1 := by
  have hmask : s.unlocked.mask { tim := true, out := true } = s.mask { tim := true, out := true } := unlocked_mask s rfl rfl
  have hlog : s.unlocked.log = s.log := eq_of_mask State.log hmask fun _ => rfl
  rw [lockLost_eq]
  refine (oneCycle_stopped lockFatal_stopped s.unlocked).after (unlocked_mask s rfl rfl) (eq_of_mask State.mem hmask fun _ => rfl)
    (eq_of_mask State.writes hmask fun _ => rfl) ?_ ?_ ?_
  · rw [unlocked_tim]; rfl
  · rw [hlog]
  · rw [hlog]
end

/-- REFCLK has gone. -/
def State.refclkGone (s : State) : State := { s with tim := { s.tim with refclkOk := false } }

/-- REFCLK has gone while the root was locked: its entry is offered (R711). -/
def State.refclkLogged (s : State) : State :=
  s.refclkGone.offer 0x04 2 dieH 0x80 ((s.refclkGone.peek aCLK_STATUS).toNat / 2 * 2) 0 0 0

theorem refclkLogged_tim (s : State) : s.refclkLogged.tim = s.refclkGone.tim := offer_tim ..

/-- While the root is locked, the loss of REFCLK is the loss of its lock (R711). -/
theorem refclkLoss_effect {s : State} (hlock : s.tim.lock = true) :
    Answers .refclkLoss s fun t => TimeHeld s t ∧ Stopped s t 1 ∧ t.tim.refclkOk = false := by
  have hexec : exec .refclkLoss s = .next s.refclkLogged.lockLost := congrArg Host.Outcome.next (if_pos hlock)
  have hstopped : Stopped s.refclkGone s.refclkLogged.lockLost 1 := (lockLost_stopped s.refclkLogged).after_offer
  refine ⟨_, hexec, ?_, hstopped.after (mask_tim rfl s _) rfl rfl rfl rfl rfl, ?_⟩
  · obtain ⟨hunlocked, hlost, hstate, hhold, hsel, hpps, hnow⟩ := lockLost_held s.refclkLogged
    exact ⟨hunlocked, hlost, hstate, hhold, hsel, hpps, by rw [hnow, refclkLogged_tim]; rfl⟩
  · rw [lockLost_refclkOk, refclkLogged_tim]
    rfl

/-! ## Package links (R26, R524, R659) -/

/-- The retries of one link have gone up by one. -/
def Retried (link : Nat) (s t : State) : Prop := t.log = { s.log with retries := t.log.retries } ∧
  ∀ l, tblGet (fun _ => 0) t.log.retries l = tblGet (fun _ => 0) s.log.retries l + if l = link then 1 else 0

theorem countRetry_retried (s : State) (link : Nat) : Retried link s (s.countRetry link) := by
  refine ⟨rfl, fun l => ?_⟩
  change tblGet _ (tblSet _ _ _) l = _
  split
  next h => rw [h, tblGet_tblSet_same]
  next h => rw [tblGet_tblSet_ne _ _ _ h, Nat.add_zero]

@[simp] theorem hazard_log (s : State) (bit : Nat) : (s.hazard bit).log = s.log :=
  eq_of_mask State.log (State.hazard_mask s bit { regs := true, hif := true, out := true } rfl rfl rfl) fun _ => rfl

/-- A hazard's bit of DET_HAZARD is 1 once it has been set (R524). -/
theorem hazard_bit (s : State) {bit : Nat} (hb : bit < 32) : (s.hazard bit).bit aDET_HAZARD bit = true := by
  have hset : (s.setW1c aDET_HAZARD bit 0).bit aDET_HAZARD bit = true := by
    change ((s.setW1c aDET_HAZARD bit 0).reg aDET_HAZARD).getLsbD bit = true
    rw [setW1c_reg_same, BitVec.getLsbD_or, ofNat32_getLsbD _ hb, bitOf, Nat.testBit_two_pow_self, Bool.or_true]
  unfold State.hazard
  dsimp only
  split
  · exact hset
  · rw [bit_of_reg (evt_reg _ _ _ _ (by decide) (by decide) (by decide)), hset]

/-- A hazard writes DET_HAZARD and the registers of its event (R524). -/
theorem hazard_keepsRegs (s : State) (bit : Nat) : KeepsRegs (aDET_HAZARD :: blockRegs aDET_EVENT) s (s.hazard bit) := by
  intro o ho
  simp only [blockRegs, List.mem_cons, List.mem_append, not_or] at ho
  obtain ⟨hhaz, hevt, hpf⟩ := ho
  unfold State.hazard
  dsimp only
  split
  · exact setW1c_reg_of_uncounted _ _ _ hhaz
  · rw [evt_reg _ _ _ _ (by decide) hevt hpf, setW1c_reg_of_uncounted _ _ _ hhaz]

theorem pkgLinkRetry_sched_effect (s : State) (link : Nat) :
    Answers (.pkgLinkRetry link true) s fun t => Retried link s t ∧ t.bit aDET_HAZARD 0 = true ∧
      Only { regs := true, hif := true, log := true, out := true } s t ∧ KeepsRegs (aDET_HAZARD :: blockRegs aDET_EVENT) s t := by
  refine ⟨(s.countRetry link).hazard 0, rfl, ?_, hazard_bit _ (by decide), ?_, hazard_keepsRegs _ _⟩
  · rw [Retried, hazard_log]
    exact countRetry_retried s link
  · exact execPkgLinkRetry_mask link true s _ rfl rfl rfl rfl _ rfl

/-! ## Uncorrectable words (R657, R658) -/

theorem notValid_valid (x : Nat) : bitOf (notValid x) 31 = false := by
  unfold notValid bitOf
  split
  next h =>
    have hge : 2 ^ 31 ≤ x := Nat.ge_two_pow_of_testBit h
    obtain ⟨y, rfl⟩ := Nat.exists_eq_add_of_le hge
    rw [Nat.testBit_two_pow_add_eq] at h
    simpa using h
  next h => simpa using h

theorem notValid_rest (x : Nat) : bitsOf (notValid x) 30 0 = bitsOf x 30 0 := by
  unfold notValid bitsOf bitOf
  split
  next h =>
    have hge : 2 ^ 31 ≤ x := Nat.ge_two_pow_of_testBit h
    simp only [Nat.shiftRight_zero]
    omega
  next => rfl

/-- A route entry reads what was written to it. -/
theorem rteGet_rteSet (s : State) {t : Nat} (ht : t < 4) (i v : Nat) : (s.rteSet t i v).rteGet t i = v := by
  obtain rfl | rfl | rfl | rfl : t = 0 ∨ t = 1 ∨ t = 2 ∨ t = 3 := by omega
  all_goals exact tblGet_tblSet_same _ _ _ _

theorem eccRoute_rteGet (s : State) {i : Nat} (hi : i / 65536 < 4) :
    (s.eccRoute i).rteGet (i / 65536) (i % 65536) = notValid (s.rteGet (i / 65536) (i % 65536)) := by
  unfold State.eccRoute
  dsimp only
  rw [if_pos hi, rteGet_rteSet s hi]

section
variable (s : State) (sub die index addrDie : Nat)

@[simp] theorem tblFault_rte : (s.tblFault sub die index addrDie).rte = s.rte := by
  rw [State.tblFault, offer_rte, evt_rte]; rfl

/-- An uncorrectable word is counted (R657). -/
theorem tblFault_counted : Counted s (s.tblFault sub die index addrDie) aLOG_TBL_UNCORR 1 := by
  rw [Counted, State.tblFault, offer_reg _ _ _ _ _ _ _ _ _ (by decide) (by decide) (by decide),
    evt_reg _ _ _ _ (by decide) (by decide) (by decide), bump_same]
end

/-- An uncorrectable word's count, event and entry come first. -/
theorem Stopped.after_tblFault {s t : State} {sub die index addrDie code : Nat}
    (h : Stopped (s.tblFault sub die index addrDie) t code) : Stopped s t code := by
  have hmask : ((s.bump aLOG_TBL_UNCORR 1).evt 6 aLOG_EVENT 5).mask { regs := true, hif := true, out := true } =
      s.mask { regs := true, hif := true, out := true } := by
    rw [State.evt_mask _ _ _ _ _ rfl rfl rfl, State.bump_mask _ _ _ _ rfl]
  have honly : Only fatalFields s ((s.bump aLOG_TBL_UNCORR 1).evt 6 aLOG_EVENT 5) := by
    rw [Only, State.evt_mask _ _ _ _ _ rfl rfl rfl, State.bump_mask _ _ _ _ rfl]
  refine (Stopped.after_offer h).after honly (eq_of_mask State.mem hmask fun _ => rfl)
    (eq_of_mask State.writes hmask fun _ => rfl) ?_ ?_ ?_
  · rw [evt_tim]; rfl
  · rw [evt_log]; rfl
  · rw [evt_log]; rfl

theorem tableEccFault_route_effect (s : State) (i die : Nat) :
    Answers (.tableEccFault 1 i die) s fun t =>
      (i / 65536 < 4 → bitOf (t.rteGet (i / 65536) (i % 65536)) 31 = false ∧
        bitsOf (t.rteGet (i / 65536) (i % 65536)) 30 0 = bitsOf (s.rteGet (i / 65536) (i % 65536)) 30 0) ∧
      Counted s t aLOG_TBL_UNCORR 1 ∧ Only { regs := true, hif := true, log := true, rte := true, out := true } s t := by
  refine ⟨(s.tblFault 1 die i die).eccRoute i, rfl, fun hi => ?_, ?_, ?_⟩
  · have hget : (s.tblFault 1 die i die).rteGet (i / 65536) (i % 65536) = s.rteGet (i / 65536) (i % 65536) := by
      rw [State.rteGet, tblFault_rte, State.rteGet]
    rw [eccRoute_rteGet _ hi, hget]
    exact ⟨notValid_valid _, notValid_rest _⟩
  · have hreg : ∀ u : State, (u.eccRoute i).reg aLOG_TBL_UNCORR = u.reg aLOG_TBL_UNCORR := fun u =>
      eq_of_mask (State.reg · aLOG_TBL_UNCORR) (State.eccRoute_mask u i { rte := true } rfl) fun _ => rfl
    rw [Counted, hreg]
    exact tblFault_counted ..
  · rw [Only, State.eccRoute_mask _ _ _ rfl, State.tblFault_mask _ _ _ _ _ _ rfl rfl rfl rfl]

/-- Settles O12: every fatal cause goes through `fatalEnter_stopped`, whatever it logs before it. -/
theorem packageFaults : Obligations.PackageFaults := by
  unfold Obligations.PackageFaults
  intro s
  refine ⟨?rootLoss, ?rootIdle, refclkLoss_effect, ?refclkIdle, ?noRelock, ?linkFail, ?retry, pkgLinkRetry_sched_effect s,
    tableEccFault_route_effect s, fun _ _ => rfl, ?stores, ?corrected⟩
  case rootLoss =>
    intro hlock
    exact ⟨s.lockLost, congrArg Host.Outcome.next (if_pos hlock), lockLost_held s, lockLost_stopped s, lockLost_refclkOk s⟩
  case rootIdle =>
    intro hlock
    exact congrArg Host.Outcome.next (if_neg (by rw [hlock]; decide))
  case refclkIdle =>
    intro hlock
    exact congrArg Host.Outcome.next (if_neg (by simp [hlock]))
  case noRelock =>
    intro hlost
    exact congrArg Host.Outcome.next (if_neg (by simp [hlost]))
  case linkFail =>
    intro link pair
    have htim := fatalEnter_tim s 2 link pair
    exact ⟨_, rfl, fatalEnter_stopped s 2 link pair, (congrArg Tim.lock htim :), (congrArg Tim.now htim :)⟩
  case retry => exact fun link => ⟨_, rfl, countRetry_retried s link, State.countRetry_mask s link _ rfl⟩
  case stores =>
    rintro i die k (rfl | rfl)
    · exact ⟨_, rfl, (fatalEnter_stopped _ 3 0 0).after_tblFault⟩
    · exact ⟨_, rfl, (fatalEnter_stopped _ 3 0 0).after_tblFault⟩
  case corrected =>
    intro i die k hlo hhi
    have hexec : exec (.tableEccFault k i die) s = .next (s.bump aLOG_TBL_CORR 1) := by
      change execTableEccFault k i die s = _
      rw [execTableEccFault, if_neg (by omega), if_neg (by omega), if_neg (by omega), if_pos ⟨hlo, hhi⟩]
    exact ⟨_, hexec, bump_same _ _ _, State.bump_mask _ _ _ _ rfl,
      fun o ho => bump_reg _ _ _ (List.ne_of_not_mem_cons ho)⟩

end Sys2Proof.Machine
end

section
/-! PROOFS. What the state holds in cold reset (R55, R616, R618, R645, R726). -/

namespace Sys2Proof.Machine

/-- Settles O2: each unit of the reset state is written out, a table that lists nothing answers its entry's reset value, and a
register that no write has reached answers its Reset column. Empty memories, the values without a Reset column and the moment of the
reset are the model's choices (logs 3, 4, 5, 7). -/
theorem resetState : Obligations.ResetState := by
  unfold Obligations.ResetState
  refine ⟨rfl, rfl, rfl, rfl, rfl, rfl, rfl, rfl, rfl, rfl, rfl, rfl, rfl, rfl, rfl, rfl, rfl, rfl, rfl,
    fun port sub => ?subPort, fun i => ?stream, fun o => ?register, rfl, rfl⟩
  case subPort => rfl
  case stream => rfl
  case register => rfl

end Sys2Proof.Machine
end

section
/-! SUPPORT. The servo of the time unit (R79–R89, R96): what choosing, following and losing a source leaves of the time unit, and
which registers it may write. One lemma per operation of the servo. -/

namespace Sys2Proof.Machine

/-! ## Registers kept -/

theorem KeepsRegs.refl (L : List Nat) (s : State) : KeepsRegs L s s := fun _ _ => rfl

theorem KeepsRegs.trans {L : List Nat} {s t u : State} (h : KeepsRegs L s t) (h' : KeepsRegs L t u) : KeepsRegs L s u :=
  fun o ho => (h' o ho).trans (h o ho)

theorem KeepsRegs.mono {L M : List Nat} {s t : State} (h : KeepsRegs L s t) (hLM : L ⊆ M) : KeepsRegs M s t :=
  fun o ho => h o fun hmem => ho (hLM hmem)

/-- A state with the same registers keeps them all. -/
theorem keepsRegs_of_regs {s t : State} (L : List Nat) (h : t.regs = s.regs) : KeepsRegs L s t := fun o _ => by
  rw [State.reg, h, State.reg]

theorem setReg_keepsRegs (s : State) (o : Nat) (v : Word) : KeepsRegs [o] s (s.setReg o v) :=
  fun _ ho => reg_setReg_ne _ _ (List.ne_of_not_mem_cons ho)

theorem bump_keepsRegs (s : State) (o n : Nat) : KeepsRegs [o] s (s.bump o n) := setReg_keepsRegs s o _

theorem evt_keepsRegs (s : State) (blk ev : Nat) {bit : Nat} (hb : bit < 8) : KeepsRegs (blockRegs ev) s (s.evt blk ev bit) := by
  intro o ho
  simp only [blockRegs, List.mem_append, not_or] at ho
  obtain ⟨hev, hpf⟩ := ho
  exact evt_reg s blk ev bit hb hev hpf

theorem offer_keepsRegs (s : State) (cls sub src pav d0 d1 d2 d3 : Nat) :
    KeepsRegs logRegs s (s.offer cls sub src pav d0 d1 d2 d3) := by
  intro o ho
  simp only [logRegs, blockRegs, List.mem_cons, List.mem_append, not_or] at ho
  obtain ⟨hdropped, hevt, hpf⟩ := ho
  exact offer_reg s _ _ _ _ _ _ _ _ hdropped hevt hpf

/-- A register that none of the writes between two states names has kept its field. -/
theorem fld_of_reg {s t : State} {o : Nat} (h : t.reg o = s.reg o) (hi lo : Nat) : t.fld o hi lo = s.fld o hi lo := by
  rw [State.fld, h, State.fld]

/-- A counter that neither what came before its count nor what came after it has written has risen by the count. -/
theorem Counted.of_bump {L M : List Nat} {s u t : State} {o n : Nat} (hbefore : KeepsRegs L s u)
    (hafter : KeepsRegs M (u.bump o n) t) (hL : o ∉ L) (hM : o ∉ M) : Counted s t o n := by
  rw [Counted, hafter o hM, bump_same, hbefore o hL]

/-! ## What the servo leaves of the time unit -/

/-- The time unit without what the servo may change: its state, the source selected, and what it knows of the offset. -/
def Tim.clock (x : Tim) : Tim :=
  { x with state := 0, sel := 0, advHops := 0, corr := 0, resid0 := 0, residClk := 0, slewTot := 0, holdUnc := 0, holdClk := 0,
           facq := none, loadPend := false }

/-- Between `s` and `t` the servo has worked: of the time unit only what it may change has changed, and of the registers only
those of `L`. -/
structure Steered (L : List Nat) (s t : State) : Prop where
  clock : t.tim.clock = s.tim.clock
  regs  : KeepsRegs L s t

/-- What an event of TIM and its log entry may write. -/
def timeRegs : List Nat := blockRegs aTIM_EVENT ++ logRegs

namespace Steered

theorem refl (L : List Nat) (s : State) : Steered L s s := ⟨rfl, .refl L s⟩

theorem trans {L : List Nat} {s t u : State} (h : Steered L s t) (h' : Steered L t u) : Steered L s u :=
  ⟨h'.clock.trans h.clock, h.regs.trans h'.regs⟩

theorem mono {L M : List Nat} {s t : State} (h : Steered L s t) (hLM : L ⊆ M) : Steered M s t := ⟨h.clock, h.regs.mono hLM⟩

section
variable {L : List Nat} {s t : State} (h : Steered L s t)
include h

theorem lock : t.tim.lock = s.tim.lock := (congrArg Tim.lock h.clock :)
theorem now : t.tim.now = s.tim.now := (congrArg Tim.now h.clock :)
theorem clk : t.tim.clk = s.tim.clk := (congrArg Tim.clk h.clock :)
theorem rootMode : t.tim.rootMode = s.tim.rootMode := (congrArg Tim.rootMode h.clock :)
theorem srcs : t.tim.srcs = s.tim.srcs := (congrArg Tim.srcs h.clock :)
theorem ppsPrev : t.tim.ppsPrev = s.tim.ppsPrev := (congrArg Tim.ppsPrev h.clock :)

theorem src (i : Nat) : t.src i = s.src i := by rw [State.src, h.srcs, State.src]
end

end Steered

/-- The time unit's record replaced. -/
def State.withTim (s : State) (x : Tim) : State := { s with tim := x }

theorem withTim_regs (s : State) (x : Tim) : (s.withTim x).regs = s.regs := rfl

@[simp] theorem withTim_tim (s : State) (x : Tim) : (s.withTim x).tim = x := rfl

/-- The time unit's record replaced in what the servo may change. -/
theorem withTim_steered (L : List Nat) {s : State} {x : Tim} (h : x.clock = s.tim.clock) : Steered L s (s.withTim x) :=
  ⟨h, keepsRegs_of_regs L (withTim_regs s x)⟩

/-- What the servo does after it has replaced the time unit's record. -/
theorem Steered.of_withTim {L : List Nat} {s t : State} {x : Tim} (h : Steered L (s.withTim x) t)
    (hx : x.clock = s.tim.clock) : Steered L s t := (withTim_steered L hx).trans h

/-! ## The operations of the servo -/

section
variable (s : State)

@[simp] theorem timEvt_tim (bit : Nat) : (s.timEvt bit).tim = s.tim := evt_tim ..

@[simp] theorem logTime_tim (sub : Nat) : (s.logTime sub).tim = s.tim := offer_tim ..

theorem timEvt_steered {bit : Nat} (hb : bit < 8) : Steered (blockRegs aTIM_EVENT) s (s.timEvt bit) :=
  ⟨by rw [timEvt_tim], evt_keepsRegs s 2 aTIM_EVENT hb⟩

theorem logTime_steered (sub : Nat) : Steered logRegs s (s.logTime sub) :=
  ⟨by rw [logTime_tim], offer_keepsRegs s 0x05 sub dieH 0x80 s.tim.sel s.uncert 0 0⟩

/-- An event of TIM and its log entry. -/
theorem logged_event_steered {bit : Nat} (hb : bit < 8) (sub : Nat) : Steered timeRegs s ((s.timEvt bit).logTime sub) :=
  ((timEvt_steered s hb).mono (List.subset_append_left _ _)).trans
    ((logTime_steered _ sub).mono (List.subset_append_right _ _))

/-- The time unit with the slew applied so far written down (R83). -/
def State.settledTim (s : State) : Tim :=
  { s.tim with slewTot := s.slewTotal, resid0 := s.residual, residClk := s.tim.clk }

theorem settleSlew_eq : s.settleSlew = s.withTim s.settledTim := rfl

/-- The time unit with the residual offset of source `i` (R83). -/
def State.followTim (s : State) (i : Nat) : Tim :=
  { s.settledTim with resid0 := s.filtered i - (s.slewTotal - (s.src i).slewAt) }

theorem follow_eq (i : Nat) : s.follow i = s.withTim (s.followTim i) := rfl

theorem follow_steered (L : List Nat) (i : Nat) : Steered L s (s.follow i) := withTim_steered (x := s.followTim i) L rfl

/-- The time unit that enters HOLDOVER (R84, R86). -/
def State.holdoverTim (s : State) (unc : Nat) : Tim :=
  { s.settledTim with state := 1, holdUnc := unc, holdClk := s.tim.clk, facq := none, loadPend := false }

theorem toHoldover_eq (unc : Nat) : s.toHoldover unc = ((s.withTim (s.holdoverTim unc)).timEvt 1).logTime 3 := rfl

@[simp] theorem toHoldover_tim (unc : Nat) : (s.toHoldover unc).tim = s.holdoverTim unc := by
  rw [toHoldover_eq, logTime_tim, timEvt_tim, withTim_tim]

theorem toHoldover_steered (unc : Nat) : Steered timeRegs s (s.toHoldover unc) :=
  .of_withTim (logged_event_steered (s.withTim (s.holdoverTim unc)) (by decide) 3) rfl

/-- The time unit that enters FREERUN (R86). -/
def Tim.freerun (x : Tim) : Tim := { x with state := 0, advHops := 31 }

theorem toFreerun_eq : s.toFreerun = ((s.withTim s.tim.freerun).timEvt 2).logTime 4 := rfl

@[simp] theorem toFreerun_tim : s.toFreerun.tim = s.tim.freerun := by
  rw [toFreerun_eq, logTime_tim, timEvt_tim, withTim_tim]

theorem toFreerun_steered : Steered timeRegs s s.toFreerun :=
  .of_withTim (logged_event_steered (s.withTim s.tim.freerun) (by decide) 4) rfl

/-- The time unit that enters LOCKED (R86). -/
def Tim.locked (x : Tim) : Tim := { x with state := 2, facq := none }

theorem toLocked_eq : s.toLocked = (s.withTim s.tim.locked).logTime 5 := rfl

@[simp] theorem toLocked_tim : s.toLocked.tim = s.tim.locked := by rw [toLocked_eq, logTime_tim, withTim_tim]

theorem toLocked_steered : Steered logRegs s s.toLocked :=
  .of_withTim (logTime_steered (s.withTim s.tim.locked) 5) rfl

theorem acquired_eq (c : Int) : s.acquired c = (s.withTim { s.followTim s.tim.sel with
    corr := (s.follow s.tim.sel).newCorr c, loadPend := s.tim.state == 0 && s.bit aTIM_CTRL 1 && !s.schedRunning }).toLocked := rfl

theorem acquired_steered (c : Int) : Steered logRegs s (s.acquired c) := by
  rw [acquired_eq]
  exact .of_withTim (toLocked_steered _) rfl

theorem startFacq_steered (i : Nat) : Steered logRegs s (s.startFacq i) := by
  unfold State.startFacq
  split
  · exact .refl _ s
  · split
    · exact acquired_steered s 0
    · exact withTim_steered logRegs (s := s) rfl

/-- The acquisition that one more exchange of source `i` goes on with (R87). -/
def State.nextFacq (s : State) (i : Nat) (off : Int) : Facq :=
  match s.tim.facq with
  | some f => if f.src = i then { f with count := f.count + 1 } else ⟨i, 1, off, s.tim.clk⟩
  | none => ⟨i, 1, off, s.tim.clk⟩

theorem acquire_eq (i : Nat) (off : Int) : s.acquire i off =
    if i = 32 ∧ s.freqByPin then s.acquired 0
    else
      let f := s.nextFacq i off
      let u := s.withTim { s.tim with facq := some f }
      if s.fld aTIM_LOCK 23 16 + 1 ≤ f.count then u.acquired (acqCorr f.off0 off (s.tim.clk - f.clk0)) else u := rfl

theorem acquire_steered (i : Nat) (off : Int) : Steered logRegs s (s.acquire i off) := by
  have hnoted : Steered logRegs s (s.withTim { s.tim with facq := some (s.nextFacq i off) }) := withTim_steered _ rfl
  rw [acquire_eq]
  dsimp only
  split
  · exact acquired_steered s 0
  · split
    · exact hnoted.trans (acquired_steered _ _)
    · exact hnoted

theorem noSource_steered : Steered timeRegs s s.noSource := by
  unfold State.noSource
  split
  · exact toHoldover_steered s _
  · exact .refl _ s

/-- Source `b` selected, where it was not (R80). -/
def State.selected (s : State) (b : Nat) : State :=
  if b = s.tim.sel then s else (s.withTim { s.followTim b with sel := b, facq := none }).timEvt 0

theorem selected_steered (b : Nat) : Steered timeRegs s (s.selected b) := by
  unfold State.selected
  split
  · exact .refl _ s
  · exact .of_withTim ((timEvt_steered _ (by decide)).mono (List.subset_append_left _ _)) rfl

theorem reselect_eq : s.reselect =
    if s.tim.rootMode then s
    else if s.bestSrc = 63 ∧ s.tim.state = 2 then (s.selected s.bestSrc).toHoldover (s.unc / uncScale)
    else if s.bestSrc = 63 ∨ s.bestSrc = s.tim.sel ∨ s.tim.state = 2 then s.selected s.bestSrc
    else (s.selected s.bestSrc).startFacq s.bestSrc := rfl

theorem reselect_steered : Steered timeRegs s s.reselect := by
  have hselected := selected_steered s s.bestSrc
  rw [reselect_eq]
  split
  · exact .refl _ s
  · split
    · exact hselected.trans (toHoldover_steered _ _)
    · split
      · exact hselected
      · exact hselected.trans ((startFacq_steered _ _).mono (List.subset_append_right _ _))
end

/-! ## Which sources are valid (R79, R80) -/

/-- The registers that say whether a source is valid. -/
def srcRegs : List Nat := [aTIM_PPS, aTIM_LOCK, 0x20080, 0x20084, 0x20088, 0x2008C, aTIM_SRC_PRIO4]

/-- The priority of a source is in one of these registers. -/
theorem srcPrio_congr {s t : State} (h : ∀ o ∈ srcRegs, t.reg o = s.reg o) (i : Nat) : t.srcPrio i = s.srcPrio i := by
  unfold State.srcPrio
  split
  next hi =>
    have hrow : i / 8 = 0 ∨ i / 8 = 1 ∨ i / 8 = 2 ∨ i / 8 = 3 := by omega
    refine fld_of_reg (h _ ?_) _ _
    obtain e | e | e | e := hrow <;> rw [e] <;> decide
  next => exact fld_of_reg (h _ (by decide)) _ _

/-- Whether a source is valid is in what is known of it and in these registers. -/
theorem srcValid_congr {s t : State} {i : Nat} (hsrc : t.src i = s.src i) (h : ∀ o ∈ srcRegs, t.reg o = s.reg o) :
    t.srcValid i = s.srcValid i := by
  have hpps : t.bit aTIM_PPS 0 = s.bit aTIM_PPS 0 := bit_of_reg (h _ (by decide)) 0
  have hloss : t.lossCount i = s.lossCount i := by
    rw [State.lossCount, fld_of_reg (h aTIM_LOCK (by decide)), State.lossCount]
  rw [State.srcValid, hsrc, hpps, hloss, srcPrio_congr h, State.srcValid]

theorem Steered.srcValid {L : List Nat} {s t : State} (h : Steered L s t) (hL : ∀ o ∈ srcRegs, o ∉ L) (i : Nat) :
    t.srcValid i = s.srcValid i :=
  srcValid_congr (h.src i) fun o ho => h.regs o (hL o ho)

/-- The ranking of R80 ends without a source where it begins without one and none of its sources is valid. -/
theorem rank_eq_none_iff (s : State) (l : List Nat) (hl : ∀ i ∈ l, i ≠ 63) (b : Nat) :
    l.foldl (fun b i => if s.srcValid i && (b == 63 || decide (s.srcKey i < s.srcKey b)) then i else b) b = 63 ↔
      b = 63 ∧ ∀ i ∈ l, s.srcValid i = false := by
  induction l generalizing b with
  | nil => simp
  | cons i l ih =>
    have hi : i ≠ 63 := hl i List.mem_cons_self
    rw [List.foldl_cons, ih fun j hj => hl j (List.mem_cons_of_mem _ hj), List.forall_mem_cons]
    cases hvalid : s.srcValid i
    · simp
    · by_cases hb : b = 63
      · simp [hb, hi]
      · simp only [hb, Bool.true_and, Bool.true_eq_false, false_and, iff_false, not_and]
        intro hnone
        split at hnone
        · exact absurd hnone hi
        · exact absurd hnone hb

/-- No source is selected where none of the 33 is valid (R80). -/
theorem bestSrc_eq_none_iff (s : State) : s.bestSrc = 63 ↔ ∀ i, i < 33 → s.srcValid i = false := by
  rw [State.bestSrc, rank_eq_none_iff s _ (by decide)]
  simp

/-- HOLDOVER is entered at once where the switch is LOCKED, no designated root, and has no valid source (R79, R86). -/
theorem noSource_eq (s : State) : s.noSource =
    if s.tim.state = 2 ∧ s.tim.rootMode = false ∧ ∀ i, i < 33 → s.srcValid i = false then s.toHoldover (s.unc / uncScale)
    else s := by
  simp only [State.noSource, bestSrc_eq_none_iff, Bool.not_eq_true]

end Sys2Proof.Machine
end

section
/-! SUPPORT. What an exchange with a source, and a missed one, tell of it (R73, R79, R87). -/

namespace Sys2Proof.Machine

/-! ## Time moved on -/

section
variable (s : State)

theorem advTo_regs (a : Nat) : (s.advTo a).regs = s.regs := by
  unfold State.advTo
  split <;> rfl

theorem advTo_srcs (a : Nat) : (s.advTo a).tim.srcs = s.tim.srcs := by
  unfold State.advTo
  split <;> rfl

theorem advTo_state (a : Nat) : (s.advTo a).tim.state = s.tim.state := by
  unfold State.advTo
  split <;> rfl

theorem advTo_rootMode (a : Nat) : (s.advTo a).tim.rootMode = s.tim.rootMode := by
  unfold State.advTo
  split <;> rfl

theorem advTo_sel (a : Nat) : (s.advTo a).tim.sel = s.tim.sel := by
  unfold State.advTo
  split <;> rfl

theorem advTo_slot (a : Nat) : (s.advTo a).tim.slot = s.tim.slot := by
  unfold State.advTo
  split <;> rfl

theorem advTo_corr (a : Nat) : (s.advTo a).tim.corr = s.tim.corr := by
  unfold State.advTo
  split <;> rfl

theorem advTo_only (a : Nat) : Only { tim := true } s (s.advTo a) := State.advTo_mask s a _ rfl

/-- Under root lock fabric time comes to `a` where it has not passed it, and root time goes on by as much (R51). -/
theorem advTo_of_lock {s : State} (h : s.tim.lock = true) (a : Nat) :
    s.advTo a = s.withTim { s.tim with now := max s.tim.now a, clk := s.tim.clk + (a - s.tim.now) } := if_pos h

theorem advTo_now {s : State} (h : s.tim.lock = true) (a : Nat) : (s.advTo a).tim.now = max s.tim.now a := by
  rw [advTo_of_lock h, withTim_tim]

end

/-! ## Sources -/

theorem withTim_mask (s : State) (x : Tim) {G : Fields} (htim : G.tim) : (s.withTim x).mask G = s.mask G := mask_tim htim s x

/-- Whether a source is valid does not hang on whether it has been. -/
theorem srcValid_setSrc_okAt (s : State) (i : Nat) (b : Bool) :
    (s.setSrc i { s.src i with okAt := b }).srcValid i = s.srcValid i := by
  simp only [State.srcValid, src_setSrc]
  rfl

/-- A source's record as an accepted exchange leaves it, but for whether the source has been valid since (R73, R83). -/
def State.exchanged (s : State) (i : Nat) (x : TimeSrc) (off2 : Int) : TimeSrc :=
  { x with heard := true, missed := 0, lastClk := s.tim.clk, slewAt := s.slewTotal,
           samples := (off2 :: x.samples).take (filterLen i) }

/-- The state once an exchange has been noted, before the servo takes it. -/
def State.noted (s : State) (i : Nat) (x : TimeSrc) (off2 : Int) : State :=
  let u := s.settleSlew.setSrc i (s.exchanged i x off2)
  u.setSrc i { u.src i with okAt := u.srcValid i }

section
variable (s : State) (i : Nat) (x : TimeSrc) (off2 : Int)

/-- The servo takes an exchange that has been noted. -/
theorem exchange_steered_noted : Steered logRegs (s.noted i x off2) (s.exchange i x off2) := by
  have hservo : ∀ u : State, Steered logRegs u
      (if u.tim.rootMode ∨ u.tim.sel ≠ i then u
       else if u.tim.state = 2 then
         if i = 32 ∧ !(u.follow i).freqByPin then
           (u.follow i).withTim { (u.follow i).tim with
             corr := clampCorr ((u.follow i).tim.corr + pulseCorr x off2 (u.follow i).tim.slewTot (u.follow i).tim.clk) }
         else u.follow i
       else if u.srcValid i then u.acquire i off2 else u) := by
    intro u
    split
    · exact .refl _ u
    · split
      · split
        · exact (follow_steered u logRegs i).trans (withTim_steered _ rfl)
        · exact follow_steered u logRegs i
      · split
        · exact acquire_steered u i off2
        · exact .refl _ u
  exact hservo (s.noted i x off2)

theorem noted_regs : (s.noted i x off2).regs = s.regs := rfl

theorem noted_src : (s.noted i x off2).src i =
    { s.exchanged i x off2 with okAt := (s.noted i x off2).srcValid i } := by
  have hvalid : (s.noted i x off2).srcValid i = (s.settleSlew.setSrc i (s.exchanged i x off2)).srcValid i :=
    srcValid_setSrc_okAt _ i _
  rw [hvalid]
  simp only [State.noted, src_setSrc]

theorem noted_src_ne {j : Nat} (h : j ≠ i) : (s.noted i x off2).src j = s.src j := by
  simp only [State.noted, src_setSrc_ne _ _ h]
  rfl

/-- An accepted exchange leaves its source so (R73, R79, R83). -/
theorem exchange_src : (s.exchange i x off2).src i =
    { s.exchanged i x off2 with okAt := (s.exchange i x off2).srcValid i } := by
  have h := exchange_steered_noted s i x off2
  rw [h.src, h.srcValid (by decide), noted_src]

theorem exchange_src_ne {j : Nat} (h : j ≠ i) : (s.exchange i x off2).src j = s.src j := by
  rw [(exchange_steered_noted s i x off2).src, noted_src_ne s i x off2 h]

theorem exchange_now : (s.exchange i x off2).tim.now = s.tim.now := (exchange_steered_noted s i x off2).now

theorem exchange_clk : (s.exchange i x off2).tim.clk = s.tim.clk := (exchange_steered_noted s i x off2).clk

theorem exchange_ppsPrev : (s.exchange i x off2).tim.ppsPrev = s.tim.ppsPrev :=
  (exchange_steered_noted s i x off2).ppsPrev

theorem exchange_keepsRegs : KeepsRegs logRegs s (s.exchange i x off2) :=
  (keepsRegs_of_regs logRegs (noted_regs s i x off2)).trans (exchange_steered_noted s i x off2).regs
end

/-! ## Missed exchanges (R79, R87) -/

/-- The state once a miss has been noted: the acquisition with that source, if any, starts over (R87). -/
def State.missNoted (s : State) (i : Nat) : State :=
  (s.setSrc i { s.src i with missed := (s.src i).missed + 1, okAt := false }).withTim
    { s.tim with
      srcs := tblSet s.tim.srcs i { s.src i with missed := (s.src i).missed + 1, okAt := false }
      facq := match s.tim.facq with
        | some f => if f.src = i then none else some f
        | none => none }

section
variable (s : State) (i : Nat)

theorem missed_eq : s.missed i = (s.missNoted i).noSource := by
  have hsrc : s.missNoted i = { s with tim := (s.missNoted i).tim } := rfl
  rw [State.missed, hsrc]
  cases h : s.tim.facq with
  | none => simp only [State.missNoted, State.setSrc, State.withTim, h]
  | some f => by_cases hf : f.src = i <;> simp [State.missNoted, State.setSrc, State.withTim, h, hf]

theorem missNoted_src : (s.missNoted i).src i = { s.src i with missed := (s.src i).missed + 1, okAt := false } :=
  tblGet_tblSet_same ..

theorem missNoted_src_ne {j : Nat} (h : j ≠ i) : (s.missNoted i).src j = s.src j := tblGet_tblSet_ne _ _ _ h

theorem missed_src : (s.missed i).src i = { s.src i with missed := (s.src i).missed + 1, okAt := false } := by
  rw [missed_eq, (noSource_steered _).src, missNoted_src]

theorem missed_src_ne {j : Nat} (h : j ≠ i) : (s.missed i).src j = s.src j := by
  rw [missed_eq, (noSource_steered _).src, missNoted_src_ne s i h]

theorem missed_now : (s.missed i).tim.now = s.tim.now := by
  rw [missed_eq, (noSource_steered _).now]
  rfl

theorem missed_keepsRegs : KeepsRegs timeRegs s (s.missed i) := by
  rw [missed_eq]
  exact (keepsRegs_of_regs timeRegs rfl).trans (noSource_steered (s.missNoted i)).regs

/-- A LOCKED switch, no designated root, that a miss leaves without a valid source. -/
def State.sourceless (s t : State) : Prop :=
  s.tim.state = 2 ∧ s.tim.rootMode = false ∧ ∀ j, j < 33 → t.srcValid j = false

/-- A miss that leaves no valid source enters HOLDOVER, any other leaves the state (R79, R86). -/
theorem missed_enters : (s.sourceless (s.missed i) ∧ ∃ unc, s.missed i = (s.missNoted i).toHoldover unc) ∨
    (¬ s.sourceless (s.missed i) ∧ s.missed i = s.missNoted i) := by
  have hvalid : ∀ j, (s.missed i).srcValid j = (s.missNoted i).srcValid j := fun j => by
    rw [missed_eq]
    exact (noSource_steered _).srcValid (by decide) j
  simp only [State.sourceless, hvalid]
  rw [missed_eq, noSource_eq]
  by_cases h : s.tim.state = 2 ∧ s.tim.rootMode = false ∧ ∀ j, j < 33 → (s.missNoted i).srcValid j = false
  · exact .inl ⟨h, _, if_pos h⟩
  · exact .inr ⟨h, if_neg h⟩
end

/-- An event that is on record when its log entry is offered is so after it. -/
theorem timEvt_logTime_bit (s : State) {bit : Nat} (hb : bit < 32) (sub : Nat) :
    ((s.timEvt bit).logTime sub).bit aTIM_EVENT bit = true := by
  rw [bit_of_reg ((logTime_steered _ sub).regs aTIM_EVENT (by decide)), State.timEvt, evt_bit s 2 aTIM_EVENT hb (by decide)]
  simp

end Sys2Proof.Machine
end

section
/-! PROOFS. Marks, TIME packets and their absence (R67–R74, R79, R149). -/

namespace Sys2Proof.Machine

/-! ## What an exchange, and a miss, tell of a source -/

/-- Source `i` was heard: between `s` and `t` it has got what the phase word or TIME payload `w` says, which arrived at `arrival`;
the filter holds `len` measurements, `asym` is the asymmetry, and by `late` this end's last mark was sent late (R67, R72, R73). -/
def Heard (i len : Nat) (w : List Byte) (arrival : Nat) (asym : Int) (late : Nat) (s t : State) : Prop :=
  let b := (w.getD 0 0).toNat
  let there := signed 32 (beNat ((w.drop 9).take 4)) - (late : Int)
  let back : Int := arrival - (beNat ((w.drop 2).take 7) * slotUnits : Nat)
  t.src i = { s.src i with
    state := b / 64, root := bitOf b 5, hops := b % 32, unc := (w.getD 1 0).toNat, delay2 := there + back, delta := back,
    heard := true, missed := 0, lastClk := t.tim.clk, samples := ((there - back - asym) :: (s.src i).samples).take len,
    okAt := t.srcValid i, slewAt := (s.advTo arrival).slewTotal }

/-- Between `s` and `t` no source but `i` has changed, and no unit but those an exchange may reach. -/
def OthersKept (i : Nat) (s t : State) : Prop :=
  (∀ j, j ≠ i → t.src j = s.src j) ∧ Only { regs := true, tim := true, hif := true, log := true, lrep := true, out := true } s t

/-- Source `i` has missed once more between `s` and `t`, which have `rs` apart from what HOLDOVER, where it is entered, may write
(R79, R86). -/
def Missed (i : Nat) (rs : List Nat) (s t : State) : Prop :=
  t.src i = { s.src i with missed := (s.src i).missed + 1, okAt := false } ∧ OthersKept i s t ∧
  (if s.tim.state = 2 ∧ s.tim.rootMode = false ∧ (∀ j, j < 33 → t.srcValid j = false) then
    t.tim.state = 1 ∧ t.tim.facq = none ∧ t.bit aTIM_EVENT 1 = true ∧
      KeepsRegs (rs ++ blockRegs aTIM_EVENT ++ logRegs) s t
  else t.tim.state = s.tim.state ∧ KeepsRegs rs s t)

theorem slewTotal_congr {s t : State} (h : t.tim = s.tim) : t.slewTotal = s.slewTotal := by
  simp only [State.slewTotal, State.residual, h]

theorem src_congr {s t : State} (h : t.tim.srcs = s.tim.srcs) (i : Nat) : t.src i = s.src i := by rw [State.src, h, State.src]

theorem measure_keepsRegs (s : State) (i : Nat) (w : List Byte) (arrival : Nat) (asym : Int) (late : Nat) :
    KeepsRegs logRegs s (s.measure i w arrival asym late) := exchange_keepsRegs s i _ _

theorem measure_now (s : State) (i : Nat) (w : List Byte) (arrival : Nat) (asym : Int) (late : Nat) :
    (s.measure i w arrival asym late).tim.now = s.tim.now := exchange_now s i _ _

section
variable {s u : State} {i : Nat}

/-- A word that was received is measured with the time unit as its arrival finds it (R73). -/
theorem measure_heard {len arrival : Nat} (hlen : filterLen i = len) (htim : u.tim = (s.advTo arrival).tim) (w : List Byte)
    (asym : Int) (late : Nat) : Heard i len w arrival asym late s (u.measure i w arrival asym late) := by
  subst hlen
  have hsrc : u.src i = s.src i := src_congr (htim ▸ advTo_srcs s arrival) i
  unfold Heard State.measure
  dsimp only
  rw [exchange_src, exchange_clk, hsrc, State.exchanged, slewTotal_congr htim]
  rfl

theorem measure_others {arrival : Nat} (hsrcs : u.tim.srcs = s.tim.srcs)
    (honly : Only { regs := true, tim := true, hif := true, log := true, lrep := true, out := true } s u)
    (w : List Byte) (asym : Int) (late : Nat) : OthersKept i s (u.measure i w arrival asym late) := by
  refine ⟨fun j hj => ?_, (State.measure_mask _ _ _ _ _ _ _ rfl rfl rfl rfl rfl).trans honly⟩
  rw [State.measure, exchange_src_ne u i _ _ hj, src_congr hsrcs]

/-- A miss, after what has left the sources and the state of the time unit as they were. -/
theorem missed_of {rs : List Nat} (hsrcs : u.tim.srcs = s.tim.srcs) (hstate : u.tim.state = s.tim.state)
    (hroot : u.tim.rootMode = s.tim.rootMode) (hregs : KeepsRegs rs s u)
    (honly : Only { regs := true, tim := true, hif := true, log := true, lrep := true, out := true } s u) :
    Missed i rs s (u.missed i) := by
  refine ⟨?_, ⟨fun j hj => ?_, (State.missed_mask _ _ _ rfl rfl rfl rfl rfl).trans honly⟩, ?_⟩
  · rw [missed_src, src_congr hsrcs]
  · rw [missed_src_ne u i hj, src_congr hsrcs]
  · have hkeeps := hregs.mono (List.subset_append_left rs timeRegs) |>.trans
      ((missed_keepsRegs u i).mono (List.subset_append_right rs timeRegs))
    rw [← hstate, ← hroot]
    obtain ⟨hless, unc, heq⟩ | ⟨hless, heq⟩ := missed_enters u i <;> rw [State.sourceless] at hless
    · rw [if_pos hless, List.append_assoc]
      rw [heq] at hkeeps ⊢
      exact ⟨by rw [toHoldover_tim]; rfl, by rw [toHoldover_tim]; rfl, timEvt_logTime_bit _ (by decide) 3, hkeeps⟩
    · rw [if_neg hless, heq]
      exact ⟨rfl, hregs.trans (keepsRegs_of_regs rs rfl)⟩
end

/-- An exchange that is discarded is counted, and is a miss (R69, R79). -/
theorem discarded_of {rs : List Nat} {s u t : State} {i arrival : Nat} (htim : u.tim = (s.advTo arrival).tim)
    (hregs : KeepsRegs rs s u)
    (honly : Only { regs := true, tim := true, hif := true, log := true, lrep := true, out := true } s u)
    (herr : aTIM_MARK_ERR ∉ rs) (ht : (u.bump aTIM_MARK_ERR 1).missed i = t) :
    Missed i (aTIM_MARK_ERR :: rs) s t ∧ t.tim.now = (s.advTo arrival).tim.now ∧ Counted s t aTIM_MARK_ERR 1 ∧
      KeepsRegs (aTIM_MARK_ERR :: timeRegs) u t := by
  have htim' : (u.bump aTIM_MARK_ERR 1).tim = (s.advTo arrival).tim := htim
  have hbefore : KeepsRegs (aTIM_MARK_ERR :: rs) s (u.bump aTIM_MARK_ERR 1) :=
    (hregs.mono (List.subset_cons_self _ _)).trans ((bump_keepsRegs _ _ 1).mono (by simp))
  have hafter := missed_keepsRegs (u.bump aTIM_MARK_ERR 1) i
  subst ht
  refine ⟨missed_of ?_ ?_ ?_ hbefore ((State.bump_mask _ _ _ _ rfl).trans honly), (missed_now _ i).trans (congrArg Tim.now htim'),
    .of_bump hregs hafter herr (by decide), ?_⟩
  · rw [htim', advTo_srcs]
  · rw [htim', advTo_state]
  · rw [htim', advTo_rootMode]
  · exact ((bump_keepsRegs _ _ 1).mono (by simp)).trans (hafter.mono (List.subset_cons_self _ _))

/-! ## Marks (R67–R69, R149) -/

theorem lt_of_mem_timeRegs {o : Nat} (h : o ∈ timeRegs) : o < 0x70000 :=
  (by decide : ∀ o ∈ timeRegs, o < 0x70000) o h

theorem stcErrs_keepsRegs (s : State) (n : Nat) (xs : List RxSym) :
    KeepsRegs [aLNE_STC_CODE_ERR n, aLNE_STC_DISP_ERR n] s (s.stcErrs n xs) :=
  ((bump_keepsRegs s _ _).mono (by simp)).trans ((bump_keepsRegs _ _ _).mono (by simp))

/-- The state in which a mark that arrived is looked at: time has come to its arrival, and the errors of its symbols are
counted. -/
def State.marked (s : State) (n arrival : Nat) (syms : List Nat) : State := (s.advTo arrival).stcErrs n (recvSyms syms)

/-- What a mark leaves, whose phase word is good (R67, R73), or that is discarded (R69). -/
def State.markTaken (s : State) (n arrival : Nat) (syms : List Nat) : Option (List Byte) → State
  | none => ((s.marked n arrival syms).bump aTIM_MARK_ERR 1).missed n
  | some w => ((s.marked n arrival syms).bump (aLNE_STC_MARKS n) 1).measure n w arrival
      (signed 16 ((s.marked n arrival syms).fld (aTIM_STC_ASYM n) 15 0)) ((s.marked n arrival syms).lane (stcIdx n)).late

section
variable {s : State} {n arrival : Nat} {syms : List Nat}

theorem exec_stcMarkRx {ys : List RxSym} (hlock : s.tim.lock = true) (hn : n < 16) (hup : (s.lane (stcIdx n)).up = true)
    (hys : startsWith kMark (recvSyms syms) = some ys) (hbad : fourBad 0 (recvSyms syms) = false) :
    exec (.stcMarkRx n syms arrival) s = .next (s.markTaken n arrival syms (markWord ys)) := by
  have hcond : (s.tim.lock && decide (n < 16) && (s.lane (stcIdx n)).up) = true := by simp [hlock, hn, hup]
  have hstays : ∀ u : State, u.stcBad n (recvSyms syms) = u := fun u => by
    rw [State.stcBad, hbad]
    rfl
  change execStcMarkRx n syms arrival s = _
  unfold execStcMarkRx
  dsimp only
  rw [if_pos hcond, hstays, hys]
  dsimp only
  cases markWord ys <;> rfl

variable (s n arrival syms)

theorem marked_tim : (s.marked n arrival syms).tim = (s.advTo arrival).tim := rfl

theorem marked_keepsRegs : KeepsRegs [aLNE_STC_CODE_ERR n, aLNE_STC_DISP_ERR n] s (s.marked n arrival syms) :=
  (keepsRegs_of_regs _ (advTo_regs s arrival)).trans (stcErrs_keepsRegs _ n _)

theorem marked_mask {G : Fields} (hregs : G.regs) (htim : G.tim) : (s.marked n arrival syms).mask G = s.mask G :=
  (State.stcErrs_mask _ _ _ _ hregs).trans (State.advTo_mask s arrival _ htim)

theorem marked_lane (i : Nat) : (s.marked n arrival syms).lane i = s.lane i :=
  eq_of_mask (State.lane · i) (marked_mask s n arrival syms (G := { regs := true, tim := true }) rfl rfl) fun _ => rfl

/-- The errors of the symbols of a run are counted, whatever then is written that is not their count (R149). -/
theorem marked_counted {t : State} {L : List Nat} (h : KeepsRegs L (s.marked n arrival syms) t)
    (hcode : aLNE_STC_CODE_ERR n ∉ L) (hdisp : aLNE_STC_DISP_ERR n ∉ L) :
    Counted s t (aLNE_STC_CODE_ERR n) (codeErrs (recvSyms syms)) ∧
      Counted s t (aLNE_STC_DISP_ERR n) (dispErrs (recvSyms syms)) := by
  have hne : aLNE_STC_CODE_ERR n ≠ aLNE_STC_DISP_ERR n := by unfold aLNE_STC_CODE_ERR aLNE_STC_DISP_ERR; omega
  constructor
  · rw [Counted, h _ hcode, State.marked, State.stcErrs, State.stcCount, bump_reg _ _ _ hne, bump_same, advTo_reg]
  · rw [Counted, h _ hdisp, State.marked, State.stcErrs, State.stcCount, bump_same, bump_reg _ _ _ hne.symm, advTo_reg]
end

/-- A lane's registers lie beyond those that an event of TIM and its log entry may write. -/
theorem not_mem_of_timeRegs {L : List Nat} {o : Nat} (hL : L ⊆ timeRegs) (ho : 0x70000 ≤ o) : o ∉ L :=
  fun h => absurd (lt_of_mem_timeRegs (hL h)) (by omega)

section
variable (s : State) {n : Nat} (arrival : Nat) (syms : List Nat)

/-- What is read of the lane and its asymmetry is what held before the mark. -/
theorem markTaken_some (hn : n < 16) (w : List Byte) : s.markTaken n arrival syms (some w) =
    ((s.marked n arrival syms).bump (aLNE_STC_MARKS n) 1).measure n w arrival
      (signed 16 (s.fld (aTIM_STC_ASYM n) 15 0)) (s.lane (stcIdx n)).late := by
  have hasym : aTIM_STC_ASYM n ∉ [aLNE_STC_CODE_ERR n, aLNE_STC_DISP_ERR n] := by
    simp [aTIM_STC_ASYM, aLNE_STC_CODE_ERR, aLNE_STC_DISP_ERR]
    omega
  rw [State.markTaken, marked_lane, fld_of_reg (marked_keepsRegs s n arrival syms _ hasym)]

/-- A mark whose phase word is good (R67, R73). -/
theorem mark_heard (hn : n < 16) {w : List Byte} {t : State} (ht : s.markTaken n arrival syms (some w) = t) :
    Heard n 16 w arrival (signed 16 (s.fld (aTIM_STC_ASYM n) 15 0)) (s.lane (stcIdx n)).late s t ∧ OthersKept n s t ∧
      t.tim.now = (s.advTo arrival).tim.now ∧ Counted s t (aLNE_STC_MARKS n) 1 ∧
      KeepsRegs (aLNE_STC_MARKS n :: logRegs) (s.marked n arrival syms) t := by
  have hmarks : aLNE_STC_MARKS n ∉ [aLNE_STC_CODE_ERR n, aLNE_STC_DISP_ERR n] := by
    simp [aLNE_STC_MARKS, aLNE_STC_CODE_ERR, aLNE_STC_DISP_ERR]
  have hfar : aLNE_STC_MARKS n ∉ logRegs :=
    not_mem_of_timeRegs (List.subset_append_right _ _) (by unfold aLNE_STC_MARKS; omega)
  have htim : ((s.marked n arrival syms).bump (aLNE_STC_MARKS n) 1).tim = (s.advTo arrival).tim := marked_tim s n arrival syms
  have hafter : KeepsRegs logRegs ((s.marked n arrival syms).bump (aLNE_STC_MARKS n) 1) t := by
    rw [← ht]
    exact measure_keepsRegs _ n w arrival _ _
  rw [markTaken_some s arrival syms hn w] at ht
  subst ht
  refine ⟨measure_heard (if_pos hn) htim w _ _, measure_others ?_ ?_ w _ _, (measure_now ..).trans (congrArg Tim.now htim),
    .of_bump (marked_keepsRegs s n arrival syms) hafter hmarks hfar, ?_⟩
  · rw [htim, advTo_srcs]
  · exact (State.bump_mask _ _ _ _ rfl).trans (marked_mask s n arrival syms rfl rfl)
  · exact ((bump_keepsRegs _ _ 1).mono (by simp)).trans (hafter.mono (by simp))

/-- A mark as an STC lane that is up takes it (R67–R69, R73, R149). -/
theorem stcMarkRx_effect {s : State} {ys : List RxSym} (hlock : s.tim.lock = true) (hn : n < 16)
    (hup : (s.lane (stcIdx n)).up = true) (hys : startsWith kMark (recvSyms syms) = some ys)
    (hbad : fourBad 0 (recvSyms syms) = false) :
    Answers (.stcMarkRx n syms arrival) s fun t =>
      t.tim.now = max s.tim.now arrival ∧ t.lrep = s.lrep ∧ Counted s t (aLNE_STC_CODE_ERR n) (codeErrs (recvSyms syms)) ∧
      Counted s t (aLNE_STC_DISP_ERR n) (dispErrs (recvSyms syms)) ∧
      (∀ w, markWord ys = some w →
        Heard n 16 w arrival (signed 16 (s.fld (aTIM_STC_ASYM n) 15 0)) (s.lane (stcIdx n)).late s t ∧ OthersKept n s t ∧
        Counted s t (aLNE_STC_MARKS n) 1 ∧
        KeepsRegs ([aLNE_STC_MARKS n, aLNE_STC_CODE_ERR n, aLNE_STC_DISP_ERR n] ++ logRegs) s t) ∧
      (markWord ys = none → Missed n [aTIM_MARK_ERR, aLNE_STC_CODE_ERR n, aLNE_STC_DISP_ERR n] s t ∧
        Counted s t aTIM_MARK_ERR 1) := by
  have hexec := exec_stcMarkRx (arrival := arrival) hlock hn hup hys hbad
  have hnow : (s.advTo arrival).tim.now = max s.tim.now arrival := advTo_now hlock arrival
  have hmasks : ∀ t, exec (.stcMarkRx n syms arrival) s = .next t → t.lrep = s.lrep := fun t ht =>
    eq_of_mask State.lrep (execStcMarkRx_mask n syms arrival s
      { regs := true, tim := true, hif := true, log := true, lanes := true, mgt := true, out := true }
      rfl rfl rfl rfl rfl rfl rfl t ht) fun _ => rfl
  have hlane : ∀ o, o = aLNE_STC_CODE_ERR n ∨ o = aLNE_STC_DISP_ERR n →
      0x70000 ≤ o ∧ o ≠ aLNE_STC_MARKS n ∧ o ≠ aTIM_MARK_ERR := by
    simp only [aLNE_STC_CODE_ERR, aLNE_STC_DISP_ERR, aLNE_STC_MARKS, aTIM_MARK_ERR]
    omega
  obtain ⟨hcode, hcode', hcode''⟩ := hlane _ (.inl rfl)
  obtain ⟨hdisp, hdisp', hdisp''⟩ := hlane _ (.inr rfl)
  refine ⟨_, hexec, ?_⟩
  cases hword : markWord ys with
  | some w =>
    obtain ⟨hheard, hothers, ht, hmarks, hregs⟩ := mark_heard s arrival syms hn (w := w) rfl
    have hL : logRegs ⊆ timeRegs := List.subset_append_right _ _
    obtain ⟨hcodes, hdisps⟩ := marked_counted s n arrival syms hregs
      (List.not_mem_cons_of_ne_of_not_mem hcode' (not_mem_of_timeRegs hL hcode))
      (List.not_mem_cons_of_ne_of_not_mem hdisp' (not_mem_of_timeRegs hL hdisp))
    refine ⟨ht.trans hnow, hmasks _ (hword ▸ hexec), hcodes, hdisps, ?_, nofun⟩
    rintro w' ⟨⟩
    refine ⟨hheard, hothers, hmarks, ((marked_keepsRegs s n arrival syms).mono (by simp)).trans (hregs.mono ?_)⟩
    exact List.cons_subset_cons _ fun o ho => List.mem_cons_of_mem _ (List.mem_cons_of_mem _ ho)
  | none =>
    have hrs : aTIM_MARK_ERR ∉ [aLNE_STC_CODE_ERR n, aLNE_STC_DISP_ERR n] := by simp [hcode''.symm, hdisp''.symm]
    obtain ⟨hmissed, ht, herr, hregs⟩ := discarded_of (i := n) (marked_tim s n arrival syms) (marked_keepsRegs s n arrival syms)
      (marked_mask s n arrival syms rfl rfl) hrs rfl
    obtain ⟨hcodes, hdisps⟩ := marked_counted s n arrival syms hregs
      (List.not_mem_cons_of_ne_of_not_mem hcode'' (not_mem_of_timeRegs (List.Subset.refl _) hcode))
      (List.not_mem_cons_of_ne_of_not_mem hdisp'' (not_mem_of_timeRegs (List.Subset.refl _) hdisp))
    exact ⟨ht.trans hnow, hmasks _ (hword ▸ hexec), hcodes, hdisps, nofun, fun _ => ⟨hmissed, herr⟩⟩
end

/-! ## Missing marks and TIME packets (R79) -/

/-- A missing exchange with source `i` (R79). -/
theorem missed_effect (s : State) (i : Nat) :
    Missed i [] s (s.missed i) ∧ (s.missed i).tim.now = s.tim.now ∧ (s.missed i).lrep = s.lrep := by
  have hmask := State.missed_mask s i { regs := true, tim := true, hif := true, log := true, out := true } rfl rfl rfl rfl rfl
  exact ⟨missed_of rfl rfl rfl (.refl _ s) rfl, missed_now s i, eq_of_mask State.lrep hmask fun _ => rfl⟩

/-! ## TIME packets (R70–R74) -/

/-- What came broken on an L-port puts its receiver in RECOVER, where it was not (R457). -/
theorem lineBad_lr (s : State) {l : Nat} (hl : l < 16) (rx : RxPkt) (j : Nat) : (s.lineBad (64 + l) rx).lr j =
    if j = l ∧ rxBroken rx = true ∧ (s.lr l).recover = false then { s.lr l with recover := true, nak := true } else s.lr j := by
  have hport : (decide (64 ≤ 64 + l) && decide (64 + l < 80)) = true := by simp; omega
  have hidx : 64 + l - 64 = l := by omega
  rw [State.lineBad, hport, hidx, Bool.true_and]
  by_cases h : rxBroken rx = true ∧ (s.lr l).recover = false
  · rw [if_pos (by simp [h.1, h.2])]
    by_cases hj : j = l
    · subst hj
      rw [lr_setLr, if_pos ⟨rfl, h⟩]
    · rw [lr_setLr_ne _ _ hj, if_neg fun hc => hj hc.1]
  · rw [if_neg (by simpa using h), if_neg fun hc => h hc.2]

/-- What the discard of a packet writes behind the count of its cause (R201). -/
def lastDropRegs : List Nat := aRTE_LASTDROP0 :: aRTE_LASTDROP1 :: aRTE_LASTDROP2 :: blockRegs aRTE_EVENT

theorem drop_keepsRegs_counted (s : State) (c ingress : Nat) (p : Pkt) :
    KeepsRegs lastDropRegs (s.bump (aRTE_DROP (c - 1)) 1) (s.drop c ingress p) := by
  intro o ho
  simp only [lastDropRegs, blockRegs, List.mem_cons, List.mem_append, not_or] at ho
  obtain ⟨h0, h1, h2, hev, hpf⟩ := ho
  have hevt : ∀ (u : State) {bit : Nat}, bit < 8 → (u.evt 10 aRTE_EVENT bit).reg o = u.reg o := fun u _ hb =>
    evt_reg u 10 aRTE_EVENT _ hb hev hpf
  simp (disch := decide) only [State.drop, apply_ite (fun u : State => u.reg o), hevt, reg_setReg_ne _ _ h0, reg_setReg_ne _ _ h1,
    reg_setReg_ne _ _ h2, ite_self]

theorem drop_keepsRegs (s : State) (c ingress : Nat) (p : Pkt) : KeepsRegs (dropRegs c) s (s.drop c ingress p) :=
  ((bump_keepsRegs s _ 1).mono (by simp [dropRegs])).trans
    ((drop_keepsRegs_counted s c ingress p).mono (List.subset_cons_self _ _))

/-- The state in which a TIME packet that arrived is looked at: time has come to its arrival, and its L-port's receiver has seen
whether it came broken. -/
def State.packetSeen (s : State) (l arrival : Nat) (rx : RxPkt) : State := (s.advTo arrival).lineBad (64 + l) rx

/-- What a TIME packet leaves: one that fails a check of its port, one whose payload is bad, and a good one. -/
def State.packetTaken (s : State) (l arrival : Nat) (rx : RxPkt) : State :=
  let u := s.packetSeen l arrival rx
  let w := rx.pkt.payload
  let c := linkCause (64 + l) rx
  if c ≠ 0 then (u.drop c (8 * (64 + l)) rx.pkt).timeBad l
  else if crc32c (w.take 20) ≠ beNat ((w.drop 20).take 4) then u.timeBad l
  else u.measure (16 + l) w arrival (signed 32 (u.reg (aTIM_LASYM l)).toNat) 0

theorem hasL_lt {s : State} {l : Nat} (h : s.hasL l = true) : l < 16 := by
  simp only [State.hasL, Bool.and_eq_true, decide_eq_true_eq] at h
  exact h.2

section
variable {s : State} {l arrival : Nat} {rx : RxPkt}

theorem exec_timePacketRx (hlock : s.tim.lock = true) (hl : s.hasL l = true) (hlive : s.rxLive (64 + l) 0 = true)
    (hkind : rx.pkt.kind = 0x3D) : exec (.timePacketRx l rx arrival) s = .next (s.packetTaken l arrival rx) := by
  have hcond : (s.tim.lock && s.hasL l && s.rxLive (64 + l) 0 && rx.pkt.kind == 0x3D) = true := by
    simp [hlock, hl, hlive, hkind]
  exact congrArg Host.Outcome.next (if_pos hcond)

variable (s l arrival rx)

theorem lineBad_tim (port : Nat) : (s.lineBad port rx).tim = s.tim := by
  unfold State.lineBad
  split <;> rfl

theorem lineBad_regs (port : Nat) : (s.lineBad port rx).regs = s.regs := by
  unfold State.lineBad
  split <;> rfl

theorem packetSeen_tim : (s.packetSeen l arrival rx).tim = (s.advTo arrival).tim := lineBad_tim _ rx _

theorem packetSeen_keepsRegs : KeepsRegs [] s (s.packetSeen l arrival rx) :=
  keepsRegs_of_regs _ ((lineBad_regs _ rx _).trans (advTo_regs s arrival))

theorem packetSeen_mask {G : Fields} (htim : G.tim) (hlrep : G.lrep) : (s.packetSeen l arrival rx).mask G = s.mask G :=
  (State.lineBad_mask _ _ _ _ hlrep).trans (State.advTo_mask s arrival _ htim)

theorem packetSeen_lr (hl : l < 16) (j : Nat) : (s.packetSeen l arrival rx).lr j =
    if j = l ∧ rxBroken rx = true ∧ (s.lr l).recover = false then { s.lr l with recover := true, nak := true } else s.lr j := by
  have hlr : ∀ k, (s.advTo arrival).lr k = s.lr k := fun k => eq_of_mask (State.lr · k) (advTo_only s arrival) fun _ => rfl
  rw [State.packetSeen, lineBad_lr _ hl, hlr, hlr]

/-- What follows the look at a TIME packet leaves the replay engines. -/
theorem packetTaken_lr (j : Nat) : (s.packetTaken l arrival rx).lr j = (s.packetSeen l arrival rx).lr j := by
  refine eq_of_mask (G := { regs := true, tim := true, hif := true, log := true, out := true }) (State.lr · j) ?_ fun _ => rfl
  simp only [State.packetTaken, ite_mask, State.timeBad_mask, State.drop_mask, State.measure_mask, ite_self]

/-- A TIME packet that fails a check of its port is counted there, and is a miss (R175, R201). -/
theorem packet_dropped (h : linkCause (64 + l) rx ≠ 0) {t : State} (ht : s.packetTaken l arrival rx = t) :
    Missed (16 + l) (aTIM_MARK_ERR :: dropRegs (linkCause (64 + l) rx)) s t ∧ t.tim.now = (s.advTo arrival).tim.now ∧
      Counted s t aTIM_MARK_ERR 1 ∧ Counted s t (aRTE_DROP (linkCause (64 + l) rx - 1)) 1 := by
  rw [State.packetTaken] at ht
  rw [if_pos h] at ht
  generalize linkCause (64 + l) rx = c at *
  have hcount : ∀ o ∈ lastDropRegs ++ aTIM_MARK_ERR :: timeRegs, o < 0x300100 := by decide
  have hmask : ((s.packetSeen l arrival rx).drop c (8 * (64 + l)) rx.pkt).mask
      { regs := true, tim := true, hif := true, log := true, lrep := true, out := true } = s.mask _ :=
    (State.drop_mask _ _ _ _ _ rfl rfl rfl).trans (packetSeen_mask s l arrival rx rfl rfl)
  have htim : ((s.packetSeen l arrival rx).drop c (8 * (64 + l)) rx.pkt).tim = (s.advTo arrival).tim :=
    (eq_of_mask State.tim (State.drop_mask (s.packetSeen l arrival rx) c (8 * (64 + l)) rx.pkt
      { regs := true, hif := true, out := true } rfl rfl rfl) fun _ => rfl).trans (packetSeen_tim s l arrival rx)
  have herr : aTIM_MARK_ERR ∉ dropRegs c := by
    have hlow : aTIM_MARK_ERR ∉ lastDropRegs := by decide
    refine List.not_mem_cons_of_ne_of_not_mem ?_ hlow
    unfold aTIM_MARK_ERR aRTE_DROP
    omega
  have hbefore : KeepsRegs (dropRegs c) s ((s.packetSeen l arrival rx).drop c (8 * (64 + l)) rx.pkt) :=
    ((packetSeen_keepsRegs s l arrival rx).mono (List.nil_subset _)).trans (drop_keepsRegs _ _ _ _)
  obtain ⟨hmissed, hnow, hmark, hafter⟩ := discarded_of htim hbefore hmask herr ht
  refine ⟨hmissed, hnow, hmark, .of_bump (packetSeen_keepsRegs s l arrival rx)
    ((drop_keepsRegs_counted _ c (8 * (64 + l)) rx.pkt).mono (List.subset_append_left _ _) |>.trans
      (hafter.mono (List.subset_append_right _ _))) (by simp) fun hmem => ?_⟩
  have := hcount _ hmem
  unfold aRTE_DROP at this
  omega

/-- A TIME packet whose payload is bad is a miss (R69, R79). -/
theorem packet_bad (h : linkCause (64 + l) rx = 0)
    (hcrc : crc32c (rx.pkt.payload.take 20) ≠ beNat ((rx.pkt.payload.drop 20).take 4)) {t : State}
    (ht : s.packetTaken l arrival rx = t) :
    Missed (16 + l) [aTIM_MARK_ERR] s t ∧ t.tim.now = (s.advTo arrival).tim.now ∧ Counted s t aTIM_MARK_ERR 1 := by
  rw [State.packetTaken] at ht
  rw [if_neg (not_not_intro h), if_pos hcrc] at ht
  obtain ⟨hmissed, hnow, hmark, -⟩ := discarded_of (packetSeen_tim s l arrival rx) (packetSeen_keepsRegs s l arrival rx)
    (packetSeen_mask s l arrival rx rfl rfl) (by simp) ht
  exact ⟨hmissed, hnow, hmark⟩

/-- A good TIME packet (R72, R73). -/
theorem packet_heard (hl : l < 16) (h : linkCause (64 + l) rx = 0)
    (hcrc : crc32c (rx.pkt.payload.take 20) = beNat ((rx.pkt.payload.drop 20).take 4)) {t : State}
    (ht : s.packetTaken l arrival rx = t) :
    Heard (16 + l) 8 rx.pkt.payload arrival (signed 32 (s.reg (aTIM_LASYM l)).toNat) 0 s t ∧ OthersKept (16 + l) s t ∧
      t.tim.now = (s.advTo arrival).tim.now ∧ KeepsRegs logRegs s t := by
  have hasym : (s.packetSeen l arrival rx).reg (aTIM_LASYM l) = s.reg (aTIM_LASYM l) :=
    packetSeen_keepsRegs s l arrival rx _ (by simp)
  have hlen : filterLen (16 + l) = 8 := by
    rw [filterLen, if_neg (by omega), if_pos (by omega)]
  rw [State.packetTaken] at ht
  rw [if_neg (not_not_intro h), if_neg (not_not_intro hcrc), hasym] at ht
  subst ht
  refine ⟨measure_heard hlen (packetSeen_tim s l arrival rx) _ _ _,
    measure_others ?_ (packetSeen_mask s l arrival rx rfl rfl) _ _ _,
    (measure_now ..).trans (congrArg Tim.now (packetSeen_tim s l arrival rx)),
    ((packetSeen_keepsRegs s l arrival rx).mono (List.nil_subset _)).trans (measure_keepsRegs _ _ _ _ _ _)⟩
  rw [packetSeen_tim, advTo_srcs]

/-- Whatever comes of a TIME packet, time stands at its arrival. -/
theorem packetTaken_now (hl : l < 16) : (s.packetTaken l arrival rx).tim.now = (s.advTo arrival).tim.now := by
  by_cases hc : linkCause (64 + l) rx = 0
  · by_cases hcrc : crc32c (rx.pkt.payload.take 20) = beNat ((rx.pkt.payload.drop 20).take 4)
    · obtain ⟨-, -, hnow, -⟩ := packet_heard s l arrival rx hl hc hcrc rfl
      exact hnow
    · obtain ⟨-, hnow, -⟩ := packet_bad s l arrival rx hc hcrc rfl
      exact hnow
  · obtain ⟨-, hnow, -⟩ := packet_dropped s l arrival rx hc rfl
    exact hnow
end

/-- Settles O15: whatever arrives is heard (`measure_heard`), or discarded and missed (`discarded_of`); a miss is `missed_of`. That
HOLDOVER is entered at once is the model's choice (log 102). -/
theorem timeExchanges : Obligations.TimeExchanges := by
  unfold Obligations.TimeExchanges
  intro s hlock
  have hnow : ∀ a, (s.advTo a).tim.now = max s.tim.now a := advTo_now hlock
  refine ⟨?mark, ?noMark, ?packet, ?noPacket⟩
  case mark => exact fun n syms arrival ys hn hup hys hbad => stcMarkRx_effect arrival syms hlock hn hup hys hbad
  case noMark =>
    intro n hn hup
    exact ⟨_, congrArg Host.Outcome.next (if_pos (by simp [hlock, hn, hup])), missed_effect s n⟩
  case noPacket =>
    intro l hl hup
    exact ⟨_, congrArg Host.Outcome.next (if_pos (by simp [hlock, hl, State.isUp, hup])), missed_effect s (16 + l)⟩
  case packet =>
    intro l rx arrival hl hlive hkind
    have hl16 := hasL_lt hl
    refine ⟨_, exec_timePacketRx hlock hl hlive hkind, ?_, fun j => ?_, fun hc hcrc => ?_, fun hc hcrc => ?_, fun hc => ?_⟩
    · rw [packetTaken_now s l arrival rx hl16, hnow]
    · rw [packetTaken_lr, packetSeen_lr s l arrival rx hl16]
    · obtain ⟨hheard, hothers, -, hregs⟩ := packet_heard s l arrival rx hl16 hc hcrc rfl
      exact ⟨hheard, hothers, hregs⟩
    · obtain ⟨hmissed, -, hcount⟩ := packet_bad s l arrival rx hc hcrc rfl
      exact ⟨hmissed, hcount⟩
    · obtain ⟨hmissed, -, hcounts⟩ := packet_dropped s l arrival rx hc rfl
      exact ⟨hmissed, hcounts⟩

end Sys2Proof.Machine
end

section
/-! PROOFS. The edges of PPS_OUT, the pulses of PPS_IN, and FREQ_IN (R76–R78, R103, R105, R713). -/

namespace Sys2Proof.Machine

/-! ## PPS_OUT (R103, R105) -/

section
variable (s : State)

/-- The edge of second `k` has passed: fabric time stands at it, and the next is expected. -/
def State.ppsPassed (k : Nat) : State :=
  s.withTim { s.tim with now := max s.tim.now (s.ppsEdge k), clk := s.tim.clk + (s.ppsEdge k - s.tim.now), ppsNext := k + 1 }

/-- PPS_OUT rises, for its width (R103). -/
def State.ppsRisen : State :=
  (s.withTim { s.tim with ppsOut := true, ppsLast := some s.tim.clk, ppsFall := s.tim.clk + s.fld aTIM_PPS 15 8 * 8000 }).emit
    (.pin .ppsOut 1)

theorem ppsPassed_mask (k : Nat) {G : Fields} (htim : G.tim) : (s.ppsPassed k).mask G = s.mask G := withTim_mask s _ htim

theorem ppsRisen_mask {G : Fields} (htim : G.tim) (hout : G.out) : s.ppsRisen.mask G = s.mask G :=
  (State.emit_mask _ _ _ hout).trans (withTim_mask s _ htim)

/-- An edge within 10^9 TCLK cycles of the last one is left out (R105). -/
theorem exec_ppsOutRise (hlock : s.tim.lock = true) : exec .ppsOutRise s = .next (
    if (match s.tim.ppsLast with
        | some c => decide (s.tim.clk + (s.ppsEdge (s.ppsDue s.tim.ppsNext) - s.tim.now) < c + 8000000000)
        | none => false) = true
    then s.ppsPassed (s.ppsDue s.tim.ppsNext) else (s.ppsPassed (s.ppsDue s.tim.ppsNext)).ppsRisen) := by
  change execPpsOutRise s = _
  rw [execPpsOutRise, if_pos hlock]
  simp only [advTo_of_lock hlock]
  rfl

/-- PPS_OUT falls when its width has been counted (R103). -/
def State.ppsFallen : State :=
  (s.withTim { s.tim with now := max s.tim.now (s.tim.now + (s.tim.ppsFall - s.tim.clk)),
                          clk := s.tim.clk + (s.tim.now + (s.tim.ppsFall - s.tim.clk) - s.tim.now), ppsOut := false }).emit
    (.pin .ppsOut 0)

theorem ppsFallen_mask {G : Fields} (htim : G.tim) (hout : G.out) : s.ppsFallen.mask G = s.mask G :=
  (State.emit_mask _ _ _ hout).trans (withTim_mask s _ htim)

theorem exec_ppsOutFall (hout : s.tim.ppsOut = true) (hlock : s.tim.lock = true) :
    exec .ppsOutFall s = .next s.ppsFallen := by
  change execPpsOutFall s = _
  rw [execPpsOutFall, if_pos hout]
  simp only [advTo_of_lock hlock]
  rfl
end

/-! ## PPS_IN (R76, R77) -/

theorem hwReg_keepsRegs (s : State) (o : Nat) (v : Word) : KeepsRegs [o] s (s.hwReg o v) := by
  unfold State.hwReg
  split
  · exact .refl _ s
  · exact setReg_keepsRegs s o v

/-- What software has written in the same SCLK cycle remains (R725). -/
theorem hwReg_reg_same (s : State) (o : Nat) (v : Word) :
    (s.hwReg o v).reg o = if (s.swWrote o).isSome then s.reg o else v := by
  unfold State.hwReg
  split
  · rfl
  · exact reg_setReg _ _ _

theorem hwReg_tim (s : State) (o : Nat) (v : Word) : (s.hwReg o v).tim = s.tim := by
  unfold State.hwReg
  split <;> rfl

/-- Where a pulse is expected does not hang on how far time has come. -/
theorem ppsInWindow_advTo (s : State) (a arrival : Nat) : (s.advTo a).ppsInWindow arrival = s.ppsInWindow arrival := by
  unfold State.advTo
  split <;> rfl

theorem ppsMark_congr {s t : State} (h : t.regs = s.regs) : t.ppsMark = s.ppsMark := by
  simp only [State.ppsMark, State.fld, State.reg, h]

/-- The state in which a pulse near its time is an exchange: its second is counted (R76), and the next one is expected from it. -/
def State.ppsCounted (s : State) (arrival : Nat) : State :=
  let u := (s.advTo arrival).hwReg aTIM_PPS_SEC (s.reg aTIM_PPS_SEC + 1)
  u.withTim { u.tim with ppsPrev := some arrival }

/-- What a pulse tells of source 32 (R76): a root without hops or uncertainty. -/
def State.ppsSource (s : State) : TimeSrc := { s.src 32 with up := true, state := 2, root := true, hops := 0, unc := 0 }

/-- A PPS_IN pulse, once time has come to it. -/
def State.ppsTaken (s : State) (arrival : Nat) : State :=
  if s.ppsInWindow arrival then
    (s.ppsCounted arrival).exchange 32 s.ppsSource (2 * ((s.ppsMark : Int) - arrival))
  else if s.tim.state = 2 ∧ s.tim.sel = 32 then (s.advTo arrival).ppsMissed
  else s.advTo arrival

section
variable (s : State) (arrival : Nat)

theorem ppsCounted_tim : (s.ppsCounted arrival).tim = { (s.advTo arrival).tim with ppsPrev := some arrival } := by
  simp only [State.ppsCounted, withTim_tim, hwReg_tim]

theorem ppsCounted_src (j : Nat) : (s.ppsCounted arrival).src j = s.src j :=
  src_congr (by rw [ppsCounted_tim, advTo_srcs]) j

theorem exec_ppsInPulse {high : Nat} (hlock : s.tim.lock = true) (hin : s.bit aTIM_PPS 0 = true) (hhigh : 50 ≤ high) :
    exec (.ppsInPulse arrival high) s = .next (s.ppsTaken arrival) := by
  have hreg : (s.advTo arrival).reg aTIM_PPS_SEC = s.reg aTIM_PPS_SEC := advTo_reg _ _ _
  have hmark : (s.advTo arrival).ppsMark = s.ppsMark := ppsMark_congr (advTo_regs s arrival)
  have hsource : (s.ppsCounted arrival).ppsSource = s.ppsSource := by
    rw [State.ppsSource, ppsCounted_src, State.ppsSource]
  change execPpsInPulse arrival high s = _
  rw [execPpsInPulse, if_pos (by simp [hlock, hin, hhigh])]
  dsimp only
  rw [ppsInWindow_advTo, hreg, hmark, advTo_state, advTo_sel, State.ppsTaken, ← hsource]
  rfl

theorem ppsCounted_keepsRegs : KeepsRegs [aTIM_PPS_SEC] s (s.ppsCounted arrival) := fun o ho =>
  (hwReg_keepsRegs (s.advTo arrival) aTIM_PPS_SEC _ o ho).trans (advTo_reg s arrival o)

theorem ppsCounted_sec : (s.ppsCounted arrival).reg aTIM_PPS_SEC =
    s.reg aTIM_PPS_SEC + (if ((s.advTo arrival).swWrote aTIM_PPS_SEC).isSome then 0 else 1) := by
  have hsec : (s.ppsCounted arrival).reg aTIM_PPS_SEC =
      ((s.advTo arrival).hwReg aTIM_PPS_SEC (s.reg aTIM_PPS_SEC + 1)).reg aTIM_PPS_SEC := rfl
  rw [hsec, hwReg_reg_same, advTo_reg]
  split <;> simp

/-- A pulse near its expected time (R76, R77). -/
theorem ppsTaken_heard (hlock : s.tim.lock = true) (hnow : s.tim.now ≤ arrival) {t : State}
    (ht : (s.ppsCounted arrival).exchange 32 s.ppsSource (2 * ((s.ppsMark : Int) - arrival)) = t) :
    t.reg aTIM_PPS_SEC = s.reg aTIM_PPS_SEC + (if ((s.advTo arrival).swWrote aTIM_PPS_SEC).isSome then 0 else 1) ∧
      t.tim.ppsPrev = some arrival ∧ t.tim.now = arrival ∧
      t.src 32 = { s.src 32 with
        up := true, state := 2, root := true, hops := 0, unc := 0, heard := true, missed := 0, lastClk := t.tim.clk,
        samples := [2 * ((s.ppsMark : Int) - arrival)], okAt := t.srcValid 32, slewAt := (s.advTo arrival).slewTotal } ∧
      (∀ j, j ≠ 32 → t.src j = s.src j) ∧ KeepsRegs (aTIM_PPS_SEC :: logRegs) s t := by
  have htim := ppsCounted_tim s arrival
  have hslew : (s.ppsCounted arrival).slewTotal = (s.advTo arrival).slewTotal := by
    simp only [State.slewTotal, State.residual, htim]
  subst ht
  have hregs := exchange_keepsRegs (s.ppsCounted arrival) 32 s.ppsSource (2 * ((s.ppsMark : Int) - arrival))
  refine ⟨?_, ?_, ?_, ?_, fun j hj => ?_, ?_⟩
  · rw [hregs _ (by decide), ppsCounted_sec]
  · rw [exchange_ppsPrev, htim]
  · rw [exchange_now, htim]
    exact (advTo_now hlock arrival).trans (max_eq_right hnow)
  · rw [exchange_src, State.exchanged, exchange_clk, hslew]
    rfl
  · rw [exchange_src_ne _ _ _ _ hj, ppsCounted_src]
  · exact ((ppsCounted_keepsRegs s arrival).mono (by simp)).trans (hregs.mono (by simp))
end

/-- The state in which a missing or discarded pulse has been noted, and the next one is expected a second on (R77). -/
def State.ppsPassedBy (s : State) : State :=
  let u := (s.bump aTIM_PPS_MISS 1).missed 32
  u.withTim { u.tim with ppsPrev := u.tim.ppsPrev.map (· + 8000000000) }

/-- The third pulse in a row is missed: the next one sets the expectation (R77). -/
def State.ppsGone (s : State) : State := (s.withTim { s.tim with ppsPrev := none }).timEvt 4

theorem ppsMissed_eq (s : State) : s.ppsMissed =
    if (s.ppsPassedBy.src 32).missed = 3 ∧ (s.ppsPassedBy.src 32).heard then s.ppsPassedBy.ppsGone else s.ppsPassedBy := rfl

section
variable (s : State)

theorem ppsGone_tim : s.ppsGone.tim = { s.tim with ppsPrev := none } := by rw [State.ppsGone, timEvt_tim, withTim_tim]

theorem ppsGone_event : s.ppsGone.bit aTIM_EVENT 4 = true := by
  rw [State.ppsGone, State.timEvt, evt_bit _ 2 aTIM_EVENT (by decide) (by decide)]
  simp

theorem ppsGone_keepsRegs : KeepsRegs (blockRegs aTIM_EVENT) s s.ppsGone :=
  (keepsRegs_of_regs _ (withTim_regs s _)).trans (timEvt_steered _ (by decide)).regs

theorem ppsPassedBy_src : s.ppsPassedBy.src 32 = { s.src 32 with missed := (s.src 32).missed + 1, okAt := false } :=
  missed_src (s.bump aTIM_PPS_MISS 1) 32

theorem ppsPassedBy_keepsRegs : KeepsRegs timeRegs (s.bump aTIM_PPS_MISS 1) s.ppsPassedBy :=
  missed_keepsRegs (s.bump aTIM_PPS_MISS 1) 32

theorem ppsMissed_keepsRegs : KeepsRegs timeRegs (s.bump aTIM_PPS_MISS 1) s.ppsMissed := by
  have hpassed := ppsPassedBy_keepsRegs s
  rw [ppsMissed_eq]
  split
  · exact hpassed.trans ((ppsGone_keepsRegs _).mono (List.subset_append_left _ _))
  · exact hpassed

/-- A missing or discarded pulse is counted, and is a miss of source 32 (R77). -/
theorem ppsMissed_effect :
    (s.ppsMissed.src 32).missed = (s.src 32).missed + 1 ∧
      ((s.src 32).missed = 2 → (s.src 32).heard = true → s.ppsMissed.tim.ppsPrev = none ∧ s.ppsMissed.bit aTIM_EVENT 4 = true) ∧
      Counted s s.ppsMissed aTIM_PPS_MISS 1 ∧ KeepsRegs (aTIM_PPS_MISS :: timeRegs) s s.ppsMissed := by
  have hsrc := ppsPassedBy_src s
  refine ⟨?_, fun hmissed hheard => ?_, ?_, ?_⟩
  · have hkept : s.ppsMissed.src 32 = s.ppsPassedBy.src 32 := by
      rw [ppsMissed_eq]
      split
      · exact src_congr (by rw [ppsGone_tim]) 32
      · rfl
    rw [hkept, hsrc]
  · rw [ppsMissed_eq, if_pos (by simp [hsrc, hmissed, hheard]), ppsGone_tim]
    exact ⟨rfl, ppsGone_event _⟩
  · exact .of_bump (.refl [] s) (ppsMissed_keepsRegs s) (by simp) (by decide)
  · exact ((bump_keepsRegs s _ 1).mono (by simp)).trans ((ppsMissed_keepsRegs s).mono (List.subset_cons_self _ _))

/-- The same where time has come on before it. -/
theorem ppsMissed_advTo_effect (a : Nat) :
    ((s.advTo a).ppsMissed.src 32).missed = (s.src 32).missed + 1 ∧
      (s.advTo a).ppsMissed.reg aTIM_PPS_SEC = s.reg aTIM_PPS_SEC ∧ Counted s (s.advTo a).ppsMissed aTIM_PPS_MISS 1 ∧
      KeepsRegs (aTIM_PPS_MISS :: timeRegs) s (s.advTo a).ppsMissed := by
  obtain ⟨hmissed, -, hcount, hregs⟩ := ppsMissed_effect (s.advTo a)
  refine ⟨?_, ?_, ?_, fun o ho => (hregs o ho).trans (advTo_reg s a o)⟩
  · rw [hmissed, src_congr (advTo_srcs s a)]
  · exact (hregs _ (by decide)).trans (advTo_reg s a _)
  · rw [Counted, hcount, advTo_reg]
end

/-! ## FREQ_IN (R78, R713) -/

/-- A correction within 100 ppm is taken as it is. -/
theorem clampCorr_of_le {c : Int} (hlo : -100000 ≤ c) (hhi : c ≤ 100000) : clampCorr c = c := by
  unfold clampCorr
  omega

/-- Settles O16: what a pulse near its time leaves is `ppsTaken_heard`, what a missing one does is `ppsMissed_effect`. The end of the
reference after three misses, FREQ_IN on a designated root and what source 32 advertises are the model's choices (logs 41, 104). -/
theorem ppsAndFreqPins : Obligations.PpsAndFreqPins := by
  unfold Obligations.PpsAndFreqPins
  intro s
  refine ⟨?rise, ?fall, ?short, ?pulse, ?miss, rfl, ?restored⟩
  case rise =>
    intro hlock
    refine ⟨fun c hlast hearly => ⟨_, (exec_ppsOutRise s hlock).trans (congrArg Host.Outcome.next (if_pos ?_)), ?_⟩,
      fun hlate => ⟨_, (exec_ppsOutRise s hlock).trans (congrArg Host.Outcome.next (if_neg ?_)), ?_⟩⟩
    · simpa [hlast] using hearly
    · exact ⟨rfl, rfl, rfl, rfl, rfl, ppsPassed_mask s _ rfl⟩
    · cases hlast : s.tim.ppsLast with
      | none => simp
      | some c => simpa using hlate c hlast
    · exact ⟨rfl, rfl, rfl, rfl, rfl, rfl, (ppsRisen_mask _ rfl rfl).trans (ppsPassed_mask s _ rfl)⟩
  case fall =>
    intro hout hlock
    refine ⟨_, exec_ppsOutFall s hout hlock, rfl, rfl, ?_, ppsFallen_mask s rfl rfl⟩
    change s.tim.clk + (s.tim.now + (s.tim.ppsFall - s.tim.clk) - s.tim.now) = max s.tim.clk s.tim.ppsFall
    omega
  case short =>
    intro arrival high hhigh
    exact congrArg Host.Outcome.next (if_neg (by simp; omega))
  case pulse =>
    intro arrival high hlock hin hnow hhigh
    have hexec := exec_ppsInPulse s arrival hlock hin hhigh
    have honly : ∀ t, exec (.ppsInPulse arrival high) s = .next t →
        Only { regs := true, tim := true, hif := true, log := true, out := true } s t :=
      fun t ht => execPpsInPulse_mask arrival high s _ rfl rfl rfl rfl rfl t ht
    refine ⟨fun hnear => ?_, fun hfar hsel => ?_, fun hfar hsel => ?_⟩
    · rw [State.ppsTaken, if_pos hnear] at hexec
      obtain ⟨hsec, hprev, harrived, hsrc, hothers, hregs⟩ := ppsTaken_heard s arrival hlock hnow rfl
      exact ⟨_, hexec, hsec, hprev, harrived, hsrc, hothers, honly _ hexec, hregs⟩
    · intro hpps
      rw [State.ppsTaken, if_neg (by simp [hfar]), if_pos ⟨hsel, hpps⟩] at hexec
      obtain ⟨hmissed, hsec, hcount, hregs⟩ := ppsMissed_advTo_effect s arrival
      exact ⟨_, hexec, hmissed, hsec, hcount, honly _ hexec, hregs⟩
    · rw [hexec, State.ppsTaken, if_neg (by simp [hfar]), if_neg hsel]
  case miss =>
    intro hlock hin
    have hexec : exec .ppsInMiss s = .next s.ppsMissed := congrArg Host.Outcome.next (if_pos (by simp [hlock, hin]))
    obtain ⟨hmissed, hthird, hcount, hregs⟩ := ppsMissed_effect s
    exact ⟨_, hexec, hmissed, hthird, hcount, execPpsInMiss_mask s _ rfl rfl rfl rfl rfl _ hexec, hregs⟩
  case restored =>
    intro corr hlo hhi
    change execFreqInRestored corr s = _
    rw [execFreqInRestored, clampCorr_of_le hlo hhi]
    cases hen : s.bit aCLK_CTRL 0
    · exact congrArg Host.Outcome.next (if_neg (ne_true_of_eq_false hen))
    · exact congrArg Host.Outcome.next (if_pos hen)

end Sys2Proof.Machine
end

section
/-! PROOFS. Jumps of fabric time, and the end of HOLDOVER (R86, R98–R102). -/

namespace Sys2Proof.Machine

/-- The filtered offset of a source is in its measurements. -/
theorem filtered_congr {s t : State} (h : t.tim.srcs = s.tim.srcs) (i : Nat) : t.filtered i = s.filtered i := by
  simp only [State.filtered, src_congr h]

/-! ## The forward step (R98–R101) -/

section
variable (s : State)

/-- Time jumped on by `k` slots to that before `slot`, which the servo takes note of (R99). -/
def State.stepMoved (k slot : Nat) : State :=
  let u := s.jumped (k * slotUnits)
  (u.withTim { u.tim with slot := slot }).follow u.tim.sel

/-- Time has come to the slot's start and jumped on by the whole slots of the offset (R99). -/
def State.stepJumped : State := (s.advTo (s.tim.slot * slotUnits)).stepMoved s.stepSlots (s.tim.slot + s.stepSlots)

/-- The size of a step in ns and its epoch are recorded (R100). -/
def State.stepSized (ns e : Nat) : State :=
  ((s.setReg aTIM_STEP_SIZE_LO (BitVec.ofNat 32 ns)).setReg aTIM_STEP_SIZE_HI (BitVec.ofNat 32 (ns / 2 ^ 32))).setReg
    aTIM_STEP_EPOCH (BitVec.ofNat 32 e)

/-- A step is recorded: its size and epoch, the end of ARM, its event and log entry, and the slots it skips (R100, R101). -/
def State.stepRecorded (ns e k : Nat) : State :=
  ((((s.stepSized ns e).hwReg aTIM_STEP 0).timEvt 5).offer 0x05 2 dieH 0x80 ns (ns / 2 ^ 32) e 0).bump aTIM_SKIPPED_SLOTS k

/-- The state after a step, before the actions of the slots it skips are passed over. -/
def State.stepped : State := s.stepJumped.stepRecorded (960 * s.stepSlots) (s.tim.slot / 2 ^ 20) s.stepSlots

theorem exec_forwardStep (h : s.stepDue = true) : exec .forwardStep s = .next (
    let v := s.stepped.skipActions s.tim.slot (s.tim.slot + s.stepSlots)
    (if v.rpl.active then v else v.hazard 5).capMark 3 (960 * s.stepSlots)) := by
  change execForwardStep s = _
  rw [execForwardStep, if_pos h]
  dsimp only
  rw [Nat.mul_comm s.stepSlots 960]
  rfl

/-- What a jump of the time unit keeps of it. -/
theorem stepMoved_tim (k slot : Nat) : (s.stepMoved k slot).tim.now = s.tim.now + k * slotUnits ∧
    (s.stepMoved k slot).tim.slot = slot ∧ (s.stepMoved k slot).tim.state = s.tim.state ∧
    (s.stepMoved k slot).tim.sel = s.tim.sel ∧ (s.stepMoved k slot).tim.corr = s.tim.corr := ⟨rfl, rfl, rfl, rfl, rfl⟩

theorem stepMoved_regs (k slot : Nat) : (s.stepMoved k slot).regs = s.regs := rfl

/-- What software has written in the present cycle does not hang on the jump. -/
theorem stepMoved_swWrote (k slot o : Nat) : (s.stepMoved k slot).swWrote o = s.swWrote o := rfl

theorem stepMoved_mask (k slot : Nat) {G : Fields} (htim : G.tim) : (s.stepMoved k slot).mask G = s.mask G := by
  simp only [State.stepMoved, State.follow_mask, withTim_mask, State.jumped_mask, htim]

theorem stepJumped_regs : s.stepJumped.regs = s.regs := by rw [State.stepJumped, stepMoved_regs, advTo_regs]

theorem stepJumped_mask {G : Fields} (htim : G.tim) : s.stepJumped.mask G = s.mask G := by
  rw [State.stepJumped, stepMoved_mask _ _ _ htim, State.advTo_mask _ _ _ htim]

/-- The time unit after a step (R99). -/
theorem stepJumped_tim (hlock : s.tim.lock = true) :
    s.stepJumped.tim.now = max s.tim.now (s.tim.slot * slotUnits) + s.stepSlots * slotUnits ∧
      s.stepJumped.tim.slot = s.tim.slot + s.stepSlots ∧ s.stepJumped.tim.state = s.tim.state ∧
      s.stepJumped.tim.sel = s.tim.sel ∧ s.stepJumped.tim.corr = s.tim.corr := by
  obtain ⟨hnow, hslot, hstate, hsel, hcorr⟩ :=
    stepMoved_tim (s.advTo (s.tim.slot * slotUnits)) s.stepSlots (s.tim.slot + s.stepSlots)
  rw [State.stepJumped, hnow, hslot, hstate, hsel, hcorr, advTo_now hlock, advTo_state, advTo_sel, advTo_corr]
  exact ⟨rfl, rfl, rfl, rfl, rfl⟩

theorem stepRecorded_tim (ns e k : Nat) : (s.stepRecorded ns e k).tim = s.tim := by
  have hhw := hwReg_tim (s.stepSized ns e) aTIM_STEP 0
  have htim : (s.stepRecorded ns e k).tim =
      ((((s.stepSized ns e).hwReg aTIM_STEP 0).timEvt 5).offer 0x05 2 dieH 0x80 ns (ns / 2 ^ 32) e 0).tim := rfl
  rw [htim, offer_tim, timEvt_tim, hhw]
  rfl

theorem stepRecorded_mask (ns e k : Nat) {G : Fields} (hregs : G.regs) (hhif : G.hif) (hlog : G.log) (hout : G.out) :
    (s.stepRecorded ns e k).mask G = s.mask G := by
  simp only [State.stepRecorded, State.stepSized, State.bump_mask, State.offer_mask, State.timEvt_mask, State.hwReg_mask,
    State.setReg_mask, hregs, hhif, hlog, hout]

/-- The registers a step's record names. -/
def stepRegs : List Nat := [aTIM_STEP_SIZE_LO, aTIM_STEP_SIZE_HI, aTIM_STEP_EPOCH, aTIM_STEP, aTIM_SKIPPED_SLOTS]

theorem stepSized_keepsRegs (ns e : Nat) :
    KeepsRegs [aTIM_STEP_SIZE_LO, aTIM_STEP_SIZE_HI, aTIM_STEP_EPOCH] s (s.stepSized ns e) :=
  (((setReg_keepsRegs s _ _).mono (by simp)).trans ((setReg_keepsRegs _ _ _).mono (by simp))).trans
    ((setReg_keepsRegs _ _ _).mono (by simp))

/-- A step's event, and the log entry behind it. -/
theorem timEvt_offer_keepsRegs {bit : Nat} (hb : bit < 8) (cls sub src pav d0 d1 d2 d3 : Nat) :
    KeepsRegs timeRegs s ((s.timEvt bit).offer cls sub src pav d0 d1 d2 d3) :=
  ((timEvt_steered s hb).regs.mono (List.subset_append_left _ _)).trans
    ((offer_keepsRegs _ _ _ _ _ _ _ _ _).mono (List.subset_append_right _ _))

theorem stepRecorded_keepsRegs (ns e k : Nat) : KeepsRegs (stepRegs ++ timeRegs) s (s.stepRecorded ns e k) := by
  have hsized := (stepSized_keepsRegs s ns e).mono (M := stepRegs ++ timeRegs) (by simp [stepRegs])
  have harm := (hwReg_keepsRegs (s.stepSized ns e) aTIM_STEP 0).mono (M := stepRegs ++ timeRegs) (by simp [stepRegs])
  exact ((hsized.trans harm).trans ((timEvt_offer_keepsRegs _ (by decide) _ _ _ _ _ _ _ _).mono
    (List.subset_append_right _ _))).trans ((bump_keepsRegs _ _ _).mono (by simp [stepRegs]))

/-- What is read after a step of what neither its event, its log entry nor the count of its slots may write. -/
theorem stepRecorded_reg (ns e k : Nat) {o : Nat} (hevt : o ∉ timeRegs) (hcount : o ≠ aTIM_SKIPPED_SLOTS) :
    (s.stepRecorded ns e k).reg o = ((s.stepSized ns e).hwReg aTIM_STEP 0).reg o :=
  (bump_reg _ _ _ hcount).trans (timEvt_offer_keepsRegs _ (by decide) _ _ _ _ _ _ _ _ o hevt)

theorem stepRecorded_size (ns e k : Nat) :
    (s.stepRecorded ns e k).reg aTIM_STEP_SIZE_LO = BitVec.ofNat 32 ns ∧
      (s.stepRecorded ns e k).reg aTIM_STEP_SIZE_HI = BitVec.ofNat 32 (ns / 2 ^ 32) ∧
      (s.stepRecorded ns e k).reg aTIM_STEP_EPOCH = BitVec.ofNat 32 e := by
  have hread : ∀ o, o ∉ timeRegs → o ≠ aTIM_SKIPPED_SLOTS → o ≠ aTIM_STEP →
      (s.stepRecorded ns e k).reg o = (s.stepSized ns e).reg o := fun o hevt hcount hstep =>
    (stepRecorded_reg s ns e k hevt hcount).trans (hwReg_keepsRegs _ _ _ o (by simpa using hstep))
  refine ⟨?_, ?_, ?_⟩
  · rw [hread _ (by decide) (by decide) (by decide), State.stepSized, reg_setReg_ne _ _ (by decide),
      reg_setReg_ne _ _ (by decide), reg_setReg]
  · rw [hread _ (by decide) (by decide) (by decide), State.stepSized, reg_setReg_ne _ _ (by decide), reg_setReg]
  · rw [hread _ (by decide) (by decide) (by decide), State.stepSized, reg_setReg]

/-- ARM is cleared where software has not written it in the same SCLK cycle (R100, R725). -/
theorem stepRecorded_arm (ns e k : Nat) :
    (s.stepRecorded ns e k).reg aTIM_STEP = if (s.swWrote aTIM_STEP).isSome then s.reg aTIM_STEP else 0 := by
  have hwrote : (s.stepSized ns e).swWrote aTIM_STEP = s.swWrote aTIM_STEP := rfl
  rw [stepRecorded_reg s ns e k (by decide) (by decide), hwReg_reg_same, hwrote, stepSized_keepsRegs s ns e _ (by decide)]

theorem stepRecorded_event (ns e k : Nat) : (s.stepRecorded ns e k).bit aTIM_EVENT 5 = true := by
  have hkept : (s.stepRecorded ns e k).reg aTIM_EVENT = (((s.stepSized ns e).hwReg aTIM_STEP 0).timEvt 5).reg aTIM_EVENT :=
    (bump_reg _ _ _ (by decide)).trans (offer_keepsRegs _ _ _ _ _ _ _ _ _ _ (by decide))
  rw [bit_of_reg hkept, State.timEvt, evt_bit _ 2 aTIM_EVENT (by decide) (by decide)]
  simp

theorem stepRecorded_counted (ns e k : Nat) : Counted s (s.stepRecorded ns e k) aTIM_SKIPPED_SLOTS k := by
  have hsized := (stepSized_keepsRegs s ns e).mono (M := stepRegs.dropLast ++ timeRegs) (by simp [stepRegs])
  have harm := (hwReg_keepsRegs (s.stepSized ns e) aTIM_STEP 0).mono (M := stepRegs.dropLast ++ timeRegs) (by simp [stepRegs])
  exact .of_bump ((hsized.trans harm).trans ((timEvt_offer_keepsRegs _ (by decide) _ _ _ _ _ _ _ _).mono
    (List.subset_append_right _ _))) (.refl [] _) (by decide) (by simp)

/-- A step needs root lock (R98). -/
theorem lock_of_stepDue (h : s.stepDue = true) : s.tim.lock = true := by
  simp only [State.stepDue, Bool.and_eq_true] at h
  obtain ⟨⟨⟨⟨⟨hlock, -⟩, -⟩, -⟩, -⟩, -⟩ := h
  exact hlock

end

/-! ## The initial load (R102) -/

section
variable (s : State)

/-- The first alignment boundary that fabric time has not passed. -/
def State.loadFrom : Nat := (s.tim.now + 479) / 480 * 480

/-- The first multiple of 60 ns at or after the source's time at that boundary. -/
def State.loadTo : Nat :=
  (((s.loadFrom : Int) * 1441440 + s.filtered s.tim.sel + (480 * 1441440 - 1)) / (480 * 1441440)).toNat * 480

/-- Time has come to the alignment boundary, where the load is done. -/
def State.loadReached : State :=
  (s.advTo s.loadFrom).withTim { (s.advTo s.loadFrom).tim with loadPend := false }

/-- Time moved from `a` to `v`, and the slot counters with it. -/
def State.loadMoved (a v : Nat) : State :=
  let u := s.jumped (v - a)
  u.withTim { u.tim with slot := v / slotUnits + 1, rep0 := v / slotUnits, rep1 := v / slotUnits }

/-- The state after an initial load: time never goes back (R102). -/
def State.loaded : State :=
  let u := if s.loadFrom < s.loadTo then s.loadReached.loadMoved s.loadFrom s.loadTo else s.loadReached
  u.follow u.tim.sel

theorem loadReached_now (hlock : s.tim.lock = true) : s.loadReached.tim.now = s.loadFrom := by
  have hle : s.tim.now ≤ s.loadFrom := by
    unfold State.loadFrom
    omega
  exact (advTo_now hlock _).trans (max_eq_right hle)

theorem exec_initialLoad (hlock : s.tim.lock = true) (hpend : s.tim.loadPend = true) (hidle : s.schedRunning = false) :
    exec .initialLoad s = .next s.loaded := by
  have hoffset : ∀ a, (s.advTo a).filtered (s.advTo a).tim.sel = s.filtered s.tim.sel := fun a => by
    rw [filtered_congr (advTo_srcs s a), advTo_sel]
  change execInitialLoad s = _
  rw [execInitialLoad, if_neg (by simp [hidle]), if_pos (by simp [hlock, hpend])]
  simp only [hoffset]
  rfl

/-- What following a source, and a load's move, keep of the time unit. -/
theorem follow_kept (i : Nat) : (s.follow i).tim.now = s.tim.now ∧ (s.follow i).tim.slot = s.tim.slot ∧
    (s.follow i).tim.state = s.tim.state ∧ (s.follow i).tim.loadPend = s.tim.loadPend := ⟨rfl, rfl, rfl, rfl⟩

theorem loadMoved_tim (a v : Nat) : (s.loadMoved a v).tim.now = s.tim.now + (v - a) ∧
    (s.loadMoved a v).tim.slot = v / slotUnits + 1 ∧ (s.loadMoved a v).tim.state = s.tim.state ∧
    (s.loadMoved a v).tim.loadPend = s.tim.loadPend := ⟨rfl, rfl, rfl, rfl⟩

theorem loadReached_kept : s.loadReached.tim.slot = s.tim.slot ∧ s.loadReached.tim.state = s.tim.state ∧
    s.loadReached.tim.loadPend = false := ⟨advTo_slot s s.loadFrom, advTo_state s s.loadFrom, rfl⟩

/-- An initial load: time goes on to a multiple of 60 ns, never back (R102). -/
theorem loaded_effect (hlock : s.tim.lock = true) :
    s.loaded.tim.now = max s.loadFrom s.loadTo ∧ s.loaded.tim.loadPend = false ∧ s.loaded.tim.state = s.tim.state ∧
      s.loaded.tim.slot ≤ max s.tim.slot (s.loaded.tim.now / slotUnits + 1) := by
  have hreached := loadReached_now s hlock
  obtain ⟨hslot, hstate, hload⟩ := loadReached_kept s
  by_cases h : s.loadFrom < s.loadTo
  · obtain ⟨hnow', hslot', hstate', hload'⟩ := follow_kept (s.loadReached.loadMoved s.loadFrom s.loadTo)
      (s.loadReached.loadMoved s.loadFrom s.loadTo).tim.sel
    obtain ⟨hnow'', hslot'', hstate'', hload''⟩ := loadMoved_tim s.loadReached s.loadFrom s.loadTo
    rw [State.loaded, if_pos h, hnow', hslot', hstate', hload', hnow'', hslot'', hstate'', hload'', hreached,
      Nat.add_sub_of_le h.le]
    exact ⟨(max_eq_right h.le).symm, hload, hstate, le_max_right _ _⟩
  · obtain ⟨hnow', hslot', hstate', hload'⟩ := follow_kept s.loadReached s.loadReached.tim.sel
    rw [State.loaded, if_neg h, hnow', hslot', hstate', hload', hreached, hslot]
    exact ⟨(max_eq_left (not_lt.mp h)).symm, hload, hstate, le_max_left _ _⟩
end

/-- Settles O14: a step leaves what `stepJumped` and `stepRecorded` say, an initial load what `loaded_effect` says. -/
theorem stepAndInitialLoad : Obligations.StepAndInitialLoad := by
  unfold Obligations.StepAndInitialLoad
  intro s
  refine ⟨?noStep, ?step, ?noLoad, ?running, ?load, ?holds, ?expires⟩
  case noStep => exact fun h => congrArg Host.Outcome.next (if_neg (ne_true_of_eq_false h))
  case step =>
    intro h
    have hlock := lock_of_stepDue s h
    have htim : s.stepped.tim = s.stepJumped.tim := stepRecorded_tim _ _ _ _
    have hkeeps : ∀ o, s.stepJumped.reg o = s.reg o := fun o => keepsRegs_of_regs [] (stepJumped_regs s) o (by simp)
    obtain ⟨hnow, hslot, hstate, hsel, hcorr⟩ := stepJumped_tim s hlock
    obtain ⟨hlo, hhi, hepoch⟩ := stepRecorded_size s.stepJumped (960 * s.stepSlots) (s.tim.slot / 2 ^ 20) s.stepSlots
    refine ⟨s.stepped, ?_, ?_, ?_, ?_, ?_, hlo, hhi, hepoch, stepRecorded_event _ _ _ _, ?_, ?_, ?_, ?_, exec_forwardStep s h⟩
    · rw [htim, hnow]
    · rw [htim, hslot]
    · rw [htim, hstate]
    · rw [htim, hsel]
    · rw [htim, hcorr]
    · rw [State.stepped, stepRecorded_arm, hkeeps, State.stepJumped, stepMoved_swWrote]
    · rw [Counted, ← hkeeps aTIM_SKIPPED_SLOTS]
      exact stepRecorded_counted _ _ _ _
    · exact (stepRecorded_mask s.stepJumped _ _ _ rfl rfl rfl rfl).trans (stepJumped_mask s rfl)
    · rw [List.append_assoc]
      exact (keepsRegs_of_regs _ (stepJumped_regs s)).trans (stepRecorded_keepsRegs _ _ _ _)
  case noLoad =>
    intro h
    change execInitialLoad s = _
    rw [execInitialLoad, h, Bool.false_and, if_neg Bool.false_ne_true, if_neg Bool.false_ne_true]
  case running =>
    intro hlock hrun hpend
    exact congrArg Host.Outcome.next (if_pos (by simp [hlock, hrun, hpend]))
  case load =>
    intro hlock hpend hidle
    have hexec := exec_initialLoad s hlock hpend hidle
    obtain ⟨hnow, hload, hstate, hslot⟩ := loaded_effect s hlock
    have hfrom : s.tim.now ≤ s.loadFrom ∧ s.loadFrom % 480 = 0 := by
      unfold State.loadFrom
      omega
    have hto : s.loadTo % 480 = 0 := Nat.mul_mod_left _ _
    refine ⟨_, hexec, hnow, ?_, ?_, hload, hstate, hslot, execInitialLoad_mask s _ rfl _ hexec⟩ <;> rw [hnow] <;> omega
  case holds => exact fun h => congrArg Host.Outcome.next (if_neg (ne_true_of_eq_false h))
  case expires =>
    intro h
    have hexec : exec .holdoverExpire s = .next s.toFreerun := congrArg Host.Outcome.next (if_pos h)
    refine ⟨_, hexec, toFreerun_tim s, ?_, execHoldoverExpire_mask s _ rfl rfl rfl rfl rfl _ hexec, (toFreerun_steered s).regs⟩
    rw [toFreerun_eq]
    exact timEvt_logTime_bit _ (by decide) 4

end Sys2Proof.Machine
end

section
/-! PROOFS. The heads of the action queues, and their refill (R58–R61, R92, R504, R516, R517). -/

namespace Sys2Proof.Machine

/-! ## The head of a queue -/

/-- The eleven action KINDs and the command that takes each. -/
def actionKinds : List (Nat × (Nat → Instr)) :=
  [(1, .cellLaunch), (2, .mxuLaunch), (3, .streamSend), (4, .streamDecode), (5, .streamUpdate), (6, .prefetch),
   (8, .colStart), (9, .colLaunch), (0xA, .colUp), (0xB, .colDown), (0x10, .portRest)]

/-- Each of the eleven commands takes the head of the die's queue. -/
theorem exec_takeHead : ∀ p ∈ actionKinds, ∀ die, ∃ act missed, ∀ s : State,
    exec (p.2 die) s = .next (s.takeHead die p.1 act missed) := by
  simp only [actionKinds, List.forall_mem_cons]
  refine ⟨?cellLaunch, ?mxuLaunch, ?streamSend, ?streamDecode, ?streamUpdate, ?prefetch, ?colStart, ?colLaunch, ?colUp, ?colDown,
    ?portRest, by simp⟩
  all_goals exact fun die => ⟨_, _, fun s => rfl⟩

/-- The two KINDs of which an action that does not fire leaves nothing but its count. -/
theorem exec_takeHead_uncounted : ∀ p ∈ [(6, Instr.prefetch), (0x10, Instr.portRest)], ∀ die, ∃ act, ∀ s : State,
    exec (p.2 die) s = .next (s.takeHead die p.1 act fun s _ _ => s) := by
  simp only [List.forall_mem_cons]
  refine ⟨?prefetch, ?portRest, by simp⟩
  all_goals exact fun die => ⟨_, fun s => rfl⟩

section
variable {s : State} {die kind : Nat} {act : State → QAction → Nat → State} {missed : State → QAction → Bool → State}
  {a : QAction} {q : List QAction}

theorem takeHead_of_empty (h : s.queue die = []) : s.takeHead die kind act missed = s := by
  rw [State.takeHead, h]

/-- The head leaves the queue. -/
theorem dropHead_of_queue (h : s.queue die = a :: q) : s.dropHead die = s.setQueue die q := by
  rw [State.dropHead, h]
  rfl

/-- The head is taken by the KIND it has, while the bandstands are in step and not stopped, in the order of R499. -/
def State.takes (s : State) (die kind : Nat) (a : QAction) : Bool :=
  !(decide (a.act.kind ≠ kind) || s.sched.desync || !s.running || !(a.late || s.firstFires die a))

theorem takes_iff : s.takes die kind a = true ↔
    a.act.kind = kind ∧ s.sched.desync = false ∧ s.running = true ∧ (a.late = true ∨ s.firstFires die a = true) := by
  simp [State.takes, and_assoc]

/-- What taking the head does with it (R59, R61, R92, R101, R517). -/
theorem takeHead_of_head (h : s.queue die = a :: q) : s.takeHead die kind act missed =
    if s.takes die kind a = false then s
    else if s.inSchedule a.slot = false then s.setQueue die q
    else if s.skipped a.slot = true then missed ((s.setQueue die q).bump aTIM_SKIPPED_ACTIONS 1) a false
    else if a.late = true then (missed ((s.setQueue die q).bump16 aTIM_BST_LATE die 1) a true).hazard 6
    else if (a.act.xs && (s.fired die a).withheld) = true then missed ((s.fired die a).bump aTIM_WITHHELD_ACTIONS 1) a false
    else act (s.fired die a) a (s.fireCycle die a) := by
  rw [← dropHead_of_queue h, State.takeHead, h]
  simp only [State.takes, Bool.not_eq_false', Bool.not_eq_true']
  rfl

theorem takeHead_of_not_takes (h : s.queue die = a :: q) (htakes : s.takes die kind a = false) :
    s.takeHead die kind act missed = s := by
  rw [takeHead_of_head h, if_pos htakes]

theorem takeHead_of_outside (h : s.queue die = a :: q) (htakes : s.takes die kind a = true) (hslot : s.inSchedule a.slot = false) :
    s.takeHead die kind act missed = s.setQueue die q := by
  rw [takeHead_of_head h, if_neg (by simp [htakes]), if_pos hslot]

theorem takeHead_of_skipped (h : s.queue die = a :: q) (htakes : s.takes die kind a = true) (hslot : s.inSchedule a.slot = true)
    (hskip : s.skipped a.slot = true) :
    s.takeHead die kind act missed = missed ((s.setQueue die q).bump aTIM_SKIPPED_ACTIONS 1) a false := by
  rw [takeHead_of_head h, if_neg (by simp [htakes]), if_neg (by simp [hslot]), if_pos hskip]

theorem takeHead_of_late (h : s.queue die = a :: q) (htakes : s.takes die kind a = true) (hslot : s.inSchedule a.slot = true)
    (hskip : s.skipped a.slot = false) (hlate : a.late = true) :
    s.takeHead die kind act missed = (missed ((s.setQueue die q).bump16 aTIM_BST_LATE die 1) a true).hazard 6 := by
  rw [takeHead_of_head h, if_neg (by simp [htakes]), if_neg (by simp [hslot]), if_neg (by simp [hskip]), if_pos hlate]

/-- WITHHOLD does not change while an action fires. -/
theorem fired_withheld (s : State) (die : Nat) (a : QAction) : (s.fired die a).withheld = s.withheld := by
  have hmoved : (s.dropHead die |>.toCyc (s.fireCycle die a)).withheld = s.withheld := by
    rw [State.toCyc, State.advTo]
    split <;> rfl
  rw [← hmoved, State.fired]
  dsimp only
  split <;> rfl

theorem takeHead_of_withheld (h : s.queue die = a :: q) (htakes : s.takes die kind a = true) (hslot : s.inSchedule a.slot = true)
    (hskip : s.skipped a.slot = false) (hlate : a.late = false) (hxs : (a.act.xs && s.withheld) = true) :
    s.takeHead die kind act missed = missed ((s.fired die a).bump aTIM_WITHHELD_ACTIONS 1) a false := by
  rw [takeHead_of_head h, if_neg (by simp [htakes]), if_neg (by simp [hslot]), if_neg (by simp [hskip]),
    if_neg (by simp [hlate]), fired_withheld, if_pos hxs]
end

/-! ## The refill (R516) -/

/-- The next action joins a die's queue, and its refill engine goes on in the second cycle after. -/
def State.refilled (s : State) (die : Nat) (a : QAction) : State :=
  let u := s.setQueue die (s.queue die ++ [a])
  let c := u.fillCycle die + 2
  { u with sched := if die = 0 then { u.sched with pos0 := u.sched.pos0 + 1, fill0 := c }
                    else { u.sched with pos1 := u.sched.pos1 + 1, fill1 := c } }

section
variable (s : State) (die : Nat)

theorem exec_actionRefill {a : QAction} (hlaunched : s.sched.launched = true) (hdesync : s.sched.desync = false)
    (hrun : s.running = true) (hroom : (s.queue die).length < 64) (hnext : s.nextAct die = some a) :
    exec (.actionRefill die) s = .next (s.refilled die a) := by
  change execActionRefill die s = _
  rw [execActionRefill, if_pos (by simp [hlaunched, hdesync, hrun, hroom]), hnext]
  rfl

theorem exec_actionRefill_idle (h : 64 ≤ (s.queue die).length ∨ s.sched.launched = false ∨ s.sched.desync = true ∨
    s.running = false ∨ s.nextAct die = none) : exec (.actionRefill die) s = .next s := by
  change execActionRefill die s = _
  rw [execActionRefill]
  split
  next hgo =>
    simp only [Bool.and_eq_true, Bool.not_eq_true', decide_eq_true_eq] at hgo
    obtain ⟨⟨⟨hlaunched, hdesync⟩, hroom⟩, hrun⟩ := hgo
    have hnext : s.nextAct die = none := by
      simpa [hlaunched, hdesync, hrun, hroom.not_ge] using h
    rw [hnext]
  next => rfl

/-- A refill appends to the queue of its die, and leaves the other's. -/
theorem refilled_effect (a : QAction) :
    (s.refilled die a).queue die = s.queue die ++ [a] ∧ (s.refilled die a).qpos die = s.qpos die + 1 ∧
      (∀ e, (e = 0 ↔ die ≠ 0) → (s.refilled die a).queue e = s.queue e ∧ (s.refilled die a).qpos e = s.qpos e) ∧
      Only { sched := true } s (s.refilled die a) := by
  by_cases hdie : die = 0
  · subst hdie
    refine ⟨rfl, rfl, fun e he => ?_, rfl⟩
    have hother : e ≠ 0 := fun h => he.mp h rfl
    simp only [State.refilled, State.setQueue, State.queue, State.qpos, if_neg hother, if_true, and_self]
  · refine ⟨?_, ?_, fun e he => ?_, ?_⟩
    · simp only [State.refilled, State.setQueue, State.queue, if_neg hdie]
    · simp only [State.refilled, State.setQueue, State.qpos, if_neg hdie]
    · have hother : e = 0 := he.mpr hdie
      simp only [State.refilled, State.setQueue, State.queue, State.qpos, if_neg hdie, hother, if_true, and_self]
    · rw [State.refilled, if_neg hdie]
      rfl
end

/-- Settles O17: the eleven commands take the head by `takeHead_of_head`, whatever its KIND does then. -/
theorem actionQueues : Obligations.ActionQueues := by
  unfold Obligations.ActionQueues
  refine ⟨?heads, ?counts, ?refill⟩
  case heads =>
    intro p hp s die
    obtain ⟨act, missed, hexec⟩ := exec_takeHead p hp die
    refine ⟨fun hnone => ?_, fun a q hq hstays => ?_, fun a q hq hkind hstep hrun hfires hslot => ?_⟩
    · rw [hexec, takeHead_of_empty hnone]
    · have htakes : s.takes die p.1 a ≠ true := by
        rw [Ne, takes_iff]
        rintro ⟨hkind, hstep, hrun, hfires⟩
        simp [hkind, hstep, hrun] at hstays
        simp [hstays] at hfires
      rw [hexec, takeHead_of_not_takes hq (eq_false_of_ne_true htakes)]
    · rw [hexec, takeHead_of_outside hq (takes_iff.mpr ⟨hkind, hstep, hrun, hfires⟩) hslot]
  case counts =>
    intro p hp s die a q hq hkind hstep hrun hslot
    obtain ⟨act, hexec⟩ := exec_takeHead_uncounted p hp die
    refine ⟨fun hfires hskip => ?_, fun hskip hlate => ?_, fun hskip hlate hfirst hxs => ?_⟩
    · rw [hexec, takeHead_of_skipped hq (takes_iff.mpr ⟨hkind, hstep, hrun, hfires⟩) hslot hskip]
    · rw [hexec, takeHead_of_late hq (takes_iff.mpr ⟨hkind, hstep, hrun, .inl hlate⟩) hslot hskip hlate]
    · rw [hexec, takeHead_of_withheld hq (takes_iff.mpr ⟨hkind, hstep, hrun, .inr hfirst⟩) hslot hskip hlate hxs]
  case refill =>
    intro s die
    refine ⟨fun a hlaunched hstep hrun hroom hnext => ?_, exec_actionRefill_idle s die⟩
    exact ⟨_, exec_actionRefill s die hlaunched hstep hrun hroom hnext, refilled_effect s die a⟩

end Sys2Proof.Machine
end

section
/-! SUPPORT. A host command is taken and completes (R555, R568, R572–R574, R576, R579, R580, R582). -/

namespace Sys2Proof.Machine

/-! ## Events of a function -/

/-- Between `s` and `t` a vector may have been raised (R580): of the host port only its pending bits have changed, and what had
been sent still is. -/
structure Raised (s t : State) : Prop where
  hif : t.hif = { s.hif with msixPend := t.hif.msixPend }
  out : ∀ e ∈ s.out, e ∈ t.out

namespace Raised

theorem refl (s : State) : Raised s s := ⟨rfl, fun _ h => h⟩

theorem trans {s t u : State} (h : Raised s t) (h' : Raised t u) : Raised s u :=
  ⟨by rw [h'.hif, h.hif], fun e he => h'.out e (h.out e he)⟩

section
variable {s t : State} (h : Raised s t)
include h

theorem taken : t.hif.taken = s.hif.taken := by rw [h.hif]

theorem sq (f i : Nat) : t.sq f i = s.sq f i := by rw [State.sq, h.hif, State.sq]

theorem cq (f j : Nat) : t.cq f j = s.cq f j := by rw [State.cq, h.hif, State.cq]
end

end Raised

section
variable (s : State)

theorem raiseVec_raised (f vec : Nat) : Raised s (s.raiseVec f vec) := by
  refine ⟨raiseVec_hif s f vec, fun e he => ?_⟩
  unfold State.raiseVec
  split
  · exact List.mem_cons_of_mem _ he
  · exact he

theorem setW1c_raised (ev bit limit : Nat) : Raised s (s.setW1c ev bit limit) := by
  have hout : (s.setW1c ev bit limit).out = s.out :=
    eq_of_mask State.out (State.setW1c_mask s ev bit limit { regs := true } rfl) fun _ => rfl
  exact ⟨by rw [setW1c_hif], fun e he => hout ▸ he⟩

theorem noteSet_raised (ev bit : Nat) : Raised s (s.noteSet ev bit) := by
  unfold State.noteSet
  split
  · exact .refl s
  · exact ⟨rfl, fun _ he => he⟩

theorem fnEvt1_raised (f bit : Nat) : Raised s (s.fnEvt1 f bit) := by
  have hset := setW1c_raised s (aHIF_FN_EVENT f) bit 8
  unfold State.fnEvt1
  dsimp only
  split
  · exact (hset.trans (raiseVec_raised _ _ _)).trans (noteSet_raised _ _ _)
  · exact hset

theorem blockEvent_raised (blk : Nat) : Raised s (s.blockEvent blk) := by
  unfold State.blockEvent
  split
  · exact fnEvt1_raised s 0 7
  · exact .refl s

theorem fnEvt_raised (f bit : Nat) : Raised s (s.fnEvt f bit) := by
  have hevent : ∀ u : State, Raised u ((u.fnEvt1 f bit).blockEvent 3) := fun u =>
    (fnEvt1_raised u f bit).trans (blockEvent_raised _ 3)
  unfold State.fnEvt State.oneCycle
  split
  · exact hevent s
  · obtain ⟨hhif, hout⟩ := hevent { s with recent := ⟨openCycle, [], [], []⟩ }
    exact ⟨hhif, hout⟩

/-- The bits of a function's event register after one of them is set. -/
theorem fnEvt1_bit (f bit : Nat) {i : Nat} (hi : i < 32) :
    (s.fnEvt1 f bit).bit (aHIF_FN_EVENT f) i = (s.bit (aHIF_FN_EVENT f) i || decide (bit = i)) := by
  have hreg : (s.fnEvt1 f bit).reg (aHIF_FN_EVENT f) = s.reg (aHIF_FN_EVENT f) ||| BitVec.ofNat 32 (2 ^ bit) := by
    unfold State.fnEvt1
    dsimp only
    split
    · rw [noteSet_reg, raiseVec_reg, setW1c_reg_same]
    · rw [setW1c_reg_same]
  change ((s.fnEvt1 f bit).reg _).getLsbD i = ((s.reg _).getLsbD i || decide (bit = i))
  rw [hreg, BitVec.getLsbD_or, ofNat32_getLsbD _ hi, bitOf, Nat.testBit_two_pow]

/-- An event of the PF is on record after it. -/
theorem fnEvt_bit {bit : Nat} (hb : bit < 32) : (s.fnEvt 0 bit).bit (aHIF_FN_EVENT 0) bit = true := by
  have hevent : ∀ u : State, ((u.fnEvt1 0 bit).blockEvent 3).bit (aHIF_FN_EVENT 0) bit = true := fun u => by
    have hset : (u.fnEvt1 0 bit).bit (aHIF_FN_EVENT 0) bit = true := by simp [fnEvt1_bit u 0 bit hb]
    unfold State.blockEvent
    split
    · rw [fnEvt1_bit _ 0 7 hb, hset, Bool.true_or]
    · exact hset
  unfold State.fnEvt State.oneCycle
  split
  · exact hevent s
  · exact hevent { s with recent := ⟨openCycle, [], [], []⟩ }
end

/-! ## Entries of a CQ -/

section
variable (s : State) (f j : Nat) (c : Cpl)

/-- The entry at a CQ's tail is written with its phase, and the tail moves on (R574). -/
def State.cqEntered : State :=
  let q := s.cq f j
  let wrap := q.tail + 1 == s.ringSize (aCQ_CTRL f j)
  let irq := s.bit (aCQ_CTRL f j) 1
  (s.emit (.cqe f j q.tail (s.ringBase (aCQ_BASE_LO f j) + 32 * q.tail) (c.bytes q.phase))).setCq f j
    { q with tail := if wrap then 0 else q.tail + 1, phase := q.phase != wrap,
             pend := if irq then min 255 (q.pend + 1) else q.pend,
             first := if irq && q.pend == 0 then s.tim.clk else q.first }

theorem cqWrite_eq : s.cqWrite f j c = (s.cqEntered f j c).cqCount f j := rfl

/-- A CQ whose count is reached, but for its vector (R581). -/
def State.cqSettled : State := s.setCq f j { s.cq f j with pend := 0 }

theorem cqCount_raised : Raised s (s.cqCount f j) ∨ Raised (s.cqSettled f j) (s.cqCount f j) := by
  unfold State.cqCount
  dsimp only
  split
  · exact .inr (raiseVec_raised _ _ _)
  · exact .inl (.refl s)

/-- What counting an entry keeps (R581). -/
theorem cqCount_kept : ((s.cqCount f j).cq f j).tail = (s.cq f j).tail ∧ ((s.cqCount f j).cq f j).phase = (s.cq f j).phase ∧
    (∀ f' i, (s.cqCount f j).sq f' i = s.sq f' i) ∧ (s.cqCount f j).hif.taken = s.hif.taken ∧
    ∀ e ∈ s.out, e ∈ (s.cqCount f j).out := by
  obtain h | h := cqCount_raised s f j
  · exact ⟨by rw [h.cq], by rw [h.cq], h.sq, h.taken, h.out⟩
  · have hcq : (s.cqCount f j).cq f j = { s.cq f j with pend := 0 } := by rw [h.cq, State.cqSettled, cq_setCq]
    exact ⟨by rw [hcq], by rw [hcq], h.sq, h.taken, h.out⟩

/-- An entry written to a CQ (R572, R574). -/
theorem cqWrite_effect :
    .cqe f j (s.cq f j).tail (s.ringBase (aCQ_BASE_LO f j) + 32 * (s.cq f j).tail) (c.bytes (s.cq f j).phase) ∈
        (s.cqWrite f j c).out ∧
      ((s.cqWrite f j c).cq f j).tail =
        (if (s.cq f j).tail + 1 = s.ringSize (aCQ_CTRL f j) then 0 else (s.cq f j).tail + 1) ∧
      ((s.cqWrite f j c).cq f j).phase =
        (if (s.cq f j).tail + 1 = s.ringSize (aCQ_CTRL f j) then !(s.cq f j).phase else (s.cq f j).phase) ∧
      (∀ f' i, (s.cqWrite f j c).sq f' i = s.sq f' i) ∧ (s.cqWrite f j c).hif.taken = s.hif.taken ∧
      ∀ e ∈ s.out, e ∈ (s.cqWrite f j c).out := by
  obtain ⟨htail, hphase, hsq, htaken, hout⟩ := cqCount_kept (s.cqEntered f j c) f j
  rw [cqWrite_eq]
  refine ⟨hout _ List.mem_cons_self, ?_, ?_, hsq, htaken, fun e he => hout e (List.mem_cons_of_mem _ he)⟩
  · rw [htail, State.cqEntered, cq_setCq]
    simp only [beq_iff_eq]
  · rw [hphase, State.cqEntered, cq_setCq]
    by_cases hwrap : (s.cq f j).tail + 1 = s.ringSize (aCQ_CTRL f j)
    · simp [hwrap]
    · simp [beq_false_of_ne hwrap, if_neg hwrap]

/-- A write to a CQ that PCIe does not take (R579). -/
theorem cqFail_effect :
    ((s.cqFail f j).cq f j).error = true ∧ ((s.cqFail f j).cq f j).tail = (s.cq f j).tail ∧
      (∀ f' i, (s.cqFail f j).sq f' i = s.sq f' i) ∧ (s.cqFail f j).hif.taken = s.hif.taken ∧
      ∀ e ∈ s.out, e ∈ (s.cqFail f j).out := by
  have h := fnEvt_raised (s.setCq f j { s.cq f j with error := true }) f 3
  have hcq : (s.cqFail f j).cq f j = { s.cq f j with error := true } := by rw [State.cqFail, h.cq, cq_setCq]
  exact ⟨by rw [hcq], by rw [hcq], h.sq, h.taken, h.out⟩

theorem cqFail_reg {o : Nat} (hf : o ∉ evtRegs (aHIF_FN_EVENT f)) (h0 : o ∉ evtRegs (aHIF_FN_EVENT 0)) :
    (s.cqFail f j).reg o = s.reg o :=
  fnEvt_reg (s.setCq f j { s.cq f j with error := true }) f 3 (by decide) hf h0

theorem cqWrite_regs : (s.cqWrite f j c).regs = s.regs :=
  eq_of_mask State.regs (State.cqWrite_mask s f j c { hif := true, out := true } rfl rfl) fun _ => rfl
end

/-! ## Commands taken -/

/-- The number of a command that is taken lies above those of all that have been. -/
theorem lt_freshNo (s : State) {t : Taken} (h : t ∈ s.hif.taken) : t.no < s.freshNo := by
  have hfold : ∀ (l : List Taken) (m : Nat), m ≤ l.foldl (fun m t => max m (t.no + 1)) m ∧
      ∀ t ∈ l, t.no < l.foldl (fun m t => max m (t.no + 1)) m := by
    intro l
    induction l with
    | nil => exact fun m => ⟨le_rfl, by simp⟩
    | cons x l ih =>
      intro m
      obtain ⟨hstart, hrest⟩ := ih (max m (x.no + 1))
      refine ⟨(le_max_left _ _).trans hstart, fun t ht => ?_⟩
      obtain rfl | ht := List.mem_cons.mp ht
      · exact (le_max_right m (t.no + 1)).trans hstart
      · exact hrest t ht
  obtain ⟨-, hless⟩ := hfold s.hif.taken 1
  exact hless t h

/-- A command as it is noted when it is taken (R561). -/
def State.takenAs (s : State) (d : Desc) : Taken :=
  ⟨s.freshNo, d.fn, d.sq, s.fld (aSQ_CTRL d.fn d.sq) 23 16, d.cid, d.quiet, false, d.cplOk, none⟩

/-- A command is taken at the present time. -/
def State.takeNow (s : State) (d : Desc) : State :=
  let u := s.fetchDesc d.fn d.sq
  let h := { u.hif with nextTake := s.tim.clk + 2048, turnFn := (d.fn + 1) % 64,
                        turnSq := tblSet s.hif.turnSq d.fn ((d.sq + 1) % 256) }
  let v := { u with hif := h }.setSq d.fn d.sq
    { s.sq d.fn d.sq with head := ((s.sq d.fn d.sq).head + 1) % s.ringSize (aSQ_CTRL d.fn d.sq), fenced := false }
  { v with hif := { v.hif with taken := s.hif.taken ++ [s.takenAs d] } }.bump aHIF_CMD_TAKEN 1

theorem take_eq (s : State) (d : Desc) : s.take d = (s.advTo (s.nowAt s.hif.nextTake)).takeNow d := rfl

/-- What taking a command changes (R555, R557, R561). -/
theorem take_effect (s : State) (d : Desc) :
    ((s.take d).sq d.fn d.sq).head = ((s.sq d.fn d.sq).head + 1) % s.ringSize (aSQ_CTRL d.fn d.sq) ∧
      (s.take d).out = .fetch d.fn d.sq (s.sq d.fn d.sq).head
        (s.ringBase (aSQ_BASE_LO d.fn d.sq) + 64 * (s.sq d.fn d.sq).head) :: s.out ∧
      (∀ f j, (s.take d).cq f j = s.cq f j) ∧ (s.take d).hif.taken = s.hif.taken ++ [s.takenAs d] ∧
      Counted s (s.take d) aHIF_CMD_TAKEN 1 ∧ KeepsRegs [aHIF_CMD_TAKEN] s (s.take d) := by
  have hnow : ∀ u : State, ((u.takeNow d).sq d.fn d.sq).head = ((u.sq d.fn d.sq).head + 1) % u.ringSize (aSQ_CTRL d.fn d.sq) ∧
      (u.takeNow d).out = .fetch d.fn d.sq (u.sq d.fn d.sq).head
        (u.ringBase (aSQ_BASE_LO d.fn d.sq) + 64 * (u.sq d.fn d.sq).head) :: u.out ∧
      (∀ f j, (u.takeNow d).cq f j = u.cq f j) ∧ (u.takeNow d).hif.taken = u.hif.taken ++ [u.takenAs d] ∧
      Counted u (u.takeNow d) aHIF_CMD_TAKEN 1 ∧ KeepsRegs [aHIF_CMD_TAKEN] u (u.takeNow d) := fun u =>
    ⟨congrArg SqState.head (tblGet_tblSet_same ..), rfl, fun _ _ => rfl, rfl, bump_same _ _ _, bump_keepsRegs _ _ _⟩
  rw [take_eq, State.advTo]
  split
  · exact hnow { s with tim := _ }
  · exact hnow s

/-- The command taken last is the one its descriptor names. -/
theorem noOf_of_taken {v : State} {d : Desc} {l : List Taken} {t : Taken} (htaken : v.hif.taken = l ++ [t])
    (hd : isTaken d.fn d.sq d.cid t = true) : v.noOf d = t.no := by
  rw [State.noOf, htaken, List.reverse_append, List.reverse_singleton, List.singleton_append, List.find?_cons_of_pos hd]

section
variable {v : State} {l : List Taken} {t : Taken} (htaken : v.hif.taken = l ++ [t]) (hno : ∀ x ∈ l, x.no ≠ t.no)
include htaken hno

theorem dropTaken_taken : (v.dropTaken t.no).hif.taken = l := by
  have hkeep : l.filter (fun x => x.no != t.no) = l := List.filter_eq_self.mpr fun x hx => by simpa using hno x hx
  change v.hif.taken.filter (fun x => x.no != t.no) = l
  rw [htaken, List.filter_append, hkeep]
  simp

theorem find_taken : v.hif.taken.find? (fun x => x.no == t.no) = some t := by
  have hnone : l.find? (fun x => x.no == t.no) = none := List.find?_eq_none.mpr fun x hx => by simpa using hno x hx
  rw [htaken, List.find?_append, hnone]
  simp

/-- A command that was taken last, asks for its completion, and whose CQ has room and has lost nothing, completes (R573, R576,
R579). -/
theorem cmdEnd_of_taken {d : Desc} (hd : isTaken d.fn d.sq d.cid t = true) (horphan : t.orphan = false)
    (hquiet : t.quiet = false) (hlost : (v.cq t.fn t.cq).lost = 0) (hroom : v.cqRoom t.fn t.cq = true) :
    v.cmdEnd d 0 0 0 = if t.cplOk then (v.dropTaken t.no).cqWrite t.fn t.cq (v.cmdCpl t 0 0 0)
      else (v.dropTaken t.no).cqFail t.fn t.cq := by
  have hover : v.cqOverflow t.fn t.cq = v := by
    rw [State.cqOverflow, if_neg (by simp [hlost])]
  rw [State.cmdEnd, noOf_of_taken htaken hd, State.cmdDone, find_taken htaken hno]
  dsimp only
  rw [if_pos rfl, if_neg (by simp [horphan, hquiet]), hover, if_pos hroom, Bool.true_and]
end

end Sys2Proof.Machine
end

section
/-! PROOFS. TIME_ARM and its completion (R100, R555, R568, R572–R574, R576). -/

namespace Sys2Proof.Machine

/-- What a write of ARM to TIM_STEP leaves, which software makes (R100, R725). -/
def State.armed (s : State) (arm : Bool) : State := (s.setFld aTIM_STEP 0 0 (b2n arm)).noteSw aTIM_STEP (s.reg aTIM_STEP)

section
variable (s : State) (arm : Bool)

theorem armed_bit : (s.armed arm).bit aTIM_STEP 0 = arm := by
  have hword : (s.armed arm).reg aTIM_STEP = BitVec.ofNat 32 ((s.reg aTIM_STEP).toNat -
      ((s.reg aTIM_STEP).toNat &&& 1) + b2n arm % 2) := reg_setReg _ _ _
  change ((s.armed arm).reg aTIM_STEP).getLsbD 0 = arm
  rw [hword, ofNat32_getLsbD _ (by decide), bitOf, Nat.testBit_zero, Nat.and_one_is_mod]
  cases arm with
  | false =>
    refine decide_eq_false ?_
    change ¬ ((s.reg aTIM_STEP).toNat - (s.reg aTIM_STEP).toNat % 2 + 0 % 2) % 2 = 1
    omega
  | true =>
    refine decide_eq_true ?_
    change ((s.reg aTIM_STEP).toNat - (s.reg aTIM_STEP).toNat % 2 + 1 % 2) % 2 = 1
    omega

theorem armed_keepsRegs : KeepsRegs [aTIM_STEP] s (s.armed arm) := setReg_keepsRegs s _ _

/-- Where a CQ has room does not hang on TIM_STEP. -/
theorem armed_cqRoom (f j : Nat) (hctrl : aCQ_CTRL f j ≠ aTIM_STEP) : (s.armed arm).cqRoom f j = s.cqRoom f j := by
  have hreg : (s.armed arm).reg (aCQ_CTRL f j) = s.reg (aCQ_CTRL f j) := armed_keepsRegs s arm _ (by simpa using hctrl)
  simp only [State.cqRoom, State.cqOn, State.cqFree, State.ringSize, State.fld, State.bit, hreg]
  rfl
end

/-- The registers of a queue lie in its function's page. -/
theorem ne_of_fnPage {f o p : Nat} (ho : o < 0x38000) (hp : fnPage f ≤ p) : p ≠ o := by
  unfold fnPage at hp
  split at hp <;> omega

theorem exec_timeArm {d : Desc} {s : State} (arm : Bool) (h : Serves s d) (hfn : d.fn = 0) :
    exec (.timeArm d arm) s = .next (((s.take d).armed arm).cmdEnd d 0 0 0) := by
  obtain ⟨htake, hread, hrsv⟩ := h
  change execTimeArm d arm s = _
  rw [execTimeArm, State.hostCmd, if_neg (by simp [htake]), if_neg (by simp [hread])]
  dsimp only
  rw [if_neg (by simp [hrsv]), if_neg (by simp [hfn])]
  rfl

/-- The state after a TIME_ARM but for the entry its completion writes: taken, executed, and no longer among the commands taken. -/
def State.timeArmed (s : State) (d : Desc) (arm : Bool) : State := ((s.take d).armed arm).dropTaken s.freshNo

/-- The completion of a TIME_ARM (R573). -/
def State.timeArmCpl (s : State) (d : Desc) : Cpl :=
  ⟨d.cid, 0, 0, 0, 0, ((s.sq 0 d.sq).head + 1) % s.ringSize (aSQ_CTRL 0 d.sq), 0, (s.take d).curSlot, (s.take d).curCclk, 0, d.sq⟩

section
variable (s : State) (d : Desc) (arm : Bool)

theorem timeArmed_keepsRegs : KeepsRegs [aTIM_STEP, aHIF_CMD_TAKEN] s (s.timeArmed d arm) := by
  obtain ⟨-, -, -, -, -, hregs⟩ := take_effect s d
  exact (hregs.mono (by simp)).trans ((armed_keepsRegs (s.take d) arm).mono (by simp))

/-- A queue's registers are as they were. -/
theorem timeArmed_ringReg (f : Nat) {o : Nat} (ho : fnPage f ≤ o) : (s.timeArmed d arm).reg o = s.reg o :=
  timeArmed_keepsRegs s d arm o (by simp [ne_of_fnPage (by decide : aTIM_STEP < 0x38000) ho,
    ne_of_fnPage (by decide : aHIF_CMD_TAKEN < 0x38000) ho])

theorem timeArmed_counted : Counted s (s.timeArmed d arm) aHIF_CMD_TAKEN 1 := by
  obtain ⟨-, -, -, -, hcount, -⟩ := take_effect s d
  exact (armed_keepsRegs (s.take d) arm aHIF_CMD_TAKEN (by decide)).trans hcount

/-- What of the queues and of the commands taken is left (R549, R557, R561). -/
theorem timeArmed_effect (hfn : d.fn = 0) :
    (s.timeArmed d arm).bit aTIM_STEP 0 = arm ∧
      ((s.timeArmed d arm).sq 0 d.sq).head = ((s.sq 0 d.sq).head + 1) % s.ringSize (aSQ_CTRL 0 d.sq) ∧
      .fetch 0 d.sq (s.sq 0 d.sq).head (s.ringBase (aSQ_BASE_LO 0 d.sq) + 64 * (s.sq 0 d.sq).head) ∈ (s.timeArmed d arm).out ∧
      (∀ j, (s.timeArmed d arm).cq 0 j = s.cq 0 j) ∧ (s.timeArmed d arm).hif.taken = s.hif.taken := by
  obtain ⟨hhead, hout, hcq, htaken, -, -⟩ := take_effect s d
  rw [hfn] at hhead hout
  have htaken' : ((s.take d).armed arm).hif.taken = s.hif.taken ++ [s.takenAs d] := htaken
  refine ⟨armed_bit (s.take d) arm, hhead, ?_, hcq 0, dropTaken_taken htaken' fun x hx => (lt_freshNo s hx).ne⟩
  change _ ∈ (s.take d).out
  rw [hout]
  exact List.mem_cons_self

theorem exec_timeArm_completes (h : Serves s d) (hfn : d.fn = 0) (hquiet : d.quiet = false)
    (hroom : (s.take d).cqRoom 0 (s.fld (aSQ_CTRL 0 d.sq) 23 16) = true)
    (hlost : (s.cq 0 (s.fld (aSQ_CTRL 0 d.sq) 23 16)).lost = 0) : exec (.timeArm d arm) s = .next (
      if d.cplOk then (s.timeArmed d arm).cqWrite 0 (s.fld (aSQ_CTRL 0 d.sq) 23 16) (s.timeArmCpl d)
      else (s.timeArmed d arm).cqFail 0 (s.fld (aSQ_CTRL 0 d.sq) 23 16)) := by
  obtain ⟨hhead, -, hcq, htaken, -, -⟩ := take_effect s d
  rw [hfn] at hhead
  have hfn' : (s.takenAs d).fn = 0 := hfn
  have hcqi : (s.takenAs d).cq = s.fld (aSQ_CTRL 0 d.sq) 23 16 := by rw [State.takenAs, hfn]
  have hctrl : aCQ_CTRL 0 (s.takenAs d).cq ≠ aTIM_STEP :=
    ne_of_fnPage (f := 0) (by decide) (by unfold aCQ_CTRL; omega)
  have hplaced : ((s.take d).armed arm).hif.taken = s.hif.taken ++ [s.takenAs d] := htaken
  have hlost' : (((s.take d).armed arm).cq (s.takenAs d).fn (s.takenAs d).cq).lost = 0 := by
    rw [hfn', hcqi]
    exact (congrArg CqState.lost (hcq 0 _)).trans hlost
  have hroom' : ((s.take d).armed arm).cqRoom (s.takenAs d).fn (s.takenAs d).cq = true := by
    rw [hfn', armed_cqRoom _ _ _ _ hctrl, hcqi, hroom]
  have hcpl : ((s.take d).armed arm).cmdCpl (s.takenAs d) 0 0 0 = s.timeArmCpl d := by
    rw [State.timeArmCpl, ← hhead]
    simp only [State.cmdCpl, hfn']
    rfl
  rw [exec_timeArm arm h hfn, cmdEnd_of_taken hplaced (fun x hx => (lt_freshNo s hx).ne) (by simp [isTaken, State.takenAs]) rfl
    hquiet hlost' hroom', hcpl, hfn', hcqi]
  rfl
end

/-- Settles O22: the command is taken (`take_effect`), executed (`armed_bit`) and completes (`exec_timeArm_completes`). -/
theorem timeArmAndCompletion : Obligations.TimeArmAndCompletion := by
  unfold Obligations.TimeArmAndCompletion
  intro d arm s hserves hfn hquiet
  dsimp only
  intro hroom hlost _ _
  have hexec := exec_timeArm_completes s d arm hserves hfn hquiet hroom hlost
  have honly : ∀ t, exec (.timeArm d arm) s = .next t → Only { regs := true, tim := true, hif := true, out := true } s t :=
    fun t ht => execTimeArm_mask d arm s _ rfl rfl rfl rfl t ht
  obtain ⟨hbit, hhead, hread, hcq, htaken⟩ := timeArmed_effect s d arm hfn
  have hcount := timeArmed_counted s d arm
  have hkeeps := timeArmed_keepsRegs s d arm
  have htim : (s.timeArmed d arm).tim = (s.take d).tim := rfl
  generalize hj : s.fld (aSQ_CTRL 0 d.sq) 23 16 = j at *
  refine ⟨fun hok => ?taken, fun hok => ?refused⟩
  case taken =>
    rw [if_pos hok] at hexec
    have hring : ∀ o, fnPage 0 ≤ o → (s.timeArmed d arm).reg o = s.reg o := fun o => timeArmed_ringReg s d arm 0
    have hsize : (s.timeArmed d arm).ringSize (aCQ_CTRL 0 j) = s.ringSize (aCQ_CTRL 0 j) := by
      rw [State.ringSize, fld_of_reg (hring _ (by unfold aCQ_CTRL; omega)), State.ringSize]
    have hbase : (s.timeArmed d arm).ringBase (aCQ_BASE_LO 0 j) = s.ringBase (aCQ_BASE_LO 0 j) := by
      rw [State.ringBase, hring _ (by unfold aCQ_BASE_LO; omega), hring _ (by unfold aCQ_BASE_LO; omega), State.ringBase]
    obtain ⟨hentry, htail, hphase, hsq, htaken', hout⟩ := cqWrite_effect (s.timeArmed d arm) 0 j (s.timeArmCpl d)
    rw [hcq, hbase] at hentry
    rw [hcq, hsize] at htail hphase
    have hregs : ∀ o, ((s.timeArmed d arm).cqWrite 0 j (s.timeArmCpl d)).reg o = (s.timeArmed d arm).reg o := fun o =>
      keepsRegs_of_regs [] (cqWrite_regs _ 0 j _) o (by simp)
    have htim' : ((s.timeArmed d arm).cqWrite 0 j (s.timeArmCpl d)).tim = (s.timeArmed d arm).tim :=
      eq_of_mask State.tim (State.cqWrite_mask _ 0 j _ { hif := true, out := true } rfl rfl) fun _ => rfl
    exact ⟨_, hexec, (bit_of_reg (hregs _) 0).trans hbit, by rw [hsq, hhead], hout _ hread, hentry, htail, hphase,
      htaken'.trans htaken, (hregs _).trans hcount, htim'.trans htim, honly _ hexec, fun o ho => (hregs o).trans (hkeeps o ho)⟩
  case refused =>
    rw [if_neg (by simp [hok])] at hexec
    obtain ⟨herror, htail, hsq, htaken', hout⟩ := cqFail_effect (s.timeArmed d arm) 0 j
    have hregs : ∀ o, o ∉ evtRegs (aHIF_FN_EVENT 0) → ((s.timeArmed d arm).cqFail 0 j).reg o = (s.timeArmed d arm).reg o :=
      fun o ho => cqFail_reg _ 0 j ho ho
    exact ⟨_, hexec, (bit_of_reg (hregs _ (by decide)) 0).trans hbit, by rw [hsq, hhead], hout _ hread, herror,
      by rw [htail, hcq], fnEvt_bit _ (by decide), htaken'.trans htaken, (hregs _ (by decide)).trans hcount, honly _ hexec⟩

end Sys2Proof.Machine
end

section
/-! SUPPORT. Which registers the capture engine writes (R530–R533), and what the STC lanes and L-ports send at a slot start (R67,
R70, R155). -/

namespace Sys2Proof.Machine

/-! ## The capture engine -/

theorem ite_keepsRegs {L : List Nat} {s t u : State} {c : Prop} [Decidable c] (ht : KeepsRegs L s t) (hu : KeepsRegs L s u) :
    KeepsRegs L s (if c then t else u) := by
  split
  · exact ht
  · exact hu

theorem foldl_keepsRegs {α : Type} {L : List Nat} {f : State → α → State} (h : ∀ s x, KeepsRegs L s (f s x)) (xs : List α)
    (s : State) : KeepsRegs L s (xs.foldl f s) := by
  induction xs generalizing s with
  | nil => exact .refl L s
  | cons x xs ih => exact (h s x).trans (ih (f s x))

theorem bump64_keepsRegs (s : State) (o n : Nat) : KeepsRegs [o, o + 4] s (s.bump64 o n) := fun o' ho => by
  simp only [List.mem_cons, List.not_mem_nil, or_false, not_or] at ho
  obtain ⟨hlow, hhigh⟩ := ho
  exact bump64_reg s o n hlow hhigh

/-- The count of records (R531). -/
def recordRegs : List Nat := [aDET_CAP_RECORDS_LO, aDET_CAP_RECORDS_LO + 4]

/-- What the capture engine may write: the counts of records and of lost ones, and its events. -/
def capRegs : List Nat := recordRegs ++ aDET_CAP_LOST :: blockRegs aDET_EVENT

theorem recordRegs_subset : recordRegs ⊆ capRegs := List.subset_append_left _ _

/-- The capture engine's record replaced. -/
def State.withCap (s : State) (x : Cap) : State := { s with cap := x }

theorem withCap_keepsRegs (L : List Nat) (s : State) (x : Cap) : KeepsRegs L s (s.withCap x) := fun _ _ => rfl

section
variable (s : State)

theorem wr_keepsRegs (L : List Nat) (k : Nat) (bs : List Byte) : KeepsRegs L s (s.wr k bs) :=
  keepsRegs_of_regs L (eq_of_mask State.regs (State.wr_mask s k bs { mem := true, poison := true } rfl rfl) fun _ => rfl)

theorem capStore_keepsRegs (bs : List Byte) : KeepsRegs recordRegs s (s.capStore bs) := by
  have hform : ∃ x, s.capStore bs = ((s.wr (s.cap.base + s.capPos) bs).withCap x).bump64 aDET_CAP_RECORDS_LO 1 := ⟨_, rfl⟩
  obtain ⟨x, hx⟩ := hform
  rw [hx]
  exact ((wr_keepsRegs s recordRegs _ bs).trans (withCap_keepsRegs _ _ x)).trans (bump64_keepsRegs _ _ 1)

theorem capPad_keepsRegs (n : Nat) : KeepsRegs recordRegs s (s.capPad n) := by
  unfold State.capPad
  dsimp only
  split
  · exact .refl _ s
  · exact capStore_keepsRegs s _

theorem capRaw_keepsRegs (r : CapRec) : KeepsRegs recordRegs s (s.capRaw r) := by
  have hform : ∃ bs x, s.capRaw r = ((s.capPad r.bytes.length).capStore bs).withCap x := ⟨_, _, rfl⟩
  obtain ⟨bs, x, hx⟩ := hform
  rw [hx]
  exact ((capPad_keepsRegs s _).trans (capStore_keepsRegs _ bs)).trans (withCap_keepsRegs _ _ x)

theorem capRewind_keepsRegs : KeepsRegs recordRegs s s.capRewind := by
  have hform : ∃ v w x, s.capRewind = ((s.setReg aDET_CAP_RECORDS_LO v).setReg (aDET_CAP_RECORDS_LO + 4) w).withCap x :=
    ⟨_, _, _, rfl⟩
  obtain ⟨v, w, x, hx⟩ := hform
  rw [hx]
  exact (((setReg_keepsRegs s _ v).mono (by simp [recordRegs])).trans ((setReg_keepsRegs _ _ w).mono (by simp [recordRegs]))).trans
    (withCap_keepsRegs _ _ x)

theorem capWrite_keepsRegs (r : CapRec) : KeepsRegs recordRegs s (s.capWrite r) := by
  have hform : ∃ x, ∃ b : Bool, s.capWrite r =
      if b then (s.withCap x).cap.group.foldl State.capRaw (s.withCap x).capRewind else (s.withCap x).capRaw r := ⟨_, _, rfl⟩
  obtain ⟨x, b, hx⟩ := hform
  rw [hx]
  split
  · exact (withCap_keepsRegs _ s x).trans ((capRewind_keepsRegs _).trans (foldl_keepsRegs capRaw_keepsRegs _ _))
  · exact (withCap_keepsRegs _ s x).trans (capRaw_keepsRegs _ r)

theorem capLossRec_keepsRegs : KeepsRegs recordRegs s s.capLossRec := by
  unfold State.capLossRec
  split
  · exact .refl _ s
  · exact (withCap_keepsRegs _ s _).trans (capWrite_keepsRegs (s.withCap _) _)

theorem capLose_keepsRegs (n : Nat) : KeepsRegs capRegs s (s.capLose n) := by
  have hform : ∃ x, s.capLose n = ((s.withCap x).bump aDET_CAP_LOST 1).evt 18 aDET_EVENT 1 := ⟨_, rfl⟩
  obtain ⟨x, hx⟩ := hform
  rw [hx]
  exact ((withCap_keepsRegs _ s x).trans ((bump_keepsRegs _ aDET_CAP_LOST 1).mono (by decide))).trans
    ((evt_keepsRegs _ 18 aDET_EVENT (by decide)).mono (by decide))

theorem capDrain_keepsRegs (L : List Nat) : KeepsRegs L s s.capDrain := withCap_keepsRegs L s _

/-- The CAPTURE_STOP mark, written or lost (R532, R535). -/
theorem capEnd_keepsRegs : KeepsRegs capRegs s s.capEnd := by
  have hform : s.capEnd = s ∨ ∃ (a b : Bool) (r : CapRec) (f : State → Cap) (x : Cap),
      let u := if a then s.capDrain.capLossRec else s.capDrain
      s.capEnd = ((if b then (u.capRaw r).withCap (f (u.capRaw r)) else u.capLose 64).withCap x).evt 18 aDET_EVENT 3 := by
    unfold State.capEnd
    split
    · exact .inl rfl
    · exact .inr ⟨_, _, _, fun t => { t.cap with level := t.cap.level + 320 }, _, rfl⟩
  obtain hx | ⟨a, b, r, f, x, hx⟩ := hform
  · rw [hx]
    exact .refl _ s
  · have hdrained : KeepsRegs capRegs s (if a then s.capDrain.capLossRec else s.capDrain) :=
      ite_keepsRegs ((capDrain_keepsRegs s _).trans ((capLossRec_keepsRegs _).mono recordRegs_subset)) (capDrain_keepsRegs s _)
    have hmarked : ∀ u, KeepsRegs capRegs u (if b then (u.capRaw r).withCap (f (u.capRaw r)) else u.capLose 64) := fun u =>
      ite_keepsRegs (((capRaw_keepsRegs u r).mono recordRegs_subset).trans (withCap_keepsRegs _ _ _)) (capLose_keepsRegs u 64)
    rw [hx]
    exact (hdrained.trans (hmarked _)).trans
      ((withCap_keepsRegs _ _ x).trans ((evt_keepsRegs _ 18 aDET_EVENT (by decide)).mono (by decide)))

theorem capPut_keepsRegs (r : CapRec) : KeepsRegs capRegs s (s.capPut r) := by
  have hdrained := capDrain_keepsRegs s capRegs
  have hlost := fun u => capLose_keepsRegs u r.bytes.length
  have hwritten : KeepsRegs capRegs s.capDrain (s.capDrain.capLossRec.capWrite r) :=
    ((capLossRec_keepsRegs _).trans (capWrite_keepsRegs _ r)).mono recordRegs_subset
  have hfilled : ∀ x, KeepsRegs capRegs s.capDrain ((s.capDrain.capEnd.capLose r.bytes.length).withCap x) := fun x =>
    ((capEnd_keepsRegs _).trans (hlost _)).trans (withCap_keepsRegs _ _ x)
  exact ite_keepsRegs (.refl _ s) (ite_keepsRegs (hdrained.trans (hlost _)) (ite_keepsRegs (hdrained.trans hwritten)
    (ite_keepsRegs (hdrained.trans (hfilled _)) (hdrained.trans (hlost _)))))

/-- Without capture a record offered leaves nothing (R532). -/
theorem capPut_of_inactive (r : CapRec) (h : s.cap.active = false) : s.capPut r = s := by
  rw [State.capPut, if_pos (by simp [h])]

theorem captureHold_keepsRegs (was now : Bool) : KeepsRegs capRegs s (s.captureHold was now) := by
  unfold State.captureHold
  split
  · exact .refl _ s
  · exact capPut_keepsRegs s _

theorem captureHold_of_inactive (was now : Bool) (h : s.cap.active = false) : s.captureHold was now = s := by
  unfold State.captureHold
  split
  · rfl
  · exact capPut_of_inactive s _ h
end

/-! ## What is sent at a slot start -/

/-- Between `s` and `t` lanes and ports have sent: time and the lanes that are up stand as they did, what had been sent still is,
and of the time unit only the sequence numbers of TIME packets have gone on. -/
structure Sent (s t : State) : Prop where
  tim : t.tim = { s.tim with ltSeq := t.tim.ltSeq }
  up  : ∀ i, (t.lane i).up = (s.lane i).up
  out : ∀ e ∈ s.out, e ∈ t.out

namespace Sent

theorem refl (s : State) : Sent s s := ⟨rfl, fun _ => rfl, fun _ h => h⟩

theorem trans {s t u : State} (h : Sent s t) (h' : Sent t u) : Sent s u :=
  ⟨by rw [h'.tim, h.tim], fun i => (h'.up i).trans (h.up i), fun e he => h'.out e (h.out e he)⟩

theorem clk {s t : State} (h : Sent s t) : t.tim.clk = s.tim.clk := by rw [h.tim]

theorem foldl {α : Type} {f : State → α → State} (h : ∀ s x, Sent s (f s x)) (xs : List α) (s : State) :
    Sent s (xs.foldl f s) := by
  induction xs generalizing s with
  | nil => exact refl s
  | cons x xs ih => exact (h s x).trans (ih (f s x))

end Sent

section
variable (s : State)

theorem emit_sent (e : Emit) : Sent s (s.emit e) := ⟨rfl, fun _ => rfl, fun _ h => List.mem_cons_of_mem _ h⟩

theorem setLane_sent (i : Nat) (x : Lane) (h : x.up = (s.lane i).up) : Sent s (s.setLane i x) := by
  refine ⟨rfl, fun j => ?_, fun _ he => he⟩
  by_cases hj : j = i
  · rw [hj, lane_setLane, h]
  · rw [lane_setLane_ne _ _ hj]

theorem setLane_emit_sent (i : Nat) (x : Lane) (e : Emit) (h : x.up = (s.lane i).up) : Sent s ((s.setLane i x).emit e) :=
  (setLane_sent s i x h).trans (emit_sent _ e)

theorem sendTo_sent (i k : Nat) : Sent s (s.sendTo i k) := by
  unfold State.sendTo
  dsimp only
  split
  · exact .refl s
  · split
    · exact setLane_emit_sent s i _ _ rfl
    · split
      · exact setLane_emit_sent s i _ _ rfl
      · exact setLane_sent s i _ rfl

theorem stcTake_sent (n k : Nat) (xs : List StcSym) : Sent s (s.stcTake n k xs) :=
  (sendTo_sent s (stcIdx n) k).trans (setLane_sent _ _ _ rfl)

theorem sendMark_sent (n : Nat) (word : List Byte) : Sent s (s.sendMark n word) :=
  (stcTake_sent s n _ _).trans (setLane_emit_sent _ _ _ _ rfl)

theorem sendFrame_sent (n type : Nat) (payload : List Byte) : Sent s (s.sendFrame n type payload) :=
  (stcTake_sent s n _ _).trans (emit_sent _ _)

theorem setEgr_sent (e : Nat) (x : Egress) : Sent s (s.setEgr e x) := ⟨rfl, fun _ => rfl, fun _ h => h⟩

theorem sendTimePkt_sent (e : Nat) (p : Staged) : Sent s (s.sendTimePkt e p) :=
  ((setEgr_sent s e _).trans (emit_sent _ _)).trans (setEgr_sent _ e _)

theorem sendTime_sent (l slot : Nat) : Sent s (s.sendTime l slot) := by
  have hstaged : ∀ (e : Nat) (x : Egress) (q : List (Nat × Nat)),
      Sent s ((s.setEgr e x).withTim { s.tim with ltSeq := q }) := fun e x q => ⟨rfl, fun _ => rfl, fun _ h => h⟩
  unfold State.sendTime
  split
  · dsimp only
    split
    · exact (hstaged _ _ _).trans (sendTimePkt_sent _ _ _)
    · exact hstaged _ _ _
  · exact .refl s

/-- What one STC lane sends at a slot start: a mark, and IDENT in the slot after a TIME packet's (R67, R155). -/
def State.slotSend (s : State) (slot n : Nat) : State :=
  if (s.lane (stcIdx n)).up then
    let u := s.sendMark n (s.phaseWord n slot)
    if slot % 1024 = 1 then u.sendFrame n 1 (natBe 2 (u.fld aRTE_ID 9 0) ++ natBe 1 (u.fld aRTE_ID 12 10) ++ natBe 1 n) else u
  else s

theorem slotSends_eq (slot : Nat) : s.slotSends slot =
    if slot % 1024 = 0 then
      (List.range 16).foldl (fun u l => u.sendTime l slot) ((List.range 16).foldl (fun u n => u.slotSend slot n) s)
    else (List.range 16).foldl (fun u n => u.slotSend slot n) s := rfl

theorem slotSend_sent (slot n : Nat) : Sent s (s.slotSend slot n) := by
  unfold State.slotSend
  dsimp only
  split
  · split
    · exact (sendMark_sent s n _).trans (sendFrame_sent _ n _ _)
    · exact sendMark_sent s n _
  · exact .refl s

theorem slotSends_sent (slot : Nat) : Sent s (s.slotSends slot) := by
  have hmarks := Sent.foldl (fun u n => slotSend_sent u slot n) (List.range 16) s
  rw [slotSends_eq]
  split
  · exact hmarks.trans (Sent.foldl (fun u l => sendTime_sent u l slot) _ _)
  · exact hmarks

theorem natBe_length (n x : Nat) : (natBe n x).length = n := by rw [natBe, List.length_reverse, natLe_length]

/-- A phase word has 14 bytes (R67). -/
theorem phaseWord_length (n slot : Nat) : (s.phaseWord n slot).length = 14 := by
  simp only [State.phaseWord, State.phaseHead, List.length_append, natBe_length]

/-- A lane that is up sends a mark from the first bit boundary on (R67, R151). -/
theorem slotSend_mark (slot n : Nat) (h : (s.lane (stcIdx n)).up = true) :
    ∃ syms, .mark n (lineBit (stcIdx n) s.tim.clk) (s.phaseWord n slot) syms ∈ (s.slotSend slot n).out := by
  have hmark : .mark n (lineBit (stcIdx n) s.tim.clk) (s.phaseWord n slot)
      (s.stcCodes n (lineBit (stcIdx n) s.tim.clk) (markSeq (s.phaseWord n slot))) ∈ (s.sendMark n (s.phaseWord n slot)).out :=
    List.mem_cons_self
  refine ⟨s.stcCodes n (lineBit (stcIdx n) s.tim.clk) (markSeq (s.phaseWord n slot)), ?_⟩
  rw [State.slotSend, if_pos h]
  dsimp only
  split
  · exact (sendFrame_sent _ _ _ _).out _ hmark
  · exact hmark

theorem slotSend_foldl_mark (slot : Nat) (xs : List Nat) {n : Nat} (hn : n ∈ xs) (h : (s.lane (stcIdx n)).up = true) :
    ∃ w syms, .mark n (lineBit (stcIdx n) s.tim.clk) w syms ∈ (xs.foldl (fun u n => u.slotSend slot n) s).out ∧ w.length = 14 := by
  induction xs generalizing s with
  | nil => exact absurd hn List.not_mem_nil
  | cons m xs ih =>
    have hfirst := slotSend_sent s slot m
    rw [List.foldl_cons]
    by_cases hm : n = m
    · subst hm
      obtain ⟨syms, hmark⟩ := slotSend_mark s slot n h
      exact ⟨_, syms, (Sent.foldl (fun u n => slotSend_sent u slot n) xs _).out _ hmark, phaseWord_length s n slot⟩
    · rw [← hfirst.clk]
      exact ih (s.slotSend slot m) (List.mem_of_ne_of_mem hm hn) ((hfirst.up _).trans h)

/-- Every STC lane that is up sends its mark at a slot start (R67). -/
theorem slotSends_mark (slot : Nat) {n : Nat} (hn : n < 16) (h : (s.lane (stcIdx n)).up = true) :
    ∃ w syms, .mark n (lineBit (stcIdx n) s.tim.clk) w syms ∈ (s.slotSends slot).out ∧ w.length = 14 := by
  obtain ⟨w, syms, hmark, hlength⟩ := slotSend_foldl_mark s slot (List.range 16) (List.mem_range.mpr hn) h
  refine ⟨w, syms, ?_, hlength⟩
  rw [slotSends_eq]
  split
  · exact (Sent.foldl (fun u l => sendTime_sent u l slot) _ _).out _ hmark
  · exact hmark
end

end Sys2Proof.Machine
end

section
/-! PROOFS. The start of a slot (R57, R67, R81, R90, R524). -/

namespace Sys2Proof.Machine

/-! ## The slot counter and its replicas (R57) -/

/-- What a bandstand's replica counter holds at the start of `slot`. -/
def slotRep (fault : Bool) (slot : Nat) : Nat := if fault then slot + 1 else slot

theorem slotRep_eq_iff (fault : Bool) (slot : Nat) : slotRep fault slot = slot ↔ fault = false := by
  cases fault <;> simp [slotRep]

section
variable (s : State) (f0 f1 : Bool)

/-- Fabric time comes to the slot's start, and the slot is counted. -/
def State.slotTicked : State :=
  let u := s.advTo (s.tim.slot * slotUnits)
  u.withTim { u.tim with slot := s.tim.slot + 1, rep0 := slotRep f0 s.tim.slot, rep1 := slotRep f1 s.tim.slot }

/-- Both replica counters are compared. -/
def State.slotChecked : State :=
  ((s.slotTicked f0 f1).checkReplica 0 s.tim.slot (slotRep f0 s.tim.slot)).checkReplica 1 s.tim.slot (slotRep f1 s.tim.slot)

theorem checkReplica_tim (die slot rep : Nat) : (s.checkReplica die slot rep).tim = s.tim :=
  eq_of_mask State.tim (State.checkReplica_mask s die slot rep
    { regs := true, hif := true, log := true, sched := true, out := true } rfl rfl rfl rfl rfl) fun _ => rfl

theorem checkReplica_keepsRegs (die slot rep : Nat) : KeepsRegs timeRegs s (s.checkReplica die slot rep) := by
  have hstop : s.schedStop.regs = s.regs :=
    eq_of_mask State.regs (State.schedStop_mask s { sched := true } rfl) fun _ => rfl
  unfold State.checkReplica
  split
  · exact .refl _ s
  · exact (keepsRegs_of_regs timeRegs hstop).trans (timEvt_offer_keepsRegs s.schedStop (by decide) _ _ _ _ _ _ _ _)

/-- A replica counter that differs stops the schedule, one that does not leaves it. -/
theorem checkReplica_sched (die slot rep : Nat) :
    (s.checkReplica die slot rep).sched = if rep = slot then s.sched else s.schedStop.sched := by
  unfold State.checkReplica
  split
  · rfl
  · refine eq_of_mask (G := { regs := true, hif := true, log := true, out := true }) State.sched ?_ fun _ => rfl
    rw [State.offer_mask _ _ _ _ _ _ _ _ _ _ rfl rfl rfl rfl, State.timEvt_mask _ _ _ rfl rfl rfl]

/-- A launched schedule that is stopped is out of step, and one that is out of step stays so (R57). -/
theorem schedStop_sched : s.schedStop.sched.launched = s.sched.launched ∧
    (s.sched.launched = true ∨ s.sched.desync = true → s.schedStop.sched.desync = true) := by
  unfold State.schedStop
  split
  next h => exact ⟨rfl, fun _ => rfl⟩
  next h => exact ⟨rfl, fun hor => hor.resolve_left h⟩

theorem slotTicked_sched : (s.slotTicked f0 f1).sched = s.sched :=
  eq_of_mask State.sched (State.advTo_mask s _ { tim := true } rfl) fun _ => rfl

theorem slotChecked_sched_of_sound : (s.slotChecked false false).sched = s.sched := by
  have hsound : slotRep false s.tim.slot = s.tim.slot := rfl
  rw [State.slotChecked, checkReplica_sched, if_pos hsound, checkReplica_sched, if_pos hsound, slotTicked_sched]

theorem slotChecked_desync (hfault : f0 = true ∨ f1 = true) (hlaunched : s.sched.launched = true) :
    (s.slotChecked f0 f1).sched.desync = true := by
  obtain ⟨hkept, hstop⟩ := schedStop_sched (s.slotTicked f0 f1)
  obtain ⟨-, hstop'⟩ := schedStop_sched ((s.slotTicked f0 f1).checkReplica 0 s.tim.slot (slotRep f0 s.tim.slot))
  have hfirst := checkReplica_sched (s.slotTicked f0 f1) 0 s.tim.slot (slotRep f0 s.tim.slot)
  rw [slotTicked_sched] at hkept hstop hfirst
  rw [State.slotChecked, checkReplica_sched]
  simp only [slotRep_eq_iff] at hfirst ⊢
  cases f0 with
  | true =>
    rw [if_neg (by decide)] at hfirst
    split
    · rw [hfirst, hstop (.inl hlaunched)]
    · exact hstop' (.inl (by rw [hfirst, hkept, hlaunched]))
  | false =>
    rw [if_pos rfl] at hfirst
    have hf1 : f1 = true := by simpa using hfault
    rw [if_neg (by simp [hf1])]
    exact hstop' (.inl (by rw [hfirst, hlaunched]))

theorem slotChecked_tim : (s.slotChecked f0 f1).tim = (s.slotTicked f0 f1).tim := by
  rw [State.slotChecked, checkReplica_tim, checkReplica_tim]

theorem slotTicked_regs : (s.slotTicked f0 f1).regs = s.regs := advTo_regs s _

theorem slotChecked_keepsRegs : KeepsRegs timeRegs s (s.slotChecked f0 f1) :=
  ((keepsRegs_of_regs timeRegs (slotTicked_regs s f0 f1)).trans (checkReplica_keepsRegs _ _ _ _)).trans
    (checkReplica_keepsRegs _ _ _ _)

theorem slotChecked_mask {G : Fields} (hregs : G.regs) (htim : G.tim) (hhif : G.hif) (hlog : G.log) (hsched : G.sched)
    (hout : G.out) : (s.slotChecked f0 f1).mask G = s.mask G := by
  simp only [State.slotChecked, State.slotTicked, State.checkReplica_mask, withTim_mask, State.advTo_mask, hregs, htim, hhif, hlog,
    hsched, hout]

end

/-! ## The time unit (R80, R81, R86, R90) -/

section
variable (s : State)

/-- ROOT as it has been sampled (R81). -/
def State.rootSampled : State := s.withTim { s.tim with rootMode := s.bit aTIM_CTRL 0 }

theorem rootSampled_regs : s.rootSampled.regs = s.regs := rfl

theorem sampleRoot_eq : s.sampleRoot =
    if s.bit aTIM_CTRL 0 && !s.tim.rootMode then
      let t := (s.withTim { s.settledTim with rootMode := true, sel := 33, resid0 := 0, loadPend := false }).timEvt 0
      if s.tim.state = 2 then t.withTim { t.tim with facq := none } else t.toLocked
    else if !s.bit aTIM_CTRL 0 && s.tim.rootMode then (s.withTim { s.tim with rootMode := false }).toHoldover 0
    else s := rfl

/-- Sampling ROOT, the servo enters or leaves the state of a designated root (R81, R86). -/
theorem sampleRoot_steered : Steered timeRegs s.rootSampled s.sampleRoot := by
  have hbase : ∀ x : Tim, x.clock = s.rootSampled.tim.clock → Steered timeRegs s.rootSampled (s.withTim x) := fun x hx =>
    ⟨hx, keepsRegs_of_regs _ rfl⟩
  have hsame : s.bit aTIM_CTRL 0 = s.tim.rootMode → Steered timeRegs s.rootSampled s := fun h =>
    ⟨by rw [State.rootSampled, withTim_tim, h], keepsRegs_of_regs _ rfl⟩
  rw [sampleRoot_eq]
  cases hroot : s.bit aTIM_CTRL 0 <;> cases hmode : s.tim.rootMode
  case false.false => exact hsame (hroot.trans hmode.symm)
  case true.true => exact hsame (hroot.trans hmode.symm)
  case false.true =>
    have hleft := hbase { s.tim with rootMode := false } (by rw [State.rootSampled, hroot]; rfl)
    exact hleft.trans (toHoldover_steered _ 0)
  case true.false =>
    have hentered := hbase { s.settledTim with rootMode := true, sel := 33, resid0 := 0, loadPend := false }
      (by rw [State.rootSampled, hroot]; rfl)
    have hevent := hentered.trans ((timEvt_steered _ (by decide : 0 < 8)).mono (List.subset_append_left _ logRegs))
    change Steered timeRegs _ (if s.tim.state = 2 then _ else _)
    split
    · exact hevent.trans (withTim_steered _ rfl)
    · exact hevent.trans ((toLocked_steered _).mono (List.subset_append_right _ _))

/-- ROOT, the source and the state as a slot start finds them (R80, R81, R86). -/
def State.rootTimed : State :=
  let u := s.sampleRoot.reselect
  if u.holdOver then u.toFreerun else u

theorem rootTimed_steered : Steered timeRegs s.rootSampled s.rootTimed := by
  have hselected := (sampleRoot_steered s).trans (reselect_steered s.sampleRoot)
  unfold State.rootTimed
  dsimp only
  split
  · exact hselected.trans (toFreerun_steered _)
  · exact hselected

theorem rootTimed_mask {G : Fields} (hregs : G.regs) (htim : G.tim) (hhif : G.hif) (hlog : G.log) (hout : G.out) :
    s.rootTimed.mask G = s.mask G := by
  simp only [State.rootTimed, ite_mask, State.toFreerun_mask, State.reselect_mask, State.sampleRoot_mask, hregs, htim, hhif, hlog,
    hout, ite_self]

/-- HOPS and WITHHOLD from this slot start on (R80, R81, R90). -/
def State.holdSet : State :=
  let u := s.withTim { s.tim with advHops := s.hopsNow }
  u.withTim { u.tim with withhold := u.withholdNow }

theorem holdSet_regs : s.holdSet.regs = s.regs := rfl

/-- FREERUN holds WITHHOLD at 1 (R90). -/
theorem holdSet_withhold (h : s.holdSet.tim.state = 0) : s.holdSet.tim.withhold = true :=
  if_pos (c := (s.withTim { s.tim with advHops := s.hopsNow }).tim.state = 0) h

/-- A slot with WITHHOLD 1 is counted, and is a hazard where the time unit's counts (R90, R524). -/
def State.holdCounted : State :=
  let u := if s.withheld then s.bump aTIM_WITHHELD_SLOTS 1 else s
  if u.tim.withhold && !u.rpl.active then u.hazard 5 else u

/-- The registers that a slot start writes after the count of a slot with WITHHOLD 1. -/
def holdRegs : List Nat := (aDET_HAZARD :: blockRegs aDET_EVENT) ++ (timeRegs ++ capRegs)

theorem holdCounted_keepsRegs :
    KeepsRegs holdRegs (if s.withheld then s.bump aTIM_WITHHELD_SLOTS 1 else s) s.holdCounted :=
  ite_keepsRegs ((hazard_keepsRegs _ 5).mono (List.subset_append_left _ _)) (.refl _ _)

theorem holdCounted_mask {G : Fields} (hregs : G.regs) (hhif : G.hif) (hout : G.out) : s.holdCounted.mask G = s.mask G := by
  simp only [State.holdCounted, ite_mask, State.hazard_mask, State.bump_mask, hregs, hhif, hout, ite_self]

theorem holdCounted_tim : s.holdCounted.tim = s.tim :=
  eq_of_mask State.tim (holdCounted_mask s (G := { regs := true, hif := true, out := true }) rfl rfl rfl) fun _ => rfl

/-- WITHHOLD's change is recorded, but for the capture engine (R90). -/
def State.holdNoted : State :=
  let u := s.withTim { s.tim with held := s.withheld }
  if s.withheld && !s.tim.held then (u.timEvt 3).logTime 6 else if !s.withheld && s.tim.held then u.logTime 7 else u

theorem holdEdge_eq : s.holdEdge = s.holdNoted.captureHold s.tim.held s.withheld := rfl

theorem holdNoted_tim : s.holdNoted.tim = { s.tim with held := s.withheld } := by
  unfold State.holdNoted
  dsimp only
  split
  · rw [logTime_tim, timEvt_tim, withTim_tim]
  · split
    · rw [logTime_tim, withTim_tim]
    · rfl

theorem holdNoted_keepsRegs : KeepsRegs timeRegs s s.holdNoted :=
  (keepsRegs_of_regs timeRegs (withTim_regs s _)).trans (ite_keepsRegs (logged_event_steered _ (by decide) 6).regs
    (ite_keepsRegs ((logTime_steered _ 7).regs.mono (List.subset_append_right _ _)) (.refl _ _)))

theorem holdNoted_mask {G : Fields} (hregs : G.regs) (htim : G.tim) (hhif : G.hif) (hlog : G.log) (hout : G.out) :
    s.holdNoted.mask G = s.mask G := by
  simp only [State.holdNoted, ite_mask, State.logTime_mask, State.timEvt_mask, withTim_mask, hregs, htim, hhif, hlog, hout,
    ite_self]

theorem holdEdge_tim : s.holdEdge.tim = { s.tim with held := s.withheld } := by
  rw [holdEdge_eq, ← holdNoted_tim]
  exact eq_of_mask State.tim (State.captureHold_mask s.holdNoted _ _
    { regs := true, hif := true, cap := true, mem := true, poison := true, out := true } rfl rfl rfl rfl rfl rfl) fun _ => rfl

theorem holdEdge_keepsRegs : KeepsRegs (timeRegs ++ capRegs) s s.holdEdge :=
  ((holdNoted_keepsRegs s).mono (List.subset_append_left _ _)).trans
    ((captureHold_keepsRegs s.holdNoted _ _).mono (List.subset_append_right _ _))

theorem slotSends_keepsRegs (L : List Nat) (slot : Nat) : KeepsRegs L s (s.slotSends slot) :=
  keepsRegs_of_regs L (eq_of_mask State.regs (State.slotSends_mask s slot
    { tim := true, lanes := true, rte := true, out := true } rfl rfl rfl rfl) fun _ => rfl)
end

/-! ## The slot's start as a whole -/

section
variable (s : State) (f0 f1 : Bool)

/-- The state once WITHHOLD of the slot is settled. -/
def State.slotHeld : State := (s.slotChecked f0 f1).rootTimed.holdSet

theorem slotHeld_keepsRegs : KeepsRegs timeRegs s (s.slotHeld f0 f1) := by
  have hsampled := keepsRegs_of_regs timeRegs (rootSampled_regs (s.slotChecked f0 f1))
  have hheld := keepsRegs_of_regs timeRegs (holdSet_regs (s.slotChecked f0 f1).rootTimed)
  exact (((slotChecked_keepsRegs s f0 f1).trans hsampled).trans (rootTimed_steered _).regs).trans hheld

theorem slotHeld_mask {G : Fields} (hregs : G.regs) (htim : G.tim) (hhif : G.hif) (hlog : G.log) (hsched : G.sched)
    (hout : G.out) : (s.slotHeld f0 f1).mask G = s.mask G := by
  have hheld : (s.slotHeld f0 f1).mask G = (s.slotChecked f0 f1).rootTimed.mask G := by
    simp only [State.slotHeld, State.holdSet, withTim_mask, htim]
  rw [hheld, rootTimed_mask _ hregs htim hhif hlog hout, slotChecked_mask _ _ _ hregs htim hhif hlog hsched hout]

/-- What of the time unit stands then: the slot, its replicas and ROOT (R57, R81, R90). -/
theorem slotHeld_tim (hlock : s.tim.lock = true) : (s.slotHeld f0 f1).tim.now = max s.tim.now (s.tim.slot * slotUnits) ∧
    (s.slotHeld f0 f1).tim.slot = s.tim.slot + 1 ∧ (s.slotHeld f0 f1).tim.rep0 = slotRep f0 s.tim.slot ∧
    (s.slotHeld f0 f1).tim.rep1 = slotRep f1 s.tim.slot ∧ (s.slotHeld f0 f1).tim.rootMode = s.bit aTIM_CTRL 0 := by
  have hsteered := rootTimed_steered (s.slotChecked f0 f1)
  have hchecked := slotChecked_tim s f0 f1
  have hclock : (s.slotChecked f0 f1).rootTimed.tim.clock =
      ({ (s.slotTicked f0 f1).tim with rootMode := (s.slotChecked f0 f1).bit aTIM_CTRL 0 } : Tim).clock := by
    rw [hsteered.clock, ← hchecked]
    rfl
  refine ⟨?_, ?_, ?_, ?_, ?_⟩
  · exact (congrArg Tim.now hclock :).trans (advTo_now hlock _)
  · exact (congrArg Tim.slot hclock :)
  · exact (congrArg Tim.rep0 hclock :)
  · exact (congrArg Tim.rep1 hclock :)
  · exact (congrArg Tim.rootMode hclock :).trans
      (bit_of_reg (slotChecked_keepsRegs s f0 f1 aTIM_CTRL (by decide)) 0)

/-- The state after a slot start. -/
def State.slotDone : State := (s.slotHeld f0 f1).holdCounted.holdEdge.slotSends s.tim.slot

theorem slotStart1_eq : s.slotStart1 f0 f1 = s.slotDone f0 f1 := rfl

theorem exec_slotStart (hlock : s.tim.lock = true) : exec (.slotStart f0 f1) s = .next (s.slotDone f0 f1) := by
  rw [← slotStart1_eq]
  exact congrArg Host.Outcome.next (if_pos hlock)

/-- What is sent at the slot's start leaves the rest of the time unit. -/
theorem slotDone_tim : (s.slotDone f0 f1).tim = { (s.slotHeld f0 f1).tim with
    held := (s.slotHeld f0 f1).holdCounted.withheld, ltSeq := (s.slotDone f0 f1).tim.ltSeq } := by
  have hsent := slotSends_sent (s.slotHeld f0 f1).holdCounted.holdEdge s.tim.slot
  rw [State.slotDone, hsent.tim, holdEdge_tim, holdCounted_tim]

/-- What a slot start may change but for what capture writes. -/
def slotFields : Fields :=
  { regs := true, tim := true, hif := true, log := true, lanes := true, rte := true, sched := true, out := true }

/-- What a slot start may change. -/
def slotCapFields : Fields := { slotFields with cap := true, mem := true, poison := true }

theorem slotDone_rpl : (s.slotDone f0 f1).rpl = (s.slotHeld f0 f1).rpl := by
  refine eq_of_mask (G := slotCapFields) State.rpl ?_ fun _ => rfl
  rw [State.slotDone, State.slotSends_mask _ _ _ rfl rfl rfl rfl, State.holdEdge_mask _ _ rfl rfl rfl rfl rfl rfl rfl rfl,
    holdCounted_mask _ rfl rfl rfl]

theorem slotDone_withheld : (s.slotDone f0 f1).withheld = (s.slotHeld f0 f1).withheld := by
  have hwithhold : (s.slotDone f0 f1).tim.withhold = (s.slotHeld f0 f1).tim.withhold := by rw [slotDone_tim]
  rw [State.withheld, slotDone_rpl, hwithhold, State.withheld]

theorem slotDone_sched : (s.slotDone f0 f1).sched = (s.slotChecked f0 f1).sched := by
  refine eq_of_mask (G := { slotCapFields with sched := false }) State.sched ?_ fun _ => rfl
  rw [State.slotDone, State.slotSends_mask _ _ _ rfl rfl rfl rfl, State.holdEdge_mask _ _ rfl rfl rfl rfl rfl rfl rfl rfl,
    holdCounted_mask _ rfl rfl rfl, State.slotHeld, State.holdSet, withTim_mask _ _ rfl, withTim_mask _ _ rfl,
    rootTimed_mask _ rfl rfl rfl rfl rfl]

/-- A slot with WITHHOLD 1 is counted once, any other not (R90). -/
theorem slotDone_counted :
    ((s.slotHeld f0 f1).withheld = true → Counted s (s.slotDone f0 f1) aTIM_WITHHELD_SLOTS 1) ∧
      ((s.slotHeld f0 f1).withheld = false → (s.slotDone f0 f1).reg aTIM_WITHHELD_SLOTS = s.reg aTIM_WITHHELD_SLOTS) := by
  have hafter : KeepsRegs holdRegs (if (s.slotHeld f0 f1).withheld then (s.slotHeld f0 f1).bump aTIM_WITHHELD_SLOTS 1
      else s.slotHeld f0 f1) (s.slotDone f0 f1) :=
    ((holdCounted_keepsRegs _).trans ((holdEdge_keepsRegs _).mono (List.subset_append_right _ _))).trans
      (slotSends_keepsRegs _ _ _)
  have hbefore := slotHeld_keepsRegs s f0 f1
  refine ⟨fun h => ?_, fun h => ?_⟩
  · rw [if_pos h] at hafter
    exact .of_bump hbefore hafter (by decide) (by decide)
  · rw [if_neg (by simp [h])] at hafter
    exact (hafter _ (by decide)).trans (hbefore _ (by decide))

/-- Every STC lane that is up has sent its mark (R67). -/
theorem slotDone_mark {n : Nat} (hn : n < 16) (hup : (s.lane (stcIdx n)).up = true) :
    ∃ w syms, .mark n (lineBit (stcIdx n) (s.slotDone f0 f1).tim.clk) w syms ∈ (s.slotDone f0 f1).out ∧ w.length = 14 := by
  have hlane : (s.slotHeld f0 f1).holdCounted.holdEdge.lane (stcIdx n) = s.lane (stcIdx n) := by
    refine eq_of_mask (G := { slotCapFields with lanes := false }) (State.lane · (stcIdx n)) ?_ fun _ => rfl
    rw [State.holdEdge_mask _ _ rfl rfl rfl rfl rfl rfl rfl rfl, holdCounted_mask _ rfl rfl rfl,
      slotHeld_mask _ _ _ rfl rfl rfl rfl rfl rfl]
  rw [State.slotDone, (slotSends_sent _ s.tim.slot).clk]
  exact slotSends_mark _ s.tim.slot hn (hlane ▸ hup)

/-- Without capture no memory changes. -/
theorem slotDone_memory (hcap : s.cap.active = false) :
    (s.slotDone f0 f1).mask slotFields = s.mask slotFields := by
  have hnoted : (s.slotHeld f0 f1).holdCounted.holdNoted.mask slotFields = s.mask slotFields := by
    rw [holdNoted_mask _ rfl rfl rfl rfl rfl, holdCounted_mask _ rfl rfl rfl, slotHeld_mask _ _ _ rfl rfl rfl rfl rfl rfl]
  have hactive : (s.slotHeld f0 f1).holdCounted.holdNoted.cap.active = false :=
    (eq_of_mask (fun u => u.cap.active) hnoted fun _ => rfl).trans hcap
  rw [State.slotDone, State.slotSends_mask _ _ _ rfl rfl rfl rfl, holdEdge_eq, captureHold_of_inactive _ _ _ hactive, hnoted]
end

/-- Settles O13: the slot is counted and compared (`slotChecked`), ROOT and the source are settled (`rootTimed`), WITHHOLD is set
(`holdSet`) and counted, and the lanes send. -/
theorem slotStart : Obligations.SlotStart := by
  unfold Obligations.SlotStart
  intro s f0 f1
  refine ⟨fun hlock => congrArg Host.Outcome.next (if_neg (ne_true_of_eq_false hlock)), fun hlock => ?_⟩
  have hexec := exec_slotStart s f0 f1 hlock
  have htim := slotDone_tim s f0 f1
  obtain ⟨hnow, hslot, hrep0, hrep1, hroot⟩ := slotHeld_tim s f0 f1 hlock
  obtain ⟨hcounted, hkept⟩ := slotDone_counted s f0 f1
  refine ⟨_, hexec, ?now, ?slot, ?rep0, ?rep1, ?sound, ?fault, ?root, ?freerun, fun n hn hup => slotDone_mark s f0 f1 hn hup,
    ?memory, ?counted, ?kept, execSlotStart_mask f0 f1 s _ rfl rfl rfl rfl rfl rfl rfl rfl rfl rfl rfl _ hexec⟩
  case now => rw [htim, hnow]
  case slot => rw [htim, hslot]
  case rep0 => rw [htim, hrep0, slotRep_eq_iff]
  case rep1 => rw [htim, hrep1, slotRep_eq_iff]
  case sound =>
    rintro rfl rfl
    rw [slotDone_sched, slotChecked_sched_of_sound]
  case fault =>
    intro hfault hlaunched
    rw [slotDone_sched, slotChecked_desync s f0 f1 hfault hlaunched]
  case root => rw [htim, hroot]
  case freerun =>
    intro hstate
    rw [htim] at hstate ⊢
    exact holdSet_withhold _ hstate
  case memory =>
    intro hcap
    have hmask := slotDone_memory s f0 f1 hcap
    exact ⟨eq_of_mask State.mem hmask fun _ => rfl, eq_of_mask State.writes hmask fun _ => rfl,
      eq_of_mask State.poison hmask fun _ => rfl, eq_of_mask State.soft hmask fun _ => rfl⟩
  case counted => exact fun h => hcounted ((slotDone_withheld s f0 f1).symm.trans h)
  case kept => exact fun h => hkept ((slotDone_withheld s f0 f1).symm.trans h)

end Sys2Proof.Machine
end

section
/-! SUPPORT. One sub-port or one lane replaced, and what the shared operations of a port leave of the rest (R121–R147). -/

namespace Sys2Proof.Machine

/-! ## Sub-ports -/

section
variable {s s' t t' : State} {p k : Nat} {x : SubPort}

theorem sub_congr (h : t.subs = s.subs) (p k : Nat) : t.sub p k = s.sub p k := by rw [State.sub, h, State.sub]

/-- A sub-port replaced is the only one that changes. -/
theorem setSub_oneSub (s : State) (p k : Nat) (x : SubPort) : OneSub s (s.setSub p k x) p k x :=
  ⟨sub_setSub s p k x, fun _ _ h => sub_setSub_ne s x h⟩

/-- What says that one sub-port changed speaks of the sub-ports only. -/
theorem OneSub.congr (h : OneSub s t p k x) (hs : s'.subs = s.subs) (ht : t'.subs = t.subs) : OneSub s' t' p k x := by
  obtain ⟨hx, hrest⟩ := h
  exact ⟨(sub_congr ht p k).trans hx, fun q j hne => (sub_congr ht q j).trans ((hrest q j hne).trans (sub_congr hs q j).symm)⟩

/-- A sub-port that is left as it was. -/
theorem oneSub_of_subs (h : t.subs = s.subs) : OneSub s t p k (s.sub p k) := ⟨sub_congr h p k, fun q j _ => sub_congr h q j⟩

/-- A sub-port that changes twice is as it became last. -/
theorem OneSub.trans {y : SubPort} (h : OneSub s t p k x) (h' : OneSub t t' p k y) : OneSub s t' p k y :=
  ⟨h'.1, fun q j hne => (h'.2 q j hne).trans (h.2 q j hne)⟩
end

@[simp] theorem evt_subs (s : State) (blk ev bit : Nat) : (s.evt blk ev bit).subs = s.subs :=
  eq_of_mask State.subs (State.evt_mask s blk ev bit { regs := true, hif := true, out := true } rfl rfl rfl) fun _ => rfl

@[simp] theorem evt_lanes (s : State) (blk ev bit : Nat) : (s.evt blk ev bit).lanes = s.lanes :=
  eq_of_mask State.lanes (State.evt_mask s blk ev bit { regs := true, hif := true, out := true } rfl rfl rfl) fun _ => rfl

/-- What had been sent before an event still is. -/
theorem evt_raised (s : State) (blk ev bit : Nat) : Raised s (s.evt blk ev bit) :=
  (setW1c_raised s ev bit _).trans (blockEvent_raised _ blk)

/-! ## Events of a port -/

section
variable (s : State) (p : Nat)

theorem prtEvent_not_pf : aPRT_EVENT p ∉ evtRegs (aHIF_FN_EVENT 0) := by
  simp [evtRegs, aPRT_EVENT, aHIF_FN_EVENT, fnPage]
  omega

/-- An event of a port is on record after it. -/
theorem prtEvt_bit {bit : Nat} (hb : bit < 32) : (s.prtEvt p bit).bit (aPRT_EVENT p) bit = true := by
  simp [State.prtEvt, evt_bit s 9 _ hb (prtEvent_not_pf p)]

/-- An event of a port writes no register but those of the event. -/
theorem prtEvt_keepsRegs {bit : Nat} (hb : bit < 8) : KeepsRegs (blockRegs (aPRT_EVENT p)) s (s.prtEvt p bit) :=
  evt_keepsRegs s 9 _ hb

/-- The registers that an event of a port writes. -/
theorem mem_blockRegs_prtEvent {o : Nat} : o ∈ blockRegs (aPRT_EVENT p) ↔
    (o = 0x200030 + 0x1000 * p ∨ o = 0x200034 + 0x1000 * p ∨ o = 0x200038 + 0x1000 * p) ∨
      o = 0x38010 ∨ o = 0x38014 ∨ o = 0x38018 := by
  simp [blockRegs, evtRegs, aPRT_EVENT, aHIF_FN_EVENT, fnPage]
  omega
end

end Sys2Proof.Machine
end

section
/-! PROOFS. How a direction of a link rests and wakes (R134–R147). -/

namespace Sys2Proof.Machine

/-! ## The entry's end before its commit, and the commit (R134, R139, R141) -/

section
variable (s : State) (p k : Nat)

/-- What abandoning an entry does to the state `u` in which the end does it, having sent `sent` with it (R139). -/
def Abandoned (sent : List Emit) (u t : State) (p k : Nat) : Prop :=
  OneSub u t p k { u.sub p k with reqSent := false, pend := none, idle := u.curSlot } ∧ (∀ o ∈ sent, o ∈ t.out) ∧
  Counted u t (aREST_ABORTS p k) 1 ∧ t.bit (aPRT_EVENT p) 5 = true ∧
  Only { regs := true, hif := true, subs := true, out := true } u t ∧
  KeepsRegs (aREST_ABORTS p k :: blockRegs (aPRT_EVENT p)) u t

/-- A counter of a sub-port, counted before an event of its port. -/
theorem bump_prtEvt_counted {o bit : Nat} (n : Nat) (hb : bit < 8) (ho : o ∉ blockRegs (aPRT_EVENT p)) :
    Counted s ((s.bump o n).prtEvt p bit) o n ∧ KeepsRegs (o :: blockRegs (aPRT_EVENT p)) s ((s.bump o n).prtEvt p bit) := by
  have hafter := prtEvt_keepsRegs (s.bump o n) p hb
  exact ⟨.of_bump (.refl [] s) hafter List.not_mem_nil ho,
    ((bump_keepsRegs s o n).mono (by simp)).trans (hafter.mono (List.subset_cons_self _ _))⟩

theorem abandon_abandoned : Abandoned [.os p k 0x14 0] s (s.abandon p k) p k := by
  have hfar : aREST_ABORTS p k ∉ blockRegs (aPRT_EVENT p) := by
    rw [mem_blockRegs_prtEvent, aREST_ABORTS]
    omega
  have hsub := setSub_oneSub (s.sendOs p k 0x14 0) p k
    { s.sub p k with reqSent := false, pend := none, idle := s.curSlot }
  obtain ⟨hcounted, hkept⟩ := bump_prtEvt_counted ((s.sendOs p k 0x14 0).setSub p k
    { s.sub p k with reqSent := false, pend := none, idle := s.curSlot }) p 1 (bit := 5) (by decide) hfar
  refine ⟨hsub.congr rfl (evt_subs ..), ?_, hcounted, prtEvt_bit _ p (by decide), State.abandon_mask s p k _ rfl rfl rfl rfl,
    hkept⟩
  intro o ho
  rw [List.mem_singleton.mp ho]
  exact (evt_raised _ _ _ _).out _ List.mem_cons_self

/-- An entry abandoned after a set was sent (R137, R139). -/
theorem emit_abandon_abandoned (e : Emit) : Abandoned [.os p k 0x14 0, e] s ((s.emit e).abandon p k) p k := by
  obtain ⟨hsub, hout, hcounted, hbit, honly, hkept⟩ := abandon_abandoned (s.emit e) p k
  refine ⟨hsub.congr rfl rfl, ?_, hcounted, hbit, honly.trans (State.emit_mask s e _ rfl), hkept⟩
  simp only [List.forall_mem_cons]
  exact ⟨hout _ List.mem_cons_self, (evt_raised _ _ _ _).out _ (List.mem_cons_of_mem _ List.mem_cons_self), nofun⟩

/-- What a commit does to the state `s` in which the end commits, having sent `sent` last (R134, R141). -/
def Committed (sent : List Emit) (s t : State) (p k : Nat) : Prop :=
  OneSub s t p k { s.sub p k with
    state := 5, reqSent := false, wake := false, sched := false, since := s.tim.clk, pend := none } ∧
  t.out = sent ++ s.out ∧ Counted s t (aREST_COMMITS p k) 1 ∧ Only { regs := true, subs := true, out := true } s t ∧
  KeepsRegs [aREST_COMMITS p k] s t

theorem commit_committed : Committed [.os p k 0x13 0] s (s.commit p k 0) p k :=
  ⟨(setSub_oneSub (s.sendOs p k 0x13 0) p k _).congr rfl rfl, rfl, bump_same _ _ _,
    State.commit_mask s p k 0 _ rfl rfl rfl, bump_keepsRegs _ _ 1⟩

/-- A commit after a set was sent (R137). -/
theorem emit_commit_committed (e : Emit) : Committed [.os p k 0x13 0, e] s ((s.emit e).commit p k 0) p k := by
  obtain ⟨hsub, hout, hcounted, honly, hkept⟩ := commit_committed (s.emit e) p k
  exact ⟨hsub.congr rfl rfl, hout, hcounted, honly.trans (State.emit_mask s e _ rfl), hkept⟩
end

/-! ## Wake requests (R139, R140, R143, R147) -/

section
variable (com : Instr) (s : State) (p k : Nat) (u : State)

/-- The sub-port holds a wake request, since now where it held none (R147). -/
def State.wakeHeld (y : SubPort) : SubPort := if y.wake then y else { y with wake := true, wakeAt := u.tim.clk }

/-- A committed sub-port after a wake request: its entry goes on to its end, or its exit begins (R140, R141). -/
def State.committedWoken (y : SubPort) : SubPort :=
  if y.state = 5 ∧ u.tim.clk < y.since + 4800 then u.wakeHeld y else { u.wakeHeld y with state := 7, since := u.tim.clk }

/-- What a wake request that reaches the sub-port in the state `u` does, where `com` carries it (R139, R140, R143, R147). -/
def Wakes : Prop :=
  let y := u.sub p k
  let becomes : SubPort → Prop := fun z => Answers com s fun t => OneSub u t p k z ∧ Only { subs := true } u t
  (y.state = 4 → y.asked = true → Answers com s fun t => Abandoned [.os p k 0x14 0] u t p k) ∧
  (y.state = 4 → y.asked = false → becomes y) ∧
  (y.state = 5 ∨ y.state = 6 → y.wake = true → becomes y) ∧
  (y.state = 5 ∨ y.state = 6 → y.wake = false → Answers com s fun t =>
    OneSub u t p k (u.committedWoken y) ∧ Counted u t (aWAKES_AFTER_COMMIT p k) 1 ∧ t.bit (aPRT_EVENT p) 6 = true ∧
    Only { regs := true, hif := true, subs := true, out := true } u t ∧
    KeepsRegs (aWAKES_AFTER_COMMIT p k :: blockRegs (aPRT_EVENT p)) u t) ∧
  (y.state = 7 → becomes (u.wakeHeld y))

/-- The entry of a direction that has committed is over, but for one that is ENTERING before its 600 ns are (R141). -/
theorem entered_eq_false_iff {x : SubPort} (hx : x.state = 5 ∨ x.state = 6) :
    u.entered x = false ↔ x.state = 5 ∧ u.tim.clk < x.since + 4800 := by
  unfold State.entered restIn
  obtain h | h := hx <;> simp [h]

/-- The wake request after a commit (R140). -/
theorem wakeReq_of_committed (hstate : (u.sub p k).state = 5 ∨ (u.sub p k).state = 6) (hwake : (u.sub p k).wake = false) :
    u.wakeReq p k = ((u.setSub p k (u.committedWoken (u.sub p k))).bump (aWAKES_AFTER_COMMIT p k) 1).prtEvt p 6 := by
  have hup : (u.sub p k).state ≠ 4 := by omega
  have hawake : ¬(u.sub p k).wake = true := by simp [hwake]
  rw [State.wakeReq, if_neg hup, if_pos hstate, if_neg hawake, State.committedWoken]
  cases hentered : u.entered (u.sub p k)
  · rw [if_pos ((entered_eq_false_iff u hstate).mp hentered)]
    rfl
  · rw [if_neg fun h => Bool.false_ne_true (((entered_eq_false_iff u hstate).mpr h).symm.trans hentered)]
    rfl

/-- The command whose whole effect is a wake request on the sub-port. -/
theorem wakes_of_exec (h : exec com s = .next (u.wakeReq p k)) : Wakes com s p k u := by
  have becomes : ∀ x, u.wakeReq p k = u.setSub p k x →
      Answers com s fun t => OneSub u t p k x ∧ Only { subs := true } u t := fun x hx =>
    ⟨_, h, by rw [hx]; exact ⟨setSub_oneSub u p k x, State.setSub_mask u p k x _ rfl⟩⟩
  have stays : u.wakeReq p k = u → Answers com s fun t => OneSub u t p k (u.sub p k) ∧ Only { subs := true } u t := fun hu =>
    ⟨_, h, by rw [hu]; exact ⟨oneSub_of_subs rfl, rfl⟩⟩
  refine ⟨fun hup hasked => ⟨_, h, ?_⟩, fun hup hasked => stays ?_, fun hstate hwake => stays ?_, fun hstate hwake => ⟨_, h, ?_⟩,
    fun hstate => becomes _ ?_⟩
  · rw [State.wakeReq, if_pos hup, if_pos hasked]
    exact abandon_abandoned u p k
  · rw [State.wakeReq, if_pos hup, if_neg (by simp [hasked])]
  · have hup : (u.sub p k).state ≠ 4 := by omega
    rw [State.wakeReq, if_neg hup, if_pos hstate, if_pos hwake]
  · have hfar : aWAKES_AFTER_COMMIT p k ∉ blockRegs (aPRT_EVENT p) := by
      rw [mem_blockRegs_prtEvent, aWAKES_AFTER_COMMIT]
      omega
    have honly := State.wakeReq_mask u p k { regs := true, hif := true, subs := true, out := true } rfl rfl rfl rfl
    obtain ⟨hcounted, hkept⟩ := bump_prtEvt_counted (u.setSub p k (u.committedWoken (u.sub p k))) p 1 (bit := 6)
      (by decide) hfar
    rw [wakeReq_of_committed p k u hstate hwake] at honly ⊢
    exact ⟨(setSub_oneSub u p k _).congr rfl (evt_subs ..), hcounted, prtEvt_bit _ p (by decide), honly, hkept⟩
  · rw [State.wakeReq, if_neg (by omega), if_neg (by omega), if_pos hstate]
    rfl
end

end Sys2Proof.Machine
end

section
/-! SUPPORT. A plain write of a register below the cells' (R16, R583): no fault record waits for it, and no other
register changes. -/

namespace Sys2Proof.Machine

/-- Numbers whose bits from `lo` to `hi` agree have that field in common. -/
theorem bitsOf_congr {x y hi lo : Nat} (h : ∀ i, lo ≤ i → i ≤ hi → bitOf x i = bitOf y i) : bitsOf x hi lo = bitsOf y hi lo := by
  refine Nat.eq_of_testBit_eq fun i => ?_
  simp only [bitsOf, Nat.testBit_mod_two_pow, Nat.testBit_shiftRight]
  by_cases hi' : i < hi + 1 - lo
  · rw [show x.testBit (lo + i) = y.testBit (lo + i) from h (lo + i) (by omega) (by omega)]
  · simp [hi']

section
variable (s : State) {o : Nat} (v : Word) (ho : o < 0x400000)
include ho

/-- The fault records lie among the registers of the cells and the matrix units. -/
theorem no_fault_of_low : ∀ x ∈ s.now4.held, faultRecord o = true → x.1 ≠ o := by
  refine fun x _ hfault => absurd hfault ?_
  have hcel : o ≠ aCEL_FAULT_REC3 := by unfold aCEL_FAULT_REC3; omega
  have hmxu : ∀ u, o ≠ aMXU_FAULT_REC2 u := fun u => by unfold aMXU_FAULT_REC2; omega
  simp [faultRecord, hcel, hmxu]

theorem takeHeld_of_low : s.takeHeld o v = s := takeHeld_of_no_fault s o v (no_fault_of_low s ho)

/-- A plain write stores one word, or, where the map has no such register, nothing. -/
theorem plainWrite_of_low : s.plainWrite o v = s ∨ ∃ w, s.plainWrite o v = s.setReg o w := by
  unfold State.plainWrite
  split
  · exact .inl rfl
  · exact .inr ⟨_, takeHeld_of_low _ v ho⟩

theorem plainWrite_low_keepsRegs : KeepsRegs [o] s (s.plainWrite o v) := by
  obtain h | ⟨w, h⟩ := plainWrite_of_low s v ho <;> rw [h]
  · exact .refl _ s
  · exact setReg_keepsRegs s o w

theorem plainWrite_low_reg_ne {o' : Nat} (h : o' ≠ o) : (s.plainWrite o v).reg o' = s.reg o' :=
  plainWrite_low_keepsRegs s v ho o' (by simpa using h)

/-- A field of RW bits takes what is written to it (R16). -/
theorem plainWrite_low_fld {rw hi lo : Nat} (hrw : (regRow o).map (·.rw) = some rw) (hhi : hi < 32)
    (hbits : ∀ i, lo ≤ i → i ≤ hi → bitOf rw i = true) : (s.plainWrite o v).fld o hi lo = bitsOf v.toNat hi lo := by
  obtain ⟨r, hr, rfl⟩ := Option.map_eq_some_iff.mp hrw
  refine bitsOf_congr fun i hlo hle => ?_
  exact (plainWrite_bit v hr (no_fault_of_low s ho) (by omega)).trans (if_pos (hbits i hlo hle))

/-- A RW bit takes what is written to it (R16). -/
theorem plainWrite_low_bit {rw i : Nat} (hrw : (regRow o).map (·.rw) = some rw) (hi : i < 32) (hbit : bitOf rw i = true) :
    (s.plainWrite o v).bit o i = bitOf v.toNat i := by
  obtain ⟨r, hr, rfl⟩ := Option.map_eq_some_iff.mp hrw
  exact (plainWrite_bit v hr (no_fault_of_low s ho) hi).trans (if_pos hbit)
end

end Sys2Proof.Machine
end

section
/-! PROOFS. What the sets and timers of link rest do to a sub-port that is UP, and the proof of O41 (R134–R147). -/

namespace Sys2Proof.Machine

section
variable {s : State} {p k : Nat} (hsub : s.hasSub p k = true)
include hsub

/-- The end asks for rest where its idle time has passed, an L-port not near a TIME window (R136, R145). -/
theorem exec_idleRestTimeout (hport : p < 80) (hup : (s.sub p k).state = 4) (hreq : (s.sub p k).reqSent = false)
    (hpend : (s.sub p k).pend = none) (hrest : s.bit (aPRT_CTRL p) 6 = true) (hqueued : s.queuedFor p k = false) :
    exec (.idleRestTimeout p k) s = .next (
      let u := s.advTo ((max (s.sub p k).idle (s.egr (8 * p + k)).idle + s.fld (aPRT_REST_CTRL p) 15 0) * 7680)
      if decide (64 ≤ p) && nearTimeWindow u.curSlot then u
      else (u.sendOs p k 0x10 0).setSub p k { s.sub p k with reqSent := true }) :=
  congrArg Host.Outcome.next (if_pos (by simp [hsub, hport, hup, hreq, hpend, hrest, hqueued]))

/-- A REST_REQ is answered where the sub-port is UP (R137, R138). -/
theorem exec_restReqRx (hport : p < 80) (hup : (s.sub p k).state = 4) :
    exec (.restReqRx p k) s = .next (
      if s.restNak p k = 0 then (s.sendOs p k 0x11 0).commit p k 0
      else if s.restNak p k = 1 ∧ (s.sub p k).reqSent then (s.sendOs p k 0x12 (s.restNak p k)).abandon p k
      else s.sendOs p k 0x12 (s.restNak p k)) :=
  congrArg Host.Outcome.next (if_pos (by simp [hsub, hport, hup]))

/-- A REST_ACK is for the end that asked (R137). -/
theorem exec_restAckRx (hup : (s.sub p k).state = 4) (hreq : (s.sub p k).reqSent = true) :
    exec (.restAckRx p k) s = .next (
      if decide (64 ≤ p) && nearTimeWindow s.curSlot then s.abandon p k else s.commit p k 0) :=
  congrArg Host.Outcome.next (if_pos (by simp [hsub, hup, hreq]))

/-- The end of a scheduled window finds the entry over, or still running (R144). -/
theorem exec_restWindowExit (hsched : (s.sub p k).sched = true) (hwake : (s.sub p k).wake = false)
    (hstate : (s.sub p k).state = 5 ∨ (s.sub p k).state = 6) :
    exec (.restWindowExit p k) s = .next (
      let u := s.advTo (((s.sub p k).winEnd - 2) * 7680)
      if u.entered (s.sub p k) then u.setSub p k { s.sub p k with state := 7, since := u.tim.clk } else u) :=
  congrArg Host.Outcome.next (if_pos (by simp [hsub, hsched, hwake, hstate.symm]))

/-- The exit of a direction ends 1,400 ns after it began, in the state `u` that time has moved on to (R141, R142). -/
theorem restExitDone_effect {x : SubPort} (hx : s.sub p k = x) (hstate : x.state = 7) {u : State}
    (hu : s.advTo (s.tim.now + (x.since + 11200 - s.tim.clk)) = u) : Answers (.restExitDone p k) s fun t =>
    OneSub s t p k { x with state := 4, wake := false, sched := false, idle := u.curSlot } ∧ t.out = .os p k 0x15 0 :: s.out ∧
    t.reg (aWAKE_MAX_NS p k) = (if x.wake then
      BitVec.ofNat 32 (max (s.reg (aWAKE_MAX_NS p k)).toNat (toUnits ((x.since + 11200 : Nat) - (x.wakeAt : Int)) 8).toNat)
      else s.reg (aWAKE_MAX_NS p k)) ∧
    Only { regs := true, subs := true, out := true } u t ∧ KeepsRegs [aWAKE_MAX_NS p k] s t := by
  have hexec : exec (.restExitDone p k) s = .next (
      let v := u.setSub p k { x with state := 4, wake := false, sched := false, idle := u.curSlot }
      (if x.wake then v.wakeMax p k (toUnits ((x.since + 11200 : Nat) - (x.wakeAt : Int)) 8).toNat else v).sendOs p k 0x15 0) := by
    subst hx hu
    exact congrArg Host.Outcome.next (if_pos (by simp [hsub, hstate]))
  have hsubs : u.subs = s.subs := hu ▸ eq_of_mask State.subs (advTo_only s _) fun _ => rfl
  have hout : u.out = s.out := hu ▸ eq_of_mask State.out (advTo_only s _) fun _ => rfl
  have hreg : ∀ o, u.reg o = s.reg o := fun o => hu ▸ advTo_reg s _ o
  refine ⟨_, hexec, ?_⟩
  cases x.wake
  · refine ⟨(setSub_oneSub u p k _).congr hsubs.symm rfl, congrArg _ hout, hreg _, ?_, fun o _ => hreg o⟩
    exact (State.emit_mask _ _ _ rfl).trans (State.setSub_mask _ _ _ _ _ rfl)
  · refine ⟨(setSub_oneSub u p k _).congr hsubs.symm rfl, congrArg _ hout, ?_, ?_, fun o ho => ?_⟩
    · exact (reg_setReg ..).trans (by rw [if_pos rfl, ← hreg]; rfl)
    · exact (State.emit_mask _ _ _ rfl).trans ((State.wakeMax_mask _ _ _ _ _ rfl).trans (State.setSub_mask _ _ _ _ _ rfl))
    · exact (setReg_keepsRegs _ _ _ o ho).trans (hreg o)
end

/-- A write of WAKE asks every sub-port; one that is alone on its port is asked once (R143). -/
theorem exec_prtRestWake_single {s : State} {path : Path} {p : Nat} {v : Word} (hport : p < 84)
    (hmay : s.mayWrite path (aPRT_REST_CTRL p) = true) (hone : subCount p (s.portMode p) = 1) (hv : bitOf v.toNat 16 = true) :
    exec (.prtRestWake path p v) s = .next ((s.plainWrite (aPRT_REST_CTRL p) v).wakeReq p 0) := by
  have hmode : (s.plainWrite (aPRT_REST_CTRL p) v).portMode p = s.portMode p := by
    refine fld_of_reg (plainWrite_low_reg_ne s v ?_ ?_) 3 1 <;> simp only [aPRT_REST_CTRL, aPRT_CTRL] <;> omega
  change execPrtRestWake path p v s = _
  unfold execPrtRestWake State.prtRestCtrl
  rw [if_pos (by simp [hmay, hport]), if_pos hv, hmode, hone]
  rfl

/-- What an L-port near a TIME window is, as the model asks it (R145). -/
theorem nearTimeWindow_eq_true_iff (p slot : Nat) :
    (decide (64 ≤ p) && nearTimeWindow slot) = true ↔ 64 ≤ p ∧ (1020 ≤ slot % 1024 ∨ slot % 1024 = 0) := by
  simp [nearTimeWindow]

/-- The reason of R137 and R145 against an entry. -/
theorem restNak_eq (s : State) (p k : Nat) : s.restNak p k =
    if s.queuedFor p k then 1 else if s.bit (aPRT_CTRL p) 7 = false then 2
    else if 64 ≤ p ∧ (1020 ≤ s.curSlot % 1024 ∨ s.curSlot % 1024 = 0) then 3 else 0 := by
  simp only [State.restNak, nearTimeWindow_eq_true_iff, Bool.not_eq_true']

/-- Settles O41: the answers to the peer's sets are `commit_committed` and `abandon_abandoned`, and every wake request is
`wakes_of_exec`. -/
theorem linkRest : Obligations.LinkRest := by
  unfold Obligations.LinkRest
  intro s p k hsub hport
  dsimp only
  simp only [← restNak_eq]
  have hwakes : ∀ com u, exec com s = .next (u.wakeReq p k) → Wakes com s p k u := fun com u h => wakes_of_exec com s p k u h
  refine ⟨?idle, ?quiet, ?answers, ?rests, hwakes _ _ ?aborted, fun hrest => hwakes _ _ ?woken, fun hrest => hwakes _ _ ?awake,
    fun hrest => hwakes _ _ ?signal, fun hL hopen => hwakes _ _ ?window, fun path v hk hone hmay hv => hwakes _ _ ?register,
    fun hstate => ?entered, fun hstate => restExitDone_effect hsub rfl hstate rfl, ?windowEnd, ?noWindow⟩
  case idle =>
    intro hup hreq hpend hrest hqueued
    have hexec := exec_idleRestTimeout hsub hport hup hreq hpend hrest hqueued
    refine ⟨fun hfar => hexec.trans (congrArg _ (if_neg (mt (nearTimeWindow_eq_true_iff p _).mp hfar))), fun hnear =>
      hexec.trans (congrArg _ (if_pos ((nearTimeWindow_eq_true_iff p _).mpr hnear)))⟩
  case quiet =>
    intro hquiet
    refine congrArg Host.Outcome.next (if_neg fun h => ?_)
    simp only [Bool.and_eq_true, Bool.not_eq_true', Option.isNone_iff_eq_none] at h
    obtain ⟨⟨⟨⟨-, hreq⟩, hpend⟩, hrest⟩, hqueued⟩ := h
    simp [hreq, hpend, hrest, hqueued] at hquiet
  case answers =>
    intro hup
    have hrx := exec_restReqRx hsub hport hup
    have hacked := fun hreq => exec_restAckRx hsub hup hreq
    refine ⟨fun hwhy => ⟨_, hrx, ?_⟩, fun hwhy hreq => ⟨_, hrx, ?_⟩, fun hwhy hno => ?_, fun hreq hfar => ⟨_, hacked hreq, ?_⟩,
      fun hreq hnear => ⟨_, hacked hreq, ?_⟩, fun hreq why => ?_, fun hreq => ?_⟩
    · rw [if_pos hwhy]
      exact emit_commit_committed s p k _
    · rw [if_neg (by omega), if_pos ⟨hwhy, hreq⟩, hwhy]
      exact emit_abandon_abandoned s p k _
    · refine hrx.trans (congrArg _ ((if_neg hwhy).trans (if_neg fun h => ?_)))
      obtain h' | h' := hno
      · exact h' h.1
      · exact Bool.false_ne_true (h'.symm.trans h.2)
    · rw [if_neg (mt (nearTimeWindow_eq_true_iff p _).mp hfar)]
      exact commit_committed s p k
    · rw [if_pos ((nearTimeWindow_eq_true_iff p _).mpr hnear)]
      exact abandon_abandoned s p k
    · exact congrArg Host.Outcome.next (if_pos (by simp [hsub, hup, hreq]))
    · exact congrArg Host.Outcome.next (if_neg (by simp [hreq]))
  case rests =>
    exact fun hlo hhi arg => congrArg Host.Outcome.next (if_pos (by simp [hsub, hport, hlo, hhi]))
  case aborted => exact congrArg Host.Outcome.next (if_pos hsub)
  case woken =>
    have hexec : exec (.wakeRx p k) s = _ := congrArg Host.Outcome.next (if_pos hsub)
    rw [hexec, if_pos hrest]
  case awake =>
    have hexec : exec (.wakeRx p k) s = _ := congrArg Host.Outcome.next (if_pos hsub)
    rw [hexec, if_neg (by simp [hrest])]
  case signal => exact congrArg Host.Outcome.next (if_pos (by simp [hsub, hrest]))
  case window =>
    refine congrArg Host.Outcome.next (if_pos ?_)
    obtain ⟨hlo, hhi⟩ | hasked := hopen
    · simp [hsub, hL, hport, resting, hlo, hhi]
    · simp [hsub, hL, hport, hasked]
  case register =>
    subst hk
    exact exec_prtRestWake_single (by omega) hmay hone hv
  case entered => exact congrArg Host.Outcome.next (if_pos (by simp [hsub, hstate]))
  case windowEnd =>
    intro hstate hsched hwake
    have hexec := exec_restWindowExit hsub hsched hwake hstate
    refine ⟨fun hover => hexec.trans (congrArg _ (if_pos ?_)), fun hfive hearly => hexec.trans (congrArg _ (if_neg ?_))⟩
    · rw [← Bool.not_eq_false, entered_eq_false_iff _ hstate]
      omega
    · rw [Bool.not_eq_true, entered_eq_false_iff _ hstate]
      exact ⟨hfive, hearly⟩
  case noWindow =>
    intro h
    refine congrArg Host.Outcome.next (if_neg ?_)
    obtain hsched | hwake := h
    · simp [hsched]
    · simp [hwake]

end Sys2Proof.Machine
end

section
/-! SUPPORT. What the loss of a link leaves (R130, R188, R453, R461): the registers of the ports and lanes but for the counts of
scheduled drops, every egress but for what is lost with its link, time but for the sort of its state, and the log where no frame
was being sent. -/

namespace Sys2Proof.Machine

/-! ## Folds -/

section
variable {α : Type} {f : State → α → State} {P Q : State → Prop}

/-- What every step of a fold keeps holds at its end. -/
theorem foldl_keeps {l : List α} (hkeep : ∀ u, ∀ x ∈ l, P u → P (f u x)) {s : State} (h : P s) : P (l.foldl f s) := by
  induction l generalizing s with
  | nil => exact h
  | cons x l ih =>
    exact ih (fun u y hy => hkeep u y (List.mem_cons_of_mem _ hy)) (hkeep s x List.mem_cons_self h)

/-- What the step of one element brings about, and every other step keeps, holds at the end of a fold. -/
theorem foldl_establishes {l : List α} {x : α} (hx : x ∈ l) (hP : ∀ u, ∀ y ∈ l, P u → P (f u y)) (hset : ∀ u, P u → Q (f u x))
    (hkeep : ∀ u, ∀ y ∈ l, y ≠ x → P u → Q u → Q (f u y)) {s : State} (h : P s) : Q (l.foldl f s) := by
  have hstep : ∀ u, ∀ y ∈ l, P u ∧ Q u → P (f u y) ∧ Q (f u y) := fun u y hy ⟨hPu, hQu⟩ => by
    refine ⟨hP u y hy hPu, ?_⟩
    by_cases hyx : y = x
    · exact hyx ▸ hset u hPu
    · exact hkeep u y hy hyx hPu hQu
  obtain ⟨l₁, l₂, rfl⟩ := List.append_of_mem hx
  rw [List.foldl_append, List.foldl_cons]
  have hbefore : P (l₁.foldl f s) := foldl_keeps (fun u y hy => hP u y (List.mem_append_left _ hy)) h
  have hafter : ∀ u, ∀ y ∈ l₂, P u ∧ Q u → P (f u y) ∧ Q (f u y) := fun u y hy =>
    hstep u y (List.mem_append_right _ (List.mem_cons_of_mem _ hy))
  exact (foldl_keeps hafter ⟨hP _ x (by simp) hbefore, hset _ hbefore⟩).2
end

/-! ## Registers -/

/-- A register that no loss of a link writes: below those of the packet path, no count of scheduled drops, and none of an event of
the time unit and its log entry. -/
def LinkSafe (o : Nat) : Prop := o < 0x300000 ∧ o % 0x80 ≠ 0x34 ∧ o ∉ timeRegs

/-- A register of a lane or a port, or of one of its sub-ports, that counts no scheduled drop. -/
theorem linkSafe_of_port {o : Nat} (hlo : 0x70000 ≤ o) (hhi : o < 0x300000) (hdrop : o % 0x80 ≠ 0x34) : LinkSafe o :=
  ⟨hhi, hdrop, not_mem_of_timeRegs (List.Subset.refl _) hlo⟩

/-- The registers that no loss of a link writes hold in `t` what they held in `s`. -/
structure LinkKept (s t : State) : Prop where
  reg : ∀ o, LinkSafe o → t.reg o = s.reg o

theorem LinkKept.refl (s : State) : LinkKept s s := ⟨fun _ _ => rfl⟩

theorem LinkKept.trans {s t u : State} (h : LinkKept s t) (h' : LinkKept t u) : LinkKept s u :=
  ⟨fun o ho => (h'.reg o ho).trans (h.reg o ho)⟩

theorem linkKept_of_regs {s t : State} (h : t.regs = s.regs) : LinkKept s t := ⟨fun o _ => by rw [State.reg, h, State.reg]⟩

theorem KeepsRegs.linkKept {L : List Nat} {s t : State} (h : KeepsRegs L s t) (hL : ∀ o ∈ L, ¬LinkSafe o) : LinkKept s t :=
  ⟨fun o ho => h o fun hmem => hL o hmem ho⟩

theorem foldl_linkKept {α : Type} {f : State → α → State} (h : ∀ s x, LinkKept s (f s x)) (l : List α) (s : State) :
    LinkKept s (l.foldl f s) :=
  foldl_keeps (P := LinkKept s) (fun u x _ hu => hu.trans (h u x)) (.refl s)

/-- The PF's event registers are among those of an event of the time unit. -/
theorem not_linkSafe_of_mem_timeRegs {o : Nat} (h : o ∈ timeRegs) : ¬LinkSafe o := fun ho => ho.2.2 h

theorem not_linkSafe_of_high {o : Nat} (h : 0x300000 ≤ o) : ¬LinkSafe o := fun ho => absurd ho.1 (by omega)

theorem bump_linkKept (s : State) {o : Nat} (n : Nat) (h : ¬LinkSafe o) : LinkKept s (s.bump o n) :=
  (bump_keepsRegs s o n).linkKept (by simpa using h)

/-- An event of a block beyond the ports. -/
theorem evt_linkKept (s : State) (blk : Nat) {ev bit : Nat} (hb : bit < 8) (hev : 0x300000 ≤ ev) : LinkKept s (s.evt blk ev bit) := by
  refine (evt_keepsRegs s blk ev hb).linkKept fun o ho => ?_
  obtain hmem | hmem := List.mem_append.mp ho
  · refine not_linkSafe_of_high ?_
    simp only [evtRegs, List.mem_cons, List.not_mem_nil, or_false] at hmem
    omega
  · exact not_linkSafe_of_mem_timeRegs ((by decide : evtRegs (aHIF_FN_EVENT 0) ⊆ timeRegs) hmem)

section
variable (s : State)

theorem hazard_linkKept (bit : Nat) : LinkKept s (s.hazard bit) := by
  refine (hazard_keepsRegs s bit).linkKept ?_
  have hfar : ∀ o ∈ aDET_HAZARD :: blockRegs aDET_EVENT, 0x300000 ≤ o ∨ o ∈ timeRegs := by decide
  exact fun o ho => (hfar o ho).elim not_linkSafe_of_high not_linkSafe_of_mem_timeRegs

theorem offer_linkKept (cls sub src pav d0 d1 d2 d3 : Nat) : LinkKept s (s.offer cls sub src pav d0 d1 d2 d3) :=
  (offer_keepsRegs s cls sub src pav d0 d1 d2 d3).linkKept fun _ ho =>
    not_linkSafe_of_mem_timeRegs (List.mem_append_right _ ho)

theorem freeBuf_linkKept (die k o h : Nat) : LinkKept s (s.freeBuf die k o h) := by
  unfold State.freeBuf
  split
  · have hcount : ¬LinkSafe (aBPM_DOUBLE_FREE die) := not_linkSafe_of_high (by unfold aBPM_DOUBLE_FREE; omega)
    have hevt : 0x300000 ≤ aBPM_EVENT die := by unfold aBPM_EVENT; omega
    exact ((bump_linkKept s 1 hcount).trans (evt_linkKept _ 11 (bit := 3) (by decide) hevt)).trans (offer_linkKept ..)
  · exact linkKept_of_regs rfl

theorem release_linkKept (h : Held) : LinkKept s (s.release h) := by
  have hfree : LinkKept s (s.freeHeld h) := foldl_linkKept (fun u i => freeBuf_linkKept u _ _ _ i) _ s
  unfold State.release State.returnCredit
  dsimp only
  split
  · split
    · exact hfree
    · exact hfree.trans (linkKept_of_regs rfl)
  · exact hfree

theorem drop_linkKept (c ingress : Nat) (p : Pkt) : LinkKept s (s.drop c ingress p) := by
  refine (drop_keepsRegs s c ingress p).linkKept fun o ho => ?_
  obtain rfl | hmem := List.mem_cons.mp ho
  · exact not_linkSafe_of_high (by unfold aRTE_DROP; omega)
  · have hfar : ∀ o ∈ lastDropRegs, 0x300000 ≤ o ∨ o ∈ timeRegs := by decide
    exact (hfar o hmem).elim not_linkSafe_of_high not_linkSafe_of_mem_timeRegs

theorem schedDrop_linkKept (c ingress : Nat) (p : Pkt) : LinkKept s (s.schedDrop c ingress p) :=
  (drop_linkKept s c ingress p).trans (hazard_linkKept _ 4)

theorem schedNotUp_linkKept (p : Staged) : LinkKept s (s.schedNotUp p) := by
  unfold State.schedNotUp
  split
  · have hcount : ¬LinkSafe (aSCHED_DROP (p.egr / 8) (p.egr % 8)) := fun h => h.2.1 (by unfold aSCHED_DROP; omega)
    exact (bump_linkKept s 1 hcount).trans (hazard_linkKept _ 4)
  · exact schedDrop_linkKept ..

theorem loseSending_linkKept (e : Nat) : LinkKept s (s.loseSending e) := by
  unfold State.loseSending
  split
  · exact .refl s
  next x _ _ =>
    have hegr : LinkKept s (s.setEgr e { s.egr e with sending := none }) := linkKept_of_regs rfl
    cases x with
    | sched p => exact hegr.trans (schedDrop_linkKept ..)
    | queued q h =>
      dsimp only
      split
      · exact hegr.trans ((drop_linkKept ..).trans (release_linkKept ..))
      · exact hegr.trans (release_linkKept ..)
    | resent c =>
      dsimp only
      split
      · exact hegr.trans (schedDrop_linkKept ..)
      · exact hegr.trans (drop_linkKept ..)
    | link p => exact hegr
    | mac => exact hegr

theorem egressLost_linkKept (e : Nat) : LinkKept s (s.egressLost e) := by
  have hback : ∀ u : State, LinkKept u (u.reselectAll e) := fun _ => linkKept_of_regs rfl
  refine (loseSending_linkKept s e).trans (.trans ?_ ((foldl_linkKept schedNotUp_linkKept _ _).trans (hback _)))
  exact linkKept_of_regs rfl

theorem replayFlush_linkKept (l : Nat) : LinkKept s (s.replayFlush l) := by
  have hunacked : ¬LinkSafe (aRPL_UNACKED l) := not_linkSafe_of_high (by unfold aRPL_UNACKED; omega)
  have hevicted : ¬LinkSafe (aRPL_EVICTED l) := not_linkSafe_of_high (by unfold aRPL_EVICTED; omega)
  have hset : ∀ u : State, LinkKept u (u.setUnacked l) := fun u =>
    (setReg_keepsRegs u _ _).linkKept (by simpa using hunacked)
  have hlr : LinkKept s (s.setLr l lrepInit) := linkKept_of_regs rfl
  unfold State.replayFlush
  dsimp only
  split
  · exact hlr.trans (hset _)
  · exact hlr.trans ((bump_linkKept _ _ hevicted).trans (hset _))

theorem setSrcUp_regs (i : Nat) (b : Bool) : (s.setSrcUp i b).regs = s.regs :=
  eq_of_mask State.regs (State.setSrcUp_mask s i b { tim := true } rfl) fun _ => rfl

theorem linkLost_linkKept (p k : Nat) : LinkKept s (s.linkLost p k) := by
  have hegress := egressLost_linkKept s (8 * p + k)
  unfold State.linkLost
  dsimp only
  split
  · have hsource : ∀ u : State, LinkKept u u.noSource := fun u =>
      (noSource_steered u).regs.linkKept fun _ => not_linkSafe_of_mem_timeRegs
    refine ((hegress.trans (replayFlush_linkKept _ (p - 64))).trans ?_).trans (hsource _)
    exact linkKept_of_regs (setSrcUp_regs ..)
  · exact hegress
end

/-! ## Egresses -/

/-- An egress without the credits it owes and has given back (R195). -/
def Egress.frames (x : Egress) : Egress := { x with rxCum := [], owed := [] }

/-- Between `s` and `t` the egresses have lost no frame, and none more waits. -/
structure FramesKept (s t : State) : Prop where
  egr  : ∀ e, (t.egr e).frames = (s.egr e).frames
  wait : t.rte.wait = s.rte.wait

theorem FramesKept.refl (s : State) : FramesKept s s := ⟨fun _ => rfl, rfl⟩

theorem FramesKept.trans {s t u : State} (h : FramesKept s t) (h' : FramesKept t u) : FramesKept s u :=
  ⟨fun e => (h'.egr e).trans (h.egr e), h'.wait.trans h.wait⟩

theorem egr_congr {s t : State} (h : t.rte = s.rte) (e : Nat) : t.egr e = s.egr e := by rw [State.egr, h, State.egr]

theorem framesKept_of_rte {s t : State} (h : t.rte = s.rte) : FramesKept s t :=
  ⟨fun e => congrArg _ (egr_congr h e), congrArg _ h⟩

section
variable (s : State)

theorem drop_rte (c ingress : Nat) (p : Pkt) : (s.drop c ingress p).rte = s.rte :=
  eq_of_mask State.rte (State.drop_mask s c ingress p { regs := true, hif := true, out := true } rfl rfl rfl) fun _ => rfl

theorem schedDrop_rte (c ingress : Nat) (p : Pkt) : (s.schedDrop c ingress p).rte = s.rte :=
  eq_of_mask State.rte (State.schedDrop_mask s c ingress p { regs := true, hif := true, out := true } rfl rfl rfl) fun _ => rfl

/-- A scheduled packet that finds its egress not UP changes registers, and what the host is told, at most (R162, R182). -/
theorem schedNotUp_fold_mask (l : List Staged) :
    Only { regs := true, hif := true, out := true } s (l.foldl State.schedNotUp s) :=
  foldl_mask (fun u p => State.schedNotUp_mask u p _ rfl rfl rfl) l s

theorem freeBuf_frames (die k o h : Nat) : FramesKept s (s.freeBuf die k o h) := by
  unfold State.freeBuf
  split
  · refine framesKept_of_rte (eq_of_mask State.rte (G := { regs := true, hif := true, log := true, out := true }) ?_ fun _ => rfl)
    rw [State.bpmFault_mask _ _ _ _ _ _ _ rfl rfl rfl rfl, State.bump_mask _ _ _ _ rfl]
  · exact ⟨fun _ => rfl, rfl⟩

theorem release_frames (h : Held) : FramesKept s (s.release h) := by
  have hfree : FramesKept s (s.freeHeld h) :=
    foldl_keeps (P := FramesKept s) (fun u i _ hu => hu.trans (freeBuf_frames u _ _ _ i)) (.refl s)
  have hcredit : ∀ u : State, FramesKept u (u.returnCredit h.ingress h.vcIn (pktFlits h.pkt) h.endAt) := fun u => by
    unfold State.returnCredit
    split
    · exact .refl u
    · refine ⟨fun e => ?_, rfl⟩
      by_cases he : e = h.ingress
      · rw [he, egr_setEgr]
        split <;> rfl
      · rw [egr_setEgr_ne _ _ he]
  unfold State.release
  dsimp only
  split
  · exact hfree.trans (hcredit _)
  · exact hfree

/-- The egress of which the packet being sent is lost (R188, R201). -/
theorem loseSending_frames (e : Nat) : FramesKept (s.setEgr e { s.egr e with sending := none }) (s.loseSending e) := by
  unfold State.loseSending
  split
  next hnone =>
    refine ⟨fun f => ?_, rfl⟩
    by_cases hf : f = e
    · rw [hf, egr_setEgr, ← hnone]
    · rw [egr_setEgr_ne _ _ hf]
  next x _ _ =>
    cases x with
    | sched p => exact framesKept_of_rte (schedDrop_rte ..)
    | queued q h =>
      dsimp only
      split
      · exact (framesKept_of_rte (drop_rte ..)).trans (release_frames ..)
      · exact release_frames ..
    | resent c =>
      dsimp only
      split
      · exact framesKept_of_rte (schedDrop_rte ..)
      · exact framesKept_of_rte (drop_rte ..)
    | link p => exact .refl _
    | mac => exact .refl _

/-- An egress that has lost its link: nothing is being sent, staged, ready or replayed, and only the frames of an S-port stay in its
queues (R188, R266). -/
structure EgressLost (s t : State) (e : Nat) : Prop where
  sending : (t.egr e).sending = none
  staged  : (t.egr e).staged = []
  ready   : (t.egr e).ready = []
  resend  : (t.egr e).resend = []
  queues  : (t.egr e).queues = (s.egr e).queues.map (fun q => q.filter fun h => !h.eth.isEmpty)
  wait    : t.rte.wait = s.rte.wait ++ ((s.egr e).queues.flatten.filter fun h => h.eth.isEmpty)

theorem EgressLost.congr {s s' t t' : State} {e : Nat} (h : EgressLost s t e) (hs : s'.rte = s.rte) (ht : t'.rte = t.rte) :
    EgressLost s' t' e := by
  have hse := egr_congr hs e
  have hte := egr_congr ht e
  obtain ⟨h1, h2, h3, h4, h5, h6⟩ := h
  exact ⟨hte ▸ h1, hte ▸ h2, hte ▸ h3, hte ▸ h4, hte ▸ hse ▸ h5, by rw [ht, hs, hse, h6]⟩

/-- The egress as it is when its packets are selected again (R188). -/
theorem egressLost_lost (e : Nat) : EgressLost s (s.egressLost e) e := by
  obtain ⟨hegr, hwait⟩ := loseSending_frames s e
  have hframes := hegr e
  rw [egr_setEgr] at hframes
  have hsending : ((s.loseSending e).egr e).sending = none := congrArg Egress.sending hframes
  have hqueues : ((s.loseSending e).egr e).queues = (s.egr e).queues := (congrArg Egress.queues hframes :)
  have hfold : ∀ (l : List Staged) (u : State), (l.foldl State.schedNotUp u).rte = u.rte := fun l u =>
    eq_of_mask State.rte (schedNotUp_fold_mask u l) fun _ => rfl
  unfold State.egressLost
  dsimp only
  have hlost : ∀ (l : List Staged) (u : State), ((l.foldl State.schedNotUp u).reselectAll e).egr e =
      { u.egr e with queues := (u.egr e).queues.map (fun q => q.filter fun h => !h.eth.isEmpty),
                     deficit := List.replicate 5 0, visited := List.replicate 5 false, ptr := 3 } := fun l u => by
    rw [← egr_congr (hfold l u)]
    exact egr_setEgr _ _ _
  refine ⟨?sending, ?staged, ?ready, ?resend, ?queues, ?wait⟩
  case sending => rw [hlost, egr_setEgr]; exact hsending
  case staged => rw [hlost, egr_setEgr]
  case ready => rw [hlost, egr_setEgr]
  case resend => rw [hlost, egr_setEgr]
  case queues => rw [hlost, egr_setEgr, hqueues]
  case wait =>
    have hback : ∀ u : State, (u.reselectAll e).rte.wait =
        u.rte.wait ++ ((u.egr e).queues.flatten.filter fun h => h.eth.isEmpty) := fun _ => rfl
    rw [hback, hfold, egr_congr (hfold _ _), egr_setEgr, hqueues]
    exact congrArg (· ++ _) hwait

/-- Another egress is not sending after the loss where it was not before. -/
theorem egressLost_sending_ne {e f : Nat} (h : f ≠ e) : ((s.egressLost e).egr f).sending = (s.egr f).sending := by
  have hframes := (loseSending_frames s e).egr f
  rw [egr_setEgr_ne _ _ h] at hframes
  have hfold : ∀ (l : List Staged) (u : State), (l.foldl State.schedNotUp u).egr f = u.egr f := fun l u =>
    egr_congr (eq_of_mask State.rte (schedNotUp_fold_mask u l) fun _ => rfl) f
  have hback : ∀ u : State, (u.reselectAll e).egr f = u.egr f := fun u => egr_setEgr_ne u _ h
  unfold State.egressLost
  dsimp only
  rw [hback, hfold, egr_setEgr_ne _ _ h]
  exact (congrArg Egress.sending hframes :)
end

/-! ## Time and the log -/

section
variable (s : State)

/-- A source is reported up or down in what is known of it, and in what follows it (R79, R87). -/
theorem setSrcUp_tim (i : Nat) (b : Bool) : ∃ srcs facq, (s.setSrcUp i b).tim = { s.tim with srcs := srcs, facq := facq } := by
  unfold State.setSrcUp
  dsimp only
  split
  · exact ⟨_, _, rfl⟩
  · split
    · split <;> exact ⟨_, _, rfl⟩
    · exact ⟨_, _, rfl⟩

/-- HOLDOVER is entered, with its event, or nothing changes (R86). -/
theorem noSource_cases : s.noSource = s ∨
    s.tim.state = 2 ∧ s.noSource.tim.state = 1 ∧ s.noSource.bit aTIM_EVENT 1 = true := by
  unfold State.noSource
  split
  next h =>
    refine .inr ⟨h.1, by rw [toHoldover_tim]; rfl, ?_⟩
    rw [toHoldover_eq]
    exact timEvt_logTime_bit _ (by decide) 3
  next => exact .inl rfl

theorem egressLost_tim (e : Nat) : (s.egressLost e).tim = s.tim :=
  eq_of_mask State.tim (State.egressLost_mask s e { regs := true, hif := true, log := true, rte := true, out := true }
    rfl rfl rfl rfl rfl) fun _ => rfl

/-- The loss of a link touches no log where no frame was being sent (R188). -/
theorem egressLost_log {e : Nat} (h : (s.egr e).sending = none) : (s.egressLost e).log = s.log := by
  have hlose : s.loseSending e = s := by rw [State.loseSending, h]
  have hback : ∀ u : State, (u.reselectAll e).log = u.log := fun _ => rfl
  unfold State.egressLost
  dsimp only
  rw [hlose, hback, eq_of_mask State.log (schedNotUp_fold_mask _ _) fun _ => rfl]
  rfl
end

end Sys2Proof.Machine
end

section
/-! SUPPORT. A link that is lost as a whole, and what reads of a lane's and a port's registers stay with it (R112, R161, R188, R453,
R461). -/

namespace Sys2Proof.Machine

/-! ## Ports, sub-ports and lanes that exist -/

theorem lt_of_hasPort {s : State} {p : Nat} (h : s.hasPort p = true) : p < 84 := by
  simp only [State.hasPort, portPlaced] at h
  split at h <;> simp at h <;> omega

theorem subCount_le (p mode : Nat) : subCount p mode ≤ 8 := by
  unfold subCount
  split
  · exact Nat.pow_le_pow_right (by decide) (Nat.min_le_right mode 3)
  · decide

/-- A sub-port that exists has a port below 84 and a number below 8 (R106, R111). -/
theorem lt_of_hasSub {s : State} {p k : Nat} (h : s.hasSub p k = true) : p < 84 ∧ k < 8 := by
  simp only [State.hasSub, Bool.and_eq_true, decide_eq_true_eq] at h
  exact ⟨lt_of_hasPort h.1, Nat.lt_of_lt_of_le h.2 (subCount_le _ _)⟩

theorem lt_of_mem_portLanes {p i : Nat} (hp : p < 84) (h : i ∈ portLanes p) : i < 656 := by
  unfold portLanes at h
  split at h
  · obtain ⟨j, hj, rfl⟩ := List.mem_map.mp h
    have := List.mem_range.mp hj
    omega
  · split at h <;> obtain ⟨j, hj, rfl⟩ := List.mem_map.mp h <;> have := List.mem_range.mp hj <;> omega

theorem nodup_portLanes (p : Nat) : (portLanes p).Nodup := by
  unfold portLanes
  split
  · exact List.nodup_range.map fun a b h => by simpa using h
  · split <;> exact List.nodup_range.map fun a b h => by simpa using h

theorem nodup_subLanes (s : State) (p k : Nat) : (s.subLanes p k).Nodup := (nodup_portLanes p).filter _

/-- A lane of a port's sub-port is one of the port's lanes. -/
theorem mem_portLanes_of_mem_subLanes {s : State} {p k i : Nat} (h : i ∈ s.subLanes p k) : i ∈ portLanes p :=
  List.mem_of_mem_filter h

/-- A lane index of the lanes of ports belongs to the port that has it (R108). -/
theorem mem_portLanes_of_lanePort {i p l : Nat} (h : lanePort i = some (p, l)) : i ∈ portLanes p := by
  unfold lanePort at h
  unfold portLanes
  split at h
  · obtain ⟨rfl, rfl⟩ := Prod.mk.inj (Option.some.inj h)
    rw [if_pos (by omega)]
    exact List.mem_map.mpr ⟨i % 8, List.mem_range.mpr (by omega), by omega⟩
  · split at h
    · obtain ⟨rfl, rfl⟩ := Prod.mk.inj (Option.some.inj h)
      rw [if_neg (by omega), if_pos (by omega)]
      exact List.mem_map.mpr ⟨i % 8, List.mem_range.mpr (by omega), by omega⟩
    · split at h
      · obtain ⟨rfl, rfl⟩ := Prod.mk.inj (Option.some.inj h)
        rw [if_neg (by omega), if_neg (by omega)]
        exact List.mem_map.mpr ⟨i % 4, List.mem_range.mpr (by omega), by omega⟩
      · exact absurd h (by simp)

theorem lanePort_lt {i p l : Nat} (h : lanePort i = some (p, l)) : i < 656 ∧ p < 84 := by
  unfold lanePort at h
  split at h
  · obtain ⟨rfl, rfl⟩ := Prod.mk.inj (Option.some.inj h)
    omega
  · split at h
    · obtain ⟨rfl, rfl⟩ := Prod.mk.inj (Option.some.inj h)
      omega
    · split at h
      · obtain ⟨rfl, rfl⟩ := Prod.mk.inj (Option.some.inj h)
        omega
      · exact absurd h (by simp)

/-! ## Whether a lane or a sub-port is in a test (R161) -/

section
variable {s t : State} {p k : Nat}

theorem laneTest_congr {i : Nat} (h : ∀ o ∈ [aLNE_CTRL i, aLNE_PATGEN i, aLNE_PATCHK i], t.reg o = s.reg o) :
    t.laneTest i = s.laneTest i := by
  simp only [List.forall_mem_cons, List.not_mem_nil, false_implies, implies_true, and_true] at h
  obtain ⟨hctrl, hgen, hchk⟩ := h
  rw [State.laneTest, fld_of_reg hctrl, fld_of_reg hgen, fld_of_reg hchk, State.laneTest]

/-- The registers that say whether a lane is in a test are those of a lane. -/
theorem linkSafe_of_test {i o : Nat} (hi : i < 784) (ho : o ∈ [aLNE_CTRL i, aLNE_PATGEN i, aLNE_PATCHK i]) : LinkSafe o := by
  simp only [List.mem_cons, List.not_mem_nil, or_false, aLNE_CTRL, aLNE_PATGEN, aLNE_PATCHK] at ho
  exact linkSafe_of_port (by omega) (by omega) (by omega)

theorem linkSafe_portCtrl (hp : p < 84) : LinkSafe (aPRT_CTRL p) := by
  unfold aPRT_CTRL
  exact linkSafe_of_port (by omega) (by omega) (by omega)

theorem subTest_congr (hmode : t.portMode p = s.portMode p) (h : ∀ i ∈ portLanes p, t.laneTest i = s.laneTest i) :
    t.subTest p k = s.subTest p k := by
  have hlanes : t.subLanes p k = s.subLanes p k := by rw [State.subLanes, hmode, State.subLanes]
  rw [State.subTest, State.subTest, hlanes, Bool.eq_iff_iff, List.any_eq_true, List.any_eq_true]
  exact exists_congr fun i => and_congr_right fun hi => by rw [h i (mem_portLanes_of_mem_subLanes hi)]

theorem LinkKept.laneTest (h : LinkKept s t) {i : Nat} (hi : i < 784) : t.laneTest i = s.laneTest i :=
  laneTest_congr fun o ho => h.reg o (linkSafe_of_test hi ho)

theorem LinkKept.portMode (h : LinkKept s t) (hp : p < 84) : t.portMode p = s.portMode p :=
  fld_of_reg (h.reg _ (linkSafe_portCtrl hp)) 3 1

theorem LinkKept.portOn (h : LinkKept s t) (hp : p < 84) : t.portOn p = s.portOn p :=
  bit_of_reg (h.reg _ (linkSafe_portCtrl hp)) 0

theorem LinkKept.subTest (h : LinkKept s t) (hp : p < 84) : t.subTest p k = s.subTest p k :=
  subTest_congr (h.portMode hp) fun i hi => h.laneTest (by have := lt_of_mem_portLanes hp hi; omega)

theorem LinkKept.restartState (h : LinkKept s t) (hp : p < 84) : t.restartState p k = s.restartState p k := by
  rw [State.restartState, h.subTest hp, h.portOn hp, State.restartState]

theorem LinkKept.subLanes (h : LinkKept s t) (hp : p < 84) : t.subLanes p k = s.subLanes p k := by
  rw [State.subLanes, h.portMode hp, State.subLanes]
end

/-! ## The loss of a link -/

/-- The fields that the loss of a link may change. -/
def lossFields : Fields :=
  { regs := true, tim := true, hif := true, log := true, lrep := true, streams := true, rte := true, out := true }

/-- Between `s` and `t` sub-port `k` of port `p` has lost its link (R188, R453, R461). -/
structure LinkGone (s t : State) (p k : Nat) : Prop where
  regs  : LinkKept s t
  lost  : EgressLost s t (8 * p + k)
  subs  : t.subs = s.subs
  lanes : t.lanes = s.lanes
  now   : t.tim.now = s.tim.now
  clk   : t.tim.clk = s.tim.clk
  lock  : t.tim.lock = s.tim.lock
  state : t.tim.state = s.tim.state ∨
    (64 ≤ p ∧ p < 80 ∧ s.tim.state = 2 ∧ t.tim.state = 1 ∧ t.bit aTIM_EVENT 1 = true)
  log   : (s.egr (8 * p + k)).sending = none → t.tim.state = s.tim.state → t.log = s.log
  only  : Only lossFields s t

section
variable (s : State) (p k : Nat)

/-- What an L-port's loss does beyond its egress, up to the time unit's choice of a source (R453, R461). -/
def State.longLost (l : Nat) : State := ((s.replayFlush l).streamsDown l).setSrcUp (16 + l) false

theorem linkLost_eq : s.linkLost p k =
    if 64 ≤ p ∧ p < 80 then ((s.egressLost (8 * p + k)).longLost (p - 64)).noSource else s.egressLost (8 * p + k) := rfl

theorem longLost_mask (l : Nat) {G : Fields} (hregs : G.regs) (htim : G.tim) (hlrep : G.lrep) (hstreams : G.streams) :
    (s.longLost l).mask G = s.mask G := by
  rw [State.longLost, State.setSrcUp_mask _ _ _ _ htim, State.streamsDown_mask _ _ _ hstreams,
    State.replayFlush_mask _ _ _ hregs hlrep]

/-- Of the time unit an L-port's loss changes what is known of its source (R79). -/
theorem longLost_tim (l : Nat) : ∃ srcs facq, (s.longLost l).tim = { s.tim with srcs := srcs, facq := facq } := by
  have hflush : ((s.replayFlush l).streamsDown l).tim = s.tim :=
    (eq_of_mask State.tim (State.replayFlush_mask s l { regs := true, lrep := true } rfl rfl) fun _ => rfl :)
  rw [State.longLost, ← hflush]
  exact setSrcUp_tim _ _ _

theorem linkLost_gone : LinkGone s (s.linkLost p k) p k := by
  have honly := State.linkLost_mask s p k lossFields rfl rfl rfl rfl rfl rfl rfl rfl
  have hregs := linkLost_linkKept s p k
  have hsubs : (s.linkLost p k).subs = s.subs := eq_of_mask State.subs honly fun _ => rfl
  have hlanes : (s.linkLost p k).lanes = s.lanes := eq_of_mask State.lanes honly fun _ => rfl
  have hlost := egressLost_lost s (8 * p + k)
  have htim := egressLost_tim s (8 * p + k)
  have hlog := egressLost_log s (e := 8 * p + k)
  rw [linkLost_eq] at honly hregs hsubs hlanes ⊢
  by_cases hL : 64 ≤ p ∧ p < 80
  · rw [if_pos hL] at honly hregs hsubs hlanes ⊢
    obtain ⟨srcs, facq, hlong⟩ := longLost_tim (s.egressLost (8 * p + k)) (p - 64)
    have hrte : ((s.egressLost (8 * p + k)).longLost (p - 64)).noSource.rte = (s.egressLost (8 * p + k)).rte := by
      rw [eq_of_mask State.rte (State.noSource_mask _
          { regs := true, tim := true, hif := true, log := true, out := true } rfl rfl rfl rfl rfl) fun _ => rfl,
        eq_of_mask State.rte (longLost_mask _ _ (G := { regs := true, tim := true, lrep := true, streams := true }) rfl rfl rfl rfl)
          fun _ => rfl]
    have hsteered := noSource_steered ((s.egressLost (8 * p + k)).longLost (p - 64))
    rw [htim] at hlong
    refine ⟨hregs, hlost.congr rfl hrte, hsubs, hlanes, ?_, ?_, ?_, ?_, fun hnone hstate => ?_, honly⟩
    · rw [hsteered.now, hlong]
    · rw [hsteered.clk, hlong]
    · rw [hsteered.lock, hlong]
    · obtain hsame | ⟨h2, h1, hbit⟩ := noSource_cases ((s.egressLost (8 * p + k)).longLost (p - 64))
      · exact .inl (by rw [hsame, hlong])
      · rw [hlong] at h2
        exact .inr ⟨hL.1, hL.2, h2, h1, hbit⟩
    · obtain hsame | ⟨h2, h1, -⟩ := noSource_cases ((s.egressLost (8 * p + k)).longLost (p - 64))
      · rw [hsame, ← hlog hnone]
        exact eq_of_mask State.log (longLost_mask _ _ (G := { regs := true, tim := true, lrep := true, streams := true })
          rfl rfl rfl rfl) fun _ => rfl
      · rw [hlong] at h2
        rw [h1] at hstate
        exact absurd (hstate.trans h2) (by decide)
  · rw [if_neg hL] at honly hregs hsubs hlanes ⊢
    exact ⟨hregs, hlost, hsubs, hlanes, by rw [htim], by rw [htim], by rw [htim], .inl (by rw [htim]),
      fun hnone _ => hlog hnone, honly⟩

/-- Another egress sends after the loss what it sent before it. -/
theorem linkLost_sending_ne {e : Nat} (h : e ≠ 8 * p + k) : ((s.linkLost p k).egr e).sending = (s.egr e).sending := by
  have hegress := egressLost_sending_ne s h
  rw [linkLost_eq]
  split
  · rw [egr_congr (eq_of_mask State.rte (State.noSource_mask _
        { regs := true, tim := true, hif := true, log := true, out := true } rfl rfl rfl rfl rfl) fun _ => rfl),
      egr_congr (eq_of_mask State.rte (longLost_mask _ _ (G := { regs := true, tim := true, lrep := true, streams := true })
        rfl rfl rfl rfl) fun _ => rfl), hegress]
  · exact hegress
end

/-! ## Lanes -/

section
variable {s t : State} {i : Nat} {x : Lane}

theorem lane_congr (h : t.lanes = s.lanes) (i : Nat) : t.lane i = s.lane i := by rw [State.lane, h, State.lane]

theorem setLane_oneLane (s : State) (i : Nat) (x : Lane) : OneLane s (s.setLane i x) i x :=
  ⟨lane_setLane s i x, fun _ h => lane_setLane_ne s x h⟩

/-- What says that one lane changed speaks of the lanes only. -/
theorem OneLane.congr {s' t' : State} (h : OneLane s t i x) (hs : s'.lanes = s.lanes) (ht : t'.lanes = t.lanes) :
    OneLane s' t' i x := by
  obtain ⟨hx, hrest⟩ := h
  exact ⟨(lane_congr ht i).trans hx, fun j hne => (lane_congr ht j).trans ((hrest j hne).trans (lane_congr hs j).symm)⟩

theorem oneLane_of_lanes (h : t.lanes = s.lanes) : OneLane s t i (s.lane i) := ⟨lane_congr h i, fun j _ => lane_congr h j⟩

theorem OneLane.trans {t' : State} {y : Lane} (h : OneLane s t i x) (h' : OneLane t t' i y) : OneLane s t' i y :=
  ⟨h'.1, fun j hne => (h'.2 j hne).trans (h.2 j hne)⟩

/-- A fold over lanes that changes each by itself changes each of them once, and no other. -/
theorem foldl_lane {f : State → Nat → State} {g : Nat → Lane → Lane} (hf : ∀ u i, OneLane u (f u i) i (g i (u.lane i)))
    {l : List Nat} (hl : l.Nodup) (s : State) :
    (∀ i ∈ l, (l.foldl f s).lane i = g i (s.lane i)) ∧ ∀ i, i ∉ l → (l.foldl f s).lane i = s.lane i := by
  have hrest : ∀ (l : List Nat) (u : State) (i : Nat), i ∉ l → (l.foldl f u).lane i = u.lane i := fun l u i hi =>
    foldl_keeps (P := fun v => v.lane i = u.lane i)
      (fun v j hj hv => ((hf v j).2 i (ne_of_mem_of_not_mem hj hi).symm).trans hv) rfl
  refine ⟨?_, fun i hi => hrest l s i hi⟩
  induction l generalizing s with
  | nil => exact nofun
  | cons j l ih =>
    obtain ⟨hj, hl⟩ := List.nodup_cons.mp hl
    intro i hi
    rw [List.foldl_cons]
    obtain rfl | hi := List.mem_cons.mp hi
    · rw [hrest l _ i hj, (hf s i).1]
    · rw [ih hl _ i hi, (hf s j).2 i (ne_of_mem_of_not_mem hi hj)]

/-- What the receivers of a sub-port's lanes report is set on each of its lanes, and on no other (R116). -/
theorem laneRx_lane (s : State) (p k : Nat) (sig cdr sym : Bool) :
    (∀ i ∈ s.subLanes p k, (s.laneRx p k sig cdr sym).lane i = { s.lane i with sigDet := sig, cdr := cdr, sym := sym }) ∧
      ∀ i, i ∉ s.subLanes p k → (s.laneRx p k sig cdr sym).lane i = s.lane i :=
  foldl_lane (g := fun _ x => { x with sigDet := sig, cdr := cdr, sym := sym }) (fun u i => setLane_oneLane u i _)
    (nodup_subLanes s p k) s

theorem laneRx_only (s : State) (p k : Nat) (sig cdr sym : Bool) : Only { lanes := true } s (s.laneRx p k sig cdr sym) :=
  State.laneRx_mask s p k sig cdr sym _ rfl

@[simp] theorem laneRx_subs (s : State) (p k : Nat) (sig cdr sym : Bool) : (s.laneRx p k sig cdr sym).subs = s.subs :=
  eq_of_mask State.subs (laneRx_only s p k sig cdr sym) fun _ => rfl

@[simp] theorem laneRx_regs (s : State) (p k : Nat) (sig cdr sym : Bool) : (s.laneRx p k sig cdr sym).regs = s.regs :=
  eq_of_mask State.regs (laneRx_only s p k sig cdr sym) fun _ => rfl
end

end Sys2Proof.Machine
end

section
/-! PROOFS. How a sub-port loses its link, and comes up (R122–R130, R188, R195). -/

namespace Sys2Proof.Machine

/-! ## Entry to DOWN (R130) -/

section
variable (s : State) (p k : Nat)

/-- What entry to DOWN with cause `cause` does to sub-port `k` of port `p` (R130, R188). -/
def WentDown (s t : State) (p k cause : Nat) : Prop :=
  OneSub s t p k { subInit with state := 1 } ∧ t.bit (aPRT_EVENT p) 1 = true ∧ Counted s t (aLINK_DOWNS p k) 1 ∧
  ((s.egr (8 * p + k)).sending = none → s.bit aLOG_CTRL 0 = true → t.tim.state = s.tim.state →
    Logged s t ⟨s.edgeNs, 0, 0x06, 1, portDie p, 0x80, (8 * p + k) % 2 ^ 32, cause % 2 ^ 32, 0, 0⟩) ∧
  ((s.egr (8 * p + k)).sending = none → s.bit aLOG_CTRL 0 = false → t.tim.state = s.tim.state → t.log = s.log) ∧
  (t.tim.state = s.tim.state ∨
    (64 ≤ p ∧ p < 80 ∧ s.tim.state = 2 ∧ t.tim.state = 1 ∧ t.bit aTIM_EVENT 1 = true)) ∧
  (t.egr (8 * p + k)).sending = none ∧ (t.egr (8 * p + k)).staged = [] ∧ (t.egr (8 * p + k)).ready = [] ∧
  (t.egr (8 * p + k)).resend = [] ∧
  (t.egr (8 * p + k)).queues = (s.egr (8 * p + k)).queues.map (fun q => q.filter fun h => !h.eth.isEmpty) ∧
  t.rte.wait = s.rte.wait ++ ((s.egr (8 * p + k)).queues.flatten.filter fun h => h.eth.isEmpty) ∧
  Only { lossFields with subs := true, lanes := true } s t

/-- The state in which a loss is offered to the log: the sub-port is DOWN, and its event and its count are there. -/
def State.downNoted : State := (((s.linkLost p k).enter p k 1).prtEvt p 1).bump (aLINK_DOWNS p k) 1

theorem down_eq (cause : Nat) : s.down p k cause =
    if (s.downNoted p k).bit aLOG_CTRL 0 then (s.downNoted p k).offer 0x06 1 (portDie p) 0x80 (8 * p + k) cause 0 0
    else s.downNoted p k := rfl

/-- A log entry, or none, after the loss: what it leaves. -/
theorem down_cases (cause : Nat) : (s.down p k cause).tim = (s.downNoted p k).tim ∧ (s.down p k cause).rte = (s.downNoted p k).rte ∧
    (s.down p k cause).subs = (s.downNoted p k).subs ∧ (s.down p k cause).lanes = (s.downNoted p k).lanes ∧
    KeepsRegs logRegs (s.downNoted p k) (s.down p k cause) := by
  have hoffer := State.offer_mask (s.downNoted p k) 0x06 1 (portDie p) 0x80 (8 * p + k) cause 0 0
    { regs := true, hif := true, log := true, out := true } rfl rfl rfl rfl
  rw [down_eq]
  split
  · exact ⟨offer_tim .., offer_rte .., eq_of_mask State.subs hoffer fun _ => rfl, eq_of_mask State.lanes hoffer fun _ => rfl,
      offer_keepsRegs _ _ _ _ _ _ _ _ _⟩
  · exact ⟨rfl, rfl, rfl, rfl, .refl _ _⟩

@[simp] theorem downNoted_tim : (s.downNoted p k).tim = (s.linkLost p k).tim := evt_tim ..

@[simp] theorem downNoted_rte : (s.downNoted p k).rte = (s.linkLost p k).rte := evt_rte ..

@[simp] theorem downNoted_log : (s.downNoted p k).log = (s.linkLost p k).log := evt_log ..

theorem downNoted_lanes : (s.downNoted p k).lanes = s.lanes := (evt_lanes ..).trans (linkLost_gone s p k).lanes

theorem downNoted_oneSub : OneSub s (s.downNoted p k) p k { subInit with state := 1 } :=
  (setSub_oneSub (s.linkLost p k) p k _).congr (linkLost_gone s p k).subs.symm (evt_subs ..)

/-- Beside what the loss of the link writes, the event and the count are all. -/
theorem downNoted_keepsRegs :
    KeepsRegs (aLINK_DOWNS p k :: blockRegs (aPRT_EVENT p)) (s.linkLost p k) (s.downNoted p k) :=
  ((prtEvt_keepsRegs ((s.linkLost p k).enter p k 1) p (by decide)).mono (List.subset_cons_self _ _)).trans
    ((bump_keepsRegs _ _ 1).mono (by simp))

/-- A register that neither the loss of a link nor its event and its count write. -/
theorem down_reg {o : Nat} (cause : Nat) (ho : LinkSafe o) (hcount : o ≠ aLINK_DOWNS p k)
    (hevt : o ∉ blockRegs (aPRT_EVENT p)) : (s.down p k cause).reg o = s.reg o := by
  obtain ⟨-, -, -, -, hlog⟩ := down_cases s p k cause
  have hsafe : o ∉ logRegs := fun h => ho.2.2 (List.mem_append_right _ h)
  rw [hlog o hsafe, downNoted_keepsRegs s p k o (List.not_mem_cons_of_ne_of_not_mem hcount hevt),
    (linkLost_gone s p k).regs.reg o ho]

section
variable {s p k} (hp : p < 84) (hk : k < 8)
include hp hk

theorem linkDowns_bounds : 0x200118 ≤ aLINK_DOWNS p k ∧ aLINK_DOWNS p k < 0x254500 ∧ aLINK_DOWNS p k % 0x80 = 0x18 ∧
    aLINK_DOWNS p k % 0x1000 = 0x118 + 0x80 * k := by
  unfold aLINK_DOWNS
  omega

theorem down_wentDown (cause : Nat) : WentDown s (s.down p k cause) p k cause := by
  have hgone := linkLost_gone s p k
  obtain ⟨hlo, hhi, hmod, hpage⟩ := linkDowns_bounds hp hk
  obtain ⟨htim, hrte, hsubs, -, hlogged⟩ := down_cases s p k cause
  rw [downNoted_tim] at htim
  rw [downNoted_rte] at hrte
  obtain ⟨hsending, hstaged, hready, hresend, hqueues, hwait⟩ := hgone.lost.congr rfl hrte
  have hfar : ∀ o, 0x70000 ≤ o → o ∉ logRegs := fun o ho => not_mem_of_timeRegs (List.subset_append_right _ _) ho
  have hcountFar : aLINK_DOWNS p k ∉ blockRegs (aPRT_EVENT p) := by
    rw [mem_blockRegs_prtEvent]
    omega
  have hctrl : (s.downNoted p k).bit aLOG_CTRL 0 = s.bit aLOG_CTRL 0 := by
    have hout : aLOG_CTRL ∉ aLINK_DOWNS p k :: blockRegs (aPRT_EVENT p) := by
      rw [List.mem_cons, mem_blockRegs_prtEvent, aLOG_CTRL]
      omega
    exact bit_of_reg ((downNoted_keepsRegs s p k _ hout).trans
      (hgone.regs.reg _ ⟨by decide, by decide, by decide⟩)) 0
  have hevent : ∀ {u : State}, u.bit (aPRT_EVENT p) 1 = true → (u.bump (aLINK_DOWNS p k) 1).bit (aPRT_EVENT p) 1 = true :=
    fun h => by
      rw [bit_of_reg (bump_reg _ _ _ _) 1]
      · exact h
      · unfold aPRT_EVENT
        omega
  refine ⟨(downNoted_oneSub s p k).congr rfl hsubs, ?event, ?counted, ?logged, ?quiet, ?state, hsending, hstaged, hready,
    hresend, hqueues, hwait, State.down_mask s p k cause _ rfl rfl rfl rfl rfl rfl rfl rfl rfl⟩
  case event =>
    rw [bit_of_reg (hlogged _ (hfar _ (by unfold aPRT_EVENT; omega))) 1]
    exact hevent (prtEvt_bit _ p (by decide))
  case counted =>
    have hsafe : LinkSafe (aLINK_DOWNS p k) := linkSafe_of_port (by omega) (by omega) (by omega)
    have hbefore : ((((s.linkLost p k).enter p k 1).prtEvt p 1).reg (aLINK_DOWNS p k)) = s.reg (aLINK_DOWNS p k) :=
      (prtEvt_keepsRegs _ p (by decide) _ hcountFar).trans (hgone.regs.reg _ hsafe)
    rw [Counted, hlogged _ (hfar _ (by omega)), State.downNoted, bump_same, hbefore]
  case logged =>
    intro hnone hon hstate
    rw [htim] at hstate
    have hoffer := offer_logged (s.downNoted p k) 0x06 1 (portDie p) 0x80 (8 * p + k) cause 0 0
    rw [down_eq, if_pos (hctrl.trans hon)]
    simp only [Logged, State.edgeNs, downNoted_log, downNoted_tim, hgone.log hnone hstate, hgone.now, hgone.clk,
      hgone.lock] at hoffer ⊢
    exact hoffer
  case quiet =>
    intro hnone hoff hstate
    rw [htim] at hstate
    rw [down_eq, if_neg (by simp [hctrl, hoff]), downNoted_log, hgone.log hnone hstate]
  case state =>
    rw [htim]
    refine hgone.state.imp_right fun ⟨hL, hL', h2, h1, hbit⟩ => ⟨hL, hL', h2, h1, ?_⟩
    have hout : aTIM_EVENT ∉ aLINK_DOWNS p k :: blockRegs (aPRT_EVENT p) := by
      rw [List.mem_cons, mem_blockRegs_prtEvent, aTIM_EVENT]
      omega
    rw [bit_of_reg (hlogged aTIM_EVENT (by decide)) 1, bit_of_reg (downNoted_keepsRegs s p k _ hout) 1, hbit]
end

/-- Entry to DOWN after what a receiver saw of the loss (R129, R130). -/
theorem WentDown.of_before {s u t : State} {p k cause : Nat} (h : WentDown u t p k cause) (hrte : u.rte = s.rte)
    (htim : u.tim = s.tim) (hlog : u.log = s.log) (hsubs : u.subs = s.subs)
    (hcount : u.reg (aLINK_DOWNS p k) = s.reg (aLINK_DOWNS p k)) (hctrl : u.reg aLOG_CTRL = s.reg aLOG_CTRL)
    (honly : Only { lossFields with subs := true, lanes := true } s u) : WentDown s t p k cause := by
  have hegr := egr_congr hrte
  have hedge : u.edgeNs = s.edgeNs := by rw [State.edgeNs, htim, State.edgeNs]
  simp only [WentDown, Counted, Logged, hegr, hrte, htim, hlog, hcount, bit_of_reg hctrl, hedge] at h ⊢
  obtain ⟨hsub, hevent, hcounted, hlogged, hquiet, hstate, hsending, hstaged, hready, hresend, hqueues, hwait, hrest⟩ := h
  exact ⟨hsub.congr hsubs.symm rfl, hevent, hcounted, hlogged, hquiet, hstate, hsending, hstaged, hready, hresend, hqueues,
    hwait, Eq.trans hrest honly⟩

end

end Sys2Proof.Machine
end

section
/-! PROOFS. What the receivers show of a link that is lost, or that rests (R129, R131). -/

namespace Sys2Proof.Machine

/-! ## Lanes that lose signal and locks -/

/-- A lane of a link that is lost by its signal, on the lanes `lost` (R129). -/
def Lane.signalLost (x : Lane) (lost i : Nat) : Lane :=
  if bitOf lost (i % 8) && x.sigDet then { x with sigDet := false, cdr := false, sym := false } else { x with sym := false }

/-- A lane of a direction that rests, idle on the lanes `lost` (R131). -/
def Lane.idled (x : Lane) (lost i : Nat) : Lane :=
  if bitOf lost (i % 8) then { x with sigDet := false, cdr := false, sym := false } else x

section
variable (s : State) (p k lost : Nat)

/-- A lane's loss of signal, with its event (R129). -/
def State.signalLost (i : Nat) : State :=
  if bitOf lost (i % 8) && (s.lane i).sigDet then
    (s.setLane i { s.lane i with sigDet := false, cdr := false, sym := false }).lneEvt i 0
  else s.setLane i { s.lane i with sym := false }

theorem signalLost_oneLane (i : Nat) : OneLane s (s.signalLost lost i) i ((s.lane i).signalLost lost i) := by
  unfold State.signalLost Lane.signalLost
  split
  · exact (setLane_oneLane s i _).congr rfl (evt_lanes ..)
  · exact setLane_oneLane s i _

/-- The registers of a port are none of a lane's event. -/
theorem signalLost_reg (i : Nat) {o : Nat} (ho : o = aLOG_CTRL ∨ aLINK_DOWNS p k = o) (_hi : i < 656) :
    (s.signalLost lost i).reg o = s.reg o := by
  unfold State.signalLost
  split
  · refine evt_reg _ 8 _ 0 (by decide) ?_ ?_
    all_goals
      simp only [evtRegs, List.mem_cons, List.not_mem_nil, or_false, aLNE_EVENT, aHIF_FN_EVENT, fnPage, if_true, aLINK_DOWNS,
        aLOG_CTRL] at ho ⊢
      omega
  · rfl

theorem lossSeen_signal_lanes :
    (∀ i ∈ s.subLanes p k, (s.lossSeen p k 1 lost).lane i = (s.lane i).signalLost lost i) ∧
      ∀ i, i ∉ s.subLanes p k → (s.lossSeen p k 1 lost).lane i = s.lane i :=
  foldl_lane (f := fun u i => u.signalLost lost i) (g := fun i x => x.signalLost lost i)
    (fun u i => signalLost_oneLane u lost i) (nodup_subLanes s p k) s

theorem idleSeen_lanes :
    (∀ i ∈ s.subLanes p k, (s.idleSeen p k lost).lane i = (s.lane i).idled lost i) ∧
      ∀ i, i ∉ s.subLanes p k → (s.idleSeen p k lost).lane i = s.lane i := by
  refine foldl_lane (g := fun i x => x.idled lost i) (fun u i => ?_) (nodup_subLanes s p k) s
  unfold Lane.idled
  split
  · exact setLane_oneLane u i _
  · exact oneLane_of_lanes rfl

/-- No receiver's report touches what is logged, or counted of a loss (R130). -/
theorem lossSeen_reg (hp : p < 84) (cause : Nat) {o : Nat} (ho : o = aLOG_CTRL ∨ aLINK_DOWNS p k = o) :
    (s.lossSeen p k cause lost).reg o = s.reg o := by
  unfold State.lossSeen
  split
  · exact foldl_keeps (P := fun u => u.reg o = s.reg o) (fun u i hi hu =>
      (signalLost_reg u p k lost i ho (lt_of_mem_portLanes hp (mem_portLanes_of_mem_subLanes hi))).trans hu) rfl
  · split
    · exact congrArg (tblGet _ · o) (laneRx_regs ..)
    · split
      · refine bump64_reg _ _ _ ?_ ?_ <;> unfold aFEC_UNCORR_CW_LO <;> unfold aLINK_DOWNS aLOG_CTRL at ho <;> omega
      · rfl

/-- The two words of a 64-bit counter (R129). -/
theorem bump64_value (o n : Nat) : ((s.bump64 o n).reg o).toNat + ((s.bump64 o n).reg (o + 4)).toNat * 2 ^ 32 =
    min (2 ^ 64 - 1) ((s.reg o).toNat + (s.reg (o + 4)).toNat * 2 ^ 32 + n) := by
  unfold State.bump64
  dsimp only
  rw [reg_setReg_ne _ _ (by omega), reg_setReg, reg_setReg, BitVec.toNat_ofNat, BitVec.toNat_ofNat]
  omega

/-- The loss of a link that its receivers have seen (R129, R130). -/
theorem lossSeen_down_wentDown {s : State} {p k : Nat} (h : s.hasSub p k = true) (cause : Nat) :
    WentDown s ((s.lossSeen p k cause lost).down p k cause) p k cause := by
  obtain ⟨hp, hk⟩ := lt_of_hasSub h
  have honly : Only { regs := true, hif := true, lanes := true, out := true } s (s.lossSeen p k cause lost) :=
    State.lossSeen_mask s p k cause lost _ rfl rfl rfl rfl
  exact (down_wentDown hp hk cause).of_before (eq_of_mask State.rte honly fun _ => rfl) (eq_of_mask State.tim honly fun _ => rfl)
    (eq_of_mask State.log honly fun _ => rfl) (eq_of_mask State.subs honly fun _ => rfl)
    (lossSeen_reg s p k lost hp cause (.inr rfl)) (lossSeen_reg s p k lost hp cause (.inl rfl))
    (State.lossSeen_mask s p k cause lost _ rfl rfl rfl rfl)

theorem down_lane (cause i : Nat) : (s.down p k cause).lane i = s.lane i :=
  lane_congr ((down_cases s p k cause).2.2.2.1.trans (downNoted_lanes s p k)) i

/-- The lanes, and the count of codewords, after the loss of a link (R129). -/
theorem lossSeen_down_lanes {s : State} {p k : Nat} (h : s.hasSub p k = true) (cause : Nat) :
    let t := (s.lossSeen p k cause lost).down p k cause
    (cause = 1 → ∀ i ∈ s.subLanes p k, t.lane i = (s.lane i).signalLost lost i) ∧
    (cause = 2 → ∀ i ∈ s.subLanes p k, t.lane i = { s.lane i with sigDet := true, cdr := true, sym := false }) ∧
    (2 < cause → t.lanes = s.lanes) ∧
    (cause = 3 →
      (t.reg (aFEC_UNCORR_CW_LO p k)).toNat + (t.reg (aFEC_UNCORR_CW_LO p k + 4)).toNat * 2 ^ 32 =
        min (2 ^ 64 - 1) ((s.reg (aFEC_UNCORR_CW_LO p k)).toNat + (s.reg (aFEC_UNCORR_CW_LO p k + 4)).toNat * 2 ^ 32 +
          s.fld (aPRT_LOSS_CFG p) 7 0)) := by
  obtain ⟨hp, hk⟩ := lt_of_hasSub h
  have hlanes : ∀ u : State, (u.down p k cause).lanes = u.lanes := fun u =>
    (down_cases u p k cause).2.2.2.1.trans (downNoted_lanes u p k)
  dsimp only
  refine ⟨?signal, ?lock, ?other, ?fec⟩
  case signal =>
    rintro rfl i hi
    rw [down_lane, (lossSeen_signal_lanes s p k lost).1 i hi]
  case lock =>
    rintro rfl i hi
    rw [down_lane]
    exact (laneRx_lane s p k true true false).1 i hi
  case other =>
    intro hcause
    rw [hlanes, State.lossSeen, if_neg (by omega), if_neg (by omega)]
    split <;> rfl
  case fec =>
    rintro rfl
    have hsafe : ∀ o, o = aFEC_UNCORR_CW_LO p k ∨ o = aFEC_UNCORR_CW_LO p k + 4 → ∀ u : State,
        (u.down p k 3).reg o = u.reg o := by
      intro o ho u
      unfold aFEC_UNCORR_CW_LO at ho
      refine down_reg u p k 3 (linkSafe_of_port (by omega) (by omega) (by omega)) (by unfold aLINK_DOWNS; omega) ?_
      rw [mem_blockRegs_prtEvent]
      omega
    rw [hsafe _ (.inl rfl), hsafe _ (.inr rfl)]
    exact bump64_value s _ _
end

end Sys2Proof.Machine
end

section
/-! PROOFS. HELLO, and entry to UP (R122–R125, R195, R461). -/

namespace Sys2Proof.Machine

/-! ## Entry to UP -/

/-- What a sub-port records of the peer whose sets carried `id` and `pt` (R123). -/
def peerOf (id pt : Nat) : Nat :=
  2 ^ 31 + bitsOf pt 13 11 * 2 ^ 27 + bitsOf pt 10 8 * 2 ^ 24 + bitsOf pt 7 0 * 2 ^ 16 + bitsOf id 12 0

/-- Sub-port `k` of port `p` is UP with the peer of `id` and `pt`, and with fresh credit (R123, R195, R461). -/
def CameUp (s t : State) (p k id pt : Nat) : Prop :=
  OneSub s t p k { subInit with state := 4, peer := peerOf id pt } ∧ t.bit (aPRT_EVENT p) 0 = true ∧
  (t.egr (8 * p + k)).cum = List.replicate 8 0 ∧ (t.egr (8 * p + k)).sent = List.replicate 8 0 ∧
  (t.egr (8 * p + k)).rxCum =
    List.replicate 8 (16 * (if 8 * p + k < 512 then s.fld aRTE_VC_ALLOW_F 15 0 else s.fld aRTE_VC_ALLOW_L 15 0)) ∧
  (t.egr (8 * p + k)).rxSent = List.replicate 8 0 ∧ (t.egr (8 * p + k)).owed = [] ∧
  (∀ f, f ≠ 8 * p + k → t.egr f = s.egr f) ∧
  (64 ≤ p → p < 80 → t.lr (p - 64) = lrepInit ∧ (t.src (16 + (p - 64))).up = true) ∧
  Only { regs := true, tim := true, hif := true, subs := true, lrep := true, rte := true, out := true } s t ∧
  KeepsRegs (blockRegs (aPRT_EVENT p)) s t

/-- Entry to UP after what changed of the sub-port and was sent by it before (R123). -/
theorem CameUp.of_before {s u t : State} {p k id pt : Nat} {x : SubPort} (h : CameUp u t p k id pt) (hsub : OneSub s u p k x)
    (honly : ∀ G : Fields, G.subs → G.out → u.mask G = s.mask G) : CameUp s t p k id pt := by
  have hkeep := honly { subs := true, out := true } rfl rfl
  have hregs : u.regs = s.regs := eq_of_mask State.regs hkeep fun _ => rfl
  have hreg : ∀ o, u.reg o = s.reg o := fun o => by rw [State.reg, hregs, State.reg]
  have hegr := egr_congr (eq_of_mask State.rte hkeep fun _ => rfl)
  simp only [CameUp, fld_of_reg (hreg _), hegr] at h ⊢
  obtain ⟨hup, hevent, hcum, hsent, hrxCum, hrxSent, howed, hrest, hL, hfields, hkept⟩ := h
  refine ⟨hsub.trans hup, hevent, hcum, hsent, hrxCum, hrxSent, howed, hrest, hL, Eq.trans hfields (honly _ rfl rfl),
    fun o ho => (hkept o ho).trans (hreg o)⟩

section
variable (s : State) (p k : Nat)

/-- What entry to UP gives the packet path, the replay store and the time unit's source (R195, R461). -/
theorem linkUp_egr : (s.linkUp p k).rte = (s.egressUp (8 * p + k)).rte := by
  unfold State.linkUp
  dsimp only
  split
  · exact (eq_of_mask State.rte (State.setSrcUp_mask ((s.egressUp (8 * p + k)).setLr (p - 64) lrepInit) _ _ { tim := true } rfl)
      fun _ => rfl :)
  · rfl

theorem linkUp_regs : (s.linkUp p k).regs = s.regs :=
  eq_of_mask State.regs (State.linkUp_mask s p k { tim := true, lrep := true, rte := true } rfl rfl rfl) fun _ => rfl

theorem linkUp_long (hlo : 64 ≤ p) (hhi : p < 80) :
    (s.linkUp p k).lr (p - 64) = lrepInit ∧ ((s.linkUp p k).src (16 + (p - 64))).up = true := by
  have hup : s.linkUp p k = ((s.egressUp (8 * p + k)).setLr (p - 64) lrepInit).setSrcUp (16 + (p - 64)) true :=
    if_pos ⟨hlo, hhi⟩
  rw [hup]
  constructor
  · have hlrep : ∀ u : State, (u.setSrcUp (16 + (p - 64)) true).lrep = u.lrep := fun u =>
      eq_of_mask State.lrep (State.setSrcUp_mask u _ _ { tim := true } rfl) fun _ => rfl
    rw [State.lr, hlrep]
    exact lr_setLr _ _ _
  · rw [State.setSrcUp, if_pos rfl, if_pos rfl, src_setSrc]

theorem enterUp_cameUp (hp : p < 84) {id pt : Nat} (hid : (s.sub p k).idRx = some id) (hpt : (s.sub p k).portRx = some pt) :
    CameUp s (s.enterUp p k) p k id pt := by
  obtain ⟨v, hv⟩ : ∃ v, v = (s.setSub p k { subInit with state := 4, peer := peerOf id pt }).prtEvt p 0 := ⟨_, rfl⟩
  have hup : s.enterUp p k = v.linkUp p k := by
    rw [hv, State.enterUp, hid, hpt]
    rfl
  have hkept : KeepsRegs (blockRegs (aPRT_EVENT p)) s v := by
    rw [hv]
    exact prtEvt_keepsRegs _ p (bit := 0) (by decide)
  have hbit : v.bit (aPRT_EVENT p) 0 = true := by
    rw [hv]
    exact prtEvt_bit _ p (bit := 0) (by decide)
  have hsub : OneSub s v p k { subInit with state := 4, peer := peerOf id pt } :=
    (setSub_oneSub s p k _).congr rfl (by rw [hv]; exact evt_subs _ 9 _ 0)
  have hrte : v.rte = s.rte := by rw [hv]; exact evt_rte _ 9 _ 0
  have honly := State.enterUp_mask s p k
    { regs := true, tim := true, hif := true, subs := true, lrep := true, rte := true, out := true } rfl rfl rfl rfl rfl rfl rfl
  have hregs := linkUp_regs v p k
  have hreg : ∀ o, (v.linkUp p k).reg o = v.reg o := fun o => by rw [State.reg, hregs, State.reg]
  have hsubs : (v.linkUp p k).subs = v.subs :=
    eq_of_mask State.subs (State.linkUp_mask v p k { tim := true, lrep := true, rte := true } rfl rfl rfl) fun _ => rfl
  have hfld : ∀ o, o = aRTE_VC_ALLOW_F ∨ o = aRTE_VC_ALLOW_L → v.reg o = s.reg o := fun o ho => hkept o (by
    rw [mem_blockRegs_prtEvent]
    unfold aRTE_VC_ALLOW_F aRTE_VC_ALLOW_L at ho
    omega)
  have hfresh := egr_congr (linkUp_egr v p k)
  have hegr : (v.linkUp p k).egr (8 * p + k) = _ := (hfresh _).trans (egr_setEgr v _ _)
  rw [fld_of_reg (hfld _ (.inl rfl)), fld_of_reg (hfld _ (.inr rfl))] at hegr
  rw [hup] at honly ⊢
  refine ⟨hsub.congr rfl hsubs, (bit_of_reg (hreg _) 0).trans hbit, ?_, ?_, ?_, ?_, ?_, fun f hf => ?_,
    linkUp_long v p k, honly, fun o ho => (hreg o).trans (hkept o ho)⟩
  case refine_6 => rw [hfresh, State.egressUp, egr_setEgr_ne _ _ hf, egr_congr hrte]
  all_goals rw [hegr]
end

/-! ## The steps of HELLO (R123, R124) -/

section
variable {s : State} {p k : Nat}

/-- While a set of the peer is missing, and none is acknowledged, HELLO waits. -/
theorem helloStep_waits (h : (s.sub p k).idRx = none ∨ (s.sub p k).portRx = none) (hack : (s.sub p k).ackTx = false) :
    s.helloStep p k = s := by
  unfold State.helloStep
  have hboth : ((s.sub p k).idRx.isSome && (s.sub p k).portRx.isSome) = false := by
    obtain h | h := h <;> simp [h]
  simp [hboth, hack]

/-- The peer's two sets are acknowledged (R123). -/
def State.helloAcked (s : State) (p k : Nat) : State :=
  (s.setSub p k { s.sub p k with ackTx := true }).sendOs p k 0x03 0

theorem helloAcked_sub : (s.helloAcked p k).sub p k = { s.sub p k with ackTx := true } := sub_setSub s p k _

theorem helloAcked_oneSub : OneSub s (s.helloAcked p k) p k { s.sub p k with ackTx := true } :=
  (setSub_oneSub s p k _).congr rfl rfl

theorem helloAcked_mask (G : Fields) (hsubs : G.subs) (hout : G.out) : (s.helloAcked p k).mask G = s.mask G :=
  (State.emit_mask _ _ G hout).trans (State.setSub_mask _ _ _ _ G hsubs)

section
variable (hid : (s.sub p k).idRx ≠ none) (hpt : (s.sub p k).portRx ≠ none)
include hid hpt

theorem helloStep_both : s.helloStep p k =
    let u := if (s.sub p k).ackTx then s else s.helloAcked p k
    if (u.sub p k).ackTx && (u.sub p k).ackRx then u.enterUp p k else u := by
  rw [State.helloStep, Option.isSome_iff_ne_none.mpr hid, Option.isSome_iff_ne_none.mpr hpt]
  cases (s.sub p k).ackTx <;> rfl

/-- Both sets of the peer are acknowledged once. -/
theorem helloStep_acks (htx : (s.sub p k).ackTx = false) (hrx : (s.sub p k).ackRx = false) :
    s.helloStep p k = s.helloAcked p k := by
  rw [helloStep_both hid hpt, htx]
  exact if_neg (by rw [if_neg Bool.false_ne_true, helloAcked_sub, hrx]; simp)
end

/-- With both sets of the peer and its acknowledgement the sub-port is UP. -/
theorem helloStep_cameUp (hp : p < 84) {id pt : Nat} (hid : (s.sub p k).idRx = some id) (hpt : (s.sub p k).portRx = some pt)
    (hrx : (s.sub p k).ackRx = true) : CameUp s (s.helloStep p k) p k id pt := by
  rw [helloStep_both (by simp [hid]) (by simp [hpt])]
  cases htx : (s.sub p k).ackTx
  · have hup : CameUp s ((s.helloAcked p k).enterUp p k) p k id pt :=
      (enterUp_cameUp _ p k hp (by rw [helloAcked_sub, hid]) (by rw [helloAcked_sub, hpt])).of_before helloAcked_oneSub
        helloAcked_mask
    dsimp only
    rw [if_neg Bool.false_ne_true, helloAcked_sub, hrx]
    exact hup
  · dsimp only
    rw [if_pos rfl, htx, hrx]
    exact enterUp_cameUp s p k hp hid hpt
end

section
variable {s : State} {p k : Nat} (x : SubPort)

/-- A set that completes the peer's two is acknowledged (R123). -/
theorem setSub_helloStep_acks (hid : x.idRx ≠ none) (hpt : x.portRx ≠ none) (htx : x.ackTx = false) (hrx : x.ackRx = false) :
    OneSub s ((s.setSub p k x).helloStep p k) p k { x with ackTx := true } ∧
      ((s.setSub p k x).helloStep p k).out = .os p k 3 0 :: s.out ∧
      Only { subs := true, out := true } s ((s.setSub p k x).helloStep p k) := by
  have hsub := sub_setSub s p k x
  have hacked := helloAcked_oneSub (s := s.setSub p k x) (p := p) (k := k)
  rw [hsub] at hacked
  rw [helloStep_acks (by rwa [hsub]) (by rwa [hsub]) (by rwa [hsub]) (by rwa [hsub])]
  exact ⟨(setSub_oneSub s p k x).trans hacked, rfl, (helloAcked_mask _ rfl rfl).trans (State.setSub_mask s p k x _ rfl)⟩

/-- What completes both sets and the peer's acknowledgement brings the sub-port UP (R123). -/
theorem setSub_helloStep_cameUp (hp : p < 84) {id pt : Nat} (hid : x.idRx = some id) (hpt : x.portRx = some pt)
    (hrx : x.ackRx = true) :
    CameUp s ((s.setSub p k x).helloStep p k) p k id pt := by
  have hsub := sub_setSub s p k x
  exact (helloStep_cameUp hp (by rwa [hsub]) (by rwa [hsub]) (by rwa [hsub])).of_before (setSub_oneSub s p k x)
    fun G hsubs _ => State.setSub_mask s p k x G hsubs
end

end Sys2Proof.Machine
end

section
/-! PROOFS. A write of PRT_CTRL (R117, R119, R121, R122, R470). -/

namespace Sys2Proof.Machine

/-! ## The register -/

theorem portCtrl_rw {p : Nat} (hp : p < 84) : (regRow (aPRT_CTRL p)).map (·.rw) = some 0xFF :=
  (by decide : ∀ p < 84, (regRow (aPRT_CTRL p)).map (·.rw) = some 0xFF) p hp

section
variable (s : State) {p : Nat} (v : Word) (hp : p < 84)
include hp

theorem portCtrl_low : aPRT_CTRL p < 0x400000 := by
  unfold aPRT_CTRL
  omega

theorem plainWrite_portOn : (s.plainWrite (aPRT_CTRL p) v).portOn p = bitOf v.toNat 0 :=
  plainWrite_low_bit s v (portCtrl_low hp) (portCtrl_rw hp) (by decide) (by decide)

theorem plainWrite_portMode : (s.plainWrite (aPRT_CTRL p) v).portMode p = bitsOf v.toNat 3 1 :=
  plainWrite_low_fld s v (portCtrl_low hp) (portCtrl_rw hp) (by decide)
    fun i _ hi => (by decide : ∀ i ≤ 3, bitOf 0xFF i = true) i hi

/-- A write of PRT_CTRL that keeps the MODE leaves each sub-port its lanes, and them their tests (R112, R161). -/
theorem plainWrite_subTest (hmode : bitsOf v.toNat 3 1 = s.portMode p) (k : Nat) :
    (s.plainWrite (aPRT_CTRL p) v).subTest p k = s.subTest p k := by
  refine subTest_congr ((plainWrite_portMode s v hp).trans hmode) fun i hi => laneTest_congr fun o ho => ?_
  have := lt_of_mem_portLanes hp hi
  refine plainWrite_low_reg_ne s v (portCtrl_low hp) ?_
  simp only [List.mem_cons, List.not_mem_nil, or_false, aLNE_CTRL, aLNE_PATGEN, aLNE_PATCHK, aPRT_CTRL] at ho ⊢
  omega
end

/-! ## The sub-ports that start over (R121, R122, R161) -/

section
variable (s : State) (p : Nat)

theorem restart_oneSub (k : Nat) : ∃ x : SubPort, x.state = s.restartState p k ∧ OneSub s (s.restart p k) p k x :=
  ⟨_, rfl, (setSub_oneSub s p k _).congr rfl (laneRx_subs ..)⟩

theorem restart_only (k : Nat) : Only { subs := true, lanes := true } s (s.restart p k) :=
  State.restart_mask s p k _ rfl rfl

theorem restart_regs (k : Nat) : (s.restart p k).regs = s.regs := eq_of_mask State.regs (restart_only s p k) fun _ => rfl

/-- The sub-ports that the MODE does not have are cleared (R112). -/
def State.spareCleared : State :=
  (List.range 8).foldl (fun s k => if k < subCount p (s.portMode p) then s else s.setSub p k subInit) s

theorem prtEnable_eq (was now : Bool) : s.prtEnable p was now =
    if was && now then s.spareCleared p
    else if was then (List.range (subCount p (s.portMode p))).foldl (fun s k => (s.linkLost p k).restart p k) (s.spareCleared p)
    else (List.range (subCount p (s.portMode p))).foldl (fun s k => s.restart p k) (s.spareCleared p) := rfl

theorem spareCleared_mask (G : Fields) (hsubs : G.subs) : (s.spareCleared p).mask G = s.mask G :=
  foldl_mask (fun u k => by split; exacts [rfl, State.setSub_mask _ _ _ _ _ hsubs]) _ s

theorem spareCleared_regs : (s.spareCleared p).regs = s.regs :=
  eq_of_mask State.regs (spareCleared_mask s p { subs := true } rfl) fun _ => rfl

theorem portMode_congr {s t : State} (h : t.regs = s.regs) (p : Nat) : t.portMode p = s.portMode p := by
  unfold State.portMode State.fld State.reg
  rw [h]

/-- No sub-port that the MODE has, and none of another port, is cleared. -/
theorem spareCleared_sub {q j : Nat} (h : q ≠ p ∨ j < subCount p (s.portMode p)) (hj : j < 8) :
    (s.spareCleared p).sub q j = s.sub q j := by
  refine (foldl_keeps (P := fun u => u.regs = s.regs ∧ u.sub q j = s.sub q j) (fun u k hk hu => ?_) ⟨rfl, rfl⟩).2
  obtain ⟨hregs, hsub⟩ := hu
  have hk := List.mem_range.mp hk
  rw [portMode_congr hregs]
  split
  · exact ⟨hregs, hsub⟩
  next hspare => exact ⟨hregs, ((setSub_oneSub u p k subInit).2 q j (by omega)).trans hsub⟩

theorem spareCleared_spare {j : Nat} (h : subCount p (s.portMode p) ≤ j) (hj : j < 8) : (s.spareCleared p).sub p j = subInit := by
  refine foldl_establishes (P := fun u => u.regs = s.regs) (Q := fun u => u.sub p j = subInit) (List.mem_range.mpr hj)
    (fun u k _ hu => ?_) (fun u hu => ?_) (fun u k hk hne hu hQ => ?_) rfl
  · split
    exacts [hu, hu]
  · rw [portMode_congr hu, if_neg (by omega)]
    exact sub_setSub ..
  · split
    · exact hQ
    · exact ((setSub_oneSub u p k subInit).2 p j (by omega)).trans hQ
end

/-! ## An enabling and a disabling write -/

section
variable {s : State} {p n : Nat} (hn : n ≤ 8)
include hn

/-- Every sub-port of the MODE starts over, and no other one changes. -/
theorem foldl_restart_sub (hp : p < 84) {t : State} (ht : (List.range n).foldl (fun s k => s.restart p k) s = t) :
    (∀ G : Fields, G.subs → G.lanes → t.mask G = s.mask G) ∧ (∀ j, j < n → (t.sub p j).state = s.restartState p j) ∧
      (∀ q j, q ≠ p ∨ n ≤ j → j < 8 → t.sub q j = s.sub q j) := by
  subst ht
  refine ⟨fun G hsubs hlanes => foldl_mask (fun u k => State.restart_mask u p k G hsubs hlanes) _ s,
    fun j hj => ?_, fun q j h hj => ?_⟩
  · refine foldl_establishes (P := fun u => u.regs = s.regs) (Q := fun u => (u.sub p j).state = s.restartState p j)
      (List.mem_range.mpr hj) (fun u k _ hu => (restart_regs u p k).trans hu) (fun u hu => ?_) (fun u k hk hne hu hQ => ?_) rfl
    · obtain ⟨x, hx, hsub, -⟩ := restart_oneSub u p j
      rw [hsub, hx, (linkKept_of_regs hu).restartState hp]
    · obtain ⟨x, -, -, hrest⟩ := restart_oneSub u p k
      rw [hrest p j (by omega), hQ]
  · refine foldl_keeps (P := fun u => u.sub q j = s.sub q j) (fun u k hk hu => ?_) rfl
    have hk := List.mem_range.mp hk
    obtain ⟨x, -, -, hrest⟩ := restart_oneSub u p k
    rw [hrest q j (by omega), hu]

/-- Every sub-port of the MODE loses its link and starts over. -/
theorem foldl_linkLost_restart_sub (hp : p < 84) {t : State}
    (ht : (List.range n).foldl (fun s k => (s.linkLost p k).restart p k) s = t) :
    LinkKept s t ∧ (∀ j, j < n → (t.sub p j).state = s.restartState p j ∧ (t.egr (8 * p + j)).sending = none) ∧
      (∀ q j, q ≠ p → j < 8 → t.sub q j = s.sub q j) := by
  subst ht
  have hkept : ∀ u k, LinkKept s u → LinkKept s ((u.linkLost p k).restart p k) := fun u k hu =>
    (hu.trans (linkLost_linkKept u p k)).trans (linkKept_of_regs (restart_regs ..))
  have hsubs : ∀ (u : State) k, (u.linkLost p k).subs = u.subs := fun u k => (linkLost_gone u p k).subs
  have hrte : ∀ (u : State) k, (u.restart p k).rte = u.rte := fun u k => eq_of_mask State.rte (restart_only u p k) fun _ => rfl
  refine ⟨foldl_keeps (fun u k _ hu => hkept u k hu) (.refl s), fun j hj => ⟨?state, ?sending⟩, fun q j hq hj => ?other⟩
  case state =>
    refine foldl_establishes (P := LinkKept s) (Q := fun u => (u.sub p j).state = s.restartState p j)
      (List.mem_range.mpr hj) (fun u k _ hu => hkept u k hu) (fun u hu => ?_) (fun u k hk hne hu hQ => ?_) (.refl s)
    · obtain ⟨x, hx, hsub, -⟩ := restart_oneSub (u.linkLost p j) p j
      rw [hsub, hx, (hu.trans (linkLost_linkKept u p j)).restartState hp]
    · obtain ⟨x, -, -, hrest⟩ := restart_oneSub (u.linkLost p k) p k
      rw [hrest p j (by omega), sub_congr (hsubs u k), hQ]
  case sending =>
    refine foldl_establishes (P := fun _ => True) (Q := fun u => (u.egr (8 * p + j)).sending = none)
      (List.mem_range.mpr hj) (fun _ _ _ _ => trivial) (fun u _ => ?_) (fun u k hk hne _ hQ => ?_) trivial
    · rw [egr_congr (hrte _ j)]
      exact (linkLost_gone u p j).lost.sending
    · rw [egr_congr (hrte _ k), linkLost_sending_ne u p k (by omega), hQ]
  case other =>
    refine foldl_keeps (P := fun u => u.sub q j = s.sub q j) (fun u k hk hu => ?_) rfl
    have hk := List.mem_range.mp hk
    obtain ⟨x, -, -, hrest⟩ := restart_oneSub (u.linkLost p k) p k
    rw [hrest q j (by omega), sub_congr (hsubs u k), hu]
end

/-! ## The write (R117, R119, R470) -/

section
variable {s : State} {path : Path} {p : Nat} {v : Word} (hp : p < 84) (hmay : s.mayWrite path (aPRT_CTRL p) = true)

include hp hmay

theorem exec_prtCtrlWrite : exec (.prtCtrlWrite path p v) s = .next (s.prtCtrl p v) :=
  congrArg Host.Outcome.next (if_pos (by simp [hmay, hp]))

theorem exec_prtCtrlWrite_refused (hok : s.prtCtrlOk p v = false) : exec (.prtCtrlWrite path p v) s = .next (s.prtEvt p 4) := by
  rw [exec_prtCtrlWrite hp hmay, State.prtCtrl, hok]
  rfl

theorem exec_prtCtrlWrite_noStore (hok : s.prtCtrlOk p v = true) (hen : s.enableOk p v = false) :
    exec (.prtCtrlWrite path p v) s = .next ((s.prtEvt p 4).evt 17 aMEM_EVENT 1) := by
  rw [exec_prtCtrlWrite hp hmay, State.prtCtrl, hok, hen]
  rfl

/-- The effect of a write that is let through. -/
theorem exec_prtCtrlWrite_taken (hok : s.prtCtrlOk p v = true) (hen : s.enableOk p v = true) :
    exec (.prtCtrlWrite path p v) s =
      .next ((s.plainWrite (aPRT_CTRL p) v).prtEnable p (s.portOn p) (bitOf v.toNat 0)) := by
  rw [exec_prtCtrlWrite hp hmay, State.prtCtrl, hok, hen, ← plainWrite_portOn s v hp]
  rfl

omit hp hmay in
/-- An enabled port keeps its MODE (R117). -/
theorem mode_of_prtCtrlOk (hok : s.prtCtrlOk p v = true) (hon : s.portOn p = true) : bitsOf v.toNat 3 1 = s.portMode p := by
  unfold State.prtCtrlOk at hok
  simp only [hon, Bool.and_eq_true, Bool.or_eq_true, decide_eq_true_eq] at hok
  obtain ⟨⟨-, hmode | ⟨hoff, -⟩⟩, -⟩ := hok
  · exact hmode
  · exact absurd hoff (by decide)

/-- A write that leaves the port enabled stores its value (R117). -/
theorem prtCtrlWrite_stays (hok : s.prtCtrlOk p v = true) (hen : s.enableOk p v = true) (hon : s.portOn p = true)
    (hv : bitOf v.toNat 0 = true) : Answers (.prtCtrlWrite path p v) s fun t =>
      t.regs = (s.plainWrite (aPRT_CTRL p) v).regs ∧
      (∀ q j, q ≠ p ∨ j < subCount p (s.portMode p) → j < 8 → t.sub q j = s.sub q j) ∧ Only { regs := true, subs := true } s t := by
  have hmode : (s.plainWrite (aPRT_CTRL p) v).portMode p = s.portMode p :=
    (plainWrite_portMode s v hp).trans (mode_of_prtCtrlOk hok hon)
  have hwrite : Only { regs := true } s (s.plainWrite (aPRT_CTRL p) v) := State.plainWrite_mask s _ v _ rfl
  refine ⟨_, exec_prtCtrlWrite_taken hp hmay hok hen, ?_⟩
  rw [prtEnable_eq, hon, hv]
  refine ⟨spareCleared_regs .., fun q j h hj => ?_, ?_⟩
  · exact (spareCleared_sub _ p (by rwa [hmode]) hj).trans (sub_congr (eq_of_mask State.subs hwrite fun _ => rfl) q j)
  · exact (spareCleared_mask _ p _ rfl).trans (State.plainWrite_mask s _ v _ rfl)

/-- A write to a disabled port: its sub-ports train where it is enabled, and are DISABLED where it is not (R121, R122). -/
theorem prtCtrlWrite_enables (hok : s.prtCtrlOk p v = true) (hen : s.enableOk p v = true) (hoff : s.portOn p = false) :
    Answers (.prtCtrlWrite path p v) s fun t =>
      t.portOn p = bitOf v.toNat 0 ∧ t.portMode p = bitsOf v.toNat 3 1 ∧
      (∀ j, j < subCount p (bitsOf v.toNat 3 1) →
        (t.sub p j).state = if t.subTest p j then 8 else if bitOf v.toNat 0 then 2 else 0) ∧
      (∀ j, subCount p (bitsOf v.toNat 3 1) ≤ j → j < 8 → t.sub p j = subInit) ∧
      (∀ q j, q ≠ p → j < 8 → t.sub q j = s.sub q j) ∧
      Only { regs := true, subs := true, lanes := true } s t ∧ KeepsRegs [aPRT_CTRL p] s t := by
  obtain ⟨u, hu⟩ : ∃ u, s.plainWrite (aPRT_CTRL p) v = u := ⟨_, rfl⟩
  have hon : u.portOn p = bitOf v.toNat 0 := hu ▸ plainWrite_portOn s v hp
  have hmode : u.portMode p = bitsOf v.toNat 3 1 := hu ▸ plainWrite_portMode s v hp
  have hwrite : Only { regs := true } s u := hu ▸ State.plainWrite_mask s _ v _ rfl
  have hexec := exec_prtCtrlWrite_taken hp hmay hok hen
  obtain ⟨t, ht⟩ : ∃ t, (List.range (subCount p (u.portMode p))).foldl (fun s k => s.restart p k) (u.spareCleared p) = t :=
    ⟨_, rfl⟩
  rw [hu, prtEnable_eq, hoff, Bool.false_and, if_neg Bool.false_ne_true, if_neg Bool.false_ne_true, ht] at hexec
  obtain ⟨hmask, hstate, hrest⟩ := foldl_restart_sub (subCount_le _ _) hp ht
  have hregs : t.regs = u.regs :=
    (eq_of_mask State.regs (hmask { subs := true, lanes := true } rfl rfl) fun _ => rfl).trans (spareCleared_regs u p)
  have hkept := linkKept_of_regs hregs
  refine ⟨t, hexec, (hkept.portOn hp).trans hon, (hkept.portMode hp).trans hmode, fun j hj => ?_, fun j hj hj8 => ?_,
    fun q j hq hj => ?_, ?_, fun o ho => ?_⟩
  · rw [hstate j (by rwa [hmode]), (linkKept_of_regs (spareCleared_regs u p)).restartState hp, ← hkept.restartState hp,
      State.restartState, hkept.portOn hp, hon]
  · rw [hrest p j (.inr (by rwa [hmode])) hj8]
    exact spareCleared_spare u p (by rwa [hmode]) hj8
  · rw [hrest q j (.inl hq) hj, spareCleared_sub u p (.inl hq) hj]
    exact sub_congr (eq_of_mask State.subs hwrite fun _ => rfl) q j
  · exact (hmask _ rfl rfl).trans ((spareCleared_mask u p _ rfl).trans (hu ▸ State.plainWrite_mask s _ v _ rfl))
  · rw [State.reg, hregs]
    exact hu ▸ plainWrite_low_keepsRegs s v (portCtrl_low hp) o ho

/-- A write that disables an enabled port takes the link from each of its sub-ports (R121, R188). -/
theorem prtCtrlWrite_disables (hok : s.prtCtrlOk p v = true) (hon : s.portOn p = true) (hv : bitOf v.toNat 0 = false) :
    Answers (.prtCtrlWrite path p v) s fun t =>
      t.portOn p = false ∧
      (∀ j, j < subCount p (s.portMode p) →
        (t.sub p j).state = (if s.subTest p j then 8 else 0) ∧ (t.egr (8 * p + j)).sending = none) ∧
      (∀ q j, q ≠ p → j < 8 → t.sub q j = s.sub q j) ∧ Only { lossFields with subs := true, lanes := true } s t := by
  have hen : s.enableOk p v = true := by simp [State.enableOk, hv]
  have hmode := mode_of_prtCtrlOk hok hon
  have hexec := exec_prtCtrlWrite_taken hp hmay hok hen
  have honly := execPrtCtrlWrite_mask path p v s { lossFields with subs := true, lanes := true } rfl rfl rfl rfl rfl rfl rfl rfl
    rfl rfl _ hexec
  obtain ⟨u, hu⟩ : ∃ u, s.plainWrite (aPRT_CTRL p) v = u := ⟨_, rfl⟩
  have hoff : u.portOn p = false := hu ▸ (plainWrite_portOn s v hp).trans hv
  have hsame : u.portMode p = s.portMode p := hu ▸ (plainWrite_portMode s v hp).trans hmode
  have htest : ∀ j, u.subTest p j = s.subTest p j := hu ▸ plainWrite_subTest s v hp hmode
  have hwrite : Only { regs := true } s u := hu ▸ State.plainWrite_mask s _ v _ rfl
  have hspare := linkKept_of_regs (spareCleared_regs u p)
  rw [hu, prtEnable_eq, hon, hv, Bool.and_false, if_neg Bool.false_ne_true, if_pos rfl] at hexec honly
  obtain ⟨hkept, hstate, hrest⟩ := foldl_linkLost_restart_sub (s := u.spareCleared p) (subCount_le p (u.portMode p)) hp rfl
  refine ⟨_, hexec, ((hspare.trans hkept).portOn hp).trans hoff, fun j hj => ?_, fun q j hq hj => ?_, honly⟩
  · obtain ⟨hj, hsending⟩ := hstate j (by rwa [hsame])
    refine ⟨?_, hsending⟩
    rw [hj, hspare.restartState hp, State.restartState, hoff, htest]
    rfl
  · rw [hrest q j hq hj, spareCleared_sub u p (.inl hq) hj]
    exact sub_congr (eq_of_mask State.subs hwrite fun _ => rfl) q j
end

end Sys2Proof.Machine
end

section
/-! PROOFS. The bring-up of a sub-port, and the proof of O40 (R117–R130). -/

namespace Sys2Proof.Machine

section
variable {s : State} {p k : Nat} (hsub : s.hasSub p k = true)
include hsub

/-! ## HELLO -/

theorem exec_helloIdRx (id : Nat) (hstate : (s.sub p k).state = 3) : exec (.helloIdRx p k id) s =
    .next ((s.setSub p k { s.sub p k with idRx := some id }).helloStep p k) :=
  congrArg Host.Outcome.next (if_pos (by simp [hsub, hstate]))

theorem exec_helloAckRx (hstate : (s.sub p k).state = 3) : exec (.helloAckRx p k) s =
    .next ((s.setSub p k { s.sub p k with ackRx := true }).helloStep p k) :=
  congrArg Host.Outcome.next (if_pos (by simp [hsub, hstate]))

theorem exec_helloPortRx (pt : Nat) (hstate : (s.sub p k).state = 3) : exec (.helloPortRx p k pt) s = .next (
    if bitsOf pt 13 11 = s.portMode p then (s.setSub p k { s.sub p k with portRx := some pt }).helloStep p k
    else if (s.sub p k).misSeen then s
    else (s.setSub p k { s.sub p k with misSeen := true }).prtEvt p 3) :=
  congrArg Host.Outcome.next (if_pos (by simp [hsub, hstate]))

/-- A MODE of the peer that differs is reported once (R124). -/
theorem helloPortRx_mismatch (pt : Nat) (hstate : (s.sub p k).state = 3) (hmode : bitsOf pt 13 11 ≠ s.portMode p)
    (hmis : (s.sub p k).misSeen = false) : Answers (.helloPortRx p k pt) s fun t =>
      OneSub s t p k { s.sub p k with misSeen := true } ∧ t.bit (aPRT_EVENT p) 3 = true ∧
      Only { regs := true, hif := true, subs := true, out := true } s t ∧ KeepsRegs (blockRegs (aPRT_EVENT p)) s t := by
  refine ⟨_, (exec_helloPortRx hsub pt hstate).trans (congrArg _ ((if_neg hmode).trans (if_neg (by simp [hmis])))), ?_⟩
  exact ⟨(setSub_oneSub s p k _).congr rfl (evt_subs ..), prtEvt_bit _ p (bit := 3) (by decide),
    (State.prtEvt_mask _ p 3 _ rfl rfl rfl).trans (State.setSub_mask s p k _ _ rfl), prtEvt_keepsRegs _ p (bit := 3) (by decide)⟩

/-! ## Loss -/

/-- The loss of a link that is declared: not one of a direction that rests, but by fault sets, or with every signal there (R131). -/
theorem exec_linkDown {cause : Nat} (lost : Nat) (hlo : 1 ≤ cause) (hhi : cause ≤ 4)
    (hstate : (s.sub p k).state = 3 ∨ (s.sub p k).state = 4 ∨ (s.sub p k).state = 5 ∨ (s.sub p k).state = 7)
    (hrest : (s.sub p k).rxRest = false ∨ cause = 4 ∨ (cause ≠ 1 ∧ s.allSignal p k = true)) :
    exec (.linkDown p k cause lost) s = .next ((s.lossSeen p k cause lost).down p k cause) := by
  have hidle : ¬((s.sub p k).rxRest && decide (cause = 1)) = true := by
    obtain h | h | ⟨h, -⟩ := hrest <;> simp [h]
  have hcan : ((s.sub p k).state == 3 || (s.sub p k).state == 4 || (s.sub p k).state == 5 || (s.sub p k).state == 7) = true := by
    simpa [or_assoc] using hstate
  have hsignal : ((s.sub p k).rxRest && decide (cause ≤ 3) && !s.allSignal p k) = false := by
    obtain h | h | ⟨-, h⟩ := hrest <;> simp [h]
  refine congrArg Host.Outcome.next ((if_neg (by simp [hsub, hlo, hhi])).trans ((if_neg hidle).trans (if_pos ?_)))
  rw [hcan, hsignal]
  rfl

/-- What a resting direction loses before every lane has its signal back is no loss (R131). -/
theorem exec_linkDown_resting {cause : Nat} (lost : Nat) (hrest : (s.sub p k).rxRest = true) (hlo : 2 ≤ cause) (hhi : cause ≤ 3)
    (hsignal : s.allSignal p k = false) : exec (.linkDown p k cause lost) s = .next s := by
  refine congrArg Host.Outcome.next ((if_neg (by simp [hsub]; omega)).trans ((if_neg ?_).trans (if_neg ?_)))
  · simp only [Bool.and_eq_true, decide_eq_true_eq]
    omega
  · simp [hrest, hhi, hsignal]

/-- Electrical idle in a direction that rests (R131). -/
theorem exec_linkDown_idle (lost : Nat) (hrest : (s.sub p k).rxRest = true) :
    exec (.linkDown p k 1 lost) s = .next (s.idleSeen p k lost) :=
  congrArg Host.Outcome.next ((if_neg (by simp [hsub])).trans (if_pos (by simp [hrest])))

/-! ## Training -/

/-- Training that fails (R122, R453). -/
theorem trainFail_effect (hstate : (s.sub p k).state = 2) : Answers (.trainFail p k) s fun t =>
    OneSub s t p k { subInit with state := 1 } ∧ t.bit (aPRT_EVENT p) 2 = true ∧
    t.streams = (if 64 ≤ p ∧ p < 80 then s.streams.map fun e => if e.2.lport = p - 64 then (e.1, e.2.portDown) else e
      else s.streams) ∧
    Only { regs := true, hif := true, subs := true, streams := true, out := true } s t ∧ KeepsRegs (blockRegs (aPRT_EVENT p)) s t := by
  obtain ⟨u, hu⟩ : ∃ u, (if 64 ≤ p ∧ p < 80 then s.streamsDown (p - 64) else s) = u := ⟨_, rfl⟩
  have hexec : exec (.trainFail p k) s = .next ((u.enter p k 1).prtEvt p 2) := by
    subst hu
    exact congrArg Host.Outcome.next (if_pos (by simp [hsub, hstate]))
  have hdown : Only { streams := true } s u ∧
      u.streams = if 64 ≤ p ∧ p < 80 then s.streams.map fun e => if e.2.lport = p - 64 then (e.1, e.2.portDown) else e
        else s.streams := by
    rw [← hu]
    split
    · exact ⟨State.streamsDown_mask _ _ _ rfl, rfl⟩
    · exact ⟨rfl, rfl⟩
  obtain ⟨honly, hstreams⟩ := hdown
  have hregs : u.regs = s.regs := eq_of_mask State.regs honly fun _ => rfl
  refine ⟨_, hexec, (setSub_oneSub u p k _).congr (eq_of_mask State.subs honly fun _ => rfl).symm (evt_subs ..),
    prtEvt_bit _ p (bit := 2) (by decide), ?_, execTrainFail_mask p k s _ rfl rfl rfl rfl rfl _ hexec, fun o ho => ?_⟩
  · rw [← hstreams]
    exact (eq_of_mask State.streams (State.prtEvt_mask (u.enter p k 1) p 2 { regs := true, hif := true, out := true } rfl rfl rfl)
      fun _ => rfl :)
  · rw [prtEvt_keepsRegs (u.enter p k 1) p (bit := 2) (by decide) o ho]
    exact congrArg (tblGet _ · o) hregs
end

/-- Settles O40: a sub-port goes DOWN as `down_wentDown` says and comes UP as `CameUp` says, and a write of PRT_CTRL that is let
through folds `restart` over the sub-ports of the MODE. -/
theorem portBringUp : Obligations.PortBringUp := by
  unfold Obligations.PortBringUp
  intro s p k hsub
  obtain ⟨hp, hk⟩ := lt_of_hasSub hsub
  dsimp only
  refine ⟨?register, fun hstate htap => ?lock, fun hstate htap => ?held, fun hstate => trainFail_effect hsub hstate,
    fun hstate => ?hello, fun cause lost hlo hhi hstate => ?loss, fun hrest lost => ?idle, fun hstate hon hlog => ?retry,
    fun kind hkind => ?unknown⟩
  case register =>
    intro path v hp hmay
    exact ⟨exec_prtCtrlWrite_refused hp hmay, exec_prtCtrlWrite_noStore hp hmay, prtCtrlWrite_stays hp hmay,
      prtCtrlWrite_enables hp hmay, prtCtrlWrite_disables hp hmay⟩
  case lock => exact congrArg Host.Outcome.next (if_pos (by simp [hsub, hstate, htap]))
  case held => exact congrArg Host.Outcome.next (if_neg (by simp [htap]))
  case hello =>
    have hId := fun id => exec_helloIdRx hsub id hstate
    have hPort := fun pt => exec_helloPortRx hsub pt hstate
    have hAck := exec_helloAckRx hsub hstate
    have hsame : ∀ pt, bitsOf pt 13 11 = s.portMode p →
        exec (.helloPortRx p k pt) s = .next ((s.setSub p k { s.sub p k with portRx := some pt }).helloStep p k) :=
      fun pt hmode => (hPort pt).trans (congrArg _ (if_pos hmode))
    refine ⟨congrArg Host.Outcome.next (if_pos (by simp [hsub, hstate])), fun id hpt htx => ?_, fun id hpt htx hrx => ?_,
      fun pt hmode hid htx hrx => ?_, fun pt hmode hmis => helloPortRx_mismatch hsub pt hstate hmode hmis,
      fun pt hmode hmis => ?_, fun hmissing htx => ?_,
      fun id pt hid hpt => ⟨_, hAck, setSub_helloStep_cameUp _ hp hid hpt rfl⟩,
      fun id pt hpt hrx => ⟨_, hId id, setSub_helloStep_cameUp _ hp rfl hpt hrx⟩,
      fun id pt hmode hid hrx => ⟨_, hsame pt hmode, setSub_helloStep_cameUp _ hp hid rfl hrx⟩, fun hid => ⟨_, ?_,
      down_wentDown hp hk 5⟩, fun hid => ?_⟩
    · exact (hId id).trans (congrArg _ (helloStep_waits (.inr (by rw [sub_setSub, hpt])) (by rw [sub_setSub, htx])))
    · exact ⟨_, hId id, setSub_helloStep_acks _ nofun hpt htx hrx⟩
    · exact ⟨_, hsame pt hmode, setSub_helloStep_acks _ hid nofun htx hrx⟩
    · exact (hPort pt).trans (congrArg _ ((if_neg hmode).trans (if_pos hmis)))
    · refine hAck.trans (congrArg _ (helloStep_waits ?_ (by rw [sub_setSub, htx])))
      rw [sub_setSub]
      exact hmissing
    · exact congrArg Host.Outcome.next (if_pos (by simp [hsub, hstate, hid]))
    · exact congrArg Host.Outcome.next (if_neg (by simp [hid]))
  case loss =>
    refine ⟨fun hdeclared => ?_, fun hrest hlo hhi hsignal => exec_linkDown_resting hsub lost hrest hlo hhi hsignal⟩
    have hexec := exec_linkDown hsub lost hlo hhi hstate hdeclared
    exact ⟨⟨_, hexec, lossSeen_down_wentDown lost hsub cause⟩, _, hexec, lossSeen_down_lanes lost hsub cause⟩
  case idle =>
    obtain ⟨hlanes, hrest'⟩ := idleSeen_lanes s p k lost
    exact ⟨_, exec_linkDown_idle hsub lost hrest, hlanes, hrest', State.idleSeen_mask s p k lost _ rfl⟩
  case retry =>
    refine (congrArg Host.Outcome.next (if_pos (by simp [hsub, hstate, hon, hlog]))).trans ?_
    unfold State.enter State.restartState
    rw [hon]
    split <;> rfl
  case unknown =>
    have hunknown : osKnown kind = false := by
      rw [osKnown, ← Bool.not_eq_true, List.contains_iff_mem]
      exact hkind
    exact ⟨_, congrArg Host.Outcome.next (if_pos (by simp [hsub, hunknown])), bump_same .., State.bump_mask _ _ _ _ rfl,
      bump_keepsRegs _ _ 1⟩

end Sys2Proof.Machine
end

section
/-! PROOFS. PFC frames of an S-port (R272), and the refutation of O48. -/

namespace Sys2Proof.Machine

/-- A held packet that was found damaged and is over, with a cause beyond the codes of R201: its drop count, of the 32-bit words
from RTE_DROP on, is the word at SCH_PAUSE_CTRL of S-port 0. -/
def strayHeld : Held :=
  { id := 0, pkt := linkPkt 0 false 0 [], eth := [], ingress := 0, die := 0, pool := 0, handles := [], owner := 0, vcIn := 0
    born := 0, endAt := 0, rate := 800, ready := 0, damaged := true, cause := 0x33FC5, hop := .egr 0 }

theorem strayHeld_dropCount : aRTE_DROP (strayHeld.cause - 1) = aSCH_PAUSE_CTRL 80 := by decide

/-- The reset state but for these: S-port 0 is UP in pause MODE 2 with every priority but 7 enabled for PFC, and two stray packets
wait, which count SCH_PAUSE_CTRL from 0x7FFE to 0x8000. -/
def State.strayWaits : State :=
  { State.reset with
    regs := [(aPRT_CTRL 80, 1), (aPRT_S_MAXFRAME 80, 1518), (aSCH_PAUSE_CTRL 80, 0x7FFE)]
    subs := [(640, { subInit with state := 4 })]
    rte := { State.reset.rte with wait := [strayHeld, strayHeld] } }

/-- A PFC frame of 60 bytes that pauses priority 7 for 0xFFFF quanta. -/
def pfcFrame7 : List Byte :=
  [0x01, 0x80, 0xC2, 0x00, 0x00, 0x01] ++ List.replicate 6 2 ++ [0x88, 0x08, 0x01, 0x01, 0x00, 0x80] ++ List.replicate 14 0 ++
    [0xFF, 0xFF] ++ List.replicate 26 0

/-- The frame's timer runs: the model asks for PFC_PRI of priority 7 when the stray packets are gone. -/
theorem strayWaits_pfcRx {t : State} (h : exec (.pfcRx 0 pfcFrame7 true 0) State.strayWaits = .next t) :
    (t.pause 0).ends.getD 7 0 ≠ 0 := by
  injection h with h
  subst h
  decide

/-- Refutes O48: its clause on PFC frames reads the PFC_PRI bits of the state before the frame, the model those after the damaged
packets that are over by then are dropped, and it speaks of every state, so of `State.strayWaits`, in which a drop count lies on
SCH_PAUSE_CTRL. There priority 7 is disabled before the frame, and its timer runs after it. -/
theorem not_ethernetPorts : ¬ Obligations.EthernetPorts := by
  unfold Obligations.EthernetPorts
  intro h
  obtain ⟨hframes, -⟩ := h State.strayWaits 0 (by decide) (by decide) (by decide)
  obtain ⟨-, -, -, -, -, -, hpfc, -⟩ := hframes pfcFrame7 true 0
  have hclass : State.strayWaits.frameClass 0 pfcFrame7 true = .pfc := by decide
  have hdisabled : State.strayWaits.bit (aSCH_PAUSE_CTRL (80 + 0)) (8 + 7) = false := by decide
  have hidle : (State.strayWaits.pause 0).ends.getD 7 0 = 0 := by decide
  obtain ⟨t, hexec, -, hends, -⟩ := hpfc hclass (by decide)
  refine strayWaits_pfcRx hexec ?_
  rw [hends 7 (by decide), if_neg (by simp [hdisabled]), hidle]

end Sys2Proof.Machine
end

section
/-! PROOFS. A lane put into a test, or taken out of one (R156–R158, R161). -/

namespace Sys2Proof.Machine

/-- Offset `o` is that of LNE_CTRL, LNE_PATGEN or LNE_PATCHK of lane `i`. -/
def IsTestReg (i o : Nat) : Prop := o ∈ [aLNE_CTRL i, aLNE_PATGEN i, aLNE_PATCHK i]

section
variable {i o : Nat} (ho : IsTestReg i o)
include ho

theorem testReg_cases : o = 0x100000 + 0x400 * i ∨ o = 0x100010 + 0x400 * i ∨ o = 0x100014 + 0x400 * i := by
  simpa [IsTestReg, aLNE_CTRL, aLNE_PATGEN, aLNE_PATCHK] using ho

theorem testReg_low (hi : i < 784) : o < 0x400000 := by
  have := testReg_cases ho
  omega

/-- The lane of such an offset. -/
theorem testReg_lane : (o - 0x100000) / 0x400 = i := by
  have := testReg_cases ho
  omega

theorem exec_lneTestModeWrite {path : Path} {v : Word} {s : State} (hmay : s.mayWrite path o = true) :
    exec (.lneTestModeWrite path o v) s = .next (s.lneModeWrite i o v) := by
  have hcases := testReg_cases ho
  have hreg : (o == aLNE_CTRL i || o == aLNE_PATGEN i || o == aLNE_PATCHK i) = true := by
    simpa [IsTestReg, or_assoc] using ho
  have hif : exec (.lneTestModeWrite path o v) s = .next _ := congrArg Host.Outcome.next (if_pos (by
    rw [testReg_lane ho, hmay, hreg]
    simp
    omega))
  rw [hif, testReg_lane ho]
end

/-- What a plain write below the cells' registers stores depends on the registers, and on what hardware sets in the cycle. -/
theorem plainWrite_regs_congr {s t : State} (hregs : t.regs = s.regs) (hnow : t.now4 = s.now4) {o : Nat} (ho : o < 0x400000)
    (v : Word) : (t.plainWrite o v).regs = (s.plainWrite o v).regs := by
  unfold State.plainWrite
  split
  · exact hregs
  · dsimp only
    rw [takeHeld_of_no_fault _ o v (no_fault_of_low _ ho), takeHeld_of_no_fault _ o v (no_fault_of_low _ ho)]
    simp only [State.setReg, State.reg, State.setNow, hregs, hnow]

/-- What a lane has sent changes what it sends next, and nothing else of it (R150, R151, R157). -/
theorem sendTo_lane (s : State) (i k : Nat) : ∃ txBit rd gen phase inj, OneLane s (s.sendTo i k) i
    { s.lane i with txBit := txBit, rd := rd, gen := gen, phase := phase, inj := inj } := by
  unfold State.sendTo
  dsimp only
  split
  · exact ⟨_, _, _, _, _, oneLane_of_lanes rfl⟩
  · split
    · exact ⟨_, (s.lane i).rd, _, _, _, (setLane_oneLane s i _).congr rfl rfl⟩
    · split
      · exact ⟨_, _, (s.lane i).gen, (s.lane i).phase, _, (setLane_oneLane s i _).congr rfl rfl⟩
      · exact ⟨_, (s.lane i).rd, (s.lane i).gen, (s.lane i).phase, (s.lane i).inj, setLane_oneLane s i _⟩

/-! ## The write, up to what it does to the sub-port or the STC lane -/

/-- What a write of a test register does to the lane itself (R149, R157, R158). -/
def State.testRegWritten (s : State) (i off : Nat) (v : Word) : State :=
  let u := (s.sendNow i).plainWrite off v
  let u := if u.fld off 3 0 = s.fld off 3 0 then u else u.patRestart i off
  if s.bit (aLNE_CTRL i) 7 = false ∧ u.bit (aLNE_CTRL i) 7 = true then u.setLane i { u.lane i with rd := false } else u

section
variable (s : State) (i off : Nat) (v : Word)

theorem sendNow_regs : (s.sendNow i).regs = s.regs :=
  eq_of_mask State.regs (State.sendNow_mask s i { lanes := true, out := true } rfl rfl) fun _ => rfl

theorem sendNow_reg (o : Nat) : (s.sendNow i).reg o = s.reg o := by rw [State.reg, sendNow_regs, State.reg]

theorem patRestart_regs : (s.patRestart i off).regs = s.regs :=
  eq_of_mask State.regs (State.patRestart_mask s i off { lanes := true } rfl) fun _ => rfl

theorem testRegWritten_mask (G : Fields) (hregs : G.regs) (hlanes : G.lanes) (hout : G.out) :
    (s.testRegWritten i off v).mask G = s.mask G := by
  simp only [State.testRegWritten, State.setLane_mask, State.patRestart_mask, State.plainWrite_mask, State.sendNow_mask, ite_mask,
    ite_self, hregs, hlanes, hout]

theorem testRegWritten_only : Only { regs := true, lanes := true, out := true } s (s.testRegWritten i off v) :=
  testRegWritten_mask s i off v _ rfl rfl rfl

theorem testRegWritten_regs (ho : off < 0x400000) : (s.testRegWritten i off v).regs = (s.plainWrite off v).regs := by
  have hnow : (s.sendNow i).now4 = s.now4 :=
    eq_of_mask State.now4 (State.sendNow_mask s i { lanes := true, out := true } rfl rfl) fun _ => rfl
  have hwritten := plainWrite_regs_congr (sendNow_regs s i) hnow ho v
  unfold State.testRegWritten
  dsimp only
  split <;> split <;> simp only [setLane_regs, patRestart_regs, hwritten]

theorem testRegWritten_subs : (s.testRegWritten i off v).subs = s.subs :=
  eq_of_mask State.subs (testRegWritten_only s i off v) fun _ => rfl

theorem testRegWritten_rte : (s.testRegWritten i off v).rte = s.rte :=
  eq_of_mask State.rte (testRegWritten_only s i off v) fun _ => rfl

/-- No write of a test register takes an STC lane up or down by itself. -/
theorem testRegWritten_up : ((s.testRegWritten i off v).lane i).up = (s.lane i).up := by
  have hsend : ((s.sendNow i).lane i).up = (s.lane i).up := by
    obtain ⟨txBit, rd, gen, phase, inj, h, -⟩ := sendTo_lane s i (lineBit i s.tim.clk)
    rw [State.sendNow, h]
  have hwrite : ∀ u : State, (u.plainWrite off v).lane i = u.lane i := fun u =>
    lane_congr (eq_of_mask State.lanes (State.plainWrite_mask u off v { regs := true } rfl) fun _ => rfl) i
  have hrestart : ∀ u : State, ((u.patRestart i off).lane i).up = (u.lane i).up := fun u => by
    unfold State.patRestart
    split
    · rw [lane_setLane]
    · split
      · rw [lane_setLane]
      · rfl
  unfold State.testRegWritten
  dsimp only
  split <;> split <;> simp only [lane_setLane, hrestart, hwrite, hsend]

/-- The write goes on where the lane has become part of a test, or left one, or its transmitter is off (R156, R161). -/
theorem lneModeWrite_eq : s.lneModeWrite i off v =
    let u := s.testRegWritten i off v
    let w := if decide (768 ≤ i) && !u.bit (aLNE_CTRL i) 7 && (u.lane i).up then u.stcDown (i - 768) 1 else u
    w.testChange i (s.laneTest i) (w.laneTest i) := by
  have htest : (s.sendNow i).laneTest i = s.laneTest i := laneTest_congr fun o _ => sendNow_reg s i o
  have hctrl : (s.sendNow i).bit (aLNE_CTRL i) 7 = s.bit (aLNE_CTRL i) 7 := bit_of_reg (sendNow_reg s i _) 7
  have hmode : (s.sendNow i).fld off 3 0 = s.fld off 3 0 := fld_of_reg (sendNow_reg s i _) 3 0
  unfold State.lneModeWrite State.testRegWritten
  simp only [htest, hctrl, hmode, Bool.and_eq_true, Bool.not_eq_true']
end

/-! ## A lane of a port -/

section
variable {s : State} {i off p l k : Nat} {v : Word}

/-- What reads of the lane's test registers and of the port's MODE sees the value written. -/
theorem testRegWritten_linkKept (ho : off < 0x400000) : LinkKept (s.plainWrite off v) (s.testRegWritten i off v) :=
  linkKept_of_regs (testRegWritten_regs s i off v ho)

theorem mem_subLanes (hport : lanePort i = some (p, l)) (hsub : laneSub p l (s.portMode p) = some k) : i ∈ s.subLanes p k :=
  List.mem_filter.mpr ⟨mem_portLanes_of_lanePort hport, by simp [hport, hsub]⟩

variable (ho : IsTestReg i off) (hport : lanePort i = some (p, l)) (hsub : laneSub p l (s.portMode p) = some k)
include ho hport

theorem portLane_testReg_low : off < 0x400000 := testReg_low ho (Nat.lt_trans (lanePort_lt hport).1 (by decide))

/-- A lane's test register is no register of a port. -/
theorem plainWrite_testReg_portCtrl : (s.plainWrite off v).reg (aPRT_CTRL p) = s.reg (aPRT_CTRL p) := by
  have := testReg_cases ho
  have := lanePort_lt hport
  exact plainWrite_low_reg_ne s v (portLane_testReg_low ho hport) (by unfold aPRT_CTRL; omega)

theorem testRegWritten_portMode : (s.testRegWritten i off v).portMode p = s.portMode p :=
  (portMode_congr (testRegWritten_regs s i off v (portLane_testReg_low ho hport)) p).trans
    (fld_of_reg (plainWrite_testReg_portCtrl ho hport) 3 1)

theorem testRegWritten_portOn : (s.testRegWritten i off v).portOn p = s.portOn p :=
  ((testRegWritten_linkKept (portLane_testReg_low ho hport)).portOn (lanePort_lt hport).2).trans
    (bit_of_reg (plainWrite_testReg_portCtrl ho hport) 0)

include hsub

/-- The write goes on to the sub-port that has the lane (R161). -/
theorem lneModeWrite_portLane : s.lneModeWrite i off v =
    let u := s.testRegWritten i off v
    if (s.plainWrite off v).laneTest i then
      (if (s.sub p k).state = 8 then u else ((u.setSub p k { u.sub p k with state := 8 }).linkLost p k).restart p k)
    else if s.laneTest i && (s.sub p k).state == 8 && !(s.plainWrite off v).subTest p k then u.restart p k
    else u := by
  have hlow := portLane_testReg_low ho hport
  have hlane := lanePort_lt hport
  have hkept := testRegWritten_linkKept (s := s) (i := i) (v := v) hlow
  have hstc : decide (768 ≤ i) = false := by simp; omega
  have hsubs := sub_congr (testRegWritten_subs s i off v) p k
  have hlaneSub : laneSub p l ((s.testRegWritten i off v).portMode p) = some k := by
    rw [testRegWritten_portMode ho hport, hsub]
  rw [lneModeWrite_eq]
  simp only [hstc, Bool.false_and, Bool.false_eq_true, if_false, State.testChange, hport, hlaneSub, hsubs,
    hkept.laneTest (show i < 784 by omega), hkept.subTest hlane.2]

/-- A write that puts the lane into a test takes its sub-port to TEST, without its link (R161, R188). -/
theorem lneModeWrite_entersTest (htest : (s.plainWrite off v).laneTest i = true) (hstate : (s.sub p k).state ≠ 8) {t : State}
    (ht : s.lneModeWrite i off v = t) :
    OneSub s t p k { subInit with state := 8 } ∧ t.reg off = (s.plainWrite off v).reg off ∧ (t.egr (8 * p + k)).sending = none ∧
      (t.egr (8 * p + k)).queues = (s.egr (8 * p + k)).queues.map (fun q => q.filter fun h => !h.eth.isEmpty) ∧
      Only { lossFields with subs := true, lanes := true } s t := by
  have hlow := portLane_testReg_low ho hport
  obtain ⟨hi, hp⟩ := lanePort_lt hport
  obtain ⟨u, hu⟩ : ∃ u, s.testRegWritten i off v = u := ⟨_, rfl⟩
  obtain ⟨w, hw⟩ : ∃ w, (u.setSub p k { u.sub p k with state := 8 }).linkLost p k = w := ⟨_, rfl⟩
  have hgone : LinkGone (u.setSub p k { u.sub p k with state := 8 }) w p k := hw ▸ linkLost_gone _ p k
  have hsubs : u.subs = s.subs := hu ▸ testRegWritten_subs s i off v
  have hrte : u.rte = s.rte := hu ▸ testRegWritten_rte s i off v
  have hkept : LinkKept (s.plainWrite off v) w :=
    (hu ▸ testRegWritten_linkKept hlow : LinkKept (s.plainWrite off v) u).trans ⟨hgone.regs.reg⟩
  have hmode : (s.plainWrite off v).portMode p = s.portMode p := fld_of_reg (plainWrite_testReg_portCtrl ho hport) 3 1
  have hlanes : i ∈ (s.plainWrite off v).subLanes p k := mem_subLanes hport (by rw [hmode, hsub])
  have hstays : w.restartState p k = 8 := by
    rw [hkept.restartState hp, State.restartState, State.subTest, if_pos (List.any_eq_true.mpr ⟨i, hlanes, htest⟩)]
  have hsafe : LinkSafe off := linkSafe_of_test (by omega) ho
  rw [lneModeWrite_portLane ho hport hsub, hu, if_pos htest] at ht
  dsimp only at ht
  rw [if_neg hstate, hw] at ht
  have hregs : t.regs = w.regs := ht ▸ restart_regs w p k
  have hlost := hgone.lost.congr (s' := s) (t' := t) hrte.symm
    (ht ▸ eq_of_mask State.rte (restart_only w p k) fun _ => rfl)
  have hentered : OneSub w t p k { subInit with state := 8 } := by
    rw [← ht, State.restart, hstays]
    exact (setSub_oneSub w p k _).congr rfl (laneRx_subs ..)
  have hsame := (setSub_oneSub u p k { u.sub p k with state := 8 }).congr hsubs.symm hgone.subs
  refine ⟨hsame.trans hentered, ?_, hlost.sending, hlost.queues, ?_⟩
  · rw [State.reg, hregs]
    exact hkept.reg off hsafe
  · rw [Only, ← ht, State.restart_mask _ _ _ _ rfl rfl, ← hw, State.linkLost_mask _ _ _ _ rfl rfl rfl rfl rfl rfl rfl rfl,
      State.setSub_mask _ _ _ _ _ rfl, ← hu, testRegWritten_mask _ _ _ _ _ rfl rfl rfl]

/-- The write that ends the last test of a sub-port's lanes (R161). -/
theorem lneModeWrite_leavesTest (htest : (s.plainWrite off v).laneTest i = false) (hwas : s.laneTest i = true)
    (hstate : (s.sub p k).state = 8) (hlast : (s.plainWrite off v).subTest p k = false) {t : State}
    (ht : s.lneModeWrite i off v = t) :
    OneSub s t p k { subInit with state := if s.portOn p then 2 else 0, peer := if s.portOn p then (s.sub p k).peer else 0 } ∧
      t.regs = (s.plainWrite off v).regs ∧ Only { regs := true, subs := true, lanes := true, out := true } s t := by
  have hlow := portLane_testReg_low ho hport
  obtain ⟨hi, hp⟩ := lanePort_lt hport
  obtain ⟨u, hu⟩ : ∃ u, s.testRegWritten i off v = u := ⟨_, rfl⟩
  have hsubs : u.subs = s.subs := hu ▸ testRegWritten_subs s i off v
  have hregs : u.regs = (s.plainWrite off v).regs := hu ▸ testRegWritten_regs s i off v hlow
  have hon : u.portOn p = s.portOn p := hu ▸ testRegWritten_portOn ho hport
  have hstays : u.restartState p k = if s.portOn p then 2 else 0 := by
    rw [State.restartState, (linkKept_of_regs hregs).subTest hp, hlast, if_neg Bool.false_ne_true, hon]
  rw [lneModeWrite_portLane ho hport hsub, hu, if_neg (by simp [htest])] at ht
  rw [if_pos (by simp [hwas, hstate, hlast])] at ht
  have hentered : OneSub s t p k
      { subInit with state := if s.portOn p then 2 else 0, peer := if s.portOn p then (s.sub p k).peer else 0 } := by
    have hpeer : (if u.restartState p k = 2 ∨ u.restartState p k = 3 then (u.sub p k).peer else 0) =
        if s.portOn p then (s.sub p k).peer else 0 := by
      rw [hstays, sub_congr hsubs]
      cases s.portOn p <;> rfl
    rw [← hpeer, ← hstays, ← ht]
    exact (setSub_oneSub u p k _).congr hsubs.symm (laneRx_subs ..)
  refine ⟨hentered, ?_, ?_⟩
  · rw [← ht, restart_regs, hregs]
  · rw [Only, ← ht, State.restart_mask _ _ _ _ rfl rfl, ← hu, testRegWritten_mask _ _ _ _ _ rfl rfl rfl]

/-- A write that changes nothing about the sub-port's tests changes the lane only. -/
theorem lneModeWrite_same (h : (s.plainWrite off v).laneTest i = true ∧ (s.sub p k).state = 8 ∨
    (s.plainWrite off v).laneTest i = false ∧
      (s.laneTest i = false ∨ (s.sub p k).state ≠ 8 ∨ (s.plainWrite off v).subTest p k = true)) :
    s.lneModeWrite i off v = s.testRegWritten i off v := by
  rw [lneModeWrite_portLane ho hport hsub]
  obtain ⟨htest, hstate⟩ | ⟨htest, hother⟩ := h
  · rw [if_pos htest, if_pos hstate]
  · rw [if_neg (by simp [htest]), if_neg]
    obtain h | h | h := hother <;> simp [h]
end

end Sys2Proof.Machine
end

section
/-! PROOFS. Error injection (R159). -/

namespace Sys2Proof.Machine

/-! ## Bits inverted at the serializer input -/

/-- From bit `k` on, `n` bits of lane `i` are inverted between `w` and `t` (R159). -/
def Inverted (i k n : Nat) (parallel : Bool) (w t : State) : Prop :=
  let u := w.sendTo i k
  let l := u.lane i
  t.out = .invert i n :: u.out.map (Emit.flipped i k n) ∧
  OneLane u t i (if parallel then l else { l with inj := l.inj + (n - (l.txBit - k)) })

section
variable (s : State) (i k : Nat)

theorem sendTo_regs : (s.sendTo i k).regs = s.regs :=
  eq_of_mask State.regs (State.sendTo_mask s i k { lanes := true, out := true } rfl rfl) fun _ => rfl

theorem sendTo_reg (o : Nat) : (s.sendTo i k).reg o = s.reg o := by rw [State.reg, sendTo_regs, State.reg]

/-- Bits are inverted, and counted (R159). -/
theorem invertAt_inverted {n : Nat} (hn : n ≠ 0) {t : State} (ht : s.invertAt i k n = t) :
    Inverted i k n (decide (s.fld (aLNE_CTRL i) 4 2 = 2)) s t ∧ Counted s t (aLNE_INJ_COUNT i) n ∧
      KeepsRegs [aLNE_INJ_COUNT i] s t := by
  have hctrl : ∀ x, ({ s.sendTo i k with out := x } : State).fld (aLNE_CTRL i) 4 2 = s.fld (aLNE_CTRL i) 4 2 := fun x =>
    fld_of_reg (s := s) (t := { s.sendTo i k with out := x }) (sendTo_reg s i k _) 4 2
  rw [State.invertAt, if_neg hn] at ht
  dsimp only at ht
  rw [hctrl] at ht
  subst ht
  by_cases hloop : s.fld (aLNE_CTRL i) 4 2 = 2
  · rw [if_pos hloop, Inverted, decide_eq_true hloop, if_pos rfl]
    refine ⟨⟨rfl, oneLane_of_lanes rfl⟩, ?_, fun o ho => ?_⟩
    · exact (bump_same ..).trans (congrArg (fun r => BitVec.ofNat 32 (min 0xFFFFFFFF (BitVec.toNat r + n))) (sendTo_reg s i k _))
    · exact (bump_keepsRegs _ _ n o ho).trans (sendTo_reg s i k o)
  · rw [if_neg hloop, Inverted, decide_eq_false hloop, if_neg Bool.false_ne_true]
    refine ⟨⟨rfl, (setLane_oneLane _ i _).congr rfl rfl⟩, ?_, fun o ho => ?_⟩
    · exact (bump_same ..).trans (congrArg (fun r => BitVec.ofNat 32 (min 0xFFFFFFFF (BitVec.toNat r + n))) (sendTo_reg s i k _))
    · exact (bump_keepsRegs _ _ n o ho).trans (sendTo_reg s i k o)

theorem invertAt_tim (n : Nat) : (s.invertAt i k n).tim = s.tim :=
  eq_of_mask State.tim (State.invertAt_mask s i k n { regs := true, lanes := true, out := true } rfl rfl rfl) fun _ => rfl
end

/-! ## A write of LNE_INJECT -/

/-- Every lane's LNE_INJECT has its MODE, BURST_LEN and RATE_EXP to write (R159). -/
theorem laneInject_rw : ∀ i < 784, i < 656 ∨ 768 ≤ i → (regRow (aLNE_INJECT i)).map (·.rw) = some 0x3FFF03 := by
  decide +kernel

/-- The bits that a write of LNE_INJECT inverts (R159). -/
def firedBits (v : Word) : Nat :=
  if bitOf v.toNat 2 = false then 0 else if bitsOf v.toNat 1 0 = 1 then 1
  else if bitsOf v.toNat 1 0 = 2 then bitsOf v.toNat 15 8 else 0

/-- LNE_INJECT written; rate mode counts its interval from the write that selects it (R159). -/
def State.injectSet (s : State) (i : Nat) (v : Word) : State :=
  let w := s.plainWrite (aLNE_INJECT i) v
  if s.fld (aLNE_INJECT i) 1 0 ≠ 3 ∧ bitsOf v.toNat 1 0 = 3 then w.setLane i { s.lane i with injAt := lineBit i s.tim.clk } else w

/-- A lane whose register may be written is on this part (R19). -/
theorem lane_of_mayWrite {s : State} {path : Path} {i : Nat} (hi : i < 784) (hmay : s.mayWrite path (aLNE_INJECT i) = true) :
    i < 656 ∨ 768 ≤ i := by
  have habsent : s.absent (aLNE_INJECT i) = !s.hasLane i := by
    have hlane : (aLNE_INJECT i - 0x100000) / 0x400 = i := by unfold aLNE_INJECT; omega
    rw [State.absent, hlane]
    unfold aLNE_INJECT
    rw [if_neg (by omega), if_neg (by omega), if_neg (by omega), if_pos (by omega)]
  simp only [State.mayWrite, habsent, Bool.and_eq_true, Bool.not_not] at hmay
  obtain ⟨-, hlane⟩ := hmay
  unfold State.hasLane at hlane
  cases hport : lanePort i with
  | some x => exact .inl (lanePort_lt hport).1
  | none =>
    rw [hport] at hlane
    simp only [Bool.and_eq_true, decide_eq_true_eq] at hlane
    exact .inr hlane.1

section
variable {s : State} {path : Path} {i : Nat} {v : Word} (hi : i < 784) (hmay : s.mayWrite path (aLNE_INJECT i) = true)
include hi hmay

theorem plainWrite_laneInject_fld {hi' lo : Nat} (hhi : hi' < 32) (hbits : ∀ j, lo ≤ j → j ≤ hi' → bitOf 0x3FFF03 j = true) :
    (s.plainWrite (aLNE_INJECT i) v).fld (aLNE_INJECT i) hi' lo = bitsOf v.toNat hi' lo :=
  plainWrite_low_fld s v (by unfold aLNE_INJECT; omega) (laneInject_rw i hi (lane_of_mayWrite hi hmay)) hhi hbits

/-- The fields of LNE_INJECT are those written. -/
theorem injectSet_fld {hi' lo : Nat} (hhi : hi' < 32) (hbits : ∀ j, lo ≤ j → j ≤ hi' → bitOf 0x3FFF03 j = true) :
    (s.injectSet i v).fld (aLNE_INJECT i) hi' lo = bitsOf v.toNat hi' lo := by
  rw [← plainWrite_laneInject_fld hi hmay hhi hbits]
  unfold State.injectSet
  dsimp only
  split <;> rfl

theorem injectSet_mode : (s.injectSet i v).fld (aLNE_INJECT i) 1 0 = bitsOf v.toNat 1 0 :=
  injectSet_fld hi hmay (by decide) fun j _ hj => (by decide : ∀ j ≤ 1, bitOf 0x3FFF03 j = true) j hj

theorem injectSet_burst : (s.injectSet i v).fld (aLNE_INJECT i) 15 8 = bitsOf v.toNat 15 8 :=
  injectSet_fld hi hmay (by decide) fun j hlo hj => (by decide : ∀ j ≤ 15, 8 ≤ j → bitOf 0x3FFF03 j = true) j hj hlo

theorem exec_lneInjectFire : exec (.lneInjectFire path i v) s =
    .next ((s.injectSet i v).invertAt i (lineBit i s.tim.clk) (firedBits v)) := by
  have hwrite : Only { regs := true } s (s.plainWrite (aLNE_INJECT i) v) := State.plainWrite_mask s _ v _ rfl
  have htim : (s.plainWrite (aLNE_INJECT i) v).tim = s.tim := eq_of_mask State.tim hwrite fun _ => rfl
  have hlane : (s.plainWrite (aLNE_INJECT i) v).lane i = s.lane i := lane_congr (eq_of_mask State.lanes hwrite fun _ => rfl) i
  have hmode : (s.plainWrite (aLNE_INJECT i) v).fld (aLNE_INJECT i) 1 0 = bitsOf v.toNat 1 0 :=
    plainWrite_laneInject_fld hi hmay (by decide) fun j _ hj => (by decide : ∀ j ≤ 1, bitOf 0x3FFF03 j = true) j hj
  have hset : exec (.lneInjectFire path i v) s = .next (
      if bitOf v.toNat 2 then (s.injectSet i v).invertAt i (lineBit i s.tim.clk) ((s.injectSet i v).fireBits i)
      else s.injectSet i v) := by
    refine (congrArg Host.Outcome.next (if_pos (by simp [hmay, hi]))).trans ?_
    rw [State.lneInject]
    dsimp only
    rw [htim, hlane, hmode]
    rfl
  rw [hset, State.fireBits, injectSet_mode hi hmay, injectSet_burst hi hmay, firedBits]
  cases bitOf v.toNat 2 <;> rfl

/-- The bits of a write that fires (R159). -/
theorem lneInjectFire_fires (hbits : firedBits v ≠ 0) : Answers (.lneInjectFire path i v) s fun t =>
    t.fld (aLNE_INJECT i) 1 0 = bitsOf v.toNat 1 0 ∧ t.fld (aLNE_INJECT i) 15 8 = bitsOf v.toNat 15 8 ∧
    Counted s t (aLNE_INJ_COUNT i) (firedBits v) ∧
    Inverted i (lineBit i s.tim.clk) (firedBits v) (decide (s.fld (aLNE_CTRL i) 4 2 = 2)) (s.injectSet i v) t ∧
    Only { regs := true, lanes := true, out := true } s t ∧ KeepsRegs [aLNE_INJECT i, aLNE_INJ_COUNT i] s t := by
  obtain ⟨u, hu⟩ : ∃ u, s.injectSet i v = u := ⟨_, rfl⟩
  have hexec := exec_lneInjectFire (v := v) hi hmay
  have hmode := injectSet_mode (v := v) hi hmay
  have hburst := injectSet_burst (v := v) hi hmay
  have hset : KeepsRegs [aLNE_INJECT i] s u := by
    have hwrite := plainWrite_low_keepsRegs s v (o := aLNE_INJECT i) (by unfold aLNE_INJECT; omega)
    rw [← hu, State.injectSet]
    dsimp only
    split
    · exact hwrite
    · exact hwrite
  rw [hu] at hexec hmode hburst ⊢
  obtain ⟨hinv, hcounted, hkept⟩ := invertAt_inverted u i (lineBit i s.tim.clk) hbits rfl
  have hctrl : u.fld (aLNE_CTRL i) 4 2 = s.fld (aLNE_CTRL i) 4 2 :=
    fld_of_reg (hset _ (by simp [aLNE_CTRL, aLNE_INJECT])) 4 2
  have hcount : u.reg (aLNE_INJ_COUNT i) = s.reg (aLNE_INJ_COUNT i) := hset _ (by simp [aLNE_INJ_COUNT, aLNE_INJECT])
  have hinject : ((u.invertAt i (lineBit i s.tim.clk) (firedBits v)).reg (aLNE_INJECT i)) = u.reg (aLNE_INJECT i) :=
    hkept _ (by simp [aLNE_INJ_COUNT, aLNE_INJECT])
  rw [hctrl] at hinv
  rw [Counted, hcount] at hcounted
  refine ⟨_, hexec, (fld_of_reg hinject 1 0).trans hmode, (fld_of_reg hinject 15 8).trans hburst, hcounted, hinv,
    execLneInjectFire_mask path i v s _ rfl rfl rfl _ hexec, ?_⟩
  exact (hset.mono (by simp)).trans (hkept.mono (by simp))
end

/-! ## Rate mode -/

/-- Rate mode inverts one bit when its interval is over (R159). -/
theorem injectRateExpire_inverts {s : State} {i : Nat} (hlane : s.hasLane i = true) (hmode : s.fld (aLNE_INJECT i) 1 0 = 3)
    {due : Nat} (hdue : (s.lane i).injAt + 2 ^ max 4 (min 40 (s.fld (aLNE_INJECT i) 21 16)) = due) {u : State}
    (hu : (s.advTo (s.tim.now + (bitTime i due - s.tim.clk))).setLane i { s.lane i with injAt := due } = u) :
    Answers (.injectRateExpire i) s fun t =>
      Counted s t (aLNE_INJ_COUNT i) 1 ∧ Inverted i due 1 (decide (s.fld (aLNE_CTRL i) 4 2 = 2)) u t ∧ t.tim = u.tim ∧
      Only { regs := true, tim := true, lanes := true, out := true } s t ∧ KeepsRegs [aLNE_INJ_COUNT i] s t := by
  have hlanes : ∀ T, (s.advTo T).lane i = s.lane i := fun T => lane_congr (eq_of_mask State.lanes (advTo_only s T) fun _ => rfl) i
  have hexec : exec (.injectRateExpire i) s = .next (u.invertAt i due 1) := by
    have hset : exec (.injectRateExpire i) s = .next (
        let due := (s.lane i).injAt + s.rateBits i
        let w := s.advTo (s.tim.now + (bitTime i due - s.tim.clk))
        (w.setLane i { w.lane i with injAt := due }).invertAt i due 1) :=
      congrArg Host.Outcome.next (if_pos (by simp [hlane, hmode]))
    rw [hset, ← hu, State.rateBits, hdue]
    dsimp only
    rw [hlanes]
  have hreg : ∀ o, u.reg o = s.reg o := fun o => hu ▸ advTo_reg s _ o
  obtain ⟨hinv, hcounted, hkept⟩ := invertAt_inverted u i due (n := 1) (by decide) rfl
  rw [fld_of_reg (hreg _)] at hinv
  rw [Counted, hreg] at hcounted
  exact ⟨_, hexec, hcounted, hinv, invertAt_tim .., execInjectRateExpire_mask i s _ rfl rfl rfl rfl _ hexec,
    fun o ho => (hkept o ho).trans (hreg o)⟩

end Sys2Proof.Machine
end

section
/-! PROOFS. The pattern checkers (R157, R158, R160). -/

namespace Sys2Proof.Machine

/-! ## One bit -/

section
variable (mode user : Nat) (l : Lane) (b : Bool)

/-- A locked checker counts the bit, and loses its lock with more than 64 errors among the last 1,024 bits (R158). -/
theorem check_locked (h : l.chkLock = true) :
    let e := patNext mode l.hist != b
    let many := decide (64 < (((e :: l.win).take 1024).filter id).length)
    (l.check mode user b).2 = (1, b2n e, b2n many) ∧ (l.check mode user b).1.chkLock = !many := by
  intro e many
  have hcheck : l.check mode user b = if many = true
      then ({ l with chkLock := false, hist := [], run := 0, win := [] }, 1, b2n e, 1)
      else ({ l with hist := (patNext mode l.hist :: l.hist).take 64, win := (e :: l.win).take 1024 }, 1, b2n e, 0) := by
    rw [Lane.check, if_pos h]
    simp only [many, decide_eq_true_eq]
    rfl
  rw [hcheck]
  cases hmany : many
  · exact ⟨rfl, h⟩
  · exact ⟨rfl, rfl⟩

/-- A checker that searches counts nothing, and locks with the 64th error-free bit in a row (R158). -/
theorem check_searching (h : l.chkLock = false) : (l.check mode user b).2 = (0, 0, 0) ∧ ((l.check mode user b).1.chkLock = true ↔
    patLen mode ≤ l.hist.length ∧ seedOk mode user l.hist = true ∧ (patNext mode l.hist != b) = false ∧ 63 ≤ l.run) := by
  obtain ⟨fits, hfits⟩ : ∃ f, (decide (patLen mode ≤ l.hist.length) && seedOk mode user l.hist && patNext mode l.hist == b) = f :=
    ⟨_, rfl⟩
  have hcheck : l.check mode user b = if 64 ≤ (if fits then l.run + 1 else 0)
      then ({ l with hist := (b :: l.hist).take 64, chkLock := true, run := 0, win := [] }, 0, 0, 0)
      else ({ l with hist := (b :: l.hist).take 64, run := if fits then l.run + 1 else 0 }, 0, 0, 0) := by
    rw [Lane.check, if_neg (by simp [h]), hfits]
  have hiff : (patLen mode ≤ l.hist.length ∧ seedOk mode user l.hist = true ∧ (patNext mode l.hist != b) = false ∧ 63 ≤ l.run) ↔
      fits = true ∧ 63 ≤ l.run := by
    rw [← hfits]
    simp only [Bool.and_eq_true, decide_eq_true_eq, bne, Bool.not_eq_false', and_assoc]
  rw [hcheck, hiff]
  cases fits
  · simp [h]
  · by_cases hrun : 63 ≤ l.run
    · simp [hrun]
    · simp [hrun, h]
end

/-! ## A run of bits -/

/-- A 48-bit counter pair, saturating (R158). -/
theorem bump48_value (s : State) (o n : Nat) {x : Nat}
    (hx : min 0xFFFFFFFFFFFF ((s.reg o).toNat + (s.reg (o + 4)).toNat * 2 ^ 32 + n) = x) :
    ((s.bump48 o n).reg o).toNat = x % 2 ^ 32 ∧ ((s.bump48 o n).reg (o + 4)).toNat = x / 2 ^ 32 := by
  unfold State.bump48
  dsimp only
  rw [reg_setReg_ne _ _ (by omega), reg_setReg, reg_setReg, BitVec.toNat_ofNat, BitVec.toNat_ofNat, hx]
  omega

theorem bump48_keepsRegs (s : State) (o n : Nat) : KeepsRegs [o, o + 4] s (s.bump48 o n) := by
  intro o' ho
  simp only [List.mem_cons, List.not_mem_nil, or_false, not_or] at ho
  unfold State.bump48
  dsimp only
  rw [reg_setReg_ne _ _ ho.2, reg_setReg_ne _ _ ho.1]

section
variable (s : State) (i : Nat) (bs : List Bool)

/-- What the checker receives is its lane's: no register changes, and no other lane. -/
theorem rxBits_regs : (s.rxBits i bs).2.regs = s.regs :=
  eq_of_mask State.regs (State.rxBits_mask s i bs { lanes := true, free := true } rfl rfl) fun _ => rfl

theorem rxBits_oneLane : OneLane s (s.rxBits i bs).2 i ((s.rxBits i bs).2.lane i) := by
  have hown : ∀ n, (s.ownBits i n).2.lanes = s.lanes := fun n => by
    unfold State.ownBits
    split <;> rfl
  have hloop : OneLane s (s.loopBits i bs.length).2 i ((s.loopBits i bs.length).2.lane i) := by
    refine ⟨rfl, fun j hj => ?_⟩
    unfold State.loopBits
    dsimp only
    rw [lane_setLane_ne _ _ hj]
    split
    · exact lane_congr (hown _) j
    · exact lane_setLane_ne s _ hj
  unfold State.rxBits
  dsimp only
  split
  · exact hloop
  · exact oneLane_of_lanes rfl

/-- Outside the near-end loopbacks it receives what its lane does (R160). -/
theorem rxBits_of_wire (h : s.nearLoop i = false) :
    s.rxBits i bs = (bs.map (· != (s.bit (aLNE_CTRL i) 0 != s.bit (aLNE_PATCHK i) 3)), s) := by
  rw [State.rxBits, h]
  rfl

theorem retime_regs : (s.retime i bs).regs = s.regs :=
  eq_of_mask State.regs (State.retime_mask s i bs { lanes := true, out := true } rfl rfl) fun _ => rfl

/-- Without a far-end loopback nothing is sent on (R160). -/
theorem retime_of_mode (h : s.fld (aLNE_CTRL i) 4 2 ≠ 3) : s.retime i bs = s := if_neg h

theorem retime_oneLane : OneLane s (s.retime i bs) i ((s.retime i bs).lane i) := by
  unfold State.retime
  split
  · exact ⟨rfl, fun j hj => lane_setLane_ne s _ hj⟩
  · exact oneLane_of_lanes rfl

/-- What a far-end loopback sends on where nothing is injected: the bits received, with both polarities (R160). -/
theorem retime_sends (hmode : s.fld (aLNE_CTRL i) 4 2 = 3) (hinj : (s.lane i).inj = 0) :
    OneLane s (s.retime i bs) i (s.lane i) ∧
      (s.retime i bs).out = .retimed i (bs.map (· != (s.bit (aLNE_CTRL i) 0 != s.bit (aLNE_CTRL i) 1))) :: s.out := by
  have hlane : { s.lane i with inj := (s.lane i).inj - bs.length } = s.lane i := by
    rw [hinj, Nat.zero_sub, ← hinj]
  have hbits : ∀ flip, (bs.zip (List.range bs.length)).map (fun x => x.1 != (flip != decide (x.2 < (s.lane i).inj))) =
      bs.map (· != flip) := fun flip => by
    have hfst : (bs.zip (List.range bs.length)).map Prod.fst = bs := List.map_fst_zip (by simp)
    conv_rhs => rw [← hfst, List.map_map]
    simp [hinj, Function.comp_def]
  rw [State.retime, if_pos hmode]
  dsimp only
  rw [hbits, hlane]
  exact ⟨(setLane_oneLane s i _).congr rfl rfl, rfl⟩

/-- The checker's lane, its two counters and its event after a run of bits (R158). -/
theorem checkBits_effect {mode user : Nat} (hmode : s.fld (aLNE_PATCHK i) 2 0 = mode) (huser : s.userPat i = user) :
    let t := s.checkBits i bs
    let r := s.rxBits i bs
    let q := (r.2.lane i).checkAll mode user r.1
    let sum := fun (o n : Nat) => min 0xFFFFFFFFFFFF ((s.reg o).toNat + (s.reg (o + 4)).toNat * 2 ^ 32 + n)
    let holds := fun (o x : Nat) => (t.reg o).toNat = x % 2 ^ 32 ∧ (t.reg (o + 4)).toNat = x / 2 ^ 32
    OneLane s t i q.1 ∧ holds (aLNE_CHK_BITS_LO i) (sum (aLNE_CHK_BITS_LO i) q.2.1) ∧
      holds (aLNE_CHK_ERR_LO i) (sum (aLNE_CHK_ERR_LO i) q.2.2.1) ∧ (q.2.2.2 ≠ 0 → t.bit (aLNE_EVENT i) 3 = true) := by
  intro t r q sum holds
  have hreg : ∀ o, r.2.reg o = s.reg o := fun o => by rw [State.reg, rxBits_regs, State.reg]
  obtain ⟨u, hu⟩ : ∃ u, (r.2.setLane i q.1).bump48 (aLNE_CHK_BITS_LO i) q.2.1 = u := ⟨_, rfl⟩
  obtain ⟨w, hw⟩ : ∃ w, u.bump48 (aLNE_CHK_ERR_LO i) q.2.2.1 = w := ⟨_, rfl⟩
  have ht : t = if q.2.2.2 = 0 then w else w.lneEvt i 3 := by
    have hmode' : r.2.fld (aLNE_PATCHK i) 2 0 = mode := (fld_of_reg (hreg _) 2 0).trans hmode
    have huser' : r.2.userPat i = user := by rw [← huser, State.userPat, hreg, hreg, State.userPat]
    rw [← hw, ← hu]
    simp only [t, q, State.checkBits, ← hmode', ← huser']
    rfl
  have hlanes : OneLane s w i q.1 := by
    refine ((rxBits_oneLane s i bs).trans (setLane_oneLane r.2 i q.1)).congr rfl ?_
    rw [← hw, ← hu]
    rfl
  have hevt : ∀ o, 0x100000 ≤ o → (o < 0x100080 + 0x400 * i ∨ 0x100080 + 0x400 * i + 8 < o) → (w.lneEvt i 3).reg o = w.reg o :=
    fun o hlo ho => evt_reg w 8 (aLNE_EVENT i) 3 (by decide)
      (by simp [evtRegs, aLNE_EVENT]; omega) (by simp [evtRegs, aHIF_FN_EVENT, fnPage]; omega)
  have hcounter : ∀ o, 0x100030 + 0x400 * i ≤ o → o ≤ 0x10003C + 0x400 * i → t.reg o = w.reg o := fun o hlo hhi => by
    rw [ht]
    split
    · rfl
    · exact hevt o (by omega) (by omega)
  have hfirst : ∀ o, o ≠ aLNE_CHK_ERR_LO i → o ≠ aLNE_CHK_ERR_LO i + 4 → w.reg o = u.reg o := fun o h h4 =>
    hw ▸ bump48_keepsRegs u _ _ o (by simp [h, h4])
  have hbits := bump48_value (r.2.setLane i q.1) (aLNE_CHK_BITS_LO i) q.2.1 rfl
  have herrs := bump48_value u (aLNE_CHK_ERR_LO i) q.2.2.1 rfl
  have hbefore : ∀ o, (r.2.setLane i q.1).reg o = s.reg o := hreg
  have hsecond : ∀ o, o = aLNE_CHK_ERR_LO i ∨ o = aLNE_CHK_ERR_LO i + 4 → u.reg o = s.reg o := fun o ho => by
    rw [← hbefore o, ← hu]
    refine bump48_keepsRegs _ _ _ o ?_
    simp only [List.mem_cons, List.not_mem_nil, or_false, aLNE_CHK_ERR_LO, aLNE_CHK_BITS_LO] at ho ⊢
    omega
  rw [hu, hbefore, hbefore] at hbits
  rw [hw, hsecond _ (.inl rfl), hsecond _ (.inr rfl)] at herrs
  refine ⟨?_, ?_, ?_, fun hlost => ?_⟩
  · rw [ht]
    split
    · exact hlanes
    · exact hlanes.congr rfl (evt_lanes ..)
  · have hlo : aLNE_CHK_BITS_LO i = 0x100030 + 0x400 * i := rfl
    have hlo' : aLNE_CHK_ERR_LO i = 0x100038 + 0x400 * i := rfl
    exact ⟨by rw [hcounter _ (by omega) (by omega), hfirst _ (by omega) (by omega), hbits.1],
      by rw [hcounter _ (by omega) (by omega), hfirst _ (by omega) (by omega), hbits.2]⟩
  · have hlo : aLNE_CHK_ERR_LO i = 0x100038 + 0x400 * i := rfl
    exact ⟨by rw [hcounter _ (by omega) (by omega), herrs.1], by rw [hcounter _ (by omega) (by omega), herrs.2]⟩
  · rw [ht, if_neg hlost, State.lneEvt, evt_bit w 8 _ (by decide)]
    · simp
    · simp [evtRegs, aLNE_EVENT, aHIF_FN_EVENT, fnPage]
      omega
end

end Sys2Proof.Machine
end

section
/-! PROOFS. How an STC lane goes down, and comes up (R79, R130, R156, R685). -/

namespace Sys2Proof.Machine

/-! ## What closes with the lane -/

/-- Nothing that waits, and no session, is left of a relay on the lane (R685). -/
theorem relayClose_closed (s : State) (n : Nat) : (∀ f ∈ (s.relayClose n).mgt.relayOut, f.1 ≠ n) ∧
    ∀ r, (s.relayClose n).mgt.relay = some r → r.1 ≠ n := by
  have hfilter : ∀ f ∈ s.mgt.relayOut.filter fun x => x.1 != n, f.1 ≠ n := fun f hf => by
    simpa using (List.mem_filter.mp hf).2
  unfold State.relayClose State.relayEnd
  dsimp only
  split
  next l here hrelay =>
    split
    · exact ⟨hfilter, nofun⟩
    next hne =>
      refine ⟨hfilter, fun r hr => ?_⟩
      obtain rfl := Option.some.inj (hrelay.symm.trans hr)
      exact hne
  next hrelay => exact ⟨hfilter, fun r hr => absurd (hrelay.symm.trans hr) nofun⟩

theorem relayClose_only (s : State) (n : Nat) : Only { mgt := true } s (s.relayClose n) := State.relayClose_mask s n _ rfl

/-- A source whose lane or port went down must be heard again (R79). -/
theorem setSrcUp_false_src (s : State) (i : Nat) :
    (s.setSrcUp i false).src i = { s.src i with up := false, heard := false, missed := 0, okAt := false } ∧
      ∀ j, j ≠ i → (s.setSrcUp i false).src j = s.src j := by
  have hsrc : (s.setSrcUp i false).tim.srcs =
      (s.setSrc i { s.src i with up := false, heard := false, missed := 0, okAt := false }).tim.srcs := by
    unfold State.setSrcUp
    dsimp only
    simp only [Bool.false_eq_true, if_false]
    split
    · split <;> rfl
    · rfl
  exact ⟨(src_congr hsrc i).trans (src_setSrc ..), fun j hj => (src_congr hsrc j).trans (src_setSrc_ne _ _ hj)⟩

/-! ## An STC lane goes down -/

section
variable (s : State) (n : Nat)

/-- The lane is down, with its event and its count, and its source must be heard again (R79, R156). -/
def State.stcDropped : State :=
  (((s.setLane (stcIdx n) { s.lane (stcIdx n) with up := false, sym := false, acq := false }).lneEvt (stcIdx n) 1).bump
    (aLNE_STC_LOSS n) 1).setSrcUp n false

theorem stcDown_eq (cause : Nat) : s.stcDown n cause =
    ((if (s.stcDropped n).bit aLOG_CTRL 0 then (s.stcDropped n).offer 0x06 2 dieH 0x80 n cause 0 0
      else s.stcDropped n).relayClose n).noSource := rfl

theorem stcDropped_lanes : OneLane s (s.stcDropped n) (stcIdx n)
    { s.lane (stcIdx n) with up := false, sym := false, acq := false } := by
  refine (setLane_oneLane s (stcIdx n) _).congr rfl ?_
  exact (eq_of_mask State.lanes (State.setSrcUp_mask _ _ _ { tim := true } rfl) fun _ => rfl).trans (evt_lanes ..)

theorem stcDropped_tim : ∃ srcs facq, (s.stcDropped n).tim = { s.tim with srcs := srcs, facq := facq } := by
  obtain ⟨srcs, facq, h⟩ := setSrcUp_tim (((s.setLane (stcIdx n)
    { s.lane (stcIdx n) with up := false, sym := false, acq := false }).lneEvt (stcIdx n) 1).bump (aLNE_STC_LOSS n) 1) n false
  exact ⟨srcs, facq, h.trans (by rw [State.bump, setReg_tim, State.lneEvt, evt_tim, setLane_tim])⟩

theorem stcDropped_log : (s.stcDropped n).log = s.log :=
  (eq_of_mask State.log (State.setSrcUp_mask _ _ _ { tim := true } rfl) fun _ => rfl).trans (evt_log ..)

theorem stcDropped_src : (s.stcDropped n).src n = { s.src n with up := false, heard := false, missed := 0, okAt := false } ∧
    ∀ j, j ≠ n → (s.stcDropped n).src j = s.src j := by
  obtain ⟨hsame, hother⟩ := setSrcUp_false_src (((s.setLane (stcIdx n)
    { s.lane (stcIdx n) with up := false, sym := false, acq := false }).lneEvt (stcIdx n) 1).bump (aLNE_STC_LOSS n) 1) n
  have hsrcs : ∀ j, ((((s.setLane (stcIdx n)
      { s.lane (stcIdx n) with up := false, sym := false, acq := false }).lneEvt (stcIdx n) 1).bump (aLNE_STC_LOSS n) 1).src j) =
      s.src j := fun j => src_congr (by rw [State.bump, setReg_tim, State.lneEvt, evt_tim, setLane_tim]) j
  refine ⟨?_, fun j hj => (hother j hj).trans (hsrcs j)⟩
  rw [State.stcDropped, hsame, hsrcs]

variable (hn : n < 16)
include hn

theorem stcDropped_regs : (s.stcDropped n).bit (aLNE_EVENT (stcIdx n)) 1 = true ∧
    Counted s (s.stcDropped n) (aLNE_STC_LOSS n) 1 ∧
    KeepsRegs (aLNE_STC_LOSS n :: blockRegs (aLNE_EVENT (stcIdx n))) s (s.stcDropped n) := by
  obtain ⟨v, hv⟩ : ∃ v, (s.setLane (stcIdx n) { s.lane (stcIdx n) with up := false, sym := false, acq := false }).lneEvt
    (stcIdx n) 1 = v := ⟨_, rfl⟩
  have hevent : v.bit (aLNE_EVENT (stcIdx n)) 1 = true := by
    rw [← hv, State.lneEvt, evt_bit _ 8 _ (by decide)]
    · simp
    · simp [evtRegs, aLNE_EVENT, aHIF_FN_EVENT, fnPage]
      omega
  have hkept : KeepsRegs (blockRegs (aLNE_EVENT (stcIdx n))) s v := hv ▸ evt_keepsRegs _ 8 _ (bit := 1) (by decide)
  have hfar : aLNE_STC_LOSS n ∉ blockRegs (aLNE_EVENT (stcIdx n)) := by
    simp [blockRegs, evtRegs, aLNE_EVENT, aHIF_FN_EVENT, fnPage, aLNE_STC_LOSS, stcIdx]
    omega
  have hne : aLNE_EVENT (stcIdx n) ≠ aLNE_STC_LOSS n := by
    unfold aLNE_EVENT aLNE_STC_LOSS stcIdx
    omega
  have hreg : ∀ o, (s.stcDropped n).reg o = (v.bump (aLNE_STC_LOSS n) 1).reg o := fun o => by
    rw [State.reg, State.stcDropped, hv, setSrcUp_regs, State.reg]
  refine ⟨?_, ?_, fun o ho => ?_⟩
  · rw [bit_of_reg (hreg _), bit_of_reg (bump_reg _ _ _ hne), hevent]
  · rw [Counted, hreg, bump_same, hkept _ hfar]
  · rw [hreg]
    exact ((hkept.mono (List.subset_cons_self _ _)).trans ((bump_keepsRegs v _ 1).mono (by simp))) o ho

/-- What an STC lane's going down with cause `cause` does, where link losses are logged or are not (R79, R130, R156, R685). -/
def StcGone (u t : State) (n cause : Nat) (logOn : Bool) : Prop :=
  OneLane u t (stcIdx n) { u.lane (stcIdx n) with up := false, sym := false, acq := false } ∧
  t.bit (aLNE_EVENT (stcIdx n)) 1 = true ∧ Counted u t (aLNE_STC_LOSS n) 1 ∧
  t.src n = { u.src n with up := false, heard := false, missed := 0, okAt := false } ∧
  (∀ j, j ≠ n → t.src j = u.src j) ∧
  (t.tim.state = u.tim.state ∨ (u.tim.state = 2 ∧ t.tim.state = 1 ∧ t.bit aTIM_EVENT 1 = true)) ∧
  (∀ f ∈ t.mgt.relayOut, f.1 ≠ n) ∧ (∀ r, t.mgt.relay = some r → r.1 ≠ n) ∧
  (logOn = true → t.tim.state = u.tim.state → Logged u t ⟨u.edgeNs, 0, 0x06, 2, dieH, 0x80, n, cause, 0, 0⟩) ∧
  Only { regs := true, tim := true, hif := true, log := true, lanes := true, mgt := true, out := true } u t ∧
  KeepsRegs (aLNE_STC_LOSS n :: blockRegs (aLNE_EVENT (stcIdx n)) ++ blockRegs aTIM_EVENT ++ logRegs) u t

theorem stcDown_stcGone {cause : Nat} (hcause : cause < 2 ^ 32) : StcGone s (s.stcDown n cause) n cause (s.bit aLOG_CTRL 0) := by
  obtain ⟨hevent, hcounted, hkept⟩ := stcDropped_regs s n hn
  obtain ⟨srcs, facq, htim⟩ := stcDropped_tim s n
  obtain ⟨hsrc, hsrcs⟩ := stcDropped_src s n
  obtain ⟨v, hv⟩ : ∃ v, (if (s.stcDropped n).bit aLOG_CTRL 0 then (s.stcDropped n).offer 0x06 2 dieH 0x80 n cause 0 0
      else s.stcDropped n) = v := ⟨_, rfl⟩
  obtain ⟨w, hw⟩ : ∃ w, v.relayClose n = w := ⟨_, rfl⟩
  have ht : s.stcDown n cause = w.noSource := by rw [stcDown_eq, hv, hw]
  have hlogged : v.tim = (s.stcDropped n).tim ∧ v.lanes = (s.stcDropped n).lanes ∧ KeepsRegs logRegs (s.stcDropped n) v := by
    rw [← hv]
    split
    · exact ⟨offer_tim .., eq_of_mask State.lanes (State.offer_mask (s.stcDropped n) 0x06 2 dieH 0x80 n cause 0 0
        { regs := true, hif := true, log := true, out := true } rfl rfl rfl rfl) fun _ => rfl,
        offer_keepsRegs _ _ _ _ _ _ _ _ _⟩
    · exact ⟨rfl, rfl, .refl _ _⟩
  obtain ⟨hvtim, hvlanes, hvkept⟩ := hlogged
  have hclosed : Only { mgt := true } v w := hw ▸ relayClose_only v n
  have hwtim : w.tim = { s.tim with srcs := srcs, facq := facq } :=
    (eq_of_mask State.tim hclosed fun _ => rfl).trans (hvtim.trans htim)
  have hwregs : w.regs = v.regs := eq_of_mask State.regs hclosed fun _ => rfl
  have hsteered := noSource_steered w
  have hmgt : w.noSource.mgt = w.mgt := eq_of_mask State.mgt (State.noSource_mask w
    { regs := true, tim := true, hif := true, log := true, out := true } rfl rfl rfl rfl rfl) fun _ => rfl
  have hlanes : w.noSource.lanes = (s.stcDropped n).lanes := (eq_of_mask State.lanes (State.noSource_mask w
    { regs := true, tim := true, hif := true, log := true, out := true } rfl rfl rfl rfl rfl) fun _ => rfl).trans
    ((eq_of_mask State.lanes hclosed fun _ => rfl).trans hvlanes)
  have hreg : KeepsRegs timeRegs (s.stcDropped n) w.noSource := by
    refine ((hvkept.mono (List.subset_append_right _ _)).trans fun o _ => ?_).trans hsteered.regs
    rw [State.reg, hwregs, State.reg]
  have hfar : ∀ o, 0x70000 ≤ o → w.noSource.reg o = (s.stcDropped n).reg o := fun o ho =>
    hreg o (not_mem_of_timeRegs (List.Subset.refl _) ho)
  have hstcSrcs : w.noSource.tim.srcs = (s.stcDropped n).tim.srcs := by
    rw [htim]
    unfold State.noSource
    split
    · rw [toHoldover_tim]
      exact (show (w.holdoverTim _).srcs = w.tim.srcs from rfl).trans (congrArg Tim.srcs hwtim)
    · rw [hwtim]
  have hclose := relayClose_closed v n
  rw [hw, ← hmgt] at hclose
  have honly := State.stcDown_mask s n cause
    { regs := true, tim := true, hif := true, log := true, lanes := true, mgt := true, out := true } rfl rfl rfl rfl rfl rfl rfl
  rw [ht] at honly ⊢
  refine ⟨(stcDropped_lanes s n).congr rfl hlanes, ?_, ?_, (src_congr hstcSrcs n).trans hsrc,
    fun j hj => (src_congr hstcSrcs j).trans (hsrcs j hj), ?_, hclose.1, hclose.2, fun hon hstate => ?_, honly, fun o ho => ?_⟩
  · rw [bit_of_reg (hfar _ (by unfold aLNE_EVENT; omega)), hevent]
  · rw [Counted, hfar _ (by unfold aLNE_STC_LOSS; omega)]
    exact hcounted
  · obtain hsame | ⟨h2, h1, hbit⟩ := noSource_cases w
    · exact .inl (by rw [hsame, hwtim])
    · rw [hwtim] at h2
      exact .inr ⟨h2, h1, hbit⟩
  · obtain hsame | ⟨h2, h1, -⟩ := noSource_cases w
    · have hctrl : (s.stcDropped n).bit aLOG_CTRL 0 = true := by
        rw [bit_of_reg (hkept aLOG_CTRL ?_), hon]
        simp [blockRegs, evtRegs, aLNE_EVENT, aHIF_FN_EVENT, fnPage, aLNE_STC_LOSS, aLOG_CTRL]
        omega
      have hoffer := offer_logged (s.stcDropped n) 0x06 2 dieH 0x80 n cause 0 0
      rw [if_pos hctrl] at hv
      have hlog : w.log = v.log := eq_of_mask State.log hclosed fun _ => rfl
      rw [hsame]
      rw [hv] at hoffer
      simp only [Logged, stcDropped_log, htim, State.edgeNs, hlog] at hoffer ⊢
      have hsmall : n % 2 ^ 32 = n ∧ cause % 2 ^ 32 = cause := ⟨Nat.mod_eq_of_lt (by omega), Nat.mod_eq_of_lt hcause⟩
      rw [hsmall.1, hsmall.2] at hoffer
      exact hoffer
    · rw [hwtim] at h2
      rw [h1, h2] at hstate
      exact absurd hstate (by decide)
  · simp only [List.mem_append, not_or] at ho
    obtain ⟨⟨hown, htimEvt⟩, hlog⟩ := ho
    exact (hreg o (by simp [timeRegs, htimEvt, hlog])).trans (hkept o hown)

theorem stcDown_up {cause : Nat} (hcause : cause < 2 ^ 32) : ((s.stcDown n cause).lane (stcIdx n)).up = false := by
  obtain ⟨⟨hlane, -⟩, -⟩ := stcDown_stcGone s n hn hcause
  rw [hlane]
end

end Sys2Proof.Machine
end

section
/-! PROOFS. The proof of O43 (R157–R161). -/

namespace Sys2Proof.Machine

/-! ## Writes to the test registers -/

/-- A write of a test register of a lane of a port (R161). -/
theorem testModeWrite_portLane {s : State} {i : Nat} {path : Path} {off : Nat} {v : Word} {p l k : Nat}
    (hport : lanePort i = some (p, l)) (hsub : laneSub p l (s.portMode p) = some k) (ho : IsTestReg i off)
    (hmay : s.mayWrite path off = true) :
    let u := s.plainWrite off v
    (u.laneTest i = true → (s.sub p k).state ≠ 8 → Answers (.lneTestModeWrite path off v) s fun t =>
      OneSub s t p k { subInit with state := 8 } ∧ t.reg off = u.reg off ∧ (t.egr (8 * p + k)).sending = none ∧
      (t.egr (8 * p + k)).queues = (s.egr (8 * p + k)).queues.map (fun q => q.filter fun h => !h.eth.isEmpty) ∧
      Only { lossFields with subs := true, lanes := true } s t) ∧
    (u.laneTest i = true → (s.sub p k).state = 8 →
      exec (.lneTestModeWrite path off v) s = .next (s.testRegWritten i off v)) ∧
    (u.laneTest i = false → s.laneTest i = true → (s.sub p k).state = 8 → u.subTest p k = false →
      Answers (.lneTestModeWrite path off v) s fun t =>
        OneSub s t p k { subInit with
          state := if s.portOn p then 2 else 0, peer := if s.portOn p then (s.sub p k).peer else 0 } ∧
        t.regs = u.regs ∧ Only { regs := true, subs := true, lanes := true, out := true } s t) ∧
    (u.laneTest i = false → s.laneTest i = false ∨ (s.sub p k).state ≠ 8 ∨ u.subTest p k = true →
      exec (.lneTestModeWrite path off v) s = .next (s.testRegWritten i off v)) := by
  have hexec := exec_lneTestModeWrite ho (v := v) hmay
  have hsame := lneModeWrite_same ho hport hsub (v := v)
  exact ⟨fun htest hstate => ⟨_, hexec, lneModeWrite_entersTest ho hport hsub htest hstate rfl⟩,
    fun htest hstate => by rw [hexec, hsame (.inl ⟨htest, hstate⟩)],
    fun htest hwas hstate hlast => ⟨_, hexec, lneModeWrite_leavesTest ho hport hsub htest hwas hstate hlast rfl⟩,
    fun htest hother => by rw [hexec, hsame (.inr ⟨htest, hother⟩)]⟩

/-- An STC lane belongs to no port (R108). -/
theorem lanePort_stcIdx (n : Nat) : lanePort (stcIdx n) = none := by
  unfold lanePort stcIdx
  rw [if_neg (by omega), if_neg (by omega), if_neg (by omega)]

section
variable {s : State} {path : Path} {off n : Nat} {v : Word} (hn : n < 16) (ho : IsTestReg (stcIdx n) off)
  (hmay : s.mayWrite path off = true)
include hn ho hmay

/-- A write of a test register of an STC lane whose transmitter is enabled: a test takes the lane down (R156, R161). -/
theorem testModeWrite_stcOn (hon : (s.plainWrite off v).bit (aLNE_CTRL (stcIdx n)) 7 = true) :
    exec (.lneTestModeWrite path off v) s = .next
      (if (s.plainWrite off v).laneTest (stcIdx n) && (s.lane (stcIdx n)).up
        then (s.testRegWritten (stcIdx n) off v).stcDown n 2 else s.testRegWritten (stcIdx n) off v) := by
  have hi : stcIdx n < 784 := by unfold stcIdx; omega
  have hkept := testRegWritten_linkKept (s := s) (i := stcIdx n) (v := v) (testReg_low ho hi)
  have hctrl : (s.testRegWritten (stcIdx n) off v).bit (aLNE_CTRL (stcIdx n)) 7 = true :=
    (bit_of_reg (hkept.reg _ (linkSafe_of_test hi List.mem_cons_self)) 7).trans hon
  have hidx : stcIdx n - 768 = n := by unfold stcIdx; omega
  rw [exec_lneTestModeWrite ho hmay, lneModeWrite_eq]
  simp only [hctrl, Bool.not_true, Bool.and_false, Bool.false_and, Bool.false_eq_true, if_false, State.testChange, lanePort_stcIdx,
    hkept.laneTest hi, testRegWritten_up, hidx]

/-- An STC lane whose transmitter is off is down (R156). -/
theorem testModeWrite_stcOff (hoff : (s.plainWrite off v).bit (aLNE_CTRL (stcIdx n)) 7 = false) :
    exec (.lneTestModeWrite path off v) s = .next
      (if (s.lane (stcIdx n)).up then (s.testRegWritten (stcIdx n) off v).stcDown n 1 else s.testRegWritten (stcIdx n) off v) := by
  have hi : stcIdx n < 784 := by unfold stcIdx; omega
  have hkept := testRegWritten_linkKept (s := s) (i := stcIdx n) (v := v) (testReg_low ho hi)
  have hctrl : (s.testRegWritten (stcIdx n) off v).bit (aLNE_CTRL (stcIdx n)) 7 = false :=
    (bit_of_reg (hkept.reg _ (linkSafe_of_test hi List.mem_cons_self)) 7).trans hoff
  have hidx : stcIdx n - 768 = n := by unfold stcIdx; omega
  have hlong : decide (768 ≤ stcIdx n) = true := by simp [stcIdx]
  have hdown := stcDown_up (s.testRegWritten (stcIdx n) off v) n hn (cause := 1) (by decide)
  have hup := testRegWritten_up s (stcIdx n) off v
  rw [exec_lneTestModeWrite ho hmay, lneModeWrite_eq]
  simp only [hctrl, hlong, Bool.not_false, Bool.and_true, Bool.true_and, State.testChange, lanePort_stcIdx, hup, hidx]
  cases hwas : (s.lane (stcIdx n)).up <;> simp [hdown, hup, hwas]
end

/-! ## The checkers -/

section
variable {s : State} {i : Nat} (hlane : s.hasLane i = true)
include hlane

/-- A far-end loopback sends on what it receives (R160). -/
theorem checkerLock_retimes (hloop : s.fld (aLNE_CTRL i) 4 2 = 3) (hlock : (s.lane i).chkLock = false)
    (hmode : s.fld (aLNE_PATCHK i) 2 0 = 0) (hinj : (s.lane i).inj = 0) (bits : List Bool) :
    Answers (.checkerLock i bits) s fun t => OneLane s t i (s.lane i) ∧ Only { lanes := true, out := true } s t ∧
      t.out = .retimed i (bits.map (· != (s.bit (aLNE_CTRL i) 0 != s.bit (aLNE_CTRL i) 1))) :: s.out := by
  have hmode' : (s.retime i bits).fld (aLNE_PATCHK i) 2 0 = 0 :=
    (fld_of_reg (by rw [State.reg, retime_regs, State.reg]) 2 0).trans hmode
  have hexec : exec (.checkerLock i bits) s = .next (s.retime i bits) :=
    congrArg Host.Outcome.next ((if_pos (by simp [hlane, hlock])).trans (if_pos hmode'))
  obtain ⟨hsame, hout⟩ := retime_sends s i bits hloop hinj
  exact ⟨_, hexec, hsame, State.retime_mask s i bits _ rfl rfl, hout⟩

/-- The run of bits for which a searching or a locked checker is asked (R158). -/
theorem exec_checker {bits : List Bool} {com : Instr}
    (hcom : (com = .checkerLock i bits ∧ (s.lane i).chkLock = false) ∨
      (com = .checkerLockLost i bits ∧ (s.lane i).chkLock = true)) :
    exec com s = .next (if s.fld (aLNE_PATCHK i) 2 0 = 0 then (if (s.lane i).chkLock then s else s.retime i bits)
      else (s.retime i bits).checkBits i bits) := by
  have hmode : (s.retime i bits).fld (aLNE_PATCHK i) 2 0 = s.fld (aLNE_PATCHK i) 2 0 :=
    fld_of_reg (by rw [State.reg, retime_regs, State.reg]) 2 0
  obtain ⟨rfl, hlock⟩ | ⟨rfl, hlock⟩ := hcom
  · refine (congrArg Host.Outcome.next (if_pos (by simp [hlane, hlock]))).trans ?_
    rw [hlock, if_neg Bool.false_ne_true, ← hmode]
  · rw [hlock, if_pos rfl]
    by_cases hzero : s.fld (aLNE_PATCHK i) 2 0 = 0
    · rw [if_pos hzero]
      exact congrArg Host.Outcome.next (if_neg (by simp [hzero]))
    · rw [if_neg hzero]
      exact congrArg Host.Outcome.next (if_pos (by simp [hlane, hlock, hzero]))

/-- A checker that is on takes the bits (R158). -/
theorem checker_takes {bits : List Bool} {com : Instr}
    (hcom : (com = .checkerLock i bits ∧ (s.lane i).chkLock = false) ∨
      (com = .checkerLockLost i bits ∧ (s.lane i).chkLock = true)) (hmode : s.fld (aLNE_PATCHK i) 2 0 ≠ 0) :
    Answers com s fun t =>
      let r := (s.retime i bits).rxBits i bits
      let q := (r.2.lane i).checkAll (s.fld (aLNE_PATCHK i) 2 0) (s.userPat i) r.1
      let sum := fun (o n : Nat) => min 0xFFFFFFFFFFFF ((s.reg o).toNat + (s.reg (o + 4)).toNat * 2 ^ 32 + n)
      let holds := fun (o x : Nat) => (t.reg o).toNat = x % 2 ^ 32 ∧ (t.reg (o + 4)).toNat = x / 2 ^ 32
      (s.nearLoop i = false →
        r.1 = bits.map (· != (s.bit (aLNE_CTRL i) 0 != s.bit (aLNE_PATCHK i) 3)) ∧ r.2 = s.retime i bits) ∧
      OneLane s t i q.1 ∧ holds (aLNE_CHK_BITS_LO i) (sum (aLNE_CHK_BITS_LO i) q.2.1) ∧
      holds (aLNE_CHK_ERR_LO i) (sum (aLNE_CHK_ERR_LO i) q.2.2.1) ∧ (q.2.2.2 ≠ 0 → t.bit (aLNE_EVENT i) 3 = true) ∧
      Only { regs := true, hif := true, lanes := true, out := true, free := true } s t := by
  obtain ⟨w, hw⟩ : ∃ w, s.retime i bits = w := ⟨_, rfl⟩
  have hreg : ∀ o, w.reg o = s.reg o := fun o => by rw [← hw, State.reg, retime_regs, State.reg]
  have hexec := exec_checker hlane hcom
  rw [if_neg hmode, hw] at hexec
  have huser : w.userPat i = s.userPat i := by rw [State.userPat, hreg, hreg, State.userPat]
  have heffect := checkBits_effect w i bits (fld_of_reg (hreg _) 2 0) huser
  simp only [hreg] at heffect
  obtain ⟨hone, hbits, herrs, hlost⟩ := heffect
  have hwire : w.nearLoop i = s.nearLoop i := by rw [State.nearLoop, fld_of_reg (hreg _), State.nearLoop]
  refine ⟨_, hexec, fun hnear => ?_, ?_, ?_, ?_, ?_, ?_⟩
  · rw [hw, rxBits_of_wire w i bits (hwire.trans hnear), bit_of_reg (hreg _), bit_of_reg (hreg _)]
    exact ⟨rfl, rfl⟩
  · rw [hw]
    exact (hw ▸ retime_oneLane s i bits : OneLane s w i (w.lane i)).trans hone
  · rw [hw]
    exact hbits
  · rw [hw]
    exact herrs
  · rw [hw]
    exact hlost
  · rw [Only, State.checkBits_mask _ _ _ _ rfl rfl rfl rfl rfl, ← hw, State.retime_mask _ _ _ _ rfl rfl]
end

/-- CLEAR clears both counters of the checker (R158). -/
theorem lnePatchkClear_clears {s : State} {i : Nat} {path : Path} {v : Word} (hi : i < 784)
    (hmay : s.mayWrite path (aLNE_PATCHK i) = true) (hclear : bitOf v.toNat 4 = true) :
    Answers (.lnePatchkClear path i v) s fun t =>
      t.reg (aLNE_CHK_BITS_LO i) = 0 ∧ t.reg (aLNE_CHK_BITS_HI i) = 0 ∧ t.reg (aLNE_CHK_ERR_LO i) = 0 ∧
      t.reg (aLNE_CHK_ERR_HI i) = 0 ∧
      Only { regs := true, tim := true, hif := true, log := true, subs := true, lanes := true, lrep := true, streams := true,
             rte := true, mgt := true, out := true } s t := by
  have hexec : exec (.lnePatchkClear path i v) s = .next _ :=
    congrArg Host.Outcome.next ((if_pos (by simp [hmay, hi])).trans (if_pos hclear))
  have honly := execLnePatchkClear_mask path i v s
    { regs := true, tim := true, hif := true, log := true, subs := true, lanes := true, lrep := true, streams := true,
      rte := true, mgt := true, out := true } rfl rfl rfl rfl rfl rfl rfl rfl rfl rfl rfl _ hexec
  refine ⟨_, hexec, ?_, ?_, ?_, reg_setReg .., honly⟩
  · rw [reg_setReg_ne, reg_setReg_ne, reg_setReg_ne, reg_setReg] <;>
      simp [aLNE_CHK_BITS_LO, aLNE_CHK_BITS_HI, aLNE_CHK_ERR_LO, aLNE_CHK_ERR_HI]
  · rw [reg_setReg_ne, reg_setReg_ne, reg_setReg] <;> simp [aLNE_CHK_BITS_HI, aLNE_CHK_ERR_LO, aLNE_CHK_ERR_HI]
  · rw [reg_setReg_ne _ _ (by simp [aLNE_CHK_ERR_LO, aLNE_CHK_ERR_HI]), reg_setReg]

/-- Settles O43: a write of a test register is `lneModeWrite_eq`, an injection `invertAt_inverted`, and a checker takes a run of bits
as `checkBits_effect` says, each bit as `check_locked` and `check_searching` say. -/
theorem laneTests : Obligations.LaneTests := by
  unfold Obligations.LaneTests
  intro s i
  refine ⟨fun path off v p l k hport hsub ho hmay => testModeWrite_portLane hport hsub ho hmay, ?stcOn, ?stcOff,
    fun path v hi hmay => ⟨fun hbits => ?quiet, fun hbits => ?fires⟩,
    fun hlane => ⟨fun hmode => ?rate, fun hmode => congrArg Host.Outcome.next (if_neg (by simp [hmode])),
      fun hloop hlock hmode hinj bits => checkerLock_retimes hlane hloop hlock hmode hinj bits,
      fun bits com hcom => ⟨fun hloop => retime_of_mode s i bits hloop, fun hmode => ?idle, fun hmode =>
        checker_takes hlane hcom hmode⟩,
      fun hlock bits => congrArg Host.Outcome.next (if_neg (by simp [hlock])),
      fun hlock bits => congrArg Host.Outcome.next (if_neg (by simp [hlock]))⟩,
    fun mode user l b => ⟨check_locked mode user l b, check_searching mode user l b⟩,
    fun path v hi hmay hclear => lnePatchkClear_clears hi hmay hclear⟩
  case stcOn =>
    rintro path off v n hn rfl ho hmay u hon
    exact testModeWrite_stcOn hn ho hmay hon
  case stcOff =>
    rintro path off v n hn rfl ho hmay hoff
    exact testModeWrite_stcOff hn ho hmay hoff
  case quiet =>
    have hfired : firedBits v = 0 := hbits
    rw [exec_lneInjectFire hi hmay, hfired]
    rfl
  case fires =>
    obtain ⟨t, hexec, hmode, hburst, hcounted, hinverted, hrest⟩ := lneInjectFire_fires hi hmay hbits
    simp only [Inverted, decide_eq_true_eq] at hinverted
    exact ⟨t, hexec, hmode, hburst, hcounted, hinverted, hrest⟩
  case rate =>
    obtain ⟨t, hexec, hcounted, hinverted, hrest⟩ := injectRateExpire_inverts hlane hmode rfl rfl
    simp only [Inverted, decide_eq_true_eq] at hinverted
    exact ⟨t, hexec, hcounted, hinverted, hrest⟩
  case idle => rw [exec_checker hlane hcom, if_pos hmode]

end Sys2Proof.Machine
end

section
/-! PROOFS. What a transmitter of an STC lane sends is received without errors (R149, R150, R152). -/

namespace Sys2Proof.Machine

/-! ## The code -/

/-- Each byte's code at either running disparity stands for it there. -/
theorem decSym_encSym_byte : ∀ rd : Bool, ∀ b < 256, decSym rd (encSym rd ⟨false, b⟩) = some ⟨false, b⟩ := by
  decide +kernel

/-- Each special symbol's code at either running disparity stands for it there (R150). -/
theorem decSym_encSym_special : ∀ rd : Bool, ∀ k ∈ specialTable.map (·.1), decSym rd (encSym rd ⟨true, k⟩) = some ⟨true, k⟩ := by
  decide +kernel

/-- A symbol that the code has: a data byte, or one of the special symbols of R150. -/
def StcSym.Coded (x : StcSym) : Prop :=
  match x with
  | ⟨true, k⟩ => k ∈ specialTable.map (·.1)
  | ⟨false, b⟩ => b < 256

theorem decSym_encSym (rd : Bool) {x : StcSym} (hx : x.Coded) : decSym rd (encSym rd x) = some x := by
  match x, hx with
  | ⟨true, k⟩, hk => exact decSym_encSym_special rd k hk
  | ⟨false, b⟩, hb => exact decSym_encSym_byte rd b hb

/-- Symbols received at the running disparity they were sent at are good. -/
theorem decSyms_encSyms {xs : List StcSym} (hxs : ∀ x ∈ xs, x.Coded) (rd : Bool) :
    decSyms rd (encSyms rd xs) = xs.map .good := by
  induction xs generalizing rd with
  | nil => rfl
  | cons x xs ih =>
    obtain ⟨hx, hxs⟩ := List.forall_mem_cons.mp hxs
    rw [encSyms, decSyms, decSym_encSym rd hx, ih hxs, List.map_cons]

/-- A K27.7 tells the receiver the running disparity it was sent at. -/
theorem recvSyms_encSyms {xs : List StcSym} (hxs : ∀ x ∈ xs, x.Coded) (rd : Bool) :
    recvSyms (encSyms rd (⟨true, kStart⟩ :: xs)) = (⟨true, kStart⟩ :: xs).map .good := by
  have hstart : (decSym false (encSym rd ⟨true, kStart⟩)).isNone = rd := by
    cases rd <;> decide
  have hcoded : ∀ x ∈ (⟨true, kStart⟩ : StcSym) :: xs, x.Coded :=
    List.forall_mem_cons.mpr ⟨(by decide : kStart ∈ specialTable.map (·.1)), hxs⟩
  rw [← decSyms_encSyms hcoded rd, encSyms, recvSyms, hstart]

/-! ## Symbols without errors -/

theorem codeErrs_good (xs : List StcSym) : codeErrs (xs.map .good) = 0 := by
  simp [codeErrs, List.filter_map, Function.comp_def]

theorem dispErrs_good (xs : List StcSym) : dispErrs (xs.map .good) = 0 := by
  simp [dispErrs, List.filter_map, Function.comp_def]

theorem fourBad_good (xs : List StcSym) : fourBad 0 (xs.map .good) = false := by
  induction xs with
  | nil => rfl
  | cons x xs ih => simpa [fourBad, RxSym.bad] using ih

theorem ends_data (b : Byte) : (RxSym.good ⟨false, b.toNat⟩).ends = false := rfl

theorem symBytes_data (bs : List Byte) : symBytes ((dataSyms bs).map .good) = some bs := by
  induction bs with
  | nil => rfl
  | cons b bs ih =>
    have hcons : symBytes ((dataSyms (b :: bs)).map .good) =
        (symBytes ((dataSyms bs).map .good)).map (BitVec.ofNat 8 b.toNat :: ·) := rfl
    rw [hcons, ih, Option.map_some, BitVec.ofNat_toNat, BitVec.setWidth_eq]

/-- Data symbols end no frame (R152). -/
theorem dropWhile_data (bs : List Byte) (ys : List RxSym) :
    ((dataSyms bs).map RxSym.good ++ ys).dropWhile (fun x => !x.ends) = ys.dropWhile fun x => !x.ends := by
  refine List.dropWhile_append_of_pos fun x hx => ?_
  obtain ⟨y, hy, rfl⟩ := List.mem_map.mp hx
  obtain ⟨b, -, rfl⟩ := List.mem_map.mp hy
  rw [ends_data]
  rfl

theorem takeWhile_data (bs : List Byte) (ys : List RxSym) :
    ((dataSyms bs).map RxSym.good ++ ys).takeWhile (fun x => !x.ends) =
      (dataSyms bs).map .good ++ ys.takeWhile fun x => !x.ends := by
  refine List.takeWhile_append_of_pos fun x hx => ?_
  obtain ⟨y, hy, rfl⟩ := List.mem_map.mp hx
  obtain ⟨b, -, rfl⟩ := List.mem_map.mp hy
  rw [ends_data]
  rfl

/-! ## A frame -/

/-- A frame as its receiver has it, the K28.5 behind it too. -/
def rxFrame (bytes : List Byte) : List RxSym :=
  ((⟨true, kStart⟩ : StcSym) :: (dataSyms bytes ++ [⟨true, kEnd⟩, ⟨true, kComma⟩])).map .good

theorem rxFrame_eq (bytes : List Byte) : rxFrame bytes =
    .good ⟨true, kStart⟩ :: ((dataSyms bytes).map .good ++ [.good ⟨true, kEnd⟩, .good ⟨true, kComma⟩]) := by
  simp [rxFrame]

/-- A frame is received as it was sent, at either running disparity (R149). -/
theorem recvSyms_frame (rd : Bool) (bytes : List Byte) :
    recvSyms (encSyms rd (frameSeq bytes ++ [⟨true, kComma⟩])) = rxFrame bytes := by
  have hseq : frameSeq bytes ++ [⟨true, kComma⟩] = ⟨true, kStart⟩ :: (dataSyms bytes ++ [⟨true, kEnd⟩, ⟨true, kComma⟩]) := by
    simp [frameSeq]
  rw [hseq]
  refine recvSyms_encSyms (fun x hx => ?_) rd
  simp only [List.mem_append, List.mem_cons, List.not_mem_nil, or_false] at hx
  obtain hx | rfl | rfl := hx
  · obtain ⟨b, -, rfl⟩ := List.mem_map.mp hx
    exact b.isLt
  · exact (by decide : kEnd ∈ specialTable.map (·.1))
  · exact (by decide : kComma ∈ specialTable.map (·.1))

theorem dropWhile_rxFrame (bytes : List Byte) :
    (rxFrame bytes).dropWhile (fun x => !x.ends) = [.good ⟨true, kEnd⟩, .good ⟨true, kComma⟩] := by
  rw [rxFrame_eq, List.dropWhile_cons_of_pos (by decide), dropWhile_data]
  rfl

/-- Of such a frame its bytes are taken, where they are accepted (R152). -/
theorem frameBody_rxFrame (bytes : List Byte) : frameBody (rxFrame bytes) = if frameOk bytes then some bytes else none := by
  have htail : symBytes ((rxFrame bytes).tail.takeWhile fun x => !x.ends) = some bytes := by
    rw [rxFrame_eq, List.tail_cons, takeWhile_data]
    exact (congrArg symBytes (List.append_nil _)).trans (symBytes_data bytes)
  rw [frameBody, dropWhile_rxFrame, if_pos ⟨by rw [rxFrame_eq]; rfl, rfl⟩, htail]

theorem startsWith_rxFrame (bytes : List Byte) : startsWith kStart (rxFrame bytes) = some (rxFrame bytes) := by
  rw [rxFrame_eq, startsWith, if_pos (by decide)]

theorem aborted_rxFrame (bytes : List Byte) : aborted (rxFrame bytes) = false := by
  rw [aborted, dropWhile_rxFrame]
  rfl

end Sys2Proof.Machine
end

section
/-! PROOFS. STC lanes: their coming up, and the errors and frames they receive (R149, R152, R154–R156). -/

namespace Sys2Proof.Machine

/-! ## Coming up (R156) -/

theorem setSrcUp_true_src (s : State) (i : Nat) : (s.setSrcUp i true).src i = { s.src i with up := true } ∧
    ∀ j, j ≠ i → (s.setSrcUp i true).src j = s.src j := by
  unfold State.setSrcUp
  simp only [if_true]
  exact ⟨src_setSrc .., fun j hj => src_setSrc_ne _ _ hj⟩

theorem stcEvent_not_pf (n : Nat) : aLNE_EVENT (stcIdx n) ∉ evtRegs (aHIF_FN_EVENT 0) := by
  simp [evtRegs, aLNE_EVENT, aHIF_FN_EVENT, fnPage]
  omega

/-- A lane that comes up is a source of time (R156). -/
theorem stcUp_effect (s : State) (n : Nat) {t : State} (ht : s.stcUp n = t) :
    OneLane s t (stcIdx n) { s.lane (stcIdx n) with sigDet := true, cdr := true, sym := true, up := true, acq := false } ∧
      t.src n = { s.src n with up := true } ∧ (∀ j, j ≠ n → t.src j = s.src j) ∧ t.bit (aLNE_EVENT (stcIdx n)) 2 = true ∧
      Only { regs := true, tim := true, hif := true, lanes := true, out := true } s t ∧
      KeepsRegs (blockRegs (aLNE_EVENT (stcIdx n))) s t := by
  obtain ⟨u, hu⟩ : ∃ u, (s.setLane (stcIdx n)
    { s.lane (stcIdx n) with sigDet := true, cdr := true, sym := true, up := true, acq := false }).lneEvt (stcIdx n) 2 = u := ⟨_, rfl⟩
  have honly := State.stcUp_mask s n { regs := true, tim := true, hif := true, lanes := true, out := true } rfl rfl rfl rfl rfl
  have hup : s.stcUp n = u.setSrcUp n true := by rw [← hu]; rfl
  have hsrcs : ∀ j, u.src j = s.src j := fun j => src_congr (by rw [← hu, State.lneEvt, evt_tim, setLane_tim]) j
  obtain ⟨hsrc, hother⟩ := setSrcUp_true_src u n
  have hreg : ∀ o, (u.setSrcUp n true).reg o = u.reg o := fun o => by rw [State.reg, setSrcUp_regs, State.reg]
  have hkept : KeepsRegs (blockRegs (aLNE_EVENT (stcIdx n))) s u := hu ▸ evt_keepsRegs _ 8 _ (bit := 2) (by decide)
  have hlanes : u.lanes = (s.setLane (stcIdx n)
    { s.lane (stcIdx n) with sigDet := true, cdr := true, sym := true, up := true, acq := false }).lanes := by
    rw [← hu]
    exact evt_lanes _ 8 _ 2
  have hbit : u.bit (aLNE_EVENT (stcIdx n)) 2 = true := by
    rw [← hu, State.lneEvt, evt_bit _ 8 _ (by decide) (stcEvent_not_pf n)]
    simp
  rw [← ht]
  refine ⟨(setLane_oneLane s (stcIdx n) _).congr rfl ?_, ?_, fun j hj => ?_, ?_, honly, fun o ho => ?_⟩ <;> rw [hup]
  · exact (eq_of_mask State.lanes (State.setSrcUp_mask u n true { tim := true } rfl) fun _ => rfl).trans hlanes
  · rw [hsrc, hsrcs]
  · rw [hother j hj, hsrcs]
  · rw [bit_of_reg (hreg _), hbit]
  · rw [hreg, hkept o ho]

/-! ## Errors (R149, R156) -/

section
variable (s : State) (n : Nat)

/-- A counter that is not raised. -/
theorem counted_zero {s t : State} {o : Nat} (h : t.reg o = s.reg o) : Counted s t o 0 := by
  have := (s.reg o).isLt
  rw [Counted, h, Nat.add_zero, Nat.min_eq_right (by omega), BitVec.ofNat_toNat, BitVec.setWidth_eq]

theorem stcCount_counted (codes disps : Nat) : Counted s (s.stcCount n codes disps) (aLNE_STC_CODE_ERR n) codes ∧
    Counted s (s.stcCount n codes disps) (aLNE_STC_DISP_ERR n) disps ∧
    KeepsRegs [aLNE_STC_CODE_ERR n, aLNE_STC_DISP_ERR n] s (s.stcCount n codes disps) := by
  have hne : aLNE_STC_CODE_ERR n ≠ aLNE_STC_DISP_ERR n := by unfold aLNE_STC_CODE_ERR aLNE_STC_DISP_ERR; omega
  have hfirst := bump_keepsRegs s (aLNE_STC_CODE_ERR n) codes
  have hsecond := bump_keepsRegs (s.bump (aLNE_STC_CODE_ERR n) codes) (aLNE_STC_DISP_ERR n) disps
  exact ⟨.of_bump (.refl [] s) hsecond List.not_mem_nil (by simpa using hne),
    .of_bump hfirst (.refl [] _) (by simpa using hne.symm) List.not_mem_nil,
    (hfirst.mono (by simp)).trans (hsecond.mono (by simp))⟩

/-- Four errors in a row in a run take a lane down that is up (R156). -/
theorem stcBad_of_up (xs : List RxSym) (hup : (s.lane (stcIdx n)).up = true) :
    s.stcBad n xs = if fourBad 0 xs then s.stcDown n 2 else s := by
  rw [State.stcBad, hup, Bool.and_true]
end

/-! ## Frames (R152, R154, R155) -/

/-- The counter that a run of symbols raises for its frame. -/
def frameReg (n : Nat) (xs : List RxSym) : Option Nat :=
  match startsWith kStart xs with
  | none => none
  | some ys =>
    if aborted ys then some (aLNE_STC_ABORTS n)
    else match frameBody ys with
      | none => some (aLNE_STC_FRAME_ERR n)
      | some _ => some (aLNE_STC_FRAMES n)

/-- The IDENT that a run of symbols carries (R155). -/
def frameIdent (xs : List RxSym) : Option Nat :=
  match (match startsWith kStart xs with | some ys => frameBody ys | none => none) with
  | some bytes => if bytes.getD 0 0 = 1 then some (identOf bytes) else none
  | none => none

/-- A frame that ends in K30.7 is not accepted (R154). -/
theorem frameBody_of_aborted {ys : List RxSym} (h : aborted ys = true) : frameBody ys = none := by
  refine if_neg fun ⟨_, hend⟩ => ?_
  rw [aborted, hend] at h
  exact absurd h (by decide)

section
variable (s : State) (n : Nat) (xs : List RxSym)

/-- The frame of a run is counted, and its IDENT gives the lane its peer. -/
def State.frameNoted : State :=
  let w := match frameReg n xs with | none => s | some o => s.bump o 1
  match frameIdent xs with | none => w | some p => w.setLane (stcIdx n) { w.lane (stcIdx n) with peer := p }

/-- A run of symbols on a lane that is up (R149, R152, R155, R156). -/
theorem exec_stcFrameRx {syms : List Nat} (hn : n < 16) (hup : (s.lane (stcIdx n)).up = true) :
    exec (.stcFrameRx n syms) s = .next
      (((s.stcErrs n (recvSyms syms)).frameNoted n (recvSyms syms)).stcBad n (recvSyms syms)) := by
  change execStcFrameRx n syms s = _
  unfold execStcFrameRx
  dsimp only
  rw [if_pos (by simp [hn, hup])]
  refine congrArg (fun t : State => Host.Outcome.next (t.stcBad n (recvSyms syms))) ?_
  unfold State.frameNoted frameReg frameIdent
  cases startsWith kStart (recvSyms syms) with
  | none => rfl
  | some ys =>
    cases haborted : aborted ys with
    | true => simp only [haborted, frameBody_of_aborted haborted, if_true]
    | false =>
      cases hbody : frameBody ys with
      | none => simp only [haborted, hbody, Bool.false_eq_true, if_false]
      | some bytes =>
        have hident : (bytes.getD 0 0).toNat = 1 ↔ bytes.getD 0 0 = 1 := by
          rw [← BitVec.toNat_inj]
          rfl
        simp only [haborted, hbody, Bool.false_eq_true, if_false, hident]
        split <;> rfl

theorem frameNoted_oneLane : OneLane s (s.frameNoted n xs) (stcIdx n)
    { s.lane (stcIdx n) with peer := (frameIdent xs).getD (s.lane (stcIdx n)).peer } := by
  have hw : (match frameReg n xs with | none => s | some o => s.bump o 1).lanes = s.lanes := by
    split <;> rfl
  unfold State.frameNoted
  cases frameIdent xs with
  | none => exact oneLane_of_lanes hw
  | some p =>
    have hset := setLane_oneLane (match frameReg n xs with | none => s | some o => s.bump o 1) (stcIdx n)
      { s.lane (stcIdx n) with peer := p }
    dsimp only
    rw [lane_congr hw]
    exact hset.congr hw.symm rfl

theorem frameNoted_regs : (s.frameNoted n xs).regs = (match frameReg n xs with | none => s | some o => s.bump o 1).regs := by
  unfold State.frameNoted
  dsimp only
  split <;> split <;> rfl

/-- Each counter is raised by 1 where the run's frame is counted in it. -/
theorem frameNoted_counted (o : Nat) : Counted s (s.frameNoted n xs) o (b2n (frameReg n xs == some o)) := by
  have hreg : (s.frameNoted n xs).reg o = (match frameReg n xs with | none => s | some o => s.bump o 1).reg o := by
    rw [State.reg, frameNoted_regs, State.reg]
  rw [Counted, hreg]
  cases frameReg n xs with
  | none => exact counted_zero rfl
  | some o' =>
    by_cases h : o' = o
    · subst h
      simpa [b2n] using bump_same s o' 1
    · have hzero : b2n (some o' == some o) = 0 := by simp [b2n, h]
      rw [hzero]
      exact counted_zero (bump_reg _ _ _ fun he => h he.symm)

theorem frameNoted_keepsRegs : KeepsRegs [aLNE_STC_ABORTS n, aLNE_STC_FRAME_ERR n, aLNE_STC_FRAMES n] s (s.frameNoted n xs) := by
  intro o ho
  have hreg : (s.frameNoted n xs).reg o = (match frameReg n xs with | none => s | some o => s.bump o 1).reg o := by
    rw [State.reg, frameNoted_regs, State.reg]
  have hmem : ∀ o', frameReg n xs = some o' → o' ∈ [aLNE_STC_ABORTS n, aLNE_STC_FRAME_ERR n, aLNE_STC_FRAMES n] := fun o' h => by
    unfold frameReg at h
    split at h
    · exact absurd h nofun
    · split at h
      · simp [← Option.some.inj h]
      · split at h <;> simp [← Option.some.inj h]
  rw [hreg]
  split
  · rfl
  next o' h => exact bump_reg _ _ _ fun he => ho (he ▸ hmem o' h)

/-- Which counter it is: of a frame aborted, of one that is not accepted, or of a good one. -/
theorem frameReg_eq :
    let frame := startsWith 0xFB xs
    let one := fun (b : List RxSym → Bool) => match frame with | some ys => b2n (b ys) | none => 0
    let body := match frame with | some ys => frameBody ys | none => none
    b2n (frameReg n xs == some (aLNE_STC_ABORTS n)) = one aborted ∧
      b2n (frameReg n xs == some (aLNE_STC_FRAME_ERR n)) = one (fun ys => !aborted ys && (frameBody ys).isNone) ∧
      b2n (frameReg n xs == some (aLNE_STC_FRAMES n)) = b2n body.isSome := by
  have hne : aLNE_STC_ABORTS n ≠ aLNE_STC_FRAME_ERR n ∧ aLNE_STC_ABORTS n ≠ aLNE_STC_FRAMES n ∧
      aLNE_STC_FRAME_ERR n ≠ aLNE_STC_FRAMES n := by
    unfold aLNE_STC_ABORTS aLNE_STC_FRAME_ERR aLNE_STC_FRAMES
    omega
  obtain ⟨h1, h2, h3⟩ := hne
  have hbeq : ∀ {a b : Nat}, a ≠ b → (a == b) = false := beq_eq_false_iff_ne.mpr
  unfold frameReg
  rw [show kStart = 0xFB from rfl]
  cases startsWith 0xFB xs with
  | none => exact ⟨rfl, rfl, rfl⟩
  | some ys =>
    cases haborted : aborted ys with
    | true => simp [haborted, frameBody_of_aborted haborted, hbeq h1, hbeq h2]
    | false =>
      cases hbody : frameBody ys with
      | none => simp [haborted, hbody, hbeq h1.symm, hbeq h3]
      | some bytes => simp [haborted, hbody, hbeq h2.symm, hbeq h3.symm]
end

end Sys2Proof.Machine
end

section
/-! PROOFS. The control frames an STC lane sends, and the proof of O42 (R149–R156). -/

namespace Sys2Proof.Machine

/-! ## Sending (R152–R154) -/

theorem lineBit_stc (n clk : Nat) : lineBit (stcIdx n) clk = (clk * 25 + 31) / 32 := by
  have hrate : laneRate (stcIdx n) = 25 := if_neg (by unfold stcIdx; omega)
  rw [lineBit, hrate]

theorem frameAt_eq (s : State) (n : Nat) : s.frameAt n =
    (s.lane (stcIdx n)).txBit + ((s.tim.clk * 25 + 31) / 32 - (s.lane (stcIdx n)).txBit + 9) / 10 * 10 := by
  rw [State.frameAt, lineBit_stc]

theorem frameFits_iff (s : State) (n m : Nat) : s.frameFits n m = true ↔ s.frameAt n < (s.tim.clk * 25 + 31) / 32 + 10 ∧
    s.frameAt n + 10 * (m + 8) + 80 ≤ ((s.tim.clk + (7680 - s.tim.now % 7680)) * 25 + 31) / 32 := by
  rw [State.frameFits, State.slotEnd, lineBit_stc, lineBit_stc, Bool.and_eq_true, decide_eq_true_eq, decide_eq_true_eq]
  rfl

/-- The frame with TYPE and payload leaves its queue, and from bit `k` on the lane sends the symbols `xs` and a K28.5 (R153). -/
def FrameSent (s : State) (n type : Nat) (payload : List Byte) (k : Nat) (xs : List StcSym) (e : List Nat → Emit)
    (t : State) : Prop :=
  let x := s.lane (stcIdx n)
  ∃ rd inj gen phase, let codes := encSyms rd (xs ++ [⟨true, 0xBC⟩])
    (x.txBit = k → rd = x.rd ∧ inj = x.inj) ∧ t.out.head? = some (e (flipSyms 0 inj codes)) ∧
    t.mgt = { s.mgt with relayOut := s.mgt.relayOut.erase (n, type, payload) } ∧
    OneLane s t (stcIdx n) { x with txBit := k + 10 * (xs.length + 1), rd := rdRun rd codes, inj := inj - 10 * (xs.length + 1),
                                    gen := gen, phase := phase } ∧
    Only { lanes := true, mgt := true, out := true } s t

/-- A lane that has sent up to a bit has nothing more to send up to it. -/
theorem sendTo_self {s : State} {i k : Nat} (h : (s.lane i).txBit = k) : s.sendTo i k = s := by
  rw [State.sendTo]
  exact if_pos (by rw [h, Nat.sub_self])

theorem stcTake_frameSent (s : State) (n type : Nat) (payload : List Byte) (k : Nat) (xs : List StcSym) (e : List Nat → Emit)
    {w : State} (hw : { s with mgt := { s.mgt with relayOut := s.mgt.relayOut.erase (n, type, payload) } } = w) :
    FrameSent s n type payload k xs e ((w.stcTake n k xs).emit (e (w.stcCodes n k xs))) := by
  have hlanes : w.lanes = s.lanes := by rw [← hw]
  have hmgt : w.mgt = { s.mgt with relayOut := s.mgt.relayOut.erase (n, type, payload) } := by rw [← hw]
  have hmask : ∀ G : Fields, G.mgt → w.mask G = s.mask G := fun G h => by rw [← hw, mask_mgt h]
  obtain ⟨txBit, rd, gen, phase, inj, hlane, hother⟩ := sendTo_lane w (stcIdx n) k
  rw [lane_congr hlanes] at hlane
  have htake := State.stcTake_mask w n k xs { lanes := true, out := true } rfl rfl
  refine ⟨rd, inj, gen, phase, fun htx => ?_, ?_, ?_, ?_, ?_⟩
  · rw [sendTo_self (by rw [lane_congr hlanes, htx]), lane_congr hlanes] at hlane
    exact ⟨congrArg Lane.rd hlane.symm, congrArg Lane.inj hlane.symm⟩
  · rw [State.stcCodes, hlane]
    rfl
  · exact (eq_of_mask State.mgt htake fun _ => rfl).trans hmgt
  · have hset := setLane_oneLane (w.sendTo (stcIdx n) k) (stcIdx n) { (w.sendTo (stcIdx n) k).lane (stcIdx n) with
      txBit := k + 10 * (xs.length + 1)
      rd := rdRun ((w.sendTo (stcIdx n) k).lane (stcIdx n)).rd
        (encSyms ((w.sendTo (stcIdx n) k).lane (stcIdx n)).rd (xs ++ [⟨true, kComma⟩]))
      inj := ((w.sendTo (stcIdx n) k).lane (stcIdx n)).inj - 10 * (xs.length + 1) }
    rw [hlane] at hset
    refine (OneLane.trans (OneLane.congr ⟨hlane, hother⟩ hlanes.symm rfl) hset).congr rfl ?_
    rw [State.stcTake, hlane]
    rfl
  · exact (State.emit_mask _ _ _ rfl).trans ((State.stcTake_mask _ _ _ _ _ rfl rfl).trans (hmask _ rfl))

/-- The condition for a frame to be sent is that of R153. -/
theorem exec_stcFrameTx {s : State} {n type : Nat} {payload : List Byte} (hn : n < 16) (hup : (s.lane (stcIdx n)).up = true)
    (hlen : payload.length ≤ 56) (withdrawn : Option Nat) : exec (.stcFrameTx n type payload withdrawn) s = .next (
      if s.frameFits n payload.length = true ∧ s.relayNext n = some (type, payload) then
        let w := { s with mgt := { s.mgt with relayOut := s.mgt.relayOut.erase (n, type, payload) } }
        match withdrawn with
        | some j => w.abortFrame n type payload j
        | none => w.sendFrame n type payload
      else s) := by
  change execStcFrameTx n type payload withdrawn s = _
  unfold execStcFrameTx
  simp only [hn, hup, hlen, decide_true, Bool.true_and, Bool.and_true, Bool.and_eq_true, beq_iff_eq] <;> rfl

/-! ## Lanes that go down -/

section
variable {s : State} {n : Nat} (hn : n < 16)
include hn

theorem stcReg_ne_logCtrl : aLOG_CTRL ∉
    [aLNE_STC_CODE_ERR n, aLNE_STC_DISP_ERR n, aLNE_STC_ABORTS n, aLNE_STC_FRAME_ERR n, aLNE_STC_FRAMES n] := by
  simp [aLOG_CTRL, aLNE_STC_CODE_ERR, aLNE_STC_DISP_ERR, aLNE_STC_ABORTS, aLNE_STC_FRAME_ERR, aLNE_STC_FRAMES]
  omega

/-- Errors that a report counts take a lane down, four of them or none with no comma heard (R156). -/
theorem exec_stcLaneDown (hup : (s.lane (stcIdx n)).up = true) (codes disps : Nat) : exec (.stcLaneDown n codes disps) s = .next (
    if codes + disps = 0 then (s.stcCount n codes disps).stcDown n 1
    else if 4 ≤ codes + disps then (s.stcCount n codes disps).stcDown n 2 else s.stcCount n codes disps) :=
  congrArg Host.Outcome.next (if_pos (by simp [hn, hup]))

end

/-- What a mark leaves, up to the errors that take its lane down. -/
def State.markRead (s : State) (n arrival : Nat) (syms : List Nat) : State :=
  match startsWith kMark (recvSyms syms) with
  | none => s.marked n arrival syms
  | some ys => s.markTaken n arrival syms (markWord ys)

section
variable {s : State} {n arrival : Nat} {syms : List Nat}

theorem exec_stcMarkRx_read (hlock : s.tim.lock = true) (hn : n < 16) (hup : (s.lane (stcIdx n)).up = true) :
    exec (.stcMarkRx n syms arrival) s = .next ((s.markRead n arrival syms).stcBad n (recvSyms syms)) := by
  change execStcMarkRx n syms arrival s = _
  unfold execStcMarkRx
  dsimp only
  rw [if_pos (by simp [hlock, hn, hup])]
  refine congrArg (fun t : State => Host.Outcome.next (t.stcBad n (recvSyms syms))) ?_
  unfold State.markRead
  cases startsWith kMark (recvSyms syms) with
  | none => rfl
  | some ys => cases hword : markWord ys <;> simp only [hword] <;> rfl

/-- A lane that is down looks in a run for what brings it up (R156). -/
theorem exec_stcMarkRx_down (hn : n < 16) (hup : (s.lane (stcIdx n)).up = false) (hon : s.bit (aLNE_CTRL (stcIdx n)) 7 = true) :
    exec (.stcMarkRx n syms arrival) s =
      .next (s.setLane (stcIdx n) { s.lane (stcIdx n) with acq := acquires (recvSyms syms) }) :=
  congrArg Host.Outcome.next ((if_neg (by simp [hup])).trans (if_pos (by simp [hn, hon])))

/-- A mark changes no lane, and counts its errors; it does not count a loss. -/
theorem markRead_keeps (hn : n < 16) : (s.markRead n arrival syms).lane (stcIdx n) = s.lane (stcIdx n) ∧
    KeepsRegs (aLNE_STC_MARKS n :: aTIM_MARK_ERR :: timeRegs) (s.marked n arrival syms) (s.markRead n arrival syms) := by
  have hG : ∀ t : State, Only { regs := true, tim := true, hif := true, log := true, out := true } s t →
      t.lane (stcIdx n) = s.lane (stcIdx n) := fun t h => lane_congr (eq_of_mask State.lanes h fun _ => rfl) _
  have hmarked : ∀ G : Fields, G.regs → G.tim → (s.marked n arrival syms).mask G = s.mask G := fun G => marked_mask s n arrival syms
  unfold State.markRead
  split
  · exact ⟨marked_lane .., .refl _ _⟩
  next ys _ =>
    cases markWord ys with
    | none =>
      refine ⟨hG _ ?_, ?_⟩
      · exact (State.missed_mask _ _ _ rfl rfl rfl rfl rfl).trans ((State.bump_mask _ _ _ _ rfl).trans (hmarked _ rfl rfl))
      · exact ((bump_keepsRegs _ aTIM_MARK_ERR 1).mono (by simp)).trans ((missed_keepsRegs _ n).mono (by simp))
    | some w =>
      refine ⟨hG _ ?_, ?_⟩
      · exact (State.measure_mask _ _ _ _ _ _ _ rfl rfl rfl rfl rfl).trans
          ((State.bump_mask _ _ _ _ rfl).trans (hmarked _ rfl rfl))
      · obtain ⟨-, -, -, -, hkept⟩ := mark_heard s arrival syms hn (w := w) rfl
        refine hkept.mono (List.cons_subset_cons _ fun o ho => List.mem_cons_of_mem _ (List.mem_append_right _ ho))

/-- A mark with four errored symbols in a row takes its lane down (R156). -/
theorem stcMarkRx_bad (hlock : s.tim.lock = true) (hn : n < 16) (hup : (s.lane (stcIdx n)).up = true)
    (hbad : fourBad 0 (recvSyms syms) = true) : Answers (.stcMarkRx n syms arrival) s fun t =>
      (t.lane (stcIdx n)).up = false ∧ (t.src n).up = false ∧ (t.src n).heard = false ∧ Counted s t (aLNE_STC_LOSS n) 1 ∧
      Counted s t (aLNE_STC_CODE_ERR n) (codeErrs (recvSyms syms)) ∧
      Counted s t (aLNE_STC_DISP_ERR n) (dispErrs (recvSyms syms)) := by
  obtain ⟨hlane, hread⟩ := markRead_keeps (s := s) (arrival := arrival) (syms := syms) hn
  have hexec := exec_stcMarkRx_read (arrival := arrival) (syms := syms) hlock hn hup
  rw [stcBad_of_up _ _ _ (by rw [hlane, hup]), if_pos hbad] at hexec
  obtain ⟨⟨hdown, -⟩, -, hloss, hsrc, -, -, -, -, -, -, hkept⟩ := stcDown_stcGone (s.markRead n arrival syms) n hn
    (cause := 2) (by decide)
  have hfar : ∀ o, 0x1C0100 + 0x400 * n ≤ o → o ≤ 0x1C0118 + 0x400 * n → o ∉ blockRegs (aLNE_EVENT (stcIdx n)) ∧
      o ∉ timeRegs ∧ o ≠ aTIM_MARK_ERR := fun o hlo hhi => by
    refine ⟨?_, not_mem_of_timeRegs (List.Subset.refl _) (by omega), by unfold aTIM_MARK_ERR; omega⟩
    simp [blockRegs, evtRegs, aLNE_EVENT, aHIF_FN_EVENT, fnPage, stcIdx]
    omega
  have hown : ∀ o, o = aLNE_STC_CODE_ERR n ∨ o = aLNE_STC_DISP_ERR n →
      o ∉ aLNE_STC_MARKS n :: aTIM_MARK_ERR :: timeRegs ∧
      o ∉ aLNE_STC_LOSS n :: blockRegs (aLNE_EVENT (stcIdx n)) ++ blockRegs aTIM_EVENT ++ logRegs := fun o ho => by
    unfold aLNE_STC_CODE_ERR aLNE_STC_DISP_ERR at ho
    obtain ⟨hevt, htime, herr⟩ := hfar o (by omega) (by omega)
    have hmarks : o ≠ aLNE_STC_MARKS n := by unfold aLNE_STC_MARKS; omega
    have hloss : o ≠ aLNE_STC_LOSS n := by unfold aLNE_STC_LOSS; omega
    rw [timeRegs, List.mem_append, not_or] at htime
    simp [timeRegs, hevt, htime.1, htime.2, herr, hmarks, hloss]
  have hall : ∀ o, o = aLNE_STC_CODE_ERR n ∨ o = aLNE_STC_DISP_ERR n →
      ((s.markRead n arrival syms).stcDown n 2).reg o = (s.marked n arrival syms).reg o := fun o ho =>
    (hkept o (hown o ho).2).trans (hread o (hown o ho).1)
  obtain ⟨hcodes, hdisps⟩ := marked_counted s n arrival syms (KeepsRegs.refl [] _) List.not_mem_nil List.not_mem_nil
  have hbefore : (s.markRead n arrival syms).reg (aLNE_STC_LOSS n) = s.reg (aLNE_STC_LOSS n) := by
    obtain ⟨-, htime, herr⟩ := hfar (aLNE_STC_LOSS n) (by unfold aLNE_STC_LOSS; omega) (by unfold aLNE_STC_LOSS; omega)
    rw [hread, marked_keepsRegs]
    · simp [aLNE_STC_LOSS, aLNE_STC_CODE_ERR, aLNE_STC_DISP_ERR]
    · have hmarks : aLNE_STC_LOSS n ≠ aLNE_STC_MARKS n := by unfold aLNE_STC_LOSS aLNE_STC_MARKS; omega
      simp [htime, herr, hmarks]
  rw [Counted, hbefore] at hloss
  refine ⟨_, hexec, by rw [hdown], by rw [hsrc], by rw [hsrc], hloss, ?_, ?_⟩
  · rw [Counted, hall _ (.inl rfl)]
    exact hcodes
  · rw [Counted, hall _ (.inr rfl)]
    exact hdisps
end

/-! ## Frames received -/

/-- What a run of symbols leaves, up to the errors that take its lane down (R149, R152, R155). -/
theorem frameRead_counts (s : State) (n : Nat) (xs : List RxSym) {u : State} (hu : (s.stcErrs n xs).frameNoted n xs = u) :
    Counted s u (aLNE_STC_CODE_ERR n) (codeErrs xs) ∧ Counted s u (aLNE_STC_DISP_ERR n) (dispErrs xs) ∧
      (∀ o ∈ [aLNE_STC_ABORTS n, aLNE_STC_FRAME_ERR n, aLNE_STC_FRAMES n], Counted s u o (b2n (frameReg n xs == some o))) ∧
      OneLane s u (stcIdx n) { s.lane (stcIdx n) with peer := (frameIdent xs).getD (s.lane (stcIdx n)).peer } ∧
      Only { regs := true, lanes := true } s u ∧
      KeepsRegs [aLNE_STC_CODE_ERR n, aLNE_STC_DISP_ERR n, aLNE_STC_ABORTS n, aLNE_STC_FRAME_ERR n, aLNE_STC_FRAMES n] s u := by
  obtain ⟨v, hv⟩ : ∃ v, s.stcErrs n xs = v := ⟨_, rfl⟩
  obtain ⟨hcodes, hdisps, herrs⟩ : Counted s v (aLNE_STC_CODE_ERR n) (codeErrs xs) ∧
      Counted s v (aLNE_STC_DISP_ERR n) (dispErrs xs) ∧ KeepsRegs [aLNE_STC_CODE_ERR n, aLNE_STC_DISP_ERR n] s v :=
    hv ▸ stcCount_counted s n (codeErrs xs) (dispErrs xs)
  have hlanes : v.lanes = s.lanes := eq_of_mask State.lanes (hv ▸ State.stcErrs_mask s n xs { regs := true } rfl :
    v.mask { regs := true } = s.mask { regs := true }) fun _ => rfl
  have hmask : ∀ G : Fields, G.regs → v.mask G = s.mask G := fun G h => hv ▸ State.stcErrs_mask s n xs G h
  have hone := frameNoted_oneLane v n xs
  have hnoted := frameNoted_keepsRegs v n xs
  have hcount := frameNoted_counted v n xs
  have hmask' : ∀ G : Fields, G.regs → G.lanes → (v.frameNoted n xs).mask G = v.mask G := fun G hregs hlanes => by
    unfold State.frameNoted
    dsimp only
    split <;> split <;> simp only [State.setLane_mask, State.bump_mask, hregs, hlanes]
  rw [hv] at hu
  rw [hu] at hone hnoted hcount hmask'
  have hother : ∀ o, o = aLNE_STC_CODE_ERR n ∨ o = aLNE_STC_DISP_ERR n → u.reg o = v.reg o := fun o ho => hnoted o (by
    unfold aLNE_STC_CODE_ERR aLNE_STC_DISP_ERR at ho
    simp only [List.mem_cons, List.not_mem_nil, or_false, aLNE_STC_ABORTS, aLNE_STC_FRAME_ERR, aLNE_STC_FRAMES]
    omega)
  refine ⟨?_, ?_, fun o ho => ?_, ?_, (hmask' _ rfl rfl).trans (hmask _ rfl), ?_⟩
  · rw [Counted, hother _ (.inl rfl)]
    exact hcodes
  · rw [Counted, hother _ (.inr rfl)]
    exact hdisps
  · have hreg : v.reg o = s.reg o := herrs o (by
      simp only [List.mem_cons, List.not_mem_nil, or_false, aLNE_STC_ABORTS, aLNE_STC_FRAME_ERR, aLNE_STC_FRAMES,
        aLNE_STC_CODE_ERR, aLNE_STC_DISP_ERR] at ho ⊢
      omega)
    rw [Counted, ← hreg]
    exact hcount o
  · rw [lane_congr hlanes] at hone
    exact hone.congr hlanes.symm rfl
  · exact (herrs.mono (by simp)).trans (hnoted.mono (by simp))

/-- What a run leaves where the lane is up before it (R156). -/
theorem stcFrameRx_effect {s : State} {n : Nat} (hn : n < 16) (hup : (s.lane (stcIdx n)).up = true) (syms : List Nat) {u : State}
    (hu : (s.stcErrs n (recvSyms syms)).frameNoted n (recvSyms syms) = u) :
    exec (.stcFrameRx n syms) s = .next (if fourBad 0 (recvSyms syms) then u.stcDown n 2 else u) := by
  obtain ⟨-, -, -, ⟨hlane, -⟩, -⟩ := frameRead_counts s n (recvSyms syms) hu
  rw [exec_stcFrameRx s n hn hup, hu, stcBad_of_up _ _ _ (by rw [hlane, hup])]

/-- Settles O42: a lane goes down as `stcDown_stcGone` says, sends a frame as `stcTake_frameSent` says, and takes one as
`frameRead_counts` says; what is sent is received without errors by `recvSyms_frame`. -/
theorem stcLanes : Obligations.StcLanes := by
  unfold Obligations.StcLanes
  intro s n hn
  dsimp only
  have hlog : ∀ u : State, KeepsRegs [aLNE_STC_CODE_ERR n, aLNE_STC_DISP_ERR n, aLNE_STC_ABORTS n, aLNE_STC_FRAME_ERR n,
      aLNE_STC_FRAMES n] s u → u.reg aLOG_CTRL = s.reg aLOG_CTRL := fun u h => h _ (stcReg_ne_logCtrl hn)
  have hgone : ∀ (u : State) (cause : Nat), cause < 2 ^ 32 → u.reg aLOG_CTRL = s.reg aLOG_CTRL →
      StcGone u (u.stcDown n cause) n cause (s.bit aLOG_CTRL 0) := fun u cause hcause hctrl =>
    bit_of_reg hctrl 0 ▸ stcDown_stcGone u n hn hcause
  refine ⟨fun hon hup htest hfatal htap => ⟨fun hacq => ?comesUp, fun hacq => ?waits, fun syms arrival => ?looks⟩,
    fun hup codes disps => ?errors, fun hup type payload hlen => ?sends, fun hup syms => ?frames,
    fun hup hlock syms arrival hbad => stcMarkRx_bad hlock hn hup hbad, fun rd bytes => ?received⟩
  case comesUp =>
    exact ⟨_, congrArg Host.Outcome.next (if_pos (by simp [hn, hon, hup, hacq, htest, hfatal, htap])), stcUp_effect s n rfl⟩
  case waits => exact congrArg Host.Outcome.next (if_neg (by simp [hacq]))
  case looks => exact exec_stcMarkRx_down hn hup hon
  case errors =>
    obtain ⟨hcodes, hdisps, hkept⟩ := stcCount_counted s n codes disps
    have hexec := exec_stcLaneDown hn hup codes disps
    refine ⟨s.stcCount n codes disps, hcodes, hdisps, State.stcCount_mask s n codes disps _ rfl, hkept, fun hdown => ?_,
      fun hone hthree => ?_⟩
    · have hctrl := hlog _ (hkept.mono (by simp))
      by_cases hzero : codes + disps = 0
      · rw [if_pos hzero] at hexec ⊢
        exact ⟨_, hexec, hgone _ 1 (by decide) hctrl⟩
      · rw [if_neg hzero, if_pos (by omega)] at hexec
        rw [if_neg hzero]
        exact ⟨_, hexec, hgone _ 2 (by decide) hctrl⟩
    · rw [hexec, if_neg (by omega), if_neg (by omega)]
  case sends =>
    have hexec := exec_stcFrameTx (type := type) hn hup hlen
    have hfits := frameFits_iff s n payload.length
    rw [frameAt_eq] at hfits
    refine ⟨fun hfit hnext => ⟨?_, fun j => ?_⟩, fun hnot withdrawn => ?_⟩
    · have hsend := (hexec none).trans (congrArg _ (if_pos ⟨hfits.mpr hfit, hnext⟩))
      rw [← frameAt_eq]
      exact ⟨_, hsend, stcTake_frameSent s n type payload _ _ (.frame n (s.frameAt n) (frameBytes type payload)) rfl⟩
    · have hsend := (hexec (some j)).trans (congrArg _ (if_pos ⟨hfits.mpr hfit, hnext⟩))
      rw [← frameAt_eq]
      exact ⟨_, hsend, stcTake_frameSent s n type payload _ _ (.frameAbort n (s.frameAt n)) rfl⟩
    · exact (hexec withdrawn).trans (congrArg _ (if_neg fun h => hnot ⟨hfits.mp h.1, h.2⟩))
  case frames =>
    obtain ⟨u, hu⟩ : ∃ u, (s.stcErrs n (recvSyms syms)).frameNoted n (recvSyms syms) = u := ⟨_, rfl⟩
    obtain ⟨hcodes, hdisps, hcounts, hone, honly, hkept⟩ := frameRead_counts s n (recvSyms syms) hu
    obtain ⟨haborts, herrs, hgood⟩ := frameReg_eq n (recvSyms syms)
    have hexec := stcFrameRx_effect hn hup syms hu
    simp only [List.forall_mem_cons, List.not_mem_nil, false_implies, implies_true, and_true, haborts, herrs, hgood] at hcounts
    obtain ⟨hcount1, hcount2, hcount3⟩ := hcounts
    refine ⟨u, hcodes, hdisps, hcount1, hcount2, hcount3, hone, honly, hkept, fun hbad => ?_, fun hbad => ?_⟩
    · rw [hexec, hbad]
      rfl
    · rw [hbad, if_pos rfl] at hexec
      exact ⟨_, hexec, hgone u 2 (by decide) (hlog u hkept)⟩
  case received =>
    have hreceived : recvSyms (encSyms rd (frameSeq bytes ++ [⟨true, 0xBC⟩])) = rxFrame bytes := recvSyms_frame rd bytes
    refine ⟨rxFrame bytes, ?_⟩
    rw [hreceived]
    exact ⟨startsWith_rxFrame bytes, codeErrs_good _, dispErrs_good _, fourBad_good _, aborted_rxFrame bytes,
      frameBody_rxFrame bytes⟩

end Sys2Proof.Machine
end

section
/-! PROOFS. GSVC_EN (R485, R500), and the refutation of O49. -/

namespace Sys2Proof.Machine

/-- A launch on matrix unit 0 whose prologue holds gather engine 0. -/
def prologueRun : MxuRun :=
  { desc := [], step := 0, stream := none, t0 := 0, started := false, stall := 0, engine := some 0, bound := none, rows := [],
    stats := [], rowFl := [], bad := false, acc := [] }

/-- The reset state but for these: the stage is READY with its fuses read; pavilion 0 owns gather engine 0 and has a token;
MEM_GSVC places that engine in service, although a prologue that began before MEM_GSVC was written holds it. -/
def State.prologueHolds : State :=
  { State.reset with
    regs := [(aMEM_GSVC, 1)]
    boot := { State.reset.boot with stage := 5, fuseOk := true }
    pav := { State.reset.pav with table := [(0, { PavEntry.empty with valid := true, engines := 1, tokens := 1 })] }
    mxu := [(0, ⟨some prologueRun, none⟩)] }

/-- In `State.prologueHolds` a write of 1 to GSVC_EN takes a token for engine 0, and leaves the engine to the prologue. -/
theorem prologueHolds_gsvcEn {t : State} (h : exec (.gsvcEnWrite (.fn 0) 1) State.prologueHolds = .next t) :
    t.inService 0 = false := by
  injection h with h
  subst h
  decide

/-- Refutes O49: its clause on GSVC_EN set says that every engine that is placed, owned and named by MEM_GSVC is then in service,
without the premise that no prologue holds one. In `State.prologueHolds` a prologue holds engine 0, which serves no requests until
the prologue ends (R485). -/
theorem not_memoryTables : ¬ Obligations.MemoryTables := by
  unfold Obligations.MemoryTables
  intro h
  obtain ⟨-, -, -, -, -, hgsvc⟩ := h State.prologueHolds (.fn 0) 1
  obtain ⟨-, hset, -⟩ := hgsvc (by decide)
  obtain ⟨t, hexec, -, -, hserves, -⟩ := hset (by decide) (by decide) _ rfl
  have hexpected : (State.prologueHolds.bit aMEM_GSVC 0 && hbmPlaced State.prologueHolds.fuse.asm 0 &&
      (State.prologueHolds.enginePav 0).isSome) = true := by decide
  exact Bool.false_ne_true ((prologueHolds_gsvcEn hexec).symm.trans ((hserves 0 (by decide)).trans hexpected))

end Sys2Proof.Machine
end

section
/-! PROOFS. Stray drop counts on SCH_PORT_CFG (R170, R201, R243), and the refutations of O44 and O45. -/

namespace Sys2Proof.Machine

/-- A held packet that was found damaged and is over, with a cause beyond the codes of R201: its drop count, of the 32-bit words
from RTE_DROP on, is the word at SCH_PORT_CFG of port 0. -/
def portCfgStray : Held := { strayHeld with cause := 0xBFC1 }

theorem portCfgStray_dropCount : aRTE_DROP (portCfgStray.cause - 1) = aSCH_PORT_CFG 0 := by decide

/-- The reset state but for these: sub-port 0 of F-port 0 is UP, its packets count 63 bytes of overhead (R243), and a stray packet
waits, which counts that overhead on to 64, a 0 in its field. -/
def State.overheadStray : State :=
  { State.reset with
    regs := [(aSCH_PORT_CFG 0, 63)]
    subs := [(0, { subInit with state := 4 })]
    rte := { State.reset.rte with wait := [portCfgStray] } }

/-- `State.overheadStray` with a policer on VC 0 of that sub-port, whose bucket holds 100 bytes and grows by none. -/
def State.policedStray : State :=
  State.overheadStray.setPolicer 0 { polInit with enable := true, cbs := 100, c := 100 * 65536 }

/-- An unscheduled message of one flit, with a terminate character out of place. -/
def messageRx : RxPkt :=
  { pkt := { linkPkt 1 false 0 [] with dst := 0, src := 0 }, trailer := 0, lenErr := true, lineErr := false }

/-- The policer passes the message, of 84 bytes without overhead: no event of the policer's is set. -/
theorem policedStray_routedPacketRx {t : State} (h : exec (.routedPacketRx 0 0 messageRx 0) State.policedStray = .next t) :
    t.bit aSCH_EVENT 1 = false := by
  injection h with h
  subst h
  decide

/-- Refutes O44: its clause on the policer takes the packet's overhead (R243) from the state before the packet, the model that
after the damaged packets that are over by then are dropped, and it speaks of every state, so of `State.policedStray`, in which a
drop count lies on SCH_PORT_CFG. There the policer would drop the packet's 147 bytes, and passes its 84. -/
theorem not_packetArrival : ¬ Obligations.PacketArrival := by
  unfold Obligations.PacketArrival
  intro h
  obtain ⟨-, -, -, hroute, -⟩ := h State.policedStray 0 0 messageRx 0 (by decide) (by decide) (by decide) (by decide) (by decide)
    (by decide) (by decide)
  obtain ⟨-, hpoliced, -⟩ := hroute (.inl (by decide)) (by decide) (by decide) (by decide) (by decide)
  have hlookup : ((State.policedStray.advTo 0).endDamaged).lookup 0 0 = .drop 7 := by decide
  obtain ⟨t, hexec, -, -, hevent, -⟩ := hpoliced (by decide) (by decide) (fun egr v hlocal => absurd (hlookup.symm.trans hlocal) (by simp))
  exact Bool.false_ne_true ((policedStray_routedPacketRx hexec).symm.trans hevent)

/-- A good message of one flit that has its egress. -/
def grantedHeld : Held := { strayHeld with id := 1, damaged := false, cause := 0, pkt := messageRx.pkt }

/-- `State.overheadStray` with the message at the head of queue 0 of that sub-port's egress, whose shaper runs. -/
def State.queuedStray : State :=
  (State.overheadStray.setReg (aSCH_Q_SHAPE_CAP 0 0 0) 1).setEgr 0
    { egressInit with queues := [[grantedHeld], [], [], [], [], [], [], []] }

/-- The message leaves queue 0 for 84 bytes of tokens: the bucket held 16,384. -/
theorem queuedStray_egressSelect {t : State} (h : exec (.egressSelect 0 0) State.queuedStray = .next t) :
    (t.egr 0).tokens.getD 0 0 = (16384 - 84) * 12800 := by
  injection h with h
  subst h
  decide

/-- Refutes O45: its clause on the head of a strict queue takes the tokens of the packet's length, overhead included (R243, R250),
by the state before the selection, the model by that after the damaged packets that are over by then are dropped, and it speaks of
every state, so of `State.queuedStray`, in which a drop count lies on SCH_PORT_CFG. There the packet counts 147 bytes before, and
pays for 84. -/
theorem not_packetSelection : ¬ Obligations.PacketSelection := by
  unfold Obligations.PacketSelection
  intro h
  obtain ⟨-, -, -, -, hselect, -⟩ := h State.queuedStray
  obtain ⟨-, -, hup⟩ := hselect 0 0 (by decide) (by decide)
  obtain ⟨-, hstrict, -⟩ := hup (by decide) (by decide) (by decide) (by decide) (by decide) (by decide)
  obtain ⟨t, hexec, -, -, -, -, htokens, -⟩ := hstrict 0 grantedHeld [] (by decide) (by decide) (by decide) (by decide) (by decide)
    (fun r hr => absurd hr (Nat.not_lt_zero r)) (by decide) (by decide) (by decide)
  have hcounted : (((((State.queuedStray.advTo 0).endDamaged).settle 0).egr 0).tokens.set 0
      (((((State.queuedStray.advTo 0).endDamaged).settle 0).egr 0).tokens.getD 0 0 -
        12800 * State.queuedStray.counted 0 grantedHeld)).getD 0 0 = (16384 - 147) * 12800 := by decide
  exact absurd ((queuedStray_egressSelect hexec).symm.trans ((congrArg (·.getD 0 0) htokens).trans hcounted)) (by decide)

end Sys2Proof.Machine
end

section
/-! SUPPORT. What a table's command register does (R208), and which fields and registers a chain of writes changes. -/

namespace Sys2Proof.Machine

/-! ## Fields and registers along a chain of writes -/

section
variable {F : Fields} {L : List Nat} {s t : State}

theorem Only.refl (F : Fields) (s : State) : Only F s s := rfl

/-- One more operation that keeps the rest of the state. -/
theorem Only.step {u : State} (h : Only F s t) (hu : u.mask F = t.mask F) : Only F s u := hu.trans h

theorem Only.setReg (h : Only F s t) (o : Nat) (v : Word) (hregs : F.regs := by rfl) : Only F s (t.setReg o v) :=
  (State.setReg_mask t o v F hregs).trans h

theorem Only.setFld (h : Only F s t) (o hi lo v : Nat) (hregs : F.regs := by rfl) : Only F s (t.setFld o hi lo v) :=
  (State.setFld_mask t o hi lo v F hregs).trans h

theorem Only.evt (h : Only F s t) (blk ev bit : Nat) (hregs : F.regs := by rfl) (hhif : F.hif := by rfl) (hout : F.out := by rfl) :
    Only F s (t.evt blk ev bit) :=
  (State.evt_mask t blk ev bit F hregs hhif hout).trans h

theorem KeepsRegs.setReg (h : KeepsRegs L s t) {o : Nat} (v : Word) (ho : o ∈ L) : KeepsRegs L s (t.setReg o v) :=
  h.trans ((setReg_keepsRegs t o v).mono (by simpa using ho))

theorem KeepsRegs.setFld (h : KeepsRegs L s t) {o : Nat} (hi lo v : Nat) (ho : o ∈ L) : KeepsRegs L s (t.setFld o hi lo v) :=
  h.setReg _ ho

theorem KeepsRegs.evt (h : KeepsRegs L s t) (blk : Nat) {ev bit : Nat} (hb : bit < 8) (hev : blockRegs ev ⊆ L) :
    KeepsRegs L s (t.evt blk ev bit) :=
  h.trans ((evt_keepsRegs t blk ev hb).mono hev)
end

@[simp] theorem evt_busy (s : State) (blk ev bit : Nat) : (s.evt blk ev bit).busy = s.busy :=
  eq_of_mask State.busy (State.evt_mask s blk ev bit { regs := true, hif := true, out := true } rfl rfl rfl) fun _ => rfl

/-- A field of one bit takes the parity of what is put into it. -/
theorem setFld_bit (s : State) (o : Nat) {i : Nat} (hi : i < 32) (v : Nat) : (s.setFld o i i v).bit o i = decide (v % 2 = 1) := by
  have hpos : 0 < 2 ^ i := Nat.two_pow_pos i
  have hone : i + 1 - i = 1 := by omega
  change ((s.setFld o i i v).reg o).getLsbD i = _
  rw [State.setFld, reg_setReg, ofNat32_getLsbD _ hi, bitOf, Nat.testBit_eq_decide_div_mod_eq]
  simp only [hone, pow_one, Nat.shiftLeft_eq, Nat.reduceSub, Nat.one_mul, Nat.and_two_pow]
  rw [Nat.add_mul_div_right _ _ hpos, Nat.mul_comm, Nat.toNat_testBit, Nat.sub_mul_div_of_le _ _ _ ?_]
  · exact decide_eq_decide.mpr (by omega)
  · exact (Nat.mul_le_mul_left _ (Nat.mod_le _ _)).trans (Nat.mul_div_le _ _)

/-! ## The command register (R208) -/

/-- The BUSY of the table whose CMD register is at `cmd` has begun at the present time, for at most 256 ns (R208). -/
def BusyFor (s t : State) (cmd : Nat) : Prop := ∃ n, n ≤ 2048 ∧ t.busy = tblSet s.busy cmd (s.tim.clk + n)

theorem Only.tblStart {F : Fields} {s t : State} (h : Only F s t) (cmd : Nat) (hbusy : F.busy := by rfl) (hfree : F.free := by rfl) :
    Only F s (t.tblStart cmd) :=
  (State.tblStart_mask t cmd F hbusy hfree).trans h

theorem KeepsRegs.tblStart {L : List Nat} {s t : State} (h : KeepsRegs L s t) (cmd : Nat) : KeepsRegs L s (t.tblStart cmd) := h

@[simp] theorem tblStart_reg (s : State) (cmd o : Nat) : (s.tblStart cmd).reg o = s.reg o := rfl

@[simp] theorem tblStart_fld (s : State) (cmd o hi lo : Nat) : (s.tblStart cmd).fld o hi lo = s.fld o hi lo := rfl

@[simp] theorem tblStart_bit (s : State) (cmd o i : Nat) : (s.tblStart cmd).bit o i = s.bit o i := rfl

theorem busyFor_tblStart {s t : State} (hbusy : t.busy = s.busy) (htim : t.tim = s.tim) (cmd : Nat) : BusyFor s (t.tblStart cmd) cmd :=
  ⟨Config.tableTime t.free % 2049, Nat.le_of_lt_succ (Nat.mod_lt _ (by decide)), by rw [State.tblStart, hbusy, htim]⟩

section
variable {s : State} {path : Path} {cmd : Nat} {v : Word} {op : Bool} {ignored go : State → State} {com : Instr}
  (hmay : s.mayWrite path cmd = true)
include hmay

/-- A write of the command register while the table is busy is ignored, and its event says so. -/
theorem tbl_ignores {blk ev bit : Nat} (hexec : exec com s = .next (s.tblOp path cmd v op (fun s => s.evt blk ev bit) go))
    (hbit : bit < 32) (hpf : ev ∉ evtRegs (aHIF_FN_EVENT 0)) (hkeeps : KeepsRegs (blockRegs ev) s (s.evt blk ev bit))
    (hbusy : s.tblBusy cmd = true) : Answers com s fun t => t.bit ev bit = true ∧
      Only { regs := true, hif := true, out := true } s t ∧ KeepsRegs (blockRegs ev) s t := by
  refine ⟨s.evt blk ev bit, hexec.trans (congrArg _ ?_), ?_, (Only.refl _ s).evt .., hkeeps⟩
  · simp only [State.tblOp, hmay, hbusy, Bool.not_true, Bool.false_eq_true, if_false, if_true]
  · rw [evt_bit _ _ _ hbit hpf, decide_eq_true rfl, Bool.or_true]

/-- An operation of a table that is not busy: the command is stored, the operation is done, and the table is busy. -/
theorem tblOp_runs (hrow : (regRow cmd).isSome = true) (hlow : cmd < 0x400000) (hidle : s.tblBusy cmd = false)
    (hgo : bitOf v.toNat 16 = true) (hop : bitOf v.toNat 20 = op) :
    ∃ w, s.tblOp path cmd v op ignored go = (go (s.setReg cmd w)).tblStart cmd := by
  obtain ⟨r, hr⟩ := Option.isSome_iff_exists.mp hrow
  obtain ⟨w, hwrite⟩ : ∃ w, s.plainWrite cmd v = s.setReg cmd w := ⟨_, plainWrite_eq_setReg v hr (no_fault_of_low s hlow)⟩
  refine ⟨w, ?_⟩
  simp only [State.tblOp, hmay, hidle, hgo, hop, hwrite, Bool.not_true, Bool.false_eq_true, if_false, Bool.and_self,
    beq_self_eq_true, if_true]

/-- What such a command answers, where its operation keeps the tables' times. -/
theorem tbl_runs {P : State → Prop} (hexec : exec com s = .next (s.tblOp path cmd v op ignored go))
    (hrow : (regRow cmd).isSome = true) (hlow : cmd < 0x400000) (hidle : s.tblBusy cmd = false) (hgo : bitOf v.toNat 16 = true)
    (hop : bitOf v.toNat 20 = op)
    (h : ∀ w, ∃ t, go (s.setReg cmd w) = t ∧ t.busy = s.busy ∧ t.tim = s.tim ∧ P (t.tblStart cmd)) :
    Answers com s fun t => BusyFor s t cmd ∧ P t := by
  obtain ⟨w, hrun⟩ := tblOp_runs hmay (ignored := ignored) (go := go) hrow hlow hidle hgo hop
  obtain ⟨t, rfl, hbusy, htim, hP⟩ := h w
  exact ⟨_, hexec.trans (congrArg _ hrun), busyFor_tblStart hbusy htim cmd, hP⟩
end

end Sys2Proof.Machine
end

section
/-! PROOFS. The route tables (R178, R183, R189, R208, R595). -/

namespace Sys2Proof.Machine

/-! ## Entries (R178, R189) -/

section
variable (s : State) (key old : Nat)

theorem noteWas_table (u : Nat) : (s.noteWas key old).rte.table u = s.rte.table u := by
  unfold State.noteWas State.setSvc
  dsimp only
  split <;> rfl

theorem noteWas_tim : (s.noteWas key old).tim = s.tim := by
  unfold State.noteWas State.setSvc
  dsimp only
  split <;> rfl

theorem svc_cyc : s.svc.cyc = s.pclk := by
  unfold State.svc
  split
  · assumption
  · rfl

/-- What the arbiters have done in the cycle is as recorded. -/
theorem svc_setSvc {x : Service} (h : x.cyc = s.pclk) : (s.setSvc x).svc = x := if_pos h

/-- While the root clock counts, a value about to change is recorded once in a cycle (R189). -/
theorem noteWas_was (hlock : s.tim.lock = true) : (s.noteWas key old).svc.was =
    if s.svc.was.any (fun x => x.1 == key) then s.svc.was else (key, old) :: s.svc.was := by
  simp only [State.noteWas, hlock, Bool.not_true, Bool.false_or]
  split
  · rfl
  · rw [svc_setSvc]
    exact svc_cyc s
end

section
variable (s : State) {t i v : Nat}

theorem rteSet_service : (s.rteSet t i v).rte.service = (s.noteWas (rteKey t i) (s.rteGet t i)).rte.service := by
  unfold State.rteSet
  dsimp only
  split <;> [rfl; split <;> [rfl; split <;> [rfl; split <;> rfl]]]

theorem rteSet_only : Only { rte := true } s (s.rteSet t i v) := State.rteSet_mask s t i v _ rfl

theorem rteSet_busy : (s.rteSet t i v).busy = s.busy := (eq_of_mask State.busy (rteSet_only s) fun _ => rfl :)

theorem rteSet_reg (o : Nat) : (s.rteSet t i v).reg o = s.reg o := (eq_of_mask (State.reg · o) (rteSet_only s) fun _ => rfl :)

theorem rteSet_tim : (s.rteSet t i v).tim = s.tim := noteWas_tim s _ _

theorem rteSet_svc : (s.rteSet t i v).svc = (s.noteWas (rteKey t i) (s.rteGet t i)).svc := by
  rw [State.svc, rteSet_service, State.svc, State.pclk, State.pclk, rteSet_tim, noteWas_tim]

/-- One table changes, at one index. -/
theorem rteSet_table (ht : t < 5) {u : Nat} (hu : u < 5) :
    (s.rteSet t i v).rte.table u = if u = t then tblSet (s.rte.table t) i v else s.rte.table u := by
  unfold State.rteSet
  dsimp only
  rw [← noteWas_table s (rteKey t i) (s.rteGet t i) u, ← noteWas_table s (rteKey t i) (s.rteGet t i) t]
  generalize s.noteWas (rteKey t i) (s.rteGet t i) = w
  interval_cases t <;> interval_cases u <;> rfl

theorem rteGet_rteSet_same (ht : t < 5) : (s.rteSet t i v).rteGet t i = v := by
  rw [State.rteGet, rteSet_table s ht ht, if_pos rfl, tblGet_tblSet_same]

theorem rteGet_rteSet_ne (ht : t < 5) {u j : Nat} (hu : u < 5) (h : u ≠ t ∨ j ≠ i) : (s.rteSet t i v).rteGet u j = s.rteGet u j := by
  rw [State.rteGet, rteSet_table s ht hu]
  split
  next hut =>
    subst hut
    rw [tblGet_tblSet_ne _ _ _ (h.resolve_left (not_not_intro rfl)), State.rteGet]
  next => rfl

/-- A lookup of the same PCLK cycle finds the entry as it stood before (R189). -/
theorem rteAt_rteSet (hlock : s.tim.lock = true) : (s.rteSet t i v).rteAt t i = s.rteAt t i := by
  rw [State.rteAt, rteSet_svc, noteWas_was s _ _ hlock, State.rteAt]
  by_cases hany : s.svc.was.any (fun x => x.1 == rteKey t i) = true
  · obtain ⟨x, hx⟩ := Option.isSome_iff_exists.mp (List.find?_isSome.mpr (List.any_eq_true.mp hany))
    rw [if_pos hany, hx]
  · rw [if_neg hany, List.find?_cons_of_pos (by exact beq_self_eq_true _),
      List.find?_eq_none.mpr fun x hx hkey => hany (List.any_eq_true.mpr ⟨x, hx, hkey⟩)]
end

end Sys2Proof.Machine
end

section
/-! PROOFS. The route tables' command register (R183, R208, R595). -/

namespace Sys2Proof.Machine

/-! ## The write of one entry -/

section
variable (s : State) {tb i : Nat} (hsize : i < rteSize tb)
include hsize

theorem lt_of_rteSize : tb < 5 := by
  by_contra h
  simp only [rteSize] at hsize
  repeat rw [if_neg (by omega)] at hsize
  exact Nat.not_lt_zero _ hsize

/-- An entry is written where neither R183 nor R595 forbids it. -/
theorem rteWrite_stores {d : Nat} (hd : (s.reg aRTE_TBL_DATA0).toNat &&& rteMask tb = d)
    (himage : s.schedRunning = false ∨ imageField tb d = imageField tb (s.rteGet tb i)) (hpav : s.foreignEp tb d = false) :
    s.rteWrite tb i = (s.setFld aRTE_TBL_CMD 30 30 0).rteSet tb i d := by
  subst hd
  have hrun : ((s.setFld aRTE_TBL_CMD 30 30 0).schedRunning && decide (imageField tb ((s.reg aRTE_TBL_DATA0).toNat &&& rteMask tb) ≠
      imageField tb ((s.setFld aRTE_TBL_CMD 30 30 0).rteGet tb i))) = false := by
    rw [Bool.and_eq_false_iff, decide_eq_false_iff_not, not_not]
    exact himage
  have hforeign : (s.setFld aRTE_TBL_CMD 30 30 0).foreignEp tb ((s.reg aRTE_TBL_DATA0).toNat &&& rteMask tb) = false := hpav
  simp only [State.rteWrite, if_neg (Nat.not_le.mpr hsize), hrun, hforeign, Bool.false_eq_true, if_false]

/-- An entry that R183 or R595 keeps stands, and the event says so. -/
theorem rteWrite_ignored {d : Nat} (hd : (s.reg aRTE_TBL_DATA0).toNat &&& rteMask tb = d)
    (h : (s.schedRunning = true ∧ imageField tb d ≠ imageField tb (s.rteGet tb i)) ∨ s.foreignEp tb d = true) :
    s.rteWrite tb i = (s.setFld aRTE_TBL_CMD 30 30 0).rteEvt 1 := by
  subst hd
  simp only [State.rteWrite, if_neg (Nat.not_le.mpr hsize)]
  split
  · rfl
  next hrun =>
    rw [Bool.and_eq_true, decide_eq_true_eq] at hrun
    exact if_pos (h.resolve_left hrun)
end

/-! ## The command register -/

section
variable {s : State} {path : Path} {v : Word} {tb i : Nat} (hmay : s.mayWrite path aRTE_TBL_CMD = true)
  (hidle : s.tblBusy aRTE_TBL_CMD = false) (hgo : bitOf v.toNat 16 = true)
include hmay hidle hgo

/-- A command that names no route entry sets the error bit. -/
theorem rteTbl_outside {com : Instr} {op : Bool} {ignored go : State → State}
    (hexec : exec com s = .next (s.tblOp path aRTE_TBL_CMD v op ignored go)) (hop : bitOf v.toNat 20 = op)
    (hgoes : ∀ u, go u = u.setFld aRTE_TBL_CMD 30 30 1) :
    Answers com s fun t => BusyFor s t aRTE_TBL_CMD ∧ t.bit aRTE_TBL_CMD 30 = true ∧
      Only { regs := true, busy := true, free := true } s t ∧ KeepsRegs [aRTE_TBL_CMD] s t :=
  tbl_runs hmay hexec (by decide) (by decide) hidle hgo hop fun w => ⟨_, hgoes _, rfl, rfl,
    (tblStart_bit ..).trans (setFld_bit _ _ (by decide) 1), (((Only.refl _ s).setReg ..).setFld ..).tblStart _,
    ((KeepsRegs.refl _ s).setReg w (by simp)).setFld _ _ _ (by simp) |>.tblStart _⟩

section
variable (htb : bitsOf v.toNat 26 24 = tb) (hi : bitsOf v.toNat 15 0 = i) (hsize : i < rteSize tb)
include htb hi hsize

/-- A read of a route entry shows it in the data register. -/
theorem rteTblRead_shows (hop : bitOf v.toNat 20 = false) (hword : s.rteGet tb i < 2 ^ 32) :
    Answers (.rteTblRead path v) s fun t => BusyFor s t aRTE_TBL_CMD ∧ (t.reg aRTE_TBL_DATA0).toNat = s.rteGet tb i ∧
      t.bit aRTE_TBL_CMD 30 = false ∧ Only { regs := true, busy := true, free := true } s t ∧
      KeepsRegs [aRTE_TBL_CMD, aRTE_TBL_DATA0] s t := by
  subst htb hi
  refine tbl_runs hmay rfl (by decide) (by decide) hidle hgo hop fun w => ⟨_, if_neg (Nat.not_le.mpr hsize), rfl, rfl, ?_,
    (tblStart_bit ..).trans (setFld_bit _ _ (by decide) 0), ((((Only.refl _ s).setReg ..).setReg ..).setFld ..).tblStart _,
    (((KeepsRegs.refl _ s).setReg w (by simp)).setReg _ (by simp)).setFld _ _ _ (by simp) |>.tblStart _⟩
  rw [tblStart_reg, setFld_reg _ _ _ _ _ (by decide), reg_setReg, BitVec.toNat_ofNat]
  exact Nat.mod_eq_of_lt hword

section
variable (hop : bitOf v.toNat 20 = true) {d : Nat} (hd : (s.reg aRTE_TBL_DATA0).toNat &&& rteMask tb = d)
include hop hd

/-- A write of a route entry stores the data register's fields there and nowhere else; what looks it up in the same cycle still finds
the entry of before. -/
theorem rteTblWrite_stores (himage : s.schedRunning = false ∨ imageField tb d = imageField tb (s.rteGet tb i))
    (hpav : s.foreignEp tb d = false) : Answers (.rteTblWrite path v) s fun t => BusyFor s t aRTE_TBL_CMD ∧ t.rteGet tb i = d ∧
      t.bit aRTE_TBL_CMD 30 = false ∧ (∀ u j, u < 5 → u ≠ tb ∨ j ≠ i → t.rteGet u j = s.rteGet u j) ∧
      (s.tim.lock = true → t.rteAt tb i = s.rteAt tb i) ∧ Only { regs := true, busy := true, rte := true, free := true } s t ∧
      KeepsRegs [aRTE_TBL_CMD] s t := by
  subst htb hi
  have htb := lt_of_rteSize hsize
  refine tbl_runs hmay rfl (by decide) (by decide) hidle hgo hop fun w => ⟨_, rteWrite_stores _ hsize ?_ himage hpav, ?_, rteSet_tim _,
    ?_, ?_, ?_, ?_, ?_, ?_⟩
  · rw [reg_setReg_ne _ _ (by decide), hd]
  · exact rteSet_busy _
  · exact rteGet_rteSet_same _ htb
  · rw [tblStart_bit, bit_of_reg (rteSet_reg _ _), setFld_bit _ _ (by decide)]
    rfl
  · exact fun u j hu h => rteGet_rteSet_ne _ htb hu h
  · exact fun hlock => rteAt_rteSet _ hlock
  · exact ((((Only.refl _ s).setReg ..).setFld ..).step (State.rteSet_mask _ _ _ _ _ rfl)).tblStart _
  · exact KeepsRegs.tblStart ((((KeepsRegs.refl _ s).setReg w (by simp)).setFld _ _ _ (by simp)).trans fun o _ => rteSet_reg _ o) _

/-- A write that R183 or R595 forbids is ignored, and the event says so. -/
theorem rteTblWrite_ignored (h : (s.schedRunning = true ∧ imageField tb d ≠ imageField tb (s.rteGet tb i)) ∨
    s.foreignEp tb d = true) : Answers (.rteTblWrite path v) s fun t => BusyFor s t aRTE_TBL_CMD ∧ t.bit aRTE_EVENT 1 = true ∧
      Only { regs := true, busy := true, hif := true, out := true, free := true } s t ∧
      KeepsRegs (aRTE_TBL_CMD :: blockRegs aRTE_EVENT) s t := by
  subst htb hi
  refine tbl_runs hmay rfl (by decide) (by decide) hidle hgo hop fun w => ⟨_, rteWrite_ignored _ hsize ?_ h, ?_, evt_tim .., ?_,
    ((((Only.refl _ s).setReg ..).setFld ..).evt ..).tblStart _,
    (((KeepsRegs.refl _ s).setReg w (by simp)).setFld _ _ _ (by simp)).evt 10 (by decide) (by simp) |>.tblStart _⟩
  · rw [reg_setReg_ne _ _ (by decide), hd]
  · exact evt_busy ..
  · rw [tblStart_bit, State.rteEvt, evt_bit _ _ _ (by decide) (by decide), decide_eq_true rfl, Bool.or_true]
end
end
end

end Sys2Proof.Machine
end

section
/-! PROOFS. The owner table's command register (R227, R238–R240, R594). -/

namespace Sys2Proof.Machine

/-! ## Frees that are due (R227) -/

section
variable (s : State)

/-- The frees that are due do not hang on a register. -/
theorem foldl_applyFree_setReg (o : Nat) (w : Word) (l : List Freed) (u : State) :
    l.foldl State.applyFree (u.setReg o w) = (l.foldl State.applyFree u).setReg o w := by
  induction l generalizing u with
  | nil => rfl
  | cons f l ih => exact ih (u.applyFree f)

theorem settleFrees_setReg (o : Nat) (w : Word) : (s.setReg o w).settleFrees = s.settleFrees.setReg o w :=
  foldl_applyFree_setReg o w _ { s with rte := { s.rte with frees := s.rte.frees.filter fun f => f.cyc == s.pclk } }

theorem settleFrees_only : Only { rte := true } s s.settleFrees := State.settleFrees_mask s _ rfl

@[simp] theorem settleFrees_busy : s.settleFrees.busy = s.busy := (eq_of_mask State.busy (settleFrees_only s) fun _ => rfl :)

@[simp] theorem settleFrees_tim : s.settleFrees.tim = s.tim := (eq_of_mask State.tim (settleFrees_only s) fun _ => rfl :)

@[simp] theorem settleFrees_reg (o : Nat) : s.settleFrees.reg o = s.reg o :=
  (eq_of_mask (State.reg · o) (settleFrees_only s) fun _ => rfl :)

@[simp] theorem settleFrees_pav : s.settleFrees.pav = s.pav := (eq_of_mask State.pav (settleFrees_only s) fun _ => rfl :)
end

/-! ## Fields of a word put together from numbers -/

theorem bitsOf_eq_div_mod (n hi lo : Nat) : bitsOf n hi lo = n / 2 ^ lo % 2 ^ (hi + 1 - lo) := by
  rw [bitsOf, Nat.shiftRight_eq_div_pow]

/-- A field of a register that a number was put into. -/
theorem fld_setReg_ofNat (s : State) (o n : Nat) {hi : Nat} (lo : Nat) (hhi : hi < 32) :
    (s.setReg o (BitVec.ofNat 32 n)).fld o hi lo = bitsOf n hi lo :=
  bitsOf_congr fun i _ hle => by rw [reg_setReg]; exact ofNat32_getLsbD n (by omega)

/-! ## One entry (R238–R240, R594) -/

section
variable (s : State) (die i : Nat)

/-- The four data registers that show an owner entry. -/
theorem ownRead_reg {o : Owner} (ho : s.owner die i = o) (hrmin : o.rmin < 2 ^ 16) (hsmax : o.smax < 2 ^ 20) (hhshr : o.hshr < 2 ^ 20)
    (hhrsv : o.hrsv < 2 ^ 16) (hnobuf : o.nobuf < 2 ^ 16) :
    ((s.ownRead die i).reg (aBPM_OWN_DATA0 die)).toNat = o.rmin ∧ ((s.ownRead die i).reg (aBPM_OWN_DATA1 die)).toNat = o.smax ∧
      ((s.ownRead die i).reg (aBPM_OWN_DATA2 die)).toNat = o.hshr ∧ (s.ownRead die i).fld (aBPM_OWN_DATA3 die) 15 0 = o.hrsv ∧
      (s.ownRead die i).fld (aBPM_OWN_DATA3 die) 31 16 = o.nobuf := by
  subst ho
  unfold State.ownRead aBPM_OWN_DATA0 aBPM_OWN_DATA1 aBPM_OWN_DATA2 aBPM_OWN_DATA3
  refine ⟨?_, ?_, ?_, ?_, ?_⟩
  · rw [reg_setReg_ne _ _ (by omega), reg_setReg_ne _ _ (by omega), reg_setReg_ne _ _ (by omega), reg_setReg, BitVec.toNat_ofNat]
    exact Nat.mod_eq_of_lt (hrmin.trans (by decide))
  · rw [reg_setReg_ne _ _ (by omega), reg_setReg_ne _ _ (by omega), reg_setReg, BitVec.toNat_ofNat]
    exact Nat.mod_eq_of_lt (hsmax.trans (by decide))
  · rw [reg_setReg_ne _ _ (by omega), reg_setReg, BitVec.toNat_ofNat]
    exact Nat.mod_eq_of_lt (hhshr.trans (by decide))
  · rw [fld_setReg_ofNat _ _ _ _ (by decide), bitsOf_eq_div_mod]
    omega
  · rw [fld_setReg_ofNat _ _ _ _ (by decide), bitsOf_eq_div_mod]
    omega

theorem ownRead_keepsRegs :
    KeepsRegs [aBPM_OWN_DATA0 die, aBPM_OWN_DATA1 die, aBPM_OWN_DATA2 die, aBPM_OWN_DATA3 die] s (s.ownRead die i) :=
  ((((KeepsRegs.refl _ s).setReg _ (by simp)).setReg _ (by simp)).setReg _ (by simp)).setReg _ (by simp)

/-- A RESERVE_MIN that the pool's COUNT or its pavilion's cap does not cover (R238, R594). -/
def State.OwnerBeyond (rmin : Nat) : Prop :=
  s.poolCount die (i % 4) < s.rsvSum die (i % 4) - (s.owner die i).rmin + rmin ∨
    s.rsvCap die (i % 4) (i / 32) < s.pavRsv die (i % 4) (i / 32) - (s.owner die i).rmin + rmin

theorem ownWrite_of_beyond (h : s.OwnerBeyond die i (s.fld (aBPM_OWN_DATA0 die) 15 0)) :
    s.ownWrite die i = s.setFld (aBPM_OWN_CMD die) 30 30 1 :=
  if_pos (by rw [Bool.or_eq_true, decide_eq_true_eq, decide_eq_true_eq]; exact h)

theorem ownWrite_of_not_beyond (h : ¬ s.OwnerBeyond die i (s.fld (aBPM_OWN_DATA0 die) 15 0)) :
    s.ownWrite die i = (s.setOwner die i (ownerWritten (s.owner die i) (s.fld (aBPM_OWN_DATA0 die) 15 0)
      (s.fld (aBPM_OWN_DATA1 die) 19 0))).setFld (aBPM_OWN_CMD die) 30 30 0 :=
  if_neg (by rw [Bool.or_eq_true, decide_eq_true_eq, decide_eq_true_eq]; exact h)

theorem fld_settled {o c : Nat} (w : Word) (ho : o ≠ c) (hi lo : Nat) : (s.settleFrees.setReg c w).fld o hi lo = s.fld o hi lo :=
  fld_of_reg ((reg_setReg_ne _ _ ho).trans (settleFrees_reg s o)) hi lo

/-- What R238 and R594 compare, while the table's command stands. -/
theorem ownerBeyond_settled (w : Word) (rmin : Nat) : (s.settleFrees.setReg (aBPM_OWN_CMD die) w).OwnerBeyond die i rmin ↔
    s.poolCount die (i % 4) < s.settleFrees.rsvSum die (i % 4) - (s.settleFrees.owner die i).rmin + rmin ∨
      s.rsvCap die (i % 4) (i / 32) < s.settleFrees.pavRsv die (i % 4) (i / 32) - (s.settleFrees.owner die i).rmin + rmin := by
  have hcount : (s.settleFrees.setReg (aBPM_OWN_CMD die) w).poolCount die (i % 4) = s.poolCount die (i % 4) := by
    refine fld_settled s w ?_ 19 0
    unfold aBPM_POOL_COUNT aBPM_OWN_CMD
    omega
  have hcap : (s.settleFrees.setReg (aBPM_OWN_CMD die) w).rsvCap die (i % 4) (i / 32) = s.rsvCap die (i % 4) (i / 32) := by
    rw [State.rsvCap, State.rsvCap, State.pavEntry, setReg_pav, settleFrees_pav, State.pavEntry]
  rw [State.OwnerBeyond, hcount, hcap]
  exact Iff.rfl
end

/-! ## The command register -/

section
variable {s : State} {path : Path} {v : Word} {die i : Nat} (hdie : die < 2) (hmay : s.mayWrite path (aBPM_OWN_CMD die) = true)
  (hidle : s.tblBusy (aBPM_OWN_CMD die) = false) (hgo : bitOf v.toNat 16 = true) (hi : bitsOf v.toNat 10 0 = i)
include hdie

theorem ownCmd_row : (regRow (aBPM_OWN_CMD die)).isSome = true := by
  interval_cases die <;> decide

theorem ownCmd_low : aBPM_OWN_CMD die < 0x400000 := by
  unfold aBPM_OWN_CMD
  omega

include hmay hidle hgo hi

/-- A read of an owner entry shows it in the data registers. -/
theorem bpmOwnRead_shows (hop : bitOf v.toNat 20 = false) {o : Owner} (ho : s.settleFrees.owner die i = o)
    (hrmin : o.rmin < 2 ^ 16) (hsmax : o.smax < 2 ^ 20) (hhshr : o.hshr < 2 ^ 20) (hhrsv : o.hrsv < 2 ^ 16) (hnobuf : o.nobuf < 2 ^ 16) :
    Answers (.bpmOwnRead path die v) s fun t => BusyFor s t (aBPM_OWN_CMD die) ∧
      (t.reg (aBPM_OWN_DATA0 die)).toNat = o.rmin ∧ (t.reg (aBPM_OWN_DATA1 die)).toNat = o.smax ∧
      (t.reg (aBPM_OWN_DATA2 die)).toNat = o.hshr ∧ t.fld (aBPM_OWN_DATA3 die) 15 0 = o.hrsv ∧
      t.fld (aBPM_OWN_DATA3 die) 31 16 = o.nobuf ∧ Only { regs := true, busy := true, rte := true, free := true } s t ∧
      KeepsRegs [aBPM_OWN_CMD die, aBPM_OWN_DATA0 die, aBPM_OWN_DATA1 die, aBPM_OWN_DATA2 die, aBPM_OWN_DATA3 die] s t := by
  subst hi
  refine tbl_runs hmay (congrArg _ (if_pos hdie)) (ownCmd_row hdie) (ownCmd_low hdie) hidle hgo hop fun w =>
    ⟨_, congrArg (State.ownRead · die _) (settleFrees_setReg ..), settleFrees_busy s, settleFrees_tim s, ?_⟩
  obtain ⟨h0, h1, h2, h3lo, h3hi⟩ := ownRead_reg (s.settleFrees.setReg (aBPM_OWN_CMD die) w) die (bitsOf v.toNat 10 0) ho
    hrmin hsmax hhshr hhrsv hnobuf
  exact ⟨h0, h1, h2, h3lo, h3hi,
    ((((Only.refl _ s).step (State.settleFrees_mask s _ rfl)).setReg ..).step (State.ownRead_mask _ _ _ _ rfl)).tblStart _,
    (((KeepsRegs.refl _ s).trans fun o _ => settleFrees_reg s o).setReg w (by simp)).trans
      ((ownRead_keepsRegs _ die _).mono (by simp)) |>.tblStart _⟩

section
variable (hop : bitOf v.toNat 20 = true) {f : State} (hf : s.settleFrees = f) {o : Owner} (ho : f.owner die i = o) {rmin : Nat}
  (hrmin : s.fld (aBPM_OWN_DATA0 die) 15 0 = rmin)
include hop hf ho hrmin

/-- A write of an owner entry stores RESERVE_MIN and SHARED_MAX and parts the holdings anew. -/
theorem bpmOwnWrite_stores {smax : Nat} (hsmax : s.fld (aBPM_OWN_DATA1 die) 19 0 = smax)
    (hfits : ¬ (s.poolCount die (i % 4) < f.rsvSum die (i % 4) - o.rmin + rmin ∨
      s.rsvCap die (i % 4) (i / 32) < f.pavRsv die (i % 4) (i / 32) - o.rmin + rmin)) :
    Answers (.bpmOwnWrite path die v) s fun t => BusyFor s t (aBPM_OWN_CMD die) ∧ t.owner die i = ownerWritten o rmin smax ∧
      (∀ d j, 2048 * d + j ≠ 2048 * die + i → t.owner d j = f.owner d j) ∧ t.bit (aBPM_OWN_CMD die) 30 = false ∧
      Only { regs := true, busy := true, rte := true, free := true } s t ∧ KeepsRegs [aBPM_OWN_CMD die] s t := by
  subst hi hf ho hrmin hsmax
  refine tbl_runs hmay (congrArg _ (if_pos hdie)) (ownCmd_row hdie) (ownCmd_low hdie) hidle hgo hop fun w =>
    ⟨_, (congrArg (State.ownWrite · die _) (settleFrees_setReg ..)).trans (ownWrite_of_not_beyond _ _ _ ?_),
      settleFrees_busy s, settleFrees_tim s, ?_, ?_, ?_, ?_, ?_⟩
  · rw [ownerBeyond_settled, fld_settled]
    · exact hfits
    · unfold aBPM_OWN_DATA0 aBPM_OWN_CMD; omega
  · rw [fld_settled, fld_settled]
    · exact owner_setOwner ..
    · unfold aBPM_OWN_DATA1 aBPM_OWN_CMD; omega
    · unfold aBPM_OWN_DATA0 aBPM_OWN_CMD; omega
  · exact fun d j h => owner_setOwner_ne _ _ h
  · exact (tblStart_bit ..).trans (setFld_bit _ _ (by decide) 0)
  · exact (((((Only.refl _ s).step (State.settleFrees_mask s _ rfl)).setReg ..).step
      (State.setOwner_mask _ _ _ _ _ rfl)).setFld ..).tblStart _
  · exact (((KeepsRegs.refl _ s).trans fun o _ => settleFrees_reg s o).setReg w (by simp)).trans
      (KeepsRegs.setFld (KeepsRegs.refl _ _) 30 30 0 (by simp))

/-- A RESERVE_MIN that the pool or the pavilion's cap does not cover is refused (R239, R594). -/
theorem bpmOwnWrite_refused
    (hbeyond : s.poolCount die (i % 4) < f.rsvSum die (i % 4) - o.rmin + rmin ∨
      s.rsvCap die (i % 4) (i / 32) < f.pavRsv die (i % 4) (i / 32) - o.rmin + rmin) :
    Answers (.bpmOwnWrite path die v) s fun t => BusyFor s t (aBPM_OWN_CMD die) ∧ t.bit (aBPM_OWN_CMD die) 30 = true ∧
      Only { regs := true, busy := true, rte := true, free := true } s t ∧ KeepsRegs [aBPM_OWN_CMD die] s t := by
  subst hi hf ho hrmin
  refine tbl_runs hmay (congrArg _ (if_pos hdie)) (ownCmd_row hdie) (ownCmd_low hdie) hidle hgo hop fun w =>
    ⟨_, (congrArg (State.ownWrite · die _) (settleFrees_setReg ..)).trans (ownWrite_of_beyond _ _ _ ?_),
      settleFrees_busy s, settleFrees_tim s, ?_, ?_, ?_⟩
  · rw [ownerBeyond_settled, fld_settled]
    · exact hbeyond
    · unfold aBPM_OWN_DATA0 aBPM_OWN_CMD; omega
  · exact (tblStart_bit ..).trans (setFld_bit _ _ (by decide) 1)
  · exact ((((Only.refl _ s).step (State.settleFrees_mask s _ rfl)).setReg ..).setFld ..).tblStart _
  · exact (((KeepsRegs.refl _ s).trans fun o _ => settleFrees_reg s o).setReg w (by simp)).setFld _ _ _ (by simp) |>.tblStart _
end
end

end Sys2Proof.Machine
end

section
/-! PROOFS. The command registers of the calendar and the policers (R208, R262, R263, R269, R270). -/

namespace Sys2Proof.Machine

/-! ## The calendar -/

/-- Two fields side by side, as SCH_CAL_DATA1 shows them. -/
theorem bitsOf_pair {a b : Nat} (ha : a < 2 ^ 16) (hb : b < 2 ^ 10) :
    bitsOf (a * 2 ^ 16 + b) 31 16 = a ∧ bitsOf (a * 2 ^ 16 + b) 9 0 = b := by
  simp only [bitsOf_eq_div_mod]
  omega

/-- The three fields of a calendar entry (R262). -/
theorem bitsOf_calEntry {a b c : Nat} (ha : a < 2 ^ 24) (hb : b < 2 ^ 16) (hc : c < 2 ^ 10) :
    bitsOf (a + 2 ^ 24 * b + 2 ^ 40 * c) 23 0 = a ∧ bitsOf (a + 2 ^ 24 * b + 2 ^ 40 * c) 39 24 = b ∧
      bitsOf (a + 2 ^ 24 * b + 2 ^ 40 * c) 49 40 = c := by
  simp only [bitsOf_eq_div_mod]
  omega

theorem bitsOf_lt (n hi lo : Nat) : bitsOf n hi lo < 2 ^ (hi + 1 - lo) := Nat.mod_lt _ (Nat.two_pow_pos _)

/-- The state with a calendar entry replaced. -/
def State.setCal (s : State) (i x : Nat) : State := { s with rte := { s.rte with cal := tblSet s.rte.cal i x } }

/-- A calendar entry. -/
def State.calEntry (s : State) (i : Nat) : Nat := tblGet (fun _ => 0) s.rte.cal i

theorem calEntry_setCal (s : State) (i x : Nat) : (s.setCal i x).calEntry i = x := tblGet_tblSet_same ..

theorem calEntry_setCal_ne (s : State) {i j : Nat} (x : Nat) (h : j ≠ i) : (s.setCal i x).calEntry j = s.calEntry j :=
  tblGet_tblSet_ne _ _ _ h

section
variable {s : State} {path : Path} {v : Word} {i : Nat} (hmay : s.mayWrite path aSCH_CAL_CMD = true)
  (hidle : s.tblBusy aSCH_CAL_CMD = false) (hgo : bitOf v.toNat 16 = true)
include hmay hidle hgo

/-- A read of a calendar entry shows it in the data registers. -/
theorem schCalRead_shows (hi : bitsOf v.toNat 15 0 = i) (hop : bitOf v.toNat 20 = false) {x : Nat} (hx : s.calEntry i = x) :
    Answers (.schCalRead path v) s fun t => BusyFor s t aSCH_CAL_CMD ∧ (t.reg aSCH_CAL_DATA0).toNat = bitsOf x 23 0 ∧
      t.fld aSCH_CAL_DATA1 31 16 = bitsOf x 39 24 ∧ t.fld aSCH_CAL_DATA1 9 0 = bitsOf x 49 40 ∧
      Only { regs := true, busy := true, free := true } s t ∧ KeepsRegs [aSCH_CAL_CMD, aSCH_CAL_DATA0, aSCH_CAL_DATA1] s t := by
  subst hi hx
  obtain ⟨hperiod, hslot⟩ := bitsOf_pair (bitsOf_lt (s.calEntry (bitsOf v.toNat 15 0)) 39 24)
    (bitsOf_lt (s.calEntry (bitsOf v.toNat 15 0)) 49 40)
  refine tbl_runs hmay rfl (by decide) (by decide) hidle hgo hop fun w => ⟨_, rfl, rfl, rfl, ?_, ?_, ?_, ?_, ?_⟩
  · rw [tblStart_reg, setFld_reg _ _ _ _ _ (by decide), reg_setReg_ne _ _ (by decide), reg_setReg, BitVec.toNat_ofNat]
    exact Nat.mod_eq_of_lt ((bitsOf_lt ..).trans (by decide))
  · rw [tblStart_fld, fld_of_reg (setFld_reg _ _ _ _ _ (by decide)), fld_setReg_ofNat _ _ _ _ (by decide)]
    exact hperiod
  · rw [tblStart_fld, fld_of_reg (setFld_reg _ _ _ _ _ (by decide)), fld_setReg_ofNat _ _ _ _ (by decide)]
    exact hslot
  · exact (((((Only.refl _ s).setReg ..).setReg ..).setReg ..).setFld ..).tblStart _
  · exact ((((KeepsRegs.refl _ s).setReg w (by simp)).setReg _ (by simp)).setReg _ (by simp)).setFld _ _ _ (by simp)

section
variable (hop : bitOf v.toNat 20 = true)
include hop

/-- A write of a calendar entry stores the data registers' fields there and nowhere else. -/
theorem schCalWrite_stores (hi : bitsOf v.toNat 15 0 = i) (hrun : s.schedRunning = false) :
    Answers (.schCalWrite path v) s fun t => BusyFor s t aSCH_CAL_CMD ∧
      bitsOf (t.calEntry i) 23 0 = s.fld aSCH_CAL_DATA0 23 0 ∧ bitsOf (t.calEntry i) 39 24 = s.fld aSCH_CAL_DATA1 31 16 ∧
      bitsOf (t.calEntry i) 49 40 = s.fld aSCH_CAL_DATA1 9 0 ∧ (∀ j, j ≠ i → t.calEntry j = s.calEntry j) ∧
      Only { regs := true, busy := true, rte := true, free := true } s t ∧ KeepsRegs [aSCH_CAL_CMD] s t := by
  subst hi
  obtain ⟨hlow, hmid, hhigh⟩ := bitsOf_calEntry (bitsOf_lt (s.reg aSCH_CAL_DATA0).toNat 23 0)
    (bitsOf_lt (s.reg aSCH_CAL_DATA1).toNat 31 16) (bitsOf_lt (s.reg aSCH_CAL_DATA1).toNat 9 0)
  have hd0 (w : Word) : (s.setReg aSCH_CAL_CMD w).reg aSCH_CAL_DATA0 = s.reg aSCH_CAL_DATA0 := reg_setReg_ne _ _ (by decide)
  have hd1 (w : Word) : (s.setReg aSCH_CAL_CMD w).reg aSCH_CAL_DATA1 = s.reg aSCH_CAL_DATA1 := reg_setReg_ne _ _ (by decide)
  refine tbl_runs hmay rfl (by decide) (by decide) hidle hgo hop fun w =>
    ⟨((s.setReg aSCH_CAL_CMD w).setCal (bitsOf v.toNat 15 0) (bitsOf (s.reg aSCH_CAL_DATA0).toNat 23 0 +
      2 ^ 24 * bitsOf (s.reg aSCH_CAL_DATA1).toNat 31 16 + 2 ^ 40 * bitsOf (s.reg aSCH_CAL_DATA1).toNat 9 0)).setFld aSCH_CAL_CMD 30 30 0,
      ?_, rfl, rfl, ?_, ?_, ?_, ?_, ?_, ?_⟩
  · refine (if_neg (Bool.not_eq_true _ ▸ hrun)).trans ?_
    rw [State.fld, hd0, hd1]
    rfl
  · exact (congrArg (bitsOf · 23 0) (calEntry_setCal ..)).trans hlow
  · exact (congrArg (bitsOf · 39 24) (calEntry_setCal ..)).trans hmid
  · exact (congrArg (bitsOf · 49 40) (calEntry_setCal ..)).trans hhigh
  · exact fun j hj => calEntry_setCal_ne _ _ hj
  · exact ((((Only.refl _ s).setReg ..).step (mask_rte rfl _ _)).setFld ..).tblStart _
  · exact ((KeepsRegs.refl _ s).setReg w (by simp)).trans (KeepsRegs.setFld (KeepsRegs.refl _ _) 30 30 0 (by simp))

/-- While a schedule runs the calendar stands (R263). -/
theorem schCalWrite_ignored (hrun : s.schedRunning = true) : Answers (.schCalWrite path v) s fun t => BusyFor s t aSCH_CAL_CMD ∧
    t.bit aSCH_EVENT 0 = true ∧ Only { regs := true, busy := true, hif := true, out := true, free := true } s t ∧
    KeepsRegs (aSCH_CAL_CMD :: blockRegs aSCH_EVENT) s t := by
  refine tbl_runs hmay rfl (by decide) (by decide) hidle hgo hop fun w => ⟨_, if_pos hrun, evt_busy .., evt_tim .., ?_,
    (((Only.refl _ s).setReg ..).evt ..).tblStart _, ((KeepsRegs.refl _ s).setReg w (by simp)).evt 12 (by decide) (by simp) |>.tblStart _⟩
  rw [tblStart_bit, evt_bit _ _ _ (by decide) (by decide), decide_eq_true rfl, Bool.or_true]
end
end

end Sys2Proof.Machine
end

section
/-! PROOFS. The command register of the policers (R208, R269, R270), and the tables' command registers together. -/

namespace Sys2Proof.Machine

/-! ## One policer -/

/-- A bit of a register that a number was put into. -/
theorem bit_setReg_ofNat (s : State) (o n : Nat) {i : Nat} (hi : i < 32) : (s.setReg o (BitVec.ofNat 32 n)).bit o i = bitOf n i := by
  rw [State.bit, reg_setReg]
  exact ofNat32_getLsbD n hi

/-- The flags and the rate that SCH_POL_DATA0 shows. -/
theorem polWord_fields (a b c : Bool) {cir : Nat} (hcir : cir < 2 ^ 20) :
    bitOf (b2n a * 2 ^ 31 + b2n b * 2 ^ 30 + b2n c * 2 ^ 29 + cir) 31 = a ∧
      bitOf (b2n a * 2 ^ 31 + b2n b * 2 ^ 30 + b2n c * 2 ^ 29 + cir) 30 = b ∧
      bitOf (b2n a * 2 ^ 31 + b2n b * 2 ^ 30 + b2n c * 2 ^ 29 + cir) 29 = c ∧
      bitsOf (b2n a * 2 ^ 31 + b2n b * 2 ^ 30 + b2n c * 2 ^ 29 + cir) 19 0 = cir := by
  simp only [bitsOf_eq_div_mod, bitOf, Nat.testBit_eq_decide_div_mod_eq, b2n]
  refine ⟨?_, ?_, ?_, ?_⟩ <;> cases a <;> cases b <;> cases c <;> simp <;> omega

/-- The data registers showing a policer's configuration, without error. -/
def State.polRead (s : State) (p : Policer) : State :=
  (((s.setReg aSCH_POL_DATA0 (BitVec.ofNat 32 (b2n p.enable * 2 ^ 31 + b2n p.ymark * 2 ^ 30 + b2n p.rmark * 2 ^ 29 + p.cir))).setReg
    aSCH_POL_DATA1 (BitVec.ofNat 32 p.cbs)).setReg aSCH_POL_DATA2 (BitVec.ofNat 32 p.ebs)).setFld aSCH_POL_CMD 30 30 0

section
variable (s : State) {p : Policer}

theorem polRead_reg (hcir : p.cir < 2 ^ 20) (hcbs : p.cbs < 2 ^ 24) (hebs : p.ebs < 2 ^ 24) :
    (s.polRead p).bit aSCH_POL_DATA0 31 = p.enable ∧ (s.polRead p).bit aSCH_POL_DATA0 30 = p.ymark ∧
      (s.polRead p).bit aSCH_POL_DATA0 29 = p.rmark ∧ (s.polRead p).fld aSCH_POL_DATA0 19 0 = p.cir ∧
      ((s.polRead p).reg aSCH_POL_DATA1).toNat = p.cbs ∧ ((s.polRead p).reg aSCH_POL_DATA2).toNat = p.ebs := by
  obtain ⟨h31, h30, h29, hrate⟩ := polWord_fields p.enable p.ymark p.rmark hcir
  have hdata : (s.polRead p).reg aSCH_POL_DATA0 = (s.setReg aSCH_POL_DATA0
      (BitVec.ofNat 32 (b2n p.enable * 2 ^ 31 + b2n p.ymark * 2 ^ 30 + b2n p.rmark * 2 ^ 29 + p.cir))).reg aSCH_POL_DATA0 := by
    rw [State.polRead, setFld_reg _ _ _ _ _ (by decide), reg_setReg_ne _ _ (by decide), reg_setReg_ne _ _ (by decide)]
  refine ⟨?_, ?_, ?_, ?_, ?_, ?_⟩
  · rw [bit_of_reg hdata, bit_setReg_ofNat _ _ _ (by decide), h31]
  · rw [bit_of_reg hdata, bit_setReg_ofNat _ _ _ (by decide), h30]
  · rw [bit_of_reg hdata, bit_setReg_ofNat _ _ _ (by decide), h29]
  · rw [fld_of_reg hdata, fld_setReg_ofNat _ _ _ _ (by decide), hrate]
  · rw [State.polRead, setFld_reg _ _ _ _ _ (by decide), reg_setReg_ne _ _ (by decide), reg_setReg, BitVec.toNat_ofNat]
    exact Nat.mod_eq_of_lt (hcbs.trans (by decide))
  · rw [State.polRead, setFld_reg _ _ _ _ _ (by decide), reg_setReg, BitVec.toNat_ofNat]
    exact Nat.mod_eq_of_lt (hebs.trans (by decide))

theorem polRead_mask (G : Fields) (hregs : G.regs) : (s.polRead p).mask G = s.mask G :=
  ((((Only.refl G s).setReg _ _ hregs).setReg _ _ hregs).setReg _ _ hregs).setFld _ _ _ _ hregs

theorem polRead_keepsRegs (p : Policer) :
    KeepsRegs [aSCH_POL_CMD, aSCH_POL_DATA0, aSCH_POL_DATA1, aSCH_POL_DATA2] s (s.polRead p) :=
  ((((KeepsRegs.refl _ s).setReg _ (by simp)).setReg _ (by simp)).setReg _ (by simp)).setFld _ _ _ (by simp)
end

/-- A policer entry with the configuration of the data words `d`, CBS and EBS at PCLK time `clk` (R270): full buckets where it
is newly enabled, else the tokens earned by then, up to the new sizes. -/
def Policer.configured (p : Policer) (d cbs ebs clk : Nat) : Policer :=
  let g := p.grow (clk - p.clk)
  { g with
    enable := bitOf d 31, ymark := bitOf d 30, rmark := bitOf d 29, cir := bitsOf d 19 0, cbs := cbs, ebs := ebs
    c := if bitOf d 31 && !p.enable then cbs * 65536 else min g.c (cbs * 65536)
    e := if bitOf d 31 && !p.enable then ebs * 65536 else min g.e (ebs * 65536)
    clk := clk }

section
variable {p : Policer} {d : Nat} (cbs ebs clk : Nat)

/-- A policer that is enabled starts with full buckets. -/
theorem configured_filled (hon : bitOf d 31 = true) (hwas : p.enable = false) :
    (p.configured d cbs ebs clk).c = cbs * 65536 ∧ (p.configured d cbs ebs clk).e = ebs * 65536 := by
  simp [Policer.configured, hon, hwas]

/-- One that stays enabled keeps what it has earned, up to the new sizes. -/
theorem configured_kept (hwas : p.enable = true) :
    (p.configured d cbs ebs clk).c = min (p.grow (clk - p.clk)).c (cbs * 65536) ∧
      (p.configured d cbs ebs clk).e = min (p.grow (clk - p.clk)).e (ebs * 65536) := by
  simp [Policer.configured, hwas]
end

/-! ## The command register of the policers -/

section
variable {s : State} {path : Path} {v : Word} {i : Nat} (hmay : s.mayWrite path aSCH_POL_CMD = true)
  (hidle : s.tblBusy aSCH_POL_CMD = false) (hgo : bitOf v.toNat 16 = true)
include hmay hidle hgo

/-- A command that names no policer sets the error bit. -/
theorem schPol_outside {com : Instr} {op : Bool} {ignored go : State → State}
    (hexec : exec com s = .next (s.tblOp path aSCH_POL_CMD v op ignored go)) (hop : bitOf v.toNat 20 = op)
    (hgoes : ∀ u, go u = u.setFld aSCH_POL_CMD 30 30 1) :
    Answers com s fun t => BusyFor s t aSCH_POL_CMD ∧ t.bit aSCH_POL_CMD 30 = true ∧
      Only { regs := true, busy := true, free := true } s t :=
  tbl_runs hmay hexec (by decide) (by decide) hidle hgo hop fun w => ⟨_, hgoes _, rfl, rfl,
    (tblStart_bit ..).trans (setFld_bit _ _ (by decide) 1), (((Only.refl _ s).setReg ..).setFld ..).tblStart _⟩

section
variable (hi : bitsOf v.toNat 12 0 = i) (hsize : i < 5376)
include hi hsize

/-- A read of a policer shows its configuration in the data registers. -/
theorem schPolRead_shows (hop : bitOf v.toNat 20 = false) {p : Policer} (hp : s.policer i = p) (hcir : p.cir < 2 ^ 20)
    (hcbs : p.cbs < 2 ^ 24) (hebs : p.ebs < 2 ^ 24) :
    Answers (.schPolRead path v) s fun t => BusyFor s t aSCH_POL_CMD ∧
      t.bit aSCH_POL_DATA0 31 = p.enable ∧ t.bit aSCH_POL_DATA0 30 = p.ymark ∧ t.bit aSCH_POL_DATA0 29 = p.rmark ∧
      t.fld aSCH_POL_DATA0 19 0 = p.cir ∧ (t.reg aSCH_POL_DATA1).toNat = p.cbs ∧ (t.reg aSCH_POL_DATA2).toNat = p.ebs ∧
      Only { regs := true, busy := true, free := true } s t ∧
      KeepsRegs [aSCH_POL_CMD, aSCH_POL_DATA0, aSCH_POL_DATA1, aSCH_POL_DATA2] s t := by
  subst hi
  refine tbl_runs hmay rfl (by decide) (by decide) hidle hgo hop fun w =>
    ⟨(s.setReg aSCH_POL_CMD w).polRead p, ?_, rfl, rfl, ?_⟩
  · subst hp
    exact if_neg (Nat.not_le.mpr hsize)
  obtain ⟨henable, hymark, hrmark, hrate, hcommitted, hexcess⟩ := polRead_reg (s.setReg aSCH_POL_CMD w) hcir hcbs hebs
  rw [tblStart_bit, tblStart_bit, tblStart_bit, tblStart_fld, tblStart_reg, tblStart_reg]
  exact ⟨henable, hymark, hrmark, hrate, hcommitted, hexcess,
    (((Only.refl _ s).setReg ..).step (polRead_mask _ _ rfl)).tblStart _,
    KeepsRegs.tblStart (((KeepsRegs.refl _ s).setReg w (by simp)).trans ((polRead_keepsRegs _ p).mono (by simp))) _⟩

/-- A write of a policer stores the data registers' fields there and nowhere else, and keeps its counters. -/
theorem schPolWrite_stores (hop : bitOf v.toNat 20 = true) :
    Answers (.schPolWrite path v) s fun t => BusyFor s t aSCH_POL_CMD ∧
      t.policer i = (s.policer i).configured (s.reg aSCH_POL_DATA0).toNat (s.fld aSCH_POL_DATA1 23 0) (s.fld aSCH_POL_DATA2 23 0)
        (s.tim.clk / 5) ∧ (∀ j, j ≠ i → t.policer j = s.policer j) ∧ t.bit aSCH_POL_CMD 30 = false ∧
      Only { regs := true, busy := true, rte := true, free := true } s t ∧ KeepsRegs [aSCH_POL_CMD] s t := by
  subst hi
  have hdata (w : Word) {o : Nat} (ho : o ≠ aSCH_POL_CMD) : (s.setReg aSCH_POL_CMD w).reg o = s.reg o := reg_setReg_ne _ _ ho
  refine tbl_runs hmay rfl (by decide) (by decide) hidle hgo hop fun w =>
    ⟨((s.setReg aSCH_POL_CMD w).setPolicer (bitsOf v.toNat 12 0) ((s.policer (bitsOf v.toNat 12 0)).configured
      (s.reg aSCH_POL_DATA0).toNat (s.fld aSCH_POL_DATA1 23 0) (s.fld aSCH_POL_DATA2 23 0) (s.tim.clk / 5))).setFld aSCH_POL_CMD 30 30 0,
      ?_, rfl, rfl, ?_, ?_, ?_, ?_, ?_⟩
  · refine (if_neg (Nat.not_le.mpr hsize)).trans ?_
    rw [hdata w (by decide : aSCH_POL_DATA0 ≠ aSCH_POL_CMD),
      fld_of_reg (hdata w (by decide : aSCH_POL_DATA1 ≠ aSCH_POL_CMD)),
      fld_of_reg (hdata w (by decide : aSCH_POL_DATA2 ≠ aSCH_POL_CMD))]
    rfl
  · exact policer_setPolicer ..
  · exact fun j hj => policer_setPolicer_ne _ _ hj
  · exact (tblStart_bit ..).trans (setFld_bit _ _ (by decide) 0)
  · exact ((((Only.refl _ s).setReg ..).step (State.setPolicer_mask _ _ _ _ rfl)).setFld ..).tblStart _
  · exact ((KeepsRegs.refl _ s).setReg w (by simp)).trans (KeepsRegs.setFld (KeepsRegs.refl _ _) 30 30 0 (by simp))
end
end

end Sys2Proof.Machine
end

section
/-! PROOFS. The tables of the packet path (R183, R208, R238, R239, R262, R263, R269, R270). -/

namespace Sys2Proof.Machine

section
variable {s : State} {path : Path} {v : Word} {com : Instr}

/-- A command of a busy table changes nothing but the event that says it was ignored. -/
def Ignored (com : Instr) (s : State) (ev bit : Nat) : Prop :=
  Answers com s fun t => t.bit ev bit = true ∧ Only { regs := true, hif := true, out := true } s t ∧ KeepsRegs (blockRegs ev) s t

theorem rteTbl_ignored (hmay : s.mayWrite path aRTE_TBL_CMD = true) (hbusy : s.tblBusy aRTE_TBL_CMD = true)
    (hcom : com ∈ [Instr.rteTblRead path v, .rteTblWrite path v]) : Ignored com s aRTE_EVENT 1 := by
  obtain rfl | rfl := List.mem_pair.mp hcom
  · exact tbl_ignores hmay rfl (by decide) (by decide) (evt_keepsRegs s 10 _ (by decide)) hbusy
  · exact tbl_ignores hmay rfl (by decide) (by decide) (evt_keepsRegs s 10 _ (by decide)) hbusy

theorem schCal_ignored (hmay : s.mayWrite path aSCH_CAL_CMD = true) (hbusy : s.tblBusy aSCH_CAL_CMD = true)
    (hcom : com ∈ [Instr.schCalRead path v, .schCalWrite path v]) : Ignored com s aSCH_EVENT 0 := by
  obtain rfl | rfl := List.mem_pair.mp hcom
  · exact tbl_ignores hmay rfl (by decide) (by decide) (evt_keepsRegs s 12 _ (by decide)) hbusy
  · exact tbl_ignores hmay rfl (by decide) (by decide) (evt_keepsRegs s 12 _ (by decide)) hbusy

theorem schPol_ignored (hmay : s.mayWrite path aSCH_POL_CMD = true) (hbusy : s.tblBusy aSCH_POL_CMD = true)
    (hcom : com ∈ [Instr.schPolRead path v, .schPolWrite path v]) : Ignored com s aSCH_EVENT 0 := by
  obtain rfl | rfl := List.mem_pair.mp hcom
  · exact tbl_ignores hmay rfl (by decide) (by decide) (evt_keepsRegs s 12 _ (by decide)) hbusy
  · exact tbl_ignores hmay rfl (by decide) (by decide) (evt_keepsRegs s 12 _ (by decide)) hbusy

theorem bpmEvent_not_pending {die : Nat} (hdie : die < 2) : aBPM_EVENT die ∉ evtRegs (aHIF_FN_EVENT 0) := by
  interval_cases die <;> decide

theorem bpmOwn_ignored {die : Nat} (hdie : die < 2) (hmay : s.mayWrite path (aBPM_OWN_CMD die) = true)
    (hbusy : s.tblBusy (aBPM_OWN_CMD die) = true) (hcom : com ∈ [Instr.bpmOwnRead path die v, .bpmOwnWrite path die v]) :
    Ignored com s (aBPM_EVENT die) 0 := by
  have hpf := bpmEvent_not_pending hdie
  obtain rfl | rfl := List.mem_pair.mp hcom
  · exact tbl_ignores hmay (congrArg Host.Outcome.next (if_pos hdie)) (by decide) hpf (evt_keepsRegs s 11 _ (by decide)) hbusy
  · exact tbl_ignores hmay (congrArg Host.Outcome.next (if_pos hdie)) (by decide) hpf (evt_keepsRegs s 11 _ (by decide)) hbusy
end

/-- Settles O47, table by table: a command that finds its table busy is ignored, and one that does not runs on the state whose command
register it has stored. -/
theorem pathTables : Obligations.PathTables := by
  intro s path v read write busyFor
  refine ⟨?_, ?_, ?_, ?_, ?_⟩
  · intro cmd ev bit coms hmem hmay hbusy com hcom
    simp only [List.mem_cons, Prod.mk.injEq, List.not_mem_nil, or_false] at hmem
    obtain ⟨rfl, rfl, rfl, rfl⟩ | ⟨rfl, rfl, rfl, rfl⟩ | ⟨rfl, rfl, rfl, rfl⟩ | ⟨rfl, rfl, rfl, rfl⟩ |
      ⟨rfl, rfl, rfl, rfl⟩ := hmem
    · exact rteTbl_ignored hmay hbusy hcom
    · exact schCal_ignored hmay hbusy hcom
    · exact schPol_ignored hmay hbusy hcom
    · exact bpmOwn_ignored (by decide) hmay hbusy hcom
    · exact bpmOwn_ignored (by decide) hmay hbusy hcom
  · intro hmay hidle tb i d
    refine ⟨?_, ?_, ?_, ?_, ?_⟩
    · rintro ⟨hgo, hop⟩ hsize hword
      exact rteTblRead_shows hmay hidle hgo rfl rfl hsize hop hword
    · rintro ⟨hgo, hop⟩ hsize
      exact rteTbl_outside hmay hidle hgo rfl hop fun u => if_pos hsize
    · rintro ⟨hgo, hop⟩ hsize
      exact rteTbl_outside hmay hidle hgo rfl hop fun u => if_pos hsize
    · rintro ⟨hgo, hop⟩ hsize himage hpav
      exact rteTblWrite_stores hmay hidle hgo rfl rfl hsize hop rfl himage hpav
    · rintro ⟨hgo, hop⟩ hsize hkept
      exact rteTblWrite_ignored hmay hidle hgo rfl rfl hsize hop rfl hkept
  · intro die hdie hmay hidle f i k o rmin smax beyond
    refine ⟨?_, ?_, ?_⟩
    · rintro ⟨hgo, hop⟩ hrmin hsmax hhshr hhrsv hnobuf
      exact bpmOwnRead_shows hdie hmay hidle hgo rfl hop rfl hrmin hsmax hhshr hhrsv hnobuf
    · rintro ⟨hgo, hop⟩ hfits
      exact bpmOwnWrite_stores hdie hmay hidle hgo rfl hop rfl rfl rfl rfl hfits
    · rintro ⟨hgo, hop⟩ hbeyond
      exact bpmOwnWrite_refused hdie hmay hidle hgo rfl hop rfl rfl rfl hbeyond
  · intro hmay hidle i x
    refine ⟨?_, ?_, ?_⟩
    · rintro ⟨hgo, hop⟩
      exact schCalRead_shows hmay hidle hgo rfl hop rfl
    · rintro ⟨hgo, hop⟩ hrun
      exact schCalWrite_stores hmay hidle hgo hop rfl hrun
    · rintro ⟨hgo, hop⟩ hrun
      exact schCalWrite_ignored hmay hidle hgo hop hrun
  · intro hmay hidle i p d cbs ebs
    refine ⟨?_, ?_, fun hsize => ⟨?_, ?_⟩⟩
    · rintro ⟨hgo, hop⟩ hsize hcir hcbs hebs
      exact schPolRead_shows hmay hidle hgo rfl hsize hop rfl hcir hcbs hebs
    · rintro ⟨hgo, hop⟩ hsize
      obtain ⟨t, hexec, hbusy, hpol, hothers, hclear, honly, hkeeps⟩ := schPolWrite_stores hmay hidle hgo rfl hsize hop
      refine ⟨t, hexec, hbusy, ?_⟩
      change _ ∧ _
      rw [hpol]
      exact ⟨rfl, rfl, rfl, rfl, rfl, rfl, configured_filled _ _ _, fun _ => configured_kept _ _ _, rfl, rfl,
        hothers, hclear, honly, hkeeps⟩
    · rintro ⟨hgo, hop⟩
      exact schPol_outside hmay hidle hgo rfl hop fun u => if_pos hsize
    · rintro ⟨hgo, hop⟩
      exact schPol_outside hmay hidle hgo rfl hop fun u => if_pos hsize

end Sys2Proof.Machine
end

section
/-! PROOFS. CREDIT_SEND: the receiver's counts made ready (R195, R197). -/

namespace Sys2Proof.Machine

/-! ## What discarding the damaged packets leaves of an egress (R170) -/

section
variable (s : State)

theorem dropBad_ready (h : Held) (e : Nat) : ((s.dropBad h).egr e).ready = (s.egr e).ready := by
  have hdrop : (if h.cause = 0 then s else s.drop h.cause h.ingress h.pkt).rte = s.rte := by
    split
    · rfl
    · exact drop_rte ..
  calc ((s.dropBad h).egr e).ready = ((if h.cause = 0 then s else s.drop h.cause h.ingress h.pkt).egr e).ready :=
        (congrArg Egress.ready ((release_frames _ h).egr e) :)
    _ = (s.egr e).ready := congrArg Egress.ready (egr_congr hdrop e)

/-- An egress put in another's place keeps what is ready, where the two have the same ready. -/
theorem setEgr_ready {f : Nat} {x : Egress} (h : x.ready = (s.egr f).ready) (e : Nat) : ((s.setEgr f x).egr e).ready = (s.egr e).ready := by
  by_cases he : e = f
  · rw [he, egr_setEgr, h]
  · rw [egr_setEgr_ne _ _ he]

theorem endQueued_ready (f e : Nat) : ((s.endQueued f).egr e).ready = (s.egr e).ready := by
  unfold State.endQueued
  dsimp only
  split
  · rfl
  · refine foldl_keeps (P := fun u => (u.egr e).ready = (s.egr e).ready) (fun u h _ hu => ?_) ?_
    · refine (dropBad_ready _ h e).trans (Eq.trans ?_ hu)
      exact setEgr_ready u (by rfl) e
    · exact setEgr_ready s (by rfl) e

theorem endDamaged_ready (e : Nat) : (s.endDamaged.egr e).ready = (s.egr e).ready := by
  unfold State.endDamaged
  dsimp only
  refine foldl_keeps (P := fun u => (u.egr e).ready = (s.egr e).ready) (fun u f _ hu => (endQueued_ready u f e).trans hu) ?_
  exact foldl_keeps (P := fun u => (u.egr e).ready = (s.egr e).ready) (fun u h _ hu => (dropBad_ready u h e).trans hu) rfl

theorem endDamaged_only : Only { regs := true, hif := true, log := true, rte := true, out := true } s s.endDamaged :=
  State.endDamaged_mask s _ rfl rfl rfl rfl rfl

@[simp] theorem endDamaged_tim : s.endDamaged.tim = s.tim := eq_of_mask State.tim (endDamaged_only s) fun _ => rfl

@[simp] theorem endDamaged_sub (p k : Nat) : s.endDamaged.sub p k = s.sub p k :=
  (eq_of_mask (State.sub · p k) (endDamaged_only s) fun _ => rfl :)
end

/-! ## The credits that have returned (R195) -/

section
variable (s : State) (e : Nat)

/-- Credits that return change the counts alone. -/
theorem foldl_creditBack (l : List (Nat × Nat × Nat)) (x : Egress) :
    l.foldl (fun x o => x.creditBack o.1 o.2.1) x = { x with rxCum := (l.foldl (fun x o => x.creditBack o.1 o.2.1) x).rxCum } := by
  induction l generalizing x with
  | nil => rfl
  | cons o l ih => exact ih (x.creditBack o.1 o.2.1)

theorem creditSettle_ready : ((s.creditSettle e).egr e).ready = (s.egr e).ready := by
  rw [State.creditSettle, egr_setEgr]
  dsimp only
  rw [foldl_creditBack]

theorem creditSettle_owed : ∀ o ∈ ((s.creditSettle e).egr e).owed, s.tim.clk < o.2.2 := by
  intro o ho
  rw [State.creditSettle, egr_setEgr] at ho
  exact of_decide_eq_true (List.mem_filter.mp ho).2

theorem creditSettle_of_owes_nothing (h : (s.egr e).owed = []) : ((s.creditSettle e).egr e).rxCum = (s.egr e).rxCum := by
  rw [State.creditSettle, egr_setEgr, h]
  rfl
end

/-! ## A packet made ready (R143, R266) -/

section
variable (s : State) (e : Nat) (p : Pkt)

@[simp] theorem wakeQueued_rte (port sub : Nat) : (s.wakeQueued port sub).rte = s.rte :=
  eq_of_mask State.rte (State.wakeQueued_mask s port sub { regs := true, hif := true, subs := true, out := true } rfl rfl rfl rfl)
    fun _ => rfl

@[simp] theorem wakeQueued_tim (port sub : Nat) : (s.wakeQueued port sub).tim = s.tim :=
  eq_of_mask State.tim (State.wakeQueued_mask s port sub { regs := true, hif := true, subs := true, out := true } rfl rfl rfl rfl)
    fun _ => rfl

theorem makeReady_egr : (s.makeReady e p).egr e = { s.egr e with ready := (s.egr e).ready ++ [p] } :=
  (egr_congr (wakeQueued_rte ..) e).trans (egr_setEgr ..)

theorem makeReady_egr_ne {f : Nat} (h : f ≠ e) : (s.makeReady e p).egr f = s.egr f :=
  (egr_congr (wakeQueued_rte ..) f).trans (egr_setEgr_ne _ _ h)

@[simp] theorem makeReady_tim : (s.makeReady e p).tim = s.tim := wakeQueued_tim ..

/-- A sub-port that is UP and has not asked to rest is not woken. -/
theorem wakeQueued_of_up {port sub : Nat} (hup : (s.sub port sub).state = 4) (hasked : (s.sub port sub).asked = false) :
    s.wakeQueued port sub = s := by
  unfold State.wakeQueued State.wakeReq
  simp [hup, hasked]

theorem makeReady_of_up (hup : (s.sub (e / 8) (e % 8)).state = 4) (hasked : (s.sub (e / 8) (e % 8)).asked = false) :
    s.makeReady e p = s.setEgr e { s.egr e with ready := (s.egr e).ready ++ [p] } :=
  wakeQueued_of_up (s.setEgr e _) hup hasked
end

/-! ## CREDIT_SEND -/

/-- A CREDIT packet ready on an egress, and its counts remembered (R197). -/
def State.creditReady (s : State) (e : Nat) : State :=
  let s := s.makeReady e (linkPkt 0x3E false 0 (s.creditPayload e))
  s.setEgr e { s.egr e with rxSent := (s.egr e).rxCum }

section
variable (s : State) (e : Nat)

theorem creditReady_egr : (s.creditReady e).egr e =
    { s.egr e with ready := (s.egr e).ready ++ [linkPkt 0x3E false 0 (s.creditPayload e)], rxSent := (s.egr e).rxCum } := by
  rw [State.creditReady, egr_setEgr, makeReady_egr]

theorem creditReady_egr_ne {f : Nat} (h : f ≠ e) : (s.creditReady e).egr f = s.egr f :=
  (egr_setEgr_ne _ _ h).trans (makeReady_egr_ne _ _ _ h)

theorem creditReady_tim : (s.creditReady e).tim = s.tim := makeReady_tim ..

theorem creditReady_only : Only { regs := true, hif := true, subs := true, rte := true, out := true } s (s.creditReady e) :=
  ((Only.refl _ s).step (State.makeReady_mask _ _ _ _ rfl rfl rfl rfl rfl)).step (State.setEgr_mask _ _ _ _ rfl)

/-- On a sub-port that is UP and has not asked to rest nothing else happens. -/
theorem creditReady_only_of_up (hup : (s.sub (e / 8) (e % 8)).state = 4) (hasked : (s.sub (e / 8) (e % 8)).asked = false) :
    Only { rte := true } s (s.creditReady e) := by
  rw [State.creditReady, makeReady_of_up _ _ _ hup hasked]
  exact ((Only.refl _ s).step (State.setEgr_mask _ _ _ _ rfl)).step (State.setEgr_mask _ _ _ _ rfl)
end

section
variable {s : State} {port sub : Nat} (time : Nat)

/-- A sub-port whose link is up takes CREDIT_SEND. -/
theorem exec_creditSend (hsub : s.hasSub port sub = true) (hport : port < 80) (h4 : 4 ≤ (s.sub port sub).state)
    (h7 : (s.sub port sub).state ≤ 7) : exec (.creditSend port sub time) s =
      .next (((s.advTo time).endDamaged.creditSettle (8 * port + sub)).creditReady (8 * port + sub)) := by
  have hlive : (s.isUp port sub || resting (s.sub port sub).state) = true := by
    rw [State.isUp, resting, Bool.or_eq_true, Bool.and_eq_true, beq_iff_eq, decide_eq_true_eq, decide_eq_true_eq]
    omega
  exact congrArg _ (if_pos (by rw [hsub, hlive, decide_eq_true hport]; rfl))

theorem exec_creditSend_down (h4 : (s.sub port sub).state < 4) : exec (.creditSend port sub time) s = .next s := by
  have hdown : (s.isUp port sub || resting (s.sub port sub).state) = false := by
    rw [State.isUp, resting, Bool.or_eq_false_iff, Bool.and_eq_false_iff, beq_eq_false_iff_ne, decide_eq_false_iff_not]
    omega
  exact congrArg _ (if_neg (by rw [hdown, Bool.and_false]; exact Bool.false_ne_true))

/-- What CREDIT_SEND leaves. -/
theorem creditSend_answers (hsub : s.hasSub port sub = true) (hport : port < 80) (h4 : 4 ≤ (s.sub port sub).state)
    (h7 : (s.sub port sub).state ≤ 7) {e : Nat} (he : 8 * port + sub = e) {w u : State} (hw : (s.advTo time).endDamaged = w)
    (hu : w.creditSettle e = u) : Answers (.creditSend port sub time) s fun t =>
      (∃ p, (t.egr e).ready = (s.egr e).ready ++ [p] ∧ p.kind = 0x3E ∧ p.sched = false ∧
        p.payload = (t.egr e).rxCum.flatMap (natBe 4) ++ List.replicate 32 0) ∧
      (t.egr e).rxSent = (t.egr e).rxCum ∧ (t.egr e).rxCum = (u.egr e).rxCum ∧
      (∀ o ∈ (t.egr e).owed, t.tim.clk < o.2.2) ∧ ((w.egr e).owed = [] → (t.egr e).rxCum = (w.egr e).rxCum) ∧
      (∀ f, f ≠ e → t.egr f = w.egr f) ∧ t.tim = (s.advTo time).tim ∧
      Only { regs := true, tim := true, hif := true, log := true, subs := true, rte := true, out := true } s t ∧
      ((s.sub port sub).state = 4 → (s.sub port sub).asked = false → Only { rte := true } w t) := by
  have hexec := exec_creditSend time hsub hport h4 h7
  have hwtim : w.tim = (s.advTo time).tim := hw ▸ endDamaged_tim _
  have hready : (u.egr e).ready = (s.egr e).ready := by
    rw [← hu, creditSettle_ready, ← hw, endDamaged_ready]
    exact congrArg Egress.ready (egr_congr (eq_of_mask State.rte (State.advTo_mask s time { tim := true } rfl) fun _ => rfl) e)
  have husub (p k : Nat) : u.sub p k = s.sub p k := by
    calc u.sub p k = w.sub p k := hu ▸ rfl
      _ = (s.advTo time).sub p k := hw ▸ endDamaged_sub ..
      _ = s.sub p k := (eq_of_mask (State.sub · p k) (State.advTo_mask s time { tim := true } rfl) fun _ => rfl :)
  have hutim : u.tim = w.tim := hu ▸ rfl
  have hwu : Only { rte := true } w u := hu ▸ State.creditSettle_mask w e _ rfl
  rw [he, hw, hu] at hexec
  refine ⟨_, hexec, ⟨linkPkt 0x3E false 0 (u.creditPayload e), ?_, rfl, rfl, ?_⟩, ?_, ?_, ?_, ?_, ?_, ?_, ?_, ?_⟩
  · rw [creditReady_egr, hready]
  · rw [creditReady_egr]
    rfl
  · rw [creditReady_egr]
  · rw [creditReady_egr]
  · rw [creditReady_egr, creditReady_tim, hutim, ← hu]
    exact creditSettle_owed w e
  · intro hnone
    rw [creditReady_egr, ← hu]
    exact creditSettle_of_owes_nothing w e hnone
  · intro f hf
    rw [creditReady_egr_ne _ _ hf, ← hu]
    exact egr_setEgr_ne _ _ hf
  · rw [creditReady_tim, hutim, hwtim]
  · subst hu hw
    exact ((((Only.refl _ s).step (State.advTo_mask _ _ _ rfl)).step (State.endDamaged_mask _ _ rfl rfl rfl rfl rfl)).step
      (State.creditSettle_mask _ _ _ rfl)).step (State.makeReady_mask _ _ _ _ rfl rfl rfl rfl rfl) |>.step (State.setEgr_mask _ _ _ _ rfl)
  · intro hup hasked
    have hlt := (lt_of_hasSub hsub).2
    have hdiv : e / 8 = port := by omega
    have hmod : e % 8 = sub := by omega
    refine (creditReady_only_of_up u e ?_ ?_).trans hwu
    · rw [hdiv, hmod, husub, hup]
    · rw [hdiv, hmod, husub, hasked]
end

end Sys2Proof.Machine
end

section
/-! PROOFS. CREDIT_RX: the counts that lie ahead of the view are taken (R197, R198, R457, R655). -/

namespace Sys2Proof.Machine

/-! ## The counts of one packet -/

/-- By how much a count leads the view of it, as serial numbers (R198): one that lies ahead leads by less than 2³¹. -/
def cumLead (old new : Nat) : Nat := (new + 2 ^ 32 - old) % 2 ^ 32

/-- From `s` to `t` the first `n` counts of `got` were taken on egress `e` where they lie ahead, and the stalls of those that moved have
ended. -/
structure CreditsTaken (s t : State) (e : Nat) (got : Nat → Nat) (n : Nat) : Prop where
  length  : (t.egr e).cum.length = 8
  cum     : ∀ v, v < 8 → (t.egr e).cum.getD v 0 =
    if v < n ∧ cumLead ((s.egr e).cum.getD v 0) (got v) < 2 ^ 31 then got v else (s.egr e).cum.getD v 0
  ended   : ∀ v, v < n → cumLead ((s.egr e).cum.getD v 0) (got v) < 2 ^ 31 → cumLead ((s.egr e).cum.getD v 0) (got v) ≠ 0 →
    8 * e + v ∉ t.log.stalled
  stalled : ∀ x ∈ t.log.stalled, x ∈ s.log.stalled
  sent    : (t.egr e).sent = (s.egr e).sent
  others  : ∀ f, f ≠ e → t.egr f = s.egr f

section
variable {s t : State} {e n : Nat} {got : Nat → Nat}

theorem CreditsTaken.refl (hlen : (s.egr e).cum.length = 8) : CreditsTaken s s e got 0 where
  length := hlen
  cum v _ := (if_neg (by simp)).symm
  ended v hv := absurd hv (Nat.not_lt_zero v)
  stalled _ := id
  sent := rfl
  others _ _ := rfl

/-- A count that lies ahead sets the view, and ends the stall where it moved. -/
theorem creditIn_ahead {new : Nat} (h : cumLead ((s.egr e).cum.getD n 0) new < 2 ^ 31) :
    (s.creditIn e n new).egr e = { s.egr e with cum := (s.egr e).cum.set n new } ∧
      (s.creditIn e n new).log.stalled = if cumLead ((s.egr e).cum.getD n 0) new = 0 then s.log.stalled
        else s.log.stalled.filter (· != 8 * e + n) := by
  unfold State.creditIn cumLead at *
  dsimp only
  rw [if_pos h]
  split
  · exact ⟨egr_setEgr .., rfl⟩
  · exact ⟨egr_setEgr .., rfl⟩

theorem creditIn_behind {new : Nat} (h : ¬ cumLead ((s.egr e).cum.getD n 0) new < 2 ^ 31) : s.creditIn e n new = s := if_neg h

theorem creditIn_others (s : State) (e n new : Nat) {f : Nat} (hf : f ≠ e) : (s.creditIn e n new).egr f = s.egr f := by
  unfold State.creditIn
  dsimp only
  split
  · split
    · exact egr_setEgr_ne _ _ hf
    · exact egr_setEgr_ne _ _ hf
  · rfl

/-- One count more. -/
theorem CreditsTaken.creditIn (h : CreditsTaken s t e got n) (hn : n < 8) : CreditsTaken s (t.creditIn e n (got n)) e got (n + 1) := by
  have hview : (t.egr e).cum.getD n 0 = (s.egr e).cum.getD n 0 := (h.cum n hn).trans (if_neg (by simp))
  by_cases hahead : cumLead ((t.egr e).cum.getD n 0) (got n) < 2 ^ 31
  · obtain ⟨hegr, hstalled⟩ := creditIn_ahead hahead
    rw [hview] at hahead hstalled
    have hsub : ∀ x ∈ (t.creditIn e n (got n)).log.stalled, x ∈ t.log.stalled := by
      rw [hstalled]
      split
      · exact fun _ => id
      · exact fun x hx => (List.mem_filter.mp hx).1
    refine ⟨?_, fun v hv => ?_, fun v hv hlead hmoved => ?_, fun x hx => h.stalled x (hsub x hx), ?_, fun f hf => ?_⟩
    · rw [hegr]
      simpa using h.length
    · rw [hegr]
      by_cases hvn : v = n
      · subst hvn
        rw [if_pos ⟨Nat.lt_succ_self v, hahead⟩]
        simp [List.getD_eq_getElem?_getD, h.length, hv]
      · have hkept : ((t.egr e).cum.set n (got n)).getD v 0 = (t.egr e).cum.getD v 0 := by
          simp [List.getD_eq_getElem?_getD, List.getElem?_set_ne (Ne.symm hvn)]
        have hlt : v < n + 1 ↔ v < n := by omega
        simp only [hlt]
        exact hkept.trans (h.cum v hv)
    · by_cases hvn : v = n
      · subst hvn
        rw [hstalled, if_neg hmoved]
        simp
      · exact fun hmem => h.ended v (by omega) hlead hmoved (hsub _ hmem)
    · rw [hegr]
      exact h.sent
    · exact (creditIn_others t e n (got n) hf).trans (h.others f hf)
  · rw [creditIn_behind hahead]
    rw [hview] at hahead
    refine ⟨h.length, fun v hv => ?_, fun v hv hlead hmoved => ?_, h.stalled, h.sent, h.others⟩
    · rw [h.cum v hv]
      by_cases hvn : v = n
      · subst hvn
        rw [if_neg (by simp), if_neg fun hc => hahead hc.2]
      · have hlt : v < n + 1 ↔ v < n := by omega
        simp only [hlt]
    · have hvn : v ≠ n := by
        rintro rfl
        exact hahead hlead
      exact h.ended v (by omega) hlead hmoved

/-- The first `n` counts of a packet. -/
theorem creditsTaken_fold (hlen : (s.egr e).cum.length = 8) (hn : n ≤ 8) :
    CreditsTaken s ((List.range n).foldl (fun u v => u.creditIn e v (got v)) s) e got n := by
  induction n with
  | zero => exact .refl hlen
  | succ n ih =>
    rw [List.range_succ, List.foldl_append, List.foldl_cons, List.foldl_nil]
    exact (ih (by omega)).creditIn (by omega)
end

/-! ## CREDIT_RX -/

/-- A CREDIT packet that passes its checks, taken (R197, R198). -/
def State.creditTaken (s : State) (e : Nat) (w : List Byte) : State :=
  (List.range 8).foldl (fun s v => s.creditIn e v (payloadCum w v))
    (if (List.range 8).any fun v => s.creditAhead e v (payloadCum w v) then s.bump aRTE_CREDIT_RX 1 else s)

section
variable (s : State) (e : Nat) (w : List Byte)

theorem creditTaken_mask (G : Fields) (hregs : G.regs) (hlog : G.log) (hrte : G.rte) : (s.creditTaken e w).mask G = s.mask G := by
  refine (foldl_mask (fun u v => State.creditIn_mask u e v _ G hlog hrte) _ _).trans ?_
  split
  · exact State.bump_mask _ _ _ _ hregs
  · rfl

/-- A packet of which a count lies ahead is counted; another changes no register (R197). -/
theorem creditTaken_regs : (s.creditTaken e w).regs =
    if (List.range 8).any fun v => s.creditAhead e v (payloadCum w v) then (s.bump aRTE_CREDIT_RX 1).regs else s.regs := by
  have hfold (u : State) : ((List.range 8).foldl (fun u v => u.creditIn e v (payloadCum w v)) u).regs = u.regs :=
    eq_of_mask State.regs (foldl_mask (fun u v => State.creditIn_mask u e v _ { log := true, rte := true } rfl rfl) _ u) fun _ => rfl
  rw [State.creditTaken, hfold]
  split <;> rfl

theorem creditTaken_keepsRegs : KeepsRegs [aRTE_CREDIT_RX] s (s.creditTaken e w) := by
  refine KeepsRegs.trans (t := if (List.range 8).any fun v => s.creditAhead e v (payloadCum w v) then s.bump aRTE_CREDIT_RX 1 else s) ?_
    (keepsRegs_of_regs _ ((creditTaken_regs s e w).trans (apply_ite State.regs _ _ _).symm))
  split
  · exact bump_keepsRegs _ _ _
  · exact .refl _ s

theorem creditTaken_taken (hlen : (s.egr e).cum.length = 8) : CreditsTaken s (s.creditTaken e w) e (payloadCum w) 8 := by
  have hcounted : ∀ u : State, u.rte = s.rte → u.log = s.log →
      CreditsTaken s ((List.range 8).foldl (fun u v => u.creditIn e v (payloadCum w v)) u) e (payloadCum w) 8 := by
    intro u hrte hlog
    have hegr (f : Nat) : u.egr f = s.egr f := egr_congr hrte f
    obtain ⟨hlength, hcum, hended, hstalled, hsent, hothers⟩ :=
      creditsTaken_fold (s := u) (got := payloadCum w) ((hegr e).symm ▸ hlen) (Nat.le_refl 8)
    rw [hegr] at hsent
    simp only [hegr, hlog] at hcum hended hstalled hothers
    exact ⟨hlength, hcum, hended, hstalled, hsent, hothers⟩
  unfold State.creditTaken
  split
  · exact hcounted _ rfl rfl
  · exact hcounted s rfl rfl

theorem creditAhead_any : ((List.range 8).any fun v => s.creditAhead e v (payloadCum w v)) = true ↔
    ∃ v, v < 8 ∧ cumLead ((s.egr e).cum.getD v 0) (payloadCum w v) < 2 ^ 31 := by
  simp only [List.any_eq_true, List.mem_range, State.creditAhead, decide_eq_true_eq]
  rfl
end

section
variable {s : State} {port sub : Nat} {rx : RxPkt}

/-- A good packet of the kind looked for acts once its receiver has seen it (R172). -/
theorem linkRx_good {kind : Nat} (act : State → State) (hlive : s.rxLive port sub = true) (hkind : rx.pkt.kind = kind)
    (hver : rx.pkt.ver = 1) (hok : kindErr port rx.pkt = false) (hgood : classify rx = .good) :
    s.linkRx port sub kind rx act = act (s.lineBad port rx) := by
  have hcause : linkCause port rx = 0 := by
    simp [linkCause, hver, hok, hgood, Rx.code]
  rw [State.linkRx, if_neg (by simp [hlive, hkind])]
  exact if_pos hcause

theorem rxLive_of (hsub : s.hasSub port sub = true) (hport : port < 80) (h4 : 4 ≤ (s.sub port sub).state)
    (h7 : (s.sub port sub).state ≤ 7) : s.rxLive port sub = true := by
  simp [State.rxLive, hsub, hport, h4, h7]

theorem exec_creditRx (s : State) (port sub : Nat) (rx : RxPkt) : exec (.creditRx port sub rx) s =
    .next (s.linkRx port sub 0x3E rx fun u => u.creditTaken (8 * port + sub) rx.pkt.payload) := rfl

variable (s) in
/-- A good packet puts its receiver in RECOVER where a line error came with it (R457). -/
theorem lineBad_lr_of_good (hgood : classify rx = .good) (hport : port < 80) (l : Nat) : (s.lineBad port rx).lr l =
    if 64 ≤ port ∧ l = port - 64 ∧ rx.lineErr = true ∧ (s.lr l).recover = false then
      { s.lr l with recover := true, nak := true } else s.lr l := by
  have hbroken : rxBroken rx = rx.lineErr := by simp [rxBroken, hgood]
  by_cases hl : 64 ≤ port
  · obtain ⟨j, rfl⟩ := Nat.exists_eq_add_of_le hl
    rw [lineBad_lr s (by omega), hbroken, Nat.add_sub_cancel_left]
    by_cases hlj : l = j
    · subst hlj
      simp
    · simp [hlj]
  · rw [if_neg fun hc => hl hc.1, State.lineBad, if_neg (by simp [hl])]

/-- What CREDIT_RX leaves. -/
theorem creditRx_answers (hsub : s.hasSub port sub = true) (hport : port < 80) (h4 : 4 ≤ (s.sub port sub).state)
    (h7 : (s.sub port sub).state ≤ 7) (hver : rx.pkt.ver = 1) (hkind : rx.pkt.kind = 0x3E) (hok : kindErr port rx.pkt = false)
    (hgood : classify rx = .good) {e : Nat} (he : 8 * port + sub = e) (hlen : (s.egr e).cum.length = 8) {got old : Nat → Nat}
    (hgot : payloadCum rx.pkt.payload = got) (hold : (fun v => (s.egr e).cum.getD v 0) = old) :
    Answers (.creditRx port sub rx) s fun t =>
      (∀ v, v < 8 → (t.egr e).cum.getD v 0 = if cumLead (old v) (got v) < 2 ^ 31 then got v else old v) ∧
      (∀ v, v < 8 → cumLead (old v) (got v) < 2 ^ 31 → cumLead (old v) (got v) ≠ 0 → 8 * e + v ∉ t.log.stalled) ∧
      (∀ x ∈ t.log.stalled, x ∈ s.log.stalled) ∧ (t.egr e).sent = (s.egr e).sent ∧ (∀ f, f ≠ e → t.egr f = s.egr f) ∧
      ((∃ v, v < 8 ∧ cumLead (old v) (got v) < 2 ^ 31) → Counted s t aRTE_CREDIT_RX 1) ∧
      ((∀ v, v < 8 → ¬cumLead (old v) (got v) < 2 ^ 31) → t.regs = s.regs) ∧
      (∀ l, t.lr l = if 64 ≤ port ∧ l = port - 64 ∧ rx.lineErr = true ∧ (s.lr l).recover = false then
        { s.lr l with recover := true, nak := true } else s.lr l) ∧
      Only { regs := true, log := true, lrep := true, rte := true } s t ∧ KeepsRegs [aRTE_CREDIT_RX] s t := by
  subst hgot hold
  have hexec := (exec_creditRx s port sub rx).trans
    (congrArg _ (linkRx_good _ (rxLive_of hsub hport h4 h7) hkind hver hok hgood))
  rw [he] at hexec
  have hseen : Only { lrep := true } s (s.lineBad port rx) := State.lineBad_mask s port rx _ rfl
  have hegr (f : Nat) : (s.lineBad port rx).egr f = s.egr f := (eq_of_mask (State.egr · f) hseen fun _ => rfl :)
  have hlog : (s.lineBad port rx).log = s.log := eq_of_mask State.log hseen fun _ => rfl
  have hregs : (s.lineBad port rx).regs = s.regs := lineBad_regs s rx port
  obtain ⟨-, hcum, hended, hstalled, hsent, hothers⟩ :=
    creditTaken_taken (s.lineBad port rx) e rx.pkt.payload ((hegr e).symm ▸ hlen)
  have hany := creditAhead_any (s.lineBad port rx) e rx.pkt.payload
  have hafter := creditTaken_regs (s.lineBad port rx) e rx.pkt.payload
  have hlr (l : Nat) : ((s.lineBad port rx).creditTaken e rx.pkt.payload).lr l = (s.lineBad port rx).lr l :=
    (eq_of_mask (State.lr · l) (creditTaken_mask _ e rx.pkt.payload { regs := true, log := true, rte := true } rfl rfl rfl) fun _ => rfl :)
  simp only [hegr, hlog] at hcum hended hstalled hsent hothers hany
  refine ⟨_, hexec, fun v hv => ?_, hended, hstalled, hsent, hothers, fun hahead => ?_, fun hbehind => ?_, fun l => ?_, ?_, ?_⟩
  · refine (hcum v hv).trans ?_
    simp only [hv, true_and]
  · rw [if_pos (hany.mpr hahead)] at hafter
    exact .of_bump (keepsRegs_of_regs [] hregs) (keepsRegs_of_regs [] hafter) (List.not_mem_nil) (List.not_mem_nil)
  · rw [if_neg fun hc => ?_, hregs] at hafter
    · exact hafter
    · obtain ⟨v, hv, hlead⟩ := hany.mp hc
      exact hbehind v hv hlead
  · exact (hlr l).trans (lineBad_lr_of_good s hgood hport l)
  · exact ((Only.refl _ s).step (State.lineBad_mask _ _ _ _ rfl)).step (creditTaken_mask _ _ _ _ rfl rfl rfl)
  · exact (keepsRegs_of_regs _ hregs).trans (creditTaken_keepsRegs _ _ _)
end

end Sys2Proof.Machine
end

section
/-! PROOFS. CREDIT_STALL: a wait for credit counted and logged once (R655). -/

namespace Sys2Proof.Machine

/-- A wait of `n` packets for the credit of one VC, counted and logged (R655). -/
def State.stallNoted (s : State) (e vc n : Nat) : State :=
  let s := { s with log := { s.log with stalled := (8 * e + vc) :: s.log.stalled } }
  ((s.bump aLOG_STALLS 1).evt 6 aLOG_EVENT 3).offer 0x11 0 (portDie (e / 8)) 0x80 (e + vc * 2 ^ 16) n 0 0

section
variable (s : State) (e vc n : Nat)

theorem stallNoted_stalled : (s.stallNoted e vc n).log.stalled = (8 * e + vc) :: s.log.stalled := by
  rw [State.stallNoted, offer_log, evt_log]
  rfl

theorem stallNoted_only : Only { regs := true, hif := true, log := true, out := true } s (s.stallNoted e vc n) :=
  (((Only.refl _ s).step (mask_log rfl _ _)).step (State.bump_mask _ _ _ _ rfl)).evt .. |>.step
    (State.offer_mask _ _ _ _ _ _ _ _ _ _ rfl rfl rfl rfl)

theorem stallNoted_tim : (s.stallNoted e vc n).tim = s.tim := by
  rw [State.stallNoted, offer_tim, evt_tim]
  rfl

theorem stallNoted_bit : (s.stallNoted e vc n).bit aLOG_EVENT 3 = true := by
  rw [State.stallNoted, offer_logEvent_bit _ _ _ _ _ _ _ _ _ (by decide) (by decide), evt_bit _ _ _ (by decide) (by decide),
    decide_eq_true rfl, Bool.or_true]

theorem stallNoted_keepsRegs_counted : KeepsRegs logRegs (s.bump aLOG_STALLS 1) (s.stallNoted e vc n) := by
  have hstalled : KeepsRegs logRegs (s.bump aLOG_STALLS 1)
      (({ s with log := { s.log with stalled := (8 * e + vc) :: s.log.stalled } } : State).bump aLOG_STALLS 1) :=
    keepsRegs_of_regs _ rfl
  exact (hstalled.trans ((evt_keepsRegs _ 6 aLOG_EVENT (by decide)).mono (List.subset_cons_self _ _))).trans
    (offer_keepsRegs _ _ _ _ _ _ _ _ _)

theorem stallNoted_keepsRegs : KeepsRegs (aLOG_STALLS :: logRegs) s (s.stallNoted e vc n) :=
  ((bump_keepsRegs s aLOG_STALLS 1).mono (by simp)).trans
    ((stallNoted_keepsRegs_counted s e vc n).mono (List.subset_cons_self _ _))

theorem stallNoted_logged (he : e < 640) (hvc : vc < 8) : Logged s (s.stallNoted e vc n)
    ⟨s.edgeNs, 0, 0x11, 0, portDie (e / 8), 0x80, e + vc * 2 ^ 16, n % 2 ^ 32, 0, 0⟩ := by
  intro hroom
  have hlogged := offer_logged ((({ s with log := { s.log with stalled := (8 * e + vc) :: s.log.stalled } } : State).bump
    aLOG_STALLS 1).evt 6 aLOG_EVENT 3) 0x11 0 (portDie (e / 8)) 0x80 (e + vc * 2 ^ 16) n 0 0 (by rw [evt_log]; exact hroom)
  have hword : (e + vc * 2 ^ 16) % 2 ^ 32 = e + vc * 2 ^ 16 := Nat.mod_eq_of_lt (by omega)
  rw [evt_tim, evt_log, State.edgeNs, evt_tim, hword] at hlogged
  exact hlogged
end

section
variable {s : State} {e vc : Nat}

/-- What CREDIT_STALL leaves where a packet waits and the wait was not counted. -/
theorem creditStall_answers (he : e < 640) (hvc : vc < 8) (hnew : 8 * e + vc ∉ s.log.stalled) (hwait : 0 < s.waiting e vc) {w : State}
    (hw : s.advTo (s.nowAt (s.stallAt e vc)) = w) : Answers (.creditStall e vc) s fun t =>
      t.log.stalled = (8 * e + vc) :: s.log.stalled ∧ Counted s t aLOG_STALLS 1 ∧ t.bit aLOG_EVENT 3 = true ∧
      t.tim.now = w.tim.now ∧
      Logged w t ⟨w.edgeNs, 0, 0x11, 0, portDie (e / 8), 0x80, e + vc * 2 ^ 16, s.waiting e vc % 2 ^ 32, 0, 0⟩ ∧
      Only { regs := true, hif := true, log := true, out := true } w t ∧ KeepsRegs (aLOG_STALLS :: logRegs) s t := by
  subst hw
  have hregs : KeepsRegs [] s (s.advTo (s.nowAt (s.stallAt e vc))) := keepsRegs_of_regs _ (advTo_regs s _)
  have hlog : (s.advTo (s.nowAt (s.stallAt e vc))).log = s.log := eq_of_mask State.log (advTo_only s _) fun _ => rfl
  refine ⟨(s.advTo (s.nowAt (s.stallAt e vc))).stallNoted e vc (s.waiting e vc),
    congrArg _ (if_pos (by simp [he, hvc, hnew, hwait])), ?_, ?_, stallNoted_bit .., congrArg Tim.now (stallNoted_tim ..),
    stallNoted_logged _ _ _ _ he hvc, stallNoted_only .., (hregs.mono (List.nil_subset _)).trans (stallNoted_keepsRegs _ _ _ _)⟩
  · rw [stallNoted_stalled, hlog]
  · exact .of_bump hregs (stallNoted_keepsRegs_counted _ e vc (s.waiting e vc)) List.not_mem_nil (by decide)

/-- A wait that was counted is not counted again. -/
theorem exec_creditStall_counted (h : 8 * e + vc ∈ s.log.stalled) : exec (.creditStall e vc) s = .next s :=
  congrArg _ (if_neg (by simp [h]))
end

end Sys2Proof.Machine
end

section
/-! PROOFS. BPM_ENABLE_WRITE (R218, R220). -/

namespace Sys2Proof.Machine

section
variable {s : State} {path : Path} {die : Nat} {v : Word} (hdie : die < 2) (hmay : s.mayWrite path (aBPM_CTRL die) = true)

/-- BPM_CTRL and BPM_STATUS of a die are two registers. -/
theorem bpmCtrl_ne_status (die : Nat) : aBPM_CTRL die ≠ aBPM_STATUS die := by
  unfold aBPM_CTRL aBPM_STATUS
  omega

include hdie hmay

theorem exec_bpmEnableWrite : exec (.bpmEnableWrite path die v) s = .next (s.bpmEnable die v) :=
  congrArg _ (if_pos (by rw [hmay, decide_eq_true hdie]; rfl))

section
variable (hon : bitOf v.toNat 0 = true)
include hon

/-- A layout that passes R218 is enabled. -/
theorem bpmEnableWrite_enables (hoff : s.bit (aBPM_CTRL die) 0 = false) (hlayout : s.layoutOk die = true) :
    Answers (.bpmEnableWrite path die v) s fun t => t.bit (aBPM_CTRL die) 0 = true ∧ t.bit (aBPM_STATUS die) 1 = false ∧
      Only { regs := true } s t ∧ KeepsRegs [aBPM_CTRL die, aBPM_STATUS die] s t := by
  refine ⟨(s.setReg (aBPM_CTRL die) 1).setFld (aBPM_STATUS die) 1 1 0, (exec_bpmEnableWrite hdie hmay).trans ?_, ?_,
    setFld_bit _ _ (by decide) 0, ((Only.refl _ s).setReg ..).setFld ..,
    ((KeepsRegs.refl _ s).setReg _ (by simp)).setFld _ _ _ (by simp)⟩
  · simp [State.bpmEnable, hon, hoff, hlayout]
  · rw [bit_of_reg (setFld_reg _ _ _ _ _ (bpmCtrl_ne_status die)), State.bit, reg_setReg]
    decide

/-- One that does not is refused with the error bit. -/
theorem bpmEnableWrite_refused (hoff : s.bit (aBPM_CTRL die) 0 = false) (hlayout : s.layoutOk die = false) :
    Answers (.bpmEnableWrite path die v) s fun t => t.bit (aBPM_STATUS die) 1 = true ∧
      Only { regs := true } s t ∧ KeepsRegs [aBPM_STATUS die] s t := by
  refine ⟨s.setFld (aBPM_STATUS die) 1 1 1, (exec_bpmEnableWrite hdie hmay).trans ?_, setFld_bit _ _ (by decide) 1,
    (Only.refl _ s).setFld .., (KeepsRegs.refl _ s).setFld _ _ _ (by simp)⟩
  simp [State.bpmEnable, hon, hoff, hlayout]

/-- A BPM that is enabled stays as it is. -/
theorem exec_bpmEnableWrite_enabled (hwas : s.bit (aBPM_CTRL die) 0 = true) : exec (.bpmEnableWrite path die v) s = .next s := by
  rw [exec_bpmEnableWrite hdie hmay]
  simp [State.bpmEnable, hon, hwas]
end

section
variable (hoff : bitOf v.toNat 0 = false)
include hoff

/-- With forwarding off and no buffer held, a write of 0 takes the BPM out of service. -/
theorem bpmEnableWrite_disables (hfwd : s.bit aRTE_CTRL 0 = false) (hnone : s.noneHeld die = true) :
    Answers (.bpmEnableWrite path die v) s fun t => t.bit (aBPM_CTRL die) 0 = false ∧ t.bit (aBPM_STATUS die) 0 = false ∧
      t.rte = s.settleFrees.rte ∧ Only { regs := true, rte := true } s t ∧ KeepsRegs [aBPM_CTRL die, aBPM_STATUS die] s t := by
  refine ⟨(s.settleFrees.setReg (aBPM_CTRL die) 0).setFld (aBPM_STATUS die) 0 0 0, (exec_bpmEnableWrite hdie hmay).trans ?_, ?_,
    setFld_bit _ _ (by decide) 0, rfl, (((Only.refl _ s).step (State.settleFrees_mask s _ rfl)).setReg ..).setFld ..,
    KeepsRegs.setFld (KeepsRegs.setReg (fun o _ => settleFrees_reg s o) _ (by simp)) _ _ _ (by simp)⟩
  · simp [State.bpmEnable, hoff, hfwd, hnone]
  · rw [bit_of_reg (setFld_reg _ _ _ _ _ (bpmCtrl_ne_status die)), State.bit, reg_setReg]
    decide

/-- Otherwise the write is ignored, and its event says so. -/
theorem bpmEnableWrite_ignored (hbusy : s.bit aRTE_CTRL 0 = true ∨ s.noneHeld die = false) :
    Answers (.bpmEnableWrite path die v) s fun t => t.bit (aBPM_EVENT die) 0 = true ∧
      Only { regs := true, hif := true, out := true } s t ∧ KeepsRegs (blockRegs (aBPM_EVENT die)) s t := by
  refine ⟨s.bpmEvt die 0, (exec_bpmEnableWrite hdie hmay).trans ?_, ?_, (Only.refl _ s).evt .., evt_keepsRegs s 11 _ (by decide)⟩
  · obtain h | h := hbusy
    · simp [State.bpmEnable, hoff, h]
    · simp [State.bpmEnable, hoff, h]
  · rw [State.bpmEvt, evt_bit _ _ _ (by decide) (bpmEvent_not_pending hdie), decide_eq_true rfl, Bool.or_true]
end
end

end Sys2Proof.Machine
end

section
/-! PROOFS. BPM_RING_FILL_DONE and HANDLE_CACHE_REFILL (R219, R233). -/

namespace Sys2Proof.Machine

/-! ## The ring fill (R219) -/

/-- A pool with all its `n` handles free and none held. -/
def filledPool (n : Nat) : Pool := { ring := List.range n, caches := [], inUse := [], removed := [], bad := [], free := n }

/-- From `s` to `t` the first `n` pools of a die were filled, and nothing but pools changed. -/
structure PoolsFilled (s t : State) (die n : Nat) : Prop where
  pool   : ∀ k, k < n → t.pool die k = filledPool (s.poolCount die k)
  others : ∀ d k, 4 * d + k < 4 * die ∨ 4 * die + n ≤ 4 * d + k → t.pool d k = s.pool d k
  regs   : t.regs = s.regs
  owners : t.rte.owners = s.rte.owners

theorem poolsFilled_fold (s : State) (die n : Nat) :
    PoolsFilled s ((List.range n).foldl (fun u k => u.setPool die k (filledPool (u.poolCount die k))) s) die n := by
  induction n with
  | zero => exact ⟨fun k hk => absurd hk (Nat.not_lt_zero k), fun _ _ _ => rfl, rfl, rfl⟩
  | succ n ih =>
    rw [List.range_succ, List.foldl_append, List.foldl_cons, List.foldl_nil]
    generalize (List.range n).foldl _ s = u at ih ⊢
    have hcount : u.poolCount die n = s.poolCount die n := by
      rw [State.poolCount, State.fld, State.reg, ih.regs, State.poolCount, State.fld, State.reg]
    refine ⟨fun k hk => ?_, fun d k hdk => ?_, ih.regs, ih.owners⟩
    · by_cases hkn : k = n
      · rw [hkn, pool_setPool, hcount]
      · exact (pool_setPool_ne _ _ (by omega)).trans (ih.pool k (by omega))
    · exact (pool_setPool_ne _ _ (by omega)).trans (ih.others d k (by omega))

/-- A table whose entries were all changed alike, by what leaves the default of a key as it is. -/
theorem tblGet_map {α : Type} (d : Nat → α) (g : Nat → α → α) (hd : ∀ k, g k (d k) = d k) (t : List (Nat × α)) (k : Nat) :
    tblGet d (t.map fun e => (e.1, g e.1 e.2)) k = g k (tblGet d t k) := by
  induction t with
  | nil => exact (hd k).symm
  | cons e t ih =>
    simp only [List.map_cons, tblGet, ih]
    split
    · exact (hd k).symm
    · split
      next h => rw [h]
      next => rfl

/-- The holdings of an owner entry of the die filled cleared, at key `k` of the table. -/
def clearedOwner (die k : Nat) (o : Owner) : Owner := if k / 2048 = die then { o with hrsv := 0, hshr := 0 } else o

theorem clearedOwner_init (die k : Nat) : clearedOwner die k ownerInit = ownerInit := by
  unfold clearedOwner
  split <;> rfl

theorem ringFill_eq (s : State) (die : Nat) : ∃ u, PoolsFilled s u die 4 ∧ s.ringFill die =
    State.setFld { u with rte := { u.rte with
      owners := u.rte.owners.map fun e => (e.1, clearedOwner die e.1 e.2), frees := u.rte.frees.filter fun f => f.die != die } }
      (aBPM_STATUS die) 0 0 1 := by
  refine ⟨_, poolsFilled_fold s die 4, ?_⟩
  have hmap : ∀ l : List (Nat × Owner), (l.map fun e => if e.1 / 2048 = die then (e.1, { e.2 with hrsv := 0, hshr := 0 }) else e) =
      l.map fun e => (e.1, clearedOwner die e.1 e.2) := fun l => List.map_congr_left fun e _ => by
    unfold clearedOwner
    split <;> rfl
  unfold State.ringFill
  dsimp only
  rw [hmap]
  rfl

/-- What the end of the ring fill leaves. -/
theorem bpmRingFillDone_answers {s : State} {die : Nat} (hdie : die < 2) (hon : s.bit (aBPM_CTRL die) 0 = true)
    (hready : s.bpmReady die = false) : Answers (.bpmRingFillDone die) s fun t =>
      t.bpmReady die = true ∧ Only { regs := true, rte := true } s t ∧ KeepsRegs [aBPM_STATUS die] s t ∧
      (∀ k, k < 4 → t.pool die k = filledPool (s.poolCount die k)) ∧
      (∀ d k, k < 4 → d ≠ die → t.pool d k = s.pool d k) ∧
      (∀ i, i < 2048 → (t.owner die i).hrsv = 0 ∧ (t.owner die i).hshr = 0 ∧ (t.owner die i).rmin = (s.owner die i).rmin ∧
        (t.owner die i).smax = (s.owner die i).smax) := by
  obtain ⟨u, hfilled, hfill⟩ := ringFill_eq s die
  refine ⟨s.ringFill die, congrArg _ (if_pos (by simp [hdie, hon, hready])), ?_, State.ringFill_mask _ _ _ rfl rfl, ?_, ?_, ?_, ?_⟩
  · rw [hfill]
    exact setFld_bit _ _ (by decide) 1
  · rw [hfill]
    exact (keepsRegs_of_regs _ hfilled.regs).setFld _ _ _ (by simp)
  · rw [hfill]
    exact hfilled.pool
  · rw [hfill]
    exact fun d k hk hd => hfilled.others d k (by omega)
  · intro i hi
    have howner : (s.ringFill die).owner die i = { s.owner die i with hrsv := 0, hshr := 0 } := by
      calc (s.ringFill die).owner die i = clearedOwner die (2048 * die + i) (u.owner die i) := by
            rw [hfill]
            exact tblGet_map _ (clearedOwner die) (clearedOwner_init die) u.rte.owners (2048 * die + i)
        _ = { s.owner die i with hrsv := 0, hshr := 0 } := by
            rw [clearedOwner, if_pos (by omega), State.owner, hfilled.owners, State.owner]
    rw [howner]
    exact ⟨rfl, rfl, rfl, rfl⟩

/-! ## The refill of a cache (R233) -/

section
variable {s : State} {die k a : Nat}

/-- Handles at the ring head that may all be issued move into the cache in their order. -/
theorem refillCache_moves {fuel n : Nat} (hfuel : n ≤ fuel) (hlen : n ≤ (s.pool die k).ring.length)
    (hok : ∀ h ∈ (s.pool die k).ring.take n, handleOk (s.pool die k) h = true) :
    (∃ c, (s.refillCache die k a fuel n).pool die k = { s.pool die k with ring := (s.pool die k).ring.drop n, caches := c } ∧
      tblGet (fun _ => []) c a = tblGet (fun _ => []) (s.pool die k).caches a ++ (s.pool die k).ring.take n ∧
      ∀ b, b ≠ a → tblGet (fun _ => []) c b = tblGet (fun _ => []) (s.pool die k).caches b) ∧
      Only { rte := true } s (s.refillCache die k a fuel n) := by
  induction n generalizing s fuel with
  | zero =>
    have hnone : s.refillCache die k a fuel 0 = s := by cases fuel <;> rfl
    rw [hnone]
    exact ⟨⟨(s.pool die k).caches, rfl, (List.append_nil _).symm, fun _ _ => rfl⟩, .refl _ s⟩
  | succ n ih =>
    obtain ⟨fuel, rfl⟩ := Nat.exists_eq_add_one_of_ne_zero (Nat.ne_of_gt (Nat.lt_of_lt_of_le (Nat.succ_pos n) hfuel))
    generalize hp : s.pool die k = p at *
    obtain ⟨ring, caches, inUse, removed, bad, free⟩ := p
    cases ring with
    | nil => simp at hlen
    | cons h ring =>
      let q : Pool := ⟨ring, tblSet caches a (tblGet (fun _ => []) caches a ++ [h]), inUse, removed, bad, free⟩
      have hstep : s.refillCache die k a (fuel + 1) (n + 1) = (s.setPool die k q).refillCache die k a fuel n := by
        rw [State.refillCache, hp]
        exact if_pos (hok h (by simp))
      have hq : (s.setPool die k q).pool die k = q := pool_setPool ..
      obtain ⟨⟨c, hpool, hmine, hother⟩, honly⟩ := ih (s := s.setPool die k q) (fuel := fuel) (by omega)
        (by rw [hq]; simpa [q] using hlen) (by rw [hq]; exact fun x hx => hok x (by simpa using Or.inr hx))
      rw [hq] at hpool hmine hother
      rw [hstep]
      refine ⟨⟨c, hpool, ?_, fun b hb => ?_⟩, ((Only.refl _ s).step (State.setPool_mask _ _ _ _ _ rfl)).step honly⟩
      · rw [hmine, tblGet_tblSet_same]
        simp [q]
      · rw [hother b hb]
        exact tblGet_tblSet_ne _ _ _ hb

/-- With no free due the pools stand as they are (R227). -/
theorem settleFrees_of_no_frees (h : s.rte.frees = []) (die k : Nat) : s.settleFrees.pool die k = s.pool die k := by
  unfold State.settleFrees
  dsimp only
  rw [h]
  rfl

/-- A pool some of whose handles are now known to fail their parity. -/
def Pool.withBad (p : Pool) (bad : List Nat) : Pool :=
  { p with bad := p.bad ++ bad.filter fun h => p.ring.contains h || p.caches.any fun e => e.2.contains h }

theorem exec_handleCacheRefill (bad : List Nat) (hdie : die < 2) (ha : a < 16) (hk : k < 4) (hready : s.bpmReady die = true)
    (hfrees : s.rte.frees = []) {p : Pool} (hp : s.pool die k = p) : exec (.handleCacheRefill die a k bad) s = .next
      (if decide ((tblGet (fun _ => []) p.caches a).length < 8) && decide (8 ≤ p.ring.length) then
        (s.settleFrees.setPool die k (p.withBad bad)).refillCache die k a (p.ring.length + 1) 8
      else s.settleFrees.setPool die k (p.withBad bad)) := by
  refine congrArg _ ((if_pos (by simp [hdie, ha, hk, hready])).trans ?_)
  dsimp only
  rw [settleFrees_of_no_frees hfrees, hp]
  rfl

/-- A cache with room takes 8 handles that may be issued from the ring head, in their order. -/
theorem handleCacheRefill_moves (hdie : die < 2) (ha : a < 16) (hk : k < 4) (hready : s.bpmReady die = true)
    (hfrees : s.rte.frees = []) {p : Pool} (hp : s.pool die k = p) {mine : List Nat} (hmine : tblGet (fun _ => []) p.caches a = mine)
    (hroom : mine.length < 8) (hlen : 8 ≤ p.ring.length) (hok : ∀ h ∈ p.ring.take 8, handleOk p h = true) :
    Answers (.handleCacheRefill die a k []) s fun t =>
      (t.pool die k).ring = p.ring.drop 8 ∧ tblGet (fun _ => []) (t.pool die k).caches a = mine ++ p.ring.take 8 ∧
      (∀ b, b ≠ a → tblGet (fun _ => []) (t.pool die k).caches b = tblGet (fun _ => []) p.caches b) ∧
      (t.pool die k).free = p.free ∧ (t.pool die k).inUse = p.inUse ∧ Only { rte := true } s t := by
  have hbad : p.withBad [] = p := by
    rw [Pool.withBad, List.filter_nil, List.append_nil]
  have hpool : (s.settleFrees.setPool die k p).pool die k = p := pool_setPool ..
  have hexec := exec_handleCacheRefill [] hdie ha hk hready hfrees hp
  rw [hbad, hmine, if_pos (by simp [hroom, hlen])] at hexec
  obtain ⟨⟨c, hmoved, htaken, hother⟩, honly⟩ := refillCache_moves (s := s.settleFrees.setPool die k p)
    (die := die) (k := k) (a := a) (n := 8) (fuel := p.ring.length + 1) (by omega) (by rw [hpool]; exact hlen) (by rw [hpool]; exact hok)
  rw [hpool] at hmoved htaken hother
  refine ⟨_, hexec, ?_⟩
  dsimp only
  rw [hmoved]
  exact ⟨rfl, hmine ▸ htaken, hother, rfl, rfl,
    (((Only.refl _ s).step (State.settleFrees_mask s _ rfl)).step (State.setPool_mask _ _ _ _ _ rfl)).step honly⟩

/-- A cache without room, or a ring with fewer than 8 handles, leaves the pool but for the handles now known to be bad. -/
theorem handleCacheRefill_stands (hdie : die < 2) (ha : a < 16) (hk : k < 4) (hready : s.bpmReady die = true)
    (hfrees : s.rte.frees = []) {p : Pool} (hp : s.pool die k = p)
    (hfull : 8 ≤ (tblGet (fun _ => []) p.caches a).length ∨ p.ring.length < 8) (bad : List Nat) :
    Answers (.handleCacheRefill die a k bad) s fun t =>
      t.pool die k = { p with bad := (t.pool die k).bad } ∧ (∀ h ∈ (t.pool die k).bad, h ∈ p.bad ∨ h ∈ bad) ∧
      Only { rte := true } s t := by
  have hexec := exec_handleCacheRefill bad hdie ha hk hready hfrees hp
  rw [if_neg (by rw [Bool.and_eq_true, decide_eq_true_eq, decide_eq_true_eq]; omega)] at hexec
  refine ⟨_, hexec, ?_⟩
  dsimp only
  rw [pool_setPool]
  refine ⟨rfl, fun h hmem => ?_,
    ((Only.refl _ s).step (State.settleFrees_mask s _ rfl)).step (State.setPool_mask _ _ _ _ _ rfl)⟩
  exact (List.mem_append.mp hmem).imp_right fun hb => (List.mem_filter.mp hb).1
end

end Sys2Proof.Machine
end

section
/-! PROOFS. Credit packets, credit stalls and the buffer pools (R197, R198, R218–R220, R233, R655). -/

namespace Sys2Proof.Machine

/-- Settles O46, command by command. -/
theorem creditsAndPools : Obligations.CreditsAndPools := by
  intro s
  refine ⟨?_, ?_, ?_, ?_, ?_, ?_, ?_⟩
  · intro port sub time hsub hport e w u
    exact ⟨fun h4 h7 => creditSend_answers time hsub hport h4 h7 rfl rfl rfl, exec_creditSend_down time⟩
  · intro port sub rx hsub hport h4 h7 hver hkind hok hgood hlen e got old ahead_
    exact creditRx_answers hsub hport h4 h7 hver hkind hok hgood rfl hlen rfl rfl
  · intro e vc he hvc hnew hwait w
    exact creditStall_answers he hvc hnew hwait rfl
  · exact fun e vc h => exec_creditStall_counted h
  · intro path die v hdie hmay
    exact ⟨bpmEnableWrite_enables hdie hmay, bpmEnableWrite_refused hdie hmay, exec_bpmEnableWrite_enabled hdie hmay,
      bpmEnableWrite_disables hdie hmay, bpmEnableWrite_ignored hdie hmay⟩
  · exact fun die hdie hon hready => bpmRingFillDone_answers hdie hon hready
  · intro die a k hdie ha hk hready hfrees p mine
    exact ⟨handleCacheRefill_moves hdie ha hk hready hfrees rfl rfl, handleCacheRefill_stands hdie ha hk hready hfrees rfl⟩

end Sys2Proof.Machine
end

section
/-! SUPPORT. The launches and the count of free values take no part in an issue: time, events, memories and the fetch of an
instruction do the same whatever they are. So flags joined to a launch, and free values taken, may be counted before the issue. -/

namespace Sys2Proof.Machine

/-- The state with other launches and another count of free values. -/
def State.withCel (s : State) (x : Cel) (n : Nat) : State := { s with cel := x, free := n }

section
variable (s : State) (x : Cel) (n : Nat)

/-! ## Registers and events -/

theorem withCel_ite {p : Prop} [Decidable p] (a b : State) :
    (if p then a else b).withCel x n = if p then a.withCel x n else b.withCel x n :=
  apply_ite (fun t : State => t.withCel x n) p a b

theorem noteSet_withCel (ev b : Nat) : (s.withCel x n).noteSet ev b = (s.noteSet ev b).withCel x n := by
  rw [State.noteSet, State.noteSet, withCel_ite]
  rfl

theorem occur_withCel (o b : Nat) : (s.withCel x n).occur o b = (s.occur o b).withCel x n := rfl

theorem setW1c_withCel (ev b l : Nat) : (s.withCel x n).setW1c ev b l = (s.setW1c ev b l).withCel x n := by
  rw [State.setW1c, State.setW1c, withCel_ite, ← occur_withCel, ← noteSet_withCel]
  rfl

theorem raiseVec_withCel (f v : Nat) : (s.withCel x n).raiseVec f v = (s.raiseVec f v).withCel x n := by
  rw [State.raiseVec, State.raiseVec, withCel_ite]
  rfl

theorem fnEvt1_withCel (f b : Nat) : (s.withCel x n).fnEvt1 f b = (s.fnEvt1 f b).withCel x n := by
  rw [State.fnEvt1, State.fnEvt1, withCel_ite, ← noteSet_withCel, ← raiseVec_withCel, setW1c_withCel]
  rfl

theorem blockEvent_withCel (k : Nat) : (s.withCel x n).blockEvent k = (s.blockEvent k).withCel x n := by
  rw [State.blockEvent, State.blockEvent, withCel_ite, ← fnEvt1_withCel]
  rfl

theorem evt_withCel (k ev b : Nat) : (s.withCel x n).evt k ev b = (s.evt k ev b).withCel x n := by
  rw [State.evt, setW1c_withCel, blockEvent_withCel]
  rfl

/-! ## The fetch -/

theorem foldl_land_withCel (ws : List Write) : ws.foldl State.land (s.withCel x n) = (ws.foldl State.land s).withCel x n := by
  induction ws generalizing s with
  | nil => rfl
  | cons w ws ih => exact ih (s.land w)

theorem due_withCel : (s.withCel x n).due = s.due.withCel x n := by
  rw [State.due, State.due, withCel_ite, ← foldl_land_withCel]
  rfl

theorem softCount_withCel (k m : Nat) : (s.withCel x n).softCount k m = s.softCount k m := by
  rw [State.softCount, due_withCel]
  rfl

theorem correct_withCel (k m : Nat) : (s.withCel x n).correct k m = (s.correct k m).withCel x n := by
  unfold State.correct
  simp only [softCount_withCel, due_withCel, withCel_ite, ← evt_withCel]
  rfl

theorem toCyc_withCel (c : Nat) : (s.withCel x n).toCyc c = (s.toCyc c).withCel x n := by
  rw [State.toCyc, State.toCyc, State.advTo, State.advTo, withCel_ite]
  rfl

theorem fetched_withCel (cell c : Nat) : (s.withCel x n).fetched cell c = (s.fetched cell c).withCel x n := by
  rw [State.fetched, toCyc_withCel, correct_withCel]
  rfl

theorem issued_withCel (cell c : Nat) (i : Ins) : (s.withCel x n).issued cell c i = (s.issued cell c i).withCel x n := by
  rw [State.issued, fetched_withCel]
  rfl
end

/-! ## What an issue keeps, flags joined and free values taken -/

section
variable (s : State) (cell c : Nat) (i : Ins)

/-- An issue keeps the launches and the count of free values. -/
theorem issued_eq_withCel : s.issued cell c i = (s.issued cell c i).withCel s.cel s.free :=
  issued_withCel s s.cel s.free cell c i

theorem issued_cel : (s.issued cell c i).cel = s.cel := by
  rw [issued_eq_withCel]
  rfl

theorem issued_free : (s.issued cell c i).free = s.free := by
  rw [issued_eq_withCel]
  rfl

/-- The launches with flags joined to those of `r`. -/
def Cel.joined (x : Cel) (r : Run) (fl : Nat) : Cel :=
  match x.runs.find? fun q => q.id == r.id with
  | some q => { x with runs := x.runs.map fun p => if p.id = q.id then { q with flags := orF q.flags fl } else p }
  | none => x

theorem runFlags_eq_withCel (r : Run) (fl : Nat) :
    s.runFlags r fl = s.withCel (if fl = 0 then s.cel else s.cel.joined r fl) s.free := by
  by_cases hfl : fl = 0
  · rw [State.runFlags, if_pos hfl, if_pos hfl]
    rfl
  · rw [State.runFlags, if_neg hfl, if_neg hfl, State.runOf, Cel.joined]
    cases s.cel.runs.find? fun q => q.id == r.id <;> rfl

/-- Flags joined after an issue are flags joined before it. -/
theorem runFlags_issued (r : Run) (fl : Nat) : (s.issued cell c i).runFlags r fl = (s.runFlags r fl).issued cell c i := by
  rw [runFlags_eq_withCel, runFlags_eq_withCel, issued_withCel, issued_cel, issued_free]

@[simp] theorem runFlags_cell (r : Run) (fl k : Nat) : (s.runFlags r fl).cell k = s.cell k := by
  rw [runFlags_eq_withCel]
  rfl

theorem runFlags_zero (r : Run) : s.runFlags r 0 = s := if_pos rfl

/-- The state that has taken `n` free values. -/
def State.tookFree (s : State) (n : Nat) : State := { s with free := s.free + n }

/-- Free values taken after an issue are free values taken before it. -/
theorem tookFree_issued (n : Nat) : (s.issued cell c i).tookFree n = (s.tookFree n).issued cell c i :=
  calc (s.issued cell c i).tookFree n
    _ = (s.issued cell c i).withCel s.cel (s.free + n) := by rw [← issued_cel s cell c i, ← issued_free s cell c i]; rfl
    _ = (s.tookFree n).issued cell c i := (issued_withCel s s.cel (s.free + n) cell c i).symm

@[simp] theorem tookFree_cell (n k : Nat) : (s.tookFree n).cell k = s.cell k := rfl

/-! ## Going on with another cell -/

/-- Going on to the next instruction once the cell has been made `x`. -/
theorem step1_setCell_issued (x : Cell) :
    ((s.issued cell c i).setCell cell { x with last := tblSet x.last i.op c }).step1 cell c = s.retired cell c i x := by
  simp [State.step1, State.retired, State.issued]

/-- A write of a vector register's active lanes once the cell has been made `x`. -/
theorem wrVx_setCell_issued (x : Cell) (d l : Nat) (f : Nat → Nat) :
    ((s.issued cell c i).setCell cell { x with last := tblSet x.last i.op c }).wrVx cell c i d l f = s.retired cell c i
      { x with
        vx := x.vx.set d ((List.range 16).map fun j => if x.active i j then BitVec.ofNat 32 (f j) else x.vxw d j)
        avail := tblSet x.avail (vxR d) (c + l) } := by
  rw [← step1_setCell_issued, State.wrVx, cell_setCell, setCell_setCell]
  rfl
end

end Sys2Proof.Machine
end

section
/-! SUPPORT. Which lanes an unpredicated instruction acts on, the mask made of lane bits, and the free values VCVT takes. -/

namespace Sys2Proof.Machine

/-- An opcode that takes PRED = 0 only acts on every lane (R328). -/
theorem active_of_noPred {i : Ins} (hbad : i.bad = false) (hop : noPred i.op = true) (x : Cell) (j : Nat) : x.active i j = true := by
  have hpred : i.pred = 0 := by simpa [Ins.bad, hop] using (Bool.or_eq_false_iff.mp hbad).2
  simp [Cell.active, hpred]

/-! ## A mask of lane bits -/

/-- The mask register whose bit `j` is `f j`, for the lanes below `n`. -/
def maskOf (f : Nat → Bool) (n : Nat) : Nat := ((List.range n).map fun j => b2n (f j) * 2 ^ j).foldl (· + ·) 0

theorem maskOf_succ (f : Nat → Bool) (n : Nat) : maskOf f (n + 1) = 2 ^ n * b2n (f n) + maskOf f n := by
  simp [maskOf, List.range_succ, Nat.mul_comm, Nat.add_comm]

theorem maskOf_lt (f : Nat → Bool) (n : Nat) : maskOf f n < 2 ^ n := by
  induction n with
  | zero => exact Nat.one_pos
  | succ n ih =>
    rw [maskOf_succ, Nat.pow_succ]
    cases f n <;> simp [b2n] <;> omega

theorem maskOf_testBit (f : Nat → Bool) {n j : Nat} (hj : j < n) : (maskOf f n).testBit j = f j := by
  induction n with
  | zero => omega
  | succ n ih =>
    rw [maskOf_succ, Nat.testBit_two_pow_mul_add _ (maskOf_lt f n)]
    split
    · next h => exact ih h
    · next h =>
      obtain rfl : j = n := by omega
      cases hf : f j <;> simp [b2n]

/-! ## The lanes of VCVT -/

/-- `v` is the value and the flags of lane `j` of VCVT, any value where the spec states none (R325). -/
def CvtIs (x : Cell) (i : Ins) (j : Nat) (v : Nat × Nat) : Prop :=
  v.2 = (cvtLane x i j).2 ∧ ∀ w, (cvtLane x i j).1 = some w → v.1 = w

/-- One more lane of VCVT, which takes a free value where the spec states none. -/
def cvtStep (x : Cell) (i : Ins) (a : List (Nat × Nat) × State) (j : Nat) : List (Nat × Nat) × State :=
  match (cvtLane x i j).1 with
  | some w => (a.1 ++ [(w, (cvtLane x i j).2)], a.2)
  | none => (a.1 ++ [(a.2.freeWord.1.toNat, (cvtLane x i j).2)], a.2.freeWord.2)

/-- The lanes of VCVT, one after the other: each has its value, and a free value is taken only where the spec states none. -/
theorem foldl_cvtStep (x : Cell) (i : Ins) (js : List Nat) (vs : List (Nat × Nat)) (s : State) :
    ∃ ws n, js.foldl (cvtStep x i) (vs, s) = (vs ++ ws, s.tookFree n) ∧ List.Forall₂ (CvtIs x i) js ws ∧
      ((∀ j ∈ js, (cvtLane x i j).1 ≠ none) → n = 0) := by
  induction js generalizing vs s with
  | nil => exact ⟨[], 0, by simp; rfl, .nil, fun _ => rfl⟩
  | cons j js ih =>
    cases hj : (cvtLane x i j).1 with
    | some w =>
      obtain ⟨ws, n, hfold, hws, hn⟩ := ih (vs ++ [(w, (cvtLane x i j).2)]) s
      refine ⟨(w, (cvtLane x i j).2) :: ws, n, ?_, .cons ⟨rfl, fun w' h => ?_⟩ hws, fun h => hn fun k hk => h k (.tail _ hk)⟩
      · rw [List.foldl_cons, cvtStep, hj]
        exact hfold.trans (by rw [List.append_assoc]; rfl)
      · exact Option.some.inj (hj.symm.trans h)
    | none =>
      obtain ⟨ws, n, hfold, hws, -⟩ := ih (vs ++ [(s.freeWord.1.toNat, (cvtLane x i j).2)]) s.freeWord.2
      refine ⟨(s.freeWord.1.toNat, (cvtLane x i j).2) :: ws, 1 + n, ?_, .cons ⟨rfl, fun w h => ?_⟩ hws,
        fun h => absurd hj (h j (.head _))⟩
      · rw [List.foldl_cons, cvtStep, hj]
        refine hfold.trans ?_
        rw [List.append_assoc, State.tookFree, State.tookFree, ← Nat.add_assoc]
        rfl
      · exact absurd (hj.symm.trans h) (Option.some_ne_none w).symm

/-- What lists agree on place by place, they agree on at each lane. -/
theorem getD_of_forall₂_range {α : Type} {R : Nat → α → Prop} {n : Nat} {ws : List α} (h : List.Forall₂ R (List.range n) ws) (d : α)
    {j : Nat} (hj : j < n) : R j (ws.getD j d) := by
  have hlen : ws.length = n := h.length_eq.symm.trans List.length_range
  have hat := h.get (i := j) (by rwa [List.length_range]) (by rwa [hlen])
  rw [List.getD_eq_getElem _ _ (by rwa [hlen])]
  simpa using hat

end Sys2Proof.Machine
end

section
/-! PROOFS. VRSUM, VTSUM, VCMP, VCVT and VBSCALE: results, flags and faults (R286, R299–R301, R325–R328, R350). -/

namespace Sys2Proof.Machine

section
variable {s : State} {cell c : Nat} {i : Ins} {r : Run}

/-- A vector register written after flags have joined the launch's. -/
theorem wrVx_runFlags_issued (fl d l : Nat) (f : Nat → Nat) :
    ((s.issued cell c i).runFlags r fl).wrVx cell c i d l f = (s.runFlags r fl).retired cell c i
      { s.cell cell with
        vx := (s.cell cell).vx.set d ((List.range 16).map fun j =>
          if (s.cell cell).active i j then BitVec.ofNat 32 (f j) else (s.cell cell).vxw d j)
        avail := tblSet (s.cell cell).avail (vxR d) (c + l) } := by
  rw [runFlags_issued, wrVx_issued, runFlags_cell]

/-! ## VRSUM (R286) -/

theorem vrsum_illegal (h : Issues s cell i r [vxR i.a] c) (hop : i.op = 0x48) (hreg : vxOk [i.dst, i.a] = false) :
    exec (.vrsum cell) s = .next ((s.issued cell c i).cellFault cell 1 c) :=
  congrArg _ ((issue_of h (by simp [hop]) rfl).trans (if_pos (by simp [hreg])))

theorem vrsum_result (h : Issues s cell i r [vxR i.a] c) (hop : i.op = 0x48) (hreg : vxOk [i.dst, i.a] = true)
    {t : Nat × Nat} (ht : treeSum fadd 4 ((List.range 16).map fun j => ((s.cell cell).vxw i.a j).toNat) = t) :
    exec (.vrsum cell) s = .next ((s.runFlags r t.2).retired cell c i
      { s.cell cell with
        vx := (s.cell cell).vx.set i.dst (BitVec.ofNat 32 t.1 :: List.replicate 15 0)
        avail := tblSet (s.cell cell).avail (vxR i.dst) (c + 8) }) := by
  have hall := active_of_noPred h.good (by rw [hop]; rfl) (s.cell cell)
  have hlanes : ((s.issued cell c i).cell cell).lanes i.a = (List.range 16).map fun j => ((s.cell cell).vxw i.a j).toNat := by
    rw [issued_cell]; rfl
  refine congrArg _ ((issue_of h (by simp [hop]) rfl).trans ((if_neg (by simp [hreg])).trans ?_))
  dsimp only
  rw [hlanes, ht, wrVx_runFlags_issued]
  simp only [hall, if_true]
  rfl

/-! ## VTSUM (R301) -/

theorem vtsum_illegal (h : Issues s cell i r [vxR i.a, vxR i.dst, vxR (i.dst + 1)] c) (hop : i.op = 0x49)
    (hreg : vxOk [i.dst + 1, i.a] = false) : exec (.vtsum cell) s = .next ((s.issued cell c i).cellFault cell 1 c) :=
  congrArg _ ((issue_of h (by simp [hop]) rfl).trans (if_pos (by simp [hreg])))

theorem vtsum_result (h : Issues s cell i r [vxR i.a, vxR i.dst, vxR (i.dst + 1)] c) (hop : i.op = 0x49)
    (hreg : vxOk [i.dst + 1, i.a] = true) {f : Nat → Nat × Nat × Nat}
    (hf : (fun j => compStep ((s.cell cell).vxw i.dst j).toNat ((s.cell cell).vxw (i.dst + 1) j).toNat
      ((s.cell cell).vxw i.a j).toNat) = f) :
    exec (.vtsum cell) s = .next ((s.runFlags r ((s.cell cell).laneFlags i fun j => (f j).2.2)).retired cell c i
      { s.cell cell with
        vx := ((s.cell cell).vx.set (i.dst + 1) ((List.range 16).map fun j => BitVec.ofNat 32 (f j).2.1)).set i.dst
          ((List.range 16).map fun j => BitVec.ofNat 32 (f j).1)
        avail := tblSet (tblSet (s.cell cell).avail (vxR (i.dst + 1)) (c + 12)) (vxR i.dst) (c + 12) }) := by
  subst hf
  refine congrArg _ ((issue_of h (by simp [hop]) rfl).trans ((if_neg (by simp [hreg])).trans ?_))
  dsimp only
  rw [issued_cell, runFlags_issued]
  refine (wrVx_setCell_issued _ cell c i
    { s.cell cell with
      vx := (s.cell cell).vx.set (i.dst + 1) _
      avail := tblSet (s.cell cell).avail (vxR (i.dst + 1)) (c + 12) } _ _ _).trans ?_
  simp only [active_of_noPred h.good (by rw [hop]; rfl), if_true]
  rfl

/-! ## VCMP (R326) -/

theorem vcmp_illegal (h : Issues s cell i r [vxR i.a, vxR i.b] c) (hop : i.op = 0x58)
    (hbad : vxOk [i.a, i.b] = false ∨ 4 ≤ i.dst ∨ i.imm % 8 = 7) :
    exec (.vcmp cell) s = .next ((s.issued cell c i).cellFault cell 1 c) :=
  congrArg _ ((issue_of h (by simp [hop]) rfl).trans (if_pos (by simpa [or_assoc] using hbad)))

/-- Bit `j` of the mask register a VCMP writes. -/
def cmpBit (x : Cell) (i : Ins) (j : Nat) : Bool :=
  if x.active i j then cmpV (i.imm % 8) (decodeF fp32 (x.vxw i.a j).toNat) (decodeF fp32 (x.vxw i.b j).toNat)
  else (x.mask.getD i.dst 0).testBit j

theorem vcmp_result (h : Issues s cell i r [vxR i.a, vxR i.b] c) (hop : i.op = 0x58) (hreg : vxOk [i.a, i.b] = true)
    (hdst : i.dst < 4) (himm : i.imm % 8 ≠ 7) :
    exec (.vcmp cell) s = .next ((s.runFlags r ((s.cell cell).laneFlags i fun j =>
        nanFlag [decodeF fp32 ((s.cell cell).vxw i.a j).toNat, decodeF fp32 ((s.cell cell).vxw i.b j).toNat])).retired cell c i
      { s.cell cell with
        mask := (s.cell cell).mask.set i.dst (maskOf (cmpBit (s.cell cell) i) 16)
        avail := tblSet (s.cell cell).avail (mkR i.dst) (c + 2) }) := by
  have hok : ¬ (!vxOk [i.a, i.b] || decide (4 ≤ i.dst) || decide (i.imm % 8 = 7)) = true := by
    simp [hreg, hdst, himm]
  refine congrArg _ ((issue_of h (by simp [hop]) rfl).trans ((if_neg hok).trans ?_))
  dsimp only
  rw [issued_cell, runFlags_issued]
  exact step1_setCell_issued _ cell c i
    { s.cell cell with
      mask := (s.cell cell).mask.set i.dst (maskOf (cmpBit (s.cell cell) i) 16)
      avail := tblSet (s.cell cell).avail (mkR i.dst) (c + 2) }

/-! ## VCVT (R325, R327) -/

theorem vcvt_illegal
    (h : Issues s cell i r (vxR i.a :: (if blockFmt i.fmt || decide (i.rm = 1) then [sxR i.b] else []) ++ rndRegs i) c)
    (hop : i.op = 0x60) (hreg : vxOk [i.dst, i.a] = false) :
    exec (.vcvt cell) s = .next ((s.issued cell c i).cellFault cell 1 c) :=
  congrArg _ ((issue_of h (by simp [hop]) rfl).trans (if_pos (by simp [hreg])))

/-- What VCVT writes, from the lanes taken one after the other. -/
theorem exec_vcvt
    (h : Issues s cell i r (vxR i.a :: (if blockFmt i.fmt || decide (i.rm = 1) then [sxR i.b] else []) ++ rndRegs i) c)
    (hop : i.op = 0x60) (hreg : vxOk [i.dst, i.a] = true) {res : List (Nat × Nat) × State}
    (hres : (List.range 16).foldl (cvtStep ((s.issued cell c i).cell cell) i) ([], s.issued cell c i) = res) :
    exec (.vcvt cell) s = .next
      ((res.2.runFlags r (((s.issued cell c i).cell cell).laneFlags i fun j => (res.1.getD j (0, 0)).2)).wrVx cell c i i.dst 4
        fun j => (res.1.getD j (0, 0)).1) := by
  subst hres
  exact congrArg _ ((issue_of h (by simp [hop]) rfl).trans (if_neg (by simp [hreg])))

theorem vcvt_result
    (h : Issues s cell i r (vxR i.a :: (if blockFmt i.fmt || decide (i.rm = 1) then [sxR i.b] else []) ++ rndRegs i) c)
    (hop : i.op = 0x60) (hreg : vxOk [i.dst, i.a] = true) :
    ∃ (v : Nat → Nat × Nat) (n : Nat), (∀ j, j < 16 → CvtIs (s.cell cell) i j (v j)) ∧
      ((∀ j, j < 16 → (cvtLane (s.cell cell) i j).1 ≠ none) → n = 0) ∧
      exec (.vcvt cell) s = .next (((s.tookFree n).runFlags r ((s.cell cell).laneFlags i fun j => (v j).2)).retired cell c i
        { s.cell cell with
          vx := (s.cell cell).vx.set i.dst ((List.range 16).map fun j =>
            if (s.cell cell).active i j then BitVec.ofNat 32 (v j).1 else (s.cell cell).vxw i.dst j)
          avail := tblSet (s.cell cell).avail (vxR i.dst) (c + 4) }) := by
  obtain ⟨ws, n, hfold, hws, hn⟩ := foldl_cvtStep ((s.issued cell c i).cell cell) i (List.range 16) [] (s.issued cell c i)
  have hexec := exec_vcvt h hop hreg hfold
  rw [issued_cell] at hws hn hexec
  rw [tookFree_issued, wrVx_runFlags_issued] at hexec
  exact ⟨fun j => ws.getD j (0, 0), n, fun j hj => getD_of_forall₂_range hws _ hj,
    fun hsome => hn fun j hj => hsome j (List.mem_range.mp hj), hexec⟩

/-! ## VBSCALE (R299, R300) -/

theorem vxOk_singleton_succ (a : Nat) : vxOk [a + 1] = decide (a < 15) := by
  rw [vxOk, List.all_cons, List.all_nil, Bool.and_true]
  exact decide_eq_decide.mpr Nat.succ_lt_succ_iff

theorem vbscale_illegal (h : Issues s cell i r [vxR i.a, vxR (i.a + 1)] c) (hop : i.op = 0x61) (ha : 15 ≤ i.a) :
    exec (.vbscale cell) s = .next ((s.issued cell c i).cellFault cell 1 c) :=
  congrArg _ ((issue_of h (by simp [hop]) rfl).trans (if_pos (by simp [vxOk_singleton_succ, ha])))

/-- The 32 lanes a VBSCALE reads. -/
def scaleLanes (x : Cell) (i : Ins) : List Nat :=
  ((List.range 16).map fun j => (x.vxw i.a j).toNat) ++ (List.range 16).map fun j => (x.vxw (i.a + 1) j).toNat

/-- For a block format a VBSCALE writes the scale to its destination, once the flags have joined the launch's. -/
theorem exec_vbscale_of_block (h : Issues s cell i r [vxR i.a, vxR (i.a + 1)] c) (hop : i.op = 0x61) (ha : i.a < 15)
    {e : Int} (he : emaxOf i.fmt = some e) {b : Nat × Nat} (hb : blockScale e (scaleLanes (s.cell cell) i) = b) :
    exec (.vbscale cell) s = .next (((s.runFlags r b.2).issued cell c i).wrSx cell c i.dst b.1 6) := by
  refine congrArg _ ((issue_of h (by simp [hop]) rfl).trans ((if_neg (by simp [vxOk_singleton_succ, ha])).trans ?_))
  rw [← hb, ← runFlags_issued, he, issued_cell]
  rfl

/-- For another format a VBSCALE writes a free value to its destination. -/
theorem exec_vbscale_of_not_block (h : Issues s cell i r [vxR i.a, vxR (i.a + 1)] c) (hop : i.op = 0x61) (ha : i.a < 15)
    (he : emaxOf i.fmt = none) :
    exec (.vbscale cell) s = .next (((s.tookFree 1).issued cell c i).wrSx cell c i.dst (s.issued cell c i).freeWord.1.toNat 6) := by
  refine congrArg _ ((issue_of h (by simp [hop]) rfl).trans ((if_neg (by simp [vxOk_singleton_succ, ha])).trans ?_))
  rw [← tookFree_issued, he]
  rfl

/-- Whatever the format, a VBSCALE writes a value to its destination after flags and free values have been taken. -/
theorem exec_vbscale (h : Issues s cell i r [vxR i.a, vxR (i.a + 1)] c) (hop : i.op = 0x61) (ha : i.a < 15) :
    ∃ v fl n, (∀ e, emaxOf i.fmt = some e → fl = (blockScale e (scaleLanes (s.cell cell) i)).2 ∧ n = 0) ∧
      exec (.vbscale cell) s = .next ((((s.tookFree n).runFlags r fl).issued cell c i).wrSx cell c i.dst v 6) := by
  cases he : emaxOf i.fmt with
  | some e =>
    exact ⟨_, _, 0, fun e' h' => ⟨by rw [Option.some.inj h'], rfl⟩, exec_vbscale_of_block h hop ha he rfl⟩
  | none =>
    refine ⟨(s.issued cell c i).freeWord.1.toNat, 0, 1, fun e h' => absurd h'.symm (Option.some_ne_none e), ?_⟩
    rw [runFlags_zero]
    exact exec_vbscale_of_not_block h hop ha he
end

/-- Settles O32, instruction by instruction: an issue is `issue_of`, flags and free values count as if taken before it
(`runFlags_issued`, `tookFree_issued`), and the register is written as `wrVx_issued`, `step1_setCell_issued` and the lemmas on
`wrSx` say. -/
theorem reductionsAndConversions : Obligations.ReductionsAndConversions := by
  intro s cell i r c
  refine ⟨fun h hop => ⟨vrsum_illegal h hop, fun hreg => vrsum_result h hop hreg rfl⟩,
    fun h hop => ⟨vtsum_illegal h hop, fun hreg => vtsum_result h hop hreg rfl⟩,
    fun h hop => ⟨vcmp_illegal h hop, fun hreg hdst himm => ⟨maskOf (cmpBit (s.cell cell) i) 16, maskOf_lt _ 16,
      fun _ hj => maskOf_testBit _ hj, vcmp_result h hop hreg hdst himm⟩⟩,
    fun h hop => ⟨vcvt_illegal h hop, vcvt_result h hop⟩,
    fun h hop => ⟨vbscale_illegal h hop, fun ha hdst => ⟨fun e he => ?_, fun he => ?_⟩, fun ha => ?_⟩⟩
  · exact (exec_vbscale_of_block h hop ha he rfl).trans (by rw [wrSx_issued _ _ _ _ _ _ _ hdst, runFlags_cell]; rfl)
  · exact ⟨_, (exec_vbscale_of_not_block h hop ha he).trans (congrArg _ (wrSx_issued _ _ _ _ _ _ _ hdst))⟩
  · obtain ⟨v, fl, n, hfl, hexec⟩ := exec_vbscale h hop ha
    refine ⟨fl, n, hfl, fun hzero => ?_, fun hro => ?_⟩
    · rw [hzero, wrSx_zero, runFlags_cell] at hexec
      exact hexec
    · rwa [wrSx_readOnly _ _ _ _ _ _ hro] at hexec

end Sys2Proof.Machine
end
